-- ==== Sys2Proof/Word.lean ====
section
/-! DEFINITION. The plain words the manual counts in: bytes, 32-bit register words, nanoseconds of the module clock. -/

namespace Sys2Proof

/-- One byte of an object, a frame or a register (R7). -/
abbrev Byte := BitVec 8

/-- A run of bytes, first byte first. -/
abbrev Bytes := List Byte

/-- A 32-bit register word (R7). -/
abbrev Word := BitVec 32

/-- A count of nanoseconds of the module's own clock, which never steps. -/
abbrev Ns := Nat

end Sys2Proof
end

