-- ==== Sys2Proof/Types.lean ====
section
/-! DEFINITION. The small types that commands and state share: islands, ports, channel modes, who a request comes
from, what a physical sample holds. Names and codes are those of the manual. -/

namespace Sys2Proof

/-- The islands, in the state-map order of R37. -/
inductive Isl where
  | hif | svc | prg | ctl | mot | saf | rng | tim | recorder | disp | aon
deriving DecidableEq, Repr

/-- The crossing error codes, in the order of R18. -/
inductive CrossCode where
  | stalled | timeout | reset | domainOff
deriving DecidableEq, Repr

/-- The three ring ports (R319). -/
inductive Port where
  | a | b | l
deriving DecidableEq, Repr

/-- The channel modes of R51. -/
inductive ChanMode where
  | unconfigured | di1 | di3 | dout | pulse | aoSource | aoSink | ai2w | aiExt | sdi | sdo
deriving DecidableEq, Repr

/-- The owner codes of R20. -/
inductive Owner where
  | none | prg | ctl | mot | saf | ring
deriving DecidableEq, Repr

/-- Roles, with the codes of R527. -/
inductive Role where
  | controller | pairA | pairB | iostation | referee | branch
deriving DecidableEq, Repr

/-- Master identities, with the codes of R450. -/
inductive Ident where
  | none | host | svc | prg0 | prg1 | ctl | mot | rng | partner | saf
deriving DecidableEq, Repr

/-- Domain states, with the codes of MB_DOM_STATE (R459). -/
inductive Dom where
  | off | sleep | on
deriving DecidableEq, Repr

/-- Where a request comes from, so that its completion finds its way back (R354, R364, R432, R447). -/
inductive Origin where
  /-- the host descriptor with this serial number, which holds a tag or has an abort report to come -/
  | host (id : Nat)
  /-- a tunnel REQUEST: source node and TID -/
  | tunnel (src : Nat) (tid : BitVec 16)
  /-- forwarded by the lead in a BARRIER, with the number of the write -/
  | partner (id : Nat)
  /-- asked for by the module itself -/
  | self
deriving DecidableEq, Repr

/-- What one island hands to another through a crossing (R16, R22). -/
inductive Transfer where
  /-- an output value for a channel, from the island that sends it: switch state, engineering value, FAIL_SIG -/
  | output (ch : Fin 128) (on : Bool) (value : Rat) (failSig : Bool)
  /-- a mailbox firmware word or any other transfer whose content the manual does not give -/
  | other (tag : Nat)
deriving DecidableEq, Repr

/-- A physical sample of one channel cell at a tick boundary: what its stages and detectors show (R57 to R62, R84). -/
structure CellSample where
  /-- current into terminal A, 2 nA units -/
  meas : BitVec 24
  /-- voltage at terminal A, mV -/
  termV : BitVec 16
  /-- output stage current, 50 µA units -/
  iout : BitVec 16
  /-- junction temperature, offset -55 °C -/
  temp : BitVec 8
  /-- input edges since the last boundary: offset in 25 ns units and direction, in order -/
  edges : List (BitVec 11 × Bool)
  /-- slot of a foreign test pulse seen, 0xFF for none -/
  pulseSeen : BitVec 8
  /-- HART receive field (R116) -/
  hartRx : BitVec 16
deriving DecidableEq, Repr

/-- A physical sample of one group at a tick boundary (R69, R82). -/
structure GroupSample where
  /-- L+ against M, 10 mV units -/
  lplusV : BitVec 16
  /-- temperature of the front-end chip, offset -55 °C -/
  temp : BitVec 8
deriving DecidableEq, Repr

/-- One thing a running task does to data memory or to a stateful instance (R128, R142 to R144). -/
inductive PrgAct where
  | store (addr : Nat) (data : Bytes)
  | ton (key : BitVec 64) (input : Bool) (pt : Int)
  | tof (key : BitVec 64) (input : Bool) (pt : Int)
  | tp (key : BitVec 64) (input : Bool) (pt : Int)
  | rTrig (key : BitVec 64) (input : Bool)
  | fTrig (key : BitVec 64) (input : Bool)
  | count (key : BitVec 64) (up down reset : Bool)
deriving DecidableEq, Repr

/-- One act of CYCLE_LONG: a write to a SHARED variable, a mailbox post, or a request to STOP (R149). -/
inductive LongAct where
  | store (addr : Nat) (data : Bytes)
  | post (n : Fin 32) (data : List Word)
  | stop
deriving DecidableEq, Repr

/-- One output a task writes, released as R28, R133 and R139 say. -/
inductive PrgWrite where
  | channel (ch : Fin 128) (on : Bool) (value : Option Rat) (failSig : Bool)
  | remote (station : Nat) (word : Nat) (value : Word)
  | loop (obj : Bytes)
  | axis (obj : Bytes)
  | mailbox (n : Fin 32) (data : List Word)
  | hart (obj : Bytes)
deriving DecidableEq, Repr

/-- One END of a Broluma or PTP frame as the wire carries it: EtherType, payload after it, FCS verdict (R324, R328). -/
structure WireFrame where
  /-- bytes from destination MAC to FCS -/
  length : Nat
  etherType : BitVec 16
  /-- header, payload and PCRC of a Broluma frame, or the PTP message -/
  bytes : Bytes
  fcsGood : Bool
deriving DecidableEq, Repr

/-- Which heartbeats are lost: a member's peer, or a sender of a pair that a referee holds (R372). -/
inductive HbSender where
  | partner | ref1 | ref2
  /-- at a referee: held pair, member A, member B, or the other referee -/
  | heldA (pair : Fin 8) | heldB (pair : Fin 8) | heldRef (pair : Fin 8)
deriving DecidableEq, Repr

/-- A timeout under the tie rule (R42). -/
inductive Timeout where
  | station (index : Nat)
  | ioStation
  | mailbox (n : Fin 32)
  | discrepancy (sf : Fin 48) (pair : Fin 4)
  | safetyFrame (conn : Fin 32)
  | heartbeat (who : HbSender)
deriving DecidableEq, Repr

/-- The Sepia records the rules call for, by the rule that names their content (R476, R477). -/
inductive RecKind where
  | resetRelease | selftest | health | fwStaged | fwActivated | fwFallback | ledgerTest | ledgerMargin | ledgerWarn
  | tmrFix | tmrFatal | mordantSet | rvChanged | testCtlFound | testCtlCleared
  | channelDiag | groupSupply | groupDisc | groupReconfig | silentExit | reclassify
  | refFault | calInterval | calClass
  | programHalt | cycleSlip | programStaged | carryDetail | programSwitch | imageLost
  | loopConfig | overrideConfig | loopMode | loopHandover | loopPvBad | noCandidate | loopSlip | tuneStart | tuneEnd
  | axisConfig | tableLoad | axisTracking | axisFault | axisReversal | softLimit | limitOverrun | limitApplied | axisSlip
  | posUnverified
  | sfState | resetPress | resetHeld | resetRefused | connState | safetyConfig | safetyConfirm | tmRaise | islandFault
  | pstExceeded
  | linkChange | ringState | stationState | stationReturn | tunnelTimeout | addressAdopted | ringConfig | stationConfig
  | imageMap | branchConfig | ioWatchdog | liveReturn
  | memberState | grant | deny | peerLoss | peerReturn | pairMismatch | joinStart | joinEnd | joinTimeout | drill
  | reversion | noReferee | revertLimit
  | ringTimeState | timeStep | gmChange | shipStep | shipRefused | slewStart | slewEnd
  | hifReset | queueEnable | queueFault | eventsDiscarded
  | bindChange | domainChange | withdrawal | ackExpired
  | recordsDropped | recorderRecovery | storeLost | storeSaveFailed | powerFail | sectorRetired | storeEqualSeq
  | saveWithinBudget
  | redrive | dispSupply
  | islandStall
  /-- a record of vendor firmware or of an island whose content the manual does not give -/
  | other (type : BitVec 16)
deriving DecidableEq, Repr

/-- A host write or an outcome that a BARRIER carries (R364, R368, R378). -/
structure FwdWrite where
  /-- number of the write -/
  id : Nat
  /-- the descriptor, and its DATA object -/
  desc : Bytes
  obj : Bytes
deriving DecidableEq, Repr

/-- A mailbox event carried to the partner (R462). -/
inductive MbEvent where
  | post (n : Fin 32) (data : List Word) (stamp : Int)
  | take (n : Fin 32) (stamp : Int)
  | withdraw (n : Fin 32) (ok : Bool)
  /-- the post found no mirrored binding (R458) -/
  | refuse (n : Fin 32)
deriving DecidableEq, Repr

/-- One local channel of a member as its BARRIER carries it (R364, R365). -/
structure LocalImage where
  input : Bool
  meas : BitVec 24
  quality : BitVec 2
deriving DecidableEq, Repr

/-- The expiry of an acknowledgement deadline (R466): the mailbox, and the stamps of the frames still in reception (R41). -/
structure AckDue where
  box : Fin 32
  receiving : List Ns
deriving DecidableEq, Repr

/-- The content of a BARRIER (R364). -/
structure BarrierMsg where
  cycle : Nat
  /-- sent while no program cycles -/
  idle : Bool
  /-- send stamp, ring time -/
  stamp : Int
  outputCrc : BitVec 32
  newestBus : Nat
  /-- per enabled station: index, CRC over the image of newestBus and over that of the one before -/
  crcs : List (Nat × BitVec 32 × BitVec 32)
  locals : List (Fin 128 × LocalImage)
  events : List (Fin 128 × Bool × Int × Nat)
  /-- posts to mailboxes of PRG1: mailbox, post stamp and message -/
  posts : List (Fin 32 × Int × List Word)
  revertReq : Bool
  fromLead : Bool
  writes : List FwdWrite
  /-- outcomes reached since the last BARRIER: number of the write, disposition and status -/
  outcomes : List (Nat × BitVec 4 × BitVec 16)
  /-- the lead's tunnel retry decisions: TIDs sent again -/
  retries : List (BitVec 16)
  mailbox : List MbEvent
  /-- SHIP_TIME_SET with SOURCE PPS: value and the edge stamp, or no edge (R401) -/
  pps : Option (Nat × Option Int)
  /-- the member's program has halted, and the code of its cause (R366) -/
  halted : Option (Fin 5)
  /-- the member has armed the pending switch (R177) -/
  armed : Bool
  /-- what the member's CYCLE_LONG wrote since its last BARRIER (R366) -/
  longActs : List LongAct
deriving DecidableEq, Repr

/-- A PTP message, field by field (R394 to R396). -/
structure PtpMsg where
  domain : BitVec 8
  twoStep : Bool
  /-- correctionField in ns -/
  correction : Rat
  source : BitVec 80
  seq : BitVec 16
  /-- originTimestamp in ns (R408) -/
  origin : Int
deriving DecidableEq, Repr

/-- The data set an Announce carries (R395). -/
structure GmData where
  priority1 : BitVec 8
  clockClass : BitVec 8
  accuracy : BitVec 8
  variance : BitVec 16
  priority2 : BitVec 8
  identity : BitVec 64
  stepsRemoved : BitVec 16
deriving DecidableEq, Repr

/-- A record of the shadow as its RECORD frame carries it (R379, R482). -/
structure PartnerRec where
  source : Isl
  kind : RecKind
  items : List Int
  opSeconds : Nat
  powerCycles : Nat
  shipTime : Option Int
deriving DecidableEq, Repr

/-- Levels sampled when module reset ends (R571, R575). -/
structure Straps where
  pairId : BitVec 3
  failDirHigh : Bool
  /-- X1.069 high: factory test mode -/
  testMode : Bool
deriving DecidableEq, Repr

/-- The self-test outcomes of R524, true for passed. -/
structure SelfTest where
  svcSram : Bool
  oscillator : Bool
  memories : Bool
  /-- loopback of the crossing into each island, in the order of R37 -/
  crossings : List Bool
  prgSram : Bool
  safMemory : Bool
  /-- lanes that failed their test frame -/
  badLanes : List (Fin 128)
  badGroupLanes : List (Fin 8)
  badPorts : List Port
deriving DecidableEq, Repr

/-- A hold-up test: voltage at the start, mean voltage and fall, in V (R536). -/
structure HoldupMeas where
  vStart : Rat
  vMean : Rat
  dV : Rat
deriving DecidableEq, Repr

/-- The three test controls of SAFE_EN (R553). -/
inductive TestCtl where
  | trim | suppress | loopback
deriving DecidableEq, Repr

/-- One upset of a stored copy: register offset, copy 0 to 2, value found in it (R549). -/
structure Upset where
  offset : Nat
  copy : Fin 3
  value : Word
deriving DecidableEq, Repr

end Sys2Proof
end

