-- ==== Sys2Proof/Config.lean ====
section
/-! DEFINITION. What one module is built with, and the values the manual leaves open. Every constant here is opaque: no
proof can use a value of it. -/

namespace Sys2Proof.Config

/-- Factory MAC addresses of ports A, B and L (R563); their values are fixed when the module is built. -/
opaque factoryMac : Fin 3 → BitVec 48

/-- A free value of `w` bits, drawn by the state's counter (log 7). -/
opaque freeValue (w : Nat) : Nat → BitVec w

/-- Free numbers of one draw of the state's counter, by their place. -/
opaque freeItem : Nat → Nat → Nat

/-- A free rational, drawn by the state's counter. -/
opaque freeRat : Nat → Rat

/-- The item byte of a record TYPE where no rule gives it (R476, R477). -/
opaque recItem : RecKind → BitVec 8

/-- Tag and value length in bytes of the items of a record, by their position (R476: the firmware's dictionary gives them). -/
opaque recTag : RecKind → Nat → BitVec 16
opaque recItemLen : RecKind → Nat → Nat

/-- The firmware's record dictionary (R614). -/
opaque dictionary : Bytes

/-- Where in its range of R598 a threshold of this module lies, in mV above the least value. -/
opaque thresholdSpread : Nat → Nat

/-- Rising threshold of DI1 in mV: 11.0 to 15.0 V (R598). -/
def riseDi1 : Nat := 11000 + thresholdSpread 0 % 4001

/-- Rising threshold of DI3 and SDI in mV: 8.0 to 11.0 V (R598). -/
def riseDi3 : Nat := 8000 + thresholdSpread 1 % 3001

/-- Falling threshold in mV under a rising one: 5.0 V to the rising threshold less 0.5 V (R598). -/
def fall (rise : Nat) : Nat := 5000 + thresholdSpread 2 % (rise - 5500 + 1)

/-- Damping of the second-order 25 Hz low-pass of R101, which the manual does not give. -/
opaque hartDamping : Rat

/-- The four public keys for firmware images in the boot ROM (R532). -/
opaque vendorKeys : Fin 4 → Vector Word 8

/-- The firmware image the module leaves the factory with, in both firmware slots (R532, R612). -/
opaque factoryFw : Bytes

/-- Identity values fixed when the module is built (R543, R620): whether it is an HPS-128-X, revisions, serial number. -/
opaque isX : Bool
opaque gfeRev : BitVec 8
opaque hwMajor : BitVec 8
opaque hwMinor : BitVec 8
opaque serialRaw : BitVec 64

/-- SERIAL is never 0 (R620). -/
def serial : BitVec 64 := if serialRaw = 0 then 1 else serialRaw

/-- Number of tasks of each kind that a TASK_TABLE holds, in the order of R127: START, MAIN, STATION_FAULT, CYCLE_LONG,
EVENT, PRE_SWITCH, POST_SWITCH (its format is Yalulo's own, R167). -/
opaque taskCount : Bytes → Fin 7 → Nat

/-- The EVENT tasks of a TASK_TABLE: priority, whether the trigger is a mailbox post, and the channel or mailbox. -/
opaque eventTasks : Bytes → List (Fin 16 × Bool × Nat)

/-- The local channels an IO_MAP reads and writes, and the stations it names (R127). -/
opaque ioReads : Bytes → List (Fin 128)
opaque ioWrites : Bytes → List (Fin 128)
opaque ioStations : Bytes → List Nat

/-- The keys of the variables that tasks on both cores write (R134): CODE, TASK_TABLE, whose formats are Yalulo's own. -/
opaque writtenByBoth : Bytes → Bytes → List (BitVec 64)

/-- Name, unit and method of a ledger quantity, ASCII (R538). -/
opaque ledgerText : Fin 9 → Fin 3 → Bytes

/-- The bytes that encode what a configuration bank holds beside its entries (R490). -/
opaque encodeRegs : List Nat → Bytes

end Sys2Proof.Config
end

