-- ==== Sys2Proof/Machine/StateField.lean ====
section
/-! DEFINITION. State of islands, crossings, channels, groups, calibration, HART and characteristics (chapters 1 to 3). -/

namespace Sys2Proof.Machine

/-! ### Islands and crossings (01_architecture.md) -/

/-- Completion codes: DISPOSITION of R433 and STATUS of R435. -/
structure Outcome where
  disp : BitVec 4
  status : BitVec 16 := 0
  result : Bytes := []
  /-- RESULT_LEN where it is not the number of bytes written (RESULT_TOO_SMALL, R431) -/
  needed : Option Nat := none
deriving DecidableEq, Repr

/-- What one island is doing. -/
inductive IslState where
  /-- ready and serviced -/
  | running
  /-- stalled (R17), awaiting the reset of R521 -/
  | stalled
  /-- held in reset, not yet ready (R17, R19) -/
  | inReset
deriving DecidableEq, Repr

/-- One island (R14, R17, R19, R31, object 0x02). -/
structure Island where
  state : IslState := .running
  /-- the code of the last stall, while stalled (R18) -/
  code : Option CrossCode := none
  /-- clock time at which the watchdog was last serviced (R14) -/
  serviced : Ns := 0
  /-- clock time since which the island sleeps, its watchdog suspended (R451) -/
  asleep : Option Ns := none
  stalls : Nat := 0
  resets : Nat := 0
  /-- clock time of the last stall -/
  lastStall : Option Ns := none
  /-- last error code of R18 and its ring-time stamp (R531) -/
  lastCode : Option CrossCode := none
  lastStamp : Int := 0
  /-- the drop counter of this source in the record intake (R31) -/
  drops : Nat := 0
deriving DecidableEq, Repr

/-- A crossing request that its destination has not yet accepted (R16, R17). -/
structure Crossing where
  src : Isl
  dst : Isl
  since : Ns
  payload : Transfer
deriving DecidableEq, Repr

/-! ### Channels and groups (02_universal_channels.md, 03_current_loops_hart.md) -/

/-- The owner's demand of an output channel, one view for every mode (R24, R54, R64, R107). -/
structure Demand where
  /-- the owner has written since the channel was configured -/
  written : Bool := false
  /-- DO, SDO: commanded on -/
  on : Bool := false
  /-- AO: engineering value -/
  eng : Rat := 0
  /-- AO: FAIL_SIG (R99) -/
  failSig : Bool := false
  /-- PULSE: level at the start of the following tick -/
  level : Bool := false
  /-- PULSE: edge times of the following tick, 25 ns units -/
  edges : List (BitVec 11) := []
deriving DecidableEq, Repr

/-- What the field side keeps at a terminal. -/
structure FieldOut where
  /-- DO, SDO: switch commanded on -/
  on : Bool := false
  /-- AO: current code (R86) -/
  code : BitVec 16 := 0
  /-- AO: FAIL_SIG in force at the cell (R87) -/
  failSig : Bool := false
  /-- PULSE: level -/
  level : Bool := false
deriving DecidableEq, Repr

/-- One channel cell on the field side (R43 to R76, R89 to R94). -/
structure Cell where
  /-- mode the cell works in; UNCONFIGURED without a configuration (R45, R51) -/
  mode : ChanMode := .unconfigured
  epoch : BitVec 6 := 0
  /-- SEQ of the last accepted output frame (R47) -/
  lastSeq : BitVec 8 := 0
  /-- clock time of the last accepted output frame (R71) -/
  lastAccept : Ns := 0
  /-- clock time of the last frame accepted for the output, OWNER_LOST frames left out (R26, R71) -/
  lastOutAccept : Ns := 0
  /-- in the silent state (R71) -/
  silent : Bool := true
  silentSince : Ns := 0
  /-- SEQ of the first of the two consecutive frames of R74 -/
  exitCand : Option (BitVec 8) := none
  /-- ticks for which SILENT_HOLD is still set after leaving silence (R74) -/
  silentTail : Nat := 0
  /-- substituted after the hold limit (R72) -/
  holdSubst : Bool := false
  /-- an output frame was accepted since the last tick (R64) -/
  gotFrame : Bool := false
  /-- output at the terminal -/
  out : FieldOut := {}
  /-- PULSE edges scheduled for the following tick (R64) -/
  sched : List (BitVec 11) := []
  /-- PULSE edges emitted in the last tick (R64) -/
  emitted : List (BitVec 11) := []
  /-- thermal limit in °C and overload derating that the last accepted group lane frame brought (R30, R93, R534) -/
  tLim : Nat := 150
  derate : Rat := 1
  /-- transmit buffer of the modem, at most four characters, each with TX_LAST (R116) -/
  tx : List (Byte × Bool) := []
  /-- end of the character on the wire, and the character that starts in this tick (R116) -/
  txUntil : Option Ns := none
  txNow : Option Byte := none
  /-- OFF_PULSE and PULSE_T accepted for the following tick (R65) -/
  offPulse : Option (BitVec 11) := none
  /-- start of the off-pulse being emitted -/
  offPulseAt : Option Ns := none
  /-- unfiltered and filtered input state (R57) -/
  raw : Bool := false
  input : Bool := false
  outRb : Bool := false
  /-- consecutive latches at which RAW differed from INPUT (R57) -/
  filterRun : Nat := 0
  /-- last latched measurements -/
  meas : BitVec 24 := 0
  termV : BitVec 16 := 0
  iout : BitVec 16 := 0
  temp : BitVec 8 := 0
  pulseSeen : BitVec 8 := 0xFF
  hartRx : BitVec 16 := 0
  edges : List (BitVec 11 × Bool) := []
  /-- the cell's own diagnostics, DIAG[13:0] (R81) -/
  diag : BitVec 14 := 0
  /-- since when MEAS is below 0.35 mA, and at or above 0.45 mA (R58) -/
  wbSince : Option Ns := none
  wbClearSince : Option Ns := none
  /-- commanded on with IOUT below 1 mA since (R62) -/
  openSince : Option Ns := none
  /-- end of the 10 ms inrush window (R61) -/
  inrushUntil : Option Ns := none
  /-- IOUT above the threshold since (R61) -/
  overSince : Option Ns := none
  /-- switched on since (R61) -/
  onSince : Option Ns := none
  /-- off by trip, shed or thermal limit (R61, R63, R94) -/
  tripped : Bool := false
  trips : Nat := 0
  /-- clock time of the retry (R61) -/
  retryAt : Option Ns := none
  /-- three retries failed: off until commanded off and on (R61) -/
  lockedOff : Bool := false
  /-- R618: switched off on the field side without a command, and an off frame seen since -/
  fieldOff : Bool := false
  sawOff : Bool := false
  /-- AO_SOURCE buck output in mV (R89) -/
  buck : Nat := 0
  /-- AO: a raised demand waiting for the buck: code, FAIL_SIG and buck target in mV (R90) -/
  waiting : Option (BitVec 16 × Bool × Nat) := none
  /-- AO: current limit in units of 0.4 µA (R91, R93) -/
  limit : Nat := 62500
  /-- AO: clock time of the last raise of the limit (R93) -/
  limitRaised : Ns := 0
  /-- AO: output at demand and cool since (R93) -/
  coolSince : Option Ns := none
  /-- AO: output trim in units of 0.4 µA (R92) -/
  trim : Int := 0
deriving DecidableEq, Repr

/-- Supply states of a group, in the order of R82 and R613. -/
inductive Supply where
  | ok | low | off | high | unknown
deriving DecidableEq, Repr

/-- What opened a group disconnect switch (R44, R50, R73, R82). -/
inductive DiscCause where
  | none
  /-- open by command, for this safety function -/
  | safety (sf : Option (Fin 48))
  | fieldReadback
deriving DecidableEq, Repr

/-- A GROUP_CONFIG in progress (R76 to R79). -/
structure GroupChange where
  org : Origin
  obj : Bytes
  newEpoch : BitVec 6
  accepted : Ns
  /-- next chunk to send, 35 when all are sent -/
  next : Nat := 0
  /-- the second transfer is running (R79) -/
  resent : Bool := false
  /-- CFG_COMMIT has been applied -/
  committed : Bool := false
deriving DecidableEq, Repr

/-- The field side of one group: its group controller (R43 to R50, R63, R69, R77). -/
structure GroupCtl where
  /-- the configuration object held, 544 bytes; lost only where both supplies are absent (R45) -/
  cfg : Option Bytes := none
  epoch : BitVec 6 := 0
  lastSeq : BitVec 8 := 0
  lastAccept : Ns := 0
  silent : Bool := true
  silentSince : Ns := 0
  exitCand : Option (BitVec 8) := none
  silentTail : Nat := 0
  silentCount : Nat := 0
  /-- disconnect switch: 0b00 closed, 0b01 by command, 0b10 by the field side (R46) -/
  disc : BitVec 2 := 0
  /-- partial configuration object, chunk by chunk (R77) -/
  chunks : List (Nat × Bytes) := []
  chunkAck : BitVec 6 := 0
  /-- last L+ sample (10 mV), group current (1 mA), temperature code -/
  lplusV : BitVec 16 := 0
  groupI : BitVec 16 := 0
  temp : BitVec 8 := 0
  /-- per-tick current samples of the sliding 1 s window: sum and count (R63) -/
  window : List Nat := []
  /-- supply state the controller reports (R69) -/
  supply : Supply := .off
  lowSince : Option Ns := none
  offRun : Nat := 0
  highRun : Nat := 0
  recoverSince : Option Ns := none
  /-- GROUP_OVERLOAD (R63) and load shedding in progress -/
  overload : Bool := false
  /-- channels that left the silent state in this tick with the ns they spent in it; 128 for the group controller (R83) -/
  exited : List (Nat × Nat) := []
  shedding : Bool := false
deriving DecidableEq, Repr

/-- One sample as the lane hub publishes it (R48, R59, R80). -/
structure Sample where
  input : Bool := false
  raw : Bool := false
  outRb : Bool := false
  meas : BitVec 24 := 0
  termV : BitVec 16 := 0
  iout : BitVec 16 := 0
  temp : BitVec 8 := 0
  stamp : Int := 0
deriving DecidableEq, Repr

/-- Quality codes of R59. -/
inductive Quality where
  | good | stale | bad
deriving DecidableEq, Repr

/-- Accuracy classes of R115. -/
inductive AccClass where
  | a | b | c | uncal
deriving DecidableEq, Repr

/-- Calibration of a channel (R112 to R115). -/
structure Cal where
  gain : Rat := 1
  offset : Rat := 0
  stamp : Option Int := none
  /-- interval in seconds, 900 to 28,800 -/
  interval : Nat := 28800
  nextDue : Ns := 28800000000000
  cls : AccClass := .a
  refFault : Bool := false
  /-- consecutive good checks with REF_FAULT set (R113) -/
  goodRun : Nat := 0
  /-- consecutive checks below a quarter of the budget (R114) -/
  quarterRun : Nat := 0
  /-- checks have stayed within a better class since, and the worst class they showed (R115) -/
  betterSince : Option Ns := none
  better : AccClass := .a
  /-- a check is running since (R112) -/
  running : Option Ns := none
deriving DecidableEq, Repr

/-- One channel on the logic side: lane hub and owner (R20 to R26, R48, R49, R57 to R81, R101 to R108, R125). -/
structure Chan where
  demand : Demand := {}
  sample : Sample := {}
  quality : Quality := .bad
  /-- consecutive republished, bad or missing, and good input frames (R48) -/
  staleRun : Nat := 0
  badRun : Nat := 0
  goodRun : Nat := 0
  /-- frames counted on this lane, and the numbers of the bad ones among the last 2^20 (R49) -/
  winFrames : Nat := 0
  badAt : List Nat := []
  laneBadIn : Nat := 0
  laneBadOut : Nat := 0
  /-- SEQ of the output frame sent last, and the one the next input frame should echo (R47) -/
  sent : Option (BitVec 8) := none
  expectEcho : Option (BitVec 8) := none
  diag : BitVec 32 := 0
  diagLatch : BitVec 32 := 0
  crossPartner : BitVec 8 := 0xFF
  edgeTotal : Nat := 0
  /-- stamp of the latch at which INPUT last changed (R291, R317) -/
  inputStamp : Int := 0
  /-- HOLD_REQ set until the owner writes (R75) -/
  holdReq : Bool := false
  /-- SAF override (R23) and PERMIT with its refresh stamp (R279) -/
  safOff : Bool := false
  permit : Bool := false
  permitStamp : Ns := 0
  /-- mode or owner changed: off until the new owner writes (R78) -/
  fresh : Bool := false
  /-- mode or owner changed in the change under way (R77) -/
  swapped : Bool := false
  /-- output values finished after the cut-off of their tick, with the instant they were done: on, value, FAIL_SIG (R27) -/
  late : List (Ns × Bool × Option Rat × Bool) := []
  /-- PSTOP substitute in force (R150) -/
  pstopSubst : Bool := false
  /-- station substitute in force for a RING-owned output (R347) -/
  ringSubst : Bool := false
  /-- demand in force at the last change and the clock time its readback is due (R67) -/
  rbOn : Bool := false
  rbDue : Option Ns := none
  /-- SHORT_TO_LPLUS set since; OUT_RB reads 0 since (R68) -/
  shortSince : Option Ns := none
  rbLowSince : Option Ns := none
  /-- the next output frame carries OFF_PULSE (R65) -/
  pulseReq : Bool := false
  /-- the own off-pulse of this round was seen on the own readback (R65 to R68) -/
  pulseSeenOwn : Bool := false
  /-- the partner's slot was seen in this round (R68) -/
  crossSeen : Bool := false
  /-- the output frame built for the next tick, and the one sent in this tick (R27) -/
  frame : BitVec 256 := 0
  /-- AO/AI (R101 to R108, R125) -/
  filt : Option Rat := none
  /-- memory of the 25 Hz low-pass: output and its rate (R101) -/
  lp : Option (Rat × Rat) := none
  filtStamp : Int := 0
  engValue : Rat := 0
  lastGoodValue : Option Rat := none
  /-- in a failure band since, outside both since (R103) -/
  bandSince : Option Ns := none
  outsideSince : Option Ns := none
  cutActive : Bool := false
  clamped : Bool := false
  badDemand : Nat := 0
  actual : Rat := 0
  outCode : BitVec 16 := 0
  outFail : Bool := false
  /-- signed shortfall in 0.4 µA units (R96, R125) -/
  shortfall : Int := 0
  /-- sample stamps since which the shortfall is above 0.1 mA, at or below 0.05 mA (R96) -/
  shortfallSince : Option Int := none
  shortfallOkSince : Option Int := none
  /-- last output change of R90: COMPLIANCE is not raised for 2 ms (R97) -/
  outChanged : Option Ns := none
  cal : Cal := {}
deriving DecidableEq, Repr

/-- HART modem states (R124). -/
inductive HartState where
  | disabled | idle | waitGap | tx | waitResp | rx
deriving DecidableEq, Repr

/-- A HART request, waiting or on the wire (R118 to R121). -/
structure HartReq where
  org : Origin
  obj : Bytes
  attempts : Nat := 0
  /-- an attempt drew a response that was bad (R121) -/
  drewBad : Bool := false
deriving DecidableEq, Repr

/-- A stored burst frame (R123). -/
structure Burst where
  cmd : BitVec 8
  stamp : Int
  bytes : Bytes
deriving DecidableEq, Repr

/-- The HART object of a channel (R116 to R124). -/
structure Hart where
  state : HartState := .disabled
  waiting : List HartReq := []
  active : Option HartReq := none
  /-- CARRIER_DETECT, and since when it is clear (R117) -/
  carrier : Bool := false
  clearSince : Ns := 0
  /-- characters of the message not yet handed to the cell, the first of them still to come, and frames to leave out before the
  next one (R116) -/
  txQueue : Bytes := []
  txFirst : Bool := false
  txGap : Nat := 0
  /-- TX_READY and TX_ACTIVE of the last input frame (R116) -/
  txReady : Bool := false
  txActive : Bool := false
  /-- end of the last transmitted character (R117) -/
  txEnd : Option Ns := none
  /-- a received character since then had a parity or framing error (R116, R121) -/
  rxErr : Bool := false
  bursting : Bool := false
  lastBurst : Option Int := none
  lastBurstAt : Ns := 0
  bursts : List Burst := []
  requests : Nat := 0
  done : Nat := 0
  refused : Nat := 0
  noResponse : Nat := 0
  badFrame : Nat := 0
  retries : Nat := 0
  stored : Nat := 0
  burstsBad : Nat := 0
deriving DecidableEq, Repr

/-- One group on the logic side (R50, R76 to R82). -/
structure Group where
  /-- GROUP_CONFIG object in force, 544 bytes, none while unconfigured (R82) -/
  cfg : Option Bytes := none
  epoch : BitVec 6 := 0
  change : Option GroupChange := none
  /-- group output frame built for the next tick, and its SEQ -/
  frame : BitVec 256 := 0
  /-- consecutive bad and good group input frames (R50) -/
  badRun : Nat := 0
  goodRun : Nat := 0
  /-- frames counted on the group lane, the numbers of the bad ones among the last 2^20, and whether it was over the threshold
  before (R49) -/
  winFrames : Nat := 0
  badAt : List Nat := []
  degraded : Bool := false
  /-- SEQ of the group output frame sent last, and the one the next group input frame should echo (R47) -/
  sent : Option (BitVec 8) := none
  expectEcho : Option (BitVec 8) := none
  laneFailed : Bool := false
  supply : Supply := .unknown
  lplusV : BitVec 16 := 0
  groupI : BitVec 16 := 0
  groupAvg : Nat := 0
  disc : BitVec 2 := 0
  cause : DiscCause := .none
  /-- SAF's disconnect command (R44) and the safety function it is for -/
  discCmd : Bool := false
  discFor : Option (Fin 48) := none
  gfeTemp : BitVec 8 := 0
  cfgCrc : BitVec 32 := 0
  cfgHeld : Bool := false
  overload : Bool := false
  silentSeen : Bool := false
  lastChunkAck : BitVec 6 := 0
  /-- the group's outputs stay at substitute after a failed transfer (R79) -/
  stuckSubst : Bool := false
  /-- the group receives lane frames (R525) -/
  served : Bool := true
deriving DecidableEq, Repr

/-- One characteristic table (R109, R126). -/
structure CharTab where
  obj : Bytes
  stamp : Int
deriving DecidableEq, Repr

end Sys2Proof.Machine
end

