-- ==== Sys2Proof/Machine/StateControl.lean ====
section
/-! DEFINITION. State of the control engine and of motion (chapters 6 and 7). -/

namespace Sys2Proof.Machine

/-! ### Closed-loop control engine (06_control_engine.md) -/

/-- Loop modes (R211, R215). -/
inductive LoopMode where
  | manual | auto | cascade | track
deriving DecidableEq, Repr

/-- A released write to a loop's commanded fields (R216). -/
structure LoopWrite where
  /-- clock time of release -/
  stamp : Ns
  /-- the program's write, not the host's -/
  fromPrg : Bool
  obj : Bytes
  /-- origin of a host LOOP_COMMAND -/
  org : Option Origin := none
deriving DecidableEq, Repr

/-- Causes that end a tuning test, in the order of R235. -/
inductive TuneCause where
  | guard | badPv | modeChange | slip | stop
deriving DecidableEq, Repr

/-- One loop block (R198 to R224, R228 to R236). -/
structure Loop where
  /-- LOOP_CONFIG object in force; the loop is enabled exactly when present -/
  cfg : Option Bytes := none
  /-- phase in force in ticks (R218) -/
  phase : Nat := 0
  pending : Option (Origin × Bytes × Nat) := none
  mode : LoopMode := .manual
  lastRequested : LoopMode := .manual
  spLocal : Rat := 0
  outMan : Rat := 0
  trkValue : Rat := 0
  pvExt : Rat := 0
  pvExtQual : BitVec 2 := 0b10
  failSig : Bool := false
  /-- cascade set-point: present and previous outer output and the grid tick of the present one (R222) -/
  cascY : Rat := 0
  cascPrev : Rat := 0
  cascTick : Nat := 0
  /-- set-point in force -/
  sp : Rat := 0
  pv : Rat := 0
  pvQual : Quality := .bad
  pvStamp : Int := 0
  e : Rat := 0
  p : Rat := 0
  i : Rat := 0
  d : Rat := 0
  ratio : Rat := 1
  ff : Rat := 0
  v : Rat := 0
  u : Rat := 0
  /-- mode demand d of R207 -/
  dem : Rat := 0
  a : Rat := 0
  erf : Rat := 0
  /-- memories of the previous sample (R207) -/
  edPrev : Rat := 0
  erfPrev : Rat := 0
  vPrev : Rat := 0
  ratioPrev : Rat := 1
  lastStart : Option Ns := none
  /-- grid point last sampled, and the end of that sample (R227, R229) -/
  lastPoint : Option Nat := none
  lastEnd : Ns := 0
  /-- the next sample is the first after enabling, CTL reset or slip (R208, R213) -/
  fresh : Bool := true
  /-- the integrator is to be back-calculated at the next sample that computes (R213) -/
  backPending : Bool := false
  enabling : Bool := false
  reparam : Bool := false
  handingOver : Bool := false
  pvBad : Bool := false
  notSelected : Bool := false
  /-- output source changed since the last sample (R219) -/
  srcChanged : Bool := false
  satHi : Bool := false
  satLo : Bool := false
  frozenUp : Bool := false
  frozenDown : Bool := false
  outLimited : Bool := false
  rateLimited : Bool := false
  ffHold : Bool := false
  erfBad : Bool := false
  pvStale : Bool := false
  slipFlag : Bool := false
  samples : Nat := 0
  late : Nat := 0
  catchUps : Nat := 0
  slips : Nat := 0
  badWrite : Nat := 0
  foreignWrites : Nat := 0
  handovers : Nat := 0
  lastDt : Nat := 0
  lastExec : Nat := 0
  maxExec : Nat := 0
  /-- grid ticks still owed, oldest first (R229), and the grid tick of the first late sample (R230) -/
  owed : List Nat := []
  firstLate : Option Nat := none
  /-- released writes not yet applied (R216) -/
  writes : List LoopWrite := []
deriving DecidableEq, Repr

/-- One override group (R225 to R227, R237). -/
structure Override where
  cfg : Option Bytes := none
  selected : Option (Fin 64) := none
  handingOver : Bool := false
  noCandidate : Bool := false
  /-- candidates with their demands at the last group sample -/
  cands : List (Fin 64 × Rat) := []
  a : Rat := 0
  erf : Rat := 0
  changes : Nat := 0
  handovers : Nat := 0
  foreignWrites : Nat := 0
  lastStart : Option Ns := none
deriving DecidableEq, Repr

/-- The tuning test and the capture buffer (R232 to R235, R444). -/
structure Tune where
  running : Option (Origin × Bytes) := none
  loop : Fin 64 := 0
  /-- clock time and grid point of the first test sample (R231, R233) -/
  t0 : Option Ns := none
  tick0 : Nat := 0
  lfsr : Nat := 0
  prbsSample : Nat := 0
  prbsBits : Nat := 0
  inject : Rat := 0
  sampleCount : Nat := 0
  captured : Nat := 0
  /-- captured bytes in the format of R234 -/
  buffer : Bytes := []
  everRun : Bool := false
  abort : Option TuneCause := none
  stopReq : Bool := false
  endStamp : Int := 0
deriving DecidableEq, Repr

/-! ### Motion (07_motion.md) -/

/-- Axis states, in the order of R273. -/
inductive AxisState where
  | disabled | standstill | moving | table | stopping | quickStop | tracking | fault
deriving DecidableEq, Repr

/-- One piece of a plan: constant jerk from a start state for a duration in ns (R248). -/
structure Piece where
  p : Rat
  v : Rat
  a : Rat
  j : Rat
  /-- duration in seconds -/
  dur : Rat
  /-- the piece belongs to a deceleration phase (R249) -/
  decel : Bool := false
deriving DecidableEq, Repr

/-- A plan: pieces from a start instant, and the state kept after them (R248). -/
structure Plan where
  /-- clock time, ns, at which the first piece starts -/
  start : Rat := 0
  pieces : List Piece := []
  /-- position held after the last piece -/
  final : Rat := 0
deriving DecidableEq, Repr

/-- The four limits of a motion (R245, R250). -/
structure Limits where
  v : Rat := 0
  a : Rat := 0
  d : Rat := 0
  j : Rat := 0
deriving DecidableEq, Repr

/-- Limits held pending, field by field (R250). -/
structure PendLimits where
  v : Option Rat := none
  a : Option Rat := none
  d : Option Rat := none
  j : Option Rat := none
deriving DecidableEq, Repr

/-- Causes of AXIS_NOTIFY, in the order of R440. -/
inductive NotifyCause where
  | arrived | stopped | replaced | sto | softLimit | fault
deriving DecidableEq, Repr

/-- A released AXIS_COMMAND (R245, R246). -/
structure AxisCmd where
  stamp : Ns
  fromPrg : Bool
  obj : Bytes
  org : Option Origin := none
deriving DecidableEq, Repr

/-- A segment table being run (R257, R258). -/
structure TableRun where
  index : Fin 256
  /-- clock time of knot 0 of this pass and the knot the pass started at -/
  start : Rat
  from_ : Nat
  /-- shift added to every POS of the pass -/
  shift : Rat
  pass : Nat
deriving DecidableEq, Repr

/-- Servo feedback and set-point state (R265 to R270, R273). -/
structure Servo where
  actPos : Rat := 0
  actStamp : BitVec 32 := 0
  prevPos : Rat := 0
  prevStamp : BitVec 32 := 0
  seqEcho : BitVec 16 := 0
  status : BitVec 16 := 0
  qualBad : Bool := true
  /-- a feedback record arrived since the last sample -/
  fresh : Bool := false
  feRun : Nat := 0
  followErr : Rat := 0
  seq : BitVec 16 := 0
  offset : Rat := 0
  /-- last set-point record written, 32 bytes -/
  record : Bytes := []
  enable : Bool := false
deriving DecidableEq, Repr

/-- Step output state (R259 to R264, R273). -/
structure Step where
  /-- rung 0 to 3: 1, 4, 16, 64 units per step -/
  rung : Fin 4 := 0
  /-- rung change decided, taken at the next full-step position -/
  rungWant : Fin 4 := 0
  elec : Int := 0
  /-- commanded position at ELEC 0 (R247, R260) -/
  origin : Rat := 0
  debt : Int := 0
  debtSince : Option Ns := none
  missed : Nat := 0
  delayed : Nat := 0
  rungChanges : Nat := 0
  /-- end of the last step pulse, 25 ns units of the clock -/
  lastFall : Int := 0
  /-- earliest start of the next step after a DIR or MS change -/
  notBefore : Int := 0
  dirNeg : Bool := false
  /-- DIR and MS edges pending, and the rung whose levels the MS lines show before theirs (R261, R262) -/
  dirEdge : Option Int := none
  msEdge : Option Int := none
  msShown : Fin 4 := 0
  /-- signed steps scheduled in the frames of the last two ticks, oldest first (R264) -/
  sched : List Int := []
deriving DecidableEq, Repr

/-- One axis (R239 to R275). -/
structure Axis where
  cfg : Option Bytes := none
  phase : Nat := 0
  pendCfg : Option (Origin × Bytes × Nat) := none
  state : AxisState := .disabled
  pos : Rat := 0
  vel : Rat := 0
  acc : Rat := 0
  jerk : Rat := 0
  stamp : Int := 0
  plan : Plan := {}
  target : Rat := 0
  ps : Rat := 0
  limits : Limits := {}
  pend : PendLimits := {}
  limitPending : Bool := false
  reversing : Bool := false
  /-- end instant of the reversing part -/
  reverseEnd : Rat := 0
  softLimit : Bool := false
  limitOverrun : Bool := false
  posUnverified : Bool := false
  followingError : Bool := false
  driveLost : Bool := false
  slipFlag : Bool := false
  /-- the axis goes to FAULT when the quick stop ends (R253, R264) -/
  faultAtRest : Bool := false
  sto : Bool := false
  notify : Option (BitVec 16) := none
  run : Option TableRun := none
  step : Step := {}
  servo : Servo := {}
  cmds : List AxisCmd := []
  lastSeq : BitVec 16 := 0
  lastFromPrg : Bool := false
  lastResult : BitVec 16 := 0
  lastExec : Nat := 0
  maxExec : Nat := 0
  samples : Nat := 0
  late : Nat := 0
  catchUps : Nat := 0
  slips : Nat := 0
  owed : List Nat := []
  firstLate : Option Nat := none
  /-- grid point last sampled -/
  lastPoint : Option Nat := none
  rejected : Nat := 0
  foreignWrites : Nat := 0
  trackings : Nat := 0
  reversals : Nat := 0
deriving DecidableEq, Repr

/-- One knot of a segment table (R254). -/
structure Knot where
  time : Nat
  pos : Rat
  vel : Rat
deriving DecidableEq, Repr

/-- A loaded segment table (R254, R256, R274). -/
structure SegTable where
  /-- header and entries as loaded -/
  obj : Bytes
deriving DecidableEq, Repr

end Sys2Proof.Machine
end

