-- ==== Sys2Proof/Machine/StateSafety.lean ====
section
/-! DEFINITION. State of the Vermilion safety island (chapter 8). -/

namespace Sys2Proof.Machine

/-! ### The Vermilion safety island (08_safety.md) -/

/-- Function states, in the order of R289. -/
inductive SfState where
  | disabled | waitStartTest | waitReset | run | demand | locked | islandFault
deriving DecidableEq, Repr

/-- Lock-out causes, in the order of R299, with the channel, pair, connection or group concerned. -/
inductive SfCause where
  | discrepancy (pair : Fin 4) (follower : Fin 64)
  | inputFault (ch : Fin 64)
  | outputStuck (group : Fin 8)
  | outputLost (ch : Fin 64)
  | stoFeedback
  | commLost (conn : Fin 32)
  | supply (group : Fin 8)
  | groupOff (group : Fin 8)
deriving DecidableEq, Repr

/-- Internal failure classes that enter ISLAND_FAULT (R278, R304, R314, R315). -/
inductive SafFault where
  | compare | clock | frameDisagree | reference | memory | supply | stall
deriving DecidableEq, Repr

/-- Dynamic state of one input pair of a function (R291 to R295). -/
structure SfPair where
  aDemand : Bool := false
  bDemand : Bool := false
  /-- stamp at which the running disagreement started, and the channel that moved first -/
  disStart : Option Int := none
  firstIsA : Bool := true
  /-- START_TEST: 0 not begun, 1 both in demand seen, 2 done -/
  test : Nat := 0
  /-- removal of a DISCREPANCY: 0 not begun, 1 both in demand seen (R293) -/
  rejoin : Nat := 0
  /-- not yet read by an active function (R292) -/
  fresh : Bool := true
  /-- the present agreement was reached within t_d (R293, R295) -/
  agreedInTime : Bool := true
deriving DecidableEq, Repr

/-- The reset button of a function (R296 to R298). -/
structure Button where
  /-- INPUT at 0 since this stamp, if it has been seen at 0 -/
  zeroSince : Option Int := none
  pressStart : Option Int := none
  /-- the button had been at 0 for 100 ms before the press -/
  settled : Bool := false
  heldLogged : Bool := false
  lastDurUs : Nat := 0
  lastResult : Nat := 0
  held : Nat := 0
  short : Nat := 0
  refused : Nat := 0
deriving DecidableEq, Repr

/-- Re-close test of a group (R300, R615, R617). -/
inductive Reclose where
  | idle
  /-- DISC_OPEN being set before its release (R615) -/
  | opening
  /-- the check is due at the clock time (R300) -/
  | checking (due : Ns)
  /-- failed with no function to reset it: DISC_OPEN stays set (R615) -/
  | failed
deriving DecidableEq, Repr

/-- One safety function (R284, R289 to R301, R316). -/
structure SafFn where
  state : SfState := .disabled
  causes : List SfCause := []
  /-- the latched cause with its stamp, until a reset is accepted (R289) -/
  latched : Option (SfCause × Int) := none
  pairs : Vector SfPair 4 := Vector.replicate 4 {}
  demandFromRun : Bool := false
  button : Button := {}
  /-- outputs turned off at, for FB_TIME; feedback agrees since (R299) -/
  offSince : Option Ns := none
  fbReached : Bool := false
  fbSince : Option Ns := none
  /-- outputs commanded on at the last release -/
  outCmd : Bool := false
  tRus : Nat := 0
  pstExceeded : Bool := false
  demands : Nat := 0
  lockouts : Vector Nat 8 := Vector.replicate 8 0
  resets : Nat := 0
deriving DecidableEq, Repr

/-- Connection states, in the order of R307. -/
inductive ConnState where
  | waiting | active | lost
deriving DecidableEq, Repr

/-- One safety connection (R283, R302 to R309, R317). -/
structure SafConn where
  state : ConnState := .waiting
  seqLast : Option (BitVec 16) := none
  /-- a candidate is held (R304) -/
  candidate : Bool := false
  candIngress : Ns := 0
  /-- STATE and VALID of the last accepted frame, with the change stamp of each STATE bit -/
  stateBits : BitVec 16 := 0
  validBits : BitVec 16 := 0
  changeStamps : Vector Int 16 := Vector.replicate 16 0
  lastIngress : Option Ns := none
  crcErr : Nat := 0
  seqErr : Nat := 0
  repeats : Nat := 0
  expiries : Nat := 0
  /-- producer: next SEQ, last STATE released (R302, R306) -/
  prodSeq : BitVec 16 := 0
  prodState : BitVec 16 := 0
  prodFrame : Bytes := []
  /-- the frame in the container sent last (R350) -/
  carried : Bytes := []
  /-- released and not yet in a container, since (R306, R350) -/
  prodAt : Option Ns := none
deriving DecidableEq, Repr

/-- What SAF keeps of a safety channel between cycles. -/
structure SafChan where
  input : Bool := false
  faulted : Bool := true
  stamp : Int := 0
  /-- the connection of a remote channel is WAITING: in demand, not faulted (R307) -/
  waiting : Bool := false
  /-- free of fault since -/
  freeSince : Option Ns := none
deriving DecidableEq, Repr

/-- Commands of a safety cycle that wait for their release (R276): due on the module's clock, channels on and overridden,
functions whose outputs are on, the disconnect command of each group and the function it is for. -/
structure SafCmd where
  due : Ns
  on : List Nat
  ovr : List Nat
  run : List (Fin 48)
  discs : Vector Bool 8
  discFor : Vector (Option (Fin 48)) 8
deriving DecidableEq, Repr

/-- The Vermilion island (R276 to R318). -/
structure Saf where
  /-- the confirmed configuration in force and the pending one (R281, R288) -/
  cfg : Option Bytes := none
  pendingCfg : Option Bytes := none
  /-- a confirmation takes effect at the next safety cycle (R288) -/
  activate : Option (Origin × Bytes) := none
  /-- the first cycle of a configuration is due (R615) -/
  firstCycle : Bool := false
  fault : Option SafFault := none
  cycle : Nat := 0
  /-- CLOCK_FAULT history of the last ten cycles, per SAF channel (R277) -/
  historyA : List Bool := []
  historyB : List Bool := []
  clockFaultA : Bool := false
  clockFaultB : Bool := false
  fns : Vector SafFn 48 := Vector.replicate 48 {}
  conns : Vector SafConn 32 := Vector.replicate 32 {}
  chans : Vector SafChan 64 := Vector.replicate 64 {}
  unknownConn : Nat := 0
  /-- T_M in µs (R312) -/
  tMus : Nat := 0
  /-- a raise of T_M is due at the next safety cycle (R312) -/
  tMraise : Option Nat := none
  /-- re-close of a group opened by the field side without a function, due (R615) -/
  groupReclose : Vector Reclose 8 := Vector.replicate 8 .idle
  /-- groups whose disconnect SAF opened for OUTPUT_STUCK, with the function, and for LPLUS_HIGH (R299) -/
  stuckBy : Vector (Option (Fin 48)) 8 := Vector.replicate 8 none
  /-- the functions whose accepted reset runs the re-close test of a group (R300) -/
  testFor : Vector (List (Fin 48)) 8 := Vector.replicate 8 []
  /-- the group has been LPLUS_OK or LPLUS_LOW since (R299) -/
  supplySince : Vector (Option Ns) 8 := Vector.replicate 8 none
  highOpen : Vector Bool 8 := Vector.replicate 8 false
  /-- R617: the off-pulse round whose end closes the grace of a group, and the flags ignored until then: channel, and true
  for CROSS_FAULT, false for OFF_PULSE_FAIL -/
  grace : Vector (Option Nat) 8 := Vector.replicate 8 none
  ignored : List (Fin 128 × Bool) := []
  /-- commands of the last cycle not yet released (R276) -/
  release : Option SafCmd := none
deriving DecidableEq, Repr

end Sys2Proof.Machine
end

