-- ==== Sys2Proof/Machine/StateProgram.lean ====
section
/-! DEFINITION. State of the program engine and of program exchange (chapters 4 and 5). -/

namespace Sys2Proof.Machine

/-! ### Program execution and exchange (04_program_execution.md, 05_online_exchange.md) -/

/-- Program states, in the order of R152. -/
inductive PrgState where
  | stopped | starting | isochronous | running | switching | halted
deriving DecidableEq, Repr

/-- Halt causes, in the order of R151. -/
inductive HaltCause where
  | watchdog | trap | ecc | eventOverrun
  /-- PRG was stalled (R521) -/
  | stall
deriving DecidableEq, Repr

/-- What HALT_CAUSE keeps of the last halt (R150, R163). -/
structure Halt where
  cause : HaltCause
  trapCode : Nat := 0
  codeAddr : Nat := 0
  dataAddr : Nat := 0
  cycle : Nat := 0
  stamp : Int := 0
deriving DecidableEq, Repr

/-- START_INFO (R146). -/
structure StartInfo where
  cold : Bool := true
  cause : Nat := 0
  offTime : Nat := 0
  storeLost : Bool := false
  cycle : Nat := 0
  stamp : Int := 0
deriving DecidableEq, Repr

/-- The PROGRAM_PARAM object in force (R160), factory values where the spec gives them. -/
structure PrgParam where
  wdMs : Nat := 100
  /-- cycle floor in 0.1 ms -/
  floor : Nat := 0
  isoStart : Nat := 3
  slipLimit : Nat := 4
  autoRun : Bool := false
  saveInterval : Nat := 60
deriving DecidableEq, Repr

/-- A timer, edge-detector or counter instance (R142 to R144). -/
inductive Inst where
  | timer (start : Int) (pt : Int) (running q : Bool)
  /-- PREV and the Q of the last evaluation -/
  | edge (prev : Bool) (q : Bool)
  | counter (count : Int) (prevUp prevDown : Bool) (primedUp primedDown : Bool)
deriving DecidableEq, Repr

/-- Data memory with the instances, as the program holds it or the boundary copy keeps it (R128, R142 to R145). -/
structure PrgData where
  /-- bytes of data memory, canonical; an unlisted byte reads as madder (R128) -/
  mem : List Host.Cell := []
  /-- timer, edge and counter instances by key -/
  insts : List (BitVec 64 × Inst) := []
deriving DecidableEq, Repr

/-- The retained area at a boundary, with its cycle number and stamp (R145, R146, R195). -/
structure Boundary where
  imageId : Bytes := []
  data : PrgData := {}
  cycle : Nat := 0
  stamp : Int := 0
  /-- program clock at the boundary, for the re-basing of R147 -/
  clock : Int := 0
deriving DecidableEq, Repr

/-- An event queued for an EVENT task (R132). -/
inductive PrgEvent where
  | edge (ch : Fin 128) (rise : Bool) (stamp : Int) (count : Nat)
  /-- a mailbox post, with the message, which the task has as event data (R461) -/
  | post (mb : Fin 32) (stamp : Int) (data : List Word)
deriving DecidableEq, Repr

/-- Trigger of an EVENT task (R130). -/
inductive Trigger where
  | edge (ch : Fin 128)
  | post (mb : Fin 32)
deriving DecidableEq, Repr

/-- One EVENT task of the running image (R130 to R133, R163). -/
structure EventTask where
  prio : Fin 16
  trigger : Trigger
  queue : List PrgEvent := []
  /-- the event being worked on and the clock time it started -/
  active : Option (PrgEvent × Ns) := none
  lost : Nat := 0
  runs : Nat := 0
  longestUs : Nat := 0
deriving DecidableEq, Repr

/-- One decoded KEY_MAP entry (R168). -/
structure KeyEntry where
  key : BitVec 64
  typeSig : BitVec 32
  elemSig : BitVec 32
  count : Nat
  addr : Nat
  size : Nat
  retain : Bool
  shared : Bool
  noExternalWrite : Bool
  primeFalse : Bool
  reservedZero : Bool
deriving DecidableEq, Repr

/-- The image the engine runs (R127, R130, R163). -/
structure Running where
  slot : Fin 2
  imageId : Bytes
  build : BitVec 32
  codeSize : Nat
  dataSize : Nat
  retainedOffset : Nat
  retainedSize : Nat
  keyMap : List KeyEntry
  initSize : Nat
  hasStart : Bool
  hasStationFault : Bool
  hasCycleLong : Bool
  hasPreSwitch : Bool
  hasPostSwitch : Bool
  /-- local channels the program writes, and station image words it writes (IO_MAP) -/
  writesLocal : List (Fin 128)
  readsLocal : List (Fin 128)
deriving DecidableEq, Repr

/-- Slot states, in the order of R164. -/
inductive SlotState where
  | empty | staging | verifying | verified | invalid | running
deriving DecidableEq, Repr

/-- One program-image slot (R164, R197). -/
structure Slot where
  state : SlotState := .empty
  bytes : Bytes := []
  /-- failing check if INVALID (R173) -/
  failing : Nat := 0
deriving DecidableEq, Repr

/-- A staging in progress (R171, R172, R197). -/
structure Staging where
  nextOffset : Nat := 0
  written : Nat := 0
  /-- origin of the LAST chunk while verifying -/
  last : Option Origin := none
deriving DecidableEq, Repr

/-- Outcome of one key in the carry-over (R183). -/
inductive Carry where
  | copied | converted | reinit | new | dropped
deriving DecidableEq, Repr

/-- The switch report of R193. -/
structure SwitchReport where
  oldId : Bytes := []
  newId : Bytes := []
  cycle : Nat := 0
  gapUs : Nat := 0
  carried : Nat := 0
  copied : Nat := 0
  converted : Nat := 0
  reinit : Nat := 0
  newKeys : Nat := 0
  dropped : Nat := 0
  preUs : Nat := 0
  postUs : Nat := 0
deriving DecidableEq, Repr

/-- Phase of an exchange (R176 to R178). -/
inductive SwitchPhase where
  | armed | pre | post | firstCycle
deriving DecidableEq, Repr

/-- A switch pending or in progress (R176 to R178, R197). -/
structure Switch where
  org : Origin
  slot : Fin 2
  cycle : Nat
  plan : List (BitVec 64 × BitVec 32 × BitVec 32 × Carry) := []
  report : SwitchReport := {}
  ownArmed : Bool := false
  partnerArmed : Bool := false
  phase : SwitchPhase := .armed
  /-- clock time at which the present phase began -/
  since : Ns := 0
  before : PrgState := .running
deriving DecidableEq, Repr

/-- What a PROGRAM_CONTROL still in progress asks for (R161). -/
inductive PrgCommand where
  | run (cold : Bool) | stop | isoEnter (count : Nat) | isoLeave
deriving DecidableEq, Repr

/-- A remote input image as a snapshot holds it (R137). -/
structure RemoteIn where
  station : Nat
  words : List (BitVec 32)
  quals : List (BitVec 2)
  subst : Bool
  busCycle : Nat
deriving DecidableEq, Repr

/-- What an input read takes from one tick: the samples of all local channels, and the state of every loop, override group,
axis and safety function as published at that tick boundary (R136). -/
structure TickImage where
  stamp : Int := 0
  locals : List (Fin 128 × Sample × Quality) := []
  loops : List Loop := []
  overs : List Override := []
  axes : List Axis := []
  functions : List SafFn := []
deriving DecidableEq, Repr

/-- What STATION_FAULT receives: station index, node address, bus cycle and stamp of the last valid frame, and the cause
(R158). -/
structure DownInfo where
  index : Nat
  node : Nat
  busCycle : Nat
  stamp : Int
  cause : Nat
deriving DecidableEq, Repr

/-- The snapshot of a MAIN cycle with its system variables (R136, R140). -/
structure Snapshot where
  stamp : Int := 0
  now : Int := 0
  cycleDt : Int := 0
  lastExecUs : Nat := 0
  iso : Bool := false
  busCycle : Nat := 0
  firstAfterStart : Bool := false
  firstAfterSwitch : Bool := false
  locals : List (Fin 128 × Sample × Quality) := []
  loops : List Loop := []
  overs : List Override := []
  axes : List Axis := []
  functions : List SafFn := []
  /-- the partner's local image in a pair, and whether the partner is lost (R365) -/
  partner : List (Fin 128 × Sample × Quality) := []
  partnerSubst : Bool := false
  remotes : List RemoteIn := []
  messages : List (Fin 32 × List (BitVec 32)) := []
deriving DecidableEq, Repr

/-- A VAR_WRITE waiting for the next input read (R162). -/
structure VarWrite where
  org : Origin
  key : BitVec 64
  typeSig : BitVec 32
  data : Bytes
deriving DecidableEq, Repr

/-- The program engine (R127 to R163, R195). -/
structure Program where
  state : PrgState := .stopped
  running : Option Running := none
  halt : Option Halt := none
  startInfo : StartInfo := {}
  param : PrgParam := {}
  paramPending : Option (Origin × PrgParam) := none
  control : Option (Origin × PrgCommand) := none
  /-- a STOP is to be taken at the end of the cycle (R151) -/
  stopReq : Bool := false
  data : PrgData := {}
  boundary : Boundary := {}
  /-- instances evaluated since their start or switch (R143, R187) -/
  cycleNumber : Nat := 0
  /-- MAIN cycle in progress, its beginning and its end of output write -/
  inMain : Bool := false
  cycleBegin : Ns := 0
  lastEnd : Ns := 0
  startBegin : Ns := 0
  firstAfterStart : Bool := false
  firstAfterSwitch : Bool := false
  prevNow : Option Int := none
  lastExecUs : Nat := 0
  snap : Snapshot := {}
  /-- loops, groups, axes and functions at the boundary of the last tick (the samples of that tick follow in `Chan`), the whole
  image of the tick before, and the image of the latest tick at or before the end of a bus cycle's window (R136, R154) -/
  tickImage : TickImage := {}
  prevImage : TickImage := {}
  windowImage : Nat × TickImage := (0, {})
  /-- CYCLE_LONG running, run in this cycle, runs (R148, R149) -/
  longRunning : Bool := false
  longInCycle : Bool := false
  longRuns : Nat := 0
  /-- what CYCLE_LONG did, held for the next barrier of a pair (R366) -/
  longHeld : List LongAct := []
  longestUs : Nat := 0
  longestCycle : Nat := 0
  /-- isochronous count: remaining cycles, none for until ISO_LEAVE; start-up cycles flag (R155, R161) -/
  isoLeft : Option Nat := some 0
  isoStartup : Bool := false
  overruns : Nat := 0
  slips : Nat := 0
  isoSkipped : Nat := 0
  /-- clock time of the first overrun not yet regained (R156) -/
  firstOverrun : Option Ns := none
  lastReadBus : Option Nat := none
  /-- cycle statistics since RUN (R163) -/
  cycles : Nat := 0
  cycleLastUs : Nat := 0
  cycleMinUs : Nat := 0
  cycleMaxUs : Nat := 0
  cycleSumUs : Nat := 0
  events : List EventTask := []
  /-- events discarded at a switch for want of a task with their trigger (R182) -/
  eventLost : Nat := 0
  /-- writes of START and EVENT tasks held for the next output write (R133, R152) -/
  held : List PrgWrite := []
  /-- outputs of the cycle waiting for the output release instant of a pair (R367) -/
  toRelease : List PrgWrite := []
  /-- EVENT writes to local outputs waiting for the next cut-off are applied at EVENT_TASK_END -/
  varWrites : List VarWrite := []
  /-- stations declared DOWN whose STATION_FAULT has not run, and what the last runs received (R158) -/
  downQueue : List DownInfo := []
  faultRuns : List DownInfo := []
  /-- UNDELIVERED counts per station since RUN (R157, R163) -/
  undelivered : List (Nat × Nat) := []
  /-- retained saves made, stamp and cycle of the last (R163) -/
  savedStamp : Int := 0
  savedCycle : Nat := 0
  saves : Nat := 0
  lastSaveAt : Ns := 0
  /-- PSTOP values in force (R150, R151) -/
  pstop : Bool := false
deriving DecidableEq, Repr

/-- Image slots, staging and exchange (R164 to R197). -/
structure Exchange where
  slots : Vector Slot 2 := Vector.replicate 2 {}
  staging : Option Staging := none
  switch : Option Switch := none
  lastSwitch : SwitchReport := {}
  /-- running-slot marker, in force and to be written after the retained save (R195) -/
  marker : Option (Fin 2) := none
  markerPending : Option (Fin 2) := none
deriving DecidableEq, Repr

end Sys2Proof.Machine
end

