-- ==== Sys2Proof/Machine/StateRing.lean ====
section
/-! DEFINITION. State of the ring node, of pairs and referees, and of time (chapters 9 to 11). -/

namespace Sys2Proof.Machine

/-! ### The Broluma ring (09_broluma_ring.md) -/

/-- LINK of a port (R320, R321, R355). -/
inductive Link where
  | up | down | negFail
deriving DecidableEq, Repr

/-- One ring port with its counters (R320 to R332, R355). -/
structure RingPort where
  link : Link := .down
  /-- speed is 1000BASE-T, otherwise 100BASE-TX -/
  gigabit : Bool := false
  changed : Int := 0
  rxFrames : Nat := 0
  rxBytes : Nat := 0
  fcsErrors : Nat := 0
  oversize : Nat := 0
  foreign : Nat := 0
  hopsExpired : Nat := 0
  badClass : Nat := 0
  txOriginated : Nat := 0
  txForwarded : Nat := 0
  stomped : Nat := 0
  missedWindow : Nat := 0
  own : Nat := 0
  duplicate : Nat := 0
  tooOld : Nat := 0
  discardEvict : Nat := 0
  dupCompared : Nat := 0
  dupMismatches : Nat := 0
  lastTransit : Int := 0
  maxTransit : Int := 0
  linkEvents : Nat := 0
deriving DecidableEq, Repr

/-- One recorded sequence number with the PCRC of its first copy (R331 to R333). -/
structure SeqRec where
  seq : BitVec 16
  pcrc : BitVec 32
  /-- the first copy carried LEAD -/
  lead : Bool
deriving DecidableEq, Repr

/-- The discard-table entry of one source (R331), newest record first. -/
structure DiscardSrc where
  source : Nat
  epoch : BitVec 4
  newest : BitVec 16
  recs : List SeqRec
  lastSeen : Ns
deriving DecidableEq, Repr

/-- The RING_CONFIG object in force (R322). -/
structure RingCfg where
  /-- µs -/
  tBus : Nat := 1000
  window : Nat := 60
  modeA : BitVec 2 := 0
  modeB : BitVec 2 := 0
  modeL : BitVec 2 := 0
  slow : Bool := false
  wdCycles : Nat := 0
  master : Nat := 0
  acyGuard : Nat := 250
  acyTimeout : Nat := 50
  acyRetries : Nat := 2
  foreignLoad : Nat := 0
deriving DecidableEq, Repr

/-- Station states, in the order of R344. -/
inductive StState where
  | disabled | waiting | up | down
deriving DecidableEq, Repr

/-- An input image in one of RNG's buffers (R137, R345). -/
structure InImage where
  busCycle : Nat := 0
  header : BitVec 8 := 0
  words : List (BitVec 32) := []
  quals : List (BitVec 2) := []
deriving DecidableEq, Repr

/-- One entry of the station table with its dynamic state (R343 to R346, R356). -/
structure Station where
  index : Nat
  /-- STATION_CONFIG in force: 32-byte header and substitute words -/
  obj : Bytes
  /-- a change waiting for the next bus cycle -/
  pending : Option (Origin × Bytes) := none
  state : StState := .waiting
  changed : Int := 0
  changedAt : Ns := 0
  lastIngress : Option Ns := none
  lastBus : Nat := 0
  lastStamp : Int := 0
  lastHeader : BitVec 8 := 0
  /-- ports seen in the present, the last and the one before last bus cycle -/
  seenA : Bool := false
  seenB : Bool := false
  prevA : Bool := false
  prevB : Bool := false
  prev2A : Bool := false
  prev2B : Bool := false
  back : Option InImage := none
  front : InImage := {}
  frontStale : Bool := true
  /-- the first bus cycle whose inputs are live after a return (R159) -/
  upBus : Nat := 0
  /-- the front buffer of the bus cycle before, for the agreed bus cycle of a pair (R365) -/
  prevFront : InImage := {}
  /-- bus cycle of the last good returning frame (R159) -/
  returnBus : Option Nat := none
  /-- output words: present content and ready for the next window -/
  outWords : List (BitVec 32) := []
  /-- words written and not yet in a window: ready at, word, value, oldest first (R139, R199) -/
  outPending : List (Ns × Nat × Word) := []
  /-- words owned by a loop, override group or axis (R204, R265) -/
  accepted : Nat := 0
  late : Nat := 0
  pcrcErr : Nat := 0
  sizeErr : Nat := 0
  dropouts : Nat := 0
  undelivered : Nat := 0
  /-- declared DOWN since the input read of the cycle in progress (R157) -/
  wentDown : Bool := false
  /-- UNDELIVERED at the last declaration of DOWN, for the STATION_RETURN record (R159) -/
  downUndelivered : Nat := 0
  tunnels : Nat := 0
  retrans : Nat := 0
  timeouts : Nat := 0
  downs : Nat := 0
deriving DecidableEq, Repr

/-- A tunnel transaction this node originated (R351 to R354). -/
structure TunnelOut where
  tid : BitVec 16
  org : Origin
  station : Nat
  node : Nat
  request : Bytes
  retries : Nat := 0
  lastSent : Ns := 0
  /-- fragments of the response received, by index -/
  frags : List (Nat × Bytes) := []
  lastIngress : Ns := 0
deriving DecidableEq, Repr

/-- A partial transaction being reassembled (R352). -/
structure TunnelIn where
  src : Nat
  tid : BitVec 16
  total : Nat
  frags : List (Nat × Bytes) := []
  lastAt : Ns := 0
deriving DecidableEq, Repr

/-- A completed transaction whose response is kept (R352). -/
structure TunnelKept where
  src : Nat
  tid : BitVec 16
  response : Bytes
deriving DecidableEq, Repr

/-- A tunnel request being executed here (R353, R436): source, TID, the descriptor's COOKIE and DEADLINE, and the
ring-time stamp at which it was complete. -/
structure TunnelServe where
  src : Nat
  tid : BitVec 16
  cookie : BitVec 32
  deadline : Option (BitVec 64)
  accepted : Int
deriving DecidableEq, Repr

/-- A NODE_ADDRESS descriptor waiting for its echo (R342, R445). -/
structure NodeAddr where
  org : Origin
  port : Port
  hops : Nat
  newAddr : Nat
  retries : Nat := 0
  sentAt : Ns := 0
deriving DecidableEq, Repr

/-- An acyclic frame waiting to be originated (R336). -/
structure AcyFrame where
  subtype : BitVec 8
  dest : Nat
  payload : Bytes
  /-- one port only, for ADDRESS frames (R329, R342) -/
  port : Option Port := none
  /-- not before this clock time (R368) -/
  due : Ns := 0
  /-- SEQ given when the frame was scheduled for a bus cycle (R369) -/
  seq : Option (BitVec 16) := none
deriving DecidableEq, Repr

/-- I/O station side of the cyclic exchange (R347 to R349). -/
structure IoStation where
  imageMap : Option Bytes := none
  mapPending : Option (Origin × Bytes) := none
  /-- last accepted OUTPUT_IMAGE of the present bus cycle -/
  image : Option (Nat × BitVec 8 × List (BitVec 32)) := none
  lastIngress : Option Ns := none
  live : Bool := false
  substituting : Bool := false
  substSince : Ns := 0
  /-- bus cycle of the last LIVE frame, for the two of R347 -/
  liveBus : Option Nat := none
  /-- consecutive LIVE-clear frames and the bus cycle of the last -/
  clearRun : Nat := 0
  clearBus : Option Nat := none
  /-- substituting since a watchdog expiry, not for LIVE clear (R347) -/
  expired : Bool := false
  /-- output images of the MASTER not accepted, and why (R326, R345, R346) -/
  pcrcErr : Nat := 0
  sizeErr : Nat := 0
  late : Nat := 0
deriving DecidableEq, Repr

/-- The Broluma ring node (R319 to R357). -/
structure Ring where
  ports : Vector RingPort 3 := Vector.replicate 3 {}
  cfg : RingCfg := {}
  cfgPending : Option (Origin × Bytes) := none
  /-- a RING_CONFIG has been put in force -/
  configured : Bool := false
  seq : BitVec 16 := 0
  epoch : BitVec 4 := 0
  discard : List DiscardSrc := []
  /-- capacity sum in force: S, F, P in ns, H in hops, spare window in ns (R337, R355) -/
  capS : Nat := 0
  capF : Nat := 0
  capP : Nat := 0
  capH : Nat := 0
  capSpare : Int := 0
  ringClosed : Bool := false
  breakAfter : Option Nat := none
  /-- number of the present bus cycle and the clock time it started -/
  busCycle : Nat := 0
  busStart : Ns := 0
  windowEnded : Bool := true
  stations : List Station := []
  io : IoStation := {}
  branch : Bytes := []
  branchPending : Option (Origin × Bytes) := none
  acyclic : List AcyFrame := []
  tunnelsOut : List TunnelOut := []
  /-- tunnel descriptors delayed for a slot (R32, R352) -/
  tunnelsWait : List (Origin × Nat × Bytes) := []
  nextTid : BitVec 16 := 0
  tunnelsIn : List TunnelIn := []
  kept : List TunnelKept := []
  serving : List TunnelServe := []
  nodeAddr : Option NodeAddr := none
  /-- node address and EtherType until the next bus cycle, after a write of one of them (R562) -/
  oldId : Option (Nat × BitVec 16) := none
deriving DecidableEq, Repr

/-! ### Redundant pairs and referees (10_redundancy.md) -/

/-- Member states, with the codes of R380. -/
inductive Member where
  | unformed | joining | shadow | lead | out
deriving DecidableEq, Repr

/-- The nodes whose heartbeats a member counts (R372, R388). -/
inductive Peer where
  | partner | ref1 | ref2
deriving DecidableEq, Repr

/-- What a member knows of a peer (R372, R388). -/
structure PeerSt where
  /-- ingress, clock time, of the last accepted heartbeat -/
  last : Option Ns := none
  lost : Bool := true
  leadSeen : Bool := false
  term : BitVec 32 := 0
  leadNode : Nat := 0
  /-- state code last reported, and the clock time it has been reported since -/
  state : Nat := 0
  since : Ns := 0
deriving DecidableEq, Repr

/-- A grant accepted or a step-down due at a bus cycle (R375, R385). -/
structure LeadChange where
  take : Bool
  term : BitVec 32
  leadNode : Nat
  kh : Nat
  reason : BitVec 8
deriving DecidableEq, Repr

/-- A host write forwarded by the lead and not yet completed (R364, R368, R378). -/
structure Forward where
  /-- number of the write, the same on both members -/
  id : Nat
  org : Origin
  desc : Bytes
  obj : Bytes
  sent : Bool := false
  /-- outcome the shadow reported -/
  shadow : Option (BitVec 4 × BitVec 16) := none
  own : Option Outcome := none
  /-- clock time from which it is released, none until the barrier that carries it has been met (R368) -/
  due : Option Ns := none
deriving DecidableEq, Repr

/-- A joining transfer (R382, R388). -/
structure Join where
  step : Nat := 0
  start : Option Ns := none
  bytes : Nat := 0
  attempts : Nat := 0
  timeouts : Nat := 0
  /-- failures in a row (R382) -/
  failRun : Nat := 0
  /-- the joining follows PAIR_MISMATCH (R370) -/
  afterMismatch : Bool := false
deriving DecidableEq, Repr

/-- The barrier of the present cycle (R364 to R367, R388). -/
structure Barrier where
  /-- own and partner send stamps and cycle numbers of the latest BARRIER -/
  own : Option (Nat × Int) := none
  /-- the own BARRIER as it was sent -/
  ownMsg : Option BarrierMsg := none
  /-- it was sent while no program cycles -/
  idle : Bool := false
  partner : Option (Nat × Int) := none
  /-- the partner's latest BARRIER -/
  partnerMsg : Option BarrierMsg := none
  ownAt : Ns := 0
  stamp : Int := 0
  agreedBus : Nat := 0
  /-- stations still waiting for IMAGE_FIX (R364 step 5) -/
  fixWait : List Nat := []
  fixCount : Nat := 0
  lastWaitUs : Nat := 0
  maxWaitUs : Nat := 0
  /-- step 6 has been run for this cycle -/
  passed : Bool := false
  /-- STATION_FAULT, forwarded writes and VAR_WRITE of this cycle are done (R364 step 6) -/
  started : Bool := false
  /-- output-write end stamps of the two members (R367) -/
  ownDone : Option (Nat × Int) := none
  partnerDone : Option (Nat × Int) := none
  /-- own events since the last BARRIER, and the partner's local image -/
  events : List PrgEvent := []
  partnerLocals : List (Fin 128 × Sample × Quality) := []
  partnerLive : Bool := false
  /-- own output CRC of the last cycle, and the partner's -/
  ownCrc : BitVec 32 := 0
  partnerCrc : Option (BitVec 32) := none
deriving DecidableEq, Repr

/-- DUP_MISMATCH of one pair source at a consumer (R371). -/
structure DupState where
  pair : Nat
  since : Ns
  compared : Nat := 0
deriving DecidableEq, Repr

/-- A pair held by a referee (R360, R372 to R374). -/
structure RefPair where
  cfg : Bytes
  term : BitVec 32 := 0
  leadNode : Nat := 0
  epoch : BitVec 4 := 0
  lastA : Option Ns := none
  lostA : Bool := true
  lastB : Option Ns := none
  lostB : Bool := true
  stateA : Nat := 0
  stateB : Nat := 0
  /-- the other referee -/
  lastRef : Option Ns := none
  lostRef : Bool := true
  refLeadSeen : Bool := false
  highestHeard : BitVec 32 := 0
  lastLeadIngress : Int := 0
  firstB : Option Ns := none
  formPassed : Bool := false
  /-- held GRANT_REQUESTs: node, term, reason, and the clock time they are decided at (R374) -/
  requests : List (Nat × BitVec 32 × BitVec 8 × Ns) := []
  grants : Nat := 0
  denies : Nat := 0
deriving DecidableEq, Repr

/-- Pair membership and referee service (R358 to R389). -/
structure Pair where
  cfg : Option Bytes := none
  state : Member := .unformed
  changed : Int := 0
  changedAt : Ns := 0
  term : BitVec 32 := 0
  leadNode : Nat := 0
  epoch : BitVec 32 := 0
  /-- SEQ of the next frame under the pair address (R325, R369) -/
  pairSeq : BitVec 16 := 0
  lastGrant : Int := 0
  lastReason : BitVec 8 := 0
  pendingLead : Option LeadChange := none
  partner : PeerSt := {}
  ref1 : PeerSt := {}
  ref2 : PeerSt := {}
  cfgCrcMismatch : Nat := 0
  /-- clock time of the last heartbeat with another CFG_CRC (R372) -/
  crcDiffAt : Option Ns := none
  noReferee : Bool := false
  mismatch : Bool := false
  revertLimit : Bool := false
  drillFailed : Bool := false
  cfgMismatch : Bool := false
  fwMismatch : Bool := false
  barrier : Barrier := {}
  /-- PCRCs of the frames originated in the present window, and the last own digests (R370) -/
  windowPcrcs : List (BitVec 32) := []
  ownDigests : List (Nat × BitVec 32) := []
  digestsCompared : Nat := 0
  digestMismatches : Nat := 0
  crcsCompared : Nat := 0
  crcMismatches : Nat := 0
  /-- consecutive differing windows, and consecutive differing cycles (R370) -/
  mismatchRun : Nat := 0
  crcRun : Nat := 0
  lastMismatchRejoin : Option Ns := none
  lastMismatchAt : Option Ns := none
  /-- reversions within the last 60 min, ring-time stamps; start of the hold-off; drill schedule (R381, R386) -/
  reversions : List Int := []
  holdoffFrom : Option Ns := none
  drillNext : Option Ns := none
  revertReq : Bool := false
  /-- the last lead change was a swap drill, its return is not counted -/
  drillSwap : Bool := false
  /-- pending planned hand-over: origin, reason, and the clock time it is given up at (R384, R385) -/
  handover : Option (Origin × BitVec 8 × Ns) := none
  /-- a hand-over the lead is to start: REASON (R381, R386) -/
  handoverDue : Option (BitVec 8) := none
  join : Join := {}
  forwards : List Forward := []
  forwardedCount : Nat := 0
  nextForward : Nat := 0
  /-- tunnel requests that the lead decided to send again (R364) -/
  retriesDue : List (BitVec 16) := []
  /-- tunnelled descriptors and retries that the last barriers carried, with the ring time they are scheduled from (R368) -/
  tunnelsDue : List (Origin × Bytes × Bytes × Int) := []
  retriesAt : List (BitVec 16 × Int) := []
  /-- next step of the transfer to a joining partner, and the data memory as it was bulk-copied (R382) -/
  sending : Nat := 0
  /-- IMAGE_ID and configuration changes at the start of the transfer -/
  sentKey : Bytes × Nat := ([], 0)
  /-- payload of the last heartbeat of a lead heard on port L (R383) -/
  leadHb : Bytes := []
  /-- clock times at which the last transfer step was sent, and PAIR_CONFIG came into force -/
  sentAt : Ns := 0
  cfgAt : Ns := 0
  sentData : List Host.Cell := []
  completedCount : Nat := 0
  differing : Nat := 0
  /-- consumers' DUP_MISMATCH per pair source (R371) -/
  dups : List DupState := []
  /-- pairs this referee holds -/
  held : List RefPair := []
  refStart : Ns := 0
deriving DecidableEq, Repr

/-- Ring-time states, in the order of R391. -/
inductive RingState where
  | freeRun | acquiring | locked | holdover
deriving DecidableEq, Repr

/-- Ship-time states, in the order of R399. -/
inductive ShipState where
  | unset | provisional | set
deriving DecidableEq, Repr

/-- The TIME_CONFIG object in force (R406), factory values. -/
structure TimeCfg where
  gmCapable : Bool := true
  priority1 : BitVec 8 := 128
  priority2 : BitVec 8 := 128
  /-- signed power of two, -1 to 1 -/
  logSync : Int := 0
  logAnnounce : Nat := 1
  announceTimeout : Nat := 3
  logPdelay : Nat := 0
  ppsSrc : BitVec 2 := 0
  ppsWidth : Nat := 100
  holdoverS : Nat := 10
  kp : Rat := 7 / 10
  ki : Rat := 3 / 10
deriving DecidableEq, Repr

/-- Peer delay of one port (R396). -/
structure Pdelay where
  /-- last valid measurements in ns, newest first, at most 8 -/
  meas : List Rat := []
  invalid : Bool := true
  lastValid : Option Ns := none
  /-- sequenceId and egress clock time of the outstanding Pdelay_Req -/
  pending : Option (BitVec 16 × Ns) := none
  sentAt : Option Ns := none
  seq : BitVec 16 := 0
  sent : Nat := 0
  received : Nat := 0
  answered : Nat := 0
deriving DecidableEq, Repr

/-- A running slew (R403). -/
structure Slew where
  org : Origin
  offset : Int
  rate : Nat
  start : Ns
deriving DecidableEq, Repr

/-- A SHIP_TIME_SET waiting for a PPS_IN edge (R400). -/
structure PpsWait where
  org : Origin
  value : Nat
  at_ : Ns
deriving DecidableEq, Repr

/-- Ring time, PTP and ship time (R390 to R410). -/
structure Time where
  /-- ring time minus the module clock, ns (R390, R393) -/
  ringOff : Int := 0
  /-- program clock minus the module clock, ns (R141) -/
  progOff : Int := 0
  state : RingState := .freeRun
  changed : Int := 0
  lastOffset : Rat := 0
  freq : Rat := 0
  integ : Rat := 0
  /-- ingress of the last accepted Sync: clock, ring stamp, port -/
  lastSync : Option Ns := none
  syncStamp : Int := 0
  syncPort : Option Port := none
  okRun : Nat := 0
  badRun : Nat := 0
  holdoverAt : Ns := 0
  /-- the grandmaster's announced data, none while no grandmaster is heard -/
  gm : Option GmData := none
  isGm : Bool := false
  /-- clock times of the last better Announce, of the grandmaster's last Announce, of the own last Sync and Announce -/
  lastBetter : Ns := 0
  gmLast : Ns := 0
  syncSentAt : Option Ns := none
  announceSentAt : Option Ns := none
  cfg : TimeCfg := {}
  /-- a TIME_CONFIG with the clock time of the Sync interval it takes effect at -/
  cfgPending : Option (Origin × Bytes × Ns) := none
  pdelay : Vector Pdelay 3 := Vector.replicate 3 {}
  syncSeq : BitVec 16 := 0
  announceSeq : BitVec 16 := 0
  /-- forwarded or consumed PTP messages: source port identity, message type, sequenceIds, newest first -/
  ptpSeen : List (BitVec 80 × BitVec 4 × List (BitVec 16)) := []
  steps : Nat := 0
  ptpDuplicate : Nat := 0
  ptpTwoStep : Nat := 0
  ptpUnsupported : Nat := 0
  ptpDomain : Nat := 0
  ptpInvalidDelay : Nat := 0
  /-- a ring-time step: CTL, MOT take nominal dt, SAF skips the cycle for CLOCK_FAULT (R393) -/
  stepped : Bool := false
  /-- grid ticks of CTL and MOT that a step back would repeat: none up to this one is run (R393) -/
  gridFloor : Nat := 0
  /-- ship time minus ring time at the last change, without the running slew (R399) -/
  ship : ShipState := .unset
  shipOff : Int := 0
  latch : Bool := false
  shipStepAt : Int := 0
  slew : Option Slew := none
  slewLast : Int × Int × Nat := (0, 0, 0)
  ppsWait : Option PpsWait := none
  /-- edge stamp or failure the lead forwards to its shadow (R401) -/
  ppsEdges : List (Int × Option Int) := []
  ppsOutHigh : Bool := false
  ppsOutUntil : Ns := 0
  ppsOutLast : Option Int := none
  /-- the last 8 edges of PPS_IN, newest first: ring time, and ship time where SET (R404) -/
  ppsIn : List (Int × Option Int) := []
  /-- ship time as last copied into AON, and the clock time of the copy (R399) -/
  aonShip : Option (Int × Ns) := none
deriving DecidableEq, Repr

end Sys2Proof.Machine
end

