-- ==== Sys2Proof/Machine/StateSync.lean ====
section
/-! DEFINITION. What a joining member receives over port L (R382). -/

namespace Sys2Proof.Machine

/-- The state that the bulk copy of R382 step 3 carries besides data memory. -/
structure EngineCopy where
  loops : Vector Loop 64
  overs : Vector Override 8
  axes : Vector Axis 16
  tables : Vector (Option SegTable) 256
  stations : List Station
  tunnels : List TunnelOut
  /-- the lead's SEQ counter under the pair address -/
  seq : BitVec 16
  /-- instances, counters and timers beside data memory, and the program's own parameters -/
  data : PrgData
deriving DecidableEq, Repr

/-- The registers of the configuration store that both members of a pair hold alike (R382 step 1, R490, R542); role, node address,
MAC addresses and port latencies are each member's own. -/
structure SharedRegs where
  groupEn : Word
  etherType : BitVec 16
  imgKey : Vector (Vector Word 8) 4
  keyValid : BitVec 4
  bind : Vector Word 32
deriving DecidableEq, Repr

/-- What a joining member receives over port L (R382); every instant in it is ring time. -/
inductive ResyncMsg where
  /-- configuration store content: term, pair epoch, PAIR_CONFIG, entries, ship-time state with its offset and latch, the
  BUILD of the lead's firmware (R533) and the shared registers -/
  | config (term epoch : BitVec 32) (pairCfg : Bytes) (entries : List (BitVec 16 × Nat × Bytes))
      (ship : BitVec 2 × Int × Bool) (fw : BitVec 32) (regs : SharedRegs)
  /-- an image slot of the lead, and whether it is the running one -/
  | image (slot : Fin 2) (running : Bool) (bytes : Bytes)
  /-- a page of PRG data memory -/
  | page (addr : Nat) (data : Bytes)
  /-- bulk copy of the engines -/
  | bulk (c : EngineCopy)
  /-- the final step: the program engine with CYCLE_NUMBER, the program clock offset, SAF function and connection states, the
  lead's pair SEQ, and whether both SAF channels of the joiner found the state CRC equal -/
  | final (prg : Program) (progOff : Int) (fns : Vector SafFn 48) (conns : Vector SafConn 32) (seq : BitVec 16) (crcGood : Bool)
deriving DecidableEq, Repr

end Sys2Proof.Machine
end

