-- ==== Sys2Proof/Syntax.lean ====
section
/-! DEFINITION. The commands: one constructor per row of spec/opcode_table.json. Every command carries first the clock
time at which it happens (`t`, ns of the module clock); a descriptor row carries its origin and its object (PARAM where the
object is inline, DATA otherwise). -/

namespace Sys2Proof

inductive Instr where
  /-- CROSSING_REQUEST (R16). An island hands a transfer to an asynchronous four-phase crossing, which delivers it to
  the destination island. -/
  | crossingRequest (t : Ns) (src dst : Isl) (x : Transfer) (accepted : Bool)
  /-- ISLAND_WATCHDOG_EXPIRY (R17). An island's watchdog expires, so the island is stalled and the module applies the
  stall reaction for that island. -/
  | islandWatchdogExpiry (t : Ns) (i : Isl)
  /-- CROSSING_TIMEOUT (R17). A destination island has not accepted a crossing request within the crossing timeout, so
  the island is stalled. -/
  | crossingTimeout (t : Ns) (src dst : Isl)
  /-- ISLAND_READY (R19). A reset island signals ready through its crossings and leaves the stalled state. -/
  | islandReady (t : Ns) (i : Isl)
  /-- RECORD_SUBMIT (R478). An island submits a Sepia record to the intake, where REC assigns its SEQ and writes it to
  the MRAM journal. -/
  | recordSubmit (t : Ns) (src : Isl) (kind : RecKind) (items : List Int)
  /-- RECORDS_DROPPED (R31). When room returns in the intake, the module writes one RECORDS_DROPPED record naming each
  source and its count. -/
  | recordsDropped (t : Ns)
  /-- TIMEOUT_DECISION_DEFERRED (R41). A frame stamped at or before a passed deadline finishes reception, and the
  deferred expiry decision is taken. -/
  | timeoutDecisionDeferred (t : Ns) (which : Timeout) (good : Bool) (stamp : Ns)
  /-- LANE_TICK (R27). At each 50 µs tick boundary every GFE latches its inputs and the lane frames of the tick are
  exchanged. -/
  | laneTick (t : Ns) (cells : Vector CellSample 128) (groups : Vector GroupSample 8)
  /-- CHANNEL_INPUT_FRAME (R48). The lane hub receives a channel input frame, checks it and publishes the sample, or
  republishes the last one as STALE or BAD. -/
  | channelInputFrame (t : Ns) (ch : Fin 128) (frame : Option (BitVec 256))
  /-- OUTPUT_CUTOFF (R27). At 46 µs into the tick the lane hub builds the output frames of the next tick from the
  owners' values. -/
  | outputCutoff (t : Ns)
  /-- CHANNEL_OUTPUT_FRAME (R47). A channel cell receives an output frame, accepts or rejects it, and applies OUT,
  HOLD_REQ, SAF_OFF or OFF_PULSE. -/
  | channelOutputFrame (t : Ns) (ch : Fin 128) (frame : Option (BitVec 256))
  /-- GROUP_OUTPUT_FRAME (R47). A group controller receives a group output frame and applies DISC_OPEN, configuration
  chunks and CFG_COMMIT. -/
  | groupOutputFrame (t : Ns) (g : Fin 8) (frame : Option (BitVec 256))
  /-- GROUP_INPUT_FRAME (R82). The lane hub receives a group input frame with L+, group current, disconnect state,
  configuration CRC and SILENT_SEEN. -/
  | groupInputFrame (t : Ns) (g : Fin 8) (frame : Option (BitVec 256))
  /-- SILENT_ENTRY (R71). 200 µs after its last accepted output frame a cell enters the silent state and holds,
  switches off or drives low by mode. -/
  | silentEntry (t : Ns) (ch : Fin 128)
  /-- GROUP_SILENT_ENTRY (R50). 200 µs after its last accepted group frame a group controller enters its silent state
  and switches off the SDOs of a safety group. -/
  | groupSilentEntry (t : Ns) (g : Fin 8)
  /-- SDO_READBACK_CHECK (R73). 1.2 ms after the last accepted frame a silent SDO still reading on makes the group
  controller open the disconnect switch with DISC 0b10. -/
  | sdoReadbackCheck (t : Ns) (ch : Fin 128)
  /-- GROUP_SDO_READBACK_CHECK (R50). 1.2 ms after its last accepted group frame a silent group controller opens the
  disconnect if any SDO still reads on. -/
  | groupSdoReadbackCheck (t : Ns) (g : Fin 8)
  /-- HOLD_LIMIT_EXPIRY (R72). A silent channel reaching its group's HOLD_LIMIT takes its substitute value. -/
  | holdLimitExpiry (t : Ns) (ch : Fin 128)
  /-- WIRE_BREAK_SET (R58). MEAS below 0.35 mA for 20 ms sets WIRE_BREAK, forcing INPUT to 0 with quality BAD. -/
  | wireBreakSet (t : Ns) (ch : Fin 128)
  /-- WIRE_BREAK_CLEAR (R58). MEAS at or above 0.45 mA for 20 ms clears WIRE_BREAK. -/
  | wireBreakClear (t : Ns) (ch : Fin 128)
  /-- INRUSH_WINDOW_END (R61). 10 ms after a commanded switch-on the 2 A inrush allowance ends and the overload
  threshold applies. -/
  | inrushWindowEnd (t : Ns) (ch : Fin 128)
  /-- OVERLOAD_TRIP (R61). IOUT above the overload threshold for 5 ms switches a DO or SDO off and sets OVERLOAD. -/
  | overloadTrip (t : Ns) (ch : Fin 128)
  /-- OVERLOAD_RETRY (R61). 1 s after a trip the cell switches on again, up to three failed retries. -/
  | overloadRetry (t : Ns) (ch : Fin 128)
  /-- OVERLOAD_CLEAR (R61). A switch-on that holds for 1 s clears OVERLOAD. -/
  | overloadClear (t : Ns) (ch : Fin 128)
  /-- OPEN_LOAD (R62). A DO or SDO commanded on with IOUT below 1 mA for 100 ms reports OPEN_LOAD. -/
  | openLoad (t : Ns) (ch : Fin 128)
  /-- OFF_PULSE_SLOT (R65). At a channel's slot in the 250 ms round the lane hub schedules its off-pulse. -/
  | offPulseSlot (t : Ns) (ch : Fin 128)
  /-- OFF_PULSE_END (R67). At the end of an off-pulse the module checks that it was seen on the channel's own
  readback, else OFF_PULSE_FAIL. -/
  | offPulseEnd (t : Ns) (ch : Fin 128) (seen : Bool)
  /-- OFF_PULSE_ROUND_END (R68). At the end of a full round CROSS_FAULT clears where the partner's slot was not seen
  and the own pulse was. -/
  | offPulseRoundEnd (t : Ns)
  /-- TEST_PULSE_SLOT (R66). At an SDI channel's slot in the 100 ms round terminal B is test-pulsed for 300 µs. -/
  | testPulseSlot (t : Ns) (ch : Fin 128) (belowOff closed : Bool)
  /-- READBACK_DELAY_EXPIRY (R67). RB_DELAY after a commanded change the readback is evaluated against the demand. -/
  | readbackDelayExpiry (t : Ns) (ch : Fin 128)
  /-- LPLUS_LOW (R69). L+ below 19.2 V for 10 ms puts the group into LPLUS_LOW. -/
  | lplusLow (t : Ns) (g : Fin 8)
  /-- LPLUS_OFF (R69). L+ below 16.0 V for 4 samples puts the group into LPLUS_OFF with outputs unpowered. -/
  | lplusOff (t : Ns) (g : Fin 8)
  /-- LPLUS_HIGH (R69). L+ above 32.0 V for 4 samples puts the group into LPLUS_HIGH. -/
  | lplusHigh (t : Ns) (g : Fin 8)
  /-- LPLUS_RECOVER (R69). L+ back within limits for 100 ms returns the group to LPLUS_OK or LPLUS_LOW. -/
  | lplusRecover (t : Ns) (g : Fin 8)
  /-- GROUP_CONFIG (R77). A GROUP_CONFIG descriptor is checked, and the group goes to substitute values and starts the
  chunk transfer. -/
  | groupConfig (t : Ns) (org : Origin) (obj : Bytes)
  /-- CFG_COMMIT (R77). After all chunks, the group's 16 cells take the new epoch in one tick. -/
  | cfgCommit (t : Ns) (g : Fin 8)
  /-- GROUP_CONFIG_SETTLED (R78). Once stages and filters settle, GOOD inputs are published, owners' demands are
  applied and GROUP_CONFIG completes DONE. -/
  | groupConfigSettled (t : Ns) (g : Fin 8)
  /-- GROUP_CONFIG_RESEND (R79). A transfer that lost frames is discarded and the whole object is sent once more, or
  the descriptor completes ERROR LANE_FAILED. -/
  | groupConfigResend (t : Ns) (g : Fin 8)
  /-- BUCK_TARGET_REACHED (R90). When the buck reaches its raised target, the output stage applies the new current. -/
  | buckTargetReached (t : Ns) (ch : Fin 128)
  /-- THERMAL_CLEAR (R93). THERMAL clears after the output has been at demand 15 °C below T_LIM for 1 s. -/
  | thermalClear (t : Ns) (ch : Fin 128)
  /-- COMPLIANCE_SET (R96). A shortfall above 0.1 mA on every sample for 50 ms sets COMPLIANCE. -/
  | complianceSet (t : Ns) (ch : Fin 128)
  /-- COMPLIANCE_CLEAR (R96). A shortfall at or below 0.05 mA for 500 ms clears COMPLIANCE. -/
  | complianceClear (t : Ns) (ch : Fin 128)
  /-- RANGE_DELAY_EXPIRY (R103). RANGE_DELAY after entering or leaving a failure band, RANGE sets with quality BAD or
  clears. -/
  | rangeDelayExpiry (t : Ns) (ch : Fin 128)
  /-- CHAR_LOAD (R111). A CHAR_LOAD descriptor checks and loads a characteristic table under its index. -/
  | charLoad (t : Ns) (org : Origin) (obj : Bytes)
  /-- CALIBRATION_CHECK (R112). SVC starts a calibration check that switches the cell's input stage to the two
  references for 3 ticks each. -/
  | calibrationCheck (t : Ns) (ch : Fin 128)
  /-- CALIBRATION_CHECK_END (R113). At the end of a check the lane hub updates gain and offset, or keeps them and sets
  REF_FAULT. -/
  | calibrationCheckEnd (t : Ns) (ch : Fin 128) (ref4 ref20 : Rat)
  /-- HART_REQUEST (R120). A HART request is queued at its channel, or refused when four already wait. -/
  | hartRequest (t : Ns) (org : Origin) (obj : Bytes)
  /-- HART_TRANSMIT_START (R117). After CARRIER_DETECT has been clear for 20 ms the oldest waiting request goes onto
  the wire. -/
  | hartTransmitStart (t : Ns) (ch : Fin 128)
  /-- HART_RESPONSE (R121). A response with a valid checksum completes the request DONE and frees the modem for the
  next waiting request. -/
  | hartResponse (t : Ns) (ch : Fin 128) (start : Ns) (frame : Bytes)
  /-- HART_NO_RESPONSE (R121). No response start within 300 ms leads to a retry or to completion with ERROR. -/
  | hartNoResponse (t : Ns) (ch : Fin 128)
  /-- HART_BURST (R123). A valid burst frame is stored per command number and posted to EQ with BURST_EVT. -/
  | hartBurst (t : Ns) (ch : Fin 128) (start : Ns) (frame : Bytes)
  /-- BURST_SILENCE (R117). With no burst frame heard for 500 ms the module treats the device as not bursting. -/
  | burstSilence (t : Ns) (ch : Fin 128)
  /-- MAIN_CYCLE_START (R131). At the cycle floor or the isochronous grid, PRG0 runs STATION_FAULT, applies
  VAR_WRITEs, reads inputs and starts MAIN. -/
  | mainCycleStart (t : Ns) (faultActs : List (List PrgAct)) (acts : List PrgAct)
  /-- OUTPUT_WRITE (R139). When MAIN ends, the cycle's outputs are released to the lanes, CTL, MOT and the remote
  images. -/
  | outputWrite (t : Ns) (writes : List PrgWrite)
  /-- EVENT_TASK_START (R132). When PRG1 is free an EVENT task starts with its oldest queued event. -/
  | eventTaskStart (t : Ns) (prio : Fin 16)
  /-- EVENT_TASK_END (R133). An EVENT task ends and its PRG-owned local output writes are released to the next cut-
  off. -/
  | eventTaskEnd (t : Ns) (prio : Fin 16) (acts : List PrgAct) (writes : List PrgWrite)
  /-- CYCLE_LONG (R148). A cycle running longer than WD starts the CYCLE_LONG task while MAIN continues. -/
  | cycleLong (t : Ns)
  /-- CYCLE_LONG_END (R149). CYCLE_LONG finishes, and a cycle waiting for it may begin. -/
  | cycleLongEnd (t : Ns) (acts : List LongAct)
  /-- WATCHDOG_HALT (R148). A cycle running longer than 2 × WD halts the program with cause WATCHDOG. -/
  | watchdogHalt (t : Ns)
  /-- TRAP (R151). A division by zero, index or access fault or illegal instruction halts the program with cause TRAP.
  -/
  | trap (t : Ns) (code codeAddr dataAddr : Nat)
  /-- ECC_HALT (R151). An uncorrectable ECC error in PRG SRAM halts the program with cause ECC. -/
  | eccHalt (t : Ns)
  /-- EVENT_OVERRUN (R151). An EVENT task running longer than WD halts the program with cause EVENT_OVERRUN. -/
  | eventOverrun (t : Ns) (prio : Fin 16)
  /-- RUN (R161). PROGRAM_CONTROL RUN starts the program WARM or COLD through START. -/
  | run (t : Ns) (org : Origin) (obj : Bytes)
  /-- START_FINISHED (R152). The START task finishes and the program enters ISOCHRONOUS for ISO_START cycles. -/
  | startFinished (t : Ns) (acts : List PrgAct) (writes : List PrgWrite)
  /-- STOP (R151). PROGRAM_CONTROL STOP finishes the cycle, saves retained data and applies program-stop values. -/
  | stop (t : Ns) (org : Origin) (obj : Bytes)
  /-- ISO_ENTER (R161). PROGRAM_CONTROL ISO_ENTER couples the program cycle to the bus cycle for ISO_COUNT cycles. -/
  | isoEnter (t : Ns) (org : Origin) (obj : Bytes)
  /-- ISO_LEAVE (R161). PROGRAM_CONTROL ISO_LEAVE returns the program to normal service. -/
  | isoLeave (t : Ns) (org : Origin) (obj : Bytes)
  /-- PROGRAM_PARAM (R160). A PROGRAM_PARAM object sets watchdog, floor, isochronous, slip and save parameters from
  the next cycle. -/
  | programParam (t : Ns) (org : Origin) (obj : Bytes)
  /-- VAR_WRITE (R162). A VAR_WRITE descriptor is checked against KEY_MAP and queued, or applied at once while
  stopped. -/
  | varWrite (t : Ns) (org : Origin) (obj : Bytes)
  /-- RETAINED_SAVE_INTERVAL (R146). At the saving interval in force the boundary copy is saved to the retained-data
  store. -/
  | retainedSaveInterval (t : Ns)
  /-- CYCLE_SLIP (R156). If phase is not regained within SLIP_LIMIT bus periods, the unread bus cycle is discarded and
  CYCLE_SLIP raised. -/
  | cycleSlip (t : Ns)
  /-- IMAGE_STAGE (R172). An IMAGE_STAGE chunk is written into the staging slot, the FIRST erasing it. -/
  | imageStage (t : Ns) (org : Origin) (param data : Bytes)
  /-- IMAGE_VERIFY_END (R173). Verification of a staged image ends, setting the slot VERIFIED or INVALID and
  completing the LAST chunk. -/
  | imageVerifyEnd (t : Ns) (partnerCheck : Option (Fin 8))
  /-- PROGRAM_SWITCH (R176). A PROGRAM_SWITCH request is checked, the plan built, retained data saved and the switch
  armed. -/
  | programSwitch (t : Ns) (org : Origin) (obj : Bytes)
  /-- ARMED (R177). A pair member receives the partner's ARMED report over the lateral link. -/
  | armed (t : Ns) (cycle : Nat)
  /-- PAIR_NOT_ARMED (R177). If ARMED has not arrived by the barrier before the switch cycle, both members cancel the
  switch. -/
  | pairNotArmed (t : Ns)
  /-- PRE_SWITCH_END (R178). PRE_SWITCH ends and the gap switches task table, IO_MAP and code to the new image with
  the carried data. -/
  | preSwitchEnd (t : Ns) (gapUs : Nat) (acts : List PrgAct)
  /-- POST_SWITCH_END (R178). POST_SWITCH ends in the new image and the state returns from SWITCHING. -/
  | postSwitchEnd (t : Ns) (acts : List PrgAct)
  /-- LOOP_SAMPLE (R207). At a loop's grid point CTL computes the PID sample and writes the applied output A. -/
  | loopSample (t : Ns) (lp : Fin 64) (done : Ns)
  /-- CATCH_UP_SAMPLE (R229). A loop whose next grid point has passed runs a catch-up sample with its true dt. -/
  | catchUpSample (t : Ns) (lp : Fin 64) (done : Ns)
  /-- LOOP_SLIP (R230). If phase is not regained within SLIP_LIMIT periods, owed grid points are discarded and
  LOOP_SLIP set. -/
  | loopSlip (t : Ns) (lp : Fin 64)
  /-- LOOP_CONFIG (R212). A LOOP_CONFIG descriptor is checked in order and becomes pending for the next sample. -/
  | loopConfig (t : Ns) (org : Origin) (obj : Bytes)
  /-- LOOP_COMMAND (R216). A LOOP_COMMAND sets a loop's mode, set-point, manual output, tracking value, external PV or
  FAIL_SIG. -/
  | loopCommand (t : Ns) (org : Origin) (obj : Bytes)
  /-- OVERRIDE_CONFIG (R225). An OVERRIDE_CONFIG descriptor configures or disables an override group. -/
  | overrideConfig (t : Ns) (org : Origin) (obj : Bytes)
  /-- TUNE_START (R234). TUNE_START starts a STEP, PRBS or SINE tuning test with capture on one loop. -/
  | tuneStart (t : Ns) (org : Origin) (obj : Bytes)
  /-- TUNE_STOP (R235). TUNE_STOP aborts the running tuning test. -/
  | tuneStop (t : Ns) (org : Origin) (obj : Bytes)
  /-- TUNE_END (R235). A tuning test reaches its duration or last PRBS pass and ends normally. -/
  | tuneEnd (t : Ns)
  /-- CAPTURE_READ (R444). CAPTURE_READ returns samples from the capture buffer. -/
  | captureRead (t : Ns) (org : Origin) (param : Bytes)
  /-- AXIS_SAMPLE (R240). At an axis grid point MOT applies released commands, replans from the effect instant and
  publishes the plan state. -/
  | axisSample (t : Ns) (ax : Fin 16) (done : Ns)
  /-- AXIS_CONFIG (R243). An AXIS_CONFIG descriptor is checked in order and takes effect at the axis's next sample. -/
  | axisConfig (t : Ns) (org : Origin) (obj : Bytes)
  /-- MOVE_ABS (R248). MOVE_ABS plans the fastest jerk-limited motion to an absolute target. -/
  | moveAbs (t : Ns) (org : Origin) (obj : Bytes)
  /-- MOVE_REL (R248). MOVE_REL plans a motion over a distance from the present target or position. -/
  | moveRel (t : Ns) (org : Origin) (obj : Bytes)
  /-- RUN_TABLE (R257). RUN_TABLE starts a loaded segment table from standstill. -/
  | runTable (t : Ns) (org : Origin) (obj : Bytes)
  /-- AXIS_STOP (R251). The STOP command plans a stop to zero velocity with the limits in force. -/
  | axisStop (t : Ns) (org : Origin) (obj : Bytes)
  /-- QUICK_STOP (R251). QUICK_STOP plans a stop with QUICK_DECEL and QUICK_JERK at once. -/
  | quickStop (t : Ns) (org : Origin) (obj : Bytes)
  /-- SET_POSITION (R247). SET_POSITION sets the commanded position at standstill and clears POS_UNVERIFIED. -/
  | setPosition (t : Ns) (org : Origin) (obj : Bytes)
  /-- SET_LIMITS (R250). SET_LIMITS changes V_LIM, A_LIM, D_LIM or J_LIM, or holds them pending in a deceleration
  phase. -/
  | setLimits (t : Ns) (org : Origin) (obj : Bytes)
  /-- RESET_FAULT (R247). RESET_FAULT takes an axis in FAULT into STANDSTILL. -/
  | resetFault (t : Ns) (org : Origin) (obj : Bytes)
  /-- TABLE_LOAD (R256). TABLE_LOAD checks a segment table against the axis limits and loads it into the pool. -/
  | tableLoad (t : Ns) (org : Origin) (obj : Bytes)
  /-- STEP_DEBT_TIMEOUT (R264). STEP_DEBT not back to zero within 20 ms puts the axis into FAULT with POS_UNVERIFIED.
  -/
  | stepDebtTimeout (t : Ns) (ax : Fin 16)
  /-- AXIS_SLIP (R272). If an axis does not regain phase within SLIP_LIMIT periods, owed grid points are discarded and
  AXIS_SLIP set. -/
  | axisSlip (t : Ns) (ax : Fin 16)
  /-- SAFETY_CYCLE (R276). At each 1 ms boundary both SAF channels read inputs and frames, evaluate every function,
  cross-compare and release outputs. -/
  | safetyCycle (t : Ns) (agree : Bool) (lenA lenB : Rat) (inTimeA inTimeB : Bool)
  /-- DISCREPANCY (R292). A disagreement of a pair lasting longer than t_d locks the function out with DISCREPANCY. -/
  | discrepancy (t : Ns) (sf : Fin 48) (pair : Fin 4) (receiving : List Ns)
  /-- RESET_HELD (R297). A reset press passing 3 s is logged as RESET_HELD and its release is ignored. -/
  | resetHeld (t : Ns) (sf : Fin 48)
  /-- STO_FEEDBACK (R299). FB_CH not reaching its demand state within FB_TIME locks the function out with
  STO_FEEDBACK. -/
  | stoFeedback (t : Ns) (sf : Fin 48)
  /-- INPUT_FAULT_SETTLED (R294). A faulted channel free of fault for 1 s with the pair out of demand removes
  INPUT_FAULT. -/
  | inputFaultSettled (t : Ns) (ch : Fin 64)
  /-- SUPPLY_SETTLED (R299). A group LPLUS_OK or LPLUS_LOW for 1 s removes SUPPLY and closes an LPLUS_HIGH disconnect.
  -/
  | supplySettled (t : Ns) (g : Fin 8)
  /-- RECLOSE_CHECK (R300). RB_DELAY after the re-close SAF checks every SDO reads off and enters RUN or reopens the
  switch. -/
  | recloseCheck (t : Ns) (g : Fin 8)
  /-- RECLOSE_ROUND_CHECK (R617). At the end of the first full off-pulse round after re-close a remaining flag locks
  the function out again. -/
  | recloseRoundCheck (t : Ns) (g : Fin 8)
  /-- PERMIT_TIMEOUT (R279). The lane hub clears PERMIT of a channel that SAF-B has not refreshed within 2 ms. -/
  | permitTimeout (t : Ns) (ch : Fin 128)
  /-- SAFETY_CONFIG (R286). SAFETY_CONFIG is checked by both SAF channels and becomes pending with computed reaction
  times. -/
  | safetyConfig (t : Ns) (org : Origin) (obj : Bytes)
  /-- SAFETY_CONFIRM (R288). SAFETY_CONFIRM makes the pending configuration active at the next safety cycle. -/
  | safetyConfirm (t : Ns) (org : Origin) (param : Bytes)
  /-- SAFETY_CONTAINER (R350). A SAFETY frame arrives on the ring and its contained safety frames are passed to SAF.
  -/
  | safetyContainer (t : Ns) (ingress : Ns) (bytes : Bytes) (agree : Bool)
  /-- SAFETY_FRAME_WATCHDOG (R305). No frame accepted within WD_MS expires the connection watchdog and the connection
  becomes LOST. -/
  | safetyFrameWatchdog (t : Ns) (conn : Fin 32) (receiving : List Ns)
  /-- SAF_REFERENCE_CHECK (R314). Each second the references of SAF-A and SAF-B are compared, and a difference above 2
  % is an ISLAND_FAULT. -/
  | safReferenceCheck (t : Ns) (diffPct : Rat)
  /-- SAF_MEMORY_ERROR (R314). A double-bit ECC error or a march-test failure in SAF memory is an ISLAND_FAULT. -/
  | safMemoryError (t : Ns)
  /-- SAF_SUPPLY_FAULT (R314). A SAF channel's own supply out of range is an ISLAND_FAULT. -/
  | safSupplyFault (t : Ns)
  /-- LINK_UP (R321). A ring port's PHY gains link and the port forwards from its first frame. -/
  | linkUp (t : Ns) (port : Port) (gigabit : Bool)
  /-- LINK_DOWN (R321). A ring port's PHY loses link and the port is reported DOWN within 1 ms. -/
  | linkDown (t : Ns) (port : Port) (negFail : Bool)
  /-- FRAME_RECEIVE (R330). A Broluma frame arrives on a port and is forwarded cut-through, consumed or discarded. -/
  | frameReceive (t : Ns) (port : Port) (ingress : Ns) (frame : WireFrame)
  /-- BUS_CYCLE_START (R334). At t_k a bus cycle starts and the node originates its cyclic frames of the window. -/
  | busCycleStart (t : Ns)
  /-- WINDOW_END (R137). At the end of the cyclic window RNG swaps all stations' input buffers within 5 µs. -/
  | windowEnd (t : Ns)
  /-- ACYCLIC_SEND (R336). A node originates a waiting acyclic frame once it fits before the next window less
  ACY_GUARD. -/
  | acyclicSend (t : Ns)
  /-- INPUT_IMAGE (R346). A controller accepts an INPUT_IMAGE into the back buffer and feeds the station watchdog, or
  counts it LATE. -/
  | inputImage (t : Ns) (ingress : Ns) (bytes : Bytes)
  /-- OUTPUT_IMAGE (R347). An I/O station accepts an OUTPUT_IMAGE from its MASTER and feeds its watchdog. -/
  | outputImage (t : Ns) (ingress : Ns) (bytes : Bytes)
  /-- OUTPUT_IMAGE_TAKE (R347). At t_k + W × T_BUS + 5 µs the station releases the last accepted output image to its
  channels. -/
  | outputImageTake (t : Ns)
  /-- STATION_WATCHDOG (R344). No input frame within WD_CYCLES bus cycles declares an UP station DOWN. -/
  | stationWatchdog (t : Ns) (index : Nat) (receiving : List Ns)
  /-- IOSTATION_WATCHDOG (R347). No OUTPUT_IMAGE within WD_CYCLES makes every RING-owned channel take its substitute
  value. -/
  | iostationWatchdog (t : Ns) (receiving : List Ns)
  /-- TUNNEL_REQUEST (R353). A node reassembles a tunnel REQUEST and executes it, replays a kept response, or refuses
  it. -/
  | tunnelRequest (t : Ns) (ingress : Ns) (bytes : Bytes)
  /-- TUNNEL_RESPONSE (R354). The controller completes the host's tunnel descriptor with the station's completion. -/
  | tunnelResponse (t : Ns) (ingress : Ns) (bytes : Bytes)
  /-- TUNNEL_RETRY (R352). No complete response within ACY_TIMEOUT resends the whole request. -/
  | tunnelRetry (t : Ns) (tid : BitVec 16)
  /-- REASSEMBLY_TIMEOUT (R352). A partial transaction with no further fragment within ACY_TIMEOUT is discarded. -/
  | reassemblyTimeout (t : Ns) (src : Nat) (tid : BitVec 16)
  /-- ADDRESS_FRAME (R342). An unaddressed node adopts an ADDRESS frame at its hop count and echoes it, or the
  controller receives the echo. -/
  | addressFrame (t : Ns) (port : Port) (ingress : Ns) (bytes : Bytes)
  /-- RING_CONFIG (R323). A RING_CONFIG object sets bus cycle, window, port modes and tunnel parameters. -/
  | ringConfig (t : Ns) (org : Origin) (obj : Bytes)
  /-- STATION_CONFIG (R343). A STATION_CONFIG loads a station table entry after the capacity sum. -/
  | stationConfig (t : Ns) (org : Origin) (obj : Bytes)
  /-- IMAGE_MAP (R349). An IMAGE_MAP maps an I/O station's image words to channels from the next bus cycle. -/
  | imageMap (t : Ns) (org : Origin) (obj : Bytes)
  /-- BRANCH_CONFIG (R341). A BRANCH_CONFIG sets a branch node's child ranges and broadcast-pass list. -/
  | branchConfig (t : Ns) (org : Origin) (obj : Bytes)
  /-- NODE_ADDRESS (R445). NODE_ADDRESS sends an ADDRESS frame out of one port and completes on the echo. -/
  | nodeAddress (t : Ns) (org : Origin) (param : Bytes)
  /-- NODE_ADDRESS_RETRY (R445). No echo within ACY_TIMEOUT resends the ADDRESS frame or completes TUNNEL_TIMEOUT. -/
  | nodeAddressRetry (t : Ns)
  /-- PAIR_CONFIG (R360). A PAIR_CONFIG object sets the pair and referee addresses and timing. -/
  | pairConfig (t : Ns) (org : Origin) (obj : Bytes)
  /-- HANDOVER (R385). PAIR_COMMAND HANDOVER starts a planned hand-over of the lead to the shadow. -/
  | handover (t : Ns) (org : Origin) (obj : Bytes)
  /-- DRILL (R384). PAIR_COMMAND DRILL starts a swap drill hand-over. -/
  | drill (t : Ns) (org : Origin) (obj : Bytes)
  /-- RELEASE_SHADOW (R384). PAIR_COMMAND RELEASE_SHADOW takes the shadow OUT. -/
  | releaseShadow (t : Ns) (org : Origin) (obj : Bytes)
  /-- CLEAR_REVERT_LIMIT (R386). PAIR_COMMAND CLEAR_REVERT_LIMIT lets member A request reversion again. -/
  | clearRevertLimit (t : Ns) (org : Origin) (obj : Bytes)
  /-- HEARTBEAT_SEND (R372). At each HB_PERIOD a member or referee sends its HEARTBEAT. -/
  | heartbeatSend (t : Ns)
  /-- HEARTBEAT (R372). A received HEARTBEAT refreshes the sender's loss deadline and reports terms and leads. -/
  | heartbeat (t : Ns) (port : Port) (ingress : Ns) (bytes : Bytes)
  /-- HEARTBEAT_LOSS (R372). No heartbeat within HB_MISS periods loses the sender, and a shadow that lost its lead
  requests a grant. -/
  | heartbeatLoss (t : Ns) (who : HbSender) (receiving : List Ns)
  /-- GRANT_REQUEST (R374). A referee receives a GRANT_REQUEST and denies it or holds it until the lead deadline. -/
  | grantRequest (t : Ns) (ingress : Ns) (bytes : Bytes)
  /-- REFEREE_GRANT_DECISION (R374). At the lead deadline the referee grants the next term, written to MRAM first, or
  denies. -/
  | refereeGrantDecision (t : Ns) (pair : Fin 8)
  /-- FORM_WAIT (R374). 10 s after start or member B's first request a referee may grant formation to member B. -/
  | formWait (t : Ns) (pair : Fin 8)
  /-- GRANT (R375). A member accepts a GRANT with a higher term and takes the lead at K_H. -/
  | grant (t : Ns) (ingress : Ns) (bytes : Bytes)
  /-- DENY (R384). A DENY from a referee ends a pending request, completing a PAIR_COMMAND with HANDOVER_DENIED. -/
  | deny (t : Ns) (ingress : Ns) (bytes : Bytes)
  /-- RELINQUISH (R385). A referee receives RELINQUISH and grants the next term to the shadow with that K_H. -/
  | relinquish (t : Ns) (ingress : Ns) (bytes : Bytes)
  /-- BARRIER (R364). A member receives its partner's BARRIER, fixes the barrier stamp and runs the cycle's step 6. -/
  | barrier (t : Ns) (msg : BarrierMsg)
  /-- OUT_DONE (R367). A member receives the partner's OUT_DONE with its output-write end stamp. -/
  | outDone (t : Ns) (cycle : Nat) (stamp : Int)
  /-- OUTPUT_RELEASE (R367). At the later end stamp plus D_L both members release the cycle's outputs. -/
  | outputRelease (t : Ns)
  /-- IMAGE_FIX (R365). The shadow receives the lead's remote images for stations whose digests differ. -/
  | imageFix (t : Ns) (images : List (Nat × Nat × List Word))
  /-- DIGEST (R370). A member compares the partner's DIGEST with its own for a window. -/
  | digest (t : Ns) (bus : Nat) (crc : BitVec 32)
  /-- RESYNC (R382). A joining member receives a RESYNC state-transfer frame over port L. -/
  | resync (t : Ns) (msg : Machine.ResyncMsg)
  /-- JOIN_TIMEOUT (R382). A join not complete within 300 s records JOIN_TIMEOUT and starts again, or goes OUT after
  three. -/
  | joinTimeout (t : Ns)
  /-- RECORD (R379). The lead stores a shadow's Sepia record arriving in a RECORD frame with FROM_PARTNER set. -/
  | record (t : Ns) (rec : PartnerRec)
  /-- SWAP_DRILL (R381). DRILL_H hours after the last change of lead the lead performs or postpones a swap drill. -/
  | swapDrill (t : Ns)
  /-- REVERT_REQ (R386). Member A in SHADOW for HOLDOFF sets REVERT_REQ and the lead starts a reversion hand-over. -/
  | revertReq (t : Ns)
  /-- SYNC (R392). A Sync is forwarded as transparent clock and its first valid copy feeds the ring-time servo. -/
  | sync (t : Ns) (port : Port) (ingress : Ns) (msg : PtpMsg)
  /-- SYNC_SEND (R394). The grandmaster originates a one-step Sync at each Sync interval. -/
  | syncSend (t : Ns)
  /-- SYNC_LOSS (R391). No Sync accepted for 3 intervals takes a LOCKED node to HOLDOVER. -/
  | syncLoss (t : Ns)
  /-- HOLDOVER_EXPIRY (R391). HOLDOVER_S passes in HOLDOVER and ring time falls to FREE_RUN. -/
  | holdoverExpiry (t : Ns)
  /-- ANNOUNCE (R395). A received Announce is forwarded and enters the best master clock algorithm. -/
  | announce (t : Ns) (port : Port) (ingress : Ns) (msg : PtpMsg) (gm : GmData)
  /-- ANNOUNCE_SEND (R395). A grandmaster sends an Announce each Announce interval. -/
  | announceSend (t : Ns)
  /-- ANNOUNCE_TIMEOUT (R395). A GM_CAPABLE node hearing no better Announce for ANNOUNCE_TIMEOUT intervals becomes
  grandmaster. -/
  | announceTimeout (t : Ns)
  /-- PDELAY_REQ (R396). A port answers a received Pdelay_Req with a one-step Pdelay_Resp. -/
  | pdelayReq (t : Ns) (port : Port) (ingress : Ns) (msg : PtpMsg)
  /-- PDELAY_REQ_SEND (R396). Each port sends Pdelay_Req every 2^LOG_PDELAY s. -/
  | pdelayReqSend (t : Ns) (port : Port)
  /-- PDELAY_RESP (R396). A received Pdelay_Resp updates the port's meanLinkDelay. -/
  | pdelayResp (t : Ns) (port : Port) (ingress : Ns) (msg : PtpMsg)
  /-- PDELAY_INVALID (R396). No valid Pdelay_Resp for 3 intervals marks the port's link delay INVALID. -/
  | pdelayInvalid (t : Ns) (port : Port)
  /-- SHIP_TIME_SET (R400). SHIP_TIME_SET steps ship time once from the host value or at the next PPS_IN edge. -/
  | shipTimeSet (t : Ns) (org : Origin) (obj : Bytes)
  /-- PPS_IN (R404). A PPS_IN rising edge is stamped with ring and ship time and may apply a waiting PPS step. -/
  | ppsIn (t : Ns)
  /-- PPS_MISSING (R400). No PPS_IN edge within 1.5 s completes SHIP_TIME_SET ERROR PPS_MISSING. -/
  | ppsMissing (t : Ns)
  /-- SHIP_TIME_SLEW (R403). SHIP_TIME_SLEW starts adding an offset at RATE, superseding a running slew. -/
  | shipTimeSlew (t : Ns) (org : Origin) (obj : Bytes)
  /-- SLEW_END (R403). The whole offset has been added and SHIP_TIME_SLEW completes DONE. -/
  | slewEnd (t : Ns)
  /-- TIME_CONFIG (R406). TIME_CONFIG sets PTP and PPS parameters from the next Sync interval. -/
  | timeConfig (t : Ns) (org : Origin) (obj : Bytes)
  /-- PPS_OUT (R405). At each whole second of the chosen time base PPS_OUT rises for PPS_WIDTH. -/
  | ppsOut (t : Ns)
  /-- AON_SHIP_TIME_COPY (R399). Once per second TIM copies ship time into AON. -/
  | aonShipTimeCopy (t : Ns)
  /-- SQ_TAIL_DOORBELL (R416). A write to an SQ tail doorbell posts descriptors for fetching. -/
  | sqTailDoorbell (t : Ns) (n : Fin 8) (value : Word)
  /-- CQ_HEAD_DOORBELL (R417). A write to a CQ head doorbell frees completion entries. -/
  | cqHeadDoorbell (t : Ns) (n : Fin 8) (value : Word)
  /-- EQ_HEAD_DOORBELL (R417). A write to the EQ head doorbell frees event entries. -/
  | eqHeadDoorbell (t : Ns) (value : Word)
  /-- DESCRIPTOR_FETCH (R426). When a tag is free HIF fetches a descriptor by class order and checks it. -/
  | descriptorFetch (t : Ns) (desc : Option Bytes) (data : Option Bytes)
  /-- DESCRIPTOR_START (R429). HIF hands a fetched descriptor to its island once any fence has cleared. -/
  | descriptorStart (t : Ns) (id : Nat)
  /-- COMPLETION_WRITE (R432). At commit HIF writes the result and the completion to the bound CQ when it has room. -/
  | completionWrite (t : Ns) (id : Nat)
  /-- COALESCING_TIMEOUT (R423). COAL_US after the first unsignalled entry the MSI-X message is sent. -/
  | coalescingTimeout (t : Ns) (q : Fin 9)
  /-- EVENT_POST (R441). An event is written to the EQ when it has room, or held up to 256. -/
  | eventPost (t : Ns) (type : BitVec 16) (inst : Nat) (data : Bytes)
  /-- NOP (R425). A NOP descriptor completes without effect. -/
  | nop (t : Ns) (org : Origin)
  /-- STATE_READ (R443). STATE_READ returns a consistent copy of a state-map object or field. -/
  | stateRead (t : Ns) (org : Origin) (param : Bytes)
  /-- HIF_SQ_CTL_WRITE (R559). A write to HIF_SQn_CTL enables or disables a submission queue. -/
  | hifSqCtlWrite (t : Ns) (n : Fin 8) (value : Word)
  /-- HIF_CQ_CTL_WRITE (R559). A write to HIF_CQn_CTL enables, disables or retunes a completion queue. -/
  | hifCqCtlWrite (t : Ns) (n : Fin 8) (value : Word)
  /-- HIF_EQ_CTL_WRITE (R559). A write to HIF_EQ_CTL enables, disables or retunes the event queue. -/
  | hifEqCtlWrite (t : Ns) (value : Word)
  /-- HIF_SOFT_RESET (R446). Writing SOFT_RESET in HIF_CTL resets HIF and every queue register. -/
  | hifSoftReset (t : Ns) (value : Word)
  /-- FUNCTION_LEVEL_RESET (R446). A PCIe function-level reset resets HIF only. -/
  | functionLevelReset (t : Ns)
  /-- PERST_N (R446). PERST_N going low resets HIF only. -/
  | perstN (t : Ns)
  /-- D3HOT_ENTRY (R414). Entry into D3hot resets HIF if queues are enabled and WAKE_N follows held events. -/
  | d3hotEntry (t : Ns)
  /-- D0_RETURN (R414). The function's return to D0 releases WAKE_N and makes HOST ON. -/
  | d0Return (t : Ns)
  /-- UNSUPPORTED_REQUEST (R412). A BAR access other than aligned 32-bit completes with Unsupported Request and
  changes nothing. -/
  | unsupportedRequest (t : Ns) (bar offset size : Nat)
  /-- REGISTER_WRITE (R539). A BAR0 write to a register without a row of its own stores or ignores the value by its
  access code. -/
  | registerWrite (t : Ns) (offset : Nat) (value : Word)
  /-- MB_DATA_WRITE (R454). A sender's write to MB_DATA is stored while GO is 0, or ignored and counted. -/
  | mbDataWrite (t : Ns) (who : Ident) (n : Fin 32) (j : Fin 16) (value : Word)
  /-- MB_POST (R460). A sender writes GO 1, and the hub posts the message or refuses it with POST_ERR. -/
  | mbPost (t : Ns) (who : Ident) (n : Fin 32)
  /-- MB_TAKE (R461). A receiver writes GO 0, and the hub sets TAKEN and the taken stamp. -/
  | mbTake (t : Ns) (who : Ident) (n : Fin 32)
  /-- WITHDRAW (R463). A sender writes WITHDRAW, and the hub withdraws an untaken message or sets WD_LATE. -/
  | withdraw (t : Ns) (who : Ident) (n : Fin 32)
  /-- ACK_EXPIRED (R466). No take by the acknowledgement deadline sets ACK_EXPIRED. -/
  | ackExpired (t : Ns) (due : AckDue)
  /-- MB_BIND_WRITE (R458). A write to MB_BINDn binds a channel's sender and receiver, or is ignored with BIND_ERR. -/
  | mbBindWrite (t : Ns) (n : Fin 32) (value : Word)
  /-- DOMAIN_POWER (R469). DOMAIN_POWER puts an on-chip domain ON, SLEEP or OFF. -/
  | domainPower (t : Ns) (org : Origin) (param : Bytes)
  /-- RECORD_FLASH_COPY (R479). REC copies a journal record to flash, checks it and writes its valid mark. -/
  | recordFlashCopy (t : Ns) (good : Bool)
  /-- SECTOR_ERASE_END (R480). A recorder sector erase finishes and the sector becomes available. -/
  | sectorEraseEnd (t : Ns) (ok : Bool)
  /-- REC_SNAPSHOT (R483). REC_SNAPSHOT seals a range of records for reading. -/
  | recSnapshot (t : Ns) (org : Origin)
  /-- REC_READ (R484). REC_READ returns whole records of a sealed snapshot from a sequence number. -/
  | recRead (t : Ns) (org : Origin) (param : Bytes) (max : Nat)
  /-- CONFIG_SAVE_START (R491). Within 100 ms after a stored object takes effect a configuration save starts. -/
  | configSaveStart (t : Ns)
  /-- STORE_SAVE_COMPLETE (R487). A two-bank save writes MAGIC last and is complete. -/
  | storeSaveComplete (t : Ns) (store : Fin 2)
  /-- SAVE_RETAINED (R498). STORE_COMMAND SAVE_RETAINED makes a retained save now. -/
  | saveRetained (t : Ns) (org : Origin) (param : Bytes)
  /-- SAVE_CONFIG (R498). STORE_COMMAND SAVE_CONFIG makes a configuration save now. -/
  | saveConfig (t : Ns) (org : Origin) (param : Bytes)
  /-- CLEAR_RETAINED (R619). STORE_COMMAND CLEAR_RETAINED invalidates both retained banks after any running save. -/
  | clearRetained (t : Ns) (org : Origin) (param : Bytes)
  /-- FACTORY_CONFIG (R619). STORE_COMMAND FACTORY_CONFIG invalidates both configuration banks for factory defaults at
  the next reset. -/
  | factoryConfig (t : Ns) (org : Origin) (param : Bytes)
  /-- POWER_FAIL (R495). PWR_FAIL_N or VLOG low for 2 µs stops the program, switches SDOs off and starts the power-
  fail save. -/
  | powerFail (t : Ns)
  /-- VLOG_RETURN_AFTER_FAIL (R497). VLOG returning after a power-fail detection restarts the module as at power-on
  after the steps finish. -/
  | vlogReturnAfterFail (t : Ns)
  /-- HOLDUP_EXHAUSTED (R581). HOLDUP falling to V_min holds the module in reset and the field side falls silent. -/
  | holdupExhausted (t : Ns)
  /-- DISP_CONFIG (R506). DISP_CONFIG sets pulse width, gap, mark segment and VMIN. -/
  | dispConfig (t : Ns) (org : Origin) (obj : Bytes)
  /-- DISP_REGION (R507). DISP_REGION defines, enables or disables a display region. -/
  | dispRegion (t : Ns) (org : Origin) (obj : Bytes)
  /-- DISP_UPDATE (R508). DISP_UPDATE queues a region's new value, superseding a queued one. -/
  | dispUpdate (t : Ns) (org : Origin) (obj : Bytes)
  /-- DISP_BLINK (R511). DISP_BLINK replaces the blink table after the occupancy check. -/
  | dispBlink (t : Ns) (org : Origin) (obj : Bytes)
  /-- DISPLAY_PASS_START (R509). With no pass running and updates queued DISP journals the frame and starts a pass
  with the mark-on phase. -/
  | displayPassStart (t : Ns) (volts : Nat)
  /-- DISPLAY_PHASE_END (R504). A display phase ends and the next phase runs, or the pass completes with its updates.
  -/
  | displayPhaseEnd (t : Ns) (volts : Nat)
  /-- BLINK_TOGGLE (R511). A blink period boundary toggles the blink segments of one frequency and common. -/
  | blinkToggle (t : Ns) (freq : Fin 4) (com : Fin 4)
  /-- DISP_SUPPLY_CHECK (R505). The display supply is checked each second, and after two good checks DISP_SUPPLY
  clears. -/
  | dispSupplyCheck (t : Ns) (volts : Nat)
  /-- POWER_ON (R523). VLOG rising through 2.7 V resets every island and starts self-test. -/
  | powerOn (t : Ns) (vbat : Bool) (straps : Straps) (offTime : Nat)
  /-- RESET_N_LOW (R518). RESET_N low for at least 2 µs holds every island but AON in reset. -/
  | resetNLow (t : Ns)
  /-- RESET_N_RELEASE (R519). RESET_N rises and the module starts up, writing RESET_RELEASE with the low time. -/
  | resetNRelease (t : Ns) (straps : Straps)
  /-- SELFTEST_COMPLETE (R524). Self-test ends, and LOADING recovers the recorder, loads stores, reads the role and
  adopts held groups. -/
  | selftestComplete (t : Ns) (test : SelfTest)
  /-- MASTER_CONFIRM (R529). MASTER_CONFIRM steps ship time where allowed, puts loaded objects in force and may RUN.
  -/
  | masterConfirm (t : Ns) (org : Origin) (obj : Bytes)
  /-- ISLAND_RESET (R522). ISLAND_RESET soft-resets one island. -/
  | islandReset (t : Ns) (org : Origin) (param : Bytes)
  /-- FW_STAGE (R532). FW_STAGE writes a firmware chunk and verifies the image at the LAST chunk. -/
  | fwStage (t : Ns) (org : Origin) (param data : Bytes)
  /-- FW_ACTIVATE (R532). FW_ACTIVATE marks a verified firmware slot as the boot slot. -/
  | fwActivate (t : Ns) (org : Origin) (param : Bytes)
  /-- FW_TRIAL_EXPIRY (R533). A trial slot not reaching WAIT_CONFIRM within 5 s reverts the next boot to the previous
  slot. -/
  | fwTrialExpiry (t : Ns)
  /-- HOLDUP_CHARGED (R582). HOLDUP reaching 0.95 × V_HU enables the power-fail save budget. -/
  | holdupCharged (t : Ns)
  /-- HOLDUP_NOT_CHARGED (R582). HOLDUP not charged within 2 s sets HOLDUP_LOW with cause NOT_CHARGED. -/
  | holdupNotCharged (t : Ns)
  /-- LEDGER_TEST (R536). LEDGER_TEST runs the hold-up capacitance test at once. -/
  | ledgerTest (t : Ns) (org : Origin) (meas : HoldupMeas)
  /-- HOLDUP_TEST (R536). Every 168 h the scheduled hold-up test measures HOLDUP and re-plans T_HU. -/
  | holdupTest (t : Ns) (meas : HoldupMeas)
  /-- LEDGER_MEASUREMENT (R534). At a ledger interval a quantity is measured and its margin re-planned. -/
  | ledgerMeasurement (t : Ns) (inst : Fin 9) (index : Nat) (value : Rat)
  /-- THERMAL_HOURS (R537). Each second the ledger adds the Arrhenius-weighted second to thermal hours. -/
  | thermalHours (t : Ns) (temps : List Nat)
  /-- MORDANT_WRITE (R551). A write of 1 to a MORDANT bit locks its register block until module reset. -/
  | mordantWrite (t : Ns) (value : Word)
  /-- SAFE_EN_WRITE (R545). A write to SAFE_EN changes GROUP_EN bits of unconfigured groups only. -/
  | safeEnWrite (t : Ns) (value : Word)
  /-- TEST_CLR_WRITE (R557). A write of 1 to a TEST_CLR bit clears that test control and writes TEST_CTL_CLEARED. -/
  | testClrWrite (t : Ns) (value : Word)
  /-- TMR_SCRUB (R549). Every 1 ms the scrubber votes each triplicated field. -/
  | tmrScrub (t : Ns) (upsets : List Upset)
  /-- RING_ID_WRITE (R562). A write to RING_NODE_ADDR, RING_ETHERTYPE or a MAC register is stored or refused. -/
  | ringIdWrite (t : Ns) (offset : Nat) (value : Word)
  /-- IMG_KEY_WORD_WRITE (R566). A write to an image key word is stored while KEY_VALID is 0. -/
  | imgKeyWordWrite (t : Ns) (k : Fin 4) (j : Fin 8) (value : Word)
  /-- KEY_VALID_WRITE (R566). Writing KEY_VALID 1 decodes the key within 1 ms, or leaves it 0 with KEY_BAD. -/
  | keyValidWrite (t : Ns) (k : Fin 4) (value : Word)
  /-- JOIN_INHIBIT_WRITE (R565). A write to JOIN_INHIBIT keeps an UNFORMED member from joining or requesting a grant.
  -/
  | joinInhibitWrite (t : Ns) (value : Word)
  /-- GROUP_CONFIGURATION_LOST (R45). A group controller whose L+ falls below 10.0 V while the auxiliary isolated feed
  is absent loses its configuration, and the group behaves as UNCONFIGURED with every output off. -/
  | groupConfigurationLost (t : Ns) (g : Fin 8)
  /-- PERST_N_RELEASE (R446). PERST_N goes high, HIF leaves reset, HIF_STATUS.READY sets within 10 ms and the
  configuration space answers within 100 ms. -/
  | perstNRelease (t : Ns)
  /-- PCIE_LINK_DOWN (R450). The PCIe link goes down, so the HOST domain becomes OFF, posts to HOST are refused and
  WAKE_N follows held events. -/
  | pcieLinkDown (t : Ns)
  /-- PCIE_LINK_UP (R450). The PCIe link returns, and the HOST domain becomes ON again once the function is in D0 with
  HIF_STATUS.READY, keeping its mailbox channels. -/
  | pcieLinkUp (t : Ns) (speed : BitVec 2)
  /-- SERVICE_UART_TEST_CONTROL (R554). Through the service UART in factory test mode, a test control in SAFE_EN
  [31:8] is set or cleared and the module writes TEST_CTL_FOUND for each control set. -/
  | serviceUartTestControl (t : Ns) (g : Fin 8) (ctl : TestCtl) (set : Bool)
deriving DecidableEq, Repr

end Sys2Proof
end

