-- ==== Sys2Proof/Decode.lean ====
section
/-! DEFINITION. The commands that a word of the opcode table spells. The table gives no row any bits: a command comes as a register
access, a descriptor, a frame or an event, never as one word. -/

namespace Sys2Proof

/-- The command a word spells: none, as no row of the table has bits. -/
def decodeTableWord (_nbits _w : Nat) : Option Instr := none

end Sys2Proof
end

