-- ==== Sys2Proof/Machine/Bytes.lean ====
section
/-! DEFINITION. Byte order, bit fields, CRCs and binary floating point, as the manual's formats need them (R7, R46). -/

namespace Sys2Proof.Machine

/-- The number a run of bytes spells, first byte least significant (R7). -/
def leNat : Bytes → Nat
  | [] => 0
  | b :: bs => b.toNat + 256 * leNat bs

/-- The number a run of bytes spells, first byte most significant (Broluma and safety frames). -/
def beNat (bs : Bytes) : Nat := bs.foldl (fun a b => 256 * a + b.toNat) 0

/-- Little-endian field of `n` bytes at byte `off` of an object; missing bytes read 0. -/
def rd (b : Bytes) (off n : Nat) : Nat := leNat ((b.drop off).take n)

/-- Big-endian field of `n` bytes at byte `off`. -/
def rdBe (b : Bytes) (off n : Nat) : Nat := beNat ((b.drop off).take n)

/-- Two's complement reading of a `bits`-bit number. -/
def signed (bits v : Nat) : Int := if v < 2 ^ (bits - 1) then v else (v : Int) - 2 ^ bits

/-- Signed little-endian field. -/
def rdS (b : Bytes) (off n : Nat) : Int := signed (8 * n) (rd b off n)

/-- Bits `hi`..`lo` of a number. -/
def bitsOf (v hi lo : Nat) : Nat := v / 2 ^ lo % 2 ^ (hi + 1 - lo)

/-- Bits `hi`..`lo` of byte `off` of an object. -/
def rdBits (b : Bytes) (off hi lo : Nat) : Nat := bitsOf (rd b off 1) hi lo

/-- `n` bytes of a number, least significant first. -/
def wr : Nat → Nat → Bytes
  | 0, _ => []
  | n + 1, v => BitVec.ofNat 8 v :: wr n (v / 256)

/-- `n` bytes of a number, most significant first. -/
def wrBe (n v : Nat) : Bytes := (wr n v).reverse

/-- `n` bytes of a signed number, two's complement, little-endian. -/
def wrS (n : Nat) (v : Int) : Bytes := wr n (v % (2 : Int) ^ (8 * n)).toNat

/-- Pads with zero bytes to a multiple of four (R443, R490). -/
def pad4 (b : Bytes) : Bytes := b ++ List.replicate ((4 - b.length % 4) % 4) 0

/-- Whether all bytes are zero. -/
def allZero (b : Bytes) : Bool := b.all (· == 0)

/-- Whether bytes `off` to `off + n - 1` are zero. -/
def zeroAt (b : Bytes) (off n : Nat) : Bool := allZero ((b.drop off).take n)

/-- One step of the reflected CRC-32C register. -/
def crc32cBit (r : BitVec 32) : BitVec 32 :=
  if r.getLsbD 0 then (r >>> 1) ^^^ 0x82F63B78 else r >>> 1

/-- One byte of CRC-32C. -/
def crc32cByte (r : BitVec 32) (b : Byte) : BitVec 32 :=
  (List.range 8).foldl (fun x _ => crc32cBit x) (r ^^^ b.setWidth 32)

/-- CRC-32C of a run of bytes (Castagnoli polynomial, initial and final value all ones). -/
def crc32c (b : Bytes) : BitVec 32 := b.foldl crc32cByte 0xFFFFFFFF ^^^ 0xFFFFFFFF

/-- CRC-8 of lane frames over the low `n` bits of a value, most significant first (R46). -/
def crc8 (n : Nat) (v : Nat) : BitVec 8 :=
  ((List.range n).reverse.foldl (fun (r : BitVec 8) i =>
    if r.getLsbD 7 != v.testBit i then (r <<< 1) ^^^ 0x2F else r <<< 1) 0xFF) ^^^ 0xFF

/-- Largest integer whose square is at most `n`, by Newton's step on fuel. -/
def isqrtAux : Nat → Nat → Nat → Nat
  | 0, _, x => x
  | f + 1, n, x => let y := (x + n / x) / 2; if y < x then isqrtAux f n y else x

/-- Integer square root. -/
def isqrt (n : Nat) : Nat := if n = 0 then 0 else isqrtAux (n.log2 + 4) n (2 ^ (n.log2 / 2 + 1))

/-- Rounds a rational to an integer, ties to even. -/
def roundEven (q : Rat) : Int :=
  let f := q.floor
  let r := q - f
  if r < 1 / 2 then f else if (1 / 2 : Rat) < r then f + 1 else if f % 2 = 0 then f else f + 1

/-- Rounds a rational to the nearest integer, ties away from zero. -/
def roundAway (q : Rat) : Int := if 0 ≤ q then (q + 1 / 2).floor else -((-q + 1 / 2).floor)

/-- Power of two with an integer exponent. -/
def pow2 (e : Int) : Rat := if 0 ≤ e then (2 : Rat) ^ e.toNat else 1 / (2 : Rat) ^ (-e).toNat

/-- The exponent of a positive rational: the largest `e` with `2 ^ e ≤ q`. -/
def expOf (q : Rat) : Int :=
  let e : Int := (q.num.toNat.log2 : Int) - q.den.log2
  if pow2 (e + 1) ≤ q then e + 1 else if pow2 e ≤ q then e else e - 1

/-- Rounds to the nearest number of a binary format with `p` significand bits and least exponent `emin`, ties to even. -/
def roundBin (p : Nat) (emin : Int) (q : Rat) : Rat :=
  if q = 0 then 0 else
  let u := pow2 (max (expOf (if q < 0 then -q else q)) emin - (p - 1))
  u * roundEven (q / u)

/-- Nearest binary64 (R201). -/
def round64 (q : Rat) : Rat := roundBin 53 (-1022) q

/-- Nearest binary32. -/
def round32 (q : Rat) : Rat := roundBin 24 (-126) q

/-- The value of a binary format with `eb` exponent and `mb` fraction bits, none for an infinity or a NaN. -/
def decodeBin (eb mb v : Nat) : Option Rat :=
  let m := v % 2 ^ mb
  let e := v / 2 ^ mb % 2 ^ eb
  let s : Rat := if v / 2 ^ (mb + eb) % 2 = 1 then -1 else 1
  let bias : Int := 2 ^ (eb - 1) - 1
  if e = 2 ^ eb - 1 then none
  else if e = 0 then some (s * m * pow2 (1 - bias - mb))
  else some (s * (2 ^ mb + m) * pow2 ((e : Int) - bias - mb))

/-- The code of a number in a binary format; a magnitude past the largest finite number gives an infinity. -/
def encodeBin (eb mb : Nat) (q : Rat) : Nat :=
  let bias : Int := 2 ^ (eb - 1) - 1
  let q' := roundBin (mb + 1) (1 - bias) q
  let a := if q' < 0 then -q' else q'
  let s := if q' < 0 then 2 ^ (eb + mb) else 0
  if a = 0 then s else
  let e := max (expOf a) (1 - bias)
  let m := (a * pow2 (mb - e)).floor.toNat
  if bias < e then s + (2 ^ eb - 1) * 2 ^ mb
  else if m < 2 ^ mb then s + m
  else s + (e + bias).toNat * 2 ^ mb + (m - 2 ^ mb)

/-- binary32 field, none for an infinity or a NaN. -/
def rdF32 (b : Bytes) (off : Nat) : Option Rat := decodeBin 8 23 (rd b off 4)

/-- binary64 field, none for an infinity or a NaN. -/
def rdF64 (b : Bytes) (off : Nat) : Option Rat := decodeBin 11 52 (rd b off 8)

/-- binary32 bytes. -/
def wrF32 (q : Rat) : Bytes := wr 4 (encodeBin 8 23 q)

/-- binary64 bytes. -/
def wrF64 (q : Rat) : Bytes := wr 8 (encodeBin 11 52 q)

/-- Q32.32 field (R239). -/
def rdQ (b : Bytes) (off : Nat) : Rat := (rdS b off 8 : Rat) / 2 ^ 32

/-- Q32.32 bytes, floor of the scaled value. -/
def wrQ (q : Rat) : Bytes := wrS 8 (q * 2 ^ 32).floor

/-- Absolute value of a rational. -/
def absR (q : Rat) : Rat := if q < 0 then -q else q

/-- Clamps to a range. -/
def clampR (lo hi q : Rat) : Rat := if q < lo then lo else if hi < q then hi else q

/-- Square root of a rational to `2^-40`, from below. -/
def sqrtR (q : Rat) : Rat :=
  if q ≤ 0 then 0 else (isqrt (q * 2 ^ 80).floor.toNat : Rat) / 2 ^ 40

/-- Rounds down to a multiple of `2^-64`, so that long products stay short. -/
def trim64 (q : Rat) : Rat := (q * 2 ^ 64).floor / 2 ^ 64

/-- `e^-x` for `x ≥ 0`: the series on `x / 2^k` below one half, then `k` squarings, each kept to `2^-64`. -/
def expNeg (x : Rat) : Rat :=
  if x ≤ 0 then 1 else if 64 < x then 0 else
  let k := x.floor.toNat.log2 + 2
  let y := trim64 (x / 2 ^ k)
  let series := ((List.range 18).foldl (fun (acc : Rat × Rat) n => (acc.1 + acc.2, trim64 (-(acc.2 * y) / (n + 1)))) (0, 1)).1
  (List.range k).foldl (fun e _ => trim64 (e * e)) series

/-- Adds one, saturating at `2^bits - 1` (counts of R613). -/
def satAdd (bits a b : Nat) : Nat := min (a + b) (2 ^ bits - 1)

end Sys2Proof.Machine
end

