-- ==== Sys2Proof/Machine/StateHost.lean ====
section
/-! DEFINITION. State of the host interface, the set-up registers and the mailboxes (chapters 12, 13 and 17). -/

namespace Sys2Proof.Machine

/-! ### The host interface (12_host_interface.md, R558 to R568 of 17_register_reference.md) -/

/-- A descriptor that holds a tag (R424, R427, R429, R436). -/
structure Tag where
  /-- serial number in order of fetch -/
  id : Nat
  sq : Fin 8
  /-- priority class of the queue when it was fetched -/
  cls : BitVec 2 := 0
  desc : Bytes
  /-- the DATA object, none while it has not been read or could not be read (R426 step 4) -/
  data : Option Bytes := none
  /-- ring-time stamp of the doorbell that covered it -/
  accepted : Int
  /-- ring-time stamp of its start -/
  started : Option Int := none
  /-- outcome reached and clock time of the commit, while its completion is not yet written (R432) -/
  outcome : Option (Outcome × Ns) := none
deriving DecidableEq, Repr

/-- A report kept over a reset of HIF (R447). -/
structure AbortReport where
  id : Nat
  sq : Fin 8
  /-- ring-time stamp of the reset -/
  stamp : Int
  cookie : BitVec 32
  opcode : BitVec 16
  deadline : Option (BitVec 64)
  /-- disposition and status, none while the descriptor is still running -/
  reached : Option (BitVec 4 × BitVec 16)
deriving DecidableEq, Repr

/-- One submission queue with its registers (R415 to R422, R558, R559, R448). -/
structure Sq where
  base : BitVec 64 := 0
  log2 : BitVec 4 := 0
  cls : BitVec 2 := 0
  cq : Fin 8 := 0
  enable : Bool := false
  head : Nat := 0
  /-- tail as last accepted, the doorbell value (R419) -/
  tail : Nat := 0
  /-- ring-time stamp of the covering doorbell of each posted descriptor, oldest first (R436) -/
  posted : List Int := []
  fetched : Nat := 0
  /-- completions per disposition (R448) -/
  dispCount : Vector Nat 8 := Vector.replicate 8 0
  waitLast : Nat := 0
  waitMax : Nat := 0
  waitCookie : BitVec 32 := 0
  /-- doorbell writes ignored, and HIF_QUEUE_ERR bits seen (R448) -/
  ignored : Nat := 0
  errSeen : BitVec 5 := 0
deriving DecidableEq, Repr

/-- A completion queue or the event queue with its registers (R415 to R423, R558, R559, R448). -/
structure Cq where
  base : BitVec 64 := 0
  log2 : BitVec 4 := 0
  vector : Fin 16 := 0
  coalCount : BitVec 9 := 1
  coalUs : BitVec 14 := 0
  enable : Bool := false
  /-- head as last accepted, the doorbell value -/
  head : Nat := 0
  tail : Nat := 0
  phase : Bool := true
  /-- entries written and not yet signalled, and the clock time of the first of them (R423) -/
  unsignalled : Nat := 0
  firstAt : Option Ns := none
  written : Nat := 0
  full : Nat := 0
  lastWrite : Int := 0
  ignored : Nat := 0
  errSeen : BitVec 5 := 0
deriving DecidableEq, Repr

/-- One MSI-X vector: table entry and pending bit (R411, R423, R568). -/
structure Msix where
  addr : BitVec 64 := 0
  data : Word := 0
  masked : Bool := true
  pending : Bool := false
deriving DecidableEq, Repr

/-- An event (R439, R440), held or written. -/
structure Event where
  type : BitVec 16
  inst : Nat
  seq : BitVec 32
  stamp : Int
  /-- the twelve DATA bytes 16 to 27 -/
  data : Bytes
deriving DecidableEq, Repr

/-- The host interface (R411 to R449). -/
structure Hif where
  ready : Bool := false
  /-- PERST_N low -/
  perstLow : Bool := false
  d3hot : Bool := false
  /-- 0b01 2.5 GT/s, 0b10 5.0 GT/s, 0b00 down -/
  linkSpeed : BitVec 2 := 0
  /-- the link went down since the last reset of HIF (R453) -/
  linkLost : Bool := false
  wakeN : Bool := true
  /-- HIF_QUEUE_ERR [4:0] and LAST_QUEUE -/
  err : BitVec 5 := 0
  lastQueue : BitVec 5 := 0
  sqs : Vector Sq 8 := Vector.replicate 8 {}
  cqs : Vector Cq 8 := Vector.replicate 8 {}
  eq : Cq := {}
  msix : Vector Msix 16 := Vector.replicate 16 {}
  /-- tags held, in order of fetch -/
  tags : List Tag := []
  nextId : Nat := 0
  /-- last SQ served in each class (R428) -/
  lastServed : Vector (Fin 8) 4 := Vector.replicate 4 7
  held : List Event := []
  discarded : Nat := 0
  eventSeq : BitVec 32 := 0
  reports : List AbortReport := []
  /-- the EQ has been enabled since the reset that made the reports (R447) -/
  reporting : Bool := false
deriving DecidableEq, Repr

/-! ### Set-up registers (17_register_reference.md) -/

/-- A triplicated register: three stored copies (R548). -/
structure Tmr where
  c0 : Word := 0
  c1 : Word := 0
  c2 : Word := 0
deriving DecidableEq, Repr

/-- The set-up registers that are not held by HIF or the mailbox hub (R539 to R567). -/
structure Regs where
  /-- MOD_ROLE.ROLE, 0xF before LOADING ends -/
  role : Tmr := ⟨0xF, 0xF, 0xF⟩
  storedRole : BitVec 4 := 0xF
  failDir : Bool := false
  pairId : BitVec 3 := 0
  mordant : Tmr := {}
  tmrFix : Word := 0
  tmrLast : Word := 0
  /-- SAFE_EN.GROUP_EN and the test controls SAFE_EN [31:8] -/
  groupEn : Tmr := {}
  testCtl : BitVec 24 := 0
  /-- MOD_ERR [3:0] and LAST_OFFSET -/
  modErr : BitVec 4 := 0
  lastOffset : BitVec 16 := 0
  chown : Vector Tmr 16 := Vector.replicate 16 {}
  nodeAddr : Tmr := {}
  etherType : BitVec 16 := 0x88B5
  macA : BitVec 48 := Config.factoryMac 0
  macB : BitVec 48 := Config.factoryMac 1
  macL : BitVec 48 := Config.factoryMac 2
  tsTx : Vector (BitVec 10) 3 := Vector.replicate 3 96
  tsRx : Vector (BitVec 10) 3 := Vector.replicate 3 208
  joinInhibit : Bool := false
  /-- IMG_KEYk_Wj -/
  imgKey : Vector (Vector Word 8) 4 := Vector.replicate 4 (Vector.replicate 8 0)
  keyValid : BitVec 4 := 0
  keyBad : BitVec 4 := 0
deriving DecidableEq, Repr

/-- One mailbox channel (R452 to R468, R471). -/
structure Mailbox where
  data : Vector (BitVec 32) 16 := Vector.replicate 16 0
  withdrawn : Bool := false
  wdLate : Bool := false
  postErr : Bool := false
  crossed : Bool := false
  taken : Bool := false
  ackExpired : Bool := false
  go : Bool := false
  sndEpoch : BitVec 8 := 0
  rcvEpoch : BitVec 8 := 0
  cause : BitVec 4 := 0
  sender : BitVec 4 := 0
  receiver : BitVec 4 := 0
  postStamp : Nat := 0
  takenStamp : Nat := 0
  ackTo : BitVec 32 := 0
  posts : BitVec 16 := 0
  refusedPosts : BitVec 16 := 0
  /-- clock time of the post, and of the armed acknowledgement deadline (R464, R466) -/
  postedAt : Ns := 0
  deadline : Option Ns := none
  takenAt : Option Ns := none
  /-- a withdrawal asked of the partner, which holds the message (R462, R463) -/
  wdPending : Bool := false
deriving DecidableEq, Repr

/-- The mailbox hub (R450 to R472). -/
structure MbHub where
  boxes : Vector Mailbox 32 := Vector.replicate 32 {}
  /-- MB_BIND0 to MB_BIND31, three stored copies each (R11, R458) -/
  bind : Vector Tmr 32 := Vector.replicate 32 {}
  /-- epochs of HOST, SVC, PRG0, PRG1, CTL, MOT, RNG, PARTNER, SAF -/
  epochs : Vector (BitVec 8) 9 := Vector.replicate 9 0
  domains : Vector Dom 9 := #v[.off, .on, .on, .on, .on, .on, .on, .off, .on]
  accessErr : BitVec 32 := 0
  notBound : Bool := false
  bindErr : Bool := false
  /-- DOMAIN_POWER in progress: identity index, target, origin, clock time of acceptance -/
  power : List (Fin 9 × Dom × Origin × Ns) := []
  toPartner : List MbEvent := []
  /-- mailboxes of sender SAF whose post waits for a take (R470) -/
  safPending : List (Fin 32) := []
deriving DecidableEq, Repr

end Sys2Proof.Machine
end

