-- ==== Sys2Proof/Machine/StateStore.lean ====
section
/-! DEFINITION. State of the recorder, the stores, the display, and the module as a whole (chapters 14 to 16). -/

namespace Sys2Proof.Machine

/-- A configuration entry (R490). -/
structure CfgEntry where
  opcode : BitVec 16
  inst : Nat
  obj : Bytes
deriving DecidableEq, Repr

/-- What a configuration bank holds beside its entries (R490, R542). -/
structure StoredRegs where
  role : BitVec 4 := 0xF
  nodeAddr : Word := 0
  groupEn : Word := 0
  etherType : BitVec 16 := 0x88B5
  mac : Vector (BitVec 48) 3 := #v[Config.factoryMac 0, Config.factoryMac 1, Config.factoryMac 2]
  tsTx : Vector (BitVec 10) 3 := Vector.replicate 3 96
  tsRx : Vector (BitVec 10) 3 := Vector.replicate 3 208
  imgKey : Vector (Vector Word 8) 4 := Vector.replicate 4 (Vector.replicate 8 0)
  keyValid : BitVec 4 := 0
  bind : Vector Word 32 := Vector.replicate 32 0
  marker : Option (Fin 2) := none
  term : BitVec 32 := 0
  epoch : BitVec 32 := 0
deriving DecidableEq, Repr

/-- The payload of a bank (R490, R492). -/
inductive StorePayload where
  | empty
  | config (entries : List CfgEntry) (regs : StoredRegs)
  | retained (b : Boundary)
deriving DecidableEq, Repr

/-! ### Recorder, stores and display (14_recorder_and_stores.md, 15_display.md) -/

/-- A record in the intake, in the journal or in flash (R475). -/
structure RecEntry where
  seq : BitVec 32
  source : Isl
  /-- TYPE: area and item (R477) -/
  kind : RecKind
  /-- content items, in the order the rule that calls for the record names them -/
  items : List Int
  opSeconds : Nat
  powerCycles : Nat
  /-- ship time, none while not SET -/
  shipTime : Option Int
  length : Nat
  restored : Bool := false
  fromPartner : Bool := false
deriving DecidableEq, Repr

/-- A flash sector of the recorder (R480, R502). -/
structure RSector where
  erases : Nat := 0
  /-- SEQ of the first record, none while erased -/
  first : Option (BitVec 32) := none
  erased : Bool := true
  retired : Bool := false
  /-- spare sector mapped in its place -/
  spare : Option Nat := none
deriving DecidableEq, Repr

/-- A record lying in flash with its place and valid mark (R479). -/
structure FlashRec where
  entry : RecEntry
  sector : Fin 512
  marked : Bool
deriving DecidableEq, Repr

/-- A sealed snapshot (R483). -/
structure RecSnap where
  id : Nat
  first : BitVec 32
  last : BitVec 32
  stamp : Int
deriving DecidableEq, Repr

/-- The Sepia recorder (R31, R473 to R485, R501, R502). -/
structure Recorder where
  /-- accepted records whose valid mark is not yet written, oldest first: intake and journal (R478) -/
  intake : List RecEntry := []
  nextSeq : BitVec 32 := 1
  /-- drop counts since the last RECORDS_DROPPED, per island -/
  dropped : Vector Nat 11 := Vector.replicate 11 0
  droppedTotal : Vector Nat 11 := Vector.replicate 11 0
  flash : List FlashRec := []
  sectors : Vector RSector 512 := Vector.replicate 512 {}
  /-- write position: sector and byte offset -/
  sector : Fin 512 := 0
  offset : Nat := 32
  /-- sector being erased, and the clock time the erase started -/
  erasing : Option (Fin 512 × Ns) := none
  spares : Nat := 128
  snaps : List RecSnap := []
  nextSnap : Nat := 1
  torn : Nat := 0
  restored : Nat := 0
  overwritten : Nat := 0
  /-- records of a shadow not yet sent to a lead (R379) -/
  unsent : List PartnerRec := []
deriving DecidableEq, Repr

/-- What asked for a save (R146, R488, R498). -/
inductive SaveCause where
  | interval | stop | exchange | command | change | afterSwitch | powerFail
deriving DecidableEq, Repr

/-- One bank of a store (R486). -/
structure Bank where
  valid : Bool := false
  seq : BitVec 32 := 0
  payload : StorePayload := .empty
  crc : BitVec 32 := 0
  length : Nat := 0
  stamp : Int := 0
deriving DecidableEq, Repr

/-- A save, running or waiting (R487, R488). -/
structure Save where
  causes : List SaveCause
  orgs : List Origin := []
  /-- CRC-32C of the payload -/
  crc : BitVec 32 := 0
  start : Ns
  payload : StorePayload
  length : Nat
  target : Fin 2
  cycle : Nat := 0
  /-- changes covered: value of SAVED_SEQ after it -/
  covers : Nat := 0
deriving DecidableEq, Repr

/-- One two-bank store (R486 to R498, R500, R619). -/
structure Store where
  banks : Vector Bank 2 := Vector.replicate 2 {}
  inUse : Option (Fin 2) := none
  lost : Bool := false
  running : Option Save := none
  waiting : List (SaveCause × Option Origin) := []
  /-- change counter and SAVED_SEQ (R491), stamp and clock time of the oldest change not yet saved -/
  changeSeq : Nat := 0
  savedSeq : Nat := 0
  oldest : Option (Int × Ns) := none
  /-- the oldest change made while a save runs -/
  newer : Option (Int × Ns) := none
  /-- CLEAR_RETAINED or FACTORY_CONFIG waiting for the running save, and saves held back (R619) -/
  clearWait : Option Origin := none
  heldBack : Bool := false
  command : Option Origin := none
  lastCause : Option SaveCause := none
  lastCycle : Nat := 0
  lastDurUs : Nat := 0
  lastOk : Bool := true
  lastSize : Nat := 0
  saves : Nat := 0
  failed : Nat := 0
  skipped : Nat := 0
  overBudget : Bool := false
  saveFailed : Bool := false
deriving DecidableEq, Repr

/-- DISP_CONFIG in force (R506). -/
structure DispCfg where
  pulseMs : Nat := 100
  gapMs : Nat := 20
  mark : Fin 96 := 95
  /-- 0.1 V -/
  vmin : Nat := 200
deriving DecidableEq, Repr

/-- One phase of a pass (R504, R509). -/
structure Phase where
  on : Bool
  com : Fin 4
  /-- segments changed, bit b for segment b -/
  segs : BitVec 96
deriving DecidableEq, Repr

/-- A pass running (R509, R514). -/
structure Pass where
  phases : List Phase
  /-- phases already run -/
  index : Nat := 0
  frame : BitVec 96
  updates : List (Origin × Fin 16) := []
  start : Int := 0
  phaseStart : Ns := 0
  redrive : Bool := false
deriving DecidableEq, Repr

/-- One blink entry (R511). -/
structure Blink where
  segment : Fin 96
  freq : Fin 4
  duty : Nat
  /-- the segment shows the inverse of its frame value, and the clock time it has shown the present value since -/
  inverse : Bool := false
  since : Ns := 0
deriving DecidableEq, Repr

/-- One display journal slot (R512). -/
structure DispSlot where
  valid : Bool := false
  seq : BitVec 32 := 0
  complete : Bool := false
  frame : BitVec 96 := 0
deriving DecidableEq, Repr

/-- The front-panel display (R503 to R515). -/
structure Display where
  cfg : DispCfg := {}
  regions : Vector (Option (BitVec 96)) 16 := Vector.replicate 16 none
  queued : Vector (Option (Origin × BitVec 96)) 16 := Vector.replicate 16 none
  pass : Option Pass := none
  frame : BitVec 96 := 0
  /-- what the panel shows, segment by segment -/
  panel : BitVec 96 := 0
  blink : List Blink := []
  blinkPending : Option (Origin × List Blink) := none
  supply : Bool := false
  /-- last VDISP_H - VDISP_L in 0.1 V, and good checks in a row -/
  volts : Nat := 0
  goodChecks : Nat := 0
  journal : Vector DispSlot 2 := Vector.replicate 2 {}
  /-- a re-drive is due, for 0 a start-up, 1 a return of the supply, 2 a soft reset (R505, R514) -/
  redriveDue : Option (Fin 3) := none
  passes : Nat := 0
  phaseCount : Nat := 0
  superseded : Nat := 0
  dropped : Nat := 0
  redrives : Nat := 0
deriving DecidableEq, Repr

/-! ### Reset, start-up, health, firmware, ledger (16_reset_startup_ageing.md) -/

/-- Module states, in the order of R530. -/
inductive ModState where
  | reset | selftest | loading | waitConfirm | service | fatal
deriving DecidableEq, Repr

/-- Health levels, with the codes of MOD_STATUS.HEALTH. -/
inductive Health where
  | ok | warning | degraded | fault
deriving DecidableEq, Repr

/-- Causes of a reset (R516, R517). -/
inductive ResetCause where
  | powerOn | resetN | tmr | timStall | svcStall | hif | islandReset
deriving DecidableEq, Repr

/-- One firmware slot (R532). -/
structure FwSlot where
  state : SlotState := .empty
  bytes : Bytes := []
  failing : Nat := 0
deriving DecidableEq, Repr

/-- One ledger quantity (R534, R538). -/
structure LedgerEntry where
  last : Option (Rat × Int) := none
  worst : Option (Rat × Int) := none
  margin : Option Rat := none
  marginStamp : Option Int := none
  warning : Bool := false
  /-- the last values with their stamps, newest first, at most one a day and at most 64 -/
  history : List (Rat × Int) := []
  /-- per channel, lane, sector or clock: index, value -/
  detail : List (Nat × Rat) := []
  /-- OP_SECONDS and value, at most one a day and at most 91, newest first, for the forecast (R537) -/
  trend : List (Nat × Rat) := []
deriving DecidableEq, Repr

/-- The module as a whole: reset, start-up, health, firmware, hold-up, ledger (R516 to R538, R571 to R577). -/
structure Module where
  state : ModState := .selftest
  /-- health conditions in force as the last change left them -/
  health : Health := .ok
  /-- role decoded from the strap at reset, none on a reserved code; conflict of R2 -/
  strapped : Option Role := none
  conflict : Bool := false
  safeRestart : Bool := false
  safeCause : Option ResetCause := none
  lastReset : ResetCause := .powerOn
  powerCycles : BitVec 32 := 0
  resetCount : BitVec 32 := 0
  /-- RESET_N low time in 1/32,768 s, saturating -/
  lowTime : BitVec 32 := 0
  lowAtPowerOff : Bool := false
  /-- OFF_TIME in s, none while unknown -/
  offTime : Option Nat := none
  testMode : Bool := false
  selftest : Option SelfTest := none
  selftestMs : Nat := 0
  prgFailed : Bool := false
  /-- clock time zero of the start-up (R523) -/
  timeZero : Ns := 0
  /-- RESET_N low since, and end of the 20 ms the module drives it low -/
  lowSince : Option Ns := none
  drivenUntil : Option Ns := none
  lastSvcStall : Option Ns := none
  /-- the configuration entries loaded and waiting for confirmation, and the header of their bank (R523, R527) -/
  loaded : List CfgEntry := []
  loadedCrc : BitVec 32 := 0
  loadedSeq : BitVec 32 := 0
  /-- objects in force that the configuration store holds (R490) -/
  inForce : List CfgEntry := []
  /-- MASTER_CONFIRM in progress: origin and groups still to settle -/
  confirming : Option (Origin × List (Fin 8)) := none
  /-- PWR_FAIL_N or VLOG low: clock time of the detection (R494) -/
  failAt : Option Ns := none
  vlogBack : Bool := false
  /-- the lane hub sends no frames any more (R495) -/
  lanesStopped : Bool := false
  /-- VLOG present -/
  powered : Bool := true
  /-- terms a referee has granted, by pair address, in MRAM (R361) -/
  refTerms : List (Nat × BitVec 32) := []
  charged : Bool := false
  fw : Vector FwSlot 2 := #v[⟨.running, Config.factoryFw, 0⟩, ⟨.verified, Config.factoryFw, 0⟩]
  fwBoot : Fin 2 := 0
  fwRunning : Fin 2 := 0
  fwTrial : Bool := false
  fwPrevious : Fin 2 := 0
  fwStaging : Option Nat := none
  /-- OP_SECONDS (R534 instance 8), and the second within which the present tick lies -/
  opSeconds : Nat := 0
  ledger : Vector LedgerEntry 9 := Vector.replicate 9 {}
  /-- worst on-resistance ratio per channel (R534 instance 0) -/
  rWorst : Vector Rat 128 := Vector.replicate 128 1
  /-- T_HU in ms (R536), T_LIM in °C (R93), ages of the last test -/
  tHu : Rat := 10
  tLim : Nat := 150
  /-- retry margin and degraded threshold per lane of R534 instance 4: 128 channel lanes -/
  retry : Vector Nat 128 := Vector.replicate 128 2
  retryLowSince : Vector (Option Ns) 128 := Vector.replicate 128 none
  degradedBefore : Vector Bool 128 := Vector.replicate 128 false
  /-- drift in ppm of the 11 island clocks and the 8 field-side clocks: clock time and value of the measurements of the last
  two days (R534 instance 5) -/
  drift : Vector (List (Ns × Rat)) 19 := Vector.replicate 19 []
  /-- HOLDUP_LOW with cause NOT_CHARGED (R582) -/
  notCharged : Bool := false
  /-- the ledger's copies of POWER_CYCLES and RESET_COUNT (R499) -/
  cyclesCopy : BitVec 32 := 0
  resetsCopy : BitVec 32 := 0
  /-- the module drove the last RESET_N (R519) -/
  drove : Bool := false
  thermalHours : Rat := 0
  /-- ISLAND_RESET in progress: island and origin (R522) -/
  resets : List (Isl × Origin) := []
  /-- clock time at which VLOG fell, for the ship time of AON (R399) -/
  offAt : Option Ns := none
deriving DecidableEq, Repr

end Sys2Proof.Machine
end

