-- ==== Sys2Proof/Machine/State.lean ====
section
/-! DEFINITION. The whole state of the module, the state after reset, and the reasons a command can stop with. -/

namespace Sys2Proof.Machine

/-- Why a command stops the model. No rule of the manual stops the module, so nothing raises this. -/
inductive Fault where
  /-- Reserved for a stop the manual would name. Raised by no command: safe. -/
  | stopped
deriving DecidableEq, Repr

/-- Why a command has no meaning. -/
inductive Refusal where
  /-- The command's meaning is not written yet; raised by its arm of `exec` alone: safe, no claim can be proved of it. -/
  | notModelled (mnemonic : String)
deriving DecidableEq, Repr

/-- What the latest command sends out of the module or across it (R413, R27, R324, R423). -/
inductive Emission where
  /-- a completion written to a CQ: queue, index, the sixteen bytes -/
  | completion (cq : Fin 8) (index : Nat) (bytes : Bytes)
  /-- a result written at RESULT_ADDR -/
  | result (addr : BitVec 64) (bytes : Bytes)
  /-- an event written to the EQ: index, the 32 bytes -/
  | event (index : Nat) (bytes : Bytes)
  /-- an MSI-X message -/
  | msix (vector : Fin 16)
  /-- the identity the function presents in its configuration space: vendor, device, revision, class code, subsystem vendor,
  subsystem (R605) -/
  | configSpace (vendor device : BitVec 16) (revision : BitVec 8) (cls : BitVec 24) (subVendor subsystem : BitVec 16)
  /-- a register or doorbell access completed with Unsupported Request (R412) -/
  | unsupported
  /-- a channel's output frame, a group's output frame -/
  | laneOut (ch : Fin 128) (frame : BitVec 256)
  | groupOut (g : Fin 8) (frame : BitVec 256)
  /-- a channel's input frame, a group's input frame -/
  | laneIn (ch : Fin 128) (frame : BitVec 256)
  | groupIn (g : Fin 8) (frame : BitVec 256)
  /-- a transfer delivered to an island (R16) -/
  | delivered (dst : Isl) (x : Transfer)
  /-- a crossing error returned to an island (R18) -/
  | crossingError (src dst : Isl) (code : CrossCode)
  /-- a Broluma frame originated: ports, header and payload with its PCRC (R324) -/
  | frame (ports : List Port) (bytes : Bytes)
  /-- a frame forwarded out of a port, with its hop count changed (R325, R332) -/
  | forwarded (port : Port) (frame : WireFrame)
  /-- a PTP message sent: port, message type (R394), message and data set -/
  | ptp (port : Port) (kind : BitVec 4) (msg : PtpMsg) (gm : Option GmData)
  /-- a completed tunnel transaction's response held for its source -/
  | hart (ch : Fin 128) (bytes : Bytes)
  /-- an output of the program to a remote station's word, for the next window -/
  | remoteOut (station word : Nat) (value : Word)
  /-- a level on a pin: RESET_N driven, WAKE_N, LED, PPS_OUT -/
  | pin (name : String) (level : Bool)
  /-- a state-map or register read answered to the master that asked -/
  | answer (bytes : Bytes)
  /-- a pulse on the panel: its common, its kind and the segments it selects (R504) -/
  | displayPhase (p : Phase)
  /-- an AXIS_NOTIFY, a mailbox doorbell or another report to an identity (R450) -/
  | doorbell (dest : Ident) (mb : Fin 32) (taken : Bool)
  /-- lateral frames to the partner (R362): BARRIER, OUT_DONE, IMAGE_FIX, DIGEST, RESYNC, RECORD -/
  | barrier (m : BarrierMsg)
  | outDone (cycle : Nat) (stamp : Int)
  | imageFix (images : List (Nat × Nat × List Word))
  | digest (bus : Nat) (crc : BitVec 32)
  | resync (m : ResyncMsg)
  | partnerRecord (r : PartnerRec)
deriving DecidableEq, Repr

/-- An expiry decision waiting for the frames that were still in reception at the deadline, with their ingress stamps (R41). -/
structure Deferred where
  which : Timeout
  deadline : Ns
  receiving : List Ns
deriving DecidableEq, Repr

/-- The HPS-128 module. Each field names the rules that give it; the values after `:=` are those after reset. -/
structure State where
  /-- the module clock: the time of the latest command, in ns; it never steps -/
  clock : Ns := 0
  /-- tick boundaries passed (R27) -/
  tick : Nat := 0
  /-- clock time of the last tick boundary -/
  tickAt : Ns := 0
  /-- SEQ of the lane frames of the present tick (R46) -/
  laneSeq : BitVec 8 := 0
  /-- off-pulse rounds completed (R66) -/
  pulseRound : Nat := 0
  /-- the 250 ms round of ring time that began at the last of them (R65, R68) -/
  roundIdx : Int := 0
  islands : Vector Island 11 := Vector.replicate 11 {}
  crossings : List Crossing := []
  deferred : List Deferred := []
  cells : Vector Cell 128 := Vector.replicate 128 {}
  gfes : Vector GroupCtl 8 := Vector.replicate 8 {}
  chans : Vector Chan 128 := Vector.replicate 128 {}
  groups : Vector Group 8 := Vector.replicate 8 {}
  harts : Vector Hart 128 := Vector.replicate 128 {}
  chars : Vector (Option CharTab) 128 := Vector.replicate 128 none
  prg : Program := {}
  xch : Exchange := {}
  loops : Vector Loop 64 := Vector.replicate 64 {}
  overs : Vector Override 8 := Vector.replicate 8 {}
  tune : Tune := {}
  axes : Vector Axis 16 := Vector.replicate 16 {}
  tables : Vector (Option SegTable) 256 := Vector.replicate 256 none
  saf : Saf := {}
  ring : Ring := {}
  pair : Pair := {}
  time : Time := {}
  hif : Hif := {}
  regs : Regs := {}
  mb : MbHub := {}
  recorder : Recorder := {}
  stores : Vector Store 2 := Vector.replicate 2 {}
  disp : Display := {}
  mod : Module := {}
  /-- the model's own counter of free values drawn (log 7) -/
  free : Nat := 0
  /-- what the latest command sent -/
  out : List Emission := []
  /-- commands waiting, first in, first out (the block's own queue) -/
  pending : List Instr := []
deriving DecidableEq, Repr

/-- The module right after reset: the start-up's self-test is running (R523), nothing is configured (R612), and every
register holds the value the manual gives for reset. -/
def State.reset : State := {}

end Sys2Proof.Machine
end

