-- ==== Sys2Proof/Machine/Ops.lean ====
section
/-! DEFINITION. The operations every chapter's commands share: time, emissions, voted registers, records, events,
completions, and updates of one member of a table. -/

namespace Sys2Proof

/-- The index of an island (R37). -/
def Isl.idx : Isl → Fin 11
  | .hif => 0 | .svc => 1 | .prg => 2 | .ctl => 3 | .mot => 4 | .saf => 5
  | .rng => 6 | .tim => 7 | .recorder => 8 | .disp => 9 | .aon => 10

/-- The position of a crossing code (R18, R435). -/
def CrossCode.num : CrossCode → Nat
  | .stalled => 0 | .timeout => 1 | .reset => 2 | .domainOff => 3

/-- Watchdog period of an island in ns (R14). -/
def Isl.watchdog : Isl → Ns
  | .hif => 10000000 | .svc => 100000000 | .prg => 20000000 | .ctl => 200000 | .mot => 200000 | .saf => 1000000
  | .rng => 1000000 | .tim => 100000 | .recorder => 100000000 | .disp => 1000000000 | .aon => 2000000000

/-- Four periods of the island's clock in ns, or 1 µs where that is longer (R17). -/
def Isl.crossTimeout : Isl → Ns
  | .disp => 125000 | .aon => 122071 | _ => 1000

/-- The mailbox domain of an island, where it has one (R451). -/
def Isl.ident : Isl → Option Ident
  | .prg => some .prg0 | .ctl => some .ctl | .mot => some .mot | .rng => some .rng | .svc => some .svc
  | .saf => some .saf | .hif => some .host | _ => none

/-- Role codes of R527. -/
def Role.code : Role → Nat
  | .controller => 0 | .pairA => 1 | .pairB => 2 | .iostation => 3 | .referee => 4 | .branch => 5

def Role.ofCode : Nat → Option Role
  | 0 => some .controller | 1 => some .pairA | 2 => some .pairB | 3 => some .iostation | 4 => some .referee
  | 5 => some .branch | _ => none

/-- Owner codes of R20. -/
def Owner.code : Owner → Nat
  | .none => 0 | .prg => 1 | .ctl => 2 | .mot => 3 | .saf => 4 | .ring => 5

def Owner.ofCode : Nat → Option Owner
  | 0 => some .none | 1 => some .prg | 2 => some .ctl | 3 => some .mot | 4 => some .saf | 5 => some .ring | _ => Option.none

/-- The island that an owner code names; RING is served by RNG. -/
def Owner.isl : Owner → Option Isl
  | .none => Option.none | .prg => some .prg | .ctl => some .ctl | .mot => some .mot | .saf => some .saf | .ring => some .rng

/-- The record TYPE: area by chapter and the items the manual gives numbers to; other items are the firmware's (R477). -/
def RecKind.type (k : RecKind) : BitVec 16 :=
  let area (a : Nat) : BitVec 16 := BitVec.ofNat 16 (256 * a + (Config.recItem k).toNat)
  match k with
  | .resetRelease => 0x0101 | .tmrFix => 0x0120 | .tmrFatal => 0x0121 | .mordantSet => 0x0122 | .rvChanged => 0x0123
  | .testCtlFound => 0x0124 | .testCtlCleared => 0x0125
  | .selftest | .health | .fwStaged | .fwActivated | .fwFallback | .ledgerTest | .ledgerMargin | .ledgerWarn => area 1
  | .channelDiag | .groupSupply | .groupDisc | .groupReconfig | .silentExit | .reclassify => area 2
  | .refFault | .calInterval | .calClass => area 3
  | .programHalt | .cycleSlip => area 4
  | .programStaged | .carryDetail | .programSwitch | .imageLost => area 5
  | .loopConfig | .overrideConfig | .loopMode | .loopHandover | .loopPvBad | .noCandidate | .loopSlip | .tuneStart
  | .tuneEnd => area 6
  | .axisConfig | .tableLoad | .axisTracking | .axisFault | .axisReversal | .softLimit | .limitOverrun | .limitApplied
  | .axisSlip | .posUnverified => area 7
  | .sfState | .resetPress | .resetHeld | .resetRefused | .connState | .safetyConfig | .safetyConfirm | .tmRaise
  | .islandFault | .pstExceeded => area 8
  | .linkChange | .ringState | .stationState | .stationReturn | .tunnelTimeout | .addressAdopted | .ringConfig
  | .stationConfig | .imageMap | .branchConfig | .ioWatchdog | .liveReturn => area 9
  | .memberState | .grant | .deny | .peerLoss | .peerReturn | .pairMismatch | .joinStart | .joinEnd | .joinTimeout | .drill
  | .reversion | .noReferee | .revertLimit => area 10
  | .ringTimeState | .timeStep | .gmChange | .shipStep | .shipRefused | .slewStart | .slewEnd => area 11
  | .hifReset | .queueEnable | .queueFault | .eventsDiscarded => area 12
  | .bindChange | .domainChange | .withdrawal | .ackExpired => area 13
  | .recordsDropped => 0x0E01 | .recorderRecovery => 0x0E02 | .storeLost => 0x0E03 | .storeSaveFailed => 0x0E04
  | .powerFail => 0x0E05 | .sectorRetired => 0x0E06
  | .storeEqualSeq | .saveWithinBudget => area 14
  | .redrive | .dispSupply => area 15
  | .islandStall => area 16
  | .other t => t

end Sys2Proof

namespace Sys2Proof.Machine

/-- What a command answers. -/
abbrev Res := Host.Outcome State Fault Refusal

/-- A command begins: the clock moves on, never back, and the emissions of the command before are gone. -/
def State.begin (t : Ns) (s : State) : State := { s with clock := max s.clock t, out := [] }

/-- Ring time of the present instant, ns (R390). -/
def State.now (s : State) : Int := s.clock + s.time.ringOff

/-- Sends one thing. -/
def State.emit (e : Emission) (s : State) : State := { s with out := s.out ++ [e] }

/-- Draws a free value of `w` bits. -/
def State.drawn (w : Nat) (s : State) : BitVec w := Config.freeValue w s.free

/-- Moves the counter of free values on. -/
def State.advance (s : State) : State := { s with free := s.free + 1 }

/-! ### Updates of one member of a table -/

def State.updCell (i : Fin 128) (f : Cell → Cell) (s : State) : State := { s with cells := s.cells.set i (f s.cells[i]) }
def State.updGfe (g : Fin 8) (f : GroupCtl → GroupCtl) (s : State) : State := { s with gfes := s.gfes.set g (f s.gfes[g]) }
def State.updChan (i : Fin 128) (f : Chan → Chan) (s : State) : State := { s with chans := s.chans.set i (f s.chans[i]) }
def State.updGroup (g : Fin 8) (f : Group → Group) (s : State) : State := { s with groups := s.groups.set g (f s.groups[g]) }
def State.updHart (i : Fin 128) (f : Hart → Hart) (s : State) : State := { s with harts := s.harts.set i (f s.harts[i]) }
def State.updLoop (i : Fin 64) (f : Loop → Loop) (s : State) : State := { s with loops := s.loops.set i (f s.loops[i]) }
def State.updOver (i : Fin 8) (f : Override → Override) (s : State) : State := { s with overs := s.overs.set i (f s.overs[i]) }
def State.updAxis (i : Fin 16) (f : Axis → Axis) (s : State) : State := { s with axes := s.axes.set i (f s.axes[i]) }
def State.updStore (i : Fin 2) (f : Store → Store) (s : State) : State := { s with stores := s.stores.set i (f s.stores[i]) }
def State.updIsland (i : Fin 11) (f : Island → Island) (s : State) : State :=
  { s with islands := s.islands.set i (f s.islands[i]) }
def State.updPrg (f : Program → Program) (s : State) : State := { s with prg := f s.prg }
def State.updXch (f : Exchange → Exchange) (s : State) : State := { s with xch := f s.xch }
def State.updTune (f : Tune → Tune) (s : State) : State := { s with tune := f s.tune }
def State.updSaf (f : Saf → Saf) (s : State) : State := { s with saf := f s.saf }
def State.updRing (f : Ring → Ring) (s : State) : State := { s with ring := f s.ring }
def State.updPair (f : Pair → Pair) (s : State) : State := { s with pair := f s.pair }
def State.updTime (f : Time → Time) (s : State) : State := { s with time := f s.time }
def State.updHif (f : Hif → Hif) (s : State) : State := { s with hif := f s.hif }
def State.updRegs (f : Regs → Regs) (s : State) : State := { s with regs := f s.regs }
def State.updMb (f : MbHub → MbHub) (s : State) : State := { s with mb := f s.mb }
def State.updRec (f : Recorder → Recorder) (s : State) : State := { s with recorder := f s.recorder }
def State.updDisp (f : Display → Display) (s : State) : State := { s with disp := f s.disp }
def State.updMod (f : Module → Module) (s : State) : State := { s with mod := f s.mod }
def State.updFn (i : Fin 48) (f : SafFn → SafFn) (s : State) : State :=
  { s with saf := { s.saf with fns := s.saf.fns.set i (f s.saf.fns[i]) } }
def State.updBox (i : Fin 32) (f : Mailbox → Mailbox) (s : State) : State :=
  { s with mb := { s.mb with boxes := s.mb.boxes.set i (f s.mb.boxes[i]) } }

/-- Runs an update for every member of a finite table, in ascending order. -/
def forAll (n : Nat) (f : Fin n → State → State) (s : State) : State := (List.finRange n).foldl (fun s i => f i s) s

/-! ### Islands -/

def State.island (s : State) (i : Isl) : Island := s.islands[i.idx]

/-- Whether the domain of an island is OFF by a DOMAIN_POWER request (R17, R469): PRG0 stands for PRG. -/
def State.domainOff (s : State) (i : Isl) : Bool :=
  match i with
  | .prg => s.mb.domains[2] == .off
  | .ctl => s.mb.domains[4] == .off
  | .mot => s.mb.domains[5] == .off
  | _ => false

/-- Whether an island is stalled: its watchdog or a crossing has expired, or it is held in reset; not with its domain OFF (R17). -/
def State.isStalled (s : State) (i : Isl) : Bool := (s.island i).state != .running && !s.domainOff i

/-- Whether an island answers: ready and not stalled. -/
def State.up (s : State) (i : Isl) : Bool := (s.island i).state == .running

/-- The worst drift of a clock in ppm over the 24 h before an instant: the islands in the order of R37, then the field-side
clocks of the groups (R534 instance 5). -/
def State.driftAt (s : State) (i : Fin 19) (at_ : Ns) : Rat :=
  s.mod.drift[i].foldl (fun m x => if x.1 ≤ at_ ∧ at_ ≤ x.1 + 86400000000000 then max m x.2 else m) 0

/-- The worst drift of the last 24 h. -/
def State.worstDrift (s : State) (i : Fin 19) : Rat := s.driftAt i s.clock

/-- A timeout with its padding, 1.5 times the worst drift of the clock it is timed on. The margin in force when the timeout is
armed holds for it, so that a change takes effect at the next timeout armed (R30, R534 instance 5). -/
def State.padOn (s : State) (i : Fin 19) (armed d : Ns) : Ns := d + (s.driftAt i armed * 3 / 2 * d / 1000000).ceil.toNat

/-- The end of a timeout armed at an instant and timed on an island's clock. -/
def State.due (s : State) (i : Isl) (armed d : Ns) : Ns := armed + s.padOn (Fin.castLE (by omega) i.idx) armed d

/-- The end of a timeout armed at an instant and timed on a field-side clock. -/
def State.dueField (s : State) (g : Fin 8) (armed d : Ns) : Ns := armed + s.padOn (Fin.natAdd 11 g) armed d

/-! ### Voted registers (R548) -/

/-- The voted value of the field under `mask`: what two copies hold, or the first copy where all three differ (R550). -/
def Tmr.field (r : Tmr) (mask : Word) : Word :=
  if r.c0 &&& mask = r.c1 &&& mask then r.c0 &&& mask
  else if r.c0 &&& mask = r.c2 &&& mask then r.c0 &&& mask
  else if r.c1 &&& mask = r.c2 &&& mask then r.c1 &&& mask
  else r.c0 &&& mask

/-- The voted value of a register whose fields are given by their masks. -/
def Tmr.vote (fields : List Word) (r : Tmr) : Word := fields.foldl (fun w m => w ||| r.field m) 0

/-- A write stores all three copies in one step (R548). -/
def Tmr.of (w : Word) : Tmr := ⟨w, w, w⟩

def mordantFields : List Word := [1, 2, 4, 8, 16]
def groupEnFields : List Word := [0xFF]
def roleFields : List Word := [0xF]
def nodeFields : List Word := [0xFFFF]
/-- OWNER of the eight channels of a CHOWN register (R546). -/
def chownFields : List Word := [0x7, 0x70, 0x700, 0x7000, 0x70000, 0x700000, 0x7000000, 0x70000000]
/-- ENABLE, VECTOR, RECEIVER and SENDER of MB_BIND (R458). -/
def bindFields : List Word := [0x1000, 0xF00, 0xF0, 0xF]

def State.mordant (s : State) : Word := s.regs.mordant.vote mordantFields
def State.lockMb (s : State) : Bool := s.mordant.getLsbD 0
def State.lockChown (s : State) : Bool := s.mordant.getLsbD 1
def State.lockSafeEn (s : State) : Bool := s.mordant.getLsbD 2
def State.lockImgKey (s : State) : Bool := s.mordant.getLsbD 3
def State.lockRingId (s : State) : Bool := s.mordant.getLsbD 4

/-- GROUP_EN: whether a group is a safety group (R53, R545). -/
def State.safetyGroup (s : State) (g : Fin 8) : Bool := (s.regs.groupEn.vote groupEnFields).getLsbD g.val

/-- The node address as RING_NODE_ADDR reads (R342). -/
def State.nodeReg (s : State) : Nat := (s.regs.nodeAddr.vote nodeFields).toNat

/-- The module's own node address; the ring goes over to a written one at the next bus cycle (R342, R562). -/
def State.node (s : State) : Nat := match s.ring.oldId with | some x => x.1 | none => s.nodeReg

/-- The EtherType of Broluma frames, which changes in the same way (R324, R562). -/
def State.ringType (s : State) : BitVec 16 := match s.ring.oldId with | some x => x.2 | none => s.regs.etherType

/-- The role in force, none before LOADING ends (R544). -/
def State.role (s : State) : Option Role := Role.ofCode (s.regs.role.vote roleFields).toNat

/-- Whether the role is PAIR_A or PAIR_B. -/
def State.isPair (s : State) : Bool := s.role == some .pairA || s.role == some .pairB

/-- Whether the module computes in step with its partner: both are in SHADOW or LEAD and hear each other (R364). -/
def State.inStep (s : State) : Bool :=
  s.isPair && (s.pair.state == .lead || s.pair.state == .shadow) && s.pair.barrier.partnerLive

/-- The owner of a channel: the voted nibble of the channel-ownership table (R20, R546). -/
def State.owner (s : State) (ch : Fin 128) : Owner :=
  let r := s.regs.chown[ch.val / 8]'(by omega)
  (Owner.ofCode (bitsOf (r.vote chownFields).toNat (4 * (ch.val % 8) + 2) (4 * (ch.val % 8)))).getD .none

/-- The group of a channel (R5). -/
def grp (ch : Fin 128) : Fin 8 := ⟨ch.val / 16, by omega⟩

/-- Channel `i` of a group. -/
def chanOf (g : Fin 8) (i : Fin 16) : Fin 128 := ⟨16 * g.val + i.val, by omega⟩

/-! ### Ship time (R399) -/

/-- Ship time of the present instant, the running slew included (R399, R403). -/
def State.shipNow (s : State) : Int :=
  s.now + s.time.shipOff +
    (match s.time.slew with
     | none => 0
     | some w =>
       let done : Int := ((s.clock - w.start : Nat) : Int) * w.rate / 1000000000
       if 0 ≤ w.offset then min w.offset done else max w.offset (-done))

/-! ### Records (R31, R475 to R478) -/

/-- The items of a payload from position `n` on: 16-bit tag, 16-bit value length, the value padded with zeros to a multiple of four,
little-endian; the numbers of the tags and the lengths are those of the firmware's dictionary (R7, R476; DESIGN CHOICE,
log 119). -/
def recItems (k : RecKind) : Nat → List Int → Bytes
  | _, [] => []
  | n, v :: l => wr 2 (Config.recTag k n).toNat ++ wr 2 (Config.recItemLen k n) ++ pad4 (wrS (Config.recItemLen k n) v)
      ++ recItems k (n + 1) l

/-- The payload of a record, at most 992 bytes (R475, R476). -/
def recPayload (k : RecKind) (items : List Int) : Bytes := (recItems k 0 items).take 992

/-- LENGTH of a record: 28 bytes of header, its payload and its CRC, at most 1,024 (R475). -/
def recLength (k : RecKind) (items : List Int) : Nat := 32 + (recPayload k items).length

/-- Bytes of the intake in use (R478). -/
def Recorder.used (r : Recorder) : Nat := r.intake.foldl (fun n e => n + e.length) 0

/-- Bytes of the intake that records of SAF use: they take the 8 KiB reserve first (R31). -/
def Recorder.safUsed (r : Recorder) : Nat :=
  r.intake.foldl (fun n e => if e.source = .saf then n + e.length else n) 0

/-- Whether a record of this length finds room: the intake holds 64 KiB, of which 8 KiB is kept for SAF (R31). -/
def Recorder.room (r : Recorder) (src : Isl) (len : Nat) : Bool :=
  if src = .saf then r.used + len ≤ 65536
  else r.used - min r.safUsed 8192 + len ≤ 57344 && r.used + len ≤ 65536

/-- A record reaches the intake, with the header values of the moment, or is discarded and counted (R31, R478). A shadow
keeps a copy for its lead (R379). -/
def State.submitAs (src : Isl) (kind : RecKind) (items : List Int) (s : State) : State :=
  let len := recLength kind items
  if s.recorder.room src len then
    let e : RecEntry :=
      { seq := s.recorder.nextSeq, source := src, kind := kind, items := items, opSeconds := s.mod.opSeconds,
        powerCycles := s.mod.powerCycles.toNat, length := len,
        shipTime := if s.time.ship = .set then some s.shipNow else none }
    let copy : PartnerRec := { source := src, kind := kind, items := items, opSeconds := e.opSeconds,
                               powerCycles := e.powerCycles, shipTime := e.shipTime }
    let shadow := s.isPair && s.pair.state == .shadow
    s.updRec fun r => { r with intake := r.intake ++ [e], nextSeq := r.nextSeq + 1,
                               unsent := if shadow then r.unsent ++ [copy] else r.unsent }
  else
    (s.updRec fun r => { r with
        dropped := r.dropped.set src.idx (r.dropped[src.idx] + 1),
        droppedTotal := r.droppedTotal.set src.idx (r.droppedTotal[src.idx] + 1) }).updIsland src.idx
      fun i => { i with drops := satAdd 32 i.drops 1 }

/-- A record of an island. -/
def State.record (src : Isl) (kind : RecKind) (items : List Int) (s : State) : State := s.submitAs src kind items

/-! ### Events (R439 to R441) -/

/-- Entries of a queue: two to the power of LOG2_SIZE. -/
def Cq.size (q : Cq) : Nat := 2 ^ q.log2.toNat

/-- Whether a queue has room for one more entry (R417). -/
def Cq.room (q : Cq) : Bool := q.enable && (q.tail + 1) % q.size != q.head

/-- A queue after one entry is written: tail, pass, coalescing state and counts (R417, R418, R423, R448). -/
def Cq.push (now : Int) (clock : Ns) (q : Cq) : Cq :=
  let t := (q.tail + 1) % q.size
  { q with tail := t, phase := if t = 0 then !q.phase else q.phase, unsignalled := q.unsignalled + 1,
           full := if (t + 1) % q.size = q.head then satAdd 32 q.full 1 else q.full,
           firstAt := if q.unsignalled = 0 then some clock else q.firstAt, written := satAdd 32 q.written 1,
           lastWrite := now }

/-- Sends the MSI-X message of a vector, or holds it as a pending bit while masked (R423). -/
def State.signal (v : Fin 16) (s : State) : State :=
  if s.hif.msix[v].masked then s.updHif fun h => { h with msix := h.msix.set v { h.msix[v] with pending := true } }
  else s.emit (.msix v)

/-- The 32 bytes of an event (R439). -/
def Event.bytes (e : Event) (phase : Bool) : Bytes :=
  wr 2 e.type.toNat ++ wr 2 e.inst ++ wr 4 e.seq.toNat ++ wrS 8 e.stamp
    ++ (e.data ++ List.replicate 12 0).take 12 ++ wr 4 (if phase then 2 ^ 31 else 0)

/-- Signals the EQ when its count condition holds (R423). -/
def State.signalEq (s : State) : State :=
  if s.hif.eq.coalCount.toNat ≤ s.hif.eq.unsignalled && s.hif.eq.unsignalled != 0 then
    (s.updHif fun h => { h with eq := { h.eq with unsignalled := 0, firstAt := none } }).signal s.hif.eq.vector
  else s

/-- Writes one event into the EQ (R417, R418). -/
def State.writeEvent (e : Event) (s : State) : State :=
  (((s.emit (.event s.hif.eq.tail (e.bytes s.hif.eq.phase))).updHif fun h =>
    { h with eq := h.eq.push s.now s.clock })).signalEq

/-- Holds an event in HIF, in order of STAMP: at most 256, a further one is discarded and counted (R441). -/
def Hif.hold (e : Event) (h : Hif) : Hif :=
  if h.held.length < 256 then
    { h with held := h.held.takeWhile (fun x => x.stamp ≤ e.stamp) ++ [e] ++ h.held.dropWhile (fun x => x.stamp ≤ e.stamp) }
  else { h with discarded := h.discarded + 1 }

/-- WAKE_N is asserted, low, while the function is in D3hot or the link is down and an event is held (R414). -/
def Hif.wake (h : Hif) : Hif := { h with wakeN := !((h.d3hot || h.linkSpeed == 0) && !h.held.isEmpty) }

/-- Posts an event with its stamp: written when the EQ has room and nothing waits before it, held otherwise (R439 to R441, R447). -/
def State.postEventAt (stamp : Int) (type : BitVec 16) (inst : Nat) (data : Bytes) (s : State) : State :=
  let e : Event := { type := type, inst := inst, seq := s.hif.eventSeq, stamp := stamp, data := data }
  let s := s.updHif fun h => { h with eventSeq := h.eventSeq + 1 }
  if s.hif.eq.room && s.hif.held.isEmpty && s.hif.discarded == 0 && (s.hif.reports.isEmpty || s.hif.reporting) then
    s.writeEvent e
  else s.updHif fun h => ((h.hold e).wake)

/-- Posts an event of the present instant. -/
def State.postEvent (type : BitVec 16) (inst : Nat) (data : Bytes) (s : State) : State := s.postEventAt s.now type inst data

/-! ### Completions (R431 to R437) -/

def dDone : BitVec 4 := 0
def dDoneLate : BitVec 4 := 1
def dBusy : BitVec 4 := 2
def dCapacity : BitVec 4 := 3
def dPolicy : BitVec 4 := 4
def dSuperseded : BitVec 4 := 5
def dAborted : BitVec 4 := 6
def dError : BitVec 4 := 7

/-- Status codes of R435 and of the chapters' own ranges. -/
def stInvalidField : BitVec 16 := 0x0001
def stUnknownOpcode : BitVec 16 := 0x0002
def stUnknownObject : BitVec 16 := 0x0003
def stWrongState : BitVec 16 := 0x0004
def stResultTooSmall : BitVec 16 := 0x0005
def stHostMemory : BitVec 16 := 0x0006
def stTypeMismatch : BitVec 16 := 0x0007
def stConfigMismatch : BitVec 16 := 0x0008
def stQueueDisabled : BitVec 16 := 0x0009
def stPolicyRole : BitVec 16 := 0x0010
def stPolicyMordant : BitVec 16 := 0x0011
def stPolicyRule : BitVec 16 := 0x0012
def stNotLead : BitVec 16 := 0x0013
def stStepLatched : BitVec 16 := 0x0014
def stNotSet : BitVec 16 := 0x0015
def stLaneFailed : BitVec 16 := 0x0100
def stTableInUse : BitVec 16 := 0x0101
def stHartDisabled : BitVec 16 := 0x0102
def stHartNoResponse : BitVec 16 := 0x0103
def stHartBadFrame : BitVec 16 := 0x0104
def stHartCfgChange : BitVec 16 := 0x0105
def stHartLaneSilent : BitVec 16 := 0x0106
def stNoImage : BitVec 16 := 0x0200
def stImageFormat : BitVec 16 := 0x0201
def stKeyNotValid : BitVec 16 := 0x0202
def stSignatureBad : BitVec 16 := 0x0203
def stKeymapInvalid : BitVec 16 := 0x0204
def stPartnerVerify : BitVec 16 := 0x0205
def stNotVerified : BitVec 16 := 0x0206
def stImageMismatch : BitVec 16 := 0x0207
def stCyclePassed : BitVec 16 := 0x0208
def stSwitchHalted : BitVec 16 := 0x0209
def stPairNotArmed : BitVec 16 := 0x020A
def stCascadeInvalid : BitVec 16 := 0x0300
def stGroupInvalid : BitVec 16 := 0x0301
def stTuneAborted : BitVec 16 := 0x0302
def stNoCapture : BitVec 16 := 0x0303
def stStoActive : BitVec 16 := 0x0400
def stAxisFault : BitVec 16 := 0x0401
def stSoftLimit : BitVec 16 := 0x0402
def stTableLimit : BitVec 16 := 0x0403
def stTableNotLoaded : BitVec 16 := 0x0404
def stTableStart : BitVec 16 := 0x0405
def stSafetyInvalid : BitVec 16 := 0x0500
def stWdTooShort : BitVec 16 := 0x0501
def stReactionExceedsPst : BitVec 16 := 0x0502
def stNoPending : BitVec 16 := 0x0503
def stConfirmMismatch : BitVec 16 := 0x0504
def stTunnelTimeout : BitVec 16 := 0x0600
def stStationDown : BitVec 16 := 0x0601
def stNoReferee : BitVec 16 := 0x0700
def stHandoverDenied : BitVec 16 := 0x0701
def stPpsMissing : BitVec 16 := 0x0800
def stRoleConflict : BitVec 16 := 0x0C00
def stNotWaiting : BitVec 16 := 0x0C01
def stTestNotPossible : BitVec 16 := 0x0C02
def stOverwritten : BitVec 16 := 0x0E00
def stSnapshotUnknown : BitVec 16 := 0x0E01
def stStoreFull : BitVec 16 := 0x0E02

/-- ISLAND_ERROR of an island and a crossing code (R435). -/
def stIsland (i : Isl) (c : CrossCode) : BitVec 16 := BitVec.ofNat 16 (0x0F00 + 16 * c.num + i.idx.val)

namespace Outcome
def done (result : Bytes := []) : Outcome := { disp := dDone, result := result }
def error (st : BitVec 16) (result : Bytes := []) : Outcome := { disp := dError, status := st, result := result }
def busy : Outcome := { disp := dBusy }
def capacity : Outcome := { disp := dCapacity }
def policy (st : BitVec 16 := stPolicyRule) : Outcome := { disp := dPolicy, status := st }
def superseded (result : Bytes := []) : Outcome := { disp := dSuperseded, result := result }
def aborted (st : BitVec 16) : Outcome := { disp := dAborted, status := st }
end Outcome

/-- DEADLINE of a descriptor, where it is in force (R424). -/
def descDeadline (desc : Bytes) : Option (BitVec 64) :=
  if rdBits desc 2 0 0 = 1 then some (BitVec.ofNat 64 (rd desc 8 8)) else none

/-- DONE becomes DONE_LATE when the commit stamp is after DEADLINE; a stamp equal to it is in time (R437). -/
def lateness (deadline : Option (BitVec 64)) (commit : Int) (o : Outcome) : Outcome :=
  match deadline with
  | some d => if o.disp = dDone ∧ (d.toNat : Int) < commit then { o with disp := dDoneLate } else o
  | none => o

/-- RESULT_LEN of a completion (R431). -/
def Outcome.resultLen (o : Outcome) : Nat := o.needed.getD o.result.length

/-- The sixteen bytes of a completion (R431). -/
def completionBytes (cookie : BitVec 32) (sq : Nat) (wait : Nat) (phase : Bool) (o : Outcome) : Bytes :=
  wr 4 cookie.toNat ++ wr 2 o.status.toNat ++ wr 1 (16 * o.disp.toNat + sq % 8) ++ [0]
    ++ wr 4 (min wait (2 ^ 32 - 1)) ++ wr 4 (o.resultLen % 2 ^ 24 + if phase then 2 ^ 31 else 0)

/-- The fragments of a tunnel transaction, each with its header (R351). -/
def fragments (tid : BitVec 16) (kind : Nat) (total : Nat) : Nat → Nat → Bytes → List Bytes
  | 0, _, _ => []
  | fuel + 1, idx, rest =>
    let part := rest.take 1400
    let more := rest.drop 1400
    (wr 2 tid.toNat ++ wr 1 kind ++ wr 1 (if more.isEmpty then 1 else 0) ++ wr 2 idx ++ wr 2 part.length ++ wr 4 total
      ++ wr 4 0 ++ part) :: (if more.isEmpty then [] else fragments tid kind total fuel (idx + 1) more)

/-- All fragments of a transaction's bytes. -/
def tunnelFrames (tid : BitVec 16) (kind : Nat) (bytes : Bytes) : List Bytes :=
  fragments tid kind bytes.length (bytes.length / 1400 + 1) 0 bytes

/-- Keeps the response of a completed transaction, the 64 most recent of each source (R352). -/
def keepResponse (k : TunnelKept) (l : List TunnelKept) : List TunnelKept :=
  let mine := (l.filter (fun x => x.src = k.src)).take 63
  k :: (l.filter (fun x => x.src ≠ k.src) ++ mine)

/-- The response of a tunnel request goes into the acyclic queue and is kept (R351, R352, R436). Its QUEUE_WAIT field holds
the ring time [31:0] in µs at which execution started here, which the controller needs (DEDUCED, log 50). -/
def State.tunnelRespond (src : Nat) (tid : BitVec 16) (o : Outcome) (s : State) : State :=
  match s.ring.serving.find? (fun x => x.src = src ∧ x.tid = tid) with
  | none => s
  | some v =>
    let o := lateness v.deadline s.now o
    let resp := completionBytes v.cookie 0 (v.accepted / 1000 % 4294967296).toNat false o ++ o.result
    let frames := (tunnelFrames tid 2 resp).map fun p => ({ subtype := 1, dest := src, payload := p } : AcyFrame)
    s.updRing fun r => { r with
      serving := r.serving.filter (fun x => !(x.src = src ∧ x.tid = tid)),
      kept := keepResponse { src := src, tid := tid, response := resp } r.kept,
      acyclic := r.acyclic ++ frames }

/-- A descriptor with this serial number reaches its outcome: its tag waits for the completion write (R432), or its abort
report takes the outcome (R447). -/
def State.commitHost (id : Nat) (o : Outcome) (s : State) : State :=
  s.updHif fun h => { h with
    tags := h.tags.map fun g =>
      if g.id = id ∧ g.outcome.isNone then
        { g with outcome := some (if rdBits g.desc 2 2 2 = 1 then o else lateness (descDeadline g.desc) s.now o, s.clock) }
      else g,
    reports := h.reports.map fun r =>
      if r.id = id ∧ r.reached.isNone then
        let o := lateness r.deadline s.now o
        { r with reached := some (o.disp, o.status) } else r }

/-- The outcome of a host write that runs in step waits for the partner's; where that is here already and equal, the
descriptor completes (R378). -/
def State.forwardDone (org : Origin) (id : Nat) (o : Outcome) (s : State) : State :=
  match s.pair.forwards.find? fun f => f.org = org ∧ f.own.isNone with
  | none => s.commitHost id o
  | some f =>
    if f.shadow = some (o.disp, o.status) then
      (s.updPair fun p => { p with
        forwards := p.forwards.filter (fun g => g.id ≠ f.id), completedCount := p.completedCount + 1 }).commitHost id o
    else s.updPair fun p => { p with
      forwards := p.forwards.map fun g => if g.id = f.id then { g with own := some o } else g }

/-- A descriptor completes, wherever it came from (R432, R354, R364, R447). In a pair the lead's host write waits for the
shadow's outcome (R378). -/
def State.complete (org : Origin) (o : Outcome) (s : State) : State :=
  match org with
  | .host id => s.forwardDone org id o
  | .tunnel src tid => s.tunnelRespond src tid o
  | .partner _ =>
    s.updPair fun p => { p with forwards := p.forwards.map fun f =>
      if f.org = org ∧ f.own.isNone then { f with own := some o } else f }
  | .self => s

/-- Completes a list of requesters alike. -/
def State.completeAll (l : List Origin) (o : Outcome) (s : State) : State := l.foldl (fun s org => s.complete org o) s

/-- A descriptor's meaning that only answers. -/
def answer (org : Origin) (o : Outcome) (s : State) : Res := .next (s.complete org o)

/-! ### Stored objects (R490, R491) -/

/-- A stored object or register changed: the change is counted, and the stamp of the oldest change not yet saved is kept
(R491, R500). -/
def Store.changed (now : Int) (clock : Ns) (st : Store) : Store :=
  let first := some (now, clock)
  { st with changeSeq := st.changeSeq + 1, oldest := st.oldest.orElse fun _ => first,
            newer := if st.running.isSome then st.newer.orElse fun _ => first else none }

/-- A stored object comes into force: it replaces the entry of its opcode and instance, and the change is counted for the
next configuration save (R491). -/
def State.storeObject (opcode : BitVec 16) (inst : Nat) (obj : Option Bytes) (s : State) : State :=
  let rest := s.mod.inForce.filter fun e => !(e.opcode = opcode ∧ e.inst = inst)
  let new := match obj with | some b => [({ opcode := opcode, inst := inst, obj := b } : CfgEntry)] | none => []
  (s.updMod fun m => { m with inForce := rest ++ new }).updStore 0 (Store.changed s.now s.clock)

/-- A stored register changed (R542). -/
def State.storeRegister (s : State) : State := s.updStore 0 (Store.changed s.now s.clock)

/-- Bytes of a configuration entry in the payload (R490). -/
def CfgEntry.size (e : CfgEntry) : Nat := 8 + (pad4 e.obj).length

/-- Whether an object would make the configuration payload exceed 524,256 bytes (R490). -/
def State.storeOverflow (opcode : BitVec 16) (inst : Nat) (obj : Bytes) (s : State) : Bool :=
  let rest := s.mod.inForce.filter fun e => !(e.opcode = opcode ∧ e.inst = inst)
  524256 < rest.foldl (fun n e => n + e.size) 0 + 8 + (pad4 obj).length

end Sys2Proof.Machine
end

