-- ==== Sys2Proof/Machine/Operands.lean ====
section
/-! DEFINITION. Operand forms of the field side: the group configuration object and its channel records (R53, R54, R104),
characteristic tables (R109, R110), and the lane frames bit by bit (R46, R86, R87, R116, R279). -/

namespace Sys2Proof

/-- Mode codes of R51. -/
def ChanMode.code : ChanMode → Nat
  | .unconfigured => 0 | .di1 => 1 | .di3 => 2 | .dout => 3 | .pulse => 4 | .aoSource => 5 | .aoSink => 6 | .ai2w => 7
  | .aiExt => 8 | .sdi => 9 | .sdo => 10

def ChanMode.ofCode : Nat → Option ChanMode
  | 0 => some .unconfigured | 1 => some .di1 | 2 => some .di3 | 3 => some .dout | 4 => some .pulse | 5 => some .aoSource
  | 6 => some .aoSink | 7 => some .ai2w | 8 => some .aiExt | 9 => some .sdi | 10 => some .sdo | _ => none

def ChanMode.isAo (m : ChanMode) : Bool := m == .aoSource || m == .aoSink
def ChanMode.isAi (m : ChanMode) : Bool := m == .ai2w || m == .aiExt
def ChanMode.isDi (m : ChanMode) : Bool := m == .di1 || m == .di3 || m == .sdi
def ChanMode.isDo (m : ChanMode) : Bool := m == .dout || m == .sdo
/-- Modes that drive an output. -/
def ChanMode.isOut (m : ChanMode) : Bool := m.isDo || m.isAo || m == .pulse

/-- Owners a mode accepts (R51). -/
def ChanMode.accepts (m : ChanMode) (o : Owner) : Bool :=
  match m with
  | .dout => o != .saf
  | .pulse => o == .none || o == .mot || o == .ring
  | .aoSource | .aoSink => o == .none || o == .prg || o == .ctl || o == .ring
  | .sdo => o == .saf
  | _ => o == .none

end Sys2Proof

namespace Sys2Proof.Machine

/-! ### Channel records (R54, R104) -/

/-- Record of channel `i` of a group object: 32 bytes after the 32-byte header. -/
def recordOf (obj : Bytes) (i : Nat) : Bytes := (obj.drop (32 + 32 * i)).take 32

/-- A record that configures nothing. -/
def emptyRecord : Bytes := List.replicate 14 0 ++ [0xFF, 0xFF] ++ List.replicate 16 0

/-- The record of a channel under a group configuration, empty where there is none. -/
def recordIn (cfg : Option Bytes) (ch : Fin 128) : Bytes :=
  match cfg with
  | some o => recordOf o (ch.val % 16)
  | none => emptyRecord

def recMode (r : Bytes) : ChanMode := (ChanMode.ofCode (rdBits r 0 3 0)).getD .unconfigured
def recOwner (r : Bytes) : Owner := (Owner.ofCode (rdBits r 0 6 4)).getD .none
def recHartEn (r : Bytes) : Bool := rdBits r 1 5 5 == 1
def recEdgeEvt (r : Bytes) : Bool := rdBits r 1 4 4 == 1
def recInvert (r : Bytes) : Bool := rdBits r 1 3 3 == 1
def recOpenLoad (r : Bytes) : Bool := rdBits r 1 2 2 == 1
def recPulseEn (r : Bytes) : Bool := rdBits r 1 1 1 == 1 || recMode r == .sdo
def recWbEn (r : Bytes) : Bool := rdBits r 1 0 0 == 1
def recFailDir (r : Bytes) : Nat := rdBits r 2 4 3
def recPstop (r : Bytes) : Bool := rdBits r 2 2 2 == 1
def recSubst (r : Bytes) : Nat := rdBits r 2 1 0
def recSubstValue (r : Bytes) : Nat := rd r 4 4
def recFilter (r : Bytes) : Nat := rd r 8 2
def recPulseWidth (r : Bytes) : Nat := if rd r 10 2 = 0 then 300 else rd r 10 2
def recRbDelay (r : Bytes) : Nat := if rd r 12 2 = 0 then 20 else rd r 12 2
def recChar (r : Bytes) : Nat := rd r 14 2
def recLo (r : Bytes) : Rat := (rdF32 r 16).getD 0
def recHi (r : Bytes) : Rat := (rdF32 r 20).getD 1
def recOutMin (r : Bytes) : Nat := rd r 24 2
def recOutMax (r : Bytes) : Nat := rd r 26 2
/-- AI_TAU in ms. -/
def recTau (r : Bytes) : Nat := rd r 24 2
/-- LOWFLOW_CUT in 0.01 %. -/
def recCut (r : Bytes) : Nat := rd r 26 2
def recBurstEvt (r : Bytes) : Bool := rdBits r 28 5 5 == 1
def recCharKind (r : Bytes) : Nat := rdBits r 28 1 0
/-- RANGE_DELAY in ms. -/
def recRangeDelay (r : Bytes) : Nat := rd r 30 2

/-- The channel's mode on the logic side (R80). -/
def State.mode (s : State) (ch : Fin 128) : ChanMode := recMode (recordIn s.groups[grp ch].cfg ch)

/-- The channel's record on the logic side. -/
def State.chanRec (s : State) (ch : Fin 128) : Bytes := recordIn s.groups[grp ch].cfg ch

/-- The channel's record on the field side (R45). -/
def State.cellRec (s : State) (ch : Fin 128) : Bytes := recordIn s.gfes[grp ch].cfg ch

/-- Whether the failure direction of a channel is high (R100, R577). -/
def State.failHigh (s : State) (r : Bytes) : Bool :=
  if recFailDir r = 1 then true else if recFailDir r = 2 then false else s.regs.failDir

/-- HOLD_LIMIT of a group object in ms (R53). -/
def holdLimit (cfg : Option Bytes) : Nat := match cfg with | some o => rd o 4 4 | none => 0

/-! ### Characteristic tables (R109, R110) -/

def charKind (obj : Bytes) : Nat := rdBits obj 2 0 0
def charCount (obj : Bytes) : Nat := rd obj 3 1
def charX (obj : Bytes) (k : Nat) : Rat := (rdF32 obj (8 + 8 * k)).getD 0
def charY (obj : Bytes) (k : Nat) : Rat := (rdF32 obj (12 + 8 * k)).getD 0

/-- The used points of a table. -/
def charPoints (obj : Bytes) : List (Rat × Rat) := (List.range (charCount obj)).map fun k => (charX obj k, charY obj k)

/-- Linear interpolation between points, held at the end points (R110). -/
def interpolate : List (Rat × Rat) → Rat → Rat
  | [], _ => 0
  | [p], _ => p.2
  | p :: q :: rest, x =>
    if x ≤ p.1 then p.2
    else if x ≤ q.1 then p.2 + (x - p.1) / (q.1 - p.1) * (q.2 - p.2)
    else interpolate (q :: rest) x

/-- Lookup in a table object. -/
def charLookup (obj : Bytes) (x : Rat) : Rat := interpolate (charPoints obj) x

/-- The inverse lookup: points with x and y exchanged, in rising order (R108). -/
def charInverse (obj : Bytes) (y : Rat) : Rat :=
  let pts := (charPoints obj).map fun p => (p.2, p.1)
  let pts := match pts with
    | p :: q :: _ => if q.1 < p.1 then pts.reverse else pts
    | _ => pts
  interpolate pts y

/-- The table a record names, where it is loaded and of the matching kind (R105, R616). -/
def State.charOf (s : State) (r : Bytes) : Option Bytes :=
  if h : recChar r < 128 then
    match s.chars[recChar r] with
    | some t => if charKind t.obj = (if (recMode r).isAo then 1 else 0) then some t.obj else none
    | none => none
  else none

/-- Whether a record's table is missing (R616). -/
def State.charMissing (s : State) (r : Bytes) : Bool :=
  ((recMode r).isAo || (recMode r).isAi) && recCharKind r == 2 && (s.charOf r).isNone

/-! ### Lane frames (R46, R87, R116, R279) -/

/-- A field of a frame. -/
def fld (f : BitVec 256) (hi lo : Nat) : Nat := bitsOf f.toNat hi lo

/-- One bit of a frame. -/
def fbit (f : BitVec 256) (i : Nat) : Bool := f.toNat.testBit i

/-- A frame from its fields (value, lowest bit), with SYNC and CRC (R46). -/
def mkFrame (fields : List (Nat × Nat)) : BitVec 256 :=
  let body := fields.foldl (fun a p => a + p.1 * 2 ^ p.2) (0xB2 * 2 ^ 248)
  BitVec.ofNat 256 (body + (crc8 240 (body / 256 % 2 ^ 240)).toNat)

/-- SYNC, TYPE and CRC-8 of a frame are right (R46, R47, R48). -/
def frameGood (type : Nat) (f : BitVec 256) : Bool :=
  fld f 255 248 == 0xB2 && fld f 247 246 == type && fld f 7 0 == (crc8 240 (fld f 247 8)).toNat

def b2n (b : Bool) : Nat := if b then 1 else 0

/-- Content of a channel input frame (R46, R116). -/
structure InFrame where
  epoch : Nat
  seq : Nat
  mode : Nat
  input : Bool
  raw : Bool
  outRb : Bool
  holding : Bool
  meas : Nat
  termV : Nat
  iout : Nat
  temp : Nat
  diag : Nat
  pulseSeen : Nat
  edge1 : Nat
  rise1 : Bool
  edge2 : Nat
  rise2 : Bool
  count : Nat
  hart : Nat
deriving DecidableEq, Repr

/-- The frame of a channel's input content. -/
def InFrame.pack (x : InFrame) : BitVec 256 :=
  mkFrame [(0, 246), (x.epoch % 64, 240), (x.seq % 256, 232), (x.mode % 16, 228), (b2n x.input, 227), (b2n x.raw, 226),
    (b2n x.outRb, 225), (b2n x.holding, 224), (x.meas % 2 ^ 24, 200), (x.termV % 2 ^ 16, 184), (x.iout % 2 ^ 16, 168),
    (x.temp % 256, 160), (x.diag % 2 ^ 14, 146), (x.pulseSeen % 256, 138), (x.edge1 % 2 ^ 11, 127), (b2n x.rise1, 126),
    (x.edge2 % 2 ^ 11, 115), (b2n x.rise2, 114), (min x.count 255, 106), (x.hart % 2 ^ 16, 90)]

/-- The content of a channel input frame. -/
def InFrame.unpack (f : BitVec 256) : InFrame :=
  { epoch := fld f 245 240, seq := fld f 239 232, mode := fld f 231 228, input := fbit f 227, raw := fbit f 226,
    outRb := fbit f 225, holding := fbit f 224, meas := fld f 223 200, termV := fld f 199 184, iout := fld f 183 168,
    temp := fld f 167 160, diag := fld f 159 146, pulseSeen := fld f 145 138, edge1 := fld f 137 127, rise1 := fbit f 126,
    edge2 := fld f 125 115, rise2 := fbit f 114, count := fld f 113 106, hart := fld f 105 90 }

/-- Content of a channel output frame (R46, R87, R279). -/
structure OutFrame where
  epoch : Nat
  seq : Nat
  mode : Nat
  ownerLost : Bool
  holdReq : Bool
  safOff : Bool
  offPulse : Bool
  out : Nat
  pulseT : Nat
  edges : List Nat
  hart : Nat
deriving DecidableEq, Repr

/-- The frame of a channel's output content. -/
def OutFrame.pack (x : OutFrame) : BitVec 256 :=
  mkFrame ([(1, 246), (x.epoch % 64, 240), (x.seq % 256, 232), (x.mode % 16, 228), (b2n x.ownerLost, 227),
    (b2n x.holdReq, 226), (b2n x.safOff, 225), (b2n x.offPulse, 224), (x.out % 2 ^ 24, 200), (x.pulseT % 2 ^ 11, 189),
    (min x.edges.length 10, 185), (x.hart % 2 ^ 16, 59)]
    ++ (x.edges.take 10).mapIdx fun k e => (e % 2 ^ 11, 174 - 11 * k))

/-- The content of a channel output frame. -/
def OutFrame.unpack (f : BitVec 256) : OutFrame :=
  { epoch := fld f 245 240, seq := fld f 239 232, mode := fld f 231 228, ownerLost := fbit f 227, holdReq := fbit f 226,
    safOff := fbit f 225, offPulse := fbit f 224, out := fld f 223 200, pulseT := fld f 199 189,
    edges := (List.range (min (fld f 188 185) 10)).map fun k => fld f (184 - 11 * k) (174 - 11 * k), hart := fld f 74 59 }

/-- Content of a group input frame (R46). -/
structure GroupIn where
  epoch : Nat
  seq : Nat
  lplusV : Nat
  groupI : Nat
  disc : Nat
  temp : Nat
  chunkAck : Nat
  crc : Nat
  silentSeen : Bool
  held : Bool
deriving DecidableEq, Repr

def GroupIn.pack (x : GroupIn) : BitVec 256 :=
  mkFrame [(2, 246), (x.epoch % 64, 240), (x.seq % 256, 232), (x.lplusV % 2 ^ 16, 216), (x.groupI % 2 ^ 16, 200),
    (x.disc % 4, 198), (x.temp % 256, 190), (x.chunkAck % 64, 184), (x.crc % 2 ^ 32, 152), (b2n x.silentSeen, 151),
    (b2n x.held, 150)]

def GroupIn.unpack (f : BitVec 256) : GroupIn :=
  { epoch := fld f 245 240, seq := fld f 239 232, lplusV := fld f 231 216, groupI := fld f 215 200, disc := fld f 199 198,
    temp := fld f 197 190, chunkAck := fld f 189 184, crc := fld f 183 152, silentSeen := fbit f 151, held := fbit f 150 }

/-- Content of a group output frame (R46). -/
structure GroupOut where
  epoch : Nat
  seq : Nat
  discOpen : Bool
  commit : Bool
  newEpoch : Nat
  chunk : Nat
  chunkValid : Bool
  data : Bytes
deriving DecidableEq, Repr

def GroupOut.pack (x : GroupOut) : BitVec 256 :=
  mkFrame [(3, 246), (x.epoch % 64, 240), (x.seq % 256, 232), (b2n x.discOpen, 231), (b2n x.commit, 230),
    (x.newEpoch % 64, 224), (x.chunk % 64, 218), (b2n x.chunkValid, 217), (leNat (x.data.take 16), 89)]

def GroupOut.unpack (f : BitVec 256) : GroupOut :=
  { epoch := fld f 245 240, seq := fld f 239 232, discOpen := fbit f 231, commit := fbit f 230, newEpoch := fld f 229 224,
    chunk := fld f 223 218, chunkValid := fbit f 217, data := wr 16 (fld f 216 89) }

/-- `n` ticks after SEQ `a`, modulo 256 (R47). -/
def seqAfter (a b : BitVec 8) : Nat := (b - a).toNat

end Sys2Proof.Machine
end

