-- ==== Sys2Proof/Machine/Flags.lean ====
section
/-! DEFINITION. Flag words and the rules by which their bits change: DIAG with its latch and records (R80, R81, R83),
HIF_QUEUE_ERR (R561), MOD_ERR, health levels (R530). -/

namespace Sys2Proof.Machine

/-- DIAG bits of R81. -/
inductive Diag where
  | wireBreak | overload | shortToLplus | crossFault | offPulseFail | testPulseFail | openLoad | range | thermal
  | compliance | hartFault | lplusLow | lplusOff | silentHold | cfgChange | safOverride | notOwner | ownerLost
  | laneDegraded | laneFailed | substitute
deriving DecidableEq, Repr

def Diag.bit : Diag → Nat
  | .wireBreak => 0 | .overload => 1 | .shortToLplus => 2 | .crossFault => 3 | .offPulseFail => 4 | .testPulseFail => 5
  | .openLoad => 6 | .range => 7 | .thermal => 8 | .compliance => 9 | .hartFault => 10 | .lplusLow => 11 | .lplusOff => 12
  | .silentHold => 13 | .cfgChange => 14 | .safOverride => 15 | .notOwner => 16 | .ownerLost => 17 | .laneDegraded => 18
  | .laneFailed => 19 | .substitute => 20

/-- Sets or clears one bit of a word. -/
def putBit {w : Nat} (x : BitVec w) (i : Nat) (v : Bool) : BitVec w :=
  if v then x ||| BitVec.twoPow w i else x &&& ~~~ BitVec.twoPow w i

/-- Whether a cell reports a diagnostic bit. -/
def Cell.has (c : Cell) (d : Diag) : Bool := c.diag.getLsbD d.bit

/-- Whether the hub's DIAG word has a bit. -/
def Chan.has (c : Chan) (d : Diag) : Bool := c.diag.getLsbD d.bit

/-- A bit of the cell's own diagnostics. -/
def Cell.put (d : Diag) (v : Bool) (c : Cell) : Cell := { c with diag := putBit c.diag d.bit v }

/-- Whether a rising edge of the bit is recorded (R83). -/
def Diag.recorded (d : Diag) : Bool := !(d == .cfgChange || d == .substitute)

/-- A bit of the channel's DIAG word: DIAG_LATCH collects it, and a rising edge is recorded (R80, R83). -/
def State.putDiag (ch : Fin 128) (d : Diag) (v : Bool) (s : State) : State :=
  let rise := v && !(s.chans[ch].has d)
  let s := s.updChan ch fun c =>
    { c with diag := putBit c.diag d.bit v, diagLatch := if v then putBit c.diagLatch d.bit true else c.diagLatch }
  if rise && d.recorded then s.record .tim .channelDiag [ch.val, d.bit] else s

/-- A diagnostic that the evaluation of R58 to R68 and R93 to R97 sets: in the cell and in the hub's word. -/
def State.diagBoth (ch : Fin 128) (d : Diag) (v : Bool) (s : State) : State :=
  (s.updCell ch (Cell.put d v)).putDiag ch d v

/-- HIF_QUEUE_ERR bits. -/
def errDoorbell : Nat := 0
def errBadSize : Nat := 1
def errBadBinding : Nat := 2
def errBadTeardown : Nat := 3
def errFetch : Nat := 4

/-- An error bit of HIF_QUEUE_ERR sets with LAST_QUEUE, and the QUEUE_ERROR event carries the bits set (R561). -/
def State.queueError (bit : Nat) (queue : Nat) (s : State) : State :=
  (s.updHif fun h => { h with err := putBit h.err bit true, lastQueue := BitVec.ofNat 5 queue }).postEvent 0x0008 queue
    (wr 4 (2 ^ bit))

/-- MOD_ERR bits (R545, R552, R556, R562). -/
def meWriteRefused : Nat := 0
def meLockedWrite : Nat := 1
def meSafeEnRefused : Nat := 2
def meRvChanged : Nat := 3

/-- A bit of MOD_ERR sets with LAST_OFFSET. -/
def State.modError (bit : Nat) (offset : Nat) (s : State) : State :=
  s.updRegs fun r => { r with modErr := putBit r.modErr bit true, lastOffset := BitVec.ofNat 16 offset }

/-- The conditions of R530 and R571, with the level each sets, worst first. The number is the model's own code. -/
def State.conditions (s : State) : List (Health × Nat) :=
  let anyChan (d : Diag) : Bool := (List.finRange 128).any fun i => s.chans[i].has d
  [(.fault, 0, s.mod.state == .fatal), (.fault, 1, s.mod.conflict), (.fault, 2, s.mod.prgFailed),
   (.fault, 3, s.mod.selftest.any fun t => !t.safMemory), (.fault, 4, s.mod.testMode),
   (.degraded, 5, [Isl.hif, .svc, .prg, .ctl, .mot, .rng, .tim, .recorder, .disp, .aon].any s.isStalled),
   (.degraded, 6, anyChan .laneFailed || anyChan .laneDegraded), (.degraded, 7, s.saf.fault.isSome),
   (.degraded, 8, (List.finRange 2).any fun i => s.stores[i].lost), (.degraded, 9, s.mod.safeRestart),
   (.degraded, 10, s.prg.state == .halted),
   (.warning, 11, (List.finRange 9).any fun i => s.mod.ledger[i].warning),
   (.warning, 12, (List.finRange 8).any fun g => s.groups[g].supply == .low), (.warning, 13, s.pair.noReferee),
   (.warning, 14, !s.pair.dups.isEmpty), (.warning, 15, s.stores[1].overBudget)].filterMap
    fun (l, n, on) => if on then some (l, n) else none

def Health.code : Health → Nat
  | .ok => 0 | .warning => 1 | .degraded => 2 | .fault => 3

/-- The health level in force: the worst of the conditions (R530). -/
def State.healthNow (s : State) : Health := match s.conditions with | [] => .ok | (l, _) :: _ => l

/-- A change of health level is recorded and posted as event 0x0111 HEALTH with the condition that set it (R530). -/
def State.settleHealth (s : State) : State :=
  let h := s.healthNow
  if h = s.mod.health then s else
  let c : Nat := match s.conditions with | [] => 0xFF | (_, n) :: _ => n
  ((s.updMod fun m => { m with health := h }).record .svc .health [h.code, c]).postEvent 0x0111 0
    (wr 1 h.code ++ wr 1 c)

/-! ### Ledger warnings (R534, R538) -/

def State.updLedger (i : Fin 9) (f : LedgerEntry → LedgerEntry) (s : State) : State :=
  s.updMod fun m => { m with ledger := m.ledger.set i (f m.ledger[i]) }

/-- Nanoseconds of a day. -/
def dayNs : Nat := 86400000000000

/-- A measured value enters its instance: last, worst, history and trend of at most one value a day (R537, R538). -/
def LedgerEntry.measured (now : Int) (ops : Nat) (lower : Bool) (v : Rat) (e : LedgerEntry) : LedgerEntry :=
  let worse (w : Rat × Int) : Bool := if lower then decide (v < w.1) else decide (w.1 < v)
  let newDay := match e.history with | h :: _ => decide (h.2 + (dayNs : Int) ≤ now) | [] => true
  let newTrend := match e.trend with | h :: _ => decide (h.1 + 86400 ≤ ops) | [] => true
  { e with
    last := some (v, now),
    worst := match e.worst with | some w => if worse w then some (v, now) else some w | none => some (v, now),
    history := if newDay then ((v, now) :: e.history).take 64 else e.history,
    trend := if newTrend then ((ops, v) :: e.trend).take 91 else e.trend }

/-- The detail of an instance for one channel, lane, sector or clock. -/
def State.detail (i : Fin 9) (index : Nat) (v : Rat) (s : State) : State :=
  s.updLedger i fun e => { e with detail := (e.detail.filter fun d => d.1 != index) ++ [(index, v)] }

/-- A value measured for one channel, lane, sector or clock (R537, R538). -/
def State.measure (i : Fin 9) (lower : Bool) (index : Nat) (v : Rat) (s : State) : State :=
  (s.updLedger i (LedgerEntry.measured s.now s.mod.opSeconds lower v)).detail i index v

/-- A warning of a ledger instance sets or clears, with its record; when it sets, event 0x0113 LEDGER_WARN carries the channel or
sector concerned and the value in thousandths. -/
def State.ledgerWarn (i : Fin 9) (on : Bool) (index : Nat) (value : Rat) (s : State) : State :=
  if s.mod.ledger[i].warning = on then s
  else
    let s := (s.updLedger i fun e => { e with warning := on }).record .svc .ledgerWarn [i.val, b2n on, index, (value * 1000).floor]
    (if on then s.postEvent 0x0113 i.val (wr 4 index ++ wrS 8 (value * 1000).floor) else s).settleHealth

end Sys2Proof.Machine
end

