-- ==== Sys2Proof/Machine/Field.lean ====
section
/-! DEFINITION. The field side: channel cells and group controllers (R43 to R50, R57 to R74, R89 to R94, R618). -/

namespace Sys2Proof.Machine

/-- Tick period in ns (R27). -/
def tickNs : Ns := 50000

/-- Ring-time stamp of the last tick boundary. -/
def State.tickStamp (s : State) : Int := s.tickAt + s.time.ringOff

/-- Whether the group's outputs have no supply or no path: LPLUS_OFF, or the disconnect switch open (R44, R70). -/
def GroupCtl.dead (g : GroupCtl) : Bool := g.supply == .off || g.disc != 0

/-- Whether a switch output is on at the terminal side of its switch (R61, R63, R70, R71, R94, R618). -/
def Cell.switched (c : Cell) : Bool :=
  c.out.on && !c.tripped && !c.lockedOff && !c.fieldOff && c.offPulseAt.isNone

/-- Whether a switch output is energised: switched on, with supply and path. -/
def State.energised (s : State) (ch : Fin 128) : Bool := s.cells[ch].switched && !s.gfes[grp ch].dead

/-- T_LIM in force at the cell, in the coding of TEMP, offset -55 °C (R30, R93). -/
def Cell.tLimCode (c : Cell) : Nat := c.tLim + 55

/-- Overload threshold of a cell in 50 µA units: 0.6 A, lowered by the ledger's derating in force at the cell (R30, R61,
R534). -/
def Cell.overThreshold (c : Cell) : Rat := 12000 / sqrtR c.derate

/-- The ledger's margins reach a cell with the next group lane frame (R30). -/
def Cell.margins (tLim : Nat) (derate : Rat) (c : Cell) : Cell := { c with tLim := tLim, derate := derate }

/-- VLOG is present (R43, R45, R494): powered, and not fallen away during the hold-up. -/
def Module.vlog (m : Module) : Bool := m.powered && (m.failAt.isNone || m.vlogBack)

/-- Calibrated current in mA (R106, R112). -/
def Chan.current (c : Chan) (mA : Rat) : Rat := c.cal.gain * mA + c.cal.offset

/-- MEAS in mA: 2 nA units (R46). -/
def measMa (meas : Nat) : Rat := (meas : Rat) / 500000

/-- Whether HART is enabled on a record: HART_EN in an AO or AI mode (R54, R121). -/
def hartOn (r : Bytes) : Bool := recHartEn r && ((recMode r).isAo || (recMode r).isAi)

/-- Duration of a HART character, 11 bits at 1200 bit/s, in ns (R116). -/
def hartCharNs : Ns := 9166667

/-- Failure level of a channel as a current code (R99). -/
def State.failCode (s : State) (r : Bytes) : Nat := if s.failHigh r then 53750 else 8750

/-- Code an AO cell is to drive: the failure level under FAIL_SIG, its current code otherwise (R87). -/
def State.aoDemand (s : State) (ch : Fin 128) : Nat :=
  if s.cells[ch].out.failSig then s.failCode (s.cellRec ch) else s.cells[ch].out.code.toNat

/-- The output switches on: the inrush window opens (R61). -/
def Cell.switchOn (now : Ns) (c : Cell) : Cell :=
  { c with inrushUntil := some (now + 10000000), onSince := some now, overSince := none, openSince := none }

/-- A DO or SDO is off by command; trips and lock stay (R23, R61). -/
def Cell.off (c : Cell) : Cell :=
  { c with out := { c.out with on := false }, inrushUntil := none, onSince := none, overSince := none, openSince := none,
           sawOff := true }

/-- The owner commands a DO or SDO off: the trip count and the lock end (R61). -/
def Cell.commandOff (c : Cell) : Cell :=
  { c.off with tripped := false, retryAt := none, lockedOff := false, trips := 0 }

/-- A trip: off, one more trip, retried after 1 s or, at the fourth, locked off (R61). -/
def Cell.trip (now : Ns) (c : Cell) : Cell :=
  let n := c.trips + 1
  { c with trips := n, tripped := true, overSince := none, onSince := none, inrushUntil := none,
           lockedOff := 4 ≤ n, retryAt := if 4 ≤ n then none else some (now + 1000000000) }

/-- The field side switches an SDO off without a command: it returns only by R618. -/
def Cell.forceOff (c : Cell) : Cell := { c with fieldOff := true, sawOff := false, onSince := none, overSince := none }

/-! ### The latch (R57 to R62, R89 to R94) -/

/-- RAW at the latch: terminal voltage against the thresholds, with their hysteresis (R57, R598). -/
def latchRaw (m : ChanMode) (raw : Bool) (termV : Nat) : Bool :=
  if m.isDi then
    let rise := if m == .di1 then Config.riseDi1 else Config.riseDi3
    if raw then Config.fall rise ≤ termV else rise ≤ termV
  else false

/-- OUT_RB: above the DI3 rising threshold; AO 0.5 mA (250,000 units of 2 nA); AI 0 (R46, R88, R598). -/
def latchRb (m : ChanMode) (meas termV : Nat) : Bool :=
  if m.isAo then 250000 ≤ meas
  else if m.isAi || m == .unconfigured then false
  else Config.riseDi3 < termV

/-- The input filter: the filtered state follows RAW held for FILTER consecutive latches (R57). A latch inside the
channel's own test pulse is left out (R66). -/
def filterStep (n : Nat) (skip : Bool) (raw : Bool) (c : Cell) : Bool × Nat :=
  if skip then (c.input, c.filterRun)
  else if raw == c.input then (c.input, 0)
  else if n ≤ c.filterRun + 1 then (raw, 0) else (c.input, c.filterRun + 1)

/-- Starts, keeps or ends a condition's clock. -/
def since (cond : Bool) (now : Ns) (old : Option Ns) : Option Ns := if cond then some (old.getD now) else none

/-- Whether a condition has held for `d`. -/
def held (now : Ns) (x : Option Ns) (d : Ns) : Bool := match x with | some t => t + d ≤ now | none => false

/-- The emission of a PULSE channel at a tick boundary: the scheduled edges if the last tick's frame was accepted, none and
low otherwise (R64, R71, R94). -/
def pulseStep (blocked : Bool) (c : Cell) : Cell :=
  if c.gotFrame && !blocked then
    { c with emitted := c.sched, sched := [], gotFrame := false,
             out := { c.out with level := c.out.level != (c.sched.length % 2 == 1) } }
  else { c with emitted := [], sched := [], gotFrame := false, out := { c.out with level := false } }

/-- The adaptive supply of AO_SOURCE in mV: loop voltage plus 1.5 V within its bounds (R89); held while a raise is under
way (R90); 3.0 V with one probing tick every 100 ms while reverse current is blocked (R98). -/
def buckStep (tick : Nat) (lplusV : Nat) (termV : Nat) (c : Cell) : Nat :=
  let top := 10 * lplusV - 2000
  if c.waiting.isSome then c.buck
  else if c.buck ≤ termV ∧ c.buck ≠ 0 then (if tick % 2000 = 0 then max 3000 top else 3000)
  else max 3000 (min top (termV + 1500))

/-- The current limit of an AO cell: 1 mA down per tick at T_LIM, 1 mA up per 10 ms once cool, until it reaches the
demand (R93). -/
def limitStep (now : Ns) (lim : Nat) (temp demand : Nat) (c : Cell) : Nat × Ns :=
  if lim ≤ temp then (c.limit - 2500, c.limitRaised)
  else if temp + 15 ≤ lim ∧ c.limit < demand ∧ c.limitRaised + 10000000 ≤ now then (min 62500 (c.limit + 2500), now)
  else (c.limit, c.limitRaised)

/-- The output trim: the calibrated readback is drawn to the demand within ±1 % of 20 mA, 500 units; frozen in shortfall,
foldback and silence (R92). -/
def trimStep (frozen : Bool) (demand actual : Int) (trim : Int) : Int :=
  if frozen then trim else max (-500) (min 500 (trim + (demand - actual)))

/-- Place of a ring time in the aligned rounds of `period` ns, in ticks (R65, R66). -/
def roundTick (period : Int) (ring : Int) : Nat := ((ring % period) / tickNs).toNat

/-- Whether the latch of the present tick falls inside the channel's own 300 µs test pulse: the first six ticks of its slot (R66). -/
def State.inTestPulse (s : State) (ch : Fin 128) : Bool :=
  let k := roundTick 100000000 s.tickStamp
  decide (15 * ch.val ≤ k ∧ k < 15 * ch.val + 6)

/-- The modem of a cell at a tick boundary: a character ends after 11 bits, and the next one of the buffer starts; without HART
or in the silent state transmission stops (R71, R116). -/
def hartStep (now : Ns) (live : Bool) (c : Cell) : Cell :=
  let start (at_ : Ns) : Cell :=
    match c.tx with
    | [] => { c with txUntil := none, txNow := none }
    | b :: rest => { c with tx := rest, txUntil := some (at_ + hartCharNs), txNow := some b.1 }
  if !live then { c with tx := [], txUntil := none, txNow := none }
  else match c.txUntil with
    | some e => if now < e then { c with txNow := none } else start e
    | none => start now

/-- One cell latches its stages at a tick boundary. -/
def latchCell (s : State) (ch : Fin 128) (x : CellSample) (c : Cell) : Cell :=
  let now := s.clock
  let r := s.cellRec ch
  let m := c.mode
  let g := s.gfes[grp ch]
  let meas := x.meas.toNat
  let raw := latchRaw m c.raw x.termV.toNat
  let (flt, run) := filterStep (recFilter r) (m == .sdi && s.inTestPulse ch) raw c
  let hot := c.tLimCode ≤ x.temp.toNat
  let cool := x.temp.toNat + 15 ≤ c.tLimCode
  let wb := m.isDi && recWbEn r
  let on := c.out.on && m.isDo
  let inrush := match c.inrushUntil with | some t => now < t | none => false
  let demand := s.aoDemand ch
  let (limit, raised) := limitStep now c.tLimCode x.temp.toNat demand c
  let folded := m.isAo && limit < demand
  let thermal :=
    if m.isAo then folded || c.has .thermal
    else if m == .pulse then (if c.has .thermal then !cool else hot)
    else if m == .dout then c.has .thermal || hot
    else hot
  let frozen := c.has .compliance || folded || c.silent || g.dead || s.chans[ch].cal.running.isSome
  let actual : Int := roundAway (s.chans[ch].current (measMa meas) * 2500)
  let c1 : Cell := { c with
    meas := x.meas, termV := x.termV, iout := x.iout, temp := x.temp, pulseSeen := x.pulseSeen, hartRx := x.hartRx,
    edges := if m.isDi then x.edges else [],
    raw := raw, input := flt, filterRun := run, outRb := latchRb m meas x.termV.toNat,
    wbSince := since (wb && meas < 175000) now c.wbSince,
    wbClearSince := since (wb && 225000 ≤ meas) now c.wbClearSince,
    openSince := since (on && recOpenLoad r && x.iout.toNat < 20) now c.openSince,
    overSince := since (on && c.switched && !inrush && decide (c.overThreshold < x.iout.toNat)) now c.overSince,
    buck := if m == .aoSource && !g.dead then buckStep s.tick g.lplusV.toNat x.termV.toNat c else 0,
    limit := if m.isAo then limit else 62500, limitRaised := raised,
    coolSince := since (m.isAo && c.has .thermal && !folded && cool) now c.coolSince,
    trim := if m.isAo then trimStep frozen demand actual c.trim else 0,
    silentTail := if c.silent then c.silentTail else c.silentTail - 1,
    offPulseAt := match c.offPulse with
      | some p => some (now + 25 * p.toNat)
      | none => c.offPulseAt,
    offPulse := none }
  let c2 := hartStep now (hartOn r && !c.silent) (if m == .pulse then pulseStep (c.silent || (thermal && !cool) || g.dead) c1 else c1)
  let c3 := if m.isDo && hot && c.switched then
      (if m == .dout then c2.trip now else c2.forceOff) else c2
  let c4 := ((c3.put .thermal thermal).put .openLoad (c.has .openLoad && x.iout.toNat < 40)).put .wireBreak (c.has .wireBreak && wb)
  c4.put .silentHold (c.silent || 0 < c4.silentTail)

/-- Edges of the last tick: number, first and last (R57). -/
def edgeInfo (l : List (BitVec 11 × Bool)) : Nat × (Nat × Bool) × (Nat × Bool) :=
  match l with
  | [] => (0, (0, false), (0, false))
  | e :: _ => let z := l.getLast?.getD e; (l.length, (e.1.toNat, e.2), (z.1.toNat, z.2))

/-- HART field of a cell's input frame: the received character, its error and the carrier as the modem has them, TX_READY and
TX_ACTIVE from its transmit buffer (R116). -/
def hartField (r : Bytes) (c : Cell) : Nat :=
  if hartOn r then
    (c.hartRx &&& 0xE0FF#16).toNat + 4096 * b2n (decide (c.tx.length < 4)) + 2048 * b2n c.txUntil.isSome
  else 0

/-- The input frame of a cell (R46). INPUT reads 0 under WIRE_BREAK and is inverted by INVERT (R54, R58). -/
def cellFrame (s : State) (ch : Fin 128) : BitVec 256 :=
  let c := s.cells[ch]
  let r := s.cellRec ch
  let e := edgeInfo c.edges
  let inp := c.mode.isDi && !(c.has .wireBreak) && (c.input != recInvert r)
  InFrame.pack
    { epoch := c.epoch.toNat, seq := c.lastSeq.toNat, mode := c.mode.code, input := inp, raw := c.raw, outRb := c.outRb,
      holding := c.silent || c.holdSubst, meas := c.meas.toNat, termV := c.termV.toNat, iout := c.iout.toNat,
      temp := c.temp.toNat, diag := c.diag.toNat, pulseSeen := c.pulseSeen.toNat, edge1 := e.2.1.1, rise1 := e.2.1.2,
      edge2 := e.2.2.1, rise2 := e.2.2.2, count := e.1, hart := hartField r c }

/-- The group controller samples L+, its currents and its temperature at a tick boundary (R63, R69). Currents are summed in
units of 50 µA; the window holds one second. GROUP_I takes the output stage currents of DO, SDO and PULSE (DESIGN CHOICE,
log 84). -/
def latchGroup (s : State) (g : Fin 8) (x : GroupSample) (cells : Vector Cell 128) (q : GroupCtl) : GroupCtl :=
  let v := x.lplusV.toNat
  let now := s.clock
  let sum (all : Bool) : Nat := (List.finRange 16).foldl (fun a i =>
    let c := cells[chanOf g i]
    if c.mode.isDo || c.mode == .pulse then
      (if !all && (match c.inrushUntil with | some t => decide (now < t) | none => false) then a else a + c.iout.toNat)
    else a) 0
  let window := (sum false :: q.window).take 20000
  let total := window.foldl (· + ·) 0
  { q with
    lplusV := x.lplusV, temp := x.temp, groupI := BitVec.ofNat 16 (sum true / 20), window := window,
    lowSince := since (v < 1920) now q.lowSince,
    offRun := if v < 1600 then q.offRun + 1 else 0, highRun := if 3200 < v then q.highRun + 1 else 0,
    recoverSince := since (match q.supply with
      | .low => 1960 ≤ v | .off => 1640 ≤ v | .high => v ≤ 3160 | _ => false) now q.recoverSince,
    overload := decide (120000 * 20000 < total),
    shedding := if q.shedding then decide (120000 * 20000 ≤ total) else decide (132000 * 20000 ≤ total),
    silentTail := if q.silent then q.silentTail else q.silentTail - 1, exited := [] }

/-- The standard DO of a group to shed next: switched on, highest IOUT, the lowest number of equals (R63). -/
def shedPick (s : State) (g : Fin 8) : Option (Fin 128) :=
  ((List.finRange 16).map (chanOf g)).foldl (fun best i =>
    let c := s.cells[i]
    if c.mode == .dout && c.switched then
      match best with
      | none => some i
      | some b => if s.cells[b].iout.toNat < c.iout.toNat then some i else best
    else best) none

/-- Load shedding: one standard DO per tick is switched off with OVERLOAD and follows the retry rule (R63). -/
def State.shed (g : Fin 8) (s : State) : State :=
  if s.gfes[g].shedding then
    match shedPick s g with
    | some i => (s.updCell i fun c => c.trip s.clock).diagBoth i .overload true
    | none => s
  else s

/-- The input frame of a group controller (R46). -/
def groupFrame (s : State) (g : Fin 8) : BitVec 256 :=
  let q := s.gfes[g]
  GroupIn.pack
    { epoch := q.epoch.toNat, seq := q.lastSeq.toNat, lplusV := q.lplusV.toNat, groupI := q.groupI.toNat,
      disc := q.disc.toNat, temp := q.temp.toNat, chunkAck := q.chunkAck.toNat,
      crc := match q.cfg with | some o => (crc32c o).toNat | none => 0,
      silentSeen := q.silent || 0 < q.silentTail, held := q.cfg.isSome }

/-- One record per group for the cells and the controller that left the silent state in the tick that ends (R83). -/
def State.exitRecord (g : Fin 8) (s : State) : State :=
  if s.gfes[g].exited.isEmpty then s
  else s.record .tim .silentExit ((g.val : Int) :: s.gfes[g].exited.flatMap fun p => [(p.1 : Int), (p.2 : Int)])

/-- Every local channel's published sample with its quality. -/
def State.localSamples (s : State) : List (Fin 128 × Sample × Quality) :=
  (List.finRange 128).map fun i => (i, s.chans[i].sample, s.chans[i].quality)

/-- The newest bus cycle whose cyclic window has ended before an instant. -/
def Ring.endedBefore (r : Ring) (t : Int) : Nat :=
  if (r.busStart : Int) + r.cfg.window * r.cfg.tBus * 10 < t then r.busCycle else r.busCycle - 1

/-- A tick boundary: the tick that ends is published whole, loops, groups, axes and functions are published for the one that
begins, and a bus cycle whose window has ended in between is given the tick before (R136, R154). -/
def State.keepTick (s : State) : State :=
  let prev : TickImage := { s.prg.tickImage with stamp := s.tickStamp, locals := s.localSamples }
  let k := s.ring.endedBefore s.clock
  s.updPrg fun p => { p with
    prevImage := prev, windowImage := if p.windowImage.1 = k then p.windowImage else (k, prev),
    tickImage := { stamp := s.now, loops := s.loops.toList, overs := s.overs.toList, axes := s.axes.toList,
                   functions := s.saf.fns.toList } }

/-- The image of the latest tick whose samples have all been published: 36 µs after the tick (R27, R136). -/
def State.latestImage (s : State) : TickImage :=
  if s.tickAt + 36000 ≤ s.clock then { s.prg.tickImage with stamp := s.tickStamp, locals := s.localSamples } else s.prg.prevImage

/-- The image an input read of bus cycle `k` takes in isochronous mode (R154). -/
def State.windowImage (s : State) (k : Nat) : TickImage :=
  if s.prg.windowImage.1 = k then s.prg.windowImage.2 else s.latestImage

/-- LANE_TICK (R27): every front-end chip latches, and the input frames leave. -/
def execLaneTick (t : Ns) (cells : Vector CellSample 128) (groups : Vector GroupSample 8) (s : State) : Res :=
  let s := s.begin t
  let s := s.keepTick
  let s := { s with tick := s.tick + 1, tickAt := s.clock }
  let s := forAll 8 State.exitRecord s
  let old := s
  let s := forAll 128 (fun i => State.updCell i (latchCell old i cells[i])) s
  let new := s.cells
  let s := forAll 8 (fun g => State.updGfe g (latchGroup old g groups[g] new)) s
  let s := forAll 8 State.shed s
  let s := forAll 128 (fun i z => match z.cells[i].txNow with | some b => z.emit (.hart i [b]) | none => z) s
  let s := forAll 128 (fun i z => z.emit (.laneIn i (cellFrame z i))) s
  .next (forAll 8 (fun g z => z.emit (.groupIn g (groupFrame z g))) s)

/-! ### Output frames at the cell (R47, R64, R65, R71 to R74, R87, R90, R279, R618) -/

/-- Whether a receiver takes a frame: its CRC, TYPE and epoch are right, and its SEQ is one to three on, or the receiver is
silent (R47). -/
def acceptable (type : Nat) (epoch : BitVec 6) (last : BitVec 8) (silent : Bool) (f : BitVec 256) : Bool :=
  frameGood type f && fld f 245 240 == epoch.toNat &&
    (silent || (let d := seqAfter last (BitVec.ofNat 8 (fld f 239 232)); 1 ≤ d && d ≤ 3))

/-- A DO or SDO cell applies the commanded state (R61, R279, R618). -/
def applySwitch (now : Ns) (on : Bool) (c : Cell) : Cell :=
  if on then
    let c := if c.fieldOff && c.sawOff then { c with fieldOff := false, sawOff := false } else c
    if c.out.on then c else ({ c with out := { c.out with on := true } } : Cell).switchOn now
  else c.commandOff

/-- The buck target of a raised demand in mV (R90). -/
def buckTarget (c : Cell) (lplusV : Nat) (code : Nat) : Nat :=
  let top := 10 * lplusV - 2000
  let present := c.meas.toNat / 200
  if present < 2500 then max 3000 top else max 3000 (min top (c.termV.toNat * code / present + 1500))

/-- An AO cell takes a code: a new demand above the present current in AO_SOURCE waits for the buck (R90), any other new demand
acts at once, and a demand already in force or waiting changes nothing. -/
def applyCurrent (lplusV : Nat) (code : BitVec 16) (fail : Bool) (failCode : Nat) (c : Cell) : Cell :=
  let want := if fail then failCode else code.toNat
  let old := match c.waiting with | some (k, f, _) => (k, f) | none => (c.out.code, c.out.failSig)
  if old = (code, fail) then c
  else if c.mode == .aoSource && c.meas.toNat / 200 < want then
    let b := buckTarget c lplusV want
    if b ≤ c.buck then { c with out := { c.out with code := code, failSig := fail }, waiting := none }
    else { c with waiting := some (code, fail, b) }
  else { c with out := { c.out with code := code, failSig := fail }, waiting := none }

/-- An override drives the output off, whatever the frame carries beside: de-energised, no pulses, 0 mA (R23). -/
def applyOff (x : OutFrame) (c : Cell) : Cell :=
  match c.mode with
  | .dout => if x.holdReq || x.out.testBit 0 then c.off else c.commandOff
  | .sdo => c.commandOff
  | .pulse => { c with sched := [], out := { c.out with level := false } }
  | .aoSource | .aoSink => { c with out := { c.out with code := 0, failSig := false }, waiting := none }
  | _ => c

/-- The cell applies an accepted frame to its output, by mode. -/
def applyOut (s : State) (ch : Fin 128) (x : OutFrame) (c : Cell) : Cell :=
  if x.safOff then applyOff x c
  else if x.holdReq then c
  else match c.mode with
  | .dout => applySwitch s.clock (x.out.testBit 0) c
  | .sdo => applySwitch s.clock (x.out.testBit 0 && x.out.testBit 1) c
  | .pulse => { c with sched := x.edges.map (BitVec.ofNat 11), out := { c.out with level := x.out.testBit 0 } }
  | .aoSource | .aoSink =>
    applyCurrent s.gfes[grp ch].lplusV.toNat (BitVec.ofNat 16 x.out) (x.out.testBit 16) (s.failCode (s.cellRec ch)) c
  | _ => c

/-- The cell takes a HART character into its four-character transmit buffer (R116). -/
def takeHart (r : Bytes) (x : OutFrame) (c : Cell) : Cell :=
  if hartOn r && !c.silent && x.hart.testBit 15 && decide (c.tx.length < 4) then
    { c with tx := c.tx ++ [(BitVec.ofNat 8 x.hart, x.hart.testBit 14)] }
  else c

/-- A frame the cell accepted: bookkeeping, and the second consecutive frame of a silent cell ends its silence (R71, R74).
A frame marked OWNER_LOST counts for SEQ and epoch only (R26, R71; DEDUCED, log 97). -/
def takeFrame (s : State) (ch : Fin 128) (x : OutFrame) (c : Cell) : Cell :=
  let sq := BitVec.ofNat 8 x.seq
  if x.ownerLost then { c with lastSeq := sq, lastAccept := s.clock }
  else
    let live : Cell := { c with lastSeq := sq, lastAccept := s.clock, lastOutAccept := s.clock, gotFrame := true }
    let off (k : Cell) : Cell := if x.out.testBit 0 && x.out.testBit 1 then k else { k with sawOff := true }
    if c.silent then
      match c.exitCand with
      | some p =>
        if seqAfter p sq = 1 then
          applyOut s ch x { live with silent := false, exitCand := none, silentTail := 5, holdSubst := false }
        else off { live with exitCand := some sq, gotFrame := false }
      | none => off { live with exitCand := some sq, gotFrame := false }
    else
      let k := applyOut s ch x (off live)
      if x.offPulse && c.mode.isDo && c.switched then { k with offPulse := some (BitVec.ofNat 11 x.pulseT) } else k

/-- CHANNEL_OUTPUT_FRAME (R47): a cell receives an output frame; under lane loopback it receives none (R553). -/
def execChannelOutputFrame (t : Ns) (ch : Fin 128) (frame : Option (BitVec 256)) (s : State) : Res :=
  let s := s.begin t
  let c := s.cells[ch]
  match frame with
  | none => .next s
  | some f =>
    if s.regs.testCtl.getLsbD (grp ch).val || !acceptable 1 c.epoch c.lastSeq c.silent f then .next s
    else
      let k := takeHart (s.cellRec ch) (OutFrame.unpack f) (takeFrame s ch (OutFrame.unpack f) c)
      let s := s.updCell ch fun _ => k
      .next (if c.silent && !k.silent then
        s.updGfe (grp ch) fun q => { q with exited := q.exited ++ [(ch.val, s.clock - c.silentSince)] } else s)

/-- BUCK_TARGET_REACHED (R90): the buck output has arrived, and the output stage applies the waiting current. -/
def execBuckTargetReached (t : Ns) (ch : Fin 128) (s : State) : Res :=
  let s := s.begin t
  .next (s.updCell ch fun c =>
    match c.waiting with
    | some (code, fail, b) => { c with waiting := none, buck := b, out := { c.out with code := code, failSig := fail } }
    | none => c)

/-- Requests on a channel's modem end HART_LANE_SILENT (R121). -/
def State.hartFlush (ch : Fin 128) (st : BitVec 16) (s : State) : State :=
  let h := s.harts[ch]
  let all := (h.active.toList ++ h.waiting).map HartReq.org
  let s := s.updHart ch fun h =>
    { h with active := none, waiting := [], txQueue := [], txEnd := none, rxErr := false,
             state := (if h.state = .disabled then .disabled else .idle) }
  s.completeAll all (Outcome.error st)

/-- SILENT_ENTRY (R71): 200 µs without an accepted output frame. -/
def execSilentEntry (t : Ns) (ch : Fin 128) (s : State) : Res :=
  let s := s.begin t
  let c := s.cells[ch]
  if c.silent || s.clock < s.dueField (grp ch) c.lastOutAccept 200000 then .next s
  else
    let s := s.updCell ch fun c =>
      let c : Cell := { c with silent := true, silentSince := s.clock, exitCand := none, sched := [], emitted := [],
                               gotFrame := false, offPulse := none, tx := [], txUntil := none, txNow := none,
                               out := { c.out with level := if c.mode == .pulse then false else c.out.level } }
      (if c.mode == .sdo then c.forceOff else c).put .silentHold true
    .next (s.hartFlush ch stHartLaneSilent)

/-- SDO_READBACK_CHECK (R73): an SDO of a silent cell that reads on 1.2 ms after the last accepted frame opens the group's
disconnect switch. -/
def execSdoReadbackCheck (t : Ns) (ch : Fin 128) (s : State) : Res :=
  let s := s.begin t
  let c := s.cells[ch]
  if c.mode == .sdo && c.silent && decide (s.dueField (grp ch) c.lastOutAccept 1200000 ≤ s.clock) && c.outRb then
    .next (s.updGfe (grp ch) fun q => { q with disc := 2 })
  else .next s

/-- HOLD_LIMIT_EXPIRY (R72): the silent state has lasted to the group's HOLD_LIMIT, on the field side's clock within 5 %,
and the channel takes its substitute value. -/
def execHoldLimitExpiry (t : Ns) (ch : Fin 128) (s : State) : Res :=
  let s := s.begin t
  let c := s.cells[ch]
  let lim := holdLimit s.gfes[grp ch].cfg
  let r := s.cellRec ch
  if c.silent && lim != 0 && !c.holdSubst && decide (s.dueField (grp ch) c.lastOutAccept (lim * 950000) ≤ s.clock) then
    .next (s.updCell ch fun c =>
      let out : FieldOut :=
        match recSubst r with
        | 1 => { c.out with on := c.mode == .dout && (recSubstValue r).testBit 0,
                            code := if c.mode.isAo then BitVec.ofNat 16 (recSubstValue r) else c.out.code, failSig := false }
        | 2 => { c.out with on := false, code := 0, failSig := false }
        | _ => c.out
      { c with holdSubst := true, out := out, waiting := none })
  else .next s

/-! ### Detectors of a cell (R58, R61 to R63, R93, R94) -/

/-- WIRE_BREAK_SET (R58): MEAS below 0.35 mA for 20 ms. -/
def execWireBreakSet (t : Ns) (ch : Fin 128) (s : State) : Res :=
  let s := s.begin t
  if held s.clock s.cells[ch].wbSince 20000000 then .next (s.diagBoth ch .wireBreak true) else .next s

/-- WIRE_BREAK_CLEAR (R58): MEAS at or above 0.45 mA for 20 ms. -/
def execWireBreakClear (t : Ns) (ch : Fin 128) (s : State) : Res :=
  let s := s.begin t
  if held s.clock s.cells[ch].wbClearSince 20000000 then .next (s.diagBoth ch .wireBreak false) else .next s

/-- INRUSH_WINDOW_END (R61): the 10 ms after a switch-on are over. -/
def execInrushWindowEnd (t : Ns) (ch : Fin 128) (s : State) : Res :=
  let s := s.begin t
  match s.cells[ch].inrushUntil with
  | some e => if e ≤ s.clock then .next (s.updCell ch fun c => { c with inrushUntil := none }) else .next s
  | none => .next s

/-- OVERLOAD_TRIP (R61): IOUT above the threshold for 5 ms after the inrush window. -/
def execOverloadTrip (t : Ns) (ch : Fin 128) (s : State) : Res :=
  let s := s.begin t
  if s.cells[ch].mode.isDo && s.cells[ch].switched && held s.clock s.cells[ch].overSince 5000000 then
    .next ((s.updCell ch fun c => c.trip s.clock).diagBoth ch .overload true)
  else .next s

/-- OVERLOAD_RETRY (R61, R94): 1 s after a trip the cell switches on again; a cell still at its thermal limit trips again
at the next latch. -/
def execOverloadRetry (t : Ns) (ch : Fin 128) (s : State) : Res :=
  let s := s.begin t
  match s.cells[ch].retryAt with
  | some r =>
    if r ≤ s.clock then
      .next (s.updCell ch fun c => ({ c with tripped := false, retryAt := none } : Cell).switchOn s.clock)
    else .next s
  | none => .next s

/-- OVERLOAD_CLEAR (R61, R94): a switch-on has held for 1 s. -/
def execOverloadClear (t : Ns) (ch : Fin 128) (s : State) : Res :=
  let s := s.begin t
  if s.cells[ch].switched && held s.clock s.cells[ch].onSince 1000000000 then
    .next (((s.updCell ch fun c => { c with trips := 0 }).diagBoth ch .overload false).diagBoth ch .thermal
      (s.cells[ch].has .thermal && s.cells[ch].mode != .dout))
  else .next s

/-- OPEN_LOAD (R62): commanded on with IOUT below 1 mA for 100 ms. -/
def execOpenLoad (t : Ns) (ch : Fin 128) (s : State) : Res :=
  let s := s.begin t
  if held s.clock s.cells[ch].openSince 100000000 then .next (s.diagBoth ch .openLoad true) else .next s

/-- THERMAL_CLEAR (R93): an AO output has been at demand and cool for 1 s. -/
def execThermalClear (t : Ns) (ch : Fin 128) (s : State) : Res :=
  let s := s.begin t
  if s.cells[ch].mode.isAo && held s.clock s.cells[ch].coolSince 1000000000 then .next (s.diagBoth ch .thermal false)
  else .next s

/-! ### The group controller (R44 to R47, R50, R69 to R74, R77, R79, R615) -/

/-- The group controller and its 16 cells take a configuration under a new epoch in one tick (R77). A group object with
ENABLE clear leaves the group unconfigured (R53). -/
def State.gfeAdopt (g : Fin 8) (obj : Bytes) (epoch : BitVec 6) (s : State) : State :=
  let cfg := if rdBits obj 1 0 0 = 1 then some obj else none
  let s := s.updGfe g fun q => { q with cfg := cfg, epoch := epoch, chunks := [] }
  forAll 16 (fun i => State.updCell (chanOf g i) fun c =>
    let m := recMode (recordIn cfg (chanOf g i))
    if m = c.mode then { c with epoch := epoch }
    else { c with mode := m, epoch := epoch, out := {}, sched := [], emitted := [], offPulse := none, offPulseAt := none,
                  waiting := none, limit := 62500, trim := 0, tripped := false, trips := 0, retryAt := none,
                  lockedOff := false, fieldOff := false, wbSince := none, wbClearSince := none, openSince := none,
                  overSince := none, onSince := none, coolSince := none, filterRun := 0, raw := false, input := false,
                  diag := c.diag &&& 0x3800 }) s

/-- The configuration object that a group controller has received, in chunk order (R77). -/
def GroupCtl.object (q : GroupCtl) : Bytes :=
  (List.range 34).flatMap fun k => ((q.chunks.find? fun c => c.1 = k).map Prod.snd).getD []

/-- Whether every chunk has arrived and the CRC-32C of chunk 34 agrees (R77). -/
def GroupCtl.complete (q : GroupCtl) : Bool :=
  (List.range 35).all (fun k => q.chunks.any fun c => c.1 == k) &&
    ((q.chunks.find? fun c => c.1 = 34).map fun c => rd c.2 0 4) == some (crc32c q.object).toNat

/-- A group controller takes one chunk (R77). -/
def GroupCtl.chunk (k : Nat) (data : Bytes) (q : GroupCtl) : GroupCtl :=
  { q with chunks := (q.chunks.filter fun c => c.1 != k) ++ [(k, data)], chunkAck := BitVec.ofNat 6 k }

/-- DISC_OPEN in an accepted frame: set, it opens the switch by command, over a field-side opening too; clear, it closes a
switch that is open by command (R44, R615). -/
def GroupCtl.disconnect (open_ : Bool) (q : GroupCtl) : GroupCtl :=
  if open_ then { q with disc := 1 } else if q.disc = 1 then { q with disc := 0 } else q

/-- A group controller applies an accepted frame; a silent one leaves its silence at the second consecutive one (R50). -/
def State.groupTake (g : Fin 8) (x : GroupOut) (s : State) : State :=
  let q := s.gfes[g]
  let sq := BitVec.ofNat 8 x.seq
  let live : GroupCtl := { q with lastSeq := sq, lastAccept := s.clock }
  let apply (q : GroupCtl) : State :=
    let q := q.disconnect x.discOpen
    let q := if x.chunkValid then q.chunk x.chunk x.data else q
    let s := s.updGfe g fun _ => q
    let s := forAll 16 (fun i => State.updCell (chanOf g i) (Cell.margins s.mod.tLim s.mod.rWorst[chanOf g i])) s
    if x.commit && q.complete then s.gfeAdopt g q.object (BitVec.ofNat 6 x.newEpoch) else s
  if q.silent then
    match q.exitCand with
    | some p =>
      if seqAfter p sq = 1 then
        apply { live with silent := false, exitCand := none, silentTail := 5,
                          exited := q.exited ++ [(128, s.clock - q.silentSince)] }
      else s.updGfe g fun _ => { live with exitCand := some sq }
    | none => s.updGfe g fun _ => { live with exitCand := some sq }
  else apply live

/-- GROUP_OUTPUT_FRAME (R47): a group controller receives a group output frame. -/
def execGroupOutputFrame (t : Ns) (g : Fin 8) (frame : Option (BitVec 256)) (s : State) : Res :=
  let s := s.begin t
  match frame with
  | none => .next s
  | some f =>
    let q := s.gfes[g]
    if acceptable 3 q.epoch q.lastSeq q.silent f then .next (s.groupTake g (GroupOut.unpack f)) else .next s

/-- GROUP_SILENT_ENTRY (R50): 200 µs without an accepted group output frame; a safety group's SDOs go off, and a partial
configuration is discarded (R79). -/
def execGroupSilentEntry (t : Ns) (g : Fin 8) (s : State) : Res :=
  let s := s.begin t
  let q := s.gfes[g]
  if q.silent || s.clock < s.dueField g q.lastAccept 200000 then .next s
  else
    let s := s.updGfe g fun q => { q with silent := true, silentSince := s.clock, exitCand := none, chunks := [],
                                          silentCount := satAdd 32 q.silentCount 1 }
    .next (forAll 16 (fun i => State.updCell (chanOf g i) fun c => if c.mode == .sdo then c.forceOff else c) s)

/-- GROUP_SDO_READBACK_CHECK (R50): an SDO that still reads on 1.2 ms after the last accepted group frame opens the
switch. -/
def execGroupSdoReadbackCheck (t : Ns) (g : Fin 8) (s : State) : Res :=
  let s := s.begin t
  let q := s.gfes[g]
  if q.silent && decide (s.dueField g q.lastAccept 1200000 ≤ s.clock) &&
      (List.finRange 16).any (fun i => s.cells[chanOf g i].mode == .sdo && s.cells[chanOf g i].outRb) then
    .next (s.updGfe g fun q => { q with disc := 2 })
  else .next s

/-- The supply state changes: it is mirrored into DIAG of the group's channels (R69). -/
def State.setSupply (g : Fin 8) (x : Supply) (s : State) : State :=
  let s := s.updGfe g fun q => { q with supply := x, recoverSince := none }
  forAll 16 (fun i => State.updCell (chanOf g i) fun c =>
    (c.put .lplusLow (x == .low)).put .lplusOff (x == .off)) s

/-- LPLUS_LOW (R69): L+ below 19.2 V for 10 ms. It is entered from LPLUS_OK: LPLUS_OFF and LPLUS_HIGH last until their own conditions
for leaving hold (DESIGN CHOICE, log 86). -/
def execLplusLow (t : Ns) (g : Fin 8) (s : State) : Res :=
  let s := s.begin t
  let q := s.gfes[g]
  if q.supply == .ok && held s.clock q.lowSince 10000000 then .next (s.setSupply g .low) else .next s

/-- LPLUS_OFF (R69, R70, R618): four consecutive samples below 16.0 V, from any other state; SDOs stay off until commanded on
again. -/
def execLplusOff (t : Ns) (g : Fin 8) (s : State) : Res :=
  let s := s.begin t
  let q := s.gfes[g]
  if q.supply != .off && 4 ≤ q.offRun then
    let s := s.setSupply g .off
    .next (forAll 16 (fun i => State.updCell (chanOf g i) fun c => if c.mode == .sdo then c.forceOff else c) s)
  else .next s

/-- LPLUS_HIGH (R69): four consecutive samples above 32.0 V, from LPLUS_OK or LPLUS_LOW: a supply out of range is detected within
1 ms (R70), and LPLUS_OFF lasts its 100 ms (DESIGN CHOICE, log 86). -/
def execLplusHigh (t : Ns) (g : Fin 8) (s : State) : Res :=
  let s := s.begin t
  let q := s.gfes[g]
  if (q.supply == .ok || q.supply == .low) && 4 ≤ q.highRun then .next (s.setSupply g .high) else .next s

/-- LPLUS_RECOVER (R69, R70): L+ within its limit for 100 ms; leaving LPLUS_OFF, standard outputs take their owners'
demands with a new inrush window. -/
def execLplusRecover (t : Ns) (g : Fin 8) (s : State) : Res :=
  let s := s.begin t
  let q := s.gfes[g]
  if !held s.clock q.recoverSince 100000000 then .next s
  else if q.supply == .off then
    let s := s.setSupply g (if q.lplusV.toNat < 1920 then .low else .ok)
    .next (forAll 16 (fun i => State.updCell (chanOf g i) fun c =>
      if c.mode == .dout && c.out.on then c.switchOn s.clock else c) s)
  else .next (s.setSupply g .ok)

/-- GROUP_CONFIGURATION_LOST (R45): both supplies of a group controller are absent at once: L+ below 10.0 V, VLOG away. The
disconnect switch and the working epoch stay as they were (DESIGN CHOICE, log 85). -/
def execGroupConfigurationLost (t : Ns) (g : Fin 8) (s : State) : Res :=
  let s := s.begin t
  if s.mod.vlog || decide (1000 ≤ s.gfes[g].lplusV.toNat) then .next s
  else
    let s := s.updGfe g fun q => { q with cfg := none, chunks := [] }
    .next (forAll 16 (fun i => State.updCell (chanOf g i) fun c =>
      { c with mode := .unconfigured, out := {}, sched := [], emitted := [], waiting := none, holdSubst := false,
               tx := [], txUntil := none, txNow := none }) s)

end Sys2Proof.Machine
end

