-- ==== Sys2Proof/Machine/LaneHub.lean ====
section
/-! DEFINITION. The lane hub: samples published, owners' demands, output frames, readback and off-pulse evaluation, loop
currents and their conversion (R20 to R29, R48 to R50, R59, R60, R65 to R68, R75, R84 to R108, R132, R150, R264, R616). -/

namespace Sys2Proof.Machine

/-! ### Owners' demands (R22, R24, R75, R107) -/

/-- The owner's write takes the channel: holds and substitute values end (R75, R78, R150, R347). -/
def Chan.written (d : Demand) (c : Chan) : Chan :=
  { c with demand := { d with written := true }, holdReq := false, fresh := false, pstopSubst := false, ringSubst := false }

/-- An output write from an island: kept as the demand if it owns the channel, else discarded with NOT_OWNER (R22). A value
that is not finite is ignored and counted (R107); FAIL_SIG counts whatever the value holds (R139). -/
def State.ownerWrite (src : Isl) (ch : Fin 128) (on : Bool) (value : Option Rat) (fail : Bool) (s : State) : State :=
  if (s.owner ch).isl = some src then
    match value with
    | none => s.updChan ch fun c =>
        let c : Chan := { c with badDemand := satAdd 16 c.badDemand 1, demand := { c.demand with failSig := fail } }
        if fail then c.written c.demand else c
    | some v => s.updChan ch fun c => c.written { c.demand with on := on, eng := v, failSig := fail }
  else s.putDiag ch .notOwner true

/-- Time of the output cut-off after the tick boundary, ns (R27). -/
def cutoffNs : Ns := 46000

/-- An output value that its owner finishes at `done`: in time for the cut-off of the present tick it is written at once, else it
waits for the cut-off after it, so that it rides the next frame (R27). -/
def State.ownerWriteAt (done : Ns) (src : Isl) (ch : Fin 128) (on : Bool) (value : Option Rat) (fail : Bool) (s : State) : State :=
  if (s.owner ch).isl = some src && s.tickAt + cutoffNs < done && s.clock < done then
    s.updChan ch fun c => { c with late := c.late ++ [(done, on, value, fail)] }
  else s.ownerWrite src ch on value fail

/-- The output values finished by now are written, in their order (R27; DEDUCED, log 96). -/
def State.takeLate (ch : Fin 128) (s : State) : State :=
  let due := s.chans[ch].late.filter fun w => w.1 ≤ s.clock
  let src := ((s.owner ch).isl).getD .ctl
  let s := s.updChan ch fun c => { c with late := c.late.filter fun w => s.clock < w.1 }
  due.foldl (fun s w => s.ownerWrite src ch w.2.1 w.2.2.1 w.2.2.2) s

/-- A PULSE owner's level and edges for the following tick (R29, R64). -/
def State.pulseWrite (src : Isl) (ch : Fin 128) (level : Bool) (edges : List (BitVec 11)) (s : State) : State :=
  if (s.owner ch).isl = some src then
    s.updChan ch fun c => c.written { c.demand with level := level, edges := edges }
  else s.putDiag ch .notOwner true

/-- What the lane hub drives at a channel in the next frame. -/
structure Drive where
  hold : Bool := false
  subst : Bool := false
  on : Bool := false
  code : Nat := 0
  fail : Bool := false
  level : Bool := false
  edges : List (BitVec 11) := []
deriving DecidableEq, Repr

/-- The substitute value of a record: HOLD, FIXED or OFF (R54). -/
def substDrive (r : Bytes) : Drive :=
  match recSubst r with
  | 0 => { hold := true, subst := true }
  | 1 => { subst := true, on := (recSubstValue r).testBit 0, code := recSubstValue r }
  | _ => { subst := true }

/-- Current of an AO channel for an engineering value, in mA, before the clamp (R107). -/
def State.aoCurrent (s : State) (r : Bytes) (value : Rat) : Rat :=
  let f := (value - recLo r) / (recHi r - recLo r)
  match if recCharKind r = 2 then s.charOf r else none with
  | some tab => charLookup tab f
  | none => 4 + 16 * f

/-- The code an owner's engineering value gives, and whether it was clamped to OUT_MIN or OUT_MAX (R107). -/
def State.aoCode (s : State) (r : Bytes) (value : Rat) : Nat × Bool :=
  let c := s.aoCurrent r value * 2500
  let lo : Rat := recOutMin r
  let hi : Rat := recOutMax r
  ((roundAway (clampR lo hi c)).toNat, decide (c < lo) || decide (hi < c))

/-- The drive of a channel for the next frame: HOLD_REQ after a power fail (R495), a reconfiguration or a failed one, a new owner
still silent, a calibration check (R112), program stop, station substitute, HOLD_REQ, a missing table, or the owner's demand, in
this order (R75 to R79, R150, R347, R616). -/
def State.drive (s : State) (ch : Fin 128) : Drive :=
  let c := s.chans[ch]
  let g := s.groups[grp ch]
  let r := s.chanRec ch
  let m := s.mode ch
  if !m.isOut then {}
  else if s.mod.failAt.isSome && m != .sdo then { hold := true }
  else if g.change.any (·.committed) && c.swapped then {}
  else if g.change.isSome || g.stuckSubst then substDrive r
  else if c.fresh then {}
  else if m.isAo && c.cal.running.isSome then { hold := true }
  else if c.pstopSubst || c.ringSubst then substDrive r
  else if c.holdReq || s.charMissing r then { hold := true }
  else { on := c.demand.on, code := (s.aoCode r c.demand.eng).1, fail := c.demand.failSig, level := c.demand.level,
         edges := c.demand.edges }

/-! ### Output frames (R26, R27, R46, R65, R87, R107, R279) -/

/-- Whether the lane hub sends frames: TIM up, module past its self-test, lanes not stopped by a power fail (R495, R518,
R524). -/
def State.lanesLive (s : State) : Bool :=
  s.up .tim && !s.mod.lanesStopped && (s.mod.state == .loading || s.mod.state == .waitConfirm || s.mod.state == .service)

/-- Whether the owner of a channel is stalled or in reset (R26). -/
def State.ownerLost (s : State) (ch : Fin 128) : Bool :=
  match (s.owner ch).isl with
  | some i => !s.up i
  | none => false

/-- Content of the OUT field by mode (R46, R87, R279). -/
def outField (m : ChanMode) (d : Drive) (permit : Bool) : Nat :=
  match m with
  | .dout => b2n d.on
  | .sdo => b2n d.on + 2 * b2n permit
  | .pulse => b2n d.level
  | .aoSource | .aoSink => d.code % 2 ^ 16 + 2 ^ 16 * b2n d.fail
  | _ => 0

/-- Whether an off-pulse may be sent on a channel: an SDO or a DO with PULSE_EN, on, and free of override, substitute value,
HOLD_REQ and pulse-test suppression (R65, R553). -/
def State.pulseAllowed (s : State) (ch : Fin 128) : Bool :=
  let d := s.drive ch
  let suppressed := s.regs.testCtl.getLsbD (8 + (grp ch).val) && !s.safetyGroup (grp ch)
  (s.mode ch).isDo && recPulseEn (s.chanRec ch) && d.on && !d.hold && !d.subst && !s.chans[ch].safOff && !suppressed

/-- The next character for a cell, where its transmit buffer has room and the gap after the last one is over (R116). -/
def Hart.nextChar (h : Hart) : Option (Byte × Bool) :=
  match h.txQueue with
  | b :: rest => if h.txReady && h.txGap = 0 then some (b, rest.isEmpty) else none
  | [] => none

/-- HART field of an output frame: TX_VALID, TX_LAST, TX_CARRIER before the first character, TX_DATA (R116). -/
def Hart.txField (h : Hart) : Nat :=
  match h.nextChar with
  | some (b, last) => 2 ^ 15 + 2 ^ 14 * b2n last + 2 ^ 13 * b2n h.txFirst + b.toNat
  | none => 0

/-- A frame has carried the next character. TX_READY comes back some ticks later, so three frames are left out before the next
one (DESIGN CHOICE, log 88). -/
def Hart.handOver (h : Hart) : Hart :=
  match h.nextChar with
  | some _ => { h with txQueue := h.txQueue.tail, txFirst := false, txGap := 3 }
  | none => { h with txGap := h.txGap - 1 }

/-- The output frame of a channel for the next tick. -/
def State.outFrame (s : State) (seq : BitVec 8) (ch : Fin 128) : OutFrame :=
  let c := s.chans[ch]
  let d := s.drive ch
  let m := s.mode ch
  { epoch := s.groups[grp ch].epoch.toNat, seq := seq.toNat, mode := m.code, ownerLost := s.ownerLost ch,
    holdReq := d.hold, safOff := c.safOff, offPulse := c.pulseReq && s.pulseAllowed ch,
    out := if d.hold then 0 else outField m d c.permit, pulseT := 0,
    edges := if m == .pulse && !d.hold then d.edges.map BitVec.toNat else [],
    hart := if hartOn (s.chanRec ch) then s.harts[ch].txField else 0 }

/-- The current code an AO channel is commanded to: its failure level under FAIL_SIG (R87, R96). -/
def State.demandCode (s : State) (ch : Fin 128) : Nat :=
  if s.chans[ch].outFail then s.failCode (s.chanRec ch) else s.chans[ch].outCode.toNat

/-- What the lane hub keeps of a channel when its frame is built: DIAG bits, code sent, the readback clock of a changed
demand (R60, R67, R96, R107). -/
def State.built (seq : BitVec 8) (ch : Fin 128) (s : State) : State :=
  let c := s.chans[ch]
  let d := s.drive ch
  let m := s.mode ch
  let r := s.chanRec ch
  let on := m.isDo && d.on && !c.safOff && (m != .sdo || c.permit)
  let code := if d.hold then c.outCode.toNat else d.code
  let fail := if d.hold then c.outFail else d.fail
  let goal := if fail then s.failCode r else code
  let rises := m == .aoSource && goal != s.demandCode ch && decide (c.sample.meas.toNat / 200 < goal)
  let clamp := m.isAo && !d.hold && !d.subst && (s.aoCode r c.demand.eng).2
  let s := s.updHart ch fun h => if hartOn r then h.handOver else h
  let s := s.updChan ch fun c => { c with
    expectEcho := c.sent, sent := some seq, pulseReq := false,
    rbDue := if m.isDo && !d.hold && on != c.rbOn then some (s.clock + recRbDelay r * tickNs) else c.rbDue,
    rbOn := if d.hold then c.rbOn else on,
    clamped := clamp,
    outCode := if m.isAo then BitVec.ofNat 16 code else 0,
    outFail := m.isAo && fail,
    outChanged := if rises then some s.clock else c.outChanged,
    demand := { c.demand with edges := [], level := c.demand.level != (c.demand.edges.length % 2 == 1) } }
  ((s.putDiag ch .ownerLost (s.ownerLost ch)).putDiag ch .substitute d.subst).putDiag ch .safOverride c.safOff

/-- The group output frame for the next tick: DISC_OPEN, and a configuration chunk or CFG_COMMIT of a change under way
(R46, R77). -/
def State.groupOut (s : State) (seq : BitVec 8) (g : Fin 8) : GroupOut :=
  let q := s.groups[g]
  let base : GroupOut := { epoch := q.epoch.toNat, seq := seq.toNat, discOpen := q.discCmd, commit := false, newEpoch := 0,
                           chunk := 0, chunkValid := false, data := List.replicate 16 0 }
  match q.change with
  | none => base
  | some c =>
    if c.committed then base
    else if c.next < 34 then
      { base with newEpoch := c.newEpoch.toNat, chunk := c.next, chunkValid := true, data := (c.obj.drop (16 * c.next)).take 16 }
    else if c.next = 34 then
      { base with newEpoch := c.newEpoch.toNat, chunk := 34, chunkValid := true,
                  data := wr 4 (crc32c c.obj).toNat ++ List.replicate 12 0 }
    else { base with newEpoch := c.newEpoch.toNat, commit := true }

/-- One channel's frame leaves. -/
def State.sendChannel (old : State) (seq : BitVec 8) (ch : Fin 128) (s : State) : State :=
  if old.groups[grp ch].served then
    let f := (old.outFrame seq ch).pack
    ((s.built seq ch).updChan ch fun c => { c with frame := f }).emit (.laneOut ch f)
  else s.updChan ch fun c => { c with expectEcho := none, sent := none }

/-- One group's frame leaves, and a change under way moves to its next chunk. -/
def State.sendGroup (old : State) (seq : BitVec 8) (g : Fin 8) (s : State) : State :=
  if old.groups[g].served then
    let f := (old.groupOut seq g).pack
    (s.updGroup g fun q => { q with
      frame := f, change := q.change.map fun c => { c with next := min 36 (c.next + 1) },
      expectEcho := q.sent, sent := some seq }).emit (.groupOut g f)
  else s.updGroup g fun q => { q with expectEcho := none, sent := none }

/-! ### Commands of SAF (R276, R279, R290) -/

/-- SAF's commands to one channel of a safety group: an SDO by both paths, and the override (R279, R290). -/
def State.driveSaf (on ovr : List Nat) (c : Fin 128) (s : State) : State :=
  if !s.safetyGroup (grp c) then s else
  let s := if s.mode c = .sdo ∧ s.owner c = .saf then
      (s.ownerWrite .saf c (on.contains c.val) (some 0) false).updChan c fun x =>
        { x with permit := on.contains c.val, permitStamp := s.clock }
    else s
  s.updChan c fun x => { x with safOff := ovr.contains c.val }

/-- A function's outputs turn on or off (R290, R299). -/
def SafFn.turn (at_ : Ns) (on : Bool) (f : SafFn) : SafFn :=
  if on = f.outCmd then f
  else { f with outCmd := on, offSince := if on then none else some at_, fbReached := false, fbSince := none }

/-- SAF's commands are in force: channels, disconnect switches, and the functions whose outputs turned (R276, R290). -/
def State.applySaf (c : SafCmd) (s : State) : State :=
  let s := forAll 128 (State.driveSaf c.on c.ovr) s
  let s := forAll 8 (fun g => State.updGroup g fun q => { q with discCmd := c.discs[g], discFor := c.discFor[g] }) s
  let s := forAll 48 (fun sf => State.updFn sf (SafFn.turn c.due (c.run.contains sf))) s
  s.updSaf fun v => { v with release := none }

/-- The commands released by now ride the frames of the next tick (R276). -/
def State.releaseSaf (s : State) : State :=
  match s.saf.release with
  | some c => if c.due ≤ s.clock then s.applySaf c else s
  | none => s

/-- The frames of the next tick are built from the owners' values (R27). -/
def State.cutOff (s : State) : State :=
  let s := forAll 128 State.takeLate s.releaseSaf
  if !s.lanesLive then
    let s := forAll 128 (fun i => State.updChan i fun c => { c with expectEcho := none, sent := none }) s
    forAll 8 (fun g => State.updGroup g fun q => { q with expectEcho := none, sent := none }) s
  else
    let seq := s.laneSeq + 1
    let old := s
    let s := { s with laneSeq := seq }
    let s := forAll 128 (State.sendChannel old seq) s
    forAll 8 (State.sendGroup old seq) s

/-! ### Events for EVENT tasks (R132) -/

/-- An event joins the queue of a task of 16 events; a further one is discarded and counted in EVENT_LOST (R132). -/
def EventTask.push (e : PrgEvent) (k : EventTask) : EventTask :=
  if k.queue.length < 16 then { k with queue := k.queue ++ [e] } else { k with lost := satAdd 32 k.lost 1 }

/-- Whether cycles run: ISOCHRONOUS, RUNNING or SWITCHING (R152). -/
def Program.active (p : Program) : Bool := p.state == .isochronous || p.state == .running || p.state == .switching

/-- Whether EVENT tasks take events: not in STOPPED and HALTED (R152). -/
def Program.live (p : Program) : Bool := p.state != .stopped && p.state != .halted

/-- An event enters the queues of the tasks with its trigger. -/
def State.queueEvent (trig : Trigger) (e : PrgEvent) (s : State) : State :=
  if s.prg.live then
    s.updPrg fun p => { p with events := p.events.map fun k => if k.trigger = trig then k.push e else k }
  else s

/-- An event reaches the tasks with its trigger; in a pair that runs in step it waits for the next BARRIER (R364, R366). -/
def State.pushEvent (trig : Trigger) (e : PrgEvent) (s : State) : State :=
  if s.inStep then s.updPair fun p => { p with barrier := { p.barrier with events := p.barrier.events ++ [e] } }
  else s.queueEvent trig e

/-! ### Step debt (R264) -/

def axStepCh (o : Bytes) : Nat := rd o 12 1
def axDirCh (o : Bytes) : Nat := rd o 13 1
def axMs0Ch (o : Bytes) : Nat := rd o 14 1
def axMs1Ch (o : Bytes) : Nat := rd o 15 1
/-- KIND: true for SERVO (R242). -/
def axServo (o : Bytes) : Bool := rdBits o 0 6 6 == 1

/-- A missing SEQ echo on a channel of a step axis: on STEP_CH the steps of that frame go into STEP_DEBT, on a DIR or MS
channel beside emitted steps the position is no longer verified (R264). -/
def stepEcho (now : Ns) (ch : Nat) (a : Axis) : Axis :=
  match a.cfg with
  | none => a
  | some o =>
    if axServo o then a
    else if axStepCh o = ch then
      let lost := a.step.sched.headD 0
      let debt := a.step.debt + lost
      { a with step := { a.step with debt := debt, missed := satAdd 32 a.step.missed 1,
                                     debtSince := if debt = 0 then none else some (a.step.debtSince.getD now) } }
    else if (axDirCh o = ch || axMs0Ch o = ch || axMs1Ch o = ch) && a.step.sched.headD 0 != 0 then
      { a with posUnverified := true }
    else a

/-! ### Input frames (R48, R49, R57 to R60, R67, R68, R80, R96, R101 to R108) -/

/-- 2 π 25 Hz in 1/s (R101). -/
def hartOmega : Rat := 157079633 / 1000000

/-- One tick of the second-order 25 Hz low-pass of R101 in the form of its two states, the output and its rate:
`y'' = ω² (x - y) - 2 ζ ω y'`, stepped over one tick of 50 µs. It starts at the first input (DESIGN CHOICE, log 89). -/
def hartLowPass (m : Option (Rat × Rat)) (x : Rat) : Rat × Rat :=
  match m with
  | none => (x, 0)
  | some (y, v) =>
    let v' := trim64 (v + (hartOmega * hartOmega * (x - y) - 2 * Config.hartDamping * hartOmega * v) / 20000)
    (trim64 (y + v' / 20000), v')

/-- The AI_TAU filter: `y + (x - y) (1 - e^(-dt/tau))`, `x` where there is no filter or no earlier value (R101). -/
def aiFilter (tauMs : Nat) (dt : Int) (y : Option Rat) (x : Rat) : Rat :=
  match y with
  | none => x
  | some y => if tauMs = 0 then x else trim64 (y + (x - y) * (1 - expNeg ((dt : Rat) / (1000000 * tauMs))))

/-- The fraction of an AI current by its characteristic, with CUT_ACTIVE (R106). -/
def State.aiFraction (s : State) (r : Bytes) (cut : Bool) (i : Rat) : Rat × Bool :=
  let lin := (i - 4) / 16
  match recCharKind r with
  | 1 =>
    let c : Rat := (recCut r : Rat) / 10000
    let cut' := if cut then decide (lin < c + 1 / 2000) else decide (lin < c)
    (if cut' then 0 else sqrtR lin, cut')
  | 2 => match s.charOf r with
    | some tab => (charLookup tab i, false)
    | none => (lin, false)
  | _ => (lin, false)

/-- An AI sample becomes an engineering value with its band and quality (R101 to R103, R106, R112, R616). -/
def State.convertAi (s : State) (ch : Fin 128) (meas : Nat) (stamp : Int) (c : Chan) : Chan × Option Bool :=
  let r := s.chanRec ch
  if c.cal.running.isSome then ({ c with quality := .stale }, none)
  else
  let lp := hartLowPass (if recHartEn r then c.lp else none) (measMa meas)
  let y := aiFilter (recTau r) (stamp - c.filtStamp) c.filt (c.current lp.1)
  let (f, cut) := s.aiFraction r c.cutActive y
  let value := recLo r + (recHi r - recLo r) * f
  let failBand := decide (y ≤ 36 / 10) || decide (21 ≤ y)
  let now := s.clock
  let band := since failBand now c.bandSince
  let out := since (!failBand) now c.outsideSince
  let delay := recRangeDelay r * 1000000
  let bad := failBand && held now band delay
  let range : Option Bool := if bad then some true else if !failBand && held now out delay then some false else none
  let q : Quality := if s.charMissing r then .bad else if bad then .bad else if failBand then .stale else .good
  let v := if failBand then c.lastGoodValue.getD value else value
  ({ c with filt := some y, lp := some lp, filtStamp := stamp, cutActive := cut, bandSince := band, outsideSince := out,
            lastGoodValue := if failBand then c.lastGoodValue else some value, engValue := v, quality := q }, range)

/-- The engineering value of the current that flows, by the inverse characteristic without the clamp (R108). -/
def State.actualValue (s : State) (r : Bytes) (mA : Rat) : Rat :=
  let f := match if recCharKind r = 2 then s.charOf r else none with
    | some tab => charInverse tab mA
    | none => (mA - 4) / 16
  recLo r + (recHi r - recLo r) * f

/-- Whether thermal foldback holds an AO current below its demand (R93, R97). -/
def State.folded (s : State) (ch : Fin 128) : Bool := decide (s.cells[ch].limit < s.aoDemand ch)

/-- Whether COMPLIANCE may be raised at all (R97). -/
def State.complianceOpen (s : State) (ch : Fin 128) : Bool :=
  let c := s.chans[ch]
  !s.folded ch && !c.safOff && !(s.cells[ch].has .lplusOff) && s.groups[grp ch].change.isNone
    && (match c.outChanged with | some x => decide (x + 2000000 ≤ s.clock) | none => true)

/-- Starts, keeps or ends a condition's time on sample stamps. -/
def sinceStamp (cond : Bool) (stamp : Int) (old : Option Int) : Option Int := if cond then some (old.getD stamp) else none

/-- Whether a condition has held for `d` up to the last sample. -/
def heldStamp (stamp : Int) (x : Option Int) (d : Int) : Bool := match x with | some t => decide (t + d ≤ stamp) | none => false

/-- An AO sample with this stamp, `step` after the one before: actual value and shortfall with its times on sample stamps (R96, R97,
R108). During a calibration check the reading is that of a reference, and the count is frozen (R112). -/
def State.readAo (s : State) (ch : Fin 128) (meas : Nat) (stamp step : Int) (c : Chan) : Chan :=
  if c.cal.running.isSome then
    { c with shortfallSince := c.shortfallSince.map (· + step), shortfallOkSince := c.shortfallOkSince.map (· + step) }
  else
    let mA := c.current (measMa meas)
    let short : Rat := (s.demandCode ch : Rat) - mA * 2500
    let opened := s.complianceOpen ch
    { c with actual := s.actualValue (s.chanRec ch) mA, shortfall := roundAway short,
             shortfallSince := sinceStamp (opened && decide (250 < short)) stamp c.shortfallSince,
             shortfallOkSince := sinceStamp (decide (short ≤ 125)) stamp c.shortfallOkSince }

/-- Quality of a published good sample outside the AI bands (R59). -/
def State.baseBad (s : State) (ch : Fin 128) (diag : Nat) : Bool :=
  let m := s.mode ch
  diag.testBit Diag.wireBreak.bit ||
    (diag.testBit Diag.lplusOff.bit && (m == .di1 || m == .di3 || m == .sdi || m == .ai2w)) ||
    s.groups[grp ch].change.isSome || m == .unconfigured || m == .dout || m == .pulse

/-- The cell's diagnostics enter the channel's DIAG word; SILENT_HOLD stays until it is read (R74, R80). Read while the cell still
sends it, it sets again at the next input frame (DESIGN CHOICE, log 87). -/
def State.copyDiag (ch : Fin 128) (diag : Nat) (s : State) : State :=
  [Diag.wireBreak, .overload, .shortToLplus, .crossFault, .offPulseFail, .testPulseFail, .openLoad, .range, .thermal,
    .compliance, .hartFault, .lplusLow, .lplusOff, .silentHold].foldl
    (fun s d => if d == .silentHold then (if diag.testBit 13 then s.putDiag ch .silentHold true else s)
                else s.putDiag ch d (diag.testBit d.bit)) s

/-- Bad frames among the last 2^20 of a lane (R49). -/
def trimBad (frames : Nat) (l : List Nat) : List Nat := l.filter fun n => frames < n + 2 ^ 20

/-- LANE_DEGRADED and the ledger's retry margin follow the bad-frame count (R49, R534 instance 4). -/
def State.gradeLane (ch : Fin 128) (s : State) : State :=
  let n := s.chans[ch].badAt.length
  let degraded := (if s.mod.degradedBefore[ch] then 8 else 16) < n
  let first := degraded && !s.mod.degradedBefore[ch]
  let low := since (n ≤ 1) s.clock s.mod.retryLowSince[ch]
  let margin := if 4 < n then 3 else if held s.clock low 86400000000000 then 2 else s.mod.retry[ch]
  let changed := margin != s.mod.retry[ch]
  let s := s.updMod fun m => { m with
    degradedBefore := m.degradedBefore.set ch (m.degradedBefore[ch] || degraded),
    retryLowSince := m.retryLowSince.set ch low, retry := m.retry.set ch margin }
  let s := if first || n != 0 then s.measure 4 false ch.val n else s
  let s := if changed then s.record .svc .ledgerMargin [4, ch.val, margin] else s
  let s := s.putDiag ch .laneDegraded degraded
  s.ledgerWarn 4 ((List.finRange 128).any fun i => s.chans[i].has .laneDegraded) ch.val n

/-- Length of an off-pulse round, aligned on ring time (R65). -/
def roundNs : Int := 250000000

/-- CROSS_FAULT on a channel and on the one whose slot it saw; SHORT_TO_LPLUS of a standard DO, set in this round or in the one
before, is reclassified (R67, R68). -/
def State.crossSeen (ch : Fin 128) (slot : Nat) (s : State) : State :=
  if h : slot < 128 then
    let other : Fin 128 := ⟨slot, h⟩
    let s := (s.diagBoth ch .crossFault true).diagBoth other .crossFault true
    let s := (s.updChan ch fun c => { c with crossPartner := BitVec.ofNat 8 slot, crossSeen := true }).updChan other
      fun c => { c with crossPartner := BitVec.ofNat 8 ch.val, crossSeen := true }
    let short := match s.chans[ch].shortSince with
      | some b => decide (s.now / roundNs ≤ ((b : Int) + s.time.ringOff) / roundNs + 1)
      | none => false
    if s.mode ch == .dout && s.chans[ch].has .shortToLplus && short then
      (s.diagBoth ch .shortToLplus false).record .tim .reclassify [ch.val, slot]
    else s
  else s

/-- A bad or missing input frame (R48, R49, R50, R121). -/
def State.inputMissing (ch : Fin 128) (s : State) : State :=
  let n := s.chans[ch].badRun + 1
  let s := s.updChan ch fun c => { c with
    badRun := n, goodRun := 0, staleRun := c.staleRun + 1, winFrames := c.winFrames + 1,
    badAt := c.winFrames :: trimBad c.winFrames c.badAt, laneBadIn := satAdd 16 c.laneBadIn 1,
    quality := if c.staleRun + 1 ≤ s.mod.retry[ch] && c.quality != .bad then .stale else .bad }
  let s := s.gradeLane ch
  if 4 ≤ n then (if n = 4 then s.hartFlush ch stHartLaneSilent else s).putDiag ch .laneFailed true else s

/-- The echo of an input frame is checked: a missing one counts against the output path and, on a step axis, against the
schedule (R47, R49, R264). -/
def State.echoCheck (ch : Fin 128) (seq : Nat) (s : State) : State :=
  match s.chans[ch].expectEcho with
  | some e =>
    if e.toNat = seq then s
    else
      let s := s.updChan ch fun c => { c with laneBadOut := satAdd 16 c.laneBadOut 1, badAt := (c.winFrames - 1) :: c.badAt }
      forAll 16 (fun i s =>
        let before := s.axes[i].posUnverified
        let s := s.updAxis i (stepEcho s.clock ch.val)
        if s.axes[i].posUnverified && !before then s.record .mot .posUnverified [i.val] else s) s
  | none => s

/-- What the logic side of a modem learns from an input frame: carrier, buffer state, the end of the last transmitted character,
the start of a response, a faulty character (R116, R117, R124). -/
def Hart.hear (now : Ns) (x : Nat) (h : Hart) : Hart :=
  let carrier := x.testBit 13
  let active := x.testBit 11
  let valid := x.testBit 15
  let sent := h.state == .tx && h.txQueue.isEmpty && h.txActive && !active
  let st : HartState := if sent then .waitResp else if h.state == .waitResp && valid then .rx else h.state
  { h with carrier := carrier, clearSince := if h.carrier && !carrier then now else h.clearSince,
           txReady := x.testBit 12, txActive := active, txEnd := if sent then some now else h.txEnd, state := st,
           rxErr := (h.rxErr && !(carrier && !h.carrier)) || (valid && x.testBit 14) }

/-- A good input frame is published (R48, R57, R59, R60, R67, R80, R83). -/
def State.publish (ch : Fin 128) (x : InFrame) (s : State) : State :=
  let stamp := s.tickStamp
  let step := stamp - s.chans[ch].sample.stamp
  let m := s.mode ch
  let r := s.chanRec ch
  let good := s.chans[ch].goodRun + 1
  let s := s.updChan ch fun c => { c with
    sample := { input := x.input, raw := x.raw, outRb := x.outRb, meas := BitVec.ofNat 24 x.meas,
                termV := BitVec.ofNat 16 x.termV, iout := BitVec.ofNat 16 x.iout, temp := BitVec.ofNat 8 x.temp, stamp := stamp },
    badRun := 0, staleRun := 0, goodRun := good, winFrames := c.winFrames + 1, badAt := trimBad c.winFrames c.badAt,
    edgeTotal := satAdd 64 c.edgeTotal x.count, quality := .good,
    inputStamp := if x.input != c.sample.input then stamp else c.inputStamp,
    rbLowSince := since (m.isDo && !c.rbOn && !x.outRb) s.clock c.rbLowSince }
  let s := s.echoCheck ch x.seq
  let s := s.copyDiag ch x.diag
  let s := if 20 ≤ good then s.putDiag ch .laneFailed false else s
  let s := s.gradeLane ch
  let s := if s.chans[ch].has .shortToLplus && held s.clock s.chans[ch].rbLowSince (recRbDelay r * tickNs) then
      s.diagBoth ch .shortToLplus false else s
  let s := if x.pulseSeen = 0xFF then s else s.crossSeen ch x.pulseSeen
  let s :=
    if m.isAi then
      let (c, range) := s.convertAi ch x.meas stamp s.chans[ch]
      let s := s.updChan ch fun _ => c
      match range with | some v => s.diagBoth ch .range v | none => s
    else if m.isAo then s.updChan ch (s.readAo ch x.meas stamp step)
    else s
  let s := if s.baseBad ch x.diag then s.updChan ch fun c => { c with quality := .bad } else s
  let s := if hartOn r then s.updHart ch (Hart.hear s.clock x.hart) else s
  if recEdgeEvt r && 0 < x.count && !s.cells[ch].silent && s.groups[grp ch].change.isNone then
    let e : PrgEvent := .edge ch x.rise1 (stamp - tickNs + 25 * x.edge1) x.count
    s.pushEvent (.edge ch) e
  else s

/-- CHANNEL_INPUT_FRAME (R48). Under lane loopback the hub meets its own output frame, which counts as missing (R553). -/
def execChannelInputFrame (t : Ns) (ch : Fin 128) (frame : Option (BitVec 256)) (s : State) : Res :=
  let s := s.begin t
  match frame with
  | some f =>
    if frameGood 0 f && !s.regs.testCtl.getLsbD (grp ch).val then .next ((s.publish ch (InFrame.unpack f)).settleHealth)
    else .next ((s.inputMissing ch).settleHealth)
  | none => .next ((s.inputMissing ch).settleHealth)

/-- Whether a group lane has more bad frames in its window than its threshold (R49). -/
def Group.laneOver (q : Group) : Bool := decide ((if q.degraded then 8 else 16) < q.badAt.length)

/-- A frame of a group lane counts, with a bad one on the input path or the output path; the ledger records the lane, as number 128
and on (R49, R534 instance 4). -/
def State.countGroupLane (g : Fin 8) (bad : Bool) (s : State) : State :=
  let s := s.updGroup g fun q => { q with
    winFrames := q.winFrames + 1, badAt := (if bad then [q.winFrames] else []) ++ trimBad q.winFrames q.badAt }
  let n := s.groups[g].badAt.length
  let s := if n != 0 then s.measure 4 false (128 + g.val) n else s
  s.updGroup g fun q => { q with degraded := q.degraded || q.laneOver }

/-- A bad or missing group input frame; the fourth in a row fails the group lane, and the supply is unknown (R48, R50). -/
def State.groupMissing (g : Fin 8) (s : State) : State :=
  let s := s.countGroupLane g true
  let n := s.groups[g].badRun + 1
  let s := s.updGroup g fun q => { q with badRun := n, goodRun := 0, laneFailed := q.laneFailed || decide (4 ≤ n) }
  if 4 ≤ n && s.groups[g].supply != .unknown then
    (s.updGroup g fun q => { q with supply := .unknown }).record .tim .groupSupply [g.val, 4]
  else s

/-- GROUP_INPUT_FRAME (R46, R50, R82, R83): the group's supply, disconnect state, configuration and silence are
published; a failed group lane reports the supply UNKNOWN. -/
def execGroupInputFrame (t : Ns) (g : Fin 8) (frame : Option (BitVec 256)) (s : State) : Res :=
  let s := s.begin t
  match frame with
  | none => .next (s.groupMissing g).settleHealth
  | some f =>
    if !frameGood 2 f then .next (s.groupMissing g).settleHealth else
    let x := GroupIn.unpack f
    let s := s.countGroupLane g (match s.groups[g].expectEcho with | some e => e.toNat != x.seq | none => false)
    let q := s.groups[g]
    let sup := s.gfes[g].supply
    let good := q.goodRun + 1
    let lane := q.laneFailed && decide (good < 20)
    let newSup := if lane then .unknown else sup
    let disc := BitVec.ofNat 2 x.disc
    let s := if newSup != q.supply then s.record .tim .groupSupply [g.val, (s.gfes[g].lplusV.toNat : Int)] else s
    let s := if disc != q.disc then s.record .tim .groupDisc [g.val, x.disc] else s
    .next (s.updGroup g fun q => { q with
      badRun := 0, goodRun := good, laneFailed := lane, supply := newSup,
      lplusV := BitVec.ofNat 16 x.lplusV, groupI := BitVec.ofNat 16 x.groupI,
      groupAvg := (s.gfes[g].window.foldl (· + ·) 0) / 400000,
      disc := disc, cause := if disc = 0 then .none else if disc = 1 then .safety q.discFor else .fieldReadback,
      gfeTemp := BitVec.ofNat 8 x.temp, cfgCrc := BitVec.ofNat 32 x.crc, cfgHeld := x.held, overload := s.gfes[g].overload,
      silentSeen := q.silentSeen || x.silentSeen, lastChunkAck := BitVec.ofNat 6 x.chunkAck }).settleHealth

/-! ### Off-pulses, test pulses, readback (R65 to R68, R553) -/

/-- Whether the frames built in this tick are those of the tick before a channel's slot: slot n starts 39 n ticks after the start of
the aligned round, its off-pulse begins with it, and the frame before it is built two ticks ahead (R27, R65; DEDUCED, log 90). -/
def State.beforeSlot (s : State) (ch : Fin 128) : Bool := (roundTick roundNs s.now + 2) % 5000 == 39 * ch.val

/-- OFF_PULSE_SLOT (R65): the frame that leaves in the tick before a channel's slot carries OFF_PULSE, if an off-pulse may be sent.
Outside that place of the round the command has no effect. -/
def execOffPulseSlot (t : Ns) (ch : Fin 128) (s : State) : Res :=
  let s := s.begin t
  if s.beforeSlot ch && s.pulseAllowed ch then .next (s.updChan ch fun c => { c with pulseReq := true }) else .next s

/-- OFF_PULSE_END (R65, R67, R68): at the end of the channel's own off-pulse, its own readback has seen it or not. -/
def execOffPulseEnd (t : Ns) (ch : Fin 128) (seen : Bool) (s : State) : Res :=
  let s := s.begin t
  match s.cells[ch].offPulseAt with
  | none => .next s
  | some p =>
    if s.clock < p + 1000 * recPulseWidth (s.cellRec ch) then .next s
    else
      let s := s.updCell ch fun c => { c with offPulseAt := none }
      let s := s.updChan ch fun c => { c with pulseSeenOwn := seen }
      .next (s.diagBoth ch .offPulseFail (!seen))

/-- OFF_PULSE_ROUND_END (R65, R68): once a further aligned round of ring time has begun, the one before it is complete, and
CROSS_FAULT clears where the partner's slot was not seen in it and the channel's own pulse was. Within the same round the command
has no effect. -/
def execOffPulseRoundEnd (t : Ns) (s : State) : Res :=
  let s := s.begin t
  if s.now / roundNs = s.roundIdx then .next s
  else
  let s := { s with pulseRound := s.pulseRound + 1, roundIdx := s.now / roundNs }
  .next (forAll 128 (fun i s =>
    let c := s.chans[i]
    let s := if c.has .crossFault && !c.crossSeen && c.pulseSeenOwn then
        (s.diagBoth i .crossFault false).updChan i fun c => { c with crossPartner := 0xFF } else s
    s.updChan i fun c => { c with crossSeen := false, pulseSeenOwn := false }) s)

/-- Whether the present instant lies in the channel's test-pulse slot: 15 ticks from 15 n ticks after the start of the aligned
100 ms round (R66). -/
def State.inTestSlot (s : State) (ch : Fin 128) : Bool :=
  let k := roundTick 100000000 s.now
  decide (15 * ch.val ≤ k ∧ k < 15 * ch.val + 15)

/-- TEST_PULSE_SLOT (R66): an SDI's terminal B is test-pulsed in the channel's slot; with the contact open the pulse proves nothing.
Outside its slot the command has no effect. -/
def execTestPulseSlot (t : Ns) (ch : Fin 128) (belowOff closed : Bool) (s : State) : Res :=
  let s := s.begin t
  if s.inTestSlot ch && s.cells[ch].mode == .sdi && closed then .next (s.diagBoth ch .testPulseFail (!belowOff)) else .next s

/-- READBACK_DELAY_EXPIRY (R67): RB_DELAY after a commanded change, an output commanded off must read off. -/
def execReadbackDelayExpiry (t : Ns) (ch : Fin 128) (s : State) : Res :=
  let s := s.begin t
  let c := s.chans[ch]
  match c.rbDue with
  | none => .next s
  | some d =>
    if s.clock < d then .next s
    else
      let s := s.updChan ch fun c => { c with rbDue := none }
      if (s.mode ch).isDo && !c.rbOn && c.sample.outRb then
        .next ((s.diagBoth ch .shortToLplus true).updChan ch fun c => { c with shortSince := some s.clock })
      else .next s

/-! ### Current loops (R96, R97, R103) -/

/-- COMPLIANCE_SET (R96): shortfall above 0.1 mA on every sample for 50 ms. -/
def execComplianceSet (t : Ns) (ch : Fin 128) (s : State) : Res :=
  let s := s.begin t
  let c := s.chans[ch]
  if (s.mode ch).isAo && s.complianceOpen ch && heldStamp c.sample.stamp c.shortfallSince 50000000 then
    .next (s.diagBoth ch .compliance true)
  else .next s

/-- COMPLIANCE_CLEAR (R96): shortfall at or below 0.05 mA for 500 ms. -/
def execComplianceClear (t : Ns) (ch : Fin 128) (s : State) : Res :=
  let s := s.begin t
  let c := s.chans[ch]
  if heldStamp c.sample.stamp c.shortfallOkSince 500000000 then .next (s.diagBoth ch .compliance false) else .next s

/-- RANGE_DELAY_EXPIRY (R102, R103): RANGE_DELAY after the current entered a failure band, RANGE sets and the quality turns
BAD; RANGE_DELAY after it left both, RANGE clears. -/
def execRangeDelayExpiry (t : Ns) (ch : Fin 128) (s : State) : Res :=
  let s := s.begin t
  let c := s.chans[ch]
  let d := recRangeDelay (s.chanRec ch) * 1000000
  if !(s.mode ch).isAi then .next s
  else if held s.clock c.bandSince d then
    .next ((s.diagBoth ch .range true).updChan ch fun c => { c with quality := .bad })
  else if held s.clock c.outsideSince d then .next (s.diagBoth ch .range false)
  else .next s

end Sys2Proof.Machine
end

