-- ==== Sys2Proof/Machine/Admit.lean ====
section
/-! DEFINITION. Admission of descriptors: the opcodes of R425, the policy of roles, lead and tunnel source (R353, R360,
R378, R426 step 3, R524), and the islands that must answer (R19, R521). -/

namespace Sys2Proof.Machine

/-- Opcodes of R425 and of the chapters' own ranges. -/
def opNop := 0x0001
def opStateRead := 0x0002
def opCaptureRead := 0x0003
def opNodeAddress := 0x0004
def opGroupConfig := 0x0101
def opCharLoad := 0x0102
def opHartRequest := 0x0103
def opProgramParam := 0x0201
def opProgramControl := 0x0202
def opVarWrite := 0x0203
def opImageStage := 0x0204
def opProgramSwitch := 0x0205
def opLoopConfig := 0x0301
def opLoopCommand := 0x0302
def opOverrideConfig := 0x0303
def opTuneStart := 0x0304
def opTuneStop := 0x0305
def opAxisConfig := 0x0401
def opAxisCommand := 0x0402
def opTableLoad := 0x0403
def opSafetyConfig := 0x0501
def opSafetyConfirm := 0x0502
def opRingConfig := 0x0601
def opStationConfig := 0x0602
def opImageMap := 0x0603
def opBranchConfig := 0x0604
def opPairConfig := 0x0701
def opPairCommand := 0x0702
def opTimeConfig := 0x0801
def opShipTimeSet := 0x0802
def opShipTimeSlew := 0x0803
def opRecSnapshot := 0x0901
def opRecRead := 0x0902
def opStoreCommand := 0x0903
def opDispConfig := 0x0A01
def opDispRegion := 0x0A02
def opDispUpdate := 0x0A03
def opDispBlink := 0x0A04
def opDomainPower := 0x0B01
def opMasterConfirm := 0x0C01
def opFwStage := 0x0C02
def opFwActivate := 0x0C03
def opIslandReset := 0x0C04
def opLedgerTest := 0x0C05

/-- Every opcode of the manual (R425). -/
def opTable : List Nat := [opNop, opStateRead, opCaptureRead, opNodeAddress, opGroupConfig, opCharLoad, opHartRequest,
  opProgramParam, opProgramControl, opVarWrite, opImageStage, opProgramSwitch, opLoopConfig, opLoopCommand, opOverrideConfig,
  opTuneStart, opTuneStop, opAxisConfig, opAxisCommand, opTableLoad, opSafetyConfig, opSafetyConfirm, opRingConfig,
  opStationConfig, opImageMap, opBranchConfig, opPairConfig, opPairCommand, opTimeConfig, opShipTimeSet, opShipTimeSlew,
  opRecSnapshot, opRecRead, opStoreCommand, opDispConfig, opDispRegion, opDispUpdate, opDispBlink, opDomainPower,
  opMasterConfirm, opFwStage, opFwActivate, opIslandReset, opLedgerTest]

/-- Opcodes that read only (R378, R426). -/
def isRead (op : Nat) : Bool :=
  op == opNop || op == opStateRead || op == opCaptureRead || op == opRecSnapshot || op == opRecRead

/-- Recorder reads (R353, R483, R484). -/
def isRecRead (op : Nat) : Bool := op == opRecSnapshot || op == opRecRead

/-- Requests a node of each role executes from the tunnel (R353). -/
def tunnelServes (r : Role) (op : Nat) : Bool :=
  match r with
  | .iostation => [opRingConfig, opImageMap, opGroupConfig, opCharLoad, opHartRequest, opLoopConfig, opLoopCommand,
      opOverrideConfig, opTuneStart, opTuneStop, opCaptureRead, opAxisConfig, opAxisCommand, opTableLoad, opSafetyConfig,
      opSafetyConfirm, opMasterConfirm, opFwStage, opFwActivate, opStateRead, opRecSnapshot, opRecRead].contains op
  | .referee => [opRingConfig, opPairConfig, opMasterConfirm, opFwStage, opFwActivate, opStateRead, opRecSnapshot,
      opRecRead].contains op
  | .branch => [opRingConfig, opBranchConfig, opMasterConfirm, opFwStage, opFwActivate, opStateRead, opRecSnapshot,
      opRecRead].contains op
  | _ => false

/-- Whether some role serves an opcode through the tunnel (R426 step 1). -/
def tunnelKnown (op : Nat) : Bool :=
  tunnelServes .iostation op || tunnelServes .referee op || tunnelServes .branch op

/-- Descriptors a member of a pair serves for its own host whatever its state: its start-up and its own firmware (R526,
R532, R533). -/
def memberOwn (op : Nat) : Bool := op == opMasterConfirm || op == opFwStage || op == opFwActivate

/-- The node that may configure this one: MASTER of the RING_CONFIG in force, or of the one loaded while none is in force yet (R345,
R353; DEDUCED, log 111). -/
def State.masterNode (s : State) : Nat :=
  if s.ring.cfg.master ≠ 0 then s.ring.cfg.master
  else match s.mod.loaded.find? fun e => e.opcode.toNat = opRingConfig with
    | some e => rd e.obj 8 2
    | none => 0

/-- The policy of R426 step 3 for a descriptor of this origin. -/
def State.policy (s : State) (org : Origin) (op : Nat) : Option Outcome :=
  match org with
  | .partner _ | .self => none
  | .host _ =>
    if s.mod.state = .fatal && !(op == opStateRead || isRecRead op) then some (.policy stPolicyRule)
    else match s.role with
    | some .iostation | some .referee | some .branch => if isRead op then none else some (.policy stPolicyRole)
    | some .pairA | some .pairB =>
      if isRead op || memberOwn op || s.pair.forwards.any (fun f => f.org = org) then none
      else if s.pair.state = .lead then none
      else if s.pair.state = .unformed && op == opPairConfig then none
      else some (.policy stNotLead)
    | _ => none
  | .tunnel src _ =>
    match s.role with
    | none => some (.policy stPolicyRole)
    | some r =>
      if !tunnelServes r op then some (.policy stPolicyRole)
      else if op == opStateRead || isRecRead op then none
      else if src = s.masterNode || (s.masterNode = 0 && op == opRingConfig) then none
      else some (.policy stPolicyRule)

/-- The answer of an island that does not: the code of R18. -/
def State.islandCode (s : State) (i : Isl) : Option CrossCode :=
  if s.domainOff i then some .domainOff
  else match (s.island i).state with
    | .running => none
    | .stalled => some ((s.island i).code.getD .stalled)
    | .inReset => some .reset

/-- Outstanding requests into an island are answered with the code (R17, R18). -/
def State.answerCrossings (i : Isl) (code : CrossCode) (s : State) : State :=
  (s.crossings.filter fun x => x.dst == i).foldl (fun s x => s.emit (.crossingError x.src i code))
    { s with crossings := s.crossings.filter fun x => x.dst != i }

/-- An island is stalled, by an expiry or in reset: the stall is counted and recorded with its code, and the crossings into the
island answer with it (R17 to R19). -/
def State.markStall (i : Isl) (st : IslState) (code : CrossCode) (s : State) : State :=
  ((s.updIsland i.idx fun x => { x with
    state := st, code := some code, stalls := satAdd 32 x.stalls 1, lastStall := some s.clock, lastCode := some code,
    lastStamp := s.now }).answerCrossings i code).record .svc .islandStall [i.idx.val, code.num]

/-- The first of the serving islands that does not answer gives the descriptor's ISLAND_ERROR (R19, R435). -/
def State.islandGate (s : State) (l : List Isl) : Option Outcome :=
  l.findSome? fun i => (s.islandCode i).map fun c => .error (stIsland i c)

/-- An expiry decision waits while frames whose ingress stamps are at or before the deadline are still being received (R41). -/
def State.deferOr (which : Timeout) (deadline : Ns) (receiving : List Ns) (act : State → State) (s : State) : State :=
  if receiving.any (· ≤ deadline) then
    { s with deferred := (s.deferred.filter fun d => d.which != which) ++
        [{ which := which, deadline := deadline, receiving := receiving.filter (· ≤ deadline) }] }
  else act s

/-- Policy, then islands. -/
def State.gate (s : State) (org : Origin) (op : Nat) (l : List Isl) : Option Outcome :=
  (s.policy org op).orElse fun _ => s.islandGate l

/-- A host write of a pair waits for its barrier, and past it for its release instant (R364, R368). -/
def State.waitsBarrier (s : State) (org : Origin) : Bool :=
  s.pair.forwards.any fun f => f.org = org && (match f.due with | none => true | some d => decide (s.clock < d))

/-- The common head of a descriptor's meaning: format (R426 step 1), policy (step 3), the islands that must answer, the
chapter's own checks (step 5); the first failure answers and changes nothing; else the work. A pair's write that is not yet
released does nothing yet. -/
def serve (org : Origin) (op : Nat) (l : List Isl) (format check : Option Outcome) (work : State → State) (s : State) : Res :=
  if s.waitsBarrier org then .next s
  else match (format.orElse fun _ => s.gate org op l).orElse fun _ => check with
    | some o => answer org o s
    | none => .next (work s)

/-- A failed format check. -/
def badField (cond : Bool) : Option Outcome := if cond then some (.error stInvalidField) else none

/-- A failed check with its outcome. -/
def fails (cond : Bool) (o : Outcome) : Option Outcome := if cond then some o else none

/-- The first failure of a list of checks. -/
def firstOf (l : List (Option Outcome)) : Option Outcome := l.findSome? id

end Sys2Proof.Machine
end

