-- ==== Sys2Proof/Machine/Ed25519.lean ====
section
/-! DEFINITION. Pure Ed25519 as RFC 8032 defines it: SHA-512, points of the curve, decoding and verification (R170, R566). -/

namespace Sys2Proof.Machine

/-- The 32 bytes of eight key words, word j holding bytes 4j to 4j + 3 (R565, R566). -/
def keyBytes (k : Vector Word 8) : Bytes := k.toList.flatMap fun w => wr 4 w.toNat

namespace Ed25519

/-! ### SHA-512 -/

/-- The first 80 primes. -/
def primes : List Nat :=
  [2, 3, 5, 7, 11, 13, 17, 19, 23, 29, 31, 37, 41, 43, 47, 53, 59, 61, 67, 71, 73, 79, 83, 89, 97, 101, 103, 107, 109, 113, 127, 131,
   137, 139, 149, 151, 157, 163, 167, 173] ++
  [179, 181, 191, 193, 197, 199, 211, 223, 227, 229, 233, 239, 241, 251, 257, 263, 269, 271, 277, 281, 283, 293, 307, 311, 313, 317,
   331, 337, 347, 349, 353, 359, 367, 373, 379, 383, 389, 397, 401, 409]

/-- The largest number below 2^70 whose `e`-th power is at most `n`. -/
def root (e n : Nat) : Nat :=
  (List.range 70).foldl (fun r i => if (r + 2 ^ (69 - i)) ^ e ≤ n then r + 2 ^ (69 - i) else r) 0

/-- Round constants: the first 64 bits of the fractional parts of the primes' cube roots. -/
def roundConst (q : Nat) : BitVec 64 := BitVec.ofNat 64 (root 3 (q * 2 ^ 192))

/-- Initial hash: the same of the square roots of the first eight primes. -/
def hashInit : List (BitVec 64) := (primes.take 8).map fun q => BitVec.ofNat 64 (root 2 (q * 2 ^ 128))

def sigma (a b c : Nat) (x : BitVec 64) : BitVec 64 := x.rotateRight a ^^^ x.rotateRight b ^^^ x.rotateRight c
def sigmaShift (a b c : Nat) (x : BitVec 64) : BitVec 64 := x.rotateRight a ^^^ x.rotateRight b ^^^ x >>> c

/-- The 80 words of the message schedule, last word first. -/
def schedule (w : List (BitVec 64)) : List (BitVec 64) :=
  (List.range 64).foldl (fun r _ =>
    (sigmaShift 19 61 6 (r.getD 1 0) + r.getD 6 0 + sigmaShift 1 8 7 (r.getD 14 0) + r.getD 15 0) :: r) w.reverse

/-- One round on the eight working words. -/
def shaRound (k w : BitVec 64) : List (BitVec 64) → List (BitVec 64)
  | [a, b, c, d, e, f, g, h] =>
    let t1 := h + sigma 14 18 41 e + ((e &&& f) ^^^ (~~~e &&& g)) + k + w
    let t2 := sigma 28 34 39 a + ((a &&& b) ^^^ (a &&& c) ^^^ (b &&& c))
    [t1 + t2, a, b, c, d + t1, e, f, g]
  | l => l

/-- One block of 128 bytes. -/
def shaBlock (h : List (BitVec 64)) (b : Bytes) : List (BitVec 64) :=
  let w := (List.range 16).map fun i => BitVec.ofNat 64 (rdBe b (8 * i) 8)
  let out := ((primes.map roundConst).zip (schedule w).reverse).foldl (fun v x => shaRound x.1 x.2 v) h
  (h.zip out).map fun x => x.1 + x.2

/-- Blocks in order, at most `n` of them. -/
def shaBlocks : Nat → List (BitVec 64) → Bytes → List (BitVec 64)
  | 0, h, _ => h
  | n + 1, h, b => shaBlocks n (shaBlock h (b.take 128)) (b.drop 128)

/-- SHA-512. -/
def sha512 (m : Bytes) : Bytes :=
  let z := (240 - (m.length + 1) % 128) % 128
  let b := m ++ [0x80] ++ List.replicate z 0 ++ wrBe 16 (8 * m.length)
  (shaBlocks (b.length / 128) hashInit b).flatMap fun w => wrBe 8 w.toNat

/-! ### The curve -/

/-- The field's prime and the order of the base point. -/
def prime : Nat := 2 ^ 255 - 19
def order : Nat := 2 ^ 252 + 27742317777372353535851937790883648493

/-- Power modulo the prime, of an exponent below 2^n. -/
def power : Nat → Nat → Nat → Nat
  | 0, _, _ => 1
  | n + 1, b, e => power n (b * b % prime) (e / 2) * (if e % 2 = 1 then b else 1) % prime

def inverse (x : Nat) : Nat := power 256 x (prime - 2)
def diff (x y : Nat) : Nat := (x + prime - y % prime) % prime
/-- The curve's constant d. -/
def curveD : Nat := diff 0 (121665 * inverse 121666)
/-- A square root of -1. -/
def rootMinus1 : Nat := power 256 2 ((prime - 1) / 4)

/-- A point in extended coordinates. -/
structure Point where
  x : Nat
  y : Nat
  z : Nat
  t : Nat
deriving DecidableEq, Repr

def Point.add (a b : Point) : Point :=
  let p := diff a.y a.x * diff b.y b.x % prime
  let q := (a.y + a.x) * (b.y + b.x) % prime
  let c := 2 * a.t * b.t * curveD % prime
  let d := 2 * a.z * b.z % prime
  let (e, f, g, h) := (diff q p, diff d c, (d + c) % prime, (q + p) % prime)
  { x := e * f % prime, y := g * h % prime, z := f * g % prime, t := e * h % prime }

/-- Multiplication by a number below 2^n. -/
def Point.mul : Nat → Nat → Point → Point
  | 0, _, _ => { x := 0, y := 1, z := 1, t := 0 }
  | n + 1, k, a =>
    let r := Point.mul n (k / 2) (a.add a)
    if k % 2 = 1 then r.add a else r

def Point.same (a b : Point) : Bool := a.x * b.z % prime == b.x * a.z % prime && a.y * b.z % prime == b.y * a.z % prime

/-- The x of a point with this y and this lowest bit, if there is one. -/
def recover (y sign : Nat) : Option Nat :=
  if prime ≤ y then none
  else
    let u := diff (y * y) 1
    let v := (curveD * (y * y % prime) + 1) % prime
    let v3 := v * v % prime * v % prime
    let x := u * v3 % prime * power 256 (u * v3 % prime * v3 % prime * v % prime) ((prime - 5) / 8) % prime
    let s := v * (x * x % prime) % prime
    let x := if s = u then some x else if s = diff 0 u then some (x * rootMinus1 % prime) else none
    x.bind fun x =>
      if x = 0 ∧ sign = 1 then none
      else some (if x % 2 = sign then x else prime - x)

def point (x y : Nat) : Point := { x := x, y := y, z := 1, t := x * y % prime }

/-- The point that 32 bytes encode. -/
def decode (b : Bytes) : Option Point :=
  if b.length ≠ 32 then none
  else
    let n := leNat b
    let y := n % 2 ^ 255
    (recover y (n / 2 ^ 255)).map fun x => point x y

/-- The base point: y is 4/5, x even. -/
def base : Point :=
  let y := 4 * inverse 5 % prime
  point ((recover y 0).getD 0) y

/-- Whether 32 bytes decode as a public key (R566). -/
def keyDecodes (key : Bytes) : Bool := (decode key).isSome

/-- Verification by the group equation 8·S·B = 8·R + 8·k·A (R170; PRESUMED, log 100). -/
def verify (key m sig : Bytes) : Bool :=
  match decode key, decode (sig.take 32) with
  | some a, some r =>
    let s := leNat (sig.drop 32)
    let k := leNat (sha512 (sig.take 32 ++ key ++ m)) % order
    sig.length == 64 && decide (s < order) &&
      (Point.mul 4 8 (Point.mul 256 s base)).same (Point.mul 4 8 (r.add (Point.mul 256 k a)))
  | _, _ => false

end Ed25519

end Sys2Proof.Machine
end

