-- ==== Sys2Proof/Machine/Memory.lean ====
section
/-! DEFINITION. The program's data memory: a canonical list of the bytes that differ from madder (R128). -/

namespace Sys2Proof.Machine

namespace Memory

/-- What a byte nothing has written reads as: the word 0x6D61_6464 repeated (R128). -/
def madder (a : Nat) : Byte := BitVec.ofNat 8 (0x6D616464 / 256 ^ (a % 4))

/-- One byte of data memory. -/
def read (m : List Host.Cell) (a : Nat) : Byte := ((m.find? (fun c => c.1 = a)).map Prod.snd).getD (madder a)

/-- Puts a cell into its place, or removes the place of its address when the byte is what an unlisted address reads as. -/
def write : List Host.Cell → Nat → Byte → List Host.Cell
  | [], a, v => if v = madder a then [] else [(a, v)]
  | (b, w) :: m, a, v =>
    if a < b then (if v = madder a then (b, w) :: m else (a, v) :: (b, w) :: m)
    else if a = b then (if v = madder a then m else (a, v) :: m)
    else (b, w) :: write m a v

/-- Writes a run of bytes. -/
def writeAll (m : List Host.Cell) : Nat → Bytes → List Host.Cell
  | _, [] => m
  | a, b :: bs => writeAll (write m a b) (a + 1) bs

/-- Reads a run of bytes. -/
def readAll (m : List Host.Cell) (a n : Nat) : Bytes := (List.range n).map fun i => read m (a + i)

/-- Addresses strictly rise from a bound, and no cell holds what its address reads as when unlisted. -/
def wfFrom : Nat → List Host.Cell → Bool
  | _, [] => true
  | lo, (a, v) :: m => decide (lo ≤ a) && v != madder a && wfFrom (a + 1) m

/-- The canonical form. -/
def wf (m : List Host.Cell) : Bool := wfFrom 0 m

/-- The cells of the addresses from `lo` up to but not including `hi`. -/
def within (lo hi : Nat) (m : List Host.Cell) : List Host.Cell := m.filter fun c => decide (lo ≤ c.1) && decide (c.1 < hi)

/-- The cells outside these addresses replaced by another memory's cells within them. -/
def splice (lo hi : Nat) (outer inner : List Host.Cell) : List Host.Cell :=
  outer.filter (fun c => decide (c.1 < lo)) ++ within lo hi inner ++ outer.filter (fun c => decide (lo ≤ c.1) && decide (hi ≤ c.1))

/-- The canonical form of a run of cells: each is written in turn. -/
def ofCells (l : List Host.Cell) : List Host.Cell := l.foldl (fun m c => write m c.1 c.2) []

end Memory

/-- Data memory as a receiver writes it, cell by cell. -/
def PrgData.canon (d : PrgData) : PrgData := { d with mem := Memory.ofCells d.mem }

end Sys2Proof.Machine
end

