-- ==== Sys2Proof/Machine/Image.lean ====
section
/-! DEFINITION. The Quetum image container (R166 to R170) and what the program engine takes from it (R127). -/

namespace Sys2Proof.Machine

namespace Image

def imageId (b : Bytes) : Bytes := (b.drop 16).take 16
def build (b : Bytes) : BitVec 32 := BitVec.ofNat 32 (rd b 32 4)
def count (b : Bytes) : Nat := rd b 12 4
/-- TYPE, OFFSET, LENGTH and CRC of section-table entry `i` (R167). -/
def secType (b : Bytes) (i : Nat) : Nat := rd b (128 + 16 * i) 1
def secOff (b : Bytes) (i : Nat) : Nat := rd b (132 + 16 * i) 4
def secLen (b : Bytes) (i : Nat) : Nat := rd b (136 + 16 * i) 4
def secCrc (b : Bytes) (i : Nat) : Nat := rd b (140 + 16 * i) 4
/-- The bytes of entry `i`. -/
def secBytes (b : Bytes) (i : Nat) : Bytes := (b.drop (secOff b i)).take (secLen b i)
/-- The section of a type, empty where the image has none. -/
def sec (b : Bytes) (ty : Nat) : Bytes :=
  match (List.range (count b)).find? (fun i => secType b i = ty) with
  | some i => secBytes b i
  | none => []

def code (b : Bytes) : Bytes := sec b 1
def dataInit (b : Bytes) : Bytes := sec b 2
def layout (b : Bytes) : Bytes := sec b 3
def tasks (b : Bytes) : Bytes := sec b 4
def ioMap (b : Bytes) : Bytes := sec b 5
def keyMap (b : Bytes) : Bytes := sec b 6
def dataSize (b : Bytes) : Nat := rd (layout b) 0 4
def initSize (b : Bytes) : Nat := rd (layout b) 4 4
def retOff (b : Bytes) : Nat := rd (layout b) 8 4
def retSize (b : Bytes) : Nat := rd (layout b) 12 4

/-- The signature trailer (R170). -/
def trailer (b : Bytes) : Bytes := b.drop (b.length - 80)
def keyIndex (b : Bytes) : Nat := rd (trailer b) 4 1
def signed (b : Bytes) : Bytes := b.take (b.length - 80)
def signature (b : Bytes) : Bytes := (trailer b).drop 16

/-- Step 1 of R173: header and trailer marks, format, kind, and the length staged; reserved bytes of header and trailer and the
granularity of TOTAL_LEN are judged here too (DESIGN CHOICE,
log 99). -/
def formatOk (kind : Nat) (b : Bytes) : Bool :=
  rd b 0 4 == 0x4D555451 && rd b 4 2 == 1 && rd b 6 1 == kind && rd b 7 1 == 0 && rd b 8 4 == b.length &&
    b.length % 16 == 0 && decide (208 ≤ b.length ∧ b.length ≤ 16777216) && zeroAt b 48 80 &&
    rd (trailer b) 0 4 == 0x47495351 && zeroAt (trailer b) 5 11

/-- Whether every section CRC is right (R167, R176). -/
def crcsOk (b : Bytes) : Bool :=
  (List.range (count b)).all fun i => (crc32c (secBytes b i)).toNat == secCrc b i

/-- Step 4 of R173 for a program image: the section table (R167). -/
def tableOk (b : Bytes) : Bool :=
  let n := count b
  let times (ty : Nat) : Nat := ((List.range n).filter fun i => secType b i == ty).length
  decide (6 ≤ n ∧ n ≤ 16) &&
    (List.range n).all (fun i =>
      [1, 2, 3, 4, 5, 6, 8].contains (secType b i) && zeroAt b (129 + 16 * i) 3 && secOff b i % 16 == 0 &&
        decide (128 + 16 * n ≤ secOff b i) && decide (secOff b i + secLen b i ≤ b.length - 80)) &&
    [1, 2, 3, 4, 5, 6].all (fun ty => times ty == 1) && decide (times 8 ≤ 10) && (layout b).length == 16 && crcsOk b

/-- One KEY_MAP entry (R168). -/
def entry (e : Bytes) : KeyEntry :=
  { key := BitVec.ofNat 64 (rd e 0 8), typeSig := BitVec.ofNat 32 (rd e 8 4), elemSig := BitVec.ofNat 32 (rd e 12 4),
    count := rd e 16 4, addr := rd e 20 4, size := rd e 24 4, retain := rdBits e 28 0 0 == 1,
    shared := rdBits e 28 1 1 == 1, noExternalWrite := rdBits e 28 2 2 == 1, primeFalse := rdBits e 28 3 3 == 1,
    reservedZero := rd e 28 4 < 16 }

/-- The entries of KEY_MAP, ascending. -/
def entries (b : Bytes) : List KeyEntry :=
  (List.range ((keyMap b).length / 32)).map fun i => entry ((keyMap b).drop (32 * i))

/-- Base code of a type signature (R169). -/
def baseCode (sig : BitVec 32) : Nat := sig.toNat / 2 ^ 24

/-- Whether a signature uses a code of R169, with its low bits 0 for the elementary and instance types. -/
def sigOk (sig : BitVec 32) : Bool :=
  let c := baseCode sig
  if (1 ≤ c ∧ c ≤ 0x0D) ∨ (0x20 ≤ c ∧ c ≤ 0x27) then sig.toNat % 2 ^ 24 == 0 else c == 0x40 || c == 0x41 || c == 0x42

def ascending : List KeyEntry → Bool
  | a :: b :: l => decide (a.key.toNat < b.key.toNat) && ascending (b :: l)
  | _ => true

/-- Step 5 of R173. -/
def keyMapOk (b : Bytes) : Bool :=
  (keyMap b).length % 32 == 0 && ascending (entries b) &&
    (entries b).all fun e => decide (e.addr + e.size ≤ dataSize b) && sigOk e.typeSig && baseCode e.typeSig != 0x40 &&
      (if baseCode e.typeSig = 0x41 then sigOk e.elemSig else e.elemSig == 0) && e.reservedZero

/-- Step 6 of R173: the regions against R127. A DATA_INIT longer than INIT_SIZE counts as a region that does not fit (DESIGN CHOICE,
log 98). -/
def capacityOk (b : Bytes) : Bool :=
  let n := Config.taskCount (tasks b)
  decide ((code b).length ≤ 8388608) && decide (dataSize b ≤ 8388608) && decide (initSize b ≤ dataSize b) &&
    decide ((dataInit b).length ≤ initSize b) && decide (retSize b ≤ 2097152) &&
    decide (retOff b + retSize b ≤ dataSize b) && decide (n 0 ≤ 1) && n 1 == 1 && decide (n 2 ≤ 1) && decide (n 3 ≤ 1) &&
    decide (n 4 ≤ 16) && decide (n 5 ≤ 1) && decide (n 6 ≤ 1) && decide ((Config.ioStations (ioMap b)).length ≤ 4096) &&
    decide ((entries b).length ≤ 262144)

/-- Data memory as the image loads it: DATA_INIT at address 0, madder elsewhere (R128). -/
def initial (b : Bytes) : List Host.Cell := Memory.writeAll [] 0 (dataInit b)

/-- What the engine takes from an image in a slot (R127, R130). -/
def load (slot : Fin 2) (b : Bytes) : Running :=
  let n := Config.taskCount (tasks b)
  { slot := slot, imageId := imageId b, build := build b, codeSize := (code b).length, dataSize := dataSize b,
    retainedOffset := retOff b, retainedSize := retSize b, keyMap := entries b, initSize := initSize b,
    hasStart := n 0 != 0, hasStationFault := n 2 != 0, hasCycleLong := n 3 != 0, hasPreSwitch := n 5 != 0,
    hasPostSwitch := n 6 != 0, writesLocal := Config.ioWrites (ioMap b), readsLocal := Config.ioReads (ioMap b) }

/-- The EVENT tasks of an image, their queues empty (R130). -/
def events (b : Bytes) : List EventTask :=
  (Config.eventTasks (tasks b)).map fun (p, post, i) =>
    { prio := p, trigger := if post then .post (Fin.ofNat 32 i) else .edge (Fin.ofNat 128 i) }

end Image

/-- Bytes of the running image's slot. -/
def State.runningImage (s : State) : Bytes :=
  match s.prg.running with
  | some r => s.xch.slots[r.slot].bytes
  | none => []

/-- The key whose leaf lies at an instance's key, in the running image. -/
def Running.find (r : Running) (k : BitVec 64) : Option KeyEntry := r.keyMap.find? fun e => e.key = k

/-- Whether an instance is retained. -/
def Running.retains (r : Running) (k : BitVec 64) : Bool := ((r.find k).map KeyEntry.retain).getD false

/-- The retained part of data memory and instances (R145). -/
def Running.retained (r : Running) (d : PrgData) : PrgData :=
  { mem := Memory.within r.retainedOffset (r.retainedOffset + r.retainedSize) d.mem,
    insts := d.insts.filter fun x => r.retains x.1 }

/-- Data memory and instances with their retained part replaced (R146). -/
def Running.restore (r : Running) (d ret : PrgData) : PrgData :=
  { mem := Memory.splice r.retainedOffset (r.retainedOffset + r.retainedSize) d.mem ret.mem,
    insts := d.insts.filter (fun x => !r.retains x.1) ++ ret.insts.filter (fun x => r.retains x.1) }

/-- Pages of RETAINED whose content differs from the image's initial content (R492). -/
def Running.pages (r : Running) (image : Bytes) (ret : PrgData) : List Nat :=
  let init := Memory.within r.retainedOffset (r.retainedOffset + r.retainedSize) (Image.initial image)
  let diff := (ret.mem.filter fun c => !init.contains c) ++ (init.filter fun c => !ret.mem.contains c)
  let addrs := diff.map Prod.fst ++ ret.insts.filterMap fun x => (r.find x.1).map KeyEntry.addr
  (addrs.map fun a => (a - r.retainedOffset) / 4096).dedup

end Sys2Proof.Machine
end

