-- ==== Sys2Proof/Machine/Stores.lean ====
section
/-! DEFINITION. The Sepia recorder and the two-bank stores (R473 to R493, R496, R498, R501, R502, R619). -/

namespace Sys2Proof.Machine

/-! ### Records in flash (R475, R479, R480, R502) -/

/-- The bytes of a record, byte 0 to LENGTH - 1 (R475). -/
def RecEntry.bytes (e : RecEntry) : Bytes :=
  let head := wr 2 0x5E71 ++ wr 2 e.length ++ wr 2 e.kind.type.toNat ++ wr 1 e.source.idx.val
    ++ wr 1 ((if e.restored then 2 else 0) + if e.fromPartner then 1 else 0) ++ wr 4 e.seq.toNat ++ wr 4 e.opSeconds
    ++ wr 4 e.powerCycles
    ++ (match e.shipTime with | some v => wrS 8 v | none => List.replicate 8 0xFF)
  let body := head ++ recPayload e.kind e.items
  body ++ wr 4 (crc32c body).toNat

/-- The valid mark of a record (R479). -/
def RecEntry.mark (e : RecEntry) : Bytes := wr 4 0xC35AA53C ++ wr 4 e.seq.toNat

/-- The header of a sector (R480). -/
def RSector.header (x : RSector) : Bytes :=
  wr 4 0x5E75EC70 ++ wr 4 x.erases ++ wr 4 ((x.first.map BitVec.toNat).getD 0) ++ List.replicate 20 0xFF

/-- Flash bytes a record takes: its bytes and its valid mark, each at an 8-byte boundary (R479). -/
def RecEntry.slot (e : RecEntry) : Nat := (e.length + 7) / 8 * 8 + 8

/-- The sector after another in the rotation (R480). -/
def nextSector (k : Fin 512) : Fin 512 := Fin.ofNat 512 (k.val + 1)

/-- The sector after `k` that can be written or erased: retired sectors without a spare are passed past (R480, R502). -/
def Recorder.nextUsable (r : Recorder) (k : Fin 512) : Fin 512 :=
  let cand := (List.range 512).map fun i => Fin.ofNat 512 (k.val + 1 + i)
  (cand.find? fun j => !(r.sectors[j].retired && r.sectors[j].spare.isNone)).getD (nextSector k)

/-- Erased sectors ahead of the write position. -/
def Recorder.erasedAhead (r : Recorder) : Nat :=
  ((List.finRange 512).filter fun k => k != r.sector && r.sectors[k].erased).length

/-- SECTOR_ERASE (R480): with no erased sector left ahead, the sector of the oldest records starts to be erased. -/
def Recorder.startErase (clock : Ns) (r : Recorder) : Recorder :=
  if r.erasedAhead = 0 && r.erasing.isNone then
    let k := r.nextUsable r.sector
    { r with erasing := some (k, clock), flash := r.flash.filter fun f => f.sector != k,
             sectors := r.sectors.set k { r.sectors[k] with first := none } }
  else r

/-- Writing moves on to the next sector, whose header takes the SEQ of its first record (R480). -/
def Recorder.enter (clock : Ns) (seq : BitVec 32) (r : Recorder) : Recorder :=
  let k := r.nextUsable r.sector
  ({ r with sector := k, offset := 32,
            sectors := r.sectors.set k { r.sectors[k] with erased := false, first := some seq } }).startErase clock

/-- One record is programmed at the write position; with a failed read-back its slot stays without a mark (R479). The
record waits while the sector it needs is still being erased (R480). -/
def Recorder.program (clock : Ns) (e : RecEntry) (good : Bool) (r : Recorder) : Recorder × Bool :=
  let fits := r.offset + e.slot ≤ 131072
  let next := r.nextUsable r.sector
  if !fits && !r.sectors[next].erased then (r, false)
  else
    let r := if fits then r else r.enter clock e.seq
    let first := if r.sectors[r.sector].first.isNone then some e.seq else r.sectors[r.sector].first
    let sectors := r.sectors.set r.sector { r.sectors[r.sector] with erased := false, first := first }
    ({ r with offset := r.offset + e.slot, sectors := sectors,
              flash := r.flash ++ [{ entry := e, sector := r.sector, marked := good }] }, good)

/-- RECORD_FLASH_COPY (R478, R479): the oldest record of the journal goes to flash; its space is freed once its valid
mark is written. -/
def execRecordFlashCopy (t : Ns) (good : Bool) (s : State) : Res :=
  let s := s.begin t
  match s.recorder.intake with
  | [] => .next s
  | e :: rest =>
    if !s.up .recorder then .next s else
    let (r, done) := s.recorder.program s.clock e good
    .next (s.updRec fun _ => if done then { r with intake := rest } else r)

/-- SECTOR_ERASE_END (R480, R502): the sector is erased, or retired with a spare mapped in its place. -/
def execSectorEraseEnd (t : Ns) (ok : Bool) (s : State) : Res :=
  let s := s.begin t
  match s.recorder.erasing with
  | none => .next s
  | some (k, _) =>
    let sec := s.recorder.sectors[k]
    let s := s.updRec fun r => { r with erasing := none }
    let s := s.measure 3 false k.val (sec.erases + 1 : Nat)
    if !ok || 100000 ≤ sec.erases + 1 then
      let spare := s.recorder.spares
      let new : RSector :=
        if spare = 0 then { sec with erases := sec.erases + 1, retired := true, spare := none, erased := false }
        else { erases := 0, first := none, erased := true, retired := true, spare := some (128 - spare) }
      let s := (s.updRec fun r => { r with spares := r.spares - 1, sectors := r.sectors.set k new }).record .recorder
        .sectorRetired [k.val]
      .next (s.ledgerWarn 3 (decide (s.recorder.spares < 16)) k.val s.recorder.spares)
    else
      let new : RSector := { sec with erases := sec.erases + 1, first := none, erased := true }
      .next (s.updRec fun r => { r with sectors := r.sectors.set k new })

/-! ### Reading the recorder (R483 to R485) -/

/-- Records that count: marked in flash, or in the journal, in SEQ order of writing. -/
def Recorder.present (r : Recorder) : List RecEntry :=
  (r.flash.filter FlashRec.marked).map FlashRec.entry ++ r.intake

/-- SEQ of the oldest record present; with none present, the next SEQ. -/
def Recorder.firstNow (r : Recorder) : BitVec 32 :=
  match r.present with
  | e :: _ => e.seq
  | [] => r.nextSeq

/-- Whether a SEQ lies before another, by signed difference (R484). -/
def seqBefore (a b : BitVec 32) : Bool := (a - b).msb

/-- REC_SNAPSHOT (R483). -/
def execRecSnapshot (t : Ns) (org : Origin) (s : State) : Res :=
  serve org opRecSnapshot [.recorder] none none (fun s =>
    let r := s.recorder
    let sn : RecSnap := { id := r.nextSnap, first := r.firstNow, last := r.nextSeq - 1, stamp := s.now }
    let keep := if r.snaps.length < 8 then r.snaps else r.snaps.drop 1
    let result := wr 4 sn.id ++ wr 4 sn.first.toNat ++ wr 4 sn.last.toNat ++ wr 4 0 ++ wrS 8 sn.stamp
    (s.updRec fun r => { r with snaps := keep ++ [sn], nextSnap := r.nextSnap + 1 }).complete org (.done result))
    (s.begin t)

/-- As many whole records as fit in the bytes and the count left. -/
def takeRecords : Nat → Nat → List RecEntry → List RecEntry
  | 0, _, _ => []
  | _, _, [] => []
  | n + 1, room, e :: l => if e.length ≤ room then e :: takeRecords n (room - e.length) l else []

/-- Records of a snapshot from a SEQ on (R484). -/
def Recorder.range (r : Recorder) (first last : BitVec 32) : List RecEntry :=
  r.present.filter fun e => !seqBefore e.seq first && !seqBefore last e.seq

/-- REC_READ (R484, R485). -/
def execRecRead (t : Ns) (org : Origin) (param : Bytes) (max : Nat) (s : State) : Res :=
  let s := s.begin t
  let r := s.recorder
  let id := rd param 0 4
  let start := BitVec.ofNat 32 (rd param 4 4)
  let snap := r.snaps.find? fun x => x.id = id
  serve org opRecRead [.recorder]
    (firstOf [badField (!zeroAt param 12 4 || param.length != 16),
      fails (max < 1040) { disp := dError, status := stResultTooSmall, needed := some 1040 }])
    (fails snap.isNone (.error stSnapshotUnknown))
    (fun s =>
      match snap with
      | none => s
      | some sn =>
        let past := seqBefore start r.firstNow
        let from' := if past then r.firstNow else start
        let count := if rd param 8 4 = 0 then max else rd param 8 4
        let recs := takeRecords count (max - 16) (r.range from' sn.last)
        let next := match recs.getLast? with | some e => e.seq + 1 | none => from'
        let ended := seqBefore sn.last next
        let head := wr 4 r.firstNow.toNat ++ wr 4 next.toNat ++ wr 4 recs.length
          ++ wr 4 ((if past then 1 else 0) + if ended then 2 else 0)
        let o : Outcome := { disp := dDone, status := if past then stOverwritten else 0,
                             result := head ++ recs.flatMap RecEntry.bytes }
        (if past then s.updRec fun r => { r with overwritten := r.overwritten + 1 } else s).complete org o)
    s

/-! ### Recovery at start-up (R481) -/

/-- Records written since the last RESET_RELEASE, which recovery has nothing to do with. -/
def freshRecords (l : List RecEntry) : List RecEntry :=
  if l.any fun e => e.kind == .resetRelease then
    let r := l.reverse
    ((r.takeWhile fun e => e.kind != .resetRelease) ++ (r.dropWhile fun e => e.kind != .resetRelease).take 1).reverse
  else []

/-- REC_RECOVERY (R481): torn slots of the newest sector are counted, journal records of before go to flash with RESTORED, SEQ
goes on, and one record names the counts. `fresh` records stay as they are. -/
def State.recoverRecorder (fresh : List RecEntry) (s : State) : State :=
  let old := s.recorder.intake.take (s.recorder.intake.length - fresh.length)
  let r := { s.recorder with erasing := none, snaps := [] }
  let torn := (r.flash.filter fun f => f.sector = r.sector && !f.marked).length
  let r := r.startErase s.clock
  let step (acc : Recorder × List RecEntry × Nat) (e : RecEntry) : Recorder × List RecEntry × Nat :=
    let (r, wait, n) := acc
    let e := { e with restored := true }
    if !wait.isEmpty then (r, wait ++ [e], n)
    else
      let (r', done) := r.program s.clock e true
      if done then (r', wait, n + 1) else (r, [e], n)
  let (r, wait, n) := old.foldl step (r, [], 0)
  let restored := n + wait.length
  ({ s with recorder := { r with intake := wait ++ fresh, torn := r.torn + torn, restored := r.restored + restored } }).record
    .recorder .recorderRecovery [torn, restored]

/-! ### Payloads and budget (R490, R492, R494) -/

/-- The registers a configuration bank holds (R490, R542). -/
def State.storedRegs (s : State) : StoredRegs :=
  { role := BitVec.ofNat 4 (s.regs.role.vote roleFields).toNat, nodeAddr := s.regs.nodeAddr.vote nodeFields,
    groupEn := s.regs.groupEn.vote groupEnFields, etherType := s.regs.etherType,
    mac := #v[s.regs.macA, s.regs.macB, s.regs.macL], tsTx := s.regs.tsTx, tsRx := s.regs.tsRx,
    imgKey := s.regs.imgKey, keyValid := s.regs.keyValid,
    bind := Vector.ofFn fun (n : Fin 32) => s.mb.bind[n].vote bindFields,
    marker := s.xch.marker, term := s.pair.term, epoch := s.pair.epoch }

/-- The numbers that spell the stored registers. -/
def StoredRegs.numbers (r : StoredRegs) : List Nat :=
  [r.role.toNat, r.nodeAddr.toNat, r.groupEn.toNat, r.etherType.toNat] ++ r.mac.toList.map BitVec.toNat
    ++ r.tsTx.toList.map BitVec.toNat ++ r.tsRx.toList.map BitVec.toNat
    ++ (r.imgKey.toList.flatMap fun k => k.toList.map BitVec.toNat) ++ [r.keyValid.toNat]
    ++ r.bind.toList.map BitVec.toNat
    ++ [(match r.marker with | some m => m.val + 1 | none => 0), r.term.toNat, r.epoch.toNat]

/-- One entry of the configuration payload (R490). -/
def CfgEntry.bytes (e : CfgEntry) : Bytes := wr 2 e.opcode.toNat ++ wr 2 e.inst ++ wr 4 e.obj.length ++ pad4 e.obj

/-- Page numbers of the boundary copy that a save stores (R492). -/
def State.savePages (s : State) : List Nat :=
  match s.prg.running with
  | some r => r.pages s.runningImage s.prg.boundary.data
  | none => []

/-- Save size of a retained save (R492). -/
def State.retainedSize (s : State) : Nat := 32 + 40 + 4100 * s.savePages.length

/-- The bytes of the boundary copy's payload (R492). -/
def State.retainedBytes (s : State) : Bytes :=
  let b := s.prg.boundary
  let off := (s.prg.running.map Running.retainedOffset).getD 0
  b.imageId ++ wr 8 b.cycle ++ wrS 8 b.clock ++ wr 4 s.savePages.length ++ wr 4 0 ++ s.savePages.flatMap (wr 4)
    ++ s.savePages.flatMap fun p => Memory.readAll b.data.mem (off + 4096 * p) 4096

/-- The payload of a store's next save, and its bytes (R490, R492). -/
def State.savePayload (st : Fin 2) (s : State) : StorePayload × Bytes :=
  if st = 0 then
    (.config s.mod.inForce s.storedRegs,
      s.mod.inForce.flatMap CfgEntry.bytes ++ Config.encodeRegs s.storedRegs.numbers)
  else (.retained s.prg.boundary, s.retainedBytes)

/-- The power-fail save budget B; none is charged until HOLDUP is (R494, R582). -/
def State.budget (s : State) : Nat :=
  if s.mod.charged then ((s.mod.tHu * 1000 - 2000) * 32).floor.toNat else 0

/-- The retained saving interval in force, s (R146, R496). -/
def State.saveInterval (s : State) : Nat :=
  if s.stores[(1 : Fin 2)].overBudget then min s.prg.param.saveInterval 10 else s.prg.param.saveInterval

/-! ### Saves (R487, R488, R493, R496) -/

/-- The bank with the newest valid content (R488, R489); bank 0 on equal SEQ. -/
def Store.newest (st : Store) : Option (Fin 2) :=
  if st.banks[0].valid && st.banks[1].valid then
    if (0 : Int) < (st.banks[1].seq - st.banks[0].seq).toInt then some 1 else some 0
  else if st.banks[0].valid then some 0
  else if st.banks[1].valid then some 1
  else none

/-- The 32-byte header of a bank of a store: MAGIC is 0 while the bank is invalid (R486, R487). -/
def Bank.header (st : Fin 2) (b : Bank) : Bytes :=
  let head := wr 4 0x53544F52 ++ wr 2 1 ++ wr 1 (st.val + 1) ++ [0] ++ wr 4 b.seq.toNat ++ wr 4 b.length ++ wr 4 b.crc.toNat
  (if b.valid then head else List.replicate 4 0 ++ head.drop 4) ++ wr 4 (crc32c head).toNat ++ List.replicate 8 0

/-- SEQ of the next save (R487). -/
def Store.nextSeq (st : Store) : BitVec 32 :=
  match st.newest with
  | some b => st.banks[b].seq + 1
  | none => 1

/-- The bank a save writes (R488). -/
def Store.target (st : Store) : Fin 2 := if st.newest = some 0 then 1 else 0

/-- Whether a cause is periodic or commanded, so that it is held against the budget (R496). -/
def SaveCause.checked (c : SaveCause) : Bool := c == .interval || c == .command

/-- SAVE_OVER_BUDGET and SAVE_WITHIN_BUDGET at a retained save (R496). -/
def State.budgetCheck (causes : List SaveCause) (s : State) : State :=
  let past := decide (s.budget < s.retainedSize)
  if past && causes.contains .interval && !s.stores[(1 : Fin 2)].overBudget then
    ((s.updStore 1 fun st => { st with overBudget := true }).postEvent 0x0103 1 []).settleHealth
  else if !past && causes.any SaveCause.checked && s.stores[(1 : Fin 2)].overBudget then
    ((s.updStore 1 fun st => { st with overBudget := false }).record .recorder .saveWithinBudget
      [s.retainedSize, s.budget]).postEvent 0x0104 1 [] |>.settleHealth
  else s

/-- A save starts: MAGIC of the target bank becomes 0 (R487). A retained save of more than 255 pages is not made; what
asked for it completes STORE_FULL (R493). The result tells whether the save runs. -/
def State.startSave (st : Fin 2) (causes : List SaveCause) (orgs : List Origin) (s : State) : State × Bool :=
  let s := if st = 1 then s.budgetCheck causes else s
  if st = 1 ∧ 255 < s.savePages.length then
    let s := s.updStore 1 fun x => { x with saveFailed := true, failed := x.failed + 1, lastOk := false,
                                            lastCause := causes.head?, lastCycle := s.prg.boundary.cycle,
                                            lastDurUs := 0, command := none }
    ((((s.record .recorder .storeSaveFailed [1, s.savePages.length]).postEvent 0x0102 1 []).completeAll orgs
      (.error stStoreFull)), false)
  else
    let p := s.savePayload st
    (s.updStore st fun x =>
      let k := x.target
      { x with banks := x.banks.set k { x.banks[k] with valid := false }, newer := none,
               running := some { causes := causes, orgs := orgs, start := s.clock, payload := p.1, length := p.2.length, crc := crc32c p.2,
                                 target := k, cycle := s.prg.boundary.cycle, covers := x.changeSeq } }, true)

/-- A save is asked for: it runs now, or follows the one that runs (R488), or none is made while a CLEAR_RETAINED or a
FACTORY_CONFIG holds saves back (R619). The result tells whether a save runs or waits. -/
def State.requestSave (st : Fin 2) (cause : SaveCause) (org : Option Origin) (s : State) : State × Bool :=
  if s.stores[st].heldBack then (s, false)
  else if s.stores[st].running.isSome then
    (s.updStore st fun x => { x with waiting := x.waiting ++ [(cause, org)] }, true)
  else s.startSave st [cause] org.toList

/-- Both banks become invalid and no save of the store follows (R619). -/
def State.clearStore (st : Fin 2) (org : Origin) (s : State) : State :=
  (s.updStore st fun x => { x with
    banks := #v[{ x.banks[0] with valid := false }, { x.banks[1] with valid := false }], heldBack := true,
    clearWait := none, command := none, waiting := [] }).complete org .done

/-- Step 4 of R487: MAGIC is written, the requesters complete, and what waited follows (R488, R619). The save's causes are
answered to the caller. -/
def State.finishSave (st : Fin 2) (s : State) : State × List SaveCause :=
  match s.stores[st].running with
  | none => (s, [])
  | some v =>
    let s := s.updStore st fun x => { x with
      banks := x.banks.set v.target { valid := true, seq := x.nextSeq, payload := v.payload, crc := v.crc,
                                      length := v.length, stamp := s.now },
      running := none, savedSeq := v.covers, oldest := x.newer, newer := none, saves := x.saves + 1,
      lastCause := v.causes.head?, lastCycle := v.cycle, lastDurUs := (s.clock - v.start) / 1000, lastOk := true,
      lastSize := v.length + 32, saveFailed := if st = 1 then false else x.saveFailed,
      command := if v.orgs.any (fun o => x.command = some o) then none else x.command }
    let s := if st = 1 then
        s.updPrg fun p => { p with savedStamp := s.now, savedCycle := v.cycle, saves := p.saves + 1 }
      else s
    let s := s.completeAll (v.orgs) .done
    let s := match s.stores[st].waiting, s.stores[st].clearWait with
      | [], none => s
      | [], some org => s.clearStore st org
      | w, _ => ((s.updStore st fun x => { x with waiting := [] }).startSave st (w.map Prod.fst)
          (w.filterMap Prod.snd)).1
    (s, v.causes)

/-- A running save is abandoned, what waited with it (R488, R495). -/
def State.abandonSave (st : Fin 2) (s : State) : State :=
  s.updStore st fun x => { x with running := none, waiting := [], clearWait := none }

/-- CONFIG_SAVE_START (R491, R619). -/
def execConfigSaveStart (t : Ns) (s : State) : Res :=
  let s := s.begin t
  if s.stores[(0 : Fin 2)].oldest.isSome && s.stores[(0 : Fin 2)].running.isNone && s.up .recorder then
    .next (s.requestSave 0 .change none).1
  else .next s

/-! ### STORE_COMMAND (R498, R619) -/

/-- Format of a STORE_COMMAND of this ACTION. -/
def storeFormat (action : Nat) (param : Bytes) : Option Outcome :=
  badField (rd param 0 1 != action || !zeroAt param 1 15 || param.length != 16)

/-- SAVE_RETAINED (R498, R493, R619). -/
def execSaveRetained (t : Ns) (org : Origin) (param : Bytes) (s : State) : Res :=
  let s := s.begin t
  serve org opStoreCommand [.recorder] (storeFormat 1 param)
    (firstOf [fails s.stores[(1 : Fin 2)].command.isSome .busy, fails s.prg.running.isNone (.error stWrongState)])
    (fun s =>
      ((s.updStore 1 fun x => { x with command := some org, heldBack := false }).requestSave 1 .command (some org)).1) s

/-- SAVE_CONFIG (R498); after a FACTORY_CONFIG no save of the store starts, and the command finds it in the wrong state
(R619; DEDUCED, log 67). -/
def execSaveConfig (t : Ns) (org : Origin) (param : Bytes) (s : State) : Res :=
  let s := s.begin t
  serve org opStoreCommand [.recorder] (storeFormat 2 param)
    (firstOf [fails s.stores[(0 : Fin 2)].command.isSome .busy,
      fails s.stores[(0 : Fin 2)].heldBack (.error stWrongState)])
    (fun s => ((s.updStore 0 fun x => { x with command := some org }).requestSave 0 .command (some org)).1) s

/-- The banks are cleared at once, or when the saves before it have completed (R619). -/
def State.clearOrWait (st : Fin 2) (org : Origin) (s : State) : State :=
  let s := s.updStore st fun x => { x with command := some org }
  if s.stores[st].running.isSome || !s.stores[st].waiting.isEmpty then
    s.updStore st fun x => { x with clearWait := some org }
  else s.clearStore st org

/-- CLEAR_RETAINED (R498, R619). -/
def execClearRetained (t : Ns) (org : Origin) (param : Bytes) (s : State) : Res :=
  let s := s.begin t
  serve org opStoreCommand [.recorder] (storeFormat 3 param)
    (firstOf [fails s.stores[(1 : Fin 2)].command.isSome .busy,
      fails (!(s.prg.state == .stopped || s.prg.state == .halted)) (.error stWrongState)])
    (State.clearOrWait 1 org) s

/-- FACTORY_CONFIG (R498, R619): refused while the binding table or the channel-ownership table is locked. -/
def execFactoryConfig (t : Ns) (org : Origin) (param : Bytes) (s : State) : Res :=
  let s := s.begin t
  serve org opStoreCommand [.recorder]
    (storeFormat 4 param)
    (firstOf [fails (s.lockMb || s.lockChown) (.policy stPolicyMordant), fails s.stores[(0 : Fin 2)].command.isSome .busy])
    (State.clearOrWait 0 org) s

/-! ### Bank selection (R489) -/

/-- The bank a load takes. On equal SEQ bank 0 is taken and a record is written; with no valid bank STORE_LOST sets, with
its record and event (R489). -/
def State.selectBank (st : Fin 2) (s : State) : State :=
  let x := s.stores[st]
  let s := if x.banks[0].valid && x.banks[1].valid && x.banks[0].seq == x.banks[1].seq then
      s.record .recorder .storeEqualSeq [st.val] else s
  let s := s.updStore st fun x => { x with inUse := x.newest, lost := x.newest.isNone }
  if x.newest.isNone then (s.record .recorder .storeLost [st.val]).postEvent 0x0101 st.val [] else s

end Sys2Proof.Machine
end

