-- ==== Sys2Proof/Machine/Mailbox.lean ====
section
/-! DEFINITION. The mailbox hub (R450 to R472). -/

namespace Sys2Proof

/-- Identity codes of R450. -/
def Ident.code : Ident → Nat
  | .none => 0 | .host => 1 | .svc => 2 | .prg0 => 3 | .prg1 => 4 | .ctl => 5 | .mot => 6 | .rng => 7 | .partner => 8
  | .saf => 9

def Ident.ofCode : Nat → Ident
  | 1 => .host | 2 => .svc | 3 => .prg0 | 4 => .prg1 | 5 => .ctl | 6 => .mot | 7 => .rng | 8 => .partner | 9 => .saf
  | _ => .none

/-- The place of an identity in the epochs and the domain states (R459). -/
def Ident.idx (i : Ident) : Fin 9 := Fin.ofNat 9 (i.code - 1)

/-- The island through which an identity reaches the hub; the partner's messages come by RNG. -/
def Ident.island : Ident → Isl
  | .host => .hif | .prg0 | .prg1 => .prg | .ctl => .ctl | .mot => .mot | .rng | .partner => .rng | .saf => .saf
  | .svc | .none => .svc

/-- Domain codes of MB_DOM_STATE (R459). -/
def Dom.code : Dom → Nat
  | .off => 0 | .sleep => 1 | .on => 2

/-- Whether a pair of identities is allowed by R450: what the sender may send to and what the receiver may receive from. -/
def mayBind (snd rcv : Ident) : Bool :=
  let sends := match snd with
    | .host | .svc => true
    | .prg0 => rcv == .host || rcv == .svc || rcv == .prg1
    | .prg1 => rcv == .host || rcv == .svc || rcv == .prg0
    | .ctl | .mot | .rng => rcv == .svc
    | .partner | .saf => rcv == .host || rcv == .svc
    | .none => false
  let receives := match rcv with
    | .host | .svc => true
    | .prg0 => snd == .host || snd == .svc || snd == .prg1
    | .prg1 => snd == .host || snd == .svc || snd == .prg0
    | .ctl | .mot | .rng => snd == .svc
    | .partner => snd == .host || snd == .svc
    | .saf | .none => false
  snd != .none && sends && receives

end Sys2Proof

namespace Sys2Proof.Machine

/-- The voted binding of a channel (R458). -/
def State.bindWord (s : State) (n : Fin 32) : Nat := (s.mb.bind[n].vote bindFields).toNat
def State.bindEnabled (s : State) (n : Fin 32) : Bool := bitsOf (s.bindWord n) 12 12 == 1
def State.bindVector (s : State) (n : Fin 32) : Fin 16 := Fin.ofNat 16 (bitsOf (s.bindWord n) 11 8)
def State.bindSender (s : State) (n : Fin 32) : Ident := Ident.ofCode (bitsOf (s.bindWord n) 7 4)
def State.bindReceiver (s : State) (n : Fin 32) : Ident := Ident.ofCode (bitsOf (s.bindWord n) 3 0)

/-- The state of an identity's domain (R450, R459). -/
def State.domain (s : State) (i : Ident) : Dom := if i = .none then .off else s.mb.domains[i.idx]

/-- The present epoch of an identity (R459). -/
def State.epochOf (s : State) (i : Ident) : BitVec 8 := s.mb.epochs[i.idx]

/-- The watchdog of an island whose clocks stop is suspended, and goes on from there when they run again (R451). -/
def Island.sleeps (clock : Ns) (d : Dom) (x : Island) : Island :=
  if d = .sleep then { x with asleep := some clock }
  else { x with asleep := none, serviced := match x.asleep with | some a => x.serviced + (clock - a) | none => x.serviced }

/-- The crossings and the watchdog of an island follow its domain: going OFF answers every request with ERR_DOMAIN_OFF, and going ON
starts the crossing timeout of those that waited in SLEEP (R17, R451). PRG1 has no crossings but those of PRG. -/
def State.domainCrossings (i : Ident) (d : Dom) (s : State) : State :=
  match (match i with | .prg0 => some Isl.prg | .ctl => some .ctl | .mot => some .mot | _ => none) with
  | none => s
  | some k =>
    let s := s.updIsland k.idx (Island.sleeps s.clock d)
    match d with
    | .off => s.answerCrossings k .domainOff
    | .on => { s with crossings := s.crossings.map fun x => if x.dst == k then { x with since := s.clock } else x }
    | .sleep => s

/-- A domain changes its state, with a record (R472). -/
def State.setDomain (i : Ident) (d : Dom) (s : State) : State :=
  if s.domain i = d then s
  else ((s.updMb fun m => { m with domains := m.domains.set i.idx d }).domainCrossings i d).record .svc .domainChange [i.code, d.code]

/-- An identity's epoch rises by one (R459). -/
def State.bumpEpoch (i : Ident) (s : State) : State :=
  s.updMb fun m => { m with epochs := m.epochs.set i.idx (m.epochs[i.idx] + 1) }

/-- NOT_BOUND sets (R454). -/
def State.notBound (s : State) : State := s.updMb fun m => { m with notBound := true }

/-- Whether the receiver of a channel lies in a domain that is OFF (R460); NONE has no domain (DESIGN CHOICE, log 118). -/
def State.receiverOff (s : State) (n : Fin 32) : Bool := s.bindReceiver n != .none && s.domain (s.bindReceiver n) == .off

/-- An access met a receiver domain in OFF: the channel's bit in MB_ACCESS_ERR, and ERR_DOMAIN_OFF to an on-chip master
(R18, R459, R460). -/
def State.accessOff (who : Ident) (n : Fin 32) (s : State) : State :=
  let s := s.updMb fun m => { m with accessErr := putBit m.accessErr n.val true }
  if who = .host then s else s.emit (.crossingError who.island (s.bindReceiver n).island .domainOff)

/-- The wake event of a posted channel (R450, R451, R460): an MSI-X message or WAKE_N for HOST, an event for PRG1, a
firmware interrupt for the engines; PRG0 takes its message at the next input read. An on-chip domain in SLEEP goes ON. -/
def State.wakeReceiver (n : Fin 32) (s : State) : State :=
  match s.bindReceiver n with
  | .host =>
    match s.domain .host with
    | .on => s.signal (s.bindVector n)
    | .sleep => (s.updHif fun h => { h with wakeN := false }).emit (.pin "WAKE_N" false)
    | .off => s
  | .partner | .none | .saf => s
  | r =>
    let s := if s.domain r = .sleep then s.setDomain r .on else s
    match r with
    | .prg1 => s.pushEvent (.post n) (.post n s.now s.mb.boxes[n].data.toList)
    | .prg0 => s
    | _ => s.emit (.doorbell r n false)

/-- Raises the wake events of every channel that an identity receives and that is still posted (R467). -/
def State.rewake (i : Ident) (s : State) : State :=
  forAll 32 (fun n s => if s.bindReceiver n = i && s.mb.boxes[n].go then s.wakeReceiver n else s) s

/-- A refused post (R456, R460). -/
def Mailbox.refuse (cause : BitVec 4) (b : Mailbox) : Mailbox :=
  { b with postErr := true, cause := cause, refusedPosts := b.refusedPosts + 1 }

/-- The fields an accepted post writes (R460, R466). -/
def Mailbox.accept (snd rcv : Ident) (sndEpoch rcvEpoch : BitVec 8) (stamp : Int) (clock : Ns) (b : Mailbox) : Mailbox :=
  { b with
    go := true, taken := false, postErr := false, cause := 0, crossed := false, ackExpired := false, withdrawn := false,
    wdLate := false, wdPending := false, sndEpoch := sndEpoch, rcvEpoch := rcvEpoch, sender := BitVec.ofNat 4 snd.code,
    receiver := BitVec.ofNat 4 rcv.code, postStamp := (stamp % 2 ^ 64).toNat, postedAt := clock, takenAt := none,
    posts := b.posts + 1,
    deadline := if b.ackTo.getLsbD 31 then some (clock + 1000 * max 1 (b.ackTo.toNat % 2 ^ 24)) else none }

/-- CROSSED on both channels of a crossed pair posted within the wake window (R464). -/
def State.markCrossed (n : Fin 32) (s : State) : State :=
  forAll 32 (fun k s =>
    if k != n && s.bindEnabled k && s.bindSender k == s.bindReceiver n && s.bindReceiver k == s.bindSender n &&
        s.mb.boxes[k].go && s.mb.boxes[n].go && decide (s.mb.boxes[n].postedAt ≤ s.mb.boxes[k].postedAt + 100000) then
      (s.updBox k fun b => { b with crossed := true }).updBox n fun b => { b with crossed := true }
    else s) s

/-- The identity PARTNER's own code for a mailbox posted towards it: the event waits for the next BARRIER (R462). -/
def State.toPartner (e : MbEvent) (s : State) : State := s.updMb fun m => { m with toPartner := m.toPartner ++ [e] }

/-- The hub handles a post in one step (R460). -/
def State.hubPost (who : Ident) (n : Fin 32) (s : State) : State :=
  let b := s.mb.boxes[n]
  let rcv := s.bindReceiver n
  if s.bindSender n != who then s.notBound
  else if b.go then s.updBox n (Mailbox.refuse 1)
  else if s.receiverOff n then (s.updBox n (Mailbox.refuse 2)).accessOff who n
  else if rcv = .saf then s.updBox n (Mailbox.refuse 3)
  else if !s.bindEnabled n then s.updBox n (Mailbox.refuse 4)
  else
    let s := (s.updBox n (Mailbox.accept who rcv (s.epochOf who) (s.epochOf rcv) s.now s.clock)).markCrossed n
    let s := if rcv = .partner then s.toPartner (.post n s.mb.boxes[n].data.toList s.now) else s
    s.wakeReceiver n

/-- A sender's write to one data word (R454, R460). -/
def State.hubData (who : Ident) (n : Fin 32) (j : Fin 16) (value : Word) (s : State) : State :=
  if s.receiverOff n then s.accessOff who n
  else if s.bindSender n != who then s.notBound
  else if s.mb.boxes[n].go then s.updBox n fun b => { b with refusedPosts := b.refusedPosts + 1 }
  else s.updBox n fun b => { b with data := b.data.set j value }

/-- ACK_EXPIRED sets, and the deadline is done with (R466). -/
def State.ackExpires (n : Fin 32) (s : State) : State :=
  (s.updBox n fun b => { b with ackExpired := true, deadline := none }).record .svc .ackExpired [n.val]

/-- The end of the acknowledgement timeout of a channel (R30, R466). -/
def State.ackDeadline (s : State) (n : Fin 32) : Option Ns :=
  s.mb.boxes[n].deadline.map fun d => s.due .svc s.mb.boxes[n].postedAt (d - s.mb.boxes[n].postedAt)

/-- TAKEN sets with its stamp, in ring time. The tie rule decides on that stamp: a take later than the deadline finds it expired
(R40, R42, R466). -/
def State.takenBy (n : Fin 32) (stamp : Int) (s : State) : State :=
  let late := s.ackDeadline n |>.any fun d => decide ((d : Int) + s.time.ringOff < stamp)
  let s := if late then s.ackExpires n else s
  s.updBox n fun b => { b with
    go := false, taken := true, takenStamp := (stamp % 2 ^ 64).toNat, takenAt := some s.clock, deadline := none }

/-- The hub sets TAKEN and the taken stamp; the take of a partner's message goes back in a BARRIER (R461, R462). -/
def State.hubTake (n : Fin 32) (s : State) : State :=
  if s.mb.boxes[n].go then
    let s := s.takenBy n s.now
    if s.bindSender n = .partner then s.toPartner (.take n s.now) else s
  else s

/-- An access to the hub, which sits in SVC: while SVC is stalled or in reset it has no effect and is answered with the crossing code
(R17, R521; the answer to a write of the host is DESIGN CHOICE, log 122). -/
def State.atHub (who : Ident) (f : State → State) (s : State) : State :=
  match s.islandCode .svc with
  | some c => s.emit (.crossingError who.island .svc c)
  | none => f s

/-- A message of a task: its words and the post (R461). -/
def State.programPost (who : Ident) (n : Fin 32) (data : List Word) (s : State) : State :=
  s.atHub who fun s =>
    let s := (List.finRange 16).foldl (fun s j =>
      match data[j.val]? with
      | some v => s.hubData who n j v
      | none => s) s
    s.hubPost who n

/-! ### Commands -/

/-- MB_DATA_WRITE (R454, R460). -/
def execMbDataWrite (t : Ns) (who : Ident) (n : Fin 32) (j : Fin 16) (value : Word) (s : State) : Res :=
  .next ((s.begin t).atHub who (State.hubData who n j value))

/-- MB_POST (R460, R462). -/
def execMbPost (t : Ns) (who : Ident) (n : Fin 32) (s : State) : Res :=
  .next ((s.begin t).atHub who (State.hubPost who n))

/-- MB_TAKE (R454, R461): only the bound receiver takes. -/
def execMbTake (t : Ns) (who : Ident) (n : Fin 32) (s : State) : Res :=
  .next ((s.begin t).atHub who fun s =>
    if s.receiverOff n then s.accessOff who n
    else if s.bindReceiver n != who then s.notBound
    else s.hubTake n)

/-- An event of a post to a mailbox. -/
def isPostOf (n : Fin 32) (e : PrgEvent) : Bool := match e with | .post k .. => k == n | .edge .. => false

/-- The wake that a withdrawn message raised finds an empty channel: its event starts no task (R463; DEDUCED, log 126). -/
def State.dropPost (n : Fin 32) (s : State) : State :=
  (s.updPrg fun p => { p with events := p.events.map fun k =>
    { k with queue := k.queue.filter fun e => !isPostOf n e } }).updPair fun p => { p with
      barrier := { p.barrier with events := p.barrier.events.filter fun e => !isPostOf n e } }

/-- A withdrawal succeeds (R463). -/
def State.withdrawn (n : Fin 32) (s : State) : State :=
  let s := if s.bindReceiver n = .prg1 then s.dropPost n else s
  (s.updBox n fun b => { b with go := false, withdrawn := true, wdPending := false, deadline := none }).record .svc
    .withdrawal [n.val, 1]

/-- A withdrawal comes too late (R463). -/
def State.withdrawLate (n : Fin 32) (s : State) : State :=
  (s.updBox n fun b => { b with wdLate := true, wdPending := false }).record .svc .withdrawal [n.val, 0]

/-- WITHDRAW (R462, R463): a message that lies at the partner is withdrawn there, and the outcome comes back in the
partner's BARRIER. -/
def execWithdraw (t : Ns) (who : Ident) (n : Fin 32) (s : State) : Res :=
  .next ((s.begin t).atHub who fun s =>
    if s.receiverOff n then s.accessOff who n
    else if s.bindSender n != who then s.notBound
    else if s.mb.boxes[n].go then
      if s.bindReceiver n = .partner then
        (s.updBox n fun b => { b with wdPending := true }).toPartner (.withdraw n false)
      else s.withdrawn n
    else if s.mb.boxes[n].taken then s.withdrawLate n
    else s)

/-- Whether every take that the partner has made up to an instant is known here: its latest BARRIER was sent at or after it, or the
partner takes nothing any more (R40, R462; DEDUCED, log 65). -/
def State.takesKnown (s : State) (n : Fin 32) (d : Ns) : Bool :=
  s.bindReceiver n != .partner || s.domain .partner == .off ||
    s.pair.barrier.partner.any fun x => decide ((d : Int) + s.time.ringOff ≤ x.2)

/-- ACK_EXPIRED (R40 to R42, R466): a take stamped exactly at the deadline is in time. -/
def execAckExpired (t : Ns) (due : AckDue) (s : State) : Res :=
  let s := s.begin t
  match s.ackDeadline due.box with
  | some d =>
    if d < s.clock && s.mb.boxes[due.box].go && s.takesKnown due.box d then
      .next (s.deferOr (.mailbox due.box) d due.receiving (State.ackExpires due.box))
    else .next s
  | none => .next s

/-- Whether a binding may be written (R458). -/
def bindingOk (pair : Bool) (v : Nat) : Bool :=
  let snd := bitsOf v 7 4
  let rcv := bitsOf v 3 0
  let enable := bitsOf v 12 12 == 1
  let named (c : Nat) : Bool := decide (1 ≤ c ∧ c ≤ 9)
  (snd != rcv || (snd == 0 && !enable)) && (!enable || (named snd && named rcv)) &&
    (!(named snd && named rcv) || mayBind (Ident.ofCode snd) (Ident.ofCode rcv)) &&
    (pair || (snd != 8 && rcv != 8))

/-- MB_BIND_WRITE (R458, R472, R552): VECTOR is kept for receiver HOST only. -/
def execMbBindWrite (t : Ns) (n : Fin 32) (value : Word) (s : State) : Res :=
  let s := s.begin t
  let v := value.toNat
  if !s.up .svc then .next s
  else if s.lockMb then
    .next ((s.modError meLockedWrite (0x5000 + 4 * n.val)).updMb fun m => { m with bindErr := true })
  else if s.mb.boxes[n].go || !bindingOk s.isPair v then .next (s.updMb fun m => { m with bindErr := true })
  else
    let vector := if bitsOf v 3 0 = 1 then 256 * bitsOf v 11 8 else 0
    let w := BitVec.ofNat 32 (4096 * bitsOf v 12 12 + vector + 16 * bitsOf v 7 4 + bitsOf v 3 0)
    .next (((s.updMb fun m => { m with bind := m.bind.set n (Tmr.of w) }).storeRegister).record .svc .bindChange
      [n.val, w.toNat])

/-! ### The partner's side (R462) -/

/-- One mailbox event that the partner's BARRIER carried (R458, R462, R463). -/
def State.partnerEvent (e : MbEvent) (s : State) : State :=
  match e with
  | .post n data _ =>
    if s.bindEnabled n && s.bindSender n == .partner && !s.mb.boxes[n].go then
      let s := (List.finRange 16).foldl (fun s (j : Fin 16) =>
        s.updBox n fun b => { b with data := b.data.set j ((data[j.val]?).getD 0) }) s
      s.hubPost .partner n
    else s.toPartner (.refuse n)
  | .take n stamp =>
    if s.mb.boxes[n].go && s.bindReceiver n == .partner then
      let late := s.mb.boxes[n].wdPending
      let s := s.takenBy n stamp
      if late then s.withdrawLate n else s
    else s
  | .withdraw n done =>
    if done then (if s.mb.boxes[n].go && s.bindReceiver n == .partner then s.withdrawn n else s)
    else if s.mb.boxes[n].go && s.bindSender n == .partner then
      (s.updBox n fun b => { b with go := false, withdrawn := true, deadline := none }).toPartner (.withdraw n true)
    else s
  | .refuse n =>
    if s.bindReceiver n = .partner then s.updBox n fun b => { (Mailbox.refuse 4 b) with go := false, deadline := none }
    else s

/-- The events a BARRIER carries to the partner. -/
def State.takePartnerEvents (s : State) : List MbEvent × State :=
  (s.mb.toPartner, s.updMb fun m => { m with toPartner := [] })

/-! ### Domains of HOST and PARTNER (R450, R451) -/

/-- The HOST domain follows PERST_N, the link, the power state and READY (R450); D0 without READY leaves it as it was. -/
def State.settleHost (s : State) : State :=
  if s.hif.perstLow || s.hif.linkSpeed == 0 then s.setDomain .host .off
  else if s.hif.d3hot then s.setDomain .host .sleep
  else if s.hif.ready then s.setDomain .host .on
  else s

/-- Clears a channel at the power-on of its receiver's domain (R453). -/
def State.clearReceived (i : Ident) (s : State) : State :=
  forAll 32 (fun n s => if s.bindReceiver n = i then s.updBox n fun _ => {} else s) s

end Sys2Proof.Machine
end

