-- ==== Sys2Proof/Machine/Control.lean ====
section
/-! DEFINITION. The closed-loop control engine (R198 to R238). -/

namespace Sys2Proof.Machine

/-! ### Fields of LOOP_CONFIG (R202, R203, R211) -/

def lcLoop (o : Bytes) : Nat := rdBits o 0 5 0
def lcEnable (o : Bytes) : Bool := rdBits o 0 7 7 == 1
def lcSpTrack (o : Bytes) : Bool := rdBits o 1 7 7 == 1
def lcFfKind (o : Bytes) : Nat := rdBits o 1 6 5
def lcBadAction (o : Bytes) : Nat := rdBits o 1 4 3
def lcRamp (o : Bytes) : Bool := rdBits o 1 2 2 == 1
def lcDOn (o : Bytes) : Rat := rdBits o 1 1 1
/-- The action sign s of R207: +1 for REVERSE. -/
def lcSign (o : Bytes) : Rat := if rdBits o 1 0 0 = 1 then -1 else 1
def lcModeInit (o : Bytes) : Nat := rdBits o 2 1 0
def lcSlip (o : Bytes) : Nat := rd o 3 1
def lcPeriod (o : Bytes) : Nat := rd o 4 4
def lcPhase (o : Bytes) : Nat := rd o 8 4
def lcPv (o : Bytes) : Nat := rd o 12 4
def lcDest (o : Bytes) : Nat := rd o 16 4
def lcErf (o : Bytes) : Nat := rd o 20 4
def lcFf (o : Bytes) : Nat := rd o 24 4
def lcTrk (o : Bytes) : Nat := rd o 28 4
def lcGroup (o : Bytes) : Nat := rd o 32 1
/-- A binary32 field as a number; only finite values pass R212. -/
def lcF (o : Bytes) (off : Nat) : Rat := (rdF32 o off).getD 0
def lcKp (o : Bytes) : Rat := lcF o 36
def lcKi (o : Bytes) : Rat := lcF o 40
def lcKd (o : Bytes) : Rat := lcF o 44
def lcTf (o : Bytes) : Rat := lcF o 48
def lcB (o : Bytes) : Rat := lcF o 52
def lcTt (o : Bytes) : Rat := lcF o 56
def lcDb (o : Bytes) : Rat := lcF o 60
def lcLo (o : Bytes) : Rat := lcF o 64
def lcHi (o : Bytes) : Rat := lcF o 68
def lcRate (o : Bytes) : Rat := lcF o 72
def lcHand (o : Bytes) : Rat := lcF o 76
def lcSpLo (o : Bytes) : Rat := lcF o 80
def lcSpHi (o : Bytes) : Rat := lcF o 84
def lcFfGain (o : Bytes) : Rat := lcF o 88
def lcSatBand (o : Bytes) : Rat := lcF o 92
def lcBadOut (o : Bytes) : Rat := lcF o 96

/-- KIND of a source or destination field (R202, R203). -/
def srcKind (f : Nat) : Nat := f / 2 ^ 28
/-- Bits [27:0]. -/
def srcArg (f : Nat) : Nat := f % 2 ^ 28
/-- Station index and word offset of a REMOTE field. -/
def srcStation (f : Nat) : Nat := bitsOf f 23 12
def srcWord (f : Nat) : Nat := bitsOf f 11 0
/-- The argument's highest value for a kind (R202, R203). -/
def srcLimit (k : Nat) : Nat :=
  match k with
  | 1 => 127 | 2 => 2 ^ 24 - 1 | 3 => 63 | 4 => 15 | 5 => 7 | 7 => 7 | _ => 0
/-- A known kind with its unused bits 0. -/
def srcFormat (f : Nat) : Bool := decide (srcKind f ≤ 7) && decide (srcArg f ≤ srcLimit (srcKind f))
/-- The channel of a CHANNEL field. -/
def srcChan (f : Nat) : Fin 128 := Fin.ofNat 128 (srcArg f)

def LoopMode.ofCode : Nat → LoopMode
  | 0 => .manual | 1 => .auto | 2 => .cascade | _ => .track
def LoopMode.code : LoopMode → Nat
  | .manual => 0 | .auto => 1 | .cascade => 2 | .track => 3

/-- Fields of OVERRIDE_CONFIG (R225). -/
def ocEnable (o : Bytes) : Bool := rdBits o 0 7 7 == 1
def ocGroup (o : Bytes) : Nat := rdBits o 0 2 0
def ocCount (o : Bytes) : Nat := rd o 1 1
def ocDest (o : Bytes) : Nat := rd o 12 4
def ocErf (o : Bytes) : Nat := rd o 16 4
/-- The members of a group. -/
def ocMembers (o : Bytes) : List (Fin 64) := (List.range (min 8 (ocCount o))).map fun i => Fin.ofNat 64 (rd o (2 + i) 1)

/-! ### Inputs of a sample (R199, R202, R209, R210) -/

/-- A value read through a source: none where it is not finite or there is none, with its quality, SUBST flag and stamp. -/
abbrev Read := Option Rat × Quality × Bool × Int

/-- Quality codes of R59. -/
def qualityOf (c : BitVec 2) : Quality := if c = 0 then .good else if c = 1 then .stale else .bad
def Quality.code : Quality → BitVec 2
  | .good => 0 | .stale => 1 | .bad => 2

/-- The state-table entry of a station. -/
def State.station? (s : State) (idx : Nat) : Option Station := s.ring.stations.find? fun x => x.index = idx

/-- Substitute word of a station's table entry (R343, R346). -/
def Station.substWord (x : Station) (w : Nat) : Word := BitVec.ofNat 32 (rd x.obj (32 + 4 * w) 4)

/-- Whether a station's inputs are substituted: WAITING or DOWN (R137, R157, R159, R344). -/
def Station.substituted (x : Station) : Bool := x.state == .down || x.state == .waiting

/-- A word of a remote input image with its quality and SUBST flag (R137, R346). -/
def State.remoteIn (s : State) (idx w : Nat) : Read :=
  match s.station? idx with
  | none => (none, .bad, true, 0)
  | some x =>
    let value (v : Word) : Option Rat := decodeBin 8 23 v.toNat
    if x.substituted then (value (x.substWord w), .bad, true, x.lastStamp)
    else if x.front.words.length ≤ w then (none, .bad, false, x.lastStamp)
    else
      let q := qualityOf ((x.front.quals[w]?).getD 2)
      let q := if x.frontStale && q == .good then .stale else q
      (value ((x.front.words[w]?).getD 0), q, false, x.lastStamp)

/-- L+ of a group in V (R82, R202). -/
def State.lplus (s : State) (g : Fin 8) : Read :=
  let x := s.groups[g]
  (some ((x.lplusV.toNat : Rat) / 100), if x.supply == .unknown || x.supply == .off then .bad else .good, false, s.now)

/-- The value of a source field for a loop (R202). -/
def State.readSource (s : State) (lp : Fin 64) (trk : Bool) (f : Nat) : Read :=
  match srcKind f with
  | 1 =>
    let c := s.chans[srcChan f]
    if (s.mode (srcChan f)).isAo then (some c.actual, c.quality, false, c.filtStamp)
    else (some c.engValue, c.quality, false, c.filtStamp)
  | 2 => s.remoteIn (srcStation f) (srcWord f)
  | 3 => (some s.loops[Fin.ofNat 64 (srcArg f)].a, .good, false, s.now)
  | 4 => (some s.axes[Fin.ofNat 16 (srcArg f)].acc, .good, false, s.now)
  | 5 => s.lplus (Fin.ofNat 8 (srcArg f))
  | 6 =>
    let l := s.loops[lp]
    if trk then (some l.trkValue, .good, false, s.now) else (some l.pvExt, qualityOf l.pvExtQual, false, s.now)
  | _ => (none, .bad, false, s.now)

/-- Whether a value read may not be used (R215). -/
def Read.bad (r : Read) : Bool := r.1.isNone || r.2.1 == .bad || r.2.2.1

/-- The feedback that a destination gives by itself, none for A of the previous sample (R209). -/
def State.destFeedback (s : State) (dest : Nat) : Option Read :=
  match srcKind dest with
  | 1 => some (some s.chans[srcChan dest].actual, s.chans[srcChan dest].quality, false, s.now)
  | 3 => some (some s.loops[Fin.ofNat 64 (srcArg dest)].sp, .good, false, s.now)
  | _ => none

/-- External reset feedback of a group (R209, R226): its ERF_SRC, or what its destination gives. -/
def State.groupFeedback (s : State) (g : Fin 8) : Option Read :=
  match s.overs[g].cfg with
  | none => none
  | some o => if srcKind (ocErf o) = 0 then s.destFeedback (ocDest o) else some (s.readSource 0 false (ocErf o))

/-- The enabled override group a loop is a member of. -/
def State.memberOf (s : State) (lp : Fin 64) : Option (Fin 8) :=
  (List.finRange 8).find? fun g =>
    match s.overs[g].cfg with
    | some o => (ocMembers o).contains lp
    | none => false

/-- External reset feedback of a loop, with whether it was bad (R209). -/
def State.loopFeedback (s : State) (lp : Fin 64) (o : Bytes) : Rat × Bool :=
  let l := s.loops[lp]
  let r := match s.memberOf lp with
    | some g => (s.groupFeedback g).getD (some s.overs[g].a, .good, false, s.now)
    | none =>
      if srcKind (lcErf o) = 0 then (s.destFeedback (lcDest o)).getD (some l.a, .good, false, s.now)
      else s.readSource lp false (lcErf o)
  match r.1 with
  | some v => if r.2.1 == .bad then (l.a, true) else (v, false)
  | none => (l.a, true)

/-- The outer unit of a loop: an enabled loop, or an enabled group whose destination it is (R221, R226). -/
def State.outerLoop (s : State) (lp : Fin 64) : Option (Fin 64) :=
  (List.finRange 64).find? fun k =>
    match s.loops[k].cfg with
    | some o => srcKind (lcDest o) == 3 && srcArg (lcDest o) == lp.val
    | none => false
def State.outerGroup (s : State) (lp : Fin 64) : Option (Fin 8) :=
  (List.finRange 8).find? fun g =>
    match s.overs[g].cfg with
    | some o => srcKind (ocDest o) == 3 && srcArg (ocDest o) == lp.val
    | none => false

/-- Steps of `b` in the grid from tick `a`, for a period (R222). -/
def gridSteps (tick since period : Nat) : Nat := (tick - since) / max 1 period

/-- The cascade set-point of an inner loop at a grid tick (R222). Before any outer output SP_LOCAL stands. An override
group has no ramp (DESIGN CHOICE, log 109). -/
def State.cascadeSp (s : State) (lp : Fin 64) (o : Bytes) (tick : Nat) : Rat :=
  let l := s.loops[lp]
  match s.outerLoop lp with
  | some k =>
    match s.loops[k].cfg with
    | some oo =>
      if lcRamp oo then
        let n := lcPeriod oo / max 1 (lcPeriod o)
        let m := min (gridSteps tick l.cascTick (lcPeriod o)) (n - 1)
        round64 (l.cascPrev + round64 (round64 (round64 (l.cascY - l.cascPrev) * (m + 1)) / max 1 n))
      else l.cascY
    | none => l.cascY
  | none => l.cascY

/-- The inner loop that a loop drives, directly or through its group (R221, R223). -/
def State.innerOf (s : State) (lp : Fin 64) (o : Bytes) : Option (Fin 64) :=
  let dest := match s.memberOf lp with
    | some g => ((s.overs[g].cfg).map ocDest).getD 0
    | none => lcDest o
  if srcKind dest = 3 then some (Fin.ofNat 64 (srcArg dest)) else none

/-- Feed-forward of a sample: ratio, added part, and FF_HOLD (R210). -/
def State.feedForward (s : State) (lp : Fin 64) (o : Bytes) : Rat × Rat × Bool :=
  let r := s.readSource lp false (lcFf o)
  match lcFfKind o with
  | 1 =>
    match r.1 with
    | some v =>
      if r.2.1 == .bad || r.2.2.1 || decide (v ≤ 0) then (s.loops[lp].ratio, 0, true)
      else (clampR (1 / 2) 2 (round64 (lcFfGain o / v)), 0, false)
    | none => (s.loops[lp].ratio, 0, true)
  | 2 => (1, round64 (lcFfGain o * r.1.getD 0), false)
  | _ => (1, 0, false)

/-! ### Released writes (R216) -/

/-- The writes due at a sample start, in order of release stamp, the program's first on equal stamps. -/
def sortWrites (l : List LoopWrite) : List LoopWrite :=
  l.mergeSort fun a b => decide (a.stamp < b.stamp) || (a.stamp == b.stamp && (a.fromPrg || !b.fromPrg))

/-- Applies one released write to the commanded fields (R216); a value that is not finite is ignored and counted. -/
def Loop.applyWrite (l : Loop) (w : LoopWrite) : Loop :=
  let o := w.obj
  let valid (i : Nat) : Bool := rdBits o 1 i i == 1
  let l := if valid 0 then
      let m := LoopMode.ofCode (rdBits o 2 1 0)
      { l with mode := m, srcChanged := l.srcChanged || l.mode != m }
    else l
  let num (i off : Nat) (f : Rat → Loop → Loop) (l : Loop) : Loop :=
    if valid i then
      match rdF32 o off with
      | some v => f v l
      | none => { l with badWrite := satAdd 32 l.badWrite 1 }
    else l
  let l := num 1 4 (fun v l => { l with spLocal := v }) l
  let l := num 2 8 (fun v l => { l with outMan := v }) l
  let l := num 3 12 (fun v l => { l with trkValue := v }) l
  let l := num 4 16 (fun v l => { l with pvExt := v, pvExtQual := BitVec.ofNat 2 (rdBits o 3 2 1) }) l
  if valid 5 then { l with failSig := rdBits o 3 0 0 == 1 } else l

/-! ### The computation of a sample (R207, R208, R213, R219, R220) -/

/-- What a sample reads before it computes. -/
structure LoopIn where
  /-- dt in s -/
  dt : Rat
  pv : Read
  erf : Rat
  erfBad : Bool
  ratio : Rat
  ff : Rat
  ffHold : Bool
  /-- value of TRK_SRC or TRK_VALUE, none while it is bad -/
  trk : Option Rat
  casc : Rat
  /-- tuning signal on the set-point and on the output -/
  injSp : Rat := 0
  injOut : Rat := 0
  /-- positive and negative increments blocked by the inner loop's saturation (R223) -/
  blockUp : Bool := false
  blockDown : Bool := false
  /-- the loop is a member of an enabled override group -/
  inGroup : Bool := false
  /-- the inner loop is not in CASCADE (R224) -/
  innerFree : Bool := false

/-- The terms of R207 up to u; with a bad PV the set-point in force is the last that is computed (R215). A back-calculation
due since a LOOP_CONFIG takes place at the first sample that computes (R213). -/
def Loop.terms (l : Loop) (o : Bytes) (x : LoopIn) : Loop :=
  let pvBad := Read.bad x.pv
  let l := { l with pvQual := x.pv.2.1, pvStamp := x.pv.2.2.2, pvStale := decide (x.pv.2.1 = Quality.stale), erf := x.erf, erfBad := x.erfBad,
                    ff := x.ff, ffHold := x.ffHold }
  let pv := x.pv.1.getD 0
  let l := if !pvBad && lcSpTrack o && (l.mode == .manual || l.mode == .track) then { l with spLocal := pv } else l
  let sp0 := if l.mode == .cascade then x.casc else l.spLocal
  let sp := clampR (lcSpLo o) (lcSpHi o) (round64 (sp0 + x.injSp))
  if pvBad then { l with sp := sp, ratio := x.ratio } else
  let sg := lcSign o
  let e := round64 (sg * round64 (sp - pv))
  let ei := if absR e ≤ lcDb o then 0 else round64 (e - lcDb o * (if 0 < e then 1 else -1))
  let ep := round64 (round64 (sg * round64 (round64 (lcB o * sp) - pv)) - round64 (e - ei))
  let ed := round64 (sg * round64 (lcDOn o * sp - pv))
  let edPrev := if l.fresh then ed else l.edPrev
  let p := round64 (lcKp o * ep)
  let den := round64 (lcTf o + x.dt)
  let d := if den = 0 then 0 else
    round64 (round64 (round64 (lcTf o * l.d) + round64 (lcKd o * round64 (ed - edPrev))) / den)
  let tt := if lcTt o = 0 then (if lcKi o = 0 then 0 else round64 (lcKp o / lcKi o)) else lcTt o
  let share := if tt = 0 then 1 else min (round64 (x.dt / tt)) 1
  let back := round64 (round64 (share * round64 (x.erf - l.vPrev)) / (if l.ratioPrev = 0 then (1 : Rat) else l.ratioPrev))
  let inc := round64 (round64 (round64 (lcKi o * ei) * x.dt) + back)
  let inc := if lcKi o = 0 then 0 else if (x.blockUp && decide (0 < inc)) || (x.blockDown && decide (inc < 0)) then 0 else inc
  let i := round64 (l.i + inc)
  let bumpless := round64 (round64 (round64 (round64 (l.a - x.ff) / x.ratio) - p) - d)
  let i := if l.backPending then bumpless else i
  let v := round64 (round64 (round64 (round64 (p + i) + d) * x.ratio) + x.ff)
  { l with pv := pv, sp := sp, e := e, p := p, i := i, d := d, ratio := x.ratio, v := v, u := clampR (lcLo o) (lcHi o) v,
           edPrev := ed, frozenUp := x.blockUp, frozenDown := x.blockDown, fresh := false, backPending := false }

/-- The demand of the mode (R207, R215); none holds A. -/
def Loop.demand (l : Loop) (o : Bytes) (x : LoopIn) : Option Rat :=
  let clamp := clampR (lcLo o) (lcHi o)
  match l.mode with
  | .manual => some (clamp (round64 (l.outMan + x.injOut)))
  | .track => x.trk.map clamp
  | .auto | .cascade =>
    if Read.bad x.pv then
      if x.inGroup then none else if lcBadAction o = 1 then some (lcBadOut o) else none
    else some (clamp (round64 (l.u + x.injOut)))

/-- Rate limit and hand-over of an applied output (R219, R220): the new A, whether it is still handing over, and whether a
hand-over started. -/
def handover (aPrev d dt handRate outRate : Rat) (changed handing follow : Bool) : Rat × Bool × Bool :=
  let diff := round64 (d - aPrev)
  let r := if outRate = 0 then handRate else min handRate outRate
  let starts := changed && decide (round64 (handRate * dt) < absR diff)
  if starts || (handing && !changed) then
    if absR diff ≤ round64 (r * dt) then (d, false, starts)
    else (round64 (aPrev + (if 0 < diff then round64 (r * dt) else -(round64 (r * dt)))), true, starts)
  else if outRate = 0 || follow then (d, false, false)
  else (round64 (aPrev + clampR (-(round64 (outRate * dt))) (round64 (outRate * dt)) diff), false, false)

/-- Whether a loop is saturated with a demand, high or low (R223). -/
def Loop.saturate (o : Bytes) (d : Rat) (l : Loop) : Loop :=
  { l with satHi := decide (lcSatBand o < d - l.erf) || (l.a == lcHi o && d == lcHi o),
           satLo := decide (lcSatBand o < l.erf - d) || (l.a == lcLo o && d == lcLo o) }

/-- Whether the PID computes the demand of the mode. -/
def Loop.pid (l : Loop) : Bool := l.mode == .auto || l.mode == .cascade

/-- The integrator that makes `v` equal an applied output (R213, R220). -/
def Loop.backCalc (l : Loop) (a : Rat) : Rat := round64 (round64 (round64 (round64 (a - l.ff) / l.ratio) - l.p) - l.d)

/-- One sample of a loop (R207 to R224): the new loop and whether a hand-over started. A member of a group computes its demand
only; the selection gives it A (R226). -/
def Loop.sample (l : Loop) (o : Bytes) (x : LoopIn) : Loop × Bool :=
  let wasBad := l.pvBad
  let pvBad := Read.bad x.pv && l.pid
  let met := l.mode == .track && l.a == l.dem && !l.srcChanged
  let aPrev := if l.enabling then x.erf else l.a
  let l := ({ l with a := aPrev } : Loop).terms o x
  let outside := l.reparam && (decide (aPrev < lcLo o) || decide (lcHi o < aPrev))
  let changed := l.srcChanged || wasBad != pvBad || outside
  let demand := l.demand o x
  let l := { l with pvBad := pvBad, enabling := false, reparam := false, erfPrev := x.erf, ratioPrev := x.ratio, vPrev := l.v,
                    outLimited := !pvBad && l.pid && l.v != l.u }
  if x.inGroup then ({ l with dem := demand.getD l.dem, srcChanged := l.srcChanged || outside }, false) else
  match demand with
  | none =>
    (({ l with srcChanged := l.srcChanged && !pvBad, handingOver := false, rateLimited := false } : Loop).saturate o aPrev, false)
  | some d =>
    if x.innerFree && l.pid then
      (({ l with a := x.erf, i := l.backCalc x.erf, dem := d, srcChanged := false, vPrev := x.erf, handingOver := false,
                 rateLimited := false } : Loop).saturate o d, false)
    else
      let (a, handing, starts) := handover aPrev d x.dt (lcHand o) (lcRate o) changed l.handingOver met
      let back := handing && l.pid && !pvBad
      (({ l with a := a, dem := d, i := if back then l.backCalc a else l.i, srcChanged := false,
                 vPrev := if back then a else l.v, handingOver := handing,
                 handovers := if starts then l.handovers + 1 else l.handovers,
                 rateLimited := a != d && !handing } : Loop).saturate o d, starts)

/-! ### Destinations (R199, R203, R204) -/

/-- A word of a remote output image, ready 20 µs later (R139, R199). -/
def State.remoteOut (station word : Nat) (value : Word) (at_ : Ns) (s : State) : State :=
  s.updRing fun r => { r with stations := r.stations.map fun x =>
    if x.index = station then { x with outPending := x.outPending ++ [(at_ + 20000, word, value)] } else x }

/-- The applied output goes to its destination (R199, R203, R222). -/
def State.writeDest (dest : Nat) (a : Rat) (fail : Bool) (tick : Nat) (at_ : Ns) (s : State) : State :=
  match srcKind dest with
  | 1 => s.ownerWriteAt at_ .ctl (srcChan dest) true (some a) fail
  | 2 => s.remoteOut (srcStation dest) (srcWord dest) (BitVec.ofNat 32 (encodeBin 8 23 a)) at_
  | 3 => s.updLoop (Fin.ofNat 64 (srcArg dest)) fun l => { l with cascPrev := l.cascY, cascY := a, cascTick := tick }
  | _ => s

/-- FOREIGN_WRITES: a program's write to a word that a loop or group owns is discarded and counted; the owner is answered
(R204). -/
def State.wordOwner (s : State) (station word : Nat) : Option (Fin 64 ⊕ Fin 8) :=
  let is (dest : Nat) : Bool := srcKind dest == 2 && srcStation dest == station && srcWord dest == word
  match (List.finRange 64).find? fun k => match s.loops[k].cfg with | some o => is (lcDest o) | none => false with
  | some k => some (.inl k)
  | none =>
    match (List.finRange 8).find? fun g => match s.overs[g].cfg with | some o => is (ocDest o) | none => false with
    | some g => some (.inr g)
    | none => none

/-! ### The grid (R198, R228 to R230) -/

/-- The grid tick of a clock time (R198). -/
def State.gridTick (s : State) (c : Ns) : Nat := ((c + s.time.ringOff) / 50000).toNat
/-- Clock time of the start of a grid tick. -/
def State.tickClock (s : State) (i : Nat) : Int := (50000 * i : Int) - s.time.ringOff
/-- Whether a tick is a grid point (R198). -/
def onGrid (period phase i : Nat) : Bool := period != 0 && (i + period - phase % period) % period == 0

/-- Grid points after tick `i` whose sample start has passed at clock time `c` (R229). -/
def State.owedAfter (s : State) (period i : Nat) (c : Ns) : List Nat :=
  let n := (s.gridTick c - i) / max 1 period
  ((List.range n).map fun k => i + (k + 1) * period).filter fun j => decide (s.tickClock j + 36000 < c)

/-- Lateness bookkeeping at the end of a sample for grid tick `i` (R228 to R230). -/
def State.sampleEnd (s : State) (l : Loop) (o : Bytes) (i : Nat) (onPoint : Bool) (start done : Ns) : Loop :=
  let late := decide (s.tickClock i + 46000 < done)
  let exec := done - s.clock
  { l with samples := l.samples + 1, late := if late then l.late + 1 else l.late,
           catchUps := if onPoint then l.catchUps else l.catchUps + 1, lastStart := some start, lastPoint := some i,
           lastEnd := done, lastExec := exec, maxExec := max l.maxExec exec,
           owed := if onPoint && !late then [] else s.owedAfter (lcPeriod o) i done,
           firstLate := if onPoint && !late then none else if late then l.firstLate.orElse fun _ => some i else l.firstLate }

/-! ### Tuning tests (R232 to R235) -/

def tsLoop (o : Bytes) : Nat := rdBits o 0 5 0
def tsOutput (o : Bytes) : Bool := rdBits o 1 2 2 == 1
def tsSignal (o : Bytes) : Nat := rdBits o 1 1 0
def tsPrbsN (o : Bytes) : Nat := rd o 2 1
def tsCount (o : Bytes) : Nat := rd o 3 1
def tsAmp (o : Bytes) : Rat := lcF o 4
def tsHold (o : Bytes) : Nat := rd o 8 4
def tsF0 (o : Bytes) : Rat := lcF o 12
def tsF1 (o : Bytes) : Rat := lcF o 16
def tsDuration (o : Bytes) : Nat := rd o 20 4
def tsRepeats (o : Bytes) : Nat := rd o 24 1
def tsDecimate (o : Bytes) : Nat := rd o 26 2
def tsGuardLo (o : Bytes) : Rat := lcF o 28
def tsGuardHi (o : Bytes) : Rat := lcF o 32

/-- Taps of the PRBS register by its length (R233). -/
def prbsTaps (n : Nat) : List Nat :=
  match n with
  | 7 => [7, 6] | 8 => [8, 6, 5, 4] | 9 => [9, 5] | 10 => [10, 7] | 11 => [11, 9] | 12 => [12, 6, 4, 1]
  | 13 => [13, 4, 3, 1] | 14 => [14, 5, 3, 1] | _ => [15, 14]

/-- One shift of the Fibonacci register: the XNOR of the taps enters stage 1, the last stage leaves (R233). -/
def prbsShift (n r : Nat) : Nat :=
  let ones := ((prbsTaps n).filter fun k => r.testBit (k - 1)).length
  (2 * r + (if ones % 2 = 0 then 1 else 0)) % 2 ^ n

/-- `sin` of a number, by its series after reduction to a half turn, each term kept to `2^-64`. -/
def sinR (x : Rat) : Rat :=
  let twoPi : Rat := 62831853071795864769 / 10000000000000000000
  let y := x - twoPi * ((x / twoPi + 1 / 2).floor : Rat)
  ((List.range 24).foldl (fun (acc : Rat × Rat) k =>
    (acc.1 + acc.2, trim64 (-(acc.2 * y * y) / ((2 * k + 2) * (2 * k + 3))))) (0, trim64 y)).1

/-- Natural logarithm of a positive number, by bisection of `expNeg`, to about `2^-40`. -/
def lnR (q : Rat) : Rat :=
  if q = 1 then 0 else
  let (r, sg) : Rat × Rat := if q < 1 then (q, -1) else (1 / q, 1)
  let lo_hi := (List.range 48).foldl (fun (b : Rat × Rat) _ =>
    let m := (b.1 + b.2) / 2
    if r < expNeg m then (m, b.2) else (b.1, m)) ((0 : Rat), 64)
  sg * lo_hi.1

/-- The phase of SINE at time `t` s: the integral of `2π f` (R233). -/
def sinePhase (f0 f1 dur t : Rat) : Rat :=
  let twoPi : Rat := 62831853071795864769 / 10000000000000000000
  if f0 = f1 || dur = 0 then twoPi * f0 * t
  else
    let k := lnR (f1 / f0)
    let y := k * t / dur
    let ex := if y < 0 then expNeg (-y) else 1 / expNeg y
    twoPi * f0 * dur / k * (ex - 1)

/-- The signal of the running test at `t` ns after its first sample (R233). -/
def Tune.signal (u : Tune) (o : Bytes) (t : Ns) : Rat :=
  match tsSignal o with
  | 0 => tsAmp o
  | 1 => if u.lfsr.testBit (tsPrbsN o - 1) then tsAmp o else -(tsAmp o)
  | _ => round64 (tsAmp o * sinR (sinePhase (tsF0 o) (tsF1 o) ((tsDuration o : Rat) / 1000) ((t : Rat) / 1000000000)))

/-- Whether the test has run its duration or its last PRBS pass (R233). -/
def Tune.over (u : Tune) (o : Bytes) (t : Ns) : Bool :=
  if tsSignal o = 1 then decide (tsRepeats o * (2 ^ tsPrbsN o - 1) ≤ u.prbsBits)
  else decide (tsDuration o * 1000000 ≤ t)

/-- The shift register after one sample, advancing by grid position (R231, R233). -/
def Tune.step (u : Tune) (o : Bytes) : Tune :=
  let n := u.prbsSample + 1
  if tsSignal o = 1 && tsHold o ≤ n then
    { u with prbsSample := 0, prbsBits := u.prbsBits + 1, lfsr := prbsShift (tsPrbsN o) u.lfsr, sampleCount := u.sampleCount + 1 }
  else { u with prbsSample := n, sampleCount := u.sampleCount + 1 }

/-- The value of a capture code (R232). -/
def State.captured (s : State) (lp : Fin 64) (code : Nat) : Rat :=
  let l := s.loops[lp]
  if code / 64 = 1 then s.loops[Fin.ofNat 64 code].pv
  else if code / 64 = 2 then s.loops[Fin.ofNat 64 code].a
  else match code with
    | 1 => l.pv | 2 => l.sp | 3 => l.e | 4 => l.p | 5 => l.i | 6 => l.d | 7 => l.dem | 8 => l.a | 9 => l.erf
    | 10 => s.tune.inject | 11 => l.ff | _ => 0

/-- Captures one sample in DECIMATE (R232, R234). -/
def State.capture (o : Bytes) (lp : Fin 64) (t : Ns) (s : State) : State :=
  if s.tune.sampleCount % max 1 (tsDecimate o) = 0 && tsCount o != 0 then
    let row := wr 4 (t / 1000) ++ (List.range (tsCount o)).flatMap fun i => wrF32 (s.captured lp (rd o (36 + i) 1))
    if s.tune.buffer.length + row.length ≤ 262144 then
      s.updTune fun u => { u with buffer := u.buffer ++ row, captured := u.captured + 1 }
    else s
  else s

/-- The test ends: the signal goes and the loop hands over to its mode demand; TUNE_START completes with the number of
samples captured, the end stamp and, for an abort, its cause (R235). -/
def State.endTune (cause : Option TuneCause) (s : State) : State :=
  match s.tune.running with
  | none => s
  | some (org, _) =>
    let code := match cause with
      | none => 0 | some .guard => 1 | some .badPv => 2 | some .modeChange => 3 | some .slip => 4 | some .stop => 5
    let result := wr 4 s.tune.captured ++ wr 4 code ++ wrS 8 s.now
    let lp := s.tune.loop
    let s := (s.updTune fun u => { u with running := none, inject := 0, abort := cause, stopReq := false, endStamp := s.now })
    let s := (s.updLoop lp fun l => { l with srcChanged := true }).record .ctl .tuneEnd [lp.val, code, s.tune.captured]
    s.complete org (if cause.isNone then .done result else .error stTuneAborted result)

/-! ### The sample as a command -/

/-- A pending LOOP_CONFIG takes effect at the start of a sample (R213, R214, R238). Commands that wait for a loop that is disabled
find the wrong state (DESIGN CHOICE, log 105). -/
def State.loopTakeConfig (lp : Fin 64) (s : State) : State :=
  match s.loops[lp].pending with
  | none => s
  | some (_, o, phase) =>
    let was := s.loops[lp].cfg.isSome
    let s := (s.storeObject (BitVec.ofNat 16 opLoopConfig) lp.val (some o)).record .ctl .loopConfig [lp.val]
    if lcEnable o then
      let m := LoopMode.ofCode (lcModeInit o)
      s.updLoop lp fun l =>
        if was then { l with cfg := some o, phase := phase, reparam := true, backPending := true }
        else { l with cfg := some o, phase := phase, mode := m, lastRequested := m, enabling := true, fresh := true,
                      backPending := true, srcChanged := true, i := 0, d := 0, ratio := 1, ratioPrev := 1, handingOver := false,
                      pvBad := false, lastStart := none, owed := [], firstLate := none, failSig := false }
    else
      let orgs := s.loops[lp].writes.filterMap LoopWrite.org
      let s := if s.loops[lp].pvBad then s.record .ctl .loopPvBad [lp.val, 0] else s
      let s := s.updLoop lp fun l => { l with cfg := none, writes := [], handingOver := false, pvBad := false, owed := [],
                                              firstLate := none, lastStart := none, lastPoint := none }
      s.completeAll orgs (.error stWrongState)

/-- SP_LOCAL, OUT_MAN and TRK_VALUE at the sample that enables a loop: PV and the held output, so that nothing moves
(R75, R213; DEDUCED, log 37). -/
def Loop.enableAt (l : Loop) (pv : Read) (erf : Rat) : Loop :=
  { l with outMan := erf, trkValue := erf, a := erf,
           spLocal := if Read.bad pv then l.spLocal else pv.1.getD l.spLocal }

/-- Origins whose released writes a sample applied. -/
def appliedOrigins (l : List LoopWrite) : List Origin := l.filterMap LoopWrite.org

/-- The inputs of a loop's sample (R199, R202, R209, R210, R221 to R224). -/
def State.loopInputs (s : State) (lp : Fin 64) (o : Bytes) (tick : Nat) (start : Ns) : LoopIn :=
  let l := s.loops[lp]
  let nominal : Rat := (lcPeriod o : Rat) * 50000 / 1000000000
  let dt := match l.lastStart with
    | some t0 => ((start - t0 : Nat) : Rat) / 1000000000
    | none => nominal
  let f := s.loopFeedback lp o
  let g := s.feedForward lp o
  let inner := s.innerOf lp o
  let up := match inner with | some k => s.loops[k].satHi | none => false
  let down := match inner with | some k => s.loops[k].satLo | none => false
  let rev := match inner with
    | some k => (match s.loops[k].cfg with | some oo => lcSign oo == 1 | none => true)
    | none => true
  let trk := if srcKind (lcTrk o) = 0 then some l.trkValue else
    let r := s.readSource lp true (lcTrk o)
    if Read.bad r then none else r.1
  let injecting := match s.tune.running with | some (_, u) => if s.tune.loop = lp then some (tsOutput u) else none | none => none
  { dt := round64 dt, pv := s.readSource lp false (lcPv o), erf := f.1, erfBad := f.2, ratio := g.1, ff := g.2.1,
    ffHold := g.2.2, trk := trk, casc := s.cascadeSp lp o tick,
    injSp := if injecting = some false then s.tune.inject else 0,
    injOut := if injecting = some true then s.tune.inject else 0,
    blockUp := (up && rev) || (down && !rev), blockDown := (down && rev) || (up && !rev),
    inGroup := (s.memberOf lp).isSome,
    innerFree := match inner with
      | some k => s.loops[k].cfg.isSome && s.loops[k].mode != .cascade
      | none => false }

/-- A member's candidate demand (R226): in AUTO or CASCADE with a good PV, or in MANUAL. -/
def Loop.candidate (l : Loop) : Bool := l.mode == .manual || (l.pid && !l.pvBad)

/-- The lowest demand of a list of candidates, the lowest index on a tie (R226). -/
def lowest (cands : List (Fin 64 × Rat)) : Option (Fin 64 × Rat) :=
  cands.foldl (fun (b : Option (Fin 64 × Rat)) c =>
    match b with
    | none => some c
    | some x => if c.2 < x.2 || (c.2 == x.2 && decide (c.1.val < x.1.val)) then some c else some x) none

/-- A member takes the group's A (R220, R223, R226): the selected one is back-calculated while `back` holds. -/
def Loop.follow (sel back : Bool) (a : Rat) (limited : Bool) (l : Loop) : Loop :=
  let back := back && sel && l.pid
  ({ l with a := a, i := if back then l.backCalc a else l.i, vPrev := if back then a else l.vPrev, notSelected := !sel,
            srcChanged := false, handingOver := false, rateLimited := sel && limited } : Loop).saturate (l.cfg.getD []) l.dem

/-- The members and the selection are one unit: a late member makes every member late, and all owe the same grid points (R227). -/
def State.unitEnd (members : List (Fin 64)) (tick : Nat) (s : State) : State :=
  let done : Ns := members.foldl (fun (d : Ns) k => max d s.loops[k].lastEnd) 0
  let late := decide (s.tickClock tick + 46000 < done)
  let first := (members.findSome? fun k => s.loops[k].firstLate).orElse fun _ => if late then some tick else none
  members.foldl (fun s k => s.updLoop k fun l => { l with
    late := if late && decide ((l.lastEnd : Int) ≤ s.tickClock tick + 46000) then l.late + 1 else l.late,
    firstLate := first, owed := s.owedAfter ((l.cfg.map lcPeriod).getD 1) tick done }) s

/-- Whether an inner loop that a destination names is not in CASCADE (R224). -/
def State.innerFree (s : State) (dest : Nat) : Bool :=
  srcKind dest == 3 && s.loops[Fin.ofNat 64 (srcArg dest)].mode != .cascade

/-- OVERRIDE_SELECTION (R226, R227): once every member has computed its demand for a grid point, the lowest candidate is selected
and the group's A follows it. As the outer of a loop that is not in CASCADE, the group follows that loop's set-point (R224). -/
def State.selectOverride (g : Fin 8) (tick : Nat) (start done : Ns) (s : State) : State :=
  match s.overs[g].cfg with
  | none => s
  | some o =>
    let members := ocMembers o
    if members.any fun m => s.loops[m].lastPoint != some tick then s else
    let cands := (members.filter fun m => s.loops[m].candidate).map fun m => (m, s.loops[m].dem)
    let v := s.overs[g]
    let fb := ((s.groupFeedback g).bind fun r => if r.2.1 == .bad then none else r.1).getD v.a
    match lowest cands with
    | none =>
      let s := s.updOver g fun v => { v with cands := [], noCandidate := true, erf := fb, selected := none, handingOver := false,
                                             lastStart := some start }
      let s := members.foldl (fun s k => s.updLoop k (Loop.follow false false v.a false)) s
      let s := if v.noCandidate then s else s.record .ctl .noCandidate [g.val, 1]
      s.unitEnd members tick
    | some (m, d) =>
      let dt : Rat := match v.lastStart with
        | some t0 => ((start - t0 : Nat) : Rat) / 1000000000
        | none => ((s.loops[m].cfg.map lcPeriod).getD 0 : Rat) * 50000 / 1000000000
      let oo := (s.loops[m].cfg).getD []
      let changed := v.selected != some m || s.loops[m].srcChanged
      let free := s.innerFree (ocDest o) && s.loops[m].pid
      let (a, handing, starts) := if free then (fb, false, false)
        else handover v.a d (round64 dt) (lcHand oo) (lcRate oo) changed v.handingOver false
      let s := if v.noCandidate then s.record .ctl .noCandidate [g.val, 0] else s
      let s := if starts then s.record .ctl .loopHandover [g.val, m.val] else s
      let s := s.updOver g fun v => { v with
        cands := cands, noCandidate := false, selected := some m, handingOver := handing, a := a, erf := fb,
        changes := if v.selected == some m then v.changes else v.changes + 1,
        handovers := if starts then v.handovers + 1 else v.handovers, lastStart := some start }
      let s := members.foldl (fun s k => s.updLoop k (Loop.follow (k == m) (handing || free) a (a != d && !handing))) s
      (s.unitEnd members tick).writeDest (ocDest o) a false tick done

/-- Why the running test must end at a sample of its loop, if it must (R235). -/
def State.tuneCause (s : State) (lp : Fin 64) (o : Bytes) (modeChanged : Bool) (pv : Read) : Option TuneCause :=
  match s.tune.running with
  | none => none
  | some (_, u) =>
    if s.tune.loop != lp then none
    else if Read.bad pv then some .badPv
    else if decide ((pv.1.getD 0) < tsGuardLo u) || decide (tsGuardHi u < pv.1.getD 0) then some .guard
    else if modeChanged then some .modeChange
    else if s.tune.stopReq then some .stop
    else if o.isEmpty then some .modeChange else none

/-- The tuning signal of this sample comes into force, by grid position (R231, R233). -/
def State.tuneInject (lp : Fin 64) (tick : Nat) (start : Ns) (s : State) : State :=
  match s.tune.running with
  | some (_, u) =>
    if s.tune.loop = lp then
      s.updTune fun t =>
        let first := if t.t0.isNone then tick else t.tick0
        { t with t0 := t.t0.orElse (fun _ => some start), tick0 := first, inject := t.signal u (50000 * (tick - first)) }
    else s
  | none => s

/-- Captures and moves the test on after its loop's sample (R231, R234). -/
def State.tuneAfter (lp : Fin 64) (start : Ns) (s : State) : State :=
  match s.tune.running with
  | some (_, u) =>
    if s.tune.loop = lp then (s.capture u lp (start - s.tune.t0.getD start)).updTune fun t => t.step u else s
  | none => s

/-- A released write is applied; a change of mode is recorded (R216, R238). -/
def State.applyLoopWrite (lp : Fin 64) (s : State) (w : LoopWrite) : State :=
  let before := s.loops[lp].mode
  let s := s.updLoop lp fun l => l.applyWrite w
  if before != s.loops[lp].mode then s.record .ctl .loopMode [lp.val, s.loops[lp].mode.code] else s

/-- One sample of a loop for grid tick `tick`, on its point or catching up (R207, R229). A sample on its grid point counts from
36 µs after the start of its tick (R199). -/
def State.loopSample (lp : Fin 64) (tick : Nat) (onPoint : Bool) (done : Ns) (s : State) : State :=
  let start : Ns := if onPoint then (s.tickClock tick + 36000).toNat else s.clock
  let configOrg := (s.loops[lp].pending).map fun x => x.1
  let s := s.loopTakeConfig lp
  let s := s.updLoop lp fun l => { l with pending := none }
  match s.loops[lp].cfg with
  | none => s.completeAll configOrg.toList .done
  | some o =>
    let modeBefore := s.loops[lp].mode
    let writes := sortWrites s.loops[lp].writes
    let s := writes.foldl (State.applyLoopWrite lp) (s.updLoop lp fun l => { l with writes := [] })
    let modeChanged := modeBefore != s.loops[lp].mode
    let pv := s.readSource lp false (lcPv o)
    let s := match s.tuneCause lp o modeChanged pv with
      | some c => s.endTune (some c)
      | none => s.tuneInject lp tick start
    let x := s.loopInputs lp o tick start
    let s := if s.loops[lp].enabling then s.updLoop lp fun l => l.enableAt x.pv x.erf else s
    let badBefore := s.loops[lp].pvBad
    let (l, starts) := s.loops[lp].sample o x
    let dt := match l.lastStart with | some t0 => start - t0 | none => 50000 * lcPeriod o
    let s := s.updLoop lp fun _ => { l with lastDt := dt }
    let s := if badBefore != l.pvBad then s.record .ctl .loopPvBad [lp.val, if l.pvBad then 1 else 0] else s
    let s := if starts && !x.inGroup then s.record .ctl .loopHandover [lp.val] else s
    let s := s.updLoop lp fun l => s.sampleEnd l o tick onPoint start done
    let fail := s.loops[lp].failSig || (s.loops[lp].pvBad && lcBadAction o == 2)
    let s := match s.memberOf lp with
      | some g => s.selectOverride g tick start done
      | none => if lcGroup o = 0xFF then s.writeDest (lcDest o) s.loops[lp].a fail tick done else s
    let s := s.tuneAfter lp start
    (s.completeAll configOrg.toList .done).completeAll (appliedOrigins writes) .done

/-- The configuration whose grid a loop's next sample belongs to: the one in force, or the one that enables it. -/
def Loop.gridCfg (l : Loop) : Option (Bytes × Nat) :=
  match l.cfg, l.pending with
  | some o, _ => some (o, l.phase)
  | none, some (_, o, ph) => some (o, ph)
  | none, none => none

/-- Whether a loop has an on-grid sample due at a tick that has not been taken (R198, R393): a loop that owes grid points catches up
first. -/
def State.loopDue (s : State) (i : Nat) (k : Fin 64) : Bool :=
  match s.loops[k].gridCfg with
  | none => false
  | some (o, ph) =>
    onGrid (lcPeriod o) ph i && s.loops[k].owed.isEmpty && decide (s.time.gridFloor < i) &&
      (match s.loops[k].lastPoint with | some j => decide (j < i) | none => true)

/-- The loops that an outer unit of a loop consists of: its outer loop, or the members of its outer group (R200, R226). -/
def State.outerUnit (s : State) (k : Fin 64) : List (Fin 64) :=
  (s.outerLoop k).toList ++ (((s.outerGroup k).bind fun g => s.overs[g].cfg).map ocMembers).getD []

/-- The on-grid sample that comes next at a tick: the lowest index whose outer unit has been sampled (R200). -/
def State.loopNext (s : State) (i : Nat) : Option (Fin 64) :=
  (List.finRange 64).find? fun k => s.loopDue i k && !(s.outerUnit k).any fun j => s.loopDue i j

/-- The members of a group take their grid points together: none begins one while another is behind (R227). -/
def State.inUnit (s : State) (k : Fin 64) : Bool :=
  match (s.memberOf k).bind fun g => s.overs[g].cfg with
  | none => true
  | some o =>
    let point (j : Fin 64) : Nat := (s.loops[j].lastPoint.map fun p => p + 1).getD 0
    (ocMembers o).all fun (j : Fin 64) => decide (point k ≤ point j)

/-- Whether a loop's on-grid sample is the one to be taken now. -/
def State.loopFirst (s : State) (i : Nat) (k : Fin 64) : Bool := s.loopNext i == some k && s.inUnit k

/-- LOOP_SAMPLE (R198 to R200, R207, R226, R393): a loop that owes no grid point is sampled at its grid point, once, in the order of
R200 and from 36 µs after the start of the tick. -/
def execLoopSample (t : Ns) (lp : Fin 64) (done : Ns) (s : State) : Res :=
  let s := s.begin t
  match s.loops[lp].gridCfg with
  | none => .next s
  | some _ =>
    let i := s.gridTick s.clock
    if s.up .ctl && s.loopFirst i lp && s.mod.failAt.isNone && decide (s.tickClock i + 36000 ≤ s.clock) then
      .next (s.loopSample lp i true (max s.clock done))
    else .next s

/-- Whether a loop of lower index still has to catch up in this tick (R200). -/
def State.catchUpBefore (s : State) (k : Fin 64) : Bool :=
  (List.finRange 64).any fun j => decide (j.val < k.val) && !s.loops[j].owed.isEmpty && s.inUnit j &&
    (s.loops[j].lastStart.map s.gridTick) != some (s.gridTick s.clock)

/-- CATCH_UP_SAMPLE (R200, R229): the oldest grid point still owed is discharged, after every on-grid sample of the tick. -/
def execCatchUpSample (t : Ns) (lp : Fin 64) (done : Ns) (s : State) : Res :=
  let s := s.begin t
  match s.loops[lp].owed with
  | [] => .next s
  | i :: _ =>
    if s.up .ctl && s.mod.failAt.isNone && (s.loopNext (s.gridTick s.clock)).isNone && s.inUnit lp && !s.catchUpBefore lp then
      .next (s.loopSample lp i false (max s.clock done))
    else .next s

/-- The grid points a loop owes are discarded (R208, R230). -/
def State.slipLoop (s : State) (lp : Fin 64) : State :=
  (s.updLoop lp fun l => { l with
    owed := [], firstLate := none, slipFlag := true, slips := satAdd 32 l.slips 1, fresh := true }).record .ctl .loopSlip [lp.val]

/-- LOOP_SLIP (R227, R230): past SLIP_LIMIT periods from the first late grid point the owed grid points go, those of a whole
group together. -/
def execLoopSlip (t : Ns) (lp : Fin 64) (s : State) : Res :=
  let s := s.begin t
  match s.loops[lp].firstLate, s.loops[lp].cfg with
  | some i, some o =>
    if s.tickClock (i + lcSlip o * lcPeriod o) + 36000 < s.clock then
      let unit := (((s.memberOf lp).bind fun g => s.overs[g].cfg).map ocMembers).getD [lp]
      let s := unit.foldl State.slipLoop s
      .next (if s.tune.running.isSome && s.tune.loop = lp then s.endTune (some .slip) else s)
    else .next s
  | _, _ => .next s

/-! ### Admission (R217, R218) -/

/-- One item of the admission sum: period, phase, cost in ns. -/
abbrev CostItem := Nat × Nat × Nat

/-- Cost of a loop's sample (R217). -/
def loopCost (o : Bytes) (ramped : Bool) : Nat :=
  let remotes := ([lcPv o, lcDest o, lcErf o, lcFf o, lcTrk o].filter fun f => srcKind f == 2).length
  220 + 40 * remotes + (match lcFfKind o with | 1 => 60 | 2 => 40 | _ => 0) + (if ramped then 30 else 0)

/-- A loop as it will stand once an accepted LOOP_CONFIG has taken effect, none where it is disabled (R212, R213). -/
def Loop.coming (l : Loop) : Option (Bytes × Nat) :=
  match l.pending with
  | some (_, o, ph) => if lcEnable o then some (o, ph) else none
  | none => l.cfg.map fun o => (o, l.phase)

/-- The loops enabled, those accepted among them, with one replaced by a candidate: index, object, phase. -/
def State.loopSet (s : State) (cand : Option (Fin 64 × Bytes × Nat)) : List (Fin 64 × Bytes × Nat) :=
  (List.finRange 64).filterMap fun k =>
    match cand with
    | some (j, o, ph) => if j = k then (if lcEnable o then some (k, o, ph) else none) else s.loops[k].coming.map fun x => (k, x)
    | none => s.loops[k].coming.map fun x => (k, x)

/-- The groups enabled, with one replaced by a candidate. -/
def State.groupSet (s : State) (cand : Option (Fin 8 × Bytes)) : List (Fin 8 × Bytes) :=
  (List.finRange 8).filterMap fun g =>
    match cand with
    | some (j, o) => if j = g then (if ocEnable o then some (g, o) else none) else s.overs[g].cfg.map fun oo => (g, oo)
    | none => s.overs[g].cfg.map fun oo => (g, oo)

/-- The items of a set of loops, groups and a tuning test. -/
def costItems (loops : List (Fin 64 × Bytes × Nat)) (groups : List (Fin 8 × Bytes)) (tune : Option Bytes) : List CostItem :=
  let ramped (k : Fin 64) : Bool := loops.any fun x => srcKind (lcDest x.2.1) == 3 && srcArg (lcDest x.2.1) == k.val && lcRamp x.2.1
  let ls := loops.map fun x => (lcPeriod x.2.1, x.2.2, loopCost x.2.1 (ramped x.1))
  let gs := groups.filterMap fun g =>
    ((ocMembers g.2).head?.bind fun m => loops.find? fun x => x.1 = m).map fun x =>
      (lcPeriod x.2.1, x.2.2, 100 + 30 * ocCount g.2 + 40 * ([ocDest g.2, ocErf g.2].filter fun f => srcKind f == 2).length)
  let ts := tune.toList.filterMap fun u =>
    (loops.find? fun x => x.1.val = tsLoop u).map fun x => (lcPeriod x.2.1, x.2.2, 120 + 20 * tsCount u)
  ls ++ gs ++ ts

/-- Ticks of the hyperperiod. -/
def hyperperiod (l : List CostItem) : Nat := l.foldl (fun n x => Nat.lcm n (max 1 x.1)) 1

/-- The sum due at a tick. -/
def costAt (l : List CostItem) (i : Nat) : Nat := l.foldl (fun n x => if onGrid x.1 x.2.1 i then n + x.2.2 else n) 0

/-- The worst sum of the hyperperiod. -/
def worstCost (l : List CostItem) : Nat := (List.range (hyperperiod l)).foldl (fun w i => max w (costAt l i)) 0

/-- A set is admitted when no tick exceeds 8,000 ns (R217). -/
def admitted (l : List CostItem) : Bool := decide (worstCost l ≤ 8000)

/-- The destination a loop's output ends at, through its group (R221, R226). -/
def destThrough (gs : List (Fin 8 × Bytes)) (o : Bytes) : Nat :=
  if srcKind (lcDest o) = 7 then
    match gs.find? fun g => g.1.val == srcArg (lcDest o) with
    | some g => ocDest g.2
    | none => 0
  else lcDest o

/-- Whether a phase fits the cascades a loop is part of: every outer grid point is an inner one (R221). -/
def phaseFits (others : List (Fin 64 × Bytes × Nat)) (gs : List (Fin 8 × Bytes)) (lp : Fin 64) (o : Bytes) (ph : Nat) : Bool :=
  others.all fun x =>
    let mine := destThrough gs o
    let its := destThrough gs x.2.1
    (if srcKind mine = 3 && srcArg mine == x.1.val then ph % max 1 (lcPeriod x.2.1) == x.2.2 % max 1 (lcPeriod x.2.1) else true) &&
      (if srcKind its = 3 && srcArg its == lp.val then x.2.2 % max 1 (lcPeriod o) == ph else true)

/-- The phase of a loop: the one named; in a group that of the lowest-index member whose phase is fixed, or else in force; else,
among those the cascade rules leave, the one of the lowest worst sum, the lowest on a tie (R218, R221, R225). -/
def State.choosePhase (s : State) (lp : Fin 64) (o : Bytes) : Nat :=
  if lcPhase o != 0xFFFFFFFF then lcPhase o else
  let p := max 1 (lcPeriod o)
  let others := s.loopSet (some (lp, [], 0))
  let groups := s.groupSet none
  let mates := others.filter fun x => lcGroup o != 0xFF && lcGroup x.2.1 == lcGroup o
  match (mates.find? fun x => lcPhase x.2.1 != 0xFFFFFFFF).orElse fun _ => mates.head? with
  | some x => x.2.2 % p
  | none =>
    let tune := s.tune.running.map Prod.snd
    let cost (ph : Nat) : Nat := worstCost (costItems (others ++ [(lp, o, ph)]) groups tune)
    match (List.range p).filter (phaseFits others groups lp o) with
    | [] => 0
    | first :: l => (l.foldl (fun (b : Nat × Nat) ph => let c := cost ph; if c < b.2 then (ph, c) else b) (first, cost first)).1

/-! ### LOOP_CONFIG checks (R205, R206, R212, R221, R225) -/

/-- Whether a binary32 field is finite and within a range. -/
def finiteIn (o : Bytes) (off : Nat) (ok : Rat → Bool) : Bool := match rdF32 o off with | some v => ok v | none => false

/-- Kinds of R205 for the fields of a loop. -/
def State.kindsOk (s : State) (o : Bytes) : Bool :=
  let ai (f : Nat) : Bool := (s.mode (srcChan f)).isAi
  let analogue (f : Nat) : Bool := (s.mode (srcChan f)).isAi || (s.mode (srcChan f)).isAo
  let pv := match srcKind (lcPv o) with | 1 => ai (lcPv o) | 2 | 3 | 6 => true | _ => false
  let ff := match lcFfKind o, srcKind (lcFf o) with
    | 1, 1 => ai (lcFf o) | 1, 5 => true | 2, 4 => true | 0, 0 => true | _, _ => false
  let trk := match srcKind (lcTrk o) with | 0 | 2 | 3 => true | 1 => analogue (lcTrk o) | _ => false
  let erf := match srcKind (lcErf o) with | 0 | 2 => true | 1 => analogue (lcErf o) | _ => false
  let dest := match srcKind (lcDest o) with | 0 | 2 | 3 | 7 => true | 1 => (s.mode (srcChan (lcDest o))).isAo | _ => false
  pv && ff && trk && erf && dest && [lcPv o, lcDest o, lcErf o, lcFf o, lcTrk o].all srcFormat

/-- Step 1 of R212. -/
def State.loopFormat (s : State) (o : Bytes) : Bool :=
  let nonneg (off : Nat) : Bool := finiteIn o off fun v => decide (0 ≤ v)
  let pos (off : Nat) : Bool := finiteIn o off fun v => decide (0 < v)
  rdBits o 0 6 6 == 0 && lcFfKind o != 3 && lcBadAction o != 3 && rdBits o 2 7 2 == 0 && decide (1 ≤ lcSlip o ∧ lcSlip o ≤ 16) &&
    decide (2 ≤ lcPeriod o ∧ lcPeriod o ≤ 200000) && (decide (lcPhase o < lcPeriod o) || lcPhase o == 0xFFFFFFFF) &&
    (decide (lcGroup o ≤ 7) || lcGroup o == 0xFF) && zeroAt o 33 3 && zeroAt o 100 28 &&
    ((List.range 16).all fun i => (rdF32 o (36 + 4 * i)).isSome) && nonneg 40 && nonneg 44 && nonneg 48 &&
    (lcKd o == 0 || decide (0 < lcTf o)) && finiteIn o 52 (fun v => decide (0 ≤ v) && decide (v ≤ 1)) && nonneg 56 &&
    nonneg 60 && decide (lcLo o < lcHi o) && nonneg 72 && pos 76 && decide (lcSpLo o ≤ lcSpHi o) &&
    (lcFfKind o != 1 || decide (0 < lcFfGain o)) && pos 92 &&
    (lcBadAction o != 1 || (decide (lcLo o ≤ lcBadOut o) && decide (lcBadOut o ≤ lcHi o))) &&
    (lcBadAction o != 2 || srcKind (lcDest o) == 1) && s.kindsOk o

/-- The loop that a loop of a set drives by itself. -/
def innerIn (l : List (Fin 64 × Bytes × Nat)) (k : Fin 64) : Option (Fin 64) :=
  (l.find? fun x => x.1 = k).bind fun x =>
    if srcKind (lcDest x.2.1) = 3 then some (Fin.ofNat 64 (srcArg (lcDest x.2.1))) else none

/-- One step of a chain, through an override group where the loop is a member of one (R221, R226). -/
def chainStep (l : List (Fin 64 × Bytes × Nat)) (gs : List (Fin 8 × Bytes)) (k : Fin 64) : Option (Fin 64) :=
  (l.find? fun x => x.1 = k).bind fun x =>
    let d := destThrough gs x.2.1
    if srcKind d = 3 then some (Fin.ofNat 64 (srcArg d)) else none

/-- Length of the chain of inner loops from a loop, counted up to five. -/
def chainLength (l : List (Fin 64 × Bytes × Nat)) (gs : List (Fin 8 × Bytes)) : Nat → Fin 64 → Nat
  | 0, _ => 1
  | n + 1, k => match chainStep l gs k with | some j => 1 + chainLength l gs n j | none => 1

/-- The cascade rules over a set of loops and groups (R221): periods, grids, one outer each, chains of at most four. -/
def cascadeOk (l : List (Fin 64 × Bytes × Nat)) (gs : List (Fin 8 × Bytes)) : Bool :=
  let outers (k : Fin 64) : Nat :=
    (l.filter fun x => innerIn l x.1 == some k).length
      + (gs.filter fun g => srcKind (ocDest g.2) == 3 && srcArg (ocDest g.2) == k.val).length
  let fits (po pho : Nat) (k : Fin 64) : Bool :=
    match l.find? fun x => x.1 = k with
    | some x =>
      let p := max 1 (lcPeriod x.2.1)
      po % p == 0 && decide (1 ≤ po / p ∧ po / p ≤ 64) && pho % p == x.2.2 % p
    | none => false
  (l.all fun x => (match innerIn l x.1 with | some k => k != x.1 && fits (lcPeriod x.2.1) x.2.2 k | none => true) &&
    decide (outers x.1 ≤ 1) && decide (chainLength l gs 4 x.1 ≤ 4)) &&
  gs.all fun g =>
    if srcKind (ocDest g.2) = 3 then
      match (ocMembers g.2).head?.bind fun m => l.find? fun x => x.1 = m with
      | some x => fits (lcPeriod x.2.1) x.2.2 (Fin.ofNat 64 (srcArg (ocDest g.2)))
      | none => true
    else true

/-- The group rules over a set (R225): every member is enabled, names the group, and shares period and phase; a loop is a
member of one group at most. -/
def groupsOk (l : List (Fin 64 × Bytes × Nat)) (gs : List (Fin 8 × Bytes)) : Bool :=
  (l.all fun x =>
    if srcKind (lcDest x.2.1) = 7 then lcGroup x.2.1 == srcArg (lcDest x.2.1) else lcGroup x.2.1 == 0xFF) &&
  (gs.all fun g =>
    let ms := (ocMembers g.2).filterMap fun m => l.find? fun x => x.1 = m
    ms.length == (ocMembers g.2).length && (ocMembers g.2).Nodup &&
      ms.all fun x => lcGroup x.2.1 == g.1.val && srcKind (lcDest x.2.1) == 7 &&
        (match ms.head? with | some y => lcPeriod x.2.1 == lcPeriod y.2.1 && x.2.2 == y.2.2 | none => true)) &&
  ((gs.flatMap fun g => ocMembers g.2).Nodup : Bool)

/-- The role's restriction on kinds and the owner of a CHANNEL destination (R206, R212). -/
def State.controlPolicy (s : State) (fields : List Nat) (dest : Nat) : Option Outcome :=
  firstOf
    [fails (s.isPair && fields.any fun f => srcKind f == 1 || srcKind f == 5) (.policy stPolicyRole),
     fails (s.role == some .iostation && fields.any fun f => srcKind f == 2) (.policy stPolicyRole),
     fails (srcKind dest == 1 && s.owner (srcChan dest) != .ctl) (.policy stPolicyRule)]

/-- The checks of R212, in order; the last is R490. -/
def State.loopCheck (s : State) (o : Bytes) : Option Outcome :=
  let lp : Fin 64 := Fin.ofNat 64 (lcLoop o)
  let phase := s.choosePhase lp o
  let set := s.loopSet (some (lp, o, phase))
  let gs := s.groupSet none
  let changed := match s.loops[lp].cfg with
    | some c => lcPeriod c != lcPeriod o || (lcPhase o != 0xFFFFFFFF && s.loops[lp].phase != lcPhase o) || lcPv c != lcPv o ||
        lcDest c != lcDest o || lcErf c != lcErf o || lcFf c != lcFf o || lcTrk c != lcTrk o || lcGroup c != lcGroup o ||
        lcSign c != lcSign o
    | none => false
  firstOf
    [badField (!s.loopFormat o),
     fails (!cascadeOk set gs) (.error stCascadeInvalid),
     fails (!groupsOk set gs) (.error stGroupInvalid),
     s.controlPolicy [lcPv o, lcDest o, lcErf o, lcFf o, lcTrk o] (lcDest o),
     fails s.loops[lp].pending.isSome .busy,
     fails (changed && lcEnable o) (.error stWrongState),
     fails (lcEnable o && s.loops[lp].cfg.isNone && !admitted (costItems set gs (s.tune.running.map Prod.snd))) .capacity,
     fails (s.storeOverflow (BitVec.ofNat 16 opLoopConfig) lp.val o) .capacity]

/-- A LOOP_CONFIG that passes waits for the loop's next sample; one that disables a disabled loop is in force at once
(R213). -/
def State.loopConfigWork (org : Origin) (o : Bytes) (s : State) : State :=
  let lp : Fin 64 := Fin.ofNat 64 (lcLoop o)
  if !lcEnable o && s.loops[lp].cfg.isNone then
    ((s.storeObject (BitVec.ofNat 16 opLoopConfig) lp.val (some o)).record .ctl .loopConfig [lp.val]).complete org .done
  else
    let phase := match s.loops[lp].cfg with | some _ => s.loops[lp].phase | none => s.choosePhase lp o
    s.updLoop lp fun l => { l with pending := some (org, o, phase) }

/-- LOOP_CONFIG (R211 to R213). -/
def execLoopConfig (t : Ns) (org : Origin) (obj : Bytes) (s : State) : Res :=
  let s := s.begin t
  serve org opLoopConfig [.ctl] (badField (obj.length != 128)) (s.loopCheck obj) (State.loopConfigWork org obj) s

/-! ### LOOP_COMMAND (R216) -/

/-- Format of a LOOP_COMMAND object. -/
def loopCommandFormat (o : Bytes) : Bool :=
  o.length == 32 && rdBits o 0 7 6 == 0 && rdBits o 1 7 6 == 0 && rdBits o 2 7 2 == 0 && rdBits o 3 7 3 == 0 &&
    rdBits o 3 2 1 != 3 && zeroAt o 20 12

/-- Whether a command may not be applied to its loop as it stands (R216); a loop that is not enabled has no sample to
apply it (DEDUCED, log 37). -/
def State.loopCommandBad (s : State) (o : Bytes) : Bool :=
  let lp : Fin 64 := Fin.ofNat 64 (rdBits o 0 5 0)
  match s.loops[lp].cfg with
  | none => true
  | some c =>
    (rdBits o 1 0 0 == 1 && rdBits o 2 1 0 == 2 && (s.outerLoop lp).isNone && (s.outerGroup lp).isNone) ||
      (rdBits o 1 5 5 == 1 && srcKind (lcDest c) != 1)

/-- A write is released to its loop (R28, R216). -/
def State.releaseLoop (fromPrg : Bool) (org : Option Origin) (o : Bytes) (s : State) : State :=
  let lp : Fin 64 := Fin.ofNat 64 (rdBits o 0 5 0)
  s.updLoop lp fun l => { l with
    writes := l.writes ++ [{ stamp := s.clock, fromPrg := fromPrg, obj := o, org := org }],
    lastRequested := if rdBits o 1 0 0 == 1 then LoopMode.ofCode (rdBits o 2 1 0) else l.lastRequested }

/-- The program's write to a loop, released at its output write (R28). -/
def State.programLoop (o : Bytes) (s : State) : State :=
  if loopCommandFormat o && !s.loopCommandBad o then s.releaseLoop true none o else s

/-- LOOP_COMMAND (R216). -/
def execLoopCommand (t : Ns) (org : Origin) (obj : Bytes) (s : State) : Res :=
  let s := s.begin t
  let lp : Fin 64 := Fin.ofNat 64 (rdBits obj 0 5 0)
  serve org opLoopCommand [.ctl] (badField (!loopCommandFormat obj))
    (firstOf [fails (s.loopCommandBad obj) (.error stWrongState),
      fails (s.loops[lp].writes.any fun w => w.org.isSome) .busy])
    (State.releaseLoop false (some org) obj) s

/-! ### OVERRIDE_CONFIG (R225) -/

/-- The checks of an OVERRIDE_CONFIG, in the order of R212; its count is judged with the capacities (R32; DEDUCED, log 108). -/
def State.overrideCheck (s : State) (o : Bytes) : Option Outcome :=
  let g : Fin 8 := Fin.ofNat 8 (ocGroup o)
  let set := s.loopSet none
  let gs := s.groupSet (some (g, o))
  let fields := rdBits o 0 6 3 == 0 && zeroAt o 10 2 && zeroAt o 20 12 && decide (2 ≤ ocCount o) &&
    ((List.range 8).all fun i => if i < ocCount o then decide (rd o (2 + i) 1 ≤ 63) else rd o (2 + i) 1 == 0xFF) &&
    srcFormat (ocDest o) && srcFormat (ocErf o) &&
    (match srcKind (ocDest o) with | 0 | 2 | 3 => true | 1 => (s.mode (srcChan (ocDest o))).isAo | _ => false) &&
    (match srcKind (ocErf o) with
      | 0 | 2 => true | 1 => (s.mode (srcChan (ocErf o))).isAi || (s.mode (srcChan (ocErf o))).isAo | _ => false)
  firstOf
    [badField (!fields),
     fails (decide (8 < ocCount o)) .capacity,
     fails (ocEnable o && (!groupsOk set gs || !cascadeOk set gs || (ocMembers o).any fun m => s.loops[m].cfg.isNone))
       (.error stGroupInvalid),
     s.controlPolicy [ocDest o, ocErf o] (ocDest o),
     fails (ocEnable o && !admitted (costItems set gs (s.tune.running.map Prod.snd))) .capacity,
     fails (s.storeOverflow (BitVec.ofNat 16 opOverrideConfig) g.val o) .capacity]

/-- An OVERRIDE_CONFIG comes into force: the group starts from what its destination shows, without a bump (R213, R225,
R238). -/
def State.overrideWork (org : Origin) (o : Bytes) (s : State) : State :=
  let g : Fin 8 := Fin.ofNat 8 (ocGroup o)
  let first := ((ocMembers o).head?.map fun m => s.loops[m].a).getD 0
  let lowest := (ocMembers o).foldl (fun a m => min a s.loops[m].a) first
  let s := if s.overs[g].noCandidate then s.record .ctl .noCandidate [g.val, 0] else s
  let s := s.updOver g fun v => { v with cfg := if ocEnable o then some o else none, selected := none, noCandidate := false,
                                         handingOver := false, cands := [], lastStart := none }
  let start := ((s.groupFeedback g).bind fun r => if r.2.1 == .bad then none else r.1).getD lowest
  let s := if ocEnable o then s.updOver g fun v => { v with a := start, erf := start } else s
  let s := if ocEnable o then s else
    forAll 64 (fun k s => s.updLoop k fun l => { l with notSelected := false }) s
  ((s.storeObject (BitVec.ofNat 16 opOverrideConfig) g.val (some o)).record .ctl .overrideConfig [g.val]).complete org .done

/-- OVERRIDE_CONFIG (R225). -/
def execOverrideConfig (t : Ns) (org : Origin) (obj : Bytes) (s : State) : Res :=
  let s := s.begin t
  serve org opOverrideConfig [.ctl] (badField (obj.length != 32)) (s.overrideCheck obj) (State.overrideWork org obj) s

/-! ### Tuning commands (R232 to R235, R444) -/

/-- Format of a TUNE_START object for a loop's period (R232). -/
def tuneFormat (o : Bytes) (period : Nat) : Bool :=
  let fmax : Rat := 1000000000 / (8 * 50000 * max 1 period)
  let f (off : Nat) : Bool := finiteIn o off fun v => decide (1 / 1000 ≤ v) && decide (v ≤ fmax)
  let prbs := tsSignal o == 1
  let sine := tsSignal o == 2
  rdBits o 0 7 6 == 0 && rdBits o 1 7 3 == 0 && tsSignal o != 3 &&
    (if prbs then decide (7 ≤ tsPrbsN o ∧ tsPrbsN o ≤ 15) && decide (1 ≤ tsHold o ∧ tsHold o ≤ 1000) &&
        decide (1 ≤ tsRepeats o ∧ tsRepeats o ≤ 16) && tsDuration o == 0
      else tsPrbsN o == 0 && tsHold o == 0 && tsRepeats o == 0 && decide (10 ≤ tsDuration o ∧ tsDuration o ≤ 3600000)) &&
    (!sine || (f 12 && f 16)) &&
    decide (tsCount o ≤ 8) && finiteIn o 4 (fun v => decide (0 < v)) && rd o 25 1 == 0 &&
    decide (1 ≤ tsDecimate o ∧ tsDecimate o ≤ 1000) && (rdF32 o 28).isSome && (rdF32 o 32).isSome &&
    decide (tsGuardLo o < tsGuardHi o) && zeroAt o 44 20 &&
    (List.range 8).all fun i =>
      let c := rd o (36 + i) 1
      if i < tsCount o then (decide (1 ≤ c ∧ c ≤ 11) || c / 64 == 1 || c / 64 == 2) else c == 0

/-- Samples a test captures. -/
def tuneSamples (o : Bytes) (period : Nat) : Nat :=
  let n := if tsSignal o = 1 then tsRepeats o * (2 ^ tsPrbsN o - 1) * tsHold o
    else tsDuration o * 1000000 / (50000 * max 1 period) + 1
  (n + tsDecimate o - 1) / max 1 (tsDecimate o)

/-- TUNE_START (R232, R234). -/
def execTuneStart (t : Ns) (org : Origin) (obj : Bytes) (s : State) : Res :=
  let s := s.begin t
  let lp : Fin 64 := Fin.ofNat 64 (tsLoop obj)
  let cfg := s.loops[lp].cfg
  let period := (cfg.map lcPeriod).getD 2
  let m := s.loops[lp].mode
  let modeOk := if tsOutput obj then m == .manual || m == .auto else m == .auto || m == .cascade
  let size := if tsCount obj = 0 then 0 else tuneSamples obj period * (4 + 4 * tsCount obj)
  serve org opTuneStart [.ctl] (badField (obj.length != 64))
    (firstOf [badField (!tuneFormat obj period), fails (cfg.isNone || !modeOk || (s.memberOf lp).isSome) (.error stWrongState),
      fails s.tune.running.isSome .busy,
      fails (!admitted (costItems (s.loopSet none) (s.groupSet none) (some obj)) || decide (262144 < size)) .capacity])
    (fun s =>
      (s.updTune fun _ => { running := some (org, obj), loop := lp, lfsr := 2 ^ tsPrbsN obj - 1, everRun := true }).record
        .ctl .tuneStart [lp.val, tsSignal obj]) s

/-- TUNE_STOP (R235, R425): the test that runs on the loop named aborts at its next sample; with none running on it there is
nothing to do (DESIGN CHOICE, log 106). -/
def execTuneStop (t : Ns) (org : Origin) (obj : Bytes) (s : State) : Res :=
  let s := s.begin t
  serve org opTuneStop [.ctl] (badField (decide (63 < rd obj 0 1) || !zeroAt obj 1 15)) none
    (fun s => (s.updTune fun u => { u with
      stopReq := u.stopReq || (u.running.isSome && u.loop == Fin.ofNat 64 (rd obj 0 1)) }).complete org .done) s

/-- TUNE_END (R233, R235): the test has run its duration or its last pass. -/
def execTuneEnd (t : Ns) (s : State) : Res :=
  let s := s.begin t
  match s.tune.running, s.tune.t0 with
  | some (_, o), some t0 => if s.tune.over o (s.clock - t0) then .next (s.endTune none) else .next s
  | _, _ => .next s

/-- CAPTURE_READ (R444). -/
def execCaptureRead (t : Ns) (org : Origin) (param : Bytes) (s : State) : Res :=
  let s := s.begin t
  let off := rd param 0 4
  let len := rd param 4 4
  serve org opCaptureRead [.ctl]
    (badField (off % 4 != 0 || len % 4 != 0 || decide (len < 4) || decide (262144 < len) || !zeroAt param 8 8 || param.length != 16))
    (fails (!s.tune.everRun) (.error stNoCapture))
    (fun s => s.complete org (.done ((s.tune.buffer.drop off).take len))) s

end Sys2Proof.Machine
end

