-- ==== Sys2Proof/Machine/Disp.lean ====
section
/-! DEFINITION. The front-panel segment display: regions, passes of phases, blinking, supply and journal (R503 to R515). -/

namespace Sys2Proof.Machine

def stDispSupply : BitVec 16 := 0x0A00
def stRegionUndefined : BitVec 16 := 0x0A01

/-- The frame value of a 12-byte field (R503). -/
def rdFrame (b : Bytes) (off : Nat) : BitVec 96 := BitVec.ofNat 96 (rd b off 12)

def segBit (b : Fin 96) : BitVec 96 := BitVec.twoPow 96 b.val

/-- The segments of a common (R503). -/
def comMask (c : Nat) : BitVec 96 := BitVec.ofNat 96 (0xFFFFFF * 2 ^ (24 * c))

/-- One phase time in ns (R504). -/
def DispCfg.phaseNs (c : DispCfg) : Ns := 1000000 * (c.pulseMs + c.gapMs)

/-- Queued updates: requester, region and value. -/
def Display.queue (d : Display) : List (Origin × Fin 16 × BitVec 96) :=
  (List.finRange 16).filterMap fun r => d.queued[r].map fun q => (q.1, r, q.2)

/-! ### Configuration (R506, R507) -/

/-- DISP_CONFIG (R506). -/
def execDispConfig (t : Ns) (org : Origin) (obj : Bytes) (s : State) : Res :=
  let s := s.begin t
  let pulse := rd obj 0 2
  let gap := rd obj 2 2
  let mark := rd obj 4 1
  let vmin := rd obj 6 2
  let d := s.disp
  let bit := segBit (Fin.ofNat 96 mark)
  let taken := (d.regions.toList.any fun r => match r with | some m => m &&& bit != 0 | none => false) ||
    d.blink.any fun b => b.segment.val == mark
  let bad := pulse = 0 || 1000 < pulse || 1000 < gap || 96 ≤ mark || vmin < 50 || 400 < vmin || !zeroAt obj 5 1 || !zeroAt obj 8 8
  serve org opDispConfig [.disp] (badField (obj.length != 16))
    (firstOf [badField (bad || taken), fails (d.pass.isSome || !d.queue.isEmpty) .busy])
    (fun s =>
      let cfg : DispCfg := { pulseMs := pulse, gapMs := gap, mark := Fin.ofNat 96 mark, vmin := vmin }
      (s.updDisp fun d => { d with cfg := cfg }).complete org .done) s

/-- DISP_REGION (R507). -/
def execDispRegion (t : Ns) (org : Origin) (obj : Bytes) (s : State) : Res :=
  let s := s.begin t
  let r := Fin.ofNat 16 (rd obj 0 1)
  let mask := rdFrame obj 4
  let d := s.disp
  let overlaps := (List.finRange 16).any fun i =>
    i != r && (match d.regions[i] with | some m => m &&& mask != 0 | none => false)
  let bad := 16 ≤ rd obj 0 1 || rdBits obj 1 7 1 != 0 || !zeroAt obj 2 2
  let running := match d.pass with | some p => p.updates.any fun u => u.2 == r | none => false
  serve org opDispRegion [.disp] (badField (obj.length != 16))
    (firstOf [badField (bad || mask == 0 || mask &&& segBit d.cfg.mark != 0 || overlaps),
      fails (running || d.queued[r].isSome) .busy])
    (fun s => (s.updDisp fun d =>
      { d with regions := d.regions.set r (if rdBits obj 1 0 0 = 1 then some mask else none) }).complete org .done) s

/-! ### Updates (R508) -/

/-- DISP_UPDATE (R508): a queued update of the same region completes SUPERSEDED at once. -/
def execDispUpdate (t : Ns) (org : Origin) (obj : Bytes) (s : State) : Res :=
  let s := s.begin t
  let r := Fin.ofNat 16 (rd obj 0 1)
  let value := rdFrame obj 4
  serve org opDispUpdate [.disp] (badField (obj.length != 16 || !zeroAt obj 1 3))
    (firstOf [badField (decide (16 ≤ rd obj 0 1)), fails s.disp.regions[r].isNone (.error stRegionUndefined),
      badField (match s.disp.regions[r] with | some m => value &&& ~~~m != 0 | none => false)])
    (fun s =>
      let old := s.disp.queued[r]
      let s := s.updDisp fun d => { d with queued := d.queued.set r (some (org, value)) }
      match old with
      | some (o, _) => (s.updDisp fun d => { d with superseded := satAdd 32 d.superseded 1 }).complete o .superseded
      | none => s) s

/-! ### Blinking (R511) -/

/-- Period of a blink frequency in ns. -/
def blinkPeriod (f : Fin 4) : Ns := 4000000000 / 2 ^ f.val

/-- The common of a segment. -/
def segCom (b : Fin 96) : Nat := b.val / 24

/-- The used entries of a DISP_BLINK object. -/
def blinkEntries (obj : Bytes) : List Bytes :=
  ((List.range 8).map fun k => (obj.drop (4 * k)).take 4).filter fun e => rd e 0 1 != 0xFF

/-- Field ranges of an entry. -/
def blinkEntryOk (e : Bytes) : Bool :=
  decide (rd e 0 1 < 96) && decide (rd e 1 1 ≤ 3) && decide (25 ≤ rd e 2 1 ∧ rd e 2 1 ≤ 75) && zeroAt e 3 1

/-- The blink occupancy in steps of 1/2,000: 2 f × (PULSE_MS + GAP_MS) over each distinct pair of frequency and common. -/
def blinkOccupancy (c : DispCfg) (l : List Blink) : Nat :=
  let pairs := (l.map fun b => (b.freq, segCom b.segment)).eraseDups
  pairs.foldl (fun n p => n + 2 ^ p.1.val * (c.pulseMs + c.gapMs)) 0

/-- The panel with its blink segments as their entries have them: at their frame values or the inverse. -/
def Display.shown (l : List Blink) (d : Display) : BitVec 96 :=
  l.foldl (fun p b => if (d.frame &&& segBit b.segment != 0) != b.inverse then p ||| segBit b.segment
                      else p &&& ~~~segBit b.segment) d.panel

/-- A pulse on the panel, where it selects a segment. -/
def State.pulse (p : Phase) (s : State) : State := if p.segs = 0 then s else s.emit (.displayPhase p)

/-- The panel changes from what it shows, common by common, an ON and an OFF phase each (R504). -/
def State.drivePanel (new : BitVec 96) (s : State) : State :=
  let on := new &&& ~~~s.disp.panel
  let off := s.disp.panel &&& ~~~new
  let s := (List.finRange 4).foldl (fun s c =>
    (s.pulse { on := true, com := c, segs := on &&& comMask c.val }).pulse { on := false, com := c, segs := off &&& comMask c.val }) s
  s.updDisp fun d => { d with panel := new }

/-- A blink table comes into force, its periods starting now. A segment that the old one left at the inverse goes back to its frame
value, unless DISP_SUPPLY forbids every phase (R505, R511; DESIGN CHOICE, log 123). -/
def State.setBlink (l : List Blink) (s : State) : State :=
  let back := s.disp.blink.map fun b => { b with inverse := false }
  let s := if s.disp.supply then s else s.drivePanel (s.disp.shown back)
  s.updDisp fun d => { d with blink := l.map fun b => { b with inverse := false, since := s.clock }, blinkPending := none }

/-- DISP_BLINK (R511). -/
def execDispBlink (t : Ns) (org : Origin) (obj : Bytes) (s : State) : Res :=
  let s := s.begin t
  let es := blinkEntries obj
  let segs := es.map fun e => rd e 0 1
  let l : List Blink := es.map fun e =>
    { segment := Fin.ofNat 96 (rd e 0 1), freq := Fin.ofNat 4 (rd e 1 1), duty := rd e 2 1 }
  serve org opDispBlink [.disp] (badField (obj.length != 32))
    (firstOf [badField (!es.all blinkEntryOk || segs.contains s.disp.cfg.mark.val || segs.eraseDups.length != segs.length),
      fails (decide (1000 < blinkOccupancy s.disp.cfg l)) .capacity, fails s.disp.blinkPending.isSome .busy])
    (fun s =>
      if s.disp.pass.isSome then s.updDisp fun d => { d with blinkPending := some (org, l) }
      else (s.setBlink l).complete org .done) s

/-- Time a blink entry shows its present value, less the 5 % that the display's clock may run fast (R504, R511). -/
def Blink.least (b : Blink) : Ns :=
  blinkPeriod b.freq / 100 * (if b.inverse then 100 - b.duty else b.duty) / 100 * 95

/-- BLINK_TOGGLE (R511): all entries of one frequency on one common toggle together; one that falls due during a pass is
dropped. -/
def execBlinkToggle (t : Ns) (freq : Fin 4) (com : Fin 4) (s : State) : Res :=
  let s := s.begin t
  let mine (b : Blink) : Bool := b.freq == freq && segCom b.segment == com.val
  if !s.up .disp || s.mod.failAt.isSome || !s.disp.blink.any mine then .next s
  else if !(s.disp.blink.filter mine).all fun b => decide (b.since + b.least ≤ s.clock) then .next s
  else if s.disp.pass.isSome then .next (s.updDisp fun d => { d with dropped := satAdd 32 d.dropped 1 })
  else if s.disp.supply then .next s
  else
    let clock := s.clock
    let l := s.disp.blink.map fun b => if mine b then { b with inverse := !b.inverse, since := clock } else b
    .next ((s.drivePanel (s.disp.shown (l.filter mine))).updDisp fun d => { d with blink := l })

/-! ### The journal (R512) -/

/-- The newest valid slot. -/
def Display.newest (d : Display) : Option (Fin 2) :=
  let a := d.journal[(0 : Fin 2)]
  let b := d.journal[(1 : Fin 2)]
  if a.valid && b.valid then some (if (b.seq - a.seq).toNat < 2 ^ 31 then 1 else 0)
  else if a.valid then some 0 else if b.valid then some 1 else none

/-- The frame of the newest valid slot, or all off (R514). -/
def Display.journalFrame (d : Display) : BitVec 96 :=
  match d.newest with | some k => d.journal[k].frame | none => 0

/-- The 64 bytes of a slot in MRAM (R512). -/
def DispSlot.bytes (x : DispSlot) : Bytes :=
  let body := (if x.valid then wr 4 0x4453504A else List.replicate 4 0) ++ wr 4 x.seq.toNat ++ wr 1 (if x.complete then 2 else 1) ++
    List.replicate 7 0 ++ wr 12 x.frame.toNat ++ List.replicate 32 0
  body ++ wr 4 (crc32c body).toNat

/-- Step 1 of R509: the slot that does not hold the newest valid SEQ, one higher, IN_PROGRESS; the first SEQ of an empty
journal is 0 (DESIGN CHOICE, log 124). -/
def Display.open_ (f : BitVec 96) (d : Display) : Display :=
  let k : Fin 2 := match d.newest with | some k => 1 - k | none => 0
  let seq : BitVec 32 := match d.newest with | some k => d.journal[k].seq + 1 | none => 0
  { d with journal := d.journal.set k { valid := true, seq := seq, complete := false, frame := f } }

/-- Step 5: the same slot becomes COMPLETE. -/
def Display.close (d : Display) : Display :=
  match d.newest with
  | some k => { d with journal := d.journal.set k { d.journal[k] with complete := true } }
  | none => d

/-! ### Passes (R504, R505, R509, R510, R514) -/

/-- The phases of a pass that sets `on` segments on and `off` segments off, the mark's apart. -/
def passPhases (mark : Fin 96) (on off : BitVec 96) : List Phase :=
  let com : Fin 4 := Fin.ofNat 4 (segCom mark)
  let steps := (List.finRange 4).flatMap fun c =>
    [({ on := true, com := c, segs := on &&& comMask c.val } : Phase), { on := false, com := c, segs := off &&& comMask c.val }]
  [{ on := true, com := com, segs := segBit mark }] ++ steps.filter (fun p => p.segs != 0) ++
    [{ on := false, com := com, segs := segBit mark }]

/-- The pass of a re-drive: an ON and an OFF phase on all four commons, whatever they change (R514). -/
def redrivePhases (mark : Fin 96) (f : BitVec 96) : List Phase :=
  let com : Fin 4 := Fin.ofNat 4 (segCom mark)
  let off := ~~~f &&& ~~~segBit mark
  [{ on := true, com := com, segs := segBit mark }] ++
    (List.finRange 4).flatMap (fun c =>
      [({ on := true, com := c, segs := f &&& comMask c.val } : Phase), { on := false, com := c, segs := off &&& comMask c.val }]) ++
    [{ on := false, com := com, segs := segBit mark }]

/-- The frame with every queued update: it starts from the frame of the newest pass, whether or not that pass came to its end, and
the mark is no part of it (R506, R509, R510; DESIGN CHOICE, log 125). -/
def Display.target (d : Display) : BitVec 96 :=
  d.queue.foldl (fun f q =>
    match d.regions[q.2.1] with | some m => (f &&& ~~~m) ||| (q.2.2 &&& m) | none => f) d.journalFrame &&& ~~~segBit d.cfg.mark

/-- A pass begins with its first phase (R509). -/
def State.beginPass (p : Pass) (s : State) : State :=
  let s := s.updDisp fun d => { d with pass := some p }
  match p.phases with | ph :: _ => s.emit (.displayPhase ph) | [] => s

/-- DISP_SUPPLY sets or clears, with its record (R505, R515). -/
def State.setDispSupply (v : Bool) (s : State) : State :=
  if s.disp.supply = v then s
  else (s.updDisp fun d => { d with supply := v, goodChecks := 0 }).record .disp .dispSupply [if v then 1 else 0]

/-- The pass takes every queued update; with DISP_SUPPLY it runs no phase and they complete ERROR (R509, R510). -/
def State.startUpdates (s : State) : State :=
  let d := s.disp
  let q := d.queue
  let f := d.target
  let on := f &&& ~~~d.panel
  let off := d.panel &&& ~~~f &&& ~~~segBit d.cfg.mark
  let s := s.updDisp fun d => (d.open_ f)
  let s := s.updDisp fun d => { d with queued := Vector.replicate 16 none }
  if s.disp.supply then s.completeAll (q.map Prod.fst) (.error stDispSupply)
  else
    let now := s.now
    let p : Pass := { phases := passPhases d.cfg.mark on off, frame := f, updates := q.map fun x => (x.1, x.2.1), start := now,
                      phaseStart := s.clock }
    s.beginPass p

/-- The re-drive of the journal frame starts, with its record (R514, R515). -/
def State.startRedrive (cause : Fin 3) (s : State) : State :=
  let d := s.disp
  let f := d.journalFrame &&& ~~~segBit d.cfg.mark
  let found : Int := match d.newest with | some k => if d.journal[k].complete then 2 else 1 | none => 0
  let s := s.record .disp .redrive [cause.val, found]
  let p : Pass := { phases := redrivePhases d.cfg.mark f, frame := f, start := s.now, phaseStart := s.clock, redrive := true }
  (s.updDisp fun d => { (d.open_ f) with redriveDue := none, redrives := satAdd 32 d.redrives 1 }).beginPass p

/-- DISPLAY_PASS_START (R505, R509, R510, R514): a due re-drive first, else every queued update. `volts` is VDISP_H less VDISP_L
in 0.1 V. -/
def execDisplayPassStart (t : Ns) (volts : Nat) (s : State) : Res :=
  let s := s.begin t
  let d := s.disp
  if !s.up .disp || s.mod.failAt.isSome || d.pass.isSome || (d.redriveDue.isNone && d.queue.isEmpty) then .next s
  else
    let s := s.updDisp fun d => { d with volts := volts }
    let s := if volts < d.cfg.vmin then s.setDispSupply true else s
    match d.redriveDue with
    | some c =>
      if !s.disp.supply then .next (s.startRedrive c)
      else .next (if d.queue.isEmpty then s else s.startUpdates)
    | none => .next s.startUpdates

/-- The segments of a phase change on the panel. -/
def Phase.apply (p : Phase) (panel : BitVec 96) : BitVec 96 := if p.on then panel ||| p.segs else panel &&& ~~~p.segs

/-- The end of a pass: journal COMPLETE, the frame in force, blink segments at their frame values with fresh periods, the
updates and a waiting blink table done (R509, R511). -/
def State.endPass (p : Pass) (s : State) : State :=
  let clock := s.clock
  let s := s.updDisp fun d =>
    { d.close with pass := none, frame := p.frame, passes := satAdd 32 d.passes 1,
                   blink := d.blink.map fun b => { b with inverse := false, since := clock } }
  let s := s.completeAll (p.updates.map Prod.fst) .done
  match s.disp.blinkPending with
  | some (org, l) => (s.setBlink l).complete org .done
  | none => s

/-- A pass is broken off by the supply (R510). -/
def State.breakPass (p : Pass) (s : State) : State :=
  let s := (s.updDisp fun d => { d with pass := none }).setDispSupply true
  let s := s.completeAll (p.updates.map Prod.fst) (.error stDispSupply)
  match s.disp.blinkPending with
  | some (org, l) => (s.setBlink l).complete org .done
  | none => s

/-- DISPLAY_PHASE_END (R504, R505, R509, R510): the supply is measured before the phase that follows. -/
def execDisplayPhaseEnd (t : Ns) (volts : Nat) (s : State) : Res :=
  let s := s.begin t
  match s.disp.pass with
  | none => .next s
  | some p =>
    match p.phases[p.index]? with
    | none => .next s
    | some ph =>
      if !s.up .disp || s.mod.failAt.isSome || 100 * (s.clock - p.phaseStart) < 95 * s.disp.cfg.phaseNs then .next s
      else
        let clock := s.clock
        let p' := { p with index := p.index + 1, phaseStart := clock }
        let s := s.updDisp fun d =>
          { d with panel := ph.apply d.panel, phaseCount := satAdd 32 d.phaseCount 1, pass := some p' }
        if p.phases.length ≤ p'.index then .next (s.endPass p')
        else
          let s := s.updDisp fun d => { d with volts := volts }
          .next (if volts < s.disp.cfg.vmin then s.breakPass p'
            else match p.phases[p'.index]? with | some q => s.emit (.displayPhase q) | none => s)

/-- DISP_SUPPLY_CHECK (R505): with two good checks in a row DISP_SUPPLY clears and the journal frame is driven again. -/
def execDispSupplyCheck (t : Ns) (volts : Nat) (s : State) : Res :=
  let s := s.begin t
  if !s.up .disp || !s.disp.supply then .next s
  else
    let s := s.updDisp fun d =>
      { d with volts := volts, goodChecks := if volts < d.cfg.vmin then 0 else d.goodChecks + 1 }
    if s.disp.goodChecks < 2 then .next s
    else .next ((s.setDispSupply false).updDisp fun d => { d with redriveDue := some 1 })

/-- The display after a reset of DISP: regions, queue, blink table and counts are gone; panel and journal stay, and the frame of
the journal is driven again (R511, R514, R520). -/
def Display.restart (cause : Fin 3) (d : Display) : Display :=
  { panel := d.panel, journal := d.journal, frame := d.journalFrame, redriveDue := some cause }

end Sys2Proof.Machine
end

