-- ==== Sys2Proof/Machine/Planner.lean ====
section
/-! DEFINITION. Plans of motion: pieces of constant jerk, velocity changes, point-to-point plans and segment-table pieces
(R239, R241, R248 to R258). -/

namespace Sys2Proof.Machine

/-- Rounds to the nearest Q32.32 value, ties away from zero (R239). -/
def qRound (r : Rat) : Rat := (roundAway (r * 2 ^ 32) : Rat) / 2 ^ 32

/-- Position, velocity, acceleration. -/
abbrev Kin := Rat × Rat × Rat

/-- The state of a piece `x` s after its start. -/
def Piece.at (c : Piece) (x : Rat) : Kin :=
  (c.p + c.v * x + c.a * x * x / 2 + c.j * x * x * x / 6, c.v + c.a * x + c.j * x * x / 2, c.a + c.j * x)

/-- Length of a run of pieces, s. -/
def piecesDur (l : List Piece) : Rat := l.foldl (fun d c => d + c.dur) 0

/-- Clock time of a plan's end, ns. -/
def Plan.endAt (p : Plan) : Rat := p.start + 1000000000 * piecesDur p.pieces

/-- The piece in force `x` s after the start of a list, with the time into it. -/
def pieceAt : List Piece → Rat → Option (Piece × Rat)
  | [], _ => none
  | c :: l, x => if x < c.dur then some (c, x) else pieceAt l (x - c.dur)

/-- The plan's state at a clock time: position, velocity, acceleration; after its end it rests at its final position. -/
def Plan.at (p : Plan) (c : Rat) : Kin :=
  match pieceAt p.pieces (max 0 ((c - p.start) / 1000000000)) with
  | some (k, x) => k.at x
  | none => (p.final, 0, 0)

/-- The state a plan's last piece ends with. -/
def Plan.endKin (p : Plan) : Kin :=
  match p.pieces.getLast? with
  | some c => c.at c.dur
  | none => (p.final, 0, 0)

/-- The jerk at a clock time. -/
def Plan.jerkAt (p : Plan) (c : Rat) : Rat :=
  match pieceAt p.pieces (max 0 ((c - p.start) / 1000000000)) with
  | some (k, _) => k.j
  | none => 0

/-- Whether a clock time lies inside a deceleration phase (R249). -/
def Plan.decelAt (p : Plan) (c : Rat) : Bool :=
  match pieceAt p.pieces (max 0 ((c - p.start) / 1000000000)) with
  | some (k, _) => k.decel
  | none => false

/-- The part of a list of pieces between `a` and `b` s after its start. -/
def cutPieces : List Piece → Rat → Rat → List Piece
  | [], _, _ => []
  | c :: l, a, b =>
    let rest := cutPieces l (a - c.dur) (b - c.dur)
    let lo := max 0 a
    let hi := min c.dur b
    if lo < hi then
      let k := c.at lo
      { p := trim64 k.1, v := trim64 k.2.1, a := trim64 k.2.2, j := c.j, dur := hi - lo, decel := c.decel } :: rest
    else rest

/-- The plan in force up to a clock time `e`, kept from `a` on, then new pieces ending at a final position (R241). -/
def Plan.splice (p : Plan) (a e : Rat) (new : List Piece) (final : Rat) : Plan :=
  let from' := max p.start (min a e)
  let kept := cutPieces p.pieces ((from' - p.start) / 1000000000) ((e - p.start) / 1000000000)
  let held := max p.endAt from'
  let pad : List Piece :=
    if held < e then [{ p := p.final, v := 0, a := 0, j := 0, dur := (e - held) / 1000000000 }] else []
  { start := from', pieces := kept ++ pad ++ new, final := final }

/-- Pieces from a state through a list of jerks and durations; the state after them. -/
def runJerks (decel : Bool) : Kin → List (Rat × Rat) → List Piece × Kin
  | k, [] => ([], k)
  | k, (j, dur) :: l =>
    let dur := trim64 dur
    if dur ≤ 0 then runJerks decel k l
    else
      let c : Piece := { p := k.1, v := k.2.1, a := k.2.2, j := j, dur := dur, decel := decel }
      let e := c.at dur
      let r := runJerks decel (trim64 e.1, trim64 e.2.1, trim64 e.2.2) l
      (c :: r.1, r.2)

/-- The fastest change of velocity to `vf` with no acceleration left: jerks and durations, with the limit that holds for a
rise and the one for a fall (R248). -/
def vchange (jmax up down v a vf : Rat) : List (Rat × Rat) :=
  let d : Rat := if v + a * absR a / (2 * jmax) ≤ vf then 1 else -1
  let lim := if d = 1 then up else down
  let a0 := d * a
  let dv := d * (vf - v)
  if lim < a0 then
    let dv1 := (a0 * a0 - lim * lim) / (2 * jmax)
    [(-d * jmax, (a0 - lim) / jmax), (0, (dv - dv1 - lim * lim / (2 * jmax)) / lim), (-d * jmax, lim / jmax)]
  else
    let peak2 := jmax * dv + a0 * a0 / 2
    if peak2 ≤ lim * lim then
      let pk := sqrtR peak2
      [(d * jmax, (pk - a0) / jmax), (-d * jmax, pk / jmax)]
    else
      [(d * jmax, (lim - a0) / jmax), (0, (dv - (2 * lim * lim - a0 * a0) / (2 * jmax)) / lim), (-d * jmax, lim / jmax)]

/-- Sign of the direction of motion: that of v, or of a where v is 0 (R252). -/
def motionSign (v a : Rat) : Rat := if 0 < v then 1 else if v < 0 then -1 else if 0 < a then 1 else if a < 0 then -1 else 0

/-- Mirrors jerks for motion in the negative direction. -/
def mirror (s : Rat) (l : List (Rat × Rat)) : List (Rat × Rat) := l.map fun x => (s * x.1, x.2)

/-- Pieces of a velocity change in direction `s`, |v| rising under A_LIM and falling under D_LIM. -/
def speedTo (s : Rat) (lim : Limits) (k : Kin) (vf : Rat) : List Piece × Kin :=
  let down := decide (vf < s * k.2.1 + (s * k.2.2) * absR k.2.2 / (2 * lim.j))
  let r := runJerks down k (mirror s (vchange lim.j lim.a lim.d (s * k.2.1) (s * k.2.2) vf))
  (r.1, (r.2.1, s * vf, 0))

/-- A stop from a state: its pieces, all one deceleration phase, and the stopping point p_s (R249, R252). -/
def stopPieces (lim : Limits) (k : Kin) : List Piece × Rat :=
  let s := motionSign k.2.1 k.2.2
  if s = 0 then ([], k.1)
  else
    let r := speedTo s lim k 0
    (r.1.map fun c => { c with decel := true }, r.2.1)

/-- Distance covered in direction `s` by a change to a peak velocity and a stop from it. -/
def peakDistance (s : Rat) (lim : Limits) (k : Kin) (vp : Rat) : Rat :=
  let up := speedTo s lim k vp
  s * ((speedTo s lim up.2 0).2.1 - k.1)

/-- The earliest direct plan to a target ahead of the stopping point (R248). -/
def directPieces (s : Rat) (lim : Limits) (k : Kin) (target : Rat) : List Piece :=
  let dist := s * (target - k.1)
  let full := peakDistance s lim k lim.v
  if full ≤ dist then
    let up := speedTo s lim k lim.v
    let cruise : List Piece :=
      if full < dist then [{ p := up.2.1, v := s * lim.v, a := 0, j := 0, dur := trim64 ((dist - full) / lim.v) }] else []
    let k2 : Kin := (up.2.1 + s * (dist - full), s * lim.v, 0)
    up.1 ++ cruise ++ ((speedTo s lim k2 0).1.map fun c => { c with decel := true })
  else if dist ≤ peakDistance s lim k 0 then (stopPieces lim k).1
  else
    let vp := ((List.range 64).foldl (fun (b : Rat × Rat) _ =>
      let m := (b.1 + b.2) / 2
      if peakDistance s lim k m ≤ dist then (m, b.2) else (b.1, m)) ((0 : Rat), lim.v)).1
    let up := speedTo s lim k vp
    up.1 ++ ((speedTo s lim up.2 0).1.map fun c => { c with decel := true })

/-- A plan to a target: direct, or through a stop and a reversal; the reversing part's length in s, 0 for none (R252). -/
def targetPieces (lim : Limits) (k : Kin) (target : Rat) : List Piece × Rat × Rat :=
  let s := motionSign k.2.1 k.2.2
  let stop := stopPieces lim k
  if s = 0 then
    (if target = k.1 then [] else directPieces (if k.1 < target then 1 else -1) lim k target, 0, k.1)
  else if 0 ≤ s * (target - stop.2) then (directPieces s lim k target, 0, stop.2)
  else
    let back := if target = stop.2 then [] else directPieces (-s) lim (stop.2, 0, 0) target
    (stop.1 ++ back, piecesDur stop.1, stop.2)

/-- A quick stop: QUICK_DECEL with QUICK_JERK, or with a step of acceleration where QUICK_JERK is 0 (R251); where it ends. -/
def quickPieces (qd qj : Rat) (k : Kin) : List Piece × Rat :=
  let s := motionSign k.2.1 k.2.2
  if s = 0 then ([], k.1)
  else if qj = 0 then
    let t := trim64 (absR k.2.1 / qd)
    if t ≤ 0 then ([], k.1)
    else
      let c : Piece := { p := k.1, v := k.2.1, a := -s * qd, j := 0, dur := t, decel := true }
      ([c], trim64 (c.at t).1)
  else stopPieces { v := absR k.2.1, a := qd, d := qd, j := qj } k

/-! ### Segment tables (R254 to R258) -/

def tlIndex (o : Bytes) : Nat := rd o 0 1
def tlLoop (o : Bytes) : Bool := rdBits o 1 7 7 == 1
def tlRelative (o : Bytes) : Bool := rdBits o 1 6 6 == 1
def tlAxis (o : Bytes) : Nat := rdBits o 1 3 0
def tlCount (o : Bytes) : Nat := rd o 4 4
def tlLoopTo (o : Bytes) : Nat := rd o 8 4
def tlPasses (o : Bytes) : Nat := rd o 12 4
/-- Knot `k` of a table (R254). -/
def knot (o : Bytes) (k : Nat) : Knot := { time := rd o (32 + 24 * k) 4, pos := rdQ o (40 + 24 * k), vel := rdQ o (48 + 24 * k) }

/-- The piece between knot `k` and the next: a cubic, so its jerk is constant (R255). -/
def knotPiece (o : Bytes) (period : Nat) (shift : Rat) (k : Nat) : Piece :=
  let x := knot o k
  let y := knot o (k + 1)
  let h : Rat := (y.time : Rat) * period * 50000 / 1000000000
  let a0 := (6 * (y.pos - x.pos) / h - 4 * x.vel - 2 * y.vel) / h
  let a1 := (-6 * (y.pos - x.pos) / h + 2 * x.vel + 4 * y.vel) / h
  { p := x.pos + shift, v := x.vel, a := a0, j := (a1 - a0) / h, dur := h }

/-- The pieces of a pass from a knot. -/
def passPieces (o : Bytes) (period : Nat) (shift : Rat) (k : Nat) : List Piece :=
  (List.range (tlCount o - 1 - k)).map fun i => knotPiece o period shift (k + i)

/-- The first value of a piece that exceeds limits: |v| at both ends and at an extremum, |a| at both ends and at a zero of
velocity, against A where |v| rises and D where it falls (R256). -/
def pieceExceeds (vmax amax dmax : Rat) (c : Piece) : Option Rat :=
  let e := c.at c.dur
  let tx := if c.j = 0 then -1 else -c.a / c.j
  let ext := if 0 < tx && tx < c.dur then (c.at tx).2.1 else c.v
  let fast := [c.v, e.2.1, ext].find? fun v => decide (vmax < absR v)
  let lim (v a : Rat) (atEnd : Bool) : Rat :=
    if v = 0 then (if atEnd then dmax else amax) else if 0 < v * a then amax else dmax
  let hard := [(c.v, c.a, false), (e.2.1, e.2.2, true)].find? fun x => decide (lim x.1 x.2.1 x.2.2 < absR x.2.1)
  let a2 := c.a * c.a - 2 * c.j * c.v
  let crosses := decide (c.v * e.2.1 < 0) || (decide (0 < tx) && decide (tx < c.dur) && decide (c.v * ext < 0))
  let m := min amax dmax
  match fast, hard with
  | some v, _ => some v
  | none, some x => some x.2.1
  | none, none => if crosses && decide (m * m < a2) then some (sqrtR a2) else none

/-- The first failing piece of a table and the value found (R256). -/
def tableExceeds (o : Bytes) (period : Nat) (vmax amax dmax : Rat) : Option (Nat × Rat) :=
  let n := tlCount o
  let first := knot o 0
  let last := knot o (n - 1)
  let back := knot o (tlLoopTo o)
  if first.vel != 0 then some (0, first.vel)
  else if !tlLoop o && last.vel != 0 then some (n - 2, last.vel)
  else if tlLoop o && last.vel != back.vel then some (n - 2, last.vel)
  else if tlLoop o && !tlRelative o && last.pos != back.pos then some (n - 2, last.pos)
  else (List.range (n - 1)).findSome? fun k => (pieceExceeds vmax amax dmax (knotPiece o period 0 k)).map fun v => (k, v)

/-- Times at which a piece's velocity is zero, in order. -/
def pieceTurns (c : Piece) : List Rat :=
  let disc := c.a * c.a - 2 * c.j * c.v
  let roots : List Rat :=
    if c.j = 0 then (if c.a = 0 then [] else [-c.v / c.a])
    else if disc < 0 then []
    else
      let x := (-c.a + sqrtR disc) / c.j
      let y := (-c.a - sqrtR disc) / c.j
      if x ≤ y then [x, y] else [y, x]
  roots.filter fun x => decide (0 < x) && decide (x < c.dur)

/-- Positions a piece reaches at its ends and at a zero of velocity. -/
def pieceExtremes (c : Piece) : List Rat := [c.p, (c.at c.dur).1] ++ (pieceTurns c).map fun x => (c.at x).1

/-- Positions at which a run of pieces turns or ends, in order, from `x` s after its start. -/
def pieceVisits : List Piece → Rat → List Rat
  | [], _ => []
  | c :: l, x =>
    if c.dur ≤ x then pieceVisits l (x - c.dur)
    else ((pieceTurns c).filter fun y => decide (x < y)).map (fun y => (c.at y).1) ++ [(c.at c.dur).1] ++ pieceVisits l 0

/-- Which of two positions a plan reaches first after a clock time: 1 the upper, -1 the lower, 0 none (R261). -/
def Plan.heading (p : Plan) (c lo hi : Rat) : Int :=
  match (pieceVisits p.pieces (max 0 ((c - p.start) / 1000000000))).find? fun q => decide (hi ≤ q) || decide (q ≤ lo) with
  | some q => if hi ≤ q then 1 else -1
  | none => 0

/-- Whether pieces stay within soft limits (R253, R257). -/
def piecesWithin (lo hi : Rat) (l : List Piece) : Bool :=
  l.all fun c => (pieceExtremes c).all fun p => decide (lo ≤ p) && decide (p ≤ hi)

end Sys2Proof.Machine
end

