-- ==== Sys2Proof/Machine/Motion.lean ====
section
/-! DEFINITION. Axes: configuration, commands, samples, step and servo outputs (R239 to R275). -/

namespace Sys2Proof.Machine

/-! ### Fields of AXIS_CONFIG and AXIS_COMMAND (R242, R245) -/

def acAxis (o : Bytes) : Fin 16 := Fin.ofNat 16 (rdBits o 0 3 0)
def acEnable (o : Bytes) : Bool := rdBits o 0 7 7 == 1
def acSoft (o : Bytes) : Bool := rdBits o 0 5 5 == 1
def acDirInvert (o : Bytes) : Bool := rdBits o 0 4 4 == 1
def acRes (o : Bytes) : Nat := rdBits o 1 7 6
def acSlip (o : Bytes) : Nat := rd o 2 1
def acMsMap (o : Bytes) : Nat := rd o 3 1
def acPeriod (o : Bytes) : Nat := rd o 4 4
def acPhase (o : Bytes) : Nat := rd o 8 4
def acWidth (o : Bytes) : Nat := rd o 16 2
def acDirSetup (o : Bytes) : Nat := rd o 18 2
def acMsSetup (o : Bytes) : Nat := rd o 20 2
def acFUp (o : Bytes) : Nat := rd o 24 4
def acFDown (o : Bytes) : Nat := rd o 28 4
def acSp (o : Bytes) : Nat := rd o 32 4
def acFb (o : Bytes) : Nat := rd o 36 4
def acV (o : Bytes) : Rat := rdQ o 40
def acA (o : Bytes) : Rat := rdQ o 48
def acD (o : Bytes) : Rat := rdQ o 56
def acJ (o : Bytes) : Rat := rdQ o 64
def acQd (o : Bytes) : Rat := rdQ o 72
def acQj (o : Bytes) : Rat := rdQ o 80
def acLo (o : Bytes) : Rat := rdQ o 88
def acHi (o : Bytes) : Rat := rdQ o 96
def acFe (o : Bytes) : Rat := rdQ o 104
def acStill (o : Bytes) : Rat := rdQ o 112
/-- Whether MS channels are used. -/
def acMs (o : Bytes) : Bool := axMs0Ch o != 0xFF

def cmAxis (o : Bytes) : Fin 16 := Fin.ofNat 16 (rdBits o 0 3 0)
def cmCommand (o : Bytes) : Nat := rd o 1 1
def cmNotify (o : Bytes) : Bool := rdBits o 2 4 4 == 1
def cmValid (o : Bytes) (i : Nat) : Bool := rdBits o 2 i i == 1
def cmTable (o : Bytes) : Fin 256 := Fin.ofNat 256 (rd o 3 1)
def cmSeq (o : Bytes) : BitVec 16 := BitVec.ofNat 16 (rd o 4 2)
def cmTarget (o : Bytes) : Rat := rdQ o 8

/-- Units per step of a rung (R260). -/
def rungUnits (r : Fin 4) : Int := 4 ^ r.val

/-- The limits an AXIS_CONFIG gives (R244). -/
def acLimits (o : Bytes) : Limits := { v := acV o, a := acA o, d := acD o, j := acJ o }

/-! ### Instants (R240, R241, R265) -/

/-- Clock time of the effect instant of a sample that ends at `done` (R241): for a step axis the start of the first tick
whose edges are not yet in a lane frame; for a servo axis APPLY_AT, one bus cycle after the start of the bus cycle that
carries the record (R265). -/
def State.effectAt (s : State) (o : Bytes) (done : Ns) : Rat :=
  if axServo o then
    let tb : Int := 1000 * s.ring.cfg.tBus
    let r : Int := done + s.time.ringOff + 20000
    let k := (r + tb - 1) / tb
    ((k + 1) * tb - s.time.ringOff : Int)
  else
    let i := s.gridTick done
    let i := if s.tickClock i + 46000 < done then i + 1 else i
    (s.tickClock (i + 2) : Rat)

/-! ### Ends of motions (R247) -/

/-- AXIS_NOTIFY: one event for the motion that was to notify, with the stamp of its end (R247, R440). -/
def State.notifyAxisAt (stamp : Int) (ax : Fin 16) (c : NotifyCause) (s : State) : State :=
  match s.axes[ax].notify with
  | none => s
  | some seq =>
    let code := match c with
      | .arrived => 0 | .stopped => 1 | .replaced => 2 | .sto => 3 | .softLimit => 4 | .fault => 5
    (s.updAxis ax fun a => { a with notify := none }).postEventAt stamp 0x0001 ax.val ([BitVec.ofNat 8 code, 0] ++ wr 2 seq.toNat)

/-- The same for a motion that ends now. -/
def State.notifyAxis (ax : Fin 16) (c : NotifyCause) (s : State) : State := s.notifyAxisAt s.now ax c

/-- A new plan from the effect instant on (R241). -/
def State.setPlan (ax : Fin 16) (e : Rat) (new : List Piece) (final : Rat) (s : State) : State :=
  s.updAxis ax fun a => { a with plan := a.plan.splice ((s.clock : Rat) - 10000000) e new final, run := none }

/-- A quick stop on the commanded plan from the effect instant (R251); the position where it ends. -/
def State.quickStop (ax : Fin 16) (e : Rat) (s : State) : State × Rat :=
  let a := s.axes[ax]
  let o := a.cfg.getD []
  let q := quickPieces (acQd o) (acQj o) (a.plan.at e)
  (s.setPlan ax e q.1 (qRound q.2), qRound q.2)

/-- An axis enters FAULT with a quick stop on its plan (R264, R267, R268). -/
def State.axisFault (ax : Fin 16) (e : Rat) (cause : Nat) (s : State) : State :=
  if s.axes[ax].state = .fault || s.axes[ax].state = .disabled then s else
  let s := (s.quickStop ax e).1
  let s := (s.updAxis ax fun a => { a with state := .fault, reversing := false }).notifyAxis ax .fault
  s.record .mot .axisFault [ax.val, 1, cause]

/-- POS_UNVERIFIED sets, with a record (R275). -/
def State.unverify (ax : Fin 16) (s : State) : State :=
  if s.axes[ax].posUnverified then s
  else (s.updAxis ax fun a => { a with posUnverified := true }).record .mot .posUnverified [ax.val]

/-! ### Limits (R250) -/

/-- Limits with the pending ones put over them. -/
def PendLimits.apply (p : PendLimits) (l : Limits) : Limits :=
  { v := p.v.getD l.v, a := p.a.getD l.a, d := p.d.getD l.d, j := p.j.getD l.j }

/-- Later limits put over pending ones, field by field. -/
def PendLimits.onto (new old : PendLimits) : PendLimits :=
  { v := new.v.orElse fun _ => old.v, a := new.a.orElse fun _ => old.a, d := new.d.orElse fun _ => old.d,
    j := new.j.orElse fun _ => old.j }

/-- The limit fields of a command (R245). -/
def cmLimits (o : Bytes) : PendLimits :=
  { v := if cmValid o 0 then some (rdQ o 16) else none, a := if cmValid o 1 then some (rdQ o 24) else none,
    d := if cmValid o 2 then some (rdQ o 32) else none, j := if cmValid o 3 then some (rdQ o 40) else none }

/-- Whether a command carries limit fields. -/
def cmHasLimits (o : Bytes) : Bool := rdBits o 2 3 0 != 0

/-- Whether an axis's limits wait: inside a deceleration phase, in a table, or from a quick stop to STANDSTILL (R250, R251, R258). -/
def Axis.limitsHeld (a : Axis) (e : Rat) : Bool :=
  a.run.isSome || a.state == .quickStop || a.state == .fault || (a.state != .standstill && a.plan.decelAt e)

/-- Plans a motion to a target from the effect instant (R248, R252); the reversal is counted and recorded (R275). -/
def State.planTo (ax : Fin 16) (e : Rat) (target : Rat) (s : State) : State :=
  let a := s.axes[ax]
  let (pieces, rev, ps) := targetPieces a.limits (a.plan.at e) target
  let s := s.setPlan ax e pieces target
  let reverses := decide (0 < rev)
  let s := s.updAxis ax fun a => { a with
    target := target, ps := qRound ps, state := .moving, reversing := reverses, reverseEnd := e + 1000000000 * rev,
    reversals := if reverses then satAdd 32 a.reversals 1 else a.reversals }
  if reverses then s.record .mot .axisReversal [ax.val, roundAway (ps * 2 ^ 32)] else s

/-- Plans a stop with the limits in force (R251). -/
def State.planStop (ax : Fin 16) (e : Rat) (s : State) : State :=
  let a := s.axes[ax]
  let r := stopPieces a.limits (a.plan.at e)
  (s.setPlan ax e r.1 (qRound r.2)).updAxis ax fun a => { a with
    state := .stopping, ps := qRound r.2, reversing := false, target := qRound r.2 }

/-- A moving axis replans with the limits in force (R250). -/
def State.replan (ax : Fin 16) (e : Rat) (s : State) : State :=
  match s.axes[ax].state with
  | .moving => s.planTo ax e s.axes[ax].target
  | .stopping => s.planStop ax e
  | _ => s

/-- Limits come into force; a moving axis replans with them (R250). -/
def State.takeLimits (ax : Fin 16) (e : Rat) (p : PendLimits) (s : State) : State :=
  (s.updAxis ax fun a => { a with limits := p.apply a.limits, pend := {}, limitPending := false }).replan ax e

/-- The limit fields of a command, applied or held pending (R245, R250). -/
def Axis.commandLimits (a : Axis) (e : Rat) (o : Bytes) : Axis :=
  if !cmHasLimits o then a
  else if a.limitsHeld e then { a with pend := (cmLimits o).onto a.pend, limitPending := true }
  else { a with limits := (cmLimits o).apply a.limits, pend := {}, limitPending := false }

/-! ### Taking a command (R246, R247, R251 to R253, R257) -/

/-- Whether the fields of a command are in range (R245, R246). -/
def axisCommandOk (c : Bytes) (o : Bytes) : Bool :=
  let k := cmCommand o
  let lim (i off : Nat) (m : Rat) : Bool := !cmValid o i || (decide (0 < rdQ o off) && decide (rdQ o off ≤ m))
  decide (1 ≤ k ∧ k ≤ 8) && rdBits o 0 7 4 == 0 && rdBits o 2 7 5 == 0 && (k == 3 || rd o 3 1 == 0) && rd o 6 2 == 0 &&
    (k == 1 || k == 2 || k == 6 || rd o 8 8 == 0) && lim 0 16 (acV c) && lim 1 24 (acA c) && lim 2 32 (acD c) && lim 3 40 (acJ c) &&
    zeroAt o 48 16

/-- Why RUN_TABLE is refused (R257). -/
def State.tableRefusal (s : State) (ax : Fin 16) (idx : Fin 256) (start : Rat) : Option (BitVec 16) :=
  let a := s.axes[ax]
  let c := a.cfg.getD []
  match s.tables[idx] with
  | none => some stTableNotLoaded
  | some tab =>
    let o := tab.obj
    let shift := if tlRelative o then start else 0
    if (tableExceeds o (acPeriod c) a.limits.v a.limits.a a.limits.d).isSome then some stTableLimit
    else if !tlRelative o && start != (knot o 0).pos then some stTableStart
    else if acSoft c && !piecesWithin (acLo c) (acHi c) (passPieces o (acPeriod c) shift 0) then some stSoftLimit
    else none

/-- The result of taking a command: none where it is taken, or the status of its rejection; a moving axis whose stopping
point lies outside the soft limits quick-stops (R246, R253). The command is judged with its limit fields applied (R245). -/
def State.takeAxis (ax : Fin 16) (e : Rat) (x : AxisCmd) (s0 : State) : State × Option (BitVec 16) :=
  let changes := cmHasLimits x.obj && !s0.axes[ax].limitsHeld e
  let s := s0.updAxis ax fun a => a.commandLimits e x.obj
  let a := s.axes[ax]
  let c := a.cfg.getD []
  let o := x.obj
  let k := cmCommand o
  let now := a.plan.at e
  let goal := if k = 2 then (if a.state == .standstill then now.1 + cmTarget o else a.target + cmTarget o) else cmTarget o
  let goal := qRound goal
  let moveCmd := k == 1 || k == 2
  let outside (p : Rat) : Bool := acSoft c && (decide (p < acLo c) || decide (acHi c < p))
  let stop := stopPieces a.limits now
  let still := a.state == .standstill
  if !axisCommandOk c o then (s0, some stInvalidField)
  else if a.state == .tracking then (s0, some stStoActive)
  else if a.state == .fault && k != 8 then (s0, some stAxisFault)
  else if ((k == 6 || k == 3) && !still) || (k == 8 && a.state != .fault) then (s0, some stWrongState)
  else if moveCmd && !still && motionSign now.2.1 now.2.2 != 0 && outside stop.2 then
    let (s, final) := s0.quickStop ax e
    let overrun := outside final
    let s := (s.updAxis ax fun a => { a with
      state := .quickStop, softLimit := true, limitOverrun := a.limitOverrun || overrun,
      faultAtRest := a.faultAtRest || overrun, reversing := false }).notifyAxis ax .softLimit
    let s := s.record .mot .softLimit [ax.val]
    (if overrun then s.record .mot .limitOverrun [ax.val] else s, some stSoftLimit)
  else if moveCmd && outside goal then (s0, some stSoftLimit)
  else
    let tab := if k = 3 then s.tableRefusal ax (cmTable o) (qRound now.1) else none
    match tab with
    | some st => (s0, some st)
    | none =>
      let note (s : State) : State := if cmNotify o then s.updAxis ax fun a => { a with notify := some (cmSeq o) } else s
      if moveCmd then (note ((s.notifyAxis ax .replaced).planTo ax e goal), none)
      else if k = 3 then
        match s.tables[cmTable o] with
        | none => (s, none)
        | some tab =>
          let shift := if tlRelative tab.obj then qRound now.1 else 0
          let pieces := passPieces tab.obj (acPeriod c) shift 0
          let final := (knot tab.obj (tlCount tab.obj - 1)).pos + shift
          let s := ((s.notifyAxis ax .replaced).setPlan ax e pieces final).updAxis ax fun a => { a with
            state := .table, target := final, run := some { index := cmTable o, start := e, from_ := 0, shift := shift, pass := 0 } }
          (note s, none)
      else if k = 4 then
        if still then (s, none)
        else
          let s := if cmNotify o then s.notifyAxis ax .stopped else s
          (note (if a.state == .quickStop then s else s.planStop ax e), none) -- R251: a quick stop is not stretched
      else if k = 5 then
        if still then (s, none)
        else
          let s := if cmNotify o then s.notifyAxis ax .stopped else s
          let s := (s.quickStop ax e).1
          (note (s.updAxis ax fun a => { a with state := .quickStop, reversing := false }), none)
      else if k = 6 then
        let delta := goal - now.1
        (s.updAxis ax fun a => { a with
          plan := { start := e, pieces := [], final := goal }, target := goal, posUnverified := false,
          step := { a.step with origin := a.step.origin + delta }, servo := { a.servo with offset := goal - a.servo.actPos } },
          none)
      else if k = 8 then
        let pos := if axServo c then a.servo.actPos + a.servo.offset else now.1
        let rest := axServo c || motionSign now.2.1 now.2.2 == 0
        let s := if rest then
            s.updAxis ax fun a => { a with state := .standstill, plan := { start := e, pieces := [], final := qRound pos },
                                           target := qRound pos, faultAtRest := false }
          else s.updAxis ax fun a => { a with state := .quickStop, faultAtRest := false }
        let s := s.updAxis ax fun a => { a with followingError := false, driveLost := false, limitOverrun := false,
                                                servo := { a.servo with feRun := 0 } }
        let s := s.record .mot .axisFault [ax.val, 0]
        (if axServo c then s else s.unverify ax, none)
      else (if changes then s.replan ax e else s, none)

/-! ### Feedback and tracking (R266 to R270) -/

/-- The feedback record of a servo axis, none where its quality is BAD or its station is substituted (R266, R268). -/
def State.feedback (s : State) (o : Bytes) : Option Bytes :=
  let st := srcStation (acFb o)
  let w := srcWord (acFb o)
  match s.station? st with
  | none => none
  | some x =>
    let word (i : Nat) : Bytes := wr 4 ((x.front.words[w + i]?).getD 0).toNat
    let bad := (List.range 4).any fun i => (s.remoteIn st (w + i)).2.1 == .bad
    if x.substituted || bad then none else some (word 0 ++ word 1 ++ word 2 ++ word 3)

/-- A feedback record is read: positions, stamps and the count of following errors above FE_MAX (R266, R267). -/
def Axis.readFeedback (a : Axis) (o : Bytes) (ringOff : Int) (clock : Ns) (f : Option Bytes) : Axis :=
  match f with
  | none => { a with servo := { a.servo with qualBad := true, fresh := false } }
  | some b =>
    let stamp := BitVec.ofNat 32 (rd b 8 4)
    let isNew := stamp != a.servo.actStamp || a.servo.qualBad
    let act := rdQ b 0
    let back : Int := (BitVec.ofInt 32 (clock + ringOff) - stamp).toInt
    let planned := (a.plan.at ((clock : Rat) - back)).1
    let err := qRound (planned - a.servo.offset - act)
    let watch := a.servo.enable && a.state != .tracking
    let run := if !isNew then a.servo.feRun else if watch && decide (acFe o < absR err) then a.servo.feRun + 1 else 0
    { a with servo := { a.servo with
        actPos := act, actStamp := stamp, prevPos := if isNew then a.servo.actPos else a.servo.prevPos,
        prevStamp := if isNew then a.servo.actStamp else a.servo.prevStamp, seqEcho := BitVec.ofNat 16 (rd b 12 2),
        status := BitVec.ofNat 16 (rd b 14 2), qualBad := false, fresh := isNew, feRun := run, followErr := qRound err } }

/-- Velocity from the last two feedback records on their stamps (R269). -/
def Servo.velocity (v : Servo) : Rat :=
  let dt : Int := (v.actStamp - v.prevStamp).toInt
  if dt ≤ 0 then 0 else (v.actPos - v.prevPos) * 1000000000 / dt

/-- The conditions of R269. -/
def State.tracks (s : State) (ax : Fin 16) (o : Bytes) : Bool :=
  let a := s.axes[ax]
  let forced (n : Nat) : Bool := if h : n < 128 then s.chans[n].safOff else false
  a.sto || (!axServo o && [axStepCh o, axDirCh o, axMs0Ch o, axMs1Ch o].any forced) ||
    (axServo o && !a.servo.qualBad && (a.servo.status.getLsbD 2 || (a.servo.enable && !a.servo.status.getLsbD 1)))

/-- TRACKING_ENTRY (R269). -/
def State.enterTracking (ax : Fin 16) (s : State) : State :=
  let s := s.notifyAxis ax .sto
  let s := s.updAxis ax fun a => { a with
    state := .tracking, pend := {}, limitPending := false, reversing := false, run := none, faultAtRest := false,
    trackings := satAdd 32 a.trackings 1 }
  s.record .mot .axisTracking [ax.val, 1]

/-- While an axis tracks (R269). -/
def State.trackNow (ax : Fin 16) (o : Bytes) (s : State) : State :=
  s.updAxis ax fun a =>
    let pos := if axServo o then a.servo.actPos + a.servo.offset else a.step.origin + a.step.elec
    let v := if axServo o then a.servo.velocity else 0
    { a with plan := { start := s.clock, pieces := [], final := pos }, pos := qRound pos, vel := qRound v, acc := 0, jerk := 0 }

/-- TRACKING_EXIT (R270). -/
def State.leaveTracking (ax : Fin 16) (o : Bytes) (e : Rat) (s : State) : State :=
  let s := s.trackNow ax o
  let a := s.axes[ax]
  let s := s.record .mot .axisTracking [ax.val, 0]
  let s := if absR a.vel ≤ acStill o then
      s.updAxis ax fun a => { a with state := .standstill, vel := 0, target := a.pos,
                                     plan := { start := e, pieces := [], final := a.pos } }
    else
      let r := stopPieces a.limits (a.pos, a.vel, 0)
      s.updAxis ax fun a => { a with state := .stopping, target := qRound r.2,
                                     plan := { start := e, pieces := r.1, final := qRound r.2 } }
  if axServo o then s else s.unverify ax

/-! ### Servo set-points (R265) -/

/-- SERVO_SETPOINT_WRITE (R265, R268, R269). -/
def State.writeServo (ax : Fin 16) (o : Bytes) (e : Rat) (catchUp : Bool) (done : Ns) (s : State) : State :=
  let a := s.axes[ax]
  let k : Kin := if a.state == .tracking then (a.pos, a.vel, 0) else a.plan.at e
  let enable := !(a.state == .tracking || a.state == .fault || a.state == .disabled)
  let tracking := a.state == .tracking
  let seq := a.servo.seq + 1
  let flags := (if enable then 1 else 0) + (if tracking then 2 else 0) + (if catchUp then 4 else 0)
  let q (r : Rat) : Bytes := wrS 8 (roundAway (r * 2 ^ 32))
  let rec' := q (k.1 - a.servo.offset) ++ q k.2.1 ++ q k.2.2 ++ wr 4 ((e + s.time.ringOff).floor % 2 ^ 32).toNat
    ++ wr 2 seq.toNat ++ wr 2 flags
  let s := s.updAxis ax fun a => { a with servo := { a.servo with seq := seq, record := rec', enable := enable } }
  (List.range 8).foldl (fun s i =>
    s.remoteOut (srcStation (acSp o)) (srcWord (acSp o) + i) (BitVec.ofNat 32 (rd rec' (4 * i) 4)) done) s

/-! ### The sample (R240, R244, R272) -/

/-- A pending AXIS_CONFIG takes effect (R244): DIR starts low, which is negative motion with DIR_INVERT. Commands that wait for
an axis that is disabled find the wrong state (DESIGN CHOICE, log 105). -/
def State.axisTakeConfig (ax : Fin 16) (e : Rat) (s : State) : State :=
  match s.axes[ax].pendCfg with
  | none => s
  | some (_, o, phase) =>
    let was := s.axes[ax].cfg.isSome
    let s := (s.storeObject (BitVec.ofNat 16 opAxisConfig) ax.val (some o)).record .mot .axisConfig [ax.val]
    if !acEnable o then
      let orgs := s.axes[ax].cmds.filterMap AxisCmd.org
      let s := match s.axes[ax].state with
        | .tracking => s.record .mot .axisTracking [ax.val, 0]
        | .fault => s.record .mot .axisFault [ax.val, 0]
        | _ => s
      let s := s.updAxis ax fun a => { a with
        cfg := none, pendCfg := none, state := .disabled, run := none, cmds := [], owed := [],
        firstLate := none, lastPoint := none, limitPending := false, pend := {}, reversing := false,
        servo := { a.servo with enable := false } }
      s.completeAll orgs (.error stWrongState)
    else if was then
      s.updAxis ax fun a => { a with
        cfg := some o, pendCfg := none,
        step := if acMs o then a.step
          else { a.step with rung := Fin.ofNat 4 (acRes o), rungWant := Fin.ofNat 4 (acRes o) },
        limits := { v := min a.limits.v (acV o), a := min a.limits.a (acA o), d := min a.limits.d (acD o),
                    j := min a.limits.j (acJ o) } }
    else
      let s := s.updAxis ax fun a => { a with
        cfg := some o, pendCfg := none, phase := phase, state := .standstill, limits := acLimits o, pend := {},
        limitPending := false, reversing := false, softLimit := false, limitOverrun := false, followingError := false,
        driveLost := false, faultAtRest := false, run := none, owed := [], firstLate := none, notify := none,
        step := { missed := a.step.missed, delayed := a.step.delayed, rungChanges := a.step.rungChanges,
                  dirNeg := acDirInvert o, rung := if acMs o then 0 else Fin.ofNat 4 (acRes o), rungWant := if acMs o then 0 else Fin.ofNat 4 (acRes o) },
        servo := { a.servo with offset := 0, feRun := 0, enable := false }, posUnverified := false }
      if axServo o then
        s.updAxis ax fun a =>
          let a := a.readFeedback o s.time.ringOff s.clock (s.feedback o)
          { a with plan := { start := e, pieces := [], final := a.servo.actPos }, target := a.servo.actPos, pos := a.servo.actPos }
      else (s.updAxis ax fun a => { a with plan := { start := e, pieces := [], final := 0 }, target := 0, pos := 0 }).unverify ax

/-- Cause codes of the record of a FAULT entry: the model's own. -/
def faultLane := 0
def faultDebt := 1
def faultFollow := 2
def faultDrive := 3
def faultOverrun := 4

/-- Whether a channel of a step axis reports LANE_FAILED or has lost its owner (R264). -/
def State.axisLaneBad (s : State) (o : Bytes) : Bool :=
  !axServo o && [axStepCh o, axDirCh o, axMs0Ch o, axMs1Ch o].any fun n =>
    if h : n < 128 then s.chans[n].has .laneFailed || s.ownerLost ⟨n, h⟩ else false

/-- Released commands in the order R246 gives. -/
def sortCmds (l : List AxisCmd) : List AxisCmd :=
  l.mergeSort fun a b => decide (a.stamp < b.stamp) || (a.stamp == b.stamp && (a.fromPrg || !b.fromPrg))

/-- One released command is taken or rejected, with its result in the axis state and its completion (R246). -/
def State.applyAxisCmd (ax : Fin 16) (e : Rat) (s : State) (x : AxisCmd) : State :=
  let (s, st) := s.takeAxis ax e x
  let s := s.updAxis ax fun a => { a with
    lastSeq := cmSeq x.obj, lastFromPrg := x.fromPrg, lastResult := st.getD 0,
    rejected := if st.isSome && x.fromPrg then satAdd 32 a.rejected 1 else a.rejected }
  match x.org, st with
  | none, _ => s
  | some org, some st => s.complete org (.error st)
  | some org, none =>
    let a := s.axes[ax]
    let stamp : Int := a.plan.endAt.ceil + s.time.ringOff
    s.complete org (.done (wrS 8 stamp ++ [if a.reversing then 1 else 0] ++ List.replicate 7 0))

/-- The next pass of a looping table begins, or the axis stops where it would leave the soft limits (R257). -/
def State.nextPass (ax : Fin 16) (o : Bytes) (e : Rat) (s : State) : State :=
  let a := s.axes[ax]
  match a.run with
  | none => s
  | some r =>
    match s.tables[r.index] with
    | none => s
    | some tab =>
      let b := tab.obj
      let more := tlLoop b && (tlPasses b == 0 || decide (r.pass < tlPasses b))
      if !more || decide (e + 50000 * acPeriod o < a.plan.endAt) then s
      else
        let jump := (knot b (tlCount b - 1)).pos - (knot b (tlLoopTo b)).pos
        let shift := if tlRelative b then r.shift + jump else r.shift
        let pieces := passPieces b (acPeriod o) shift (tlLoopTo b)
        if acSoft o && !piecesWithin (acLo o) (acHi o) pieces then
          let at_ := max e a.plan.endAt
          let k := if e ≤ a.plan.endAt then a.plan.endKin else a.plan.at e
          let stop := stopPieces a.limits k
          let inside (p : Rat) : Bool := decide (acLo o ≤ p) && decide (p ≤ acHi o)
          let (new, final) := if inside stop.2 then stop else quickPieces (acQd o) (acQj o) k
          let overrun := !inside final
          let quick := !inside stop.2
          let s := (s.setPlan ax at_ new (qRound final)).updAxis ax fun a => { a with
            state := if quick then .quickStop else .stopping, softLimit := true, target := qRound final,
            limitOverrun := a.limitOverrun || overrun, faultAtRest := a.faultAtRest || overrun }
          let s := (s.notifyAxis ax .softLimit).record .mot .softLimit [ax.val]
          if overrun then s.record .mot .limitOverrun [ax.val] else s
        else
          let final := (knot b (tlCount b - 1)).pos + shift
          s.updAxis ax fun a => { a with
            plan := { a.plan with pieces := a.plan.pieces ++ pieces, final := final }, target := final,
            run := some { r with from_ := tlLoopTo b, shift := shift, pass := r.pass + 1, start := a.plan.endAt } }

/-- A motion that has ended by the evaluation instant brings the axis to rest (R247, R248, R251, R253, R258). -/
def State.settleMotion (ax : Fin 16) (at_ : Rat) (s : State) : State :=
  let a := s.axes[ax]
  let s := if a.reversing && decide (a.reverseEnd ≤ at_) then s.updAxis ax fun a => { a with reversing := false } else s
  if at_ < a.plan.endAt then s
  else
    let rest (s : State) : State := s.updAxis ax fun a => { a with
      state := .standstill, run := none, reversing := false, plan := { start := at_, pieces := [], final := a.plan.final },
      target := a.plan.final }
    let stamp : Int := a.plan.endAt.ceil + s.time.ringOff
    match a.state with
    | .moving | .table => (rest s).notifyAxisAt stamp ax .arrived
    | .stopping | .quickStop =>
      let s := (rest s).notifyAxisAt stamp ax .stopped
      if a.faultAtRest then
        (s.updAxis ax fun a => { a with state := .fault, faultAtRest := false }).record .mot .axisFault [ax.val, 1, faultOverrun]
      else s
    | _ => s

/-- Lateness bookkeeping of an axis sample (R228 to R230, R272). -/
def State.axisEnd (s : State) (a : Axis) (o : Bytes) (i : Nat) (onPoint : Bool) (done : Ns) : Axis :=
  let late := decide (s.tickClock i + 46000 < done)
  let exec := done - s.clock
  { a with samples := a.samples + 1, late := if late then a.late + 1 else a.late,
           catchUps := if onPoint then a.catchUps else a.catchUps + 1, lastExec := exec, lastPoint := some i,
           maxExec := max a.maxExec exec, owed := if onPoint && !late then [] else s.owedAfter (acPeriod o) i done,
           firstLate := if onPoint && !late then none else if late then a.firstLate.orElse fun _ => some i else a.firstLate }

/-- One sample of an axis for grid tick `tick` (R240). A sample on its grid point starts 36 µs after its tick and takes what was
released before. -/
def State.axisSampleAt (ax : Fin 16) (tick : Nat) (onPoint : Bool) (done : Ns) (s : State) : State :=
  let start : Ns := if onPoint then (s.tickClock tick + 36000).toNat else s.clock
  let org := (s.axes[ax].pendCfg).map fun x => x.1
  let cfgNow := (s.axes[ax].pendCfg.map fun x => x.2.1).getD (s.axes[ax].cfg.getD [])
  let e := s.effectAt cfgNow done
  let s := s.axisTakeConfig ax e
  match s.axes[ax].cfg with
  | none => s.completeAll org.toList .done
  | some o =>
    let s := if axServo o then s.updAxis ax fun a => a.readFeedback o s.time.ringOff s.clock (s.feedback o) else s
    let s := if s.axisLaneBad o && s.axes[ax].state != .fault then (s.axisFault ax e faultLane).unverify ax else s
    let lost := axServo o && (s.axes[ax].servo.qualBad || s.axes[ax].servo.status.getLsbD 3)
    let s := if lost && s.axes[ax].state != .fault then
        (s.axisFault ax e faultDrive).updAxis ax fun a => { a with driveLost := true } else s
    let s := if axServo o && decide (2 ≤ s.axes[ax].servo.feRun) && s.axes[ax].state != .fault then
        (s.axisFault ax e faultFollow).updAxis ax fun a => { a with followingError := true } else s
    let s :=
      if s.axes[ax].state = .fault then s
      else if s.tracks ax o then
        (if s.axes[ax].state = .tracking then s else s.enterTracking ax).trackNow ax o
      else if s.axes[ax].state = .tracking then
        (if axServo o && !s.axes[ax].servo.status.getLsbD 1 then s.trackNow ax o else s.leaveTracking ax o e)
      else s
    let s := s.settleMotion ax (s.tickClock tick : Rat)
    let a := s.axes[ax]
    let s := if a.limitPending && !a.limitsHeld e then
        (s.takeLimits ax e a.pend).record .mot .limitApplied [ax.val] else s
    let cmds := sortCmds (s.axes[ax].cmds.filter fun x => decide (x.stamp ≤ start))
    let s := s.updAxis ax fun a => { a with cmds := a.cmds.filter fun x => decide (start < x.stamp) }
    let s := cmds.foldl (State.applyAxisCmd ax e) s
    let s := s.nextPass ax o e
    let at_ : Rat := s.tickClock tick
    let s := if s.axes[ax].state = .tracking then s else s.updAxis ax fun a =>
      let k := a.plan.at at_
      { a with pos := qRound k.1, vel := qRound k.2.1, acc := qRound k.2.2, jerk := qRound (a.plan.jerkAt at_) }
    let s := s.updAxis ax fun a => { a with stamp := s.tickClock tick + s.time.ringOff }
    let s := if axServo o then s.writeServo ax o e (!onPoint) done else s
    let s := s.updAxis ax fun a => s.axisEnd a o tick onPoint done
    s.completeAll org.toList .done

/-- AXIS_SAMPLE (R240, R272, R393): at the axis's grid point from 36 µs after the start of the tick, or for the oldest grid point it
owes. -/
def execAxisSample (t : Ns) (ax : Fin 16) (done : Ns) (s : State) : Res :=
  let s := s.begin t
  let a := s.axes[ax]
  let cfg := match a.cfg, a.pendCfg with
    | some o, _ => some (o, a.phase)
    | none, some (_, o, ph) => some (o, ph)
    | none, none => none
  match cfg with
  | none => .next s
  | some (o, ph) =>
    if !s.up .mot || s.mod.failAt.isSome then .next s
    else match a.owed with
      | i :: _ => .next (s.axisSampleAt ax i false (max s.clock done))
      | [] =>
        let i := s.gridTick s.clock
        if onGrid (acPeriod o) ph i && (match a.lastPoint with | some j => decide (j < i) | none => true) &&
            decide (s.time.gridFloor < i) && decide (s.tickClock i + 36000 ≤ s.clock) then
          .next (s.axisSampleAt ax i true (max s.clock done))
        else .next s

/-- AXIS_SLIP (R230, R272). -/
def execAxisSlip (t : Ns) (ax : Fin 16) (s : State) : Res :=
  let s := s.begin t
  match s.axes[ax].firstLate, s.axes[ax].cfg with
  | some i, some o =>
    if s.tickClock (i + acSlip o * acPeriod o) + 36000 < s.clock then
      .next ((s.updAxis ax fun a => { a with owed := [], firstLate := none, slipFlag := true, slips := satAdd 32 a.slips 1 }).record
        .mot .axisSlip [ax.val])
    else .next s
  | _, _ => .next s

/-! ### Admission and AXIS_CONFIG (R242, R243, R271) -/

/-- An axis as it will stand once an accepted AXIS_CONFIG has taken effect, none where it is disabled (R243, R244). -/
def Axis.coming (a : Axis) : Option (Bytes × Nat) :=
  match a.pendCfg with
  | some (_, o, ph) => if acEnable o then some (o, ph) else none
  | none => a.cfg.map fun o => (o, a.phase)

/-- Items of R271 of the axes enabled, those accepted among them, with one replaced. -/
def State.axisItems (s : State) (cand : Option (Fin 16 × Bytes × Nat)) : List CostItem :=
  (List.finRange 16).filterMap fun k =>
    let item (o : Bytes) (ph : Nat) : CostItem := (acPeriod o, ph, 900 + if axServo o then 150 else 0)
    match cand with
    | some (j, o, ph) =>
      if j = k then (if acEnable o then some (item o ph) else none) else s.axes[k].coming.map fun x => item x.1 x.2
    | none => s.axes[k].coming.map fun x => item x.1 x.2

/-- The phase of an axis (R271). -/
def State.axisPhase (s : State) (ax : Fin 16) (o : Bytes) : Nat :=
  if acPhase o != 0xFFFFFFFF then acPhase o else
  let cost (ph : Nat) : Nat := worstCost (s.axisItems (some (ax, o, ph)))
  ((List.range (max 1 (acPeriod o))).foldl (fun (b : Nat × Nat) ph =>
    let c := cost ph
    if c < b.2 then (ph, c) else b) (0, cost 0)).1

/-- Step 1 of R243: ranges, the fields of the other kind, and the step-rate bounds. -/
def axisFormat (o : Bytes) : Bool :=
  let sv := axServo o
  let chs := [axStepCh o, axDirCh o, axMs0Ch o, axMs1Ch o]
  let w : Rat := (acWidth o : Rat) * 25 / 1000000000
  let ms : Rat := (acMsSetup o : Rat) * 25 / 1000000000
  let reach2 : Rat := (acFUp o : Rat) * acFUp o + 128 * acA o
  let units : Rat := if acMs o then 64 else 4 ^ acRes o
  let topRate := acV o / units
  rdBits o 1 5 0 == 0 && decide (1 ≤ acSlip o ∧ acSlip o ≤ 16) && decide (5 ≤ acPeriod o ∧ acPeriod o ≤ 160) &&
    (decide (acPhase o < acPeriod o) || acPhase o == 0xFFFFFFFF) && rd o 22 2 == 0 && zeroAt o 120 8 &&
    decide (0 < acV o) && decide (0 < acA o) && decide (0 < acD o) && decide (0 < acJ o) && decide (acD o ≤ acQd o) &&
    (acQj o == 0 || decide (acJ o ≤ acQj o)) && decide (acLo o < acHi o) && decide (0 ≤ acStill o) &&
    (if sv then
      chs.all (· == 0xFF) && acRes o == 0 && acMsMap o == 0 && rd o 16 6 == 0 && acFUp o == 0 && acFDown o == 0 &&
        srcKind (acSp o) == 2 && srcFormat (acSp o) && srcKind (acFb o) == 2 && srcFormat (acFb o) && decide (0 < acFe o) &&
        !acDirInvert o
    else
      decide (axStepCh o < 128) && decide (axDirCh o < 128) && (acMs o == (axMs1Ch o != 0xFF)) &&
        (!acMs o || (decide (axMs0Ch o < 128) && decide (axMs1Ch o < 128) && acRes o == 0)) &&
        decide (80 ≤ acWidth o ∧ acWidth o ≤ 800) && decide (40 ≤ acDirSetup o ∧ acDirSetup o ≤ 4000) &&
        decide (40 ≤ acMsSetup o ∧ acMsSetup o ≤ 40000) && acSp o == 0 && acFb o == 0 && acFe o == 0 &&
        (if acMs o then
          decide (1000 ≤ acFUp o ∧ acFUp o ≤ 100000) && decide (1 ≤ acFDown o ∧ 2 * acFDown o ≤ acFUp o) &&
            decide (reach2 ≤ 10000000000) && decide (reach2 * (2 * w + ms) * (2 * w + ms) ≤ 1)
        else acFUp o == 0 && acFDown o == 0) &&
        decide (topRate ≤ 100000) && decide (topRate * (2 * w) ≤ 1))

/-- Channels an axis object uses. -/
def axisChannels (o : Bytes) : List Nat :=
  if axServo o then [] else [axStepCh o, axDirCh o] ++ if acMs o then [axMs0Ch o, axMs1Ch o] else []

/-- Step 2 of R243. -/
def State.axisPolicy (s : State) (o : Bytes) : Option Outcome :=
  let ax := acAxis o
  let chs := axisChannels o
  let roleOk := if axServo o then s.role == some .controller || s.isPair else s.role == some .controller || s.role == some .iostation
  let others := (List.finRange 16).filter fun k => k != ax
  let owned (n : Nat) : Bool := if h : n < 128 then s.mode ⟨n, h⟩ == .pulse && s.owner ⟨n, h⟩ == .mot else false
  let used (n : Nat) : Bool := others.any fun k =>
    ([s.axes[k].cfg, s.axes[k].coming.map Prod.fst].filterMap id).any fun c => (axisChannels c).contains n
  let multiple := acPeriod o * 50 % max 1 s.ring.cfg.tBus == 0 && decide (1 ≤ acPeriod o * 50 / max 1 s.ring.cfg.tBus) &&
    decide (acPeriod o * 50 / max 1 s.ring.cfg.tBus ≤ 32)
  firstOf
    [fails (!roleOk) (.policy stPolicyRole),
     fails (axServo o && !multiple) (.policy stPolicyRule),
     fails (!chs.all owned || chs.any used || !chs.Nodup) (.policy stPolicyRule),
     fails (axServo o && srcStation (acSp o) != srcStation (acFb o)) (.policy stPolicyRule)]

/-- The checks of R243, then R490. -/
def State.axisCheck (s : State) (o : Bytes) : Option Outcome :=
  let ax := acAxis o
  let a := s.axes[ax]
  let still := a.state == .standstill || a.state == .tracking || a.state == .fault
  let wrong := match a.cfg with
    | none => false
    | some c =>
      axServo c != axServo o || (c.drop 12).take 4 != (o.drop 12).take 4 || acSp c != acSp o || acFb c != acFb o ||
        acPeriod c != acPeriod o || (acPhase o != 0xFFFFFFFF && acPhase o != a.phase) ||
      ((!acEnable o || (c.drop 40).take 48 != (o.drop 40).take 48) && !still)
  firstOf
    [badField (!axisFormat o), s.axisPolicy o, fails a.pendCfg.isSome .busy, fails wrong (.error stWrongState),
     fails (acEnable o && a.cfg.isNone && !admitted (s.axisItems (some (ax, o, s.axisPhase ax o)))) .capacity,
     fails (s.storeOverflow (BitVec.ofNat 16 opAxisConfig) ax.val o) .capacity]

/-- AXIS_CONFIG (R242 to R244): in force at the axis's next sample; one that disables a disabled axis at once. -/
def execAxisConfig (t : Ns) (org : Origin) (obj : Bytes) (s : State) : Res :=
  let s := s.begin t
  let ax := acAxis obj
  serve org opAxisConfig [.mot] (badField (obj.length != 128)) (s.axisCheck obj) (fun s =>
    if !acEnable obj && s.axes[ax].cfg.isNone then
      ((s.storeObject (BitVec.ofNat 16 opAxisConfig) ax.val (some obj)).record .mot .axisConfig [ax.val]).complete org .done
    else
      let phase := if s.axes[ax].cfg.isSome then s.axes[ax].phase else s.axisPhase ax obj
      s.updAxis ax fun a => { a with pendCfg := some (org, obj, phase) }) s

/-! ### AXIS_COMMAND (R246) -/

/-- A command is released to its axis (R28, R246). -/
def State.releaseAxis (fromPrg : Bool) (org : Option Origin) (o : Bytes) (s : State) : State :=
  s.updAxis (cmAxis o) fun a => { a with cmds := a.cmds ++ [{ stamp := s.clock, fromPrg := fromPrg, obj := o, org := org }] }

/-- The program's command, released at its output write (R28, R246). -/
def State.programAxis (o : Bytes) (s : State) : State :=
  if o.length = 64 && s.axes[cmAxis o].cfg.isSome then s.releaseAxis true none o
  else s.updAxis (cmAxis o) fun a => { a with rejected := satAdd 32 a.rejected 1 }

/-- A host AXIS_COMMAND of one COMMAND code is released at acceptance; a disabled axis has no sample to take it
(R246; DEDUCED, log 37). -/
def axisCommand (code : Nat) (org : Origin) (obj : Bytes) (s : State) : Res :=
  let a := s.axes[cmAxis obj]
  serve org opAxisCommand [.mot] (badField (obj.length != 64 || cmCommand obj != code))
    (firstOf [fails (a.cmds.any fun c => c.org.isSome) .busy, fails (a.cfg.isNone) (.error stWrongState)])
    (State.releaseAxis false (some org) obj) s

/-- MOVE_ABS (R246, R248, R252). -/
def execMoveAbs (t : Ns) (org : Origin) (obj : Bytes) (s : State) : Res := axisCommand 1 org obj (s.begin t)
/-- MOVE_REL (R246, R248, R252). -/
def execMoveRel (t : Ns) (org : Origin) (obj : Bytes) (s : State) : Res := axisCommand 2 org obj (s.begin t)
/-- RUN_TABLE (R246, R257). -/
def execRunTable (t : Ns) (org : Origin) (obj : Bytes) (s : State) : Res := axisCommand 3 org obj (s.begin t)
/-- STOP (R246, R251). -/
def execAxisStop (t : Ns) (org : Origin) (obj : Bytes) (s : State) : Res := axisCommand 4 org obj (s.begin t)
/-- QUICK_STOP (R246, R251). -/
def execQuickStop (t : Ns) (org : Origin) (obj : Bytes) (s : State) : Res := axisCommand 5 org obj (s.begin t)
/-- SET_POSITION (R246, R247). -/
def execSetPosition (t : Ns) (org : Origin) (obj : Bytes) (s : State) : Res := axisCommand 6 org obj (s.begin t)
/-- SET_LIMITS (R246, R250). -/
def execSetLimits (t : Ns) (org : Origin) (obj : Bytes) (s : State) : Res := axisCommand 7 org obj (s.begin t)
/-- RESET_FAULT (R246, R247). -/
def execResetFault (t : Ns) (org : Origin) (obj : Bytes) (s : State) : Res := axisCommand 8 org obj (s.begin t)

/-! ### TABLE_LOAD (R254, R256) -/

/-- Format of a table object (R254). -/
def tableFormat (o : Bytes) : Bool :=
  let n := tlCount o
  rdBits o 1 5 4 == 0 && rd o 2 2 == 0 && decide (2 ≤ n) && o.length == 32 + 24 * n && zeroAt o 16 16 &&
    (if tlLoop o then decide (tlLoopTo o + 2 ≤ n) else tlLoopTo o == 0 && tlPasses o == 0) &&
    (List.range n).all fun k =>
      rd o (36 + 24 * k) 4 == 0 &&
        if k = 0 then (knot o 0).time == 0 else decide (1 ≤ (knot o k).time ∧ (knot o k).time ≤ 16777215)

/-- Pool entries of the tables loaded, one index left out (R256). -/
def State.poolUsed (s : State) (but : Option (Fin 256)) : Nat :=
  (List.finRange 256).foldl (fun n k => if some k = but then n else n + ((s.tables[k]).map fun x => tlCount x.obj).getD 0) 0

/-- Whether an earlier TABLE_LOAD of this index has not completed: in a pair a write completes once both members have reported it
(R256, R378). -/
def State.tablePending (s : State) (org : Origin) (idx : Nat) : Bool :=
  (s.pair.forwards.takeWhile fun f => f.org != org).any fun f => rd f.desc 0 2 == opTableLoad && tlIndex f.obj == idx

/-- What a record tells of an outcome: 0 for DONE, else disposition and status. -/
def outcomeCode : Option Outcome → Int
  | none => 0
  | some o => 65536 * o.disp.toNat + o.status.toNat

/-- TABLE_LOAD (R254, R256): a table for an axis that is not configured has no limits to be held against. More than 32,768 knots
are more than the pool holds (R32; DEDUCED, log 108). -/
def execTableLoad (t : Ns) (org : Origin) (obj : Bytes) (s : State) : Res :=
  let s := s.begin t
  let idx : Fin 256 := Fin.ofNat 256 (tlIndex obj)
  let cfg := s.axes[Fin.ofNat 16 (tlAxis obj)].cfg
  let bad := match cfg with | some c => tableExceeds obj (acPeriod c) (acV c) (acA c) (acD c) | none => none
  let running := (List.finRange 16).any fun k => match s.axes[k].run with | some r => r.index = idx | none => false
  let limit : Option Outcome := bad.map fun b => .error stTableLimit (wr 4 b.1 ++ wr 4 0 ++ wrS 8 (roundAway (b.2 * 2 ^ 32)))
  let check := firstOf [badField (!tableFormat obj), fails cfg.isNone (.error stWrongState), fails running (.error stTableInUse),
    fails (s.tablePending org idx.val) .busy, fails (decide (32768 < s.poolUsed (some idx) + tlCount obj)) .capacity, limit]
  let s := match (badField (decide (obj.length < 32))).orElse fun _ => s.gate org opTableLoad [.mot] with
    | some _ => s
    | none => if s.waitsBarrier org then s else s.record .mot .tableLoad [idx.val, outcomeCode check]
  serve org opTableLoad [.mot] (badField (decide (obj.length < 32))) check
    (fun s => ({ s with tables := s.tables.set idx (some { obj := obj }) }).complete org .done) s

/-! ### Step outputs (R259 to R262, R264) -/

/-- STEP_DEBT_TIMEOUT (R264): debt not back to zero within 20 ms. -/
def execStepDebtTimeout (t : Ns) (ax : Fin 16) (s : State) : Res :=
  let s := s.begin t
  let a := s.axes[ax]
  match a.cfg, a.step.debtSince with
  | some o, some d =>
    if a.step.debt != 0 && decide (d + 20000000 ≤ s.clock) then
      .next ((s.axisFault ax (s.effectAt o t) faultDebt).unverify ax)
    else .next s
  | _, _ => .next s

/-- The first 25 ns instant of a tick at or after which the plan has reached a position in a direction, by bisection over
the tick's 2,000 instants (R260). -/
def crossing (p : Plan) (start : Rat) (dir : Int) (goal : Rat) : Option Nat :=
  let reached (k : Nat) : Bool := decide (0 ≤ dir * ((p.at (start + 25 * k)).1 - goal))
  if reached 0 then some 0
  else if !reached 1999 then none
  else some ((List.range 11).foldl (fun (b : Nat × Nat) _ =>
    let m := (b.1 + b.2) / 2
    if reached m then (b.1, m) else (m, b.2)) (0, 1999)).2

/-- Whether the direction of the next step has to change first; a change already pending is waited for. -/
def Step.turns (st : Step) (neg : Bool) : Bool := neg != st.dirNeg

/-- DIR changes STEP_WIDTH after the end of the last pulse; the next step keeps DIR_SETUP (R261). -/
def Step.turn (st : Step) (o : Bytes) (base : Nat) : Step :=
  let at_ : Int := max base (st.lastFall + acWidth o)
  { st with dirNeg := !st.dirNeg, dirEdge := some at_, notBefore := max st.notBefore (at_ + acDirSetup o) }

/-- Steps being scheduled in one tick: the step state, the rising edges, and the signed steps emitted. -/
structure StepGen where
  st : Step
  rises : List Nat := []
  signed : Int := 0

/-- Schedules one rising edge wanted at instant `k` of a tick that starts at unit `base`: after the pulse before it, after
the DIR and MS setup times, and not across the end of the tick (R260 to R262). The answer is none where it must wait. -/
def Step.place (st : Step) (width base k : Nat) (spacing : Nat) : Option Nat :=
  let want : Int := max (base + k : Nat) (max (st.lastFall + spacing) st.notBefore)
  let at_ := (want - base).toNat
  if want < base || 2000 ≤ at_ + width then (if want < base then some 0 else none) else some at_

/-- One step leaves: ELEC, the end of its pulse, a rung change at a full-step position with its MS edge (R260, R262). -/
def StepGen.emit (g : StepGen) (o : Bytes) (base k : Nat) (dir : Int) (count late : Bool) : StepGen :=
  let st := g.st
  let fall : Int := base + k + acWidth o
  let elec := if count then st.elec + dir * rungUnits st.rung else st.elec
  let full := elec % 64 == 0 && st.rungWant != st.rung && acMs o
  let rung := if !full then st.rung else if st.rung < st.rungWant then st.rung + 1 else st.rung - 1
  let ms : Int := fall + acWidth o
  { g with
    st := { st with elec := elec, lastFall := fall, rung := rung, rungChanges := if full then st.rungChanges + 1 else st.rungChanges,
                    msEdge := if full then some ms else st.msEdge, msShown := if full then st.rung else st.msShown,
                    notBefore := if full then max st.notBefore (ms + acMsSetup o) else st.notBefore,
                    delayed := if late then satAdd 32 st.delayed 1 else st.delayed },
    rises := g.rises ++ [k], signed := g.signed + dir }

/-- The ladder's decision on the plan's rate; once taken it stands until the rung changes or the other one is due (R262). -/
def Step.ladder (st : Step) (o : Bytes) (v : Rat) : Step :=
  if !acMs o then st
  else
    let f := absR v / rungUnits st.rung
    if decide ((acFUp o : Rat) ≤ f) && decide (st.rung.val < 3) then { st with rungWant := st.rung + 1 }
    else if decide (4 * f < (acFDown o : Rat)) && decide (0 < st.rung.val) then { st with rungWant := st.rung - 1 }
    else st

/-- The plan's steps of one tick (R260 to R262). The ladder is decided on the plan's rate at each step. -/
def planSteps (p : Plan) (o : Bytes) (start : Rat) (base : Nat) : Nat → StepGen → StepGen
  | 0, g => g
  | fuel + 1, g =>
    let st := g.st
    let here := (p.at (start + 50000)).1 - st.origin
    let u := rungUnits st.rung
    let dir : Int := if (st.elec + u : Int) ≤ here then 1 else if here ≤ (st.elec - u : Int) then -1 else 0
    if dir = 0 then g
    else
      let neg := decide (dir < 0)
      if st.turns neg && st.dirEdge.isSome then g else
      let st := if st.turns neg then st.turn o base else st
      let goal : Rat := st.origin + (st.elec + dir * u : Int)
      match crossing p start dir goal with
      | none => { g with st := st }
      | some k =>
        let st := st.ladder o (p.at (start + 25 * k)).2.1
        match st.place (acWidth o) base k (acWidth o) with
        | none => { g with st := st }
        | some at_ =>
          let g' : StepGen := { g with st := st }
          planSteps p o start base fuel (g'.emit o base at_ dir true (decide (k + acWidth o + 1 < at_)))

/-- The debt's steps of one tick, after the plan's (R264). -/
def debtSteps (o : Bytes) (base : Nat) : Nat → StepGen → StepGen
  | 0, g => g
  | fuel + 1, g =>
    let st := g.st
    if st.debt = 0 then g
    else
      let dir : Int := if 0 < st.debt then 1 else -1
      let neg := decide (dir < 0)
      if st.turns neg && (st.dirEdge.isSome || !g.rises.isEmpty) then g
      else
        let st := if st.turns neg then st.turn o base else st
        match st.place (acWidth o) base 0 (max (acWidth o) (400 - acWidth o)) with
        | none => { g with st := st }
        | some at_ =>
          let left := st.debt - dir
          let since := if left = 0 then none else st.debtSince
          let st := { st with debt := left, debtSince := since }
          debtSteps o base fuel (StepGen.emit { g with st := st } o base at_ dir false false)

/-- After the last step in a direction DIR changes ahead of the next one, if the plan's next step goes the other way (R261). -/
def Step.turnAhead (st : Step) (p : Plan) (o : Bytes) (after : Rat) (base : Nat) : Step :=
  let u := rungUnits st.rung
  let next := p.heading after (st.origin + (st.elec - u : Int)) (st.origin + (st.elec + u : Int))
  if next = 0 || !st.turns (decide (next < 0)) || st.dirEdge.isSome || decide ((base : Int) + 2000 ≤ st.lastFall + acWidth o) ||
      st.debt != 0 then st
  else st.turn o base

/-- Levels (MS1, MS0) of a rung (R242). -/
def msLevels (o : Bytes) (r : Fin 4) : Nat := bitsOf (acMsMap o) (2 * r.val + 1) (2 * r.val)

/-- The edge of a line within a tick, if it falls there. -/
def edgeIn (base : Nat) (e : Option Int) : List (BitVec 11) :=
  match e with
  | some x => if (base : Int) ≤ x ∧ x < base + 2000 then [BitVec.ofInt 11 (x - base)] else []
  | none => []

/-- One axis's edges for the tick whose frames this cut-off builds (R29, R260 to R262, R264). DIR is low for
positive motion, or high with DIR_INVERT, as R259 has it and R242 has not (DEDUCED, log 107). -/
def State.stepAxis (ax : Fin 16) (s : State) : State :=
  let a := s.axes[ax]
  match a.cfg with
  | none => s
  | some o =>
    if axServo o || !s.up .mot || s.mod.failAt.isSome then s else
    let tick := s.gridTick s.clock + 2
    let start : Rat := s.tickClock tick
    let base := (s.tickClock tick).toNat / 25
    let ahead (e : Option Int) : Option Int := e.filter fun x => decide ((base : Int) ≤ x)
    let st0 := { a.step with dirEdge := ahead a.step.dirEdge, msEdge := ahead a.step.msEdge }
    let st0 := st0.ladder o (a.plan.at start).2.1
    let g : StepGen := { st := st0 }
    let g := if a.state == .tracking then g else debtSteps o base 8 (planSteps a.plan o start base 8 g)
    let st := if a.state == .tracking then g.st else g.st.turnAhead a.plan o (start + 50000) base
    let st := { st with sched := [a.step.sched.getLastD 0, g.signed] }
    let dirLevel (neg : Bool) : Bool := neg != acDirInvert o
    let pulses : List (BitVec 11) := g.rises.flatMap fun k => [BitVec.ofNat 11 k, BitVec.ofNat 11 (k + acWidth o)]
    let write (n : Nat) (level : Bool) (edges : List (BitVec 11)) (s : State) : State :=
      if h : n < 128 then s.pulseWrite .mot ⟨n, h⟩ level edges else s
    let s := s.updAxis ax fun a => { a with step := st }
    let s := write (axStepCh o) false pulses s
    let dirMoves := edgeIn base st.dirEdge
    let s := write (axDirCh o) (if st.dirEdge.isNone then dirLevel st.dirNeg else dirLevel (!st.dirNeg)) dirMoves s
    if !acMs o then s
    else
      let ms := edgeIn base st.msEdge
      let now := msLevels o (if st.msEdge.isNone then st.rung else st.msShown)
      let next := msLevels o st.rung
      let line (bit : Nat) (n : Nat) (s : State) : State :=
        let l := now.testBit bit
        write n l (if l != next.testBit bit then ms else []) s
      line 1 (axMs1Ch o) (line 0 (axMs0Ch o) s)

/-- OUTPUT_CUTOFF (R27, R29): the step axes' edges are scheduled, then the frames of the next tick are built from the
owners' values. -/
def execOutputCutoff (t : Ns) (s : State) : Res := .next (forAll 16 State.stepAxis (s.begin t)).cutOff

end Sys2Proof.Machine
end

