-- ==== Sys2Proof/Machine/Barrier.lean ====
section
/-! DEFINITION. The lateral barrier of a pair: what a BARRIER carries, its sending and its meeting, comparison of outputs
and windows, and the withdrawal of a member (R364 to R367, R370, R380). -/

namespace Sys2Proof

/-- State codes of R380. -/
def Machine.Member.code : Machine.Member → Nat
  | .unformed => 0 | .joining => 1 | .shadow => 2 | .lead => 3 | .out => 4

end Sys2Proof

namespace Sys2Proof.Machine

/-! ### Member states (R380, R389) -/

/-- A change of member state is recorded with its cause: 0 reset, 1 grant, 2 lead heard, 3 joined, 4 step-down or
hand-over, 5 mismatch, 6 ECC halt, 7 joining failed, 8 RELEASE_SHADOW, 9 lateral link. -/
def State.setMember (m : Member) (cause : Nat) (s : State) : State :=
  if s.pair.state = m then s
  else
    (s.updPair fun p => { p with
      state := m, changed := s.now, changedAt := s.clock,
      holdoffFrom := if m = .shadow then some s.clock else none,
      barrier := if m = .shadow || m = .lead then p.barrier else { p.barrier with partnerLive := false } }).record .rng
        .memberState [m.code, cause]

/-- Whether both members originate frames and compute: their own part of it. -/
def State.computes (s : State) : Bool := s.pair.state == .lead || s.pair.state == .shadow

/-- Whether the module may compute its program: a pair member that joins or is OUT does not (R380). -/
def State.mayCompute (s : State) : Bool :=
  !s.isPair || s.computes || s.pair.state == .unformed

/-- The shadow withdraws: it starts joining again, or goes OUT where PAIR_MISMATCH recurred within an hour of the last such
rejoin (R370). -/
def State.withdrawMember (s : State) : State :=
  let recurs := match s.pair.lastMismatchRejoin with | some r => decide (s.clock ≤ r + 3600000000000) | none => false
  if recurs then s.setMember .out 5
  else (s.updPair fun p => { p with join := { p.join with step := 0, start := none, afterMismatch := true } }).setMember .joining 5

/-- PAIR_MISMATCH (R370, R389): `digest` tells windows from cycles, `run` how many in a row, `n` the bus cycle or program
cycle. -/
def State.raiseMismatch (digest : Bool) (run n : Nat) (s : State) : State :=
  let s := (s.updPair fun p => { p with
    mismatch := true, lastMismatchAt := some s.clock,
    holdoffFrom := if p.state = .shadow then some s.clock else p.holdoffFrom }).record .rng .pairMismatch
      [if digest then 1 else 0, n]
  if s.pair.state = .shadow then
    let rejoined := match s.pair.lastMismatchRejoin with
      | some r => decide (s.clock ≤ r + 3600000000000)
      | none => false
    if 3 ≤ run || rejoined then s.withdrawMember else s
  else s

/-! ### The content of a BARRIER (R364) -/

/-- The newest bus cycle whose images have been swapped (R137). -/
def State.newestBus (s : State) : Nat := if s.ring.windowEnded then s.ring.busCycle else s.ring.busCycle - 1

/-- A station's front buffer of a bus cycle: the newest, or the one before (R365). -/
def Station.imageOf (x : Station) (newest bus : Nat) : InImage := if bus = newest then x.front else x.prevFront

/-- CRC-32C over an image and its qualities. -/
def InImage.crc (x : InImage) : BitVec 32 :=
  crc32c (x.words.flatMap (fun w => wr 4 w.toNat) ++ x.quals.flatMap fun q => wr 1 q.toNat)

/-- A member's 128 local channels as a BARRIER carries them, from its latest published tick (R364). -/
def State.localImages (s : State) : List (Fin 128 × LocalImage) :=
  s.latestImage.locals.map fun (i, x, q) => (i, { input := x.input, meas := x.meas, quality := q.code })

/-- Position of a halt cause in R151. -/
def HaltCause.num : HaltCause → Fin 5
  | .watchdog => 0 | .trap => 1 | .ecc => 2 | .eventOverrun => 3 | .stall => 4

def HaltCause.ofNum : Fin 5 → HaltCause
  | 0 => .watchdog | 1 => .trap | 2 => .ecc | 3 => .eventOverrun | 4 => .stall

/-- Whether a write came from the partner. -/
def isPartner : Origin → Bool
  | .partner _ => true
  | _ => false

/-- The BARRIER of the next cycle (R364, R366, R378, R401, R462): it carries the host writes this member has accepted, be it
still the lead or not, and the outcomes of the partner's. -/
def State.barrierMsg (idle : Bool) (s : State) : BarrierMsg :=
  let n := s.newestBus
  let lead := s.pair.state == .lead
  let events := s.pair.barrier.events
  { cycle := s.prg.cycleNumber + 1, idle := idle, stamp := s.now, outputCrc := s.pair.barrier.ownCrc, newestBus := n,
    crcs := s.ring.stations.map fun x => (x.index, (x.imageOf n n).crc, (x.imageOf n (n - 1)).crc),
    locals := s.localImages,
    events := events.filterMap fun e => match e with | .edge ch rise stamp count => some (ch, rise, stamp, count) | _ => none,
    posts := events.filterMap fun e => match e with | .post mb stamp data => some (mb, stamp, data) | _ => none,
    revertReq := s.pair.revertReq, fromLead := lead,
    writes := (s.pair.forwards.filter fun f => !isPartner f.org && !f.sent).map fun f => { id := f.id, desc := f.desc, obj := f.obj },
    outcomes := (s.pair.forwards.filter fun f => isPartner f.org).filterMap fun f => f.own.map fun o => (f.id, o.disp, o.status),
    retries := if lead then s.pair.retriesDue else [],
    mailbox := s.mb.toPartner,
    pps := s.time.ppsEdges.head?.map fun e => (e.1.toNat, e.2),
    halted := if s.prg.state = .halted then s.prg.halt.map fun h => h.cause.num else none,
    armed := (s.xch.switch.map Switch.ownArmed).getD false, longActs := s.prg.longHeld }

/-- BARRIER_SEND (R364 step 3); `idle` where no program cycles (DEDUCED, log 55). -/
def State.sendBarrier (idle : Bool) (s : State) : State :=
  let m := s.barrierMsg idle
  let s := s.emit (.barrier m)
  let s := s.pair.barrier.events.foldl (fun s e =>
    match e with
    | .edge ch .. => s.queueEvent (.edge ch) e
    | .post mb .. => s.queueEvent (.post mb) e) s
  let sent (f : Forward) : Forward := if isPartner f.org then f else { f with sent := true }
  let s := s.updPair fun p => { p with
    forwards := (p.forwards.filter fun f => !(isPartner f.org && f.own.isSome)).map sent,
    forwardedCount := p.forwardedCount + m.writes.length, retriesDue := [],
    barrier := { p.barrier with own := some (m.cycle, m.stamp), ownMsg := some m, idle := idle, ownAt := s.clock,
                                passed := false, started := false, events := [] } }
  (s.updMb fun q => { q with toPartner := [] }).updTime fun x => { x with ppsEdges := x.ppsEdges.drop 1 }

/-! ### Meeting at the barrier (R364 steps 4 and 5, R365) -/

/-- An event of the partner enters the queues in order of trigger stamp, member A's first on equal stamps (R366). -/
def eventStamp : PrgEvent → Int
  | .edge _ _ t _ => t
  | .post _ t _ => t

/-- Inserts an event of the partner into a queue. -/
def insertEvent (mine : Bool) (e : PrgEvent) (q : List PrgEvent) : List PrgEvent :=
  let before := q.takeWhile fun x => if mine then decide (eventStamp x ≤ eventStamp e) else decide (eventStamp x < eventStamp e)
  before ++ e :: q.drop before.length

/-- The partner's events reach the tasks. -/
def State.partnerQueue (trig : Trigger) (e : PrgEvent) (s : State) : State :=
  let ownFirst := s.role == some .pairA
  if s.prg.live then
    s.updPrg fun p => { p with events := p.events.map fun k =>
      if k.trigger = trig then
        (if k.queue.length < 16 then { k with queue := insertEvent ownFirst e k.queue } else { k with lost := satAdd 32 k.lost 1 })
      else k }
  else s

/-- The partner's local image as the snapshot shows it (R365). -/
def partnerSample (stamp : Int) (x : Fin 128 × LocalImage) : Fin 128 × Sample × Quality :=
  (x.1, { input := x.2.input, meas := x.2.meas, stamp := stamp }, qualityOf x.2.quality)

/-- Stations whose image of the agreed bus cycle differs between the members (R364 step 5). -/
def differing (own partner : BarrierMsg) (agreed : Nat) : List Nat :=
  own.crcs.filterMap fun (i, a, b) =>
    match partner.crcs.find? (fun x => x.1 = i) with
    | none => none
    | some (_, pa, pb) =>
      let mine := if agreed = own.newestBus then a else b
      let theirs := if agreed = partner.newestBus then pa else pb
      if mine = theirs then none else some i

/-- The lead's images of some stations (R362, R364 step 5). -/
def State.fixImages (agreed : Nat) (l : List Nat) (s : State) : List (Nat × Nat × List Word) :=
  l.filterMap fun i => (s.station? i).map fun x => (i, agreed, (x.imageOf s.newestBus agreed).words)

/-- The output CRCs of the cycle before are compared (R365, R370). -/
def State.compareOutputs (m : BarrierMsg) (s : State) : State :=
  let equal := decide (m.outputCrc = s.pair.barrier.ownCrc)
  let run := if equal then 0 else s.pair.crcRun + 1
  let s := s.updPair fun p => { p with
    crcsCompared := p.crcsCompared + 1, crcMismatches := if equal then p.crcMismatches else p.crcMismatches + 1, crcRun := run,
    barrier := { p.barrier with partnerCrc := some m.outputCrc } }
  if equal then s else s.raiseMismatch false run (m.cycle - 1)

/-- Delay from the barrier stamp to a forwarded write's release: none for VAR_WRITE and program commands, 100 µs for every
other (R368). -/
def releaseDelay (desc : Bytes) : Int :=
  if [opVarWrite, opProgramControl, opProgramParam, opProgramSwitch, opImageStage].contains (rd desc 0 2) then 0 else 100000

/-- Whether a descriptor goes through the tunnel (R351, R424). -/
def descTunnel (desc : Bytes) : Bool := rdBits desc 2 2 2 == 1

/-- A write takes its place by its number, which both members know (R369). -/
def insertForward (f : Forward) : List Forward → List Forward
  | [] => [f]
  | g :: r => if f.id < g.id then f :: g :: r else g :: insertForward f r

def sortForwards (l : List Forward) : List Forward := l.foldl (fun r f => insertForward f r) []

/-- The writes that both BARRIERs carry are put down for their release; tunnel requests and the lead's retries are scheduled
from the first bus cycle at or after B + 50 µs (R364, R368). -/
def State.releaseWrites (own m : BarrierMsg) (s : State) : State :=
  let b := max own.stamp m.stamp
  let clockOf (x : Int) : Ns := (x - s.time.ringOff).toNat
  let sent (f : Forward) : Bool := f.due.isNone && (isPartner f.org || own.writes.any fun w => w.id = f.id)
  let tunnels := (sortForwards (s.pair.forwards.filter fun f => sent f && descTunnel f.desc)).map fun f =>
    (f.org, f.desc, f.obj, b + 50000)
  let mine (f : Forward) : Forward := if sent f then { f with due := some (clockOf (b + releaseDelay f.desc)) } else f
  let retries := (own.retries ++ m.retries).map fun r => (r, b + 50000)
  s.updPair fun p => { p with
    forwards := p.forwards.map mine, tunnelsDue := p.tunnelsDue ++ tunnels, retriesAt := p.retriesAt ++ retries }

/-- BARRIER_MEET (R364 steps 4 and 5, R365, R366): both BARRIERs of the cycle are there. The lead sends its images of
stations that differ; the shadow waits for them. -/
def State.meetBarrier (s : State) : State :=
  match s.pair.barrier.ownMsg, s.pair.barrier.partnerMsg with
  | some own, some m =>
    if m.cycle = own.cycle && m.idle == own.idle && s.inStep && !s.pair.barrier.passed then
      let agreed := min own.newestBus m.newestBus
      let diff := differing own m agreed
      let lead := s.pair.state == .lead
      let wait := (s.clock - s.pair.barrier.ownAt) / 1000
      let s := s.updPair fun p => { p with barrier := { p.barrier with
        stamp := max own.stamp m.stamp, agreedBus := agreed, fixWait := if lead then [] else diff, fixCount := diff.length,
        lastWaitUs := wait, maxWaitUs := max p.barrier.maxWaitUs wait, passed := lead || diff.isEmpty,
        partnerLocals := m.locals.map (partnerSample m.stamp), partnerMsg := none } }
      let s := if lead && !diff.isEmpty then s.emit (.imageFix (s.fixImages agreed diff)) else s
      let s := m.events.foldl (fun s (ch, rise, st, c) => s.partnerQueue (.edge ch) (.edge ch rise st c)) s
      let s := m.posts.foldl (fun s (mb, st, d) => s.partnerQueue (.post mb) (.post mb st d)) s
      let acts := if lead then s.prg.longHeld else m.longActs
      let s := s.updPrg fun p => { p with longHeld := acts }
      (s.releaseWrites own m).compareOutputs m
    else s
  | _, _ => s

/-- Whether a cycle may run past the barrier: the barrier has been passed, or no partner is waited for (R364, R372). -/
def State.barrierOpen (s : State) : Bool := !s.inStep || s.pair.barrier.passed

/-- LOCAL_A or LOCAL_B of a lost partner holds its last values with quality BAD (R365). -/
def State.losePartner (s : State) : State :=
  s.updPair fun p => { p with barrier := { p.barrier with
    partnerLive := false, partnerMsg := none, fixWait := [],
    partnerLocals := p.barrier.partnerLocals.map fun (i, x, _) => (i, x, .bad) } }

end Sys2Proof.Machine
end

