-- ==== Sys2Proof/Machine/SafetyObj.lean ====
section
/-! DEFINITION. The safety configuration object and its entries (R281 to R284), and which functions use which channels
(R76, R285). -/

namespace Sys2Proof.Machine

def safChCount (o : Bytes) : Nat := rd o 4 1
def safConnCount (o : Bytes) : Nat := rd o 5 1
def safSfCount (o : Bytes) : Nat := rd o 6 1
def safId (o : Bytes) : Nat := rd o 0 4
def safCrc (o : Bytes) : Nat := rd o 28 4

/-- Channel entries of 8 bytes (R282). -/
def safChEntries (o : Bytes) : List Bytes := (List.range (safChCount o)).map fun k => (o.drop (32 + 8 * k)).take 8

/-- Connection entries of 16 bytes (R283). -/
def safConnEntries (o : Bytes) : List Bytes :=
  (List.range (safConnCount o)).map fun k => (o.drop (32 + 8 * safChCount o + 16 * k)).take 16

/-- Function entries of 64 bytes (R284). -/
def safFnEntries (o : Bytes) : List Bytes :=
  (List.range (safSfCount o)).map fun k => (o.drop (32 + 8 * safChCount o + 16 * safConnCount o + 64 * k)).take 64

def scIndex (e : Bytes) : Nat := rdBits e 0 5 0
def scKind (e : Bytes) : Nat := rd e 1 1
def scSource (e : Bytes) : Nat := rd e 2 1
def scBit (e : Bytes) : Nat := rd e 3 1
def scFilter (e : Bytes) : Nat := rd e 4 2
def scLocal (e : Bytes) : Bool := scKind e == 1 || scKind e == 2
def scSdi (e : Bytes) : Bool := scKind e == 1 || scKind e == 3

def cnIndex (e : Bytes) : Nat := rdBits e 0 4 0
def cnProduces (e : Bytes) : Bool := rdBits e 1 0 0 == 1
def cnStation (e : Bytes) : Nat := rd e 2 2
def cnId (e : Bytes) : Nat := rd e 4 4
def cnWd (e : Bytes) : Nat := rd e 8 2
def cnPeerTime (e : Bytes) : Nat := rd e 10 2
def cnSeal (e : Bytes) : Bytes := (e.drop 12).take 4

def sfEnable (e : Bytes) : Bool := rdBits e 0 7 7 == 1
def sfIndex (e : Bytes) : Nat := rdBits e 0 5 0
def sfRestart (e : Bytes) : Bool := rdBits e 1 1 1 == 1
def sfSto (e : Bytes) : Bool := rdBits e 1 0 0 == 1
def sfInA (e : Bytes) (p : Nat) : Nat := rd e (8 + 8 * p) 1
def sfInB (e : Bytes) (p : Nat) : Nat := rd e (9 + 8 * p) 1
def sfAnti (e : Bytes) (p : Nat) : Bool := rdBits e (10 + 8 * p) 1 1 == 1
def sfStart (e : Bytes) (p : Nat) : Bool := rdBits e (10 + 8 * p) 0 0 == 1
def sfTd (e : Bytes) (p : Nat) : Nat := rd e (12 + 8 * p) 2
def sfOuts (e : Bytes) : List Nat := ((List.range 4).map fun k => rd e (40 + k) 1).filter (· ≠ 0xFF)
def sfOvrs (e : Bytes) : List Nat := ((List.range 4).map fun k => rd e (44 + k) 1).filter (· ≠ 0xFF)
def sfReset (e : Bytes) : Nat := rd e 48 1
def sfFb (e : Bytes) : Nat := rd e 49 1
def sfFbTime (e : Bytes) : Nat := rd e 50 2
def sfAxes (e : Bytes) : Nat := rd e 52 2
def sfPst (e : Bytes) : Nat := rd e 54 2

/-- Whether an input pair is used. -/
def sfPairUsed (e : Bytes) (p : Nat) : Bool := sfInA e p != 0xFF

/-- Input channels of a function's pairs. -/
def sfInputs (e : Bytes) : List Nat :=
  (List.range 4).flatMap fun p => if sfPairUsed e p then [sfInA e p, sfInB e p] else []

/-- The entry of a safety channel. -/
def safChan (o : Bytes) (i : Nat) : Option Bytes := (safChEntries o).find? fun e => scIndex e = i

/-- The entry of a connection. -/
def safConn (o : Bytes) (i : Nat) : Option Bytes := (safConnEntries o).find? fun e => cnIndex e = i

/-- The entry of a function. -/
def safFn (o : Bytes) (i : Nat) : Option Bytes := (safFnEntries o).find? fun e => sfIndex e = i

/-- The local channel of a safety channel, where it is local. -/
def safLocal (o : Bytes) (i : Nat) : Option Nat :=
  (safChan o i).bind fun e => if scLocal e then some (scSource e) else none

/-- Local channels a function uses as input, output, override, reset or feedback (R285). -/
def sfLocals (o e : Bytes) : List Nat :=
  (sfInputs e ++ sfOuts e ++ [sfReset e] ++ (if sfFb e = 0xFF then [] else [sfFb e])).filterMap (safLocal o) ++ sfOvrs e

/-- Whether an active function uses a channel of a group (R76, R285). -/
def State.groupInUse (s : State) (g : Fin 8) : Bool :=
  match s.saf.cfg with
  | none => false
  | some o => (safFnEntries o).any fun e => sfEnable e && (sfLocals o e).any fun c => c / 16 == g.val

end Sys2Proof.Machine
end

