-- ==== Sys2Proof/Machine/Groups.lean ====
section
/-! DEFINITION. Group configuration (R53 to R56, R75 to R79, R105, R547), characteristic tables (R109 to R111) and
calibration (R112 to R115). -/

namespace Sys2Proof.Machine

/-! ### The checks of a group object (R21, R51 to R56, R105) -/

/-- Reserved bits of a channel record, by mode (R54, R104). -/
def recReservedOk (r : Bytes) : Bool :=
  let m := recMode r
  rdBits r 0 7 7 == 0 && rdBits r 1 7 6 == 0 && rdBits r 2 7 5 == 0 && rd r 3 1 == 0 &&
    (if m.isAo || m.isAi then
      rdBits r 28 7 6 == 0 && rdBits r 28 4 2 == 0 && rd r 29 1 == 0 && (m.isAi || rd r 30 2 == 0)
    else zeroAt r 16 16 && recChar r == 0xFFFF)

/-- Ranges of a channel record (R54, R56, R86, R104). -/
def recRangesOk (r : Bytes) : Bool :=
  let m := recMode r
  decide (1 ≤ recFilter r ∧ recFilter r ≤ 2000) &&
    (rd r 10 2 == 0 || decide (100 ≤ rd r 10 2 ∧ rd r 10 2 ≤ 1000 ∧ (rd r 10 2 - 100) % 25 = 0)) &&
    (rd r 12 2 == 0 || decide (4 ≤ rd r 12 2 ∧ rd r 12 2 ≤ 200)) &&
    (recChar r == 0xFFFF || decide (recChar r < 128)) &&
    (if recSubst r = 1 then (if m.isAo then decide (recSubstValue r ≤ 60000) else decide (recSubstValue r ≤ 1)) else true) &&
    (if m.isAo then decide (recOutMin r ≤ 60000 ∧ recOutMin r < recOutMax r ∧ recOutMax r ≤ 60000) else true) &&
    (if m.isAi then decide (recTau r ≤ 10000 ∧ recCut r ≤ 2000 ∧ recRangeDelay r ≤ 60000) else true)

/-- The owner code of a record, where it is not reserved (R20). -/
def recOwner? (r : Bytes) : Option Owner := Owner.ofCode (rdBits r 0 6 4)

/-- Codes and pairings of a channel record (R51, R52, R54, R55, R104). A reserved owner code is left to the policy check (R21). The
safety enable of R52 is the header's SAFETY_EN (DESIGN CHOICE, log 83): where it differs from the enable register,
REFUSED_POLICY follows. -/
def recCodesOk (safety : Bool) (r : Bytes) : Bool :=
  let m := recMode r
  (ChanMode.ofCode (rdBits r 0 3 0)).isSome && recFailDir r != 3 &&
    recSubst r != 3 && (recSubst r != 1 || m.isOut) && (match recOwner? r with | some o => m.accepts o | none => true) &&
    ((m != .sdi && m != .sdo) || safety) &&
    (if m.isAo then recCharKind r == 0 || recCharKind r == 2 else if m.isAi then recCharKind r != 3 else true)

/-- The scaling fields of an AO or AI record (R105). -/
def State.recScaleOk (s : State) (r : Bytes) : Bool :=
  let m := recMode r
  if m.isAo || m.isAi then
    (rdF32 r 16).isSome && (rdF32 r 20).isSome && recLo r != recHi r &&
      (if recCharKind r = 2 then (s.charOf r).isSome else recChar r == 0xFFFF)
  else true

def recordOk (s : State) (safety : Bool) (r : Bytes) : Bool :=
  recReservedOk r && recRangesOk r && recCodesOk safety r && s.recScaleOk r

def gcGroup (o : Bytes) : Fin 8 := ⟨rdBits o 0 2 0, by unfold rdBits bitsOf; simp; omega⟩
def gcEnable (o : Bytes) : Bool := rdBits o 1 0 0 == 1
def gcSafety (o : Bytes) : Bool := rdBits o 1 1 1 == 1

/-- The header of a group object (R53). -/
def gcHeaderOk (o : Bytes) : Bool :=
  rdBits o 0 7 3 == 0 && rdBits o 1 7 2 == 0 && rd o 2 2 == 0 && zeroAt o 8 24 &&
    (rd o 4 4 == 0 || decide (10 ≤ rd o 4 4 ∧ rd o 4 4 ≤ 3600000))

/-- Owner of channel `i` under a group object; NONE with ENABLE clear (R53). -/
def gcOwner (o : Bytes) (i : Fin 16) : Owner := if gcEnable o then recOwner (recordOf o i.val) else .none

/-- Owners permitted in a role (R20, R21). -/
def ownerAllowed (r : Option Role) (o : Owner) : Bool :=
  match o with
  | .none => true
  | .prg => r == some .controller
  | .ctl | .mot | .saf => r == some .controller || r == some .iostation
  | .ring => r == some .iostation

/-- Whether the object changes an owner of the channel-ownership table (R55). -/
def State.changesOwner (s : State) (o : Bytes) : Bool :=
  (List.finRange 16).any fun i => gcOwner o i != s.owner (chanOf (gcGroup o) i)

/-- The checks of a group object in the order of R55, then those of R76. -/
def State.groupCheck (s : State) (o : Bytes) : Option Outcome :=
  let g := gcGroup o
  firstOf
    [badField (!gcHeaderOk o),
     badField (gcEnable o && !((List.finRange 16).all fun i => recordOk s (gcSafety o) (recordOf o i.val))),
     fails (gcEnable o && !((List.finRange 16).all fun i => (recOwner? (recordOf o i.val)).isSome)) (.policy stPolicyRule),
     fails (!((List.finRange 16).all fun i => ownerAllowed s.role (gcOwner o i))) (.policy stPolicyRole),
     fails (gcSafety o != s.safetyGroup g) (.policy stPolicyRule),
     fails (s.lockChown && s.changesOwner o) (.policy stPolicyMordant),
     fails (s.groups[g].change.isSome || (s.safetyGroup g && s.groupInUse g)) .busy,
     fails (s.storeOverflow (BitVec.ofNat 16 opGroupConfig) g.val o) .capacity]

/-! ### The change (R77 to R79, R547) -/

/-- An accepted GROUP_CONFIG begins: outputs go to their substitute values, inputs to BAD with CFG_CHANGE, waiting HART
requests end, and the transfer of the chunks starts (R77, R121). -/
def State.groupBegin (org : Origin) (o : Bytes) (s : State) : State :=
  let g := gcGroup o
  let s := s.updGroup g fun q => { q with
    change := some { org := org, obj := o, newEpoch := q.epoch + 1, accepted := s.clock }, stuckSubst := false,
    served := true }
  forAll 16 (fun i s =>
    let ch := chanOf g i
    let s := (s.updChan ch fun c => { c with quality := .bad }).putDiag ch .cfgChange true
    s.hartFlush ch stHartCfgChange) s

/-- GROUP_CONFIG (R53 to R56, R76, R77). -/
def execGroupConfig (t : Ns) (org : Origin) (obj : Bytes) (s : State) : Res :=
  let s := s.begin t
  serve org opGroupConfig [.svc] (badField (obj.length != 544)) (s.groupCheck obj) (State.groupBegin org obj) s

/-- The 16 owners of a group go into the channel-ownership table (R547). -/
def State.writeOwners (g : Fin 8) (f : Fin 16 → Owner) (s : State) : State :=
  let word (half : Nat) : Word :=
    BitVec.ofNat 32 ((List.range 8).foldl (fun a i => a + (if h : 8 * half + i < 16 then (f ⟨8 * half + i, h⟩).code else 0) * 16 ^ i) 0)
  let v := s.regs.chown.set (2 * g.val) (Tmr.of (word 0)) (by omega)
  let v := v.set (2 * g.val + 1) (Tmr.of (word 1)) (by omega)
  s.updRegs fun r => { r with chown := v }

/-- A channel under a new configuration: a changed mode or owner starts off until the new owner writes, and its demand is
gone; its conversion starts anew (R77, R78, R101, R102). -/
def Chan.reconfigure (changed : Bool) (c : Chan) : Chan :=
  { c with fresh := changed || c.fresh, swapped := changed, demand := if changed then {} else c.demand,
           late := if changed then [] else c.late, filt := none, lp := none, lastGoodValue := none,
           bandSince := none, outsideSince := none, cutActive := false, edgeTotal := 0, rbDue := none,
           shortfallSince := none, shortfallOkSince := none, holdReq := !changed && c.holdReq, quality := .bad,
           pstopSubst := !changed && c.pstopSubst, ringSubst := !changed && c.ringSubst }

/-- The logic side takes the group's new configuration: epoch, owners, modes (R77, R547). -/
def State.groupAdopt (g : Fin 8) (o : Bytes) (epoch : BitVec 6) (s : State) : State :=
  let cfg := if gcEnable o then some o else none
  let old := s
  let s := s.updGroup g fun q => { q with cfg := cfg, epoch := epoch }
  let s := s.writeOwners g (gcOwner o)
  forAll 16 (fun i s =>
    let ch := chanOf g i
    let r := recordIn cfg ch
    let changed := decide (recMode r ≠ old.mode ch) || decide (gcOwner o i ≠ old.owner ch)
    (s.updChan ch (Chan.reconfigure changed)).updHart ch fun h =>
      { h with state := if hartOn r then .idle else .disabled, active := none, waiting := [], txQueue := [], txEnd := none }) s

/-- CFG_COMMIT (R77): every chunk is sent and received, and the group's cells take the new epoch in one tick. -/
def execCfgCommit (t : Ns) (g : Fin 8) (s : State) : Res :=
  let s := s.begin t
  match s.groups[g].change with
  | none => .next s
  | some c =>
    let taken := s.gfes[g].epoch == c.newEpoch && s.gfes[g].chunks.isEmpty
    if c.committed || c.next < 35 || !(taken || (s.gfes[g].complete && s.gfes[g].object == c.obj)) then .next s
    else
      let old := s.groups[g].epoch
      let s := if taken then s else s.gfeAdopt g c.obj c.newEpoch
      let s := s.groupAdopt g c.obj c.newEpoch
      let s := s.updGroup g fun q => { q with change := some { c with committed := true } }
      .next (s.record .svc .groupReconfig [g.val, old.toNat, c.newEpoch.toNat])

/-! ### Characteristic tables (R109 to R111) -/

def clIndex (o : Bytes) : Nat := rd o 0 2

/-- Strictly rising, strictly falling lists. -/
def rising : List Rat → Bool
  | a :: b :: l => decide (a < b) && rising (b :: l)
  | _ => true
def falling : List Rat → Bool
  | a :: b :: l => decide (b < a) && falling (b :: l)
  | _ => true

/-- The checks of R111 on the object itself. -/
def charOk (o : Bytes) : Bool :=
  let n := charCount o
  let xs := (charPoints o).map Prod.fst
  let ys := (charPoints o).map Prod.snd
  let inRange (l : List Rat) : Bool := l.all fun v => decide (0 ≤ v) && decide (v ≤ 24)
  decide (clIndex o < 128) && rdBits o 2 7 1 == 0 && decide (2 ≤ n ∧ n ≤ 32) && rd o 4 4 == 0 &&
    ((List.range n).all fun k => (rdF32 o (8 + 8 * k)).isSome && (rdF32 o (12 + 8 * k)).isSome) &&
    zeroAt o (8 + 8 * n) (256 - 8 * n) && rising xs &&
    (if charKind o = 0 then inRange xs else inRange ys && (rising ys || falling ys))

/-- Channels whose record names a table (R111, R126). -/
def State.charUsers (s : State) (idx : Nat) : List (Fin 128) :=
  (List.finRange 128).filter fun ch =>
    let r := s.chanRec ch
    s.groups[grp ch].cfg.isSome && ((recMode r).isAo || (recMode r).isAi) && recChar r == idx

/-- The table comes into force, with the stamp of this instant (R126; DESIGN CHOICE for a stored one, log 93). -/
def State.loadChar (o : Bytes) (s : State) : State :=
  if h : clIndex o < 128 then
    ({ s with chars := s.chars.set (clIndex o) (some { obj := o, stamp := s.now }) }).storeObject
      (BitVec.ofNat 16 opCharLoad) (clIndex o) (some o)
  else s

/-- Whether an earlier CHAR_LOAD of this index has not completed: in a pair a write completes once both members have reported it
(R111, R378). -/
def State.charPending (s : State) (org : Origin) (idx : Nat) : Bool :=
  (s.pair.forwards.takeWhile fun f => f.org != org).any fun f => rd f.desc 0 2 == opCharLoad && clIndex f.obj == idx

/-- CHAR_LOAD (R109, R111). -/
def execCharLoad (t : Ns) (org : Origin) (obj : Bytes) (s : State) : Res :=
  let s := s.begin t
  serve org opCharLoad [.svc] (badField (obj.length != 264))
    (firstOf [badField (!charOk obj), fails (!(s.charUsers (clIndex obj)).isEmpty) (.error stTableInUse),
      fails (s.charPending org (clIndex obj)) .busy,
      fails (s.storeOverflow (BitVec.ofNat 16 opCharLoad) (clIndex obj) obj) .capacity])
    (fun s => (s.loadChar obj).complete org .done) s

/-! ### Calibration (R112 to R115) -/

/-- Error budget of a class in mA (R115); for UNCAL, whose error is not stated, that of class C (DESIGN CHOICE, log 91). -/
def AccClass.budget : AccClass → Rat
  | .a => 10 / 1000 | .b => 20 / 1000 | .c => 50 / 1000 | .uncal => 50 / 1000

/-- Class of a worst-case error at a calibration interval: beyond class C it is UNCAL at the 15 min interval only (R115). -/
def AccClass.ofError (e : Rat) (interval : Nat) : AccClass :=
  if e ≤ 10 / 1000 then .a else if e ≤ 20 / 1000 then .b else if e ≤ 50 / 1000 || 900 < interval then .c else .uncal

def AccClass.rank : AccClass → Nat
  | .a => 0 | .b => 1 | .c => 2 | .uncal => 3

/-- The worse of two classes. -/
def AccClass.worse (x y : AccClass) : AccClass := if x.rank ≤ y.rank then y else x

/-- CALIBRATION_CHECK (R112): SVC starts a check that is due: one per group, none under front-end trim access (R553), and
in a safety group not in the tick of an off-pulse slot. -/
def execCalibrationCheck (t : Ns) (ch : Fin 128) (s : State) : Res :=
  let s := s.begin t
  let g := grp ch
  let m := s.mode ch
  let busy := (List.finRange 16).any fun i => s.chans[chanOf g i].cal.running.isSome
  let slot := s.safetyGroup g && (List.finRange 16).any fun i => s.chans[chanOf g i].pulseReq || s.cells[chanOf g i].offPulseAt.isSome
  if (m.isAo || m.isAi) && s.up .svc && !busy && !slot && !s.regs.testCtl.getLsbD (16 + g.val) &&
      decide (s.chans[ch].cal.nextDue ≤ s.clock) then
    .next (s.updChan ch fun c => { c with cal := { c.cal with running := some s.clock },
                                          quality := if m.isAi then .stale else c.quality })
  else .next s

/-- The new interval of a drift over the interval just ended, with the count of quiet checks (R114). -/
def calInterval (budget drift : Rat) (interval quiet : Nat) : Nat × Nat :=
  if budget / 2 < drift then (max 900 (interval / 2), 0)
  else if drift < budget / 4 then (if quiet + 1 = 4 then (min 28800 (2 * interval), 0) else (interval, quiet + 1))
  else (interval, 0)

/-- Outcome of a check on the calibration state: references disagreeing by more than 0.1 % keep gain and offset and set
REF_FAULT (R113); otherwise gain, offset, interval and class follow the readings (R112, R114, R115). -/
def Cal.check (now : Ns) (stamp : Int) (ref4 ref20 : Rat) (c : Cal) : Cal :=
  let fault := ref4 ≤ 0 || ref20 ≤ ref4 || decide (1 / 1000 < absR (ref20 / ref4 / 5 - 1))
  if fault then
    { c with refFault := true, goodRun := 0, cls := .uncal, running := none, stamp := some stamp, betterSince := none,
             nextDue := now + c.interval * 1000000000 }
  else
    let gain := 16 / (ref20 - ref4)
    let offset := 4 - gain * ref4
    let drift := max (absR (c.gain * ref4 + c.offset - 4)) (absR (c.gain * ref20 + c.offset - 20))
    let (interval, quiet) := calInterval c.cls.budget drift c.interval c.quarterRun
    let stillFault := c.refFault && c.goodRun + 1 < 2
    let reach := drift * interval / c.interval
    let shown : AccClass := if stillFault then .uncal else AccClass.ofError reach interval
    let since_ := since (shown.rank < c.cls.rank) now c.betterSince
    let best := if c.betterSince.isSome then c.better.worse shown else shown
    let cls : AccClass := if c.cls.rank ≤ shown.rank then shown
      else if held now since_ 604800000000000 then best else c.cls
    { c with gain := gain, offset := offset, stamp := some stamp, interval := interval, quarterRun := quiet,
             nextDue := now + interval * 1000000000, cls := cls, refFault := stillFault, goodRun := c.goodRun + 1,
             betterSince := if cls = c.cls then since_ else none, better := best, running := none }

/-- CALIBRATION_CHECK_END (R112 to R115): six ticks after its start the check's readings of the 4 mA and 20 mA references
are evaluated. -/
def execCalibrationCheckEnd (t : Ns) (ch : Fin 128) (ref4 ref20 : Rat) (s : State) : Res :=
  let s := s.begin t
  let old := s.chans[ch].cal
  match old.running with
  | none => .next s
  | some b =>
    if s.clock < b + 6 * tickNs then .next s
    else
      let new := old.check s.clock s.now ref4 ref20
      let s := s.updChan ch fun c => { c with cal := new }
      let s := s.measure 1 false ch.val (absR (ref20 - 20))
      let s := if new.refFault && !old.refFault then s.record .svc .refFault [ch.val] else s
      let s := if new.interval != old.interval then s.record .svc .calInterval [ch.val, old.interval, new.interval] else s
      let s := if new.cls != old.cls then s.record .svc .calClass [ch.val, old.cls.rank, new.cls.rank] else s
      .next ((s.ledgerWarn 1 ((List.finRange 128).any fun i => decide (2 ≤ s.chans[i].cal.cls.rank)) ch.val (ref20 - 20)).settleHealth)

end Sys2Proof.Machine
end

