-- ==== Sys2Proof/Machine/Hart.lean ====
section
/-! DEFINITION. HART on the current loops (R116 to R124). -/

namespace Sys2Proof.Machine

def hqChannel (o : Bytes) : Nat := rd o 0 1
def hqLong (o : Bytes) : Bool := rdBits o 1 7 7 == 1
def hqRetries (o : Bytes) : Nat := rdBits o 1 1 0
def hqCommand (o : Bytes) : Nat := rd o 9 1
def hqDataLen (o : Bytes) : Nat := rd o 10 1

/-- Format of a request object (R118). -/
def hartOk (o : Bytes) : Bool :=
  decide (hqChannel o < 128) && rdBits o 1 6 2 == 0 && decide (rd o 2 1 ≤ 63) && decide (5 ≤ rd o 3 1 ∧ rd o 3 1 ≤ 20) &&
    zeroAt o 11 5 && o.length == 16 + hqDataLen o

/-- Longitudinal parity of a HART frame. -/
def hartParity (b : Bytes) : Byte := b.foldl (· ^^^ ·) 0

/-- The frame a request sends, without its preambles: delimiter, address with the primary-master bit set and the burst bit
clear, command, byte count, data, parity (R118). -/
def hartFrame (o : Bytes) : Bytes :=
  let addr : Bytes :=
    if hqLong o then
      (match (o.drop 4).take 5 with
       | a :: rest => ((a ||| 0x80) &&& 0xBF) :: rest
       | [] => [])
    else [BitVec.ofNat 8 (rd o 2 1) ||| 0x80]
  let body := [if hqLong o then (0x82 : Byte) else 0x02] ++ addr ++ wr 1 (hqCommand o) ++ wr 1 (hqDataLen o) ++ o.drop 16
  body ++ [hartParity body]

/-- The characters on the wire: preambles, then the frame. -/
def hartWire (o : Bytes) : Bytes := List.replicate (rd o 3 1) 0xFF ++ hartFrame o

/-- Position of the command byte in a received frame, by its delimiter's address bit. -/
def rxCmdAt (f : Bytes) : Nat := if rdBits f 0 7 7 = 1 then 6 else 2

/-- A received frame of this delimiter type with a right length and parity (R121, R123). -/
def rxGood (type : Nat) (f : Bytes) : Bool :=
  let c := rxCmdAt f
  rdBits f 0 2 0 == type && f.length == c + 3 + rd f (c + 1) 1 && hartParity f == 0

/-- The response object of a received frame (R119). -/
def hartResponse (o : Bytes) (attempts : Nat) (stamp : Int) (f : Bytes) : Bytes :=
  let c := rxCmdAt f
  let n := rd f (c + 1) 1
  wr 1 (hqChannel o) ++ wr 1 (rd f c 1) ++ wr 1 (rd f (c + 2) 1) ++ wr 1 (rd f (c + 3) 1) ++ wr 1 (n - 2) ++ wr 1 attempts
    ++ [0, 0] ++ wrS 8 stamp ++ (f.drop (c + 4)).take (n - 2)

/-- A response to this module: delimiter type 6 and the primary-master bit in the address (R123). -/
def rxMine (f : Bytes) : Bool := rdBits f 0 2 0 == 6 && rdBits f 1 7 7 == 1

/-- A request joins its channel: on the modem if it is free, else among at most four waiting (R120). The counter of requests counts
every well-formed one, also those that end at once (DESIGN CHOICE, log 94). -/
def State.hartEnqueue (org : Origin) (o : Bytes) (s : State) : State :=
  if h : hqChannel o < 128 then
    let ch : Fin 128 := ⟨hqChannel o, h⟩
    let r := s.chanRec ch
    let x := s.harts[ch]
    let s := s.updHart ch fun h => { h with requests := satAdd 32 h.requests 1 }
    if !hartOn r then s.complete org (.error stHartDisabled)
    else if s.groups[grp ch].change.isSome then s.complete org (.error stHartCfgChange)
    else if s.cells[ch].silent || s.chans[ch].has .laneFailed then s.complete org (.error stHartLaneSilent)
    else if x.active.isNone then
      s.updHart ch fun h => { h with active := some { org := org, obj := o }, state := .waitGap }
    else if 4 ≤ x.waiting.length then
      (s.updHart ch fun h => { h with refused := satAdd 32 h.refused 1 }).complete org .capacity
    else s.updHart ch fun h => { h with waiting := h.waiting ++ [{ org := org, obj := o }] }
  else s.complete org (.error stInvalidField)

/-- HART_REQUEST (R118, R120, R121). -/
def execHartRequest (t : Ns) (org : Origin) (obj : Bytes) (s : State) : Res :=
  let s := s.begin t
  serve org opHartRequest [.svc, .tim] (badField (obj.length < 16 || 271 < obj.length)) (badField (!hartOk obj))
    (State.hartEnqueue org obj) s

/-- Whether the loop is free for a transmission: carrier clear for 20 ms, and with a bursting device within 20 ms of the end
of its last burst frame (R117). -/
def Hart.mayStart (now : Ns) (h : Hart) : Bool :=
  !h.carrier && decide (h.clearSince + 20000000 ≤ now) && (!h.bursting || decide (now ≤ h.lastBurstAt + 20000000))

/-- HART_TRANSMIT_START (R116, R117): the request goes onto the wire: its characters are handed to the cell one by one in the output
frames. -/
def execHartTransmitStart (t : Ns) (ch : Fin 128) (s : State) : Res :=
  let s := s.begin t
  let h := s.harts[ch]
  match h.active with
  | none => .next s
  | some q =>
    if h.state = .waitGap && h.mayStart s.clock then
      .next (s.updHart ch fun h => { h with
        state := .tx, active := some { q with attempts := q.attempts + 1 },
        txQueue := hartWire q.obj, txFirst := true, txGap := 0, txEnd := none, rxErr := false,
        retries := if q.attempts = 0 then h.retries else satAdd 32 h.retries 1 })
    else .next s

/-- The modem is free again: the oldest waiting request takes it (R120). -/
def Hart.next (h : Hart) : Hart :=
  match h.waiting with
  | [] => { h with active := none, state := .idle, txEnd := none, rxErr := false }
  | q :: rest => { h with active := some q, waiting := rest, state := .waitGap, txEnd := none, rxErr := false }

/-- A failed attempt: another one while RETRIES allow, else the request ends with HART_BAD_FRAME if any attempt drew a
response, HART_NO_RESPONSE otherwise, and HART_FAULT sets (R118, R121, R122). -/
def State.hartFailed (ch : Fin 128) (q : HartReq) (bad : Bool) (s : State) : State :=
  let q := { q with drewBad := q.drewBad || bad }
  if q.attempts ≤ hqRetries q.obj then
    s.updHart ch fun h => { h with active := some q, state := .waitGap, txEnd := none, rxErr := false }
  else
    let s := s.updHart ch fun h =>
      let h := if q.drewBad then { h with badFrame := satAdd 32 h.badFrame 1 } else { h with noResponse := satAdd 32 h.noResponse 1 }
      h.next
    (s.diagBoth ch .hartFault true).complete q.org (.error (if q.drewBad then stHartBadFrame else stHartNoResponse))

/-- HART_RESPONSE (R119, R121 to R123): a response to this module, by its delimiter and master bit, that started within 300 ms of the
last transmitted character. A bad length or checksum, or a character with a parity or framing error, makes it bad; any other frame
is none. -/
def execHartResponse (t : Ns) (ch : Fin 128) (start : Ns) (frame : Bytes) (s : State) : Res :=
  let s := s.begin t
  let h := s.harts[ch]
  match h.active, h.txEnd with
  | some q, some e =>
    if (h.state != .waitResp && h.state != .rx) || !rxMine frame || start < e || e + 300000000 < start then .next s
    else if rxGood 6 frame && !h.rxErr then
      let s := s.updHart ch fun h => ({ h with done := satAdd 32 h.done 1 } : Hart).next
      .next ((s.diagBoth ch .hartFault false).complete q.org
        (.done (hartResponse q.obj q.attempts (start + s.time.ringOff) frame)))
    else .next (s.hartFailed ch q true)
  | _, _ => .next s

/-- HART_NO_RESPONSE (R117, R121): 300 ms have passed since the last transmitted character, and no response has started, or what
started has ended without one. -/
def execHartNoResponse (t : Ns) (ch : Fin 128) (s : State) : Res :=
  let s := s.begin t
  let h := s.harts[ch]
  match h.active, h.txEnd with
  | some q, some e =>
    if !(h.state == .waitResp || (h.state == .rx && !h.carrier)) || s.clock < s.due .tim e 300000000 then .next s
    else .next (s.hartFailed ch q false)
  | _, _ => .next s

/-- Stores a burst frame: over the one of its command number, in a free slot, or over the one received longest ago; answers
the slot (R123). -/
def storeBurst (b : Burst) (l : List Burst) : List Burst × Nat :=
  match l.findIdx? fun x => x.cmd = b.cmd with
  | some i => (l.set i b, i)
  | none =>
    if l.length < 4 then (l ++ [b], l.length)
    else
      let oldest := (List.range l.length).foldl (fun best i =>
        match l[i]?, l[best]? with
        | some x, some y => if x.stamp < y.stamp then i else best
        | _, _ => best) 0
      (l.set oldest b, oldest)

/-- HART_BURST (R117, R123): a burst frame is stored and, with BURST_EVT, reported; a bad one is counted. -/
def execHartBurst (t : Ns) (ch : Fin 128) (start : Ns) (frame : Bytes) (s : State) : Res :=
  let s := s.begin t
  let r := s.chanRec ch
  if !hartOn r then .next s
  else
    let stamp : Int := start + s.time.ringOff
    let bad := s.harts[ch].rxErr
    let s := s.updHart ch fun h => { h with
      bursting := true, lastBurst := some stamp, lastBurstAt := s.clock, rxErr := false,
      state := if h.state = .rx then .waitResp else h.state }
    if rxGood 1 frame && !bad then
      let cmd := rd frame (rxCmdAt frame) 1
      let (l, slot) := storeBurst { cmd := BitVec.ofNat 8 cmd, stamp := stamp, bytes := frame } s.harts[ch].bursts
      let s := s.updHart ch fun h => { h with bursts := l, stored := satAdd 32 h.stored 1 }
      if recBurstEvt r then .next (s.postEventAt stamp 0x0002 ch.val (wr 1 cmd ++ wr 1 slot)) else .next s
    else .next (s.updHart ch fun h => { h with burstsBad := satAdd 32 h.burstsBad 1 })

/-- BURST_SILENCE (R117): no burst frame for 500 ms. -/
def execBurstSilence (t : Ns) (ch : Fin 128) (s : State) : Res :=
  let s := s.begin t
  let h := s.harts[ch]
  if h.bursting && decide (s.due .tim h.lastBurstAt 500000000 ≤ s.clock) then
    .next (s.updHart ch fun h => { h with bursting := false })
  else .next s

end Sys2Proof.Machine
end

