-- ==== Sys2Proof/Machine/Program.lean ====
section
/-! DEFINITION. Cyclic program execution (R127 to R163). -/

namespace Sys2Proof.Machine

/-! ### Timers, edge detectors and counters (R142 to R144) -/

/-- The instance at a key; without one, it starts as its KEY_MAP entry says (R143, R187). -/
def Running.inst (_r : Running) (d : PrgData) (k : BitVec 64) : Option Inst := (d.insts.find? fun x => x.1 = k).map Prod.snd

/-- PRIME_FALSE of a key. -/
def Running.primeFalse (r : Running) (k : BitVec 64) : Bool := ((r.find k).map KeyEntry.primeFalse).getD false

/-- Keeps an instance under its key. -/
def PrgData.put (d : PrgData) (k : BitVec 64) (i : Inst) : PrgData :=
  { d with insts := d.insts.filter (fun x => x.1 ≠ k) ++ [(k, i)] }

/-- Start, running and Q of a timer; a fresh one is at rest. -/
def timerOf : Option Inst → Int × Bool × Bool
  | some (.timer start _ running q) => (start, running, q)
  | _ => (0, false, false)

/-- TON (R142). -/
def tonStep (now : Int) (input : Bool) (pt : Int) (i : Option Inst) : Inst :=
  let (start, running, _) := timerOf i
  if !input then .timer start pt false false
  else
    let start := if running then start else now
    .timer start pt true (decide (pt ≤ now - start))

/-- TOF (R142): Q stays on for PT after the input has gone. -/
def tofStep (now : Int) (input : Bool) (pt : Int) (i : Option Inst) : Inst :=
  let (start, running, q) := timerOf i
  if input then .timer start pt false true
  else if !q then .timer start pt false false
  else
    let start := if running then start else now
    if pt ≤ now - start then .timer start pt false false else .timer start pt true true

/-- TP (R142): a pulse of PT, which a held input does not start again. -/
def tpStep (now : Int) (input : Bool) (pt : Int) (i : Option Inst) : Inst :=
  let (start, running, _) := timerOf i
  if running then
    let q := decide (now - start < pt)
    .timer start pt (q || input) q
  else if input then .timer now pt true (decide (0 < pt))
  else .timer start pt false false

/-- An edge detector (R143, R186, R187): it compares with PREV of its last evaluation; a first evaluation is primed with the
present input, or with false under PRIME_FALSE. -/
def edgeStep (rise primeFalse input : Bool) (i : Option Inst) : Inst :=
  let prev := match i with
    | some (.edge prev _) => prev
    | _ => !primeFalse && input
  .edge input (if rise then input && !prev else prev && !input)

/-- One edge of a count input by the rule of R143, with priming at the first evaluation (R144). -/
def countEdge (now prev primed : Bool) : Bool := primed && now && !prev

/-- A counter (R144): saturates, and a true reset sets 0. -/
def countStep (primeFalse up down reset : Bool) (i : Option Inst) : Inst :=
  let (n, pu, pd, mu, md) := match i with
    | some (.counter n pu pd mu md) => (n, pu, pd, mu, md)
    | _ => ((0 : Int), false, false, primeFalse, primeFalse)
  let n := n + (if countEdge up pu mu then 1 else 0) - (if countEdge down pd md then 1 else 0)
  let n := max (-2147483648) (min 2147483647 n)
  .counter (if reset then 0 else n) up down true true

/-- One act of a task on data memory and instances; the second component is the address of an access outside DATA
(R151). -/
def Running.act (r : Running) (now : Int) (x : PrgData × Option Nat) (a : PrgAct) : PrgData × Option Nat :=
  let (d, bad) := x
  if bad.isSome then x else
  match a with
  | .store addr data =>
    if addr + data.length ≤ r.dataSize then ({ d with mem := Memory.writeAll d.mem addr data }, none) else (d, some addr)
  | .ton k input pt => (d.put k (tonStep now input pt (r.inst d k)), none)
  | .tof k input pt => (d.put k (tofStep now input pt (r.inst d k)), none)
  | .tp k input pt => (d.put k (tpStep now input pt (r.inst d k)), none)
  | .rTrig k input => (d.put k (edgeStep true (r.primeFalse k) input (r.inst d k)), none)
  | .fTrig k input => (d.put k (edgeStep false (r.primeFalse k) input (r.inst d k)), none)
  | .count k up down reset => (d.put k (countStep (r.primeFalse k) up down reset (r.inst d k)), none)

/-- A task's acts in order. -/
def Running.acts (r : Running) (now : Int) (l : List PrgAct) (d : PrgData) : PrgData × Option Nat := l.foldl (r.act now) (d, none)

/-- Program clock of the present instant (R141). -/
def State.prgClock (s : State) : Int := s.clock + s.time.progOff

/-! ### Halt and stop (R150, R151) -/

/-- Program-stop values: every PRG-owned local output with PSTOP takes its substitute value (R54, R150). -/
def State.stopValues (s : State) : State :=
  let s := forAll 128 (fun i s =>
    if s.owner i = .prg && recPstop (s.chanRec i) then s.updChan i fun c => { c with pstopSubst := true } else s) s
  s.updPrg fun p => { p with pstop := true }

/-- The PROGRAM_PARAM that waits is put in force (R160). -/
def State.takeParam (s : State) : State :=
  match s.prg.paramPending with
  | none => s
  | some (org, v) =>
    (s.updPrg fun p => { p with param := v, paramPending := none }).complete org .done

/-- One VAR_WRITE against the running image (R162). -/
def State.varOutcome (s : State) (key : BitVec 64) (sig : BitVec 32) (len : Nat) : Option Outcome :=
  match s.prg.running.bind fun r => r.find key with
  | none => some (.error stUnknownObject)
  | some e =>
    if e.typeSig ≠ sig ∨ e.size ≠ len then some (.error stTypeMismatch)
    else if e.noExternalWrite then some (.policy) else none

/-- Applies one VAR_WRITE to the data, and to the boundary copy of a retained variable where the program rests (R162). -/
def State.applyVar (rest : Bool) (w : VarWrite) (s : State) : State :=
  match s.varOutcome w.key w.typeSig w.data.length with
  | some o => s.complete w.org o
  | none =>
    match s.prg.running.bind fun r => r.find w.key with
    | none => s
    | some e =>
      let s := s.updPrg fun p => { p with data := { p.data with mem := Memory.writeAll p.data.mem e.addr w.data } }
      let s := if rest && e.retain then
          s.updPrg fun p => { p with boundary := { p.boundary with
            data := { p.boundary.data with mem := Memory.writeAll p.boundary.data.mem e.addr w.data } } }
        else s
      s.complete w.org .done

/-- Applies every pending VAR_WRITE in order of arrival (R162). -/
def State.applyVars (rest : Bool) (s : State) : State :=
  let l := s.prg.varWrites
  l.foldl (fun s w => s.applyVar rest w) (s.updPrg fun p => { p with varWrites := [] })

/-- The program comes to rest: EVENT queues empty, held writes gone, nothing in progress (R150, R152). -/
def Program.rest (state : PrgState) (p : Program) : Program :=
  { p with
    state := state, inMain := false, longRunning := false, longInCycle := false, held := [], longHeld := [],
    downQueue := [], isoLeft := some 0, isoStartup := false, firstOverrun := none, firstAfterSwitch := false,
    events := p.events.map fun k => { k with queue := [], active := none } }

/-- A STOP has saved: the program is STOPPED and takes its program-stop values (R151). A command that waited for a cycle when
CYCLE_LONG asked for the STOP finds the wrong state. -/
def State.finishStop (o : Outcome) (s : State) : State :=
  let control := s.prg.control
  let s := (s.updPrg fun p => { (p.rest .stopped) with stopReq := false, control := none }).stopValues
  let s := (s.takeParam).applyVars true
  match control with
  | some (x, .stop) => s.complete x o
  | some (x, _) => s.complete x (.error stWrongState)
  | none => s

/-- A STOP saves the retained data before it ends (R146, R151, R493). -/
def State.beginStop (s : State) : State :=
  let s := s.updPrg fun p => { p with stopReq := true, inMain := false }
  if s.stores[(1 : Fin 2)].heldBack || s.prg.running.isNone then s.finishStop .done
  else
    let (s, ok) := s.requestSave 1 .stop none
    if ok then s else s.finishStop (.error stStoreFull)

/-- A pending switch ends without its report (R179; DEDUCED, log 35). -/
def State.dropSwitch (st : BitVec 16) (s : State) : State :=
  match s.xch.switch with
  | none => s
  | some w => (s.updXch fun x => { x with switch := none }).complete w.org (.error st)

/-- PROGRAM_HALT (R150, R151, R152): the cores stop, held writes are discarded, program-stop values are taken, and what
waited for a cycle is answered. -/
def State.haltProgram (cause : HaltCause) (code codeAddr dataAddr : Nat) (s : State) : State :=
  if s.prg.active || s.prg.state == .starting then
    let h : Halt := { cause := cause, trapCode := code, codeAddr := codeAddr, dataAddr := dataAddr,
                      cycle := s.prg.cycleNumber, stamp := s.now }
    let control := s.prg.control
    let s := (s.updPrg fun p => { (p.rest .halted) with halt := some h }).stopValues
    let s := s.record .prg .programHalt [cause.num.val, s.prg.cycleNumber, codeAddr, dataAddr]
    let s := ((s.dropSwitch stSwitchHalted).takeParam).applyVars true
    let s := match control with
      | some (_, .stop) => s.beginStop
      | some (org, _) => (s.updPrg fun p => { p with control := none }).complete org (.error stWrongState)
      | none => s
    let s := if cause = .ecc && s.isPair && s.computes then s.setMember .out 6 else s
    s.settleHealth
  else s

/-- Runs a task's acts on the data; an access outside DATA halts with cause TRAP (R151). -/
def State.runActs (now : Int) (l : List PrgAct) (s : State) : State × Bool :=
  match s.prg.running with
  | none => (s, true)
  | some r =>
    let (d, bad) := r.acts now l s.prg.data
    let s := s.updPrg fun p => { p with data := d }
    match bad with
    | none => (s, true)
    | some a => (s.haltProgram .trap 0 0 a, false)

/-! ### Bus cycles (R153, R154) -/

/-! ### CYCLE_LONG (R149) -/

/-- Whether a run of data memory lies in one SHARED variable. -/
def Running.sharedAt (r : Running) (addr len : Nat) : Bool :=
  r.keyMap.any fun e => e.shared && decide (e.addr ≤ addr) && decide (addr + len ≤ e.addr + e.size)

/-- CYCLE_LONG writes SHARED variables only; a write outside DATA is a TRAP, and one to another variable does nothing
(R149, R151; DESIGN CHOICE, log 101). -/
def State.longStore (addr : Nat) (data : Bytes) (s : State) : State × Bool :=
  match s.prg.running with
  | none => (s, true)
  | some r =>
    if r.dataSize < addr + data.length then (s.haltProgram .trap 0 0 addr, false)
    else if r.sharedAt addr data.length then
      (s.updPrg fun p => { p with data := { p.data with mem := Memory.writeAll p.data.mem addr data } }, true)
    else (s, true)

/-- What CYCLE_LONG did, in order (R149). -/
def State.longActs : List LongAct → State → State × Bool
  | [], s => (s, true)
  | .store addr data :: l, s => let (s, ok) := s.longStore addr data; if ok then s.longActs l else (s, false)
  | .post n data :: l, s => (s.programPost .prg1 n data).longActs l
  | .stop :: l, s =>
    if s.prg.inMain || s.prg.state == .switching then (s.updPrg fun p => { p with stopReq := true }).longActs l
    else if s.prg.active && !s.prg.stopReq then s.beginStop.longActs l
    else s.longActs l

/-! ### Bus cycles (R153, R154) -/

/-- T_BUS in ns. -/
def State.tBus (s : State) : Nat := s.ring.cfg.tBus * 1000
/-- Clock time of the start of bus cycle `k`. -/
def State.busAt (s : State) (k : Nat) : Int := s.ring.busStart + ((k : Int) - s.ring.busCycle) * s.tBus
/-- R_k (R154). -/
def State.readyAt (s : State) (k : Nat) : Int := s.busAt k + (s.ring.cfg.window * s.tBus / 100 : Nat) + 5000
/-- D_k (R154). -/
def State.dueAt (s : State) (k : Nat) : Int := s.busAt (k + 1) - 20000

/-- Whether the program runs isochronously now: the count has not run out (R155). -/
def Program.isoNow (p : Program) : Bool := p.state == .isochronous && p.isoLeft != some 0

/-- The mode of the next cycle, with an ISO command that waits for its beginning (R155, R161). -/
def Program.nextIso (p : Program) : Bool :=
  match p.control with
  | some (_, .isoEnter _) => true
  | some (_, .isoLeave) => false
  | _ => p.isoNow

/-- The latest bus cycle ready to be read, if no earlier cycle has read it (R154). -/
def State.readyBus (s : State) : Option Nat :=
  let k := s.newestBus
  if s.readyAt k ≤ s.clock && s.prg.lastReadBus != some k then some k else none

/-- Whether the next cycle may begin now (R131, R135, R149, R154). -/
def State.mayBegin (s : State) : Bool :=
  let p := s.prg
  let phase := match s.xch.switch with | some w => w.phase == .pre || w.phase == .post | none => false
  (p.state == .isochronous || p.state == .running) && !p.inMain && !p.longRunning && !p.stopReq && !phase &&
    s.mayCompute && s.up .prg &&
    (if p.nextIso then s.readyBus.isSome else decide (p.cycleBegin + p.param.floor * 100000 ≤ s.clock) || p.firstAfterStart)

/-! ### The input read (R136 to R140, R365) -/

/-- A station's image as the snapshot holds it (R137, R346). -/
def Station.snapshot (x : Station) (newest bus : Nat) : RemoteIn :=
  let im := x.imageOf newest bus
  if x.substituted || decide (bus < x.upBus) then
    let n := max im.words.length (rd x.obj 6 2)
    { station := x.index, words := (List.range n).map x.substWord, quals := List.replicate n 2, subst := true,
      busCycle := im.busCycle }
  else
    let quals := if im.busCycle != bus then List.replicate im.quals.length 1 else im.quals
    { station := x.index, words := im.words, quals := quals, subst := false, busCycle := im.busCycle }

/-- Messages of the mailboxes bound to PRG0 (R138). -/
def State.takeMessages (s : State) : List (Fin 32 × List Word) × State :=
  let due := (List.finRange 32).filter fun n => s.bindReceiver n = .prg0 && s.mb.boxes[n].go && s.up .svc
  (due.map fun n => (n, s.mb.boxes[n].data.toList), due.foldl (fun s n => s.hubTake n) s)

/-- The instant a cycle's program clock is taken at (R141, R365): the start of the bus cycle it reads in isochronous mode,
the barrier stamp in a pair, the start of the input read otherwise. -/
def State.snapNow (s : State) (iso : Bool) (bus : Nat) : Int :=
  if iso then s.busAt bus + s.time.progOff
  else if s.inStep then s.pair.barrier.stamp - s.time.ringOff + s.time.progOff
  else s.prgClock

/-- The bus cycle a cycle's remote images come from (R153, R154, R365). -/
def State.snapBus (s : State) : Nat := if s.inStep then s.pair.barrier.agreedBus else s.newestBus

/-- The snapshot of the cycle that begins (R136, R137, R140, R365). -/
def State.snapshot (s : State) (iso : Bool) (now : Int) (msgs : List (Fin 32 × List Word)) : Snapshot :=
  let p := s.prg
  let bus := s.snapBus
  let im := if iso then s.windowImage bus else s.latestImage
  let own := match s.inStep, s.pair.barrier.ownMsg with
    | true, some m => m.locals.map (partnerSample m.stamp)
    | _, _ => im.locals
  { stamp := if s.inStep then s.busAt bus + s.time.ringOff else im.stamp, now := now,
    cycleDt := match p.prevNow with | some q => if p.firstAfterStart then 0 else now - q | none => 0,
    lastExecUs := p.lastExecUs, iso := iso, busCycle := bus, firstAfterStart := p.firstAfterStart,
    firstAfterSwitch := p.firstAfterSwitch, locals := own, loops := im.loops, overs := im.overs, axes := im.axes,
    functions := im.functions, partner := s.pair.barrier.partnerLocals, partnerSubst := s.isPair && !s.inStep,
    remotes := s.ring.stations.map fun x => x.snapshot s.newestBus bus, messages := msgs }

/-- What takes effect at a cycle beginning: an isochronous command, the count that ran out, a pending PROGRAM_PARAM
(R152, R155, R160, R161). -/
def State.atBeginning (s : State) : State :=
  let s := match s.prg.control with
    | some (org, .isoEnter n) =>
      (s.updPrg fun p => { p with state := .isochronous, isoLeft := if n = 0 then none else some n, isoStartup := false,
                                  control := none }).complete org .done
    | some (org, .isoLeave) =>
      (s.updPrg fun p => { p with state := .running, isoLeft := some 0, control := none }).complete org .done
    | _ => s
  let s := if s.prg.state == .isochronous && s.prg.isoLeft == some 0 then
      s.updPrg fun p => { p with state := .running, isoStartup := false, firstOverrun := none }
    else s
  s.takeParam

/-- Overrun bookkeeping of an isochronous beginning: a cycle that waited for its bus cycle has regained phase; bus cycles
passed over since the isochronous cycle before are counted (R156). -/
def State.isoBegin (wasIso : Bool) (bus : Nat) (s : State) : State :=
  let waited := decide ((s.prg.lastEnd : Int) < s.readyAt bus)
  let skipped := match wasIso, s.prg.lastReadBus with | true, some j => bus - j - 1 | _, _ => 0
  s.updPrg fun p => { p with
    isoSkipped := p.isoSkipped + skipped, isoLeft := p.isoLeft.map (· - 1),
    firstOverrun := if waited then none else p.firstOverrun }

/-- One STATION_FAULT run for each drop-out, in order; what each run did stands in `acts` (R158). -/
def State.runFaults (now : Int) : List DownInfo → List (List PrgAct) → State → State × Bool
  | [], _, s => (s, true)
  | _ :: r, acts, s =>
    let (s, ok) := s.runActs now (acts.headD [])
    if ok then s.runFaults now r acts.tail else (s, false)

/-- STATION_FAULT for every station declared DOWN, and the VAR_WRITEs (R131, R158, R162). The cycle begins with the first
STATION_FAULT (R135). -/
def State.beforeRead (now : Int) (faultActs : List (List PrgAct)) (s : State) : State × Bool :=
  let hasTask := (s.prg.running.map Running.hasStationFault).getD false
  let l := if hasTask then s.prg.downQueue else []
  let s := s.updPrg fun p => { p with downQueue := [], faultRuns := if l.isEmpty then p.faultRuns else l,
                                      cycleBegin := if l.isEmpty then p.cycleBegin else s.clock }
  let (s, ok) := s.runFaults now l faultActs
  (s.applyVars false, ok)

/-- The cycle proper: input read and MAIN (R135, R136, R140). -/
def State.enterMain (began : Bool) (iso : Bool) (now : Int) (acts : List PrgAct) (s : State) : State :=
  let (msgs, s) := s.takeMessages
  let snap := s.snapshot iso now msgs
  let wasIso := s.prg.snap.iso
  let s := s.updPrg fun p => { p with
    snap := snap, cycleNumber := p.cycleNumber + 1, inMain := true, longInCycle := false, prevNow := some now,
    cycleBegin := if began then p.cycleBegin else s.clock }
  let s := if iso then s.isoBegin wasIso snap.busCycle else s
  ((s.updPrg fun p => { p with lastReadBus := some snap.busCycle }).runActs now acts).1

/-- Whether EVENT tasks have work that the input read of a pair waits for (R366). -/
def State.eventsWaiting (s : State) : Bool := s.prg.events.any fun k => !k.queue.isEmpty || k.active.isSome

/-- Whether the program cycles, so that its beginnings carry the barriers. -/
def State.cycling (s : State) : Bool := s.prg.active

/-- In a pair whose program rests or halts, the row only runs a barrier, so that forwarded writes still reach both members
(R364; DEDUCED, log 55). -/
def State.idleBarrier (s : State) : State :=
  let waiting := s.pair.barrier.ownMsg.isSome && s.pair.barrier.idle && !s.pair.barrier.passed
  if waiting then s else (s.sendBarrier true).meetBarrier

/-- Whether a new BARRIER is to be sent before the next cycle. -/
def State.needsBarrier (s : State) : Bool :=
  s.inStep && ((s.pair.barrier.own.map Prod.fst) != some (s.prg.cycleNumber + 1) || s.pair.barrier.idle)

/-- MAIN_CYCLE_START (R131, R135 to R138, R140, R154 to R156, R158, R162, R364 to R366). In a pair the first occurrence
sends the BARRIER, a next one past the meeting starts step 6, and the one after the EVENT tasks reads the inputs. -/
def execMainCycleStart (t : Ns) (faultActs : List (List PrgAct)) (acts : List PrgAct) (s : State) : Res :=
  let s := s.begin t
  if s.inStep && !s.cycling then .next s.idleBarrier
  else if !s.mayBegin then .next s
  else if s.needsBarrier then .next (s.sendBarrier false).meetBarrier
  else if !s.barrierOpen then .next s
  else
    let first := !(s.inStep && s.pair.barrier.started)
    let s := if first then s.atBeginning else s
    let iso := s.prg.isoNow
    let now := s.snapNow iso s.snapBus
    let began := (s.prg.running.map Running.hasStationFault).getD false && !s.prg.downQueue.isEmpty
    let longActs := if first then s.prg.longHeld else []
    let (s, ok) := if first then
        let (s, ok) := (s.updPrg fun p => { p with longHeld := [] }).longActs longActs
        if ok && !s.prg.stopReq && s.prg.active then s.beforeRead now faultActs else (s, false)
      else (s, true)
    if !ok then .next s
    else if s.inStep && first && s.eventsWaiting then
      .next (s.updPair fun p => { p with barrier := { p.barrier with started := true } })
    else if s.inStep && s.eventsWaiting then .next s
    else
      let ranBefore := s.inStep && !first && decide (s.pair.barrier.ownAt ≤ s.prg.cycleBegin)
      .next (s.enterMain ((began && first) || ranBefore) iso now acts)

/-! ### The output write (R28, R133, R139, R145, R367) -/

/-- A word the program writes to a remote image: discarded where a loop, a group or a servo axis owns it (R204, R265). -/
def State.programRemote (station word : Nat) (v : Word) (s : State) : State :=
  match s.wordOwner station word with
  | some (.inl k) => s.updLoop k fun l => { l with foreignWrites := satAdd 32 l.foreignWrites 1 }
  | some (.inr g) => s.updOver g fun l => { l with foreignWrites := satAdd 32 l.foreignWrites 1 }
  | none =>
    match (List.finRange 16).find? fun a =>
      match s.axes[a].cfg with
      | some o => axServo o && srcStation (acSp o) == station && decide (srcWord (acSp o) ≤ word) && decide (word < srcWord (acSp o) + 8)
      | none => false with
    | some a => s.updAxis a fun x => { x with foreignWrites := satAdd 32 x.foreignWrites 1 }
    | none => s.remoteOut station word v s.clock

/-- One output goes to where it belongs (R28, R133, R139). -/
def State.release (s : State) (w : PrgWrite) : State :=
  match w with
  | .channel ch on value fail => s.ownerWrite .prg ch on value fail
  | .remote station word v => s.programRemote station word v
  | .loop obj => s.programLoop obj
  | .axis obj => s.programAxis obj
  | .mailbox n data => s.programPost .prg0 n data
  | .hart obj => s.hartEnqueue .self obj

/-- The bytes the output CRC of a cycle runs over (R364). -/
def writeBytes : PrgWrite → Bytes
  | .channel ch on v f => [0] ++ wr 1 ch.val ++ wr 1 (b2n on) ++ wrF32 (v.getD 0) ++ wr 1 (b2n f)
  | .remote st w v => [1] ++ wr 2 st ++ wr 2 w ++ wr 4 v.toNat
  | .loop o => [2] ++ o
  | .axis o => [3] ++ o
  | .mailbox n d => [4] ++ wr 1 n.val ++ d.flatMap fun w => wr 4 w.toNat
  | .hart o => [5] ++ o

/-- The boundary copy at the end of an output write (R145). -/
def State.markBoundary (s : State) : State :=
  match s.prg.running with
  | none => s
  | some r =>
    s.updPrg fun p => { p with boundary := { imageId := r.imageId, data := r.retained p.data, cycle := p.cycleNumber,
                                             stamp := s.now, clock := s.prgClock } }

/-- Cycle statistics at the end of an output write (R140, R163). -/
def Program.ended (clock : Ns) (p : Program) : Program :=
  let us := (clock - p.cycleBegin) / 1000
  { p with
    inMain := false, lastEnd := clock, lastExecUs := us, held := [], firstAfterStart := false, firstAfterSwitch := false,
    cycles := p.cycles + 1, cycleLastUs := us, cycleMinUs := if p.cycles = 0 then us else min p.cycleMinUs us,
    cycleMaxUs := max p.cycleMaxUs us, cycleSumUs := p.cycleSumUs + us,
    longestUs := max p.longestUs us, longestCycle := if p.longestUs < us then p.cycleNumber else p.longestCycle,
    pstop := false }

/-- Counts one more for a station. -/
def countUp (l : List (Nat × Nat)) (i : Nat) : List (Nat × Nat) :=
  match l.find? fun x => x.1 = i with
  | some (_, n) => (l.filter fun x => x.1 ≠ i) ++ [(i, n + 1)]
  | none => l ++ [(i, 1)]

/-- Whether a cycle's output image for a station is UNDELIVERED: the station is DOWN, or was declared DOWN since the cycle's
input read (R157). -/
def Station.lost (x : Station) : Bool := x.state == .down || x.wentDown

/-- Output images of a cycle that are UNDELIVERED are counted (R157). -/
def State.countUndelivered (s : State) : State :=
  let down := (s.ring.stations.filter Station.lost).map Station.index
  let s := s.updRing fun r => { r with stations := r.stations.map fun x =>
    { x with undelivered := if x.lost then x.undelivered + 1 else x.undelivered, wentDown := false } }
  s.updPrg fun p => { p with undelivered := down.foldl countUp p.undelivered }

/-- An isochronous output write after D_k is an overrun (R156). -/
def State.countOverrun (s : State) : State :=
  match s.prg.snap.iso, s.prg.lastReadBus with
  | true, some k =>
    if s.dueAt k < s.clock then
      s.updPrg fun p => { p with overruns := p.overruns + 1, firstOverrun := p.firstOverrun.orElse fun _ => some s.clock }
    else s
  | _, _ => s

/-- The 72 bytes of a switch report (R193). -/
def SwitchReport.bytes (rep : SwitchReport) : Bytes :=
  rep.oldId ++ List.replicate (16 - rep.oldId.length) 0 ++ rep.newId ++ List.replicate (16 - rep.newId.length) 0
    ++ wr 8 rep.cycle ++ wr 4 rep.gapUs
    ++ wr 4 rep.carried ++ wr 4 rep.copied ++ wr 4 rep.converted ++ wr 4 rep.reinit ++ wr 4 rep.newKeys
    ++ wr 4 rep.dropped ++ wr 4 (65536 * min 65535 rep.preUs + min 65535 rep.postUs)

/-- The content of a PROGRAM_SWITCH record: every field of the report (R193). -/
def SwitchReport.items (rep : SwitchReport) : List Int :=
  [leNat rep.oldId, leNat rep.newId, rep.cycle, rep.gapUs, rep.carried, rep.copied, rep.converted, rep.reinit, rep.newKeys,
   rep.dropped, 65536 * min 65535 rep.preUs + min 65535 rep.postUs]

/-- The switch report is complete with the first new cycle's output write, and the retained area is saved before the
marker moves (R193, R195). -/
def State.switchDone (s : State) : State :=
  match s.xch.switch with
  | some w =>
    if w.phase = .firstCycle then
      let rep := w.report
      let s := s.updXch fun x => { x with switch := none, lastSwitch := rep, markerPending := some w.slot }
      let s := s.record .prg .programSwitch rep.items
      ((s.complete w.org (.done rep.bytes)).requestSave 1 .afterSwitch none).1
    else s
  | none => s

/-- PRE_SWITCH_START: an armed switch whose cycle comes next begins after the output write (R178), or once it is armed in the
wait for the cycle (R176). -/
def State.startSwitch (s : State) : State :=
  match s.xch.switch with
  | some w =>
    if !s.prg.inMain && s.prg.active && w.phase = .armed && w.ownArmed && w.partnerArmed && decide (w.cycle ≤ s.prg.cycleNumber + 1) then
      let w' : Switch := { w with phase := .pre, since := s.clock, cycle := s.prg.cycleNumber + 1, before := s.prg.state }
      s.updXch fun x => { x with switch := some w' }
    else s
  | none => s

/-- OUTPUT_WRITE (R139, R145, R151, R156, R157, R161, R178, R193, R367). -/
def execOutputWrite (t : Ns) (writes : List PrgWrite) (s : State) : Res :=
  let s := s.begin t
  if !s.prg.inMain then .next s else
  let all := s.prg.held ++ writes
  let s := if s.inStep then
      let crc := crc32c (all.flatMap writeBytes)
      ((s.updPrg fun p => { p with toRelease := p.toRelease ++ all }).updPair fun p => { p with
        barrier := { p.barrier with ownCrc := crc, ownDone := some (s.prg.cycleNumber, s.now) } }).emit
          (.outDone s.prg.cycleNumber s.now)
    else all.foldl State.release s
  let s := (s.countUndelivered).countOverrun
  let s := s.updPrg (Program.ended s.clock)
  let s := s.markBoundary
  let s := s.switchDone
  let s := match s.prg.control with
    | some (org, .run _) => (s.updPrg fun p => { p with control := none }).complete org .done
    | _ => s
  if s.prg.stopReq then .next s.beginStop else .next s.startSwitch

/-- OUTPUT_RELEASE's condition: both members have ended their output write, or no partner is waited for (R367). D_L is 30 µs
with port L at 1000BASE-T and 200 µs at 100BASE-TX (R363). -/
def State.releaseDue (s : State) : Bool :=
  let dl : Int := if s.ring.ports[2].gigabit then 30000 else 200000
  match s.inStep, s.pair.barrier.ownDone, s.pair.barrier.partnerDone with
  | false, _, _ => true
  | true, some (n, a), some (m, b) => n == m && decide (max a b + dl ≤ s.now)
  | _, _, _ => false

/-- OUTPUT_RELEASE (R367). -/
def execOutputRelease (t : Ns) (s : State) : Res :=
  let s := s.begin t
  if s.prg.toRelease.isEmpty || !s.releaseDue then .next s
  else
    let l := s.prg.toRelease
    .next (l.foldl State.release (s.updPrg fun p => { p with toRelease := [] }))

/-! ### EVENT tasks and CYCLE_LONG (R130 to R133, R148, R149) -/

/-- Whether the old or the new program is at a switch point (R178). -/
def State.atSwitch (s : State) : Bool :=
  match s.xch.switch with | some w => w.phase == .pre || w.phase == .post | none => false

/-- Whether PRG1 may start an EVENT task: CYCLE_LONG and tasks of equal or higher priority keep it waiting (R131); none
starts during a switch (R178); in a pair they run at the barrier, one at a time, in order of trigger stamp (R366). -/
def State.eventFree (s : State) (k : EventTask) (e : PrgEvent) : Bool :=
  let phase := s.atSwitch
  let blocked := s.prg.events.any fun j => j.active.isSome && decide (j.prio.val ≤ k.prio.val)
  let heads := s.prg.events.filterMap fun j => j.queue.head?
  !s.prg.longRunning && !phase && !blocked &&
    (!s.inStep || (s.pair.barrier.started && !s.prg.inMain && (s.prg.events.all fun j => j.active.isNone) &&
      heads.all fun h => decide (eventStamp e ≤ eventStamp h)))

/-- The hub takes the message of a post whose task starts (R461). -/
def State.eventTake (e : PrgEvent) (s : State) : State :=
  match e with
  | .post n .. => if s.bindReceiver n = .prg1 then s.hubTake n else s
  | .edge .. => s

/-- Whether the hub can take the message that an event needs taken. -/
def State.hubReady (s : State) (e : PrgEvent) : Bool := match e with | .post .. => s.up .svc | .edge .. => true

/-- EVENT_TASK_START (R132, R133, R366, R461). -/
def execEventTaskStart (t : Ns) (prio : Fin 16) (s : State) : Res :=
  let s := s.begin t
  if !s.prg.live then .next s else
  match s.prg.events.find? fun k => k.prio = prio with
  | none => .next s
  | some k =>
    match k.queue with
    | [] => .next s
    | e :: rest =>
      if k.active.isNone && s.eventFree k e && s.hubReady e then
        .next ((s.updPrg fun p => { p with events := p.events.map fun j =>
          if j.prio = prio then { j with queue := rest, active := some (e, s.clock) } else j }).eventTake e)
      else .next s

/-- Whether a write is one to a local output. -/
def isChannel : PrgWrite → Bool
  | .channel .. => true
  | _ => false

/-- Writes of an EVENT task that go out at once: local outputs and mailbox posts; the others are held (R28, R133). -/
def isImmediate : PrgWrite → Bool
  | .channel .. => true
  | .mailbox .. => true
  | _ => false

/-- A write of PRG1 that goes out at once. -/
def State.releaseEvent (s : State) (w : PrgWrite) : State :=
  match w with
  | .mailbox n data => s.programPost .prg1 n data
  | w => s.release w

/-- EVENT_TASK_END (R133, R163). At a switch point its writes to outputs are held, so that no output changes (R180). -/
def execEventTaskEnd (t : Ns) (prio : Fin 16) (acts : List PrgAct) (writes : List PrgWrite) (s : State) : Res :=
  let s := s.begin t
  match s.prg.events.find? fun k => k.prio = prio with
  | none => .next s
  | some k =>
    match k.active with
    | none => .next s
    | some (_, start) =>
      let us := (s.clock - start) / 1000
      let s := s.updPrg fun p => { p with events := p.events.map fun j =>
        if j.prio = prio then { j with active := none, runs := j.runs + 1, longestUs := max j.longestUs us } else j }
      let (s, ok) := s.runActs (start + s.time.progOff) acts
      if !ok then .next s else
      let now (w : PrgWrite) : Bool := isImmediate w && !(s.atSwitch && isChannel w)
      let s := (writes.filter now).foldl State.releaseEvent s
      .next (s.updPrg fun p => { p with held := p.held ++ writes.filter fun w => !now w })

/-- Whether a cycle's elapsed time, counted in whole µs, exceeds `n` watchdog times (R148). -/
def State.cycleOver (s : State) (n : Nat) : Bool :=
  decide (s.due .prg s.prg.cycleBegin (1000000 * n * s.prg.param.wdMs + 1000) ≤ s.clock)

/-- CYCLE_LONG (R148, R149): at most once a cycle. -/
def execCycleLong (t : Ns) (s : State) : Res :=
  let s := s.begin t
  let has := (s.prg.running.map Running.hasCycleLong).getD false
  if s.prg.active && s.prg.inMain && !s.prg.longInCycle && has && s.cycleOver 1 then
    .next (s.updPrg fun p => { p with longRunning := true, longInCycle := true, longRuns := p.longRuns + 1 })
  else .next s

/-- CYCLE_LONG_END (R149, R366): in a pair what it did waits for the next barrier. -/
def execCycleLongEnd (t : Ns) (acts : List LongAct) (s : State) : Res :=
  let s := s.begin t
  if !s.prg.longRunning then .next s else
  let s := s.updPrg fun p => { p with longRunning := false }
  if s.inStep then .next (s.updPrg fun p => { p with longHeld := p.longHeld ++ acts })
  else .next (s.longActs acts).1

/-- WATCHDOG_HALT (R148, R179): a cycle longer than 2 × WD, or PRE_SWITCH or POST_SWITCH longer than WD. -/
def execWatchdogHalt (t : Ns) (s : State) : Res :=
  let s := s.begin t
  let cycle := (s.prg.inMain || s.prg.longRunning) && s.cycleOver 2
  let switch := match s.xch.switch with
    | some w => (w.phase == .pre || w.phase == .post) && decide (s.due .prg w.since (1000000 * s.prg.param.wdMs) < s.clock)
    | none => false
  if cycle || switch then .next (s.haltProgram .watchdog 0 0 0) else .next s

/-- TRAP (R151). -/
def execTrap (t : Ns) (code codeAddr dataAddr : Nat) (s : State) : Res :=
  .next ((s.begin t).haltProgram .trap code codeAddr dataAddr)

/-- ECC_HALT (R151, R366). -/
def execEccHalt (t : Ns) (s : State) : Res := .next ((s.begin t).haltProgram .ecc 0 0 0)

/-- EVENT_OVERRUN (R151): an EVENT task longer than WD. -/
def execEventOverrun (t : Ns) (prio : Fin 16) (s : State) : Res :=
  let s := s.begin t
  match (s.prg.events.find? fun k => k.prio = prio).bind EventTask.active with
  | some (_, start) =>
    if s.due .prg start (1000000 * s.prg.param.wdMs) < s.clock then .next (s.haltProgram .eventOverrun 0 0 0) else .next s
  | none => .next s

/-! ### PROGRAM_CONTROL (R152, R155, R161) -/

/-- Format of a PROGRAM_CONTROL object of this COMMAND. -/
def controlFormat (command : Nat) (o : Bytes) : Bool :=
  o.length == 16 && rd o 0 1 == command && rdBits o 1 7 1 == 0 && (command == 1 || rdBits o 1 0 0 == 0) &&
    (command == 3 || rd o 2 2 == 0) && zeroAt o 4 12

/-- Whether the role runs programs (R129). -/
def State.runsPrograms (s : State) : Bool := s.role == some .controller || s.isPair

/-- Whether a descriptor holds the program (R438). -/
def State.programHeld (s : State) : Bool :=
  s.prg.control.isSome || s.prg.paramPending.isSome || s.xch.switch.isSome ||
    (match s.xch.staging with | some x => x.last.isSome | none => false)

/-- Checks that every PROGRAM_CONTROL shares (R161). -/
def State.controlCheck (s : State) (wrong : Bool) : Option Outcome :=
  firstOf [fails s.programHeld .busy, fails (!s.runsPrograms) (.policy stPolicyRole), fails wrong (.error stWrongState)]

/-- Running retained timers keep the elapsed time they had at the save (R147). -/
def rebase (saved now : Int) (d : PrgData) : PrgData :=
  { d with insts := d.insts.map fun (k, i) =>
      match i with
      | .timer start pt true q => (k, .timer (now - (saved - start)) pt true q)
      | i => (k, i) }

/-- The retained bank a WARM start restores: the newest valid one of the image to be run (R195, R489). -/
def State.retainedBank (s : State) (imageId : Bytes) : Option Boundary :=
  let st := s.stores[(1 : Fin 2)]
  let of (b : Fin 2) : Option Boundary :=
    if st.banks[b].valid then
      match st.banks[b].payload with
      | .retained x => if x.imageId = imageId then some x else none
      | _ => none
    else none
  match of 0, of 1 with
  | some a, some b => if (0 : Int) < (st.banks[1].seq - st.banks[0].seq).toInt then some b else some a
  | some a, none => some a
  | none, b => b

/-- What a COLD start keeps of the instances: retained ones and edge detectors start new, the count inputs of counters are
primed again (R143, R144, R146). -/
def Running.coldInsts (r : Running) (l : List (BitVec 64 × Inst)) : List (BitVec 64 × Inst) :=
  l.filterMap fun (k, i) =>
    if r.retains k then none else
    match i with
    | .edge .. => none
    | .counter n .. => some (k, .counter n false false (r.primeFalse k) (r.primeFalse k))
    | i => some (k, i)

/-- The program starts (R146, R147, R152, R155): WARM from the boundary copy of the same image, or after power-up from the
bank; COLD from the image. Saves of the retained store are no longer held back (R619). -/
def State.startProgram (cold : Bool) (org : Origin) (r : Running) (s : State) : State :=
  let fromBoundary := s.prg.boundary.imageId == r.imageId && r.imageId != []
  let bank := s.retainedBank r.imageId
  let src : Option Boundary := if cold then none else if fromBoundary then some s.prg.boundary else bank
  let now := s.prgClock
  let lost := !cold && src.isNone
  let data : PrgData := match src with
    | some b => r.restore s.prg.data (if fromBoundary then b.data else rebase b.clock now b.data)
    | none =>
      let init : PrgData := { mem := Image.initial s.runningImage }
      { mem := (r.restore s.prg.data init).mem, insts := r.coldInsts s.prg.data.insts }
  let info : StartInfo :=
    { cold := src.isNone, cause := match org with | .self => 1 | _ => 0,
      offTime := (s.mod.offTime.getD 0) * 1000000000, storeLost := lost,
      cycle := (src.map Boundary.cycle).getD 0, stamp := (src.map Boundary.stamp).getD 0 }
  let s := if lost then
      ((s.updStore 1 fun x => { x with lost := true }).record .recorder .storeLost [1]).postEvent 0x0101 1 []
    else s
  let s := s.updStore 1 fun x => { x with heldBack := false }
  let s := s.updMod fun m => { m with safeRestart := false, safeCause := none }
  let s := s.updPrg fun p => { (p.rest .starting) with
    startInfo := info, data := data, control := some (org, .run cold), stopReq := false, startBegin := s.clock,
    firstAfterStart := true, prevNow := none, cycles := 0, cycleMinUs := 0, cycleMaxUs := 0, cycleSumUs := 0,
    cycleLastUs := 0, undelivered := [], lastSaveAt := s.clock }
  let s := s.settleHealth
  if r.hasStart then s
  else s.updPrg fun p => { p with state := .isochronous, isoLeft := some p.param.isoStart, isoStartup := true }

/-- RUN (R152, R161). -/
def execRun (t : Ns) (org : Origin) (obj : Bytes) (s : State) : Res :=
  let s := s.begin t
  serve org opProgramControl [.prg] (badField (!controlFormat 1 obj))
    (firstOf [s.controlCheck (!(s.prg.state == .stopped || s.prg.state == .halted) || s.mod.prgFailed || s.mod.failAt.isSome),
      fails s.prg.running.isNone (.error stNoImage)])
    (fun s => match s.prg.running with | some r => s.startProgram (rdBits obj 1 0 0 == 1) org r | none => s) s

/-- START_FINISHED (R152, R155): its writes wait for the first MAIN output write. -/
def execStartFinished (t : Ns) (acts : List PrgAct) (writes : List PrgWrite) (s : State) : Res :=
  let s := s.begin t
  if s.prg.state = .starting then
    let (s, ok) := s.runActs s.prgClock acts
    if !ok then .next s else
    .next (s.updPrg fun p => { p with state := .isochronous, isoLeft := some p.param.isoStart, isoStartup := true,
                                      held := p.held ++ writes })
  else .next s

/-- STOP (R151, R161): with a cycle or a switch in progress it is taken at its end. -/
def execStop (t : Ns) (org : Origin) (obj : Bytes) (s : State) : Res :=
  let s := s.begin t
  serve org opProgramControl [.prg] (badField (!controlFormat 2 obj)) (s.controlCheck (s.prg.state == .stopped))
    (fun s =>
      let s := s.updPrg fun p => { p with control := some (org, .stop) }
      if s.prg.inMain || s.prg.state == .switching then s.updPrg fun p => { p with stopReq := true } else s.beginStop) s

/-- ISO_ENTER (R155, R161): it needs a cycle to begin. -/
def execIsoEnter (t : Ns) (org : Origin) (obj : Bytes) (s : State) : Res :=
  let s := s.begin t
  serve org opProgramControl [.prg] (badField (!controlFormat 3 obj)) (s.controlCheck (!s.prg.active))
    (State.updPrg fun p => { p with control := some (org, .isoEnter (rd obj 2 2)) }) s

/-- ISO_LEAVE (R155, R161). -/
def execIsoLeave (t : Ns) (org : Origin) (obj : Bytes) (s : State) : Res :=
  let s := s.begin t
  serve org opProgramControl [.prg] (badField (!controlFormat 4 obj))
    (s.controlCheck (!s.prg.active || s.prg.isoStartup))
    (State.updPrg fun p => { p with control := some (org, .isoLeave) }) s

/-! ### PROGRAM_PARAM, VAR_WRITE, saves and slips (R146, R156, R160, R162) -/

/-- The parameters of a PROGRAM_PARAM object (R160). -/
def paramOf (o : Bytes) : PrgParam :=
  { wdMs := rd o 0 2, floor := rd o 2 2, isoStart := rd o 4 2, slipLimit := rd o 6 1, autoRun := rdBits o 7 0 0 == 1,
    saveInterval := rd o 8 4 }

/-- Format and ranges of R160. -/
def paramFormat (o : Bytes) : Bool :=
  let p := paramOf o
  o.length == 32 && decide (10 ≤ p.wdMs ∧ p.wdMs ≤ 10000) && decide (p.floor ≤ 10000) &&
    decide (1 ≤ p.isoStart ∧ p.isoStart ≤ 1000) && decide (1 ≤ p.slipLimit ∧ p.slipLimit ≤ 16) && rdBits o 7 7 1 == 0 &&
    decide (1 ≤ p.saveInterval ∧ p.saveInterval ≤ 3600) && zeroAt o 12 20

/-- PROGRAM_PARAM (R160, R490): from the next cycle beginning, at once while none comes. -/
def execProgramParam (t : Ns) (org : Origin) (obj : Bytes) (s : State) : Res :=
  let s := s.begin t
  serve org opProgramParam [.prg] (badField (!paramFormat obj))
    (firstOf [fails s.programHeld .busy, fails (s.storeOverflow (BitVec.ofNat 16 opProgramParam) 0 obj) .capacity])
    (fun s =>
      let s := (s.updPrg fun p => { p with paramPending := some (org, paramOf obj) }).storeObject
        (BitVec.ofNat 16 opProgramParam) 0 (some obj)
      if s.prg.active || s.prg.state == .starting then s else s.takeParam) s

/-- VAR_WRITE (R162). -/
def execVarWrite (t : Ns) (org : Origin) (obj : Bytes) (s : State) : Res :=
  let s := s.begin t
  let len := rd obj 12 2
  let w : VarWrite := { org := org, key := BitVec.ofNat 64 (rd obj 0 8), typeSig := BitVec.ofNat 32 (rd obj 8 4),
                        data := obj.drop 16 }
  serve org opVarWrite [.prg]
    (badField (!zeroAt obj 14 2 || decide (len < 1) || decide (4096 < len) || obj.length != 16 + len))
    (s.varOutcome w.key w.typeSig len)
    (fun s =>
      if s.prg.active || s.prg.state == .starting then s.updPrg fun p => { p with varWrites := p.varWrites ++ [w] }
      else s.applyVar true w) s

/-- RETAINED_SAVE_INTERVAL (R146). -/
def execRetainedSaveInterval (t : Ns) (s : State) : Res :=
  let s := s.begin t
  if s.prg.active && s.up .recorder && s.prg.boundary.imageId != [] &&
      decide (s.prg.lastSaveAt + s.saveInterval * 1000000000 ≤ s.clock) then
    .next ((s.updPrg fun p => { p with lastSaveAt := s.clock }).requestSave 1 .interval none).1
  else .next s

/-- CYCLE_SLIP (R156): phase not regained within SLIP_LIMIT bus periods of the first overrun; the ready but unread bus cycle
is discarded. -/
def execCycleSlip (t : Ns) (s : State) : Res :=
  let s := s.begin t
  match s.prg.firstOverrun with
  | some f =>
    if s.prg.isoNow && !s.prg.inMain && decide (f + s.prg.param.slipLimit * s.tBus < s.clock) then
      .next ((s.updPrg fun p => { p with lastReadBus := some s.newestBus, firstOverrun := none, slips := p.slips + 1 }).record
        .prg .cycleSlip [s.newestBus])
    else .next s
  | none => .next s

end Sys2Proof.Machine
end

