-- ==== Sys2Proof/Machine/Exchange.lean ====
section
/-! DEFINITION. Image slots, staging and verification, the switch and the carry-over (R164 to R197). -/

namespace Sys2Proof.Machine

/-! ### Staging (R165, R171, R172) -/

def isOffset (p : Bytes) : Nat := rd p 0 4
def isLength (p : Bytes) : Nat := rd p 4 4
def isLast (p : Bytes) : Bool := rdBits p 8 1 1 == 1
def isFirst (p : Bytes) : Bool := rdBits p 8 0 0 == 1

/-- Ranges of an IMAGE_STAGE object (R171). -/
def stageParamOk (p : Bytes) : Bool :=
  p.length == 16 && isOffset p % 256 == 0 && decide (256 ≤ isLength p ∧ isLength p ≤ 65536) && isLength p % 16 == 0 &&
    rdBits p 8 7 2 == 0 && zeroAt p 9 7 && (!isFirst p || isOffset p == 0) && decide (isOffset p + isLength p ≤ 16777216)

/-- PARAM with the chunk it announces. -/
def stageFormat (p data : Bytes) : Bool := stageParamOk p && data.length == isLength p

/-- The slot a staging writes: never the RUNNING one; with none running the lowest that is not VERIFIED, else slot 0
(R165; DEDUCED, log 35). -/
def Exchange.stagingSlot (x : Exchange) : Fin 2 :=
  if x.slots[0].state == .staging || x.slots[0].state == .verifying then 0
  else if x.slots[1].state == .staging || x.slots[1].state == .verifying then 1
  else if x.slots[0].state == .running then 1
  else if x.slots[1].state == .running then 0
  else if x.slots[0].state != .verified then 0
  else if x.slots[1].state != .verified then 1
  else 0

/-- Updates one slot. -/
def Exchange.upd (k : Fin 2) (f : Slot → Slot) (x : Exchange) : Exchange := { x with slots := x.slots.set k (f x.slots[k]) }

/-- Whether a chunk continues the staging in progress without a gap (R172). -/
def Exchange.inOrder (x : Exchange) (p : Bytes) : Bool :=
  isFirst p || (match x.staging with | some g => isOffset p == g.nextOffset | none => false)

/-- A failed chunk empties the slot being staged (R164, R172). -/
def State.failStaging (s : State) : State :=
  if s.xch.staging.isSome then
    s.updXch fun x => { (x.upd x.stagingSlot fun _ => {}) with staging := none }
  else s

/-- A chunk is written; the FIRST one erases the slot, the LAST one starts the verification (R164, R171, R172). -/
def State.stageChunk (org : Origin) (p data : Bytes) (s : State) : State :=
  let k := s.xch.stagingSlot
  let old := if isFirst p then [] else s.xch.slots[k].bytes
  let n := isOffset p + isLength p
  let s := s.updXch fun x => { (x.upd k fun _ =>
      { state := if isLast p then .verifying else .staging, bytes := old ++ data, failing := 0 }) with
    staging := some { nextOffset := n, written := n, last := if isLast p then some org else none } }
  if isLast p then s else s.complete org .done

/-- IMAGE_STAGE (R171, R172; DEDUCED for a PARAM out of range, log 117). -/
def execImageStage (t : Ns) (org : Origin) (param data : Bytes) (s : State) : Res :=
  let s := s.begin t
  let gate := s.gate org opImageStage [.svc, .recorder]
  let role := fails (!s.runsPrograms) (.policy stPolicyRole)
  let verifying := match s.xch.staging with | some g => g.last.isSome | none => false
  let busy := fails (s.xch.switch.isSome || verifying || (isFirst param && s.xch.staging.isSome)) .busy
  let bad := !stageFormat param data
  if s.waitsBarrier org then .next s else
  match gate.orElse fun _ => role with
  | some o => answer org (if bad then .error stInvalidField else o) s
  | none =>
    match (if bad then none else busy) with
    | some o => answer org o s
    | none =>
      if bad || !s.xch.inOrder param then
        .next ((if verifying then s else s.failStaging).complete org (.error stInvalidField))
      else .next (s.stageChunk org param data)

/-! ### Verification (R173, R196) -/

/-- Step 2 of R173. -/
def State.keyOk (s : State) (b : Bytes) : Bool := decide (Image.keyIndex b ≤ 3) && s.regs.keyValid.getLsbD (Image.keyIndex b)

/-- Step 3 of R173. -/
def State.signatureOk (s : State) (b : Bytes) : Bool :=
  Ed25519.verify (keyBytes s.regs.imgKey[Fin.ofNat 4 (Image.keyIndex b)]) (Image.signed b) (Image.signature b)

/-- Step 7 of R173: every local channel written is owned by PRG (R129), and both-core variables are SHARED (R134). -/
def State.imagePolicy (s : State) (b : Bytes) : Bool :=
  s.runsPrograms && ((Config.ioWrites (Image.ioMap b)).all fun c => s.owner c == .prg) &&
    (Config.writtenByBoth (Image.code b) (Image.tasks b)).all fun k =>
      ((Image.entries b).find? fun e => e.key = k).all KeyEntry.shared

/-- The first failing check of R173 with its outcome. -/
def State.verify (s : State) (b : Bytes) : Option (Nat × Outcome) :=
  if !Image.formatOk 1 b then some (1, .error stImageFormat)
  else if !s.keyOk b then some (2, .error stKeyNotValid)
  else if !s.signatureOk b then some (3, .error stSignatureBad)
  else if !Image.tableOk b then some (4, .error stImageFormat)
  else if !Image.keyMapOk b then some (5, .error stKeymapInvalid)
  else if !Image.capacityOk b then some (6, .capacity)
  else if !s.imagePolicy b then some (7, .policy)
  else none

/-- IMAGE_VERIFY_END (R173, R194): `partnerCheck` is the first check the shadow failed, none where it passed them all. The
record holds the slot, the IMAGE_ID, the own failing check and the shadow's, 0 for none. -/
def execImageVerifyEnd (t : Ns) (partnerCheck : Option (Fin 8)) (s : State) : Res :=
  let s := s.begin t
  match s.xch.staging.bind Staging.last with
  | none => .next s
  | some org =>
    let k := s.xch.stagingSlot
    let b := s.xch.slots[k].bytes
    let res := s.verify b
    let failing := (res.map Prod.fst).getD 0
    let s := s.updXch fun x => { (x.upd k fun z => { z with
      state := if res.isSome then .invalid else .verified, failing := failing }) with staging := none }
    let shadow : Nat := if s.inStep && s.pair.state == .lead then (partnerCheck.map Fin.val).getD 0 else 0
    let partner := shadow != 0
    let s := s.record .svc .programStaged [k.val, leNat (Image.imageId b), failing, shadow]
    .next (s.complete org ((res.map Prod.snd).getD (if partner then .error stPartnerVerify else .done)))

/-! ### Carry-over (R183 to R187) -/

/-- The element of a signed integer type: its size in bytes. -/
def signedSize (c : Nat) : Option Nat := match c with | 2 => some 1 | 3 => some 2 | 4 => some 4 | 5 => some 8 | _ => none
def unsignedSize (c : Nat) : Option Nat := match c with | 6 => some 1 | 7 => some 2 | 8 => some 4 | 9 => some 8 | _ => none

/-- Value of an integer of a base code. -/
def intValue (c : Nat) (b : Bytes) : Int :=
  match signedSize c with
  | some n => signed (8 * n) (leNat (b.take n))
  | none => leNat b

/-- The converted bytes of a value, none where the pair is not in the table of R184. -/
def convert (o n : KeyEntry) (b : Bytes) (init : Bytes) : Option Bytes :=
  let oc := Image.baseCode o.typeSig
  let nc := Image.baseCode n.typeSig
  let narrow := oc == 2 || oc == 3 || oc == 6 || oc == 7
  let to32 := narrow || oc == 4 || oc == 8
  if oc = 0x41 ∧ nc = 0x41 then
    if o.elemSig = n.elemSig ∧ o.count ≤ n.count then some ((b.take o.size ++ init.drop o.size).take n.size) else none
  else if oc = 0x42 ∧ nc = 0x42 then
    if o.typeSig.toNat % 2 ^ 24 ≤ n.typeSig.toNat % 2 ^ 24 then
      some ((b ++ List.replicate n.size 0).take n.size) else none
  else if oc = 0x0D ∧ nc = 0x0D then
    if o.size < n.size ∧ o.size ≤ 4 then some ((b ++ List.replicate n.size 0).take n.size) else none
  else if (oc = 0x25 ∨ oc = 0x26) ∧ nc = 0x27 then some ((b ++ init.drop b.length).take n.size)
  else if nc = 0x0A ∧ narrow then some (wrF32 (intValue oc b))
  else if nc = 0x0B ∧ to32 then some (wrF64 (intValue oc b))
  else if nc = 0x0B ∧ oc = 0x0A then
    match rdF32 b 0 with
    | some v => some (if v = 0 then wr 8 (2 ^ 63 * bitsOf (leNat b) 31 31) else wrF64 v)
    | none => some (wr 8 (2 ^ 63 * bitsOf (leNat b) 31 31 + 0x7FF * 2 ^ 52 + 2 ^ 29 * bitsOf (leNat b) 22 0))
  else
    match signedSize oc, signedSize nc, unsignedSize oc, unsignedSize nc with
    | some a, some c, _, _ => if a < c then some (wrS c (intValue oc b)) else none
    | _, some c, some a, _ => if a < c then some (wr c (leNat b)) else none
    | _, _, some a, some c => if a < c then some (wr c (leNat b)) else none
    | _, _, _, _ => none

/-- Whether two entries carry equal signatures (R183); a bit string of another size is not the same type (R169). -/
def sameType (o n : KeyEntry) : Bool :=
  o.typeSig == n.typeSig && (Image.baseCode o.typeSig != 0x41 || (o.elemSig == n.elemSig && o.count == n.count)) &&
    (Image.baseCode o.typeSig != 0x0D || o.size == n.size)

/-- The outcome of one entry of the new image (R183). -/
def carryOf (old : List KeyEntry) (n : KeyEntry) : Carry × Option KeyEntry :=
  match old.find? fun o => o.key = n.key with
  | none => (.new, none)
  | some o =>
    if sameType o n then (.copied, some o)
    else if (convert o n (List.replicate o.size 0) (List.replicate n.size 0)).isSome then (.converted, some o)
    else (.reinit, some o)

/-- The carry-over plan of R176: key, old and new signature, outcome. -/
def carryPlan (old new : List KeyEntry) : List (BitVec 64 × BitVec 32 × BitVec 32 × Carry) :=
  new.map (fun n => let (c, o) := carryOf old n; (n.key, (o.map KeyEntry.typeSig).getD 0, n.typeSig, c)) ++
    (old.filter fun o => !new.any fun n => n.key = o.key).map fun o => (o.key, o.typeSig, 0, .dropped)

/-- One entry of the new image takes its value and instance from the old data (R183 to R187). -/
def carryEntry (old : List KeyEntry) (src : PrgData) (d : PrgData) (n : KeyEntry) : PrgData :=
  match carryOf old n with
  | (.copied, some o) =>
    let d := { d with mem := Memory.writeAll d.mem n.addr (Memory.readAll src.mem o.addr o.size) }
    match src.insts.find? fun x => x.1 = n.key with
    | some (_, i) => d.put n.key i
    | none => d
  | (.converted, some o) =>
    let b := Memory.readAll src.mem o.addr o.size
    let d := match convert o n b (Memory.readAll d.mem n.addr n.size) with
      | some v => { d with mem := Memory.writeAll d.mem n.addr v }
      | none => d
    match src.insts.find? fun x => x.1 = n.key with
    | some (_, .counter c pu pd mu md) =>
      let up := Image.baseCode o.typeSig == 0x25
      d.put n.key (.counter c (up && pu) (!up && pd) (if up then mu else n.primeFalse) (if up then n.primeFalse else md))
    | _ => d
  | _ => d

/-- The new image's data memory and instances: initial values and madder, then what is carried (R128, R178, R183). -/
def carryData (old : List KeyEntry) (src : PrgData) (image : Bytes) (new : List KeyEntry) : PrgData :=
  new.foldl (carryEntry old src) { mem := Image.initial image }

/-- Counts and carried bytes of a plan (R179, R193). -/
def planReport (plan : List (BitVec 64 × BitVec 32 × BitVec 32 × Carry)) (new : List KeyEntry) (oldId newId : Bytes) : SwitchReport :=
  let n (c : Carry) : Nat := (plan.filter fun x => x.2.2.2 == c).length
  let bytes := plan.foldl (fun k x =>
    if x.2.2.2 == .copied || x.2.2.2 == .converted then k + (((new.find? fun e => e.key = x.1).map KeyEntry.size).getD 0) else k) 0
  { oldId := oldId, newId := newId, carried := bytes, copied := n .copied, converted := n .converted, reinit := n .reinit,
    newKeys := n .new, dropped := n .dropped }

/-- Position of an outcome in R183. -/
def Carry.num : Carry → Int
  | .copied => 0 | .converted => 1 | .reinit => 2 | .new => 3 | .dropped => 4

/-- The CARRY_DETAIL records: 40 keys each, up to 4,096 keys (R194). -/
def detailRecords : Nat → List (List Int) → State → State
  | 0, _, s => s
  | _, [], s => s
  | n + 1, l, s => detailRecords n (l.drop 40) (s.record .prg .carryDetail (l.take 40).flatten)

/-- Lists the keys that were converted, re-initialised or dropped (R194). -/
def State.carryDetail (plan : List (BitVec 64 × BitVec 32 × BitVec 32 × Carry)) (s : State) : State :=
  let l := (plan.filter fun x => x.2.2.2 == .converted || x.2.2.2 == .reinit || x.2.2.2 == .dropped).take 4096
  detailRecords 103 (l.map fun x => [(x.1.toNat : Int), x.2.1.toNat, x.2.2.1.toNat, Carry.num x.2.2.2]) s

/-! ### Requesting a switch (R174 to R177, R192) -/

def swSlot (o : Bytes) : Fin 2 := Fin.ofNat 2 (rdBits o 0 0 0)
def swCycle (o : Bytes) : Nat := rd o 8 8
def swId (o : Bytes) : Bytes := (o.drop 16).take 16

/-- The slot becomes the running one, and the one it replaces VERIFIED (R164). -/
def Exchange.enter (k : Fin 2) (x : Exchange) : Exchange :=
  let other : Fin 2 := if k = 0 then 1 else 0
  (x.upd k fun z => { z with state := .running }).upd other fun z =>
    if z.state == .running then { z with state := .verified } else z

/-- Events go to the new image's task with the same trigger, or are counted lost (R182; the counter is DESIGN CHOICE, log 102). -/
def Program.remapEvents (new : List EventTask) (p : Program) : Program :=
  let queued := p.events.flatMap fun k => k.queue.map fun e => (k.trigger, e)
  let tasks := new.map fun k => (queued.filter fun q => q.1 = k.trigger).foldl (fun k q => EventTask.push q.2 k) k
  let lost := (queued.filter fun q => !new.any fun k => k.trigger = q.1).length
  { p with events := tasks, eventLost := satAdd 32 p.eventLost lost }

/-- What CYCLE_LONG holds for the next barrier of a pair follows its variables into the new image; a write to a variable that is
not copied is gone (R366; DESIGN CHOICE, log 101). -/
def remapLong (old new : List KeyEntry) (l : List LongAct) : List LongAct :=
  l.filterMap fun a =>
    match a with
    | .store addr data =>
      (old.find? fun e => decide (e.addr ≤ addr) && decide (addr < e.addr + e.size)).bind fun e =>
        (new.find? fun n => n.key = e.key && sameType e n).map fun n => .store (n.addr + (addr - e.addr)) data
    | a => some a

/-- The gap (R178): code and tables of the new image, the carried data, and its retained boundary copy. -/
def State.enterImage (k : Fin 2) (src : PrgData) (keep : Bool) (s : State) : State :=
  let b := s.xch.slots[k].bytes
  let r := Image.load k b
  let old := (s.prg.running.map Running.keyMap).getD []
  let data := carryData old src b r.keyMap
  let s := (s.updXch (Exchange.enter k)).updPrg fun p =>
    { (p.remapEvents (Image.events b)) with running := some r, data := data, longHeld := remapLong old r.keyMap p.longHeld }
  if keep then
    s.updPrg fun p => { p with boundary := { imageId := r.imageId, data := r.retained data, cycle := p.cycleNumber,
                                             stamp := s.now, clock := s.prgClock } }
  else s

/-- The running-slot marker is written to the configuration store (R195). -/
def State.writeMarker (k : Fin 2) (s : State) : State :=
  (s.updXch fun x => { x with marker := some k, markerPending := none }).storeRegister

/-- A switch while the program rests: no switch point, no tasks (R192, R193). Its retained data is saved before the marker
moves; with no data to save the marker moves at once (R195; DEDUCED, log 35). -/
def State.switchAtRest (org : Origin) (k : Fin 2) (s : State) : State :=
  let oldId := (s.prg.running.map Running.imageId).getD []
  let old := (s.prg.running.map Running.keyMap).getD []
  let new := Image.entries s.xch.slots[k].bytes
  let plan := carryPlan old new
  let keep := s.prg.boundary.imageId == oldId && oldId != []
  let src := match s.prg.running, keep with
    | some r, true => r.restore s.prg.data s.prg.boundary.data
    | _, _ => s.prg.data
  let rep := { planReport plan new oldId (Image.imageId s.xch.slots[k].bytes) with cycle := s.prg.cycleNumber + 1 }
  let s := ((s.enterImage k src keep).carryDetail plan).record .prg .programSwitch rep.items
  let s := (s.updXch fun x => { x with switch := none, lastSwitch := rep }).complete org (.done rep.bytes)
  if keep && !s.stores[(1 : Fin 2)].heldBack then
    ((s.updXch fun x => { x with markerPending := some k }).requestSave 1 .afterSwitch none).1
  else s.writeMarker k

/-- A switch is accepted while the program runs: plan, save of the boundary copy, arming (R176, R177). -/
def State.requestSwitch (org : Origin) (o : Bytes) (s : State) : State :=
  let k := swSlot o
  let b := s.xch.slots[k].bytes
  let new := Image.entries b
  let plan := carryPlan ((s.prg.running.map Running.keyMap).getD []) new
  let rep := planReport plan new ((s.prg.running.map Running.imageId).getD []) (Image.imageId b)
  let cycle := if s.inStep then max (swCycle o) (s.prg.cycleNumber + 3) else swCycle o
  let s := s.updXch fun x => { x with switch := some {
    org := org, slot := k, cycle := cycle, plan := plan, report := rep, partnerArmed := !s.inStep } }
  let (s, ok) := s.requestSave 1 .exchange none
  if ok then s else s.dropSwitch stStoreFull

/-- PROGRAM_SWITCH (R174 to R176, R192). -/
def execProgramSwitch (t : Ns) (org : Origin) (obj : Bytes) (s : State) : Res :=
  let s := s.begin t
  let k := swSlot obj
  let z := s.xch.slots[k]
  serve org opProgramSwitch [.prg, .svc, .recorder]
    (badField (obj.length != 32 || rdBits obj 0 7 1 != 0 || !zeroAt obj 1 7))
    (firstOf [fails (s.programHeld || s.xch.staging.isSome) .busy, fails (!s.runsPrograms) (.policy stPolicyRole),
      fails (z.state != .verified) (.error stNotVerified), fails (Image.imageId z.bytes != swId obj) (.error stImageMismatch),
      fails (s.prg.state == .starting || s.prg.state == .switching) (.error stWrongState),
      fails (swCycle obj != 0 && decide (swCycle obj ≤ s.prg.cycleNumber)) (.error stCyclePassed)])
    (fun s =>
      if !Image.crcsOk z.bytes then
        (s.updXch (Exchange.upd k fun z => { z with state := .invalid, failing := 4 })).complete org (.error stImageFormat)
      else if s.prg.state == .stopped || s.prg.state == .halted then s.switchAtRest org k
      else s.requestSwitch org obj) s

/-- The save before the exchange has completed: the switch is armed, at the next cycle where its own has begun; armed in the
wait for a cycle, it takes place before that cycle (R176). -/
def State.arm (s : State) : State :=
  (s.updXch fun x => { x with switch := x.switch.map fun w =>
    if w.phase = .armed then { w with ownArmed := true, cycle := max w.cycle (s.prg.cycleNumber + 1) } else w }).startSwitch

/-- ARMED (R177). -/
def execArmed (t : Ns) (cycle : Nat) (s : State) : Res :=
  let s := s.begin t
  .next (s.updXch fun x => { x with switch := x.switch.map fun w =>
    if w.phase = .armed && w.cycle = cycle then { w with partnerArmed := true } else w })

/-- The cycle whose barrier was last passed; a member that waits for no partner passes them all (R364, R372). -/
def State.barrierCycle (s : State) : Nat :=
  if s.inStep then
    match s.pair.barrier.own with
    | some (n, _) => if s.pair.barrier.passed then n else n - 1
    | none => 0
  else s.prg.cycleNumber

/-- PAIR_NOT_ARMED (R177): at the barrier of the cycle before the switch cycle. -/
def execPairNotArmed (t : Ns) (s : State) : Res :=
  let s := s.begin t
  match s.xch.switch with
  | some w =>
    if w.phase = .armed && s.isPair && (!w.partnerArmed || (!w.ownArmed && s.inStep)) &&
        decide (w.cycle ≤ s.barrierCycle + 1) then
      .next (s.dropSwitch stPairNotArmed)
    else .next s
  | none => .next s

/-! ### The switch (R178 to R182) -/

/-- PRE_SWITCH_END (R178): any EVENT task and CYCLE_LONG have finished, so that both cores are idle; the gap of `gapUs`
follows. -/
def execPreSwitchEnd (t : Ns) (gapUs : Nat) (acts : List PrgAct) (s : State) : Res :=
  let s := s.begin t
  match s.xch.switch with
  | none => .next s
  | some w =>
    if w.phase != .pre || s.prg.longRunning || s.prg.events.any (fun k => k.active.isSome) then .next s
    else
      let hasPre := (s.prg.running.map Running.hasPreSwitch).getD false
      let (s, ok) := s.runActs s.prg.snap.now (if hasPre then acts else [])
      if !ok then .next s else
      let s := (s.enterImage w.slot s.prg.data true).updPrg fun p => { p with state := .switching }
      let rep := { w.report with cycle := w.cycle, gapUs := gapUs, preUs := (s.clock - w.since) / 1000 }
      let s := s.updXch fun x => { x with switch := some { w with phase := .post, since := s.clock + 1000 * gapUs, report := rep } }
      .next (s.carryDetail w.plan)

/-- POST_SWITCH_END (R178, R181). -/
def execPostSwitchEnd (t : Ns) (acts : List PrgAct) (s : State) : Res :=
  let s := s.begin t
  match s.xch.switch with
  | none => .next s
  | some w =>
    if w.phase != .post || decide (s.clock < w.since) then .next s
    else
      let hasPost := (s.prg.running.map Running.hasPostSwitch).getD false
      let (s, ok) := s.runActs s.prg.snap.now (if hasPost then acts else [])
      if !ok then .next s else
      let rep := { w.report with postUs := (s.clock - w.since) / 1000 }
      .next ((s.updXch fun x => { x with switch := some { w with phase := .firstCycle, report := rep } }).updPrg fun p =>
        { p with state := w.before, firstAfterSwitch := true })

/-! ### What a completed save lets happen (R146, R151, R176, R195) -/

/-- A STOP or a switch that waited for a save which could not be made completes STORE_FULL (R493). -/
def State.saveMissed (s : State) : State :=
  let st := s.stores[(1 : Fin 2)]
  if st.running.isSome || !st.waiting.isEmpty then s
  else
    let s := match s.xch.switch with
      | some w => if w.phase = .armed && !w.ownArmed then s.dropSwitch stStoreFull else s
      | none => s
    if s.prg.stopReq && !s.prg.inMain && s.prg.state != .switching then s.finishStop (.error stStoreFull) else s

end Sys2Proof.Machine
end

