-- ==== Sys2Proof/Machine/RingFrame.lean ====
section
/-! DEFINITION. Broluma frames: header, PCRC, origination (R319, R325 to R329), the pair's configuration fields (R359) and
the start of a planned hand-over (R373, R385). -/

namespace Sys2Proof.Machine

/-! ### Frames (R325, R326) -/

def fSource (f : Bytes) : Nat := rdBe f 0 2
def fSeq (f : Bytes) : BitVec 16 := BitVec.ofNat 16 (rdBe f 2 2)
def fClass (f : Bytes) : Nat := rdBits f 4 7 4
def fEpoch (f : Bytes) : BitVec 4 := BitVec.ofNat 4 (rdBits f 4 3 0)
def fLead (f : Bytes) : Bool := rdBits f 5 7 7 == 1
def fHops (f : Bytes) : Nat := rd f 6 1
def fSubtype (f : Bytes) : Nat := rd f 7 1
def fDest (f : Bytes) : Nat := rdBe f 8 2
def fLength (f : Bytes) : Nat := rdBe f 10 2
def fEgress (f : Bytes) : Nat := rdBe f 12 4
def fPayload (f : Bytes) : Bytes := (f.drop 16).take (fLength f)
def fPcrc (f : Bytes) : BitVec 32 := BitVec.ofNat 32 (rdBe f (16 + fLength f) 4)

/-- PCRC over header bytes 0 to 3 and 7 to 11 and the payload (R326). -/
def pcrcOf (header payload : Bytes) : BitVec 32 := crc32c (header.take 4 ++ (header.drop 7).take 5 ++ payload)

/-- Whether a frame's PCRC is right (R326). -/
def pcrcGood (f : Bytes) : Bool := decide (f.length = 20 + fLength f) && pcrcOf (f.take 16) (fPayload f) == fPcrc f

/-- A frame that its consumer discards for a wrong PCRC is counted at the station it came from (R326, R356). -/
def State.countPcrc (f : Bytes) (s : State) : State :=
  let count (x : Station) : Station :=
    if rd x.obj 2 2 == fSource f then { x with pcrcErr := satAdd 32 x.pcrcErr 1 } else x
  if pcrcGood f then s else s.updRing fun r => { r with stations := r.stations.map count }

/-- Header, payload and PCRC of a frame with HOPS 0 (R325, R326). -/
def mkBroluma (src : Nat) (seq : BitVec 16) (cls : Nat) (epoch : Nat) (lead : Bool) (sub dest : Nat) (egress : Int)
    (payload : Bytes) : Bytes :=
  let h := wrBe 2 src ++ wrBe 2 seq.toNat ++ wr 1 (16 * cls + epoch % 16) ++ wr 1 (if lead then 128 else 0) ++ [0] ++ wr 1 sub
    ++ wrBe 2 dest ++ wrBe 2 payload.length ++ wrBe 4 (egress % 2 ^ 32).toNat
  h ++ payload ++ wrBe 4 (pcrcOf h payload).toNat

/-! ### Fields of PAIR_CONFIG (R359) -/

def pcAddr (o : Bytes) : Nat := rd o 0 2
def pcNodeA (o : Bytes) : Nat := rd o 2 2
def pcNodeB (o : Bytes) : Nat := rd o 4 2
def pcRef1 (o : Bytes) : Nat := rd o 6 2
def pcRef2 (o : Bytes) : Nat := rd o 8 2
/-- HB_PERIOD in ms. -/
def pcPeriod (o : Bytes) : Nat := rd o 10 1
def pcMiss (o : Bytes) : Nat := rd o 11 1
def pcHoldoff (o : Bytes) : Nat := rd o 12 2
def pcDrill (o : Bytes) : Nat := rd o 14 2
def pcRevert (o : Bytes) : Bool := rdBits o 16 0 0 == 1
/-- HB_MISS × HB_PERIOD in ns (R372). -/
def pcLoss (o : Bytes) : Ns := pcMiss o * pcPeriod o * 1000000

/-- The pair address, 0 without a configuration. -/
def State.pairAddr (s : State) : Nat := (s.pair.cfg.map pcAddr).getD 0
/-- The partner's node address. -/
def State.partnerNode (s : State) : Nat :=
  match s.pair.cfg with
  | none => 0
  | some o => if s.role = some .pairA then pcNodeB o else pcNodeA o

/-! ### Origination (R325, R329, R335, R369) -/

def Port.idx : Port → Fin 3
  | .a => 0 | .b => 1 | .l => 2

def State.port (s : State) (p : Port) : RingPort := s.ring.ports[Port.idx p]
def State.updPort (p : Port) (f : RingPort → RingPort) (s : State) : State :=
  s.updRing fun r => { r with ports := r.ports.set (Port.idx p) (f r.ports[Port.idx p]) }

/-- The ports of a list that have link. -/
def State.portsUp (s : State) (l : List Port) : List Port := l.filter fun p => (s.port p).link == .up

/-- Classes of R325. -/
def clsCyclic := 1
def clsAcyclic := 2
def clsPair := 3

/-- A frame leaves on every given port that is UP, under the node's own address or under its pair address with the pair's
epoch and the LEAD flag of the lead (R325, R327, R329, R369). -/
def State.sendFrame (pair : Bool) (seq : BitVec 16) (cls sub dest : Nat) (payload : Bytes) (l : List Port) (s : State) : State :=
  let f := mkBroluma (if pair then s.pairAddr else s.node) seq cls (if pair then s.pair.epoch.toNat else s.ring.epoch.toNat)
    (pair && s.pair.state == .lead) sub dest s.now payload
  let up := s.portsUp l
  let s := if pair && cls == clsCyclic then s.updPair fun p => { p with windowPcrcs := p.windowPcrcs ++ [fPcrc f] } else s
  let s := up.foldl (fun s p => s.updPort p fun x => { x with txOriginated := satAdd 32 x.txOriginated 1 }) s
  if up.isEmpty then s else s.emit (.frame up f)

/-- The next SEQ is taken (R325, R369). -/
def State.takeSeq (pair : Bool) (s : State) : State :=
  if pair then s.updPair fun p => { p with pairSeq := p.pairSeq + 1 } else s.updRing fun r => { r with seq := r.seq + 1 }

/-- A node originates a frame: it takes the next SEQ, whether or not a port is UP; an unaddressed node originates none
(R325, R329, R342). -/
def State.originate (pair : Bool) (cls sub dest : Nat) (payload : Bytes) (l : List Port) (s : State) : State :=
  if s.node = 0 then s
  else (s.sendFrame pair (if pair then s.pair.pairSeq else s.ring.seq) cls sub dest payload l).takeSeq pair

/-- Whether the node's frames of its station go out under its pair address (R358, R380). -/
def State.underPair (s : State) : Bool := s.isPair && s.computes

/-! ### Planned hand-over (R373, R381, R385) -/

/-- Reason codes of R373. -/
def rsFailover : BitVec 8 := 1
def rsFormation : BitVec 8 := 2
def rsRevert : BitVec 8 := 3
def rsDrill : BitVec 8 := 4
def rsHandover : BitVec 8 := 5

/-- The 16-byte payload of GRANT_REQUEST, GRANT, DENY and RELINQUISH (R373). -/
def grantPayload (pairAddr node : Nat) (term : BitVec 32) (kh : Nat) (reason : BitVec 8) : Bytes :=
  wr 2 pairAddr ++ wr 2 node ++ wr 4 term.toNat ++ wr 4 (kh % 2 ^ 32) ++ wr 1 reason.toNat ++ [0, 0, 0]

/-- The first bus cycle that starts at least `d` ns from now. -/
def State.busAfter (s : State) (d : Nat) : Nat :=
  let rel := s.clock + d - s.ring.busStart
  s.ring.busCycle + (rel + s.tBus - 1) / max 1 s.tBus

/-- The node address of the first referee heard, 0 with none. -/
def State.firstReferee (s : State) : Nat :=
  match s.pair.cfg with
  | none => 0
  | some o => if !s.pair.ref1.lost then pcRef1 o else if !s.pair.ref2.lost then pcRef2 o else 0

/-- The lead starts a planned hand-over to the shadow: RELINQUISH with a K_H at least 5 ms ahead (R385). -/
def State.startHandover (org : Origin) (reason : BitVec 8) (s : State) : State :=
  let kh := s.busAfter 5000000
  let limit := s.ring.busStart + (kh - s.ring.busCycle) * s.tBus + (s.pair.cfg.map pcLoss).getD 0
  let s := s.updPair fun p => { p with handover := some (org, reason, limit), handoverDue := none }
  s.originate false clsPair 5 s.firstReferee (grantPayload s.pairAddr s.partnerNode s.pair.term kh reason) [.a, .b]

/-- A consumer that holds DUP_MISMATCH for a pair consumes only its frames with LEAD set (R371). -/
def State.shut (s : State) (f : Bytes) : Bool := !fLead f && s.pair.dups.any fun d => d.pair == fSource f

/-- Whether the partner is in SHADOW and heard. -/
def State.shadowThere (s : State) : Bool := !s.pair.partner.lost && s.pair.partner.state == 2

/-! ### RING_CONFIG and the capacity sum (R322, R337) -/

/-- The settings a RING_CONFIG object spells (R322). -/
def ringCfgOf (o : Bytes) : RingCfg :=
  { tBus := rd o 0 4, window := rd o 4 1, modeA := BitVec.ofNat 2 (rdBits o 5 1 0), modeB := BitVec.ofNat 2 (rdBits o 5 3 2),
    modeL := BitVec.ofNat 2 (rdBits o 5 5 4), slow := rdBits o 6 0 0 == 1, wdCycles := rd o 7 1, master := rd o 8 2,
    acyGuard := rd o 10 2, acyTimeout := rd o 12 2, acyRetries := rd o 14 1, foreignLoad := rd o 16 4 }

/-- ns per byte (R337). -/
def RingCfg.byteNs (c : RingCfg) : Nat := if c.slow then 80 else 8
/-- t_hop in ns (R337). -/
def RingCfg.hopNs (c : RingCfg) : Nat := if c.slow then 12000 else 2000
/-- Wire time of a frame in ns (R324, R337). -/
def RingCfg.wire (c : RingCfg) (len : Nat) : Nat := (max len 26 + 58) * c.byteNs
/-- W × T_BUS in ns. -/
def RingCfg.windowNs (c : RingCfg) : Nat := c.window * c.tBus * 10

def stNode (o : Bytes) : Nat := rd o 2 2
def stEnable (o : Bytes) : Bool := rdBits o 4 7 7 == 1
def stHps (o : Bytes) : Bool := rdBits o 4 6 6 == 1
def stWd (o : Bytes) : Nat := rd o 5 1
def stIn (o : Bytes) : Nat := rd o 6 2
def stOut (o : Bytes) : Nat := rd o 8 2
def stHopsA (o : Bytes) : Nat := rd o 10 1
def stHopsB (o : Bytes) : Nat := rd o 11 1
/-- Whether an enabled entry exchanges images (R344). -/
def stImages (o : Bytes) : Bool := stEnable o && (stIn o != 0 || stOut o != 0)

/-- Payload bytes of a station's input and output frames (R345). -/
def stInLen (o : Bytes) : Nat := 8 + 4 * stIn o + (stIn o + 3) / 4
def stOutLen (o : Bytes) : Nat := 8 + 4 * stOut o

/-- Longest path of a station in hops with one link lost (R337). -/
def stPath (o : Bytes) : Nat :=
  if stHopsA o = 255 then stHopsB o else if stHopsB o = 255 then stHopsA o else stHopsA o + stHopsB o - 1

/-- Wire time of the safety containers that cross: of every station whose connections are consumed, and the own (R337). -/
def containersNs (c : RingCfg) (saf : Bytes) : Nat :=
  let consumed := ((safConnEntries saf).filter fun e => !cnProduces e).map cnStation
  let own := ((safConnEntries saf).filter cnProduces).length
  let others := consumed.dedup.map fun st => c.wire (4 + 20 * (consumed.filter (· = st)).length)
  others.foldl (· + ·) 0 + if own = 0 then 0 else c.wire (4 + 20 * own)

/-- The terms of the capacity sum: S, F, P, H and the spare window in ns (R337). -/
structure Capacity where
  s : Nat
  f : Nat
  p : Nat
  h : Nat
  spare : Int
  guardOk : Bool
deriving DecidableEq, Repr

/-- The capacity sum over station objects, a safety configuration and ring settings (R337). -/
def capacitySum (pair : Bool) (c : RingCfg) (objs : List Bytes) (saf : Bytes) : Capacity :=
  let l := objs.filter stImages
  let one (o : Bytes) : Nat :=
    let i := c.wire (stInLen o)
    let q := c.wire (stOutLen o)
    if pair then i + q else max i q
  let sum := l.foldl (fun n o => n + one o) 0 + containersNs c saf
  let p := 4 * ((c.windowNs + 999999) / 1000000) * 128 * c.byteNs
  let h := l.foldl (fun n o => max n (stPath o)) 0
  { s := sum, f := c.foreignLoad, p := p, h := h,
    spare := (c.windowNs : Int) - (sum + c.foreignLoad + p + h * c.hopNs + 10000),
    guardOk := decide (h * c.hopNs ≤ 1000 * c.acyGuard) }

/-- Whether a node in this role admits by the sum at all. -/
def State.sums (s : State) : Bool := s.role == some .controller || s.isPair

/-- The station objects as they will stand: a waiting change counts. -/
def Station.next (x : Station) : Bytes := (x.pending.map Prod.snd).getD x.obj

/-- Whether the sum fails for these objects (R323, R337, R343). -/
def State.overCapacity (s : State) (c : RingCfg) (objs : List Bytes) (saf : Bytes) : Bool :=
  let k := capacitySum s.isPair c objs saf
  s.sums && (decide (k.spare < 0) || !k.guardOk)

/-- The ring settings as they will stand. -/
def State.nextRing (s : State) : RingCfg := match s.ring.cfgPending with | some (_, o) => ringCfgOf o | none => s.ring.cfg

/-- The sum of what is in force, for the RING field (R355). -/
def State.sumCapacity (s : State) : State :=
  let k := capacitySum s.isPair s.ring.cfg (s.ring.stations.map Station.obj) (s.saf.cfg.getD (List.replicate 32 0))
  s.updRing fun r => { r with capS := k.s, capF := k.f, capP := k.p, capH := k.h, capSpare := k.spare }

end Sys2Proof.Machine
end

