-- ==== Sys2Proof/Machine/Lead.lean ====
section
/-! DEFINITION. Taking and giving up the lead of a pair at a bus cycle (R361, R375, R385, R386). -/

namespace Sys2Proof.Machine

/-- A change of lead is put down for a bus cycle; a grant with a higher term replaces an earlier one (R375). -/
def State.planLead (c : LeadChange) (s : State) : State :=
  let keep := match s.pair.pendingLead with | some p => decide (c.term.toNat < p.term.toNat) | none => false
  if keep then s else s.updPair fun p => { p with pendingLead := some c }

/-- A planned hand-over ends: its PAIR_COMMAND completes. -/
def State.endHandover (o : Outcome) (s : State) : State :=
  match s.pair.handover with
  | none => s
  | some (org, _, _) => (s.updPair fun p => { p with handover := none }).complete org o

/-- Reversions within the last 60 min of ring time (R386). -/
def State.recentReversions (s : State) : List Int := s.pair.reversions.filter fun x => decide (s.now < x + 3600000000000)

/-- The lead counts a reversion: the third within 60 min sets REVERT_LIMIT, with its event and record (R386, R389, R440). -/
def State.countReversion (s : State) : State :=
  let l := s.recentReversions ++ [s.now]
  let s := (s.updPair fun p => { p with reversions := l }).record .rng .reversion [l.length]
  if 3 ≤ l.length && !s.pair.revertLimit then
    ((s.updPair fun p => { p with revertLimit := true }).record .rng .revertLimit [l.length]).postEvent 0x0005 0 (wr 4 l.length)
  else s

/-- Whether a change of lead is a reversion that counts: the hand-over back after a swap drill is not (R386). -/
def State.reverts (c : LeadChange) (s : State) : Bool := c.reason == rsRevert && !s.pair.drillSwap

/-- The member takes the lead under a term: LEAD is set from this bus cycle, term and epoch are stored (R361, R375, R381). -/
def State.takeLead (c : LeadChange) (s₀ : State) : State :=
  let forming := c.reason == rsFormation
  let s := s₀.updPair fun p => { p with
    term := c.term, leadNode := s₀.node, epoch := if forming then p.epoch + 1 else p.epoch, pendingLead := none,
    revertReq := false, lastGrant := s₀.now, lastReason := c.reason, drillSwap := c.reason == rsDrill,
    drillNext := p.cfg.bind fun o => if pcDrill o = 0 then none else some (s₀.clock + pcDrill o * 3600000000000) }
  let s := (s.setMember .lead 1).storeRegister
  if s₀.reverts c then s.countReversion else s

/-- The member steps down for another lead: LEAD clears, a hand-over it started completes DONE at K_H (R375, R384, R385). -/
def State.giveLead (c : LeadChange) (s₀ : State) : State :=
  let s := s₀.updPair fun p => { p with
    term := c.term, leadNode := c.leadNode, pendingLead := none, lastGrant := s₀.now, lastReason := c.reason,
    drillSwap := c.reason == rsDrill, drillNext := none }
  let s := if s.pair.state = .lead then s.setMember .shadow 4 else s
  let s := if c.reason == rsDrill && s.pair.handover.isSome then s.record .rng .drill [1] else s
  let s := if s₀.reverts c then s.countReversion else s
  (s.storeRegister).endHandover .done

/-- A hand-over whose grant has not come in time has failed: the lead stays, and a drill raises DRILL_FAILED (R381, R385). -/
def State.failHandover (o : Outcome) (s : State) : State :=
  match s.pair.handover with
  | none => s
  | some (_, reason, _) =>
    let s := if reason == rsDrill then
        (s.updPair fun p => { p with drillFailed := true }).record .rng .drill [0]
      else s
    s.endHandover o

/-- LEAD_CHANGE at the start of bus cycle `k` (R375, R385); a hand-over no referee granted is given up there HB_MISS heartbeat
periods after its K_H. -/
def State.changeLead (k : Nat) (s : State) : State :=
  match s.pair.pendingLead with
  | none =>
    match s.pair.handover with
    | some (_, _, limit) => if limit ≤ s.clock then s.failHandover (.error stHandoverDenied [0]) else s
    | none => s
  | some c => if k < c.kh then s else if c.take then s.takeLead c else s.giveLead c

end Sys2Proof.Machine
end

