-- ==== Sys2Proof/Machine/SafCfg.lean ====
section
/-! DEFINITION. SAFETY_CONFIG and SAFETY_CONFIRM: the checks of R286, ring and reaction times (R310 to R312). -/

namespace Sys2Proof.Machine

/-! ### Reaction time (R310 to R312) -/

/-- H of a connection: the larger hop count of the peer's entry, 255 left out; without one, the H in force at a controller
and 255 elsewhere (R310). -/
def State.pathHops (s : State) (station : Nat) : Nat :=
  let other := if s.role = some .controller || s.isPair then s.ring.capH else 255
  match s.ring.stations.find? fun x => x.index = station with
  | none => other
  | some x =>
    let l := [rd x.obj 10 1, rd x.obj 11 1].filter (· ≠ 255)
    if l.isEmpty then other else l.foldl max 0

/-- T_RING of a connection to a station, in ns (R310). -/
def State.tRing (s : State) (station : Nat) : Nat :=
  s.tBus + s.ring.cfg.window * s.tBus / 100 + s.pathHops station * (if s.ring.cfg.slow then 12000 else 2000) + 20000

/-- T_IN of a safety channel in µs (R311). -/
def safIn (o : Bytes) (i : Nat) : Nat :=
  match safChan o i with
  | none => 0
  | some e =>
    let base := 50 * scFilter e + 300 + 50
    if scKind e = 3 then base + 2000 + 1000 * ((safConn o (scSource e)).map cnWd).getD 0 else base

/-- T_OUT of an SDO channel in µs (R311). -/
def safOut (o : Bytes) (i : Nat) : Nat :=
  match safChan o i with
  | none => 0
  | some e =>
    if scKind e = 4 then
      match safConn o (scSource e) with
      | none => 0
      | some n => 1000 * cnWd n + (if cnPeerTime n = 0 then 2000 + 500 else 10 * cnPeerTime n)
    else 500

/-- T_R of a function in µs with a margin T_M (R311, R312); 0 for an entry with ENABLE clear (R286). -/
def safReaction (o : Bytes) (tM : Nat) (e : Bytes) : Nat :=
  if sfEnable e then
    ((sfInputs e).map (safIn o)).foldl max 0 + 2000 +
      ((sfOuts e).map (safOut o) ++ (sfOvrs e).map fun _ => 500).foldl max 0 + tM
  else 0

/-! ### The checks of R286 -/

/-- Index of the first entry that is bad, given with the entry before it. -/
def firstBad (bad : Option Bytes → Bytes → Bool) (l : List Bytes) : Option Nat :=
  (List.range l.length).find? fun k =>
    match l[k]? with
    | some e => bad (if k = 0 then none else l[k - 1]?) e
    | none => false

/-- A failed check: the part and the index of the entry (R425). -/
def safFail (o : Bytes → Outcome) (part : Nat) (idx : Option Nat) : Option Outcome :=
  idx.map fun k => o (wr 2 part ++ wr 2 k)

/-- The failing outcome ERROR with its status. -/
def safErr (st : BitVec 16) (r : Bytes) : Outcome := .error st r

def hdrBad (o : Bytes) : Bool :=
  decide (o.length < 32) || decide (4128 < o.length) || decide (64 < safChCount o) || decide (32 < safConnCount o) ||
    decide (48 < safSfCount o) || rd o 7 1 != 0 || !zeroAt o 12 16 || rd o 8 4 != o.length ||
    o.length != 32 + 8 * safChCount o + 16 * safConnCount o + 64 * safSfCount o ||
    safCrc o != (crc32c (o.take 28 ++ [0, 0, 0, 0] ++ o.drop 32)).toNat

def chBad (prev : Option Bytes) (e : Bytes) : Bool :=
  rdBits e 0 7 6 != 0 || rd e 6 2 != 0 || (prev.any fun p => scIndex e ≤ scIndex p) || scKind e == 0 ||
    decide (4 < scKind e) ||
    (if scLocal e then decide (127 < scSource e) || scBit e != 0 else decide (31 < scSource e) || decide (15 < scBit e)) ||
    (if scSdi e then scFilter e == 0 || decide (2000 < scFilter e) else scFilter e != 0)

def cnBad (prev : Option Bytes) (e : Bytes) : Bool :=
  rdBits e 0 7 5 != 0 || rdBits e 1 7 1 != 0 || (prev.any fun p => cnIndex e ≤ cnIndex p) || decide (4095 < cnStation e) ||
    decide (cnWd e < 3) || decide (10000 < cnWd e) || (!cnProduces e && cnPeerTime e != 0)

/-- The fields of one input pair of a function entry. -/
def pairBad (e : Bytes) (p : Nat) : Bool :=
  rdBits e (10 + 8 * p) 7 2 != 0 || rd e (11 + 8 * p) 1 != 0 || rd e (14 + 8 * p) 2 != 0 ||
    (if sfPairUsed e p then
      decide (63 < sfInA e p) || decide (63 < sfInB e p) || decide (sfTd e p < 10) || decide (5000 < sfTd e p)
    else sfInB e p != 0xFF || rd e (10 + 8 * p) 1 != 0 || sfTd e p != 0)

def fnBad (prev : Option Bytes) (e : Bytes) : Bool :=
  rdBits e 0 6 6 != 0 || decide (47 < sfIndex e) || (prev.any fun p => sfIndex e ≤ sfIndex p) || rdBits e 1 7 2 != 0 ||
    !zeroAt e 2 6 || ((List.range 4).any fun p => pairBad e p) || !sfPairUsed e 0 ||
    ((List.range 3).any fun p => sfPairUsed e (p + 1) && !sfPairUsed e p) || rd e 40 1 == 0xFF ||
    ((sfOuts e).any fun x => decide (63 < x)) || ((sfOvrs e).any fun x => decide (127 < x)) || decide (63 < sfReset e) ||
    (sfFb e != 0xFF && decide (63 < sfFb e)) ||
    (if sfFb e = 0xFF then sfFbTime e != 0 else sfFbTime e == 0 || decide (1000 < sfFbTime e)) ||
    (!sfSto e && (sfFb e != 0xFF || sfAxes e != 0)) || decide (60000 < sfPst e) || !zeroAt e 56 8

/-- Step 2: a channel entry against group configuration and connections. -/
def State.chMismatch (s : State) (o e : Bytes) : Bool :=
  if scLocal e then
    if h : scSource e < 128 then
      let ch : Fin 128 := ⟨scSource e, h⟩
      !s.safetyGroup (grp ch) || s.mode ch != (if scKind e = 1 then .sdi else .sdo) ||
        (scKind e == 2 && s.owner ch != .saf) || (scKind e == 1 && scFilter e != recFilter (s.chanRec ch))
    else true
  else match safConn o (scSource e) with
    | none => true
    | some n => cnProduces n != (scKind e == 4)

/-- Whether a safety channel exists and is an SDI, or an SDO. -/
def safIs (o : Bytes) (sdi : Bool) (i : Nat) : Bool := (safChan o i).any fun e => scSdi e == sdi

/-- Step 3: what a function entry names. -/
def State.fnInvalid (s : State) (o e : Bytes) : Bool :=
  let others := (safFnEntries o).filter fun x => sfIndex x != sfIndex e
  let filt (i : Nat) : Nat := ((safChan o i).map scFilter).getD 0
  let named := [sfReset e] ++ (if sfFb e = 0xFF then [] else [sfFb e])
  !((sfInputs e ++ named).all (safIs o true)) || !((sfOuts e).all (safIs o false)) ||
    ((sfOuts e).any fun x => others.any fun f => sfIndex f < sfIndex e && (sfOuts f).contains x) ||
    ((sfOvrs e).any fun c => (if h : c < 128 then !s.safetyGroup (grp ⟨c, h⟩) else true) ||
      (safChEntries o).any fun k => scLocal k && scSource k == c) ||
    ((List.range 4).any fun p => sfPairUsed e p && (sfInA e p == sfInB e p || filt (sfInA e p) != filt (sfInB e p))) ||
    (named.any fun i => (sfInputs e).contains i)

/-- The checks of R286, in their order, after the capacity of R32 (DEDUCED, log 108). -/
def State.safetyCheck (s : State) (o : Bytes) : Option Outcome :=
  let inv := safErr stInvalidField
  let role (r : Bytes) : Outcome := { Outcome.policy stPolicyRole with result := r }
  firstOf
    [fails (decide (64 < safChCount o) || decide (48 < safSfCount o)) .capacity,
     safFail inv 0 (if hdrBad o then some 0 else none),
     safFail inv 1 (firstBad chBad (safChEntries o)),
     safFail inv 2 (firstBad cnBad (safConnEntries o)),
     safFail inv 3 (firstBad fnBad (safFnEntries o)),
     safFail (safErr stConfigMismatch) 1 (firstBad (fun _ e => s.chMismatch o e) (safChEntries o)),
     safFail (safErr stSafetyInvalid) 3 (firstBad (fun _ e => s.fnInvalid o e) (safFnEntries o)),
     safFail (safErr stWdTooShort) 2 (firstBad (fun _ e =>
       decide (1000000 * cnWd e < 3 * s.tBus) || decide (1000000 * cnWd e < s.tRing (cnStation e))) (safConnEntries o)),
     safFail role 0 (if s.role == some .referee || s.role == some .branch then some 0 else none),
     safFail role 1 (firstBad (fun _ e => s.isPair && scLocal e) (safChEntries o)),
     safFail (safErr stReactionExceedsPst) 3 (firstBad (fun _ e =>
       sfEnable e && sfPst e != 0 && decide (1000 * sfPst e < safReaction o s.saf.tMus e)) (safFnEntries o))]

/-- Result of a SAFETY_CONFIG that passes (R286, R425). -/
def safResult (o : Bytes) (tM : Nat) : Bytes :=
  wr 4 (safCrc o) ++ (safFnEntries o).flatMap fun e => wr 4 (safReaction o tM e)

/-- A descriptor of the safety configuration is recorded with its outcome (R318). -/
def State.safAnswer (kind : RecKind) (org : Origin) (o : Outcome) (s : State) : State :=
  (s.record .saf kind [o.disp.toNat, o.status.toNat]).complete org o

/-- Whether an earlier SAFETY_CONFIG or SAFETY_CONFIRM has not completed: in a pair a write completes once both members have
reported it (R287, R378). -/
def State.safPending (s : State) (org : Origin) : Bool :=
  (s.pair.forwards.takeWhile fun f => f.org != org).any fun f =>
    rd f.desc 0 2 == opSafetyConfig || rd f.desc 0 2 == opSafetyConfirm

/-- SAFETY_CONFIG (R281 to R287, R318): the first failed check answers and changes nothing; else it becomes pending. -/
def execSafetyConfig (t : Ns) (org : Origin) (obj : Bytes) (s : State) : Res :=
  let s := s.begin t
  if s.waitsBarrier org then .next s else
  match (badField (decide (obj.length < 32) || decide (4128 < obj.length))).orElse fun _ => s.gate org opSafetyConfig [.saf] with
  | some o => .next (s.safAnswer .safetyConfig org o)
  | none =>
    let bad := firstOf [fails (s.saf.activate.isSome || s.safPending org) .busy, s.safetyCheck obj,
      fails (s.overCapacity s.nextRing (s.ring.stations.map Station.next) obj) .capacity,
      fails (s.storeOverflow (BitVec.ofNat 16 opSafetyConfig) 0 obj) .capacity]
    match bad with
    | some o => .next (s.safAnswer .safetyConfig org o)
    | none =>
      let s := s.updSaf fun v => { v with pendingCfg := some obj }
      .next (s.safAnswer .safetyConfig org (.done (safResult obj s.saf.tMus)))

/-- SAFETY_CONFIRM (R287, R288, R318): the values agree with the pending configuration, which becomes active at the start of
the next safety cycle; the descriptor completes then, and nothing is pending meanwhile. In ISLAND_FAULT no cycle comes. -/
def execSafetyConfirm (t : Ns) (org : Origin) (param : Bytes) (s : State) : Res :=
  let s := s.begin t
  if s.waitsBarrier org then .next s else
  let check := firstOf [s.gate org opSafetyConfirm [.saf], fails s.saf.fault.isSome (.error stWrongState)]
  match check with
  | some o => .next (s.safAnswer .safetyConfirm org o)
  | none =>
    match s.saf.pendingCfg with
    | none => .next (s.safAnswer .safetyConfirm org (.error stNoPending))
    | some o =>
      if rd param 0 4 ≠ safId o || rd param 4 4 ≠ safCrc o then
        .next (s.safAnswer .safetyConfirm org (.error stConfirmMismatch))
      else .next (s.updSaf fun v => { v with activate := some (org, o), pendingCfg := none })

end Sys2Proof.Machine
end

