-- ==== Sys2Proof/Machine/SafConn.lean ====
section
/-! DEFINITION. Safety frames and connections (R302 to R309, R621). -/

namespace Sys2Proof.Machine

/-- One step of the reflected register of polynomial 0x741B8CD7 (R303). -/
def safCrcBit (r : BitVec 32) : BitVec 32 := if r.getLsbD 0 then (r >>> 1) ^^^ 0xEB31D82E else r >>> 1

/-- CRC of a safety frame over SEAL and bytes 0 to 15 (R303). -/
def safFrameCrc (key frame : Bytes) : BitVec 32 :=
  (key ++ frame.take 16).foldl (fun r b => (List.range 8).foldl (fun x _ => safCrcBit x) (r ^^^ b.setWidth 32)) 0xFFFFFFFF
    ^^^ 0xFFFFFFFF

def sfrId (f : Bytes) : Nat := rd f 0 4
def sfrSeq (f : Bytes) : BitVec 16 := BitVec.ofNat 16 (rd f 4 2)
def sfrStamp (f : Bytes) : Nat := rd f 6 2
def sfrState (f : Bytes) : BitVec 16 := BitVec.ofNat 16 (rd f 8 2)
def sfrValid (f : Bytes) : BitVec 16 := BitVec.ofNat 16 (rd f 10 2)
def sfrFailsafe (f : Bytes) : Bool := rdBits f 12 0 0 == 1
def sfrGood (key f : Bytes) : Bool := (safFrameCrc key f).toNat == rd f 16 4

/-- The 20 bytes of a safety frame (R302, R303). -/
def mkSafety (id : Nat) (seq : BitVec 16) (stamp : Nat) (state valid : BitVec 16) (failsafe : Bool) (key : Bytes) : Bytes :=
  let b := wr 4 id ++ wr 2 seq.toNat ++ wr 2 stamp ++ wr 2 state.toNat ++ wr 2 valid.toNat ++ wr 1 (b2n failsafe) ++ [0, 0, 0]
  b ++ wr 4 (safFrameCrc key b).toNat

/-- Ring time [25:10] of a stamp (R302). -/
def stampField (x : Int) : Nat := (x / 1024 % 65536).toNat

/-- The full stamp nearest to a reference (R302, R407). -/
def restoreStamp (field : Nat) (ref : Int) : Int :=
  let d := (1024 * (field : Int) - ref) % 67108864
  ref + if 33554432 ≤ d then d - 67108864 else d

/-- The greatest advance of SEQ (R304). -/
def State.seqWindow (s : State) : Int := 2 * ((s.tBus + 999999) / 1000000 : Nat) + 2

/-- Whether SEQ advances from the last by a permitted step (R304). -/
def State.seqNext (s : State) (last seq : BitVec 16) : Bool :=
  let d := (seq - last).toInt
  decide (1 ≤ d) && decide (d ≤ s.seqWindow)

def State.updConn (i : Fin 32) (f : SafConn → SafConn) (s : State) : State :=
  s.updSaf fun v => { v with conns := v.conns.set i (f v.conns[i]) }

/-- Codes of the connection states (R307). -/
def ConnState.num : ConnState → Nat
  | .waiting => 0 | .active => 1 | .lost => 2

/-- A connection changes its state (R307, R318): SEQ_LAST is dropped on entering LOST. -/
def State.setConn (i : Fin 32) (x : ConnState) (s : State) : State :=
  if s.saf.conns[i].state = x then s else
  (s.updConn i fun c => { c with state := x, seqLast := if x = .lost then none else c.seqLast, candidate := false }).record
    .saf .connState [i.val, x.num]

/-- What an accepted frame leaves: STATE and VALID, the change stamp of each bit that differs, the watchdog fed (R304, R305,
R621). -/
def SafConn.take (f : Bytes) (ingress : Ns) (ring : Int) (c : SafConn) : SafConn :=
  let st := sfrState f
  let stamp := if sfrStamp f = 0 then ring else restoreStamp (sfrStamp f) ring
  let stamps := (List.finRange 16).foldl (fun v i =>
    if st.getLsbD i.val != c.stateBits.getLsbD i.val then v.set i stamp else v) c.changeStamps
  { c with seqLast := some (sfrSeq f), stateBits := st, validBits := sfrValid f, changeStamps := stamps,
           lastIngress := some ingress, candidate := false }

/-- A frame on a connection that is ACTIVE (R304, R307). -/
def State.frameActive (i : Fin 32) (f : Bytes) (ingress : Ns) (s : State) : State :=
  let c := s.saf.conns[i]
  let last := c.seqLast.getD (sfrSeq f)
  if sfrSeq f = last then s.updConn i fun c => { c with repeats := satAdd 32 c.repeats 1 }
  else if !s.seqNext last (sfrSeq f) then s.updConn i fun c => { c with seqErr := satAdd 32 c.seqErr 1 }
  else if sfrFailsafe f then s.setConn i .lost
  else s.updConn i (SafConn.take f ingress (ingress + s.time.ringOff))

/-- A frame on a connection that is WAITING or LOST: the candidate and the frame that follows it (R304, R307). -/
def State.frameIdle (i : Fin 32) (wd : Nat) (f : Bytes) (ingress : Ns) (s : State) : State :=
  let c := s.saf.conns[i]
  if sfrFailsafe f then s.updConn i fun c => { c with candidate := false, seqLast := none }
  else
    let near := c.state == .waiting || decide (ingress ≤ c.candIngress + 1000000 * wd)
    match c.seqLast with
    | some last =>
      if c.candidate && s.seqNext last (sfrSeq f) && near then
        (s.setConn i .active).updConn i (SafConn.take f ingress (ingress + s.time.ringOff))
      else if c.candidate && sfrSeq f == last then s.updConn i fun c => { c with repeats := satAdd 32 c.repeats 1 }
      else s.updConn i fun c => { c with candidate := true, seqLast := some (sfrSeq f), candIngress := ingress }
    | none => s.updConn i fun c => { c with candidate := true, seqLast := some (sfrSeq f), candIngress := ingress }

/-- SAFETY_FRAME (R304): CONN_ID, CRC and SEQ. -/
def State.safetyFrame (ingress : Ns) (f : Bytes) (s : State) : State :=
  let entry := s.saf.cfg.bind fun o => (safConnEntries o).find? fun e => !cnProduces e && cnId e = sfrId f
  match entry with
  | none => s.updSaf fun v => { v with unknownConn := satAdd 32 v.unknownConn 1 }
  | some e =>
    if h : cnIndex e < 32 then
      let i : Fin 32 := ⟨cnIndex e, h⟩
      if !sfrGood (cnSeal e) f then s.updConn i fun c => { c with crcErr := satAdd 32 c.crcErr 1 }
      else if s.saf.conns[i].state = .active then s.frameActive i f ingress
      else s.frameIdle i (cnWd e) f ingress
    else s

/-- The safety frames of a container (R350). -/
def containerFrames (payload : Bytes) : List Bytes :=
  let n := rd payload 0 2
  if n = 0 || decide (32 < n) || decide (payload.length < 4 + 20 * n) then []
  else (List.range n).map fun k => (payload.drop (4 + 20 * k)).take 20

end Sys2Proof.Machine
end

