-- ==== Sys2Proof/Machine/Saf.lean ====
section
/-! DEFINITION. The safety functions: inputs, states, resets, lock-outs, outputs (R276 to R301, R306, R314 to R318, R615,
R617, R470). -/

namespace Sys2Proof.Machine

/-! ### Codes -/

/-- State codes, in the order of R289. -/
def SfState.num : SfState → Nat
  | .disabled => 0 | .waitStartTest => 1 | .waitReset => 2 | .run => 3 | .demand => 4 | .locked => 5 | .islandFault => 6

/-- Cause codes, in the order of R299. -/
def SfCause.num : SfCause → Fin 8
  | .discrepancy _ _ => 0 | .inputFault _ => 1 | .outputStuck _ => 2 | .outputLost _ => 3 | .stoFeedback => 4
  | .commLost _ => 5 | .supply _ => 6 | .groupOff _ => 7

/-- The channel, connection or group concerned. -/
def SfCause.what : SfCause → Nat
  | .discrepancy _ f => f.val | .inputFault c => c.val | .outputStuck g => g.val | .outputLost c => c.val
  | .stoFeedback => 0 | .commLost n => n.val | .supply g => g.val | .groupOff g => g.val

def SafFault.num : SafFault → Nat
  | .compare => 0 | .clock => 1 | .frameDisagree => 2 | .reference => 3 | .memory => 4 | .supply => 5 | .stall => 6

/-- Whether a function is active (R285). -/
def SfState.active (x : SfState) : Bool := x != .disabled && x != .islandFault

/-! ### What a function uses -/

/-- The object in force; without one, an object of no entries. -/
def State.safObj (s : State) : Bytes := s.saf.cfg.getD (List.replicate 32 0)

/-- The entry of a function in force. -/
def State.sfEntry (s : State) (sf : Fin 48) : Bytes := (safFn s.safObj sf.val).getD []

/-- Local channels of the OUT entries of a function. -/
def State.outLocals (s : State) (sf : Fin 48) : List (Fin 128) :=
  (sfOuts (s.sfEntry sf)).filterMap fun i =>
    (safLocal s.safObj i).bind fun c => if h : c < 128 then some ⟨c, h⟩ else none

/-- Whether a function has an OUT channel in a group. -/
def State.outIn (s : State) (sf : Fin 48) (g : Fin 8) : Bool := (s.outLocals sf).any fun c => grp c == g

/-- Whether a local input or output of a function lies in a group (R299). -/
def State.usesGroup (s : State) (sf : Fin 48) (g : Fin 8) : Bool :=
  let e := s.sfEntry sf
  ((sfInputs e ++ sfOuts e).filterMap (safLocal s.safObj)).any fun c => c / 16 == g.val

/-- The consumed connections of a function's channels (R299). -/
def State.sfConns (s : State) (sf : Fin 48) : List (Fin 32) :=
  let e := s.sfEntry sf
  (sfInputs e ++ [sfReset e] ++ if sfFb e = 0xFF then [] else [sfFb e]).filterMap fun i =>
    (safChan s.safObj i).bind fun c =>
      if scKind c = 3 then (if h : scSource c < 32 then some ⟨scSource c, h⟩ else none) else none

/-- Functions that are active, in ascending order. -/
def State.activeFns (s : State) : List (Fin 48) := (List.finRange 48).filter fun sf => s.saf.fns[sf].state.active

/-- The SDO channels of a group. -/
def State.sdosOf (s : State) (g : Fin 8) : List (Fin 128) :=
  ((List.finRange 16).map (chanOf g)).filter fun c => s.mode c == .sdo

/-- The longest RB_DELAY of a group's SDOs, in ns (R300). -/
def State.groupRb (s : State) (g : Fin 8) : Ns :=
  tickNs * ((s.sdosOf g).map fun c => recRbDelay (s.chanRec c)).foldl max 0

/-! ### State changes of a function (R289, R318) -/

/-- A function changes its state. -/
def State.setSf (sf : Fin 48) (x : SfState) (s : State) : State :=
  let f := s.saf.fns[sf]
  if f.state = x then s else
  let cause : Nat := match f.causes with | [] => 0xFF | c :: _ => c.num.val
  let s := s.updFn sf fun f => { f with state := x, demands := if x = .demand then satAdd 32 f.demands 1 else f.demands }
  s.record .saf .sfState [sf.val, f.state.num, x.num, cause]

/-- Whether every START_TEST pair is done (R295). -/
def State.startTested (s : State) (sf : Fin 48) : Bool :=
  (List.finRange 4).all fun p => !sfStart (s.sfEntry sf) p.val || s.saf.fns[sf].pairs[p].test == 2

/-- A cause takes a function to LOCKED, latched until a reset is accepted (R289, R299). -/
def State.lockSf (sf : Fin 48) (c : SfCause) (s : State) : State :=
  let f := s.saf.fns[sf]
  if !f.state.active || f.causes.contains c then s else
  let pairs := match c with
    | .discrepancy p _ => f.pairs.set p { f.pairs[p] with rejoin := 0, test := if f.pairs[p].test = 2 then 2 else 0 }
    | _ => f.pairs
  (s.updFn sf fun f => { f with
      causes := f.causes ++ [c], latched := f.latched.orElse fun _ => some (c, s.now), pairs := pairs,
      lockouts := f.lockouts.set c.num (satAdd 32 f.lockouts[c.num] 1) }).setSf sf .locked

/-- Every cause removed, the function leaves LOCKED for WAIT_RESET; a START_TEST not yet done comes first (R289, R295). -/
def State.unlockSf (sf : Fin 48) (s : State) : State :=
  let f := s.saf.fns[sf]
  if f.state = .locked ∧ f.causes.isEmpty then s.setSf sf (if s.startTested sf then .waitReset else .waitStartTest) else s

/-- A cause is removed. -/
def State.dropCause (sf : Fin 48) (gone : SfCause → Bool) (s : State) : State :=
  s.updFn sf fun f => { f with causes := f.causes.filter fun c => !gone c }

/-! ### Reading channels (R291, R307) -/

/-- Whether a local channel is faulted (R291). -/
def State.localFault (s : State) (c : Fin 128) : Bool :=
  let x := s.chans[c]
  x.quality == .bad || x.has .wireBreak || x.has .testPulseFail || x.has .laneFailed || x.has .thermal ||
    s.groups[grp c].supply == .off

/-- What SAF reads of a safety channel. -/
def State.readEntry (s : State) (e : Bytes) (old : SafChan) : SafChan :=
  let free (bad : Bool) : Option Ns := if bad then none else some (old.freeSince.getD s.clock)
  if scLocal e then
    if h : scSource e < 128 then
      let c : Fin 128 := ⟨scSource e, h⟩
      let bad := s.localFault c
      let x := s.chans[c]
      if scKind e = 1 then
        { input := x.sample.input, faulted := bad, stamp := x.inputStamp, waiting := false, freeSince := free bad }
      else { old with input := x.rbOn, faulted := bad, freeSince := free bad,
                      stamp := if x.rbOn != old.input then s.now else old.stamp }
    else old
  else if h : scSource e < 32 then
    let n := s.saf.conns[scSource e]
    let b := scBit e
    if scKind e = 3 then
      let bad := n.state == .lost || (n.state == .active && !n.validBits.getLsbD b)
      { input := n.stateBits.getLsbD b, faulted := bad, stamp := n.changeStamps.toList.getD b 0,
        waiting := n.state == .waiting, freeSince := free bad }
    else
      let on := n.prodState.getLsbD b
      { old with input := on, faulted := false, freeSince := free false,
                 stamp := if on != old.input then s.now else old.stamp }
  else old

/-- All channels as this cycle reads them. -/
def State.readAll (s : State) : Vector SafChan 64 :=
  (safChEntries s.safObj).foldl (fun v e =>
    if h : scIndex e < 64 then v.set (scIndex e) (s.readEntry e v[scIndex e]) else v) s.saf.chans

/-- In demand as channel A, and as channel B of an antivalent pair (R284, R291). -/
def SafChan.demandA (c : SafChan) : Bool := c.faulted || c.waiting || !c.input
def SafChan.demandB (anti : Bool) (c : SafChan) : Bool := c.faulted || c.waiting || (c.input == anti)

/-- Stamp of a change of demand: the change stamp of INPUT, or the start of the cycle where a fault came or went. -/
def changeOf (start : Int) (old new : SafChan) : Int :=
  if new.faulted || new.waiting || old.faulted || old.waiting then start else new.stamp

/-! ### Pairs (R292, R293, R295) -/

/-- One cycle of a pair: times of a disagreement by stamps, and whether one that ended outlasted t_d (R292). -/
def SfPair.step (td start sA sB : Int) (a b : Bool) (p : SfPair) : SfPair × Bool :=
  let base := { p with aDemand := a, bDemand := b, fresh := false }
  if p.fresh then
    ({ base with disStart := if a = b then none else some start, firstIsA := a, agreedInTime := true }, false)
  else
    let chA := a != p.aDemand
    let chB := b != p.bDemand
    match p.disStart with
    | none =>
      if a = b then
        if chA && chB then
          let late := decide (td < max (sA - sB) (sB - sA))
          ({ base with firstIsA := decide (sA ≤ sB), agreedInTime := !late }, late)
        else (base, false)
      else ({ base with disStart := some (if chA then sA else sB), firstIsA := chA }, false)
    | some d =>
      if a = b then
        let late := decide (td < (if chA then sA else sB) - d)
        ({ base with disStart := none, agreedInTime := !late }, late)
      else if chA && chB then
        let late := decide (td < min sA sB - d)
        ({ base with disStart := some (max sA sB), firstIsA := decide (sB < sA), agreedInTime := !late }, late)
      else (base, false)

/-- The sequences of R293 and R295: together in demand, then together out, each agreement reached within t_d. The start test
asks for channels really opened. -/
def SfPair.sequence (real : Bool) (p : SfPair) : SfPair :=
  if p.aDemand != p.bDemand || !p.agreedInTime then p
  else if p.aDemand then
    { p with test := if p.test = 0 && real then 1 else p.test, rejoin := if p.rejoin = 0 then 1 else p.rejoin }
  else { p with test := if p.test = 1 then 2 else p.test, rejoin := if p.rejoin = 1 then 2 else p.rejoin }

/-- The channel of a pair that did not follow. -/
def follower (e : Bytes) (p : Nat) (firstIsA : Bool) : Fin 64 := Fin.ofNat 64 (if firstIsA then sfInB e p else sfInA e p)

/-- One cycle of a function's pair: faults and late agreements lock out (R292, R294). -/
def State.stepPair (start : Int) (old : Vector SafChan 64) (sf : Fin 48) (p : Fin 4) (s : State) : State :=
  let e := s.sfEntry sf
  if !sfPairUsed e p.val then s else
  let ia := Fin.ofNat 64 (sfInA e p.val)
  let ib := Fin.ofNat 64 (sfInB e p.val)
  let ca := s.saf.chans[ia]
  let cb := s.saf.chans[ib]
  let a := ca.demandA
  let b := cb.demandB (sfAnti e p.val)
  let q := s.saf.fns[sf].pairs[p]
  let r := q.step (1000000 * sfTd e p.val) start (changeOf start old[ia] ca) (changeOf start old[ib] cb) a b
  let real := !(ca.faulted || ca.waiting || cb.faulted || cb.waiting)
  let q2 := r.1.sequence real
  let s := s.updFn sf fun f => { f with pairs := f.pairs.set p q2 }
  let s := if r.2 then s.lockSf sf (.discrepancy p (follower e p.val q.firstIsA)) else s
  let s := if ca.faulted then s.lockSf sf (.inputFault ia) else s
  if cb.faulted then s.lockSf sf (.inputFault ib) else s

/-- Whether any pair of a function is in demand (R291), and whether all agree out of demand. -/
def State.inDemand (s : State) (sf : Fin 48) : Bool :=
  (List.finRange 4).any fun p => sfPairUsed (s.sfEntry sf) p.val &&
    (s.saf.fns[sf].pairs[p].aDemand || s.saf.fns[sf].pairs[p].bDemand)

/-! ### Causes of this cycle (R299, R615, R617) -/

/-- Whether an OUT channel reports a flag that counts for OUTPUT_STUCK now (R299, R617). -/
def State.stuckFlag (s : State) (c : Fin 128) : Bool :=
  s.chans[c].has .shortToLplus || (s.chans[c].has .crossFault && !s.saf.ignored.contains (c, true)) ||
    (s.chans[c].has .offPulseFail && !s.saf.ignored.contains (c, false))

/-- OUTPUT_STUCK of an OUT channel: the group disconnect opens for this function unless it is open already (R299, R615). -/
def State.stuckOut (sf : Fin 48) (c : Fin 128) (s : State) : State :=
  let g := grp c
  let r := s.saf.groupReclose[g]
  if s.groups[g].disc = 2 && r == .idle || r == .failed then s.lockSf sf (.outputStuck g)
  else if r != .idle then s
  else if s.stuckFlag c then
    (s.lockSf sf (.outputStuck g)).updSaf fun v => { v with
      stuckBy := v.stuckBy.set g (if v.stuckBy[g].isNone then some sf else v.stuckBy[g]) }
  else s

/-- OUTPUT_LOST of an OUT channel: commanded on it reads off after RB_DELAY, or its stage reports a fault (R299). -/
def State.lostOut (s : State) (sf : Fin 48) (c : Fin 128) : Bool :=
  let x := s.chans[c]
  x.has .overload || x.has .openLoad || x.has .thermal ||
    (s.saf.fns[sf].outCmd && x.rbOn && (x.rbDue.all fun d => decide (d ≤ s.clock)) && !x.sample.outRb &&
      s.cells[c].offPulseAt.isNone)

/-- The STO feedback of this cycle: reached in time by its stamp, left, or in agreement with the outputs (R284, R299). -/
def State.stoStep (sf : Fin 48) (s : State) : State :=
  let e := s.sfEntry sf
  if sfFb e = 0xFF then s else
  let c := s.saf.chans[Fin.ofNat 64 (sfFb e)]
  let fb := c.input && !c.faulted && !c.waiting
  let f := s.saf.fns[sf]
  let late := match f.offSince with
    | some t0 => fb && !f.fbReached && decide ((t0 : Int) + s.time.ringOff + 1000000 * sfFbTime e < c.stamp)
    | none => false
  let left := !f.outCmd && f.fbReached && !fb
  let s := s.updFn sf fun f => { f with
    fbReached := !f.outCmd && (f.fbReached || fb), fbSince := since (fb == !f.outCmd) s.clock f.fbSince }
  if late || left then s.lockSf sf .stoFeedback else s

/-- Conditions of R299 that hold in this cycle lock a function out. -/
def State.newCauses (sf : Fin 48) (s : State) : State :=
  let s := (s.outLocals sf).foldl (fun s c => s.stuckOut sf c) s
  let s := (s.outLocals sf).foldl (fun s c =>
    if s.lostOut sf c then
      (match (sfOuts (s.sfEntry sf)).find? fun i => safLocal s.safObj i == some c.val with
        | some i => s.lockSf sf (.outputLost (Fin.ofNat 64 i))
        | none => s)
    else s) s
  let s := s.stoStep sf
  let s := (s.sfConns sf).foldl (fun s n => if s.saf.conns[n].state = .lost then s.lockSf sf (.commLost n) else s) s
  let s := forAll 8 (fun g s =>
    if s.usesGroup sf g && (s.groups[g].supply == .off || s.groups[g].supply == .high) then s.lockSf sf (.supply g) else s) s
  forAll 8 (fun g s =>
    if s.outIn sf g && (s.saf.stuckBy[g].any fun o => o != sf) then s.lockSf sf (.groupOff g) else s) s

/-- Whether a cause that this cycle may remove is removed (R293, R299); the others end by commands of their own. -/
def State.causeGone (s : State) (sf : Fin 48) (c : SfCause) : Bool :=
  match c with
  | .discrepancy p _ => s.saf.fns[sf].pairs[p].rejoin == 2
  | .outputLost i =>
    match safLocal s.safObj i.val with
    | some k => if h : k < 128 then !(s.lostOut sf ⟨k, h⟩) else true
    | none => true
  | .stoFeedback => held s.clock s.saf.fns[sf].fbSince 1000000000
  | .commLost n => s.saf.conns[n].state == .active
  | .groupOff g => s.groups[g].disc == 0 && s.saf.stuckBy[g].isNone && s.saf.groupReclose[g] == .idle
  | _ => false

/-! ### One function, one cycle (R289) -/

/-- States after demands and causes (R289, R291, R295). -/
def State.moveSf (sf : Fin 48) (s : State) : State :=
  let s := s.unlockSf sf
  let dem := s.inDemand sf
  match s.saf.fns[sf].state with
  | .waitStartTest => if s.startTested sf then s.setSf sf .waitReset else s
  | .run => if dem then (s.updFn sf fun f => { f with demandFromRun := true }).setSf sf .demand else s
  | .waitReset => if dem then (s.updFn sf fun f => { f with demandFromRun := false }).setSf sf .demand else s
  | .demand =>
    if dem then s
    else s.setSf sf (if sfRestart (s.sfEntry sf) && s.saf.fns[sf].demandFromRun then .run else .waitReset)
  | _ => s

/-- One active function: pairs, causes, states. -/
def State.cycleSf (start : Int) (old : Vector SafChan 64) (sf : Fin 48) (s : State) : State :=
  if !s.saf.fns[sf].state.active then s else
  let before := s.saf.fns[sf].causes
  let s := forAll 4 (State.stepPair start old sf) s
  let s := s.newCauses sf
  let gone := before.filter fun c => s.causeGone sf c
  (s.dropCause sf fun c => gone.contains c).moveSf sf

/-! ### Reset buttons (R296 to R298, R300) -/

/-- The groups whose re-close test an accepted reset of a LOCKED function starts: OUTPUT_STUCK the only cause left, opened by
this function or by the field side (R296, R300, R615). -/
def State.recloseGroups (s : State) (sf : Fin 48) : Option (List (Fin 8)) :=
  let l := s.saf.fns[sf].causes.map fun c => match c with
    | .outputStuck g =>
      if s.groups[g].disc = 2 || s.saf.groupReclose[g] == .failed || s.saf.stuckBy[g] = some sf || !s.saf.testFor[g].isEmpty
      then some g else none
    | _ => none
  if s.saf.fns[sf].state = .locked && !l.isEmpty && l.all Option.isSome then some (l.filterMap id) else none

/-- The clock time at which commands of now are released: 950 µs after the start of a safety cycle (R276). -/
def State.releaseAt (s : State) : Ns :=
  let x := 1000000 * ((s.now - 950000) / 1000000) + 950000
  ((if x < s.now then x + 1000000 else x) - s.time.ringOff).toNat

/-- When the readback after a switch that closes with the commands of now is checked: RB_DELAY after the field side applied
them, at most 136 µs after their release (R276, R300). -/
def State.recloseDue (s : State) (g : Fin 8) : Ns := s.releaseAt + 136000 + s.groupRb g

/-- Step 1 of R300: the switch closes with every SDO of the group off; one that the field side opened by DISC_OPEN set and
then released. -/
def State.startReclose (sf : Option (Fin 48)) (g : Fin 8) (s : State) : State :=
  let due := s.recloseDue g
  let fresh := s.saf.groupReclose[g] == .idle || s.saf.groupReclose[g] == .failed
  let first : Reclose := if s.groups[g].disc = 2 then .opening else .checking due
  s.updSaf fun v => { v with
    testFor := v.testFor.set g (v.testFor[g] ++ sf.toList), stuckBy := v.stuckBy.set g none,
    groupReclose := if fresh then v.groupReclose.set g first else v.groupReclose }

/-- A press of proper length, the button settled: accepted in WAIT_RESET, or in LOCKED with OUTPUT_STUCK alone; otherwise
refused (R296, R297). -/
def State.tryReset (sf : Fin 48) (settled : Bool) (durUs : Nat) (s : State) : State :=
  let accepted (s : State) : State :=
    let s := s.updFn sf fun f => { f with
      latched := none, resets := satAdd 32 f.resets 1, button := { f.button with lastResult := 1 } }
    s.record .saf .resetPress [sf.val, durUs, 1]
  let f := s.saf.fns[sf]
  if settled && f.state == .waitReset then (accepted s).setSf sf .run
  else match if settled then s.recloseGroups sf else none with
    | some l => l.foldl (fun s g => s.startReclose (some sf) g) (accepted s)
    | none =>
      let cause : Nat := match f.latched with | some (c, _) => c.num.val | none => 0xFF
      (s.updFn sf fun f => { f with
        button := { f.button with lastResult := 3, refused := satAdd 32 f.button.refused 1 } }).record .saf .resetRefused
        [sf.val, durUs, f.state.num, cause, b2n (!settled)]

/-- One cycle of a function's reset button (R296 to R298). -/
def State.cycleButton (start : Int) (old : Vector SafChan 64) (sf : Fin 48) (s : State) : State :=
  if !s.saf.fns[sf].state.active then s else
  let i := Fin.ofNat 64 (sfReset (s.sfEntry sf))
  let c := s.saf.chans[i]
  let b := s.saf.fns[sf].button
  let upd (g : Button → Button) (s : State) : State := s.updFn sf fun f => { f with button := g f.button }
  if c.faulted || c.waiting then upd (fun b => { b with zeroSince := none, pressStart := none, heldLogged := false }) s
  else if c.input then
    match b.pressStart, b.zeroSince with
    | none, some z =>
      let ok := decide (100000000 ≤ c.stamp - z)
      upd (fun b => { b with pressStart := some c.stamp, settled := ok, heldLogged := false }) s
    | _, _ => s
  else match b.pressStart with
    | none => if b.zeroSince.isSome then s
      else
        let z := if old[i].input then c.stamp else start
        upd (fun b => { b with zeroSince := some z }) s
    | some p =>
      let dur := c.stamp - p
      let durUs := (dur / 1000).toNat
      let s := upd (fun b => { b with pressStart := none, zeroSince := some c.stamp, lastDurUs := durUs }) s
      if 3000000000 < dur then
        if b.heldLogged then s
        else (upd (fun b => { b with lastResult := 4, held := satAdd 32 b.held 1 }) s).record .saf .resetHeld [sf.val, durUs]
      else if dur < 50000000 then
        (upd (fun b => { b with lastResult := 2, short := satAdd 32 b.short 1 }) s).record .saf .resetPress [sf.val, durUs, 2]
      else s.tryReset sf b.settled durUs

/-! ### Outputs (R279, R290, R299, R300, R308) -/

/-- The station's SDOs that consumed connections drive: entry by entry, sixteen to a connection (R308). -/
def State.stationOn (s : State) : List Nat :=
  if s.role = some .iostation then
    let o := s.safObj
    let outs := ((safChEntries o).filter fun e => scKind e = 2).map scSource
    let used := (safFnEntries o).flatMap fun e => if sfEnable e then (sfOuts e).filterMap (safLocal o) else []
    let conns := (safConnEntries o).filter fun e => !cnProduces e
    (List.range conns.length).flatMap fun k =>
      match conns[k]? with
      | none => []
      | some n =>
        if h : cnIndex n < 32 then
          let c := s.saf.conns[cnIndex n]
          (List.range 16).filterMap fun b =>
            (outs[16 * k + b]?).bind fun ch =>
              if c.state == .active && c.stateBits.getLsbD b && c.validBits.getLsbD b && !used.contains ch then some ch
              else none
        else []
  else []

/-- Local channels that SAF commands on: OUT channels of functions in RUN and the station's, none in a group under test, open
or LPLUS_HIGH (R289, R299, R300). -/
def State.safOn (s : State) : List Nat :=
  let l := (s.activeFns.flatMap fun sf => if s.saf.fns[sf].state = .run then (s.outLocals sf).map Fin.val else []) ++ s.stationOn
  l.filter fun c =>
    let g : Fin 8 := Fin.ofNat 8 (c / 16)
    s.saf.groupReclose[g] == .idle && s.saf.stuckBy[g].isNone && !s.saf.highOpen[g]

/-- Local channels overridden and axes in STO: those of active functions not in RUN (R289). -/
def State.safOvr (s : State) : List Nat :=
  s.activeFns.flatMap fun sf => if s.saf.fns[sf].state = .run then [] else sfOvrs (s.sfEntry sf)
def State.safSto (s : State) (ax : Fin 16) : Bool :=
  s.activeFns.any fun sf => s.saf.fns[sf].state != .run && (sfAxes (s.sfEntry sf)).testBit ax.val

/-- The disconnect commands and the functions they are for (R44, R82, R299, R300, R615): for LPLUS_HIGH the first active function
with a channel in the group (DESIGN CHOICE, log 104). -/
def State.discOpen (s : State) (g : Fin 8) : Bool :=
  s.saf.highOpen[g] || s.saf.stuckBy[g].isSome || s.saf.groupReclose[g] == .opening || s.saf.groupReclose[g] == .failed
def State.discFor (s : State) (g : Fin 8) : Option (Fin 48) :=
  (s.saf.stuckBy[g].orElse fun _ => if s.saf.highOpen[g] then s.activeFns.find? fun sf => s.usesGroup sf g else none).orElse
    fun _ => s.saf.testFor[g].head?


/-- The commands that follow from the present states. -/
def State.safCmd (s : State) : SafCmd :=
  { due := s.releaseAt, on := s.safOn, ovr := s.safOvr,
    run := s.activeFns.filter fun sf => s.saf.fns[sf].state = .run,
    discs := (List.finRange 8).foldl (fun v (g : Fin 8) => v.set g (s.discOpen g)) (Vector.replicate 8 false),
    discFor := (List.finRange 8).foldl (fun v (g : Fin 8) => v.set g (s.discFor g)) (Vector.replicate 8 none) }

/-- SAF's commands: STO is reported to MOT from this cycle, and the commands to channels and disconnects are released at 950 µs
(R276, R290). -/
def State.safOutputs (s : State) : State :=
  let s := forAll 16 (fun ax s => s.updAxis ax fun a => { a with sto := s.safSto ax }) s
  let c := s.safCmd
  s.updSaf fun v => { v with release := some c }

/-! ### Produced frames (R302, R306) -/

/-- STATE, VALID and the oldest change stamp of the changed bits of a produced connection: the outputs of functions in RUN, or
at a station the local inputs, entry by entry, sixteen to a connection. -/
def State.produced (s : State) (start : Int) (n : Bytes) (old : BitVec 16) : BitVec 16 × BitVec 16 × Option Int :=
  let o := s.safObj
  let outs : List (Nat × Bool × Bool × Int) := (safChEntries o).filterMap fun e =>
    if scKind e = 4 && scSource e == cnIndex n then
      some (scBit e, (s.activeFns.any fun sf => s.saf.fns[sf].state = .run && (sfOuts (s.sfEntry sf)).contains (scIndex e)),
        true, start)
    else none
  let k := (((safConnEntries o).filter cnProduces).map cnIndex).idxOf (cnIndex n)
  let ins : List (Nat × Bool × Bool × Int) :=
    if s.role = some .iostation then
      let l := (safChEntries o).filter fun e => scKind e = 1
      (List.range 16).filterMap fun b => (l[16 * k + b]?).map fun e =>
        let c := s.saf.chans[Fin.ofNat 64 (scIndex e)]
        (b, c.input, !c.faulted, c.stamp)
    else []
  let bits := outs ++ ins
  let st := bits.foldl (fun w x => putBit w x.1 x.2.1) (0 : BitVec 16)
  let va := bits.foldl (fun w x => putBit w x.1 x.2.2.1) (0 : BitVec 16)
  let stamps := (bits.filter fun x => st.getLsbD x.1 != old.getLsbD x.1).map fun x => x.2.2.2
  (st, va, stamps.foldl (fun m x => some (match m with | none => x | some y => min x y)) none)

/-- The frame of one produced connection is released at time 950 of the cycle (R306). -/
def State.produce (start : Int) (failsafe : Bool) (n : Bytes) (s : State) : State :=
  if h : cnIndex n < 32 then
    let i : Fin 32 := ⟨cnIndex n, h⟩
    let c := s.saf.conns[i]
    let p := s.produced start n c.prodState
    let stamp := match p.2.2 with | some x => stampField x | none => 0
    let f := mkSafety (cnId n) c.prodSeq stamp p.1 p.2.1 failsafe (cnSeal n)
    let at_ := max s.clock (start - s.time.ringOff + 950000).toNat
    s.updConn i fun c => { c with prodSeq := c.prodSeq + 1, prodState := p.1, prodFrame := f, prodAt := some at_ }
  else s

/-- Every produced connection releases its frame. -/
def State.produceAll (start : Int) (failsafe : Bool) (s : State) : State :=
  ((safConnEntries s.safObj).filter cnProduces).foldl (fun s n => s.produce start failsafe n) s

/-! ### Status mailboxes (R470) -/

/-- The words of a status post: state codes, and the number of the safety cycle. -/
def State.statusWords (s : State) : List Word :=
  let codes (j : Nat) : Word := BitVec.ofNat 32 ((List.range 8).foldl (fun a n =>
    a + (if h : 8 * j + n < 48 then s.saf.fns[8 * j + n].state.num else 0) * 16 ^ n) 0)
  (List.range 6).map codes ++ [BitVec.ofNat 32 s.saf.cycle, BitVec.ofNat 32 (s.saf.cycle / 2 ^ 32)] ++ List.replicate 8 0

/-- In a cycle with a change of state SAF posts on its mailboxes; where the last message is not yet taken, at the first cycle
after the take. -/
def State.postStatus (changed : Bool) (s : State) : State :=
  forAll 32 (fun n s =>
    if s.bindEnabled n && s.bindSender n == .saf && (changed || s.mb.safPending.contains n) then
      if s.mb.boxes[n].go || !s.up .svc then
        s.updMb fun m => { m with safPending := m.safPending.filter (· != n) ++ [n] }
      else (s.programPost .saf n s.statusWords).updMb fun m => { m with safPending := m.safPending.filter (· != n) }
    else s) s

/-- The state codes of all functions. -/
def State.sfCodes (s : State) : List Nat := s.saf.fns.toList.map fun f => f.state.num

/-! ### ISLAND_FAULT (R278, R280, R306, R309) -/

/-- SAF enters ISLAND_FAULT: every SDO off by both paths, SAF_OFF on every channel and DISC_OPEN on every safety group, STO on
every axis named by a function, the last safety frame with FAILSAFE outside a pair, no more frames. A lead hands over. -/
def State.islandFault (cls : SafFault) (s : State) : State :=
  if s.saf.fault.isSome then s else
  let o := s.safObj
  let axes := (safFnEntries o).map sfAxes
  let s := s.record .saf .islandFault [cls.num]
  let s := forAll 48 (fun sf s => if s.saf.fns[sf].state.active then s.setSf sf .islandFault else s) s
  let s := forAll 128 (fun c s =>
    if s.safetyGroup (grp c) then
      let s := if s.mode c = .sdo then
          s.updChan c fun x => { x with demand := { x.demand with on := false }, permit := false } else s
      s.updChan c fun x => { x with safOff := true }
    else s) s
  let s := forAll 8 (fun g s =>
    if s.safetyGroup g then s.updGroup g fun q => { q with discCmd := true, discFor := none } else s) s
  let s := forAll 16 (fun ax s =>
    if axes.any fun w => w.testBit ax.val then s.updAxis ax fun a => { a with sto := true } else s) s
  let s := if s.isPair then
      forAll 32 (fun i s => s.updConn i fun c => { c with prodAt := none, carried := [] }) s
    else s.produceAll (s.now / 1000000 * 1000000) true
  let s := match s.saf.activate with
    | some (org, _) => (s.updSaf fun v => { v with activate := none }).safAnswer .safetyConfirm org (.error stWrongState)
    | none => s
  let s := (s.updSaf fun v => { v with fault := some cls, release := none }).postStatus true
  let s := if s.isPair && s.pair.state == .lead then s.updPair fun p => { p with handoverDue := some rsHandover } else s
  s.settleHealth

/-! ### Activation and T_M (R288, R289, R307, R312, R313, R615) -/

/-- Whether a function keeps its state: its entry and every channel and connection entry it uses are unchanged (R288). -/
def keepsState (old new : Bytes) (sf : Nat) : Bool :=
  match safFn old sf, safFn new sf with
  | some a, some b =>
    let chans := sfInputs b ++ sfOuts b ++ [sfReset b] ++ if sfFb b = 0xFF then [] else [sfFb b]
    a == b && sfEnable b && chans.all fun i =>
      safChan old i == safChan new i && (safChan new i).all fun e =>
        scLocal e || safConn old (scSource e) == safConn new (scSource e)
  | _, _ => false

/-- The function's state in a new configuration. -/
def freshFn (o e : Bytes) (tM : Nat) (f : SafFn) : SafFn :=
  let tR := safReaction o tM e
  if sfEnable e then
    { f with
      state := if (List.range 4).any fun p => sfStart e p then .waitStartTest else .waitReset,
      causes := [], latched := none, pairs := Vector.replicate 4 {}, demandFromRun := false,
      button := { f.button with zeroSince := none, pressStart := none, settled := false, heldLogged := false },
      offSince := none, fbReached := false, fbSince := none, outCmd := false, tRus := tR,
      pstExceeded := sfPst e != 0 && decide (1000 * sfPst e < tR) }
  else
    { f with state := .disabled, causes := [], latched := none, pairs := Vector.replicate 4 {}, demandFromRun := false,
             offSince := none, fbReached := false, fbSince := none, outCmd := false, tRus := 0, pstExceeded := false }

/-- A configuration becomes active: at a confirmation unchanged functions and connections keep their state; after a module
reset all start anew (R288, R289, R306, R307). -/
def State.safActivate (reset : Bool) (o : Bytes) (s : State) : State :=
  let old := s.safObj
  let kept (sf : Nat) : Bool := !reset && s.saf.cfg.isSome && keepsState old o sf
  let before := s.saf.fns
  let s := s.updSaf fun v => { v with
    cfg := some o, pendingCfg := if v.pendingCfg = some o then none else v.pendingCfg, firstCycle := true,
    stuckBy := (List.finRange 8).foldl (fun w (g : Fin 8) => match v.stuckBy[g] with
      | some sf => if kept sf.val then w else w.set g none
      | none => w) v.stuckBy,
    testFor := (List.finRange 8).foldl (fun w (g : Fin 8) => w.set g (v.testFor[g].filter fun sf => kept sf.val)) v.testFor,
    groupReclose := (List.finRange 8).foldl (fun w (g : Fin 8) =>
      if (v.testFor[g].any fun sf => kept sf.val) || v.groupReclose[g] == .failed then w else w.set g .idle) v.groupReclose }
  let s := forAll 48 (fun sf s =>
    if kept sf.val then s else
    let e := (safFn o sf.val).getD []
    let s := s.updFn sf (freshFn o e s.saf.tMus)
    if s.saf.fns[sf].state = before[sf].state then s
    else s.record .saf .sfState [sf.val, before[sf].state.num, s.saf.fns[sf].state.num, 0xFF]) s
  forAll 32 (fun i s =>
    if !reset && (safConn o i.val).isSome && safConn old i.val == safConn o i.val then s
    else
      let was := s.saf.conns[i].state
      let s := s.updConn i fun c => { crcErr := c.crcErr, seqErr := c.seqErr, repeats := c.repeats, expiries := c.expiries }
      if was = .waiting then s else s.record .saf .connState [i.val, 0]) s

/-- T_M is raised: every reported T_R rises, and a function now above its PST sets PST_EXCEEDED (R312, R313). -/
def State.raiseTm (s : State) : State :=
  match s.saf.tMraise with
  | none => s
  | some m =>
    if m ≤ s.saf.tMus then s.updSaf fun v => { v with tMraise := none } else
    let s := s.updSaf fun v => { v with tMus := m, tMraise := none }
    let o := s.safObj
    let s := s.record .saf .tmRaise (m :: (safFnEntries o).map fun e => (safReaction o m e : Int))
    forAll 48 (fun sf s =>
      let e := s.sfEntry sf
      if !(s.saf.fns[sf].state.active && sfEnable e) then s else
      let tR := safReaction o m e
      let above := sfPst e != 0 && decide (1000 * sfPst e < tR)
      let new := above && !s.saf.fns[sf].pstExceeded
      let s := s.updFn sf fun f => { f with tRus := tR, pstExceeded := f.pstExceeded || above }
      if new then
        ((s.record .saf .pstExceeded [sf.val, tR, sfPst e]).postEvent 0x0003 sf.val (wr 4 tR ++ wr 2 (sfPst e))).ledgerWarn 7 true
          sf.val tR
      else s) s

/-! ### The safety cycle (R276 to R278) -/

/-- A measured cycle that differs from 1 ms by more than 2 % (R277). -/
def offTime (len : Rat) : Bool := decide (20000 < absR (len - 1000000))

/-- CLOCK_FAULT: three of any ten consecutive cycles (R277). -/
def clockFault (h : List Bool) : Bool := decide (3 ≤ (h.filter id).length)

/-- The groups' supplies, re-close tests under way and ignored flags at a cycle (R299, R300, R615, R617). -/
def State.cycleGroup (g : Fin 8) (s : State) : State :=
  let sup := s.groups[g].supply
  let fine := since (sup == .ok || sup == .low) s.clock s.saf.supplySince[g]
  let high := sup == .high && (s.activeFns.any fun sf => s.usesGroup sf g)
  let s := s.updSaf fun v => { v with
    supplySince := v.supplySince.set g fine, highOpen := if high then v.highOpen.set g true else v.highOpen }
  let s := if s.saf.groupReclose[g] = .opening then
      s.updSaf fun v => { v with groupReclose := v.groupReclose.set g (.checking (s.recloseDue g)) } else s
  let open_ := (s.groups[g].disc == 2 && s.saf.groupReclose[g] == .idle) || s.saf.groupReclose[g] == .failed
  if s.saf.firstCycle && open_ && !(s.activeFns.any fun sf => s.outIn sf g)
  then s.startReclose none g else s

/-- The evaluation of a cycle with two agreeing channels. -/
def State.evaluate (start : Int) (s : State) : State :=
  let codes := s.sfCodes
  let s := match s.saf.activate with
    | some (org, o) =>
      let s := (s.updSaf fun v => { v with activate := none }).safActivate false o
      (s.storeObject (BitVec.ofNat 16 opSafetyConfig) 0 (some o)).safAnswer .safetyConfirm org .done
    | none => s
  let s := s.raiseTm
  let flags := s.saf.ignored.filter fun x => s.chans[x.1].has (if x.2 then .crossFault else .offPulseFail)
  let s := s.updSaf fun v => { v with ignored := flags }
  let s := forAll 8 State.cycleGroup s
  let s := s.updSaf fun v => { v with firstCycle := false }
  let old := s.saf.chans
  let new := s.readAll
  let s := s.updSaf fun v => { v with chans := new }
  let s := forAll 48 (State.cycleSf start old) s
  let s := forAll 48 (State.cycleButton start old) s
  let s := (s.safOutputs).produceAll start false
  s.postStatus (s.sfCodes != codes)

/-- Whether the present ring time is the reading instant of a safety cycle: from 40 µs until the next latch, so that the samples
read are those stamped with the start of the cycle (R27, R276). -/
def State.readsNow (s : State) : Bool := decide (40000 ≤ s.now % 1000000) && decide (s.now % 1000000 < 50000)

/-- SAFETY_CYCLE (R276 to R278): the cycle of the present ring time, once, at its reading instant; a difference of the channels or
a CLOCK_FAULT is an ISLAND_FAULT in that cycle. -/
def execSafetyCycle (t : Ns) (agree : Bool) (lenA lenB : Rat) (inTimeA inTimeB : Bool) (s : State) : Res :=
  let s := s.begin t
  let k := (s.now / 1000000).toNat
  if !s.up .saf || s.saf.cycle == k || !s.readsNow || s.mod.failAt.isSome then .next s else
  let s := s.updSaf fun v => { v with cycle := k }
  if s.saf.fault.isSome then .next (s.postStatus false) else
  let skip := s.time.stepped
  let s := s.updTime fun x => { x with stepped := false }
  let s := if skip then s else s.updSaf fun v => { v with
    historyA := (offTime lenA :: v.historyA).take 10, historyB := (offTime lenB :: v.historyB).take 10 }
  let s := s.updSaf fun v => { v with
    clockFaultA := clockFault v.historyA || !inTimeB, clockFaultB := clockFault v.historyB || !inTimeA }
  if !agree then .next (s.islandFault .compare)
  else if s.saf.clockFaultA || s.saf.clockFaultB then .next (s.islandFault .clock)
  else .next (s.evaluate (1000000 * (k : Int)))

/-! ### Timed rows -/

/-- After a function's state changed between cycles, its outputs and the status mailboxes follow. -/
def State.afterLock (old : List Nat) (s : State) : State :=
  let s := s.safOutputs
  s.postStatus (s.sfCodes != old)

/-- Whether SAF evaluates. -/
def State.safLive (s : State) : Bool := s.up .saf && s.saf.fault.isNone

/-- Whether a running disagreement has outlasted t_d by what SAF has read (R292). -/
def State.discrepant (s : State) (sf : Fin 48) (p : Fin 4) : Option Int :=
  let e := s.sfEntry sf
  let q := s.saf.fns[sf].pairs[p]
  match q.disStart with
  | none => none
  | some d =>
    let limit := d + 1000000 * sfTd e p.val
    match safChan s.safObj (follower e p.val q.firstIsA).val with
    | none => none
    | some c =>
      if scKind c = 3 then
        if h : scSource c < 32 then
          let n := s.saf.conns[scSource c]
          let far := limit + s.tRing (((safConn s.safObj (scSource c)).map cnStation).getD 0) + 1000000
          if n.state == .lost || (n.lastIngress.any fun x => decide (far < (x : Int) + s.time.ringOff)) then some limit else none
        else none
      else if limit < 1000000 * (s.saf.cycle : Int) then some limit else none

/-- DISCREPANCY (R292): the disagreement of a pair has lasted longer than t_d. -/
def execDiscrepancy (t : Ns) (sf : Fin 48) (pair : Fin 4) (receiving : List Ns) (s : State) : Res :=
  let s := s.begin t
  if !s.safLive || !s.saf.fns[sf].state.active then .next s else
  match s.discrepant sf pair with
  | none => .next s
  | some limit =>
    let codes := s.sfCodes
    let c := SfCause.discrepancy pair (follower (s.sfEntry sf) pair.val s.saf.fns[sf].pairs[pair].firstIsA)
    .next (s.deferOr (.discrepancy sf pair) (limit - s.time.ringOff).toNat receiving
      fun s => (s.lockSf sf c).afterLock codes)

/-- RESET_HELD (R297): a press passes 3 s. -/
def execResetHeld (t : Ns) (sf : Fin 48) (s : State) : Res :=
  let s := s.begin t
  let b := s.saf.fns[sf].button
  match b.pressStart with
  | none => .next s
  | some p =>
    if !s.safLive || b.heldLogged || s.now ≤ p + 3000000000 then .next s
    else .next ((s.updFn sf fun f => { f with
      button := { f.button with heldLogged := true, held := satAdd 32 f.button.held 1, lastResult := 4 } }).record .saf
        .resetHeld [sf.val, ((s.now - p) / 1000).toNat])

/-- STO_FEEDBACK (R299): FB_CH has not reached INPUT = 1 within FB_TIME after the outputs turned off, by a cycle that starts
after the deadline. -/
def execStoFeedback (t : Ns) (sf : Fin 48) (s : State) : Res :=
  let s := s.begin t
  let f := s.saf.fns[sf]
  match f.offSince with
  | none => .next s
  | some t0 =>
    let due : Int := (t0 : Int) + s.time.ringOff + 1000000 * sfFbTime (s.sfEntry sf)
    if !s.safLive || !f.state.active || sfFb (s.sfEntry sf) = 0xFF || f.outCmd || f.fbReached ||
        decide (1000000 * (s.saf.cycle : Int) ≤ due) then .next s
    else
      let codes := s.sfCodes
      .next ((s.lockSf sf .stoFeedback).afterLock codes)

/-- INPUT_FAULT_SETTLED (R294): the channel has been free of fault for 1 s and its pair agrees out of demand. -/
def execInputFaultSettled (t : Ns) (ch : Fin 64) (s : State) : Res :=
  let s := s.begin t
  let c := s.saf.chans[ch]
  if !s.safLive || c.faulted || !held s.clock c.freeSince 1000000000 then .next s
  else
    let codes := s.sfCodes
    let s := forAll 48 (fun sf s =>
      let e := s.sfEntry sf
      let out := (List.finRange 4).all fun p =>
        !(sfPairUsed e p.val && (sfInA e p.val == ch.val || sfInB e p.val == ch.val)) ||
          (!s.saf.fns[sf].pairs[p].aDemand && !s.saf.fns[sf].pairs[p].bDemand)
      if s.saf.fns[sf].causes.contains (.inputFault ch) && out then
        (s.dropCause sf fun c => c == .inputFault ch).unlockSf sf
      else s) s
    .next (s.postStatus (s.sfCodes != codes))

/-- SUPPLY_SETTLED (R299): the group has been LPLUS_OK or LPLUS_LOW for 1 s: SUPPLY is removed, and a disconnect opened for
LPLUS_HIGH closes with every SDO off. -/
def execSupplySettled (t : Ns) (g : Fin 8) (s : State) : Res :=
  let s := s.begin t
  if !s.safLive || !held s.clock s.saf.supplySince[g] 1000000000 ||
      !(s.groups[g].supply == .ok || s.groups[g].supply == .low) then .next s
  else
    let codes := s.sfCodes
    let s := s.updSaf fun v => { v with highOpen := v.highOpen.set g false }
    let s := forAll 48 (fun sf s => (s.dropCause sf fun c => c == .supply g).unlockSf sf) s
    .next (s.afterLock codes)

/-- Steps 3 and 4 of R300 for a group whose SDOs all read off, or not. -/
def State.endReclose (g : Fin 8) (s : State) : State :=
  let who := s.saf.testFor[g]
  let bad := (s.sdosOf g).any fun c => s.chans[c].sample.outRb
  let s := s.updSaf fun v => { v with
    testFor := v.testFor.set g [], groupReclose := v.groupReclose.set g (if bad && who.isEmpty then .failed else .idle) }
  if bad then
    let s := s.updSaf fun v => { v with stuckBy := v.stuckBy.set g who.head? }
    who.foldl (fun s sf => s.updFn sf fun f => { f with latched := f.latched.orElse fun _ => some (.outputStuck g, s.now) }) s
  else
    let flags := (s.sdosOf g).flatMap fun c =>
      (if s.chans[c].has .crossFault then [(c, true)] else []) ++ if s.chans[c].has .offPulseFail then [(c, false)] else []
    let round := s.pulseRound + 2
    let s := s.updSaf fun v => { v with
      ignored := (v.ignored.filter fun x => grp x.1 != g) ++ flags, grace := v.grace.set g (some round) }
    forAll 48 (fun sf s =>
      if !s.outIn sf g then s else
      let s := s.dropCause sf fun c => c == .outputStuck g || c == .groupOff g
      if who.contains sf && s.saf.fns[sf].causes.isEmpty && s.saf.fns[sf].state == .locked then s.setSf sf .run
      else s.unlockSf sf) s

/-- RECLOSE_CHECK (R300): RB_DELAY after the switch closed. The outputs of a function that enters RUN follow at the next
cycle. -/
def execRecloseCheck (t : Ns) (g : Fin 8) (s : State) : Res :=
  let s := s.begin t
  match s.saf.groupReclose[g] with
  | .checking due =>
    if !s.safLive || s.clock < due then .next s
    else
      let codes := s.sfCodes
      .next ((s.endReclose g).afterLock codes)
  | _ => .next s

/-- RECLOSE_ROUND_CHECK (R617): at the end of the first full off-pulse round a flag that is still reported counts again. -/
def execRecloseRoundCheck (t : Ns) (g : Fin 8) (s : State) : Res :=
  let s := s.begin t
  match s.saf.grace[g] with
  | none => .next s
  | some r =>
    if !s.safLive || s.pulseRound < r then .next s
    else
      let codes := s.sfCodes
      let s := s.updSaf fun v => { v with grace := v.grace.set g none, ignored := v.ignored.filter fun x => grp x.1 != g }
      let s := s.activeFns.foldl (fun s sf =>
        ((s.outLocals sf).filter fun c => grp c == g).foldl (fun s c => s.stuckOut sf c) s) s
      .next (s.afterLock codes)

/-- PERMIT_TIMEOUT (R279). -/
def execPermitTimeout (t : Ns) (ch : Fin 128) (s : State) : Res :=
  let s := s.begin t
  if s.chans[ch].permit && decide (s.due .tim s.chans[ch].permitStamp 2000000 ≤ s.clock) then
    .next (s.updChan ch fun c => { c with permit := false })
  else .next s

/-- SAFETY_CONTAINER (R304, R350): each contained frame goes to SAF with the container's ingress stamp. -/
def execSafetyContainer (t : Ns) (ingress : Ns) (bytes : Bytes) (agree : Bool) (s : State) : Res :=
  let s := (s.begin t).countPcrc bytes
  if !s.safLive || s.node = 0 || fClass bytes ≠ clsCyclic || fSubtype bytes ≠ 3 || !pcrcGood bytes || s.shut bytes then .next s
  else if !agree then .next (s.islandFault .frameDisagree)
  else
    .next ((containerFrames (fPayload bytes)).foldl (fun s f => s.safetyFrame ingress f) s)

/-- The expiry of a connection's watchdog (R305, R307, R308). -/
def State.watchdogLost (conn : Fin 32) (s : State) : State :=
  let s := (s.updConn conn fun c => { c with expiries := satAdd 32 c.expiries 1 }).setConn conn .lost
  if s.role = some .iostation then s.safOutputs else s

/-- The deadline of an ACTIVE connection. -/
def State.connDeadline (s : State) (conn : Fin 32) : Option Ns :=
  let c := s.saf.conns[conn]
  if c.state = .active then
    c.lastIngress.bind fun x => (safConn s.safObj conn.val).map fun e => s.due .saf x (1000000 * cnWd e)
  else none

/-- SAFETY_FRAME_WATCHDOG (R305). -/
def execSafetyFrameWatchdog (t : Ns) (conn : Fin 32) (receiving : List Ns) (s : State) : Res :=
  let s := s.begin t
  match s.connDeadline conn with
  | none => .next s
  | some d =>
    if !s.safLive || s.clock < d then .next s
    else .next (s.deferOr (.safetyFrame conn) d receiving (State.watchdogLost conn))

/-- SAF_REFERENCE_CHECK (R314): a difference above 2 %. -/
def execSafReferenceCheck (t : Ns) (diffPct : Rat) (s : State) : Res :=
  let s := s.begin t
  .next (if s.up .saf && decide (2 < absR diffPct) then s.islandFault .reference else s)

/-- SAF_MEMORY_ERROR (R314). -/
def execSafMemoryError (t : Ns) (s : State) : Res := .next ((s.begin t).islandFault .memory)

/-- SAF_SUPPLY_FAULT (R314). -/
def execSafSupplyFault (t : Ns) (s : State) : Res := .next ((s.begin t).islandFault .supply)

end Sys2Proof.Machine
end

