-- ==== Sys2Proof/Machine/RingNet.lean ====
section
/-! DEFINITION. The ring node: ports, forwarding and discard, the bus cycle, the cyclic window and the acyclic queue (R319
to R340, R345, R347, R350, R369 to R371). -/

namespace Sys2Proof.Machine

/-! ### Ports and links (R319 to R321, R355, R357) -/

/-- Whether a port's PHY is powered down: port L outside a pair or a branch node (R319), or a port that failed its loopback
(R524). -/
def State.portOff (s : State) (p : Port) : Bool :=
  (p == .l && !(s.isPair || s.role == some .branch)) || s.mod.selftest.any fun t => t.badPorts.contains p

/-- The mode a port is set to: forced 100BASE-TX or not (R322). -/
def State.forcedSlow (s : State) (p : Port) : Bool :=
  match p with
  | .a => s.ring.cfg.modeA == 1
  | .b => s.ring.cfg.modeB == 1
  | .l => s.ring.cfg.modeL == 1

def Link.num : Link → Nat
  | .up => 0 | .down => 1 | .negFail => 2

/-- A change of LINK with its record and its count (R355, R357). -/
def State.setLink (p : Port) (x : Link) (gigabit : Bool) (s : State) : State :=
  if (s.port p).link = x && (s.port p).gigabit = gigabit then s else
  (s.updPort p fun q => { q with
    link := x, gigabit := gigabit, changed := s.now,
    linkEvents := if q.link == .up && x != .up then satAdd 32 q.linkEvents 1 else q.linkEvents }).record .rng .linkChange
      [(Port.idx p).val, x.num, b2n gigabit]

/-- LINK_UP (R320, R321). -/
def execLinkUp (t : Ns) (port : Port) (gigabit : Bool) (s : State) : Res :=
  let s := s.begin t
  if s.portOff port then .next s else .next (s.setLink port .up (gigabit && !s.forcedSlow port))

/-- Forwarded writes no longer wait for the partner: those with an outcome complete on it, the others run and complete alone;
tunnel requests not yet met go now (R378). -/
def State.releaseForwards (s : State) : State :=
  let l := s.pair.forwards
  let due := (l.filter fun f => f.due.isNone && !isPartner f.org && descTunnel f.desc).map fun f => (f.org, f.desc, f.obj, s.now)
  let s := s.updPair fun p => { p with forwards := [], tunnelsDue := p.tunnelsDue ++ due }
  let commit (s : State) (f : Forward) : State :=
    match f.org, f.own with
    | .host id, some o => (s.updPair fun p => { p with completedCount := p.completedCount + 1 }).commitHost id o
    | _, _ => s
  l.foldl commit s

/-- The partner counts as lost: it is recorded, the barrier is no longer waited for, its mailbox domain is OFF, and a hold-off
starts anew (R365, R372, R378, R386, R389, R450). -/
def State.partnerGone (s : State) : State :=
  let s := if s.pair.partner.lost then s else s.record .rng .peerLoss [0]
  let s := (s.updPair fun p => { p with partner := { p.partner with lost := true }, holdoffFrom := none }).setDomain .partner .off
  s.losePartner.releaseForwards

/-- LINK_DOWN (R319 to R321, R372): a port that is off reports DOWN, and a pair member without port L loses its partner. -/
def execLinkDown (t : Ns) (port : Port) (negFail : Bool) (s : State) : Res :=
  let s := s.begin t
  let s := s.setLink port (if negFail && !s.portOff port then .negFail else .down) (s.port port).gigabit
  .next (if port == .l && s.isPair then s.partnerGone else s)

/-! ### The discard table (R331 to R333, R371) -/

/-- Whether SOURCE is the node's own address, or the address of the pair it is a member of (R331). -/
def State.ownFrame (s : State) (f : Bytes) : Bool :=
  (s.node != 0 && fSource f == s.node) || (s.isPair && s.pair.cfg.isSome && fSource f == s.pairAddr)

/-- The entry of a frame's source, empty where the frame comes with another EPOCH (R331). -/
def Ring.entry (r : Ring) (f : Bytes) : Option DiscardSrc :=
  r.discard.find? fun d => d.source == fSource f && d.epoch == fEpoch f

/-- The record of a frame already forwarded or consumed. -/
def DiscardSrc.find (d : DiscardSrc) (seq : BitVec 16) : Option SeqRec := d.recs.find? fun x => x.seq == seq

/-- Whether a sequence number is 64 or more behind the newest (R331). -/
def DiscardSrc.tooOld (d : DiscardSrc) (seq : BitVec 16) : Bool := decide ((seq - d.newest).toInt ≤ -64)

/-- The entry after one more frame (R331): the 64 most recent sequence numbers. -/
def DiscardSrc.add (now : Ns) (f : Bytes) (d : DiscardSrc) : DiscardSrc :=
  let newest := if 0 < (fSeq f - d.newest).toInt then fSeq f else d.newest
  let rs : List SeqRec := { seq := fSeq f, pcrc := fPcrc f, lead := fLead f } :: d.recs
  { d with newest := newest, recs := (rs.filter fun x => decide ((newest - x.seq).toNat < 64)).take 64, lastSeen := now }

/-- The source seen longest ago (R331). -/
def oldestSource (l : List DiscardSrc) : Option Nat :=
  (l.foldl (fun (acc : Option DiscardSrc) d =>
    match acc with
    | none => some d
    | some a => if d.lastSeen < a.lastSeen then some d else some a) none).map DiscardSrc.source

/-- A frame forwarded or consumed enters the table (R331, R332): at most 8,192 sources, the one seen longest ago leaves. -/
def State.recordFrame (port : Port) (f : Bytes) (s : State) : State :=
  match s.ring.entry f with
  | some d => s.updRing fun r => { r with discard := d.add s.clock f :: r.discard.filter fun x => x.source != fSource f }
  | none =>
    let others := s.ring.discard.filter fun x => x.source != fSource f
    let full := decide (8192 ≤ others.length)
    let rest := if full then others.filter fun x => some x.source != oldestSource others else others
    let e : DiscardSrc := { source := fSource f, epoch := fEpoch f, newest := fSeq f,
                            recs := [{ seq := fSeq f, pcrc := fPcrc f, lead := fLead f }], lastSeen := s.clock }
    let s := s.updRing fun r => { r with discard := e :: rest }
    if full then s.updPort port fun q => { q with discardEvict := satAdd 32 q.discardEvict 1 } else s

/-- Whether the node consumes a frame: addressed to it, to all, to its pair, or from a source it consumes (R330, R371). -/
def State.consumes (s : State) (f : Bytes) : Bool :=
  s.node != 0 && (fDest f == s.node || fDest f == 0xFFFF || (s.isPair && s.pair.cfg.isSome && fDest f == s.pairAddr) ||
    (s.masterNode != 0 && fSource f == s.masterNode))

/-- DUP_MISMATCH of a pair at a consumer (R333, R371): raised by a mismatch, cleared after 1 s in which at least 100
duplicates were compared and all matched. -/
def State.dupCompare (pairAddr : Nat) (equal : Bool) (s : State) : State :=
  let mine := s.pair.dups.find? fun d => d.pair == pairAddr
  let rest := s.pair.dups.filter fun d => d.pair != pairAddr
  let put (d : DupState) : State := s.updPair fun p => { p with dups := d :: rest }
  match equal, mine with
  | false, _ => (put { pair := pairAddr, since := s.clock }).settleHealth
  | true, none => s
  | true, some d =>
    if s.clock < d.since + 1000000000 then put { d with compared := d.compared + 1 }
    else if 100 ≤ d.compared + 1 then (s.updPair fun p => { p with dups := rest }).settleHealth
    else put { d with since := s.clock, compared := 0 }

/-- A duplicate is discarded; one of a pair source is compared with the first copy (R331, R333). A source is a pair's where
either copy carries LEAD. -/
def State.dropDuplicate (port : Port) (good : Bool) (first : SeqRec) (f : Bytes) (s : State) : State :=
  let touch (d : DiscardSrc) : DiscardSrc := if d.source == fSource f then { d with lastSeen := s.clock } else d
  let s := s.updRing fun r => { r with discard := r.discard.map touch }
  let s := s.updPort port fun q => { q with duplicate := satAdd 32 q.duplicate 1 }
  if !good || !(first.lead || fLead f) then s
  else
    let equal := first.pcrc == fPcrc f
    let s := s.updPort port fun q => { q with dupCompared := satAdd 32 q.dupCompared 1,
                                              dupMismatches := if equal then q.dupMismatches else satAdd 32 q.dupMismatches 1 }
    if s.consumes f then s.dupCompare (fSource f) equal else s

/-! ### Forwarding (R327, R330, R335, R340, R342) -/

/-- Child ranges and broadcast-pass entries of BRANCH_CONFIG (R341). -/
def brRanges (o : Bytes) : List (Nat × Nat) := (List.range (rd o 0 2)).map fun k => (rd o (8 + 4 * k) 2, rd o (10 + 4 * k) 2)
def brBcast (o : Bytes) : List Nat := (List.range (rd o 2 2)).map fun k => rd o (8 + 4 * rd o 0 2 + 2 * k) 2

/-- Whether an address lies in a child range. -/
def inChild (o : Bytes) (a : Nat) : Bool := (brRanges o).any fun r => decide (r.1 ≤ a) && decide (a ≤ r.2)

/-- The ports a node forwards a frame out of, by its role (R319, R330, R340). -/
def State.forwardPorts (s : State) (port : Port) (f : Bytes) : List Port :=
  let pass := fDest f == 0xFFFF && (brBcast s.ring.branch).contains (fSource f)
  match s.role, port with
  | some .branch, .l => if pass || (fDest f != 0xFFFF && !inChild s.ring.branch (fDest f)) then [.a, .b] else []
  | some .branch, p =>
    (if p == .a then [.b] else [.a]) ++ if pass || inChild s.ring.branch (fDest f) then [.l] else []
  | _, .a => [.b]
  | _, .b => [.a]
  | _, .l => []

/-- Whether this unaddressed node adopts an ADDRESS frame (R342, R552). -/
def State.adopts (s : State) (f : Bytes) : Bool :=
  let p := fPayload f
  s.node == 0 && !s.lockRingId && fClass f == clsAcyclic && fSubtype f == 2 && fDest f == 0 && pcrcGood f &&
    decide (6 ≤ fLength f) && rd p 0 1 != 0 && fHops f + 1 == rd p 0 1 && rd p 4 2 != 0 && rd p 4 2 != 0xFFFF

/-- A frame as it leaves: one more hop, the time of its egress (R327, R398). -/
def forwardedFrame (now : Int) (w : WireFrame) : WireFrame :=
  let f := w.bytes
  { w with bytes := f.take 6 ++ wr 1 (fHops f + 1) ++ (f.drop 7).take 5 ++ wrBe 4 (now % 2 ^ 32).toNat ++ f.drop 16 }

/-- Whether ring time is locked (R334, R391). -/
def State.locked (s : State) : Bool := s.time.state == .locked || s.time.state == .holdover

/-- A frame is forwarded out of one port that is UP (R321, R327, R332, R335): a cyclic frame ready after its window is not
sent, a frame with a bad FCS leaves with its FCS inverted. -/
def State.forwardOut (w : WireFrame) (s : State) (p : Port) : State :=
  if (s.port p).link != .up then s
  else if fClass w.bytes == clsCyclic && s.locked && s.ring.windowEnded then
    s.updPort p fun q => { q with missedWindow := satAdd 32 q.missedWindow 1 }
  else
    (s.updPort p fun q => { q with
      txForwarded := satAdd 32 q.txForwarded 1,
      stomped := if w.fcsGood then q.stomped else satAdd 32 q.stomped 1 }).emit (.forwarded p (forwardedFrame s.now w))

/-- A frame that no rule discards: it is recorded once its FCS is good, its stations are seen, its link's transit is kept,
and it is forwarded (R327, R330, R332, R339, R355). -/
def State.passFrame (port : Port) (w : WireFrame) (s : State) : State :=
  let f := w.bytes
  let l := if fDest f == s.node && s.node != 0 then [] else if s.adopts f && w.fcsGood then [] else s.forwardPorts port f
  let s := if w.fcsGood then s.recordFrame port f else s
  let s := if !w.fcsGood && l.isEmpty then s.updPort port fun q => { q with stomped := satAdd 32 q.stomped 1 } else s
  l.foldl (State.forwardOut w) s

/-- A good frame on a ring port shows its station there, used or discarded, and the transit of its last link (R327, R339,
R355). -/
def State.seeFrame (port : Port) (ingress : Ns) (f : Bytes) (s : State) : State :=
  let transit : Int := signed 32 ((((ingress : Int) + s.time.ringOff - fEgress f) % 4294967296).toNat)
  let s := s.updPort port fun q => { q with lastTransit := transit, maxTransit := max q.maxTransit transit }
  let see (x : Station) : Station :=
    if stNode x.obj == fSource f then
      match port with
      | .a => { x with seenA := true }
      | .b => { x with seenB := true }
      | .l => x
    else x
  s.updRing fun r => { r with stations := r.stations.map see }

/-- A Broluma frame on a ring port (R325, R327, R330 to R333). -/
def State.ringFrame (port : Port) (ingress : Ns) (w : WireFrame) (s : State) : State :=
  let f := w.bytes
  if !(fClass f == 1 || fClass f == 2 || fClass f == 3) then s.updPort port fun q => { q with badClass := satAdd 32 q.badClass 1 }
  else
    let s := if w.fcsGood then s.seeFrame port ingress f else s
    if fHops f == 255 then s.updPort port fun q => { q with hopsExpired := satAdd 32 q.hopsExpired 1 }
    else if s.ownFrame f then s.updPort port fun q => { q with own := satAdd 32 q.own 1 }
    else match s.ring.entry f with
      | none => s.passFrame port w
      | some d =>
        match d.find (fSeq f) with
        | some r => s.dropDuplicate port w.fcsGood r f
        | none =>
          if d.tooOld (fSeq f) then s.updPort port fun q => { q with tooOld := satAdd 32 q.tooOld 1 }
          else s.passFrame port w

/-- FRAME_RECEIVE (R320, R324 to R333, R340, R342, R362, R371, R394): what the node itself does with a frame. What the frame says
to this node, where it consumes it, is a row of its own. On port L of a pair only PAIR frames travel, and none is
forwarded. -/
def execFrameReceive (t : Ns) (port : Port) (ingress : Ns) (frame : WireFrame) (s : State) : Res :=
  let s := s.begin t
  if !s.up .rng || (s.port port).link != .up then .next s
  else
    let s := s.updPort port fun q => { q with
      rxFrames := satAdd 32 q.rxFrames 1, rxBytes := satAdd 32 q.rxBytes frame.length,
      fcsErrors := if frame.fcsGood then q.fcsErrors else satAdd 32 q.fcsErrors 1 }
    if 1518 < frame.length then .next (s.updPort port fun q => { q with oversize := satAdd 32 q.oversize 1 })
    else if frame.etherType == 0x88F7 then
      let kind := rdBits frame.bytes 0 3 0
      let known := kind == 0 || kind == 2 || kind == 3 || kind == 11 || (port == .l && s.isPair)
      .next (if known then s else s.updTime fun v => { v with ptpUnsupported := satAdd 32 v.ptpUnsupported 1 })
    else if frame.etherType != s.ringType || frame.bytes.length < 20 then
      .next (s.updPort port fun q => { q with foreign := satAdd 32 q.foreign 1 })
    else if port == .l && s.isPair then .next s
    else .next (s.ringFrame port ingress frame)

/-! ### Station states (R344, R357) -/

def StState.num : StState → Nat
  | .disabled => 0 | .waiting => 1 | .up => 2 | .down => 3

def State.updStation (index : Nat) (f : Station → Station) (s : State) : State :=
  s.updRing fun r => { r with stations := r.stations.map fun x => if x.index = index then f x else x }

/-- A station changes its state, with the cause: 0 its configuration, 1 its watchdog, 2 its return, 3 a module reset (R344,
R357). -/
def State.setStation (index : Nat) (x : StState) (cause : Nat) (s : State) : State :=
  match s.station? index with
  | none => s
  | some y =>
    if y.state = x then s
    else (s.updStation index fun y => { y with state := x, changed := s.now, changedAt := s.clock }).record .rng .stationState
      [index, x.num, cause]

/-! ### Changes that wait for a bus cycle (R323, R341, R343, R349) -/

/-- A RING_CONFIG comes into force (R323, R357). -/
def State.ringInForce (o : Bytes) (s : State) : State :=
  let s := s.updRing fun r => { r with cfg := ringCfgOf o, cfgPending := none, configured := true }
  ((s.storeObject (BitVec.ofNat 16 opRingConfig) 0 (some o)).record .rng .ringConfig []).sumCapacity

/-- A STATION_CONFIG comes into force: a station newly enabled waits, or is UP where it exchanges no images (R343, R344,
R357). -/
def State.stationInForce (index : Nat) (o : Bytes) (s : State) : State :=
  let was := (s.station? index).any fun x => stEnable x.obj
  let s := s.updStation index fun x => { x with obj := o, pending := none }
  let s := (s.storeObject (BitVec.ofNat 16 opStationConfig) index (some o)).record .rng .stationConfig [index]
  let s := if !stEnable o then s.setStation index .disabled 0
    else if was then s
    else (s.updStation index fun x => { x with
      lastIngress := none, returnBus := none, back := none, seenA := false, seenB := false, prevA := false, prevB := false,
      prev2A := false, prev2B := false }).setStation index (if stImages o then .waiting else .up) 0
  s.sumCapacity

/-- An IMAGE_MAP comes into force (R349, R357). -/
def State.mapInForce (o : Bytes) (s : State) : State :=
  let s := s.updRing fun r => { r with io := { r.io with imageMap := some o, mapPending := none } }
  (s.storeObject (BitVec.ofNat 16 opImageMap) 0 (some o)).record .rng .imageMap []

/-- A BRANCH_CONFIG comes into force (R341, R357). -/
def State.branchInForce (o : Bytes) (s : State) : State :=
  let s := s.updRing fun r => { r with branch := o, branchPending := none }
  (s.storeObject (BitVec.ofNat 16 opBranchConfig) 0 (some o)).record .rng .branchConfig []

/-- Everything that waits for the start of a bus cycle comes into force and completes. -/
def State.takePending (s : State) : State :=
  let s := match s.ring.cfgPending with
    | some (org, o) => (s.ringInForce o).complete org .done
    | none => s
  let s := s.ring.stations.foldl (fun s x =>
    match x.pending with
    | some (org, o) => (s.stationInForce x.index o).complete org .done
    | none => s) s
  let s := match s.ring.io.mapPending with
    | some (org, o) => (s.mapInForce o).complete org .done
    | none => s
  match s.ring.branchPending with
  | some (org, o) => (s.branchInForce o).complete org .done
  | none => s

/-! ### RING_STATE (R339, R357) -/

/-- The ports seen move on by one bus cycle. -/
def Station.turn (x : Station) : Station :=
  { x with seenA := false, seenB := false, prevA := x.seenA, prevB := x.seenB, prev2A := x.prevA, prev2B := x.prevB }

/-- The last station, in HOPS_A order, still seen on port A (R339). -/
def breakAfter (l : List Station) : Option Nat :=
  ((l.filter fun x => x.prevA || x.prev2A).foldl (fun (acc : Option Station) x =>
    match acc with
    | none => some x
    | some a => if stHopsA a.obj < stHopsA x.obj then some x else some a) none).map Station.index

/-- RING_STATE from the last two bus cycles: OPEN where an UP station was seen on one port only, CLOSED where every one was
seen on both in each (R339). Stations without images send no cyclic frames and do not count. -/
def State.ringState (s : State) : State :=
  let s := s.updRing fun r => { r with stations := r.stations.map Station.turn }
  let l := s.ring.stations.filter fun x => x.state == .up && stImages x.obj
  let one (x : Station) : Bool := (x.prevA || x.prev2A) != (x.prevB || x.prev2B)
  let closed := !l.isEmpty && l.all fun x => x.prevA && x.prevB && x.prev2A && x.prev2B
  let state := if closed then true else if l.any one then false else s.ring.ringClosed
  let brk := if state then none else if l.any one then breakAfter l else s.ring.breakAfter
  if state = s.ring.ringClosed && brk = s.ring.breakAfter then s
  else (s.updRing fun r => { r with ringClosed := state, breakAfter := brk }).record .rng .ringState
    [b2n state, (brk.map fun n => (n : Int)).getD (-1)]

/-! ### Cyclic frames (R344 to R348, R350, R369) -/

/-- Ring ports of a node for frames it originates (R319, R329). -/
def ringPorts : List Port := [.a, .b]

/-- A cyclic frame of the window: one that is ready after it is not sent, and in a pair its SEQ is not used again (R329,
R335, R369). -/
def State.cyclicFrame (pair late : Bool) (sub dest : Nat) (payload : Bytes) (s : State) : State :=
  if late then
    let s := (s.portsUp ringPorts).foldl (fun s p => s.updPort p fun q => { q with missedWindow := satAdd 32 q.missedWindow 1 }) s
    if pair then s.takeSeq true else s
  else s.originate pair clsCyclic sub dest payload ringPorts

/-- The cyclic header and its words (R345). -/
def cyclicPayload (bus header : Nat) (words : List Word) : Bytes :=
  wr 4 (bus % 2 ^ 32) ++ wr 1 header ++ [0] ++ wr 2 words.length ++ words.flatMap fun w => wr 4 w.toNat

/-- Words written by the start of a bus cycle, less the 20 µs, stand in its window (R139, R199, R265). -/
def Station.fill (start : Ns) (x : Station) : Station :=
  let due := x.outPending.filter fun p => decide (p.1 ≤ start)
  let base := (List.range (stOut x.obj)).map fun k => (x.outWords[k]?).getD 0
  { x with outWords := due.foldl (fun ws p => ws.set p.2.1 p.2.2) base,
           outPending := x.outPending.filter fun p => !decide (p.1 ≤ start) }

/-- LIVE of an output image (R344, R345). -/
def State.prgLive (s : State) : Bool := s.prg.active || s.prg.state == .starting

/-- The controller's output images, in ascending station index (R344, R369). -/
def State.sendOutputs (late : Bool) (s : State) : State :=
  let pair := s.underPair
  (s.ring.stations.filter fun x => stImages x.obj).foldl (fun s x =>
    s.cyclicFrame pair late 1 (stNode x.obj) (cyclicPayload s.ring.busCycle (b2n s.prgLive) x.outWords)) s

/-- Entries of an IMAGE_MAP (R348): channel, item, ENGINE. -/
def mapIn (o : Bytes) : Nat := rd o 0 2
def mapOut (o : Bytes) : Nat := rd o 2 2
def mapEntry (o : Bytes) (k : Nat) : Bytes := (o.drop (8 + 4 * k)).take 4
def mapInputs (o : Bytes) : List Bytes := (List.range (mapIn o)).map (mapEntry o)
def mapOutputs (o : Bytes) : List Bytes := (List.range (mapOut o)).map fun k => mapEntry o (mapIn o + k)
def meChan (e : Bytes) : Fin 128 := Fin.ofNat 128 (rd e 0 1)
def meItem (e : Bytes) : Nat := rd e 1 1
def meEngine (e : Bytes) : Bool := rdBits e 2 0 0 == 1

/-- The word and quality code of an input entry (R348). -/
def State.inputWord (s : State) (e : Bytes) : Word × Nat :=
  let ch := meChan e
  let c := s.chans[ch]
  let m := s.mode ch
  let f32 (q : Rat) : Word := BitVec.ofNat 32 (encodeBin 8 23 q)
  let bit (b : Bool) : Word := f32 (if b then 1 else 0)
  match meItem e with
  | 1 =>
    if m.isAi then (f32 c.engValue, c.quality.code.toNat)
    else if m.isAo then (f32 c.actual, c.quality.code.toNat)
    else if m.isDi then (bit c.sample.input, c.quality.code.toNat)
    else if m.isDo then (bit c.sample.outRb, c.quality.code.toNat)
    else (0, 2)
  | 2 => (c.diag, if c.has .laneFailed then 2 else 0)
  | 3 =>
    let l := (List.finRange 16).map fun i => chanOf (grp ch) i
    let bits (sel : Fin 128 → Bool) : Nat := (List.finRange 16).foldl (fun n i => n + if sel (chanOf (grp ch) i) then 2 ^ i.val else 0) 0
    let ins := l.filter fun i => (s.mode i).isDi || (s.mode i).isAi
    (BitVec.ofNat 32 (bits (fun i => s.chans[i].sample.input) + 65536 * bits fun i => s.chans[i].sample.outRb),
     (ins.map fun i => s.chans[i].quality.code.toNat).foldl max 0)
  | _ => (0, 2)

/-- Quality bytes: two bits a word, word 0 lowest (R345). -/
def qualityBytes : List Nat → Bytes
  | a :: b :: c :: d :: r => BitVec.ofNat 8 (a + 4 * b + 16 * c + 64 * d) :: qualityBytes r
  | [] => []
  | [a] => [BitVec.ofNat 8 a]
  | [a, b] => [BitVec.ofNat 8 (a + 4 * b)]
  | [a, b, c] => [BitVec.ofNat 8 (a + 4 * b + 16 * c)]

/-- RING-owned output channels. -/
def State.ringOwned (s : State) : List (Fin 128) := (List.finRange 128).filter fun i => s.owner i == .ring

/-- The channels that an entry maps: its channel, or for BITS those of its group (R348). -/
def State.mapped (s : State) (e : Bytes) : List (Fin 128) :=
  let l := (List.finRange 16).map fun i => chanOf (grp (meChan e)) i
  match meItem e with
  | 0 => []
  | 3 => l
  | 0x13 => l.filter fun c => s.owner c == .ring && s.mode c == .dout
  | _ => [meChan e]

/-- The station's input image for its MASTER (R345, R347). -/
def State.sendInput (late : Bool) (s : State) : State :=
  if s.ring.cfg.master = 0 then s else
  let map := s.ring.io.imageMap
  let entries := ((map.map mapInputs).getD []) ++ ((map.map mapOutputs).getD [])
  let l := (map.map fun o => (mapInputs o).map s.inputWord).getD []
  let subst := s.ringOwned.any fun i => s.chans[i].ringSubst
  let fault := entries.any fun e => (s.mapped e).any fun c => s.chans[c].diag != 0
  let header := b2n s.ring.io.live + 2 * b2n map.isSome + 4 * b2n fault + 8 * b2n subst
  s.cyclicFrame false late 2 s.ring.cfg.master
    (cyclicPayload s.ring.busCycle header (l.map Prod.fst) ++ qualityBytes (l.map Prod.snd))

/-- The safety container: of every produced connection the frame released last, at least 20 µs before the window; one
already sent is repeated, except in ISLAND_FAULT (R280, R304, R306, R350). -/
def State.sendContainer (late : Bool) (s : State) : State :=
  let conns := (List.finRange 32).filter fun i => (safConn s.safObj i.val).any cnProduces
  let s := conns.foldl (fun s i =>
    let c := s.saf.conns[i]
    match c.prodAt with
    | some a => if a + 20000 ≤ s.ring.busStart then s.updConn i fun c => { c with carried := c.prodFrame, prodAt := none } else s
    | none => if s.saf.fault.isSome then s.updConn i fun c => { c with carried := [] } else s) s
  let l := (conns.map fun i => s.saf.conns[i].carried).filter fun b => !b.isEmpty
  if l.isEmpty then s
  else s.cyclicFrame s.underPair late 3 0xFFFF (wr 2 l.length ++ [0, 0] ++ l.flatten)

/-- The cyclic frames of a window: images in ascending station index, then the container (R334, R347, R350, R369). -/
def State.sendCyclic (late : Bool) (s : State) : State :=
  if !s.locked || s.node = 0 then s
  else match s.role with
    | some .controller => (s.sendOutputs late).sendContainer late
    | some .pairA | some .pairB => if s.computes then (s.sendOutputs late).sendContainer late else s
    | some .iostation => (s.sendInput late).sendContainer late
    | _ => s

/-! ### The bus cycle (R334, R335, R339, R369, R375) -/

/-- Time left for originated acyclic frames in one bus cycle (R336). -/
def State.acySpace (s : State) : Nat := s.tBus - s.ring.cfg.windowNs - 1000 * s.ring.cfg.acyGuard

/-- In a pair, the fragments due take their SEQ in order, as many as fit the bus cycle; one given a SEQ before and not sent
is dropped (R368, R369). -/
def scheduleAcy (c : RingCfg) (start : Ns) (space : Nat) : List AcyFrame → BitVec 16 → List AcyFrame × BitVec 16
  | [], seq => ([], seq)
  | a :: r, seq =>
    if a.port.isSome then let x := scheduleAcy c start space r seq; (a :: x.1, x.2)
    else if a.seq.isSome then scheduleAcy c start space r seq
    else
      let w := c.wire a.payload.length
      if a.due ≤ start && w ≤ space then
        let x := scheduleAcy c start (space - w) r (seq + 1)
        ({ a with seq := some seq } :: x.1, x.2)
      else let x := scheduleAcy c start 0 r seq; (a :: x.1, x.2)

def State.scheduleTunnels (s : State) : State :=
  if s.underPair then
    let x := scheduleAcy s.ring.cfg s.ring.busStart s.acySpace s.ring.acyclic s.pair.pairSeq
    (s.updRing fun r => { r with acyclic := x.1 }).updPair fun p => { p with pairSeq := x.2 }
  else s

/-! ### The end of the window (R137, R335, R370) -/

/-- The buffers of a station swap; an image that did not arrive leaves the front STALE and is a drop-out of an UP station
(R137, R356). -/
def Station.swap (bus : Nat) (x : Station) : Station :=
  let x := { x with prevFront := x.front }
  match x.back with
  | some im =>
    if im.busCycle = bus then { x with front := im, back := none, frontStale := false }
    else { x with back := none, frontStale := true, dropouts := if x.state == .up && stImages x.obj then satAdd 32 x.dropouts 1 else x.dropouts }
  | none => { x with frontStale := true, dropouts := if x.state == .up && stImages x.obj then satAdd 32 x.dropouts 1 else x.dropouts }

/-- CRC-32C over the PCRCs of the frames originated in a window (R362). -/
def digestOf (l : List (BitVec 32)) : BitVec 32 := crc32c (l.flatMap fun c => wrBe 4 c.toNat)

/-- WINDOW_END (R137, R370). -/
def execWindowEnd (t : Ns) (s : State) : Res :=
  let s := s.begin t
  if s.ring.windowEnded || s.clock < s.ring.busStart + s.ring.cfg.windowNs then .next s
  else
    let s := s.updRing fun r => { r with windowEnded := true, stations := r.stations.map (Station.swap r.busCycle) }
    if s.underPair then
      let crc := digestOf s.pair.windowPcrcs
      let s := s.updPair fun p => { p with ownDigests := ((s.ring.busCycle, crc) :: p.ownDigests).take 4 }
      .next (if (s.port .l).link == .up then s.emit (.digest s.ring.busCycle crc) else s)
    else .next s

/-! ### Acyclic frames (R335, R336, R352, R369) -/

/-- Whether a frame's wire time ends early enough before the next window (R336). -/
def State.acyFits (s : State) (len : Nat) : Bool :=
  !s.locked || (s.ring.windowEnded &&
    decide (s.clock + s.ring.cfg.wire len + 1000 * s.ring.cfg.acyGuard ≤ s.ring.busStart + s.tBus))

/-- Whether an acyclic frame may go now: in a pair only one that has its SEQ, ADDRESS frames and the requests of an unformed
member apart (R360, R369). -/
def State.acyReady (s : State) (a : AcyFrame) : Bool :=
  decide (a.due ≤ s.clock) && (!s.underPair || a.seq.isSome || a.port.isSome) && s.acyFits a.payload.length

/-- The first frame of a list that may go, and the list without it. -/
def takeFirst (ok : AcyFrame → Bool) : List AcyFrame → Option (AcyFrame × List AcyFrame)
  | [] => none
  | a :: r => if ok a then some (a, r) else (takeFirst ok r).map fun x => (x.1, a :: x.2)

/-- What the sending of a frame starts: the timeout of a tunnel transaction at its last fragment, of an address at its frame
(R352, R445). -/
def State.acySent (a : AcyFrame) (s : State) : State :=
  if a.subtype = 2 then
    if a.port.isSome then s.updRing fun r => { r with nodeAddr := r.nodeAddr.map fun n => { n with sentAt := s.clock } } else s
  else if rd a.payload 2 1 = 1 && rdBits a.payload 3 0 0 = 1 then
    let tid : BitVec 16 := BitVec.ofNat 16 (rd a.payload 0 2)
    s.updRing fun r => { r with tunnelsOut := r.tunnelsOut.map fun x => if x.tid = tid then { x with lastSent := s.clock } else x }
  else s

/-- Whether an acyclic frame goes under the pair address: tunnel requests of a pair (R358, R360). -/
def State.acyPair (s : State) (a : AcyFrame) : Bool :=
  s.isPair && s.pair.cfg.isSome && a.subtype = 1 && rd a.payload 2 1 == 1

/-- ACYCLIC_SEND (R329, R335, R336). -/
def execAcyclicSend (t : Ns) (s : State) : Res :=
  let s := s.begin t
  if !s.up .rng || s.node = 0 then .next s
  else match takeFirst s.acyReady s.ring.acyclic with
    | none => .next s
    | some (a, rest) =>
      let s := s.updRing fun r => { r with acyclic := rest }
      let l := match a.port with | some p => [p] | none => ringPorts
      let s := match a.seq with
        | some q => s.sendFrame true q clsAcyclic a.subtype.toNat a.dest a.payload l
        | none => s.originate (s.acyPair a) clsAcyclic a.subtype.toNat a.dest a.payload l
      .next (s.acySent a)

end Sys2Proof.Machine
end

