-- ==== Sys2Proof/Machine/RingIo.lean ====
section
/-! DEFINITION. Remote I/O, tunnels, node addresses and the configuration of the ring (R159, R322, R323, R341 to R354,
R357, R445). -/

namespace Sys2Proof.Machine

/-! ### Input images at the controller (R159, R344 to R346) -/

/-- BUS_CYCLE, header and WORDS of an image frame (R345). -/
def imBus (f : Bytes) : Nat := rd (fPayload f) 0 4
def imHeader (f : Bytes) : BitVec 8 := BitVec.ofNat 8 (rd (fPayload f) 4 1)
def imWords (f : Bytes) : Nat := rd (fPayload f) 6 2
def imLive (f : Bytes) : Bool := (imHeader f).getLsbD 0
def imData (f : Bytes) : List Word := (List.range (imWords f)).map fun k => BitVec.ofNat 32 (rd (fPayload f) (8 + 4 * k) 4)
def imQuals (f : Bytes) : List (BitVec 2) :=
  (List.range (imWords f)).map fun k => BitVec.ofNat 2 (rd (fPayload f) (8 + 4 * imWords f + k / 4) 1 / 4 ^ (k % 4))

/-- Whether an image belongs to the present bus cycle and came inside its window (R346). -/
def State.inWindow (s : State) (ingress : Ns) (f : Bytes) : Bool :=
  imBus f == s.ring.busCycle % 2 ^ 32 && decide (s.ring.busStart ≤ ingress) &&
    decide (ingress ≤ s.ring.busStart + s.ring.cfg.windowNs)

/-- The second of two bus cycles in a row with outputs live returns a station (R159, R344): STATION_RETURN names the time it
was DOWN and its UNDELIVERED cycles. -/
def State.returnStation (x : Station) (s : State) : State :=
  if x.state == .up || x.state == .disabled then s
  else if x.returnBus == some (s.ring.busCycle - 1) && s.ring.busCycle != 0 then
    let s := if x.state == .down then
        s.record .rng .stationReturn [x.index, ((s.clock - x.changedAt : Nat) : Int), ((x.undelivered - x.downUndelivered : Nat) : Int)]
      else s
    (s.setStation x.index .up 2).updStation x.index fun y => { y with upBus := s.ring.busCycle, returnBus := none }
  else s.updStation x.index fun y => { y with returnBus := some s.ring.busCycle }

/-- An accepted input image (R137, R159, R346). -/
def State.acceptInput (x : Station) (ingress : Ns) (f : Bytes) (s : State) : State :=
  let im : InImage := { busCycle := s.ring.busCycle, header := imHeader f, words := imData f, quals := imQuals f }
  let s := s.updStation x.index fun y => { y with
    accepted := satAdd 32 y.accepted 1, back := some im, lastIngress := some ingress, lastBus := s.ring.busCycle,
    lastStamp := ingress + s.time.ringOff, lastHeader := imHeader f }
  if imLive f then s.returnStation x else s.updStation x.index fun y => { y with returnBus := none }

/-- INPUT_IMAGE (R159, R345, R346). -/
def execInputImage (t : Ns) (ingress : Ns) (bytes : Bytes) (s : State) : Res :=
  let s := s.begin t
  let f := bytes
  let mine := s.node != 0 && (fDest f == s.node || (s.isPair && s.pair.cfg.isSome && fDest f == s.pairAddr))
  if !s.up .rng || !s.sums || fClass f ≠ clsCyclic || fSubtype f ≠ 2 then .next s
  else match s.ring.stations.find? fun x => stImages x.obj && stNode x.obj == fSource f with
    | none => .next s
    | some x =>
      if !pcrcGood f then .next (s.updStation x.index fun y => { y with pcrcErr := satAdd 32 y.pcrcErr 1 })
      else if !mine then .next s
      else if imWords f ≠ stIn x.obj || fLength f ≠ stInLen x.obj then
        .next (s.updStation x.index fun y => { y with sizeErr := satAdd 32 y.sizeErr 1 })
      else if !s.inWindow ingress f then .next (s.updStation x.index fun y => { y with late := satAdd 32 y.late 1 })
      else .next (s.acceptInput x ingress f)

/-- A drop-out takes its place in ascending station index; one that waits already stays as it is (R158). -/
def insertDown (x : DownInfo) : List DownInfo → List DownInfo
  | [] => [x]
  | a :: r => if x.index < a.index then x :: a :: r else if x.index = a.index then a :: r else a :: insertDown x r

/-- A station is declared DOWN: its inputs are substituted, and its STATION_FAULT waits for the next cycle (R157, R158,
R344; the cause code is DESIGN CHOICE, log 103). -/
def State.stationDown (index : Nat) (s : State) : State :=
  match s.station? index with
  | none => s
  | some x =>
    if x.state != .up then s
    else
      let s := (s.setStation index .down 1).updStation index fun y => { y with
        returnBus := none, downUndelivered := y.undelivered, wentDown := y.wentDown || s.prg.inMain }
      let info : DownInfo := { index := index, node := stNode x.obj, busCycle := x.lastBus, stamp := x.lastStamp, cause := 1 }
      if s.prg.live then s.updPrg fun p => { p with downQueue := insertDown info p.downQueue } else s

/-- The station watchdog's deadline at the controller (R344). -/
def State.stationDeadline (s : State) (index : Nat) : Option Ns :=
  match s.station? index with
  | none => none
  | some x => if x.state == .up && stImages x.obj then x.lastIngress.map fun l => s.due .rng l (stWd x.obj * s.tBus) else none

/-- STATION_WATCHDOG (R40 to R42, R157, R344). -/
def execStationWatchdog (t : Ns) (index : Nat) (receiving : List Ns) (s : State) : Res :=
  let s := s.begin t
  match s.stationDeadline index with
  | none => .next s
  | some d =>
    if !s.up .rng || s.clock < d then .next s
    else .next (s.deferOr (.station index) d receiving (State.stationDown index))

/-! ### Output images at an I/O station (R345 to R349) -/

/-- Channels whose words the controller's engines write (R348). -/
def engineChans (o : Bytes) : List (Fin 128) := ((mapOutputs o).filter meEngine).map meChan

/-- RING-owned channels take their substitute values (R54, R347): all of them, or those no ENGINE word writes. -/
def State.substituteRing (all : Bool) (s : State) : State :=
  let keep := if all then [] else ((s.ring.io.imageMap.map engineChans).getD [])
  let s := (s.ringOwned.filter fun i => !keep.contains i).foldl
    (fun s i => s.updChan i fun c => { c with ringSubst := !c.fresh }) s
  s.updRing fun r =>
    let io := r.io
    { r with io := { io with
        live := false, liveBus := none, substituting := true, expired := io.expired || all,
        substSince := if io.substituting then io.substSince else s.clock } }

/-- The station follows the frames again; the time spent substituting is recorded (R347). -/
def State.liveReturn (s : State) : State :=
  let io := s.ring.io
  let s := s.record .rng .liveReturn [if io.substituting then ((s.clock - io.substSince : Nat) : Int) else 0]
  s.updRing fun r =>
    let io := r.io
    { r with io := { io with live := true, substituting := false, expired := false } }

/-- An accepted frame with LIVE set: the second of two bus cycles in a row returns the station to LIVE (R347). -/
def State.liveFrame (s : State) : State :=
  let k := s.ring.busCycle
  let second := !s.ring.io.live && s.ring.io.liveBus == some (k - 1) && k != 0
  let s := if second then s.liveReturn else s
  s.updRing fun r =>
    let io := r.io
    { r with io := { io with liveBus := some k, clearRun := 0, clearBus := none } }

/-- An accepted frame with LIVE clear: after WD_CYCLES of them in consecutive bus cycles the channels without ENGINE words
take their substitute values (R347). -/
def State.clearFrame (s : State) : State :=
  let k := s.ring.busCycle
  let io := s.ring.io
  let run := if io.clearBus == some (k - 1) && k != 0 then io.clearRun + 1 else 1
  let s := s.updRing fun r =>
    let io := r.io
    { r with io := { io with liveBus := none, clearRun := run, clearBus := some k } }
  if run = s.ring.cfg.wdCycles && !(io.substituting && !io.live) then s.substituteRing false else s

def State.updIo (f : IoStation → IoStation) (s : State) : State := s.updRing fun r => { r with io := f r.io }

/-- OUTPUT_IMAGE (R326, R345 to R347, R371): a frame not accepted is counted by the first condition that it fails. -/
def execOutputImage (t : Ns) (ingress : Ns) (bytes : Bytes) (s : State) : Res :=
  let s := s.begin t
  let f := bytes
  let sized := match s.ring.io.imageMap with
    | some o => imWords f == mapOut o && fLength f == 8 + 4 * mapOut o
    | none => fLength f == 8 + 4 * imWords f
  if !s.up .rng || s.role != some .iostation || fClass f ≠ clsCyclic || fSubtype f ≠ 1 || s.node = 0 || fDest f ≠ s.node ||
      s.ring.cfg.master = 0 || fSource f ≠ s.ring.cfg.master || s.shut f then
    .next s
  else if !pcrcGood f then .next (s.updIo fun io => { io with pcrcErr := satAdd 32 io.pcrcErr 1 })
  else if !sized then .next (s.updIo fun io => { io with sizeErr := satAdd 32 io.sizeErr 1 })
  else if !s.inWindow ingress f then .next (s.updIo fun io => { io with late := satAdd 32 io.late 1 })
  else
    let s := s.updRing fun r =>
      let io := r.io
      { r with io := { io with image := some (r.busCycle, imHeader f, imData f), lastIngress := some ingress } }
    .next (if imLive f then s.liveFrame else s.clearFrame)

/-- One output word goes to its channels (R99, R107, R348, R349): a value that is not finite is ignored and counted. -/
def State.applyWord (e : Bytes) (w : Word) (s : State) : State :=
  let ch := meChan e
  let d := s.chans[ch].demand
  match meItem e with
  | 0x11 =>
    let v := decodeBin 8 23 w.toNat
    s.ownerWrite .rng ch (v.any fun q => q != 0) v d.failSig
  | 0x12 =>
    if (s.owner ch).isl = some .rng then
      s.updChan ch fun c =>
        let d : Demand := { c.demand with failSig := w.getLsbD 0 }
        if w.getLsbD 0 then c.written d else { c with demand := d }
    else s.putDiag ch .notOwner true
  | 0x13 =>
    (List.finRange 16).foldl (fun s i =>
      let c := chanOf (grp ch) i
      if s.owner c == .ring && s.mode c == .dout then s.ownerWrite .rng c (w.getLsbD i.val) (some (b2n (w.getLsbD i.val))) false
      else s) s
  | _ => s

/-- OUTPUT_IMAGE_TAKE (R347, R348): 5 µs after the window the last accepted image of the bus cycle is released: all its
words while LIVE, its ENGINE words where the frame carries LIVE clear, or carries it set before the return and the station
substitutes for LIVE clear only, so that those words never stopped. -/
def execOutputImageTake (t : Ns) (s : State) : Res :=
  let s := s.begin t
  if !s.up .rng || s.role != some .iostation || s.clock < s.ring.busStart + s.ring.cfg.windowNs + 5000 then .next s
  else match s.ring.io.image, s.ring.io.imageMap with
    | some (k, header, words), some o =>
      if k ≠ s.ring.busCycle then .next s
      else
        let live := header.getLsbD 0
        let s := s.updRing fun r =>
          let io := r.io
          { r with io := { io with image := none } }
        let use (e : Bytes) : Bool :=
          if live then s.ring.io.live || (meEngine e && !s.ring.io.expired) else meEngine e
        .next (((mapOutputs o).zip words).foldl (fun s x => if use x.1 then s.applyWord x.1 x.2 else s) s)
    | _, _ => .next s

/-- The expiry of an I/O station's watchdog (R347, R357). -/
def State.ioExpired (s : State) : State :=
  let s := (s.substituteRing true).record .rng .ioWatchdog []
  s.updRing fun r =>
    let io := r.io
    { r with io := { io with lastIngress := none, clearRun := 0, clearBus := none } }

/-- IOSTATION_WATCHDOG (R40 to R42, R347). -/
def execIostationWatchdog (t : Ns) (receiving : List Ns) (s : State) : Res :=
  let s := s.begin t
  match s.ring.io.lastIngress with
  | none => .next s
  | some l =>
    let d := s.due .rng l (s.ring.cfg.wdCycles * s.tBus)
    if !s.up .rng || s.role != some .iostation || s.ring.cfg.wdCycles = 0 || s.clock < d then .next s
    else .next (s.deferOr .ioStation d receiving State.ioExpired)

/-! ### Tunnels (R351 to R354) -/

/-- A fragment of a TUNNEL frame whose header is right (R351). -/
structure Part where
  tid : BitVec 16
  kind : Nat
  idx : Nat
  total : Nat
  data : Bytes
deriving DecidableEq, Repr

def tunnelPart (f : Bytes) : Option Part :=
  let p := fPayload f
  let len := rd p 6 2
  if p.length < 17 || len = 0 || 1400 < len || p.length ≠ 16 + len || 1433600 < rd p 8 4 || 1023 < rd p 4 2 ||
      !(rd p 2 1 == 1 || rd p 2 1 == 2) then none
  else some { tid := BitVec.ofNat 16 (rd p 0 2), kind := rd p 2 1, idx := rd p 4 2, total := rd p 8 4, data := p.drop 16 }

/-- Whether a frame carries a tunnel fragment for this node. -/
def State.tunnelFor (s : State) (f : Bytes) : Bool :=
  s.up .rng && fClass f == clsAcyclic && fSubtype f == 1 && s.node != 0 && pcrcGood f && !s.shut f &&
    (fDest f == s.node || (s.isPair && s.pair.cfg.isSome && fDest f == s.pairAddr))

/-- A fragment is kept once. -/
def addPart (p : Part) (l : List (Nat × Bytes)) : List (Nat × Bytes) :=
  if l.any fun x => x.1 == p.idx then l else l ++ [(p.idx, p.data)]

/-- The bytes of a transaction once fragments 0 to the last are there. -/
def assemble (total : Nat) (l : List (Nat × Bytes)) : Option Bytes :=
  let parts := (List.range l.length).map fun i => l.find? fun x => x.1 == i
  if parts.all Option.isSome then
    let b := (parts.filterMap id).flatMap Prod.snd
    if b.length = total then some b else none
  else none

/-- A complete request: a kept response is sent again, one in execution goes on, an unknown or refused request is answered at
once, and any other is handed to its opcode's row (R352, R353, R426). -/
def State.tunnelComplete (src : Nat) (tid : BitVec 16) (b : Bytes) (s : State) : State :=
  match s.ring.kept.find? fun k => k.src = src ∧ k.tid = tid with
  | some k =>
    let frames := (tunnelFrames tid 2 k.response).map fun p => ({ subtype := 1, dest := src, payload := p } : AcyFrame)
    s.updRing fun r => { r with acyclic := r.acyclic ++ frames }
  | none =>
    if b.length < 64 || s.ring.serving.any (fun v => v.src = src ∧ v.tid = tid) then s
    else
      let op := rd b 0 2
      let v : TunnelServe := { src := src, tid := tid, cookie := BitVec.ofNat 32 (rd b 4 4), deadline := descDeadline b, accepted := s.now }
      let s := s.updRing fun r => { r with serving := r.serving ++ [v] }
      let org := Origin.tunnel src tid
      if !opTable.contains op then s.complete org (.error stUnknownOpcode)
      else if rd b 24 4 + 64 ≠ b.length then s.complete org (.error stInvalidField)
      else match s.policy org op with
        | some o => s.complete org o
        | none => s

/-- TUNNEL_REQUEST (R351 to R353). -/
def execTunnelRequest (t : Ns) (ingress : Ns) (bytes : Bytes) (s : State) : Res :=
  let s := (s.begin t).countPcrc bytes
  if !s.tunnelFor bytes then .next s
  else match tunnelPart bytes with
    | none => .next s
    | some p =>
      if p.kind ≠ 1 then .next s
      else
        let src := fSource bytes
        let same (x : TunnelIn) : Bool := x.src == src && x.tid == p.tid
        let old := s.ring.tunnelsIn.find? same
        let x : TunnelIn := old.getD { src := src, tid := p.tid, total := p.total }
        let x := { x with frags := addPart p x.frags, lastAt := ingress }
        let rest := s.ring.tunnelsIn.filter fun y => !same y
        match assemble x.total x.frags with
        | some b => .next ((s.updRing fun r => { r with tunnelsIn := rest }).tunnelComplete src p.tid b)
        | none => .next (s.updRing fun r => { r with tunnelsIn := rest ++ [x] })

/-- The number of a pair's forwarded write, the TID of its tunnel transaction on both members (R364, R369). -/
def State.forwardTid (s : State) (org : Origin) : BitVec 16 :=
  match s.pair.forwards.find? fun f => f.org = org with
  | some f => BitVec.ofNat 16 f.id
  | none => s.ring.nextTid

/-- A request's fragments join the acyclic queue (R351, R352, R368). -/
def State.queueRequest (tid : BitVec 16) (node : Nat) (due : Ns) (b : Bytes) (s : State) : State :=
  let frames := (tunnelFrames tid 1 b).map fun p => ({ subtype := 1, dest := node, payload := p, due := due } : AcyFrame)
  s.updRing fun r => { r with acyclic := r.acyclic ++ frames }

/-- A tunnel transaction starts where a slot of the 64 is free, else it waits; a station that is DOWN or DISABLED ends it
unsent (R32, R352, R354). -/
def State.openTunnel (org : Origin) (due : Ns) (index : Nat) (b : Bytes) (s : State) : State :=
  match s.station? index with
  | none => s.complete org (.error stStationDown)
  | some x =>
    if x.state == .down || x.state == .disabled || x.obj.isEmpty then
      (s.updStation index fun y => { y with downs := satAdd 32 y.downs 1 }).complete org (.error stStationDown)
    else if 1433600 < b.length then s.complete org (.error stInvalidField)
    else if 64 ≤ s.ring.tunnelsOut.length then s.updRing fun r => { r with tunnelsWait := r.tunnelsWait ++ [(org, index, b)] }
    else
      let tid := s.forwardTid org
      let o : TunnelOut := { tid := tid, org := org, station := index, node := stNode x.obj, request := b, lastSent := s.clock }
      let s := s.updRing fun r => { r with tunnelsOut := r.tunnelsOut ++ [o], nextTid := r.nextTid + 1 }
      (s.updStation index fun y => { y with tunnels := satAdd 32 y.tunnels 1 }).queueRequest tid (stNode x.obj) due b

/-- The request of a tunnelled descriptor is its 64 bytes and its data (R351). -/
def State.startTunnel (org : Origin) (due : Ns) (desc data : Bytes) (s : State) : State :=
  s.openTunnel org due (rd desc 28 2) (desc ++ data)

/-- A transaction ends: its slot goes to the oldest request that waits. -/
def State.closeTunnel (x : TunnelOut) (o : Outcome) (s : State) : State :=
  let s := (s.updRing fun r => { r with
    tunnelsOut := r.tunnelsOut.filter fun y => y.tid != x.tid,
    acyclic := r.acyclic.filter fun a => !(a.subtype == 1 && rd a.payload 2 1 == 1 && rd a.payload 0 2 == x.tid.toNat) }).complete
      x.org o
  match s.ring.tunnelsWait with
  | [] => s
  | (org, index, b) :: rest => (s.updRing fun r => { r with tunnelsWait := rest }).openTunnel org s.clock index b

/-- The outcome a station's completion and result spell (R354, R431). -/
def outcomeOf (b : Bytes) : Outcome :=
  let result := b.drop 16
  let len := rd b 12 3
  { disp := BitVec.ofNat 4 (rdBits b 6 7 4), status := BitVec.ofNat 16 (rd b 4 2), result := result,
    needed := if len = result.length then none else some len }

/-- The start of execution at the station: its completion's QUEUE_WAIT holds the ring time [31:0] in µs (R407, R436; assumption
log). -/
def stationStart (now : Int) (field : Nat) : Int :=
  let ref := now / 1000
  1000 * (ref + signed 32 (((field : Int) - ref) % 4294967296).toNat)

/-- A complete response ends its transaction (R354, R436). -/
def State.tunnelAnswer (x : TunnelOut) (b : Bytes) (s : State) : State :=
  let start := stationStart s.now (rd b 8 4)
  let mark (g : Tag) : Tag := if x.org = .host g.id then { g with started := some start } else g
  let s := s.updHif fun h => { h with tags := h.tags.map mark }
  s.closeTunnel x (outcomeOf b)

/-- TUNNEL_RESPONSE (R351, R352, R354). -/
def execTunnelResponse (t : Ns) (ingress : Ns) (bytes : Bytes) (s : State) : Res :=
  let s := (s.begin t).countPcrc bytes
  if !s.tunnelFor bytes then .next s
  else match tunnelPart bytes with
    | none => .next s
    | some p =>
      if p.kind ≠ 2 then .next s
      else match s.ring.tunnelsOut.find? fun x => x.tid == p.tid && x.node == fSource bytes with
        | none => .next s
        | some x =>
          let frags := addPart p x.frags
          match assemble p.total frags with
          | some b => .next (if b.length < 16 then s else s.tunnelAnswer x b)
          | none =>
            let keep (y : TunnelOut) : TunnelOut := if y.tid = x.tid then { y with frags := frags, lastIngress := ingress } else y
            .next (s.updRing fun r => { r with tunnelsOut := r.tunnelsOut.map keep })

/-- The whole request goes again (R352). -/
def State.resendTunnel (tid : BitVec 16) (due : Ns) (s : State) : State :=
  match s.ring.tunnelsOut.find? fun x => x.tid == tid with
  | none => s
  | some x =>
    let again (y : TunnelOut) : TunnelOut :=
      if y.tid = tid then { y with retries := y.retries + 1, frags := [], lastSent := s.clock } else y
    let s := s.updRing fun r => { r with tunnelsOut := r.tunnelsOut.map again }
    (s.updStation x.station fun y => { y with retrans := satAdd 32 y.retrans 1 }).queueRequest tid x.node due x.request

/-- TUNNEL_RETRY (R352, R354, R357, R364): in a pair that runs in step only the lead decides, and its BARRIER carries the
decision. -/
def execTunnelRetry (t : Ns) (tid : BitVec 16) (s : State) : Res :=
  let s := s.begin t
  match s.ring.tunnelsOut.find? fun x => x.tid == tid with
  | none => .next s
  | some x =>
    let waiting := s.ring.acyclic.any fun a => a.subtype == 1 && rd a.payload 2 1 == 1 && rd a.payload 0 2 == tid.toNat
    if !s.up .rng || waiting || s.pair.retriesDue.contains tid || s.clock < s.due .rng x.lastSent (1000000 * s.ring.cfg.acyTimeout) then .next s
    else if x.retries < s.ring.cfg.acyRetries then
      if s.inStep then
        .next (if s.pair.state == .lead then s.updPair fun p => { p with retriesDue := p.retriesDue ++ [tid] } else s)
      else .next (s.resendTunnel tid s.clock)
    else
      let s := (s.updStation x.station fun y => { y with timeouts := satAdd 32 y.timeouts 1 }).record .rng .tunnelTimeout
        [x.station, tid.toNat]
      .next (s.closeTunnel x (.error stTunnelTimeout))

/-- REASSEMBLY_TIMEOUT (R352): a partial transaction is discarded ACY_TIMEOUT after its last fragment. -/
def execReassemblyTimeout (t : Ns) (src : Nat) (tid : BitVec 16) (s : State) : Res :=
  let s := s.begin t
  let past (last : Ns) : Bool := decide (s.due .rng last (1000000 * s.ring.cfg.acyTimeout) ≤ s.clock)
  let drop (y : TunnelOut) : TunnelOut :=
    if y.node == src && y.tid == tid && past y.lastIngress then { y with frags := [] } else y
  .next (s.updRing fun r => { r with
    tunnelsIn := r.tunnelsIn.filter (fun x => !(x.src == src && x.tid == tid && past x.lastAt)),
    tunnelsOut := r.tunnelsOut.map drop })

/-! ### Node addresses (R342, R445) -/

/-- Payload of an ADDRESS frame (R342). -/
def addressPayload (hops addr : Nat) : Bytes := wr 1 hops ++ [0, 0, 0] ++ wr 2 addr

/-- An unaddressed node takes its address, keeps it in its store, and echoes it on both ports (R342, R357). -/
def State.adoptAddress (f : Bytes) (s : State) : State :=
  let a := rd (fPayload f) 4 2
  let s := ((s.updRegs fun r => { r with nodeAddr := .of (BitVec.ofNat 32 a) }).storeRegister).updRing fun r => { r with oldId := none }
  let s := s.record .rng .addressAdopted [a]
  s.updRing fun r => { r with
    acyclic := r.acyclic ++ [{ subtype := 2, dest := fSource f, payload := addressPayload (rd (fPayload f) 0 1) a }] }

/-- ADDRESS_FRAME (R342, R445): adoption at the node it is meant for, or the echo at the controller. -/
def execAddressFrame (t : Ns) (port : Port) (ingress : Ns) (bytes : Bytes) (s : State) : Res :=
  let s := s.begin t
  if !s.up .rng || (s.port port).link != .up || decide (s.clock < ingress) then .next s
  else if s.adopts bytes then .next (s.adoptAddress bytes)
  else match s.ring.nodeAddr with
    | none => .next s
    | some n =>
      if fClass bytes = clsAcyclic && fSubtype bytes = 2 && fDest bytes = s.node && s.node != 0 && pcrcGood bytes &&
          fSource bytes = n.newAddr && rd (fPayload bytes) 4 2 = n.newAddr then
        .next ((s.updRing fun r => { r with nodeAddr := none }).complete n.org .done)
      else .next s

/-- An ADDRESS frame joins the queue, for one port (R329, R342). -/
def State.queueAddress (n : NodeAddr) (s : State) : State :=
  let a : AcyFrame := { subtype := 2, dest := 0, payload := addressPayload n.hops n.newAddr, port := some n.port }
  s.updRing fun r => { r with nodeAddr := some n, acyclic := r.acyclic ++ [a] }

/-- NODE_ADDRESS (R342, R445). -/
def execNodeAddress (t : Ns) (org : Origin) (param : Bytes) (s : State) : Res :=
  let s := s.begin t
  let bad := decide (1 < rd param 0 1) || rd param 1 1 == 0 || rd param 2 2 == 0 || rd param 2 2 == 0xFFFF || !zeroAt param 4 12
  serve org opNodeAddress [.rng] (badField bad)
    (firstOf [fails (!s.sums) (.policy stPolicyRole), fails s.ring.nodeAddr.isSome .busy])
    (fun s => s.queueAddress { org := org, port := if rd param 0 1 = 0 then .a else .b, hops := rd param 1 1,
                               newAddr := rd param 2 2, sentAt := s.clock }) s

/-- NODE_ADDRESS_RETRY (R357, R445). -/
def execNodeAddressRetry (t : Ns) (s : State) : Res :=
  let s := s.begin t
  match s.ring.nodeAddr with
  | none => .next s
  | some n =>
    let waiting := s.ring.acyclic.any fun a => a.port.isSome
    if !s.up .rng || waiting || s.clock < s.due .rng n.sentAt (1000000 * s.ring.cfg.acyTimeout) then .next s
    else if n.retries < s.ring.cfg.acyRetries then .next (s.queueAddress { n with retries := n.retries + 1, sentAt := s.clock })
    else
      let s := (s.updRing fun r => { r with nodeAddr := none }).record .rng .tunnelTimeout [-1, n.newAddr]
      .next (s.complete n.org (.error stTunnelTimeout))

/-! ### Configuration (R322, R323, R341, R343, R348, R349) -/

/-- A node address that may be given (R322, R342, R343). -/
def nodeOk (n : Nat) : Bool := decide (1 ≤ n) && decide (n ≤ 65534)

/-- Fields of RING_CONFIG in the role in force (R322). -/
def State.ringCfgOk (s : State) (o : Bytes) : Bool :=
  let io := s.role == some .iostation
  let slave := io || s.role == some .referee || s.role == some .branch
  let c := ringCfgOf o
  o.length == 32 && decide (250 ≤ c.tBus) && decide (c.tBus ≤ 10000) && c.tBus % 50 == 0 && decide (20 ≤ c.window) &&
    decide (c.window ≤ 80) && rdBits o 5 7 6 == 0 && decide (rdBits o 5 5 4 ≤ 1) && decide (rdBits o 5 3 2 ≤ 1) &&
    decide (rdBits o 5 1 0 ≤ 1) && rdBits o 6 7 1 == 0 && (if io then c.wdCycles != 0 else c.wdCycles == 0) &&
    (if slave then nodeOk c.master else c.master == 0) && decide (c.acyGuard ≤ 5000) && decide (5 ≤ c.acyTimeout) &&
    decide (c.acyTimeout ≤ 1000) && decide (c.acyRetries ≤ 3) && rd o 15 1 == 0 && zeroAt o 20 12

/-- Whether the node originates cyclic frames (R323, R562). -/
def State.originatesCyclic (s : State) : Bool :=
  (s.ring.stations.any fun x => stEnable x.obj) || (s.role == some .iostation && s.ring.cfg.master != 0) ||
    (safConnEntries s.safObj).any cnProduces

/-- RING_CONFIG (R322, R323). -/
def execRingConfig (t : Ns) (org : Origin) (obj : Bytes) (s : State) : Res :=
  let s := s.begin t
  let c := ringCfgOf obj
  serve org opRingConfig [.rng] (badField (obj.length != 32))
    (firstOf [badField (!s.ringCfgOk obj),
      fails (s.originatesCyclic && (c.tBus != s.ring.cfg.tBus || c.window != s.ring.cfg.window)) (.error stWrongState),
      fails s.ring.cfgPending.isSome .busy,
      fails (s.overCapacity c (s.ring.stations.map Station.next) s.safObj) .capacity,
      fails (s.storeOverflow (BitVec.ofNat 16 opRingConfig) 0 obj) .capacity])
    (fun s => s.updRing fun r => { r with cfgPending := some (org, obj) }) s

/-- Fields of STATION_CONFIG (R343). -/
def stationOk (o : Bytes) : Bool :=
  decide (rd o 0 2 ≤ 4095) && nodeOk (stNode o) && rdBits o 4 5 0 == 0 && stWd o != 0 && decide (stIn o ≤ 256) &&
    decide (stOut o ≤ 256) && !(stHopsA o == 255 && stHopsB o == 255) && zeroAt o 12 20 && o.length == 32 + 4 * stIn o

/-- The header of an entry without ENABLE. -/
def stFixed (o : Bytes) : Bytes := o.take 4 ++ wr 1 (rdBits o 4 6 0) ++ (o.drop 5).take 27

/-- The station table with one more entry, in ascending index. -/
def insertStation (x : Station) : List Station → List Station
  | [] => [x]
  | a :: r => if x.index < a.index then x :: a :: r else a :: insertStation x r

/-- STATION_CONFIG (R337, R343). -/
def execStationConfig (t : Ns) (org : Origin) (obj : Bytes) (s : State) : Res :=
  let s := s.begin t
  let index := rd obj 0 2
  let cur := s.station? index
  let others := s.ring.stations.filter fun x => x.index != index
  serve org opStationConfig [.rng] (badField (decide (obj.length < 32) || decide (1056 < obj.length)))
    (firstOf [fails (!s.sums) (.policy stPolicyRole),
      badField (!stationOk obj || others.any fun x => stNode x.next == stNode obj),
      fails (cur.any fun x => stEnable x.obj && stFixed x.obj != stFixed obj) (.error stWrongState),
      fails (cur.any fun x => x.pending.isSome) .busy,
      fails (s.overCapacity s.nextRing (obj :: others.map Station.next) s.safObj) .capacity,
      fails (s.storeOverflow (BitVec.ofNat 16 opStationConfig) index obj) .capacity])
    (fun s =>
      if cur.isSome then s.updStation index fun x => { x with pending := some (org, obj) }
      else s.updRing fun r => { r with
        stations := insertStation { index := index, obj := [], pending := some (org, obj), state := .disabled } r.stations }) s

/-- One entry of an IMAGE_MAP (R348, R349). -/
def State.mapEntryOk (s : State) (out : Bool) (e : Bytes) : Bool :=
  let ch := meChan e
  let item := meItem e
  decide (rd e 0 1 ≤ 127) && rdBits e 2 7 1 == 0 && rd e 3 1 == 0 &&
    (if out then
      (item == 0 || item == 0x11 || item == 0x12 || item == 0x13) && (!meEngine e || item == 0x11 || item == 0x12) &&
        (item != 0x11 || (s.owner ch == .ring && ((s.mode ch).isAo || s.mode ch == .dout))) &&
        (item != 0x12 || (s.owner ch == .ring && (s.mode ch).isAo))
    else decide (item ≤ 3) && !meEngine e)

/-- Channels whose demand an output entry writes (R349); FLAGS beside VALUE of one AO channel are no second writing of it. -/
def State.mapWrites (s : State) (e : Bytes) : List (Fin 128) :=
  if meItem e = 0x11 then [meChan e]
  else if meItem e = 0x13 then
    ((List.finRange 16).map fun i => chanOf (grp (meChan e)) i).filter fun c => s.owner c == .ring && s.mode c == .dout
  else []

/-- Whether a list names nothing twice. -/
def noTwice (l : List (Fin 128)) : Bool := (l.foldl (fun (acc : Bool × List (Fin 128)) c => (acc.1 && !acc.2.contains c, c :: acc.2)) (true, [])).1

/-- Fields and rules of an IMAGE_MAP (R348, R349). -/
def State.mapOk (s : State) (o : Bytes) : Bool :=
  let outs := mapOutputs o
  decide (mapIn o ≤ 256) && decide (mapOut o ≤ 256) && zeroAt o 4 4 && o.length == 8 + 4 * (mapIn o + mapOut o) &&
    (mapInputs o).all (s.mapEntryOk false) && outs.all (s.mapEntryOk true) && noTwice (outs.flatMap s.mapWrites) &&
    noTwice ((outs.filter fun e => meItem e == 0x12).map meChan)

/-- IMAGE_MAP (R348, R349). -/
def execImageMap (t : Ns) (org : Origin) (obj : Bytes) (s : State) : Res :=
  let s := s.begin t
  serve org opImageMap [.rng] (badField (decide (obj.length < 8) || decide (2056 < obj.length)))
    (firstOf [fails (s.role != some .iostation) (.policy stPolicyRole), badField (!s.mapOk obj),
      fails s.ring.io.mapPending.isSome .busy, fails (s.storeOverflow (BitVec.ofNat 16 opImageMap) 0 obj) .capacity])
    (fun s => s.updRing fun r =>
      let io := r.io
      { r with io := { io with mapPending := some (org, obj) } }) s

/-- Whether two ranges share an address. -/
def overlaps (a b : Nat × Nat) : Bool := decide (a.1 ≤ b.2) && decide (b.1 ≤ a.2)

/-- Whether no two ranges of a list overlap. -/
def apart : List (Nat × Nat) → Bool
  | [] => true
  | a :: r => !r.any (overlaps a) && apart r

/-- Fields of BRANCH_CONFIG (R341). -/
def branchOk (o : Bytes) : Bool :=
  decide (rd o 0 2 ≤ 64) && decide (rd o 2 2 ≤ 64) && zeroAt o 4 4 && o.length == 8 + 4 * rd o 0 2 + 2 * rd o 2 2 &&
    ((brRanges o).all fun r => nodeOk r.1 && nodeOk r.2 && decide (r.1 ≤ r.2)) && (brBcast o).all nodeOk && apart (brRanges o)

/-- BRANCH_CONFIG (R341). -/
def execBranchConfig (t : Ns) (org : Origin) (obj : Bytes) (s : State) : Res :=
  let s := s.begin t
  serve org opBranchConfig [.rng] (badField (decide (obj.length < 8) || decide (392 < obj.length)))
    (firstOf [fails (s.role != some .branch) (.policy stPolicyRole), badField (!branchOk obj),
      fails s.ring.branchPending.isSome .busy, fails (s.storeOverflow (BitVec.ofNat 16 opBranchConfig) 0 obj) .capacity])
    (fun s => s.updRing fun r => { r with branchPending := some (org, obj) }) s

end Sys2Proof.Machine
end

