-- ==== Sys2Proof/Machine/Time.lean ====
section
/-! DEFINITION. Ring time, the supported part of IEEE 1588, ship time and PPS (R390 to R410). -/

namespace Sys2Proof.Machine

/-! ### States and steps of ring time (R390 to R393) -/

def RingState.num : RingState → Nat
  | .freeRun => 0 | .acquiring => 1 | .locked => 2 | .holdover => 3

/-- A change of ring-time state with its record (R391, R410). -/
def State.setRing (x : RingState) (s : State) : State :=
  if s.time.state = x then s
  else
    let was := s.time.state
    (s.updTime fun v => { v with state := x, changed := s.now, okRun := 0, badRun := 0 }).record .tim .ringTimeState
      [was.num, x.num]

/-- A loop after a step of ring time: what it owes goes, its next sample has its nominal dt (R230, R393). -/
def Loop.stepTime (d : Int) (l : Loop) : Loop :=
  { l with owed := [], firstLate := none, lastStart := none, fresh := l.fresh || l.cfg.isSome,
           cascTick := (((l.cascTick * 50000 : Nat) : Int) + d).toNat / 50000 }

/-- A safety function's ring-time instants move with the step (R393). -/
def SafFn.stepTime (d : Int) (f : SafFn) : SafFn :=
  let pairs := f.pairs.toList.map fun p => { p with disStart := p.disStart.map (· + d) }
  let button := f.button
  { f with
    pairs := Vector.ofFn fun (i : Fin 4) => (pairs[i.val]?).getD f.pairs[i],
    button := { button with zeroSince := button.zeroSince.map (· + d), pressStart := button.pressStart.map (· + d) } }

/-- The stamp of an input's last change moves with the step (R393). -/
def Chan.stepTime (d : Int) (c : Chan) : Chan := { c with inputStamp := c.inputStamp + d }
def SafChan.stepTime (d : Int) (c : SafChan) : SafChan := { c with stamp := c.stamp + d }
def SafConn.stepTime (d : Int) (c : SafConn) : SafConn := { c with changeStamps := c.changeStamps.map (· + d) }
def Saf.stepTime (d : Int) (v : Saf) : Saf :=
  { v with chans := v.chans.map (SafChan.stepTime d), conns := v.conns.map (SafConn.stepTime d) }

/-- A step of ring time by `d` ns (R393): every armed instant moves with it, the program clock and ship time do not, and the
grid points passed or repeated are discarded. -/
def State.stepRing (d : Int) (s : State) : State :=
  let before := s.now
  let s := s.updTime fun v => { v with
    ringOff := v.ringOff + d, shipOff := v.shipOff - d, steps := v.steps + 1, stepped := true,
    gridFloor := if d < 0 then (before / 50000).toNat else v.gridFloor,
    ppsEdges := v.ppsEdges.map fun e => (e.1, e.2.map (· + d)) }
  let s := forAll 64 (fun i s => s.updLoop i (Loop.stepTime d)) s
  let s := forAll 8 (fun i s => s.updOver i fun v => { v with lastStart := none }) s
  let s := forAll 16 (fun i s => s.updAxis i fun a => { a with owed := [], firstLate := none }) s
  let s := forAll 48 (fun i s => s.updFn i (SafFn.stepTime d)) s
  let s := s.updSaf (Saf.stepTime d)
  let s : State := { s with chans := s.chans.map (Chan.stepTime d) }
  s.updPair fun p =>
    let b := p.barrier
    { p with
      tunnelsDue := p.tunnelsDue.map fun x => (x.1, x.2.1, x.2.2.1, x.2.2.2 + d),
      retriesAt := p.retriesAt.map fun x => (x.1, x.2 + d), reversions := p.reversions.map (· + d),
      barrier := { b with own := b.own.map fun x => (x.1, x.2 + d), ownDone := b.ownDone.map fun x => (x.1, x.2 + d),
                          stamp := b.stamp + d } }

/-! ### TIME_CONFIG (R402, R406) -/

/-- The settings a TIME_CONFIG object spells (R406). -/
def timeCfgOf (o : Bytes) : TimeCfg :=
  { gmCapable := rdBits o 0 0 0 == 1, priority1 := BitVec.ofNat 8 (rd o 1 1), priority2 := BitVec.ofNat 8 (rd o 2 1),
    logSync := rdS o 3 1, logAnnounce := rd o 4 1, announceTimeout := rd o 5 1, logPdelay := rd o 6 1,
    ppsSrc := BitVec.ofNat 2 (rdBits o 7 1 0), ppsWidth := rd o 8 2, holdoverS := rd o 10 2,
    kp := (rdF32 o 12).getD 0, ki := (rdF32 o 16).getD 0 }

/-- Fields of TIME_CONFIG (R406). -/
def timeOk (o : Bytes) : Bool :=
  let c := timeCfgOf o
  o.length == 32 && rdBits o 0 7 1 == 0 && decide (-1 ≤ c.logSync) && decide (c.logSync ≤ 1) && decide (c.logAnnounce ≤ 4) &&
    decide (2 ≤ c.announceTimeout) && decide (c.announceTimeout ≤ 10) && decide (c.logPdelay ≤ 5) && rdBits o 7 7 2 == 0 &&
    rdBits o 7 1 0 != 3 && decide (1 ≤ c.ppsWidth) && decide (c.ppsWidth ≤ 500) && decide (1 ≤ c.holdoverS) &&
    decide (c.holdoverS ≤ 3600) && (rdF32 o 12).isSome && decide (0 < c.kp) && (rdF32 o 16).isSome && decide (0 ≤ c.ki) &&
    zeroAt o 20 12

/-- Roles whose time the master sets (R402, R406). -/
def State.timeSlave (s : State) : Bool := s.role == some .iostation || s.role == some .referee || s.role == some .branch

/-- The Sync interval in ns. -/
def TimeCfg.syncNs (c : TimeCfg) : Nat := if c.logSync < 0 then 500000000 else if c.logSync = 0 then 1000000000 else 2000000000
def TimeCfg.announceNs (c : TimeCfg) : Nat := 2 ^ c.logAnnounce * 1000000000
def TimeCfg.pdelayNs (c : TimeCfg) : Nat := 2 ^ c.logPdelay * 1000000000

/-- The settings of TIME_CONFIG come into force: a node no longer capable gives the grandmaster up (R395, R406). -/
def State.timeInForce (o : Bytes) (s : State) : State :=
  let c := timeCfgOf o
  let s := (s.updTime fun v => { v with cfg := c, cfgPending := none }).storeObject (BitVec.ofNat 16 opTimeConfig) 0 (some o)
  if s.time.isGm && !c.gmCapable then
    (s.updTime fun v => { v with isGm := false, gm := none, lastSync := some s.clock }).record .tim .gmChange [0]
  else s

/-- A pulse of PPS_OUT that has lasted PPS_WIDTH ends (R405; DEDUCED, log 115). -/
def State.endPulse (s : State) : State :=
  if s.time.ppsOutHigh && decide (s.time.ppsOutUntil ≤ s.clock) then
    (s.updTime fun v => { v with ppsOutHigh := false }).emit (.pin "PPS_OUT" false)
  else s

/-- A TIME_CONFIG whose Sync interval has come takes effect and completes (R406). -/
def State.takeTime (s : State) : State :=
  match s.time.cfgPending with
  | some (org, o, due) => if due ≤ s.clock then (s.timeInForce o).complete org .done else s
  | none => s

/-- The beginning of a command of TIM: the clock moves on, a pulse of PPS_OUT that is over ends, and a TIME_CONFIG that is due
takes effect. -/
def State.timeBegin (t : Ns) (s : State) : State := (s.begin t).endPulse.takeTime

/-- TIME_CONFIG (R406): it takes effect at the node's next Sync interval. -/
def execTimeConfig (t : Ns) (org : Origin) (obj : Bytes) (s : State) : Res :=
  let s := s.timeBegin t
  serve org opTimeConfig [.tim] (badField (obj.length != 32))
    (firstOf [fails s.timeSlave (.policy stPolicyRole), badField (!timeOk obj), fails s.time.cfgPending.isSome .busy,
      fails (s.storeOverflow (BitVec.ofNat 16 opTimeConfig) 0 obj) .capacity])
    (fun s =>
      let n := s.time.cfg.syncNs
      let due : Ns := (s.clock + n - (s.now % (n : Int)).toNat)
      s.updTime fun v => { v with cfgPending := some (org, obj, due) }) s

/-! ### Ports and messages (R394, R396, R398) -/

/-- Whether a port carries PTP (R319, R362, R396). -/
def State.ptpPort (s : State) (p : Port) : Bool :=
  (s.port p).link == .up && (p != .l || s.role == some .branch)

/-- The PTP ports other than one. -/
def State.ptpOthers (s : State) (p : Port) : List Port := [Port.a, .b, .l].filter fun q => q != p && s.ptpPort q

/-- clockIdentity: the MAC address of port A with 0xFF_FE after its third byte (R395). -/
def State.clockIdentity (s : State) : BitVec 64 :=
  BitVec.ofNat 64 (s.regs.macA.toNat / 2 ^ 24 * 2 ^ 40 + 0xFFFE * 2 ^ 24 + s.regs.macA.toNat % 2 ^ 24)

/-- sourcePortIdentity of the ordinary clock. -/
def State.portIdentity (s : State) : BitVec 80 := BitVec.ofNat 80 (s.clockIdentity.toNat * 65536 + 1)

/-- clockIdentity of a message's source. -/
def ptpClock (m : PtpMsg) : BitVec 64 := BitVec.ofNat 64 (m.source.toNat / 65536)

/-- The data set the module announces (R395). -/
def State.ownData (s : State) : GmData :=
  { priority1 := s.time.cfg.priority1, clockClass := if s.time.cfg.gmCapable then 248 else 255, accuracy := 0xFE,
    variance := 0xFFFF, priority2 := s.time.cfg.priority2, identity := s.clockIdentity, stepsRemoved := 0 }

/-- The attributes of a data set in the order the best master clock algorithm compares them (R395). -/
def gmRank (g : GmData) : List Nat :=
  [g.priority1.toNat, g.clockClass.toNat, g.accuracy.toNat, g.variance.toNat, g.priority2.toNat, g.identity.toNat]

/-- Whether a list of numbers comes before another. -/
def ranksBefore : List Nat → List Nat → Bool
  | a :: r, b :: q => a < b || (a == b && ranksBefore r q)
  | _, _ => false

/-- Whether a data set is better than another. -/
def gmBetter (a b : GmData) : Bool := ranksBefore (gmRank a) (gmRank b)

/-- Message types of R394. -/
def ptSync : BitVec 4 := 0
def ptReq : BitVec 4 := 2
def ptResp : BitVec 4 := 3
def ptAnnounce : BitVec 4 := 11

/-- Whether a message has been forwarded or consumed (R396). -/
def State.ptpOld (s : State) (kind : BitVec 4) (m : PtpMsg) : Bool :=
  s.time.ptpSeen.any fun e => e.1 == m.source && e.2.1 == kind && e.2.2.contains m.seq

/-- A message forwarded, consumed or sent is remembered, the 16 most recent of each source (R396). -/
def State.ptpSee (kind : BitVec 4) (source : BitVec 80) (seq : BitVec 16) (s : State) : State :=
  s.updTime fun v =>
    let old := ((v.ptpSeen.find? fun e => e.1 == source && e.2.1 == kind).map fun e => e.2.2).getD []
    { v with ptpSeen := (source, kind, (seq :: old).take 16) :: v.ptpSeen.filter fun e => !(e.1 == source && e.2.1 == kind) }

/-- Common checks of a message: TIM runs, the port carries PTP, the domain is 0, one-step (R394). -/
def State.ptpAccept (port : Port) (m : PtpMsg) (twoStepMatters : Bool) (s : State) : State × Bool :=
  if !s.up .tim || !s.ptpPort port then (s, false)
  else if m.domain != 0 then (s.updTime fun v => { v with ptpDomain := satAdd 32 v.ptpDomain 1 }, false)
  else if twoStepMatters && m.twoStep then (s.updTime fun v => { v with ptpTwoStep := satAdd 32 v.ptpTwoStep 1 }, false)
  else (s, true)

/-- A copy already handled is discarded and counted (R396). -/
def State.ptpDrop (s : State) : State := s.updTime fun v => { v with ptpDuplicate := satAdd 32 v.ptpDuplicate 1 }

def State.pdelay (s : State) (p : Port) : Pdelay := s.time.pdelay[Port.idx p]
def State.updPdelay (p : Port) (f : Pdelay → Pdelay) (s : State) : State :=
  s.updTime fun v => { v with pdelay := v.pdelay.set (Port.idx p) (f v.pdelay[Port.idx p]) }

/-- meanLinkDelay of a port: the mean of its last 8 valid measurements (R396). -/
def Pdelay.mean (d : Pdelay) : Rat := if d.meas.isEmpty then 0 else d.meas.foldl (· + ·) 0 / d.meas.length

/-! ### Sync and the servo (R391, R392) -/

/-- The PI servo (R392): `dt` s since the last Sync. -/
def Time.servo (offset dt : Rat) (v : Time) : Time :=
  let y := round64 (round64 (v.cfg.kp * offset) + v.integ)
  let integ := if absR y < 250000 then round64 (v.integ + round64 (round64 (v.cfg.ki * offset) * dt)) else v.integ
  { v with integ := integ, freq := clampR (-250000) 250000 (-y) }

/-- The state after an accepted Sync of this offset, by the state it was accepted in (R391). -/
def State.syncState (was : RingState) (offset : Rat) (s : State) : State :=
  let a := absR offset
  match was with
  | .freeRun => s.setRing .acquiring
  | .acquiring =>
    let run := if a ≤ 1000 then s.time.okRun + 1 else 0
    if 4 ≤ run then s.setRing .locked else s.updTime fun v => { v with okRun := run }
  | .locked =>
    let run := if 10000 < a then s.time.badRun + 1 else 0
    if 4 ≤ run then s.setRing .acquiring else s.updTime fun v => { v with badRun := run }
  | .holdover => s.setRing (if a ≤ 10000 then .locked else .acquiring)

/-- The first valid copy of a Sync of the grandmaster: offset, step or servo, state (R391 to R393, R396). -/
def State.useSync (port : Port) (ingress : Ns) (m : PtpMsg) (s : State) : State :=
  let tin : Int := ingress + s.time.ringOff
  let offset : Rat := tin - (m.origin + m.correction + (s.pdelay port).mean)
  let dt : Rat := match s.time.lastSync with | some l => ((ingress - l : Nat) : Rat) / 1000000000 | none => 0
  let was := s.time.state
  let jump := was != .locked && decide (10000 < absR offset)
  let s := s.updTime fun v => { v with lastOffset := offset, lastSync := some ingress, syncStamp := tin, syncPort := some port }
  let d : Int := -(roundAway offset)
  let s := if jump then s.stepRing d else s.updTime (Time.servo offset dt)
  let s := s.syncState was offset
  if jump then s.record .tim .timeStep [d, was.num, s.time.state.num] else s

/-- SYNC (R392, R394, R396, R398). -/
def execSync (t : Ns) (port : Port) (ingress : Ns) (msg : PtpMsg) (s : State) : Res :=
  let acc := (s.timeBegin t).ptpAccept port msg true
  let s : State := acc.1
  if !acc.2 then .next s
  else if (s.pdelay port).invalid then .next (s.updTime fun v => { v with ptpInvalidDelay := satAdd 32 v.ptpInvalidDelay 1 })
  else if s.ptpOld ptSync msg then .next s.ptpDrop
  else
    let s := s.ptpSee ptSync msg.source msg.seq
    let out : PtpMsg := { msg with correction := msg.correction + ((s.clock - ingress : Nat) : Rat) + (s.pdelay port).mean }
    let s := (s.ptpOthers port).foldl (fun s p => s.emit (.ptp p ptSync out none)) s
    let fromGm := !s.time.isGm && s.time.gm.any fun g => g.identity == ptpClock msg
    .next (if fromGm then s.useSync port ingress msg else s)

/-- SYNC_SEND (R394, R398): the grandmaster's one-step Sync, one Sync interval after the last. -/
def execSyncSend (t : Ns) (s : State) : Res :=
  let s := s.timeBegin t
  let due := match s.time.syncSentAt with | some l => decide (l + s.time.cfg.syncNs ≤ s.clock) | none => true
  if !s.up .tim || !s.time.isGm || !due then .next s
  else
    let m : PtpMsg := { domain := 0, twoStep := false, correction := 0, source := s.portIdentity, seq := s.time.syncSeq, origin := s.now }
    let s := s.ptpSee ptSync m.source m.seq
    let s := s.updTime fun v => { v with syncSeq := v.syncSeq + 1, syncSentAt := some s.clock }
    .next (([Port.a, .b, .l].filter s.ptpPort).foldl (fun s p => s.emit (.ptp p ptSync m none)) s)

/-- SYNC_LOSS (R391): a LOCKED node that is not the grandmaster, three Sync intervals after its last Sync. -/
def execSyncLoss (t : Ns) (s : State) : Res :=
  let s := s.timeBegin t
  match s.time.lastSync with
  | some l =>
    if s.time.state == .locked && !s.time.isGm && decide (s.due .tim l (3 * s.time.cfg.syncNs) ≤ s.clock) then
      .next ((s.updTime fun v => { v with holdoverAt := s.clock }).setRing .holdover)
    else .next s
  | none => .next s

/-- HOLDOVER_EXPIRY (R391). -/
def execHoldoverExpiry (t : Ns) (s : State) : Res :=
  let s := s.timeBegin t
  if s.time.state == .holdover && decide (s.time.holdoverAt + s.time.cfg.holdoverS * 1000000000 ≤ s.clock) then .next (s.setRing .freeRun)
  else .next s

/-! ### Announce and the grandmaster (R395) -/

/-- The grandmaster changes, and the change is recorded (R410). -/
def State.setGm (g : GmData) (own : Bool) (s : State) : State :=
  let changed := s.time.isGm != own || (s.time.gm.map GmData.identity) != some g.identity
  let s := s.updTime fun v => { v with gm := some g, isGm := own, gmLast := s.clock }
  if changed then s.record .tim .gmChange [g.identity.toNat, b2n own] else s

/-- A data set heard: one better than the own, or any at a slave-only node, keeps the node from becoming grandmaster; the best
of those heard is the grandmaster (R395). -/
def State.hearAnnounce (g : GmData) (s : State) : State :=
  let c := s.time.cfg
  let beats := !(c.gmCapable && !s.timeSlave) || gmBetter g s.ownData
  if !beats then s
  else
    let s := s.updTime fun v => { v with lastBetter := s.clock }
    let stale := decide (s.due .tim s.time.gmLast (c.announceTimeout * c.announceNs) ≤ s.clock)
    let take := match s.time.gm with
      | none => true
      | some cur => s.time.isGm || cur.identity == g.identity || gmBetter g cur || stale
    if !take then s
    else
      let was := s.time.isGm
      let s := s.setGm g false
      if was then s.updTime fun v => { v with lastSync := some s.clock, badRun := 0 } else s

/-- ANNOUNCE (R394 to R396). -/
def execAnnounce (t : Ns) (port : Port) (ingress : Ns) (msg : PtpMsg) (gm : GmData) (s : State) : Res :=
  let acc := (s.timeBegin t).ptpAccept port msg false
  let s : State := acc.1
  if !acc.2 || decide (s.clock < ingress) then .next s
  else if s.ptpOld ptAnnounce msg then .next s.ptpDrop
  else
    let s := s.ptpSee ptAnnounce msg.source msg.seq
    let s := (s.ptpOthers port).foldl (fun s p => s.emit (.ptp p ptAnnounce msg (some gm))) s
    .next (s.hearAnnounce gm)

/-- ANNOUNCE_SEND (R395). -/
def execAnnounceSend (t : Ns) (s : State) : Res :=
  let s := s.timeBegin t
  let due := match s.time.announceSentAt with | some l => decide (l + s.time.cfg.announceNs ≤ s.clock) | none => true
  if !s.up .tim || !s.time.isGm || !due then .next s
  else
    let m : PtpMsg := { domain := 0, twoStep := false, correction := 0, source := s.portIdentity, seq := s.time.announceSeq, origin := s.now }
    let s := s.ptpSee ptAnnounce m.source m.seq
    let s := s.updTime fun v => { v with announceSeq := v.announceSeq + 1, announceSentAt := some s.clock }
    .next (([Port.a, .b, .l].filter s.ptpPort).foldl (fun s p => s.emit (.ptp p ptAnnounce m (some s.ownData))) s)

/-- ANNOUNCE_TIMEOUT (R391, R395): a capable node becomes grandmaster with the ring time it holds; any other hears no
grandmaster any more. -/
def execAnnounceTimeout (t : Ns) (s : State) : Res :=
  let s := s.timeBegin t
  let c := s.time.cfg
  if !s.up .tim || s.time.isGm || s.clock < s.due .tim s.time.lastBetter (c.announceTimeout * c.announceNs) then .next s
  else if c.gmCapable && !s.timeSlave then
    .next (((s.setGm s.ownData true).updTime fun v => { v with syncSentAt := none, announceSentAt := none }).setRing .locked)
  else
    let s := if s.time.gm.isSome then (s.updTime fun v => { v with gm := none }).record .tim .gmChange [0, 0] else s
    .next (if s.time.state == .acquiring then s.setRing .freeRun else s)

/-! ### Peer delay (R396) -/

/-- PDELAY_REQ (R394, R396): the response carries the turnaround time. -/
def execPdelayReq (t : Ns) (port : Port) (ingress : Ns) (msg : PtpMsg) (s : State) : Res :=
  let acc := (s.timeBegin t).ptpAccept port msg false
  let s : State := acc.1
  if !acc.2 then .next s
  else
    let m : PtpMsg := { domain := 0, twoStep := false, correction := ((s.clock - ingress : Nat) : Rat),
                        source := s.portIdentity, seq := msg.seq, origin := 0 }
    .next ((s.updPdelay port fun d => { d with answered := satAdd 32 d.answered 1 }).emit (.ptp port ptResp m none))

/-- PDELAY_REQ_SEND (R396). -/
def execPdelayReqSend (t : Ns) (port : Port) (s : State) : Res :=
  let s := s.timeBegin t
  let d := s.pdelay port
  let due := match d.sentAt with | some l => decide (l + s.time.cfg.pdelayNs ≤ s.clock) | none => true
  if !s.up .tim || !s.ptpPort port || !due then .next s
  else
    let m : PtpMsg := { domain := 0, twoStep := false, correction := 0, source := s.portIdentity, seq := d.seq, origin := 0 }
    .next ((s.updPdelay port fun d => { d with
      seq := d.seq + 1, pending := some (d.seq, s.clock), sentAt := some s.clock, sent := satAdd 32 d.sent 1 }).emit
        (.ptp port ptReq m none))

/-- PDELAY_RESP (R394, R396): half of what lies between request and response less the turnaround is one measurement. -/
def execPdelayResp (t : Ns) (port : Port) (ingress : Ns) (msg : PtpMsg) (s : State) : Res :=
  let acc := (s.timeBegin t).ptpAccept port msg true
  let s : State := acc.1
  if !acc.2 then .next s
  else match (s.pdelay port).pending with
    | none => .next s
    | some (seq, t1) =>
      let x : Rat := (((ingress : Int) - t1 : Int) - msg.correction) / 2
      if seq != msg.seq || decide (x < 0) then .next s
      else .next (s.updPdelay port fun d => { d with
        meas := (x :: d.meas).take 8, invalid := false, lastValid := some s.clock, pending := none,
        received := satAdd 32 d.received 1 })

/-- PDELAY_INVALID (R396). -/
def execPdelayInvalid (t : Ns) (port : Port) (s : State) : Res :=
  let s := s.timeBegin t
  match (s.pdelay port).lastValid with
  | some l =>
    if s.due .tim l (3 * s.time.cfg.pdelayNs) ≤ s.clock then .next (s.updPdelay port fun d => { d with invalid := true, meas := [] })
    else .next s
  | none => .next (s.updPdelay port fun d => { d with invalid := true })

/-! ### Ship time (R399 to R403) -/

/-- The step of ship time: `off` is ship time less ring time from now on (R399, R400, R410). -/
def State.stepShip (off : Int) (s : State) : State :=
  (s.updTime fun v => { v with shipOff := off, ship := .set, latch := true, shipStepAt := s.now }).record .tim .shipStep
    [s.now + off, s.now]

def stValue (o : Bytes) : Nat := rd o 0 8
def stAt (o : Bytes) : Nat := rd o 8 8
def stPps (o : Bytes) : Bool := rdBits o 16 0 0 == 1

/-- Fields of SHIP_TIME_SET at acceptance (R400). -/
def State.shipSetOk (s : State) (o : Bytes) : Bool :=
  o.length == 24 && rdBits o 16 7 1 == 0 && zeroAt o 17 7 &&
    (if stPps o then stAt o == 0 else decide (((stAt o : Int) - s.now).natAbs ≤ 2000000000))

/-- Why SHIP_TIME_SET is refused before its fields are looked at, if it is: role, lead and step latch (R400, R426 step 3). -/
def State.shipSetPolicy (s : State) (org : Origin) : Option Outcome :=
  firstOf [s.policy org opShipTimeSet, fails s.timeSlave (.policy stPolicyRole), fails s.time.latch (.policy stStepLatched)]

/-- A refused SHIP_TIME_SET is recorded (R410). -/
def State.recordShipRefusal (o : Outcome) (s : State) : State := s.record .tim .shipRefused [o.disp.toNat, o.status.toNat]

/-- SHIP_TIME_SET past its policy (R400). -/
def State.takeShipSet (org : Origin) (obj : Bytes) (s : State) : State :=
  if s.time.ppsWait.isSome then (s.recordShipRefusal .busy).complete org .busy
  else if stPps obj then s.updTime fun v => { v with ppsWait := some { org := org, value := stValue obj, at_ := s.clock } }
  else (s.stepShip ((stValue obj : Int) - stAt obj)).complete org .done

/-- SHIP_TIME_SET (R400, R401, R410, R426): each refusal is recorded. -/
def execShipTimeSet (t : Ns) (org : Origin) (obj : Bytes) (s : State) : Res :=
  let s := s.timeBegin t
  let refusal := if obj.length = 24 && !s.waitsBarrier org then s.shipSetPolicy org else none
  match refusal with
  | some o => answer org o (s.recordShipRefusal o)
  | none => serve org opShipTimeSet [.tim] (badField (obj.length != 24)) (badField (!s.shipSetOk obj)) (State.takeShipSet org obj) s

/-- The edge's ring time goes to the partner with the lead's next BARRIER (R401). -/
def State.forwardEdge (value : Nat) (edge : Option Int) (s : State) : State :=
  if s.inStep then s.updTime fun v => { v with ppsEdges := v.ppsEdges ++ [((value : Int), edge)] } else s

/-- Whether a step of this member's own that waits for an edge has waited over 1.5 s (R400). -/
def State.ppsLate (w : PpsWait) (s : State) : Bool := !isPartner w.org && decide (s.due .tim w.at_ 1500000000 < s.clock)

/-- The waiting step ends without an edge (R400, R401). -/
def State.missPps (w : PpsWait) (s : State) : State :=
  ((s.updTime fun v => { v with ppsWait := none }).forwardEdge w.value none).complete w.org (.error stPpsMissing)

/-- PPS_IN (R400, R401, R404): the edge is stamped and kept; a waiting step that is this member's own is taken at it, unless
the edge comes too late for it. -/
def execPpsIn (t : Ns) (s : State) : Res :=
  let s := s.timeBegin t
  if !s.up .tim then .next s else
  let s := match s.time.ppsWait with
    | none => s
    | some w =>
      if isPartner w.org then s
      else if s.ppsLate w then s.missPps w
      else ((s.updTime fun v => { v with ppsWait := none }).stepShip ((w.value : Int) - s.now)).forwardEdge w.value (some s.now)
        |>.complete w.org .done
  let ship := if s.time.ship = .set then some s.shipNow else none
  .next (s.updTime fun v => { v with ppsIn := ((s.now, ship) :: v.ppsIn).take 8 })

/-- PPS_MISSING (R400, R401). -/
def execPpsMissing (t : Ns) (s : State) : Res :=
  let s := s.timeBegin t
  match s.time.ppsWait with
  | none => .next s
  | some w => .next (if s.ppsLate w then s.missPps w else s)

/-- The lead's edge, or its outcome without one, at the shadow (R401). -/
def State.partnerEdge (e : Nat × Option Int) (s : State) : State :=
  match s.time.ppsWait with
  | none => s
  | some w =>
    if !isPartner w.org then s
    else
      let s := s.updTime fun v => { v with ppsWait := none }
      match e.2 with
      | some edge => (s.stepShip ((w.value : Int) - edge)).complete w.org .done
      | none => s.complete w.org (.error stPpsMissing)

def slOffset (o : Bytes) : Int := rdS o 0 8
def slRate (o : Bytes) : Nat := rd o 8 4

/-- Fields of SHIP_TIME_SLEW (R403). -/
def slewOk (o : Bytes) : Bool :=
  o.length == 16 && decide ((slOffset o).natAbs ≤ 3600000000000) && decide (1 ≤ slRate o) && decide (slRate o ≤ 500000) && zeroAt o 12 4

/-- What a running slew has added by now (R403). -/
def Slew.added (clock : Ns) (w : Slew) : Int :=
  let done : Int := ((clock - w.start : Nat) : Int) * w.rate / 1000000000
  if 0 ≤ w.offset then min w.offset done else max w.offset (-done)

/-- A slew ends with the part already added, and its end is recorded (R403, R410). -/
def State.stopSlew (w : Slew) (part : Int) (o : Outcome) (s : State) : State :=
  ((s.updTime fun v => { v with slew := none, shipOff := v.shipOff + part, slewLast := (w.offset, part, w.rate) }).record .tim
    .slewEnd [w.offset, part, w.rate]).complete w.org o

/-- SHIP_TIME_SLEW (R403; the order of its checks is DEDUCED, log 116). -/
def execShipTimeSlew (t : Ns) (org : Origin) (obj : Bytes) (s : State) : Res :=
  let s := s.timeBegin t
  serve org opShipTimeSlew [.tim] (badField (!slewOk obj)) (fails (s.timeSlave || s.time.ship != .set) (.policy stNotSet))
    (fun s =>
      let s := match s.time.slew with
        | some w =>
          let part := w.added s.clock
          s.stopSlew w part (.superseded (wrS 8 part))
        | none => s
      (s.updTime fun v => { v with slew := some { org := org, offset := slOffset obj, rate := slRate obj, start := s.clock } }).record
        .tim .slewStart [slOffset obj, slRate obj]) s

/-- SLEW_END (R403). -/
def execSlewEnd (t : Ns) (s : State) : Res :=
  let s := s.timeBegin t
  match s.time.slew with
  | none => .next s
  | some w => if w.added s.clock = w.offset then .next (s.stopSlew w w.offset .done) else .next s

/-! ### PPS_OUT and the copy in AON (R399, R405) -/

/-- Whether an instant lies within 10 ns of a whole second (R405). -/
def nearSecond (x : Int) : Bool := decide (x % 1000000000 ≤ 10) || decide (999999990 ≤ x % 1000000000)

/-- PPS_OUT (R405): the rising edge of a second of the chosen base; the pulse lasts PPS_WIDTH. -/
def execPpsOut (t : Ns) (s : State) : Res :=
  let s := s.timeBegin t
  let v := s.time
  let x : Option Int := match v.cfg.ppsSrc with
    | 1 => some s.now
    | 2 => if v.ship = .set then some s.shipNow else none
    | _ => none
  match x with
  | none => .next s
  | some x =>
    let second := (x + 10) / 1000000000
    if !s.up .tim || !nearSecond x || v.ppsOutLast = some second then .next s
    else .next ((s.updTime fun v => { v with
      ppsOutHigh := true, ppsOutUntil := s.clock + v.cfg.ppsWidth * 1000000, ppsOutLast := some second }).emit (.pin "PPS_OUT" true))

/-- AON_SHIP_TIME_COPY (R399). -/
def execAonShipTimeCopy (t : Ns) (s : State) : Res :=
  let s := s.timeBegin t
  let due := match s.time.aonShip with | some (_, a) => decide (a + 1000000000 ≤ s.clock) | none => true
  if !s.up .tim || !s.up .aon || !s.mod.powered || s.time.ship == .unset || !due then .next s
  else .next (s.updTime fun v => { v with aonShip := some (s.shipNow, s.clock) })

end Sys2Proof.Machine
end

