-- ==== Sys2Proof/Machine/Pair.lean ====
section
/-! DEFINITION. Redundant pairs and referees: configuration, commands, grants, barriers, comparison, drills and reversion (R358
to R381, R384 to R389). -/

namespace Sys2Proof.Machine

/-! ### Peers (R372, R388) -/

def State.peerSt (s : State) : Peer → PeerSt
  | .partner => s.pair.partner | .ref1 => s.pair.ref1 | .ref2 => s.pair.ref2

def State.updPeer (p : Peer) (f : PeerSt → PeerSt) (s : State) : State :=
  s.updPair fun v =>
    match p with
    | .partner => { v with partner := f v.partner }
    | .ref1 => { v with ref1 := f v.ref1 }
    | .ref2 => { v with ref2 := f v.ref2 }

def Peer.num : Peer → Nat
  | .partner => 0 | .ref1 => 1 | .ref2 => 2

/-- Whether a referee is heard. -/
def State.refHeard (s : State) : Bool := !s.pair.ref1.lost || !s.pair.ref2.lost

/-- Node addresses of the referees heard. -/
def State.refsHeard (s : State) : List Nat :=
  match s.pair.cfg with
  | none => []
  | some o => (if s.pair.ref1.lost then [] else [pcRef1 o]) ++ if s.pair.ref2.lost then [] else [pcRef2 o]

/-- NO_REFEREE follows the referees heard: its record where it sets, its event at each change (R376, R377, R387, R389, R440). -/
def State.settleReferee (s : State) : State :=
  let gone := s.isPair && s.pair.cfg.isSome && !s.refHeard
  if gone = s.pair.noReferee then s
  else
    let s := s.updPair fun p => { p with noReferee := gone }
    let s := if gone then s.record .rng .noReferee [] else s
    (s.postEvent 0x0004 0 (wr 4 (b2n gone))).settleHealth

/-- The highest term this member has heard (R375). -/
def State.termHeard (s : State) : Nat :=
  [s.pair.term.toNat, (s.pair.pendingLead.map fun c => c.term.toNat).getD 0, s.pair.partner.term.toNat, s.pair.ref1.term.toNat,
    s.pair.ref2.term.toNat].foldl max 0

/-- The PARTNER domain is ON while the partner is heard and is JOINING, SHADOW or LEAD (R450). -/
def State.settlePartner (s : State) : State :=
  let p := s.pair.partner
  s.setDomain .partner (if !p.lost && (p.state == 1 || p.state == 2 || p.state == 3) then .on else .off)

/-! ### PAIR_CONFIG (R359, R360) -/

/-- Fields of PAIR_CONFIG (R359). -/
def pairOk (o : Bytes) : Bool :=
  o.length == 32 && nodeOk (pcAddr o) && nodeOk (pcNodeA o) && nodeOk (pcNodeB o) && nodeOk (pcRef1 o) &&
    (pcRef2 o == 0 || nodeOk (pcRef2 o)) && !([pcNodeA o, pcNodeB o, pcRef1 o, pcRef2 o].contains (pcAddr o)) &&
    decide (1 ≤ pcPeriod o) && decide (pcPeriod o ≤ 100) && decide (3 ≤ pcMiss o) && decide (pcMiss o ≤ 10) &&
    decide (10 ≤ pcHoldoff o) && decide (pcHoldoff o ≤ 3600) && decide (pcDrill o ≤ 8760) && rdBits o 16 7 1 == 0 && zeroAt o 17 15

/-- The node address PAIR_CONFIG gives this member's strap position (R358). -/
def State.strapNode (s : State) (o : Bytes) : Nat := if s.role = some .pairA then pcNodeA o else pcNodeB o

/-- The clock time of the next swap drill (R381). -/
def State.drillAt (s : State) (o : Bytes) (since : Ns) : Option Ns :=
  if pcDrill o = 0 || s.pair.state != .lead then none else some (since + pcDrill o * 3600000000000)

/-- A member's PAIR_CONFIG comes into force (R358, R360). -/
def State.pairInForce (o : Bytes) (s : State) : State :=
  let wrong := s.node != s.strapNode o
  let next := s.drillAt o s.pair.changedAt
  (s.updPair fun p => { p with cfg := some o, cfgMismatch := wrong, drillNext := next, cfgAt := s.clock, crcDiffAt := none }).storeObject
    (BitVec.ofNat 16 opPairConfig) 0 (some o)

/-- A pair a referee holds with its configuration: a pair already held keeps its term and peers (R360, R361). -/
def State.holdPair (o : Bytes) (s : State) : State :=
  let stored := ((s.mod.refTerms.find? fun e => e.1 == pcAddr o).map Prod.snd).getD 0
  let known := s.pair.held.any fun r => pcAddr r.cfg == pcAddr o
  let s := s.updPair fun p => { p with
    held := if known then p.held.map fun r => if pcAddr r.cfg == pcAddr o then { r with cfg := o } else r
      else p.held ++ [{ cfg := o, term := stored }] }
  s.storeObject (BitVec.ofNat 16 opPairConfig) (pcAddr o) (some o)

/-- Whether an object moves a formed pair's addresses (R360). -/
def State.movesPair (s : State) (o : Bytes) : Bool :=
  s.computes && s.pair.cfg.any fun c => pcAddr c != pcAddr o || pcNodeA c != pcNodeA o || pcNodeB c != pcNodeB o

/-- PAIR_CONFIG (R358 to R360). -/
def execPairConfig (t : Ns) (org : Origin) (obj : Bytes) (s : State) : Res :=
  let s := s.begin t
  let referee := s.role == some .referee
  let inst := if referee then pcAddr obj else 0
  serve org opPairConfig [.rng] (badField (obj.length != 32))
    (firstOf [fails (!s.isPair && !referee) (.policy stPolicyRole),
      badField (!pairOk obj || s.ring.stations.any fun x => stNode x.obj == pcAddr obj),
      fails (s.isPair && s.movesPair obj) (.error stWrongState),
      fails (referee && decide (8 ≤ (s.pair.held.filter fun r => pcAddr r.cfg != pcAddr obj).length)) .capacity,
      fails (s.storeOverflow (BitVec.ofNat 16 opPairConfig) inst obj) .capacity])
    (fun s => (if referee then s.holdPair obj else s.pairInForce obj).complete org .done) s

/-! ### PAIR_COMMAND (R384 to R386) -/

/-- Format of a PAIR_COMMAND of this COMMAND (R384). -/
def pairFormat (command : Nat) (o : Bytes) : Option Outcome := badField (o.length != 16 || rd o 0 1 != command || !zeroAt o 1 15)

/-- Checks a planned hand-over shares (R384). -/
def State.handoverCheck (s : State) : Option Outcome :=
  firstOf [fails (!s.isPair) (.policy stPolicyRole), fails s.pair.handover.isSome .busy,
    fails (!s.shadowThere) (.error stWrongState), fails (!s.refHeard) (.error stNoReferee)]

/-- HANDOVER (R384, R385). -/
def execHandover (t : Ns) (org : Origin) (obj : Bytes) (s : State) : Res :=
  let s := s.begin t
  serve org opPairCommand [.rng] (pairFormat 1 obj) s.handoverCheck (State.startHandover org rsHandover) s

/-- DRILL (R381, R384, R385). -/
def execDrill (t : Ns) (org : Origin) (obj : Bytes) (s : State) : Res :=
  let s := s.begin t
  serve org opPairCommand [.rng] (pairFormat 2 obj) s.handoverCheck (State.startHandover org rsDrill) s

/-- RELEASE_SHADOW (R380, R384): forwarded at the barrier, it takes the member that is the shadow OUT; the lead's descriptor
completes once its partner reports OUT or is lost (R378). -/
def execReleaseShadow (t : Ns) (org : Origin) (obj : Bytes) (s : State) : Res :=
  let s := s.begin t
  serve org opPairCommand [.rng] (pairFormat 3 obj)
    (firstOf [fails (!s.isPair) (.policy stPolicyRole), fails s.pair.handover.isSome .busy,
      fails (s.pair.state == .lead && !s.shadowThere) (.error stWrongState)])
    (fun s => (if s.pair.state == .shadow then s.setMember .out 8 else s).complete org .done) s

/-- CLEAR_REVERT_LIMIT (R384, R386). -/
def execClearRevertLimit (t : Ns) (org : Origin) (obj : Bytes) (s : State) : Res :=
  let s := s.begin t
  serve org opPairCommand [.rng] (pairFormat 4 obj) (fails (!s.isPair) (.policy stPolicyRole))
    (fun s => (s.updPair fun p => { p with revertLimit := false }).complete org .done) s

/-! ### Grants: messages (R373) -/

def gPair (f : Bytes) : Nat := rd (fPayload f) 0 2
def gNode (f : Bytes) : Nat := rd (fPayload f) 2 2
def gTerm (f : Bytes) : BitVec 32 := BitVec.ofNat 32 (rd (fPayload f) 4 4)
def gKh (f : Bytes) : Nat := rd (fPayload f) 8 4
def gReason (f : Bytes) : BitVec 8 := BitVec.ofNat 8 (rd (fPayload f) 12 1)

/-- DENY reasons (R373). -/
def dnLeadAlive : BitVec 8 := 0x10
def dnOtherReferee : BitVec 8 := 0x11
def dnNotMember : BitVec 8 := 0x12
def dnStaleTerm : BitVec 8 := 0x13
def dnFormWait : BitVec 8 := 0x14

/-- Whether a frame is a good PAIR frame of a subtype. -/
def pairFrame (sub : Nat) (f : Bytes) : Bool := fClass f == clsPair && fSubtype f == sub && pcrcGood f && decide (13 ≤ fLength f)

/-- The bus cycle that 32 bits name: the next one for 0 or for one already past (R373, R407). -/
def State.fullBus (s : State) (k : Nat) : Nat :=
  let next := s.ring.busCycle + 1
  if k = 0 then next
  else max next ((s.ring.busCycle : Int) + signed 32 (((k : Int) - s.ring.busCycle) % 4294967296).toNat).toNat

/-! ### The referee (R372 to R374, R385, R389) -/

/-- Updates one pair a referee holds. -/
def State.updHeld (i : Nat) (f : RefPair → RefPair) (s : State) : State :=
  s.updPair fun p => { p with held := p.held.mapIdx fun j r => if j = i then f r else r }

/-- The highest term a referee knows: t of R374. -/
def RefPair.top (r : RefPair) : BitVec 32 := if r.term.toNat < r.highestHeard.toNat then r.highestHeard else r.term

/-- Whether a referee has lost a member: no heartbeat within the loss time (R372). -/
def RefPair.lost (r : RefPair) (clock : Ns) (node : Nat) : Bool :=
  let past (x : Option Ns) : Bool := match x with | some l => decide (l + pcLoss r.cfg ≤ clock) | none => true
  if node = pcNodeA r.cfg then r.lostA || past r.lastA
  else if node = pcNodeB r.cfg then r.lostB || past r.lastB
  else true

/-- The lead's deadline, none without a lead that is heard (R374). -/
def RefPair.leadDeadline (r : RefPair) : Option Ns :=
  let of (lost : Bool) (x : Option Ns) : Option Ns := if lost then none else x.map (· + pcLoss r.cfg)
  if r.leadNode = 0 then none
  else if r.leadNode = pcNodeA r.cfg then of r.lostA r.lastA
  else if r.leadNode = pcNodeB r.cfg then of r.lostB r.lastB
  else none

/-- LEAD_SEEN (R372). -/
def RefPair.leadSeen (r : RefPair) (clock : Ns) : Bool := r.leadNode != 0 && !r.lost clock r.leadNode

/-- Whether the other referee is heard and sees a lead (R374). -/
def RefPair.otherSees (r : RefPair) (clock : Ns) : Bool :=
  pcRef2 r.cfg != 0 && !r.lostRef && r.refLeadSeen && (match r.lastRef with | some l => decide (clock < l + pcLoss r.cfg) | none => false)

/-- A DENY leaves, with its record (R374, R389). -/
def State.sendDeny (i : Nat) (node : Nat) (reason : BitVec 8) (s : State) : State :=
  match s.pair.held[i]? with
  | none => s
  | some r =>
    let s := (s.updHeld i fun r => { r with denies := r.denies + 1 }).record .rng .deny [node, r.top.toNat, reason.toNat]
    s.originate false clsPair 4 node (grantPayload (pcAddr r.cfg) node r.top 0 reason) ringPorts

/-- A grant: the term above goes to MRAM before the GRANT leaves (R361, R374, R389). -/
def State.sendGrant (i : Nat) (node kh : Nat) (reason : BitVec 8) (dests : List Nat) (s : State) : State :=
  match s.pair.held[i]? with
  | none => s
  | some r =>
    let term := r.top + 1
    let epoch := if reason = rsFormation then r.epoch + 1 else r.epoch
    let s := s.updMod fun m => { m with
      refTerms := (pcAddr r.cfg, term) :: m.refTerms.filter fun e => e.1 != pcAddr r.cfg }
    let s := (s.updHeld i fun r => { r with term := term, leadNode := node, epoch := epoch, grants := r.grants + 1 }).record .rng
      .grant [term.toNat, reason.toNat, kh]
    dests.foldl (fun s d => s.originate false clsPair 3 d (grantPayload (pcAddr r.cfg) node term kh reason) ringPorts) s

/-- The index of the pair a frame names, at a referee. -/
def State.heldIndex (s : State) (f : Bytes) : Option Nat :=
  if s.role != some .referee then none else s.pair.held.findIdx? fun r => pcAddr r.cfg == gPair f

/-- Member B's first request for formation (R374). -/
def RefPair.noteB (clock : Ns) (node : Nat) (r : RefPair) : RefPair :=
  if node = pcNodeB r.cfg then { r with firstB := r.firstB.orElse fun _ => some clock } else r

/-- GRANT_REQUEST (R374): a referee denies it, or holds it until the lead's deadline. -/
def execGrantRequest (t : Ns) (ingress : Ns) (bytes : Bytes) (s : State) : Res :=
  let s := s.begin t
  if !s.up .rng || !pairFrame 2 bytes || decide (s.clock < ingress) || fDest bytes ≠ s.node then .next s
  else match s.heldIndex bytes with
    | none => .next s
    | some i =>
      match s.pair.held[i]? with
      | none => .next s
      | some r =>
        let node := gNode bytes
        if node ≠ pcNodeA r.cfg && node ≠ pcNodeB r.cfg then .next (s.sendDeny i node dnNotMember)
        else
          let s := s.updHeld i (RefPair.noteB s.clock node)
          if (gTerm bytes).toNat ≤ r.top.toNat then .next (s.sendDeny i node dnStaleTerm)
          else
            let due := max s.clock (r.leadDeadline.getD s.clock)
            .next (s.updHeld i fun r => { r with
              requests := (r.requests.filter fun q => q.1 ≠ node) ++ [(node, gTerm bytes, gReason bytes, due)] })

/-- The decision on one held request (R374). -/
def State.decideGrant (i : Nat) (s : State) (q : Nat × BitVec 32 × BitVec 8 × Ns) : State :=
  match s.pair.held[i]? with
  | none => s
  | some r =>
    let node := q.1
    let reason := q.2.2.1
    if q.2.1.toNat ≤ r.top.toNat then s.sendDeny i node dnStaleTerm
    else if r.leadSeen s.clock then s.sendDeny i node dnLeadAlive
    else if r.otherSees s.clock then s.sendDeny i node dnOtherReferee
    else if reason = rsFormation && node = pcNodeB r.cfg && !r.lost s.clock (pcNodeA r.cfg) && !r.formPassed then
      s.sendDeny i node dnFormWait
    else s.sendGrant i node 0 reason [node]

/-- REFEREE_GRANT_DECISION (R374): at the lead's deadline a referee decides on the requests it holds. -/
def execRefereeGrantDecision (t : Ns) (pair : Fin 8) (s : State) : Res :=
  let s := s.begin t
  match s.pair.held[pair.val]? with
  | none => .next s
  | some r =>
    if !s.up .rng then .next s
    else
      let due := r.requests.filter fun q => decide (q.2.2.2 ≤ s.clock)
      let s := s.updHeld pair.val fun r => { r with requests := r.requests.filter fun q => !decide (q.2.2.2 ≤ s.clock) }
      .next (due.foldl (State.decideGrant pair.val) s)

/-- FORM_WAIT (R374): 10 s after the referee started or first heard member B's request, whichever is later. -/
def execFormWait (t : Ns) (pair : Fin 8) (s : State) : Res :=
  let s := s.begin t
  match (s.pair.held[pair.val]?).bind RefPair.firstB with
  | none => .next s
  | some b =>
    if max b s.pair.refStart + 10000000000 ≤ s.clock then .next (s.updHeld pair.val fun r => { r with formPassed := true })
    else .next s

/-- RELINQUISH (R385): a referee that hears the named member in SHADOW grants it the term above, with that K_H, and tells both
members. -/
def execRelinquish (t : Ns) (ingress : Ns) (bytes : Bytes) (s : State) : Res :=
  let s := s.begin t
  if !s.up .rng || !pairFrame 5 bytes || decide (s.clock < ingress) || fDest bytes ≠ s.node then .next s
  else match s.heldIndex bytes with
    | none => .next s
    | some i =>
      match s.pair.held[i]? with
      | none => .next s
      | some r =>
        let node := gNode bytes
        let from' := fSource bytes
        if (node ≠ pcNodeA r.cfg && node ≠ pcNodeB r.cfg) || (from' ≠ pcNodeA r.cfg && from' ≠ pcNodeB r.cfg) then
          .next (s.sendDeny i from' dnNotMember)
        else if (gTerm bytes).toNat < r.top.toNat then .next (s.sendDeny i from' dnStaleTerm)
        else
          let shadow := !r.lost s.clock node && (if node = pcNodeA r.cfg then r.stateA else r.stateB) == 2
          .next (if shadow then s.sendGrant i node (gKh bytes) (gReason bytes) [node, from'] else s)

/-! ### Grants at a member (R374, R375, R384, R389) -/

/-- Whether a frame comes from a referee of this member's pair and names the pair. -/
def State.fromReferee (s : State) (f : Bytes) : Bool :=
  s.isPair && s.pair.cfg.any fun o => gPair f == pcAddr o && (fSource f == pcRef1 o || (pcRef2 o != 0 && fSource f == pcRef2 o))

/-- A request for the term above the own goes to every referee heard (R374, R377). -/
def State.requestLead (reason : BitVec 8) (s : State) : State :=
  s.refsHeard.foldl (fun s n =>
    s.originate false clsPair 2 n (grantPayload s.pairAddr s.node (s.pair.term + 1) 0 reason) ringPorts) s

/-- GRANT (R375, R385): only a term above every one heard counts. -/
def execGrant (t : Ns) (ingress : Ns) (bytes : Bytes) (s : State) : Res :=
  let s := s.begin t
  let term := gTerm bytes
  if !s.up .rng || !pairFrame 3 bytes || decide (s.clock < ingress) || fDest bytes ≠ s.node || !s.fromReferee bytes ||
      decide (term.toNat ≤ s.termHeard) then .next s
  else
    let kh := s.fullBus (gKh bytes)
    let own := gNode bytes == s.node
    let takes := s.pair.state == .unformed || s.pair.state == .shadow || s.pair.state == .lead
    if own && !takes then .next s
    else
      let s := s.record .rng .grant [term.toNat, (gReason bytes).toNat, kh]
      .next (s.planLead { take := own, term := term, leadNode := gNode bytes, kh := kh, reason := gReason bytes })

/-- DENY (R374, R384, R389). -/
def execDeny (t : Ns) (ingress : Ns) (bytes : Bytes) (s : State) : Res :=
  let s := s.begin t
  if !s.up .rng || !pairFrame 4 bytes || decide (s.clock < ingress) || fDest bytes ≠ s.node || !s.fromReferee bytes then .next s
  else
    let s := s.record .rng .deny [gNode bytes, (gTerm bytes).toNat, (gReason bytes).toNat]
    .next (if s.pair.handover.isSome then s.failHandover (.error stHandoverDenied (wr 4 (gReason bytes).toNat)) else s)

/-! ### Barriers (R364 to R370, R378, R401, R462) -/

/-- Host writes that both members have finished complete with the lead's outcome; a differing one raises PAIR_MISMATCH (R378). -/
def State.settleForwards (cycle : Nat) (s : State) : State :=
  s.pair.forwards.foldl (fun s f =>
    match f.org, f.own, f.shadow with
    | .host id, some o, some x =>
      let differs := x != (o.disp, o.status)
      let s := (s.updPair fun p => { p with
        forwards := p.forwards.filter (fun g => g.id ≠ f.id), completedCount := p.completedCount + 1,
        differing := if differs then p.differing + 1 else p.differing }).commitHost id o
      if differs then s.raiseMismatch false 0 cycle else s
    | _, _, _ => s) s

/-- The lead answers REVERT_REQ with a planned hand-over (R386). -/
def State.answerRevert (m : BarrierMsg) (s : State) : State :=
  if m.revertReq && s.pair.state == .lead && s.pair.handover.isNone && s.shadowThere && s.refHeard && !s.pair.revertLimit then
    s.startHandover .self rsRevert
  else s

/-- What a BARRIER brings besides its images: mailbox events, writes, outcomes, the PPS edge, a halt, ARMED (R177, R366, R378,
R401, R462). -/
def State.takeBarrier (m : BarrierMsg) (s : State) : State :=
  let s := s.updPair fun p => { p with barrier := { p.barrier with partner := some (m.cycle, m.stamp), partnerMsg := some m } }
  let s := m.mailbox.foldl (fun s e => s.partnerEvent e) s
  let new := m.writes.map fun w => ({ id := w.id, org := .partner w.id, desc := w.desc, obj := w.obj, sent := true } : Forward)
  let report (f : Forward) : Forward :=
    match m.outcomes.find? fun x => x.1 = f.id && !isPartner f.org with
    | some (_, d, st) => { f with shadow := some (d, st) }
    | none => f
  let s := s.updPair fun p => { p with forwards := p.forwards.map report ++ new }
  let s := s.settleForwards m.cycle
  let s := match m.pps with | some e => s.partnerEdge e | none => s
  let s := if m.armed then s.updXch fun x => { x with switch := x.switch.map fun w =>
      if w.phase = .armed then { w with partnerArmed := true } else w } else s
  let s := s.answerRevert m
  match m.halted with
  | some c => if HaltCause.ofNum c = .ecc then s else s.haltProgram (HaltCause.ofNum c) 0 0 0
  | none => s

/-- BARRIER (R364 to R366): with the own BARRIER of the cycle sent, the barrier is met. A member whose program rests while the
partner's cycles answers with its own. -/
def execBarrier (t : Ns) (msg : BarrierMsg) (s : State) : Res :=
  let s := s.begin t
  if !s.up .rng || !s.inStep then .next s
  else
    let s := s.takeBarrier msg
    let s := if !s.cycling && !msg.idle then s.sendBarrier true else s
    .next s.meetBarrier

/-- OUT_DONE (R367). -/
def execOutDone (t : Ns) (cycle : Nat) (stamp : Int) (s : State) : Res :=
  let s := s.begin t
  if !s.inStep then .next s
  else .next (s.updPair fun p => { p with barrier := { p.barrier with partnerDone := some (cycle, stamp) } })

/-- The lead's image of a bus cycle takes the place of the own (R364 step 5, R365). -/
def Station.fixImage (newest bus : Nat) (words : List Word) (x : Station) : Station :=
  if bus = newest then { x with front := { x.front with words := words } } else { x with prevFront := { x.prevFront with words := words } }

/-- IMAGE_FIX (R364 step 5, R365): with the last station's image the shadow passes the barrier. -/
def execImageFix (t : Ns) (images : List (Nat × Nat × List Word)) (s : State) : Res :=
  let s := s.begin t
  if s.pair.state != .shadow || !s.inStep || s.pair.barrier.fixWait.isEmpty then .next s
  else
    let newest := s.newestBus
    let s := images.foldl (fun s (i, bus, words) => s.updStation i (Station.fixImage newest bus words)) s
    let rest := s.pair.barrier.fixWait.filter fun i => !images.any fun x => x.1 == i
    .next (s.updPair fun p => { p with barrier := { p.barrier with fixWait := rest, passed := rest.isEmpty || p.barrier.passed } })

/-- DIGEST (R370): the windows of both members are compared. -/
def execDigest (t : Ns) (bus : Nat) (crc : BitVec 32) (s : State) : Res :=
  let s := s.begin t
  if !s.isPair || !s.computes then .next s
  else match s.pair.ownDigests.find? fun d => d.1 == bus with
    | none => .next s
    | some (_, own) =>
      let equal := own == crc
      let run := if equal then 0 else s.pair.mismatchRun + 1
      let s := s.updPair fun p => { p with
        digestsCompared := p.digestsCompared + 1, digestMismatches := if equal then p.digestMismatches else p.digestMismatches + 1,
        mismatchRun := run }
      .next (if equal then s else s.raiseMismatch true run bus)

/-- RECORD (R379): the lead stores its shadow's record under its own SEQ, marked as the partner's; without room it is discarded
and counted (R31). -/
def execRecord (t : Ns) (rec : PartnerRec) (s : State) : Res :=
  let s := s.begin t
  let r := rec
  if s.pair.state != .lead || !s.isPair then .next s
  else
    let len := recLength r.kind r.items
    if s.recorder.room r.source len then
      let e : RecEntry :=
        { seq := s.recorder.nextSeq, source := r.source, kind := r.kind, items := r.items, opSeconds := r.opSeconds,
          powerCycles := r.powerCycles, shipTime := r.shipTime, length := len, fromPartner := true }
      .next (s.updRec fun q => { q with intake := q.intake ++ [e], nextSeq := q.nextSeq + 1 })
    else
      .next (s.updRec fun q => { q with
        dropped := q.dropped.set r.source.idx (q.dropped[r.source.idx] + 1),
        droppedTotal := q.droppedTotal.set r.source.idx (q.droppedTotal[r.source.idx] + 1) })

/-! ### Drills and reversion (R381, R386) -/

/-- Whether a span has passed since an instant, if there was one. -/
def spanPassed (clock : Ns) (x : Option Ns) (d : Ns) : Bool := match x with | some l => decide (l + d ≤ clock) | none => true

/-- SWAP_DRILL (R381): performed where the shadow has been in SHADOW without PAIR_MISMATCH for HOLDOFF, else put off by 1 h. -/
def execSwapDrill (t : Ns) (s : State) : Res :=
  let s := s.begin t
  match s.pair.drillNext, s.pair.cfg with
  | some d, some o =>
    if s.pair.state != .lead || !s.isPair || !s.up .rng || s.clock < d then .next s
    else
      let hold := pcHoldoff o * 1000000000
      let clean := s.shadowThere && decide (s.pair.partner.since + hold ≤ s.clock) && spanPassed s.clock s.pair.lastMismatchAt hold
      if clean && s.refHeard && s.pair.handover.isNone then
        let s := s.updPair fun p => { p with drillNext := some (s.clock + pcDrill o * 3600000000000) }
        .next (s.startHandover .self rsDrill)
      else .next (s.updPair fun p => { p with drillNext := some (d + 3600000000000) })
  | _, _ => .next s

/-- REVERT_REQ (R386): member A in SHADOW for HOLDOFF without PAIR_MISMATCH and without losing its partner; one whose SAF is in
ISLAND_FAULT stays SHADOW (R381). -/
def execRevertReq (t : Ns) (s : State) : Res :=
  let s := s.begin t
  match s.pair.holdoffFrom, s.pair.cfg with
  | some h, some o =>
    if s.role == some .pairA && s.pair.state == .shadow && pcRevert o && !s.pair.revertLimit && s.saf.fault.isNone &&
        decide (h + pcHoldoff o * 1000000000 ≤ s.clock) then
      .next (s.updPair fun p => { p with revertReq := true })
    else .next s
  | _, _ => .next s

end Sys2Proof.Machine
end

