-- ==== Sys2Proof/Machine/Transfer.lean ====
section
/-! DEFINITION. The state transfer to a joining member, on the lead's side (R382). -/

namespace Sys2Proof.Machine

/-! ### Instants and origins change with the module they belong to -/

/-- An instant of one clock in another. -/
def shiftNs (d : Int) (x : Ns) : Ns := ((x : Int) + d).toNat
def shiftOpt (d : Int) (x : Option Ns) : Option Ns := x.map (shiftNs d)

/-- What the lead's host asked for runs on the other member for nobody. -/
def orgSelf (_ : Origin) : Origin := .self

def Loop.shift (d : Int) (l : Loop) : Loop :=
  let writes := l.writes.map fun w => { w with stamp := shiftNs d w.stamp, org := none }
  { l with lastStart := shiftOpt d l.lastStart, lastEnd := shiftNs d l.lastEnd, writes := writes,
           pending := l.pending.map fun x => (.self, x.2) }

def Override.shift (d : Int) (v : Override) : Override := { v with lastStart := shiftOpt d v.lastStart }

/-- 25 ns units of the clock (R259). -/
def shiftFine (d : Int) (x : Int) : Int := x + d / 25

def Axis.shift (d : Int) (a : Axis) : Axis :=
  let st := a.step
  let st := { st with debtSince := shiftOpt d st.debtSince, lastFall := shiftFine d st.lastFall, notBefore := shiftFine d st.notBefore,
                      dirEdge := st.dirEdge.map (shiftFine d), msEdge := st.msEdge.map (shiftFine d) }
  let plan := { a.plan with start := a.plan.start + d }
  let run := a.run.map fun r => { r with start := r.start + d }
  let cmds := a.cmds.map fun c => { c with stamp := shiftNs d c.stamp, org := none }
  { a with step := st, plan := plan, run := run, cmds := cmds, reverseEnd := a.reverseEnd + d,
           pendCfg := a.pendCfg.map fun x => (.self, x.2) }

def Station.shift (d : Int) (x : Station) : Station :=
  let out := x.outPending.map fun p => (shiftNs d p.1, p.2)
  { x with changedAt := shiftNs d x.changedAt, lastIngress := shiftOpt d x.lastIngress, outPending := out,
           pending := x.pending.map fun p => (.self, p.2) }

def TunnelOut.shift (d : Int) (x : TunnelOut) : TunnelOut :=
  { x with org := orgSelf x.org, lastSent := shiftNs d x.lastSent, lastIngress := shiftNs d x.lastIngress }

def SafFn.shift (d : Int) (f : SafFn) : SafFn :=
  { f with offSince := shiftOpt d f.offSince, fbSince := shiftOpt d f.fbSince }

def SafConn.shift (d : Int) (c : SafConn) : SafConn :=
  { c with candIngress := shiftNs d c.candIngress, lastIngress := shiftOpt d c.lastIngress, prodAt := shiftOpt d c.prodAt }

def Program.shift (d : Int) (p : Program) : Program :=
  let events := p.events.map fun k => { k with active := k.active.map fun x => (x.1, shiftNs d x.2) }
  let writes := p.varWrites.map fun w => { w with org := orgSelf w.org }
  { p with
    cycleBegin := shiftNs d p.cycleBegin, lastEnd := shiftNs d p.lastEnd, startBegin := shiftNs d p.startBegin,
    firstOverrun := shiftOpt d p.firstOverrun, lastSaveAt := shiftNs d p.lastSaveAt, events := events, varWrites := writes,
    control := p.control.map fun c => (.self, c.2), paramPending := p.paramPending.map fun c => (.self, c.2) }

/-- The engines with every instant moved. -/
def EngineCopy.shift (d : Int) (c : EngineCopy) : EngineCopy :=
  { c with
    loops := Vector.ofFn fun (i : Fin 64) => (c.loops[i]).shift d,
    overs := Vector.ofFn fun (i : Fin 8) => (c.overs[i]).shift d,
    axes := Vector.ofFn fun (i : Fin 16) => (c.axes[i]).shift d,
    stations := c.stations.map (Station.shift d), tunnels := c.tunnels.map (TunnelOut.shift d) }

/-! ### What the lead sends (R382) -/

/-- The engines, tables, stations, transactions and data of the lead (R382 step 3), in ring time. -/
def State.engineCopy (s : State) : EngineCopy :=
  let c : EngineCopy := { loops := s.loops, overs := s.overs, axes := s.axes, tables := s.tables, stations := s.ring.stations,
                          tunnels := s.ring.tunnelsOut, seq := s.pair.pairSeq, data := s.prg.data }
  c.shift s.time.ringOff

/-- The code of a ship-time state. -/
def ShipState.code : ShipState → BitVec 2
  | .unset => 0 | .provisional => 1 | .set => 2

/-- BUILD of the firmware a module runs (R531). -/
def State.fwBuild (s : State) : BitVec 32 := Image.build s.mod.fw[s.mod.fwRunning].bytes

/-- The registers both members hold alike (R382 step 1). -/
def State.sharedRegs (s : State) : SharedRegs :=
  { groupEn := s.regs.groupEn.vote groupEnFields, etherType := s.regs.etherType, imgKey := s.regs.imgKey,
    keyValid := s.regs.keyValid, bind := Vector.ofFn fun (n : Fin 32) => s.mb.bind[n].vote bindFields }

/-- The configuration store's content for a joiner (R382 step 1). -/
def State.resyncConfig (s : State) : ResyncMsg :=
  .config s.pair.term s.pair.epoch (s.pair.cfg.getD []) (s.mod.inForce.map fun e => (e.opcode, e.inst, e.obj))
    (s.time.ship.code, s.time.shipOff, s.time.latch) s.fwBuild s.sharedRegs

/-- The images of a transfer: the running one, and the other slot where it is VERIFIED (R382 step 2). -/
def State.resyncImages (s : State) : List ResyncMsg :=
  (List.finRange 2).filterMap fun k =>
    let z := s.xch.slots[k]
    if z.state == .running || z.state == .verified then some (.image k (z.state == .running) z.bytes) else none

/-- Pages of data memory written since they were copied (R382 step 3). -/
def State.changedPages (s : State) : List Nat :=
  let a := s.prg.data.mem
  let b := s.pair.sentData
  (((a.filter fun c => !b.contains c) ++ (b.filter fun c => !a.contains c)).map fun c => c.1 / 4096).dedup

/-- A page as its message. -/
def State.pageMsg (s : State) (k : Nat) : ResyncMsg := .page (4096 * k) (Memory.readAll s.prg.data.mem (4096 * k) 4096)

/-- Whether the program is between two cycles with nothing of it in progress. -/
def State.betweenCycles (s : State) : Bool :=
  !s.prg.inMain && !s.prg.longRunning && s.prg.state != .starting && s.prg.state != .switching && s.xch.switch.isNone &&
    s.prg.events.all (fun k => k.active.isNone) && s.prg.toRelease.isEmpty

/-- What a transfer rests on: the running image and the configuration (R382; DEDUCED, log 59). -/
def State.transferKey (s : State) : Bytes × Nat := ((s.prg.running.map Running.imageId).getD [], s.stores[(0 : Fin 2)].changeSeq)

/-- The final step: remaining pages, the engines as they stand, and the program, program clock and safety states; from here the
members run in step (R382 step 4). -/
def State.sendFinal (agree : Bool) (s : State) : State :=
  let d := s.time.ringOff
  let fns : Vector SafFn 48 := Vector.ofFn fun (i : Fin 48) => (s.saf.fns[i]).shift d
  let conns : Vector SafConn 32 := Vector.ofFn fun (i : Fin 32) => (s.saf.conns[i]).shift d
  let s := s.changedPages.foldl (fun s k => s.emit (.resync (s.pageMsg k))) s
  let s := s.emit (.resync (.bulk s.engineCopy))
  let s := s.emit (.resync (.final (s.prg.shift d) (s.time.progOff - d) fns conns s.pair.pairSeq agree))
  let fresh : Barrier := { partnerLive := true, lastWaitUs := s.pair.barrier.lastWaitUs, maxWaitUs := s.pair.barrier.maxWaitUs,
                           events := s.pair.barrier.events, ownCrc := s.pair.barrier.ownCrc }
  s.updPair fun p => { p with barrier := fresh, sending := 4, sentAt := s.clock }

/-- The next step of the transfer to a joining partner (R382). One that has not become SHADOW within the loss time of the final
step starts again; so does a transfer whose image or configuration has changed. -/
def State.sendTransfer (s : State) : State :=
  let step := s.pair.sending
  let stale := step != 0 && s.pair.sentKey != s.transferKey
  let late := step == 4 && decide (s.pair.sentAt + (s.pair.cfg.map pcLoss).getD 0 < s.clock)
  if stale || late then (s.updPair fun p => { p with sending := 0 }).losePartner.releaseForwards
  else if step = 0 then
    (s.updPair fun p => { p with sending := 1, sentKey := s.transferKey, sentAt := s.clock }).emit (.resync s.resyncConfig)
  else if step = 1 then
    (s.resyncImages.foldl (fun s m => s.emit (.resync m)) s).updPair fun p => { p with sending := 2, sentAt := s.clock }
  else if step = 2 then
    (s.emit (.resync (.bulk s.engineCopy))).updPair fun p => { p with sending := 3, sentData := s.prg.data.mem, sentAt := s.clock }
  else if step = 3 then
    let l := s.changedPages
    if 64 < l.length then
      (l.foldl (fun s k => s.emit (.resync (s.pageMsg k))) s).updPair fun p => { p with sentData := s.prg.data.mem, sentAt := s.clock }
    else if s.betweenCycles then s.sendFinal true
    else s
  else s

end Sys2Proof.Machine
end

