-- ==== Sys2Proof/Machine/Heart.lean ====
section
/-! DEFINITION. Heartbeats, the loss and return of members and referees, and the start of a bus cycle (R334, R335, R365, R368,
R369, R372, R375 to R377, R380 to R383, R387). -/

namespace Sys2Proof.Machine

/-! ### Sending (R372) -/

/-- The 32-byte payload of a HEARTBEAT (R372). -/
def heartbeatPayload (addr sender state : Nat) (term : BitVec 32) (lead : Nat) (flags epoch : Nat) (leadStamp : Nat) (cycle : Nat)
    (crc : Nat) : Bytes :=
  wr 2 addr ++ wr 1 sender ++ wr 1 state ++ wr 4 term.toNat ++ wr 2 lead ++ wr 1 flags ++ wr 1 (epoch % 16) ++ wr 4 leadStamp
    ++ wr 8 cycle ++ wr 4 crc ++ [0, 0, 0, 0]

/-- SENDER of a member (R372). -/
def State.senderCode (s : State) : Nat := if s.role = some .pairA then 0 else 1

/-- A member's HEARTBEAT (R372). -/
def State.memberHeartbeat (s : State) (o : Bytes) : Bytes :=
  let p := s.pair
  heartbeatPayload (pcAddr o) s.senderCode p.state.code p.term p.leadNode
    (8 * b2n p.revertLimit + 4 * b2n p.noReferee + b2n (!p.partner.lost)) p.epoch.toNat 0 s.prg.cycleNumber (crc32c o).toNat

/-- A referee's HEARTBEAT for one pair (R372). -/
def State.refereeHeartbeat (s : State) (r : RefPair) : Bytes :=
  heartbeatPayload (pcAddr r.cfg) 2 0 r.top r.leadNode (2 * b2n (r.leadSeen s.clock)) r.epoch.toNat
    (r.lastLeadIngress % 4294967296).toNat 0 (crc32c r.cfg).toNat

/-- Whether ring time stands at a whole multiple of a heartbeat period (R372). -/
def State.beatNow (s : State) (ms : Nat) : Bool := ms != 0 && s.now % ((ms : Int) * 1000000) == 0

/-- The shadow's records not yet sent go to the lead (R379). -/
def State.sendRecords (s : State) : State :=
  let lead := s.pair.state == .shadow && !s.pair.partner.lost && s.pair.partner.state == 3 && (s.port .l).link == .up
  if lead then
    (s.recorder.unsent.foldl (fun s r => s.emit (.partnerRecord r)) s).updRec fun q => { q with unsent := [] }
  else if s.pair.state == .lead then s.updRec fun q => { q with unsent := [] }
  else s

/-- Whether an UNFORMED member asks for formation (R372, R377, R565): it hears neither a lead nor a partner that names one, and
no other PAIR_CONFIG within the loss time. -/
def State.asksFormation (s : State) (o : Bytes) : Bool :=
  let p := s.pair.partner
  s.pair.state == .unformed && s.mod.state == .service && !s.regs.joinInhibit && !s.pair.cfgMismatch && !s.pair.fwMismatch &&
    (p.lost || (p.state != 3 && (p.leadNode == 0 || p.leadNode == s.node))) && s.pair.pendingLead.isNone &&
    (match s.pair.crcDiffAt with | some d => decide (d + pcLoss o < s.clock) | none => true)

/-- The referee settings come into force, and the requests to the referees go out, at a heartbeat period (R374, R376, R377,
R389). -/
def State.beatRequests (o : Bytes) (s : State) : State :=
  let s := if s.pair.cfgAt + pcLoss o ≤ s.clock then s.settleReferee else s
  if s.pair.state == .shadow && s.pair.partner.lost && s.pair.pendingLead.isNone then s.requestLead rsFailover
  else if s.asksFormation o then s.requestLead rsFormation
  else s

/-- A hand-over that is due starts (R379, R381). -/
def State.dueHandover (s : State) : State :=
  match s.pair.handoverDue with
  | some reason =>
    if s.pair.state == .lead && s.pair.handover.isNone && s.shadowThere && s.refHeard then s.startHandover .self reason else s
  | none => s

/-- What a member does at each heartbeat period besides its HEARTBEAT (R374, R376, R377, R379, R381, R389). -/
def State.memberBeat (o : Bytes) (s : State) : State := (s.sendRecords.beatRequests o).dueHandover

/-- A joiner with factory defaults has no address: it shows itself on port L under SOURCE 0, with what it heard of the lead (R383;
DEDUCED, log 59). -/
def State.factoryBeat (s : State) : State :=
  let h := s.pair.leadHb
  if h.isEmpty || s.pair.state != .joining || !s.beatNow 1 then s
  else
    let p := heartbeatPayload (rd h 0 2) s.senderCode 1 0 0 0 0 0 0 (rd h 24 4)
    let f := mkBroluma 0 s.ring.seq clsPair s.ring.epoch.toNat false 1 0xFFFF s.now p
    if (s.port .l).link == .up then (s.takeSeq false).emit (.frame [.l] f) else s

/-- HEARTBEAT_SEND (R372): at each whole multiple of HB_PERIOD of ring time. -/
def execHeartbeatSend (t : Ns) (s : State) : Res :=
  let s := s.begin t
  if !s.up .rng then .next s
  else if s.role == some .referee then
    .next (s.pair.held.foldl (fun s r =>
      if s.beatNow (pcPeriod r.cfg) then s.originate false clsPair 1 0xFFFF (s.refereeHeartbeat r) ringPorts else s) s)
  else if !s.isPair then .next s
  else match s.pair.cfg with
    | none => .next s.factoryBeat
    | some o =>
      if !s.beatNow (pcPeriod o) then .next s
      else .next ((s.originate false clsPair 1 0xFFFF (s.memberHeartbeat o) [.a, .b, .l]).memberBeat o)

/-! ### Hearing (R372, R375, R377, R380, R382, R383, R387) -/

def hbAddr (f : Bytes) : Nat := rd (fPayload f) 0 2
def hbSender (f : Bytes) : Nat := rd (fPayload f) 2 1
def hbState (f : Bytes) : Nat := rd (fPayload f) 3 1
def hbTerm (f : Bytes) : BitVec 32 := BitVec.ofNat 32 (rd (fPayload f) 4 4)
def hbLead (f : Bytes) : Nat := rd (fPayload f) 8 2
def hbFlag (f : Bytes) (i : Nat) : Bool := rdBits (fPayload f) 10 i i == 1
def hbEpoch (f : Bytes) : BitVec 4 := BitVec.ofNat 4 (rdBits (fPayload f) 11 3 0)
def hbCrc (f : Bytes) : Nat := rd (fPayload f) 24 4

/-- Whether the member may join a lead: not with a role in conflict or in factory test mode, which keep it waiting (R2,
R358, R383, R565, R571). -/
def State.canJoin (s : State) : Bool :=
  !s.mod.conflict && !s.mod.testMode && !s.regs.joinInhibit && !s.pair.cfgMismatch && !s.pair.fwMismatch && (s.mod.state == .waitConfirm || s.mod.state == .service)

/-- Joining starts, or starts again (R380, R382, R389). -/
def State.startJoin (cause : Nat) (s : State) : State :=
  let s := s.updPair fun p => { p with
    forwards := [], join := { p.join with step := 0, start := none, bytes := 0, attempts := p.join.attempts + 1 } }
  (s.setMember .joining cause).record .rng .joinStart [s.pair.join.attempts]

/-- A term and the lead under it, as a heartbeat names them (R375). -/
def State.followTerm (referee : Bool) (term : BitVec 32) (lead : Nat) (s : State) : State :=
  let pend := match s.pair.pendingLead with | some c => decide (term.toNat ≤ c.term.toNat) | none => false
  let next := s.ring.busCycle + 1
  if s.pair.term.toNat < term.toNat then
    if pend then s
    else if lead = s.node && lead ≠ 0 then
      if referee && (s.pair.state == .unformed || s.pair.state == .shadow || s.pair.state == .lead) then
        s.planLead { take := true, term := term, leadNode := lead, kh := next,
                     reason := if s.pair.state = .unformed then rsFormation else rsFailover }
      else s
    else if s.pair.state = .lead then
      if lead = 0 then s else s.planLead { take := false, term := term, leadNode := lead, kh := next, reason := 0 }
    else (s.updPair fun p => { p with term := term, leadNode := lead }).storeRegister
  else if term = s.pair.term && s.pair.state = .lead && lead ≠ 0 && lead ≠ s.node && s.role = some .pairB && !pend then
    s.planLead { take := false, term := term, leadNode := lead, kh := next, reason := 0 }
  else s

/-- What the lead does on its partner's state: a transfer to a joining one; one that runs no longer in step is let go; a module
reset of it clears REVERT_LIMIT (R382, R386). -/
def State.leadHears (state : Nat) (s : State) : State :=
  let s := if state = 0 then s.updPair fun p => { p with revertLimit := false } else s
  let joined := s.pair.barrier.partnerLive
  let waits := state = 1 && s.pair.sending = 4 && decide (s.clock ≤ s.pair.sentAt + (s.pair.cfg.map pcLoss).getD 0)
  let s := if joined && state ≠ 2 && state ≠ 3 && !waits then s.losePartner.releaseForwards else s
  if state = 1 && (s.port .l).link == .up && !waits then s.sendTransfer
  else if state = 1 then s
  else s.updPair fun p => { p with sending := 0 }

/-- What a shadow does on its lead's heartbeat: it joins again where the lateral link is lost, where it had lost the lead, or
where the lead runs without it (R387; DEDUCED, log 56). -/
def State.shadowHears (ingress : Ns) (wasLost : Bool) (f : Bytes) (s : State) : State :=
  let link := s.port .l
  if hbState f ≠ 3 then s
  else if link.link != .up then
    if link.changed ≤ (ingress : Int) + s.time.ringOff then s.startJoin 9 else s
  else if wasLost || (s.pair.barrier.partnerLive && !hbFlag f 0) then s.startJoin 9
  else s.updPair fun p => { p with revertLimit := hbFlag f 3 }

/-- A heartbeat of the partner (R372, R375, R377, R387). While port L is DOWN the partner stays lost. -/
def State.hearPartner (ingress : Ns) (f : Bytes) (s : State) : State :=
  let down := (s.port .l).link != .up
  let was := s.pair.partner
  let s := s.updPair fun p => { p with partner := { p.partner with
    last := some (max ingress (p.partner.last.getD 0)), lost := down, term := hbTerm f, leadNode := hbLead f, state := hbState f,
    since := if was.state = hbState f then was.since else s.clock } }
  let back := was.lost && !down
  let s := if back then (s.record .rng .peerReturn [0]).bumpEpoch .partner else s
  let s := if s.pair.state == .lead && was.state = 1 && hbState f = 2 then
      (s.updPair fun p => { p with mismatch := false }).settleHealth else s
  let s := (s.settlePartner).followTerm false (hbTerm f) (hbLead f)
  match s.pair.state with
  | .unformed => if hbState f = 3 && s.canJoin then s.startJoin 2 else s
  | .shadow => s.shadowHears ingress was.lost f
  | .lead => s.leadHears (hbState f)
  | _ => s

/-- A referee's heartbeat (R372, R375). -/
def State.hearReferee (who : Peer) (ingress : Ns) (f : Bytes) (s : State) : State :=
  let was := s.peerSt who
  let s := s.updPeer who fun p => { p with
    last := some (max ingress (p.last.getD 0)), lost := false, leadSeen := hbFlag f 1, term := hbTerm f, leadNode := hbLead f,
    state := 0 }
  let s := if was.lost then s.record .rng .peerReturn [who.num] else s
  (if s.pair.noReferee then s.settleReferee else s).followTerm true (hbTerm f) (hbLead f)

/-- A heartbeat with another CFG_CRC is counted and otherwise ignored (R372). -/
def State.crcDiffers (s : State) : State :=
  s.updPair fun p => { p with cfgCrcMismatch := p.cfgCrcMismatch + 1, crcDiffAt := some s.clock }

/-- The loaded PAIR_CONFIG of a module that is not confirmed. -/
def State.loadedPair (s : State) : Option Bytes :=
  (s.mod.loaded.find? fun e => e.opcode = BitVec.ofNat 16 opPairConfig).map CfgEntry.obj

/-- A member without PAIR_CONFIG in force that hears a lead of the other strap position on port L joins it: from its loaded
configuration where that names the same pair, or with factory defaults (R383, R526). A role in conflict never leaves the wait, nor does
factory test mode (R2, R571). -/
def State.hearBeforeConfig (port : Port) (f : Bytes) (s : State) : State :=
  let other := hbSender f == 1 - s.senderCode
  if port != .l || hbState f ≠ 3 || !other || s.pair.state != .unformed || s.regs.joinInhibit || s.pair.fwMismatch ||
      s.mod.conflict || s.mod.testMode then s
  else match s.mod.state, s.loadedPair with
    | .waitConfirm, some o =>
      if (crc32c o).toNat ≠ hbCrc f then s.crcDiffers
      else if s.node ≠ s.strapNode o then s.updPair fun p => { p with cfgMismatch := true }
      else (s.updPair fun p => { p with cfg := some o, cfgAt := s.clock, leadHb := fPayload f }).startJoin 2
    | .waitConfirm, none =>
      if s.mod.loaded.isEmpty then (s.updPair fun p => { p with leadHb := fPayload f }).startJoin 2 else s
    | .service, _ =>
      if s.mod.inForce.isEmpty then (s.updPair fun p => { p with leadHb := fPayload f }).startJoin 2 else s
    | _, _ => s

/-- A heartbeat at a member (R372). -/
def State.memberHears (port : Port) (ingress : Ns) (f : Bytes) (s : State) : State :=
  match s.pair.cfg with
  | none => s.hearBeforeConfig port f
  | some o =>
    if hbAddr f ≠ pcAddr o then s
    else
      let src := fSource f
      let partner := src == s.partnerNode || (src == 0 && port == .l && hbSender f == 1 - s.senderCode)
      let ref1 := src == pcRef1 o
      let ref2 := pcRef2 o != 0 && src == pcRef2 o
      if !(partner || ref1 || ref2) then s
      else if hbCrc f ≠ (crc32c o).toNat then s.crcDiffers
      else if ref1 then s.hearReferee .ref1 ingress f
      else if ref2 then s.hearReferee .ref2 ingress f
      else s.hearPartner ingress f

/-- Whether the heartbeat of the node that a referee takes for the lead says under the same term that it does not lead, after a
reset of it (R374, R380; DEDUCED, log 57). -/
def RefPair.resigned (r : RefPair) (src state : Nat) (term : BitVec 32) : Bool :=
  r.leadNode == src && term == r.top && (state == 0 || state == 1 || state == 4)

/-- What a referee learns from a heartbeat of one of its pairs: peers, terms, the lead and its epoch (R372, R374). -/
def RefPair.hear (own : Nat) (ingress : Ns) (ring : Int) (f : Bytes) (r : RefPair) : RefPair :=
  let src := fSource f
  let a := src == pcNodeA r.cfg
  let b := src == pcNodeB r.cfg
  let other := (src == pcRef1 r.cfg || (pcRef2 r.cfg != 0 && src == pcRef2 r.cfg)) && src != own
  let r := if a then { r with lastA := some (max ingress (r.lastA.getD 0)), lostA := false, stateA := hbState f } else r
  let r := if b then { r with lastB := some (max ingress (r.lastB.getD 0)), lostB := false, stateB := hbState f } else r
  let r := if other then { r with lastRef := some (max ingress (r.lastRef.getD 0)), lostRef := false, refLeadSeen := hbFlag f 1 } else r
  let top := r.top
  let r := if top.toNat < (hbTerm f).toNat then { r with highestHeard := hbTerm f, leadNode := hbLead f }
    else if hbTerm f = top && r.leadNode = 0 && hbState f = 3 && hbLead f = src then { r with leadNode := src }
    else if r.resigned src (hbState f) (hbTerm f) then { r with leadNode := 0 }
    else r
  if (a || b) && hbState f = 3 then { r with epoch := hbEpoch f, lastLeadIngress := ring } else r

/-- A heartbeat at a referee (R372). -/
def State.refereeHears (ingress : Ns) (f : Bytes) (s : State) : State :=
  match s.pair.held.findIdx? fun r => pcAddr r.cfg == hbAddr f with
  | none => s
  | some i =>
    match s.pair.held[i]? with
    | none => s
    | some r =>
      let src := fSource f
      let known := [pcNodeA r.cfg, pcNodeB r.cfg, pcRef1 r.cfg, pcRef2 r.cfg].contains src && src != 0
      if !known then s
      else if hbCrc f ≠ (crc32c r.cfg).toNat then s.crcDiffers
      else s.updHeld i (RefPair.hear s.node ingress ((ingress : Int) + s.time.ringOff) f)

/-- HEARTBEAT (R362, R372). On port L of a pair no other node's frames arrive. -/
def execHeartbeat (t : Ns) (port : Port) (ingress : Ns) (bytes : Bytes) (s : State) : Res :=
  let s := s.begin t
  if !s.up .rng || !pairFrame 1 bytes || fLength bytes < 32 || fDest bytes ≠ 0xFFFF || (s.port port).link != .up then .next s
  else if s.role == some .referee then .next (s.refereeHears ingress bytes)
  else if s.isPair then .next (s.memberHears port ingress bytes)
  else .next s

/-! ### Loss (R372, R376, R387, R389) -/

/-- The time without a heartbeat after which a sender is lost, for a member's peer and in a held pair (R372). -/
def State.heartbeatSpan (s : State) (who : HbSender) : Option Ns :=
  let held (k : Fin 8) : Option Ns := (s.pair.held[k.val]?).map fun r => pcLoss r.cfg
  match who with
  | .partner | .ref1 | .ref2 => s.pair.cfg.map pcLoss
  | .heldA k | .heldB k | .heldRef k => held k

/-- The ingress stamp of the latest heartbeat of a sender that is not lost (R372). -/
def State.heartbeatAt (s : State) (who : HbSender) : Option Ns :=
  let heard (lost : Bool) (last : Option Ns) : Option Ns := if lost then none else last
  let held (k : Fin 8) (f : RefPair → Option Ns) : Option Ns := (s.pair.held[k.val]?).bind f
  match who with
  | .partner => heard s.pair.partner.lost s.pair.partner.last
  | .ref1 => heard s.pair.ref1.lost s.pair.ref1.last
  | .ref2 => heard s.pair.ref2.lost s.pair.ref2.last
  | .heldA k => held k fun r => heard r.lostA r.lastA
  | .heldB k => held k fun r => heard r.lostB r.lastB
  | .heldRef k => held k fun r => heard r.lostRef r.lastRef

/-- The deadline of a sender that is not lost (R372). -/
def State.heartbeatDeadline (s : State) (who : HbSender) : Option Ns :=
  (s.heartbeatAt who).bind fun l => (s.heartbeatSpan who).map fun d => s.due .rng l d

/-- The loss of a sender. A shadow that loses its lead asks the referees for the lead, or reports NO_REFEREE (R374, R376). -/
def State.heartbeatLost (who : HbSender) (s : State) : State :=
  match who with
  | .partner =>
    let s := s.partnerGone
    if s.pair.state == .shadow && s.pair.pendingLead.isNone then
      if s.refHeard then s.requestLead rsFailover else s.settleReferee
    else s
  | .ref1 => ((s.updPeer .ref1 fun p => { p with lost := true, leadSeen := false }).record .rng .peerLoss [1]).settleReferee
  | .ref2 => ((s.updPeer .ref2 fun p => { p with lost := true, leadSeen := false }).record .rng .peerLoss [2]).settleReferee
  | .heldA k => s.updHeld k.val fun r => { r with lostA := true }
  | .heldB k => s.updHeld k.val fun r => { r with lostB := true }
  | .heldRef k => s.updHeld k.val fun r => { r with lostRef := true, refLeadSeen := false }

/-- HEARTBEAT_LOSS (R40 to R42, R372). -/
def execHeartbeatLoss (t : Ns) (who : HbSender) (receiving : List Ns) (s : State) : Res :=
  let s := s.begin t
  match s.heartbeatDeadline who with
  | none => .next s
  | some d =>
    if !s.up .rng || s.clock < d then .next s
    else .next (s.deferOr (.heartbeat who) d receiving (State.heartbeatLost who))

/-! ### The start of a bus cycle (R323, R334, R335, R368, R369, R375) -/

/-- Tunnel requests and retries whose instant has come are scheduled for the bus cycle that starts (R368, R369). -/
def State.openDue (s : State) : State :=
  let now : Int := s.ring.busStart + s.time.ringOff
  let l := s.pair.tunnelsDue.filter fun x => decide (x.2.2.2 ≤ now)
  let r := s.pair.retriesAt.filter fun x => decide (x.2 ≤ now)
  let s := s.updPair fun p => { p with
    tunnelsDue := p.tunnelsDue.filter (fun x => !decide (x.2.2.2 ≤ now)), retriesAt := p.retriesAt.filter fun x => !decide (x.2 ≤ now) }
  let s := l.foldl (fun s x => s.startTunnel x.1 s.ring.busStart x.2.1 x.2.2.1) s
  r.foldl (fun s x => s.resendTunnel x.1 s.ring.busStart) s

/-- BUS_CYCLE_START (R323, R334, R335, R339, R344, R347, R350, R368, R369, R375): at the first instant of a bus cycle, changes
come into force, the lead may change, and the cyclic frames of the window leave. -/
def execBusCycleStart (t : Ns) (s : State) : Res :=
  let s := s.begin t
  let k := (s.now / (max 1 s.tBus : Nat)).toNat
  if !s.up .rng || k = s.ring.busCycle then .next s
  else
    let s := s.takePending
    let k := (s.now / (max 1 s.tBus : Nat)).toNat
    let start := ((k : Int) * s.tBus - s.time.ringOff).toNat
    let late := decide (start + s.ring.cfg.windowNs < s.clock)
    let s := (s.changeLead k).settlePartner
    let s := s.ringState
    let s := s.updRing fun r => { r with oldId := none, busCycle := k, busStart := start, windowEnded := late,
                                         stations := r.stations.map (Station.fill start) }
    let s := s.updPair fun p => { p with windowPcrcs := [] }
    .next ((s.sendCyclic late).openDue.scheduleTunnels)

end Sys2Proof.Machine
end

