-- ==== Sys2Proof/Machine/Host.lean ====
section
/-! DEFINITION. The host interface: doorbells, fetching, starting and completing descriptors, coalescing, the event queue,
queue set-up, and the resets and power states of the PCIe function (R411 to R449, R559 to R561, R568). -/

namespace Sys2Proof.Machine

/-! ### Reaching the function -/

/-- Whether the host's accesses reach BAR0 and BAR2 (R412, R414). -/
def State.barOpen (s : State) : Bool := s.up .hif && !s.hif.perstLow && !s.hif.d3hot && s.hif.linkSpeed != 0

/-- Whether HIF masters the bus and takes queue set-up (R421, R446). -/
def State.hifLive (s : State) : Bool := s.barOpen && s.hif.ready

/-- UNSUPPORTED_REQUEST (R412): only an aligned 32-bit access is served. -/
def execUnsupportedRequest (t : Ns) (_bar offset size : Nat) (s : State) : Res :=
  let s := s.begin t
  .next (if size = 4 ∧ offset % 4 = 0 then s else s.emit .unsupported)

def Hif.updSq (n : Fin 8) (f : Sq → Sq) (h : Hif) : Hif := { h with sqs := h.sqs.set n (f h.sqs[n]) }
def Hif.updCq (n : Fin 8) (f : Cq → Cq) (h : Hif) : Hif := { h with cqs := h.cqs.set n (f h.cqs[n]) }
def Hif.updTag (id : Nat) (f : Tag → Tag) (h : Hif) : Hif :=
  { h with tags := h.tags.map fun g => if g.id = id then f g else g }

/-- Marks an error in the ERRORS field of its queue, 0 to 7 an SQ, 8 to 15 a CQ, 16 the EQ (R37, R448). -/
def Hif.markErr (bit q : Nat) (h : Hif) : Hif :=
  if q < 8 then h.updSq (Fin.ofNat 8 q) fun x => { x with errSeen := putBit x.errSeen bit true }
  else if q < 16 then h.updCq (Fin.ofNat 8 q) fun x => { x with errSeen := putBit x.errSeen bit true }
  else
    let eq := h.eq
    { h with eq := { eq with errSeen := putBit eq.errSeen bit true } }

/-- A queue error: FETCH_ERR, BAD_BINDING and BAD_TEARDOWN are recorded (R449), all post QUEUE_ERROR (R561). -/
def State.queueFault (bit q : Nat) (s : State) : State :=
  let s := if bit == errDoorbell || bit == errBadSize then s else s.record .hif .queueFault [bit, q]
  (s.updHif (Hif.markErr bit q)).queueError bit q

/-! ### The event queue (R417, R439 to R441, R447) -/

/-- The ABORT_REPORT event of a report (R440, R447). -/
def AbortReport.event (seq : BitVec 32) (d : BitVec 4) (st : BitVec 16) (r : AbortReport) : Event :=
  { type := 0x0007, inst := r.sq.val, seq := seq, stamp := r.stamp,
    data := wr 4 r.cookie.toNat ++ wr 2 r.opcode.toNat ++ wr 1 d.toNat ++ [0] ++ wr 2 st.toNat }

/-- While the EQ has room, reports whose descriptor has ended go out first in order of fetch, then EVENTS_LOST with its record,
then the events held (R441, R447, R449). -/
def State.flushEqN : Nat → State → State
  | 0, s => s
  | n + 1, s =>
    if !s.hifLive || !s.hif.eq.room then s
    else match s.hif.reports.find? fun r => r.reached.isSome with
      | some r =>
        let (d, st) := r.reached.getD (0, 0)
        let e := r.event s.hif.eventSeq d st
        let s := s.updHif fun h => { h with eventSeq := h.eventSeq + 1, reports := h.reports.filter fun x => x.id != r.id }
        (s.writeEvent e).flushEqN n
      | none =>
        if s.hif.discarded ≠ 0 then
          let lost := s.hif.discarded
          let e : Event := { type := 0x0006, inst := 0, seq := s.hif.eventSeq, stamp := s.now, data := wr 4 lost }
          let s := (s.record .hif .eventsDiscarded [lost]).updHif fun h =>
            { h with eventSeq := h.eventSeq + 1, discarded := 0 }
          (s.writeEvent e).flushEqN n
        else match s.hif.held with
          | [] => s
          | e :: rest => ((s.updHif fun h => { h with held := rest }.wake).writeEvent e).flushEqN n

/-- All that waits for the EQ goes out as far as there is room. -/
def State.flushEq (s : State) : State := s.flushEqN (s.hif.reports.length + s.hif.held.length + 1)

/-- EVENT_POST (R439 to R441). -/
def execEventPost (t : Ns) (type : BitVec 16) (inst : Nat) (data : Bytes) (s : State) : Res :=
  .next ((s.begin t).postEvent type inst data)

/-! ### Doorbells (R416, R417, R419, R420) -/

/-- Whether a doorbell value is malformed for a queue of this size (R419, R420). -/
def doorbellBad (size value : Nat) : Bool := decide (value / 65536 ≠ 0) || decide (size ≤ value % 65536)

/-- Entries from `a` up to `b` in a queue of this size (R416). -/
def span (size a b : Nat) : Nat := (b + size - a) % size

/-- SQ_TAIL_DOORBELL (R416, R419, R420, R436); of a queue that is not enabled it has nothing to act on. -/
def execSqTailDoorbell (t : Ns) (n : Fin 8) (value : Word) (s : State) : Res :=
  let s := s.begin t
  let q := s.hif.sqs[n]
  let size := 2 ^ q.log2.toNat
  let tail := value.toNat
  if !s.hifLive || !q.enable then .next s
  else if doorbellBad size tail || decide (span size q.head tail < span size q.head q.tail) then
    .next ((s.updHif fun h => h.updSq n fun q => { q with ignored := satAdd 32 q.ignored 1 }).queueFault errDoorbell n.val)
  else
    let fresh := List.replicate (span size q.tail tail) s.now
    .next (s.updHif fun h => h.updSq n fun q => { q with tail := tail, posted := q.posted ++ fresh })

/-- CQ_HEAD_DOORBELL (R417, R419, R420). -/
def execCqHeadDoorbell (t : Ns) (n : Fin 8) (value : Word) (s : State) : Res :=
  let s := s.begin t
  let q := s.hif.cqs[n]
  let head := value.toNat
  if !s.hifLive || !q.enable then .next s
  else if doorbellBad q.size head || decide (span q.size q.head q.tail < span q.size q.head head) then
    .next ((s.updHif fun h => h.updCq n fun q => { q with ignored := satAdd 32 q.ignored 1 }).queueFault errDoorbell (8 + n.val))
  else .next (s.updHif fun h => h.updCq n fun q => { q with head := head })

/-- EQ_HEAD_DOORBELL (R417, R419, R420, R441): what waits for room goes out. -/
def execEqHeadDoorbell (t : Ns) (value : Word) (s : State) : Res :=
  let s := s.begin t
  let q := s.hif.eq
  let head := value.toNat
  if !s.hifLive || !q.enable then .next s
  else if doorbellBad q.size head || decide (span q.size q.head q.tail < span q.size q.head head) then
    .next ((s.updHif fun h => { h with eq := { h.eq with ignored := satAdd 32 h.eq.ignored 1 } }).queueFault errDoorbell 16)
  else .next ((s.updHif fun h => { h with eq := { h.eq with head := head } }).flushEq)

/-! ### The descriptor (R424 to R426) -/

/-- Opcodes with data: least and largest DATA_LEN (R425 and the chapters' own ranges). -/
def dataRange : List (Nat × Nat × Nat) :=
  [(opGroupConfig, 544, 544), (opCharLoad, 264, 264), (opHartRequest, 16, 271), (opProgramParam, 32, 32),
   (opVarWrite, 17, 4112), (opProgramSwitch, 32, 32), (opLoopConfig, 128, 128), (opLoopCommand, 32, 32),
   (opOverrideConfig, 32, 32), (opTuneStart, 64, 64), (opAxisConfig, 128, 128), (opAxisCommand, 64, 64),
   (opSafetyConfig, 32, 4128), (opRingConfig, 32, 32), (opStationConfig, 32, 1056), (opImageMap, 8, 2056),
   (opBranchConfig, 8, 392), (opPairConfig, 32, 32), (opTimeConfig, 32, 32), (opShipTimeSet, 24, 24),
   (opDispConfig, 16, 16), (opDispRegion, 16, 16), (opDispBlink, 32, 32), (opMasterConfirm, 32, 32)]

/-- Whether DATA_LEN is in range for the opcode (R425, R426 step 1). -/
def dataLenOk (op : Nat) (param : Bytes) (len : Nat) : Bool :=
  if op == opImageStage || op == opFwStage then len == isLength param
  else if op == opTableLoad then decide (32 ≤ len) && (len - 32) % 24 == 0
  else match dataRange.find? fun x => x.1 == op with
    | some (_, lo, hi) => decide (lo ≤ len ∧ len ≤ hi)
    | none => len == 0

/-- The largest result an opcode writes (R425, R444, R483, R484). -/
def resultSize (op : Nat) (param : Bytes) : Nat :=
  if op == opStateRead then 65536
  else if op == opCaptureRead then rd param 4 4
  else if op == opHartRequest then 269
  else if op == opProgramSwitch then 72
  else if op == opTuneStart || op == opAxisCommand || op == opTableLoad then 16
  else if op == opSafetyConfig then 196
  else if op == opPairCommand then 4
  else if op == opShipTimeSlew then 8
  else if op == opRecSnapshot then 24
  else if op == opRecRead then 1040
  else 0

/-- PARAM of STATE_READ (R442): OFFSET and KEY are 0 but for the classes that use them. -/
def stateParamOk (p : Bytes) : Bool :=
  let cls := rd p 3 1
  let field := rd p 0 4 % 4096
  let off := rd p 4 4
  (if cls == 0x39 then off % 8 == 0
   else if cls == 0x29 && field == 5 then true
   else if cls == 0x61 && field == 6 then off % 4 == 0
   else off == 0) && (cls == 0x39 || zeroAt p 8 8)

/-- Whether PARAM is valid for the opcode, as far as its fields have fixed ranges (R426 step 1). A chunk of a Quetum image whose
PARAM is out of range goes on to its island, which empties the slot (R172). -/
def paramOk (op : Nat) (p : Bytes) : Bool :=
  let upTo (k : Nat) : Bool := decide (1 ≤ rd p 0 1 ∧ rd p 0 1 ≤ k)
  if op == opStateRead then stateParamOk p
  else if op == opCaptureRead then
    rd p 0 4 % 4 == 0 && rd p 4 4 % 4 == 0 && decide (4 ≤ rd p 4 4 ∧ rd p 4 4 ≤ 262144) && zeroAt p 8 8
  else if op == opNodeAddress then decide (rd p 0 1 ≤ 1) && rd p 1 1 != 0 && zeroAt p 4 12
  else if op == opProgramControl then upTo 4 && controlFormat (rd p 0 1) p
  else if op == opStoreCommand || op == opPairCommand then upTo 4 && zeroAt p 1 15
  else if op == opTuneStop then decide (rd p 0 1 ≤ 63) && zeroAt p 1 15
  else if op == opFwActivate then decide (rd p 0 1 ≤ 1) && zeroAt p 1 15
  else if op == opIslandReset then decide (rd p 0 1 ≤ 10) && zeroAt p 1 15
  else if op == opSafetyConfirm then zeroAt p 8 8
  else if op == opRecRead then zeroAt p 12 4
  else if op == opShipTimeSlew then slewOk p
  else if op == opDispUpdate then decide (rd p 0 1 ≤ 15) && zeroAt p 1 3
  else if op == opDomainPower then decide (rd p 1 1 ≤ 2) && zeroAt p 2 14
  else op == opImageStage || op == opFwStage || allZero p

def descOp (d : Bytes) : Nat := rd d 0 2
def descParam (d : Bytes) : Bytes := (d.drop 48).take 16

/-- R426 step 1 for a 64-byte descriptor. -/
def State.descFormat (s : State) (d : Bytes) : Option Outcome :=
  let op := descOp d
  let len := rd d 24 4
  let max := rd d 40 4
  let station := match s.station? (rd d 28 2) with | some x => !x.obj.isEmpty && stHps x.obj | none => false
  if !opTable.contains op then some (.error stUnknownOpcode)
  else firstOf
    [badField (rdBits d 2 7 3 != 0 || !zeroAt d 3 1 || !zeroAt d 30 2 || !zeroAt d 44 4),
     badField (rdBits d 2 0 0 == 0 && !zeroAt d 8 8),
     badField (!dataLenOk op (descParam d) len),
     badField (rd d 16 8 % 8 != 0 || (rd d 16 8 == 0) != (len == 0)),
     badField (rd d 32 8 % 8 != 0 || (rd d 32 8 == 0) != (max == 0)),
     badField (!paramOk op (descParam d)),
     badField (if descTunnel d then !tunnelKnown op || !station || decide (1433600 < 64 + len) else !zeroAt d 28 2)]

/-- Whether a station is a referee of this member's pair. -/
def State.toReferee (s : State) (index : Nat) : Bool :=
  match s.station? index, s.pair.cfg with
  | some x, some o => stNode x.obj == pcRef1 o || stNode x.obj == pcRef2 o
  | _, _ => false

/-- The policy of a tunnelled descriptor: requests of a pair are the lead's; an unformed member A sends them to referees
(R360, R378, R426). -/
def State.tunnelPolicy (s : State) (org : Origin) (d : Bytes) : Option Outcome :=
  if s.isPair && !s.pair.forwards.any (fun f => f.org = org) then
    if s.pair.state = .lead then none
    else if s.pair.state = .unformed && s.role == some .pairA && s.toReferee (rd d 28 2) then none
    else some (.policy stNotLead)
  else s.policy org (descOp d)

/-- R426 step 3: role, lead and step latch. An owner that MORDANT locks is found when the object is here, with the checks of its
chapter. -/
def State.hostPolicy (s : State) (org : Origin) (d : Bytes) : Option Outcome :=
  if descTunnel d then s.tunnelPolicy org d
  else (s.policy org (descOp d)).orElse fun _ =>
    fails (descOp d == opShipTimeSet && s.time.latch) (.policy stStepLatched)

/-- A descriptor refused by step 3 of R426; a refused SHIP_TIME_SET is recorded (R410). -/
def State.refuseFetched (id : Nat) (d : Bytes) (o : Outcome) (s : State) : State :=
  (if descOp d == opShipTimeSet && !descTunnel d && o.disp == dPolicy then s.recordShipRefusal o else s).commitHost id o

/-- Steps 1 to 4 of R426: the first failure, if any. -/
def State.admitDesc (s : State) (org : Origin) (d : Bytes) (data : Option Bytes) : Option Outcome :=
  let need := resultSize (descOp d) (descParam d)
  firstOf
    [s.descFormat d,
     fails (decide (rd d 40 4 < need)) { disp := dError, status := stResultTooSmall, needed := some need },
     s.hostPolicy org d,
     fails (rd d 24 4 != 0 && (data.map List.length) != some (rd d 24 4)) (.error stHostMemory)]

/-! ### Fetching (R426 to R428) -/

/-- Tags in use, and those of classes 1 to 3. -/
def Hif.lowTags (h : Hif) : Nat := (h.tags.filter fun g => g.cls != 0).length

/-- Whether a class may take one more tag (R427). -/
def Hif.tagFree (h : Hif) (cls : BitVec 2) : Bool :=
  decide (h.tags.length < 256) && (cls == 0 || decide (h.lowTags < 224))

/-- The next queue to serve: class 0 first; within a class in turn, from the queue after the last one served (R428). -/
def Hif.pick (h : Hif) : Option (Fin 8) :=
  (List.finRange 4).findSome? fun c =>
    let cls : BitVec 2 := BitVec.ofNat 2 c.val
    let order := (List.range 8).map fun k => Fin.ofNat 8 (h.lastServed[c].val + 1 + k)
    if h.tagFree cls then
      order.find? fun n => h.sqs[n].enable && h.sqs[n].cls == cls && !h.sqs[n].posted.isEmpty
    else none

/-- Fetching from a queue stops; what it has fetched and not started completes ABORTED (R422). -/
def State.stopSq (n : Fin 8) (s : State) : State :=
  let s := (s.updHif fun h => h.updSq n fun q => { q with enable := false, posted := [] }).record .hif .queueEnable [n.val, 0]
  let l := s.hif.tags.filter fun g => g.sq == n && g.started.isNone && g.outcome.isNone
  l.foldl (fun s g => s.commitHost g.id (.aborted stQueueDisabled)) s

/-- A descriptor taken from its queue with a tag (R416, R426, R427). -/
def Hif.accept (n : Fin 8) (g : Tag) (h : Hif) : Hif :=
  let h := h.updSq n fun q =>
    { q with head := (q.head + 1) % 2 ^ q.log2.toNat, posted := q.posted.drop 1, fetched := satAdd 32 q.fetched 1 }
  { h with nextId := g.id + 1, tags := h.tags ++ [g] }

/-- Steps 1 to 4 of R426 at the fetch: a descriptor that fails one completes at once. -/
def State.admitFetched (id : Nat) (d : Bytes) (data : Option Bytes) (s : State) : State :=
  match s.admitDesc (.host id) d data with
  | some o => s.refuseFetched id d o
  | none => s

/-- DESCRIPTOR_FETCH (R413, R416, R426 to R428, R378): the next descriptor by class order takes a tag, and steps 1 to 4 are
checked; a failed one completes at once. `desc` is none where the read met a PCIe error. -/
def execDescriptorFetch (t : Ns) (desc : Option Bytes) (data : Option Bytes) (s : State) : Res :=
  let s := s.begin t
  match if s.hifLive then s.hif.pick else none with
  | none => .next s
  | some n =>
    let q := s.hif.sqs[n]
    let turn := Fin.ofNat 4 q.cls.toNat
    let s := s.updHif fun h => { h with lastServed := h.lastServed.set turn n }
    match desc.filter fun d => d.length == 64 with
    | none => .next ((s.stopSq n).queueFault errFetch n.val)
    | some d =>
      let id := s.hif.nextId
      let g : Tag := { id := id, sq := n, cls := q.cls, desc := d, data := data, accepted := q.posted.headD s.now }
      .next ((s.updHif (Hif.accept n g)).admitFetched id d data)

/-! ### Starting (R378, R429, R436) -/

/-- Whether a descriptor's turn has come in its queue: every earlier one has started, and before one with FENCE has completed
(R429). -/
def Hif.mayStart (h : Hif) (g : Tag) : Bool :=
  let before := h.tags.filter fun x => x.sq == g.sq && decide (x.id < g.id) && x.outcome.isNone
  if rdBits g.desc 2 1 1 == 1 then before.isEmpty else before.all fun x => x.started.isSome

/-- Whether the lead forwards a descriptor to its shadow (R342, R378, R384, R526, R532). -/
def forwardsOp (d : Bytes) : Bool :=
  let op := descOp d
  descTunnel d ||
    !(isRead op || memberOwn op || op == opNodeAddress || (op == opPairCommand && rd d 48 1 ≤ 2))

/-- What HIF does with a descriptor as it starts: in a pair that runs in step a change of state waits for the barrier (R364,
R368, R378); else a tunnelled one becomes a transaction (R351). Any other is now with its island, whose own command serves
it. -/
def State.handOut (g : Tag) (s : State) : State :=
  let org := Origin.host g.id
  let data := g.data.getD []
  if s.inStep && forwardsOp g.desc then
    let id := 2 * s.pair.nextForward + (if s.role == some .pairB then 1 else 0)
    let obj := if rd g.desc 24 4 = 0 && !descTunnel g.desc then descParam g.desc else data
    let f : Forward := { id := id, org := org, desc := g.desc, obj := obj }
    s.updPair fun p => { p with forwards := p.forwards ++ [f], nextForward := p.nextForward + 1 }
  else if descTunnel g.desc then s.startTunnel org s.clock g.desc data
  else s

/-- DESCRIPTOR_START (R429, R436, R438). -/
def execDescriptorStart (t : Ns) (id : Nat) (s : State) : Res :=
  let s := s.begin t
  match s.hif.tags.find? fun g => g.id = id with
  | none => .next s
  | some g =>
    if !s.up .hif || g.started.isSome || g.outcome.isSome || !s.hif.mayStart g then .next s
    else
      let now := s.now
      let s := s.updHif fun h => h.updTag id fun g => { g with started := some now }
      match s.hostPolicy (.host id) g.desc with
      | some o => .next (s.refuseFetched id g.desc o)
      | none => .next (s.handOut g)

/-- NOP (R425). -/
def execNop (t : Ns) (org : Origin) (s : State) : Res :=
  serve org opNop [] none none (fun s => s.complete org .done) (s.begin t)

/-! ### Completing (R413, R417, R418, R423, R427, R431 to R437) -/

/-- QUEUE_WAIT in µs: to the start, or to the completion of one that never started (R431, R436). -/
def Tag.waitUs (now : Int) (g : Tag) : Nat := min (((g.started.getD now) - g.accepted) / 1000).toNat (2 ^ 32 - 1)

/-- Whether the disposition writes a result (R433). -/
def Outcome.writes (o : Outcome) : Bool :=
  o.disp == dDone || o.disp == dDoneLate || o.disp == dSuperseded || o.disp == dError

/-- Sends the message of a completion queue when its count is reached (R423). -/
def State.signalCq (n : Fin 8) (s : State) : State :=
  let q := s.hif.cqs[n]
  if q.coalCount.toNat ≤ q.unsignalled && q.unsignalled != 0 then
    (s.updHif fun h => h.updCq n fun q => { q with unsignalled := 0, firstAt := none }).signal q.vector
  else s

/-- The queue's counts and waits after a completion (R448). -/
def Sq.count (d : BitVec 4) (wait : Nat) (cookie : BitVec 32) (q : Sq) : Sq :=
  let k := Fin.ofNat 8 d.toNat
  { q with dispCount := q.dispCount.set k (satAdd 32 q.dispCount[k] 1), waitLast := wait,
           waitMax := max q.waitMax wait, waitCookie := if q.waitMax ≤ wait then cookie else q.waitCookie }

/-- Writes result, completion and message, in that order, and releases the tag. -/
def State.writeCompletion (g : Tag) (o : Outcome) (cq : Fin 8) (s : State) : State :=
  let q := s.hif.cqs[cq]
  let wait := g.waitUs s.now
  let cookie : BitVec 32 := BitVec.ofNat 32 (rd g.desc 4 4)
  let o := if o.writes then o else { o with result := [], needed := none }
  let s := if o.result.isEmpty then s else s.emit (.result (BitVec.ofNat 64 (rd g.desc 32 8)) o.result)
  let s := s.emit (.completion cq q.tail (completionBytes cookie g.sq.val wait q.phase o))
  let now := s.now
  let clock := s.clock
  let s := s.updHif fun h =>
    let h := (h.updCq cq (Cq.push now clock)).updSq g.sq (Sq.count o.disp wait cookie)
    { h with tags := h.tags.filter fun x => x.id != g.id }
  s.signalCq cq

/-- Whether an earlier commit waits for the same completion queue (R432). -/
def Hif.earlierCommit (h : Hif) (cq : Fin 8) (at_ : Ns) : Bool :=
  h.tags.any fun x => h.sqs[x.sq].cq == cq && (match x.outcome with | some (_, c) => decide (c < at_) | none => false)

/-- COMPLETION_WRITE (R417, R432): the completion of a committed descriptor, or after a reset of HIF its ABORT_REPORT (R447). -/
def execCompletionWrite (t : Ns) (id : Nat) (s : State) : Res :=
  let s := s.begin t
  match s.hif.tags.find? fun g => g.id = id with
  | none => .next (if s.hif.reports.any fun r => r.id == id && r.reached.isSome then s.flushEq else s)
  | some g =>
    match g.outcome with
    | none => .next s
    | some (o, c) =>
      let cq := s.hif.sqs[g.sq].cq
      if !s.hifLive || !s.hif.cqs[cq].room || s.hif.earlierCommit cq c then .next s
      else .next (s.writeCompletion g o cq)

/-- Whether the coalescing time of a queue has passed (R423). -/
def Cq.coalDue (clock : Ns) (q : Cq) : Bool :=
  q.coalUs != 0 && (match q.firstAt with | some f => decide (f + 1000 * q.coalUs.toNat ≤ clock) | none => false)

/-- COALESCING_TIMEOUT (R423); queue 8 is the EQ. -/
def execCoalescingTimeout (t : Ns) (q : Fin 9) (s : State) : Res :=
  let s := s.begin t
  if !s.hifLive then .next s
  else if h : q.val < 8 then
    let n : Fin 8 := ⟨q.val, h⟩
    let c := s.hif.cqs[n]
    if c.coalDue s.clock then
      .next ((s.updHif fun h => h.updCq n fun q => { q with unsignalled := 0, firstAt := none }).signal c.vector)
    else .next s
  else
    let c := s.hif.eq
    if c.coalDue s.clock then
      .next ((s.updHif fun h => { h with eq := { h.eq with unsignalled := 0, firstAt := none } }).signal c.vector)
    else .next s

/-! ### Queue set-up (R421, R422, R449, R559, R560) -/

/-- HIF_SQ_CTL_WRITE (R421, R422, R559, R560). -/
def execHifSqCtlWrite (t : Ns) (n : Fin 8) (value : Word) (s : State) : Res :=
  let s := s.begin t
  let q := s.hif.sqs[n]
  let cq : Fin 8 := Fin.ofNat 8 (bitsOf value.toNat 6 4)
  let cls : BitVec 2 := BitVec.ofNat 2 value.toNat
  let enable := value.getLsbD 8
  if !s.hifLive then .next s
  else if q.enable then .next (if enable then s else s.stopSq n)
  else
    let s := s.updHif fun h => h.updSq n fun q => { q with cls := cls, cq := cq }
    if !enable then .next s
    else if q.log2 < 4 || 12 < q.log2 then .next (s.queueFault errBadSize n.val)
    else if !s.hif.cqs[cq].enable then .next (s.queueFault errBadBinding n.val)
    else .next ((s.updHif fun h => h.updSq n fun q =>
      { q with enable := true, head := 0, tail := 0, posted := [] }).record .hif .queueEnable [n.val, 1])

def ctlVector (v : Word) : Fin 16 := Fin.ofNat 16 (bitsOf v.toNat 30 27)
def ctlCount (v : Word) : BitVec 9 := BitVec.ofNat 9 (bitsOf v.toNat 26 18)
def ctlUs (v : Word) : BitVec 14 := BitVec.ofNat 14 (bitsOf v.toNat 13 0)

/-- COAL_COUNT 1 to 256 and COAL_US at most 10,000 (R559). -/
def ctlInRange (v : Word) : Bool :=
  decide (1 ≤ (ctlCount v).toNat ∧ (ctlCount v).toNat ≤ 256 ∧ (ctlUs v).toNat ≤ 10000)

def Cq.tune (v : Word) (q : Cq) : Cq := { q with vector := ctlVector v, coalCount := ctlCount v, coalUs := ctlUs v }

/-- A completion or event queue as it is enabled (R559). -/
def Cq.start (q : Cq) : Cq :=
  { q with enable := true, head := 0, tail := 0, phase := true, unsignalled := 0, firstAt := none }

/-- HIF_CQ_CTL_WRITE (R422, R559, R560). -/
def execHifCqCtlWrite (t : Ns) (n : Fin 8) (value : Word) (s : State) : Res :=
  let s := s.begin t
  let q := s.hif.cqs[n]
  let enable := value.getLsbD 31
  let tuned (s : State) : State := s.updHif fun h => h.updCq n (Cq.tune value)
  let used := (List.finRange 8).any fun k =>
    s.hif.sqs[k].cq == n && (s.hif.sqs[k].enable || s.hif.tags.any fun g => g.sq == k)
  if !s.hifLive then .next s
  else if q.enable then
    if enable then .next (if ctlInRange value then tuned s else s.queueFault errBadSize (8 + n.val))
    else if used then .next (s.queueFault errBadTeardown (8 + n.val))
    else .next ((s.updHif fun h => h.updCq n fun q => { q with enable := false }).record .hif .queueEnable [8 + n.val, 0])
  else
    let s := tuned s
    if !enable then .next s
    else if q.log2 < 4 || 12 < q.log2 || !ctlInRange value then .next (s.queueFault errBadSize (8 + n.val))
    else .next ((s.updHif fun h => h.updCq n Cq.start).record .hif .queueEnable [8 + n.val, 1])

/-- HIF_EQ_CTL_WRITE (R422, R441, R447, R559, R560): enabling the EQ posts the abort reports, then what is held. -/
def execHifEqCtlWrite (t : Ns) (value : Word) (s : State) : Res :=
  let s := s.begin t
  let q := s.hif.eq
  let enable := value.getLsbD 31
  let tuned (s : State) : State := s.updHif fun h => { h with eq := h.eq.tune value }
  if !s.hifLive then .next s
  else if q.enable then
    if enable then .next (if ctlInRange value then tuned s else s.queueFault errBadSize 16)
    else .next ((s.updHif fun h => { h with eq := { h.eq with enable := false } }).record .hif .queueEnable [16, 0])
  else
    let s := tuned s
    if !enable then .next s
    else if q.log2 < 4 || 12 < q.log2 || !ctlInRange value then .next (s.queueFault errBadSize 16)
    else
      let s := s.updHif fun h => { h with eq := h.eq.start, reporting := true }
      .next ((s.record .hif .queueEnable [16, 1]).flushEq)

/-! ### Resets and power states (R414, R446, R447, R449, R450, R568) -/

/-- The report kept for a descriptor that held a tag (R447). -/
def Tag.report (stamp : Int) (g : Tag) : AbortReport :=
  { id := g.id, sq := g.sq, stamp := stamp, cookie := BitVec.ofNat 32 (rd g.desc 4 4), opcode := BitVec.ofNat 16 (descOp g.desc),
    deadline := descDeadline g.desc,
    reached := match g.outcome with
      | some (o, _) => some (o.disp, o.status)
      | none => if g.started.isSome then none else some (dAborted, 0) }

def isHost : Origin → Bool
  | .host _ => true
  | _ => false

/-- Host HART requests that wait in a channel queue are removed unsent (R446). -/
def State.dropHostHart (s : State) : State :=
  forAll 128 (fun ch s =>
    let gone := s.harts[ch].waiting.filter fun q => isHost q.org
    gone.foldl (fun s q => s.complete q.org (.aborted 0))
      (s.updHart ch fun h => { h with waiting := h.waiting.filter fun q => !isHost q.org })) s

/-- HOST's domain settles, and posts it has not taken wake it again once it can be reached (R450, R453, R467). -/
def State.hostReturns (s : State) : State :=
  let s := s.settleHost
  if s.domain .host = .off then s else s.rewake .host

/-- A reset of HIF (R446, R447, R449, R459, R568): its registers, queues, MSI-X structures and tags go to reset; a report is
kept for every descriptor that held a tag; events still held are lost and count as discarded. `kind` tells the source to the
record: 0 function-level reset, 1 PERST_N, 2 D3hot, 3 soft reset, 4 stall. -/
def State.resetHif (kind : Nat) (s : State) : State :=
  let old := s.hif
  let stamp := s.now
  let s := s.record .hif .hifReset [kind, old.tags.length]
  let fresh : Hif :=
    { ready := !old.perstLow, perstLow := old.perstLow, d3hot := old.d3hot, linkSpeed := old.linkSpeed, nextId := old.nextId,
      eventSeq := old.eventSeq, discarded := old.discarded + old.held.length, reports := old.tags.map (Tag.report stamp) }
  ((s.updHif fun _ => fresh).dropHostHart.bumpEpoch .host).hostReturns

/-- HIF_SOFT_RESET (R446). -/
def execHifSoftReset (t : Ns) (value : Word) (s : State) : Res :=
  let s := s.begin t
  .next (if s.barOpen && value.getLsbD 0 then s.resetHif 3 else s)

/-- FUNCTION_LEVEL_RESET (R446). -/
def execFunctionLevelReset (t : Ns) (s : State) : Res :=
  let s := s.begin t
  .next (if s.hif.perstLow || s.hif.linkSpeed == 0 then s else s.resetHif 0)

/-- PERST_N (R446, R450): HIF stays in reset while it is low. -/
def execPerstN (t : Ns) (s : State) : Res :=
  let s := s.begin t
  if s.hif.perstLow then .next s
  else .next ((s.updHif fun h => { h with perstLow := true, linkSpeed := 0, d3hot := false }).resetHif 1)

/-- The configuration space answers with the function's identity (R411, R543, R605; DEDUCED, log 120). -/
def State.answerConfig (s : State) : State :=
  if s.mod.powered && s.up .hif then
    s.emit (.configSpace 0x1F7C 0x0128 Config.hwMajor 0x088000 0x1F7C (if Config.isX then 2 else 1))
  else s

/-- PERST_N_RELEASE (R446, R605): HIF leaves reset, sets READY and answers configuration accesses; the link trains after it. -/
def execPerstNRelease (t : Ns) (s : State) : Res :=
  let s := s.begin t
  if !s.hif.perstLow then .next s
  else .next ((s.updHif fun h => { h with perstLow := false, ready := s.up .hif }).settleHost.answerConfig)

/-- Whether any queue is enabled (R414). -/
def Hif.anyEnabled (h : Hif) : Bool :=
  h.eq.enable || (List.finRange 8).any fun n => h.sqs[n].enable || h.cqs[n].enable

/-- WAKE_N follows the events held, and its pin with it (R414). -/
def State.settleWake (s : State) : State :=
  let old := s.hif.wakeN
  let s := s.updHif Hif.wake
  if s.hif.wakeN = old then s else s.emit (.pin "WAKE_N" s.hif.wakeN)

/-- D3HOT_ENTRY (R414, R446, R450). -/
def execD3hotEntry (t : Ns) (s : State) : Res :=
  let s := s.begin t
  if s.hif.d3hot || s.hif.perstLow || s.hif.linkSpeed == 0 then .next s
  else
    let queues := s.hif.anyEnabled
    let s := s.updHif fun h => { h with d3hot := true }
    .next (if queues then s.resetHif 2 else s.settleHost.settleWake)

/-- D0_RETURN (R414, R450, R451): WAKE_N is released. -/
def execD0Return (t : Ns) (s : State) : Res :=
  let s := s.begin t
  if !s.hif.d3hot then .next s
  else .next (((s.updHif fun h => { h with d3hot := false }).settleHost).settleWake)

/-- PCIE_LINK_DOWN (R414, R450). -/
def execPcieLinkDown (t : Ns) (s : State) : Res :=
  let s := s.begin t
  if s.hif.linkSpeed == 0 then .next s
  else .next (((s.updHif fun h => { h with linkSpeed := 0, linkLost := true }).settleHost).settleWake)

/-- PCIE_LINK_UP (R411, R450, R453): after a loss of the link the epoch of HOST rises, its channels are kept. -/
def execPcieLinkUp (t : Ns) (speed : BitVec 2) (s : State) : Res :=
  let s := s.begin t
  if s.hif.perstLow || s.hif.linkSpeed != 0 || !(speed == 1 || speed == 2) then .next s
  else
    let lost := s.hif.linkLost
    let s := s.updHif fun h => { h with linkSpeed := speed, linkLost := false }
    let s := if lost then s.bumpEpoch .host else s
    .next s.settleWake.hostReturns.answerConfig

end Sys2Proof.Machine
end

