-- ==== Sys2Proof/Machine/Islands.lean ====
section
/-! DEFINITION. Islands and crossings: requests, stalls and their reactions, soft resets, readiness (R15 to R19, R31, R41, R451,
R467, R469, R517, R521, R522). -/

namespace Sys2Proof.Machine

/-! ### The module drives RESET_N (R517) -/

/-- RESET_N is driven low for 20 ms; its falling edge is a RESET_N_LOW of its own (R517, R519). -/
def State.driveReset (cause : ResetCause) (s : State) : State :=
  if s.mod.drivenUntil.any (s.clock < ·) then s
  else (s.updMod fun m => { m with drivenUntil := some (s.clock + 20000000), safeCause := some cause }).emit (.pin "RESET_N" false)

/-! ### What a soft reset of an island clears (R446, R447, R520, R521) -/

/-- Descriptors in progress inside an island (R19). -/
def State.islandOrigins (s : State) (i : Isl) : List Origin :=
  match i with
  | .svc =>
    (s.groups.toList.filterMap fun g => g.change.map GroupChange.org) ++ (s.mod.confirming.map Prod.fst).toList
      ++ (s.mb.power.map fun p => p.2.2.1) ++ s.mod.resets.map Prod.snd ++ (s.xch.staging.bind Staging.last).toList
  | .prg =>
    (s.prg.control.map Prod.fst).toList ++ (s.prg.paramPending.map Prod.fst).toList ++ s.prg.varWrites.map VarWrite.org
      ++ (s.xch.switch.map Switch.org).toList
  | .ctl =>
    (s.loops.toList.flatMap fun l => (l.pending.map Prod.fst).toList ++ l.writes.filterMap LoopWrite.org)
      ++ (s.tune.running.map Prod.fst).toList
  | .mot => s.axes.toList.flatMap fun a => (a.pendCfg.map Prod.fst).toList ++ a.cmds.filterMap AxisCmd.org
  | .rng =>
    (s.ring.cfgPending.map Prod.fst).toList ++ (s.ring.stations.filterMap fun x => x.pending.map Prod.fst)
      ++ (s.ring.io.mapPending.map Prod.fst).toList ++ (s.ring.branchPending.map Prod.fst).toList
      ++ s.ring.tunnelsOut.map TunnelOut.org ++ s.ring.tunnelsWait.map Prod.fst ++ (s.ring.nodeAddr.map NodeAddr.org).toList
      ++ (s.pair.handover.map Prod.fst).toList
  | .tim =>
    (s.time.cfgPending.map Prod.fst).toList ++ (s.time.slew.map Slew.org).toList ++ (s.time.ppsWait.map PpsWait.org).toList
  | .recorder =>
    s.stores.toList.flatMap fun st => (st.running.map Save.orgs).getD [] ++ st.waiting.filterMap Prod.snd ++ st.clearWait.toList
  | .disp =>
    (s.disp.queued.toList.filterMap fun q => q.map Prod.fst) ++ ((s.disp.pass.map Pass.updates).getD []).map Prod.fst
      ++ (s.disp.blinkPending.map Prod.fst).toList
  | .hif | .saf | .aon => []

/-- A group whose transfer SVC has lost stays at its substitute values, as after a failed transfer (R79, R521; DEDUCED, log 15). -/
def Group.dropChange (g : Group) : Group :=
  if g.change.isSome then { g with change := none, stuckSubst := true } else g

/-- A slot that was being written or verified holds nothing any more. -/
def Slot.afterReset (z : Slot) : Slot := if z.state == .staging || z.state == .verifying then {} else z

/-- Stagings end with SVC, which writes and verifies them (R164, R172; DEDUCED, log 15). -/
def Exchange.dropStaging (x : Exchange) : Exchange :=
  { x with slots := #v[x.slots[0].afterReset, x.slots[1].afterReset], staging := none }

/-- The registers that SVC serves take their reset values; those with a place in the store are reloaded from its newest bank (R11,
R521, R542; DEDUCED, log 113). -/
def State.reloadRegs (s : State) : State :=
  let st := s.stores[(0 : Fin 2)]
  let s := (s.updRegs fun r => { r with modErr := 0, lastOffset := 0, keyBad := 0 }).updMb fun m => { m with
    accessErr := 0, notBound := false, bindErr := false }
  match (match st.newest with | some b => st.banks[b].payload | none => StorePayload.empty) with
  | .config _ v => s.updRegs fun r => { r with
      etherType := v.etherType, macA := v.mac[0], macB := v.mac[1], macL := v.mac[2], tsTx := v.tsTx, tsRx := v.tsRx,
      imgKey := v.imgKey, keyValid := v.keyValid }
  | _ => s

def State.clearSvc (s : State) : State :=
  let s := s.reloadRegs
  let groups : Vector Group 8 := Vector.ofFn fun (g : Fin 8) => s.groups[g].dropChange
  let fw : FwSlot → FwSlot := fun z => if z.state == .staging then {} else z
  let m := s.mod
  { s with groups := groups, mb := { s.mb with power := [] }, xch := s.xch.dropStaging,
           mod := { m with confirming := none, resets := [], fwStaging := none, fw := #v[fw m.fw[0], fw m.fw[1]] } }

/-- PRG after a reset: the program is HALTED by the stall, with the retained area of the newest valid bank (R499, R521). -/
def Program.afterReset (data : PrgData) (bank : Boundary) (stamp : Int) (p : Program) : Program :=
  let halt : Halt := { cause := .stall, cycle := p.cycleNumber, stamp := stamp }
  let events := p.events.map fun k => ({ prio := k.prio, trigger := k.trigger } : EventTask)
  { state := .halted, running := p.running, halt := some halt, param := p.param, data := data, boundary := bank, events := events,
    savedStamp := p.savedStamp, savedCycle := p.savedCycle, saves := p.saves, cycleNumber := p.cycleNumber,
    lastReadBus := p.lastReadBus }

def Exchange.afterReset (x : Exchange) : Exchange := { x with switch := none, markerPending := none }

def State.clearPrg (s : State) : State :=
  let bank := s.prg.running.bind fun r => s.retainedBank r.imageId
  let init : PrgData := { mem := Image.initial s.runningImage }
  let data : PrgData := match s.prg.running, bank with
    | some r, some b => r.restore init (rebase b.clock s.prgClock b.data)
    | some _, none => init
    | none, _ => {}
  let cycle := s.prg.cycleNumber
  let stamp := s.now
  let s := (s.updPrg (Program.afterReset data (bank.getD {}) stamp)).updXch Exchange.afterReset
  (s.stopValues).record .prg .programHalt [HaltCause.stall.num.val, cycle, 0, 0]

/-- RNG after a reset: every station that is UP is declared DOWN, transactions and queues are gone, the discard table is empty,
SEQ begins anew under a new EPOCH (R325, R521). -/
def State.clearRng (s : State) : State :=
  let s := (s.ring.stations.map Station.index).foldl (fun s k => s.stationDown k) s
  let s := s.updRing fun r => { r with
    cfgPending := none, seq := 0, epoch := r.epoch + 1, discard := [], branchPending := none, acyclic := [], tunnelsOut := [],
    tunnelsWait := [], tunnelsIn := [], kept := [], serving := [], nodeAddr := none,
    io := { r.io with mapPending := none, image := none },
    stations := r.stations.map fun x => { x with pending := none, back := none } }
  s.updPair fun p => { p with handover := none }

/-- REC after a reset: snapshots are lost, saves end, and a STOP or a switch that waited for one ends with them (R499, R521). -/
def State.clearRec (code : CrossCode) (s : State) : State :=
  let e := stIsland .recorder code
  let s := (s.abandonSave 0).abandonSave 1
  let s := (s.updStore 0 fun x => { x with command := none }).updStore 1 fun x => { x with command := none }
  let s := s.updRec fun r => { r with snaps := [], erasing := none }
  let s := match s.xch.switch with
    | some w => if w.phase = .armed && !w.ownArmed then s.dropSwitch e else s
    | none => s
  if s.prg.stopReq && !s.prg.inMain && s.prg.state != .switching then s.finishStop (.error e) else s

/-- An axis keeps what its set-point words repeat (R265). -/
def Axis.afterReset (a : Axis) : Axis := { servo := { seq := a.servo.seq, record := a.servo.record } }

def State.clearCtl (s : State) : State := { s with loops := Vector.replicate 64 {}, overs := Vector.replicate 8 {}, tune := {} }

def State.clearMot (s : State) : State :=
  { s with axes := Vector.ofFn fun (k : Fin 16) => s.axes[k].afterReset, tables := Vector.replicate 256 none }

/-- A soft reset of an island: every descriptor inside it completes with ISLAND_ERROR, ABORTED where the reset was commanded and
ERROR where it follows a stall, and the island's RAM, engines and queues are cleared (R19, R446, R520, R521). -/
def State.softReset (i : Isl) (code : CrossCode) (s : State) : State :=
  let l := s.islandOrigins i
  let s := match i with
    | .hif => s.resetHif 4
    | .svc => s.clearSvc
    | .prg => s.clearPrg
    | .ctl => s.clearCtl
    | .mot => s.clearMot
    | .rng => s.clearRng
    | .recorder => s.clearRec code
    | .disp => s.updDisp (Display.restart 2)
    | .aon =>
      (s.updMod fun m => { m with powerCycles := m.cyclesCopy, resetCount := m.resetsCopy, lowTime := 0 }).updTime fun v =>
        { v with aonShip := none }
    | .saf | .tim => s
  let o : Outcome := if code = .reset then .aborted (stIsland i code) else .error (stIsland i code)
  (s.completeAll l o).settleHealth

/-! ### After the island is ready (R521) -/

/-- Loops and override groups are enabled from the stored configuration, each at its next grid point (R213, R521). -/
def State.restoreCtl (s : State) : State :=
  s.mod.inForce.foldl (fun s e =>
    if e.opcode.toNat = opLoopConfig && lcEnable e.obj then s.loopConfigWork .self e.obj
    else if e.opcode.toNat = opOverrideConfig && ocEnable e.obj then s.overrideWork .self e.obj
    else s) s

/-- An AXIS_CONFIG waits for the axis's next sample (R244). -/
def State.axisWork (org : Origin) (o : Bytes) (s : State) : State :=
  let ax := acAxis o
  let phase := if s.axes[ax].cfg.isSome then s.axes[ax].phase else s.axisPhase ax o
  s.updAxis ax fun a => { a with pendCfg := some (org, o, phase) }

def State.restoreMot (s : State) : State :=
  s.mod.inForce.foldl (fun s e => if e.opcode.toNat = opAxisConfig && acEnable e.obj then s.axisWork .self e.obj else s) s

/-- Identities an island serves. -/
def islIdents (i : Isl) : List Ident :=
  match i with
  | .prg => [.prg0, .prg1]
  | _ => i.ident.toList

/-- The identities that a reset of their island has reset: those of domains that stay OFF have not started again (R459). -/
def State.resetIdents (s : State) (i : Isl) : List Ident :=
  (islIdents i).filter fun d => s.domain d != .off || s.mb.power.any fun p => p.1 == d.idx

/-- Whether the domain of an island is on (R17, R451). -/
def State.domainOn (s : State) (i : Isl) : Bool :=
  i == .hif || (match i.ident with | some d => s.domain d == .on | none => true)

/-- Domains being powered on that an island serves become ON or SLEEP, their channels are cleared, and the requests complete
(R453, R469). -/
def State.powerDone (i : Isl) (s : State) : State :=
  let l := s.mb.power.filter fun p => (islIdents i).any fun d => d.idx == p.1
  let s := s.updMb fun m => { m with power := m.power.filter fun p => !((islIdents i).any fun d => d.idx == p.1) }
  l.foldl (fun s p =>
    let d := Ident.ofCode (p.1.val + 1)
    ((s.setDomain d p.2.1).clearReceived d).complete p.2.2.1 .done) s

/-- Whether the module lets an island leave its reset: not while RESET_N holds it, nor after FATAL; SAF and TIM need a module
reset (R516, R518, R521, R524). -/
def State.mayRise (s : State) (i : Isl) : Bool := !(i == .saf || i == .tim || s.mod.state == .reset || s.mod.state == .fatal)

/-- ISLAND_READY (R19, R467, R521, R522). -/
def execIslandReady (t : Ns) (i : Isl) (s : State) : Res :=
  let s := s.begin t
  if s.up i || !s.mayRise i then .next s
  else
    let s := s.updIsland i.idx fun x => { x with
      state := .running, code := none, serviced := s.clock, resets := satAdd 32 x.resets 1 }
    let s := if i == .hif then s else (s.resetIdents i).foldl (fun s d => s.bumpEpoch d) s
    let s := match i with
      | .ctl => s.restoreCtl
      | .mot => s.restoreMot
      | .recorder => s.recoverRecorder []
      | _ => s
    let s := (islIdents i).foldl (fun s d => s.rewake d) (s.powerDone i)
    let l := s.mod.resets.filter fun r => r.1 == i
    let s := s.updMod fun m => { m with resets := m.resets.filter fun r => r.1 != i }
    .next ((s.completeAll (l.map Prod.snd) .done).settleHealth)

/-! ### Stalls (R17 to R19, R517, R521) -/

/-- What the module does about a stall (R315, R517, R521). -/
def State.react (i : Isl) (code : CrossCode) (s : State) : State :=
  match i with
  | .saf => s.islandFault .stall
  | .tim => s.driveReset .timStall
  | .svc =>
    let again := s.mod.lastSvcStall.any fun l => decide (s.clock ≤ l + 3600000000000)
    let s := (s.softReset .svc code).updMod fun m => { m with lastSvcStall := some s.clock }
    if again then s.driveReset .svcStall else s
  | i => s.softReset i code

/-- An island is stalled: its crossings answer with the code, the stall is recorded, and the reaction of R521 follows. -/
def State.stall (i : Isl) (code : CrossCode) (s : State) : State :=
  ((s.markStall i .stalled code).react i code).settleHealth

/-- ISLAND_WATCHDOG_EXPIRY (R14, R17 to R19, R521): an island in SLEEP or OFF is not stalled. -/
def execIslandWatchdogExpiry (t : Ns) (i : Isl) (s : State) : Res :=
  let s := s.begin t
  if !s.up i || !s.domainOn i || s.clock < s.due i (s.island i).serviced i.watchdog then .next s
  else .next (s.stall i .stalled)

/-! ### Crossings (R15 to R18, R22) -/

/-- What a transfer does at its destination: an output value goes to the lane hub, which takes it from the owner alone (R22). -/
def State.deliver (src : Isl) (x : Transfer) (s : State) : State :=
  match x with
  | .output ch on value failSig => s.ownerWrite src ch on (some value) failSig
  | .other _ => s

/-- CROSSING_REQUEST (R16 to R18): a destination in SLEEP accepts nothing before it is ON (R451). -/
def execCrossingRequest (t : Ns) (src dst : Isl) (x : Transfer) (accepted : Bool) (s : State) : Res :=
  let s := s.begin t
  match s.islandCode dst with
  | some c => .next (s.emit (.crossingError src dst c))
  | none =>
    if accepted && s.domainOn dst then .next ((s.deliver src x).emit (.delivered dst x))
    else .next { s with crossings := s.crossings ++ [{ src := src, dst := dst, since := s.clock, payload := x }] }

/-- CROSSING_TIMEOUT (R17 to R19, R521). -/
def execCrossingTimeout (t : Ns) (src dst : Isl) (s : State) : Res :=
  let s := s.begin t
  let due := s.crossings.any fun x => x.src == src && x.dst == dst && decide (s.due dst x.since dst.crossTimeout ≤ s.clock)
  if due && s.up dst && s.domainOn dst then .next (s.stall dst .timeout) else .next s

/-! ### Records (R31, R475, R478) -/

/-- RECORD_SUBMIT (R31, R478). -/
def execRecordSubmit (t : Ns) (src : Isl) (kind : RecKind) (items : List Int) (s : State) : Res :=
  .next ((s.begin t).record src kind items)

/-- RECORDS_DROPPED (R31): when room returns, one record names each source with its count. -/
def execRecordsDropped (t : Ns) (s : State) : Res :=
  let s := s.begin t
  let l := (List.finRange 11).filter fun i => s.recorder.dropped[i] != 0
  let items : List Int := l.flatMap fun (i : Fin 11) =>
    let n : Nat := s.recorder.dropped[i]
    [(i.val : Int), (n : Int)]
  if l.isEmpty || !s.recorder.room .recorder (recLength .recordsDropped items) then .next s
  else .next ((s.updRec fun r => { r with dropped := Vector.replicate 11 0 }).record .recorder .recordsDropped items)

/-! ### Deferred decisions (R41) -/

/-- The deadline a timeout has now, where it runs. -/
def State.deadlineOf (s : State) (w : Timeout) : Option Ns :=
  match w with
  | .station k => s.stationDeadline k
  | .ioStation => s.ring.io.lastIngress.map fun l => s.due .rng l (s.ring.cfg.wdCycles * s.tBus)
  | .mailbox n => if s.mb.boxes[n].go then s.ackDeadline n else none
  | .discrepancy sf p => if s.saf.fns[sf].state.active then (s.discrepant sf p).map fun l => (l - s.time.ringOff).toNat else none
  | .safetyFrame c => s.connDeadline c
  | .heartbeat h => s.heartbeatDeadline h

/-- What the expiry of a timeout does. -/
def State.expire (w : Timeout) (s : State) : State :=
  match w with
  | .station k => s.stationDown k
  | .ioStation => s.ioExpired
  | .mailbox n => s.ackExpires n
  | .discrepancy sf p =>
    let codes := s.sfCodes
    let c := SfCause.discrepancy p (follower (s.sfEntry sf) p.val s.saf.fns[sf].pairs[p].firstIsA)
    (s.lockSf sf c).afterLock codes
  | .safetyFrame c => s.watchdogLost c
  | .heartbeat h => s.heartbeatLost h

/-- The latest arrival that a timeout awaits again and again, on the clock. -/
def State.arrivalOf (s : State) (w : Timeout) : Option Ns :=
  match w with
  | .station k => (s.station? k).bind Station.lastIngress
  | .ioStation => s.ring.io.lastIngress
  | .safetyFrame c => s.saf.conns[c].lastIngress
  | .heartbeat h => s.heartbeatAt h
  | .mailbox _ | .discrepancy _ _ => none

/-- A deferred decision takes effect: the timeout expires unless it no longer runs or has been armed anew; an arrival stamped after
the deadline arms nothing (R40). -/
def State.decideExpiry (d : Deferred) (s : State) : State :=
  match s.deadlineOf d.which with
  | some now =>
    if decide (now ≤ d.deadline) || (s.arrivalOf d.which).any (fun a => decide (d.deadline < a)) then s.expire d.which else s
  | none => s

/-- TIMEOUT_DECISION_DEFERRED (R40, R41): a frame that came whole and in time forestalls the expiry; one that failed its CRC does
not, and the decision waits on while another such frame is in reception. -/
def execTimeoutDecisionDeferred (t : Ns) (which : Timeout) (good : Bool) (stamp : Ns) (s : State) : Res :=
  let s := s.begin t
  let others := s.deferred.filter fun d => d.which != which
  match s.deferred.find? fun d => d.which == which with
  | none => .next s
  | some d =>
    let rest := d.receiving.erase stamp
    if good && decide (stamp ≤ d.deadline) then .next { s with deferred := others }
    else if !rest.isEmpty then .next { s with deferred := others ++ [{ d with receiving := rest }] }
    else .next (State.decideExpiry d { s with deferred := others })

/-! ### ISLAND_RESET (R522) -/

/-- Islands of R37 by index. -/
def islOfIdx : Nat → Option Isl
  | 0 => some .hif | 1 => some .svc | 2 => some .prg | 3 => some .ctl | 4 => some .mot | 5 => some .saf | 6 => some .rng
  | 7 => some .tim | 8 => some .recorder | 9 => some .disp | 10 => some .aon | _ => none

/-- Whether an island may be reset by command, as its state stands (R522). -/
def State.resetCheck (s : State) (i : Isl) : Option Outcome :=
  match i with
  | .hif | .svc | .saf | .tim | .aon => some (.policy stPolicyRule)
  | .prg => fails (!(s.prg.state == .stopped || s.prg.state == .halted)) (.error stWrongState)
  | .ctl => fails ((List.finRange 64).any fun k => s.loops[k].cfg.isSome) (.error stWrongState)
  | .mot => fails ((List.finRange 16).any fun k => s.axes[k].cfg.isSome) (.error stWrongState)
  | _ => fails (s.mod.resets.any fun r => r.1 == i) .busy

/-- ISLAND_RESET (R522): it completes DONE when the island is ready. -/
def execIslandReset (t : Ns) (org : Origin) (param : Bytes) (s : State) : Res :=
  let s := s.begin t
  let i := islOfIdx (rd param 0 1)
  serve org opIslandReset [.svc] (badField (param.length != 16 || !zeroAt param 1 15 || i.isNone))
    (i.bind s.resetCheck)
    (fun s => match i with
      | none => s
      | some i =>
        ((s.softReset i .reset).markStall i .inReset .reset).settleHealth.updMod fun m =>
          { m with resets := m.resets ++ [(i, org)] }) s

/-! ### DOMAIN_POWER (R450, R451, R469) -/

def stDomainInUse : BitVec 16 := 0x0B00
def stDomainFixed : BitVec 16 := 0x0B01

def domOf : Nat → Dom
  | 0 => .off | 1 => .sleep | _ => .on

/-- Whether a domain is in use, so that it may not leave ON (R469). -/
def State.domainInUse (s : State) (d : Ident) : Bool :=
  let rest := s.prg.state == .stopped || s.prg.state == .halted
  match d with
  | .prg0 => !rest
  | .prg1 => !rest && (!s.prg.events.isEmpty || (s.prg.running.map Running.hasCycleLong).getD false)
  | .ctl => (List.finRange 64).any (fun k => s.loops[k].cfg.isSome) || (List.finRange 8).any (fun k => s.overs[k].cfg.isSome)
      || s.tune.running.isSome
  | .mot => (List.finRange 16).any fun k => s.axes[k].cfg.isSome
  | _ => false

/-- The island of an identity whose domain can be switched. -/
def identIsl : Ident → Option Isl
  | .prg0 | .prg1 => some .prg | .ctl => some .ctl | .mot => some .mot | _ => none

/-- The checks of DOMAIN_POWER (R469). -/
def State.domainCheck (s : State) (d : Ident) (target : Dom) : Option Outcome :=
  firstOf
    [fails (identIsl d).isNone (.error stDomainFixed),
     fails (s.mb.power.any fun p => p.1 == d.idx) .busy,
     fails (target != .on && s.domain d == .on && s.domainInUse d) (.error stDomainInUse),
     fails (target == .off && (List.finRange 32).any fun n => s.bindEnabled n && s.bindReceiver n == d && s.mb.boxes[n].go)
       (.error stDomainInUse)]

/-- A domain leaves OFF: the island starts as after a soft reset, and the request ends when it is ready. Until then the domain is
OFF, so that the island is not stalled and its crossings answer ERR_DOMAIN_OFF (R17). PRG1 shares its island with PRG0: where that is
ON, PRG1 alone starts (R469; DEDUCED, log 16). -/
def State.powerUp (org : Origin) (d : Ident) (target : Dom) (s : State) : State :=
  match identIsl d with
  | none => s
  | some i =>
    if d == .prg1 && s.domain .prg0 != .off then
      (((s.setDomain d target).bumpEpoch d).clearReceived d).complete org .done
    else
      let s := (s.softReset i .reset).updIsland i.idx fun x => { x with state := .inReset, code := none }
      s.updMb fun m => { m with power := m.power ++ [(d.idx, target, org, s.clock)] }

/-- DOMAIN_POWER (R469). -/
def execDomainPower (t : Ns) (org : Origin) (param : Bytes) (s : State) : Res :=
  let s := s.begin t
  let d := Ident.ofCode (rd param 0 1)
  let target := domOf (rd param 1 1)
  serve org opDomainPower [.svc] (badField (param.length != 16 || decide (2 < rd param 1 1) || !zeroAt param 2 14))
    (s.domainCheck d target)
    (fun s =>
      if s.domain d == .off && target != .off then s.powerUp org d target
      else (s.setDomain d target).complete org .done) s

end Sys2Proof.Machine
end

