-- ==== Sys2Proof/Machine/Startup.lean ====
section
/-! DEFINITION. Module resets and start-up: power-on, RESET_N, self-test, LOADING and the master's confirmation (R2, R75, R196,
R489, R499, R516 to R529, R533, R542, R544, R555, R571, R575, R576). -/

namespace Sys2Proof.Machine

/-! ### Firmware slots (R532, R533) -/

/-- The section table of a firmware image: bounds and CRCs (R532). -/
def fwSectionsOk (b : Bytes) : Bool :=
  let n := Image.count b
  decide (1 ≤ n) && decide (n ≤ 16) &&
    (List.range n).all (fun i => decide (128 + 16 * n ≤ Image.secOff b i) && decide (Image.secOff b i + Image.secLen b i ≤ b.length - 80)) &&
    Image.crcsOk b

/-- The signature of a firmware image under the four keys of the boot ROM; the image the module was built with carries a good one
(R532, R612). -/
def fwSigned (b : Bytes) : Bool :=
  b == Config.factoryFw ||
    (decide (Image.keyIndex b ≤ 3) &&
      Ed25519.verify (keyBytes (Config.vendorKeys (Fin.ofNat 4 (Image.keyIndex b)))) (Image.signed b) (Image.signature b))

/-- The first failing check of R532 with its outcome. -/
def fwVerify (b : Bytes) : Option (Nat × Outcome) :=
  if !Image.formatOk 2 b || decide (8388608 < b.length) then some (1, .error stImageFormat)
  else if 3 < Image.keyIndex b then some (2, .error stKeyNotValid)
  else if !fwSigned b then some (3, .error stSignatureBad)
  else if !fwSectionsOk b then some (4, .error stImageFormat)
  else none

def otherSlot (k : Fin 2) : Fin 2 := if k = 0 then 1 else 0

/-- SVC starts the firmware of the boot slot, or of the other one where its signature fails, with event and record FW_FALLBACK
(R533). -/
def State.bootFirmware (s : State) : State :=
  let k := s.mod.fwBoot
  let good := fwSigned s.mod.fw[k].bytes
  let run := if good then k else otherSlot k
  let s := s.updMod fun m =>
    let other := otherSlot run
    let fw := (m.fw.set run { m.fw[run] with state := .running })
    let fw := if fw[other].state == .running then fw.set other { fw[other] with state := .verified } else fw
    { m with fwRunning := run, fw := fw }
  if good then s else (s.record .svc .fwFallback [k.val, run.val]).postEvent 0x0112 0 (wr 1 k.val ++ wr 1 run.val)

/-! ### What a module reset leaves (R499, R516, R520) -/

def ResetCause.code : ResetCause → Nat
  | .powerOn => 0 | .resetN => 1 | .tmr => 2 | .timStall => 3 | .svcStall => 4 | .hif => 5 | .islandReset => 6

/-- Calibration is kept with the ledger; a check in progress is not (R114, R520; DEDUCED, log 72). -/
def Chan.afterReset (c : Chan) : Chan := { cal := { c.cal with running := none } }

/-- The recorder keeps journal and flash; counts of its intake, snapshots and an erase in progress are lost (R499). -/
def Recorder.afterReset (r : Recorder) : Recorder :=
  { r with dropped := Vector.replicate 11 0, droppedTotal := Vector.replicate 11 0, snaps := [], erasing := none, unsent := [],
           overwritten := 0 }

/-- A store keeps its banks; a save that ran has made its target bank invalid, and changes not saved are lost (R491, R499, R619). -/
def Store.afterReset (retained : Bool) (x : Store) : Store :=
  { x with running := none, waiting := [], clearWait := none, command := none, changeSeq := 0, savedSeq := 0, oldest := none,
           newer := none, inUse := none, lost := false, heldBack := retained && x.heldBack }

/-- The slots of program images with their contents; none runs before LOADING (R520). -/
def Slot.atRest (z : Slot) : Slot := if z.state == .running then { z with state := .verified } else z.afterReset

/-- What the module as a whole keeps: ledger, counts, firmware, terms granted (R361, R499, R520). -/
def Module.afterReset (cause : ResetCause) (clock : Ns) (m : Module) : Module :=
  let fw : FwSlot → FwSlot := fun z => if z.state == .staging then {} else z
  { m with
    state := .selftest, strapped := none, conflict := false, lastReset := cause, testMode := false, selftest := none,
    selftestMs := 0, prgFailed := false, timeZero := clock, lowSince := none, drivenUntil := none, lastSvcStall := none,
    loaded := [], loadedCrc := 0, loadedSeq := 0, inForce := [], confirming := none, failAt := none, vlogBack := false,
    lanesStopped := false, powered := true, charged := false, fw := #v[fw m.fw[0], fw m.fw[1]], fwStaging := none, resets := [] }

/-- The module after a reset that ends now: every island's state is cleared, the field side, the stores, the recorder, the display
panel, the ledger and the test controls stay; ring time restarts at 0 in FREE_RUN (R390, R516, R520). -/
def State.afterReset (cause : ResetCause) (s : State) : State :=
  let chans : Vector Chan 128 := Vector.ofFn fun (i : Fin 128) => s.chans[i].afterReset
  let ring : Ring := { epoch := BitVec.ofNat 4 (s.mod.resetCount.toNat + s.mod.powerCycles.toNat), busStart := s.clock }
  let time : Time := { ringOff := -(s.clock : Int), progOff := -(s.clock : Int), lastBetter := s.clock, gmLast := s.clock,
                       aonShip := s.time.aonShip }
  let xch : Exchange := { slots := #v[s.xch.slots[0].atRest, s.xch.slots[1].atRest] }
  let regs : Regs := { testCtl := s.regs.testCtl, joinInhibit := cause != .powerOn && s.regs.joinInhibit }
  let islands : Vector Island 11 := Vector.replicate 11 { serviced := s.clock }
  { clock := s.clock, tickAt := s.clock, islands := islands, cells := s.cells, gfes := s.gfes, chans := chans, xch := xch,
    saf := { tMus := s.saf.tMus }, ring := ring, pair := { refStart := s.clock }, time := time, regs := regs,
    hif := { perstLow := s.hif.perstLow }, recorder := s.recorder.afterReset,
    stores := #v[s.stores[0].afterReset false, s.stores[1].afterReset true],
    disp := s.disp.restart 0, mod := s.mod.afterReset cause s.clock, free := s.free, out := s.out, pending := s.pending }

/-- Ship time as AON has kept it: PROVISIONAL, or UNSET where AON holds none (R399, R499). -/
def State.loadShip (ship : Option Int) (s : State) : State :=
  match ship with
  | none => s.updTime fun v => { v with ship := .unset, shipOff := 0, aonShip := none }
  | some x => s.updTime fun v => { v with ship := .provisional, shipOff := x - s.now, aonShip := some (x, s.clock) }

/-- The straps as sampled when module reset ends; a reserved code gives no role (R2, R575 to R577). -/
def State.sample (p : Straps) (s : State) : State :=
  (s.updMod fun m => { m with strapped := Role.ofCode p.pairId.toNat, testMode := p.testMode }).updRegs fun r =>
    { r with pairId := p.pairId, failDir := p.failDirHigh }

/-- The straps a restart without a new sampling uses. -/
def State.straps (s : State) : Straps := { pairId := s.regs.pairId, failDirHigh := s.regs.failDir, testMode := s.mod.testMode }

/-- The start-up's beginning: islands leave reset, SVC starts its firmware, and the first record tells of the reset (R519, R523,
R533). -/
def State.rise (p : Straps) (s : State) : State :=
  let m := s.mod
  let s := (s.sample p).record .svc .resetRelease [m.lowTime.toNat, b2n m.lowAtPowerOff, b2n m.drove, m.lastReset.code]
  let s := s.updMod fun m => { m with cyclesCopy := m.powerCycles, resetsCopy := m.resetCount, lowAtPowerOff := false }
  s.bootFirmware.settleHealth

/-- A power-on: POWER_CYCLES rises; counts and ship time come from AON, or with VBAT absent from the ledger's copies and not at all
(R399, R499, R519, R523). -/
def State.powerUpModule (vbat : Bool) (p : Straps) (offTime : Nat) (s : State) : State :=
  let counts (m : Module) : Module :=
    let c := if vbat then m.powerCycles else m.cyclesCopy
    let n := if vbat then m.resetCount else m.resetsCopy
    { m with powerCycles := c + 1, resetCount := n, offTime := if vbat then some offTime else none, drove := false,
             lowTime := if m.lowAtPowerOff then m.lowTime else 0, offAt := none }
  let kept := s.time.aonShip.map fun x => x.1 + (((s.mod.offAt.getD x.2 - x.2 : Nat) : Int)) + (offTime : Int) * 1000000000
  let s := (s.updMod counts).afterReset .powerOn
  (s.loadShip (if vbat then kept else none)).rise p

/-- POWER_ON (R516, R519, R520, R523). -/
def execPowerOn (t : Ns) (vbat : Bool) (straps : Straps) (offTime : Nat) (s : State) : Res :=
  .next ((s.begin t).powerUpModule vbat straps offTime)

/-- Every island but AON is held in reset (R516, R518). -/
def State.holdReset (s : State) : State :=
  let aon := s.islands[10]
  let held : Vector Island 11 := (Vector.replicate 11 { state := .inReset, serviced := s.clock }).set 10 aon
  { s with islands := held }

/-- RESET_N_LOW (R516, R518, R519): AON counts the edge and measures from it; the edge lies 2 µs before. -/
def execResetNLow (t : Ns) (s : State) : Res :=
  let s := s.begin t
  if s.mod.lowSince.isSome || !s.mod.powered then .next s
  else
    let drove := s.mod.drivenUntil.isSome
    let cause := if drove then s.mod.safeCause.getD .resetN else .resetN
    let until_ := s.mod.drivenUntil
    let ship := s.time.aonShip
    let s := s.updMod fun m => { m with resetCount := m.resetCount + 1 }
    let s := (s.afterReset cause).holdReset
    let s := s.updTime fun v => { v with aonShip := ship }
    .next (s.updMod fun m => { m with
      state := .reset, lowSince := some (s.clock - 2000), drivenUntil := until_, drove := drove,
      safeRestart := m.safeRestart || drove })

/-- The low time in units of 1/32,768 s, saturating (R519). -/
def lowUnits (d : Ns) : BitVec 32 := BitVec.ofNat 32 (min (d * 32768 / 1000000000) 4294967295)

/-- RESET_N_RELEASE (R517 to R519, R523): the module itself holds RESET_N for its 20 ms. -/
def execResetNRelease (t : Ns) (straps : Straps) (s : State) : Res :=
  let s := s.begin t
  match s.mod.lowSince with
  | none => .next s
  | some low =>
    if s.mod.drivenUntil.any (s.clock < ·) || !s.mod.powered then .next s
    else
      let drove := s.mod.drove
      let measured := s.up .aon
      let ship := s.time.aonShip.map fun x => x.1 + ((s.clock - x.2 : Nat) : Int)
      let s := s.afterReset s.mod.lastReset
      let s := s.updMod fun m => { m with lowTime := if measured then lowUnits (s.clock - low) else 0, drove := drove }
      .next ((s.loadShip ship).rise straps)

/-! ### Objects come into force (R525, R529) -/

/-- A STATION_CONFIG of the store (R343, R344, R529). -/
def State.stationLoad (o : Bytes) (s : State) : State :=
  let index := rd o 0 2
  let s := if (s.station? index).isSome then s else s.updRing fun r => { r with
    stations := insertStation { index := index, obj := [], state := .disabled } r.stations }
  s.stationInForce index o

/-- Whether the field side holds exactly this configuration (R45, R75). -/
def State.groupHeld (s : State) (o : Bytes) : Bool :=
  match s.gfes[gcGroup o].cfg with
  | some c => crc32c c == crc32c o
  | none => false

/-- Every output of a group is held until its owner has written (R75). -/
def State.holdGroup (g : Fin 8) (s : State) : State :=
  forAll 16 (fun i s => s.updChan (chanOf g i) fun c =>
    { c with fresh := false, swapped := false, holdReq := (s.mode (chanOf g i)).isOut }) s

/-- A group whose held configuration matches is adopted with its epoch, and its outputs are held until their owners have written
(R75). -/
def State.groupKeep (o : Bytes) (s : State) : State :=
  let g := gcGroup o
  let s := s.groupAdopt g o s.gfes[g].epoch
  (s.updGroup g fun q => { q with served := true }).holdGroup g

/-- Order of the confirmation's second step (R529): ring, time and pair settings, program parameters, stations, tables, groups,
image map, loops, override groups, axes, safety. -/
def forceRank (op : Nat) : Nat :=
  if op = opRingConfig then 0 else if op = opTimeConfig then 1 else if op = opPairConfig then 2 else if op = opBranchConfig then 3
  else if op = opProgramParam then 4 else if op = opStationConfig then 5 else if op = opCharLoad then 6
  else if op = opGroupConfig then 7 else if op = opImageMap then 8 else if op = opLoopConfig then 9
  else if op = opOverrideConfig then 10 else if op = opAxisConfig then 11 else if op = opSafetyConfig then 12 else 13

/-- The entries in that order. -/
def inForceOrder (l : List CfgEntry) : List CfgEntry :=
  (List.range 14).flatMap fun r => l.filter fun e => forceRank e.opcode.toNat = r

/-- One stored object comes into force as at a start-up (R529). A group that was adopted stays as it is, and a table gets the stamp of
this instant (R126; DESIGN CHOICE, log 93). -/
def State.putInForce (e : CfgEntry) (s : State) : State :=
  let o := e.obj
  let op := e.opcode.toNat
  if op = opRingConfig then s.ringInForce o
  else if op = opTimeConfig then s.timeInForce o
  else if op = opPairConfig then
    if s.isPair then s.pairInForce o else if s.role = some .referee then s.holdPair o else s
  else if op = opBranchConfig then s.branchInForce o
  else if op = opProgramParam then
    (s.updPrg fun p => { p with param := paramOf o }).storeObject e.opcode 0 (some o)
  else if op = opStationConfig then s.stationLoad o
  else if op = opCharLoad then s.loadChar o
  else if op = opGroupConfig then
    if s.groups[gcGroup o].cfg = some o || s.groups[gcGroup o].change.isSome then s else s.groupBegin .self o
  else if op = opImageMap then s.mapInForce o
  else if op = opLoopConfig then s.loopConfigWork .self o
  else if op = opOverrideConfig then s.overrideWork .self o
  else if op = opAxisConfig then if acEnable o then s.axisWork .self o else s
  else if op = opSafetyConfig then s.safActivate true o
  else s

/-! ### Self-test and LOADING (R2, R75, R196, R481, R489, R523 to R525, R542, R544, R555) -/

/-- Outcomes that put the module into FATAL (R524): the crossings into SVC, TIM and REC are those of index 1, 7 and 8. -/
def SelfTestFatal (x : SelfTest) : Bool :=
  !x.svcSram || !x.oscillator || !x.memories || [1, 7, 8].any fun i => !(x.crossings[i]?).getD true

/-- The outcomes as the SELFTEST record holds them. -/
def selfTestItems (x : SelfTest) : List Int :=
  ([b2n x.svcSram, b2n x.oscillator, b2n x.memories, b2n x.prgSram, b2n x.safMemory] : List Nat).map (fun n => (n : Int))
    ++ x.crossings.map (fun c => (b2n c : Int))
    ++ x.badLanes.map (fun c => (c.val : Int)) ++ x.badGroupLanes.map (fun g => (128 + g.val : Int))
    ++ x.badPorts.map fun p => ((Port.idx p).val : Int)

/-- FATAL (R524): every island but HIF, SVC, REC and AON in reset; with a failed crossing between HIF, SVC and REC nothing is
served over PCIe. -/
def State.goFatal (x : SelfTest) (s : State) : State :=
  let cut := [0, 1, 8].any fun i => !(x.crossings[i]?).getD true
  let s := forAll 11 (fun i s =>
    if [0, 1, 8, 10].contains i.val && !(cut && i.val == 0) then s
    else s.updIsland i fun y => { y with state := .inReset, code := none }) s
  s.updMod fun m => { m with state := .fatal }

/-- The registers of the configuration bank are restored (R490, R542). -/
def State.restoreRegs (v : StoredRegs) (s : State) : State :=
  let bind : Vector Tmr 32 := Vector.ofFn fun (n : Fin 32) => Tmr.of v.bind[n]
  let s := s.updRegs fun r => { r with
    storedRole := v.role, nodeAddr := .of v.nodeAddr, groupEn := .of v.groupEn, etherType := v.etherType, macA := v.mac[0],
    macB := v.mac[1], macL := v.mac[2], tsTx := v.tsTx, tsRx := v.tsRx, imgKey := v.imgKey, keyValid := v.keyValid }
  let s := s.updMb fun m => { m with bind := bind }
  (s.updXch fun x => { x with marker := v.marker }).updPair fun p => { p with term := v.term, epoch := v.epoch }

/-- The configuration store is loaded: the newest valid bank, or factory defaults (R489). -/
def State.loadConfig (s : State) : State :=
  let s := s.selectBank 0
  let s := s.updStore 1 fun x => { x with inUse := x.newest }
  match s.stores[(0 : Fin 2)].inUse with
  | none => s
  | some b =>
    let bank := s.stores[(0 : Fin 2)].banks[b]
    match bank.payload with
    | .config l v =>
      (s.restoreRegs v).updMod fun m => { m with loaded := l, loadedCrc := bank.crc, loadedSeq := bank.seq }
    | _ => s

/-- The role is read, once (R2, R544, R576): a stored role must equal the strapped one; factory defaults take the strapped one. A
reserved strap code is a conflict and reports CONTROLLER. -/
def State.readRole (s : State) : State :=
  let stored := Role.ofCode s.regs.storedRole.toNat
  let role := match s.mod.strapped with | none => Role.controller | some p => stored.getD p
  let conflict := s.mod.strapped.isNone || (stored.isSome && stored != s.mod.strapped)
  (s.updRegs fun r => { r with role := .of (BitVec.ofNat 32 role.code) }).updMod fun m => { m with conflict := conflict }

/-- Group lanes are read: a group that holds the loaded configuration is adopted, one that holds another stays silent (R75, R523,
R525). -/
def State.readGroups (s : State) : State :=
  let l := s.mod.loaded.filter fun e => e.opcode.toNat = opGroupConfig
  let s := forAll 8 (fun g s => s.updGroup g fun q => { q with served := s.gfes[g].cfg.isNone, epoch := s.gfes[g].epoch }) s
  l.foldl (fun s e => if gcEnable e.obj && s.groupHeld e.obj then s.groupKeep e.obj else s) s

/-- The first failing check of the image the marker names (R196). -/
def startImageCheck (s : State) (b : Bytes) : Option Nat :=
  if !Image.formatOk 1 b then some 1 else if !s.signatureOk b then some 3 else if !Image.tableOk b then some 4 else none

/-- The image that the running-slot marker names is checked and loaded (R195, R196). -/
def State.loadImage (s : State) : State :=
  match s.xch.marker with
  | none => s
  | some k =>
    let b := s.xch.slots[k].bytes
    match startImageCheck s b with
    | some n =>
      (s.updXch fun x => x.upd k fun z => { z with state := .invalid, failing := n }).record .svc .imageLost [k.val, n]
    | none =>
      (s.updXch (Exchange.enter k)).updPrg fun p =>
        { p with running := some (Image.load k b), events := Image.events b, data := { mem := Image.initial b } }

/-- One TEST_CTL_FOUND record for every test control that is set (R555). -/
def State.testCtlFound (s : State) : State :=
  (List.range 24).foldl (fun s i => if s.regs.testCtl.getLsbD i then s.record .svc .testCtlFound [i % 8, i / 8] else s) s

/-- The pairs a referee holds and the ranges of a branch node are in force from the end of LOADING (R525). -/
def State.earlyForce (s : State) : State :=
  let l := s.mod.loaded.filter fun e =>
    (s.role = some .referee && (e.opcode.toNat = opPairConfig)) || (s.role = some .branch && (e.opcode.toNat = opBranchConfig))
  l.foldl (fun s e => s.putInForce e) s

/-- LOADING, at the end of which the module waits for its confirmation (R523, R525, R533). -/
def State.loadAll (s : State) : State :=
  let s := (s.recoverRecorder (freshRecords s.recorder.intake)).loadConfig.readRole
  let s := s.readGroups.loadImage.testCtlFound.earlyForce
  let s := (s.updHif fun h => { h with ready := !h.perstLow }).settleHost
  let s := s.updMod fun m => { m with
    state := .waitConfirm, fwTrial := m.fwTrial && m.fwRunning != m.fwBoot }
  s.postEvent 0x0110 0 []

/-- SELFTEST_COMPLETE (R523, R524): each outcome takes its reaction, then LOADING runs. -/
def execSelftestComplete (t : Ns) (test : SelfTest) (s : State) : Res :=
  let s := s.begin t
  if s.mod.state != .selftest then .next s
  else
    let ms := (s.clock - s.mod.timeZero) / 1000000
    let s := s.updMod fun m => { m with selftest := some test, selftestMs := ms, prgFailed := !test.prgSram }
    let s := s.record .svc .selftest (selfTestItems test)
    if SelfTestFatal test then .next (s.goFatal test).settleHealth
    else
      let s := s.updMod fun m => { m with state := .loading }
      let s := forAll 11 (fun i s => match islOfIdx i.val with
        | some isl => if (test.crossings[i.val]?).getD true then s else s.stall isl .timeout
        | none => s) s
      let s := if test.safMemory then s else s.islandFault .memory
      let s := test.badLanes.foldl (fun s c => s.putDiag c .laneFailed true) s
      let s := test.badGroupLanes.foldl (fun s g => s.updGroup g fun q => { q with laneFailed := true }) s
      .next s.loadAll.settleHealth

/-! ### The master's confirmation (R527 to R529) -/

def mcCrc (o : Bytes) : Nat := rd o 0 4
def mcSeq (o : Bytes) : Nat := rd o 4 4
def mcRole (o : Bytes) : Nat := rd o 8 1
def mcShip (o : Bytes) : Bool := rdBits o 9 1 1 == 1
def mcDiscard (o : Bytes) : Bool := rdBits o 9 0 0 == 1

/-- Fields of MASTER_CONFIRM (R527). -/
def State.confirmFormat (s : State) (o : Bytes) : Bool :=
  o.length == 32 && decide (mcRole o ≤ 5) && rdBits o 9 7 2 == 0 && zeroAt o 10 6 && (!mcShip o || s.timeSlave) &&
    (!mcDiscard o || (mcCrc o == 0 && mcSeq o == 0))

/-- The cases of R528. In factory test mode the module never leaves the wait (R571; DEDUCED, log 73). -/
def State.confirmCheck (s : State) (o : Bytes) : Option Outcome :=
  firstOf
    [fails s.mod.confirming.isSome .busy,
     fails (s.mod.state != .waitConfirm) (.error stNotWaiting),
     fails (s.mod.conflict || (s.role.map Role.code) != some (mcRole o)) (.error stRoleConflict),
     fails (!mcDiscard o && (mcCrc o != s.mod.loadedCrc.toNat || mcSeq o != s.mod.loadedSeq.toNat)) (.error stConfirmMismatch),
     fails s.mod.testMode .policy]

/-- The confirmation is complete: SERVICE, DONE, and with AUTO_RUN a RUN WARM (R517, R529). -/
def State.confirmDone (org : Origin) (s : State) : State :=
  let s := ((s.updMod fun m => { m with confirming := none, state := .service }).complete org .done).settleHealth
  match s.prg.running with
  | some r =>
    if s.prg.param.autoRun && !s.mod.safeRestart && !s.mod.prgFailed && s.runsPrograms && s.prg.state == .stopped then
      s.startProgram false .self r
    else s
  | none => s

/-- A group settles during a confirmation: the last one completes it. -/
def State.confirmSettled (g : Fin 8) (s : State) : State :=
  match s.mod.confirming with
  | none => s
  | some (org, l) =>
    let l := l.filter (· != g)
    if l.isEmpty then s.confirmDone org else s.updMod fun m => { m with confirming := some (org, l) }

/-- A group whose transfer failed during a confirmation is not in force, so the confirmation ends with its error and the module
serves with the rest (R79, R528; DEDUCED, log 73). -/
def State.confirmFailed (g : Fin 8) (s : State) : State :=
  match s.mod.confirming with
  | none => s
  | some (org, l) =>
    ((s.complete org (.error stLaneFailed)).updMod fun m => { m with confirming := some (.self, l) }).confirmSettled g

/-- After a confirmation with DISCARD nothing is in force: adopted groups are let go and stay silent, referees and branch nodes
hold nothing (R529). -/
def State.discard (s : State) : State :=
  let s := forAll 8 (fun g s =>
    (s.writeOwners g (fun _ => .none)).updGroup g fun q => { q with cfg := none, served := s.gfes[g].cfg.isNone }) s
  let s := s.updRing fun r => { r with branch := [] }
  (s.updPair fun p => { p with held := [] }).updMod fun m => { m with loaded := [], inForce := [] }

/-- Step 1: in the roles of R402 ship time steps to the master's (R402, R529). -/
def State.confirmShip (o : Bytes) (s : State) : State :=
  if s.timeSlave && mcShip o then s.stepShip (rdS o 24 8 - rdS o 16 8) else s

/-- Step 2, and what waits for the groups that must be configured. -/
def State.confirmWork (org : Origin) (o : Bytes) (s : State) : State :=
  let s := s.confirmShip o
  if mcDiscard o then s.discard.confirmDone org
  else
    let l := inForceOrder s.mod.loaded
    let s := s.updMod fun m => { m with inForce := m.loaded }
    let early (e : CfgEntry) : Bool := e.opcode.toNat = opBranchConfig || (s.role = some .referee && e.opcode.toNat = opPairConfig)
    let s := (l.filter fun e => !early e).foldl (fun s e => s.putInForce e) s
    let waits := (List.finRange 8).filter fun g => s.groups[g].change.isSome
    if waits.isEmpty then s.confirmDone org else s.updMod fun m => { m with confirming := some (org, waits) }

/-- MASTER_CONFIRM (R526 to R529). -/
def execMasterConfirm (t : Ns) (org : Origin) (obj : Bytes) (s : State) : Res :=
  let s := s.begin t
  serve org opMasterConfirm [.svc] (badField (!s.confirmFormat obj)) (s.confirmCheck obj) (State.confirmWork org obj) s

/-! ### The end of a group's change (R77 to R79, R528) -/

/-- The input filter is refilled: INPUT takes the state RAW has (R77; DESIGN CHOICE, log 95). -/
def Cell.refill (c : Cell) : Cell := { c with input := c.raw, filterRun := 0 }

/-- GROUP_CONFIG_SETTLED (R77, R78): stages settled and filters refilled, outputs at their owners' demands, the descriptor completes
DONE. -/
def execGroupConfigSettled (t : Ns) (g : Fin 8) (s : State) : Res :=
  let s := s.begin t
  match s.groups[g].change with
  | none => .next s
  | some c =>
    if !c.committed then .next s
    else
      let s := s.updGroup g fun q => { q with change := none }
      let s := forAll 16 (fun i s => (((s.updCell (chanOf g i) Cell.refill).updChan (chanOf g i) fun c =>
        { c with swapped := false }).putDiag (chanOf g i) .cfgChange false)) s
      let s := s.storeObject (BitVec.ofNat 16 opGroupConfig) g.val (if gcEnable c.obj then some c.obj else none)
      .next ((s.complete c.org .done).confirmSettled g)

/-- GROUP_CONFIG_RESEND (R79): frames of the transfer were lost: the group controller drops the partial object, and the
object is sent once more; a second failure ends the descriptor with LANE_FAILED and leaves the substitute values. -/
def execGroupConfigResend (t : Ns) (g : Fin 8) (s : State) : Res :=
  let s := s.begin t
  match s.groups[g].change with
  | none => .next s
  | some c =>
    if c.committed || s.gfes[g].complete || c.next < 35 then .next s
    else
      let s := s.updGfe g fun q => { q with chunks := [] }
      if c.resent then
        let s := s.updGroup g fun q => { q with change := none, stuckSubst := true }
        let s := forAll 16 (fun i s => s.putDiag (chanOf g i) .cfgChange false) s
        .next ((s.complete c.org (.error stLaneFailed)).confirmFailed g)
      else .next (s.updGroup g fun q => { q with change := some { c with next := 0, resent := true } })

end Sys2Proof.Machine
end

