-- ==== Sys2Proof/Machine/Power.lean ====
section
/-! DEFINITION. Power fail and hold-up, the end of a store's save, firmware staging, the margin ledger, the indicators (R30,
R195, R487, R494 to R497, R519, R530, R532 to R537, R581, R582). -/

namespace Sys2Proof.Machine

/-! ### Power fail (R494 to R497, R581) -/

/-- What the POWER_FAIL record says of the save. -/
inductive FailSave where
  | saved | skipped | none
deriving DecidableEq, Repr

def FailSave.code : FailSave → Nat
  | .saved => 0 | .skipped => 1 | .none => 2

/-- VLOG is back and every step of R495 is done: a restart as at power-on, which AON counts as a power cycle. With RESET_N low the
module stays in reset until its release (R497, R518, R523). -/
def State.restartAfterFail (s : State) : State :=
  if s.mod.state == .reset then
    s.updMod fun m => { m with powerCycles := m.powerCycles + 1, failAt := none, vlogBack := false, lanesStopped := false }
  else s.powerUpModule true s.straps 0

/-- The last steps of R495: the record, and the lane hub sends no frames any more. -/
def State.finishPowerFail (x : FailSave) (size : Nat) (s : State) : State :=
  let s := s.record .recorder .powerFail [x.code, size, s.budget, (s.mod.tHu * 1000).floor]
  let s := s.updMod fun m => { m with lanesStopped := true }
  if s.mod.vlogBack then s.restartAfterFail else s

/-- Time 0 to 20 µs: the program stops and its held writes are gone, saves are abandoned, every SDO is commanded off through
both paths (R495). HOLD_REQ on the other outputs follows from `failAt`. -/
def State.failStops (s : State) : State :=
  let s := s.updPrg fun p => { (p.rest .stopped) with stopReq := false, toRelease := [], varWrites := [] }
  let s := (s.abandonSave 0).abandonSave 1
  forAll 128 (fun c s =>
    if s.mode c = .sdo then s.updChan c fun x => { x with demand := { x.demand with on := false }, permit := false } else s) s

/-- The power-fail save, if its size is at most B and nothing holds retained saves back (R495, R496, R619). -/
def State.failSave (s : State) : State :=
  if s.prg.running.isNone || !s.up .recorder || s.stores[(1 : Fin 2)].heldBack then s.finishPowerFail .none 0
  else
    let size := s.retainedSize
    if s.budget < size then (s.updStore 1 fun x => { x with skipped := x.skipped + 1 }).finishPowerFail .skipped size
    else
      let fin := s.startSave 1 [.powerFail] []
      if fin.2 then fin.1 else fin.1.finishPowerFail .none size

/-- POWER_FAIL (R494 to R497). While RESET_N is low it finds no running program and makes no save. -/
def execPowerFail (t : Ns) (s : State) : Res :=
  let s := s.begin t
  if s.mod.failAt.isSome || !s.mod.powered then .next s
  else
    let s := s.updMod fun m => { m with failAt := some s.clock }
    if s.mod.state == .reset then .next (s.updMod fun m => { m with lanesStopped := true })
    else .next s.failStops.failSave

/-- VLOG_RETURN_AFTER_FAIL (R497). -/
def execVlogReturnAfterFail (t : Ns) (s : State) : Res :=
  let s := s.begin t
  if s.mod.failAt.isNone then .next s
  else if s.mod.lanesStopped then .next s.restartAfterFail
  else .next (s.updMod fun m => { m with vlogBack := true })

/-- HOLDUP_EXHAUSTED (R495, R519, R581): the module is in reset without supply. -/
def execHoldupExhausted (t : Ns) (s : State) : Res :=
  let s := s.begin t
  if s.mod.failAt.isNone then .next s
  else
    let low := s.mod.lowSince
    let gone := s.mod.failAt.getD s.clock
    let s := (s.afterReset s.mod.lastReset).holdReset
    .next (s.updMod fun m => { m with
      state := .reset, powered := false, offAt := some s.clock, lowAtPowerOff := low.isSome,
      lowTime := match low with | some l => lowUnits (gone - l) | none => m.lowTime })

/-! ### The end of a save (R487, R488, R195) -/

/-- STORE_SAVE_COMPLETE (R487, R488, R195, R495). -/
def execStoreSaveComplete (t : Ns) (store : Fin 2) (s : State) : Res :=
  let s := s.begin t
  if s.stores[store].running.isNone || !s.up .recorder then .next s
  else
    let (id, cycle) : Bytes × Nat := match s.stores[store].running.map Save.payload with
      | some (.retained b) => (b.imageId, b.cycle)
      | _ => ([], 0)
    let size := (s.stores[store].running.map Save.length).getD 0 + 32
    let fin := s.finishSave store
    let s : State := fin.1
    let causes := fin.2
    if store = 0 then .next s
    else if causes.contains .powerFail then .next (s.finishPowerFail .saved size)
    else
      let s := if causes.contains .stop then s.finishStop .done else s
      let s := if causes.contains .exchange then s.arm else s
      let s := match s.xch.markerPending with
        | some k =>
          if id == Image.imageId s.xch.slots[k].bytes &&
              (causes.contains .afterSwitch || decide (s.xch.lastSwitch.cycle ≤ cycle)) then s.writeMarker k
          else s
        | none => s
      .next s.saveMissed.settleHealth

/-! ### Firmware (R532, R533) -/

/-- The firmware slot that is not running. -/
def State.fwTarget (s : State) : Fin 2 := otherSlot s.mod.fwRunning

/-- Updates one firmware slot. -/
def State.updFw (k : Fin 2) (f : FwSlot → FwSlot) (s : State) : State := s.updMod fun m => { m with fw := m.fw.set k (f m.fw[k]) }

/-- A failed chunk empties the slot (R172). -/
def State.failFw (s : State) : State :=
  if s.mod.fwStaging.isSome then (s.updFw s.fwTarget fun _ => {}).updMod fun m => { m with fwStaging := none } else s

/-- One chunk is written; at the LAST one the image is checked (R172, R532). -/
def State.fwChunk (org : Origin) (p data : Bytes) (s : State) : State :=
  let k := s.fwTarget
  let old := if isFirst p then [] else s.mod.fw[k].bytes
  let b := old ++ data
  let s := s.updMod fun m => { m with fwStaging := if isLast p then none else some (isOffset p + isLength p) }
  if isLast p then
    let res := fwVerify b
    let failing := (res.map Prod.fst).getD 0
    let s := s.updFw k fun _ => { state := if res.isSome then .invalid else .verified, bytes := b, failing := failing }
    (s.record .svc .fwStaged [k.val, failing]).complete org ((res.map Prod.snd).getD .done)
  else (s.updFw k fun _ => { state := .staging, bytes := b }).complete org .done

/-- FW_STAGE (R532), by the rules of R165 and R172. -/
def execFwStage (t : Ns) (org : Origin) (param data : Bytes) (s : State) : Res :=
  let s := s.begin t
  let bad := !stageFormat param data || decide (8388608 < isOffset param + isLength param)
  if s.waitsBarrier org then .next s else
  match s.gate org opFwStage [.svc, .recorder] with
  | some o => answer org (if bad then .error stInvalidField else o) s
  | none =>
    if !bad && isFirst param && s.mod.fwStaging.isSome then answer org .busy s
    else if bad || !(isFirst param || s.mod.fwStaging == some (isOffset param)) then
      .next (s.failFw.complete org (.error stInvalidField))
    else .next (s.fwChunk org param data)

/-- FW_ACTIVATE (R532, R533): the slot runs from the next module reset, on trial. -/
def execFwActivate (t : Ns) (org : Origin) (param : Bytes) (s : State) : Res :=
  let s := s.begin t
  let k : Fin 2 := Fin.ofNat 2 (rd param 0 1)
  serve org opFwActivate [.svc] (badField (param.length != 16 || !zeroAt param 1 15 || decide (1 < rd param 0 1)))
    (fails (!(s.mod.fw[k].state == .verified || s.mod.fw[k].state == .running)) (.error stNotVerified))
    (fun s =>
      let s := s.updMod fun m => { m with fwPrevious := m.fwBoot, fwBoot := k, fwTrial := true }
      (s.record .svc .fwActivated [k.val]).complete org .done) s

/-- FW_TRIAL_EXPIRY (R533). -/
def execFwTrialExpiry (t : Ns) (s : State) : Res :=
  let s := s.begin t
  let m := s.mod
  let starting := m.state == .selftest || m.state == .loading || m.state == .fatal
  if m.fwTrial && m.fwRunning == m.fwBoot && starting && decide (m.timeZero + 5000000000 ≤ s.clock) then
    let s := s.updMod fun m => { m with fwBoot := m.fwPrevious, fwTrial := false }
    .next ((s.record .svc .fwFallback [m.fwBoot.val, m.fwPrevious.val]).postEvent 0x0112 0
      (wr 1 m.fwBoot.val ++ wr 1 m.fwPrevious.val))
  else .next s

/-! ### The ledger (R534 to R538) -/

/-- A margin is re-planned: value and stamp, and a record (R30, R534, R538). -/
def State.replanMargin (i : Fin 9) (index : Nat) (margin : Rat) (s : State) : State :=
  (s.updLedger i fun e => { e with margin := some margin, marginStamp := some s.now }).record .svc .ledgerMargin
    [i.val, index, (margin * 1000).floor]

/-- HOLDUP_LOW: T_HU below 10 ms, or a capacitor that did not charge, which the event names in place of a channel (R534 instance 2,
R582; DESIGN CHOICE, log 121). -/
def State.settleHoldup (s : State) : State := s.ledgerWarn 2 (decide (s.mod.tHu < 10) || s.mod.notCharged) (b2n s.mod.notCharged) s.mod.tHu

/-- A measured hold-up time: T_HU is the worst measured since the module was built, the first one replacing the factory's 10 ms
(R534 to R536). -/
def State.measureHoldup (v : Rat) (s : State) : State :=
  let first := s.mod.ledger[(2 : Fin 9)].worst.isNone
  let tHu := if first then v else min s.mod.tHu v
  let changed := tHu != s.mod.tHu
  let s := s.updLedger 2 (LedgerEntry.measured s.now s.mod.opSeconds true v)
  let s := s.updMod fun m => { m with tHu := tHu }
  (if changed then s.replanMargin 2 0 tHu else s).settleHoldup

/-- T_HU in ms of the scheduled test, rounded down to 0.1 ms; no result is stated for a test without a fall (R536). -/
def holdupTime (draw : Rat) (m : HoldupMeas) : Rat :=
  if m.vMean * m.dV = 0 then draw
  else
    let c : Rat := 2 * (200 / 1000000) / (m.vMean * m.dV)
    let e := c * (m.vStart * m.vStart - 64) / 2
    (9 / 10 * e / (13 / 2) * 10000).floor / 10

/-- The test of instance 2 (R536). -/
def State.holdupTest (m : HoldupMeas) (s : State) : State :=
  let v := holdupTime (Config.freeRat s.free) m
  let s := if m.vMean * m.dV = 0 then s.advance else s
  (s.record .svc .ledgerTest [(v * 10).floor]).measureHoldup v

/-- The test needs VLOG and no retained save running (R536). -/
def State.testPossible (s : State) : Bool := s.mod.failAt.isNone && s.mod.powered && s.stores[(1 : Fin 2)].running.isNone

/-- LEDGER_TEST (R536). -/
def execLedgerTest (t : Ns) (org : Origin) (meas : HoldupMeas) (s : State) : Res :=
  let s := s.begin t
  serve org opLedgerTest [.svc] none (fails (!s.testPossible) (.error stTestNotPossible))
    (fun s => (s.holdupTest meas).complete org .done) s

/-- HOLDUP_TEST (R536). -/
def execHoldupTest (t : Ns) (meas : HoldupMeas) (s : State) : Res :=
  let s := s.begin t
  if s.testPossible && s.up .svc then .next (s.holdupTest meas) else .next s

/-- Instance 0: the worst on-resistance ratio of a channel (R534). -/
def State.measureRon (ch : Fin 128) (v : Rat) (s : State) : State :=
  let worst := max s.mod.rWorst[ch] v
  let changed := worst != s.mod.rWorst[ch]
  let s := (s.updLedger 0 (LedgerEntry.measured s.now s.mod.opSeconds false v)).detail 0 ch.val v
  let s := s.updMod fun m => { m with rWorst := m.rWorst.set ch worst }
  let s := if changed then s.replanMargin 0 ch.val (1 / 2 / sqrtR worst) else s
  s.ledgerWarn 0 ((List.finRange 128).any fun i => decide (3 / 2 ≤ s.mod.rWorst[i])) ch.val v

/-- Instance 5: the measurements of the last two days, newest last, so that a timeout armed before the latest one keeps its margin
(R30, R534, R535). -/
def State.measureDrift (k : Fin 19) (v : Rat) (s : State) : State :=
  let v := if v < 0 then -v else v
  let old := s.worstDrift k
  let kept := s.mod.drift[k].filter fun x => decide (s.clock ≤ x.1 + 2 * dayNs)
  let s := (s.updLedger 5 (LedgerEntry.measured s.now s.mod.opSeconds false v)).detail 5 k.val v
  let s := s.updMod fun m => { m with drift := m.drift.set k (kept ++ [(s.clock, v)]) }
  let s := if s.worstDrift k = old then s else s.replanMargin 5 k.val (3 / 2 * s.worstDrift k)
  s.ledgerWarn 5 ((List.finRange 19).any fun i => decide (1000 < s.worstDrift i)) k.val v

/-- Instance 8: operating seconds (R534, R538). -/
def State.countSecond (s : State) : State :=
  let s := s.updMod fun m => { m with opSeconds := m.opSeconds + 1 }
  s.updLedger 8 fun e => { e with last := some ((s.mod.opSeconds : Rat), s.now) }

/-- LEDGER_MEASUREMENT (R30, R534, R535): a measured quantity enters the ledger, and its margin moves in the safe direction. -/
def execLedgerMeasurement (t : Ns) (inst : Fin 9) (index : Nat) (value : Rat) (s : State) : Res :=
  let s := s.begin t
  if !s.up .svc || !s.mod.powered then .next s
  else match inst with
    | 0 => .next (if h : index < 128 then (s.measureRon ⟨index, h⟩ value).settleHealth else s)
    | 2 => .next (s.measureHoldup value).settleHealth
    | 5 => .next (if h : index < 19 then
        (if s.time.state == .locked then (s.measureDrift ⟨index, h⟩ value).settleHealth else s) else s)
    | 7 =>
      let m := value.ceil.toNat
      let s := s.updLedger 7 (LedgerEntry.measured s.now s.mod.opSeconds false value)
      .next (if s.saf.tMus < m then s.updSaf fun v => { v with tMraise := some (max m (v.tMraise.getD 0)) } else s)
    | 8 => .next s.countSecond
    | i => .next ((s.updLedger i (LedgerEntry.measured s.now s.mod.opSeconds false value)).detail i index value)

/-- Acceleration factor at a sensor code, whose step is 1 °C from −55 °C (R537): activation energy 0.7 eV, reference 358.15 K. -/
def arrhenius (code : Nat) : Rat :=
  let kelvin : Rat := code - 55 + 27315 / 100
  let x : Rat := 7 / 10 / (8617333262 / 100000000000000) * (100 / 35815 - 1 / kelvin)
  if x < 0 then expNeg (-x) else 1 / expNeg x

/-- T_LIM by the rated life consumed (R534 instance 6). -/
def tLimAt (hours : Rat) : Nat :=
  if 150000 ≤ hours then 125 else if 135000 ≤ hours then 130 else if 120000 ≤ hours then 140 else 150

/-- THERMAL_HOURS (R534, R537): one second at the hottest sensor. -/
def execThermalHours (t : Ns) (temps : List Nat) (s : State) : Res :=
  let s := s.begin t
  match temps with
  | [] => .next s
  | a :: l =>
    if !s.up .svc || !s.mod.powered then .next s
    else
      let hours := trim64 (s.mod.thermalHours + arrhenius (l.foldl max a) / 3600)
      let lim := min s.mod.tLim (tLimAt hours)
      let changed := lim != s.mod.tLim
      let s := s.updMod fun m => { m with thermalHours := hours, tLim := lim }
      let s := s.updLedger 6 (LedgerEntry.measured s.now s.mod.opSeconds false hours)
      let s := if changed then s.replanMargin 6 0 lim else s
      .next ((s.ledgerWarn 6 (decide (120000 ≤ hours)) 0 hours).settleHealth)

/-! ### HOLDUP at a start-up (R581, R582) -/

/-- HOLDUP_CHARGED (R582): the budget is in force; a start-up at which the capacitor charges in time clears NOT_CHARGED. -/
def execHoldupCharged (t : Ns) (s : State) : Res :=
  let s := s.begin t
  if s.mod.charged || !s.mod.powered || s.mod.failAt.isSome then .next s
  else
    let late := decide (s.mod.timeZero + 2000000000 ≤ s.clock)
    let s := s.updMod fun m => { m with charged := true, notCharged := m.notCharged && late }
    .next s.settleHoldup.settleHealth

/-- HOLDUP_NOT_CHARGED (R582). -/
def execHoldupNotCharged (t : Ns) (s : State) : Res :=
  let s := s.begin t
  if s.mod.charged || !s.mod.powered || s.clock < s.mod.timeZero + 2000000000 || s.mod.state == .reset then .next s
  else .next ((s.updMod fun m => { m with notCharged := true }).settleHoldup.settleHealth)

/-! ### Indicators (R523, R530) -/

inductive Led where
  | off | flash1 | flash4 | on
deriving DecidableEq, Repr

/-- LED_RUN. -/
def State.ledRun (s : State) : Led :=
  match s.mod.state with
  | .reset | .fatal => .off
  | .selftest | .loading => .flash4
  | .waitConfirm => .flash1
  | .service => .on

/-- LED_FAULT. -/
def State.ledFault (s : State) : Led :=
  match s.mod.health with
  | .ok | .warning => .off
  | .degraded => .flash1
  | .fault => .on

end Sys2Proof.Machine
end

