-- ==== Sys2Proof/Machine/Join.lean ====
section
/-! DEFINITION. The joining member: what it does with each RESYNC frame, and the limit of 300 s (R382, R383, R526, R533). -/

namespace Sys2Proof.Machine

/-! ### Step 1: the configuration store (R382, R383) -/

/-- The entries of a RESYNC configuration. -/
def syncEntries (l : List (BitVec 16 × Nat × Bytes)) : List CfgEntry := l.map fun e => { opcode := e.1, inst := e.2.1, obj := e.2.2 }

/-- Objects that come with the engines of step 3 rather than with their configuration. -/
def CfgEntry.withEngines (e : CfgEntry) : Bool :=
  [opLoopConfig, opOverrideConfig, opAxisConfig, opStationConfig].contains e.opcode.toNat

/-- A group or a table that the lead does not hold goes out of force. -/
def State.dropEntry (e : CfgEntry) (s : State) : State :=
  if e.opcode.toNat = opGroupConfig then
    let g := gcGroup e.obj
    (s.writeOwners g (fun _ => .none)).updGroup g fun q => { q with cfg := none, served := s.gfes[g].cfg.isNone }
  else if e.opcode.toNat = opCharLoad then
    if h : e.inst < 128 then { s with chars := s.chars.set e.inst none } else s
  else s

/-- The registers both members hold alike. -/
def State.takeRegs (r : SharedRegs) (s : State) : State :=
  let bind : Vector Tmr 32 := Vector.ofFn fun (n : Fin 32) => Tmr.of r.bind[n]
  (s.updRegs fun v => { v with
    groupEn := .of r.groupEn, etherType := r.etherType, imgKey := r.imgKey, keyValid := r.keyValid }).updMb fun m =>
      { m with bind := bind }

/-- Ship time of the lead: an offset to the ring time both members keep (R399). -/
def State.takeShip (x : BitVec 2 × Int × Bool) (s : State) : State :=
  let st : ShipState := if x.1 = 0 then .unset else if x.1 = 1 then .provisional else .set
  s.updTime fun v => { v with ship := st, shipOff := x.2.1, latch := x.2.2 }

/-- The joiner writes the lead's configuration to its own store and puts in force what differs from its own; the first RESYNC frame
is time zero. With other firmware it stays UNFORMED (R382, R383, R526, R533). -/
def State.joinConfig (term epoch : BitVec 32) (pairCfg : Bytes) (l : List CfgEntry) (ship : BitVec 2 × Int × Bool)
    (fw : BitVec 32) (regs : SharedRegs) (s : State) : State :=
  if fw.toNat / 65536 ≠ s.fwBuild.toNat / 65536 then
    (s.updPair fun p => { p with fwMismatch := true }).setMember .unformed 2
  else
    let old := s.mod.inForce
    let s := (s.takeRegs regs).takeShip ship
    let s := if s.node = 0 then
        (s.updRegs fun r => { r with nodeAddr := .of (BitVec.ofNat 32 (s.strapNode pairCfg)) }).updRing fun r =>
          { r with oldId := none }
      else s
    let s := (old.filter fun e => !l.any fun x => x.opcode = e.opcode && x.inst = e.inst).foldl (fun s e => s.dropEntry e) s
    let s := (inForceOrder (l.filter fun e => !e.withEngines && !old.contains e)).foldl (fun s e => s.putInForce e) s
    let size := l.foldl (fun n e => n + e.size) 0
    let s := s.updMod fun m => { m with inForce := l }
    (s.updPair fun p => { p with
      term := term, epoch := epoch, leadNode := p.partner.leadNode,
      join := { p.join with step := 1, start := p.join.start.orElse fun _ => some s.clock, bytes := size } }).storeRegister

/-! ### Step 2: images (R173, R382) -/

/-- An image of the lead is verified by R173; the running one becomes this member's, unless it runs here already. -/
def State.joinImage (k : Fin 2) (running : Bool) (b : Bytes) (s : State) : State :=
  let s := s.updPair fun p => { p with join := { p.join with bytes := p.join.bytes + b.length } }
  let mine := s.prg.running.map Running.imageId == some (Image.imageId b)
  if running && mine then s
  else match s.verify b with
    | some (n, _) =>
      if s.xch.slots[k].state == .running then s
      else s.updXch fun x => x.upd k fun _ => { state := .invalid, bytes := b, failing := n }
    | none =>
      if running then
        let s := (s.updXch fun x => x.upd k fun _ => { state := .verified, bytes := b }).updXch (Exchange.enter k)
        (s.updPrg fun p => { p with running := some (Image.load k b), events := Image.events b }).writeMarker k
      else if s.xch.slots[k].state == .running then s
      else s.updXch fun x => x.upd k fun _ => { state := .verified, bytes := b }

/-! ### Step 3: bulk copy and pages (R382) -/

/-- A page of data memory. -/
def State.joinPage (addr : Nat) (b : Bytes) (s : State) : State :=
  (s.updPrg fun p => { p with data := { p.data with mem := Memory.writeAll p.data.mem addr b } }).updPair fun p =>
    { p with join := { p.join with bytes := p.join.bytes + b.length } }

def State.setEngines (c : EngineCopy) (s : State) : State :=
  { s with loops := c.loops, overs := c.overs, axes := c.axes, tables := c.tables }

/-- The engines, tables, stations and transactions of the lead, in this member's own clock. -/
def State.joinBulk (c : EngineCopy) (s : State) : State :=
  let c := c.shift (-s.time.ringOff)
  let size := c.data.mem.length
  let s := s.setEngines c
  let s := s.updRing fun r => { r with stations := c.stations, tunnelsOut := c.tunnels }
  let s := s.updPrg fun p => { p with data := c.data.canon }
  s.updPair fun p => { p with pairSeq := c.seq, join := { p.join with step := 3, bytes := p.join.bytes + size } }

/-! ### Steps 4 and 5 (R276, R382) -/

/-- Whether the program that runs on the lead is in place here. -/
def State.sameImage (s : State) (p : Program) : Bool := p.running.map Running.imageId == s.prg.running.map Running.imageId

/-- The program engine of the lead with this member's own slot and save history. -/
def Program.joined (d : Int) (mine : Program) (p : Program) : Program :=
  let p := p.shift d
  { p with
    data := p.data.canon, boundary := { p.boundary with data := p.boundary.data.canon }, running := mine.running,
    savedStamp := mine.savedStamp, savedCycle := mine.savedCycle, saves := mine.saves }

/-- The final step, and the joiner enters SHADOW; a state that fails the CRC of SAF or another image leaves it JOINING (R382). -/
def State.joinFinal (prg : Program) (progOff : Int) (fns : Vector SafFn 48) (conns : Vector SafConn 32) (seq : BitVec 16)
    (good : Bool) (s : State) : State :=
  if !good || !s.sameImage prg then s
  else
    let d := -s.time.ringOff
    let fns : Vector SafFn 48 := Vector.ofFn fun (i : Fin 48) => (fns[i]).shift d
    let conns : Vector SafConn 32 := Vector.ofFn fun (i : Fin 32) => (conns[i]).shift d
    let s := s.updPrg fun p => p.joined d prg
    let s := s.updSaf fun v => { v with fns := fns, conns := conns }
    let s := s.updTime fun v => { v with progOff := progOff + v.ringOff }
    let s := s.updMod fun m => { m with state := if m.state == .waitConfirm then .service else m.state }
    let took := s.clock - (s.pair.join.start.getD s.clock)
    let fresh : Barrier := { partnerLive := true, maxWaitUs := s.pair.barrier.maxWaitUs }
    let s := s.updPair fun p => { p with
      pairSeq := seq, barrier := fresh, mismatch := false,
      lastMismatchRejoin := if p.join.afterMismatch then some s.clock else p.lastMismatchRejoin,
      join := { p.join with step := 5, failRun := 0, afterMismatch := false } }
    let s := (s.setMember .shadow 3).record .rng .joinEnd [s.pair.join.attempts, s.pair.join.bytes, took / 1000000]
    (s.updPair fun p => { p with barrier := fresh }).settleHealth

/-- RESYNC (R382, R383). -/
def execResync (t : Ns) (msg : ResyncMsg) (s : State) : Res :=
  let s := s.begin t
  if !s.isPair || s.pair.state != .joining then .next s
  else
    let step := s.pair.join.step
    match msg with
    | .config term epoch o l ship fw regs => .next (s.joinConfig term epoch o (syncEntries l) ship fw regs)
    | .image k running b => .next (if step = 0 then s else s.joinImage k running b)
    | .page a b => .next (if step = 0 then s else s.joinPage a b)
    | .bulk c => .next (if step = 0 then s else s.joinBulk c)
    | .final prg off fns conns seq good => .next (if step = 3 then s.joinFinal prg off fns conns seq good else s)

/-- JOIN_TIMEOUT (R382): the joining starts again; the third failure in a row takes the member OUT. -/
def execJoinTimeout (t : Ns) (s : State) : Res :=
  let s := s.begin t
  let due := match s.pair.join.start with | some a => decide (s.due .rng a 300000000000 ≤ s.clock) | none => false
  if s.pair.state != .joining || !due then .next s
  else
    let s := s.record .rng .joinTimeout [s.pair.join.attempts]
    let n := s.pair.join.failRun + 1
    let s := s.updPair fun p => { p with join := { p.join with step := 0, start := none, timeouts := p.join.timeouts + 1, failRun := n } }
    if 3 ≤ n then .next (s.setMember .out 7)
    else
      let s := s.updPair fun p => { p with join := { p.join with bytes := 0, attempts := p.join.attempts + 1 } }
      .next (s.record .rng .joinStart [s.pair.join.attempts])

end Sys2Proof.Machine
end

