-- ==== Sys2Proof/Machine/Registers.lean ====
section
/-! DEFINITION. The set-up registers: writes, locks, triplicated fields and test controls (R411, R457, R459, R539 to R568). -/

namespace Sys2Proof.Machine

/-- A write to a block that SVC serves reaches it: not while SVC is stalled or in reset (R540). -/
def State.svcServes (s : State) : Bool := s.barOpen && s.up .svc

/-! ### Triplicated fields (R548 to R550) -/

/-- A triplicated register: its BAR0 offset, the mask of each field as it is stored, and the place of bit 0 in the register. -/
structure TmrReg where
  offset : Nat
  fields : List Word
  shift : Nat := 0
deriving DecidableEq, Repr

def tmrRole : TmrReg := { offset := 0x104, fields := roleFields, shift := 8 }
def tmrMordant : TmrReg := { offset := 0x108, fields := mordantFields }
def tmrSafeEn : TmrReg := { offset := 0x114, fields := groupEnFields }
def tmrNode : TmrReg := { offset := 0x2000, fields := nodeFields }
def tmrChown : List TmrReg := (List.range 16).map fun k => { offset := 0x200 + 4 * k, fields := chownFields }
def tmrBind : List TmrReg := (List.range 32).map fun n => { offset := 0x5000 + 4 * n, fields := bindFields }

/-- Every triplicated register, in the order of offsets. -/
def tmrAll : List TmrReg := [tmrRole, tmrMordant, tmrSafeEn] ++ tmrChown ++ [tmrNode] ++ tmrBind

/-- The three copies at an offset. -/
def State.copies (s : State) (off : Nat) : Tmr :=
  if off = 0x104 then s.regs.role
  else if off = 0x108 then s.regs.mordant
  else if off = 0x114 then s.regs.groupEn
  else if off = 0x2000 then s.regs.nodeAddr
  else if off < 0x240 then s.regs.chown[Fin.ofNat 16 ((off - 0x200) / 4)]
  else s.mb.bind[Fin.ofNat 32 ((off - 0x5000) / 4)]

/-- Puts three copies at an offset. -/
def State.putCopies (off : Nat) (v : Tmr) (s : State) : State :=
  if off = 0x104 then s.updRegs fun r => { r with role := v }
  else if off = 0x108 then s.updRegs fun r => { r with mordant := v }
  else if off = 0x114 then s.updRegs fun r => { r with groupEn := v }
  else if off = 0x2000 then s.updRegs fun r => { r with nodeAddr := v }
  else if off < 0x240 then s.updRegs fun r => { r with chown := r.chown.set (Fin.ofNat 16 ((off - 0x200) / 4)) v }
  else s.updMb fun m => { m with bind := m.bind.set (Fin.ofNat 32 ((off - 0x5000) / 4)) v }

/-- One copy replaced. -/
def Tmr.put (c : Fin 3) (w : Word) (r : Tmr) : Tmr :=
  match c with | 0 => { r with c0 := w } | 1 => { r with c1 := w } | 2 => { r with c2 := w }

/-- A copy with the field under `mask` replaced. -/
def inField (mask v w : Word) : Word := (w &&& ~~~ mask) ||| (v &&& mask)

/-- Every copy with the field under `mask` replaced. -/
def Tmr.putField (mask v : Word) (r : Tmr) : Tmr := ⟨inField mask v r.c0, inField mask v r.c1, inField mask v r.c2⟩

/-- What the copies of one field hold: all alike, one odd with its value, or three values. -/
inductive Vote where
  | same
  | odd (value : Word)
  | apart
deriving DecidableEq, Repr

def Tmr.compare (mask : Word) (r : Tmr) : Vote :=
  let a := r.c0 &&& mask
  let b := r.c1 &&& mask
  let c := r.c2 &&& mask
  if a = b then (if b = c then .same else .odd c)
  else if a = c then .odd b
  else if b = c then .odd a
  else .apart

/-- The lowest bit of a field. -/
def lowestBit (mask : Word) : Nat := ((List.range 32).find? fun i => mask.getLsbD i).getD 0

/-- One field is checked: an odd copy is rewritten, counted and recorded; three different copies are fatal (R549, R550). -/
def State.checkField (r : TmrReg) (mask : Word) (s : State) : State :=
  let bit := r.shift + lowestBit mask
  match (s.copies r.offset).compare mask with
  | .same => s
  | .odd v =>
    let old := s.copies r.offset
    let s := s.putCopies r.offset (old.putField mask (old.field mask))
    let s := s.updRegs fun g => { g with
      tmrFix := BitVec.ofNat 32 (satAdd 32 g.tmrFix.toNat 1), tmrLast := BitVec.ofNat 32 (65536 * bit + r.offset) }
    s.record .svc .tmrFix [r.offset, bit, v.toNat / 2 ^ lowestBit mask]
  | .apart => (s.record .svc .tmrFatal [r.offset, bit]).driveReset .tmr

/-- Every field of these registers is checked: by the scrubber, or by a read of them (R549, R550). -/
def State.scrub (l : List TmrReg) (s : State) : State :=
  l.foldl (fun s r => r.fields.foldl (fun s m => s.checkField r m) s) s

/-- Copies that have been upset since the last pass; a change outside the fields of a register has no effect. -/
def State.upset (u : Upset) (s : State) : State :=
  match tmrAll.find? fun r => r.offset = u.offset with
  | none => s
  | some r =>
    let all := r.fields.foldl (fun a m => a ||| m) 0
    let old := s.copies r.offset
    let cur := match u.copy with | 0 => old.c0 | 1 => old.c1 | 2 => old.c2
    s.putCopies r.offset (old.put u.copy (inField all (u.value >>> r.shift) cur))

/-- TMR_SCRUB (R548 to R550): the upsets of the last millisecond, then one pass. The voter is hardware and keeps on through a stall
of SVC (R540). -/
def execTmrScrub (t : Ns) (upsets : List Upset) (s : State) : Res :=
  let s := upsets.foldl (fun s u => s.upset u) (s.begin t)
  .next (s.scrub tmrAll)

/-! ### Locks (R551, R552) -/

/-- MORDANT_WRITE (R551). -/
def execMordantWrite (t : Ns) (value : Word) (s : State) : Res :=
  let s := s.begin t
  if !s.svcServes then .next s
  else
    let old := s.mordant
    let new := old ||| (value &&& 0x1F)
    let s := s.updRegs fun r => { r with mordant := .of new }
    .next ((List.range 5).foldl (fun s i => if new.getLsbD i && !old.getLsbD i then s.record .svc .mordantSet [i] else s) s)

/-! ### SAFE_EN and the test controls (R545, R553 to R557) -/

/-- SAFE_EN as it reads. -/
def State.safeEn (s : State) : Word :=
  BitVec.ofNat 32 (256 * s.regs.testCtl.toNat + (s.regs.groupEn.vote groupEnFields).toNat)

/-- Whether GROUP_EN of a group may change: it holds no configuration with ENABLE set, nor is one on its way (R545; assumption
log). -/
def State.mayEnable (s : State) (g : Fin 8) : Bool := s.groups[g].cfg.isNone && s.groups[g].change.isNone

/-- GROUP_EN bits are written where the group is UNCONFIGURED; a bit that keeps its value against the write sets SAFE_EN_REFUSED
(R545). -/
def State.writeGroupEn (value : Word) (s : State) : State :=
  let old := s.regs.groupEn.vote groupEnFields
  let new : Word := (List.finRange 8).foldl (fun w (g : Fin 8) => if s.mayEnable g then putBit w g.val (value.getLsbD g.val) else w) old
  let refused := new != value &&& 0xFF
  let s := (s.updRegs fun r => { r with groupEn := .of new }).storeRegister
  if refused then s.modError meSafeEnRefused 0x114 else s

/-- Test controls that a write clears against R12: RV_CHANGED with its record, and the controls still set are recorded (R555,
R556). -/
def State.clearByWrite (value : Word) (s : State) : State :=
  let old := s.regs.testCtl
  let new := old &&& BitVec.ofNat 24 (value.toNat / 256)
  if new = old then s
  else
    let before := s.safeEn.toNat
    let s := (s.updRegs fun r => { r with testCtl := new }).modError meRvChanged 0x114
    (s.record .svc .rvChanged [0x114, 256 * (old.toNat - new.toNat), before, s.safeEn.toNat]).testCtlFound

/-- SAFE_EN_WRITE (R545, R552, R554, R556). -/
def execSafeEnWrite (t : Ns) (value : Word) (s : State) : Res :=
  let s := s.begin t
  if !s.svcServes then .next s
  else if s.lockSafeEn then .next (s.modError meLockedWrite 0x114)
  else .next ((s.writeGroupEn value).clearByWrite value)

/-- TEST_CLR_WRITE (R555, R557). -/
def execTestClrWrite (t : Ns) (value : Word) (s : State) : Res :=
  let s := s.begin t
  let old := s.regs.testCtl
  let hit := old &&& BitVec.ofNat 24 (value.toNat / 256)
  if !s.svcServes || hit = 0 then .next s
  else
    let s := s.updRegs fun r => { r with testCtl := old &&& ~~~ hit }
    let s := (List.range 24).foldl (fun s i => if hit.getLsbD i then s.record .svc .testCtlCleared [i % 8, i / 8] else s) s
    .next s.testCtlFound

/-- The place of a test control in SAFE_EN [31:8] (R553). -/
def testCtlBase : TestCtl → Nat
  | .loopback => 0 | .suppress => 8 | .trim => 16

/-- SERVICE_UART_TEST_CONTROL (R554, R555, R571). -/
def execServiceUartTestControl (t : Ns) (g : Fin 8) (ctl : TestCtl) (set : Bool) (s : State) : Res :=
  let s := s.begin t
  let i := testCtlBase ctl + g.val
  if !s.mod.testMode || !s.up .svc || s.regs.testCtl.getLsbD i == set then .next s
  else .next (s.updRegs fun r => { r with testCtl := putBit r.testCtl i set }).testCtlFound

/-! ### Ring identity and image keys (R552, R562, R565, R566) -/

/-- Whether the value of a ring identity register is one the chapter refuses (R562). -/
def ringIdBad (offset : Nat) (v : Nat) : Bool :=
  let w := v % 65536
  if offset = 0x2000 then w == 0xFFFF
  else if offset = 0x2004 then decide (w < 0x600) || [0x800, 0x806, 0x86DD, 0x8100, 0x88A8, 0x88F7].contains w
  else if offset = 0x2014 || offset = 0x201C || offset = 0x2024 then w / 256 % 2 == 1
  else false

/-- The low and the high register of a MAC address. -/
def macLo (v : Word) (m : BitVec 48) : BitVec 48 := BitVec.ofNat 48 (m.toNat / 2 ^ 32 * 2 ^ 32 + v.toNat)
def macHi (v : Word) (m : BitVec 48) : BitVec 48 := BitVec.ofNat 48 (v.toNat % 65536 * 2 ^ 32 + m.toNat % 2 ^ 32)

/-- The write itself. -/
def Regs.putRingId (offset : Nat) (v : Word) (r : Regs) : Regs :=
  if offset = 0x2000 then { r with nodeAddr := .of (v &&& 0xFFFF) }
  else if offset = 0x2004 then { r with etherType := v.setWidth 16 }
  else if offset = 0x2010 then { r with macA := macLo v r.macA }
  else if offset = 0x2014 then { r with macA := macHi v r.macA }
  else if offset = 0x2018 then { r with macB := macLo v r.macB }
  else if offset = 0x201C then { r with macB := macHi v r.macB }
  else if offset = 0x2020 then { r with macL := macLo v r.macL }
  else { r with macL := macHi v r.macL }

def ringIdOffsets : List Nat := [0x2000, 0x2004, 0x2010, 0x2014, 0x2018, 0x201C, 0x2020, 0x2024]

/-- RING_ID_WRITE (R552, R562). The old identity serves until the next bus cycle (DEDUCED, log 127). -/
def execRingIdWrite (t : Ns) (offset : Nat) (value : Word) (s : State) : Res :=
  let s := s.begin t
  if !s.svcServes || !(ringIdOffsets.contains offset) then .next s
  else if s.lockRingId then .next (s.modError meLockedWrite offset)
  else if s.originatesCyclic || (s.isPair && s.pair.state != .unformed) || ringIdBad offset value.toNat then
    .next (s.modError meWriteRefused offset)
  else
    let old := some (s.node, s.ringType)
    .next (((s.updRegs (Regs.putRingId offset value)).storeRegister).updRing fun r => { r with oldId := old })

/-- IMG_KEY_WORD_WRITE (R552, R566). -/
def execImgKeyWordWrite (t : Ns) (k : Fin 4) (j : Fin 8) (value : Word) (s : State) : Res :=
  let s := s.begin t
  let offset := 0x3000 + 64 * k.val + 4 * j.val
  if !s.svcServes then .next s
  else if s.lockImgKey then .next (s.modError meLockedWrite offset)
  else if s.regs.keyValid.getLsbD k.val then .next (s.modError meWriteRefused offset)
  else .next (s.updRegs fun r => { r with
    imgKey := r.imgKey.set k (r.imgKey[k].set j value), keyBad := putBit r.keyBad k.val false }).storeRegister

/-- KEY_VALID_WRITE (R552, R566): a key that does not decode leaves KEY_VALID 0 and sets KEY_BAD. -/
def execKeyValidWrite (t : Ns) (k : Fin 4) (value : Word) (s : State) : Res :=
  let s := s.begin t
  let offset := 0x3020 + 64 * k.val
  if !s.svcServes then .next s
  else if s.lockImgKey then .next (s.modError meLockedWrite offset)
  else
    let good := Ed25519.keyDecodes (keyBytes s.regs.imgKey[k])
    let on := value.getLsbD 0
    .next (s.updRegs fun r => { r with
      keyValid := putBit r.keyValid k.val (on && good),
      keyBad := if on then putBit r.keyBad k.val (!good) else r.keyBad }).storeRegister

/-- JOIN_INHIBIT_WRITE (R565). -/
def execJoinInhibitWrite (t : Ns) (value : Word) (s : State) : Res :=
  let s := s.begin t
  if s.svcServes then .next (s.updRegs fun r => { r with joinInhibit := value.getLsbD 0 }) else .next s

/-! ### Registers without a row of their own (R411, R423, R454, R457, R459, R539, R560, R561, R564, R568) -/

/-- Low and high word of a queue's base (R415). -/
def baseLo (v : Word) (b : BitVec 64) : BitVec 64 := BitVec.ofNat 64 (b.toNat / 2 ^ 32 * 2 ^ 32 + v.toNat / 4096 * 4096)
def baseHi (v : Word) (b : BitVec 64) : BitVec 64 := BitVec.ofNat 64 (v.toNat * 2 ^ 32 + b.toNat % 2 ^ 32)

/-- BASE and SIZE of a submission queue, ignored while it is enabled (R421, R560). -/
def Sq.setUp (sub : Nat) (v : Word) (q : Sq) : Sq :=
  if q.enable then q
  else if sub = 0 then { q with base := baseLo v q.base }
  else if sub = 4 then { q with base := baseHi v q.base }
  else if sub = 8 then { q with log2 := v.setWidth 4 }
  else q

/-- BASE and SIZE of a completion queue or the EQ. -/
def Cq.setUp (sub : Nat) (v : Word) (q : Cq) : Cq :=
  if q.enable then q
  else if sub = 0 then { q with base := baseLo v q.base }
  else if sub = 4 then { q with base := baseHi v q.base }
  else if sub = 8 then { q with log2 := v.setWidth 4 }
  else q

/-- The host interface block, offset from 0x1000. -/
def State.hifWrite (off : Nat) (v : Word) (s : State) : State :=
  if off = 8 then s.updHif fun h => { h with err := h.err &&& ~~~ v.setWidth 5 }
  else if !s.hifLive then s
  else if 0x100 ≤ off && off < 0x200 then s.updHif fun h => h.updSq (Fin.ofNat 8 ((off - 0x100) / 32)) (Sq.setUp (off % 32) v)
  else if 0x200 ≤ off && off < 0x300 then s.updHif fun h => h.updCq (Fin.ofNat 8 ((off - 0x200) / 32)) (Cq.setUp (off % 32) v)
  else if 0x300 ≤ off && off < 0x320 then s.updHif fun h => { h with eq := h.eq.setUp (off % 32) v }
  else s

/-- An MSI-X table entry; a pending vector that is unmasked sends its message (R411, R423). -/
def State.msixWrite (k : Fin 16) (sub : Nat) (v : Word) (s : State) : State :=
  let put (f : Msix → Msix) (s : State) : State := s.updHif fun h => { h with msix := h.msix.set k (f h.msix[k]) }
  if sub = 0 then put (fun m => { m with addr := BitVec.ofNat 64 (m.addr.toNat / 2 ^ 32 * 2 ^ 32 + v.toNat / 4 * 4) }) s
  else if sub = 4 then put (fun m => { m with addr := BitVec.ofNat 64 (v.toNat * 2 ^ 32 + m.addr.toNat % 2 ^ 32) }) s
  else if sub = 8 then put (fun m => { m with data := v }) s
  else
    let masked := v.getLsbD 0
    let send := s.hif.msix[k].pending && !masked
    let s := put (fun m => { m with masked := masked, pending := m.pending && masked }) s
    if send then s.emit (.msix k) else s

/-- The host's write to a channel register other than data and GO: MB_ACK_TO is the sender's; a write that the bound identities may
not make sets NOT_BOUND (R454, R457). -/
def State.channelWrite (n : Fin 32) (sub : Nat) (v : Word) (s : State) : State :=
  if sub < 0x44 || 0x60 ≤ sub then s
  else if s.receiverOff n then s.accessOff .host n
  else if sub = 0x58 && s.bindSender n == .host then s.updBox n fun b => { b with ackTo := v &&& 0x80FFFFFF }
  else s.notBound

/-- Port latencies (R564). -/
def latencies (v : Word) : Vector (BitVec 10) 3 := Vector.ofFn fun (i : Fin 3) => BitVec.ofNat 10 (v.toNat / 2 ^ (10 * i.val))

/-- REGISTER_WRITE (R12, R539, R540): registers with rows of their own arrive by those; read-only registers and unassigned words
ignore what is written. -/
def execRegisterWrite (t : Ns) (offset : Nat) (value : Word) (s : State) : Res :=
  let s := s.begin t
  if !s.barOpen then .next s
  else if 0x1000 ≤ offset && offset < 0x1400 then .next (s.hifWrite (offset - 0x1000) value)
  else if 0x4000 ≤ offset && offset < 0x5000 then
    .next (s.atHub .host (State.channelWrite (Fin.ofNat 32 ((offset - 0x4000) / 128)) (offset % 128) value))
  else if !s.up .svc && 0x5000 ≤ offset && offset < 0x5100 then .next s
  else if offset = 0x5090 then .next (s.updMb fun m => { m with accessErr := m.accessErr &&& ~~~ value })
  else if offset = 0x5094 then
    .next (s.updMb fun m => { m with bindErr := m.bindErr && !value.getLsbD 0, notBound := m.notBound && !value.getLsbD 1 })
  else if 0xF000 ≤ offset && offset < 0xF100 then
    .next (s.msixWrite (Fin.ofNat 16 ((offset - 0xF000) / 16)) (offset % 16) value)
  else if !s.up .svc then .next s
  else if offset = 0x118 then .next (s.updRegs fun r => { r with modErr := r.modErr &&& ~~~ value.setWidth 4 })
  else if offset = 0x2030 then .next (s.updRegs fun r => { r with tsTx := latencies value }).storeRegister
  else if offset = 0x2034 then .next (s.updRegs fun r => { r with tsRx := latencies value }).storeRegister
  else .next s

end Sys2Proof.Machine
end

