-- ==== Sys2Proof/Machine/MapField.lean ====
section
/-! DEFINITION. The state map's item encoding (R443, R613) and its objects of channels, groups, HART and characteristics (R80 to
R82, R124 to R126). -/

namespace Sys2Proof.Machine

/-! ### Items (R613) -/

/-- A field number with its content, items already encoded. -/
abbrev MapField := Nat × Bytes

/-- A count or a code: unsigned 32 bits, saturating. -/
def item (n : Nat) : Bytes := wr 4 (min n (2 ^ 32 - 1))

/-- A signed number. -/
def itemS (n : Int) : Bytes := wrS 4 n

/-- A 64-bit item: a count, or a time. -/
def item64 (n : Int) : Bytes := wrS 8 n

/-- Names as bits of one item, the first named in bit 0. -/
def flagBits : List Bool → Nat
  | [] => 0
  | b :: l => b2n b + 2 * flagBits l

def flagItem (l : List Bool) : Bytes := item (flagBits l)

/-- An item that is absent where its description only says none. -/
def itemOr (x : Option Nat) : Bytes := item (x.getD (2 ^ 32 - 1))

/-- A stamp, all ones where there is none. -/
def stampOr (x : Option Int) : Bytes := item64 (x.getD (-1))

/-- A list whose length varies: a count and its entries. -/
def manyItems (l : List Bytes) : Bytes := item l.length ++ l.flatten

/-- A whole object in its own format, zeros of its size where nothing is in force. -/
def wholeOr (size : Nat) (o : Option Bytes) : Bytes := pad4 (o.getD (List.replicate size 0))

/-- Text of 32 bytes. -/
def textItem (b : Bytes) : Bytes := (b ++ List.replicate 32 0).take 32

/-- A field record (R443). -/
def recordOfField (f : MapField) : Bytes := wr 2 f.1 ++ wr 2 f.2.length ++ pad4 f.2

/-! ### CHANNEL (R80, R81, R125) -/

/-- The owner's present demand in the form of the channel's mode. -/
def demandItem (m : ChanMode) (d : Demand) : Bytes :=
  if m.isAo then wrF32 d.eng else if m == .pulse then item (b2n d.level) else item (b2n d.on)

/-- The output as read back, in the same form. -/
def actualItem (m : ChanMode) (c : Chan) : Bytes :=
  if m.isAo then wrF32 c.actual else item (b2n c.sample.outRb)

/-- Loop state in the channel object; it reads 0 outside the AO and AI modes (R125). The forms of CAL (binary32 gain and offset,
interval in seconds, next due as a ring time) and THERMAL_FOLD as the DIAG bit THERMAL of an AO channel are the model's (DESIGN
CHOICE, log 92). -/
def State.loopFields (s : State) (ch : Fin 128) : List MapField :=
  let c := s.chans[ch]
  let m := s.mode ch
  let r := s.chanRec ch
  let l : List MapField :=
    [(0x012, if m.isAo then wrF32 c.demand.eng ++ wrF32 c.actual else wrF32 c.engValue ++ item c.quality.code.toNat),
     (0x013, if m.isAo then item c.outCode.toNat ++ flagItem [c.outFail] else item 0 ++ item 0),
     (0x014, if m == .aoSource then item s.cells[ch].buck ++ item (10 * s.groups[grp ch].lplusV.toNat - 2000)
             else item 0 ++ item 0),
     (0x015, itemS (if m.isAo then c.shortfall else 0)),
     (0x016, item c.cal.cls.rank),
     (0x017, wrF32 c.cal.gain ++ wrF32 c.cal.offset ++ stampOr c.cal.stamp ++ item c.cal.interval ++
             item64 ((c.cal.nextDue : Int) + s.time.ringOff)),
     (0x018, item (flagBits [c.clamped, c.cutActive, c.cal.refFault, m.isAo && c.has .thermal] + 65536 * min c.badDemand 65535)),
     (0x019, item s.cells[ch].tLim),
     (0x01A, item (b2n (!s.failHigh r)) ++ flagItem [recFailDir r == 0])]
  if m.isAo || m.isAi then l else l.map fun f => (f.1, List.replicate f.2.length 0)

/-- CHANNEL, class 0x10. -/
def State.channelFields (s : State) (ch : Fin 128) : List MapField :=
  let c := s.chans[ch]
  let x := c.sample
  let m := s.mode ch
  [(0x001, item m.code), (0x002, item (s.owner ch).code), (0x003, item s.groups[grp ch].epoch.toNat),
   (0x004, item c.quality.code.toNat), (0x005, item (b2n x.input) ++ item (b2n x.raw) ++ item (b2n x.outRb)),
   (0x006, item x.meas.toNat), (0x007, item x.termV.toNat), (0x008, item x.iout.toNat), (0x009, item x.temp.toNat),
   (0x00A, demandItem m c.demand), (0x00B, actualItem m c), (0x00C, item c.diag.toNat), (0x00D, item c.diagLatch.toNat),
   (0x00E, item c.crossPartner.toNat), (0x00F, item64 c.edgeTotal),
   (0x010, item (65536 * min c.laneBadIn 65535 + min c.laneBadOut 65535)), (0x011, item64 x.stamp)] ++ s.loopFields ch

/-- Reading DIAG_LATCH clears it, and with it NOT_OWNER and SILENT_HOLD in DIAG (R80). -/
def Chan.diagRead (c : Chan) : Chan :=
  { c with diagLatch := 0, diag := putBit (putBit c.diag Diag.notOwner.bit false) Diag.silentHold.bit false }

/-! ### GROUP (R82) -/

def Supply.code : Supply → Nat
  | .ok => 0 | .low => 1 | .off => 2 | .high => 3 | .unknown => 4

/-- What opened the switch: 0 a safety function with its index, 1 the field side's readback; none while closed or where no function
is named. -/
def causeItems (c : DiscCause) : Bytes :=
  match c with
  | .none => itemOr none ++ itemOr none
  | .safety f => item 0 ++ itemOr (f.map Fin.val)
  | .fieldReadback => item 1 ++ itemOr none

/-- Dissipation of a channel at its rated stress, in mW (R586). -/
def ratedPower : ChanMode → Nat
  | .unconfigured => 5 | .di1 | .di3 | .sdi => 40 | .dout | .sdo => 60 | .pulse => 50 | .aoSource => 56 | .aoSink => 61
  | .ai2w => 62 | .aiExt => 21

/-- Dissipation of a channel in mW: what R586 gives at rated stress, and what it adds above it. -/
def State.channelPower (s : State) (ch : Fin 128) : Rat :=
  let x := s.chans[ch].sample
  let m := s.mode ch
  let uA : Rat := x.meas.toNat / 500
  let above : Rat :=
    if m == .aoSink then max 0 ((x.termV.toNat : Rat) - 2500) * uA / 1000000
    else if m.isAi && recHartEn (s.chanRec ch) then 200 * uA * uA / 1000000000
    else 0
  ratedPower m + above

/-- FIELD_POWER of a group in mW: the measured base, at most 0.19 W, and its channels (R586, R588; the figures of R586 as they stand,
from the latest measurements in place of their average over 1 s: DESIGN CHOICE, log 114). -/
def State.fieldPower (s : State) (g : Fin 8) : Nat :=
  Config.freeItem s.free g.val % 191 + ((List.finRange 16).foldl (fun (p : Rat) i => p + s.channelPower (chanOf g i)) 0).ceil.toNat

/-- GROUP, class 0x11. -/
def State.groupFields (s : State) (g : Fin 8) : List MapField :=
  let x := s.groups[g]
  [(0x001, item x.supply.code), (0x002, item x.lplusV.toNat), (0x003, item x.groupI.toNat ++ item x.groupAvg),
   (0x004, item x.disc.toNat ++ causeItems x.cause), (0x005, flagItem [s.safetyGroup g]), (0x006, item (holdLimit x.cfg)),
   (0x007, item x.epoch.toNat), (0x008, item x.cfgCrc.toNat), (0x009, item x.gfeTemp.toNat),
   (0x00A, flagItem [x.overload, x.laneFailed, x.silentSeen, x.cfgHeld]), (0x00B, item s.gfes[g].silentCount),
   (0x00C, wholeOr 544 x.cfg), (0x00D, item (s.fieldPower g))]

/-! ### HART and CHAR_TABLE (R124, R126) -/

def HartState.code : HartState → Nat
  | .disabled => 0 | .idle => 1 | .waitGap => 2 | .tx => 3 | .waitResp => 4 | .rx => 5

/-- Where a request came from, as a source code and a cookie: 0 host, 1 tunnel, 2 the partner's lead, 3 the module's own
program. -/
def State.originItems (s : State) (org : Origin) : Nat × Nat :=
  match org with
  | .host id => (0, match s.hif.tags.find? fun g => g.id = id with
                    | some g => rd g.desc 4 4
                    | none => ((s.hif.reports.find? fun r => r.id = id).map fun r => r.cookie.toNat).getD 0)
  | .tunnel src tid => (1, ((s.ring.serving.find? fun v => v.src = src && v.tid = tid).map fun v => v.cookie.toNat).getD 0)
  | .partner _ => (2, 0)
  | .self => (3, 0)

/-- HART, class 0x12. -/
def State.hartFields (s : State) (ch : Fin 128) : List MapField :=
  let h := s.harts[ch]
  [(0x001, item h.state.code), (0x002, item h.waiting.length),
   (0x003, match h.active with
           | some q => let o := s.originItems q.org; item o.1 ++ item o.2
           | none => itemOr none ++ itemOr none),
   (0x004, flagItem [h.carrier, h.lastBurst.isSome && decide (s.clock ≤ h.lastBurstAt + 500000000)] ++ stampOr h.lastBurst),
   (0x005, ([h.requests, h.done, h.refused, h.noResponse, h.badFrame, h.retries, h.stored, h.burstsBad].map item).flatten),
   (0x006, manyItems (h.bursts.map fun b => pad4 b.bytes ++ item64 b.stamp))]

/-- CHAR_TABLE, class 0x13. -/
def State.charFields (s : State) (i : Fin 128) : List MapField :=
  let t := s.chars[i]
  let users := (List.finRange 128).map fun (ch : Fin 128) =>
    s.groups[grp ch].cfg.isSome && s.mode ch != .unconfigured && recChar (s.chanRec ch) == i.val
  [(0x001, item (b2n t.isSome) ++ stampOr (t.map CharTab.stamp)), (0x002, wholeOr 264 (t.map CharTab.obj)),
   (0x003, wr 16 (flagBits users))]

end Sys2Proof.Machine
end

