-- ==== Sys2Proof/Machine/MapEngine.lean ====
section
/-! DEFINITION. State-map objects of the control engine, motion and the program (R163, R197, R236, R237, R273, R274). -/

namespace Sys2Proof.Machine

/-! ### LOOP and OVERRIDE_GROUP (R236, R237) -/

/-- The loop's inner loop is not in CASCADE (R224). -/
def State.innerLeft (s : State) (lp : Fin 64) (o : Bytes) : Bool :=
  match s.innerOf lp o with
  | some k => s.loops[k].cfg.isSome && s.loops[k].mode != .cascade
  | none => false

/-- STATE of a loop, by position in the list of R236; where several hold, the one of the test, then of the hand-over, the bad PV, the
selection and the cascade. -/
def State.loopState (s : State) (lp : Fin 64) : Nat :=
  let l := s.loops[lp]
  match l.cfg with
  | none => 0
  | some o =>
    if s.tune.running.isSome && s.tune.loop == lp then 6
    else if l.handingOver then 2 else if l.pvBad then 3 else if l.notSelected then 4
    else if s.innerLeft lp o then 5 else 1

def TuneCause.code : TuneCause → Nat
  | .guard => 0 | .badPv => 1 | .modeChange => 2 | .slip => 3 | .stop => 4

/-- LOOP, class 0x20. -/
def State.loopObject (s : State) (lp : Fin 64) : List MapField :=
  let l := s.loops[lp]
  let tick := s.now.toNat / 50000
  let tested := s.tune.everRun && s.tune.loop == lp
  [(0x001, wholeOr 128 l.cfg ++ item l.phase), (0x002, item l.mode.code ++ item l.lastRequested.code),
   (0x003, item (s.loopState lp)),
   (0x004, wrF64 l.spLocal ++ wrF64 ((l.cfg.map fun o => s.cascadeSp lp o tick).getD 0) ++ wrF64 l.sp),
   (0x005, wrF64 l.pv ++ item l.pvQual.code.toNat ++ item64 l.pvStamp),
   (0x006, ([l.e, l.p, l.i, l.d, l.ratio, l.ff].map wrF64).flatten),
   (0x007, ([l.v, l.u, l.dem, l.a, l.erf, l.outMan, l.trkValue].map wrF64).flatten ++ flagItem [l.failSig]),
   (0x008, flagItem [l.satHi, l.satLo, l.frozenUp, l.frozenDown, l.outLimited, l.rateLimited, l.ffHold, l.erfBad, l.pvStale,
                     l.slipFlag]),
   (0x009, ([l.lastDt, l.lastExec, l.maxExec, l.samples, l.late, l.catchUps, l.slips].map item).flatten),
   (0x00A, ([l.badWrite, l.foreignWrites, l.handovers].map item).flatten),
   (0x00B, item (b2n (tested && s.tune.running.isSome)) ++
           itemOr (if tested then s.tune.running.map fun r => tsSignal r.2 else none) ++
           item (if tested then s.tune.captured else 0) ++ itemOr (if tested then s.tune.abort.map TuneCause.code else none))]

/-- Reading FLAGS of a loop clears LOOP_SLIP (R236). -/
def Loop.flagsRead (l : Loop) : Loop := { l with slipFlag := false }

/-- OVERRIDE_GROUP, class 0x21. -/
def State.overrideObject (s : State) (g : Fin 8) : List MapField :=
  let v := s.overs[g]
  let members := (v.cfg.map ocMembers).getD []
  let cand := members.map fun m => v.cands.any fun c => c.1 == m
  let dems := (List.range 8).map fun k => match members[k]? with | some m => wrF64 s.loops[m].dem | none => wrF64 0
  [(0x001, wholeOr 32 v.cfg), (0x002, item (if v.cfg.isNone then 0 else if v.noCandidate then 3 else if v.handingOver then 2 else 1)),
   (0x003, itemOr (v.selected.map Fin.val)), (0x004, flagItem cand ++ dems.flatten), (0x005, wrF64 v.a ++ wrF64 v.erf),
   (0x006, ([v.changes, v.handovers, v.foreignWrites].map item).flatten)]

/-! ### AXIS and SEGMENT_TABLE (R273, R274) -/

def AxisState.code : AxisState → Nat
  | .disabled => 0 | .standstill => 1 | .moving => 2 | .table => 3 | .stopping => 4 | .quickStop => 5 | .tracking => 6 | .fault => 7

/-- AXIS, class 0x28. -/
def State.axisObject (s : State) (ax : Fin 16) : List MapField :=
  let a := s.axes[ax]
  let st := a.step
  let v := a.servo
  [(0x001, wholeOr 128 a.cfg ++ item a.phase), (0x002, item a.state.code),
   (0x003, ([a.pos, a.vel, a.acc, a.jerk].map wrQ).flatten ++ item64 a.stamp),
   (0x004, wrQ a.target ++ itemOr (a.run.map fun r => r.index.val) ++ itemOr (a.run.map TableRun.pass) ++ wrQ a.ps ++
           item64 (a.plan.endAt.ceil + s.time.ringOff) ++ ([a.limits.v, a.limits.a, a.limits.d, a.limits.j].map wrQ).flatten ++
           flagItem [a.pend.v.isSome, a.pend.a.isSome, a.pend.d.isSome, a.pend.j.isSome] ++
           ([a.pend.v, a.pend.a, a.pend.d, a.pend.j].map fun x => wrQ (x.getD 0)).flatten),
   (0x005, flagItem [a.limitPending, a.reversing, a.softLimit, a.limitOverrun, a.posUnverified, a.followingError, a.driveLost,
                     a.slipFlag]),
   (0x006, item st.rung.val ++ itemS st.elec ++ itemS st.debt ++ item st.missed ++ item st.delayed ++ item st.rungChanges),
   (0x007, wrQ v.actPos ++ item64 v.actStamp.toNat ++ wrQ v.followErr ++ item v.status.toNat ++ item v.seq.toNat ++
           item v.seqEcho.toNat ++ wrQ v.offset),
   (0x008, ([a.lastExec, a.maxExec, a.samples, a.late, a.catchUps, a.slips].map item).flatten),
   (0x009, item a.lastSeq.toNat ++ item (b2n a.lastFromPrg) ++ item a.lastResult.toNat),
   (0x00A, ([a.rejected, a.foreignWrites, a.trackings, a.reversals].map item).flatten)]

/-- Reading FLAGS of an axis clears AXIS_SLIP (R273). -/
def Axis.flagsRead (a : Axis) : Axis := { a with slipFlag := false }

/-- SEGMENT_TABLE, class 0x29, with ENTRIES from a knot index on: as many whole entries as fit in 65,504 bytes, and
with the whole object as fit in the opcode's 65,536 (R425, R443). -/
def State.tableObject (s : State) (i : Fin 256) (whole : Bool) (start : Nat) : List MapField :=
  let o := (s.tables[i]).map SegTable.obj
  let user := (List.finRange 16).find? fun (k : Fin 16) => (s.axes[k].run.map TableRun.index) == some i
  let entries := (o.map fun b => b.drop 32).getD []
  [(0x001, (o.map fun b => b.take 32).getD (List.replicate 32 0)),
   (0x002, item (if o.isNone then 0 else if user.isSome then 2 else 1) ++ itemOr (user.map Fin.val)),
   (0x003, item ((o.map fun b => (crc32c (b.drop 32)).toNat).getD 0) ++ item ((o.map tlCount).getD 0))]
  ++ (if i == 0 then [(0x004, item (32768 - s.poolUsed none))] else [])
  ++ [(0x005, (entries.drop (24 * start)).take (24 * ((if whole then 65448 else 65504) / 24)))]

/-! ### PROGRAM and PROGRAM_VARIABLE (R163, R197) -/

def PrgState.code : PrgState → Nat
  | .stopped => 0 | .starting => 1 | .isochronous => 2 | .running => 3 | .switching => 4 | .halted => 5

def haltCode : HaltCause → Nat
  | .watchdog => 0 | .trap => 1 | .ecc => 2 | .eventOverrun => 3 | .stall => 4

def SlotState.code : SlotState → Nat
  | .empty => 0 | .staging => 1 | .verifying => 2 | .verified => 3 | .invalid => 4 | .running => 5

/-- Sixteen bytes of an image's identity, zeros where there is none. -/
def identityItem (b : Bytes) : Bytes := (b ++ List.replicate 16 0).take 16

/-- IMAGE: identity, slot, and the sizes of the regions in the order of R127. -/
def imageItems (slot : Option Nat) (b : Bytes) : Bytes :=
  identityItem (Image.imageId b) ++ itemOr slot ++
    (if b.isEmpty then ([0, 0, 0, 0, 0, 0] : List Nat)
     else [(Image.code b).length, Image.dataSize b, Image.retSize b, (Image.tasks b).length, (Image.ioMap b).length,
           (Image.keyMap b).length]).flatMap item

/-- The PROGRAM_PARAM object of the parameters in force (R160). -/
def PrgParam.bytes (p : PrgParam) : Bytes :=
  wr 2 p.wdMs ++ wr 2 p.floor ++ wr 2 p.isoStart ++ wr 1 p.slipLimit ++ wr 1 (b2n p.autoRun) ++ wr 4 p.saveInterval ++
    List.replicate 20 0

/-- What SWITCH_PENDING holds beside its presence: slot, switch cycle, the plan's counts, and the ARMED state of each member. -/
def State.switchItems (s : State) (w : Switch) : Bytes :=
  let armedA := if s.role == some .pairA then w.ownArmed else s.role == some .pairB && w.partnerArmed
  let armedB := if s.role == some .pairB then w.ownArmed else s.role == some .pairA && w.partnerArmed
  item w.slot.val ++ item64 w.cycle ++
    ([w.report.copied, w.report.converted, w.report.reinit, w.report.newKeys, w.report.dropped].map item).flatten ++
    flagItem [armedA] ++ flagItem [armedB]

/-- PROGRAM, class 0x38: the running image's instance. -/
def State.programObject (s : State) : List MapField :=
  let p := s.prg
  let x := s.xch
  let si := p.startInfo
  let down := s.ring.stations.filter fun st => st.state == .down
  [(0x001, item p.state.code),
   (0x002, match p.halt with
           | some h => item (haltCode h.cause) ++ item h.trapCode ++ item h.codeAddr ++ item h.dataAddr ++ item64 h.cycle ++
                       item64 h.stamp
           | none => itemOr none ++ item 0 ++ item 0 ++ item 0 ++ item64 0 ++ item64 0),
   (0x003, imageItems (p.running.map fun r => r.slot.val) s.runningImage),
   (0x004, item64 p.cycleNumber),
   (0x005, ([p.cycleLastUs, p.cycleMinUs, p.cycleMaxUs, p.cycleSumUs / max 1 p.cycles].map item).flatten),
   (0x006, p.param.bytes),
   (0x007, flagItem [p.state == .isochronous] ++ item (p.isoLeft.getD 0) ++ item p.overruns ++ item p.slips ++ item p.isoSkipped),
   (0x008, item p.longRuns ++ item p.longestUs ++ item64 p.longestCycle),
   (0x009, manyItems (p.events.map fun e => item e.runs ++ item e.lost ++ item e.longestUs) ++ item p.eventLost),
   (0x00A, item ((p.running.map Running.retainedSize).getD 0) ++ item64 p.savedStamp ++ item64 p.savedCycle ++ item p.saves ++
           item s.saveInterval),
   (0x00B, item (b2n si.cold) ++ item si.cause ++ item64 si.offTime ++ flagItem [si.storeLost] ++ item64 si.cycle ++
           item64 si.stamp),
   (0x00C, manyItems (down.map fun st => item st.index) ++ manyItems (p.undelivered.map fun u => item u.1 ++ item u.2)),
   (0x00D, ((List.finRange 2).map fun (k : Fin 2) =>
      let z := x.slots[k]
      item z.state.code ++ identityItem (Image.imageId z.bytes) ++ item (Image.build z.bytes).toNat ++
        item (if z.state == .invalid then z.failing else 0)).flatten),
   (0x00E, match x.switch with
           | some w => item 1 ++ s.switchItems w
           | none => item 0 ++ (item 0 ++ item64 0 ++ List.replicate 28 0)),
   (0x00F, x.lastSwitch.bytes),
   (0x010, (x.staging.map fun g => item g.nextOffset ++ item g.written).getD (item 0 ++ item 0))]

/-- The staged image's instance holds IMAGE only. -/
def State.stagedObject (s : State) : List MapField :=
  let k : Fin 2 := match s.prg.running with | some r => if r.slot = 0 then 1 else 0 | none => 1
  let z := s.xch.slots[k]
  [(0x003, imageItems (if z.state == .empty then none else some k.val) z.bytes)]

/-- Value of a KEY_MAP entry. A timer, counter or edge instance has no layout in data memory that the manual gives: its bytes are
free. -/
def State.variableBytes (s : State) (e : KeyEntry) : Bytes :=
  let code := Image.baseCode e.typeSig
  if 0x20 ≤ code && code ≤ 0x27 then wr e.size (s.drawn (8 * e.size)).toNat
  else Memory.readAll s.prg.data.mem e.addr e.size

/-- PROGRAM_VARIABLE, class 0x39, from a byte offset on (R442, R443); none where KEY_MAP does not hold the key. -/
def State.variableObject (s : State) (key : BitVec 64) (offset : Nat) : Option (List MapField) :=
  (s.prg.running.bind fun r => r.find key).map fun e =>
    [(0x001, wr 4 e.typeSig.toNat ++ ((s.variableBytes e).drop offset).take 65504)]

end Sys2Proof.Machine
end

