-- ==== Sys2Proof/Machine/MapNet.lean ====
section
/-! DEFINITION. State-map objects of the safety island, the mailboxes, the queues, the ring, the pair and time (R316, R317, R355,
R356, R388, R409, R448, R471). -/

namespace Sys2Proof.Machine

/-! ### SAFETY_FUNCTION and SAFETY_CHANNEL (R316, R317) -/

/-- Clock time as a ring-time stamp. -/
def State.ringOf (s : State) (x : Option Ns) : Bytes := stampOr (x.map fun n => (n : Int) + s.time.ringOff)

/-- What an OUT channel of a function, a safety channel, is commanded, reads back and is permitted; 0 for an entry not used. -/
def State.outputItems (s : State) (i : Nat) : Bytes :=
  match safChan s.safObj i with
  | none => item 0
  | some e =>
    if scLocal e then
      let x := s.chans[Fin.ofNat 128 (scSource e)]
      flagItem [x.demand.on, x.sample.outRb, x.permit]
    else if h : scSource e < 32 then flagItem [s.saf.conns[scSource e].prodState.getLsbD (scBit e), false, false]
    else item 0

/-- The same of an OVR entry, a local channel: overridden, read back, permitted (R23). -/
def State.overrideItems (s : State) (c : Nat) : Bytes :=
  let x := s.chans[Fin.ofNat 128 c]
  flagItem [x.safOff, x.sample.outRb, x.permit]

/-- Index and term of the channel whose term governs, from pairs of index and term (R311, R316). -/
def governing (l : List (Nat × Nat)) : Option Nat × Nat :=
  l.foldl (fun (b : Option Nat × Nat) x => if b.1.isNone || b.2 < x.2 then (some x.1, x.2) else b) (none, 0)

/-- The four slots of OUT or OVR entries. -/
def sfSlots (e : Bytes) (off : Nat) : List Nat := (List.range 4).map fun k => rd e (off + k) 1

/-- SAFETY_FUNCTION, class 0x30. The governing output is a safety channel, or 0x100 and the local channel of an override. -/
def State.functionObject (s : State) (sf : Fin 48) : List MapField :=
  let f := s.saf.fns[sf]
  let o := s.safObj
  let entry := safFn o sf.val
  let e := entry.getD []
  let on := entry.any sfEnable
  let gi := governing (if on then (sfInputs e).map fun i => (i, safIn o i) else [])
  let gout := governing (if on then (sfOuts e).map (fun i => (i, safOut o i)) ++ (sfOvrs e).map (fun c => (0x100 + c, 500)) else [])
  let b := f.button
  let slot (f : Nat → Bytes) (i : Nat) : Bytes := if entry.isNone || i = 0xFF then item 0 else f i
  [(0x001, wholeOr 64 entry), (0x002, item f.state.num),
   (0x003, match f.latched with
           | some c => item c.1.num.val ++ item c.1.what ++ item64 c.2
           | none => itemOr none ++ itemOr none ++ stampOr none),
   (0x004, ((List.finRange 4).map fun (p : Fin 4) =>
      let q := f.pairs[p]
      flagItem [q.aDemand, q.bDemand, q.disStart.isSome] ++
        item (match q.disStart with | some d => ((s.now - d) / 1000).toNat | none => 0) ++ flagItem [q.test == 2]).flatten),
   (0x005, ((sfSlots e 40).map (slot s.outputItems)).flatten ++ ((sfSlots e 44).map (slot s.overrideItems)).flatten),
   (0x006, item f.tRus ++ itemOr gi.1 ++ itemOr gout.1 ++ item gi.2 ++ item gout.2 ++ item s.saf.tMus ++
           item (if entry.isSome then sfPst e else 0) ++ flagItem [f.pstExceeded]),
   (0x007, flagItem [b.settled || b.zeroSince.any fun z => decide (z + 100000000 ≤ s.now)] ++ item b.lastDurUs ++ item b.lastResult ++
           item b.held ++ item b.short ++ item b.refused),
   (0x008, item f.demands ++ (f.lockouts.toList.map item).flatten ++ item f.resets),
   (0x009, item (if s.saf.cfg.isSome then safId o else 0) ++ item (if s.saf.cfg.isSome then safCrc o else 0) ++
           itemOr (s.saf.pendingCfg.map safId))]

/-- One row of the table of connections (R317). -/
def State.connectionItems (s : State) (i : Fin 32) : Bytes :=
  let c := s.saf.conns[i]
  wholeOr 16 (safConn s.safObj i.val) ++ item c.state.num ++ itemOr (c.seqLast.map BitVec.toNat) ++ s.ringOf c.lastIngress ++
    item c.crcErr ++ item c.seqErr ++ item c.repeats ++ item c.expiries

/-- SAFETY_CHANNEL, class 0x31. -/
def State.safetyChannelObject (s : State) (i : Fin 64) : List MapField :=
  let x := s.saf.chans[i]
  let entry := safChan s.safObj i.val
  let diag : Nat := match entry with
    | some e => if scLocal e then s.chans[Fin.ofNat 128 (scSource e)].diag.toNat else 0
    | none => 0
  let antivalent := s.activeFns.any fun sf => (List.range 4).any fun p =>
    sfPairUsed (s.sfEntry sf) p && sfInB (s.sfEntry sf) p == i.val && sfAnti (s.sfEntry sf) p
  [(0x001, wholeOr 8 entry), (0x002, flagItem [x.input, entry.any scSdi && x.demandB antivalent, x.faulted] ++ item diag),
   (0x003, item64 x.stamp)]
  ++ (if i == 0 then [(0x010, ((List.finRange 32).map fun k => s.connectionItems k).flatten), (0x011, item s.saf.unknownConn)] else [])

/-! ### MAILBOX (R452, R455 to R457, R471) -/

/-- MB_CTL as it reads (R455). -/
def Mailbox.ctl (b : Mailbox) : Nat :=
  flagBits [b.go, b.ackExpired, b.taken, b.crossed, b.postErr, b.wdLate, b.withdrawn]

/-- MB_INFO (R456). -/
def Mailbox.info (b : Mailbox) : Nat :=
  b.sndEpoch.toNat * 2 ^ 24 + b.rcvEpoch.toNat * 2 ^ 16 + b.cause.toNat * 256 + b.sender.toNat * 16 + b.receiver.toNat

/-- MB_DOM_STATE (R459): two bits per identity, code k + 1 at bits 2k + 1 and 2k. -/
def MbHub.domState (m : MbHub) : Nat := m.domains.toList.foldr (fun d n => d.code + 4 * n) 0

/-- MAILBOX, class 0x40. -/
def State.mailboxObject (s : State) (n : Fin 32) : List MapField :=
  let b := s.mb.boxes[n]
  [(0x001, item (s.bindWord n)), (0x002, item b.ctl), (0x003, item b.info), (0x004, (b.data.toList.map fun w => item w.toNat).flatten),
   (0x005, item64 b.postStamp ++ item64 b.takenStamp), (0x006, item b.ackTo.toNat ++ s.ringOf b.deadline),
   (0x007, item (65536 * b.posts.toNat + b.refusedPosts.toNat))]
  ++ (if n == 0 then
        [(0x010, item s.mb.domState ++ (s.mb.epochs.toList.map fun e => item e.toNat).flatten ++ item s.mb.accessErr.toNat ++
                 item (flagBits [s.mb.bindErr, s.mb.notBound]))]
      else [])

/-! ### QUEUE (R448, R569) -/

/-- HIF's pool of tags, instance 0 only. -/
def State.poolItems (s : State) : Bytes :=
  let h := s.hif
  ((List.range 4).map fun k => item (h.tags.filter fun g => g.cls.toNat = k).length).flatten ++
    item (h.sqs.toList.foldl (fun n q => n + q.posted.length) 0) ++ item h.reports.length ++ item h.held.length ++ item h.discarded

/-- A submission queue. -/
def State.sqObject (s : State) (n : Fin 8) : List MapField :=
  let q := s.hif.sqs[n]
  [(0x001, item64 q.base.toNat ++ item q.log2.toNat ++ item q.cls.toNat ++ item q.cq.val ++
           flagItem [q.enable, !s.hif.tags.any fun g => g.sq = n]),
   (0x002, item q.head ++ item q.tail ++ item 0), (0x003, item q.fetched ++ (q.dispCount.toList.map item).flatten),
   (0x004, item q.waitLast ++ item q.waitMax ++ item q.waitCookie.toNat), (0x005, item q.errSeen.toNat ++ item q.ignored)]
  ++ (if n == 0 then [(0x010, s.poolItems)] else [])

/-- A completion queue or the event queue. -/
def Cq.object (q : Cq) : List MapField :=
  [(0x001, item64 q.base.toNat ++ item q.log2.toNat ++ item q.vector.val ++ item q.coalCount.toNat ++ item q.coalUs.toNat ++
           flagItem [q.enable, false]),
   (0x002, item q.head ++ item q.tail ++ flagItem [q.phase]), (0x003, item q.written ++ item q.full ++ item64 q.lastWrite),
   (0x004, item 0 ++ item 0 ++ item 0), (0x005, item q.errSeen.toNat ++ item q.ignored)]

/-- QUEUE, class 0x48: SQ0 to SQ7, CQ0 to CQ7, EQ. -/
def State.queueObject (s : State) (n : Nat) : List MapField :=
  if h : n < 8 then s.sqObject ⟨n, h⟩
  else if h : n - 8 < 8 then s.hif.cqs[n - 8].object
  else s.hif.eq.object

/-! ### RING_PORT and RING_STATION (R355, R356) -/

/-- RING_PORT, class 0x50. -/
def State.portObject (s : State) (n : Fin 3) : List MapField :=
  let p := s.ring.ports[n]
  let r := s.ring
  [(0x001, item p.link.num ++ item (b2n p.gigabit) ++ item64 p.changed),
   (0x002, ([p.rxFrames, p.rxBytes, p.fcsErrors, p.oversize, p.foreign, p.hopsExpired].map item).flatten),
   (0x003, ([p.txOriginated, p.txForwarded, p.stomped, p.missedWindow].map item).flatten),
   (0x004, ([p.own, p.duplicate, p.tooOld, p.discardEvict].map item).flatten),
   (0x005, item p.dupCompared ++ item p.dupMismatches), (0x006, itemS p.lastTransit ++ itemS p.maxTransit),
   (0x007, item p.linkEvents)]
  ++ (if n == 0 then
        [(0x010, item (b2n r.ringClosed) ++ itemOr r.breakAfter ++ item r.capS ++ item r.capF ++ item r.capP ++ item r.capH ++
                 itemS r.capSpare)]
      else [])

/-- RING_STATION, class 0x51; an index without an entry reads as DISABLED. -/
def State.stationObject (s : State) (n : Nat) : List MapField :=
  match s.ring.stations.find? fun x => x.index = n with
  | some x =>
    [(0x001, wholeOr 32 (some x.obj)), (0x002, item x.state.num ++ item64 x.changed), (0x003, flagItem [x.prevA, x.prevB]),
     (0x004, item64 x.lastBus ++ item64 x.lastStamp ++ item x.lastHeader.toNat),
     (0x005, ([x.accepted, x.late, x.pcrcErr, x.sizeErr, x.dropouts, x.undelivered].map item).flatten),
     (0x006, ([x.tunnels, x.retrans, x.timeouts, x.downs].map item).flatten)]
  | none =>
    [(0x001, wholeOr 32 none), (0x002, item 0 ++ item64 0), (0x003, item 0), (0x004, item64 0 ++ item64 0 ++ item 0),
     (0x005, List.replicate 24 0), (0x006, List.replicate 16 0)]

/-! ### PAIR (R388) -/

/-- A peer: 0 heard, 1 lost; the last heartbeat; LEAD_SEEN. -/
def State.peerItems (s : State) (p : PeerSt) : Bytes := item (b2n p.lost) ++ s.ringOf p.last ++ flagItem [p.leadSeen]

/-- PAIR, class 0x52. -/
def State.pairObject (s : State) : List MapField :=
  let p := s.pair
  let b := p.barrier
  let revs := p.reversions.filter fun x => decide (s.now < x + 3600000000000)
  let holdoff : Nat := 1000000000 * (p.cfg.map fun o => rd o 12 2).getD 0
  [(0x001, wholeOr 32 p.cfg ++ item ((p.cfg.map fun o => (crc32c o).toNat).getD 0)),
   (0x002, item p.state.code ++ item p.partner.state ++ item64 p.changed),
   (0x003, item p.term.toNat ++ item p.leadNode ++ item p.epoch.toNat ++ item64 p.lastGrant ++ item p.lastReason.toNat),
   (0x004, s.peerItems p.partner ++ s.peerItems p.ref1 ++ s.peerItems p.ref2),
   (0x005, flagItem [!p.partner.lost, p.noReferee, p.mismatch, p.revertLimit, p.drillFailed, p.cfgMismatch, p.fwMismatch]),
   (0x006, item b.lastWaitUs ++ item b.maxWaitUs ++ item64 b.agreedBus ++ item b.fixCount),
   (0x007, item p.digestsCompared ++ item p.crcsCompared ++ item p.digestMismatches ++ item p.crcMismatches),
   (0x008, manyItems (revs.map item64) ++ s.ringOf (p.holdoffFrom.map fun x => x + holdoff) ++ s.ringOf p.drillNext),
   (0x009, item p.join.step ++ item p.join.bytes ++ item p.join.attempts ++ item p.join.timeouts),
   (0x00A, item p.forwardedCount ++ item p.completedCount ++ item p.differing)]

/-! ### TIME (R409) -/

/-- The TIME_CONFIG object of the settings in force (R406). -/
def TimeCfg.bytes (c : TimeCfg) : Bytes :=
  wr 1 (b2n c.gmCapable) ++ wr 1 c.priority1.toNat ++ wr 1 c.priority2.toNat ++ wrS 1 c.logSync ++ wr 1 c.logAnnounce ++
    wr 1 c.announceTimeout ++ wr 1 c.logPdelay ++ wr 1 c.ppsSrc.toNat ++ wr 2 c.ppsWidth ++ wr 2 c.holdoverS ++ wrF32 c.kp ++
    wrF32 c.ki ++ List.replicate 12 0

/-- CONFIG: the settings in force, with GM_CAPABLE clear in the roles that run so (R406). -/
def State.timeInForceBytes (s : State) : Bytes :=
  let c := s.time.cfg
  { c with gmCapable := c.gmCapable && !s.timeSlave }.bytes

def ShipState.num : ShipState → Nat
  | .unset => 0 | .provisional => 1 | .set => 2

/-- One port of PORTS: mean delay in ns, INVALID, and the Pdelay counts. -/
def Pdelay.items (d : Pdelay) : Bytes :=
  itemS (roundAway d.mean) ++ flagItem [d.invalid] ++ item d.sent ++ item d.received ++ item d.answered

/-- TIME, class 0x58, ring time. -/
def State.ringTimeObject (s : State) : List MapField :=
  let v := s.time
  [(0x001, item v.state.num ++ item64 v.changed),
   (0x002, itemS (roundAway v.lastOffset) ++ itemS (roundAway v.freq) ++ itemS (roundAway v.integ) ++
           itemOr (v.syncPort.map fun p => (Port.idx p).val) ++ item64 v.syncStamp),
   (0x003, (match v.gm with
            | some g => item64 g.identity.toNat ++ item g.priority1.toNat ++ item g.priority2.toNat ++ item g.stepsRemoved.toNat
            | none => stampOr none ++ itemOr none ++ itemOr none ++ itemOr none) ++ flagItem [v.isGm]),
   (0x004, (v.pdelay.toList.map Pdelay.items).flatten),
   (0x005, ([v.steps, v.ptpDuplicate, v.ptpTwoStep, v.ptpUnsupported, v.ptpDomain].map item).flatten), (0x006, s.timeInForceBytes)]

/-- TIME, ship time. -/
def State.shipTimeObject (s : State) : List MapField :=
  let v := s.time
  let w : Int × Int × Nat := match v.slew with | some w => (w.offset, w.added s.clock, w.rate) | none => v.slewLast
  [(0x001, item v.ship.num ++ flagItem [v.latch] ++ item64 v.shipStepAt), (0x002, item64 s.shipNow ++ item64 s.now),
   (0x003, item64 w.1 ++ item64 w.2.1 ++ item w.2.2), (0x004, manyItems (v.ppsIn.map fun e => item64 e.1 ++ stampOr e.2))]

end Sys2Proof.Machine
end

