-- ==== Sys2Proof/Machine/MapRegs.lean ====
section
/-! DEFINITION. What a read of BAR0 returns, register by register (R11, R452 to R459, R539, R540, R543 to R546, R551 to R553, R557 to
R568), and the registers that the state map shows besides the fields of R531 and R569. -/

namespace Sys2Proof.Machine

/-- A word put together from its parts and their lowest bits. -/
def word (parts : List (Nat × Nat)) : Nat := parts.foldl (fun n p => n + p.1 * 2 ^ p.2) 0

/-- PAIR_CTL as it reads (R565). -/
def State.pairCtl (s : State) : Nat :=
  (if s.isPair then 32 * s.pair.state.code + (if s.pair.partner.lost then 0 else 16) +
      (if s.role == some .pairA then 4 else 8)
   else 32 * 7) + b2n s.regs.joinInhibit

/-- STATE of MOD_STATUS; no access meets a module in RESET. -/
def ModState.code : ModState → Nat
  | .reset => 0 | .selftest => 1 | .loading => 2 | .waitConfirm => 3 | .service => 4 | .fatal => 5

/-- The identity block (R543). -/
def State.readIdentity (s : State) (off : Nat) : Nat :=
  match off with
  | 0x00 => 0x48505338
  | 0x04 => word [(0x80, 0), (if Config.isX then 2 else 1, 24)]
  | 0x08 => word [(Config.hwMinor.toNat, 0), (Config.hwMajor.toNat, 8), (Config.gfeRev.toNat, 16)]
  | 0x0C => Config.serial.toNat % 2 ^ 32
  | 0x10 => Config.serial.toNat / 2 ^ 32
  | 0x14 => (Image.build s.mod.fw[s.mod.fwRunning].bytes).toNat
  | 0x18 => word [(s.mod.fwRunning.val, 0), (b2n (s.mod.fwTrial && s.mod.fwRunning == s.mod.fwBoot), 1)]
  | 0x1C => 0x00010000
  | _ => 0

/-- Module status and locks, and the channel-ownership table (R544 to R546, R551 to R557). -/
def State.readModule (s : State) (off : Nat) : Nat :=
  if 0x100 ≤ off then (s.regs.chown[Fin.ofNat 16 ((off - 0x100) / 4)].vote chownFields).toNat
  else match off with
  | 0x00 => word [(s.mod.state.code, 0), (b2n s.mod.conflict, 4), (b2n s.mod.safeRestart, 5), (s.mod.health.code, 6)]
  | 0x04 => word [(s.regs.pairId.toNat, 0), (b2n s.regs.failDir, 3), (s.regs.storedRole.toNat, 4),
                  ((s.regs.role.vote roleFields).toNat, 8)]
  | 0x08 => s.mordant.toNat
  | 0x0C => s.regs.tmrFix.toNat
  | 0x10 => s.regs.tmrLast.toNat
  | 0x14 => s.safeEn.toNat
  | 0x18 => word [(s.regs.modErr.toNat, 0), (s.regs.lastOffset.toNat, 16)]
  | _ => 0

/-- A submission queue's registers (R558). -/
def State.readSq (s : State) (n : Fin 8) (sub : Nat) : Nat :=
  let q := s.hif.sqs[n]
  match sub with
  | 0x00 => q.base.toNat % 2 ^ 32
  | 0x04 => q.base.toNat / 2 ^ 32
  | 0x08 => q.log2.toNat
  | 0x0C => word [(q.cls.toNat, 0), (q.cq.val, 4), (b2n q.enable, 8), (b2n (!s.hif.tags.any fun g => g.sq = n), 9)]
  | 0x10 => q.head
  | _ => 0

/-- The registers of a completion queue or of the EQ (R558). -/
def Cq.read (q : Cq) (sub : Nat) : Nat :=
  match sub with
  | 0x00 => q.base.toNat % 2 ^ 32
  | 0x04 => q.base.toNat / 2 ^ 32
  | 0x08 => q.log2.toNat
  | 0x0C => word [(q.coalUs.toNat, 0), (q.coalCount.toNat, 18), (q.vector.val, 27), (b2n q.enable, 31)]
  | 0x10 => word [(q.tail, 0), (b2n q.phase, 12)]
  | _ => 0

/-- The host interface block (R558). -/
def State.readHif (s : State) (off : Nat) : Nat :=
  let h := s.hif
  if 0x300 ≤ off then h.eq.read (off % 32)
  else if 0x200 ≤ off then h.cqs[Fin.ofNat 8 ((off - 0x200) / 32)].read (off % 32)
  else if 0x100 ≤ off then s.readSq (Fin.ofNat 8 ((off - 0x100) / 32)) (off % 32)
  else match off with
  | 0x00 => word [(b2n h.ready, 0), (h.linkSpeed.toNat, 1), (b2n h.d3hot, 3), (b2n (!s.up .svc), 4)]
  | 0x08 => word [(h.err.toNat, 0), (h.lastQueue.toNat, 8)]
  | _ => 0

/-- Ring and pair registers (R562 to R565). -/
def State.readRing (s : State) (off : Nat) : Nat :=
  let r := s.regs
  let lats (v : Vector (BitVec 10) 3) : Nat := word [(v[0].toNat, 0), (v[1].toNat, 10), (v[2].toNat, 20)]
  match off with
  | 0x00 => s.nodeReg
  | 0x04 => r.etherType.toNat
  | 0x10 => r.macA.toNat % 2 ^ 32
  | 0x14 => r.macA.toNat / 2 ^ 32
  | 0x18 => r.macB.toNat % 2 ^ 32
  | 0x1C => r.macB.toNat / 2 ^ 32
  | 0x20 => r.macL.toNat % 2 ^ 32
  | 0x24 => r.macL.toNat / 2 ^ 32
  | 0x30 => lats r.tsTx
  | 0x34 => lats r.tsRx
  | 0x40 => s.pairCtl
  | _ => 0

/-- Image keys (R566). -/
def State.readKeys (s : State) (off : Nat) : Nat :=
  let k : Fin 4 := Fin.ofNat 4 (off / 64)
  if off % 64 < 32 then s.regs.imgKey[k][Fin.ofNat 8 (off % 64 / 4)].toNat
  else if off % 64 = 32 then word [(b2n (s.regs.keyValid.getLsbD k.val), 0), (b2n (s.regs.keyBad.getLsbD k.val), 1)]
  else 0

/-- A mailbox channel (R452 to R457). -/
def Mailbox.read (b : Mailbox) (sub : Nat) : Nat :=
  if sub < 0x40 then b.data[Fin.ofNat 16 (sub / 4)].toNat
  else match sub with
  | 0x40 => b.ctl
  | 0x44 => b.info
  | 0x48 => b.postStamp % 2 ^ 32
  | 0x4C => b.postStamp / 2 ^ 32
  | 0x50 => b.takenStamp % 2 ^ 32
  | 0x54 => b.takenStamp / 2 ^ 32
  | 0x58 => b.ackTo.toNat
  | 0x5C => word [(b.refusedPosts.toNat, 0), (b.posts.toNat, 16)]
  | _ => 0

/-- The binding table and the hub registers (R458, R459). -/
def State.readHub (s : State) (off : Nat) : Nat :=
  let m := s.mb
  let e (i : Fin 9) : Nat := m.epochs[i].toNat
  if off < 0x80 then s.bindWord (Fin.ofNat 32 (off / 4))
  else match off with
  | 0x80 => word [(e 0, 0), (e 1, 8), (e 2, 16), (e 3, 24)]
  | 0x84 => word [(e 4, 0), (e 5, 8), (e 6, 16), (e 7, 24)]
  | 0x88 => e 8
  | 0x8C => m.domState
  | 0x90 => m.accessErr.toNat
  | 0x94 => word [(b2n m.bindErr, 0), (b2n m.notBound, 1)]
  | _ => 0

/-- An entry of the MSI-X table (R411, R568). -/
def Msix.read (m : Msix) (sub : Nat) : Nat :=
  match sub with
  | 0x00 => m.addr.toNat % 2 ^ 32
  | 0x04 => m.addr.toNat / 2 ^ 32
  | 0x08 => m.data.toNat
  | _ => b2n m.masked

/-- The value a register of BAR0 holds; 0 for an unassigned word and for a WO or RV field (R11, R539, R553). -/
def State.regRead (s : State) (off : Nat) : Nat :=
  if off < 0x100 then s.readIdentity off
  else if off < 0x240 then s.readModule (off - 0x100)
  else if 0x1000 ≤ off && off < 0x1320 then s.readHif (off - 0x1000)
  else if 0x2000 ≤ off && off < 0x2100 then s.readRing (off - 0x2000)
  else if 0x3000 ≤ off && off < 0x3100 then s.readKeys (off - 0x3000)
  else if 0x4000 ≤ off && off < 0x5000 then s.mb.boxes[Fin.ofNat 32 ((off - 0x4000) / 128)].read (off % 128)
  else if 0x5000 ≤ off && off < 0x5100 then s.readHub (off - 0x5000)
  else if 0xF000 ≤ off && off < 0xF100 then s.hif.msix[Fin.ofNat 16 ((off - 0xF000) / 16)].read (off % 16)
  else if off = 0xF800 then flagBits (s.hif.msix.toList.map Msix.pending)
  else 0

/-- Whether a block is served by SVC: all but the host interface and the MSI-X structures, the mailbox hub, which sits in SVC, among
them (R539, R540; DESIGN CHOICE for the hub, log 122). -/
def servedBySvc (off : Nat) : Bool := !(decide (0x1000 ≤ off ∧ off < 0x1400) || decide (0xF000 ≤ off))

/-- What a read of BAR0 returns: all ones where SVC serves the block and does not answer (R540). -/
def State.barRead (s : State) (off : Nat) : Nat := if servedBySvc off && !s.up .svc then 2 ^ 32 - 1 else s.regRead off

/-- REGISTERS (R569): one consistent copy. -/
def State.registersItems (s : State) : Bytes :=
  ([0x108, 0x10C, 0x110, 0x114, 0x118] ++ (List.range 16).map (fun k => 0x200 + 4 * k) ++ [0x2000, 0x2040]).flatMap fun o =>
    wr 4 (s.regRead o)

/-- The registers that no described field shows: of R543, R558, R562 to R564, R566 and R568. -/
def otherRegisters : List Nat :=
  [0x008, 0x018, 0x01C, 0x104, 0x1000, 0x1008, 0x2004, 0x2010, 0x2014, 0x2018, 0x201C, 0x2020, 0x2024, 0x2030, 0x2034] ++
    (List.range 4).flatMap (fun k => (List.range 9).map fun j => 0x3000 + 64 * k + 4 * j) ++
    (List.range 64).map (fun k => 0xF000 + 4 * k) ++ [0xF800]

/-- Objects in force that no class of their own shows: RING_CONFIG, IMAGE_MAP and BRANCH_CONFIG, each a count of bytes and the object
(R4). -/
def State.otherObjects (s : State) : Bytes :=
  [opRingConfig, opImageMap, opBranchConfig].flatMap fun op =>
    let o := ((s.mod.inForce.find? fun e => e.opcode.toNat = op).map CfgEntry.obj).getD []
    wr 4 o.length ++ pad4 o

end Sys2Proof.Machine
end

