-- ==== Sys2Proof/Machine/MapStore.lean ====
section
/-! DEFINITION. State-map objects of the module, the islands, the stores, the recorder, the ledger and the display (R500, R501, R515,
R531, R537, R538, R569, R588). -/

namespace Sys2Proof.Machine

/-! ### STORE and RECORDER (R500, R501) -/

def SaveCause.code : SaveCause → Nat
  | .interval => 0 | .stop => 1 | .exchange => 2 | .command => 3 | .change => 4 | .afterSwitch => 5 | .powerFail => 6

/-- Bytes a save of a store would take, header included, and the bytes its bank takes at most (R474, R490, R492). -/
def State.saveSize (s : State) (st : Fin 2) : Nat := if st = 0 then 32 + (s.savePayload 0).2.length else s.retainedSize
def storeCapacity (st : Fin 2) : Nat := if st = 0 then 524288 else 32 + 40 + 4100 * 255

/-- STORE, class 0x60. T_HU is given in µs, as R494 computes B. -/
def State.storeFields (s : State) (st : Fin 2) : List MapField :=
  let x := s.stores[st]
  [(0x001, (x.banks.toList.map fun b =>
      flagItem [b.valid] ++ item b.seq.toNat ++ item b.length ++ item b.crc.toNat ++ item64 b.stamp).flatten),
   (0x002, itemOr (x.inUse.map Fin.val) ++ flagItem [x.lost]),
   (0x003, itemOr (x.lastCause.map SaveCause.code) ++ item64 x.lastCycle ++ item x.lastDurUs ++ item (b2n (!x.lastOk))),
   (0x004, item (s.saveSize st) ++ item (storeCapacity st) ++ item s.budget ++ item (s.mod.tHu * 1000).floor.toNat ++
           flagItem [x.overBudget, x.saveFailed]),
   (0x005, item x.savedSeq ++ stampOr (x.oldest.map Prod.fst)), (0x006, item x.saves ++ item x.failed ++ item x.skipped)]

/-- RECORDER, class 0x61, with the dictionary from a byte offset on: as many bytes as fit in 65,504, and with the whole object as
fit in the opcode's 65,536 (R425, R443, R614). -/
def State.recorderObject (s : State) (whole : Bool) (offset : Nat) : List MapField :=
  let r := s.recorder
  let l : List MapField := [(0x001, item r.firstNow.toNat ++ item (r.nextSeq - 1).toNat ++ item r.nextSeq.toNat),
   (0x002, item (131072 * r.sector.val + r.offset) ++ item r.erasedAhead ++ item (r.sectors.toList.filter RSector.retired).length ++
           item r.spares),
   (0x003, item r.used ++ item (min 8192 r.safUsed) ++ (r.droppedTotal.toList.map item).flatten),
   (0x004, manyItems (r.snaps.map fun x => item x.id ++ item x.first.toNat ++ item x.last.toNat)),
   (0x005, item r.torn ++ item r.restored ++ item r.overwritten)]
  l ++ [(0x006, (Config.dictionary.drop offset).take (if whole then 65516 - (l.flatMap recordOfField).length else 65504))]

/-! ### LEDGER (R537, R538) -/

/-- Mean rate of a ledger value per operating second over the last 90 days, where it has a trend (R537). -/
def LedgerEntry.rate (e : LedgerEntry) : Option Rat :=
  match e.trend with
  | [] => none
  | new :: _ =>
    let l := e.trend.filter fun x => decide (new.1 ≤ x.1 + 90 * 86400)
    match l.getLast? with
    | some old => if old.1 < new.1 then some ((new.2 - old.2) / ((new.1 : Rat) - old.1)) else none
    | none => none

/-- Seconds until a value that moves at a rate has gone a distance; none while it does not move that way. -/
def secondsTo (distance rate : Rat) : Option Nat := if rate ≤ 0 then none else some (distance / rate).floor.toNat

/-- Erases that the recorder's sectors and spares can still take, per sector in use (R502, R537). -/
def Recorder.erasesLeft (r : Recorder) : Rat :=
  (100000 * (512 + (r.spares : Rat)) - r.sectors.toList.foldl (fun (n : Rat) x => n + x.erases) 0) / 512

/-- Remaining life of a quantity in seconds, none for UNKNOWN (R537). -/
def State.forecast (s : State) (i : Fin 9) : Option Nat :=
  let e := s.mod.ledger[i]
  e.rate.bind fun r =>
    match i with
    | 0 => secondsTo (3 / 2 - (s.mod.rWorst.toList.foldl max 1)) r
    | 2 => secondsTo (s.mod.tHu - 10) (-r)
    | 3 => secondsTo s.recorder.erasesLeft r
    | 6 => secondsTo (150000 - s.mod.thermalHours) r
    | _ => none

/-- The earliest remaining life and the quantity that sets it (R537). -/
def State.life (s : State) : Option (Nat × Fin 9) :=
  ([0, 2, 3, 6] : List (Fin 9)).foldl (fun (b : Option (Nat × Fin 9)) i =>
    match s.forecast i, b with
    | some n, some m => if n < m.1 then some (n, i) else b
    | some n, none => some (n, i)
    | none, _ => b) none

/-- Steps per unit in which a quantity's values are given: thousandths, but whole numbers for counts, the microseconds of T_M and
seconds. -/
def ledgerScale (i : Fin 9) : Nat := if i = 3 ∨ i = 4 ∨ i = 7 ∨ i = 8 then 1 else 1000
def ledgerItem (i : Fin 9) (q : Rat) : Bytes := item (q * ledgerScale i).floor.toNat

/-- The margin of a quantity before any re-planning (R534). -/
def factoryMargin (i : Fin 9) : Rat :=
  match i with
  | 0 => 1 / 2 | 1 => 28800 | 2 => 10 | 4 => 2 | 6 => 150 | _ => 0

/-- Per-channel, per-sector and per-lane values of instances 0, 3 and 4. -/
def State.ledgerDetail (s : State) (i : Fin 9) : Bytes :=
  let of (n : Nat) : Bytes := (List.range n).flatMap fun k =>
    ledgerItem i (((s.mod.ledger[i].detail.find? fun d => d.1 = k).map Prod.snd).getD 0)
  match i with
  | 0 => of 128
  | 3 => (s.recorder.sectors.toList.map fun x => item x.erases).flatten
  | 4 => of 136
  | _ => []

/-- LEDGER, class 0x68. -/
def State.ledgerFields (s : State) (i : Fin 9) : List MapField :=
  let e := s.mod.ledger[i]
  let val (x : Option (Rat × Int)) : Bytes := match x with | some v => ledgerItem i v.1 | none => itemOr none
  [(0x001, textItem (Config.ledgerText i 0) ++ textItem (Config.ledgerText i 1) ++ textItem (Config.ledgerText i 2)),
   (0x002, val e.last ++ val e.worst ++ stampOr (e.last.map Prod.snd) ++ stampOr (e.worst.map Prod.snd)),
   (0x003, ledgerItem i (e.margin.getD (factoryMargin i)) ++ ledgerItem i (factoryMargin i) ++ stampOr e.marginStamp),
   (0x004, itemOr (s.forecast i)), (0x005, manyItems (e.history.map fun h => ledgerItem i h.1)), (0x006, s.ledgerDetail i)]

/-- An instance from 9 to 31 reads as empty (R534). -/
def ledgerEmpty : List MapField :=
  [(0x001, List.replicate 96 0), (0x002, itemOr none ++ itemOr none ++ stampOr none ++ stampOr none),
   (0x003, item 0 ++ item 0 ++ stampOr none), (0x004, itemOr none), (0x005, item 0), (0x006, [])]

def State.ledgerObject (s : State) (n : Nat) : List MapField := if h : n < 9 then s.ledgerFields ⟨n, h⟩ else ledgerEmpty

/-! ### DISPLAY (R515) -/

/-- A mask or a frame of 96 segments: three items, lowest bits first. -/
def maskItems (m : BitVec 96) : Bytes := wr 12 m.toNat

/-- The blink table in the layout of R511. -/
def blinkBytes (l : List Blink) : Bytes :=
  (List.range 8).flatMap fun k =>
    match l[k]? with
    | some b => wr 1 b.segment.val ++ wr 1 b.freq.val ++ wr 1 b.duty ++ [0]
    | none => [0xFF, 0, 0, 0]

/-- DISPLAY, class 0x70. The occupancy is given in thousandths. -/
def State.displayObject (s : State) : List MapField :=
  let d := s.disp
  let c := d.cfg
  [(0x001, wr 2 c.pulseMs ++ wr 2 c.gapMs ++ wr 1 c.mark.val ++ [0] ++ wr 2 c.vmin ++ List.replicate 8 0),
   (0x002, (d.regions.toList.map fun r => maskItems (r.getD 0)).flatten),
   (0x003, maskItems d.frame ++ maskItems ((d.pass.map Pass.frame).getD 0)),
   (0x004, flagItem [d.pass.isSome] ++ item ((d.pass.map Pass.index).getD 0) ++ item64 ((d.pass.map Pass.start).getD 0) ++
           manyItems (((d.pass.map Pass.updates).getD []).map fun u => item (s.originItems u.1).2)),
   (0x005, (d.queued.toList.map fun q => itemOr (q.map fun u => (s.originItems u.1).2)).flatten),
   (0x006, blinkBytes d.blink ++ item (blinkOccupancy c d.blink / 2)), (0x007, item d.volts ++ flagItem [d.supply]),
   (0x008, ([d.passes, d.phaseCount, d.superseded, d.dropped, d.redrives].map item).flatten)]

/-! ### MODULE and ISLAND (R531, R569) -/

/-- Bit of a health condition in the order of R530, by the model's own code of it. -/
def conditionBit (n : Nat) : Nat :=
  match n with
  | 0 => 11 | 1 => 12 | 2 => 13 | 3 => 13 | 4 => 14 | 11 => 0 | 12 => 1 | 13 => 2 | 14 => 3 | 15 => 4 | k => k

/-- Outcomes of the checks of R524, true for passed, in the order of its table. -/
def SelfTestChecks (x : SelfTest) : List Bool :=
  [x.svcSram, x.oscillator, x.memories, x.crossings.all id, x.prgSram, x.safMemory,
   x.badLanes.isEmpty && x.badGroupLanes.isEmpty, x.badPorts.isEmpty]

/-- POWER (R588), in mW and °C: the measured VLOG input power, at most 6.5 W (R585), the sum of the groups' FIELD_POWER, the module
dissipation, the measured baseplate temperature, and the highest one allowed at that dissipation (R591). -/
def State.powerItems (s : State) : Bytes :=
  let vlog := Config.freeItem s.free 8 % 6501
  let field := (List.finRange 8).foldl (fun n g => n + s.fieldPower g) 0
  let total := vlog + field
  item vlog ++ item field ++ item total ++ itemS ((Config.freeItem s.free 9 % 151 : Nat) - 55) ++
    itemS (if total ≤ 16000 then 70 else 70 - (5 * ((total : Int) - 16000) + 1999) / 2000)

/-- MODULE, class 0x01. Field 0x009 is the model's own: no described field shows its registers and objects, and every piece of state is
readable through the state map (R4, R569; DESIGN CHOICE, log 112). -/
def State.moduleObject (s : State) : List MapField :=
  let m := s.mod
  let fw := m.fw[m.fwRunning].bytes
  let conds := s.conditions.map fun c => conditionBit c.2
  [(0x001, item 0x80 ++ item (if Config.isX then 2 else 1) ++ item64 Config.serial.toNat ++ item (Image.build fw).toNat ++
           (Image.imageId fw ++ List.replicate 16 0).take 16),
   (0x002, itemOr (m.strapped.map Role.code) ++ item s.regs.storedRole.toNat ++ item (s.regs.role.vote roleFields).toNat ++
           flagItem [m.conflict]),
   (0x003, item m.state.code ++ item m.health.code ++ flagItem ((List.range 15).map fun k => conds.contains k)),
   (0x004, item m.lastReset.code ++ flagItem [m.safeRestart] ++ item m.powerCycles.toNat ++ item m.resetCount.toNat ++
           item m.lowTime.toNat ++ flagItem [m.lowAtPowerOff] ++ itemOr m.offTime),
   (0x005, ((match m.selftest with | some x => SelfTestChecks x | none => List.replicate 8 false).map fun b => flagItem [b]).flatten ++
           item m.selftestMs),
   (0x006, itemOr (s.life.map Prod.fst) ++ itemOr (s.life.map fun l => l.2.val) ++
           (match s.life with
            | some l => if s.time.ship == .set then item64 (s.shipNow + 1000000000 * l.1) else stampOr none
            | none => stampOr none)),
   (0x007, s.registersItems), (0x008, s.powerItems),
   (0x009, otherRegisters.flatMap (fun o => wr 4 (s.regRead o)) ++ s.otherObjects)]

/-- STATE of an island: READY, STALLED, IN_RESET, SLEEP, OFF; the last two where all its domains are there. -/
def State.islandShown (s : State) (i : Isl) : Nat :=
  let doms := (islIdents i).map s.domain
  if i != .hif && !doms.isEmpty && doms.all (· == .off) then 4
  else if i != .hif && !doms.isEmpty && !doms.any (· == .on) then 3
  else match (s.island i).state with | .running => 0 | .stalled => 1 | .inReset => 2

/-- ISLAND, class 0x02: the fields of R531 in its order; the watchdog period in µs. -/
def State.islandObject (s : State) (i : Isl) : List MapField :=
  let x := s.island i
  [(0x001, item (s.islandShown i)), (0x002, item (i.watchdog / 1000)),
   (0x003, itemOr (x.lastCode.map CrossCode.num) ++ (if x.lastCode.isSome then item64 x.lastStamp else stampOr none)),
   (0x004, item x.stalls), (0x005, item x.resets)]

end Sys2Proof.Machine
end

