-- ==== Sys2Proof/Machine/StateMap.lean ====
section
/-! DEFINITION. STATE_READ and the state map (R4, R36 to R39, R442, R443, R549, R550, R569). -/

namespace Sys2Proof.Machine

/-- The island whose state a class shows, beside SVC which serves the map (R14, R17). -/
def mapIsland (cls : Nat) : Isl :=
  match cls with
  | 0x10 | 0x11 | 0x12 | 0x13 | 0x58 => .tim
  | 0x20 | 0x21 => .ctl
  | 0x28 | 0x29 => .mot
  | 0x30 | 0x31 => .saf
  | 0x38 | 0x39 => .prg
  | 0x48 => .hif
  | 0x50 | 0x51 | 0x52 => .rng
  | 0x60 | 0x61 => .recorder
  | 0x70 => .disp
  | _ => .svc

/-- One instance in its range (R37). -/
def inRange (n inst : Nat) (f : Fin n → List MapField) : Option (List MapField) :=
  if h : inst < n then some (f ⟨inst, h⟩) else none

/-- The object of a class and an instance, field by field in ascending order; none where there is none (R37, R39). -/
def State.mapObject (s : State) (cls inst : Nat) (whole : Bool) (offset : Nat) (key : BitVec 64) : Option (List MapField) :=
  match cls with
  | 0x01 => inRange 1 inst fun _ => s.moduleObject
  | 0x02 => (islOfIdx inst).map s.islandObject
  | 0x10 => inRange 128 inst s.channelFields
  | 0x11 => inRange 8 inst s.groupFields
  | 0x12 => inRange 128 inst s.hartFields
  | 0x13 => inRange 128 inst s.charFields
  | 0x20 => inRange 64 inst s.loopObject
  | 0x21 => inRange 8 inst s.overrideObject
  | 0x28 => inRange 16 inst s.axisObject
  | 0x29 => inRange 256 inst fun i => s.tableObject i whole offset
  | 0x30 => inRange 48 inst s.functionObject
  | 0x31 => inRange 64 inst s.safetyChannelObject
  | 0x38 => inRange 2 inst fun i => if i = 0 then s.programObject else s.stagedObject
  | 0x39 => if inst = 0 then s.variableObject key offset else none
  | 0x40 => inRange 32 inst s.mailboxObject
  | 0x48 => inRange 17 inst fun i => s.queueObject i.val
  | 0x50 => inRange 3 inst s.portObject
  | 0x51 => inRange 4096 inst fun i => s.stationObject i.val
  | 0x52 => inRange 1 inst fun _ => s.pairObject
  | 0x58 => inRange 2 inst fun i => if i = 0 then s.ringTimeObject else s.shipTimeObject
  | 0x60 => inRange 2 inst s.storeFields
  | 0x61 => inRange 1 inst fun _ => s.recorderObject whole offset
  | 0x68 => inRange 32 inst fun i => s.ledgerObject i.val
  | 0x70 => inRange 1 inst fun _ => s.displayObject
  | _ => none

/-- Reading triplicated registers repairs a single disagreement (R549, R550): which of them a field shows. -/
def mapTmr (cls inst field : Nat) : List TmrReg :=
  let whole := field == 0
  match cls with
  | 0x01 => (if whole || field == 7 then [tmrMordant, tmrSafeEn] ++ tmrChown ++ [tmrNode] else []) ++
            (if whole || field == 2 || field == 9 then [tmrRole] else [])
  | 0x10 => if whole || field == 2 then (tmrChown[inst / 8]?).toList else []
  | 0x11 => if whole || field == 5 then [tmrSafeEn] else []
  | 0x40 => if whole || field == 1 then (tmrBind[inst]?).toList else []
  | _ => []

/-- What a read clears: DIAG_LATCH of a channel, SILENT_SEEN of a group, LOOP_SLIP, AXIS_SLIP (R80, R82, R236, R273). -/
def State.mapClear (cls inst field : Nat) (s : State) : State :=
  let whole := field == 0
  match cls with
  | 0x10 => if h : inst < 128 then (if whole || field == 0x00D then s.updChan ⟨inst, h⟩ Chan.diagRead else s) else s
  | 0x11 => if h : inst < 8 then (if whole || field == 0x00A then s.updGroup ⟨inst, h⟩ fun g => { g with silentSeen := false } else s) else s
  | 0x20 => if h : inst < 64 then (if whole || field == 0x008 then s.updLoop ⟨inst, h⟩ Loop.flagsRead else s) else s
  | 0x28 => if h : inst < 16 then (if whole || field == 0x005 then s.updAxis ⟨inst, h⟩ Axis.flagsRead else s) else s
  | _ => s

/-- The records of the field asked for, or of every field; none where the object has no such field (R39, R443). -/
def mapRecords (field : Nat) (l : List MapField) : Option Bytes :=
  if field = 0 then some (l.flatMap recordOfField)
  else (l.find? fun f => f.1 = field).map recordOfField

/-- The whole result: ADDRESS, the byte count of the records, the stamp of the copy (R443). -/
def mapResult (addr : Nat) (stamp : Int) (records : Bytes) : Bytes := wr 4 addr ++ wr 4 records.length ++ wrS 8 stamp ++ records

/-- Whether the present instant is one at which an object of the class is copied: a tick boundary for channels, groups and HART
objects, the start of a safety cycle for safety objects, the time between two program cycles for program variables. A sample of a loop
or an axis is one step, so every instant between commands is a sample boundary, and for every other class no change is in progress
(R38; DEDUCED, log 80). -/
def State.atBoundary (s : State) (cls : Nat) : Bool :=
  match cls with
  | 0x10 | 0x11 | 0x12 => s.now % 50000 == 0
  | 0x30 | 0x31 => s.now % 1000000 == 0
  | 0x39 => !(s.prg.inMain || s.atSwitch)
  | _ => true

/-- STATE_READ (R38, R39, R442, R443). The copy waits for its instant; before it an admitted read does nothing yet. Registers shown are voted
and repaired first; then the copy is taken, and then what the read clears is cleared. -/
def execStateRead (t : Ns) (org : Origin) (param : Bytes) (s : State) : Res :=
  let s := s.begin t
  let addr := rd param 0 4
  let cls := addr / 2 ^ 24 % 256
  let inst := addr / 2 ^ 12 % 4096
  let field := addr % 4096
  let copy (s : State) := (s.mapObject cls inst (field == 0) (rd param 4 4) (BitVec.ofNat 64 (rd param 8 8))).bind (mapRecords field)
  serve org opStateRead [.svc, mapIsland cls] (badField (param.length != 16 || !stateParamOk param))
    (fails (copy s).isNone (.error stUnknownObject))
    (fun s =>
      if !s.atBoundary cls then s
      else
        let s := s.scrub (mapTmr cls inst field)
        let result := mapResult addr s.now ((copy s).getD [])
        ((s.mapClear cls inst field).advance).complete org (.done result)) s

end Sys2Proof.Machine
end

