-- ==== Sys2Proof/Machine/Dispatch.lean ====
section
/-! DEFINITION. The meaning of every command: one arm per row of the opcode table. -/

namespace Sys2Proof.Machine

/-- The effect of a command on everything but the queue. -/
def exec (i : Instr) (s : State) : Host.Outcome State Fault Refusal :=
  match i with
  | .crossingRequest t src dst x accepted => Sys2Proof.Machine.execCrossingRequest t src dst x accepted s
  | .islandWatchdogExpiry t isl => Sys2Proof.Machine.execIslandWatchdogExpiry t isl s
  | .crossingTimeout t src dst => Sys2Proof.Machine.execCrossingTimeout t src dst s
  | .islandReady t isl => Sys2Proof.Machine.execIslandReady t isl s
  | .recordSubmit t src kind items => Sys2Proof.Machine.execRecordSubmit t src kind items s
  | .recordsDropped t => Sys2Proof.Machine.execRecordsDropped t s
  | .timeoutDecisionDeferred t which good stamp => Sys2Proof.Machine.execTimeoutDecisionDeferred t which good stamp s
  | .laneTick t cells groups => Sys2Proof.Machine.execLaneTick t cells groups s
  | .channelInputFrame t ch frame => Sys2Proof.Machine.execChannelInputFrame t ch frame s
  | .outputCutoff t => Sys2Proof.Machine.execOutputCutoff t s
  | .channelOutputFrame t ch frame => Sys2Proof.Machine.execChannelOutputFrame t ch frame s
  | .groupOutputFrame t g frame => Sys2Proof.Machine.execGroupOutputFrame t g frame s
  | .groupInputFrame t g frame => Sys2Proof.Machine.execGroupInputFrame t g frame s
  | .silentEntry t ch => Sys2Proof.Machine.execSilentEntry t ch s
  | .groupSilentEntry t g => Sys2Proof.Machine.execGroupSilentEntry t g s
  | .sdoReadbackCheck t ch => Sys2Proof.Machine.execSdoReadbackCheck t ch s
  | .groupSdoReadbackCheck t g => Sys2Proof.Machine.execGroupSdoReadbackCheck t g s
  | .holdLimitExpiry t ch => Sys2Proof.Machine.execHoldLimitExpiry t ch s
  | .wireBreakSet t ch => Sys2Proof.Machine.execWireBreakSet t ch s
  | .wireBreakClear t ch => Sys2Proof.Machine.execWireBreakClear t ch s
  | .inrushWindowEnd t ch => Sys2Proof.Machine.execInrushWindowEnd t ch s
  | .overloadTrip t ch => Sys2Proof.Machine.execOverloadTrip t ch s
  | .overloadRetry t ch => Sys2Proof.Machine.execOverloadRetry t ch s
  | .overloadClear t ch => Sys2Proof.Machine.execOverloadClear t ch s
  | .openLoad t ch => Sys2Proof.Machine.execOpenLoad t ch s
  | .offPulseSlot t ch => Sys2Proof.Machine.execOffPulseSlot t ch s
  | .offPulseEnd t ch seen => Sys2Proof.Machine.execOffPulseEnd t ch seen s
  | .offPulseRoundEnd t => Sys2Proof.Machine.execOffPulseRoundEnd t s
  | .testPulseSlot t ch belowOff closed => Sys2Proof.Machine.execTestPulseSlot t ch belowOff closed s
  | .readbackDelayExpiry t ch => Sys2Proof.Machine.execReadbackDelayExpiry t ch s
  | .lplusLow t g => Sys2Proof.Machine.execLplusLow t g s
  | .lplusOff t g => Sys2Proof.Machine.execLplusOff t g s
  | .lplusHigh t g => Sys2Proof.Machine.execLplusHigh t g s
  | .lplusRecover t g => Sys2Proof.Machine.execLplusRecover t g s
  | .groupConfig t org obj => Sys2Proof.Machine.execGroupConfig t org obj s
  | .cfgCommit t g => Sys2Proof.Machine.execCfgCommit t g s
  | .groupConfigSettled t g => Sys2Proof.Machine.execGroupConfigSettled t g s
  | .groupConfigResend t g => Sys2Proof.Machine.execGroupConfigResend t g s
  | .buckTargetReached t ch => Sys2Proof.Machine.execBuckTargetReached t ch s
  | .thermalClear t ch => Sys2Proof.Machine.execThermalClear t ch s
  | .complianceSet t ch => Sys2Proof.Machine.execComplianceSet t ch s
  | .complianceClear t ch => Sys2Proof.Machine.execComplianceClear t ch s
  | .rangeDelayExpiry t ch => Sys2Proof.Machine.execRangeDelayExpiry t ch s
  | .charLoad t org obj => Sys2Proof.Machine.execCharLoad t org obj s
  | .calibrationCheck t ch => Sys2Proof.Machine.execCalibrationCheck t ch s
  | .calibrationCheckEnd t ch ref4 ref20 => Sys2Proof.Machine.execCalibrationCheckEnd t ch ref4 ref20 s
  | .hartRequest t org obj => Sys2Proof.Machine.execHartRequest t org obj s
  | .hartTransmitStart t ch => Sys2Proof.Machine.execHartTransmitStart t ch s
  | .hartResponse t ch start frame => Sys2Proof.Machine.execHartResponse t ch start frame s
  | .hartNoResponse t ch => Sys2Proof.Machine.execHartNoResponse t ch s
  | .hartBurst t ch start frame => Sys2Proof.Machine.execHartBurst t ch start frame s
  | .burstSilence t ch => Sys2Proof.Machine.execBurstSilence t ch s
  | .mainCycleStart t faultActs acts => Sys2Proof.Machine.execMainCycleStart t faultActs acts s
  | .outputWrite t writes => Sys2Proof.Machine.execOutputWrite t writes s
  | .eventTaskStart t prio => Sys2Proof.Machine.execEventTaskStart t prio s
  | .eventTaskEnd t prio acts writes => Sys2Proof.Machine.execEventTaskEnd t prio acts writes s
  | .cycleLong t => Sys2Proof.Machine.execCycleLong t s
  | .cycleLongEnd t acts => Sys2Proof.Machine.execCycleLongEnd t acts s
  | .watchdogHalt t => Sys2Proof.Machine.execWatchdogHalt t s
  | .trap t code codeAddr dataAddr => Sys2Proof.Machine.execTrap t code codeAddr dataAddr s
  | .eccHalt t => Sys2Proof.Machine.execEccHalt t s
  | .eventOverrun t prio => Sys2Proof.Machine.execEventOverrun t prio s
  | .run t org obj => Sys2Proof.Machine.execRun t org obj s
  | .startFinished t acts writes => Sys2Proof.Machine.execStartFinished t acts writes s
  | .stop t org obj => Sys2Proof.Machine.execStop t org obj s
  | .isoEnter t org obj => Sys2Proof.Machine.execIsoEnter t org obj s
  | .isoLeave t org obj => Sys2Proof.Machine.execIsoLeave t org obj s
  | .programParam t org obj => Sys2Proof.Machine.execProgramParam t org obj s
  | .varWrite t org obj => Sys2Proof.Machine.execVarWrite t org obj s
  | .retainedSaveInterval t => Sys2Proof.Machine.execRetainedSaveInterval t s
  | .cycleSlip t => Sys2Proof.Machine.execCycleSlip t s
  | .imageStage t org param data => Sys2Proof.Machine.execImageStage t org param data s
  | .imageVerifyEnd t partnerCheck => Sys2Proof.Machine.execImageVerifyEnd t partnerCheck s
  | .programSwitch t org obj => Sys2Proof.Machine.execProgramSwitch t org obj s
  | .armed t cycle => Sys2Proof.Machine.execArmed t cycle s
  | .pairNotArmed t => Sys2Proof.Machine.execPairNotArmed t s
  | .preSwitchEnd t gapUs acts => Sys2Proof.Machine.execPreSwitchEnd t gapUs acts s
  | .postSwitchEnd t acts => Sys2Proof.Machine.execPostSwitchEnd t acts s
  | .loopSample t lp done => Sys2Proof.Machine.execLoopSample t lp done s
  | .catchUpSample t lp done => Sys2Proof.Machine.execCatchUpSample t lp done s
  | .loopSlip t lp => Sys2Proof.Machine.execLoopSlip t lp s
  | .loopConfig t org obj => Sys2Proof.Machine.execLoopConfig t org obj s
  | .loopCommand t org obj => Sys2Proof.Machine.execLoopCommand t org obj s
  | .overrideConfig t org obj => Sys2Proof.Machine.execOverrideConfig t org obj s
  | .tuneStart t org obj => Sys2Proof.Machine.execTuneStart t org obj s
  | .tuneStop t org obj => Sys2Proof.Machine.execTuneStop t org obj s
  | .tuneEnd t => Sys2Proof.Machine.execTuneEnd t s
  | .captureRead t org param => Sys2Proof.Machine.execCaptureRead t org param s
  | .axisSample t ax done => Sys2Proof.Machine.execAxisSample t ax done s
  | .axisConfig t org obj => Sys2Proof.Machine.execAxisConfig t org obj s
  | .moveAbs t org obj => Sys2Proof.Machine.execMoveAbs t org obj s
  | .moveRel t org obj => Sys2Proof.Machine.execMoveRel t org obj s
  | .runTable t org obj => Sys2Proof.Machine.execRunTable t org obj s
  | .axisStop t org obj => Sys2Proof.Machine.execAxisStop t org obj s
  | .quickStop t org obj => Sys2Proof.Machine.execQuickStop t org obj s
  | .setPosition t org obj => Sys2Proof.Machine.execSetPosition t org obj s
  | .setLimits t org obj => Sys2Proof.Machine.execSetLimits t org obj s
  | .resetFault t org obj => Sys2Proof.Machine.execResetFault t org obj s
  | .tableLoad t org obj => Sys2Proof.Machine.execTableLoad t org obj s
  | .stepDebtTimeout t ax => Sys2Proof.Machine.execStepDebtTimeout t ax s
  | .axisSlip t ax => Sys2Proof.Machine.execAxisSlip t ax s
  | .safetyCycle t agree lenA lenB inTimeA inTimeB => Sys2Proof.Machine.execSafetyCycle t agree lenA lenB inTimeA inTimeB s
  | .discrepancy t sf pair receiving => Sys2Proof.Machine.execDiscrepancy t sf pair receiving s
  | .resetHeld t sf => Sys2Proof.Machine.execResetHeld t sf s
  | .stoFeedback t sf => Sys2Proof.Machine.execStoFeedback t sf s
  | .inputFaultSettled t ch => Sys2Proof.Machine.execInputFaultSettled t ch s
  | .supplySettled t g => Sys2Proof.Machine.execSupplySettled t g s
  | .recloseCheck t g => Sys2Proof.Machine.execRecloseCheck t g s
  | .recloseRoundCheck t g => Sys2Proof.Machine.execRecloseRoundCheck t g s
  | .permitTimeout t ch => Sys2Proof.Machine.execPermitTimeout t ch s
  | .safetyConfig t org obj => Sys2Proof.Machine.execSafetyConfig t org obj s
  | .safetyConfirm t org param => Sys2Proof.Machine.execSafetyConfirm t org param s
  | .safetyContainer t ingress bytes agree => Sys2Proof.Machine.execSafetyContainer t ingress bytes agree s
  | .safetyFrameWatchdog t conn receiving => Sys2Proof.Machine.execSafetyFrameWatchdog t conn receiving s
  | .safReferenceCheck t diffPct => Sys2Proof.Machine.execSafReferenceCheck t diffPct s
  | .safMemoryError t => Sys2Proof.Machine.execSafMemoryError t s
  | .safSupplyFault t => Sys2Proof.Machine.execSafSupplyFault t s
  | .linkUp t port gigabit => Sys2Proof.Machine.execLinkUp t port gigabit s
  | .linkDown t port negFail => Sys2Proof.Machine.execLinkDown t port negFail s
  | .frameReceive t port ingress frame => Sys2Proof.Machine.execFrameReceive t port ingress frame s
  | .busCycleStart t => Sys2Proof.Machine.execBusCycleStart t s
  | .windowEnd t => Sys2Proof.Machine.execWindowEnd t s
  | .acyclicSend t => Sys2Proof.Machine.execAcyclicSend t s
  | .inputImage t ingress bytes => Sys2Proof.Machine.execInputImage t ingress bytes s
  | .outputImage t ingress bytes => Sys2Proof.Machine.execOutputImage t ingress bytes s
  | .outputImageTake t => Sys2Proof.Machine.execOutputImageTake t s
  | .stationWatchdog t index receiving => Sys2Proof.Machine.execStationWatchdog t index receiving s
  | .iostationWatchdog t receiving => Sys2Proof.Machine.execIostationWatchdog t receiving s
  | .tunnelRequest t ingress bytes => Sys2Proof.Machine.execTunnelRequest t ingress bytes s
  | .tunnelResponse t ingress bytes => Sys2Proof.Machine.execTunnelResponse t ingress bytes s
  | .tunnelRetry t tid => Sys2Proof.Machine.execTunnelRetry t tid s
  | .reassemblyTimeout t src tid => Sys2Proof.Machine.execReassemblyTimeout t src tid s
  | .addressFrame t port ingress bytes => Sys2Proof.Machine.execAddressFrame t port ingress bytes s
  | .ringConfig t org obj => Sys2Proof.Machine.execRingConfig t org obj s
  | .stationConfig t org obj => Sys2Proof.Machine.execStationConfig t org obj s
  | .imageMap t org obj => Sys2Proof.Machine.execImageMap t org obj s
  | .branchConfig t org obj => Sys2Proof.Machine.execBranchConfig t org obj s
  | .nodeAddress t org param => Sys2Proof.Machine.execNodeAddress t org param s
  | .nodeAddressRetry t => Sys2Proof.Machine.execNodeAddressRetry t s
  | .pairConfig t org obj => Sys2Proof.Machine.execPairConfig t org obj s
  | .handover t org obj => Sys2Proof.Machine.execHandover t org obj s
  | .drill t org obj => Sys2Proof.Machine.execDrill t org obj s
  | .releaseShadow t org obj => Sys2Proof.Machine.execReleaseShadow t org obj s
  | .clearRevertLimit t org obj => Sys2Proof.Machine.execClearRevertLimit t org obj s
  | .heartbeatSend t => Sys2Proof.Machine.execHeartbeatSend t s
  | .heartbeat t port ingress bytes => Sys2Proof.Machine.execHeartbeat t port ingress bytes s
  | .heartbeatLoss t who receiving => Sys2Proof.Machine.execHeartbeatLoss t who receiving s
  | .grantRequest t ingress bytes => Sys2Proof.Machine.execGrantRequest t ingress bytes s
  | .refereeGrantDecision t pair => Sys2Proof.Machine.execRefereeGrantDecision t pair s
  | .formWait t pair => Sys2Proof.Machine.execFormWait t pair s
  | .grant t ingress bytes => Sys2Proof.Machine.execGrant t ingress bytes s
  | .deny t ingress bytes => Sys2Proof.Machine.execDeny t ingress bytes s
  | .relinquish t ingress bytes => Sys2Proof.Machine.execRelinquish t ingress bytes s
  | .barrier t msg => Sys2Proof.Machine.execBarrier t msg s
  | .outDone t cycle stamp => Sys2Proof.Machine.execOutDone t cycle stamp s
  | .outputRelease t => Sys2Proof.Machine.execOutputRelease t s
  | .imageFix t images => Sys2Proof.Machine.execImageFix t images s
  | .digest t bus crc => Sys2Proof.Machine.execDigest t bus crc s
  | .resync t msg => Sys2Proof.Machine.execResync t msg s
  | .joinTimeout t => Sys2Proof.Machine.execJoinTimeout t s
  | .record t rec => Sys2Proof.Machine.execRecord t rec s
  | .swapDrill t => Sys2Proof.Machine.execSwapDrill t s
  | .revertReq t => Sys2Proof.Machine.execRevertReq t s
  | .sync t port ingress msg => Sys2Proof.Machine.execSync t port ingress msg s
  | .syncSend t => Sys2Proof.Machine.execSyncSend t s
  | .syncLoss t => Sys2Proof.Machine.execSyncLoss t s
  | .holdoverExpiry t => Sys2Proof.Machine.execHoldoverExpiry t s
  | .announce t port ingress msg gm => Sys2Proof.Machine.execAnnounce t port ingress msg gm s
  | .announceSend t => Sys2Proof.Machine.execAnnounceSend t s
  | .announceTimeout t => Sys2Proof.Machine.execAnnounceTimeout t s
  | .pdelayReq t port ingress msg => Sys2Proof.Machine.execPdelayReq t port ingress msg s
  | .pdelayReqSend t port => Sys2Proof.Machine.execPdelayReqSend t port s
  | .pdelayResp t port ingress msg => Sys2Proof.Machine.execPdelayResp t port ingress msg s
  | .pdelayInvalid t port => Sys2Proof.Machine.execPdelayInvalid t port s
  | .shipTimeSet t org obj => Sys2Proof.Machine.execShipTimeSet t org obj s
  | .ppsIn t => Sys2Proof.Machine.execPpsIn t s
  | .ppsMissing t => Sys2Proof.Machine.execPpsMissing t s
  | .shipTimeSlew t org obj => Sys2Proof.Machine.execShipTimeSlew t org obj s
  | .slewEnd t => Sys2Proof.Machine.execSlewEnd t s
  | .timeConfig t org obj => Sys2Proof.Machine.execTimeConfig t org obj s
  | .ppsOut t => Sys2Proof.Machine.execPpsOut t s
  | .aonShipTimeCopy t => Sys2Proof.Machine.execAonShipTimeCopy t s
  | .sqTailDoorbell t n value => Sys2Proof.Machine.execSqTailDoorbell t n value s
  | .cqHeadDoorbell t n value => Sys2Proof.Machine.execCqHeadDoorbell t n value s
  | .eqHeadDoorbell t value => Sys2Proof.Machine.execEqHeadDoorbell t value s
  | .descriptorFetch t desc data => Sys2Proof.Machine.execDescriptorFetch t desc data s
  | .descriptorStart t id => Sys2Proof.Machine.execDescriptorStart t id s
  | .completionWrite t id => Sys2Proof.Machine.execCompletionWrite t id s
  | .coalescingTimeout t q => Sys2Proof.Machine.execCoalescingTimeout t q s
  | .eventPost t type inst data => Sys2Proof.Machine.execEventPost t type inst data s
  | .nop t org => Sys2Proof.Machine.execNop t org s
  | .stateRead t org param => Sys2Proof.Machine.execStateRead t org param s
  | .hifSqCtlWrite t n value => Sys2Proof.Machine.execHifSqCtlWrite t n value s
  | .hifCqCtlWrite t n value => Sys2Proof.Machine.execHifCqCtlWrite t n value s
  | .hifEqCtlWrite t value => Sys2Proof.Machine.execHifEqCtlWrite t value s
  | .hifSoftReset t value => Sys2Proof.Machine.execHifSoftReset t value s
  | .functionLevelReset t => Sys2Proof.Machine.execFunctionLevelReset t s
  | .perstN t => Sys2Proof.Machine.execPerstN t s
  | .d3hotEntry t => Sys2Proof.Machine.execD3hotEntry t s
  | .d0Return t => Sys2Proof.Machine.execD0Return t s
  | .unsupportedRequest t bar offset size => Sys2Proof.Machine.execUnsupportedRequest t bar offset size s
  | .registerWrite t offset value => Sys2Proof.Machine.execRegisterWrite t offset value s
  | .mbDataWrite t who n j value => Sys2Proof.Machine.execMbDataWrite t who n j value s
  | .mbPost t who n => Sys2Proof.Machine.execMbPost t who n s
  | .mbTake t who n => Sys2Proof.Machine.execMbTake t who n s
  | .withdraw t who n => Sys2Proof.Machine.execWithdraw t who n s
  | .ackExpired t due => Sys2Proof.Machine.execAckExpired t due s
  | .mbBindWrite t n value => Sys2Proof.Machine.execMbBindWrite t n value s
  | .domainPower t org param => Sys2Proof.Machine.execDomainPower t org param s
  | .recordFlashCopy t good => Sys2Proof.Machine.execRecordFlashCopy t good s
  | .sectorEraseEnd t ok => Sys2Proof.Machine.execSectorEraseEnd t ok s
  | .recSnapshot t org => Sys2Proof.Machine.execRecSnapshot t org s
  | .recRead t org param max => Sys2Proof.Machine.execRecRead t org param max s
  | .configSaveStart t => Sys2Proof.Machine.execConfigSaveStart t s
  | .storeSaveComplete t store => Sys2Proof.Machine.execStoreSaveComplete t store s
  | .saveRetained t org param => Sys2Proof.Machine.execSaveRetained t org param s
  | .saveConfig t org param => Sys2Proof.Machine.execSaveConfig t org param s
  | .clearRetained t org param => Sys2Proof.Machine.execClearRetained t org param s
  | .factoryConfig t org param => Sys2Proof.Machine.execFactoryConfig t org param s
  | .powerFail t => Sys2Proof.Machine.execPowerFail t s
  | .vlogReturnAfterFail t => Sys2Proof.Machine.execVlogReturnAfterFail t s
  | .holdupExhausted t => Sys2Proof.Machine.execHoldupExhausted t s
  | .dispConfig t org obj => Sys2Proof.Machine.execDispConfig t org obj s
  | .dispRegion t org obj => Sys2Proof.Machine.execDispRegion t org obj s
  | .dispUpdate t org obj => Sys2Proof.Machine.execDispUpdate t org obj s
  | .dispBlink t org obj => Sys2Proof.Machine.execDispBlink t org obj s
  | .displayPassStart t volts => Sys2Proof.Machine.execDisplayPassStart t volts s
  | .displayPhaseEnd t volts => Sys2Proof.Machine.execDisplayPhaseEnd t volts s
  | .blinkToggle t freq com => Sys2Proof.Machine.execBlinkToggle t freq com s
  | .dispSupplyCheck t volts => Sys2Proof.Machine.execDispSupplyCheck t volts s
  | .powerOn t vbat straps offTime => Sys2Proof.Machine.execPowerOn t vbat straps offTime s
  | .resetNLow t => Sys2Proof.Machine.execResetNLow t s
  | .resetNRelease t straps => Sys2Proof.Machine.execResetNRelease t straps s
  | .selftestComplete t test => Sys2Proof.Machine.execSelftestComplete t test s
  | .masterConfirm t org obj => Sys2Proof.Machine.execMasterConfirm t org obj s
  | .islandReset t org param => Sys2Proof.Machine.execIslandReset t org param s
  | .fwStage t org param data => Sys2Proof.Machine.execFwStage t org param data s
  | .fwActivate t org param => Sys2Proof.Machine.execFwActivate t org param s
  | .fwTrialExpiry t => Sys2Proof.Machine.execFwTrialExpiry t s
  | .holdupCharged t => Sys2Proof.Machine.execHoldupCharged t s
  | .holdupNotCharged t => Sys2Proof.Machine.execHoldupNotCharged t s
  | .ledgerTest t org meas => Sys2Proof.Machine.execLedgerTest t org meas s
  | .holdupTest t meas => Sys2Proof.Machine.execHoldupTest t meas s
  | .ledgerMeasurement t inst index value => Sys2Proof.Machine.execLedgerMeasurement t inst index value s
  | .thermalHours t temps => Sys2Proof.Machine.execThermalHours t temps s
  | .mordantWrite t value => Sys2Proof.Machine.execMordantWrite t value s
  | .safeEnWrite t value => Sys2Proof.Machine.execSafeEnWrite t value s
  | .testClrWrite t value => Sys2Proof.Machine.execTestClrWrite t value s
  | .tmrScrub t upsets => Sys2Proof.Machine.execTmrScrub t upsets s
  | .ringIdWrite t offset value => Sys2Proof.Machine.execRingIdWrite t offset value s
  | .imgKeyWordWrite t k j value => Sys2Proof.Machine.execImgKeyWordWrite t k j value s
  | .keyValidWrite t k value => Sys2Proof.Machine.execKeyValidWrite t k value s
  | .joinInhibitWrite t value => Sys2Proof.Machine.execJoinInhibitWrite t value s
  | .groupConfigurationLost t g => Sys2Proof.Machine.execGroupConfigurationLost t g s
  | .perstNRelease t => Sys2Proof.Machine.execPerstNRelease t s
  | .pcieLinkDown t => Sys2Proof.Machine.execPcieLinkDown t s
  | .pcieLinkUp t speed => Sys2Proof.Machine.execPcieLinkUp t speed s
  | .serviceUartTestControl t g ctl set => Sys2Proof.Machine.execServiceUartTestControl t g ctl set s

end Sys2Proof.Machine
end

