-- ==== Sys2Proof/WellFormed.lean ====
section
/-! DEFINITION. Well-formed commands: the lengths that the carrier of a command guarantees before its meaning reads it (R324, R424
to R426, R539). A descriptor of another length never reaches its opcode: R426 answers it. -/

namespace Sys2Proof

/-- A length within a range. -/
def lenIn (lo hi : Nat) (b : Bytes) : Bool := decide (lo ≤ b.length) && decide (b.length ≤ hi)

/-- Content of a Broluma frame from byte 0 of its header to its PCRC: 20 to 1,500 bytes (R324). -/
def frameLen (b : Bytes) : Bool := lenIn 20 1500 b

/-- An inline object of PARAM: 16 bytes (R424). -/
def inlineLen (b : Bytes) : Bool := b.length == 16

/-- Whether a command is one that its carrier can bring. -/
def Instr.wf : Instr → Bool
  | .crossingRequest _ _ _ _ _ => true
  | .islandWatchdogExpiry _ _ => true
  | .crossingTimeout _ _ _ => true
  | .islandReady _ _ => true
  | .recordSubmit _ _ _ _ => true
  | .recordsDropped _ => true
  | .timeoutDecisionDeferred _ _ _ _ => true
  | .laneTick _ _ _ => true
  | .channelInputFrame _ _ _ => true
  | .outputCutoff _ => true
  | .channelOutputFrame _ _ _ => true
  | .groupOutputFrame _ _ _ => true
  | .groupInputFrame _ _ _ => true
  | .silentEntry _ _ => true
  | .groupSilentEntry _ _ => true
  | .sdoReadbackCheck _ _ => true
  | .groupSdoReadbackCheck _ _ => true
  | .holdLimitExpiry _ _ => true
  | .wireBreakSet _ _ => true
  | .wireBreakClear _ _ => true
  | .inrushWindowEnd _ _ => true
  | .overloadTrip _ _ => true
  | .overloadRetry _ _ => true
  | .overloadClear _ _ => true
  | .openLoad _ _ => true
  | .offPulseSlot _ _ => true
  | .offPulseEnd _ _ _ => true
  | .offPulseRoundEnd _ => true
  | .testPulseSlot _ _ _ _ => true
  | .readbackDelayExpiry _ _ => true
  | .lplusLow _ _ => true
  | .lplusOff _ _ => true
  | .lplusHigh _ _ => true
  | .lplusRecover _ _ => true
  | .groupConfig _ _ obj => lenIn 544 544 obj
  | .cfgCommit _ _ => true
  | .groupConfigSettled _ _ => true
  | .groupConfigResend _ _ => true
  | .buckTargetReached _ _ => true
  | .thermalClear _ _ => true
  | .complianceSet _ _ => true
  | .complianceClear _ _ => true
  | .rangeDelayExpiry _ _ => true
  | .charLoad _ _ obj => lenIn 264 264 obj
  | .calibrationCheck _ _ => true
  | .calibrationCheckEnd _ _ _ _ => true
  | .hartRequest _ _ obj => lenIn 16 271 obj
  | .hartTransmitStart _ _ => true
  | .hartResponse _ _ _ frame => lenIn 1 300 frame
  | .hartNoResponse _ _ => true
  | .hartBurst _ _ _ frame => lenIn 1 300 frame
  | .burstSilence _ _ => true
  | .mainCycleStart _ _ _ => true
  | .outputWrite _ _ => true
  | .eventTaskStart _ _ => true
  | .eventTaskEnd _ _ _ _ => true
  | .cycleLong _ => true
  | .cycleLongEnd _ _ => true
  | .watchdogHalt _ => true
  | .trap _ _ _ _ => true
  | .eccHalt _ => true
  | .eventOverrun _ _ => true
  | .run _ _ obj => inlineLen obj
  | .startFinished _ _ _ => true
  | .stop _ _ obj => inlineLen obj
  | .isoEnter _ _ obj => inlineLen obj
  | .isoLeave _ _ obj => inlineLen obj
  | .programParam _ _ obj => lenIn 32 32 obj
  | .varWrite _ _ obj => lenIn 17 4112 obj
  | .retainedSaveInterval _ => true
  | .cycleSlip _ => true
  | .imageStage _ _ param data => inlineLen param && lenIn 256 65536 data
  | .imageVerifyEnd _ _ => true
  | .programSwitch _ _ obj => lenIn 32 32 obj
  | .armed _ _ => true
  | .pairNotArmed _ => true
  | .preSwitchEnd _ _ _ => true
  | .postSwitchEnd _ _ => true
  | .loopSample _ _ _ => true
  | .catchUpSample _ _ _ => true
  | .loopSlip _ _ => true
  | .loopConfig _ _ obj => lenIn 128 128 obj
  | .loopCommand _ _ obj => lenIn 32 32 obj
  | .overrideConfig _ _ obj => lenIn 32 32 obj
  | .tuneStart _ _ obj => lenIn 64 64 obj
  | .tuneStop _ _ obj => inlineLen obj
  | .tuneEnd _ => true
  | .captureRead _ _ param => inlineLen param
  | .axisSample _ _ _ => true
  | .axisConfig _ _ obj => lenIn 128 128 obj
  | .moveAbs _ _ obj => lenIn 64 64 obj
  | .moveRel _ _ obj => lenIn 64 64 obj
  | .runTable _ _ obj => lenIn 64 64 obj
  | .axisStop _ _ obj => lenIn 64 64 obj
  | .quickStop _ _ obj => lenIn 64 64 obj
  | .setPosition _ _ obj => lenIn 64 64 obj
  | .setLimits _ _ obj => lenIn 64 64 obj
  | .resetFault _ _ obj => lenIn 64 64 obj
  | .tableLoad _ _ obj => lenIn 80 786464 obj
  | .stepDebtTimeout _ _ => true
  | .axisSlip _ _ => true
  | .safetyCycle _ _ _ _ _ _ => true
  | .discrepancy _ _ _ _ => true
  | .resetHeld _ _ => true
  | .stoFeedback _ _ => true
  | .inputFaultSettled _ _ => true
  | .supplySettled _ _ => true
  | .recloseCheck _ _ => true
  | .recloseRoundCheck _ _ => true
  | .permitTimeout _ _ => true
  | .safetyConfig _ _ obj => lenIn 32 4128 obj
  | .safetyConfirm _ _ param => inlineLen param
  | .safetyContainer _ _ bytes _ => frameLen bytes
  | .safetyFrameWatchdog _ _ _ => true
  | .safReferenceCheck _ _ => true
  | .safMemoryError _ => true
  | .safSupplyFault _ => true
  | .linkUp _ _ _ => true
  | .linkDown _ _ _ => true
  | .frameReceive _ _ _ _ => true
  | .busCycleStart _ => true
  | .windowEnd _ => true
  | .acyclicSend _ => true
  | .inputImage _ _ bytes => frameLen bytes
  | .outputImage _ _ bytes => frameLen bytes
  | .outputImageTake _ => true
  | .stationWatchdog _ _ _ => true
  | .iostationWatchdog _ _ => true
  | .tunnelRequest _ _ bytes => frameLen bytes
  | .tunnelResponse _ _ bytes => frameLen bytes
  | .tunnelRetry _ _ => true
  | .reassemblyTimeout _ _ _ => true
  | .addressFrame _ _ _ bytes => frameLen bytes
  | .ringConfig _ _ obj => lenIn 32 32 obj
  | .stationConfig _ _ obj => lenIn 32 1056 obj
  | .imageMap _ _ obj => lenIn 8 2056 obj
  | .branchConfig _ _ obj => lenIn 8 392 obj
  | .nodeAddress _ _ param => inlineLen param
  | .nodeAddressRetry _ => true
  | .pairConfig _ _ obj => lenIn 32 32 obj
  | .handover _ _ obj => inlineLen obj
  | .drill _ _ obj => inlineLen obj
  | .releaseShadow _ _ obj => inlineLen obj
  | .clearRevertLimit _ _ obj => inlineLen obj
  | .heartbeatSend _ => true
  | .heartbeat _ _ _ bytes => frameLen bytes
  | .heartbeatLoss _ _ _ => true
  | .grantRequest _ _ bytes => frameLen bytes
  | .refereeGrantDecision _ _ => true
  | .formWait _ _ => true
  | .grant _ _ bytes => frameLen bytes
  | .deny _ _ bytes => frameLen bytes
  | .relinquish _ _ bytes => frameLen bytes
  | .barrier _ _ => true
  | .outDone _ _ _ => true
  | .outputRelease _ => true
  | .imageFix _ _ => true
  | .digest _ _ _ => true
  | .resync _ _ => true
  | .joinTimeout _ => true
  | .record _ _ => true
  | .swapDrill _ => true
  | .revertReq _ => true
  | .sync _ _ _ _ => true
  | .syncSend _ => true
  | .syncLoss _ => true
  | .holdoverExpiry _ => true
  | .announce _ _ _ _ _ => true
  | .announceSend _ => true
  | .announceTimeout _ => true
  | .pdelayReq _ _ _ _ => true
  | .pdelayReqSend _ _ => true
  | .pdelayResp _ _ _ _ => true
  | .pdelayInvalid _ _ => true
  | .shipTimeSet _ _ obj => lenIn 24 24 obj
  | .ppsIn _ => true
  | .ppsMissing _ => true
  | .shipTimeSlew _ _ obj => inlineLen obj
  | .slewEnd _ => true
  | .timeConfig _ _ obj => lenIn 32 32 obj
  | .ppsOut _ => true
  | .aonShipTimeCopy _ => true
  | .sqTailDoorbell _ _ _ => true
  | .cqHeadDoorbell _ _ _ => true
  | .eqHeadDoorbell _ _ => true
  | .descriptorFetch _ desc _ => (match desc with | some b => b.length == 64 | none => true)
  | .descriptorStart _ _ => true
  | .completionWrite _ _ => true
  | .coalescingTimeout _ _ => true
  | .eventPost _ _ _ data => decide (data.length ≤ 12)
  | .nop _ _ => true
  | .stateRead _ _ param => inlineLen param
  | .hifSqCtlWrite _ _ _ => true
  | .hifCqCtlWrite _ _ _ => true
  | .hifEqCtlWrite _ _ => true
  | .hifSoftReset _ _ => true
  | .functionLevelReset _ => true
  | .perstN _ => true
  | .d3hotEntry _ => true
  | .d0Return _ => true
  | .unsupportedRequest _ bar _ _ => decide (bar ≤ 5)
  | .registerWrite _ offset _ => decide (offset < 65536) && offset % 4 == 0
  | .mbDataWrite _ _ _ _ _ => true
  | .mbPost _ _ _ => true
  | .mbTake _ _ _ => true
  | .withdraw _ _ _ => true
  | .ackExpired _ _ => true
  | .mbBindWrite _ _ _ => true
  | .domainPower _ _ param => inlineLen param
  | .recordFlashCopy _ _ => true
  | .sectorEraseEnd _ _ => true
  | .recSnapshot _ _ => true
  | .recRead _ _ param _ => inlineLen param
  | .configSaveStart _ => true
  | .storeSaveComplete _ _ => true
  | .saveRetained _ _ param => inlineLen param
  | .saveConfig _ _ param => inlineLen param
  | .clearRetained _ _ param => inlineLen param
  | .factoryConfig _ _ param => inlineLen param
  | .powerFail _ => true
  | .vlogReturnAfterFail _ => true
  | .holdupExhausted _ => true
  | .dispConfig _ _ obj => lenIn 16 16 obj
  | .dispRegion _ _ obj => lenIn 16 16 obj
  | .dispUpdate _ _ obj => inlineLen obj
  | .dispBlink _ _ obj => lenIn 32 32 obj
  | .displayPassStart _ _ => true
  | .displayPhaseEnd _ _ => true
  | .blinkToggle _ _ _ => true
  | .dispSupplyCheck _ _ => true
  | .powerOn _ _ _ _ => true
  | .resetNLow _ => true
  | .resetNRelease _ _ => true
  | .selftestComplete _ _ => true
  | .masterConfirm _ _ obj => lenIn 32 32 obj
  | .islandReset _ _ param => inlineLen param
  | .fwStage _ _ param data => inlineLen param && lenIn 256 65536 data
  | .fwActivate _ _ param => inlineLen param
  | .fwTrialExpiry _ => true
  | .holdupCharged _ => true
  | .holdupNotCharged _ => true
  | .ledgerTest _ _ _ => true
  | .holdupTest _ _ => true
  | .ledgerMeasurement _ _ _ _ => true
  | .thermalHours _ _ => true
  | .mordantWrite _ _ => true
  | .safeEnWrite _ _ => true
  | .testClrWrite _ _ => true
  | .tmrScrub _ _ => true
  | .ringIdWrite _ offset _ => decide (offset < 65536) && offset % 4 == 0
  | .imgKeyWordWrite _ _ _ _ => true
  | .keyValidWrite _ _ _ => true
  | .joinInhibitWrite _ _ => true
  | .groupConfigurationLost _ _ => true
  | .perstNRelease _ => true
  | .pcieLinkDown _ => true
  | .pcieLinkUp _ _ => true
  | .serviceUartTestControl _ _ _ _ => true

end Sys2Proof
end

