-- ==== Sys2Proof/Safety.lean ====
section
/-! DEFINITION. The terms that claims use: the parts of the state, when two states agree on one, the canonical form of every data
memory the state holds, and what it means that a command completes. -/

namespace Sys2Proof.Machine

/-- The aspects of the state that commands change one by one: the fields of `State` beside the clock, the counter of free values, the
emissions and the queue, and three views: whether each island runs, the program's data memory with its boundary copy, and what the
banks and running saves of the two stores hold. -/
inductive Aspect where
  | tick | tickAt | laneSeq | pulseRound | islands | live | crossings | deferred | cells | gfes | chans | groups | harts | chars
  | prg | memory | xch | loops | overs | tune | axes | tables | saf | ring | pair | time | hif | regs | mb | recorder | stores
  | banks | disp | mod
deriving DecidableEq, Repr

/-- What the banks of a store and its running save hold. -/
def Store.held (x : Store) : StorePayload × StorePayload × Option StorePayload :=
  (x.banks[0].payload, x.banks[1].payload, x.running.map Save.payload)

/-- Two states agree on an aspect. -/
def Aspect.same (p : Aspect) (s t : State) : Prop :=
  match p with
  | .tick => t.tick = s.tick
  | .tickAt => t.tickAt = s.tickAt
  | .laneSeq => t.laneSeq = s.laneSeq
  | .pulseRound => t.pulseRound = s.pulseRound ∧ t.roundIdx = s.roundIdx
  | .islands => t.islands = s.islands
  | .live => ∀ i : Fin 11, (t.islands[i]).state = (s.islands[i]).state
  | .crossings => t.crossings = s.crossings
  | .deferred => t.deferred = s.deferred
  | .cells => t.cells = s.cells
  | .gfes => t.gfes = s.gfes
  | .chans => t.chans = s.chans
  | .groups => t.groups = s.groups
  | .harts => t.harts = s.harts
  | .chars => t.chars = s.chars
  | .prg => t.prg = s.prg
  | .memory => t.prg.data = s.prg.data ∧ t.prg.boundary = s.prg.boundary
  | .xch => t.xch = s.xch
  | .loops => t.loops = s.loops
  | .overs => t.overs = s.overs
  | .tune => t.tune = s.tune
  | .axes => t.axes = s.axes
  | .tables => t.tables = s.tables
  | .saf => t.saf = s.saf
  | .ring => t.ring = s.ring
  | .pair => t.pair = s.pair
  | .time => t.time = s.time
  | .hif => t.hif = s.hif
  | .regs => t.regs = s.regs
  | .mb => t.mb = s.mb
  | .recorder => t.recorder = s.recorder
  | .stores => t.stores = s.stores
  | .banks => ∀ i : Fin 2, (t.stores[i]).held = (s.stores[i]).held
  | .disp => t.disp = s.disp
  | .mod => t.mod = s.mod

/-- The data memory in a payload is canonical. -/
def StorePayload.wf : StorePayload → Prop
  | .retained b => Memory.wf b.data.mem = true
  | _ => True

/-- What a store holds is canonical. -/
def Store.heldOk (x : Store) : Prop := x.held.1.wf ∧ x.held.2.1.wf ∧ ∀ p ∈ x.held.2.2, p.wf

/-- Every data memory that the state holds is in canonical form (R128): the program's, its boundary copy, and those in the banks
and running saves of the stores. -/
def State.MemOk (s : State) : Prop :=
  Memory.wf s.prg.data.mem = true ∧ Memory.wf s.prg.boundary.data.mem = true ∧ ∀ i : Fin 2, (s.stores[i]).heldOk

/-- Every command waiting is one its carrier can bring. -/
def State.QueueOk (s : State) : Prop := ∀ c ∈ s.pending, c.wf = true

/-- A descriptor of this opcode is taken up by its islands: its pair has released it (R364, R368), policy permits it (R426
step 3) and every island that serves it answers (R19). -/
abbrev State.Admits (s : State) (org : Origin) (op : Nat) (l : List Isl) : Prop :=
  s.waitsBarrier org = false ∧ s.gate org op l = none

/-- A command answers a next state of which `P` holds. -/
def Completes (c : Instr) (s : State) (P : State → Prop) : Prop := ∃ t, exec c s = .next t ∧ P t

/-- Every store of these acts stays inside DATA of the running image (R151). -/
abbrev Inside (s : State) (acts : List PrgAct) : Prop :=
  ∀ r, s.prg.running = some r → ∀ addr data, .store addr data ∈ acts → addr + data.length ≤ r.dataSize

/-- The commands that wait for the next release instant are those of the safety functions as they stand, and STO is reported
(R276, R289, R290). -/
abbrev SafCommanded (u : State) : Prop :=
  (u.saf.release.map fun c => (c.on, c.ovr, c.due)) = some (u.safOn, u.safOvr, u.releaseAt) ∧
  ∀ ax : Fin 16, u.axes[ax].sto = u.safSto ax

/-- The descriptors among the commands that are taken up in one way: how the command begins, its origin, its opcode, and the
islands that serve it (R19, R425). -/
def request (c : Instr) : Option ((State → State) × Origin × Nat × List Isl) :=
  match c with
  | .groupConfig t org _ => some (State.begin t, org, opGroupConfig, [.svc])
  | .charLoad t org _ => some (State.begin t, org, opCharLoad, [.svc])
  | .hartRequest t org _ => some (State.begin t, org, opHartRequest, [.svc, .tim])
  | .run t org _ => some (State.begin t, org, opProgramControl, [.prg])
  | .stop t org _ => some (State.begin t, org, opProgramControl, [.prg])
  | .isoEnter t org _ => some (State.begin t, org, opProgramControl, [.prg])
  | .isoLeave t org _ => some (State.begin t, org, opProgramControl, [.prg])
  | .programParam t org _ => some (State.begin t, org, opProgramParam, [.prg])
  | .varWrite t org _ => some (State.begin t, org, opVarWrite, [.prg])
  | .programSwitch t org _ => some (State.begin t, org, opProgramSwitch, [.prg, .svc, .recorder])
  | .loopConfig t org _ => some (State.begin t, org, opLoopConfig, [.ctl])
  | .loopCommand t org _ => some (State.begin t, org, opLoopCommand, [.ctl])
  | .overrideConfig t org _ => some (State.begin t, org, opOverrideConfig, [.ctl])
  | .tuneStart t org _ => some (State.begin t, org, opTuneStart, [.ctl])
  | .tuneStop t org _ => some (State.begin t, org, opTuneStop, [.ctl])
  | .captureRead t org _ => some (State.begin t, org, opCaptureRead, [.ctl])
  | .axisConfig t org _ => some (State.begin t, org, opAxisConfig, [.mot])
  | .moveAbs t org _ => some (State.begin t, org, opAxisCommand, [.mot])
  | .moveRel t org _ => some (State.begin t, org, opAxisCommand, [.mot])
  | .runTable t org _ => some (State.begin t, org, opAxisCommand, [.mot])
  | .axisStop t org _ => some (State.begin t, org, opAxisCommand, [.mot])
  | .quickStop t org _ => some (State.begin t, org, opAxisCommand, [.mot])
  | .setPosition t org _ => some (State.begin t, org, opAxisCommand, [.mot])
  | .setLimits t org _ => some (State.begin t, org, opAxisCommand, [.mot])
  | .resetFault t org _ => some (State.begin t, org, opAxisCommand, [.mot])
  | .tableLoad t org _ => some (State.begin t, org, opTableLoad, [.mot])
  | .ringConfig t org _ => some (State.begin t, org, opRingConfig, [.rng])
  | .stationConfig t org _ => some (State.begin t, org, opStationConfig, [.rng])
  | .imageMap t org _ => some (State.begin t, org, opImageMap, [.rng])
  | .branchConfig t org _ => some (State.begin t, org, opBranchConfig, [.rng])
  | .nodeAddress t org _ => some (State.begin t, org, opNodeAddress, [.rng])
  | .pairConfig t org _ => some (State.begin t, org, opPairConfig, [.rng])
  | .handover t org _ => some (State.begin t, org, opPairCommand, [.rng])
  | .drill t org _ => some (State.begin t, org, opPairCommand, [.rng])
  | .releaseShadow t org _ => some (State.begin t, org, opPairCommand, [.rng])
  | .clearRevertLimit t org _ => some (State.begin t, org, opPairCommand, [.rng])
  | .shipTimeSet t org _ => some (State.timeBegin t, org, opShipTimeSet, [.tim])
  | .shipTimeSlew t org _ => some (State.timeBegin t, org, opShipTimeSlew, [.tim])
  | .timeConfig t org _ => some (State.timeBegin t, org, opTimeConfig, [.tim])
  | .nop t org => some (State.begin t, org, opNop, [])
  | .stateRead t org p => some (State.begin t, org, opStateRead, [.svc, mapIsland (rd p 0 4 / 2 ^ 24 % 256)])
  | .domainPower t org _ => some (State.begin t, org, opDomainPower, [.svc])
  | .recSnapshot t org => some (State.begin t, org, opRecSnapshot, [.recorder])
  | .recRead t org _ _ => some (State.begin t, org, opRecRead, [.recorder])
  | .saveRetained t org _ => some (State.begin t, org, opStoreCommand, [.recorder])
  | .saveConfig t org _ => some (State.begin t, org, opStoreCommand, [.recorder])
  | .clearRetained t org _ => some (State.begin t, org, opStoreCommand, [.recorder])
  | .factoryConfig t org _ => some (State.begin t, org, opStoreCommand, [.recorder])
  | .dispConfig t org _ => some (State.begin t, org, opDispConfig, [.disp])
  | .dispRegion t org _ => some (State.begin t, org, opDispRegion, [.disp])
  | .dispUpdate t org _ => some (State.begin t, org, opDispUpdate, [.disp])
  | .dispBlink t org _ => some (State.begin t, org, opDispBlink, [.disp])
  | .masterConfirm t org _ => some (State.begin t, org, opMasterConfirm, [.svc])
  | .islandReset t org _ => some (State.begin t, org, opIslandReset, [.svc])
  | .fwActivate t org _ => some (State.begin t, org, opFwActivate, [.svc])
  | .ledgerTest t org _ => some (State.begin t, org, opLedgerTest, [.svc])
  | _ => none

/-! ### Footprints -/

/-- What writing a Sepia record can change: the intake, and the drop counter of the source island (R31, R478). -/
def Aspect.recorded : List Aspect := [.islands, .recorder]

/-- What answering a request can change: its tag, its tunnel transaction, or the outcome a pair waits for (R354, R378, R432). -/
def Aspect.answered : List Aspect := [.ring, .pair, .hif]

/-- Every aspect. -/
def Aspect.every : List Aspect :=
  [.tick, .tickAt, .laneSeq, .pulseRound, .islands, .live, .crossings, .deferred, .cells, .gfes, .chans, .groups,
   .harts, .chars, .prg, .memory, .xch, .loops, .overs, .tune, .axes, .tables, .saf, .ring,
   .pair, .time, .hif, .regs, .mb, .recorder, .stores, .banks, .disp, .mod]

/-- Every aspect but these. -/
def Aspect.allBut (l : List Aspect) : List Aspect := Aspect.every.filter fun p => !l.contains p

/-- The parts of the module that a command can change; every other part is the same after it. -/
def footprint (c : Instr) : List Aspect :=
  match c with
  | .crossingRequest _ _ _ _ _ => Aspect.recorded ++ [.crossings, .chans]
  | .islandWatchdogExpiry _ _ => Aspect.allBut [.tick, .tickAt, .laneSeq, .pulseRound, .deferred, .cells, .gfes, .chars]
  | .crossingTimeout _ _ _ => Aspect.allBut [.tick, .tickAt, .laneSeq, .pulseRound, .deferred, .cells, .gfes, .chars]
  | .islandReady _ _ =>
    Aspect.recorded ++ Aspect.answered ++ [.live, .crossings, .prg, .loops, .overs, .axes, .mb, .stores, .mod]
  | .recordSubmit _ _ _ _ => Aspect.recorded
  | .recordsDropped _ => Aspect.recorded
  | .timeoutDecisionDeferred _ _ _ _ =>
    Aspect.recorded ++ Aspect.answered ++ [.crossings, .deferred, .chans, .prg, .axes, .saf, .mb, .mod]
  | .laneTick _ _ _ => Aspect.recorded ++ [.tick, .tickAt, .cells, .gfes, .chans, .prg]
  | .channelInputFrame _ _ _ => Aspect.recorded ++ Aspect.answered ++ [.cells, .chans, .harts, .prg, .axes, .mod]
  | .outputCutoff _ => Aspect.recorded ++ [.laneSeq, .chans, .groups, .harts, .axes, .saf]
  | .channelOutputFrame _ _ _ => [.cells, .gfes]
  | .groupOutputFrame _ _ _ => [.cells, .gfes]
  | .groupInputFrame _ _ _ => Aspect.recorded ++ [.groups, .hif, .mod]
  | .silentEntry _ _ => Aspect.answered ++ [.cells, .harts]
  | .groupSilentEntry _ _ => [.cells, .gfes]
  | .sdoReadbackCheck _ _ => [.gfes]
  | .groupSdoReadbackCheck _ _ => [.gfes]
  | .holdLimitExpiry _ _ => [.cells]
  | .wireBreakSet _ _ => Aspect.recorded ++ [.cells, .chans]
  | .wireBreakClear _ _ => Aspect.recorded ++ [.cells, .chans]
  | .inrushWindowEnd _ _ => [.cells]
  | .overloadTrip _ _ => Aspect.recorded ++ [.cells, .chans]
  | .overloadRetry _ _ => [.cells]
  | .overloadClear _ _ => Aspect.recorded ++ [.cells, .chans]
  | .openLoad _ _ => Aspect.recorded ++ [.cells, .chans]
  | .offPulseSlot _ _ => [.chans]
  | .offPulseEnd _ _ _ => Aspect.recorded ++ [.cells, .chans]
  | .offPulseRoundEnd _ => Aspect.recorded ++ [.pulseRound, .cells, .chans]
  | .testPulseSlot _ _ _ _ => Aspect.recorded ++ [.cells, .chans]
  | .readbackDelayExpiry _ _ => Aspect.recorded ++ [.cells, .chans]
  | .lplusLow _ _ => [.cells, .gfes]
  | .lplusOff _ _ => [.cells, .gfes]
  | .lplusHigh _ _ => [.cells, .gfes]
  | .lplusRecover _ _ => [.cells, .gfes]
  | .groupConfig _ _ _ => Aspect.recorded ++ Aspect.answered ++ [.chans, .groups, .harts]
  | .cfgCommit _ _ => Aspect.recorded ++ [.cells, .gfes, .chans, .groups, .harts, .regs]
  | .groupConfigSettled _ _ => Aspect.recorded ++ Aspect.answered ++ [.cells, .chans, .groups, .prg, .memory, .stores, .mod]
  | .groupConfigResend _ _ => Aspect.recorded ++ Aspect.answered ++ [.gfes, .chans, .groups, .prg, .memory, .stores, .mod]
  | .buckTargetReached _ _ => [.cells]
  | .thermalClear _ _ => Aspect.recorded ++ [.cells, .chans]
  | .complianceSet _ _ => Aspect.recorded ++ [.cells, .chans]
  | .complianceClear _ _ => Aspect.recorded ++ [.cells, .chans]
  | .rangeDelayExpiry _ _ => Aspect.recorded ++ [.cells, .chans]
  | .charLoad _ _ _ => Aspect.answered ++ [.chars, .stores, .mod]
  | .calibrationCheck _ _ => [.chans]
  | .calibrationCheckEnd _ _ _ _ => Aspect.recorded ++ [.chans, .hif, .mod]
  | .hartRequest _ _ _ => Aspect.answered ++ [.harts]
  | .hartTransmitStart _ _ => [.harts]
  | .hartResponse _ _ _ _ => Aspect.recorded ++ Aspect.answered ++ [.cells, .chans, .harts]
  | .hartNoResponse _ _ => Aspect.recorded ++ Aspect.answered ++ [.cells, .chans, .harts]
  | .hartBurst _ _ _ _ => [.harts, .hif]
  | .burstSilence _ _ => [.harts]
  | .mainCycleStart _ _ _ =>
    Aspect.recorded ++ Aspect.answered ++ [.crossings, .chans, .prg, .memory, .xch, .time, .mb, .stores, .banks, .mod]
  | .outputWrite _ _ =>
    Aspect.recorded ++ Aspect.answered ++ [.crossings, .chans, .harts, .prg, .memory, .xch, .loops, .overs, .axes, .mb, .stores, .banks, .mod]
  | .eventTaskStart _ _ => Aspect.recorded ++ [.prg, .mb]
  | .eventTaskEnd _ _ _ _ =>
    Aspect.recorded ++ Aspect.answered ++ [.crossings, .chans, .harts, .prg, .memory, .xch, .loops, .overs, .axes, .mb, .stores, .banks, .mod]
  | .cycleLong _ => [.prg]
  | .cycleLongEnd _ _ =>
    Aspect.recorded ++ Aspect.answered ++ [.crossings, .chans, .prg, .memory, .xch, .mb, .stores, .banks, .mod]
  | .watchdogHalt _ => Aspect.recorded ++ Aspect.answered ++ [.chans, .prg, .memory, .xch, .stores, .banks, .mod]
  | .trap _ _ _ _ => Aspect.recorded ++ Aspect.answered ++ [.chans, .prg, .memory, .xch, .stores, .banks, .mod]
  | .eccHalt _ => Aspect.recorded ++ Aspect.answered ++ [.chans, .prg, .memory, .xch, .stores, .banks, .mod]
  | .eventOverrun _ _ => Aspect.recorded ++ Aspect.answered ++ [.chans, .prg, .memory, .xch, .stores, .banks, .mod]
  | .run _ _ _ => Aspect.recorded ++ Aspect.answered ++ [.prg, .memory, .stores, .mod]
  | .startFinished _ _ _ => Aspect.recorded ++ Aspect.answered ++ [.chans, .prg, .memory, .xch, .stores, .banks, .mod]
  | .stop _ _ _ => Aspect.recorded ++ Aspect.answered ++ [.chans, .prg, .memory, .stores, .banks, .mod]
  | .isoEnter _ _ _ => Aspect.answered ++ [.prg]
  | .isoLeave _ _ _ => Aspect.answered ++ [.prg]
  | .programParam _ _ _ => Aspect.answered ++ [.prg, .stores, .mod]
  | .varWrite _ _ _ => Aspect.answered ++ [.prg, .memory]
  | .retainedSaveInterval _ => Aspect.recorded ++ Aspect.answered ++ [.prg, .stores, .banks, .mod]
  | .cycleSlip _ => Aspect.recorded ++ [.prg]
  | .imageStage _ _ _ _ => Aspect.answered ++ [.xch]
  | .imageVerifyEnd _ _ => Aspect.recorded ++ Aspect.answered ++ [.xch]
  | .programSwitch _ _ _ => Aspect.recorded ++ Aspect.answered ++ [.prg, .memory, .xch, .stores, .banks, .mod]
  | .armed _ _ => [.xch]
  | .pairNotArmed _ => Aspect.answered ++ [.xch]
  | .preSwitchEnd _ _ _ => Aspect.recorded ++ Aspect.answered ++ [.chans, .prg, .memory, .xch, .stores, .banks, .mod]
  | .postSwitchEnd _ _ => Aspect.recorded ++ Aspect.answered ++ [.chans, .prg, .memory, .xch, .stores, .banks, .mod]
  | .loopSample _ _ _ => Aspect.recorded ++ Aspect.answered ++ [.chans, .loops, .overs, .tune, .stores, .mod]
  | .catchUpSample _ _ _ => Aspect.recorded ++ Aspect.answered ++ [.chans, .loops, .overs, .tune, .stores, .mod]
  | .loopSlip _ _ => Aspect.recorded ++ Aspect.answered ++ [.loops, .tune]
  | .loopConfig _ _ _ => Aspect.recorded ++ Aspect.answered ++ [.loops, .stores, .mod]
  | .loopCommand _ _ _ => Aspect.answered ++ [.loops]
  | .overrideConfig _ _ _ => Aspect.recorded ++ Aspect.answered ++ [.loops, .overs, .stores, .mod]
  | .tuneStart _ _ _ => Aspect.recorded ++ Aspect.answered ++ [.tune]
  | .tuneStop _ _ _ => Aspect.answered ++ [.tune]
  | .tuneEnd _ => Aspect.recorded ++ Aspect.answered ++ [.loops, .tune]
  | .captureRead _ _ _ => Aspect.answered
  | .axisSample _ _ _ => Aspect.recorded ++ Aspect.answered ++ [.axes, .stores, .mod]
  | .axisConfig _ _ _ => Aspect.recorded ++ Aspect.answered ++ [.axes, .stores, .mod]
  | .moveAbs _ _ _ => Aspect.answered ++ [.axes]
  | .moveRel _ _ _ => Aspect.answered ++ [.axes]
  | .runTable _ _ _ => Aspect.answered ++ [.axes]
  | .axisStop _ _ _ => Aspect.answered ++ [.axes]
  | .quickStop _ _ _ => Aspect.answered ++ [.axes]
  | .setPosition _ _ _ => Aspect.answered ++ [.axes]
  | .setLimits _ _ _ => Aspect.answered ++ [.axes]
  | .resetFault _ _ _ => Aspect.answered ++ [.axes]
  | .tableLoad _ _ _ => Aspect.recorded ++ Aspect.answered ++ [.tables]
  | .stepDebtTimeout _ _ => Aspect.recorded ++ [.axes, .hif]
  | .axisSlip _ _ => Aspect.recorded ++ [.axes]
  | .safetyCycle _ _ _ _ _ _ =>
    Aspect.recorded ++ Aspect.answered ++ [.crossings, .chans, .groups, .prg, .axes, .saf, .time, .mb, .stores, .mod]
  | .discrepancy _ _ _ _ => Aspect.recorded ++ [.crossings, .deferred, .prg, .axes, .saf, .pair, .hif, .mb]
  | .resetHeld _ _ => Aspect.recorded ++ [.saf]
  | .stoFeedback _ _ => Aspect.recorded ++ [.crossings, .prg, .axes, .saf, .pair, .hif, .mb]
  | .inputFaultSettled _ _ => Aspect.recorded ++ [.crossings, .prg, .saf, .pair, .hif, .mb]
  | .supplySettled _ _ => Aspect.recorded ++ [.crossings, .prg, .axes, .saf, .pair, .hif, .mb]
  | .recloseCheck _ _ => Aspect.recorded ++ [.crossings, .prg, .axes, .saf, .pair, .hif, .mb]
  | .recloseRoundCheck _ _ => Aspect.recorded ++ [.crossings, .prg, .axes, .saf, .pair, .hif, .mb]
  | .permitTimeout _ _ => [.chans]
  | .safetyConfig _ _ _ => Aspect.recorded ++ Aspect.answered ++ [.saf]
  | .safetyConfirm _ _ _ => Aspect.recorded ++ Aspect.answered ++ [.saf]
  | .safetyContainer _ _ _ _ =>
    Aspect.recorded ++ Aspect.answered ++ [.crossings, .chans, .groups, .prg, .axes, .saf, .mb, .mod]
  | .safetyFrameWatchdog _ _ _ => Aspect.recorded ++ [.deferred, .axes, .saf]
  | .safReferenceCheck _ _ => Aspect.recorded ++ Aspect.answered ++ [.crossings, .chans, .groups, .prg, .axes, .saf, .mb, .mod]
  | .safMemoryError _ => Aspect.recorded ++ Aspect.answered ++ [.crossings, .chans, .groups, .prg, .axes, .saf, .mb, .mod]
  | .safSupplyFault _ => Aspect.recorded ++ Aspect.answered ++ [.crossings, .chans, .groups, .prg, .axes, .saf, .mb, .mod]
  | .linkUp _ _ _ => Aspect.recorded ++ [.ring]
  | .linkDown _ _ _ => Aspect.recorded ++ Aspect.answered ++ [.crossings, .mb]
  | .frameReceive _ _ _ _ => Aspect.recorded ++ Aspect.answered ++ [.time, .mod]
  | .busCycleStart _ => Aspect.recorded ++ Aspect.answered ++ [.crossings, .saf, .mb, .stores, .mod]
  | .windowEnd _ => [.ring, .pair]
  | .acyclicSend _ => [.ring, .pair]
  | .inputImage _ _ _ => Aspect.recorded ++ [.ring]
  | .outputImage _ _ _ => Aspect.recorded ++ [.chans, .ring]
  | .outputImageTake _ => Aspect.recorded ++ [.chans, .ring]
  | .stationWatchdog _ _ _ => Aspect.recorded ++ [.deferred, .prg, .ring]
  | .iostationWatchdog _ _ => Aspect.recorded ++ [.deferred, .chans, .ring]
  | .tunnelRequest _ _ _ => Aspect.answered
  | .tunnelResponse _ _ _ => Aspect.answered
  | .tunnelRetry _ _ => Aspect.recorded ++ Aspect.answered
  | .reassemblyTimeout _ _ _ => [.ring]
  | .addressFrame _ _ _ _ => Aspect.recorded ++ Aspect.answered ++ [.regs, .stores]
  | .ringConfig _ _ _ => Aspect.answered
  | .stationConfig _ _ _ => Aspect.answered
  | .imageMap _ _ _ => Aspect.answered
  | .branchConfig _ _ _ => Aspect.answered
  | .nodeAddress _ _ _ => Aspect.answered
  | .nodeAddressRetry _ => Aspect.recorded ++ Aspect.answered
  | .pairConfig _ _ _ => Aspect.answered ++ [.stores, .mod]
  | .handover _ _ _ => Aspect.answered
  | .drill _ _ _ => Aspect.answered
  | .releaseShadow _ _ _ => Aspect.recorded ++ Aspect.answered
  | .clearRevertLimit _ _ _ => Aspect.answered
  | .heartbeatSend _ => Aspect.recorded ++ Aspect.answered ++ [.mod]
  | .heartbeat _ _ _ _ => Aspect.recorded ++ [.crossings, .pair, .hif, .mb, .stores, .mod]
  | .heartbeatLoss _ _ _ => Aspect.recorded ++ Aspect.answered ++ [.crossings, .deferred, .mb, .mod]
  | .grantRequest _ _ _ => Aspect.recorded ++ [.ring, .pair]
  | .refereeGrantDecision _ _ => Aspect.recorded ++ [.ring, .pair, .mod]
  | .formWait _ _ => [.pair]
  | .grant _ _ _ => Aspect.recorded ++ [.pair]
  | .deny _ _ _ => Aspect.recorded ++ Aspect.answered
  | .relinquish _ _ _ => Aspect.recorded ++ [.ring, .pair, .mod]
  | .barrier _ _ =>
    Aspect.recorded ++ Aspect.answered ++ [.crossings, .chans, .prg, .memory, .xch, .time, .mb, .stores, .banks, .mod]
  | .outDone _ _ _ => [.pair]
  | .outputRelease _ => Aspect.recorded ++ Aspect.answered ++ [.crossings, .chans, .harts, .prg, .loops, .overs, .axes, .mb]
  | .imageFix _ _ => [.ring, .pair]
  | .digest _ _ _ => Aspect.recorded ++ [.pair]
  | .resync _ _ =>
    Aspect.allBut [.tick, .tickAt, .laneSeq, .pulseRound, .live, .crossings, .deferred, .cells, .gfes, .tune, .banks, .disp]
  | .joinTimeout _ => Aspect.recorded ++ [.pair]
  | .record _ _ => [.recorder]
  | .swapDrill _ => [.ring, .pair]
  | .revertReq _ => [.pair]
  | .sync _ _ _ _ => Aspect.recorded ++ Aspect.answered ++ [.chans, .loops, .overs, .axes, .saf, .time, .stores, .mod]
  | .syncSend _ => Aspect.recorded ++ Aspect.answered ++ [.time, .stores, .mod]
  | .syncLoss _ => Aspect.recorded ++ Aspect.answered ++ [.time, .stores, .mod]
  | .holdoverExpiry _ => Aspect.recorded ++ Aspect.answered ++ [.time, .stores, .mod]
  | .announce _ _ _ _ _ => Aspect.recorded ++ Aspect.answered ++ [.time, .stores, .mod]
  | .announceSend _ => Aspect.recorded ++ Aspect.answered ++ [.time, .stores, .mod]
  | .announceTimeout _ => Aspect.recorded ++ Aspect.answered ++ [.time, .stores, .mod]
  | .pdelayReq _ _ _ _ => Aspect.recorded ++ Aspect.answered ++ [.time, .stores, .mod]
  | .pdelayReqSend _ _ => Aspect.recorded ++ Aspect.answered ++ [.time, .stores, .mod]
  | .pdelayResp _ _ _ _ => Aspect.recorded ++ Aspect.answered ++ [.time, .stores, .mod]
  | .pdelayInvalid _ _ => Aspect.recorded ++ Aspect.answered ++ [.time, .stores, .mod]
  | .shipTimeSet _ _ _ => Aspect.recorded ++ Aspect.answered ++ [.time, .stores, .mod]
  | .ppsIn _ => Aspect.recorded ++ Aspect.answered ++ [.time, .stores, .mod]
  | .ppsMissing _ => Aspect.recorded ++ Aspect.answered ++ [.time, .stores, .mod]
  | .shipTimeSlew _ _ _ => Aspect.recorded ++ Aspect.answered ++ [.time, .stores, .mod]
  | .slewEnd _ => Aspect.recorded ++ Aspect.answered ++ [.time, .stores, .mod]
  | .timeConfig _ _ _ => Aspect.recorded ++ Aspect.answered ++ [.time, .stores, .mod]
  | .ppsOut _ => Aspect.recorded ++ Aspect.answered ++ [.time, .stores, .mod]
  | .aonShipTimeCopy _ => Aspect.recorded ++ Aspect.answered ++ [.time, .stores, .mod]
  | .sqTailDoorbell _ _ _ => Aspect.recorded ++ [.hif]
  | .cqHeadDoorbell _ _ _ => Aspect.recorded ++ [.hif]
  | .eqHeadDoorbell _ _ => Aspect.recorded ++ [.hif]
  | .descriptorFetch _ _ _ => Aspect.recorded ++ [.hif]
  | .descriptorStart _ _ => Aspect.recorded ++ Aspect.answered
  | .completionWrite _ _ => Aspect.recorded ++ [.hif]
  | .coalescingTimeout _ _ => [.hif]
  | .eventPost _ _ _ _ => [.hif]
  | .nop _ _ => Aspect.answered
  | .stateRead _ _ _ => Aspect.recorded ++ Aspect.answered ++ [.chans, .groups, .loops, .axes, .regs, .mb, .mod]
  | .hifSqCtlWrite _ _ _ => Aspect.recorded ++ [.hif]
  | .hifCqCtlWrite _ _ _ => Aspect.recorded ++ [.hif]
  | .hifEqCtlWrite _ _ => Aspect.recorded ++ [.hif]
  | .hifSoftReset _ _ => Aspect.recorded ++ Aspect.answered ++ [.crossings, .harts, .prg, .mb]
  | .functionLevelReset _ => Aspect.recorded ++ Aspect.answered ++ [.crossings, .harts, .prg, .mb]
  | .perstN _ => Aspect.recorded ++ Aspect.answered ++ [.crossings, .harts, .prg, .mb]
  | .d3hotEntry _ => Aspect.recorded ++ Aspect.answered ++ [.crossings, .harts, .prg, .mb]
  | .d0Return _ => Aspect.recorded ++ [.crossings, .hif, .mb]
  | .unsupportedRequest _ _ _ _ => []
  | .registerWrite _ _ _ => [.hif, .regs, .mb, .stores]
  | .mbDataWrite _ _ _ _ _ => [.mb]
  | .mbPost _ _ _ => Aspect.recorded ++ [.crossings, .prg, .pair, .hif, .mb]
  | .mbTake _ _ _ => Aspect.recorded ++ [.mb]
  | .withdraw _ _ _ => Aspect.recorded ++ [.prg, .pair, .mb]
  | .ackExpired _ _ => Aspect.recorded ++ [.deferred, .mb]
  | .mbBindWrite _ _ _ => Aspect.recorded ++ [.regs, .mb, .stores]
  | .domainPower _ _ _ => Aspect.allBut [.tick, .tickAt, .laneSeq, .pulseRound, .deferred, .cells, .gfes, .chars, .saf]
  | .recordFlashCopy _ _ => [.recorder]
  | .sectorEraseEnd _ _ => Aspect.recorded ++ [.hif, .mod]
  | .recSnapshot _ _ => Aspect.answered ++ [.recorder]
  | .recRead _ _ _ _ => Aspect.answered ++ [.recorder]
  | .configSaveStart _ => Aspect.recorded ++ Aspect.answered ++ [.stores, .banks, .mod]
  | .storeSaveComplete _ _ => Aspect.allBut [.cells, .gfes]
  | .saveRetained _ _ _ => Aspect.recorded ++ Aspect.answered ++ [.stores, .banks, .mod]
  | .saveConfig _ _ _ => Aspect.recorded ++ Aspect.answered ++ [.stores, .banks, .mod]
  | .clearRetained _ _ _ => Aspect.answered ++ [.stores]
  | .factoryConfig _ _ _ => Aspect.answered ++ [.stores]
  | .powerFail _ => Aspect.allBut [.cells, .gfes]
  | .vlogReturnAfterFail _ => Aspect.allBut [.cells, .gfes]
  | .holdupExhausted _ => Aspect.allBut [.cells, .gfes]
  | .dispConfig _ _ _ => Aspect.answered ++ [.disp]
  | .dispRegion _ _ _ => Aspect.answered ++ [.disp]
  | .dispUpdate _ _ _ => Aspect.answered ++ [.disp]
  | .dispBlink _ _ _ => Aspect.answered ++ [.disp]
  | .displayPassStart _ _ => Aspect.recorded ++ Aspect.answered ++ [.disp]
  | .displayPhaseEnd _ _ => Aspect.recorded ++ Aspect.answered ++ [.disp]
  | .blinkToggle _ _ _ => [.disp]
  | .dispSupplyCheck _ _ => Aspect.recorded ++ [.disp]
  | .powerOn _ _ _ _ => Aspect.allBut [.cells, .gfes]
  | .resetNLow _ => Aspect.allBut [.cells, .gfes]
  | .resetNRelease _ _ => Aspect.allBut [.cells, .gfes]
  | .selftestComplete _ _ => Aspect.allBut [.tick, .tickAt, .laneSeq, .pulseRound, .deferred, .cells, .gfes]
  | .masterConfirm _ _ _ =>
    Aspect.recorded ++ Aspect.answered ++ [.chans, .groups, .harts, .chars, .prg, .memory, .loops, .overs, .axes, .saf, .time, .regs, .stores, .mod]
  | .islandReset _ _ _ => Aspect.allBut [.tick, .tickAt, .laneSeq, .pulseRound, .deferred, .cells, .gfes, .chars, .saf]
  | .fwStage _ _ _ _ => Aspect.recorded ++ Aspect.answered ++ [.mod]
  | .fwActivate _ _ _ => Aspect.recorded ++ Aspect.answered ++ [.mod]
  | .fwTrialExpiry _ => Aspect.recorded ++ [.hif, .mod]
  | .holdupCharged _ => Aspect.recorded ++ [.hif, .mod]
  | .holdupNotCharged _ => Aspect.recorded ++ [.hif, .mod]
  | .ledgerTest _ _ _ => Aspect.recorded ++ Aspect.answered ++ [.mod]
  | .holdupTest _ _ => Aspect.recorded ++ [.hif, .mod]
  | .ledgerMeasurement _ _ _ _ => Aspect.recorded ++ [.saf, .hif, .mod]
  | .thermalHours _ _ => Aspect.recorded ++ [.hif, .mod]
  | .mordantWrite _ _ => Aspect.recorded ++ [.regs]
  | .safeEnWrite _ _ => Aspect.recorded ++ [.regs, .stores]
  | .testClrWrite _ _ => Aspect.recorded ++ [.regs]
  | .tmrScrub _ _ => Aspect.recorded ++ [.regs, .mb, .mod]
  | .ringIdWrite _ _ _ => [.ring, .regs, .stores]
  | .imgKeyWordWrite _ _ _ _ => [.regs, .stores]
  | .keyValidWrite _ _ _ => [.regs, .stores]
  | .joinInhibitWrite _ _ => [.regs]
  | .groupConfigurationLost _ _ => [.cells, .gfes]
  | .perstNRelease _ => Aspect.recorded ++ [.crossings, .hif, .mb]
  | .pcieLinkDown _ => Aspect.recorded ++ [.crossings, .hif, .mb]
  | .pcieLinkUp _ _ => Aspect.recorded ++ [.crossings, .prg, .pair, .hif, .mb]
  | .serviceUartTestControl _ _ _ _ => Aspect.recorded ++ [.regs]

end Sys2Proof.Machine
end

