-- ==== Sys2Proof/Certificates/Slice0/Obligations.lean ====
section
/-! DEFINITION. The statements for the provers, one `def Obligations.<Name> : Prop` each, by families of commands: what each command
does where it acts, that the rest of the state is the same, and what holds of every command and every step. -/

open Sys2Proof Sys2Proof.Machine

/-- Island crossings, island watchdogs, record submission and dropped records. A crossing request to an island that answers is
delivered and stores nothing when the destination accepts it and its domain is on, and otherwise waits in the crossing list with
its source, destination and instant; to an island that does not answer it is returned with its code. An island not serviced within
its watchdog, or that leaves a crossing waiting for its time-out, stalls, and its waiting crossings go. An island that may rise
runs again. A record is taken into the intake with the next sequence number when it has room and is otherwise counted as dropped
for its source; DROPPED is written once the intake is empty, and it clears the counts. A good frame stamped in time cancels a
deferred time-out; a bad or late one leaves it waiting for the other frames in reception, and after the last of them it happens.
The readings and choices of the model that this rests on are log entries 16, 17, 18. Rules: R14, R16, R17, R18, R19, R31, R40,
R41, R467, R478, R521, R522. -/
def Obligations.CrossingsAndRecords : Prop :=
  (∀ (t : Ns) (src dst : Isl) (x : Transfer) (accepted : Bool) (s : State), (s.begin t).islandCode dst = none → Completes (.crossingRequest t src dst x accepted) s fun u =>
      (accepted = true → s.domainOn dst = true → u.crossings = s.crossings ∧ u.out.getLast? = some (.delivered dst x)) ∧
      ((accepted = false ∨ s.domainOn dst = false) →
        u = { s.begin t with crossings := s.crossings ++ [{ src := src, dst := dst, since := max s.clock t, payload := x }] })) ∧
  (∀ (t : Ns) (src dst : Isl) (x : Transfer) (accepted : Bool) (k : CrossCode) (s : State), (s.begin t).islandCode dst = some k → Completes (.crossingRequest t src dst x accepted) s fun u => u = (s.begin t).emit (.crossingError src dst k)) ∧
  (∀ (t : Ns) (i : Isl) (s : State), s.up i = true → s.domainOn i = true → (s.begin t).due i ((s.island i).serviced) i.watchdog ≤ max s.clock t → Completes (.islandWatchdogExpiry t i) s fun u =>
      (u.islands[i.idx]).state = .stalled ∧ u.crossings = s.crossings.filter fun x => x.dst != i) ∧
  (∀ (t : Ns) (src dst : Isl) (x : Crossing) (s : State), s.up dst = true → s.domainOn dst = true → x ∈ s.crossings → x.src = src → x.dst = dst → (s.begin t).due dst x.since dst.crossTimeout ≤ max s.clock t → Completes (.crossingTimeout t src dst) s fun u =>
      (u.islands[dst.idx]).state = .stalled ∧ u.crossings = s.crossings.filter fun x => x.dst != dst) ∧
  (∀ (t : Ns) (i : Isl) (s : State), s.up i = false → s.mayRise i = true → Completes (.islandReady t i) s fun u => (u.islands[i.idx]).state = .running ∧ ∀ r ∈ u.mod.resets, r.1 ≠ i) ∧
  (∀ (t : Ns) (src : Isl) (kind : RecKind) (items : List Int) (s : State), Completes (.recordSubmit t src kind items) s fun u =>
      (s.recorder.room src (recLength kind items) = true →
        u.recorder.nextSeq = s.recorder.nextSeq + 1 ∧ u.recorder.intake.length = s.recorder.intake.length + 1) ∧
      (s.recorder.room src (recLength kind items) = false →
        u.recorder.intake = s.recorder.intake ∧ u.recorder.dropped[src.idx] = s.recorder.dropped[src.idx] + 1)) ∧
  (∀ (t : Ns) (s : State), s.recorder.intake = [] → (∃ i : Fin 11, s.recorder.dropped[i] ≠ 0) → Completes (.recordsDropped t) s fun u => u.recorder.dropped = Vector.replicate 11 0 ∧ u.recorder.intake.length = 1) ∧
  (∀ (t : Ns) (w : Timeout) (good : Bool) (stamp : Ns) (d : Deferred) (s : State), s.deferred.find? (fun d => d.which == w) = some d → Completes (.timeoutDecisionDeferred t w good stamp) s fun u =>
      (good = true → stamp ≤ d.deadline → u = { s.begin t with deferred := s.deferred.filter fun d => d.which != w }) ∧
      (good = false ∨ d.deadline < stamp → d.receiving.erase stamp ≠ [] →
        u = { s.begin t with deferred := (s.deferred.filter fun d => d.which != w) ++ [{ d with receiving := d.receiving.erase stamp }] }) ∧
      (good = false ∨ d.deadline < stamp → d.receiving.erase stamp = [] →
        u = State.decideExpiry d { s.begin t with deferred := s.deferred.filter fun d => d.which != w }))

/-- ISLAND_RESET puts an island into reset; DOMAIN_POWER sets a domain or starts its power-up. An admitted ISLAND_RESET of an island
that the checks allow puts it into reset with its code, counts the stall and notes who asked. An admitted DOMAIN_POWER to a domain
that is not off, or that turns it off, sets the state asked for; for a domain that is off and not PRG1 it puts the island of the
domain into reset and notes the state, the requester and the instant for completion. The readings and choices of the model that
this rests on are log entry 13. Rules: R469, R522. -/
def Obligations.IslandCommands : Prop :=
  (∀ (t : Ns) (org : Origin) (param : Bytes) (i : Isl) (s : State), (s.begin t).Admits org opIslandReset [.svc] → param.length = 16 → zeroAt param 1 15 = true → islOfIdx (rd param 0 1) = some i → (s.begin t).resetCheck i = none → Completes (.islandReset t org param) s fun u =>
      (u.islands[i.idx]).state = .inReset ∧ (u.islands[i.idx]).code = some .reset ∧ (i, org) ∈ u.mod.resets ∧
      u.islands[i.idx].stalls = satAdd 32 s.islands[i.idx].stalls 1) ∧
  (∀ (t : Ns) (org : Origin) (param : Bytes) (s : State), (s.begin t).Admits org opDomainPower [.svc] → param.length = 16 → rd param 1 1 ≤ 2 → zeroAt param 2 14 = true → (s.begin t).domainCheck (Ident.ofCode (rd param 0 1)) (domOf (rd param 1 1)) = none → (s.domain (Ident.ofCode (rd param 0 1)) ≠ .off ∨ domOf (rd param 1 1) = .off) → Completes (.domainPower t org param) s fun u => u.domain (Ident.ofCode (rd param 0 1)) = domOf (rd param 1 1)) ∧
  (∀ (t : Ns) (org : Origin) (param : Bytes) (s : State), (s.begin t).Admits org opDomainPower [.svc] → param.length = 16 → rd param 1 1 ≤ 2 → zeroAt param 2 14 = true → (s.begin t).domainCheck (Ident.ofCode (rd param 0 1)) (domOf (rd param 1 1)) = none → s.domain (Ident.ofCode (rd param 0 1)) = .off → domOf (rd param 1 1) ≠ .off → Ident.ofCode (rd param 0 1) ≠ .prg1 → Completes (.domainPower t org param) s fun u =>
      ((Ident.ofCode (rd param 0 1)).idx, domOf (rd param 1 1), org, max s.clock t) ∈ u.mb.power ∧
      (identIsl (Ident.ofCode (rd param 0 1))).map (fun i => (u.islands[i.idx]).state) = some .inReset)

/-- A lane tick samples every cell, input frames are taken or counted, and the cut-off writes every frame. A lane tick advances the
tick number, stamps it, keeps the samples published before it for the program, and emits the frames of the 128 cells and the 8
groups. A good input frame of a channel whose group has no test control gives its sample, stamp and input and clears the bad run;
a missing or bad one adds to the bad run, keeps the sample, and marks the lane failed at the fourth. Group input frames do the
same for a group and its L+ reading. The output cut-off advances the lane sequence number and builds the frame of each channel of
a served group, with the values finished by then and the released safety commands. The readings and choices of the model that this
rests on are log entries 22, 24. Rules: R27, R29, R46, R48, R50, R82, R83, R553. -/
def Obligations.LaneTickAndFrames : Prop :=
  (∀ (t : Ns) (cells : Vector CellSample 128) (groups : Vector GroupSample 8) (s : State), Completes (.laneTick t cells groups) s fun u =>
      u.tick = s.tick + 1 ∧ u.tickAt = max s.clock t ∧ u.prg.prevImage.locals = s.localSamples ∧
      (∀ ch : Fin 128, .laneIn ch (cellFrame u ch) ∈ u.out) ∧ (∀ g : Fin 8, .groupIn g (groupFrame u g) ∈ u.out) ∧
      (∀ ch : Fin 128, u.cells[ch].meas = cells[ch].meas ∧ u.cells[ch].termV = cells[ch].termV) ∧
      ∀ g : Fin 8, u.gfes[g].lplusV = groups[g].lplusV) ∧
  (∀ (t : Ns) (ch : Fin 128) (f : BitVec 256) (s : State), frameGood 0 f = true → s.regs.testCtl.getLsbD (grp ch).val = false → Completes (.channelInputFrame t ch (some f)) s fun u =>
      u.chans[ch].sample.stamp = s.tickAt + s.time.ringOff ∧ u.chans[ch].sample.meas = BitVec.ofNat 24 (InFrame.unpack f).meas ∧
      u.chans[ch].sample.input = (InFrame.unpack f).input ∧ u.chans[ch].badRun = 0) ∧
  (∀ (t : Ns) (ch : Fin 128) (frame : Option (BitVec 256)) (s : State), (∀ f, frame = some f → frameGood 0 f = false ∨ s.regs.testCtl.getLsbD (grp ch).val = true) → Completes (.channelInputFrame t ch frame) s fun u =>
      u.chans[ch].badRun = s.chans[ch].badRun + 1 ∧ u.chans[ch].sample = s.chans[ch].sample ∧
      u.chans[ch].quality ≠ .good ∧ (3 ≤ s.chans[ch].badRun → u.chans[ch].has .laneFailed = true)) ∧
  (∀ (t : Ns) (g : Fin 8) (f : BitVec 256) (s : State), frameGood 2 f = true → Completes (.groupInputFrame t g (some f)) s fun u =>
      u.groups[g].badRun = 0 ∧ u.groups[g].lplusV = BitVec.ofNat 16 (GroupIn.unpack f).lplusV ∧
      u.groups[g].disc = BitVec.ofNat 2 (GroupIn.unpack f).disc ∧ ∀ h : Fin 8, h ≠ g → u.groups[h] = s.groups[h]) ∧
  (∀ (t : Ns) (g : Fin 8) (frame : Option (BitVec 256)) (s : State), (∀ f, frame = some f → frameGood 2 f = false) → 3 ≤ s.groups[g].badRun → Completes (.groupInputFrame t g frame) s fun u =>
      u.groups[g].laneFailed = true ∧ u.groups[g].supply = .unknown ∧ ∀ h : Fin 8, h ≠ g → u.groups[h] = s.groups[h]) ∧
  (∀ (t : Ns) (s : State), s.lanesLive = true → Completes (.outputCutoff t) s fun u =>
      u.laneSeq = s.laneSeq + 1 ∧ ∀ ch : Fin 128, s.groups[grp ch].served = true →
        u.chans[ch].sent = some (s.laneSeq + 1) ∧
        u.chans[ch].frame = ((forAll 128 State.takeLate (forAll 16 State.stepAxis (s.begin t)).releaseSaf).outFrame (s.laneSeq + 1) ch).pack)

/-- Accepted output frames, the silence of cells and groups, SDO readback checks and the hold limit. An acceptable output frame gives
a cell or a group controller its last sequence number and its instant; a second consecutive one ends a cell's silence. Without an
accepted frame for 200 us a cell or a group goes silent; a silent group switches its SDOs off, and an SDO still on 1.2 ms after
the last frame opens the disconnect switch of its group. At the hold limit a silent cell leaves its hold for the substitute of its
configuration (off for substitute 2, unchanged for 0). Other cells and groups keep their state. The readings and choices of the
model that this rests on are log entries 25, 29. Rules: R47, R50, R71, R72, R73, R79, R553. -/
def Obligations.OutputFrames : Prop :=
  (∀ (t : Ns) (ch : Fin 128) (f : BitVec 256) (s : State), s.regs.testCtl.getLsbD (grp ch).val = false → acceptable 1 s.cells[ch].epoch s.cells[ch].lastSeq s.cells[ch].silent f = true → Completes (.channelOutputFrame t ch (some f)) s fun u =>
      u.cells[ch].lastSeq = BitVec.ofNat 8 (OutFrame.unpack f).seq ∧ u.cells[ch].lastAccept = max s.clock t ∧
      ((OutFrame.unpack f).ownerLost = false → u.cells[ch].lastOutAccept = max s.clock t) ∧ ∀ j : Fin 128, j ≠ ch → u.cells[j] = s.cells[j]) ∧
  (∀ (t : Ns) (ch : Fin 128) (f : BitVec 256) (p : BitVec 8) (s : State), s.regs.testCtl.getLsbD (grp ch).val = false → acceptable 1 s.cells[ch].epoch s.cells[ch].lastSeq s.cells[ch].silent f = true → s.cells[ch].silent = true → s.cells[ch].exitCand = some p → seqAfter p (BitVec.ofNat 8 (OutFrame.unpack f).seq) = 1 → (OutFrame.unpack f).ownerLost = false → Completes (.channelOutputFrame t ch (some f)) s fun u => u.cells[ch].silent = false ∧ ∀ j : Fin 128, j ≠ ch → u.cells[j] = s.cells[j]) ∧
  (∀ (t : Ns) (g : Fin 8) (f : BitVec 256) (s : State), acceptable 3 s.gfes[g].epoch s.gfes[g].lastSeq s.gfes[g].silent f = true → Completes (.groupOutputFrame t g (some f)) s fun u =>
      u.gfes[g].lastSeq = BitVec.ofNat 8 (GroupOut.unpack f).seq ∧ u.gfes[g].lastAccept = max s.clock t ∧
      ∀ h : Fin 8, h ≠ g → u.gfes[h] = s.gfes[h]) ∧
  (∀ (t : Ns) (ch : Fin 128) (s : State), s.cells[ch].silent = false → (s.begin t).dueField (grp ch) s.cells[ch].lastOutAccept 200000 ≤ max s.clock t → Completes (.silentEntry t ch) s fun u => u.cells[ch].silent = true ∧ u.cells[ch].has .silentHold = true ∧ ∀ j : Fin 128, j ≠ ch → u.cells[j] = s.cells[j]) ∧
  (∀ (t : Ns) (g : Fin 8) (s : State), s.gfes[g].silent = false → (s.begin t).dueField g s.gfes[g].lastAccept 200000 ≤ max s.clock t → Completes (.groupSilentEntry t g) s fun u =>
      u.gfes[g].silent = true ∧ (∀ ch : Fin 128, grp ch = g → u.cells[ch].mode = .sdo → u.cells[ch].switched = false) ∧
      ∀ ch : Fin 128, grp ch ≠ g → u.cells[ch] = s.cells[ch]) ∧
  (∀ (t : Ns) (ch : Fin 128) (s : State), s.cells[ch].mode = .sdo → s.cells[ch].silent = true → s.cells[ch].outRb = true → (s.begin t).dueField (grp ch) s.cells[ch].lastOutAccept 1200000 ≤ max s.clock t → Completes (.sdoReadbackCheck t ch) s fun u => u.gfes[grp ch].disc = 2 ∧ ∀ g : Fin 8, g ≠ grp ch → u.gfes[g] = s.gfes[g]) ∧
  (∀ (t : Ns) (g : Fin 8) (i : Fin 16) (s : State), s.gfes[g].silent = true → (s.begin t).dueField g s.gfes[g].lastAccept 1200000 ≤ max s.clock t → s.cells[chanOf g i].mode = .sdo → s.cells[chanOf g i].outRb = true → Completes (.groupSdoReadbackCheck t g) s fun u => u.gfes[g].disc = 2 ∧ ∀ h : Fin 8, h ≠ g → u.gfes[h] = s.gfes[h]) ∧
  (∀ (t : Ns) (ch : Fin 128) (s : State), s.cells[ch].silent = true → s.cells[ch].holdSubst = false → holdLimit s.gfes[grp ch].cfg ≠ 0 → (s.begin t).dueField (grp ch) s.cells[ch].lastOutAccept (holdLimit s.gfes[grp ch].cfg * 950000) ≤ max s.clock t → Completes (.holdLimitExpiry t ch) s fun u =>
      u.cells[ch].holdSubst = true ∧ (recSubst (s.cellRec ch) = 2 → u.cells[ch].out.on = false ∧ u.cells[ch].out.code = 0) ∧
      (recSubst (s.cellRec ch) = 0 → u.cells[ch].out = s.cells[ch].out) ∧ ∀ j : Fin 128, j ≠ ch → u.cells[j] = s.cells[j])

/-- Wire break, inrush, overload, open load, thermal, compliance and range detectors of a channel. Each detector acts when its
condition has held for its time: wire break sets and clears after 20 ms, the inrush window ends, an overload trips after 5 ms with
a retry after 1 s and a lock after the fourth trip, the retry opens an inrush window, 1 s on without overload clears the trips,
open load sets after 100 ms, thermal clears after 1 s, compliance sets after 50 ms and clears after 500 ms, and range sets or
clears after its configured delay. Each states its diagnostic bit in the cell and in the channel, or the field it changes; every
other channel keeps its state. The readings and choices of the model that this rests on are log entries 19, 23. Rules: R58, R61,
R62, R93, R94, R96, R102, R103. -/
def Obligations.Detectors : Prop :=
  (∀ (t : Ns) (ch : Fin 128) (s : State), held (max s.clock t) s.cells[ch].wbSince 20000000 = true → Completes (.wireBreakSet t ch) s fun u => u.cells[ch].has .wireBreak = true ∧ u.chans[ch].has .wireBreak = true ∧ ∀ j : Fin 128, j ≠ ch → u.cells[j] = s.cells[j] ∧ u.chans[j] = s.chans[j]) ∧
  (∀ (t : Ns) (ch : Fin 128) (s : State), held (max s.clock t) s.cells[ch].wbClearSince 20000000 = true → Completes (.wireBreakClear t ch) s fun u => u.cells[ch].has .wireBreak = false ∧ u.chans[ch].has .wireBreak = false ∧ ∀ j : Fin 128, j ≠ ch → u.cells[j] = s.cells[j] ∧ u.chans[j] = s.chans[j]) ∧
  (∀ (t : Ns) (ch : Fin 128) (e : Ns) (s : State), s.cells[ch].inrushUntil = some e → e ≤ max s.clock t → Completes (.inrushWindowEnd t ch) s fun u => u.cells[ch] = { s.cells[ch] with inrushUntil := none } ∧ ∀ j : Fin 128, j ≠ ch → u.cells[j] = s.cells[j]) ∧
  (∀ (t : Ns) (ch : Fin 128) (s : State), s.cells[ch].mode.isDo = true → s.cells[ch].switched = true → held (max s.clock t) s.cells[ch].overSince 5000000 = true → Completes (.overloadTrip t ch) s fun u =>
      u.cells[ch].switched = false ∧ u.cells[ch].trips = s.cells[ch].trips + 1 ∧ u.chans[ch].has .overload = true ∧
      (s.cells[ch].trips < 3 → u.cells[ch].retryAt = some (max s.clock t + 1000000000)) ∧
      (3 ≤ s.cells[ch].trips → u.cells[ch].retryAt = none ∧ u.cells[ch].lockedOff = true) ∧ ∀ j : Fin 128, j ≠ ch → u.cells[j] = s.cells[j] ∧ u.chans[j] = s.chans[j]) ∧
  (∀ (t : Ns) (ch : Fin 128) (r : Ns) (s : State), s.cells[ch].retryAt = some r → r ≤ max s.clock t → Completes (.overloadRetry t ch) s fun u =>
      u.cells[ch].tripped = false ∧ u.cells[ch].retryAt = none ∧ u.cells[ch].inrushUntil = some (max s.clock t + 10000000) ∧ ∀ j : Fin 128, j ≠ ch → u.cells[j] = s.cells[j]) ∧
  (∀ (t : Ns) (ch : Fin 128) (s : State), s.cells[ch].switched = true → held (max s.clock t) s.cells[ch].onSince 1000000000 = true → Completes (.overloadClear t ch) s fun u =>
      u.cells[ch].trips = 0 ∧ u.cells[ch].has .overload = false ∧ u.chans[ch].has .overload = false ∧
      (s.cells[ch].mode = .dout → u.cells[ch].has .thermal = false ∧ u.chans[ch].has .thermal = false) ∧ ∀ j : Fin 128, j ≠ ch → u.cells[j] = s.cells[j] ∧ u.chans[j] = s.chans[j]) ∧
  (∀ (t : Ns) (ch : Fin 128) (s : State), held (max s.clock t) s.cells[ch].openSince 100000000 = true → Completes (.openLoad t ch) s fun u => u.cells[ch].has .openLoad = true ∧ u.chans[ch].has .openLoad = true ∧ ∀ j : Fin 128, j ≠ ch → u.cells[j] = s.cells[j] ∧ u.chans[j] = s.chans[j]) ∧
  (∀ (t : Ns) (ch : Fin 128) (s : State), s.cells[ch].mode.isAo = true → held (max s.clock t) s.cells[ch].coolSince 1000000000 = true → Completes (.thermalClear t ch) s fun u => u.cells[ch].has .thermal = false ∧ u.chans[ch].has .thermal = false ∧ ∀ j : Fin 128, j ≠ ch → u.cells[j] = s.cells[j] ∧ u.chans[j] = s.chans[j]) ∧
  (∀ (t : Ns) (ch : Fin 128) (s : State), (s.mode ch).isAo = true → (s.begin t).complianceOpen ch = true → heldStamp s.chans[ch].sample.stamp s.chans[ch].shortfallSince 50000000 = true → Completes (.complianceSet t ch) s fun u => u.cells[ch].has .compliance = true ∧ u.chans[ch].has .compliance = true ∧ ∀ j : Fin 128, j ≠ ch → u.cells[j] = s.cells[j] ∧ u.chans[j] = s.chans[j]) ∧
  (∀ (t : Ns) (ch : Fin 128) (s : State), heldStamp s.chans[ch].sample.stamp s.chans[ch].shortfallOkSince 500000000 = true → Completes (.complianceClear t ch) s fun u => u.cells[ch].has .compliance = false ∧ u.chans[ch].has .compliance = false ∧ ∀ j : Fin 128, j ≠ ch → u.cells[j] = s.cells[j] ∧ u.chans[j] = s.chans[j]) ∧
  (∀ (t : Ns) (ch : Fin 128) (s : State), (s.mode ch).isAi = true → held (max s.clock t) s.chans[ch].bandSince (recRangeDelay (s.chanRec ch) * 1000000) = true → Completes (.rangeDelayExpiry t ch) s fun u => u.chans[ch].has .range = true ∧ u.chans[ch].quality = .bad ∧ ∀ j : Fin 128, j ≠ ch → u.cells[j] = s.cells[j] ∧ u.chans[j] = s.chans[j]) ∧
  (∀ (t : Ns) (ch : Fin 128) (s : State), (s.mode ch).isAi = true → held (max s.clock t) s.chans[ch].bandSince (recRangeDelay (s.chanRec ch) * 1000000) = false → held (max s.clock t) s.chans[ch].outsideSince (recRangeDelay (s.chanRec ch) * 1000000) = true → Completes (.rangeDelayExpiry t ch) s fun u => u.chans[ch].has .range = false ∧ ∀ j : Fin 128, j ≠ ch → u.cells[j] = s.cells[j] ∧ u.chans[j] = s.chans[j])

/-- Off-pulses, test pulses, readback delay and the buck target of a channel. An off-pulse is requested of a driven digital output
outside safety groups' exclusions at its place in the round, and nowhere else; at its end a pulse not seen sets OFF_PULSE_FAIL;
the end of an aligned round, once, clears the seen marks, counts the round and clears a cross fault seen no more. A test pulse of
an SDI within its slot sets TEST_PULSE_FAIL to whether the input stayed above the off level. At the readback delay an output off
that reads on is a short to L+. At the buck target the waiting code goes out. Every other channel keeps its state. The readings
and choices of the model that this rests on are log entry 25. Rules: R65, R66, R67, R68, R90. -/
def Obligations.PulsesAndReadback : Prop :=
  (∀ (t : Ns) (ch : Fin 128) (s : State), (s.mode ch).isDo = true → recPulseEn (s.chanRec ch) = true → ((s.begin t).drive ch).on = true → ((s.begin t).drive ch).hold = false → ((s.begin t).drive ch).subst = false → s.chans[ch].safOff = false → ¬(s.regs.testCtl.getLsbD (8 + (grp ch).val) = true ∧ s.safetyGroup (grp ch) = false) → (roundTick roundNs (s.begin t).now + 2) % 5000 = 39 * ch.val → Completes (.offPulseSlot t ch) s fun u => u = (s.begin t).updChan ch fun c => { c with pulseReq := true }) ∧
  (∀ (t : Ns) (ch : Fin 128) (s : State), ((s.begin t).beforeSlot ch = false ∨ (s.begin t).pulseAllowed ch = false) → Completes (.offPulseSlot t ch) s fun u => u = s.begin t) ∧
  (∀ (t : Ns) (ch : Fin 128) (seen : Bool) (p : Ns) (s : State), s.cells[ch].offPulseAt = some p → p + 1000 * recPulseWidth (s.cellRec ch) ≤ max s.clock t → Completes (.offPulseEnd t ch seen) s fun u =>
      u.cells[ch].offPulseAt = none ∧ u.chans[ch].pulseSeenOwn = seen ∧ u.chans[ch].has .offPulseFail = !seen ∧ ∀ j : Fin 128, j ≠ ch → u.cells[j] = s.cells[j] ∧ u.chans[j] = s.chans[j]) ∧
  (∀ (t : Ns) (s : State), (s.begin t).now / roundNs ≠ s.roundIdx → Completes (.offPulseRoundEnd t) s fun u =>
      u.pulseRound = s.pulseRound + 1 ∧ u.roundIdx = (s.begin t).now / roundNs ∧ ∀ ch : Fin 128, u.chans[ch].crossSeen = false ∧ u.chans[ch].pulseSeenOwn = false ∧
        (s.chans[ch].has .crossFault = true → s.chans[ch].crossSeen = false → s.chans[ch].pulseSeenOwn = true →
          u.chans[ch].has .crossFault = false ∧ u.chans[ch].crossPartner = 0xFF)) ∧
  (∀ (t : Ns) (ch : Fin 128) (belowOff : Bool) (s : State), s.cells[ch].mode = .sdi → 15 * ch.val ≤ roundTick 100000000 (s.begin t).now → roundTick 100000000 (s.begin t).now < 15 * ch.val + 15 → Completes (.testPulseSlot t ch belowOff true) s fun u =>
      u.cells[ch].has .testPulseFail = !belowOff ∧ u.chans[ch].has .testPulseFail = !belowOff ∧ ∀ j : Fin 128, j ≠ ch → u.cells[j] = s.cells[j] ∧ u.chans[j] = s.chans[j]) ∧
  (∀ (t : Ns) (ch : Fin 128) (d : Ns) (s : State), s.chans[ch].rbDue = some d → d ≤ max s.clock t → Completes (.readbackDelayExpiry t ch) s fun u =>
      u.chans[ch].rbDue = none ∧ ((s.mode ch).isDo = true → s.chans[ch].rbOn = false → s.chans[ch].sample.outRb = true →
        u.cells[ch].has .shortToLplus = true ∧ u.chans[ch].has .shortToLplus = true ∧ u.chans[ch].shortSince = some (max s.clock t)) ∧ ∀ j : Fin 128, j ≠ ch → u.cells[j] = s.cells[j] ∧ u.chans[j] = s.chans[j]) ∧
  (∀ (t : Ns) (ch : Fin 128) (code : BitVec 16) (fail : Bool) (b : Nat) (s : State), s.cells[ch].waiting = some (code, fail, b) → Completes (.buckTargetReached t ch) s fun u =>
      u.cells[ch].waiting = none ∧ u.cells[ch].buck = b ∧ u.cells[ch].out.code = code ∧ u.cells[ch].out.failSig = fail ∧ ∀ j : Fin 128, j ≠ ch → u.cells[j] = s.cells[j])

/-- L+ low, off, high and recovery set the supply state of a group and its diagnostics. L+ below its limit for 10 ms is low; four
samples below the off limit are off, and SDOs switch off; four above the high limit are high; recovery after 100 ms is ok, or low
after an off while the voltage is below 19.2 V, and outputs that are on get an inrush window. The low and off diagnostics of the
16 cells follow. A group whose L+ is below 10 V while VLOG is away loses its configuration. Other groups keep their state. The
readings and choices of the model that this rests on are log entry 22. Rules: R45, R69, R70, R618. -/
def Obligations.GroupSupply : Prop :=
  (∀ (t : Ns) (g : Fin 8) (s : State), s.gfes[g].supply = .ok → held (max s.clock t) s.gfes[g].lowSince 10000000 = true → Completes (.lplusLow t g) s fun u => u.gfes[g].supply = .low ∧ (∀ i : Fin 16, u.cells[chanOf g i].has .lplusLow = true ∧ u.cells[chanOf g i].has .lplusOff = false) ∧
      (∀ h : Fin 8, h ≠ g → u.gfes[h] = s.gfes[h]) ∧ ∀ ch : Fin 128, grp ch ≠ g → u.cells[ch] = s.cells[ch]) ∧
  (∀ (t : Ns) (g : Fin 8) (s : State), s.gfes[g].supply ≠ .off → 4 ≤ s.gfes[g].offRun → Completes (.lplusOff t g) s fun u => u.gfes[g].supply = .off ∧ (∀ i : Fin 16, u.cells[chanOf g i].mode = .sdo → u.cells[chanOf g i].switched = false) ∧ (∀ i : Fin 16, u.cells[chanOf g i].has .lplusLow = false ∧ u.cells[chanOf g i].has .lplusOff = true) ∧
      (∀ h : Fin 8, h ≠ g → u.gfes[h] = s.gfes[h]) ∧ ∀ ch : Fin 128, grp ch ≠ g → u.cells[ch] = s.cells[ch]) ∧
  (∀ (t : Ns) (g : Fin 8) (s : State), (s.gfes[g].supply = .ok ∨ s.gfes[g].supply = .low) → 4 ≤ s.gfes[g].highRun → Completes (.lplusHigh t g) s fun u => u.gfes[g].supply = .high ∧ (∀ i : Fin 16, u.cells[chanOf g i].has .lplusLow = false ∧ u.cells[chanOf g i].has .lplusOff = false) ∧
      (∀ h : Fin 8, h ≠ g → u.gfes[h] = s.gfes[h]) ∧ ∀ ch : Fin 128, grp ch ≠ g → u.cells[ch] = s.cells[ch]) ∧
  (∀ (t : Ns) (g : Fin 8) (s : State), s.gfes[g].supply ≠ .off → held (max s.clock t) s.gfes[g].recoverSince 100000000 = true → Completes (.lplusRecover t g) s fun u => u.gfes[g].supply = .ok ∧ (∀ i : Fin 16, u.cells[chanOf g i].has .lplusLow = false ∧ u.cells[chanOf g i].has .lplusOff = false) ∧
      (∀ h : Fin 8, h ≠ g → u.gfes[h] = s.gfes[h]) ∧ ∀ ch : Fin 128, grp ch ≠ g → u.cells[ch] = s.cells[ch]) ∧
  (∀ (t : Ns) (g : Fin 8) (s : State), s.gfes[g].supply = .off → held (max s.clock t) s.gfes[g].recoverSince 100000000 = true → Completes (.lplusRecover t g) s fun u =>
      u.gfes[g].supply = (if s.gfes[g].lplusV.toNat < 1920 then .low else .ok) ∧
      ∀ i : Fin 16, s.cells[chanOf g i].mode = .dout → s.cells[chanOf g i].out.on = true →
        u.cells[chanOf g i].inrushUntil = some (max s.clock t + 10000000)) ∧
  (∀ (t : Ns) (g : Fin 8) (s : State), s.mod.vlog = false → s.gfes[g].lplusV.toNat < 1000 → Completes (.groupConfigurationLost t g) s fun u =>
      u.gfes[g] = { s.gfes[g] with cfg := none, chunks := [] } ∧ (∀ i : Fin 16, u.cells[chanOf g i].mode = .unconfigured) ∧
      (∀ h : Fin 8, h ≠ g → u.gfes[h] = s.gfes[h]) ∧ ∀ ch : Fin 128, grp ch ≠ g → u.cells[ch] = s.cells[ch])

/-- GROUP_CONFIG, its transfer, commit and settling, characteristics and calibration checks. An admitted GROUP_CONFIG that passes its
checks starts a change with the next epoch and marks the channels BAD with CFG_CHANGE. A commit of a complete transfer gives
group, cells and owners the new epoch and configuration; settling ends the change, clears CFG_CHANGE and refills the input
filters. A transfer not complete is sent once more and then fails. CHAR_LOAD stores a characteristic that no channel uses. A due
calibration check runs for 300 us and gives gain and offset from the two references, or a reference fault when their ratio is off
by more than 0.1 %. Other groups and channels keep their state. The readings and choices of the model that this rests on are log
entries 20, 25, 26. Rules: R53, R56, R76, R77, R78, R79, R109, R111, R112, R115, R553. -/
def Obligations.GroupConfiguration : Prop :=
  (∀ (t : Ns) (org : Origin) (o : Bytes) (s : State), (s.begin t).Admits org opGroupConfig [.svc] → o.length = 544 → (s.begin t).groupCheck o = none → Completes (.groupConfig t org o) s fun u =>
      u.groups[gcGroup o].change = some { org := org, obj := o, newEpoch := s.groups[gcGroup o].epoch + 1, accepted := max s.clock t } ∧
      (∀ i : Fin 16, u.chans[chanOf (gcGroup o) i].quality = .bad ∧ u.chans[chanOf (gcGroup o) i].has .cfgChange = true) ∧
      ∀ h : Fin 8, h ≠ gcGroup o → u.groups[h] = s.groups[h]) ∧
  (∀ (t : Ns) (g : Fin 8) (c : GroupChange) (s : State), s.groups[g].change = some c → c.committed = false → 35 ≤ c.next → ((s.gfes[g].complete = true ∧ s.gfes[g].object = c.obj) ∨ (s.gfes[g].epoch = c.newEpoch ∧ s.gfes[g].chunks = [])) → Completes (.cfgCommit t g) s fun u =>
      u.groups[g].epoch = c.newEpoch ∧ u.gfes[g].epoch = c.newEpoch ∧ u.groups[g].change = some { c with committed := true } ∧
      (∀ i : Fin 16, u.owner (chanOf g i) = gcOwner c.obj i) ∧
      (s.gfes[g].complete = true → ∀ i : Fin 16, u.cells[chanOf g i].epoch = c.newEpoch ∧
        u.cells[chanOf g i].mode = u.mode (chanOf g i)) ∧
      ∀ h : Fin 8, h ≠ g → u.groups[h] = s.groups[h] ∧ u.gfes[h] = s.gfes[h]) ∧
  (∀ (t : Ns) (g : Fin 8) (c : GroupChange) (s : State), s.groups[g].change = some c → c.committed = true → Completes (.groupConfigSettled t g) s fun u =>
      u.groups[g].change = none ∧ (∀ i : Fin 16, u.chans[chanOf g i].has .cfgChange = false ∧ u.cells[chanOf g i].input = s.cells[chanOf g i].raw) ∧
      ∀ h : Fin 8, h ≠ g → u.groups[h] = s.groups[h]) ∧
  (∀ (t : Ns) (g : Fin 8) (c : GroupChange) (s : State), s.groups[g].change = some c → c.committed = false → s.gfes[g].complete = false → 35 ≤ c.next → c.resent = false → Completes (.groupConfigResend t g) s fun u =>
      u.gfes[g].chunks = [] ∧ u.groups[g].change = some { c with next := 0, resent := true } ∧
      ∀ h : Fin 8, h ≠ g → u.groups[h] = s.groups[h] ∧ u.gfes[h] = s.gfes[h]) ∧
  (∀ (t : Ns) (g : Fin 8) (c : GroupChange) (s : State), s.groups[g].change = some c → c.committed = false → s.gfes[g].complete = false → 35 ≤ c.next → c.resent = true → Completes (.groupConfigResend t g) s fun u =>
      u.gfes[g].chunks = [] ∧ u.groups[g].change = none ∧ u.groups[g].stuckSubst = true ∧
      ∀ h : Fin 8, h ≠ g → u.groups[h] = s.groups[h] ∧ u.gfes[h] = s.gfes[h]) ∧
  (∀ (t : Ns) (org : Origin) (o : Bytes) (s : State), (s.begin t).Admits org opCharLoad [.svc] → o.length = 264 → charOk o = true → s.charUsers (clIndex o) = [] → s.charPending org (clIndex o) = false → s.storeOverflow (BitVec.ofNat 16 opCharLoad) (clIndex o) o = false → Completes (.charLoad t org o) s fun u =>
      (∃ k : Fin 128, k.val = clIndex o ∧ u.chars[k] = some { obj := o, stamp := (s.begin t).now }) ∧
      ∀ k : Fin 128, k.val ≠ clIndex o → u.chars[k] = s.chars[k]) ∧
  (∀ (t : Ns) (ch : Fin 128) (s : State), ((s.mode ch).isAo = true ∨ (s.mode ch).isAi = true) → s.up .svc = true → (∀ i : Fin 16, s.chans[chanOf (grp ch) i].cal.running = none) → (s.safetyGroup (grp ch) = false ∨ ∀ i : Fin 16, s.chans[chanOf (grp ch) i].pulseReq = false ∧ s.cells[chanOf (grp ch) i].offPulseAt = none) → s.regs.testCtl.getLsbD (16 + (grp ch).val) = false → s.chans[ch].cal.nextDue ≤ max s.clock t → Completes (.calibrationCheck t ch) s fun u =>
      u.chans[ch].cal.running = some (max s.clock t) ∧ ((s.mode ch).isAi = true → u.chans[ch].quality = .stale) ∧
      ∀ j : Fin 128, j ≠ ch → u.chans[j] = s.chans[j]) ∧
  (∀ (t : Ns) (ch : Fin 128) (ref4 ref20 : Rat) (b : Ns) (s : State), s.chans[ch].cal.running = some b → b + 300000 ≤ max s.clock t → Completes (.calibrationCheckEnd t ch ref4 ref20) s fun u =>
      u.chans[ch].cal.running = none ∧ u.chans[ch].cal.stamp = some (s.begin t).now ∧
      (0 < ref4 → ref4 < ref20 → absR (ref20 / ref4 / 5 - 1) ≤ 1 / 1000 →
        u.chans[ch].cal.gain = 16 / (ref20 - ref4) ∧ u.chans[ch].cal.offset = 4 - 16 / (ref20 - ref4) * ref4) ∧
      (1 / 1000 < absR (ref20 / ref4 / 5 - 1) → u.chans[ch].cal.refFault = true ∧ u.chans[ch].cal.gain = s.chans[ch].cal.gain) ∧
      ∀ j : Fin 128, j ≠ ch → u.chans[j] = s.chans[j])

/-- HART requests, transmission, response, retries, bursts and burst silence. An admitted HART_REQUEST becomes active or queues, up to
four. A transmission that may start hands the request over character by character and counts an attempt. A good response addressed
to this master within 300 ms ends the request, counts it and takes the next; a frame that is not leaves the modem as it was; a bad
frame or none retries, and after the retries ends the request with HART_FAULT. A burst frame is stored with its stamp when good
and counted when bad; 500 ms without one ends the burst state. Other modems keep their state. The readings and choices of the
model that this rests on are log entry 27. Rules: R116, R117, R118, R119, R120, R121, R122, R123. -/
def Obligations.HartModem : Prop :=
  (∀ (t : Ns) (org : Origin) (o : Bytes) (ch : Fin 128) (s : State), (s.begin t).Admits org opHartRequest [.svc, .tim] → 16 ≤ o.length ∧ o.length ≤ 271 → hartOk o = true → hqChannel o = ch.val → recHartEn (s.chanRec ch) = true → ((s.mode ch).isAo = true ∨ (s.mode ch).isAi = true) → s.groups[grp ch].change = none → s.cells[ch].silent = false → s.chans[ch].has .laneFailed = false → Completes (.hartRequest t org o) s fun u =>
      (s.harts[ch].active = none → u.harts[ch].active = some { org := org, obj := o } ∧ u.harts[ch].state = .waitGap) ∧
      (s.harts[ch].active.isSome = true → s.harts[ch].waiting.length < 4 →
        u.harts[ch].waiting = s.harts[ch].waiting ++ [{ org := org, obj := o }]) ∧ ∀ j : Fin 128, j ≠ ch → u.harts[j] = s.harts[j]) ∧
  (∀ (t : Ns) (ch : Fin 128) (q : HartReq) (s : State), s.harts[ch].active = some q → s.harts[ch].state = .waitGap → s.harts[ch].mayStart (max s.clock t) = true → Completes (.hartTransmitStart t ch) s fun u =>
      u.harts[ch].state = .tx ∧ u.harts[ch].active = some { q with attempts := q.attempts + 1 } ∧ u.harts[ch].txQueue = hartWire q.obj ∧ ∀ j : Fin 128, j ≠ ch → u.harts[j] = s.harts[j]) ∧
  (∀ (t : Ns) (ch : Fin 128) (start : Ns) (f : Bytes) (q : HartReq) (e : Ns) (s : State), s.harts[ch].active = some q → s.harts[ch].txEnd = some e → (s.harts[ch].state = .waitResp ∨ s.harts[ch].state = .rx) → rxMine f = true → e ≤ start → start ≤ e + 300000000 → rxGood 6 f = true → s.harts[ch].rxErr = false → Completes (.hartResponse t ch start f) s fun u =>
      u.harts[ch].active = s.harts[ch].waiting.head? ∧ u.harts[ch].waiting = s.harts[ch].waiting.tail ∧
      u.harts[ch].done = satAdd 32 s.harts[ch].done 1 ∧ u.cells[ch].has .hartFault = false ∧ u.chans[ch].has .hartFault = false ∧ ∀ j : Fin 128, j ≠ ch → u.harts[j] = s.harts[j]) ∧
  (∀ (t : Ns) (ch : Fin 128) (start : Ns) (f : Bytes) (q : HartReq) (e : Ns) (s : State), s.harts[ch].active = some q → s.harts[ch].txEnd = some e → (s.harts[ch].state = .waitResp ∨ s.harts[ch].state = .rx) → rxMine f = true → e ≤ start → start ≤ e + 300000000 → (rxGood 6 f = false ∨ s.harts[ch].rxErr = true) → Completes (.hartResponse t ch start f) s fun u =>
      (q.attempts ≤ hqRetries q.obj → u.harts[ch].active = some { q with drewBad := true } ∧ u.harts[ch].state = .waitGap) ∧
      (hqRetries q.obj < q.attempts → u.harts[ch].active = s.harts[ch].waiting.head? ∧
        u.harts[ch].badFrame = satAdd 32 s.harts[ch].badFrame 1 ∧ u.chans[ch].has .hartFault = true) ∧ ∀ j : Fin 128, j ≠ ch → u.harts[j] = s.harts[j]) ∧
  (∀ (t : Ns) (ch : Fin 128) (start : Ns) (f : Bytes) (s : State), rxMine f = false → Completes (.hartResponse t ch start f) s fun u => u = s.begin t) ∧
  (∀ (t : Ns) (ch : Fin 128) (q : HartReq) (e : Ns) (s : State), s.harts[ch].active = some q → s.harts[ch].txEnd = some e → (s.harts[ch].state = .waitResp ∨ (s.harts[ch].state = .rx ∧ s.harts[ch].carrier = false)) → (s.begin t).due .tim e 300000000 ≤ max s.clock t → Completes (.hartNoResponse t ch) s fun u =>
      (q.attempts ≤ hqRetries q.obj → u.harts[ch].active = some q ∧ u.harts[ch].state = .waitGap) ∧
      (hqRetries q.obj < q.attempts → u.harts[ch].active = s.harts[ch].waiting.head? ∧ u.chans[ch].has .hartFault = true) ∧ ∀ j : Fin 128, j ≠ ch → u.harts[j] = s.harts[j]) ∧
  (∀ (t : Ns) (ch : Fin 128) (start : Ns) (f : Bytes) (s : State), hartOn (s.chanRec ch) = true → s.harts[ch].rxErr = false → Completes (.hartBurst t ch start f) s fun u =>
      u.harts[ch].bursting = true ∧ u.harts[ch].lastBurst = some (start + s.time.ringOff) ∧
      (rxGood 1 f = true → u.harts[ch].stored = satAdd 32 s.harts[ch].stored 1 ∧
        (u.harts[ch].bursts.any fun b => b.bytes == f && b.stamp == start + s.time.ringOff) = true) ∧
      (rxGood 1 f = false → u.harts[ch].burstsBad = satAdd 32 s.harts[ch].burstsBad 1 ∧ u.harts[ch].bursts = s.harts[ch].bursts) ∧ ∀ j : Fin 128, j ≠ ch → u.harts[j] = s.harts[j]) ∧
  (∀ (t : Ns) (ch : Fin 128) (s : State), s.harts[ch].bursting = true → (s.begin t).due .tim s.harts[ch].lastBurstAt 500000000 ≤ max s.clock t → Completes (.burstSilence t ch) s fun u => u.harts[ch] = { s.harts[ch] with bursting := false } ∧ ∀ j : Fin 128, j ≠ ch → u.harts[j] = s.harts[j])

/-- Main cycle start, the barrier of a pair, output write and release, cycle slip, interval save. Outside a pair a main cycle that may
begin advances the cycle number, empties the staged writes and starts the measured time; in a pair in step it sends its barrier
message first. The output write ends the cycle, counts it and takes the boundary; in step it holds the writes for release and
sends OUT_DONE. A release that is due empties them. A slip counts and takes the newest bus cycle. A retained save at its interval
starts, or queues behind one that runs. Actions are those of the running image within its data memory. The readings and choices of
the model that this rests on are log entries 31, 55. Rules: R131, R135, R138, R139, R140, R145, R146, R154, R156, R162, R366,
R367. -/
def Obligations.ProgramCycle : Prop :=
  (∀ (t : Ns) (faultActs : List (List PrgAct)) (acts : List PrgAct) (s : State), s.inStep = false → (s.begin t).mayBegin = true → (∀ l ∈ faultActs, Inside s l) → Inside s acts → s.prg.longHeld = [] → Completes (.mainCycleStart t faultActs acts) s fun u =>
      u.prg.inMain = true ∧ u.prg.cycleNumber = s.prg.cycleNumber + 1 ∧ u.prg.varWrites = [] ∧ u.prg.paramPending = none ∧
      u.prg.cycleBegin = max s.clock t) ∧
  (∀ (t : Ns) (faultActs : List (List PrgAct)) (acts : List PrgAct) (s : State), s.inStep = true → s.prg.active = true → (s.begin t).mayBegin = true → s.needsBarrier = true → s.pair.barrier.partnerMsg = none → Completes (.mainCycleStart t faultActs acts) s fun u =>
      u.pair.barrier.own = some (s.prg.cycleNumber + 1, (s.begin t).now) ∧ u.pair.barrier.passed = false ∧
      u.out = [.barrier ((s.begin t).barrierMsg false)] ∧ u.prg.cycleNumber = s.prg.cycleNumber) ∧
  (∀ (t : Ns) (writes : List PrgWrite) (s : State), s.prg.inMain = true → Completes (.outputWrite t writes) s fun u =>
      u.prg.inMain = false ∧ u.prg.held = [] ∧ u.prg.cycles = s.prg.cycles + 1 ∧
      ∀ r, s.prg.running = some r → u.prg.boundary.imageId = r.imageId ∧ u.prg.boundary.cycle = s.prg.cycleNumber) ∧
  (∀ (t : Ns) (writes : List PrgWrite) (s : State), s.prg.inMain = true → s.inStep = true → Completes (.outputWrite t writes) s fun u =>
      u.prg.toRelease = s.prg.toRelease ++ s.prg.held ++ writes ∧
      u.pair.barrier.ownDone = some (s.prg.cycleNumber, (s.begin t).now) ∧ .outDone s.prg.cycleNumber (s.begin t).now ∈ u.out) ∧
  (∀ (t : Ns) (s : State), s.prg.toRelease ≠ [] → (s.begin t).releaseDue = true → Completes (.outputRelease t) s fun u => u.prg.toRelease = []) ∧
  (∀ (t : Ns) (f : Ns) (s : State), s.prg.firstOverrun = some f → s.prg.isoNow = true → s.prg.inMain = false → f + s.prg.param.slipLimit * s.tBus < max s.clock t → Completes (.cycleSlip t) s fun u =>
      u.prg.slips = s.prg.slips + 1 ∧ u.prg.lastReadBus = some s.newestBus ∧ u.prg.firstOverrun = none) ∧
  (∀ (t : Ns) (s : State), s.prg.active = true → s.up .recorder = true → s.prg.boundary.imageId ≠ [] → s.prg.lastSaveAt + s.saveInterval * 1000000000 ≤ max s.clock t → s.stores[(1 : Fin 2)].heldBack = false → Completes (.retainedSaveInterval t) s fun u =>
      u.prg.lastSaveAt = max s.clock t ∧
      (s.stores[(1 : Fin 2)].running.isSome = true →
        u.stores[(1 : Fin 2)].waiting = s.stores[(1 : Fin 2)].waiting ++ [(.interval, none)]) ∧
      (s.savePages.length ≤ 255 → u.stores[(1 : Fin 2)].running.isSome = true))

/-- Event tasks, the CycleLong entry point, and the four causes of a halt. A free event task takes the oldest event of its queue; at
its end its deferred writes join those held. A cycle past the watchdog time starts CycleLong once; its end applies its actions,
held back while the pair is in step; its stores reach SHARED data alone. An event task past the watchdog time, twice the watchdog
time in a cycle, a trap and an uncorrectable memory error halt the program: the halt keeps its cause, the cycle ends, its held
writes go, and outputs take PSTOP. The readings and choices of the model that this rests on are log entry 32. Rules: R132, R133,
R148, R149, R151, R163, R179, R366. -/
def Obligations.EventTasksAndLong : Prop :=
  (∀ (t : Ns) (prio : Fin 16) (k : EventTask) (e : PrgEvent) (rest : List PrgEvent) (s : State), s.prg.live = true → s.prg.events.find? (fun k => k.prio = prio) = some k → k.queue = e :: rest → k.active = none → (s.begin t).eventFree k e = true → (s.begin t).hubReady e = true → Completes (.eventTaskStart t prio) s fun u =>
      u.prg.events = s.prg.events.map fun j => if j.prio = prio then { j with queue := rest, active := some (e, max s.clock t) } else j) ∧
  (∀ (t : Ns) (prio : Fin 16) (acts : List PrgAct) (writes : List PrgWrite) (k : EventTask) (e : PrgEvent) (start : Ns) (s : State), s.prg.events.find? (fun k => k.prio = prio) = some k → k.active = some (e, start) → Inside s acts → Completes (.eventTaskEnd t prio acts writes) s fun u =>
      (∀ j ∈ u.prg.events, j.prio = prio → j.active = none) ∧ u.prg.held = s.prg.held ++ writes.filter fun w => !(isImmediate w && !(s.atSwitch && isChannel w))) ∧
  (∀ (t : Ns) (s : State), s.prg.active = true → s.prg.inMain = true → s.prg.longInCycle = false → s.prg.running.map Running.hasCycleLong = some true → (s.begin t).cycleOver 1 = true → Completes (.cycleLong t) s fun u =>
      u.prg.longRunning = true ∧ u.prg.longInCycle = true ∧ u.prg.longRuns = s.prg.longRuns + 1 ∧ u.prg.inMain = true) ∧
  (∀ (t : Ns) (acts : List LongAct) (s : State), s.prg.longRunning = true → Completes (.cycleLongEnd t acts) s fun u =>
      u.prg.longRunning = false ∧ (s.inStep = true → u.prg.longHeld = s.prg.longHeld ++ acts ∧ u.prg.data = s.prg.data) ∧
      (s.inStep = false → acts = [] → u = (s.begin t).updPrg fun p => { p with longRunning := false }) ∧
      (s.inStep = false → acts = [.stop] → s.prg.inMain = true → u.prg.stopReq = true)) ∧
  (∀ (t : Ns) (addr : Nat) (data : Bytes) (r : Running) (s : State), s.prg.longRunning = true → s.inStep = false → s.prg.running = some r → addr + data.length ≤ r.dataSize → Completes (.cycleLongEnd t [.store addr data]) s fun u =>
      u.prg.longRunning = false ∧
      u.prg.data.mem = (if r.sharedAt addr data.length = true then Memory.writeAll s.prg.data.mem addr data else s.prg.data.mem)) ∧
  (∀ (t : Ns) (prio : Fin 16) (e : PrgEvent) (start : Ns) (s : State), ((s.prg.active = true ∨ s.prg.state = .starting)) → (s.prg.events.find? (fun k => k.prio = prio)).bind EventTask.active = some (e, start) → (s.begin t).due .prg start (1000000 * s.prg.param.wdMs) < max s.clock t → Completes (.eventOverrun t prio) s fun u =>
      u.prg.halt.map Halt.cause = some .eventOverrun ∧ u.prg.inMain = false ∧ u.prg.held = [] ∧ u.prg.pstop = true ∧
      (s.prg.control = none → u.prg.state = .halted)) ∧
  (∀ (t : Ns) (s : State), ((s.prg.active = true ∨ s.prg.state = .starting)) → (((s.prg.inMain = true ∨ s.prg.longRunning = true) ∧ (s.begin t).cycleOver 2 = true) ∨
      (s.xch.switch.any fun w => (w.phase == .pre || w.phase == .post) &&
        decide ((s.begin t).due .prg w.since (1000000 * s.prg.param.wdMs) < max s.clock t)) = true) → Completes (.watchdogHalt t) s fun u =>
      u.prg.halt.map Halt.cause = some .watchdog ∧ u.prg.inMain = false ∧ u.prg.held = [] ∧ u.prg.pstop = true ∧
      (s.prg.control = none → u.prg.state = .halted)) ∧
  (∀ (t : Ns) (code codeAddr dataAddr : Nat) (s : State), ((s.prg.active = true ∨ s.prg.state = .starting)) → Completes (.trap t code codeAddr dataAddr) s fun u =>
      u.prg.halt.map Halt.cause = some .trap ∧ u.prg.inMain = false ∧ u.prg.held = [] ∧ u.prg.pstop = true ∧
      (s.prg.control = none → u.prg.state = .halted)) ∧
  (∀ (t : Ns) (s : State), ((s.prg.active = true ∨ s.prg.state = .starting)) → Completes (.eccHalt t) s fun u =>
      u.prg.halt.map Halt.cause = some .ecc ∧ u.prg.inMain = false ∧ u.prg.held = [] ∧ u.prg.pstop = true ∧
      (s.prg.control = none → u.prg.state = .halted))

/-- RUN, STOP, ISO_ENTER, ISO_LEAVE, PROGRAM_PARAM, VAR_WRITE and the end of the start entry point. An admitted RUN of a loaded
program at rest starts it, through Start when the image has it, and the isochronous start follows. STOP of a program between
cycles saves the retained memory and stops, at once when saving is held back; within a cycle it waits. ISO_ENTER and ISO_LEAVE
wait for the next cycle. PROGRAM_PARAM acts at rest at once and otherwise at the next cycle. VAR_WRITE of a matching key writes
the variable at rest and otherwise at the next cycle. The readings and choices of the model that this rests on are log entries 32,
33. Rules: R151, R152, R155, R160, R161, R162, R490. -/
def Obligations.ProgramControl : Prop :=
  (∀ (t : Ns) (org : Origin) (o : Bytes) (r : Running) (s : State), (s.begin t).Admits org opProgramControl [.prg] → controlFormat 1 o = true → s.programHeld = false → s.runsPrograms = true → (s.prg.state = .stopped ∨ s.prg.state = .halted) → s.mod.prgFailed = false → s.mod.failAt = none → s.prg.running = some r → Completes (.run t org o) s fun u =>
      u.prg.control = some (org, .run (rdBits o 1 0 0 == 1)) ∧ u.prg.firstAfterStart = true ∧ u.prg.held = [] ∧
      (r.hasStart = true → u.prg.state = .starting) ∧
      (r.hasStart = false → u.prg.state = .isochronous ∧ u.prg.isoLeft = some s.prg.param.isoStart ∧ u.prg.isoStartup = true)) ∧
  (∀ (t : Ns) (acts : List PrgAct) (writes : List PrgWrite) (s : State), s.prg.state = .starting → Inside s acts → Completes (.startFinished t acts writes) s fun u =>
      u.prg.state = .isochronous ∧ u.prg.isoLeft = some s.prg.param.isoStart ∧ u.prg.isoStartup = true ∧ u.prg.held = s.prg.held ++ writes) ∧
  (∀ (t : Ns) (org : Origin) (o : Bytes) (s : State), (s.begin t).Admits org opProgramControl [.prg] → controlFormat 2 o = true → s.programHeld = false → s.runsPrograms = true → s.prg.state ≠ .stopped → Completes (.stop t org o) s fun u =>
      (s.prg.inMain = true ∨ s.prg.state = .switching → u.prg.stopReq = true ∧ u.prg.control = some (org, .stop)) ∧
      (s.prg.inMain = false → s.prg.state ≠ .switching → s.stores[(1 : Fin 2)].heldBack = true →
        u.prg.state = .stopped ∧ u.prg.pstop = true ∧ u.prg.control = none) ∧
      (s.prg.inMain = false → s.prg.state ≠ .switching → s.stores[(1 : Fin 2)].heldBack = false → s.prg.running.isSome = true →
        s.savePages.length ≤ 255 → u.prg.stopReq = true ∧ u.prg.control = some (org, .stop))) ∧
  (∀ (t : Ns) (org : Origin) (o : Bytes) (s : State), (s.begin t).Admits org opProgramControl [.prg] → controlFormat 3 o = true → s.programHeld = false → s.runsPrograms = true → s.prg.active = true → Completes (.isoEnter t org o) s fun u => u.prg = { s.prg with control := some (org, .isoEnter (rd o 2 2)) }) ∧
  (∀ (t : Ns) (org : Origin) (o : Bytes) (s : State), (s.begin t).Admits org opProgramControl [.prg] → controlFormat 4 o = true → s.programHeld = false → s.runsPrograms = true → s.prg.active = true → s.prg.isoStartup = false → Completes (.isoLeave t org o) s fun u => u.prg = { s.prg with control := some (org, .isoLeave) }) ∧
  (∀ (t : Ns) (org : Origin) (o : Bytes) (s : State), (s.begin t).Admits org opProgramParam [.prg] → paramFormat o = true → s.programHeld = false → s.storeOverflow (BitVec.ofNat 16 opProgramParam) 0 o = false → Completes (.programParam t org o) s fun u =>
      (s.prg.state = .stopped ∨ s.prg.state = .halted → u.prg.param = paramOf o ∧ u.prg.paramPending = none) ∧
      (s.prg.active = true → u.prg.paramPending = some (org, paramOf o) ∧ u.prg.param = s.prg.param)) ∧
  (∀ (t : Ns) (org : Origin) (o : Bytes) (e : KeyEntry) (s : State), (s.begin t).Admits org opVarWrite [.prg] → zeroAt o 14 2 = true → 1 ≤ rd o 12 2 ∧ rd o 12 2 ≤ 4096 → o.length = 16 + rd o 12 2 → (s.prg.running.bind fun r => r.find (BitVec.ofNat 64 (rd o 0 8))) = some e → e.typeSig = BitVec.ofNat 32 (rd o 8 4) → e.size = rd o 12 2 → e.noExternalWrite = false → Completes (.varWrite t org o) s fun u =>
      (s.prg.active = true ∨ s.prg.state = .starting → u.prg.varWrites.length = s.prg.varWrites.length + 1 ∧ u.prg.data = s.prg.data) ∧
      (s.prg.state = .stopped ∨ s.prg.state = .halted →
        u.prg.data.mem = Memory.writeAll s.prg.data.mem e.addr (o.drop 16) ∧ u.prg.data.insts = s.prg.data.insts))

/-- Staging, verifying, arming and switching of program images. An admitted IMAGE_STAGE chunk in order is appended to the staging
slot. The end of the verification marks it VERIFIED or INVALID. PROGRAM_SWITCH to a verified image of the given identity arms the
switch while the program runs and loads the image at once at rest. ARMED of the partner is noted; a barrier past the cycle without
it ends the switch. The end of PreSwitch loads the image and starts PostSwitch after the gap; the end of PostSwitch returns to the
earlier state. The other slot keeps its state. The readings and choices of the model that this rests on are log entry 35. Rules:
R171, R172, R173, R174, R176, R177, R178, R181, R192, R194. -/
def Obligations.OnlineExchange : Prop :=
  (∀ (t : Ns) (org : Origin) (p data : Bytes) (s : State), (s.begin t).Admits org opImageStage [.svc, .recorder] → s.runsPrograms = true → s.xch.switch = none → (s.xch.staging.bind Staging.last) = none → ¬(isFirst p = true ∧ s.xch.staging.isSome = true) → stageFormat p data = true → s.xch.inOrder p = true → Completes (.imageStage t org p data) s fun u =>
      u.xch.slots[s.xch.stagingSlot].bytes = (if isFirst p then [] else s.xch.slots[s.xch.stagingSlot].bytes) ++ data ∧
      u.xch.slots[s.xch.stagingSlot].state = (if isLast p then .verifying else .staging) ∧
      u.xch.staging.map Staging.nextOffset = some (isOffset p + isLength p) ∧
      ∀ k : Fin 2, k ≠ s.xch.stagingSlot → u.xch.slots[k] = s.xch.slots[k]) ∧
  (∀ (t : Ns) (partnerCheck : Option (Fin 8)) (org : Origin) (s : State), s.xch.staging.bind Staging.last = some org → Completes (.imageVerifyEnd t partnerCheck) s fun u =>
      u.xch.staging = none ∧
      u.xch.slots[s.xch.stagingSlot].state =
        (if (s.verify s.xch.slots[s.xch.stagingSlot].bytes).isSome then .invalid else .verified) ∧
      ∀ k : Fin 2, k ≠ s.xch.stagingSlot → u.xch.slots[k] = s.xch.slots[k]) ∧
  (∀ (t : Ns) (org : Origin) (o : Bytes) (s : State), (s.begin t).Admits org opProgramSwitch [.prg, .svc, .recorder] → o.length = 32 → rdBits o 0 7 1 = 0 → zeroAt o 1 7 = true → s.programHeld = false → s.xch.staging = none → s.runsPrograms = true → s.xch.slots[swSlot o].state = .verified → Image.imageId s.xch.slots[swSlot o].bytes = swId o → s.prg.active = true → s.prg.state ≠ .switching → (swCycle o = 0 ∨ s.prg.cycleNumber < swCycle o) → Image.crcsOk s.xch.slots[swSlot o].bytes = true → s.stores[(1 : Fin 2)].heldBack = false → s.savePages.length ≤ 255 → Completes (.programSwitch t org o) s fun u =>
      u.xch.switch.map Switch.slot = some (swSlot o) ∧ u.xch.switch.map Switch.org = some org ∧
      u.xch.switch.map Switch.phase = some .armed ∧ u.xch.switch.map Switch.ownArmed = some false ∧ u.prg.running = s.prg.running) ∧
  (∀ (t : Ns) (org : Origin) (o : Bytes) (s : State), (s.begin t).Admits org opProgramSwitch [.prg, .svc, .recorder] → o.length = 32 → rdBits o 0 7 1 = 0 → zeroAt o 1 7 = true → s.programHeld = false → s.xch.staging = none → s.runsPrograms = true → s.xch.slots[swSlot o].state = .verified → Image.imageId s.xch.slots[swSlot o].bytes = swId o → (s.prg.state = .stopped ∨ s.prg.state = .halted) → (swCycle o = 0 ∨ s.prg.cycleNumber < swCycle o) → Image.crcsOk s.xch.slots[swSlot o].bytes = true → Completes (.programSwitch t org o) s fun u =>
      u.xch.switch = none ∧ u.xch.slots[swSlot o].state = .running ∧
      u.prg.running = some (Image.load (swSlot o) s.xch.slots[swSlot o].bytes)) ∧
  (∀ (t : Ns) (cycle : Nat) (w : Switch) (s : State), s.xch.switch = some w → w.phase = .armed → w.cycle = cycle → Completes (.armed t cycle) s fun u => u.xch = { s.xch with switch := some { w with partnerArmed := true } }) ∧
  (∀ (t : Ns) (w : Switch) (s : State), s.xch.switch = some w → w.phase = .armed → s.isPair = true → (w.partnerArmed = false ∨ (w.ownArmed = false ∧ s.inStep = true)) → w.cycle ≤ s.barrierCycle + 1 → Completes (.pairNotArmed t) s fun u => u.xch = { s.xch with switch := none }) ∧
  (∀ (t : Ns) (gapUs : Nat) (acts : List PrgAct) (w : Switch) (s : State), s.xch.switch = some w → w.phase = .pre → s.prg.longRunning = false → (∀ k ∈ s.prg.events, k.active = none) → Inside s acts → Completes (.preSwitchEnd t gapUs acts) s fun u =>
      u.prg.state = .switching ∧ u.prg.running = some (Image.load w.slot s.xch.slots[w.slot].bytes) ∧
      u.xch.slots[w.slot].state = .running ∧ u.xch.switch.map Switch.phase = some .post ∧
      u.xch.switch.map Switch.since = some (max s.clock t + 1000 * gapUs)) ∧
  (∀ (t : Ns) (acts : List PrgAct) (w : Switch) (s : State), s.xch.switch = some w → w.phase = .post → w.since ≤ max s.clock t → Inside s acts → Completes (.postSwitchEnd t acts) s fun u =>
      u.prg.state = w.before ∧ u.prg.firstAfterSwitch = true ∧ u.xch.switch.map Switch.phase = some .firstCycle)

/-- Loop samples, catch-up, slips, configuration, commands and override groups. A due sample of a configured loop, in the order of the
tick, counts, stamps its start and empties its writes, and takes a pending configuration that enables the loop. An owed sample is
made up in order. A loop later than its slip limit drops what it owes, counts a slip and sets its flag. LOOP_CONFIG waits for the
next sample, LOOP_COMMAND joins the writes of the loop, and OVERRIDE_CONFIG takes effect at once. Other loops keep configuration
and mode. The readings and choices of the model that this rests on are log entries 37, 39. Rules: R199, R207, R211, R213, R216,
R225, R226, R229, R230, R393. -/
def Obligations.LoopSamples : Prop :=
  (∀ (t : Ns) (lp : Fin 64) (done : Ns) (o : Bytes) (s : State), s.loops[lp].cfg = some o → s.loops[lp].pending = none → s.up .ctl = true → (s.begin t).loopFirst (s.gridTick (max s.clock t)) lp = true → s.mod.failAt = none → s.tickClock (s.gridTick (max s.clock t)) + 36000 ≤ max s.clock t → Completes (.loopSample t lp done) s fun u =>
      u.loops[lp].samples = s.loops[lp].samples + 1 ∧ u.loops[lp].lastPoint = some (s.gridTick (max s.clock t)) ∧
      u.loops[lp].lastStart = some (s.tickClock (s.gridTick (max s.clock t)) + 36000).toNat ∧ u.loops[lp].writes = [] ∧
      u.loops[lp].cfg = some o ∧ u.loops[lp].enabling = false ∧ ∀ k : Fin 64, k ≠ lp → u.loops[k].cfg = s.loops[k].cfg ∧ u.loops[k].mode = s.loops[k].mode) ∧
  (∀ (t : Ns) (lp : Fin 64) (done : Ns) (org : Origin) (o : Bytes) (ph : Nat) (s : State), s.loops[lp].cfg = none → s.loops[lp].pending = some (org, o, ph) → lcEnable o = true → s.up .ctl = true → (s.begin t).loopFirst (s.gridTick (max s.clock t)) lp = true → s.mod.failAt = none → s.tickClock (s.gridTick (max s.clock t)) + 36000 ≤ max s.clock t → Completes (.loopSample t lp done) s fun u =>
      u.loops[lp].cfg = some o ∧ u.loops[lp].phase = ph ∧ u.loops[lp].pending = none ∧ u.loops[lp].enabling = false ∧
      u.loops[lp].samples = s.loops[lp].samples + 1 ∧ ∀ k : Fin 64, k ≠ lp → u.loops[k].cfg = s.loops[k].cfg ∧ u.loops[k].mode = s.loops[k].mode) ∧
  (∀ (t : Ns) (lp : Fin 64) (done : Ns) (o : Bytes) (i : Nat) (rest : List Nat) (s : State), s.loops[lp].cfg = some o → s.loops[lp].pending = none → s.loops[lp].owed = i :: rest → s.up .ctl = true → s.mod.failAt = none → s.loopNext (s.gridTick (max s.clock t)) = none → s.inUnit lp = true → (s.begin t).catchUpBefore lp = false → Completes (.catchUpSample t lp done) s fun u =>
      u.loops[lp].samples = s.loops[lp].samples + 1 ∧ u.loops[lp].catchUps = s.loops[lp].catchUps + 1 ∧
      u.loops[lp].lastStart = some (max s.clock t) ∧ u.loops[lp].lastPoint = some i ∧
      u.loops[lp].owed = (s.begin t).owedAfter (lcPeriod o) i (max (max s.clock t) done) ∧ ∀ k : Fin 64, k ≠ lp → u.loops[k].cfg = s.loops[k].cfg ∧ u.loops[k].mode = s.loops[k].mode) ∧
  (∀ (t : Ns) (lp : Fin 64) (o : Bytes) (i : Nat) (s : State), s.loops[lp].firstLate = some i → s.loops[lp].cfg = some o → s.tickClock (i + lcSlip o * lcPeriod o) + 36000 < max s.clock t → Completes (.loopSlip t lp) s fun u =>
      u.loops[lp].owed = [] ∧ u.loops[lp].firstLate = none ∧ u.loops[lp].slipFlag = true ∧
      u.loops[lp].slips = satAdd 32 s.loops[lp].slips 1 ∧ ∀ k : Fin 64, k ≠ lp → u.loops[k].cfg = s.loops[k].cfg ∧ u.loops[k].mode = s.loops[k].mode) ∧
  (∀ (t : Ns) (org : Origin) (o : Bytes) (lp : Fin 64) (s : State), (s.begin t).Admits org opLoopConfig [.ctl] → o.length = 128 → (s.begin t).loopCheck o = none → lp.val = lcLoop o → Completes (.loopConfig t org o) s fun u =>
      (lcEnable o = true ∨ s.loops[lp].cfg.isSome = true → (u.loops[lp].pending.map fun x => (x.1, x.2.1)) = some (org, o)) ∧
      u.loops[lp].cfg = s.loops[lp].cfg ∧ ∀ k : Fin 64, k ≠ lp → u.loops[k] = s.loops[k]) ∧
  (∀ (t : Ns) (org : Origin) (o : Bytes) (lp : Fin 64) (s : State), (s.begin t).Admits org opLoopCommand [.ctl] → loopCommandFormat o = true → lp.val = rdBits o 0 5 0 → s.loopCommandBad o = false → (∀ w ∈ s.loops[lp].writes, w.org = none) → Completes (.loopCommand t org o) s fun u =>
      u.loops[lp] = { s.loops[lp] with
        writes := s.loops[lp].writes ++ [{ stamp := max s.clock t, fromPrg := false, obj := o, org := some org }],
        lastRequested := if rdBits o 1 0 0 = 1 then LoopMode.ofCode (rdBits o 2 1 0) else s.loops[lp].lastRequested } ∧
      ∀ k : Fin 64, k ≠ lp → u.loops[k] = s.loops[k]) ∧
  (∀ (t : Ns) (org : Origin) (o : Bytes) (g : Fin 8) (s : State), (s.begin t).Admits org opOverrideConfig [.ctl] → o.length = 32 → (s.begin t).overrideCheck o = none → g.val = ocGroup o → Completes (.overrideConfig t org o) s fun u =>
      u.overs[g].cfg = (if ocEnable o then some o else none) ∧ u.overs[g].selected = none ∧ u.overs[g].handingOver = false ∧
      ∀ h : Fin 8, h ≠ g → u.overs[h] = s.overs[h])

/-- TUNE_START, TUNE_STOP, the end of a tuning test and CAPTURE_READ. An admitted TUNE_START of a loop in a mode that the test allows,
with none running and room for the capture, starts the test with an empty buffer. TUNE_STOP asks the test that runs on its loop to
stop. A test whose time is over ends without abort, its injection at 0. CAPTURE_READ answers the bytes asked for from the buffer
and changes nothing else. The readings and choices of the model that this rests on are log entry 38. Rules: R232, R233, R234,
R235, R444. -/
def Obligations.TuningTests : Prop :=
  (∀ (t : Ns) (org : Origin) (o c : Bytes) (lp : Fin 64) (s : State), (s.begin t).Admits org opTuneStart [.ctl] → o.length = 64 → lp.val = tsLoop o → s.loops[lp].cfg = some c → tuneFormat o (lcPeriod c) = true → ((tsOutput o = true → s.loops[lp].mode = .manual ∨ s.loops[lp].mode = .auto) ∧ (tsOutput o = false → s.loops[lp].mode = .auto ∨ s.loops[lp].mode = .cascade)) → s.memberOf lp = none → s.tune.running = none → admitted (costItems (s.loopSet none) (s.groupSet none) (some o)) = true → tuneSamples o (lcPeriod c) * (4 + 4 * tsCount o) ≤ 262144 → Completes (.tuneStart t org o) s fun u =>
      u.tune.running = some (org, o) ∧ u.tune.loop = lp ∧ u.tune.captured = 0 ∧ u.tune.buffer = [] ∧ u.tune.everRun = true) ∧
  (∀ (t : Ns) (org : Origin) (o : Bytes) (s : State), (s.begin t).Admits org opTuneStop [.ctl] → rd o 0 1 ≤ 63 → zeroAt o 1 15 = true → Completes (.tuneStop t org o) s fun u =>
      u.tune = { s.tune with stopReq := s.tune.stopReq || (s.tune.running.isSome && s.tune.loop == Fin.ofNat 64 (rd o 0 1)) }) ∧
  (∀ (t : Ns) (org : Origin) (o : Bytes) (t0 : Ns) (s : State), s.tune.running = some (org, o) → s.tune.t0 = some t0 → s.tune.over o (max s.clock t - t0) = true → Completes (.tuneEnd t) s fun u =>
      u.tune.running = none ∧ u.tune.abort = none ∧ u.tune.inject = 0 ∧ u.tune.endStamp = (s.begin t).now ∧
      u.loops[s.tune.loop].srcChanged = true) ∧
  (∀ (t : Ns) (org : Origin) (p : Bytes) (s : State), (s.begin t).Admits org opCaptureRead [.ctl] → p.length = 16 → rd p 0 4 % 4 = 0 → rd p 4 4 % 4 = 0 → 4 ≤ rd p 4 4 ∧ rd p 4 4 ≤ 262144 → zeroAt p 8 8 = true → s.tune.everRun = true → Completes (.captureRead t org p) s fun u => u = (s.begin t).complete org (.done ((s.tune.buffer.drop (rd p 0 4)).take (rd p 4 4))))

/-- Axis samples, taking a move, slips and step debts. A due sample of a step axis counts, stamps its tick and sets the position to
its plan at that tick. A MOVE_ABS that waits alone in standstill is taken: the axis moves, its target is the rounded target of the
command, and its result is 0. An axis later than its slip limit drops what it owes and counts a slip. A step debt that lasts 20 ms
is a fault with the position unverified. Other axes keep their state. The readings and choices of the model that this rests on are
log entries 40, 41. Rules: R230, R240, R264, R272, R393. -/
def Obligations.AxisSamples : Prop :=
  (∀ (t : Ns) (ax : Fin 16) (done : Ns) (o : Bytes) (s : State), s.axes[ax].cfg = some o → s.axes[ax].pendCfg = none → axServo o = false → s.up .mot = true → s.mod.failAt = none → s.axes[ax].owed = [] → onGrid (acPeriod o) s.axes[ax].phase (s.gridTick (max s.clock t)) = true → (s.axes[ax].lastPoint = none ∨ ∃ j, s.axes[ax].lastPoint = some j ∧ j < s.gridTick (max s.clock t)) → s.time.gridFloor < s.gridTick (max s.clock t) → s.tickClock (s.gridTick (max s.clock t)) + 36000 ≤ max s.clock t → Completes (.axisSample t ax done) s fun u =>
      u.axes[ax].samples = s.axes[ax].samples + 1 ∧ u.axes[ax].lastPoint = some (s.gridTick (max s.clock t)) ∧
      u.axes[ax].cmds = (s.axes[ax].cmds.filter fun x => decide ((s.tickClock (s.gridTick (max s.clock t)) + 36000).toNat < x.stamp)) ∧
      u.axes[ax].cfg = some o ∧ u.axes[ax].stamp = s.tickClock (s.gridTick (max s.clock t)) + s.time.ringOff ∧
      (u.axes[ax].state ≠ .tracking → u.axes[ax].pos = qRound (u.axes[ax].plan.at (s.tickClock (s.gridTick (max s.clock t)))).1) ∧ ∀ k : Fin 16, k ≠ ax → u.axes[k] = s.axes[k]) ∧
  (∀ (t : Ns) (ax : Fin 16) (done : Ns) (o : Bytes) (x : AxisCmd) (s : State), s.axes[ax].cfg = some o → s.axes[ax].pendCfg = none → axServo o = false → s.up .mot = true → s.mod.failAt = none → s.axes[ax].owed = [] → onGrid (acPeriod o) s.axes[ax].phase (s.gridTick (max s.clock t)) = true → (s.axes[ax].lastPoint = none ∨ ∃ j, s.axes[ax].lastPoint = some j ∧ j < s.gridTick (max s.clock t)) → s.time.gridFloor < s.gridTick (max s.clock t) → s.tickClock (s.gridTick (max s.clock t)) + 36000 ≤ max s.clock t → s.axisLaneBad o = false → s.tracks ax o = false → s.axes[ax].state = .standstill → s.axes[ax].limitPending = false → s.axes[ax].cmds = [x] → x.stamp ≤ (s.tickClock (s.gridTick (max s.clock t)) + 36000).toNat → cmCommand x.obj = 1 → axisCommandOk o x.obj = true → acSoft o = false → Completes (.axisSample t ax done) s fun u =>
      u.axes[ax].state = .moving ∧ u.axes[ax].target = qRound (cmTarget x.obj) ∧ u.axes[ax].plan.final = qRound (cmTarget x.obj) ∧
      u.axes[ax].lastSeq = cmSeq x.obj ∧ u.axes[ax].lastResult = 0 ∧ ∀ k : Fin 16, k ≠ ax → u.axes[k] = s.axes[k]) ∧
  (∀ (t : Ns) (ax : Fin 16) (o : Bytes) (i : Nat) (s : State), s.axes[ax].firstLate = some i → s.axes[ax].cfg = some o → s.tickClock (i + acSlip o * acPeriod o) + 36000 < max s.clock t → Completes (.axisSlip t ax) s fun u =>
      u.axes[ax] = { s.axes[ax] with owed := [], firstLate := none, slipFlag := true, slips := satAdd 32 s.axes[ax].slips 1 } ∧ ∀ k : Fin 16, k ≠ ax → u.axes[k] = s.axes[k]) ∧
  (∀ (t : Ns) (ax : Fin 16) (o : Bytes) (d : Ns) (s : State), s.axes[ax].cfg = some o → s.axes[ax].step.debtSince = some d → s.axes[ax].step.debt ≠ 0 → d + 20000000 ≤ max s.clock t → s.axes[ax].state ≠ .disabled → Completes (.stepDebtTimeout t ax) s fun u =>
      u.axes[ax].state = .fault ∧ u.axes[ax].posUnverified = true ∧ u.axes[ax].step = s.axes[ax].step ∧ ∀ k : Fin 16, k ≠ ax → u.axes[k] = s.axes[k])

/-- AXIS_CONFIG, the eight axis commands and TABLE_LOAD. An admitted AXIS_CONFIG waits for the next sample and changes nothing else.
Each of MOVE_ABS, MOVE_REL, RUN_TABLE, STOP, QUICK_STOP, SET_POSITION, SET_LIMITS and RESET_FAULT to a configured axis with no
waiting command joins its commands with its stamp. TABLE_LOAD within the limits of its axis and of the pool stores the table; one
for a table that runs stores nothing. Other axes keep their state. The readings and choices of the model that this rests on are
log entry 40. Rules: R242, R244, R246, R247, R248, R250, R251, R252, R254, R256, R257. -/
def Obligations.AxisCommands : Prop :=
  (∀ (t : Ns) (org : Origin) (o : Bytes) (ax : Fin 16) (s : State), (s.begin t).Admits org opAxisConfig [.mot] → o.length = 128 → (s.begin t).axisCheck o = none → ax = acAxis o → (acEnable o = true ∨ s.axes[ax].cfg.isSome = true) → Completes (.axisConfig t org o) s fun u =>
      (u.axes[ax].pendCfg.map fun x => (x.1, x.2.1)) = some (org, o) ∧ u.axes[ax].cfg = s.axes[ax].cfg ∧
      u.axes[ax].state = s.axes[ax].state ∧ ∀ k : Fin 16, k ≠ ax → u.axes[k] = s.axes[k]) ∧
  (∀ (t : Ns) (org : Origin) (o : Bytes) (ax : Fin 16) (s : State), (s.begin t).Admits org opAxisCommand [.mot] → o.length = 64 → cmCommand o = 1 → ax = cmAxis o → (∀ x ∈ s.axes[ax].cmds, x.org = none) → s.axes[ax].cfg.isSome = true → Completes (.moveAbs t org o) s fun u =>
      u.axes[ax] = { s.axes[ax] with
        cmds := s.axes[ax].cmds ++ [{ stamp := max s.clock t, fromPrg := false, obj := o, org := some org }] } ∧ ∀ k : Fin 16, k ≠ ax → u.axes[k] = s.axes[k]) ∧
  (∀ (t : Ns) (org : Origin) (o : Bytes) (ax : Fin 16) (s : State), (s.begin t).Admits org opAxisCommand [.mot] → o.length = 64 → cmCommand o = 2 → ax = cmAxis o → (∀ x ∈ s.axes[ax].cmds, x.org = none) → s.axes[ax].cfg.isSome = true → Completes (.moveRel t org o) s fun u =>
      u.axes[ax] = { s.axes[ax] with
        cmds := s.axes[ax].cmds ++ [{ stamp := max s.clock t, fromPrg := false, obj := o, org := some org }] } ∧ ∀ k : Fin 16, k ≠ ax → u.axes[k] = s.axes[k]) ∧
  (∀ (t : Ns) (org : Origin) (o : Bytes) (ax : Fin 16) (s : State), (s.begin t).Admits org opAxisCommand [.mot] → o.length = 64 → cmCommand o = 3 → ax = cmAxis o → (∀ x ∈ s.axes[ax].cmds, x.org = none) → s.axes[ax].cfg.isSome = true → Completes (.runTable t org o) s fun u =>
      u.axes[ax] = { s.axes[ax] with
        cmds := s.axes[ax].cmds ++ [{ stamp := max s.clock t, fromPrg := false, obj := o, org := some org }] } ∧ ∀ k : Fin 16, k ≠ ax → u.axes[k] = s.axes[k]) ∧
  (∀ (t : Ns) (org : Origin) (o : Bytes) (ax : Fin 16) (s : State), (s.begin t).Admits org opAxisCommand [.mot] → o.length = 64 → cmCommand o = 4 → ax = cmAxis o → (∀ x ∈ s.axes[ax].cmds, x.org = none) → s.axes[ax].cfg.isSome = true → Completes (.axisStop t org o) s fun u =>
      u.axes[ax] = { s.axes[ax] with
        cmds := s.axes[ax].cmds ++ [{ stamp := max s.clock t, fromPrg := false, obj := o, org := some org }] } ∧ ∀ k : Fin 16, k ≠ ax → u.axes[k] = s.axes[k]) ∧
  (∀ (t : Ns) (org : Origin) (o : Bytes) (ax : Fin 16) (s : State), (s.begin t).Admits org opAxisCommand [.mot] → o.length = 64 → cmCommand o = 5 → ax = cmAxis o → (∀ x ∈ s.axes[ax].cmds, x.org = none) → s.axes[ax].cfg.isSome = true → Completes (.quickStop t org o) s fun u =>
      u.axes[ax] = { s.axes[ax] with
        cmds := s.axes[ax].cmds ++ [{ stamp := max s.clock t, fromPrg := false, obj := o, org := some org }] } ∧ ∀ k : Fin 16, k ≠ ax → u.axes[k] = s.axes[k]) ∧
  (∀ (t : Ns) (org : Origin) (o : Bytes) (ax : Fin 16) (s : State), (s.begin t).Admits org opAxisCommand [.mot] → o.length = 64 → cmCommand o = 6 → ax = cmAxis o → (∀ x ∈ s.axes[ax].cmds, x.org = none) → s.axes[ax].cfg.isSome = true → Completes (.setPosition t org o) s fun u =>
      u.axes[ax] = { s.axes[ax] with
        cmds := s.axes[ax].cmds ++ [{ stamp := max s.clock t, fromPrg := false, obj := o, org := some org }] } ∧ ∀ k : Fin 16, k ≠ ax → u.axes[k] = s.axes[k]) ∧
  (∀ (t : Ns) (org : Origin) (o : Bytes) (ax : Fin 16) (s : State), (s.begin t).Admits org opAxisCommand [.mot] → o.length = 64 → cmCommand o = 7 → ax = cmAxis o → (∀ x ∈ s.axes[ax].cmds, x.org = none) → s.axes[ax].cfg.isSome = true → Completes (.setLimits t org o) s fun u =>
      u.axes[ax] = { s.axes[ax] with
        cmds := s.axes[ax].cmds ++ [{ stamp := max s.clock t, fromPrg := false, obj := o, org := some org }] } ∧ ∀ k : Fin 16, k ≠ ax → u.axes[k] = s.axes[k]) ∧
  (∀ (t : Ns) (org : Origin) (o : Bytes) (ax : Fin 16) (s : State), (s.begin t).Admits org opAxisCommand [.mot] → o.length = 64 → cmCommand o = 8 → ax = cmAxis o → (∀ x ∈ s.axes[ax].cmds, x.org = none) → s.axes[ax].cfg.isSome = true → Completes (.resetFault t org o) s fun u =>
      u.axes[ax] = { s.axes[ax] with
        cmds := s.axes[ax].cmds ++ [{ stamp := max s.clock t, fromPrg := false, obj := o, org := some org }] } ∧ ∀ k : Fin 16, k ≠ ax → u.axes[k] = s.axes[k]) ∧
  (∀ (t : Ns) (org : Origin) (o c : Bytes) (s : State), (s.begin t).Admits org opTableLoad [.mot] → tableFormat o = true → s.axes[Fin.ofNat 16 (tlAxis o)].cfg = some c → (∀ k : Fin 16, ∀ r, s.axes[k].run = some r → r.index ≠ Fin.ofNat 256 (tlIndex o)) → s.tablePending org (tlIndex o % 256) = false → s.poolUsed (some (Fin.ofNat 256 (tlIndex o))) + tlCount o ≤ 32768 → tableExceeds o (acPeriod c) (acV c) (acA c) (acD c) = none → Completes (.tableLoad t org o) s fun u =>
      u.tables = s.tables.set (Fin.ofNat 256 (tlIndex o)) (some { obj := o }) ∧ u.axes = s.axes) ∧
  (∀ (t : Ns) (org : Origin) (o : Bytes) (s : State), (s.begin t).Admits org opTableLoad [.mot] → tableFormat o = true → s.axes[Fin.ofNat 16 (tlAxis o)].cfg.isSome = true → (∃ k : Fin 16, (s.axes[k].run.map (·.index)) = some (Fin.ofNat 256 (tlIndex o))) → Completes (.tableLoad t org o) s fun u => u.tables = s.tables ∧ u.axes = s.axes)

/-- A safety cycle releases its outputs, or both channels differ and the island takes its fault. With equal channels, good clocks and
no step of time, a safety cycle takes its cycle number, adds both cycle lengths to the history, and holds the outputs of the
functions ready for release. With a difference between the channels the island takes its compare fault: every active function is
in island fault, every channel of a safety group is safe-off, SDO permits and demands go, and the disconnect switches of safety
groups open. The readings and choices of the model that this rests on are log entry 42. Rules: R276, R278. -/
def Obligations.SafetyCycle : Prop :=
  (∀ (t : Ns) (lenA lenB : Rat) (s : State), s.up .saf = true → s.saf.cycle ≠ ((s.begin t).now / 1000000).toNat → 40000 ≤ (s.begin t).now % 1000000 → (s.begin t).now % 1000000 < 50000 → s.mod.failAt = none → s.saf.fault = none → s.time.stepped = false → clockFault ((offTime lenA :: s.saf.historyA).take 10) = false → clockFault ((offTime lenB :: s.saf.historyB).take 10) = false → Completes (.safetyCycle t true lenA lenB true true) s fun u =>
      u.saf.cycle = ((s.begin t).now / 1000000).toNat ∧ u.saf.fault = none ∧ u.saf.activate = none ∧ u.saf.firstCycle = false ∧ u.saf.tMraise = none ∧
      u.saf.historyA = (offTime lenA :: s.saf.historyA).take 10 ∧ SafCommanded u) ∧
  (∀ (t : Ns) (lenA lenB : Rat) (inA inB : Bool) (s : State), s.up .saf = true → s.saf.cycle ≠ ((s.begin t).now / 1000000).toNat → 40000 ≤ (s.begin t).now % 1000000 → (s.begin t).now % 1000000 < 50000 → s.mod.failAt = none → s.saf.fault = none → Completes (.safetyCycle t false lenA lenB inA inB) s fun u =>
      u.saf.fault = some .compare ∧ (∀ sf : Fin 48, s.saf.fns[sf].state.active = true → u.saf.fns[sf].state = .islandFault) ∧
      (∀ c : Fin 128, s.safetyGroup (grp c) = true → u.chans[c].safOff = true ∧
        (s.mode c = .sdo → u.chans[c].permit = false ∧ u.chans[c].demand.on = false)) ∧
      ∀ g : Fin 8, s.safetyGroup g = true → u.groups[g].discCmd = true)

/-- Discrepancy, reset button, feedback, input faults, supply, reclose tests and permits. A discrepancy past its limit and a missing
feedback lock the function with their causes. A reset held 3 s is logged once. A settled input fault and a settled supply remove
their causes. A reclose test with all SDOs off frees the functions it was for, and with one on opens the switch for the function
again; its grace round ends after two rounds. A permit not renewed for 2 ms ends. The commands that wait for release are those of
the states, and the first cut-off from their instant on gives them to channels and switches. The readings and choices of the model
that this rests on are log entries 44, 45. Rules: R279, R292, R294, R297, R299, R300, R617. -/
def Obligations.SafetyFunctions : Prop :=
  (∀ (t : Ns) (sf : Fin 48) (p : Fin 4) (limit : Int) (s : State), s.safLive = true → s.saf.fns[sf].state.active = true → (s.begin t).discrepant sf p = some limit → s.saf.fns[sf].causes.contains (.discrepancy p (follower (s.sfEntry sf) p.val s.saf.fns[sf].pairs[p].firstIsA)) = false → Completes (.discrepancy t sf p []) s fun u =>
      u.saf.fns[sf].state = .locked ∧
      u.saf.fns[sf].causes = s.saf.fns[sf].causes ++ [.discrepancy p (follower (s.sfEntry sf) p.val s.saf.fns[sf].pairs[p].firstIsA)] ∧
      SafCommanded u ∧ ∀ k : Fin 48, k ≠ sf → u.saf.fns[k].state = s.saf.fns[k].state) ∧
  (∀ (t : Ns) (sf : Fin 48) (p : Int) (s : State), s.safLive = true → s.saf.fns[sf].button.pressStart = some p → s.saf.fns[sf].button.heldLogged = false → p + 3000000000 < (s.begin t).now → Completes (.resetHeld t sf) s fun u =>
      u.saf.fns[sf] = { s.saf.fns[sf] with button := { s.saf.fns[sf].button with
        heldLogged := true, held := satAdd 32 s.saf.fns[sf].button.held 1, lastResult := 4 } } ∧ ∀ k : Fin 48, k ≠ sf → u.saf.fns[k] = s.saf.fns[k]) ∧
  (∀ (t : Ns) (sf : Fin 48) (t0 : Ns) (s : State), s.safLive = true → s.saf.fns[sf].state.active = true → s.saf.fns[sf].offSince = some t0 → sfFb (s.sfEntry sf) ≠ 0xFF → s.saf.fns[sf].outCmd = false → s.saf.fns[sf].fbReached = false → (t0 : Int) + s.time.ringOff + 1000000 * sfFbTime (s.sfEntry sf) < 1000000 * s.saf.cycle → s.saf.fns[sf].causes.contains .stoFeedback = false → Completes (.stoFeedback t sf) s fun u =>
      u.saf.fns[sf].state = .locked ∧ u.saf.fns[sf].causes = s.saf.fns[sf].causes ++ [.stoFeedback] ∧ SafCommanded u ∧ ∀ k : Fin 48, k ≠ sf → u.saf.fns[k].state = s.saf.fns[k].state) ∧
  (∀ (t : Ns) (ch : Fin 64) (s : State), s.safLive = true → s.saf.chans[ch].faulted = false → held (max s.clock t) s.saf.chans[ch].freeSince 1000000000 = true → Completes (.inputFaultSettled t ch) s fun u =>
      u.saf.chans = s.saf.chans ∧ ∀ sf : Fin 48,
        ((∀ p : Fin 4, s.saf.fns[sf].pairs[p].aDemand = false ∧ s.saf.fns[sf].pairs[p].bDemand = false) →
          u.saf.fns[sf].causes.contains (.inputFault ch) = false) ∧
        (s.saf.fns[sf].causes.contains (.inputFault ch) = false → u.saf.fns[sf] = s.saf.fns[sf])) ∧
  (∀ (t : Ns) (g : Fin 8) (s : State), s.safLive = true → held (max s.clock t) s.saf.supplySince[g] 1000000000 = true → (s.groups[g].supply = .ok ∨ s.groups[g].supply = .low) → Completes (.supplySettled t g) s fun u =>
      u.saf.highOpen[g] = false ∧ (∀ sf : Fin 48, u.saf.fns[sf].causes = s.saf.fns[sf].causes.filter fun c => c != .supply g) ∧ SafCommanded u) ∧
  (∀ (t : Ns) (g : Fin 8) (due : Ns) (s : State), s.safLive = true → s.saf.groupReclose[g] = .checking due → due ≤ max s.clock t → (s.sdosOf g).any (fun c => s.chans[c].sample.outRb) = false → Completes (.recloseCheck t g) s fun u =>
      u.saf.groupReclose[g] = .idle ∧ u.saf.testFor[g] = [] ∧ u.saf.grace[g] = some (s.pulseRound + 2) ∧
      u.saf.stuckBy = s.saf.stuckBy ∧
      ∀ sf : Fin 48, s.saf.testFor[g].contains sf = true → s.outIn sf g = true → s.saf.fns[sf].state = .locked →
        s.saf.fns[sf].causes = [.outputStuck g] → u.saf.fns[sf].state = .run) ∧
  (∀ (t : Ns) (g : Fin 8) (due : Ns) (sf : Fin 48) (rest : List (Fin 48)) (s : State), s.safLive = true → s.saf.groupReclose[g] = .checking due → due ≤ max s.clock t → (s.sdosOf g).any (fun c => s.chans[c].sample.outRb) = true → s.saf.testFor[g] = sf :: rest → Completes (.recloseCheck t g) s fun u =>
      u.saf.groupReclose[g] = .idle ∧ u.saf.testFor[g] = [] ∧ u.saf.stuckBy[g] = some sf ∧
      (u.saf.release.map fun c => (c.discs[g], c.discFor[g])) = some (true, some sf) ∧ ∀ k : Fin 48, u.saf.fns[k].state = s.saf.fns[k].state) ∧
  (∀ (t : Ns) (g : Fin 8) (r : Nat) (s : State), s.safLive = true → s.saf.grace[g] = some r → r ≤ s.pulseRound → Completes (.recloseRoundCheck t g) s fun u =>
      u.saf.grace[g] = none ∧ (∀ x ∈ u.saf.ignored, grp x.1 ≠ g) ∧ SafCommanded u) ∧
  (∀ (t : Ns) (c : SafCmd) (s : State), s.saf.release = some c → c.due ≤ max s.clock t → Completes (.outputCutoff t) s fun u =>
      u.saf.release = none ∧ (∀ ch : Fin 128, s.safetyGroup (grp ch) = true → u.chans[ch].safOff = c.ovr.contains ch.val ∧
        (s.mode ch = .sdo → s.owner ch = .saf → u.chans[ch].permit = c.on.contains ch.val)) ∧
      ∀ g : Fin 8, u.groups[g].discCmd = c.discs[g] ∧ u.groups[g].discFor = c.discFor[g]) ∧
  (∀ (t : Ns) (ch : Fin 128) (s : State), s.chans[ch].permit = true → (s.begin t).due .tim s.chans[ch].permitStamp 2000000 ≤ max s.clock t → Completes (.permitTimeout t ch) s fun u =>
      u.chans[ch] = { s.chans[ch] with permit := false } ∧ ∀ j : Fin 128, j ≠ ch → u.chans[j] = s.chans[j])

/-- SAFETY_CONFIG, SAFETY_CONFIRM, safety frames, their watchdog, and island faults. An admitted SAFETY_CONFIG that passes its checks
waits for its confirmation and leaves the one in force. SAFETY_CONFIRM with its identity and CRC activates it at the next cycle. A
good next frame of a connection updates its state, valid bits, sequence number and instant; a bad CRC only counts. A connection
without frames for its watchdog is lost and counts. A reference deviation above 2 %, a memory error and a supply fault each give
the island its fault: active functions stop, channels of safety groups are safe-off and SDO permits go. The readings and choices
of the model that this rests on are log entries 43, 46. Rules: R281, R287, R288, R304, R305, R314, R318, R350. -/
def Obligations.SafetyConfigurationAndFaults : Prop :=
  (∀ (t : Ns) (org : Origin) (o : Bytes) (s : State), (s.begin t).Admits org opSafetyConfig [.saf] → 32 ≤ o.length ∧ o.length ≤ 4128 → s.saf.activate = none → s.safPending org = false → (s.begin t).safetyCheck o = none → s.overCapacity s.nextRing (s.ring.stations.map Station.next) o = false → (s.begin t).storeOverflow (BitVec.ofNat 16 opSafetyConfig) 0 o = false → Completes (.safetyConfig t org o) s fun u =>
      u.saf.pendingCfg = some o ∧ u.saf.cfg = s.saf.cfg ∧ u.saf.fns = s.saf.fns) ∧
  (∀ (t : Ns) (org : Origin) (p o : Bytes) (s : State), (s.begin t).Admits org opSafetyConfirm [.saf] → s.saf.fault = none → s.saf.pendingCfg = some o → rd p 0 4 = safId o → rd p 4 4 = safCrc o → Completes (.safetyConfirm t org p) s fun u => u.saf = { s.saf with activate := some (org, o), pendingCfg := none }) ∧
  (∀ (t ingress : Ns) (b f e : Bytes) (i : Fin 32) (last : BitVec 16) (s : State), s.safLive = true → s.node ≠ 0 → fClass b = clsCyclic → fSubtype b = 3 → pcrcGood b = true → s.shut b = false → containerFrames (fPayload b) = [f] → (s.saf.cfg.bind fun o => (safConnEntries o).find? fun x => !cnProduces x && cnId x = sfrId f) = some e → i.val = cnIndex e → sfrGood (cnSeal e) f = true → s.saf.conns[i].state = .active → s.saf.conns[i].seqLast = some last → s.seqNext last (sfrSeq f) = true → sfrFailsafe f = false → Completes (.safetyContainer t ingress b true) s fun u =>
      u.saf.conns[i].state = .active ∧ u.saf.conns[i].seqLast = some (sfrSeq f) ∧ u.saf.conns[i].stateBits = sfrState f ∧
      u.saf.conns[i].validBits = sfrValid f ∧ u.saf.conns[i].lastIngress = some ingress ∧
      ∀ j : Fin 32, j ≠ i → u.saf.conns[j] = s.saf.conns[j]) ∧
  (∀ (t ingress : Ns) (b f e : Bytes) (i : Fin 32) (s : State), s.safLive = true → s.node ≠ 0 → fClass b = clsCyclic → fSubtype b = 3 → pcrcGood b = true → s.shut b = false → containerFrames (fPayload b) = [f] → (s.saf.cfg.bind fun o => (safConnEntries o).find? fun x => !cnProduces x && cnId x = sfrId f) = some e → i.val = cnIndex e → sfrGood (cnSeal e) f = false → Completes (.safetyContainer t ingress b true) s fun u =>
      u.saf.conns[i] = { s.saf.conns[i] with crcErr := satAdd 32 s.saf.conns[i].crcErr 1 } ∧
      ∀ j : Fin 32, j ≠ i → u.saf.conns[j] = s.saf.conns[j]) ∧
  (∀ (t : Ns) (conn : Fin 32) (d : Ns) (s : State), s.safLive = true → (s.begin t).connDeadline conn = some d → d ≤ max s.clock t → Completes (.safetyFrameWatchdog t conn []) s fun u =>
      u.saf.conns[conn].state = .lost ∧ u.saf.conns[conn].expiries = satAdd 32 s.saf.conns[conn].expiries 1 ∧
      u.saf.conns[conn].seqLast = none ∧ ∀ j : Fin 32, j ≠ conn → u.saf.conns[j] = s.saf.conns[j]) ∧
  (∀ (t : Ns) (d : Rat) (s : State), s.up .saf = true → s.saf.fault = none → 2 < absR d → Completes (.safReferenceCheck t d) s fun u =>
      u.saf.fault = some .reference ∧ (∀ sf : Fin 48, s.saf.fns[sf].state.active = true → u.saf.fns[sf].state = .islandFault) ∧
      ∀ c : Fin 128, s.safetyGroup (grp c) = true → u.chans[c].safOff = true ∧ (s.mode c = .sdo → u.chans[c].permit = false)) ∧
  (∀ (t : Ns) (s : State), s.saf.fault = none → Completes (.safMemoryError t) s fun u =>
      u.saf.fault = some .memory ∧ (∀ sf : Fin 48, s.saf.fns[sf].state.active = true → u.saf.fns[sf].state = .islandFault) ∧
      ∀ c : Fin 128, s.safetyGroup (grp c) = true → u.chans[c].safOff = true ∧ (s.mode c = .sdo → u.chans[c].permit = false)) ∧
  (∀ (t : Ns) (s : State), s.saf.fault = none → Completes (.safSupplyFault t) s fun u =>
      u.saf.fault = some .supply ∧ (∀ sf : Fin 48, s.saf.fns[sf].state.active = true → u.saf.fns[sf].state = .islandFault) ∧
      ∀ c : Fin 128, s.safetyGroup (grp c) = true → u.chans[c].safOff = true ∧ (s.mode c = .sdo → u.chans[c].permit = false))

/-- Link changes, forwarded, duplicate and own frames, and the sending of an acyclic frame. A link up or down sets the state of its
port and counts losses; a loss of port L in a pair loses the partner. A good frame for another node goes out of the one port it is
forwarded to, counts there and is remembered; a frame already remembered is counted as a duplicate and not forwarded; an own frame
is counted and dropped. The first acyclic frame that is ready goes out on the ports that are up with the next ring sequence
number. Other ports keep their state at a link change. The readings and choices of the model that this rests on are log entries
47, 51. Rules: R320, R321, R324, R329, R333, R335, R336, R340, R342, R362, R371, R372. -/
def Obligations.RingFrames : Prop :=
  (∀ (t : Ns) (p : Port) (gig : Bool) (s : State), s.portOff p = false → Completes (.linkUp t p gig) s fun u =>
      (u.port p).link = .up ∧ (u.port p).gigabit = (gig && !s.forcedSlow p) ∧ (u.port p).linkEvents = (s.port p).linkEvents ∧ ∀ q : Port, q ≠ p → u.port q = s.port q) ∧
  (∀ (t : Ns) (p : Port) (neg : Bool) (s : State), (s.port p).link = .up → Completes (.linkDown t p neg) s fun u =>
      (u.port p).link = (if neg && !s.portOff p then .negFail else .down) ∧ (u.port p).linkEvents = satAdd 32 (s.port p).linkEvents 1 ∧
      (p = .l → s.isPair = true → u.pair.partner.lost = true ∧ u.pair.barrier.partnerLive = false) ∧ ∀ q : Port, q ≠ p → u.port q = s.port q) ∧
  (∀ (t : Ns) (p q : Port) (ingress : Ns) (w : WireFrame) (s : State), s.up .rng = true → (s.port p).link = .up → w.length ≤ 1518 → w.etherType ≠ 0x88F7 → w.etherType = s.ringType → 20 ≤ w.bytes.length → (p == .l && s.isPair) = false → (fClass w.bytes = 1 ∨ fClass w.bytes = 2 ∨ fClass w.bytes = 3) → fHops w.bytes ≠ 255 → s.forwardPorts p w.bytes = [q] → s.ownFrame w.bytes = false → s.ring.entry w.bytes = none → w.fcsGood = true → (s.node = 0 ∨ fDest w.bytes ≠ s.node) → s.adopts w.bytes = false → (s.port q).link = .up → (fClass w.bytes == clsCyclic && s.locked && s.ring.windowEnded) = false → Completes (.frameReceive t p ingress w) s fun u =>
      u.out = [.forwarded q (forwardedFrame (s.begin t).now w)] ∧ (u.port q).txForwarded = satAdd 32 (s.port q).txForwarded 1 ∧
      ((u.ring.entry w.bytes).bind fun d => d.find (fSeq w.bytes)).isSome = true) ∧
  (∀ (t : Ns) (p : Port) (ingress : Ns) (w : WireFrame) (d : DiscardSrc) (r : SeqRec) (s : State), s.up .rng = true → (s.port p).link = .up → w.length ≤ 1518 → w.etherType ≠ 0x88F7 → w.etherType = s.ringType → 20 ≤ w.bytes.length → (p == .l && s.isPair) = false → (fClass w.bytes = 1 ∨ fClass w.bytes = 2 ∨ fClass w.bytes = 3) → fHops w.bytes ≠ 255 → s.ownFrame w.bytes = false → s.ring.entry w.bytes = some d → d.find (fSeq w.bytes) = some r → Completes (.frameReceive t p ingress w) s fun u =>
      (u.out.all fun e => match e with | .forwarded _ _ => false | _ => true) = true ∧ (u.port p).duplicate = satAdd 32 (s.port p).duplicate 1 ∧
      u.ring.discard.map (fun x => (x.source, x.epoch, x.newest, x.recs)) = s.ring.discard.map fun x => (x.source, x.epoch, x.newest, x.recs)) ∧
  (∀ (t : Ns) (p : Port) (ingress : Ns) (w : WireFrame) (s : State), s.up .rng = true → (s.port p).link = .up → w.length ≤ 1518 → w.etherType ≠ 0x88F7 → w.etherType = s.ringType → 20 ≤ w.bytes.length → (p == .l && s.isPair) = false → (fClass w.bytes = 1 ∨ fClass w.bytes = 2 ∨ fClass w.bytes = 3) → fHops w.bytes ≠ 255 → s.ownFrame w.bytes = true → Completes (.frameReceive t p ingress w) s fun u =>
      u.out = [] ∧ (u.port p).own = satAdd 32 (s.port p).own 1 ∧ u.ring.discard = s.ring.discard) ∧
  (∀ (t : Ns) (a : AcyFrame) (rest : List AcyFrame) (s : State), s.up .rng = true → s.node ≠ 0 → takeFirst (s.begin t).acyReady s.ring.acyclic = some (a, rest) → a.port = none → a.seq = none → s.acyPair a = false → s.portsUp ringPorts ≠ [] → Completes (.acyclicSend t) s fun u =>
      u.ring.acyclic = rest ∧ u.ring.seq = s.ring.seq + 1 ∧
      u.out = [.frame (s.portsUp ringPorts) (mkBroluma s.node s.ring.seq clsAcyclic s.ring.epoch.toNat false a.subtype.toNat a.dest
        (s.begin t).now a.payload)])

/-- A bus cycle start takes its number and pending configurations; the end of the window swaps the images. A new bus cycle takes its
number from ring time, its start, and every pending ring, image map and branch configuration; a pending RING_CONFIG comes into
force there and otherwise the configuration stays. The end of the cyclic window swaps the input image of every station. The
readings and choices of the model that this rests on are log entry 48. Rules: R323, R334, R339, R344, R348, R350, R368, R370,
R375. -/
def Obligations.BusCycle : Prop :=
  (∀ (t : Ns) (s : State), s.up .rng = true → ((s.begin t).now / (max 1 s.tBus : Nat)).toNat ≠ s.ring.busCycle → s.ring.cfgPending = none → Completes (.busCycleStart t) s fun u =>
      u.ring.busCycle = ((s.begin t).now / (max 1 s.tBus : Nat)).toNat ∧ u.ring.cfg = s.ring.cfg ∧
      u.ring.busStart = ((u.ring.busCycle : Int) * s.tBus - s.time.ringOff).toNat ∧
      u.ring.io.mapPending = none ∧ u.ring.branchPending = none) ∧
  (∀ (t : Ns) (org : Origin) (o : Bytes) (s : State), s.up .rng = true → ((s.begin t).now / (max 1 s.tBus : Nat)).toNat ≠ s.ring.busCycle → s.ring.cfgPending = some (org, o) → Completes (.busCycleStart t) s fun u => u.ring.cfg = ringCfgOf o ∧ u.ring.cfgPending = none ∧ u.ring.configured = true) ∧
  (∀ (t : Ns) (s : State), s.ring.windowEnded = false → s.ring.busStart + s.ring.cfg.windowNs ≤ max s.clock t → Completes (.windowEnd t) s fun u =>
      u.ring.windowEnded = true ∧ u.ring.stations = s.ring.stations.map (Station.swap s.ring.busCycle))

/-- Input and output images, the taking of an output image, and the station and I/O station watchdogs. A good input image in the
window goes to the back buffer of its station, is counted and stamped; one after the window only counts as late. A good output
image is kept with its live bit, live after two cycles with it; one outside the window is counted late. At its instant an I/O
station gives the words of a live image to the channels owned by RING, and other channels keep their demand. A station not heard
within its watchdog goes down and is reported to an active program; an I/O station not heard substitutes its RING channels that
are not fresh. The readings and choices of the model that this rests on are log entries 47, 49. Rules: R40, R42, R157, R159, R344,
R345, R346, R347, R348, R371. -/
def Obligations.RemoteImages : Prop :=
  (∀ (t ingress : Ns) (f : Bytes) (x : Station) (s : State), s.up .rng = true → s.sums = true → fClass f = clsCyclic → fSubtype f = 2 → s.ring.stations.find? (fun x => stImages x.obj && stNode x.obj == fSource f) = some x → s.station? x.index = some x → pcrcGood f = true → s.node ≠ 0 → (fDest f = s.node ∨ (s.isPair = true ∧ s.pair.cfg.isSome = true ∧ fDest f = s.pairAddr)) → imWords f = stIn x.obj → fLength f = stInLen x.obj → s.inWindow ingress f = true → Completes (.inputImage t ingress f) s fun u =>
      (u.station? x.index).map (fun y => (y.accepted, y.lastIngress, y.lastBus, y.back)) =
        some (satAdd 32 x.accepted 1, some ingress, s.ring.busCycle,
          some { busCycle := s.ring.busCycle, header := imHeader f, words := imData f, quals := imQuals f }) ∧ ∀ k : Nat, k ≠ x.index → u.station? k = s.station? k) ∧
  (∀ (t ingress : Ns) (f : Bytes) (x : Station) (s : State), s.up .rng = true → s.sums = true → fClass f = clsCyclic → fSubtype f = 2 → s.ring.stations.find? (fun x => stImages x.obj && stNode x.obj == fSource f) = some x → s.station? x.index = some x → pcrcGood f = true → s.node ≠ 0 → (fDest f = s.node ∨ (s.isPair = true ∧ s.pair.cfg.isSome = true ∧ fDest f = s.pairAddr)) → imWords f = stIn x.obj → fLength f = stInLen x.obj → s.inWindow ingress f = false → Completes (.inputImage t ingress f) s fun u =>
      u.station? x.index = some { x with late := satAdd 32 x.late 1 } ∧ ∀ k : Nat, k ≠ x.index → u.station? k = s.station? k) ∧
  (∀ (t ingress : Ns) (f o : Bytes) (s : State), s.up .rng = true → s.role = some .iostation → fClass f = clsCyclic → fSubtype f = 1 → s.node ≠ 0 → fDest f = s.node → s.ring.cfg.master ≠ 0 → fSource f = s.ring.cfg.master → s.shut f = false → pcrcGood f = true → s.ring.io.imageMap = some o → imWords f = mapOut o → fLength f = 8 + 4 * mapOut o → s.inWindow ingress f = true → Completes (.outputImage t ingress f) s fun u =>
      u.ring.io.image = some (s.ring.busCycle, imHeader f, imData f) ∧ u.ring.io.lastIngress = some ingress ∧
      (imLive f = true → u.ring.io.liveBus = some s.ring.busCycle ∧ u.ring.io.clearRun = 0 ∧
        (s.ring.io.liveBus = some (s.ring.busCycle - 1) → s.ring.busCycle ≠ 0 → u.ring.io.live = true))) ∧
  (∀ (t ingress : Ns) (f o : Bytes) (s : State), s.up .rng = true → s.role = some .iostation → fClass f = clsCyclic → fSubtype f = 1 → s.node ≠ 0 → fDest f = s.node → s.ring.cfg.master ≠ 0 → fSource f = s.ring.cfg.master → s.shut f = false → pcrcGood f = true → s.ring.io.imageMap = some o → imWords f = mapOut o → fLength f = 8 + 4 * mapOut o → s.inWindow ingress f = false → Completes (.outputImage t ingress f) s fun u =>
      u.ring.io = { s.ring.io with late := satAdd 32 s.ring.io.late 1 } ∧ u.chans = s.chans) ∧
  (∀ (t : Ns) (h : BitVec 8) (words : List Word) (o : Bytes) (s : State), s.up .rng = true → s.role = some .iostation → s.ring.busStart + s.ring.cfg.windowNs + 5000 ≤ max s.clock t → s.ring.io.image = some (s.ring.busCycle, h, words) → s.ring.io.imageMap = some o → Completes (.outputImageTake t) s fun u =>
      u.ring.io = { s.ring.io with image := none } ∧ ∀ ch : Fin 128, s.owner ch ≠ .ring → u.chans[ch].demand = s.chans[ch].demand) ∧
  (∀ (t : Ns) (h : BitVec 8) (w : Word) (v : Rat) (o e : Bytes) (s : State), s.up .rng = true → s.role = some .iostation → s.ring.busStart + s.ring.cfg.windowNs + 5000 ≤ max s.clock t → s.ring.io.image = some (s.ring.busCycle, h, [w]) → s.ring.io.imageMap = some o → mapOutputs o = [e] → h.getLsbD 0 = true → s.ring.io.live = true → meItem e = 0x11 → s.owner (meChan e) = .ring → decodeBin 8 23 w.toNat = some v → Completes (.outputImageTake t) s fun u =>
      u.chans[meChan e].demand = { s.chans[meChan e].demand with
        written := true, on := v != 0, eng := v, failSig := s.chans[meChan e].demand.failSig } ∧
      u.chans[meChan e].ringSubst = false ∧ ∀ ch : Fin 128, ch ≠ meChan e → u.chans[ch] = s.chans[ch]) ∧
  (∀ (t : Ns) (i : Nat) (x : Station) (d : Ns) (s : State), s.up .rng = true → s.station? i = some x → (s.begin t).stationDeadline i = some d → d ≤ max s.clock t → Completes (.stationWatchdog t i []) s fun u =>
      (u.station? i).map (fun y => (y.state, y.returnBus, y.downUndelivered)) = some (.down, none, x.undelivered) ∧
      (s.prg.live = true → (u.prg.downQueue.any fun n => n.index == i) = true) ∧ ∀ k : Nat, k ≠ i → u.station? k = s.station? k) ∧
  (∀ (t l : Ns) (s : State), s.up .rng = true → s.role = some .iostation → s.ring.cfg.wdCycles ≠ 0 → s.ring.io.lastIngress = some l → (s.begin t).due .rng l (s.ring.cfg.wdCycles * s.tBus) ≤ max s.clock t → Completes (.iostationWatchdog t []) s fun u =>
      u.ring.io.live = false ∧ u.ring.io.substituting = true ∧ u.ring.io.lastIngress = none ∧
      ∀ ch : Fin 128, u.chans[ch].ringSubst = if s.owner ch = .ring then !s.chans[ch].fresh else s.chans[ch].ringSubst)

/-- Tunnel requests and responses in parts, retries, and the reassembly time-out. The first part of a tunnelled descriptor opens its
reassembly; a complete one of a known opcode and allowed policy is taken to be served with its stamps. Parts of a response join; a
complete response ends the tunnel. An unanswered request is sent again until its retries are used and then ends. A reassembly not
continued for the time-out is dropped. The readings and choices of the model that this rests on are log entry 50. Rules: R351,
R352, R353, R354, R357, R364. -/
def Obligations.Tunnels : Prop :=
  (∀ (t ingress : Ns) (f : Bytes) (p : Part) (s : State), s.tunnelFor f = true → tunnelPart f = some p → p.kind = 1 → s.ring.tunnelsIn.find? (fun x => x.src == fSource f && x.tid == p.tid) = none → assemble p.total [(p.idx, p.data)] = none → Completes (.tunnelRequest t ingress f) s fun u =>
      u.ring.tunnelsIn = s.ring.tunnelsIn.filter (fun x => !(x.src == fSource f && x.tid == p.tid)) ++
        [{ src := fSource f, tid := p.tid, total := p.total, frags := [(p.idx, p.data)], lastAt := ingress }] ∧
      u.ring.serving = s.ring.serving) ∧
  (∀ (t ingress : Ns) (f b : Bytes) (p : Part) (s : State), s.tunnelFor f = true → tunnelPart f = some p → p.kind = 1 → s.ring.tunnelsIn.find? (fun x => x.src == fSource f && x.tid == p.tid) = none → assemble p.total [(p.idx, p.data)] = some b → 64 ≤ b.length → s.ring.kept.find? (fun k => k.src = fSource f ∧ k.tid = p.tid) = none → s.ring.serving.any (fun v => v.src = fSource f ∧ v.tid = p.tid) = false → opTable.contains (rd b 0 2) = true → rd b 24 4 + 64 = b.length → s.policy (.tunnel (fSource f) p.tid) (rd b 0 2) = none → Completes (.tunnelRequest t ingress f) s fun u =>
      u.ring.serving = s.ring.serving ++ [{ src := fSource f, tid := p.tid, cookie := BitVec.ofNat 32 (rd b 4 4), deadline := descDeadline b, accepted := (s.begin t).now }] ∧
      u.ring.tunnelsIn = s.ring.tunnelsIn.filter fun x => !(x.src == fSource f && x.tid == p.tid)) ∧
  (∀ (t ingress : Ns) (f : Bytes) (p : Part) (x : TunnelOut) (s : State), s.tunnelFor f = true → tunnelPart f = some p → p.kind = 2 → s.ring.tunnelsOut.find? (fun x => x.tid == p.tid && x.node == fSource f) = some x → assemble p.total (addPart p x.frags) = none → Completes (.tunnelResponse t ingress f) s fun u =>
      u.ring.tunnelsOut = s.ring.tunnelsOut.map fun y => if y.tid = x.tid then { y with frags := addPart p x.frags, lastIngress := ingress } else y) ∧
  (∀ (t ingress : Ns) (f b : Bytes) (p : Part) (x : TunnelOut) (s : State), s.tunnelFor f = true → tunnelPart f = some p → p.kind = 2 → s.ring.tunnelsOut.find? (fun x => x.tid == p.tid && x.node == fSource f) = some x → assemble p.total (addPart p x.frags) = some b → 16 ≤ b.length → s.ring.tunnelsWait = [] → Completes (.tunnelResponse t ingress f) s fun u => ∀ y ∈ u.ring.tunnelsOut, y.tid ≠ x.tid) ∧
  (∀ (t : Ns) (tid : BitVec 16) (x : TunnelOut) (s : State), s.up .rng = true → s.ring.tunnelsOut.find? (fun x => x.tid == tid) = some x → s.ring.acyclic.any (fun a => a.subtype == 1 && rd a.payload 2 1 == 1 && rd a.payload 0 2 == tid.toNat) = false → s.pair.retriesDue.contains tid = false → (s.begin t).due .rng x.lastSent (1000000 * s.ring.cfg.acyTimeout) ≤ max s.clock t → x.retries < s.ring.cfg.acyRetries → s.inStep = false → Completes (.tunnelRetry t tid) s fun u =>
      (u.ring.tunnelsOut.find? (fun x => x.tid == tid)) = some { x with retries := x.retries + 1, frags := [], lastSent := max s.clock t } ∧
      u.ring.acyclic = s.ring.acyclic ++ (tunnelFrames tid 1 x.request).map fun p => { subtype := 1, dest := x.node, payload := p, due := max s.clock t }) ∧
  (∀ (t : Ns) (tid : BitVec 16) (x : TunnelOut) (s : State), s.up .rng = true → s.ring.tunnelsOut.find? (fun x => x.tid == tid) = some x → s.ring.acyclic.any (fun a => a.subtype == 1 && rd a.payload 2 1 == 1 && rd a.payload 0 2 == tid.toNat) = false → s.pair.retriesDue.contains tid = false → (s.begin t).due .rng x.lastSent (1000000 * s.ring.cfg.acyTimeout) ≤ max s.clock t → s.ring.cfg.acyRetries ≤ x.retries → s.ring.tunnelsWait = [] → Completes (.tunnelRetry t tid) s fun u => ∀ y ∈ u.ring.tunnelsOut, y.tid ≠ tid) ∧
  (∀ (t : Ns) (src : Nat) (tid : BitVec 16) (s : State), Completes (.reassemblyTimeout t src tid) s fun u =>
      u.ring.tunnelsIn = s.ring.tunnelsIn.filter fun x =>
        !(x.src == src && x.tid == tid && decide ((s.begin t).due .rng x.lastAt (1000000 * s.ring.cfg.acyTimeout) ≤ max s.clock t)))

/-- Address frames, NODE_ADDRESS and its retries. A node that adopts an address takes it and answers with an address frame to its
source. The echo of the address ends a NODE_ADDRESS. An admitted NODE_ADDRESS notes its port, hops and address and sends one
address frame on that port; unanswered, it is sent again until its retries are used and then ends. The readings and choices of the
model that this rests on are log entry 50. Rules: R342, R357, R445. -/
def Obligations.NodeAddresses : Prop :=
  (∀ (t : Ns) (p : Port) (ingress : Ns) (f : Bytes) (s : State), s.up .rng = true → (s.port p).link = .up → ingress ≤ max s.clock t → s.adopts f = true → Completes (.addressFrame t p ingress f) s fun u =>
      u.node = rd (fPayload f) 4 2 ∧ u.ring.acyclic = s.ring.acyclic ++
        [{ subtype := 2, dest := fSource f, payload := addressPayload (rd (fPayload f) 0 1) (rd (fPayload f) 4 2) }]) ∧
  (∀ (t : Ns) (p : Port) (ingress : Ns) (f : Bytes) (n : NodeAddr) (s : State), s.up .rng = true → (s.port p).link = .up → ingress ≤ max s.clock t → s.adopts f = false → s.ring.nodeAddr = some n → fClass f = clsAcyclic → fSubtype f = 2 → fDest f = s.node → s.node ≠ 0 → pcrcGood f = true → fSource f = n.newAddr → rd (fPayload f) 4 2 = n.newAddr → Completes (.addressFrame t p ingress f) s fun u => u.ring.nodeAddr = none ∧ u.node = s.node) ∧
  (∀ (t : Ns) (org : Origin) (p : Bytes) (s : State), (s.begin t).Admits org opNodeAddress [.rng] → rd p 0 1 ≤ 1 → rd p 1 1 ≠ 0 → rd p 2 2 ≠ 0 → rd p 2 2 ≠ 0xFFFF → zeroAt p 4 12 = true → s.sums = true → s.ring.nodeAddr = none → Completes (.nodeAddress t org p) s fun u =>
      u.ring.nodeAddr = some { org := org, port := if rd p 0 1 = 0 then .a else .b, hops := rd p 1 1, newAddr := rd p 2 2, sentAt := max s.clock t } ∧
      u.ring.acyclic = s.ring.acyclic ++ [{ subtype := 2, dest := 0, payload := addressPayload (rd p 1 1) (rd p 2 2), port := some (if rd p 0 1 = 0 then .a else .b) }]) ∧
  (∀ (t : Ns) (n : NodeAddr) (s : State), s.up .rng = true → s.ring.nodeAddr = some n → s.ring.acyclic.any (fun a => a.port.isSome) = false → (s.begin t).due .rng n.sentAt (1000000 * s.ring.cfg.acyTimeout) ≤ max s.clock t → Completes (.nodeAddressRetry t) s fun u =>
      u.ring.nodeAddr = if n.retries < s.ring.cfg.acyRetries then some { n with retries := n.retries + 1, sentAt := max s.clock t } else none)

/-- RING_CONFIG, STATION_CONFIG, IMAGE_MAP and BRANCH_CONFIG wait for the next bus cycle. An admitted object that its role takes and
that passes its checks becomes pending and changes nothing else of the ring: the ring configuration, the configuration of a
station that is known or new, the image map of an I/O station, and the branch configuration of a branch node. Other stations keep
their state. The readings and choices of the model that this rests on are log entry 48. Rules: R322, R323, R337, R341, R343, R348,
R349. -/
def Obligations.RingConfiguration : Prop :=
  (∀ (t : Ns) (org : Origin) (obj : Bytes) (s : State), (s.begin t).Admits org opRingConfig [.rng] → obj.length = 32 → s.ringCfgOk obj = true → (s.originatesCyclic = true → (ringCfgOf obj).tBus = s.ring.cfg.tBus ∧ (ringCfgOf obj).window = s.ring.cfg.window) → s.ring.cfgPending = none → s.overCapacity (ringCfgOf obj) (s.ring.stations.map Station.next) s.safObj = false → (s.begin t).storeOverflow (BitVec.ofNat 16 opRingConfig) 0 obj = false → Completes (.ringConfig t org obj) s fun u => u.ring = { s.ring with cfgPending := some (org, obj) }) ∧
  (∀ (t : Ns) (org : Origin) (obj : Bytes) (x : Station) (s : State), (s.begin t).Admits org opStationConfig [.rng] → 32 ≤ obj.length ∧ obj.length ≤ 1056 → s.sums = true → stationOk obj = true → ((s.ring.stations.filter fun x => x.index != rd obj 0 2).any fun x => stNode x.next == stNode obj) = false → s.station? (rd obj 0 2) = some x → (stEnable x.obj = true → stFixed x.obj = stFixed obj) → x.pending = none → s.overCapacity s.nextRing (obj :: (s.ring.stations.filter fun x => x.index != rd obj 0 2).map Station.next) s.safObj = false → (s.begin t).storeOverflow (BitVec.ofNat 16 opStationConfig) (rd obj 0 2) obj = false → Completes (.stationConfig t org obj) s fun u =>
      u.station? (rd obj 0 2) = some { x with pending := some (org, obj) } ∧ ∀ k : Nat, k ≠ rd obj 0 2 → u.station? k = s.station? k) ∧
  (∀ (t : Ns) (org : Origin) (obj : Bytes) (s : State), (s.begin t).Admits org opStationConfig [.rng] → 32 ≤ obj.length ∧ obj.length ≤ 1056 → s.sums = true → stationOk obj = true → ((s.ring.stations.filter fun x => x.index != rd obj 0 2).any fun x => stNode x.next == stNode obj) = false → s.station? (rd obj 0 2) = none → s.overCapacity s.nextRing (obj :: (s.ring.stations.filter fun x => x.index != rd obj 0 2).map Station.next) s.safObj = false → (s.begin t).storeOverflow (BitVec.ofNat 16 opStationConfig) (rd obj 0 2) obj = false → Completes (.stationConfig t org obj) s fun u =>
      u.station? (rd obj 0 2) = some { index := rd obj 0 2, obj := [], pending := some (org, obj), state := .disabled } ∧ ∀ k : Nat, k ≠ rd obj 0 2 → u.station? k = s.station? k) ∧
  (∀ (t : Ns) (org : Origin) (obj : Bytes) (s : State), (s.begin t).Admits org opImageMap [.rng] → 8 ≤ obj.length ∧ obj.length ≤ 2056 → s.role = some .iostation → s.mapOk obj = true → s.ring.io.mapPending = none → (s.begin t).storeOverflow (BitVec.ofNat 16 opImageMap) 0 obj = false → Completes (.imageMap t org obj) s fun u => u.ring = { s.ring with io := { s.ring.io with mapPending := some (org, obj) } }) ∧
  (∀ (t : Ns) (org : Origin) (obj : Bytes) (s : State), (s.begin t).Admits org opBranchConfig [.rng] → 8 ≤ obj.length ∧ obj.length ≤ 392 → s.role = some .branch → branchOk obj = true → s.ring.branchPending = none → (s.begin t).storeOverflow (BitVec.ofNat 16 opBranchConfig) 0 obj = false → Completes (.branchConfig t org obj) s fun u => u.ring = { s.ring with branchPending := some (org, obj) })

/-- PAIR_CONFIG at a member and a referee, HANDOVER, DRILL, RELEASE_SHADOW, CLEAR_REVERT_LIMIT. An admitted PAIR_CONFIG is stored at a
member, where a strap that differs sets the mismatch, and held at a referee with room, one for each pair address. HANDOVER and
DRILL at a lead with its shadow and a referee heard note the hand-over with its reason and change neither state nor term.
RELEASE_SHADOW puts a shadow out. CLEAR_REVERT_LIMIT clears the limit. The readings and choices of the model that this rests on
are log entries 56, 58. Rules: R358, R360, R378, R380, R381, R384, R385, R386. -/
def Obligations.PairCommands : Prop :=
  (∀ (t : Ns) (org : Origin) (o : Bytes) (s : State), (s.begin t).Admits org opPairConfig [.rng] → pairOk o = true → (s.ring.stations.any fun x => stNode x.obj == pcAddr o) = false → s.isPair = true → s.movesPair o = false → (s.begin t).storeOverflow (BitVec.ofNat 16 opPairConfig) 0 o = false → Completes (.pairConfig t org o) s fun u =>
      u.pair.cfg = some o ∧ u.pair.cfgMismatch = (s.node != s.strapNode o) ∧ u.pair.cfgAt = max s.clock t ∧
      u.pair.state = s.pair.state ∧ u.pair.term = s.pair.term) ∧
  (∀ (t : Ns) (org : Origin) (o : Bytes) (s : State), (s.begin t).Admits org opPairConfig [.rng] → pairOk o = true → (s.ring.stations.any fun x => stNode x.obj == pcAddr o) = false → s.role = some .referee → (s.pair.held.filter fun r => pcAddr r.cfg != pcAddr o).length < 8 → (s.begin t).storeOverflow (BitVec.ofNat 16 opPairConfig) (pcAddr o) o = false → Completes (.pairConfig t org o) s fun u =>
      (u.pair.held.any fun r => pcAddr r.cfg == pcAddr o && r.cfg == o) = true ∧
      (u.pair.held.filter fun r => pcAddr r.cfg != pcAddr o) = s.pair.held.filter fun r => pcAddr r.cfg != pcAddr o) ∧
  (∀ (t : Ns) (org : Origin) (o : Bytes) (s : State), (s.begin t).Admits org opPairCommand [.rng] → o.length = 16 → rd o 0 1 = 1 → zeroAt o 1 15 = true → s.isPair = true → s.pair.handover = none → s.shadowThere = true → s.refHeard = true → Completes (.handover t org o) s fun u =>
      (u.pair.handover.map fun x => (x.1, x.2.1)) = some (org, rsHandover) ∧ u.pair.state = s.pair.state ∧ u.pair.term = s.pair.term) ∧
  (∀ (t : Ns) (org : Origin) (o : Bytes) (s : State), (s.begin t).Admits org opPairCommand [.rng] → o.length = 16 → rd o 0 1 = 2 → zeroAt o 1 15 = true → s.isPair = true → s.pair.handover = none → s.shadowThere = true → s.refHeard = true → Completes (.drill t org o) s fun u =>
      (u.pair.handover.map fun x => (x.1, x.2.1)) = some (org, rsDrill) ∧ u.pair.state = s.pair.state ∧ u.pair.term = s.pair.term) ∧
  (∀ (t : Ns) (org : Origin) (o : Bytes) (s : State), (s.begin t).Admits org opPairCommand [.rng] → o.length = 16 → rd o 0 1 = 3 → zeroAt o 1 15 = true → s.isPair = true → s.pair.handover = none → (s.pair.state = .lead → s.shadowThere = true) → Completes (.releaseShadow t org o) s fun u =>
      u.pair.state = (if s.pair.state = .shadow then .out else s.pair.state) ∧ u.pair.term = s.pair.term) ∧
  (∀ (t : Ns) (org : Origin) (o : Bytes) (s : State), (s.begin t).Admits org opPairCommand [.rng] → o.length = 16 → rd o 0 1 = 4 → zeroAt o 1 15 = true → s.isPair = true → Completes (.clearRevertLimit t org o) s fun u => u.pair.revertLimit = false ∧ u.pair.state = s.pair.state ∧ u.pair.term = s.pair.term)

/-- Sending, hearing and missing heartbeats of pair members and referees. At its period a member sends its heartbeat on the ports that
are up. A heartbeat of the partner with the same configuration CRC gives its stamp, term, lead and state; another CRC from the
partner or the first referee only counts and stamps the difference. A partner not heard within its time is lost with its barrier,
forwards and power domain; a member not heard by a referee is marked lost there. The readings and choices of the model that this
rests on are log entries 17, 56. Rules: R40, R42, R362, R372. -/
def Obligations.Heartbeats : Prop :=
  (∀ (t : Ns) (o : Bytes) (s : State), s.up .rng = true → s.isPair = true → s.pair.cfg = some o → (s.begin t).beatNow (pcPeriod o) = true → s.node ≠ 0 → s.portsUp [.a, .b, .l] ≠ [] → Completes (.heartbeatSend t) s fun u =>
      u.out.head? = some (.frame (s.portsUp [.a, .b, .l])
        (mkBroluma s.node s.ring.seq clsPair s.ring.epoch.toNat false 1 0xFFFF (s.begin t).now (s.memberHeartbeat o)))) ∧
  (∀ (t : Ns) (p : Port) (ingress : Ns) (f o : Bytes) (s : State), s.up .rng = true → pairFrame 1 f = true → 32 ≤ fLength f → fDest f = 0xFFFF → (s.port p).link = .up → s.isPair = true → s.pair.cfg = some o → hbAddr f = pcAddr o → fSource f = s.partnerNode → fSource f ≠ pcRef1 o → fSource f ≠ pcRef2 o → hbCrc f = (crc32c o).toNat → Completes (.heartbeat t p ingress f) s fun u =>
      u.pair.partner.last = some (max ingress (s.pair.partner.last.getD 0)) ∧ u.pair.partner.term = hbTerm f ∧
      u.pair.partner.leadNode = hbLead f ∧ u.pair.partner.state = hbState f ∧
      u.pair.ref1 = s.pair.ref1 ∧ u.pair.ref2 = s.pair.ref2) ∧
  (∀ (t : Ns) (p : Port) (ingress : Ns) (f o : Bytes) (s : State), s.up .rng = true → pairFrame 1 f = true → 32 ≤ fLength f → fDest f = 0xFFFF → (s.port p).link = .up → s.isPair = true → s.pair.cfg = some o → hbAddr f = pcAddr o → (fSource f = s.partnerNode ∨ fSource f = pcRef1 o) → hbCrc f ≠ (crc32c o).toNat → Completes (.heartbeat t p ingress f) s fun u =>
      u.pair = { s.pair with cfgCrcMismatch := s.pair.cfgCrcMismatch + 1, crcDiffAt := some (max s.clock t) }) ∧
  (∀ (t : Ns) (d : Ns) (s : State), s.up .rng = true → (s.begin t).heartbeatDeadline .partner = some d → d ≤ max s.clock t → Completes (.heartbeatLoss t .partner []) s fun u =>
      u.pair.partner.lost = true ∧ u.pair.barrier.partnerLive = false ∧ u.pair.forwards = [] ∧ u.domain .partner = .off) ∧
  (∀ (t : Ns) (d : Ns) (k : Fin 8) (r : RefPair) (s : State), s.up .rng = true → (s.begin t).heartbeatDeadline (.heldA k) = some d → d ≤ max s.clock t → s.pair.held[k.val]? = some r → Completes (.heartbeatLoss t (.heldA k) []) s fun u => u.pair.held[k.val]? = some { r with lostA := true })

/-- Grant requests, referee decisions, formation wait, RELINQUISH, GRANT and DENY. A request with a term above the highest one joins
the requests of the pair for decision at the lease end; one that is not above counts a denial. A decision with the lead and the
other side not seen grants the next term and records it first among the terms kept; with one of them seen it denies. The formation
wait passes 10 s after the other member was first heard. A RELINQUISH of the lead to a shadow that is heard grants it the next
term. A member notes a newer GRANT for its bus cycle; a DENY ends a hand-over. The readings and choices of the model that this
rests on are log entries 57, 58. Rules: R374, R375, R384, R385, R389. -/
def Obligations.RefereeGrants : Prop :=
  (∀ (t ingress : Ns) (f : Bytes) (i : Nat) (r : RefPair) (s : State), s.up .rng = true → ingress ≤ max s.clock t → fDest f = s.node → s.heldIndex f = some i → s.pair.held[i]? = some r → pairFrame 2 f = true → (gNode f = pcNodeA r.cfg ∨ gNode f = pcNodeB r.cfg) → r.top.toNat < (gTerm f).toNat → Completes (.grantRequest t ingress f) s fun u =>
      ((u.pair.held[i]?).map fun x => (x.term, x.leadNode, x.requests)) = some (r.term, r.leadNode,
        (r.requests.filter fun q => q.1 ≠ gNode f) ++ [(gNode f, gTerm f, gReason f, max (max s.clock t) (r.leadDeadline.getD (max s.clock t)))])) ∧
  (∀ (t ingress : Ns) (f : Bytes) (i : Nat) (r : RefPair) (s : State), s.up .rng = true → ingress ≤ max s.clock t → fDest f = s.node → s.heldIndex f = some i → s.pair.held[i]? = some r → pairFrame 2 f = true → (gNode f = pcNodeA r.cfg ∨ gNode f = pcNodeB r.cfg) → (gTerm f).toNat ≤ r.top.toNat → Completes (.grantRequest t ingress f) s fun u =>
      ((u.pair.held[i]?).map fun x => (x.term, x.leadNode, x.requests, x.denies)) = some (r.term, r.leadNode, r.requests, r.denies + 1)) ∧
  (∀ (t : Ns) (k : Fin 8) (r : RefPair) (q : Nat × BitVec 32 × BitVec 8 × Ns) (s : State), s.up .rng = true → s.pair.held[k.val]? = some r → r.requests = [q] → q.2.2.2 ≤ max s.clock t → r.top.toNat < q.2.1.toNat → r.leadSeen (max s.clock t) = false → r.otherSees (max s.clock t) = false → q.2.2.1 ≠ rsFormation → Completes (.refereeGrantDecision t k) s fun u =>
      ((u.pair.held[k.val]?).map fun x => (x.term, x.leadNode, x.requests, x.grants)) = some (r.top + 1, q.1, [], r.grants + 1) ∧
      u.mod.refTerms.head? = some (pcAddr r.cfg, r.top + 1)) ∧
  (∀ (t : Ns) (k : Fin 8) (r : RefPair) (q : Nat × BitVec 32 × BitVec 8 × Ns) (s : State), s.up .rng = true → s.pair.held[k.val]? = some r → r.requests = [q] → q.2.2.2 ≤ max s.clock t → r.top.toNat < q.2.1.toNat → (r.leadSeen (max s.clock t) = true ∨ r.otherSees (max s.clock t) = true) → Completes (.refereeGrantDecision t k) s fun u =>
      ((u.pair.held[k.val]?).map fun x => (x.term, x.leadNode, x.requests, x.denies)) = some (r.term, r.leadNode, [], r.denies + 1) ∧
      u.mod.refTerms = s.mod.refTerms) ∧
  (∀ (t : Ns) (k : Fin 8) (r : RefPair) (b : Ns) (s : State), s.pair.held[k.val]? = some r → r.firstB = some b → max b s.pair.refStart + 10000000000 ≤ max s.clock t → Completes (.formWait t k) s fun u =>
      u.pair.held[k.val]? = some { r with formPassed := true } ∧ ∀ j : Nat, j ≠ k.val → u.pair.held[j]? = s.pair.held[j]?) ∧
  (∀ (t ingress : Ns) (f : Bytes) (i : Nat) (r : RefPair) (s : State), s.up .rng = true → ingress ≤ max s.clock t → fDest f = s.node → s.heldIndex f = some i → s.pair.held[i]? = some r → pairFrame 5 f = true → (gNode f = pcNodeA r.cfg ∨ gNode f = pcNodeB r.cfg) → (fSource f = pcNodeA r.cfg ∨ fSource f = pcNodeB r.cfg) → r.top.toNat ≤ (gTerm f).toNat → r.lost (max s.clock t) (gNode f) = false → (if gNode f = pcNodeA r.cfg then r.stateA else r.stateB) = 2 → Completes (.relinquish t ingress f) s fun u =>
      ((u.pair.held[i]?).map fun x => (x.term, x.leadNode, x.grants)) = some (r.top + 1, gNode f, r.grants + 1) ∧
      u.mod.refTerms.head? = some (pcAddr r.cfg, r.top + 1)) ∧
  (∀ (t ingress : Ns) (f : Bytes) (s : State), s.up .rng = true → pairFrame 3 f = true → ingress ≤ max s.clock t → fDest f = s.node → s.fromReferee f = true → s.termHeard < (gTerm f).toNat → (gNode f = s.node → s.pair.state = .unformed ∨ s.pair.state = .shadow ∨ s.pair.state = .lead) → Completes (.grant t ingress f) s fun u =>
      u.pair = { s.pair with pendingLead := some { take := gNode f == s.node, term := gTerm f, leadNode := gNode f, kh := s.fullBus (gKh f), reason := gReason f } }) ∧
  (∀ (t ingress : Ns) (f : Bytes) (s : State), s.up .rng = true → pairFrame 4 f = true → ingress ≤ max s.clock t → fDest f = s.node → s.fromReferee f = true → Completes (.deny t ingress f) s fun u => u.pair.handover = none ∧ u.pair.state = s.pair.state ∧ u.pair.term = s.pair.term)

/-- BARRIER, OUT_DONE, IMAGE_FIX, DIGEST and RECORD of the partner. Two equal barrier messages of a lead in step pass the barrier with
the later stamp and the older bus cycle and compare the output CRCs. OUT_DONE of the partner is kept. An image fix that the shadow
waited for alone sets the image and passes the barrier. Digests of one bus cycle are compared and counted; a shadow with its third
difference in a row goes back to joining. A record of the partner is stored with the partner's stamps when there is room. The
readings and choices of the model that this rests on are log entries 36, 55. Rules: R364, R365, R366, R367, R370, R379, R31. -/
def Obligations.Barriers : Prop :=
  (∀ (t : Ns) (m own : BarrierMsg) (s : State), s.up .rng = true → s.inStep = true → s.cycling = true → s.pair.forwards = [] → s.pair.barrier.passed = false → s.pair.barrier.ownMsg = some own → m.cycle = own.cycle → m.idle = own.idle → m.mailbox = [] → m.writes = [] → m.outcomes = [] → m.pps = none → m.armed = false → m.revertReq = false → m.halted = none → s.pair.state = .lead → Completes (.barrier t m) s fun u =>
      u.pair.barrier.passed = true ∧ u.pair.barrier.partner = some (m.cycle, m.stamp) ∧ u.pair.barrier.stamp = max own.stamp m.stamp ∧
      u.pair.barrier.agreedBus = min own.newestBus m.newestBus ∧ u.pair.crcsCompared = s.pair.crcsCompared + 1 ∧
      (m.outputCrc = s.pair.barrier.ownCrc → u.pair.mismatch = s.pair.mismatch ∧ u.pair.crcRun = 0) ∧
      (m.outputCrc ≠ s.pair.barrier.ownCrc → u.pair.mismatch = true ∧ u.pair.crcRun = s.pair.crcRun + 1) ∧ u.pair.state = .lead) ∧
  (∀ (t : Ns) (cycle : Nat) (stamp : Int) (s : State), s.inStep = true → Completes (.outDone t cycle stamp) s fun u =>
      u.pair = { s.pair with barrier := { s.pair.barrier with partnerDone := some (cycle, stamp) } }) ∧
  (∀ (t : Ns) (i bus : Nat) (words : List Word) (x : Station) (s : State), s.pair.state = .shadow → s.inStep = true → s.pair.barrier.fixWait = [i] → s.station? i = some x → Completes (.imageFix t [(i, bus, words)]) s fun u =>
      u.pair.barrier.fixWait = [] ∧ u.pair.barrier.passed = true ∧ u.station? i = some (x.fixImage s.newestBus bus words)) ∧
  (∀ (t : Ns) (bus : Nat) (crc own : BitVec 32) (s : State), s.isPair = true → s.pair.state = .lead → s.pair.ownDigests.find? (fun d => d.1 == bus) = some (bus, own) → Completes (.digest t bus crc) s fun u =>
      u.pair.digestsCompared = s.pair.digestsCompared + 1 ∧ u.pair.state = .lead ∧
      (own = crc → u.pair.mismatch = s.pair.mismatch ∧ u.pair.mismatchRun = 0) ∧
      (own ≠ crc → u.pair.mismatch = true ∧ u.pair.mismatchRun = s.pair.mismatchRun + 1)) ∧
  (∀ (t : Ns) (bus : Nat) (crc own : BitVec 32) (s : State), s.isPair = true → s.pair.state = .shadow → s.pair.ownDigests.find? (fun d => d.1 == bus) = some (bus, own) → own ≠ crc → s.pair.mismatchRun = 2 → s.pair.lastMismatchRejoin = none → Completes (.digest t bus crc) s fun u => u.pair.state = .joining ∧ u.pair.mismatch = true ∧ u.pair.barrier.partnerLive = false) ∧
  (∀ (t : Ns) (r : PartnerRec) (s : State), s.isPair = true → s.pair.state = .lead → s.recorder.room r.source (recLength r.kind r.items) = true → Completes (.record t r) s fun u =>
      u.recorder.nextSeq = s.recorder.nextSeq + 1 ∧ u.recorder.intake.getLast? = some
        { seq := s.recorder.nextSeq, source := r.source, kind := r.kind, items := r.items, opSeconds := r.opSeconds,
          powerCycles := r.powerCycles, shipTime := r.shipTime, length := recLength r.kind r.items, fromPartner := true })

/-- RESYNC pages and its end, the join time-out, swap drills and the return to the preferred member. A page of the transfer writes
data memory and counts its bytes; the last message of a transfer with the same image makes the member a shadow with the cycle
number of the lead. A join that lasts 300 s starts over, and the third failure puts the member out. A drill that is due with every
condition met notes a hand-over with reason drill and its next instant, and without a shadow is put off by an hour. A shadow that
is the preferred member asks for its return after the hold-off. The readings and choices of the model that this rests on are log
entries 58, 59, 60. Rules: R381, R382, R383, R384, R386. -/
def Obligations.JoiningAndDrills : Prop :=
  (∀ (t : Ns) (addr : Nat) (b : Bytes) (s : State), s.isPair = true → s.pair.state = .joining → s.pair.join.step ≠ 0 → Completes (.resync t (.page addr b)) s fun u =>
      u.prg.data.mem = Memory.writeAll s.prg.data.mem addr b ∧ u.pair.state = .joining ∧ u.pair.join.bytes = s.pair.join.bytes + b.length) ∧
  (∀ (t : Ns) (prg : Program) (off : Int) (fns : Vector SafFn 48) (conns : Vector SafConn 32) (seq : BitVec 16) (s : State), s.isPair = true → s.pair.state = .joining → s.pair.join.step = 3 → s.sameImage prg = true → Completes (.resync t (.final prg off fns conns seq true)) s fun u =>
      u.pair.state = .shadow ∧ u.pair.pairSeq = seq ∧ u.pair.mismatch = false ∧ u.pair.barrier.partnerLive = true ∧
      u.prg.cycleNumber = prg.cycleNumber ∧ u.pair.join.failRun = 0) ∧
  (∀ (t a : Ns) (s : State), s.pair.state = .joining → s.pair.join.start = some a → (s.begin t).due .rng a 300000000000 ≤ max s.clock t → Completes (.joinTimeout t) s fun u =>
      u.pair.state = (if 3 ≤ s.pair.join.failRun + 1 then .out else .joining) ∧ u.pair.join.step = 0 ∧
      u.pair.join.failRun = s.pair.join.failRun + 1 ∧ u.pair.join.timeouts = s.pair.join.timeouts + 1) ∧
  (∀ (t d : Ns) (o : Bytes) (s : State), s.isPair = true → s.up .rng = true → s.pair.state = .lead → s.pair.drillNext = some d → s.pair.cfg = some o → d ≤ max s.clock t → s.shadowThere = true → s.pair.partner.since + pcHoldoff o * 1000000000 ≤ max s.clock t → spanPassed (max s.clock t) s.pair.lastMismatchAt (pcHoldoff o * 1000000000) = true → s.refHeard = true → s.pair.handover = none → Completes (.swapDrill t) s fun u =>
      (u.pair.handover.map fun x => (x.1, x.2.1)) = some (.self, rsDrill) ∧
      u.pair.drillNext = some (max s.clock t + pcDrill o * 3600000000000) ∧ u.pair.state = .lead) ∧
  (∀ (t d : Ns) (o : Bytes) (s : State), s.isPair = true → s.up .rng = true → s.pair.state = .lead → s.pair.drillNext = some d → s.pair.cfg = some o → d ≤ max s.clock t → s.shadowThere = false → Completes (.swapDrill t) s fun u => u.pair = { s.pair with drillNext := some (d + 3600000000000) }) ∧
  (∀ (t h : Ns) (o : Bytes) (s : State), s.pair.holdoffFrom = some h → s.pair.cfg = some o → s.role = some .pairA → s.pair.state = .shadow → pcRevert o = true → s.pair.revertLimit = false → s.saf.fault = none → h + pcHoldoff o * 1000000000 ≤ max s.clock t → Completes (.revertReq t) s fun u => u.pair = { s.pair with revertReq := true })

/-- SYNC messages steer or step ring time, SYNC is sent, lost, held over, and TIME_CONFIG waits. A SYNC of the grandmaster while
locked, or within 10 us, steers the frequency by the servo within 250 ppm and is forwarded with its corrected residence; more than
10 us away and not locked it steps ring time and keeps ship time. Another SYNC changes neither. A grandmaster sends SYNC at its
interval. Three intervals without SYNC are holdover, and the end of holdover is free run; ring time does not jump at either.
TIME_CONFIG waits for the next interval. The readings and choices of the model that this rests on are log entries 28, 52, 53, 54.
Rules: R391, R392, R394, R396, R398, R406. -/
def Obligations.RingTime : Prop :=
  (∀ (t ingress : Ns) (p : Port) (m : PtpMsg) (off : Rat) (s : State), (s.timeBegin t).up .tim = true → (s.timeBegin t).ptpPort p = true → m.domain = 0 → m.twoStep = false → ((s.timeBegin t).pdelay p).invalid = false → (s.timeBegin t).ptpOld ptSync m = false → (s.timeBegin t).time.isGm = false → ((s.timeBegin t).time.gm.map GmData.identity) = some (ptpClock m) → off = ((ingress : Int) + (s.timeBegin t).time.ringOff : Int) - (m.origin + m.correction + ((s.timeBegin t).pdelay p).mean) → ((s.timeBegin t).time.state = .locked ∨ absR off ≤ 10000) → Completes (.sync t p ingress m) s fun u =>
      u.time.lastOffset = off ∧ u.time.lastSync = some ingress ∧ u.time.ringOff = (s.timeBegin t).time.ringOff ∧ u.time.steps = (s.timeBegin t).time.steps ∧
      u.time.freq = clampR (-250000) 250000 (-round64 (round64 ((s.timeBegin t).time.cfg.kp * off) + (s.timeBegin t).time.integ)) ∧
      u.out = (s.timeBegin t).out ++ ((s.timeBegin t).ptpOthers p).map fun q => .ptp q ptSync { m with correction := m.correction + ((max s.clock t - ingress : Nat) : Rat) + ((s.timeBegin t).pdelay p).mean } none) ∧
  (∀ (t ingress : Ns) (p : Port) (m : PtpMsg) (off : Rat) (s : State), (s.timeBegin t).up .tim = true → (s.timeBegin t).ptpPort p = true → m.domain = 0 → m.twoStep = false → ((s.timeBegin t).pdelay p).invalid = false → (s.timeBegin t).ptpOld ptSync m = false → (s.timeBegin t).time.isGm = false → ((s.timeBegin t).time.gm.map GmData.identity) = some (ptpClock m) → off = ((ingress : Int) + (s.timeBegin t).time.ringOff : Int) - (m.origin + m.correction + ((s.timeBegin t).pdelay p).mean) → (s.timeBegin t).time.state ≠ .locked → 10000 < absR off → Completes (.sync t p ingress m) s fun u =>
      u.time.ringOff = (s.timeBegin t).time.ringOff - roundAway off ∧ u.time.shipOff = (s.timeBegin t).time.shipOff + roundAway off ∧
      u.time.steps = (s.timeBegin t).time.steps + 1 ∧ u.time.stepped = true ∧ u.time.freq = (s.timeBegin t).time.freq ∧ u.clock = max s.clock t) ∧
  (∀ (t ingress : Ns) (p : Port) (m : PtpMsg) (s : State), (s.timeBegin t).up .tim = true → (s.timeBegin t).ptpPort p = true → m.domain = 0 → m.twoStep = false → ((s.timeBegin t).pdelay p).invalid = false → (s.timeBegin t).ptpOld ptSync m = false → (((s.timeBegin t).time.isGm = true ∨ ((s.timeBegin t).time.gm.map GmData.identity) ≠ some (ptpClock m))) → Completes (.sync t p ingress m) s fun u =>
      u.time.state = (s.timeBegin t).time.state ∧ u.time.ringOff = (s.timeBegin t).time.ringOff ∧ u.time.freq = (s.timeBegin t).time.freq ∧ u.time.lastSync = (s.timeBegin t).time.lastSync) ∧
  (∀ (t : Ns) (s : State), (s.timeBegin t).up .tim = true → (s.timeBegin t).time.isGm = true → (∀ l, (s.timeBegin t).time.syncSentAt = some l → l + (s.timeBegin t).time.cfg.syncNs ≤ max s.clock t) → Completes (.syncSend t) s fun u =>
      u.time.syncSeq = (s.timeBegin t).time.syncSeq + 1 ∧ u.time.syncSentAt = some (max s.clock t) ∧
      u.out = (s.timeBegin t).out ++ ([Port.a, .b, .l].filter (s.timeBegin t).ptpPort).map fun q =>
        .ptp q ptSync { domain := 0, twoStep := false, correction := 0, source := s.portIdentity, seq := (s.timeBegin t).time.syncSeq, origin := (s.timeBegin t).now } none) ∧
  (∀ (t l : Ns) (s : State), (s.timeBegin t).time.lastSync = some l → (s.timeBegin t).time.state = .locked → (s.timeBegin t).time.isGm = false → (s.timeBegin t).due .tim l (3 * (s.timeBegin t).time.cfg.syncNs) ≤ max s.clock t → Completes (.syncLoss t) s fun u => u.time.state = .holdover ∧ u.time.holdoverAt = max s.clock t ∧ u.time.ringOff = (s.timeBegin t).time.ringOff) ∧
  (∀ (t : Ns) (s : State), (s.timeBegin t).time.state = .holdover → (s.timeBegin t).time.holdoverAt + (s.timeBegin t).time.cfg.holdoverS * 1000000000 ≤ max s.clock t → Completes (.holdoverExpiry t) s fun u => u.time.state = .freeRun ∧ u.time.ringOff = (s.timeBegin t).time.ringOff) ∧
  (∀ (t : Ns) (org : Origin) (o : Bytes) (s : State), (s.timeBegin t).Admits org opTimeConfig [.tim] → timeOk o = true → (s.timeBegin t).timeSlave = false → (s.timeBegin t).time.cfgPending = none → (s.timeBegin t).storeOverflow (BitVec.ofNat 16 opTimeConfig) 0 o = false → Completes (.timeConfig t org o) s fun u =>
      u.time = { (s.timeBegin t).time with cfgPending := some (org, o, max s.clock t + (s.timeBegin t).time.cfg.syncNs - ((s.timeBegin t).now % ((s.timeBegin t).time.cfg.syncNs : Int)).toNat) })

/-- ANNOUNCE, its time-out, and the peer delay messages. An ANNOUNCE of a better grandmaster, or of the present one, is taken and
forwarded. A grandmaster announces itself at its interval. A node that hears none for its time-out becomes grandmaster where it
can, locked at once, and otherwise has none. A PDELAY_REQ is answered with its residence; a request is sent at its interval; a
response adds its measurement to the last eight; three intervals without a valid one make the delay invalid. The readings and
choices of the model that this rests on are log entries 52, 53. Rules: R391, R394, R395, R396. -/
def Obligations.Grandmasters : Prop :=
  (∀ (t ingress : Ns) (p : Port) (m : PtpMsg) (g : GmData) (s : State), (s.timeBegin t).up .tim = true → (s.timeBegin t).ptpPort p = true → m.domain = 0 → ingress ≤ max s.clock t → (s.timeBegin t).ptpOld ptAnnounce m = false → (((s.timeBegin t).time.cfg.gmCapable && !(s.timeBegin t).timeSlave) = false ∨ gmBetter g (s.timeBegin t).ownData = true) → (∀ cur, (s.timeBegin t).time.gm = some cur → (s.timeBegin t).time.isGm = true ∨ cur.identity = g.identity ∨ gmBetter g cur = true) → Completes (.announce t p ingress m g) s fun u =>
      u.time.gm = some g ∧ u.time.isGm = false ∧ u.time.lastBetter = max s.clock t ∧
      u.out = (s.timeBegin t).out ++ ((s.timeBegin t).ptpOthers p).map fun q => .ptp q ptAnnounce m (some g)) ∧
  (∀ (t : Ns) (s : State), (s.timeBegin t).up .tim = true → (s.timeBegin t).time.isGm = true → (∀ l, (s.timeBegin t).time.announceSentAt = some l → l + (s.timeBegin t).time.cfg.announceNs ≤ max s.clock t) → Completes (.announceSend t) s fun u =>
      u.time.announceSeq = (s.timeBegin t).time.announceSeq + 1 ∧ u.time.announceSentAt = some (max s.clock t) ∧
      u.out = (s.timeBegin t).out ++ ([Port.a, .b, .l].filter (s.timeBegin t).ptpPort).map fun q =>
        .ptp q ptAnnounce { domain := 0, twoStep := false, correction := 0, source := s.portIdentity, seq := (s.timeBegin t).time.announceSeq, origin := (s.timeBegin t).now } (some (s.timeBegin t).ownData)) ∧
  (∀ (t : Ns) (s : State), (s.timeBegin t).up .tim = true → (s.timeBegin t).time.isGm = false → (s.timeBegin t).due .tim (s.timeBegin t).time.lastBetter ((s.timeBegin t).time.cfg.announceTimeout * (s.timeBegin t).time.cfg.announceNs) ≤ max s.clock t → (s.timeBegin t).time.cfg.gmCapable = true → (s.timeBegin t).timeSlave = false → Completes (.announceTimeout t) s fun u =>
      u.time.isGm = true ∧ u.time.gm = some (s.timeBegin t).ownData ∧ u.time.state = .locked ∧ u.time.ringOff = (s.timeBegin t).time.ringOff) ∧
  (∀ (t : Ns) (s : State), (s.timeBegin t).up .tim = true → (s.timeBegin t).time.isGm = false → (s.timeBegin t).due .tim (s.timeBegin t).time.lastBetter ((s.timeBegin t).time.cfg.announceTimeout * (s.timeBegin t).time.cfg.announceNs) ≤ max s.clock t → ((s.timeBegin t).time.cfg.gmCapable && !(s.timeBegin t).timeSlave) = false → Completes (.announceTimeout t) s fun u =>
      u.time.isGm = false ∧ u.time.gm = none ∧
      u.time.state = (if (s.timeBegin t).time.state = .acquiring then .freeRun else (s.timeBegin t).time.state) ∧ u.time.ringOff = (s.timeBegin t).time.ringOff) ∧
  (∀ (t ingress : Ns) (p : Port) (m : PtpMsg) (s : State), (s.timeBegin t).up .tim = true → (s.timeBegin t).ptpPort p = true → m.domain = 0 → Completes (.pdelayReq t p ingress m) s fun u =>
      u.out = (s.timeBegin t).out ++ [.ptp p ptResp { domain := 0, twoStep := false, correction := ((max s.clock t - ingress : Nat) : Rat), source := s.portIdentity, seq := m.seq, origin := 0 } none] ∧
      u.pdelay p = { (s.timeBegin t).pdelay p with answered := satAdd 32 ((s.timeBegin t).pdelay p).answered 1 }) ∧
  (∀ (t : Ns) (p : Port) (s : State), (s.timeBegin t).up .tim = true → (s.timeBegin t).ptpPort p = true → (∀ l, ((s.timeBegin t).pdelay p).sentAt = some l → l + (s.timeBegin t).time.cfg.pdelayNs ≤ max s.clock t) → Completes (.pdelayReqSend t p) s fun u =>
      (u.pdelay p).pending = some (((s.timeBegin t).pdelay p).seq, max s.clock t) ∧ (u.pdelay p).seq = ((s.timeBegin t).pdelay p).seq + 1 ∧
      (u.pdelay p).meas = ((s.timeBegin t).pdelay p).meas ∧
      u.out = (s.timeBegin t).out ++ [.ptp p ptReq { domain := 0, twoStep := false, correction := 0, source := s.portIdentity, seq := ((s.timeBegin t).pdelay p).seq, origin := 0 } none]) ∧
  (∀ (t ingress t1 : Ns) (p : Port) (m : PtpMsg) (s : State), (s.timeBegin t).up .tim = true → (s.timeBegin t).ptpPort p = true → m.domain = 0 → m.twoStep = false → ((s.timeBegin t).pdelay p).pending = some (m.seq, t1) → 0 ≤ ((((ingress : Int) - t1 : Int) : Rat) - m.correction) / 2 → Completes (.pdelayResp t p ingress m) s fun u =>
      (u.pdelay p).meas = ((((((ingress : Int) - t1 : Int) : Rat) - m.correction) / 2) :: ((s.timeBegin t).pdelay p).meas).take 8 ∧
      (u.pdelay p).invalid = false ∧ (u.pdelay p).pending = none) ∧
  (∀ (t l : Ns) (p : Port) (s : State), ((s.timeBegin t).pdelay p).lastValid = some l → (s.timeBegin t).due .tim l (3 * (s.timeBegin t).time.cfg.pdelayNs) ≤ max s.clock t → Completes (.pdelayInvalid t p) s fun u => u.pdelay p = { (s.timeBegin t).pdelay p with invalid := true, meas := [] })

/-- SHIP_TIME_SET, PPS_IN and its absence, slews, PPS_OUT and the copy of ship time. An admitted SHIP_TIME_SET sets ship time at once
or waits for PPS_IN, and changes nothing while LATCH is set. PPS_IN sets ship time for a waiting command and is stamped; 1.5 s
without one end the wait with ship time as it was. A slew keeps what the one before added; its end has added its whole offset.
PPS_OUT rises at a second of its source. The copy of ship time is renewed every second. Ring time never changes in these. The
readings and choices of the model that this rests on are log entry 54. Rules: R399, R400, R401, R403, R404, R405, R410. -/
def Obligations.ShipTime : Prop :=
  (∀ (t : Ns) (org : Origin) (o : Bytes) (s : State), (s.timeBegin t).Admits org opShipTimeSet [.tim] → (s.timeBegin t).shipSetOk o = true → (s.timeBegin t).shipSetPolicy org = none → (s.timeBegin t).time.ppsWait = none → stPps o = false → Completes (.shipTimeSet t org o) s fun u =>
      u.time.ship = .set ∧ u.time.shipOff = (stValue o : Int) - stAt o ∧ u.time.latch = true ∧ u.time.ringOff = (s.timeBegin t).time.ringOff) ∧
  (∀ (t : Ns) (org : Origin) (o : Bytes) (s : State), (s.timeBegin t).Admits org opShipTimeSet [.tim] → (s.timeBegin t).shipSetOk o = true → (s.timeBegin t).shipSetPolicy org = none → (s.timeBegin t).time.ppsWait = none → stPps o = true → Completes (.shipTimeSet t org o) s fun u =>
      u.time = { (s.timeBegin t).time with ppsWait := some { org := org, value := stValue o, at_ := max s.clock t } }) ∧
  (∀ (t : Ns) (org : Origin) (o : Bytes) (s : State), (s.timeBegin t).Admits org opShipTimeSet [.tim] → o.length = 24 → (s.timeBegin t).time.latch = true → Completes (.shipTimeSet t org o) s fun u => u.time = (s.timeBegin t).time) ∧
  (∀ (t : Ns) (w : PpsWait) (s : State), (s.timeBegin t).up .tim = true → (s.timeBegin t).time.ppsWait = some w → isPartner w.org = false → (s.timeBegin t).ppsLate w = false → Completes (.ppsIn t) s fun u =>
      u.time.ppsWait = none ∧ u.time.ship = .set ∧ u.time.shipOff = (w.value : Int) - (s.timeBegin t).now ∧ u.time.latch = true ∧
      (u.time.ppsIn.head?.map Prod.fst) = some (s.timeBegin t).now) ∧
  (∀ (t : Ns) (s : State), (s.timeBegin t).up .tim = true → (s.timeBegin t).time.ppsWait = none → Completes (.ppsIn t) s fun u =>
      u.time = { (s.timeBegin t).time with ppsIn := (((s.timeBegin t).now, if (s.timeBegin t).time.ship = .set then some (s.timeBegin t).shipNow else none) :: (s.timeBegin t).time.ppsIn).take 8 }) ∧
  (∀ (t : Ns) (w : PpsWait) (s : State), (s.timeBegin t).time.ppsWait = some w → (s.timeBegin t).ppsLate w = true → Completes (.ppsMissing t) s fun u =>
      u.time.ppsWait = none ∧ u.time.ship = (s.timeBegin t).time.ship ∧ u.time.shipOff = (s.timeBegin t).time.shipOff ∧ u.time.latch = (s.timeBegin t).time.latch) ∧
  (∀ (t : Ns) (org : Origin) (o : Bytes) (s : State), (s.timeBegin t).Admits org opShipTimeSlew [.tim] → slewOk o = true → (s.timeBegin t).timeSlave = false → (s.timeBegin t).time.ship = .set → Completes (.shipTimeSlew t org o) s fun u =>
      u.time.slew = some { org := org, offset := slOffset o, rate := slRate o, start := max s.clock t } ∧
      u.time.shipOff = (s.timeBegin t).time.shipOff + (((s.timeBegin t).time.slew.map fun w => w.added (max s.clock t)).getD 0) ∧ u.time.ship = .set) ∧
  (∀ (t : Ns) (w : Slew) (s : State), (s.timeBegin t).time.slew = some w → w.added (max s.clock t) = w.offset → Completes (.slewEnd t) s fun u =>
      u.time.slew = none ∧ u.time.shipOff = (s.timeBegin t).time.shipOff + w.offset ∧ u.time.slewLast = (w.offset, w.offset, w.rate)) ∧
  (∀ (t : Ns) (s : State), (s.timeBegin t).up .tim = true → (s.timeBegin t).time.cfg.ppsSrc = 1 → nearSecond (s.timeBegin t).now = true → (s.timeBegin t).time.ppsOutLast ≠ some (((s.timeBegin t).now + 10) / 1000000000) → Completes (.ppsOut t) s fun u =>
      u.time.ppsOutHigh = true ∧ u.time.ppsOutUntil = max s.clock t + (s.timeBegin t).time.cfg.ppsWidth * 1000000 ∧ u.out = (s.timeBegin t).out ++ [.pin "PPS_OUT" true]) ∧
  (∀ (t : Ns) (s : State), (s.timeBegin t).up .tim = true → (s.timeBegin t).up .aon = true → (s.timeBegin t).mod.powered = true → (s.timeBegin t).time.ship ≠ .unset → (∀ x, (s.timeBegin t).time.aonShip = some x → x.2 + 1000000000 ≤ max s.clock t) → Completes (.aonShipTimeCopy t) s fun u => u.time = { (s.timeBegin t).time with aonShip := some ((s.timeBegin t).shipNow, max s.clock t) })

/-- SQ tail, CQ head and EQ head doorbells, and the posting of events. A good SQ tail doorbell sets the tail and stamps each
descriptor posted; a bad one changes neither, counts and sets DOORBELL. Good CQ and EQ heads are taken. An event goes to the EQ
slot at the tail with its sequence number and phase when there is room, and is held in order otherwise, up to 256. Other queues
keep their state. The readings and choices of the model that this rests on are log entry 61. Rules: R416, R417, R419, R420, R436,
R439, R441. -/
def Obligations.Doorbells : Prop :=
  (∀ (t : Ns) (n : Fin 8) (v : Word) (s : State), s.hifLive = true → s.hif.sqs[n].enable = true → doorbellBad (2 ^ s.hif.sqs[n].log2.toNat) v.toNat = false → span (2 ^ s.hif.sqs[n].log2.toNat) s.hif.sqs[n].head s.hif.sqs[n].tail ≤ span (2 ^ s.hif.sqs[n].log2.toNat) s.hif.sqs[n].head v.toNat → Completes (.sqTailDoorbell t n v) s fun u =>
      u.hif.sqs[n].tail = v.toNat ∧ u.hif.sqs[n].head = s.hif.sqs[n].head ∧ u.hif.err = s.hif.err ∧
      u.hif.sqs[n].posted.length = s.hif.sqs[n].posted.length + span (2 ^ s.hif.sqs[n].log2.toNat) s.hif.sqs[n].tail v.toNat ∧
      (u.hif.sqs[n].posted.all fun x => s.hif.sqs[n].posted.contains x || x == (s.begin t).now) = true ∧ ∀ k : Fin 8, k ≠ n → u.hif.sqs[k] = s.hif.sqs[k]) ∧
  (∀ (t : Ns) (n : Fin 8) (v : Word) (s : State), s.hifLive = true → s.hif.sqs[n].enable = true → doorbellBad (2 ^ s.hif.sqs[n].log2.toNat) v.toNat = true → Completes (.sqTailDoorbell t n v) s fun u =>
      u.hif.sqs[n].tail = s.hif.sqs[n].tail ∧ u.hif.sqs[n].posted = s.hif.sqs[n].posted ∧
      u.hif.sqs[n].ignored = satAdd 32 s.hif.sqs[n].ignored 1 ∧ u.hif.err.getLsbD 0 = true ∧ ∀ k : Fin 8, k ≠ n → u.hif.sqs[k] = s.hif.sqs[k]) ∧
  (∀ (t : Ns) (n : Fin 8) (v : Word) (s : State), s.hifLive = true → s.hif.cqs[n].enable = true → doorbellBad s.hif.cqs[n].size v.toNat = false → span s.hif.cqs[n].size s.hif.cqs[n].head v.toNat ≤ span s.hif.cqs[n].size s.hif.cqs[n].head s.hif.cqs[n].tail → Completes (.cqHeadDoorbell t n v) s fun u => u.hif.cqs[n] = { s.hif.cqs[n] with head := v.toNat } ∧ ∀ k : Fin 8, k ≠ n → u.hif.cqs[k] = s.hif.cqs[k]) ∧
  (∀ (t : Ns) (v : Word) (s : State), s.hifLive = true → s.hif.eq.enable = true → doorbellBad s.hif.eq.size v.toNat = false → span s.hif.eq.size s.hif.eq.head v.toNat ≤ span s.hif.eq.size s.hif.eq.head s.hif.eq.tail → Completes (.eqHeadDoorbell t v) s fun u => u.hif.eq.head = v.toNat ∧ u.hif.sqs = s.hif.sqs ∧ u.hif.cqs = s.hif.cqs) ∧
  (∀ (t : Ns) (ty : BitVec 16) (i : Nat) (d : Bytes) (s : State), s.hif.eq.room = true → s.hif.held = [] → s.hif.discarded = 0 → s.hif.reports = [] → Completes (.eventPost t ty i d) s fun u =>
      u.out.head? = some (.event s.hif.eq.tail (({ type := ty, inst := i, seq := s.hif.eventSeq, stamp := (s.begin t).now, data := d } : Event).bytes s.hif.eq.phase)) ∧
      u.hif.eventSeq = s.hif.eventSeq + 1 ∧ u.hif.eq.tail = (s.hif.eq.tail + 1) % s.hif.eq.size ∧ u.hif.held = []) ∧
  (∀ (t : Ns) (ty : BitVec 16) (i : Nat) (d : Bytes) (s : State), s.hif.eq.room = false → s.hif.held.length < 256 → Completes (.eventPost t ty i d) s fun u =>
      u.hif.held = s.hif.held ++ [{ type := ty, inst := i, seq := s.hif.eventSeq, stamp := (s.begin t).now, data := d }] ∧
      u.hif.eventSeq = s.hif.eventSeq + 1 ∧ u.hif.eq = s.hif.eq)

/-- DESCRIPTOR_FETCH, DESCRIPTOR_START, COMPLETION_WRITE, coalescing, NOP and STATE_READ. A fetch takes the descriptor at the head of
the queue picked, with its posting stamp, and advances the head; an unknown opcode completes with its status. A descriptor that
may start is stamped. A completion is written once, in commit order and when the CQ has room, and leaves its tag. The coalescing
time sends or pends the vector. NOP completes DONE and changes nothing else. A STATE_READ of a loop, at any instant between
commands, clears the slip flag of that loop alone and no channel, group or axis. The readings and choices of the model that this
rests on are log entries 13, 62, 80. Rules: R378, R413, R416, R423, R425, R426, R429, R432, R436, R438, R442, R443. -/
def Obligations.Descriptors : Prop :=
  (∀ (t : Ns) (n : Fin 8) (d : Bytes) (data : Option Bytes) (g : Tag) (s : State), s.hifLive = true → s.hif.pick = some n → d.length = 64 → g = { id := s.hif.nextId, sq := n, cls := s.hif.sqs[n].cls, desc := d, data := data, accepted := s.hif.sqs[n].posted.headD (s.begin t).now } → (((s.begin t).updHif fun h => { h with lastServed := h.lastServed.set (Fin.ofNat 4 s.hif.sqs[n].cls.toNat) n }).updHif (Hif.accept n g)).admitDesc (.host s.hif.nextId) d data = none → Completes (.descriptorFetch t (some d) data) s fun u =>
      u.hif.tags = s.hif.tags ++ [g] ∧ u.hif.nextId = s.hif.nextId + 1 ∧ u.hif.sqs[n].head = (s.hif.sqs[n].head + 1) % 2 ^ s.hif.sqs[n].log2.toNat ∧
      u.hif.sqs[n].posted = s.hif.sqs[n].posted.drop 1 ∧ ∀ k : Fin 8, k ≠ n → u.hif.sqs[k] = s.hif.sqs[k]) ∧
  (∀ (t : Ns) (n : Fin 8) (d : Bytes) (data : Option Bytes) (s : State), s.hifLive = true → s.hif.pick = some n → d.length = 64 → opTable.contains (descOp d) = false → (∀ g ∈ s.hif.tags, g.id ≠ s.hif.nextId) → Completes (.descriptorFetch t (some d) data) s fun u =>
      (u.hif.tags.getLast?.map fun g => (g.id, g.outcome)) = some (s.hif.nextId, some (.error stUnknownOpcode, max s.clock t)) ∧
      u.hif.tags.length = s.hif.tags.length + 1) ∧
  (∀ (t : Ns) (id : Nat) (g : Tag) (s : State), s.up .hif = true → s.hif.tags.find? (fun x => x.id = id) = some g → g.started = none → g.outcome = none → s.hif.mayStart g = true → s.hostPolicy (.host id) g.desc = none → s.inStep = false → descTunnel g.desc = false → Completes (.descriptorStart t id) s fun u =>
      u = { s.begin t with hif := s.hif.updTag id fun x => { x with started := some (s.begin t).now } }) ∧
  (∀ (t : Ns) (id : Nat) (g : Tag) (o : Outcome) (c : Ns) (s : State), s.hifLive = true → s.hif.tags.find? (fun x => x.id = id) = some g → g.outcome = some (o, c) → s.hif.cqs[s.hif.sqs[g.sq].cq].room = true → s.hif.earlierCommit s.hif.sqs[g.sq].cq c = false → Completes (.completionWrite t id) s fun u =>
      (u.hif.tags.all fun x => x.id != id) = true ∧
      (u.out.contains (.completion s.hif.sqs[g.sq].cq s.hif.cqs[s.hif.sqs[g.sq].cq].tail (completionBytes (BitVec.ofNat 32 (rd g.desc 4 4)) g.sq.val
        (g.waitUs (s.begin t).now) s.hif.cqs[s.hif.sqs[g.sq].cq].phase (if o.writes then o else { o with result := [], needed := none })))) = true ∧
      u.hif.cqs[s.hif.sqs[g.sq].cq].tail = (s.hif.cqs[s.hif.sqs[g.sq].cq].tail + 1) % s.hif.cqs[s.hif.sqs[g.sq].cq].size) ∧
  (∀ (t : Ns) (n : Fin 8) (s : State), s.hifLive = true → s.hif.cqs[n].coalDue (max s.clock t) = true → Completes (.coalescingTimeout t ⟨n.val, Nat.lt_succ_of_lt n.isLt⟩) s fun u =>
      u.hif.cqs[n] = { s.hif.cqs[n] with unsignalled := 0, firstAt := none } ∧
      (s.hif.msix[s.hif.cqs[n].vector].masked = false → u.out = [.msix s.hif.cqs[n].vector]) ∧
      (s.hif.msix[s.hif.cqs[n].vector].masked = true → u.hif.msix[s.hif.cqs[n].vector].pending = true) ∧ ∀ k : Fin 8, k ≠ n → u.hif.cqs[k] = s.hif.cqs[k]) ∧
  (∀ (t : Ns) (org : Origin) (s : State), (s.begin t).Admits org opNop [] → Completes (.nop t org) s fun u => u = (s.begin t).complete org .done) ∧
  (∀ (t : Ns) (org : Origin) (p : Bytes) (s : State), (s.begin t).Admits org opStateRead [.svc, mapIsland (rd p 0 4 / 2 ^ 24 % 256)] → p.length = 16 → stateParamOk p = true → rd p 0 4 / 2 ^ 24 % 256 = 0x20 → rd p 0 4 % 4096 = 0 → rd p 0 4 / 2 ^ 12 % 4096 < 64 → Completes (.stateRead t org p) s fun u =>
      (∀ lp : Fin 64, u.loops[lp].cfg = s.loops[lp].cfg ∧ (lp.val ≠ rd p 0 4 / 2 ^ 12 % 4096 → u.loops[lp] = s.loops[lp]) ∧
        (lp.val = rd p 0 4 / 2 ^ 12 % 4096 → u.loops[lp].slipFlag = false)) ∧ u.chans = s.chans ∧ u.groups = s.groups ∧ u.axes = s.axes)

/-- Enabling and disabling submission, completion and event queues. A write of the control register with ENABLE to a disabled queue of
legal size, and for an SQ with its CQ enabled, enables it empty with the fields written; without ENABLE it disables an enabled SQ,
which keeps its tags, or EQ, which keeps the events held. Other queues keep their state. The readings and choices of the model
that this rests on are log entry 61. Rules: R421, R422, R441, R447, R559, R560. -/
def Obligations.QueueSetUp : Prop :=
  (∀ (t : Ns) (n : Fin 8) (v : Word) (s : State), s.hifLive = true → s.hif.sqs[n].enable = false → v.getLsbD 8 = true → 4 ≤ s.hif.sqs[n].log2 ∧ s.hif.sqs[n].log2 ≤ 12 → s.hif.cqs[Fin.ofNat 8 (bitsOf v.toNat 6 4)].enable = true → Completes (.hifSqCtlWrite t n v) s fun u =>
      u.hif.sqs[n] = { s.hif.sqs[n] with cls := BitVec.ofNat 2 v.toNat, cq := Fin.ofNat 8 (bitsOf v.toNat 6 4), enable := true, head := 0, tail := 0, posted := [] } ∧
      u.hif.err = s.hif.err ∧ ∀ k : Fin 8, k ≠ n → u.hif.sqs[k] = s.hif.sqs[k]) ∧
  (∀ (t : Ns) (n : Fin 8) (v : Word) (s : State), s.hifLive = true → s.hif.sqs[n].enable = true → v.getLsbD 8 = false → Completes (.hifSqCtlWrite t n v) s fun u =>
      u.hif.sqs[n] = { s.hif.sqs[n] with enable := false, posted := [] } ∧ u.hif.tags.map Tag.id = s.hif.tags.map Tag.id ∧ ∀ k : Fin 8, k ≠ n → u.hif.sqs[k] = s.hif.sqs[k]) ∧
  (∀ (t : Ns) (n : Fin 8) (v : Word) (s : State), s.hifLive = true → s.hif.cqs[n].enable = false → v.getLsbD 31 = true → 4 ≤ s.hif.cqs[n].log2 ∧ s.hif.cqs[n].log2 ≤ 12 → ctlInRange v = true → Completes (.hifCqCtlWrite t n v) s fun u =>
      u.hif.cqs[n] = { s.hif.cqs[n] with
        vector := ctlVector v, coalCount := ctlCount v, coalUs := ctlUs v, enable := true, head := 0, tail := 0, phase := true, unsignalled := 0, firstAt := none } ∧
      u.hif.err = s.hif.err ∧ ∀ k : Fin 8, k ≠ n → u.hif.cqs[k] = s.hif.cqs[k]) ∧
  (∀ (t : Ns) (v : Word) (s : State), s.hifLive = true → s.hif.eq.enable = true → v.getLsbD 31 = false → Completes (.hifEqCtlWrite t v) s fun u =>
      u.hif.eq = { s.hif.eq with enable := false } ∧ u.hif.sqs = s.hif.sqs ∧ u.hif.cqs = s.hif.cqs ∧ u.hif.held = s.hif.held) ∧
  (∀ (t : Ns) (v : Word) (s : State), s.hifLive = true → s.hif.eq.enable = false → v.getLsbD 31 = true → 4 ≤ s.hif.eq.log2 ∧ s.hif.eq.log2 ≤ 12 → ctlInRange v = true → s.hif.held = [] → s.hif.reports = [] → s.hif.discarded = 0 → Completes (.hifEqCtlWrite t v) s fun u =>
      u.hif.eq = { s.hif.eq with
        vector := ctlVector v, coalCount := ctlCount v, coalUs := ctlUs v, enable := true, head := 0, tail := 0, phase := true, unsignalled := 0, firstAt := none } ∧
      u.hif.reporting = true)

/-- Soft reset, function reset, PERST_N, D3hot, link changes and unsupported requests. A soft reset, a function-level reset, PERST_N
and a D3hot entry with queues enabled clear tags and queues, discard the held events by count, report each aborted descriptor and
start a new host epoch; PERST_N also makes the function not ready and its domain off. D3hot without queues sleeps, D0 returns, the
link goes down and up with a new epoch after a loss. Released from PERST_N, and when the link comes up, a powered function shows
its identity. An access that is no aligned 32-bit one is unsupported and changes nothing. The readings and choices of the model
that this rests on are log entries 63, 120. Rules: R411, R412, R414, R446, R450, R451, R453, R605. -/
def Obligations.FunctionResets : Prop :=
  (∀ (t : Ns) (v : Word) (s : State), s.barOpen = true → v.getLsbD 0 = true → Completes (.hifSoftReset t v) s fun u =>
      u.hif.tags = [] ∧ u.hif.sqs = Vector.replicate 8 {} ∧ u.hif.cqs = Vector.replicate 8 {} ∧ u.hif.eq = {} ∧ u.hif.held = [] ∧
      u.hif.discarded = s.hif.discarded + s.hif.held.length ∧ u.hif.reports.map AbortReport.id = s.hif.tags.map Tag.id ∧
      u.epochOf .host = s.epochOf .host + 1 ∧ u.hif.ready = !s.hif.perstLow) ∧
  (∀ (t : Ns) (s : State), s.hif.perstLow = false → s.hif.linkSpeed ≠ 0 → Completes (.functionLevelReset t) s fun u =>
      u.hif.tags = [] ∧ u.hif.sqs = Vector.replicate 8 {} ∧ u.hif.cqs = Vector.replicate 8 {} ∧ u.hif.eq = {} ∧ u.hif.held = [] ∧
      u.hif.discarded = s.hif.discarded + s.hif.held.length ∧ u.hif.reports.map AbortReport.id = s.hif.tags.map Tag.id ∧
      u.epochOf .host = s.epochOf .host + 1 ∧ u.hif.linkSpeed = s.hif.linkSpeed) ∧
  (∀ (t : Ns) (s : State), s.hif.perstLow = false → Completes (.perstN t) s fun u =>
      u.hif.tags = [] ∧ u.hif.sqs = Vector.replicate 8 {} ∧ u.hif.cqs = Vector.replicate 8 {} ∧ u.hif.eq = {} ∧ u.hif.held = [] ∧
      u.hif.discarded = s.hif.discarded + s.hif.held.length ∧ u.hif.reports.map AbortReport.id = s.hif.tags.map Tag.id ∧
      u.epochOf .host = s.epochOf .host + 1 ∧ u.hif.perstLow = true ∧ u.hif.ready = false ∧ u.domain .host = .off) ∧
  (∀ (t : Ns) (s : State), s.hif.perstLow = true → Completes (.perstNRelease t) s fun u =>
      u.hif = { s.hif with perstLow := false, ready := s.up .hif } ∧ (s.mod.powered = true → s.up .hif = true →
        .configSpace 0x1F7C 0x0128 Config.hwMajor 0x088000 0x1F7C (if Config.isX then 2 else 1) ∈ u.out)) ∧
  (∀ (t : Ns) (s : State), s.hif.d3hot = false → s.hif.perstLow = false → s.hif.linkSpeed ≠ 0 → s.hif.anyEnabled = false → Completes (.d3hotEntry t) s fun u =>
      u.hif = { s.hif with d3hot := true, wakeN := s.hif.held.isEmpty } ∧ u.domain .host = .sleep) ∧
  (∀ (t : Ns) (s : State), s.hif.d3hot = false → s.hif.perstLow = false → s.hif.linkSpeed ≠ 0 → s.hif.anyEnabled = true → Completes (.d3hotEntry t) s fun u =>
      u.hif.tags = [] ∧ u.hif.sqs = Vector.replicate 8 {} ∧ u.hif.cqs = Vector.replicate 8 {} ∧ u.hif.eq = {} ∧ u.hif.held = [] ∧
      u.hif.discarded = s.hif.discarded + s.hif.held.length ∧ u.hif.reports.map AbortReport.id = s.hif.tags.map Tag.id ∧
      u.epochOf .host = s.epochOf .host + 1 ∧ u.hif.d3hot = true) ∧
  (∀ (t : Ns) (s : State), s.hif.d3hot = true → s.hif.perstLow = false → s.hif.linkSpeed ≠ 0 → s.hif.ready = true → Completes (.d0Return t) s fun u => u.hif = { s.hif with d3hot := false, wakeN := true } ∧ u.domain .host = .on) ∧
  (∀ (t : Ns) (s : State), s.hif.linkSpeed ≠ 0 → Completes (.pcieLinkDown t) s fun u =>
      u.hif = { s.hif with linkSpeed := 0, linkLost := true, wakeN := s.hif.held.isEmpty } ∧ u.domain .host = .off) ∧
  (∀ (t : Ns) (v : BitVec 2) (s : State), s.hif.perstLow = false → s.hif.linkSpeed = 0 → (v = 1 ∨ v = 2) → Completes (.pcieLinkUp t v) s fun u =>
      u.hif.linkSpeed = v ∧ u.hif.linkLost = false ∧ u.hif.tags = s.hif.tags ∧
      u.epochOf .host = s.epochOf .host + (if s.hif.linkLost then 1 else 0) ∧
      (s.mod.powered = true → s.up .hif = true → .configSpace 0x1F7C 0x0128 Config.hwMajor 0x088000 0x1F7C (if Config.isX then 2 else 1) ∈ u.out)) ∧
  (∀ (t : Ns) (bar offset size : Nat) (s : State), Completes (.unsupportedRequest t bar offset size) s fun u =>
      u = { s.begin t with out := if size = 4 ∧ offset % 4 = 0 then [] else [.unsupported] })

/-- Mailbox data, post, take, withdraw, expiry and binding. The bound sender of an idle mailbox writes its data and posts it with
stamps, epochs and counts; a writer not bound sets NOT_BOUND; a post to a full mailbox is refused and counted. The bound receiver
takes a posted one, and a take after the deadline also sets ACK_EXPIRED. While SVC does not answer, a take has no effect and gets
the crossing code. A withdrawal clears a post, or is late when it was taken. A deadline that passes sets ACK_EXPIRED. A legal
binding write to an idle unlocked mailbox binds it; under the lock it sets an error. Other mailboxes keep their state. The
readings and choices of the model that this rests on are log entries 65, 122. Rules: R40, R42, R454, R458, R460, R461, R462, R463,
R466, R472, R552. -/
def Obligations.Mailboxes : Prop :=
  (∀ (t : Ns) (who : Ident) (n : Fin 32) (j : Fin 16) (v : Word) (s : State), s.islandCode .svc = none → s.bindSender n = who → s.mb.boxes[n].go = false → s.receiverOff n = false → Completes (.mbDataWrite t who n j v) s fun u =>
      u.mb.boxes[n] = { s.mb.boxes[n] with data := s.mb.boxes[n].data.set j v } ∧ ∀ k : Fin 32, k ≠ n → u.mb.boxes[k] = s.mb.boxes[k]) ∧
  (∀ (t : Ns) (who : Ident) (n : Fin 32) (j : Fin 16) (v : Word) (s : State), s.islandCode .svc = none → s.bindSender n ≠ who → s.receiverOff n = false → Completes (.mbDataWrite t who n j v) s fun u =>
      u.mb = { s.mb with notBound := true } ∧ u.out = []) ∧
  (∀ (t : Ns) (who : Ident) (n : Fin 32) (s : State), s.islandCode .svc = none → s.bindSender n = who → s.bindEnabled n = true → s.mb.boxes[n].go = false → s.receiverOff n = false → s.bindReceiver n ≠ .saf → Completes (.mbPost t who n) s fun u =>
      u.mb.boxes[n].go = true ∧ u.mb.boxes[n].taken = false ∧ u.mb.boxes[n].postErr = false ∧ u.mb.boxes[n].withdrawn = false ∧
      u.mb.boxes[n].data = s.mb.boxes[n].data ∧ u.mb.boxes[n].sender.toNat = who.code ∧
      u.mb.boxes[n].receiver.toNat = (s.bindReceiver n).code ∧ u.mb.boxes[n].sndEpoch = s.epochOf who ∧
      u.mb.boxes[n].rcvEpoch = s.epochOf (s.bindReceiver n) ∧ u.mb.boxes[n].postStamp = ((s.begin t).now % 2 ^ 64).toNat ∧
      u.mb.boxes[n].posts = s.mb.boxes[n].posts + 1 ∧ ∀ k : Fin 32, k ≠ n → u.mb.boxes[k] = { s.mb.boxes[k] with crossed := u.mb.boxes[k].crossed }) ∧
  (∀ (t : Ns) (who : Ident) (n : Fin 32) (s : State), s.islandCode .svc = none → s.bindSender n = who → s.mb.boxes[n].go = true → Completes (.mbPost t who n) s fun u =>
      u.mb.boxes[n] = { s.mb.boxes[n] with postErr := true, cause := 1, refusedPosts := s.mb.boxes[n].refusedPosts + 1 } ∧ ∀ k : Fin 32, k ≠ n → u.mb.boxes[k] = s.mb.boxes[k]) ∧
  (∀ (t : Ns) (who : Ident) (n : Fin 32) (s : State), s.islandCode .svc = none → s.bindReceiver n = who → s.mb.boxes[n].go = true → s.receiverOff n = false → (∀ d, s.ackDeadline n = some d → max s.clock t ≤ d) → Completes (.mbTake t who n) s fun u =>
      u.mb.boxes[n] = { s.mb.boxes[n] with
        go := false, taken := true, takenStamp := ((s.begin t).now % 2 ^ 64).toNat, takenAt := some (max s.clock t), deadline := none } ∧ ∀ k : Fin 32, k ≠ n → u.mb.boxes[k] = s.mb.boxes[k]) ∧
  (∀ (t : Ns) (who : Ident) (n : Fin 32) (d : Ns) (s : State), s.islandCode .svc = none → s.bindReceiver n = who → s.mb.boxes[n].go = true → s.receiverOff n = false → s.ackDeadline n = some d → d < max s.clock t → Completes (.mbTake t who n) s fun u =>
      u.mb.boxes[n] = { s.mb.boxes[n] with
        go := false, taken := true, takenStamp := ((s.begin t).now % 2 ^ 64).toNat, takenAt := some (max s.clock t), deadline := none,
        ackExpired := true } ∧ ∀ k : Fin 32, k ≠ n → u.mb.boxes[k] = s.mb.boxes[k]) ∧
  (∀ (t : Ns) (who : Ident) (n : Fin 32) (c : CrossCode) (s : State), s.islandCode .svc = some c → Completes (.mbTake t who n) s fun u => u = (s.begin t).emit (.crossingError who.island .svc c)) ∧
  (∀ (t : Ns) (who : Ident) (n : Fin 32) (s : State), s.islandCode .svc = none → s.bindSender n = who → s.mb.boxes[n].go = true → s.receiverOff n = false → s.bindReceiver n ≠ .partner → Completes (.withdraw t who n) s fun u =>
      u.mb.boxes[n] = { s.mb.boxes[n] with go := false, withdrawn := true, wdPending := false, deadline := none } ∧ ∀ k : Fin 32, k ≠ n → u.mb.boxes[k] = s.mb.boxes[k]) ∧
  (∀ (t : Ns) (who : Ident) (n : Fin 32) (s : State), s.islandCode .svc = none → s.bindSender n = who → s.mb.boxes[n].go = false → s.mb.boxes[n].taken = true → s.receiverOff n = false → Completes (.withdraw t who n) s fun u =>
      u.mb.boxes[n] = { s.mb.boxes[n] with wdLate := true, wdPending := false } ∧ ∀ k : Fin 32, k ≠ n → u.mb.boxes[k] = s.mb.boxes[k]) ∧
  (∀ (t : Ns) (n : Fin 32) (d : Ns) (s : State), s.mb.boxes[n].go = true → s.ackDeadline n = some d → d < max s.clock t → s.takesKnown n d = true → Completes (.ackExpired t ⟨n, []⟩) s fun u =>
      u.mb.boxes[n] = { s.mb.boxes[n] with ackExpired := true, deadline := none } ∧ ∀ k : Fin 32, k ≠ n → u.mb.boxes[k] = s.mb.boxes[k]) ∧
  (∀ (t : Ns) (n : Fin 32) (v : Word) (s : State), s.up .svc = true → s.lockMb = false → s.mb.boxes[n].go = false → bindingOk s.isPair v.toNat = true → Completes (.mbBindWrite t n v) s fun u =>
      u.bindSender n = Ident.ofCode (bitsOf v.toNat 7 4) ∧ u.bindReceiver n = Ident.ofCode (bitsOf v.toNat 3 0) ∧
      u.bindEnabled n = (bitsOf v.toNat 12 12 == 1) ∧ u.mb.boxes = s.mb.boxes ∧ u.mb.bindErr = s.mb.bindErr ∧
      ∀ k : Fin 32, k ≠ n → u.mb.bind[k] = s.mb.bind[k]) ∧
  (∀ (t : Ns) (n : Fin 32) (v : Word) (s : State), s.up .svc = true → s.lockMb = true → Completes (.mbBindWrite t n v) s fun u =>
      u.mb = { s.mb with bindErr := true } ∧ u.regs.modErr.getLsbD meLockedWrite = true)

/-- Register writes: clear bits, vectors, bases, MORDANT, SAFE_EN, TEST_CLR, test controls, JOIN_INHIBIT. MOD_ERR and HIF_QUEUE_ERR
clear the bits written 1. Unmasking a pending vector sends it. A base of an enabled SQ and a read-only register ignore the write.
MORDANT only sets bits. SAFE_EN changes the groups with no configuration, and none under its lock, with the error. TEST_CLR clears
test controls, the service UART sets one in test mode, and JOIN_INHIBIT takes bit 0. Every other register keeps its value. The
readings and choices of the model that this rests on are log entries 64, 78. Rules: R12, R539, R540, R545, R551, R552, R554, R555,
R556, R557, R565, R571. -/
def Obligations.Registers : Prop :=
  (∀ (t : Ns) (v : Word) (s : State), s.barOpen = true → s.up .svc = true → Completes (.registerWrite t 0x118 v) s fun u =>
      u = { s.begin t with regs := { s.regs with modErr := s.regs.modErr &&& ~~~ v.setWidth 4 } }) ∧
  (∀ (t : Ns) (v : Word) (s : State), s.barOpen = true → Completes (.registerWrite t 0x1008 v) s fun u =>
      u = { s.begin t with hif := { s.hif with err := s.hif.err &&& ~~~ v.setWidth 5 } }) ∧
  (∀ (t : Ns) (k : Fin 16) (v : Word) (s : State), s.barOpen = true → s.hif.msix[k].pending = true → v.getLsbD 0 = false → Completes (.registerWrite t (0xF00C + 16 * k.val) v) s fun u =>
      u.out = [.msix k] ∧ u.hif.msix[k] = { s.hif.msix[k] with masked := false, pending := false } ∧
      ∀ j : Fin 16, j ≠ k → u.hif.msix[j] = s.hif.msix[j]) ∧
  (∀ (t : Ns) (n : Fin 8) (v : Word) (s : State), s.hifLive = true → s.hif.sqs[n].enable = true → Completes (.registerWrite t (0x1100 + 32 * n.val) v) s fun u => u = s.begin t) ∧
  (∀ (t : Ns) (off : Nat) (v : Word) (s : State), off < 0x118 → Completes (.registerWrite t off v) s fun u => u = s.begin t) ∧
  (∀ (t : Ns) (v : Word) (s : State), s.svcServes = true → Completes (.mordantWrite t v) s fun u =>
      u.mordant = s.mordant ||| (v &&& 0x1F) ∧ u.regs = { s.regs with mordant := Tmr.of u.mordant }) ∧
  (∀ (t : Ns) (v : Word) (s : State), s.svcServes = true → s.lockSafeEn = false → s.regs.testCtl = 0 → Completes (.safeEnWrite t v) s fun u =>
      (∀ g : Fin 8, u.safetyGroup g = if s.groups[g].cfg = none ∧ s.groups[g].change = none then v.getLsbD g.val else s.safetyGroup g) ∧
      u.regs.testCtl = 0 ∧ u.groups = s.groups ∧ u.chans = s.chans) ∧
  (∀ (t : Ns) (v : Word) (s : State), s.svcServes = true → s.lockSafeEn = true → Completes (.safeEnWrite t v) s fun u =>
      u.regs = { s.regs with modErr := u.regs.modErr, lastOffset := 0x114 } ∧ u.regs.modErr.getLsbD meLockedWrite = true) ∧
  (∀ (t : Ns) (v : Word) (s : State), s.svcServes = true → Completes (.testClrWrite t v) s fun u =>
      u.regs = { s.regs with testCtl := s.regs.testCtl &&& ~~~ BitVec.ofNat 24 (v.toNat / 256) }) ∧
  (∀ (t : Ns) (g : Fin 8) (c : TestCtl) (set : Bool) (s : State), s.mod.testMode = true → s.up .svc = true → Completes (.serviceUartTestControl t g c set) s fun u =>
      u.regs = { s.regs with testCtl := u.regs.testCtl } ∧ u.regs.testCtl.getLsbD (testCtlBase c + g.val) = set ∧
      ∀ i : Fin 24, i.val ≠ testCtlBase c + g.val → u.regs.testCtl.getLsbD i.val = s.regs.testCtl.getLsbD i.val) ∧
  (∀ (t : Ns) (v : Word) (s : State), s.svcServes = true → Completes (.joinInhibitWrite t v) s fun u => u = { s.begin t with regs := { s.regs with joinInhibit := v.getLsbD 0 } })

/-- Scrubbing of voted registers, ring identity registers and image keys. Equal copies scrub to themselves; one copy of SAFE_EN that
differs is mended, counted and named; three copies of ROLE that differ drive RESET_N with cause TMR. A legal ring identity write
that nothing holds off takes effect and changes the configuration store, the old identity serving until the next bus cycle; one
while cyclic frames are sent, or of a bad value, is refused with the error. Key words of an invalid key are written and clear
KEY_BAD; KEY_VALID follows the decoding of the key; under the lock nothing changes but the error. Other keys keep their bits. The
readings and choices of the model that this rests on are log entries 78, 79, 100, 127. Rules: R540, R548, R550, R552, R562, R566. -/
def Obligations.VotedRegistersAndKeys : Prop :=
  (∀ (t : Ns) (s : State), (∀ r ∈ tmrAll, (s.copies r.offset).c0 = (s.copies r.offset).c1 ∧ (s.copies r.offset).c0 = (s.copies r.offset).c2) → Completes (.tmrScrub t []) s fun u => u = s.begin t) ∧
  (∀ (t : Ns) (a b : Word) (s : State), (∀ r ∈ tmrAll, r.offset ≠ 0x114 → (s.copies r.offset).c0 = (s.copies r.offset).c1 ∧ (s.copies r.offset).c0 = (s.copies r.offset).c2) → s.regs.groupEn = ⟨a, a, b⟩ → a &&& 0xFF ≠ b &&& 0xFF → Completes (.tmrScrub t []) s fun u =>
      u.regs = { s.regs with groupEn := ⟨a, a, inField 0xFF a b⟩, tmrFix := BitVec.ofNat 32 (satAdd 32 s.regs.tmrFix.toNat 1), tmrLast := 0x114 } ∧
      u.mb = s.mb ∧ u.mod = s.mod) ∧
  (∀ (t : Ns) (a b c : Word) (s : State), (∀ r ∈ tmrAll, r.offset ≠ 0x104 → (s.copies r.offset).c0 = (s.copies r.offset).c1 ∧ (s.copies r.offset).c0 = (s.copies r.offset).c2) → s.regs.role = ⟨a, b, c⟩ → a &&& 0xF ≠ b &&& 0xF → a &&& 0xF ≠ c &&& 0xF → b &&& 0xF ≠ c &&& 0xF → s.mod.drivenUntil = none → Completes (.tmrScrub t []) s fun u =>
      u.regs = s.regs ∧ u.mod = { s.mod with drivenUntil := some (max s.clock t + 20000000), safeCause := some .tmr }) ∧
  (∀ (t : Ns) (off : Nat) (v : Word) (s : State), s.svcServes = true → ringIdOffsets.contains off = true → s.lockRingId = false → s.originatesCyclic = false → (s.isPair = true → s.pair.state = .unformed) → ringIdBad off v.toNat = false → Completes (.ringIdWrite t off v) s fun u =>
      u.regs = Regs.putRingId off v s.regs ∧ u.stores[0] = Store.changed (s.begin t).now (max s.clock t) s.stores[0] ∧ u.stores[1] = s.stores[1] ∧
      u.ring = { s.ring with oldId := some (s.node, s.ringType) }) ∧
  (∀ (t : Ns) (off : Nat) (v : Word) (s : State), s.svcServes = true → ringIdOffsets.contains off = true → s.lockRingId = false → (s.originatesCyclic = true ∨ ringIdBad off v.toNat = true) → Completes (.ringIdWrite t off v) s fun u =>
      u = { s.begin t with regs := { s.regs with modErr := putBit s.regs.modErr meWriteRefused true, lastOffset := BitVec.ofNat 16 off } }) ∧
  (∀ (t : Ns) (k : Fin 4) (j : Fin 8) (v : Word) (s : State), s.svcServes = true → s.lockImgKey = false → s.regs.keyValid.getLsbD k.val = false → Completes (.imgKeyWordWrite t k j v) s fun u =>
      u.regs = { s.regs with imgKey := s.regs.imgKey.set k (s.regs.imgKey[k].set j v), keyBad := putBit s.regs.keyBad k.val false } ∧
      u.stores[1] = s.stores[1]) ∧
  (∀ (t : Ns) (k : Fin 4) (v : Word) (s : State), s.svcServes = true → s.lockImgKey = false → Completes (.keyValidWrite t k v) s fun u =>
      u.regs.imgKey = s.regs.imgKey ∧ u.regs.keyValid.getLsbD k.val = (v.getLsbD 0 && Ed25519.keyDecodes (keyBytes s.regs.imgKey[k])) ∧
      (v.getLsbD 0 = true → u.regs.keyBad.getLsbD k.val = !Ed25519.keyDecodes (keyBytes s.regs.imgKey[k])) ∧
      ∀ j : Fin 4, j ≠ k → u.regs.keyValid.getLsbD j.val = s.regs.keyValid.getLsbD j.val ∧ u.regs.keyBad.getLsbD j.val = s.regs.keyBad.getLsbD j.val) ∧
  (∀ (t : Ns) (k : Fin 4) (v : Word) (s : State), s.svcServes = true → s.lockImgKey = true → Completes (.keyValidWrite t k v) s fun u =>
      u.regs.keyValid = s.regs.keyValid ∧ u.regs.imgKey = s.regs.imgKey ∧ u.regs.modErr.getLsbD meLockedWrite = true)

/-- RECORD_FLASH_COPY, sector erases and spares, REC_SNAPSHOT and REC_READ. A record that fits the sector is copied to flash with or
without its mark, and leaves the intake when the mark holds. A good erase counts; a failed one or the 100,000th takes a spare
sector while there are any. REC_SNAPSHOT keeps the newest eight with first and last sequence number. REC_READ within a snapshot
changes no record, and one of overwritten records counts them. Other sectors and the stores keep their state. The readings and
choices of the model that this rests on are log entry 66. Rules: R478, R479, R480, R483, R484, R485, R502. -/
def Obligations.Recorder : Prop :=
  (∀ (t : Ns) (e : RecEntry) (rest : List RecEntry) (s : State), s.up .recorder = true → s.recorder.intake = e :: rest → s.recorder.offset + e.slot ≤ 131072 → Completes (.recordFlashCopy t true) s fun u =>
      u.recorder.intake = rest ∧ u.recorder.flash = s.recorder.flash ++ [{ entry := e, sector := s.recorder.sector, marked := true }] ∧
      u.recorder.offset = s.recorder.offset + e.slot ∧ u.recorder.nextSeq = s.recorder.nextSeq ∧ u.stores = s.stores) ∧
  (∀ (t : Ns) (e : RecEntry) (rest : List RecEntry) (s : State), s.up .recorder = true → s.recorder.intake = e :: rest → s.recorder.offset + e.slot ≤ 131072 → Completes (.recordFlashCopy t false) s fun u =>
      u.recorder.intake = s.recorder.intake ∧ u.recorder.flash = s.recorder.flash ++ [{ entry := e, sector := s.recorder.sector, marked := false }] ∧
      u.recorder.offset = s.recorder.offset + e.slot) ∧
  (∀ (t : Ns) (k : Fin 512) (b : Ns) (s : State), s.recorder.erasing = some (k, b) → s.recorder.sectors[k].erases + 1 < 100000 → Completes (.sectorEraseEnd t true) s fun u =>
      u.recorder.erasing = none ∧ u.recorder.sectors[k] = { s.recorder.sectors[k] with erases := s.recorder.sectors[k].erases + 1, first := none, erased := true } ∧
      (∀ j : Fin 512, j ≠ k → u.recorder.sectors[j] = s.recorder.sectors[j]) ∧ u.recorder.flash = s.recorder.flash ∧ u.recorder.spares = s.recorder.spares) ∧
  (∀ (t : Ns) (ok : Bool) (k : Fin 512) (b : Ns) (s : State), s.recorder.erasing = some (k, b) → (ok = false ∨ 100000 ≤ s.recorder.sectors[k].erases + 1) → s.recorder.spares ≠ 0 → Completes (.sectorEraseEnd t ok) s fun u =>
      u.recorder.erasing = none ∧ u.recorder.spares = s.recorder.spares - 1 ∧
      u.recorder.sectors[k] = { erases := 0, first := none, erased := true, retired := true, spare := some (128 - s.recorder.spares) } ∧
      ∀ j : Fin 512, j ≠ k → u.recorder.sectors[j] = s.recorder.sectors[j]) ∧
  (∀ (t : Ns) (org : Origin) (s : State), (s.begin t).Admits org opRecSnapshot [.recorder] → Completes (.recSnapshot t org) s fun u =>
      u.recorder.snaps = (if s.recorder.snaps.length < 8 then s.recorder.snaps else s.recorder.snaps.drop 1) ++
        [{ id := s.recorder.nextSnap, first := s.recorder.firstNow, last := s.recorder.nextSeq - 1, stamp := (s.begin t).now }] ∧
      u.recorder.nextSnap = s.recorder.nextSnap + 1 ∧ u.recorder.flash = s.recorder.flash ∧ u.recorder.intake = s.recorder.intake) ∧
  (∀ (t : Ns) (org : Origin) (p : Bytes) (m : Nat) (sn : RecSnap) (s : State), (s.begin t).Admits org opRecRead [.recorder] → p.length = 16 → zeroAt p 12 4 = true → 1040 ≤ m → s.recorder.snaps.find? (fun x => x.id = rd p 0 4) = some sn → seqBefore (BitVec.ofNat 32 (rd p 4 4)) s.recorder.firstNow = false → Completes (.recRead t org p m) s fun u => u.recorder = s.recorder ∧ u.stores = s.stores) ∧
  (∀ (t : Ns) (org : Origin) (p : Bytes) (m : Nat) (sn : RecSnap) (s : State), (s.begin t).Admits org opRecRead [.recorder] → p.length = 16 → zeroAt p 12 4 = true → 1040 ≤ m → s.recorder.snaps.find? (fun x => x.id = rd p 0 4) = some sn → seqBefore (BitVec.ofNat 32 (rd p 4 4)) s.recorder.firstNow = true → Completes (.recRead t org p m) s fun u => u.recorder = { s.recorder with overwritten := s.recorder.overwritten + 1 } ∧ u.stores = s.stores)

/-- Save start and end, SAVE_RETAINED, SAVE_CONFIG, CLEAR_RETAINED and FACTORY_CONFIG. A save starts on the target bank, which becomes
invalid, and keeps the other bank. Its end validates the target with the next sequence number, payload and CRC, counts, and after
a power fail stops the lanes. The commands save with their requester; CLEAR_RETAINED at rest and FACTORY_CONFIG without locks
invalidate both banks and hold saving back, the former after a save that runs. The other store keeps its state. The readings and
choices of the model that this rests on are log entry 67. Rules: R195, R487, R488, R491, R493, R495, R498, R619. -/
def Obligations.StoreSaves : Prop :=
  (∀ (t : Ns) (o : Int × Ns) (s : State), s.up .recorder = true → s.stores[0].oldest = some o → s.stores[0].running = none → s.stores[0].heldBack = false → Completes (.configSaveStart t) s fun u =>
      (u.stores[0].running.map fun v => (v.target, v.start, v.causes, v.orgs, v.covers)) =
        some (s.stores[0].target, max s.clock t, [.change], [], s.stores[0].changeSeq) ∧
      u.stores[0].banks[s.stores[0].target].valid = false ∧
      u.stores[0].banks[1 - s.stores[0].target] = s.stores[0].banks[1 - s.stores[0].target] ∧ u.stores[1] = s.stores[1]) ∧
  (∀ (t : Ns) (v : Save) (s : State), s.up .recorder = true → s.stores[0].running = some v → s.stores[0].waiting = [] → s.stores[0].clearWait = none → Completes (.storeSaveComplete t 0) s fun u =>
      u.stores[0].running = none ∧ u.stores[0].savedSeq = v.covers ∧
      u.stores[0].banks[v.target] = { valid := true, seq := s.stores[0].nextSeq, payload := v.payload, crc := v.crc, length := v.length, stamp := (s.begin t).now } ∧
      u.stores[0].banks[1 - v.target] = s.stores[0].banks[1 - v.target] ∧ u.stores[0].saves = s.stores[0].saves + 1 ∧ u.stores[1] = s.stores[1]) ∧
  (∀ (t : Ns) (v : Save) (s : State), s.up .recorder = true → s.stores[1].running = some v → s.stores[1].waiting = [] → s.stores[1].clearWait = none → v.causes.contains .powerFail = true → s.mod.vlogBack = false → Completes (.storeSaveComplete t 1) s fun u =>
      u.stores[1].running = none ∧ u.stores[1].banks[v.target].valid = true ∧ u.stores[1].banks[v.target].payload = v.payload ∧
      u.mod.lanesStopped = true ∧ u.prg.savedStamp = (s.begin t).now ∧ u.prg.savedCycle = v.cycle ∧ u.stores[0] = s.stores[0]) ∧
  (∀ (t : Ns) (org : Origin) (p : Bytes) (s : State), (s.begin t).Admits org opStoreCommand [.recorder] → storeFormat 1 p = none → s.stores[1].command = none → s.prg.running ≠ none → s.stores[1].running = none → s.savePages.length ≤ 255 → Completes (.saveRetained t org p) s fun u =>
      (u.stores[1].running.map fun v => (v.target, v.start, v.causes, v.orgs, v.covers)) =
        some (s.stores[1].target, max s.clock t, [.command], [org], s.stores[1].changeSeq) ∧
      u.stores[1].banks[s.stores[1].target].valid = false ∧
      u.stores[1].banks[1 - s.stores[1].target] = s.stores[1].banks[1 - s.stores[1].target] ∧
      u.stores[1].command = some org ∧ u.stores[1].heldBack = false ∧ u.stores[0] = s.stores[0]) ∧
  (∀ (t : Ns) (org : Origin) (p : Bytes) (s : State), (s.begin t).Admits org opStoreCommand [.recorder] → storeFormat 2 p = none → s.stores[0].command = none → s.stores[0].heldBack = false → s.stores[0].running = none → Completes (.saveConfig t org p) s fun u =>
      (u.stores[0].running.map fun v => (v.target, v.start, v.causes, v.orgs, v.covers)) =
        some (s.stores[0].target, max s.clock t, [.command], [org], s.stores[0].changeSeq) ∧
      u.stores[0].banks[s.stores[0].target].valid = false ∧
      u.stores[0].banks[1 - s.stores[0].target] = s.stores[0].banks[1 - s.stores[0].target] ∧
      u.stores[0].command = some org ∧ u.stores[1] = s.stores[1]) ∧
  (∀ (t : Ns) (org : Origin) (p : Bytes) (s : State), (s.begin t).Admits org opStoreCommand [.recorder] → storeFormat 3 p = none → s.stores[1].command = none → (s.prg.state = .stopped ∨ s.prg.state = .halted) → s.stores[1].running = none → s.stores[1].waiting = [] → Completes (.clearRetained t org p) s fun u =>
      u.stores[1].heldBack = true ∧ u.stores[1].command = none ∧ ∀ b : Fin 2, u.stores[1].banks[b] = { s.stores[1].banks[b] with valid := false } ∧ u.stores[0] = s.stores[0] ∧ u.prg = s.prg) ∧
  (∀ (t : Ns) (org : Origin) (p : Bytes) (s : State), (s.begin t).Admits org opStoreCommand [.recorder] → storeFormat 3 p = none → s.stores[1].command = none → (s.prg.state = .stopped ∨ s.prg.state = .halted) → s.stores[1].running ≠ none → Completes (.clearRetained t org p) s fun u =>
      u.stores[1] = { s.stores[1] with command := some org, clearWait := some org } ∧ u.stores[0] = s.stores[0]) ∧
  (∀ (t : Ns) (org : Origin) (p : Bytes) (s : State), (s.begin t).Admits org opStoreCommand [.recorder] → storeFormat 4 p = none → s.lockMb = false → s.lockChown = false → s.stores[0].command = none → s.stores[0].running = none → s.stores[0].waiting = [] → Completes (.factoryConfig t org p) s fun u =>
      u.stores[0].heldBack = true ∧ u.stores[0].command = none ∧ ∀ b : Fin 2, u.stores[0].banks[b] = { s.stores[0].banks[b] with valid := false } ∧ u.stores[1] = s.stores[1] ∧ u.mod.inForce = s.mod.inForce)

/-- A power fail, its end, an exhausted and a charging hold-up. A power fail is stamped, stops the program, takes SDO demands and
permits, and drops a running configuration save; without energy for the retained save it skips it and stops the lanes. A return of
the logic supply waits for the lanes to stop and then restarts the module; with RESET_N low it stays in reset. Exhaustion unpowers
the module and resets every island but AON. Field cells keep their state. Charging in time clears the warning that its absence
sets. The readings and choices of the model that this rests on are log entries 69, 74. Rules: R494, R495, R497, R519, R581, R582. -/
def Obligations.PowerFail : Prop :=
  (∀ (t : Ns) (s : State), s.mod.failAt = none → s.mod.powered = true → s.mod.state ≠ .reset → s.mod.vlogBack = false → Completes (.powerFail t) s fun u =>
      u.mod.failAt = some (max s.clock t) ∧ u.prg.state = .stopped ∧ u.prg.running = s.prg.running ∧ u.stores[0].running = none ∧
      ∀ c : Fin 128, s.mode c = .sdo → u.chans[c].demand.on = false ∧ u.chans[c].permit = false) ∧
  (∀ (t : Ns) (s : State), s.mod.failAt = none → s.mod.powered = true → s.mod.state ≠ .reset → s.mod.vlogBack = false → s.prg.running ≠ none → s.up .recorder = true → s.stores[1].heldBack = false → s.budget < s.retainedSize → Completes (.powerFail t) s fun u =>
      u.stores[1].skipped = s.stores[1].skipped + 1 ∧ u.stores[1].running = none ∧ u.stores[1].banks = s.stores[1].banks ∧ u.mod.lanesStopped = true) ∧
  (∀ (t : Ns) (f : Ns) (s : State), s.mod.failAt = some f → s.mod.lanesStopped = false → Completes (.vlogReturnAfterFail t) s fun u => u = { s.begin t with mod := { s.mod with vlogBack := true } }) ∧
  (∀ (t : Ns) (f : Ns) (s : State), s.mod.failAt = some f → s.mod.lanesStopped = true → Completes (.vlogReturnAfterFail t) s fun u =>
      u.mod.powerCycles = s.mod.powerCycles + 1 ∧ u.mod.failAt = none ∧ u.mod.lanesStopped = false ∧
      (s.mod.state = .reset → u.mod.state = .reset ∧ u.prg = s.prg) ∧
      (s.mod.state ≠ .reset → u.mod.state = .selftest ∧ u.prg = {} ∧ u.cells = s.cells ∧ u.gfes = s.gfes)) ∧
  (∀ (t : Ns) (f : Ns) (s : State), s.mod.failAt = some f → Completes (.holdupExhausted t) s fun u =>
      u.mod.state = .reset ∧ u.mod.powered = false ∧ u.mod.offAt = some (max s.clock t) ∧ u.prg = {} ∧
      u.mod.lowAtPowerOff = s.mod.lowSince.isSome ∧ u.cells = s.cells ∧ u.gfes = s.gfes ∧
      ∀ i : Fin 11, i ≠ Isl.aon.idx → u.islands[i].state = .inReset) ∧
  (∀ (t : Ns) (s : State), s.mod.charged = false → s.mod.powered = true → s.mod.failAt = none → Completes (.holdupCharged t) s fun u =>
      u.mod.charged = true ∧ u.mod.notCharged = (s.mod.notCharged && decide (s.mod.timeZero + 2000000000 ≤ max s.clock t)) ∧ u.stores = s.stores) ∧
  (∀ (t : Ns) (s : State), s.mod.charged = false → s.mod.powered = true → s.mod.timeZero + 2000000000 ≤ max s.clock t → s.mod.state ≠ .reset → Completes (.holdupNotCharged t) s fun u =>
      u.mod.notCharged = true ∧ u.mod.ledger[2].warning = true ∧ u.mod.charged = false)

/-- FW_STAGE, FW_ACTIVATE and the end of a firmware trial. A first chunk empties and opens the target slot; one out of order empties
it and ends the staging; the other slot keeps its state. FW_ACTIVATE of a verified slot makes it the next boot on trial with the
old one as fallback. A trial not confirmed in 5 s returns to the fallback. The readings and choices of the model that this rests
on are log entry 75. Rules: R532, R533. -/
def Obligations.FirmwareSlots : Prop :=
  (∀ (t : Ns) (org : Origin) (p d : Bytes) (s : State), (s.begin t).Admits org opFwStage [.svc, .recorder] → stageFormat p d = true → isOffset p + isLength p ≤ 8388608 → isFirst p = true → isLast p = false → s.mod.fwStaging = none → Completes (.fwStage t org p d) s fun u =>
      u.mod.fw[s.fwTarget] = { state := .staging, bytes := d, failing := 0 } ∧ u.mod.fwStaging = some (isOffset p + isLength p) ∧
      (∀ k : Fin 2, k ≠ s.fwTarget → u.mod.fw[k] = s.mod.fw[k]) ∧ u.mod.fwBoot = s.mod.fwBoot) ∧
  (∀ (t : Ns) (org : Origin) (p d : Bytes) (s : State), (s.begin t).Admits org opFwStage [.svc, .recorder] → stageFormat p d = true → isOffset p + isLength p ≤ 8388608 → isFirst p = false → s.mod.fwStaging ≠ some (isOffset p) → s.mod.fwStaging ≠ none → Completes (.fwStage t org p d) s fun u =>
      u.mod.fw[s.fwTarget] = {} ∧ u.mod.fwStaging = none ∧ ∀ k : Fin 2, k ≠ s.fwTarget → u.mod.fw[k] = s.mod.fw[k]) ∧
  (∀ (t : Ns) (org : Origin) (k : Fin 2) (p : Bytes) (s : State), (s.begin t).Admits org opFwActivate [.svc] → p.length = 16 → zeroAt p 1 15 = true → rd p 0 1 = k.val → (s.mod.fw[k].state = .verified ∨ s.mod.fw[k].state = .running) → Completes (.fwActivate t org p) s fun u =>
      u.mod = { s.mod with fwPrevious := s.mod.fwBoot, fwBoot := k, fwTrial := true }) ∧
  (∀ (t : Ns) (s : State), s.mod.fwTrial = true → s.mod.fwRunning = s.mod.fwBoot → (s.mod.state = .selftest ∨ s.mod.state = .loading ∨ s.mod.state = .fatal) → s.mod.timeZero + 5000000000 ≤ max s.clock t → Completes (.fwTrialExpiry t) s fun u => u.mod = { s.mod with fwBoot := s.mod.fwPrevious, fwTrial := false })

/-- Hold-up tests, ledger measurements and thermal hours. A hold-up test by command or schedule keeps the least hold-up time and its
last measurement. A measurement keeps the worst channel reaction, raises the safety time when it exceeds it, or counts operating
seconds. Thermal hours add the acceleration of the hottest sensor for the second and lower the limit. Each leaves the other
margins. The readings and choices of the model that this rests on are log entries 8, 76. Rules: R30, R534, R535, R536, R537. -/
def Obligations.MarginLedger : Prop :=
  (∀ (t : Ns) (org : Origin) (m : HoldupMeas) (s : State), (s.begin t).Admits org opLedgerTest [.svc] → s.testPossible = true → m.vMean * m.dV ≠ 0 → Completes (.ledgerTest t org m) s fun u =>
      (s.mod.ledger[2].worst ≠ none → u.mod.tHu = min s.mod.tHu (holdupTime 0 m)) ∧ (s.mod.ledger[2].worst = none → u.mod.tHu = holdupTime 0 m) ∧
      u.mod.ledger[2].last = some (holdupTime 0 m, (s.begin t).now) ∧ u.free = s.free) ∧
  (∀ (t : Ns) (m : HoldupMeas) (s : State), s.up .svc = true → s.testPossible = true → m.vMean * m.dV ≠ 0 → Completes (.holdupTest t m) s fun u =>
      (s.mod.ledger[2].worst ≠ none → u.mod.tHu = min s.mod.tHu (holdupTime 0 m)) ∧ (s.mod.ledger[2].worst = none → u.mod.tHu = holdupTime 0 m) ∧
      u.mod.ledger[2].last = some (holdupTime 0 m, (s.begin t).now) ∧ u.stores = s.stores) ∧
  (∀ (t : Ns) (ch : Fin 128) (v : Rat) (s : State), s.up .svc = true → s.mod.powered = true → Completes (.ledgerMeasurement t 0 ch.val v) s fun u =>
      u.mod.rWorst = s.mod.rWorst.set ch (max s.mod.rWorst[ch] v) ∧ u.mod.ledger[0].last = some (v, (s.begin t).now) ∧
      u.mod.tHu = s.mod.tHu ∧ u.mod.tLim = s.mod.tLim ∧ u.mod.drift = s.mod.drift) ∧
  (∀ (t : Ns) (i : Nat) (v : Rat) (s : State), s.up .svc = true → s.mod.powered = true → s.saf.tMus < v.ceil.toNat → Completes (.ledgerMeasurement t 7 i v) s fun u =>
      u.saf = { s.saf with tMraise := some (max v.ceil.toNat (s.saf.tMraise.getD 0)) }) ∧
  (∀ (t : Ns) (i : Nat) (v : Rat) (s : State), s.up .svc = true → s.mod.powered = true → Completes (.ledgerMeasurement t 8 i v) s fun u =>
      u.mod.opSeconds = s.mod.opSeconds + 1 ∧ u.saf = s.saf) ∧
  (∀ (t : Ns) (a : Nat) (l : List Nat) (s : State), s.up .svc = true → s.mod.powered = true → Completes (.thermalHours t (a :: l)) s fun u =>
      u.mod.thermalHours = trim64 (s.mod.thermalHours + arrhenius (l.foldl max a) / 3600) ∧
      u.mod.tLim = min s.mod.tLim (tLimAt u.mod.thermalHours) ∧ u.mod.rWorst = s.mod.rWorst ∧ u.mod.tHu = s.mod.tHu)

/-- DISP_CONFIG, DISP_REGION, DISP_BLINK and blinking. An admitted DISP_CONFIG with no region, blink, pass or update takes its times,
mark and least voltage. DISP_REGION gives or removes a region. DISP_BLINK with valid, distinct segments and occupancy takes its
list and ends the earlier inversions, on the panel too where the supply allows phases. A toggle whose segments are due inverts
them on the panel and nothing else of the frame. The readings and choices of the model that this rests on are log entries 71, 123.
Rules: R506, R507, R511. -/
def Obligations.DisplaySetUp : Prop :=
  (∀ (t : Ns) (org : Origin) (o : Bytes) (s : State), (s.begin t).Admits org opDispConfig [.disp] → o.length = 16 → 1 ≤ rd o 0 2 ∧ rd o 0 2 ≤ 1000 → rd o 2 2 ≤ 1000 → rd o 4 1 < 96 → 50 ≤ rd o 6 2 ∧ rd o 6 2 ≤ 400 → zeroAt o 5 1 = true → zeroAt o 8 8 = true → (∀ r : Fin 16, s.disp.regions[r] = none) → s.disp.blink = [] → s.disp.pass = none → (∀ r : Fin 16, s.disp.queued[r] = none) → Completes (.dispConfig t org o) s fun u =>
      u.disp = { s.disp with cfg := { pulseMs := rd o 0 2, gapMs := rd o 2 2, mark := Fin.ofNat 96 (rd o 4 1), vmin := rd o 6 2 } }) ∧
  (∀ (t : Ns) (org : Origin) (r : Fin 16) (o : Bytes) (s : State), (s.begin t).Admits org opDispRegion [.disp] → o.length = 16 → rd o 0 1 = r.val → rdBits o 1 7 1 = 0 → zeroAt o 2 2 = true → rdFrame o 4 ≠ 0 → rdFrame o 4 &&& segBit s.disp.cfg.mark = 0 → (∀ i : Fin 16, i ≠ r → s.disp.regions[i] = none) → s.disp.pass = none → s.disp.queued[r] = none → Completes (.dispRegion t org o) s fun u =>
      u.disp = { s.disp with regions := s.disp.regions.set r (if rdBits o 1 0 0 = 1 then some (rdFrame o 4) else none) }) ∧
  (∀ (t : Ns) (org : Origin) (o : Bytes) (s : State), (s.begin t).Admits org opDispBlink [.disp] → o.length = 32 → s.disp.blinkPending = none → s.disp.pass = none → (blinkEntries o).all blinkEntryOk = true → ((blinkEntries o).map fun e => rd e 0 1).contains s.disp.cfg.mark.val = false → ((blinkEntries o).map fun e => rd e 0 1).eraseDups.length = (blinkEntries o).length → blinkOccupancy s.disp.cfg ((blinkEntries o).map fun e => { segment := Fin.ofNat 96 (rd e 0 1), freq := Fin.ofNat 4 (rd e 1 1), duty := rd e 2 1 }) ≤ 1000 → Completes (.dispBlink t org o) s fun u =>
      u.disp.blink.map (fun b => (b.segment.val, b.freq.val, b.duty)) = (blinkEntries o).map (fun e => (rd e 0 1, rd e 1 1, rd e 2 1)) ∧
      (u.disp.blink.all fun b => !b.inverse && b.since == max s.clock t) = true ∧
      u.disp.panel = (if s.disp.supply then s.disp.panel else s.disp.shown (s.disp.blink.map fun b => { b with inverse := false })) ∧ u.disp.frame = s.disp.frame ∧ u.disp.regions = s.disp.regions) ∧
  (∀ (t : Ns) (f c : Fin 4) (s : State), s.up .disp = true → s.mod.failAt = none → s.disp.pass = none → s.disp.supply = false → s.disp.blink.any (fun b => b.freq == f && segCom b.segment == c.val) = true → (∀ b ∈ s.disp.blink, b.freq = f → segCom b.segment = c.val → b.since + b.least ≤ max s.clock t) → Completes (.blinkToggle t f c) s fun u =>
      u.disp.panel = s.disp.shown ((s.disp.blink.filter fun b => b.freq == f && segCom b.segment == c.val).map fun b => { b with inverse := !b.inverse }) ∧
      u.disp.blink = s.disp.blink.map (fun b => if b.freq == f && segCom b.segment == c.val then { b with inverse := !b.inverse, since := max s.clock t } else b) ∧
      u.disp.frame = s.disp.frame ∧ u.disp.dropped = s.disp.dropped)

/-- DISP_UPDATE, the start, phases and end of a pass, and the supply check. An update within its region waits, and one it supersedes
counts. A pass starts with the target frame and every waiting update, and first pulses the mark; below the least voltage none
starts and the supply flag sets. A phase that is over is applied and the next one is pulsed; the last one makes the frame current
and its journal complete. Two good checks in a row end the supply flag and make a re-drive due; a low one starts over. The
readings and choices of the model that this rests on are log entries 71, 124, 125. Rules: R504, R505, R508, R509, R510, R514. -/
def Obligations.DisplayPasses : Prop :=
  (∀ (t : Ns) (org : Origin) (r : Fin 16) (m : BitVec 96) (o : Bytes) (s : State), (s.begin t).Admits org opDispUpdate [.disp] → o.length = 16 → zeroAt o 1 3 = true → rd o 0 1 = r.val → s.disp.regions[r] = some m → rdFrame o 4 &&& ~~~m = 0 → Completes (.dispUpdate t org o) s fun u =>
      u.disp.queued = s.disp.queued.set r (some (org, rdFrame o 4)) ∧
      u.disp.superseded = (if s.disp.queued[r] = none then s.disp.superseded else satAdd 32 s.disp.superseded 1) ∧
      u.disp.frame = s.disp.frame ∧ u.disp.panel = s.disp.panel ∧ u.disp.pass = s.disp.pass) ∧
  (∀ (t : Ns) (v : Nat) (s : State), s.up .disp = true → s.mod.failAt = none → s.disp.pass = none → s.disp.redriveDue = none → s.disp.queue ≠ [] → s.disp.cfg.vmin ≤ v → s.disp.supply = false → Completes (.displayPassStart t v) s fun u =>
      (u.disp.pass.map fun p => (p.frame, p.updates.length, p.index, p.redrive)) = some (s.disp.target, s.disp.queue.length, 0, false) ∧
      (∀ r : Fin 16, u.disp.queued[r] = none) ∧ u.disp.panel = s.disp.panel ∧ u.disp.frame = s.disp.frame ∧ u.disp.journalFrame = s.disp.target ∧
      .displayPhase { on := true, com := Fin.ofNat 4 (segCom s.disp.cfg.mark), segs := segBit s.disp.cfg.mark } ∈ u.out) ∧
  (∀ (t : Ns) (v : Nat) (s : State), s.up .disp = true → s.mod.failAt = none → s.disp.pass = none → s.disp.redriveDue = none → s.disp.queue ≠ [] → v < s.disp.cfg.vmin → Completes (.displayPassStart t v) s fun u =>
      u.disp.supply = true ∧ u.disp.pass = none ∧ (∀ r : Fin 16, u.disp.queued[r] = none) ∧ u.disp.panel = s.disp.panel ∧ u.disp.frame = s.disp.frame) ∧
  (∀ (t : Ns) (v : Nat) (p : Pass) (ph : Phase) (s : State), s.disp.pass = some p → p.phases[p.index]? = some ph → s.up .disp = true → s.mod.failAt = none → 95 * s.disp.cfg.phaseNs ≤ 100 * (max s.clock t - p.phaseStart) → p.index + 1 < p.phases.length → s.disp.cfg.vmin ≤ v → Completes (.displayPhaseEnd t v) s fun u =>
      u.disp.pass = some { p with index := p.index + 1, phaseStart := max s.clock t } ∧ u.disp.panel = ph.apply s.disp.panel ∧
      u.disp.frame = s.disp.frame ∧ u.disp.journal = s.disp.journal ∧
      ((p.phases[p.index + 1]?).all fun q => u.out.contains (.displayPhase q)) = true) ∧
  (∀ (t : Ns) (v : Nat) (p : Pass) (ph : Phase) (s : State), s.disp.pass = some p → p.phases[p.index]? = some ph → s.up .disp = true → s.mod.failAt = none → 95 * s.disp.cfg.phaseNs ≤ 100 * (max s.clock t - p.phaseStart) → p.index + 1 = p.phases.length → s.disp.blinkPending = none → Completes (.displayPhaseEnd t v) s fun u =>
      u.disp.pass = none ∧ u.disp.panel = ph.apply s.disp.panel ∧ u.disp.frame = p.frame ∧ u.disp.passes = satAdd 32 s.disp.passes 1 ∧
      (∀ k, s.disp.newest = some k → u.disp.journal[k] = { s.disp.journal[k] with complete := true })) ∧
  (∀ (t : Ns) (v : Nat) (s : State), s.up .disp = true → s.disp.supply = true → s.disp.cfg.vmin ≤ v → 1 ≤ s.disp.goodChecks → Completes (.dispSupplyCheck t v) s fun u =>
      u.disp = { s.disp with supply := false, volts := v, goodChecks := 0, redriveDue := some 1 }) ∧
  (∀ (t : Ns) (v : Nat) (s : State), s.up .disp = true → s.disp.supply = true → v < s.disp.cfg.vmin → Completes (.dispSupplyCheck t v) s fun u => u.disp = { s.disp with volts := v, goodChecks := 0 })

/-- Power-on, RESET_N, the self-test and MASTER_CONFIRM. A power-on counts, with the counts of AON or their copies, reads straps,
takes ring time 0 and keeps cells, flash and banks. RESET_N low counts, stamps and resets every island but AON; its release starts
the self-test with the straps and the low time. A fatal self-test leaves HIF, SVC, the recorder and AON; a passed one waits for
confirmation. MASTER_CONFIRM that discards, or that matches the loaded objects, brings the module to service; when none is awaited
it completes with its status alone. The readings and choices of the model that this rests on are log entries 11, 72, 73, 74.
Rules: R516, R517, R518, R519, R520, R523, R524, R526, R529. -/
def Obligations.ResetAndStartUp : Prop :=
  (∀ (t : Ns) (p : Straps) (off : Nat) (s : State), Completes (.powerOn t true p off) s fun u =>
      u.mod.state = .selftest ∧ u.mod.powerCycles = s.mod.powerCycles + 1 ∧ u.mod.resetCount = s.mod.resetCount ∧ u.mod.offTime = some off ∧
      u.mod.lastReset = .powerOn ∧ u.mod.strapped = Role.ofCode p.pairId.toNat ∧ u.prg = {} ∧ u.now = 0 ∧
      u.cells = s.cells ∧ u.gfes = s.gfes ∧ u.recorder.flash = s.recorder.flash ∧ ∀ k : Fin 2, u.stores[k].banks = s.stores[k].banks) ∧
  (∀ (t : Ns) (p : Straps) (off : Nat) (s : State), Completes (.powerOn t false p off) s fun u =>
      u.mod.powerCycles = s.mod.cyclesCopy + 1 ∧ u.mod.resetCount = s.mod.resetsCopy ∧ u.mod.offTime = none ∧ u.time.ship = .unset) ∧
  (∀ (t : Ns) (s : State), s.mod.lowSince = none → s.mod.powered = true → Completes (.resetNLow t) s fun u =>
      u.mod.state = .reset ∧ u.mod.resetCount = s.mod.resetCount + 1 ∧ u.mod.lowSince = some (max s.clock t - 2000) ∧
      u.mod.powerCycles = s.mod.powerCycles ∧ u.prg = {} ∧ u.cells = s.cells ∧ u.gfes = s.gfes ∧
      ∀ i : Fin 11, i ≠ Isl.aon.idx → u.islands[i].state = .inReset) ∧
  (∀ (t : Ns) (p : Straps) (low : Ns) (s : State), s.mod.lowSince = some low → s.mod.drivenUntil = none → s.mod.powered = true → s.up .aon = true → Completes (.resetNRelease t p) s fun u =>
      u.mod.state = .selftest ∧ u.mod.lowSince = none ∧ u.mod.lowTime = lowUnits (max s.clock t - low) ∧ u.now = 0 ∧
      u.mod.strapped = Role.ofCode p.pairId.toNat ∧ u.mod.powerCycles = s.mod.powerCycles ∧ u.mod.timeZero = max s.clock t) ∧
  (∀ (t : Ns) (x : SelfTest) (s : State), s.mod.state = .selftest → SelfTestFatal x = true → Completes (.selftestComplete t x) s fun u =>
      u.mod.state = .fatal ∧ u.mod.health = .fault ∧ u.mod.selftest = some x ∧
      ∀ i : Fin 11, i ≠ Isl.hif.idx → i ≠ Isl.svc.idx → i ≠ Isl.recorder.idx → i ≠ Isl.aon.idx → u.islands[i].state = .inReset) ∧
  (∀ (t : Ns) (x : SelfTest) (s : State), s.mod.state = .selftest → SelfTestFatal x = false → x.crossings.all id = true → Completes (.selftestComplete t x) s fun u =>
      u.mod.state = .waitConfirm ∧ u.mod.selftest = some x ∧ u.mod.prgFailed = !x.prgSram ∧ u.hif.ready = !s.hif.perstLow ∧
      (x.safMemory = false → s.saf.fault = none → u.saf.fault = some .memory)) ∧
  (∀ (t : Ns) (org : Origin) (o : Bytes) (s : State), (s.begin t).Admits org opMasterConfirm [.svc] → s.confirmFormat o = true → mcShip o = false → mcDiscard o = true → s.mod.state = .waitConfirm → s.mod.confirming = none → s.mod.conflict = false → s.role.map Role.code = some (mcRole o) → s.mod.testMode = false → s.prg.running = none → Completes (.masterConfirm t org o) s fun u =>
      u.mod.state = .service ∧ u.mod.inForce = [] ∧ u.mod.loaded = [] ∧ u.ring.branch = [] ∧ u.pair.held = [] ∧
      ∀ g : Fin 8, u.groups[g].cfg = none) ∧
  (∀ (t : Ns) (org : Origin) (o : Bytes) (s : State), (s.begin t).Admits org opMasterConfirm [.svc] → s.confirmFormat o = true → mcShip o = false → mcDiscard o = false → s.mod.state = .waitConfirm → s.mod.confirming = none → s.mod.conflict = false → s.role.map Role.code = some (mcRole o) → s.mod.testMode = false → mcCrc o = s.mod.loadedCrc.toNat → mcSeq o = s.mod.loadedSeq.toNat → s.mod.loaded = [] → s.prg.param.autoRun = false → (∀ g : Fin 8, s.groups[g].change = none) → Completes (.masterConfirm t org o) s fun u =>
      u.mod.state = .service ∧ u.mod.inForce = [] ∧ u.groups = s.groups ∧ u.loops = s.loops) ∧
  (∀ (t : Ns) (org : Origin) (o : Bytes) (s : State), (s.begin t).Admits org opMasterConfirm [.svc] → s.confirmFormat o = true → s.mod.state ≠ .waitConfirm → s.mod.confirming = none → Completes (.masterConfirm t org o) s fun u => u = (s.begin t).complete org (.error stNotWaiting))

/-- PPS_IN is stamped with ring time and, if SET, with ship time; the last eight pairs are kept. Every rising edge puts the pair of
ring time and, when ship time is SET, ship time in front of the list and keeps the first eight; an edge for which a SHIP_TIME_SET
of this member waits sets ship time first, unless it comes over 1.5 s late, which ends the wait with ship time as it was. Ring
time is not changed, and ship time only by the waiting command. Rules: R404. -/
def Obligations.PpsStamps : Prop :=
  (∀ (t : Ns) (s : State), (s.timeBegin t).up .tim = true → (∀ w, (s.timeBegin t).time.ppsWait = some w → isPartner w.org = true) → Completes (.ppsIn t) s fun u =>
      u.time = { (s.timeBegin t).time with ppsIn := (((s.timeBegin t).now, if (s.timeBegin t).time.ship = .set then some (s.timeBegin t).shipNow else none) :: (s.timeBegin t).time.ppsIn).take 8 }) ∧
  (∀ (t : Ns) (w : PpsWait) (s : State), (s.timeBegin t).up .tim = true → (s.timeBegin t).time.ppsWait = some w → isPartner w.org = false → (s.timeBegin t).ppsLate w = false → Completes (.ppsIn t) s fun u =>
      u.time.ship = .set ∧ u.time.ppsIn = (((s.timeBegin t).now, some u.shipNow) :: (s.timeBegin t).time.ppsIn).take 8 ∧ u.time.ringOff = (s.timeBegin t).time.ringOff) ∧
  (∀ (t : Ns) (w : PpsWait) (s : State), (s.timeBegin t).up .tim = true → (s.timeBegin t).time.ppsWait = some w → (s.timeBegin t).ppsLate w = true → Completes (.ppsIn t) s fun u =>
      u.time.ship = (s.timeBegin t).time.ship ∧ u.time.ringOff = (s.timeBegin t).time.ringOff ∧
      u.time.ppsIn = (((s.timeBegin t).now, if (s.timeBegin t).time.ship = .set then some (s.timeBegin t).shipNow else none) :: (s.timeBegin t).time.ppsIn).take 8)

/-- Doorbell writes out of range, beyond the posted descriptors or past the tail are ignored. A doorbell of an enabled queue whose
upper half is not 0, whose index is not below the queue size, whose SQ tail would withdraw posted descriptors, or whose CQ or EQ
head would pass the tail, leaves the queue as it was except the count of ignored writes, and sets DOORBELL in HIF_QUEUE_ERR. This
holds for each SQ, each CQ and the EQ. Rules: R420. -/
def Obligations.IgnoredDoorbells : Prop :=
  (∀ (t : Ns) (n : Fin 8) (v : Word) (s : State), s.hifLive = true → s.hif.sqs[n].enable = true → (v.toNat / 65536 ≠ 0 ∨ 2 ^ s.hif.sqs[n].log2.toNat ≤ v.toNat % 65536 ∨ span (2 ^ s.hif.sqs[n].log2.toNat) s.hif.sqs[n].head v.toNat < span (2 ^ s.hif.sqs[n].log2.toNat) s.hif.sqs[n].head s.hif.sqs[n].tail) → Completes (.sqTailDoorbell t n v) s fun u =>
      u.hif.sqs[n] = { s.hif.sqs[n] with ignored := satAdd 32 s.hif.sqs[n].ignored 1, errSeen := u.hif.sqs[n].errSeen } ∧ u.hif.err.getLsbD 0 = true) ∧
  (∀ (t : Ns) (n : Fin 8) (v : Word) (s : State), s.hifLive = true → s.hif.cqs[n].enable = true → (v.toNat / 65536 ≠ 0 ∨ s.hif.cqs[n].size ≤ v.toNat % 65536 ∨ span s.hif.cqs[n].size s.hif.cqs[n].head s.hif.cqs[n].tail < span s.hif.cqs[n].size s.hif.cqs[n].head v.toNat) → Completes (.cqHeadDoorbell t n v) s fun u =>
      u.hif.cqs[n] = { s.hif.cqs[n] with ignored := satAdd 32 s.hif.cqs[n].ignored 1, errSeen := u.hif.cqs[n].errSeen } ∧ u.hif.err.getLsbD 0 = true) ∧
  (∀ (t : Ns) (v : Word) (s : State), s.hifLive = true → s.hif.eq.enable = true → (v.toNat / 65536 ≠ 0 ∨ s.hif.eq.size ≤ v.toNat % 65536 ∨ span s.hif.eq.size s.hif.eq.head s.hif.eq.tail < span s.hif.eq.size s.hif.eq.head v.toNat) → Completes (.eqHeadDoorbell t v) s fun u =>
      u.hif.eq.head = s.hif.eq.head ∧ u.hif.eq.enable = true ∧ u.hif.eq.log2 = s.hif.eq.log2 ∧ u.hif.eq.ignored = satAdd 32 s.hif.eq.ignored 1 ∧
      u.hif.err.getLsbD 0 = true)

/-- Writes to key words and KEY_VALID follow the decoding of the key. Without the key lock: a word write while KEY_VALID is 1 changes
no key and sets WRITE_REFUSED; while it is 0 it writes the word and clears KEY_BAD of that key alone. KEY_VALID written 1 sets
KEY_VALID when the 32 bytes decode as a key and KEY_BAD, with KEY_VALID 0, when they do not. Decoding is that of RFC 8032, whose
text the spec does not hold. Rules: R566. -/
def Obligations.ImageKeys : Prop :=
  (∀ (t : Ns) (k : Fin 4) (j : Fin 8) (v : Word) (s : State), s.svcServes = true → s.lockImgKey = false → s.regs.keyValid.getLsbD k.val = true → Completes (.imgKeyWordWrite t k j v) s fun u =>
      u.regs.imgKey = s.regs.imgKey ∧ u.regs.keyValid = s.regs.keyValid ∧ u.regs.keyBad = s.regs.keyBad ∧ u.regs.modErr.getLsbD meWriteRefused = true) ∧
  (∀ (t : Ns) (k : Fin 4) (j : Fin 8) (v : Word) (s : State), s.svcServes = true → s.lockImgKey = false → s.regs.keyValid.getLsbD k.val = false → Completes (.imgKeyWordWrite t k j v) s fun u =>
      u.regs.imgKey = s.regs.imgKey.set k (s.regs.imgKey[k].set j v) ∧ u.regs.keyBad.getLsbD k.val = false ∧
      ∀ i : Fin 4, i ≠ k → u.regs.keyBad.getLsbD i.val = s.regs.keyBad.getLsbD i.val) ∧
  (∀ (t : Ns) (k : Fin 4) (v : Word) (s : State), s.svcServes = true → s.lockImgKey = false → v.getLsbD 0 = true → Completes (.keyValidWrite t k v) s fun u =>
      (Ed25519.keyDecodes (keyBytes s.regs.imgKey[k]) = true → u.regs.keyValid.getLsbD k.val = true) ∧
      (Ed25519.keyDecodes (keyBytes s.regs.imgKey[k]) = false → u.regs.keyValid.getLsbD k.val = false ∧ u.regs.keyBad.getLsbD k.val = true) ∧
      u.regs.imgKey = s.regs.imgKey)

/-- No display pass starts or goes on without supply, and its updates complete DISP_SUPPLY. Without supply, or with a voltage below
the least one, no pass starts: the panel stays, the queue is completed and the journal entry stays incomplete with the target
frame. A voltage too low at the end of a phase breaks the pass, keeps its journal entry and the phase applied. Each update of a
host completes ERROR with DISP_SUPPLY. The recovery re-drives the frame of that pass. Forwarded updates of a pair are excluded.
The readings and choices of the model that this rests on are log entry 71. Rules: R505, R510. -/
def Obligations.DisplaySupply : Prop :=
  (∀ (t : Ns) (v : Nat) (s : State), s.up .disp = true → s.mod.failAt = none → s.disp.pass = none → s.disp.queue ≠ [] → (s.disp.supply = true ∨ v < s.disp.cfg.vmin) → s.pair.forwards = [] → Completes (.displayPassStart t v) s fun u =>
      u.disp.pass = none ∧ u.disp.supply = true ∧ u.disp.panel = s.disp.panel ∧ u.disp.queue = [] ∧ u.disp.journalFrame = s.disp.target ∧
      (∀ k, u.disp.newest = some k → u.disp.journal[k].complete = false) ∧
      ∀ id g, s.disp.queue.any (fun q => q.1 == .host id) = true → s.hif.tags.find? (fun x => x.id = id) = some g → g.outcome = none →
        ((u.hif.tags.find? fun x => x.id = id).bind Tag.outcome).map (fun x => (x.1.disp, x.1.status)) = some (dError, stDispSupply)) ∧
  (∀ (t : Ns) (v : Nat) (p : Pass) (ph : Phase) (s : State), s.disp.pass = some p → p.phases[p.index]? = some ph → s.up .disp = true → s.mod.failAt = none → 95 * s.disp.cfg.phaseNs ≤ 100 * (max s.clock t - p.phaseStart) → p.index + 1 < p.phases.length → v < s.disp.cfg.vmin → s.pair.forwards = [] → Completes (.displayPhaseEnd t v) s fun u =>
      u.disp.pass = none ∧ u.disp.supply = true ∧ u.disp.journal = s.disp.journal ∧
      (s.disp.blinkPending = none → u.disp.panel = ph.apply s.disp.panel) ∧
      ∀ id g, p.updates.any (fun q => q.1 == .host id) = true → s.hif.tags.find? (fun x => x.id = id) = some g → g.outcome = none →
        ((u.hif.tags.find? fun x => x.id = id).bind Tag.outcome).map (fun x => (x.1.disp, x.1.status)) = some (dError, stDispSupply)) ∧
  (∀ (t : Ns) (v : Nat) (c : Fin 3) (s : State), s.up .disp = true → s.mod.failAt = none → s.disp.pass = none → s.disp.redriveDue = some c → s.disp.supply = false → s.disp.cfg.vmin ≤ v → Completes (.displayPassStart t v) s fun u =>
      (u.disp.pass.map fun p => (p.frame, p.redrive)) = some (s.disp.journalFrame &&& ~~~segBit s.disp.cfg.mark, true) ∧ u.disp.redriveDue = none)

/-- A step runs exec on the front command with the rest of the queue, and idles on an empty queue. For every command and state, step
at a state whose queue begins with the command is exec of it at the state with the rest of the queue. On an empty queue step
answers the same state, which is the model's choice. The readings and choices of the model that this rests on are log entries 1,
5. Rules: 95_what_each_step_holds.md. -/
def Obligations.StepRunsFrontCommand : Prop :=
  (∀ (c : Instr) (rest : List Instr) (s : State), step { s with pending := c :: rest } = exec c { s with pending := rest }) ∧
  (∀ (s : State), s.pending = [] → step s = .next s)

/-- Every command answers a next state with the queue kept, the clock not back, no free value reused. For every command and every
state exec answers a next state whose queue is that of the state, whose clock is not earlier and whose counter of free values is
not lower. The readings and choices of the model that this rests on are log entries 4, 6, 7. Rules: R426,
95_what_each_step_holds.md. -/
def Obligations.EveryCommandAnswers : Prop :=
  ∀ (c : Instr) (s : State), ∃ u, exec c s = .next u ∧ u.pending = s.pending ∧ s.clock ≤ u.clock ∧ s.free ≤ u.free

/-- What is outside the footprint of a command, aspect by aspect, is the same after it. The aspects divide the state into its parts:
ticks, islands and crossings, cells and group controllers, channels, groups, HART modems, characteristics, program and its memory,
image slots, loops, overrides, tuning, axes, tables, safety, ring, pair, time, host function, registers, mailboxes, recorder,
stores, display and module; for every command, every state and every aspect outside the footprint of the command, the next state
has that aspect as it was. the clock, the counter of free values, the emissions and the queue lie outside the aspects. The
readings and choices of the model that this rests on are log entry 4. Rules: R14, R15, R16. -/
def Obligations.CommandsKeepFootprint : Prop :=
  ∀ (c : Instr) (s u : State) (p : Aspect), exec c s = .next u → p ∉ footprint c → p.same s u

/-- Every step keeps the data memory in canonical form. If the data memory, and every memory kept in a snapshot or a save, lists
rising addresses within range and no byte equal to what an unlisted address reads as, so does the state after a step that answers
a next state. Every state, not only those of a run, is meant. The readings and choices of the model that this rests on are log
entry 70. Rules: R128. -/
def Obligations.StepKeepsMemoryCanonical : Prop :=
  ∀ (s u : State), s.MemOk → step s = .next u → u.MemOk

/-- The memory at reset is canonical, lists nothing and reads as madder bytes everywhere. The state after reset satisfies the memory
invariant, its data memory lists no cell, and reading any address gives the fill byte of that address, which is the model's
reading of the fill of data memory. The readings and choices of the model that this rests on are log entries 9, 70. Rules: R128. -/
def Obligations.ResetMemoryCanonical : Prop :=
  (State.reset.MemOk) ∧
  (State.reset.prg.data.mem = [] ∧ ∀ a, Memory.read State.reset.prg.data.mem a = Memory.madder a)

/-- A descriptor that the gate refuses changes nothing but its completion; one that waits changes nothing. For each of the 56 commands
that serve a plain descriptor: when the policy or an island refuses it, exec completes its requester with an outcome that is not
DONE at the state at which it arrives and does nothing else. While a barrier of a pair must pass first, exec leaves that state as
it is. The readings and choices of the model that this rests on are log entries 13, 14, 55. Rules: R426. -/
def Obligations.RefusedDescriptors : Prop :=
  (∀ (c : Instr) (s : State) (arrive : State → State) (org : Origin) (op : Nat) (l : List Isl) (o : Outcome), request c = some (arrive, org, op, l) → (arrive s).waitsBarrier org = false → (arrive s).gate org op l = some o → ∃ o : Outcome, o.disp ≠ dDone ∧ exec c s = .next ((arrive s).complete org o)) ∧
  (∀ (c : Instr) (s : State) (arrive : State → State) (org : Origin) (op : Nat) (l : List Isl), request c = some (arrive, org, op, l) → (arrive s).waitsBarrier org = true → exec c s = .next (arrive s))

/-- The state after reset: time, registers, field, program, engines, host function, mailboxes, module. Ring time is 0 in free run and
ship time unset. No role is set, locks and SAFE_EN are 0, the EtherType is 88B5. No channel has an owner or a mode, no group a
configuration. The program is stopped with empty slots. No loop, axis or safety configuration. The host function is not ready, its
queues disabled. No mailbox is enabled or posted, the next record is 1, the display frame is 0. The module is in self-test, the
pair unformed, the queue empty. Values that no rule gives are the model's choice. The readings and choices of the model that this
rests on are log entries 9, 10, 11. Rules: R390, R516, R523. -/
def Obligations.StateAfterReset : Prop :=
  (State.reset.now = 0 ∧ State.reset.time.state = .freeRun ∧ State.reset.time.ship = .unset) ∧
  (State.reset.role = none ∧ State.reset.mordant = 0 ∧ State.reset.safeEn = 0 ∧ State.reset.regs.etherType = 0x88B5 ∧ State.reset.regs.modErr = 0) ∧
  ((∀ c : Fin 128, State.reset.owner c = .none ∧ State.reset.mode c = .unconfigured) ∧ (∀ g : Fin 8, State.reset.groups[g].cfg = none ∧ State.reset.safetyGroup g = false)) ∧
  (State.reset.prg.state = .stopped ∧ State.reset.prg.running = none ∧ (∀ k : Fin 2, State.reset.xch.slots[k].state = .empty)) ∧
  ((∀ lp : Fin 64, State.reset.loops[lp].cfg = none) ∧ (∀ ax : Fin 16, State.reset.axes[ax].cfg = none) ∧ State.reset.saf.cfg = none) ∧
  (State.reset.hif.ready = false ∧ (∀ n : Fin 8, State.reset.hif.sqs[n].enable = false ∧ State.reset.hif.cqs[n].enable = false) ∧ State.reset.hif.eq.enable = false ∧ State.reset.hif.tags = []) ∧
  ((∀ n : Fin 32, State.reset.bindEnabled n = false ∧ State.reset.mb.boxes[n].go = false) ∧ State.reset.recorder.nextSeq = 1 ∧ State.reset.disp.frame = 0) ∧
  (State.reset.mod.state = .selftest ∧ State.reset.pair.state = .unformed ∧ State.reset.pending = [])
end

