-- ==== Sys2Proof/Laws/Memory.lean ====
section
/-! SUPPORT. Data memory: what a read gives after a write, and that every operation keeps the canonical form (R128). -/

namespace Sys2Proof.Machine.Memory

/-! ### The canonical form -/

theorem wfFrom_mono {m : List Host.Cell} : ∀ {lo lo' : Nat}, lo' ≤ lo → wfFrom lo m = true → wfFrom lo' m = true := by
  cases m with
  | nil => intros; rfl
  | cons c m =>
    intro lo lo' h hw
    simp only [wfFrom, Bool.and_eq_true, decide_eq_true_eq] at hw ⊢
    exact ⟨⟨le_trans h hw.1.1, hw.1.2⟩, hw.2⟩

/-- Every cell lies at or above the bound. -/
theorem wfFrom_le {m : List Host.Cell} : ∀ {lo : Nat}, wfFrom lo m = true → ∀ c ∈ m, lo ≤ c.1 := by
  induction m with
  | nil => simp
  | cons d m ih =>
    intro lo h c hc
    simp only [wfFrom, Bool.and_eq_true, decide_eq_true_eq] at h
    rcases List.mem_cons.1 hc with rfl | hc
    · exact h.1.1
    · have := ih h.2 c hc; omega

theorem write_wfFrom {m : List Host.Cell} (a : Nat) (v : Byte) :
    ∀ {lo : Nat}, lo ≤ a → wfFrom lo m = true → wfFrom lo (write m a v) = true := by
  induction m with
  | nil =>
    intro lo h _
    unfold write
    split
    · rfl
    · simp_all [wfFrom]
  | cons c m ih =>
    obtain ⟨b, w⟩ := c
    intro lo h hw
    simp only [wfFrom, Bool.and_eq_true, decide_eq_true_eq] at hw
    obtain ⟨⟨h1, h2⟩, h3⟩ := hw
    unfold write
    split
    · split
      · simp [wfFrom, h1, h2, h3]
      · simp only [wfFrom, Bool.and_eq_true, decide_eq_true_eq, bne_iff_ne, ne_eq]
        exact ⟨⟨h, by assumption⟩, ⟨by omega, by simpa using h2⟩, h3⟩
    · split
      · subst_vars
        split
        · exact wfFrom_mono (by omega) h3
        · simp only [wfFrom, Bool.and_eq_true, decide_eq_true_eq, bne_iff_ne, ne_eq]
          exact ⟨⟨h, by assumption⟩, h3⟩
      · simp only [wfFrom, Bool.and_eq_true, decide_eq_true_eq]
        exact ⟨⟨h1, h2⟩, ih (by omega) h3⟩

/-- Writing a byte keeps the canonical form. -/
theorem write_wf {m : List Host.Cell} (h : wf m = true) (a : Nat) (v : Byte) : wf (write m a v) = true :=
  write_wfFrom a v (Nat.zero_le a) h

/-- Writing a run of bytes keeps the canonical form. -/
theorem writeAll_wf (b : Bytes) : ∀ {m : List Host.Cell} (a : Nat), wf m = true → wf (writeAll m a b) = true := by
  induction b with
  | nil => intro m a h; exact h
  | cons x b ih => intro m a h; exact ih (a + 1) (write_wf h a x)

/-- A receiver's memory is canonical whatever cells it was sent. -/
theorem ofCells_wf (l : List Host.Cell) : wf (ofCells l) = true := by
  have aux : ∀ (l : List Host.Cell) m, wf m = true → wf (l.foldl (fun m c => write m c.1 c.2) m) = true := by
    intro l
    induction l with
    | nil => intro m h; exact h
    | cons c l ih => intro m h; exact ih _ (write_wf h _ _)
  exact aux l [] rfl

theorem filter_wfFrom (p : Host.Cell → Bool) {m : List Host.Cell} :
    ∀ {lo : Nat}, wfFrom lo m = true → wfFrom lo (m.filter p) = true := by
  induction m with
  | nil => intro _ h; exact h
  | cons c m ih =>
    intro lo h
    simp only [wfFrom, Bool.and_eq_true, decide_eq_true_eq] at h
    rw [List.filter_cons]
    split
    · simp only [wfFrom, Bool.and_eq_true, decide_eq_true_eq]
      exact ⟨h.1, ih h.2⟩
    · exact wfFrom_mono (by omega) (ih h.2)

/-- Leaving cells out keeps the canonical form. -/
theorem filter_wf (p : Host.Cell → Bool) {m : List Host.Cell} (h : wf m = true) : wf (m.filter p) = true :=
  filter_wfFrom p h

theorem within_wf {m : List Host.Cell} (lo hi : Nat) (h : wf m = true) : wf (within lo hi m) = true := filter_wf _ h

/-- Two canonical lists, the first below the second, join to one. -/
theorem append_wfFrom {m n : List Host.Cell} (k : Nat) (hn : wfFrom k n = true) :
    ∀ {lo : Nat}, wfFrom lo m = true → lo ≤ k → (∀ c ∈ m, c.1 < k) → wfFrom lo (m ++ n) = true := by
  induction m with
  | nil => intro lo _ h _; exact wfFrom_mono h hn
  | cons c m ih =>
    intro lo h hk hc
    simp only [wfFrom, Bool.and_eq_true, decide_eq_true_eq, List.cons_append] at h ⊢
    have h1 := hc c (by simp)
    exact ⟨h.1, ih h.2 (by omega) fun d hd => hc d (by simp [hd])⟩

theorem wfFrom_of_le {m : List Host.Cell} (k : Nat) : ∀ {lo : Nat}, wfFrom lo m = true → (∀ c ∈ m, k ≤ c.1) → wfFrom k m = true := by
  cases m with
  | nil => intros; rfl
  | cons c m =>
    intro lo h hc
    simp only [wfFrom, Bool.and_eq_true, decide_eq_true_eq] at h ⊢
    exact ⟨⟨hc c (by simp), h.1.2⟩, h.2⟩

/-- Replacing a range by another memory's keeps the canonical form. -/
theorem splice_wf {outer inner : List Host.Cell} (lo hi : Nat) (ho : wf outer = true) (hi' : wf inner = true) :
    wf (splice lo hi outer inner) = true := by
  unfold splice
  have hA := filter_wf (fun c => decide (c.1 < lo)) ho
  have hB : wfFrom lo (within lo hi inner) = true :=
    wfFrom_of_le lo (within_wf lo hi hi') (by intro c hc; simp [within] at hc; omega)
  have hC : wfFrom (max lo hi) (outer.filter fun c => decide (lo ≤ c.1) && decide (hi ≤ c.1)) = true :=
    wfFrom_of_le _ (filter_wf _ ho) (by intro c hc; simp at hc; omega)
  have hAB : wf (outer.filter (fun c => decide (c.1 < lo)) ++ within lo hi inner) = true :=
    append_wfFrom lo hB hA (Nat.zero_le _) (by intro c hc; simp at hc; omega)
  refine append_wfFrom _ hC hAB (Nat.zero_le _) ?_
  intro c hc
  simp [within] at hc
  omega

/-! ### Reads after writes -/

theorem read_nil (a : Nat) : read [] a = madder a := rfl

theorem read_cons (c : Host.Cell) (m : List Host.Cell) (a : Nat) :
    read (c :: m) a = if c.1 = a then c.2 else read m a := by
  unfold read
  rw [List.find?_cons]
  split <;> simp_all

/-- A byte below every cell of a canonical list reads as unlisted. -/
theorem read_below {m : List Host.Cell} {lo : Nat} (h : wfFrom lo m = true) {a : Nat} (ha : a < lo) : read m a = madder a := by
  induction m generalizing lo with
  | nil => rfl
  | cons c m ih =>
    simp only [wfFrom, Bool.and_eq_true, decide_eq_true_eq] at h
    rw [read_cons, if_neg (by omega)]
    exact ih h.2 (by omega)

/-- A byte that was written reads as the value written. -/
theorem read_write_same {m : List Host.Cell} (a : Nat) (v : Byte) :
    ∀ {lo : Nat}, wfFrom lo m = true → read (write m a v) a = v := by
  induction m with
  | nil => intro lo _; unfold write; split <;> simp_all [read_cons, read_nil]
  | cons c m ih =>
    obtain ⟨b, w⟩ := c
    intro lo h
    simp only [wfFrom, Bool.and_eq_true, decide_eq_true_eq] at h
    unfold write
    split
    · split
      · rw [read_cons, if_neg (by simp; omega), read_below h.2 (by omega)]; simp_all
      · simp [read_cons]
    · split
      · subst_vars
        split
        · rw [read_below h.2 (by omega)]; simp_all
        · simp [read_cons]
      · rw [read_cons, if_neg (by simp; omega)]; exact ih h.2

/-- A write leaves every other byte alone. -/
theorem read_write_other {m : List Host.Cell} (a x : Nat) (v : Byte) (hx : x ≠ a) : read (write m a v) x = read m x := by
  induction m with
  | nil => unfold write; split <;> simp [read_cons, read_nil, Ne.symm hx]
  | cons c m ih =>
    obtain ⟨b, w⟩ := c
    unfold write
    split
    · split <;> simp [read_cons, Ne.symm hx]
    · split
      · subst_vars
        split <;> simp [read_cons, Ne.symm hx]
      · simp [read_cons, ih]

/-- A run of bytes leaves every byte outside it alone. -/
theorem read_writeAll_other (b : Bytes) :
    ∀ {m : List Host.Cell} (a x : Nat), (x < a ∨ a + b.length ≤ x) → read (writeAll m a b) x = read m x := by
  induction b with
  | nil => intros; rfl
  | cons v b ih =>
    intro m a x h
    simp only [List.length_cons] at h
    show read (writeAll (write m a v) (a + 1) b) x = _
    rw [ih (a + 1) x (by omega), read_write_other a x v (by omega)]

/-- Byte `i` of a run reads back. -/
theorem read_writeAll_same (b : Bytes) :
    ∀ {m : List Host.Cell} (a i : Nat), wf m = true → (hi : i < b.length) → read (writeAll m a b) (a + i) = b[i] := by
  induction b with
  | nil => intro m a i _ hi; simp at hi
  | cons v b ih =>
    intro m a i hw hi
    show read (writeAll (write m a v) (a + 1) b) (a + i) = _
    cases i with
    | zero => rw [read_writeAll_other b (a + 1) (a + 0) (by omega), Nat.add_zero, read_write_same a v hw]; rfl
    | succ i =>
      have := ih (m := write m a v) (a + 1) i (write_wf hw a v) (by simpa using hi)
      rw [show a + (i + 1) = a + 1 + i by omega, this]; rfl

end Sys2Proof.Machine.Memory
end

