-- ==== Sys2Proof/Laws/Keep.lean ====
section
/-! SUPPORT. What a state operation leaves alone: `Keep m s t` says that from `s` to `t` the clock and the counter of free values
do not go back, the queue is the same, canonical memories stay canonical, and every aspect whose bit is not in `m` is the same. -/

namespace Sys2Proof.Machine

/-- The bit of an aspect. -/
def Aspect.bit : Aspect → Nat
  | .tick => 0 | .tickAt => 1 | .laneSeq => 2 | .pulseRound => 3 | .islands => 4 | .live => 5 | .crossings => 6
  | .deferred => 7 | .cells => 8 | .gfes => 9 | .chans => 10 | .groups => 11 | .harts => 12 | .chars => 13 | .prg => 14
  | .memory => 15 | .xch => 16 | .loops => 17 | .overs => 18 | .tune => 19 | .axes => 20 | .tables => 21 | .saf => 22
  | .ring => 23 | .pair => 24 | .time => 25 | .hif => 26 | .regs => 27 | .mb => 28 | .recorder => 29 | .stores => 30
  | .banks => 31 | .disp => 32 | .mod => 33

/-- What an operation may change is given by a mask of aspects. -/
structure Keep (m : Nat) (s t : State) : Prop where
  clock : s.clock ≤ t.clock
  free : s.free ≤ t.free
  pending : t.pending = s.pending
  mem : s.MemOk → t.MemOk
  same : ∀ p : Aspect, m.testBit p.bit = false → p.same s t

namespace Keep

theorem same_refl (p : Aspect) (s : State) : p.same s s := by
  cases p <;> simp [Aspect.same]

theorem same_trans {p : Aspect} {s t u : State} (h : p.same s t) (k : p.same t u) : p.same s u := by
  cases p <;> simp_all [Aspect.same]

theorem refl (m : Nat) (s : State) : Keep m s s := ⟨le_rfl, le_rfl, rfl, id, fun p _ => same_refl p s⟩

theorem trans {m : Nat} {s t u : State} (h : Keep m s t) (k : Keep m t u) : Keep m s u :=
  ⟨h.clock.trans k.clock, h.free.trans k.free, k.pending.trans h.pending, k.mem ∘ h.mem,
    fun p hp => same_trans (h.same p hp) (k.same p hp)⟩

/-- A wider mask. -/
theorem mono {n m : Nat} {s t : State} (h : Keep n s t) (hm : n ||| m = m) : Keep m s t :=
  ⟨h.clock, h.free, h.pending, h.mem, fun p hp => h.same p (by
    rw [← hm, Nat.testBit_or, Bool.or_eq_false_iff] at hp; exact hp.1)⟩

/-- One more operation at the end. -/
theorem snoc {n m : Nat} {s t u : State} (h : Keep n t u) (hm : n ||| m = m) (k : Keep m s t) : Keep m s u :=
  k.trans (h.mono hm)

/-- One more operation at the end, within the same mask. -/
theorem snoc' {m : Nat} {s t u : State} (h : Keep m t u) (k : Keep m s t) : Keep m s u := k.trans h

/-- A choice of two. -/
theorem ite {m : Nat} {s : State} {c : Prop} [Decidable c] {a b : State} (ha : c → Keep m s a) (hb : ¬c → Keep m s b) :
    Keep m s (if c then a else b) := by
  split
  · exact ha ‹_›
  · exact hb ‹_›

theorem ite_fst {α : Type} {m : Nat} {s : State} {c : Prop} [Decidable c] {a b : State × α} (ha : c → Keep m s a.1)
    (hb : ¬c → Keep m s b.1) : Keep m s (if c then a else b).1 := by
  split
  · exact ha ‹_›
  · exact hb ‹_›

/-- The state of an answered pair. -/
theorem fst {α : Type} {m : Nat} {s t : State} {p : State × α} {x : α} (h : p = (t, x)) (k : Keep m s p.1) : Keep m s t := by
  rw [h] at k; exact k

theorem snd {α : Type} {m : Nat} {s t : State} {p : α × State} {x : α} (h : p = (x, t)) (k : Keep m s p.2) : Keep m s t := by
  rw [h] at k; exact k

/-- A fold of operations. -/
theorem foldl {α : Type} {m : Nat} {f : State → α → State} (h : ∀ s x, Keep m s (f s x)) (l : List α) (s : State) :
    Keep m s (l.foldl f s) := by
  induction l generalizing s with
  | nil => exact refl m s
  | cons x l ih => exact (h s x).trans (ih (f s x))

/-- An operation on every member of a table. -/
theorem forAll {n m : Nat} {f : Fin n → State → State} (h : ∀ i s, Keep m s (f i s)) (s : State) :
    Keep m s (forAll n f s) := foldl (fun s i => h i s) _ s

/-- A state with one field changed: all but that field is the same. -/
theorem of_fields {m : Nat} {s t : State} (hc : s.clock ≤ t.clock) (hf : s.free ≤ t.free) (hp : t.pending = s.pending)
    (hm : s.MemOk → t.MemOk) (h : ∀ p : Aspect, m.testBit p.bit = false → p.same s t) : Keep m s t := ⟨hc, hf, hp, hm, h⟩

end Keep

/-- A command answers a next state, and what it leaves alone. -/
structure KeepR (m : Nat) (s : State) (r : Res) : Prop where
  answers : ∃ t, r = .next t ∧ Keep m s t

theorem KeepR.keep {m : Nat} {s : State} {r : Res} (h : KeepR m s r) (t : State) (ht : r = .next t) : Keep m s t := by
  obtain ⟨u, hu, k⟩ := h.answers
  rw [ht] at hu; cases hu; exact k

theorem KeepR.ite {m : Nat} {s : State} {c : Prop} [Decidable c] {a b : Res} (ha : c → KeepR m s a) (hb : ¬c → KeepR m s b) :
    KeepR m s (if c then a else b) := by
  split
  · exact ha ‹_›
  · exact hb ‹_›

theorem KeepR.next {m : Nat} {s t : State} (h : Keep m s t) : KeepR m s (.next t) := ⟨t, rfl, h⟩

end Sys2Proof.Machine
end

