-- ==== Sys2Proof/Laws/KeepBase.lean ====
section
/-! SUPPORT. What the plainest operations leave alone: the updates of one field or one member of a table. -/

namespace Sys2Proof.Machine

theorem KeepR.of {n m : Nat} {s u : State} {r : Res} (h : KeepR n u r) (hm : n ||| m = m) (k : Keep m s u) : KeepR m s r :=
  ⟨h.answers.imp fun _ x => ⟨x.1, k.trans (x.2.mono hm)⟩⟩

theorem State.begin_keep : ∀ (t : Ns) (s : State), Keep 0 s (s.begin t) := by
  intro t s
  refine Keep.of_fields (le_max_left _ _) le_rfl rfl (fun h => h) fun p _ => ?_
  cases p <;> first | exact rfl | exact ⟨rfl, rfl⟩ | exact fun _ => rfl

theorem State.emit_keep : ∀ (e : Emission) (s : State), Keep 0 s (s.emit e) := by
  intro e s
  refine Keep.of_fields le_rfl le_rfl rfl (fun h => h) fun p _ => ?_
  cases p <;> first | exact rfl | exact ⟨rfl, rfl⟩ | exact fun _ => rfl

theorem State.advance_keep : ∀ s : State, Keep 0 s s.advance := by
  intro s
  refine Keep.of_fields le_rfl (Nat.le_succ _) rfl (fun h => h) fun p _ => ?_
  cases p <;> first | exact rfl | exact ⟨rfl, rfl⟩ | exact fun _ => rfl

theorem State.set_tick_keep (s : State) v : Keep 1 s { s with tick := v } := by
  refine Keep.of_fields le_rfl le_rfl rfl (fun h => h) fun p hp => ?_
  cases p <;> first | exact rfl | exact ⟨rfl, rfl⟩ | exact fun _ => rfl | exact absurd hp (by decide)

theorem State.set_tickAt_keep (s : State) v : Keep 2 s { s with tickAt := v } := by
  refine Keep.of_fields le_rfl le_rfl rfl (fun h => h) fun p hp => ?_
  cases p <;> first | exact rfl | exact ⟨rfl, rfl⟩ | exact fun _ => rfl | exact absurd hp (by decide)

theorem State.set_laneSeq_keep (s : State) v : Keep 4 s { s with laneSeq := v } := by
  refine Keep.of_fields le_rfl le_rfl rfl (fun h => h) fun p hp => ?_
  cases p <;> first | exact rfl | exact ⟨rfl, rfl⟩ | exact fun _ => rfl | exact absurd hp (by decide)

theorem State.set_pulseRound_keep (s : State) v : Keep 8 s { s with pulseRound := v } := by
  refine Keep.of_fields le_rfl le_rfl rfl (fun h => h) fun p hp => ?_
  cases p <;> first | exact rfl | exact ⟨rfl, rfl⟩ | exact fun _ => rfl | exact absurd hp (by decide)

theorem State.set_roundIdx_keep (s : State) v : Keep 8 s { s with roundIdx := v } := by
  refine Keep.of_fields le_rfl le_rfl rfl (fun h => h) fun p hp => ?_
  cases p <;> first | exact rfl | exact ⟨rfl, rfl⟩ | exact fun _ => rfl | exact absurd hp (by decide)

theorem State.set_crossings_keep (s : State) v : Keep 64 s { s with crossings := v } := by
  refine Keep.of_fields le_rfl le_rfl rfl (fun h => h) fun p hp => ?_
  cases p <;> first | exact rfl | exact ⟨rfl, rfl⟩ | exact fun _ => rfl | exact absurd hp (by decide)

theorem State.set_deferred_keep (s : State) v : Keep 128 s { s with deferred := v } := by
  refine Keep.of_fields le_rfl le_rfl rfl (fun h => h) fun p hp => ?_
  cases p <;> first | exact rfl | exact ⟨rfl, rfl⟩ | exact fun _ => rfl | exact absurd hp (by decide)

theorem State.set_cells_keep (s : State) v : Keep 256 s { s with cells := v } := by
  refine Keep.of_fields le_rfl le_rfl rfl (fun h => h) fun p hp => ?_
  cases p <;> first | exact rfl | exact ⟨rfl, rfl⟩ | exact fun _ => rfl | exact absurd hp (by decide)

theorem State.set_gfes_keep (s : State) v : Keep 512 s { s with gfes := v } := by
  refine Keep.of_fields le_rfl le_rfl rfl (fun h => h) fun p hp => ?_
  cases p <;> first | exact rfl | exact ⟨rfl, rfl⟩ | exact fun _ => rfl | exact absurd hp (by decide)

theorem State.set_chans_keep (s : State) v : Keep 1024 s { s with chans := v } := by
  refine Keep.of_fields le_rfl le_rfl rfl (fun h => h) fun p hp => ?_
  cases p <;> first | exact rfl | exact ⟨rfl, rfl⟩ | exact fun _ => rfl | exact absurd hp (by decide)

theorem State.set_groups_keep (s : State) v : Keep 2048 s { s with groups := v } := by
  refine Keep.of_fields le_rfl le_rfl rfl (fun h => h) fun p hp => ?_
  cases p <;> first | exact rfl | exact ⟨rfl, rfl⟩ | exact fun _ => rfl | exact absurd hp (by decide)

theorem State.set_harts_keep (s : State) v : Keep 4096 s { s with harts := v } := by
  refine Keep.of_fields le_rfl le_rfl rfl (fun h => h) fun p hp => ?_
  cases p <;> first | exact rfl | exact ⟨rfl, rfl⟩ | exact fun _ => rfl | exact absurd hp (by decide)

theorem State.set_chars_keep (s : State) v : Keep 8192 s { s with chars := v } := by
  refine Keep.of_fields le_rfl le_rfl rfl (fun h => h) fun p hp => ?_
  cases p <;> first | exact rfl | exact ⟨rfl, rfl⟩ | exact fun _ => rfl | exact absurd hp (by decide)

theorem State.set_xch_keep (s : State) v : Keep 65536 s { s with xch := v } := by
  refine Keep.of_fields le_rfl le_rfl rfl (fun h => h) fun p hp => ?_
  cases p <;> first | exact rfl | exact ⟨rfl, rfl⟩ | exact fun _ => rfl | exact absurd hp (by decide)

theorem State.set_loops_keep (s : State) v : Keep 131072 s { s with loops := v } := by
  refine Keep.of_fields le_rfl le_rfl rfl (fun h => h) fun p hp => ?_
  cases p <;> first | exact rfl | exact ⟨rfl, rfl⟩ | exact fun _ => rfl | exact absurd hp (by decide)

theorem State.set_overs_keep (s : State) v : Keep 262144 s { s with overs := v } := by
  refine Keep.of_fields le_rfl le_rfl rfl (fun h => h) fun p hp => ?_
  cases p <;> first | exact rfl | exact ⟨rfl, rfl⟩ | exact fun _ => rfl | exact absurd hp (by decide)

theorem State.set_tune_keep (s : State) v : Keep 524288 s { s with tune := v } := by
  refine Keep.of_fields le_rfl le_rfl rfl (fun h => h) fun p hp => ?_
  cases p <;> first | exact rfl | exact ⟨rfl, rfl⟩ | exact fun _ => rfl | exact absurd hp (by decide)

theorem State.set_axes_keep (s : State) v : Keep 1048576 s { s with axes := v } := by
  refine Keep.of_fields le_rfl le_rfl rfl (fun h => h) fun p hp => ?_
  cases p <;> first | exact rfl | exact ⟨rfl, rfl⟩ | exact fun _ => rfl | exact absurd hp (by decide)

theorem State.set_tables_keep (s : State) v : Keep 2097152 s { s with tables := v } := by
  refine Keep.of_fields le_rfl le_rfl rfl (fun h => h) fun p hp => ?_
  cases p <;> first | exact rfl | exact ⟨rfl, rfl⟩ | exact fun _ => rfl | exact absurd hp (by decide)

theorem State.set_saf_keep (s : State) v : Keep 4194304 s { s with saf := v } := by
  refine Keep.of_fields le_rfl le_rfl rfl (fun h => h) fun p hp => ?_
  cases p <;> first | exact rfl | exact ⟨rfl, rfl⟩ | exact fun _ => rfl | exact absurd hp (by decide)

theorem State.set_ring_keep (s : State) v : Keep 8388608 s { s with ring := v } := by
  refine Keep.of_fields le_rfl le_rfl rfl (fun h => h) fun p hp => ?_
  cases p <;> first | exact rfl | exact ⟨rfl, rfl⟩ | exact fun _ => rfl | exact absurd hp (by decide)

theorem State.set_pair_keep (s : State) v : Keep 16777216 s { s with pair := v } := by
  refine Keep.of_fields le_rfl le_rfl rfl (fun h => h) fun p hp => ?_
  cases p <;> first | exact rfl | exact ⟨rfl, rfl⟩ | exact fun _ => rfl | exact absurd hp (by decide)

theorem State.set_time_keep (s : State) v : Keep 33554432 s { s with time := v } := by
  refine Keep.of_fields le_rfl le_rfl rfl (fun h => h) fun p hp => ?_
  cases p <;> first | exact rfl | exact ⟨rfl, rfl⟩ | exact fun _ => rfl | exact absurd hp (by decide)

theorem State.set_hif_keep (s : State) v : Keep 67108864 s { s with hif := v } := by
  refine Keep.of_fields le_rfl le_rfl rfl (fun h => h) fun p hp => ?_
  cases p <;> first | exact rfl | exact ⟨rfl, rfl⟩ | exact fun _ => rfl | exact absurd hp (by decide)

theorem State.set_regs_keep (s : State) v : Keep 134217728 s { s with regs := v } := by
  refine Keep.of_fields le_rfl le_rfl rfl (fun h => h) fun p hp => ?_
  cases p <;> first | exact rfl | exact ⟨rfl, rfl⟩ | exact fun _ => rfl | exact absurd hp (by decide)

theorem State.set_mb_keep (s : State) v : Keep 268435456 s { s with mb := v } := by
  refine Keep.of_fields le_rfl le_rfl rfl (fun h => h) fun p hp => ?_
  cases p <;> first | exact rfl | exact ⟨rfl, rfl⟩ | exact fun _ => rfl | exact absurd hp (by decide)

theorem State.set_recorder_keep (s : State) v : Keep 536870912 s { s with recorder := v } := by
  refine Keep.of_fields le_rfl le_rfl rfl (fun h => h) fun p hp => ?_
  cases p <;> first | exact rfl | exact ⟨rfl, rfl⟩ | exact fun _ => rfl | exact absurd hp (by decide)

theorem State.set_disp_keep (s : State) v : Keep 4294967296 s { s with disp := v } := by
  refine Keep.of_fields le_rfl le_rfl rfl (fun h => h) fun p hp => ?_
  cases p <;> first | exact rfl | exact ⟨rfl, rfl⟩ | exact fun _ => rfl | exact absurd hp (by decide)

theorem State.set_mod_keep (s : State) v : Keep 8589934592 s { s with mod := v } := by
  refine Keep.of_fields le_rfl le_rfl rfl (fun h => h) fun p hp => ?_
  cases p <;> first | exact rfl | exact ⟨rfl, rfl⟩ | exact fun _ => rfl | exact absurd hp (by decide)

theorem State.updCell_keep : ∀ i f s, Keep 256 s (State.updCell i f s) := by
  intro i f s
  refine Keep.of_fields le_rfl le_rfl rfl (fun h => h) fun p hp => ?_
  cases p <;> first | exact rfl | exact ⟨rfl, rfl⟩ | exact fun _ => rfl | exact absurd hp (by decide)

theorem State.updGfe_keep : ∀ i f s, Keep 512 s (State.updGfe i f s) := by
  intro i f s
  refine Keep.of_fields le_rfl le_rfl rfl (fun h => h) fun p hp => ?_
  cases p <;> first | exact rfl | exact ⟨rfl, rfl⟩ | exact fun _ => rfl | exact absurd hp (by decide)

theorem State.updChan_keep : ∀ i f s, Keep 1024 s (State.updChan i f s) := by
  intro i f s
  refine Keep.of_fields le_rfl le_rfl rfl (fun h => h) fun p hp => ?_
  cases p <;> first | exact rfl | exact ⟨rfl, rfl⟩ | exact fun _ => rfl | exact absurd hp (by decide)

theorem State.updGroup_keep : ∀ i f s, Keep 2048 s (State.updGroup i f s) := by
  intro i f s
  refine Keep.of_fields le_rfl le_rfl rfl (fun h => h) fun p hp => ?_
  cases p <;> first | exact rfl | exact ⟨rfl, rfl⟩ | exact fun _ => rfl | exact absurd hp (by decide)

theorem State.updHart_keep : ∀ i f s, Keep 4096 s (State.updHart i f s) := by
  intro i f s
  refine Keep.of_fields le_rfl le_rfl rfl (fun h => h) fun p hp => ?_
  cases p <;> first | exact rfl | exact ⟨rfl, rfl⟩ | exact fun _ => rfl | exact absurd hp (by decide)

theorem State.updLoop_keep : ∀ i f s, Keep 131072 s (State.updLoop i f s) := by
  intro i f s
  refine Keep.of_fields le_rfl le_rfl rfl (fun h => h) fun p hp => ?_
  cases p <;> first | exact rfl | exact ⟨rfl, rfl⟩ | exact fun _ => rfl | exact absurd hp (by decide)

theorem State.updOver_keep : ∀ i f s, Keep 262144 s (State.updOver i f s) := by
  intro i f s
  refine Keep.of_fields le_rfl le_rfl rfl (fun h => h) fun p hp => ?_
  cases p <;> first | exact rfl | exact ⟨rfl, rfl⟩ | exact fun _ => rfl | exact absurd hp (by decide)

theorem State.updAxis_keep : ∀ i f s, Keep 1048576 s (State.updAxis i f s) := by
  intro i f s
  refine Keep.of_fields le_rfl le_rfl rfl (fun h => h) fun p hp => ?_
  cases p <;> first | exact rfl | exact ⟨rfl, rfl⟩ | exact fun _ => rfl | exact absurd hp (by decide)

theorem State.updXch_keep : ∀ f s, Keep 65536 s (State.updXch f s) := by
  intro f s
  refine Keep.of_fields le_rfl le_rfl rfl (fun h => h) fun p hp => ?_
  cases p <;> first | exact rfl | exact ⟨rfl, rfl⟩ | exact fun _ => rfl | exact absurd hp (by decide)

theorem State.updTune_keep : ∀ f s, Keep 524288 s (State.updTune f s) := by
  intro f s
  refine Keep.of_fields le_rfl le_rfl rfl (fun h => h) fun p hp => ?_
  cases p <;> first | exact rfl | exact ⟨rfl, rfl⟩ | exact fun _ => rfl | exact absurd hp (by decide)

theorem State.updSaf_keep : ∀ f s, Keep 4194304 s (State.updSaf f s) := by
  intro f s
  refine Keep.of_fields le_rfl le_rfl rfl (fun h => h) fun p hp => ?_
  cases p <;> first | exact rfl | exact ⟨rfl, rfl⟩ | exact fun _ => rfl | exact absurd hp (by decide)

theorem State.updRing_keep : ∀ f s, Keep 8388608 s (State.updRing f s) := by
  intro f s
  refine Keep.of_fields le_rfl le_rfl rfl (fun h => h) fun p hp => ?_
  cases p <;> first | exact rfl | exact ⟨rfl, rfl⟩ | exact fun _ => rfl | exact absurd hp (by decide)

theorem State.updPair_keep : ∀ f s, Keep 16777216 s (State.updPair f s) := by
  intro f s
  refine Keep.of_fields le_rfl le_rfl rfl (fun h => h) fun p hp => ?_
  cases p <;> first | exact rfl | exact ⟨rfl, rfl⟩ | exact fun _ => rfl | exact absurd hp (by decide)

theorem State.updTime_keep : ∀ f s, Keep 33554432 s (State.updTime f s) := by
  intro f s
  refine Keep.of_fields le_rfl le_rfl rfl (fun h => h) fun p hp => ?_
  cases p <;> first | exact rfl | exact ⟨rfl, rfl⟩ | exact fun _ => rfl | exact absurd hp (by decide)

theorem State.updHif_keep : ∀ f s, Keep 67108864 s (State.updHif f s) := by
  intro f s
  refine Keep.of_fields le_rfl le_rfl rfl (fun h => h) fun p hp => ?_
  cases p <;> first | exact rfl | exact ⟨rfl, rfl⟩ | exact fun _ => rfl | exact absurd hp (by decide)

theorem State.updRegs_keep : ∀ f s, Keep 134217728 s (State.updRegs f s) := by
  intro f s
  refine Keep.of_fields le_rfl le_rfl rfl (fun h => h) fun p hp => ?_
  cases p <;> first | exact rfl | exact ⟨rfl, rfl⟩ | exact fun _ => rfl | exact absurd hp (by decide)

theorem State.updMb_keep : ∀ f s, Keep 268435456 s (State.updMb f s) := by
  intro f s
  refine Keep.of_fields le_rfl le_rfl rfl (fun h => h) fun p hp => ?_
  cases p <;> first | exact rfl | exact ⟨rfl, rfl⟩ | exact fun _ => rfl | exact absurd hp (by decide)

theorem State.updRec_keep : ∀ f s, Keep 536870912 s (State.updRec f s) := by
  intro f s
  refine Keep.of_fields le_rfl le_rfl rfl (fun h => h) fun p hp => ?_
  cases p <;> first | exact rfl | exact ⟨rfl, rfl⟩ | exact fun _ => rfl | exact absurd hp (by decide)

theorem State.updDisp_keep : ∀ f s, Keep 4294967296 s (State.updDisp f s) := by
  intro f s
  refine Keep.of_fields le_rfl le_rfl rfl (fun h => h) fun p hp => ?_
  cases p <;> first | exact rfl | exact ⟨rfl, rfl⟩ | exact fun _ => rfl | exact absurd hp (by decide)

theorem State.updMod_keep : ∀ f s, Keep 8589934592 s (State.updMod f s) := by
  intro f s
  refine Keep.of_fields le_rfl le_rfl rfl (fun h => h) fun p hp => ?_
  cases p <;> first | exact rfl | exact ⟨rfl, rfl⟩ | exact fun _ => rfl | exact absurd hp (by decide)

theorem State.updFn_keep : ∀ i f s, Keep 4194304 s (State.updFn i f s) := by
  intro i f s
  refine Keep.of_fields le_rfl le_rfl rfl (fun h => h) fun p hp => ?_
  cases p <;> first | exact rfl | exact ⟨rfl, rfl⟩ | exact fun _ => rfl | exact absurd hp (by decide)

theorem State.updBox_keep : ∀ i f s, Keep 268435456 s (State.updBox i f s) := by
  intro i f s
  refine Keep.of_fields le_rfl le_rfl rfl (fun h => h) fun p hp => ?_
  cases p <;> first | exact rfl | exact ⟨rfl, rfl⟩ | exact fun _ => rfl | exact absurd hp (by decide)

/-- The program engine changes beside its data memory. -/
theorem State.updPrg_keep (f) (s : State) (h : (f s.prg).data = s.prg.data ∧ (f s.prg).boundary = s.prg.boundary) :
    Keep 16384 s (s.updPrg f) := by
  refine Keep.of_fields le_rfl le_rfl rfl (fun k => ?_) fun p hp => ?_
  · unfold State.MemOk State.updPrg at *
    simp only [h.1, h.2]
    exact k
  · cases p <;> first | exact rfl | exact h | exact ⟨rfl, rfl⟩ | exact fun _ => rfl | exact absurd hp (by decide)

/-- The program engine changes, its data memory kept canonical. -/
theorem State.updPrg_mem (f) (s : State) (h : Memory.wf s.prg.data.mem = true → Memory.wf s.prg.boundary.data.mem = true →
    Memory.wf (f s.prg).data.mem = true ∧ Memory.wf (f s.prg).boundary.data.mem = true) :
    Keep 49152 s (s.updPrg f) := by
  refine Keep.of_fields le_rfl le_rfl rfl (fun k => ?_) fun p hp => ?_
  · have := h k.1 k.2.1
    exact ⟨this.1, this.2, k.2.2⟩
  · cases p <;> first | exact rfl | exact ⟨rfl, rfl⟩ | exact fun _ => rfl | exact absurd hp (by decide)

theorem State.updStore_get (i : Fin 2) (f) (s : State) (j : Fin 2) :
    (s.updStore i f).stores[j] = if i = j then f s.stores[i] else s.stores[j] := by
  simp only [State.updStore, Fin.getElem_fin, Vector.getElem_set, Fin.ext_iff]

/-- A store changes beside what its banks hold. -/
theorem State.updStore_keep (i : Fin 2) (f) (s : State) (h : ∀ x, (f x).held = x.held) :
    Keep 1073741824 s (s.updStore i f) := by
  have hh : ∀ j : Fin 2, ((s.updStore i f).stores[j]).held = (s.stores[j]).held := by
    intro j
    rw [State.updStore_get]
    split
    · subst_vars; exact h _
    · rfl
  refine Keep.of_fields le_rfl le_rfl rfl (fun k => ⟨k.1, k.2.1, fun j => ?_⟩) fun p hp => ?_
  · have := k.2.2 j
    unfold Store.heldOk at *
    rw [hh j]
    exact this
  · cases p <;> first | exact hh | exact rfl | exact ⟨rfl, rfl⟩ | exact fun _ => rfl | exact absurd hp (by decide)

/-- A store changes, what it holds kept canonical. -/
theorem State.updStore_mem (i : Fin 2) (f) (s : State) (h : s.MemOk → (f s.stores[i]).heldOk) :
    Keep 3221225472 s (s.updStore i f) := by
  refine Keep.of_fields le_rfl le_rfl rfl (fun k => ⟨k.1, k.2.1, fun j => ?_⟩) fun p hp => ?_
  · rw [State.updStore_get]
    split
    · exact h k
    · exact k.2.2 j
  · cases p <;> first | exact rfl | exact ⟨rfl, rfl⟩ | exact fun _ => rfl | exact absurd hp (by decide)

/-- An island changes beside whether it runs. -/
theorem State.updIsland_keep (i : Fin 11) (f) (s : State) (h : ∀ x, (f x).state = x.state) : Keep 16 s (s.updIsland i f) := by
  have hh : ∀ j : Fin 11, ((s.updIsland i f).islands[j]).state = (s.islands[j]).state := by
    intro j
    simp only [State.updIsland, Fin.getElem_fin, Vector.getElem_set]
    split
    · rename_i e; simp only [h]; congr 1; simp [e]
    · rfl
  refine Keep.of_fields le_rfl le_rfl rfl (fun k => k) fun p hp => ?_
  cases p <;> first | exact hh | exact rfl | exact ⟨rfl, rfl⟩ | exact fun _ => rfl | exact absurd hp (by decide)

theorem State.updIsland_live (i : Fin 11) (f) (s : State) : Keep 48 s (s.updIsland i f) := by
  refine Keep.of_fields le_rfl le_rfl rfl (fun k => k) fun p hp => ?_
  cases p <;> first | exact rfl | exact ⟨rfl, rfl⟩ | exact fun _ => rfl | exact absurd hp (by decide)

theorem State.set_islands_keep (s : State) v : Keep 48 s { s with islands := v } := by
  refine Keep.of_fields le_rfl le_rfl rfl (fun k => k) fun p hp => ?_
  cases p <;> first | exact rfl | exact ⟨rfl, rfl⟩ | exact fun _ => rfl | exact absurd hp (by decide)

theorem State.set_ticks_keep (s : State) v w : Keep 3 s { s with tick := v, tickAt := w } := by
  refine Keep.of_fields le_rfl le_rfl rfl (fun k => k) fun p hp => ?_
  cases p <;> first | exact rfl | exact ⟨rfl, rfl⟩ | exact fun _ => rfl | exact absurd hp (by decide)

theorem State.set_round_keep (s : State) v w : Keep 8 s { s with pulseRound := v, roundIdx := w } := by
  refine Keep.of_fields le_rfl le_rfl rfl (fun k => k) fun p hp => ?_
  cases p <;> first | exact rfl | exact ⟨rfl, rfl⟩ | exact fun _ => rfl | exact absurd hp (by decide)

/-- An operation of the hub, or the crossing error while the hub does not answer. -/
theorem State.atHub_keep {m : Nat} {f : State → State} (h : ∀ s, Keep m s (f s)) (w) {s u : State} (k : Keep m s u) :
    Keep m s (u.atHub w f) := by
  unfold State.atHub
  split
  · exact Keep.snoc (State.emit_keep _ _) (Nat.zero_or m) k
  · exact Keep.snoc' (h u) k

/-- What a store holds, bank by bank. -/
theorem Store.heldOk_iff (x : Store) :
    x.heldOk ↔ (∀ k : Fin 2, (x.banks[k]).payload.wf) ∧ ∀ v, x.running = some v → v.payload.wf := by
  constructor
  · rintro ⟨h0, h1, h2⟩
    refine ⟨fun k => ?_, fun v hv => h2 v.payload (by simp [Store.held, hv])⟩
    match k with
    | 0 => exact h0
    | 1 => exact h1
  · rintro ⟨h, k⟩
    refine ⟨h 0, h 1, fun p hp => ?_⟩
    cases hr : x.running with
    | none => simp [Store.held, hr] at hp
    | some v => simp [Store.held, hr] at hp; rw [← hp]; exact k v hr

/-- A bank takes a canonical payload, or keeps its own. -/
theorem Store.heldOk_bank {x y : Store} (h : x.heldOk) (k : Fin 2) (b : Bank) (hb : b.payload.wf)
    (hy : y.banks = x.banks.set k b) (hr : ∀ v, y.running = some v → v.payload.wf) : y.heldOk := by
  rw [Store.heldOk_iff] at *
  refine ⟨fun j => ?_, hr⟩
  rw [hy]
  simp only [Fin.getElem_fin, Vector.getElem_set]
  split
  · exact hb
  · exact h.1 j

/-- An expiry that waits for a frame, or acts. -/
theorem State.deferOr_keep {m : Nat} {act : State → State} (h : ∀ s, Keep m s (act s)) (w d r) {s u : State}
    (hm : 128 ||| m = m) (k : Keep m s u) : Keep m s (u.deferOr w d r act) := by
  unfold State.deferOr
  split
  · exact Keep.snoc (State.set_deferred_keep _ _) hm k
  · exact Keep.snoc' (h u) k

end Sys2Proof.Machine
end

