-- ==== Sys2Proof/Laws/Data.lean ====
section
/-! SUPPORT. Every operation on the program's data memory keeps its canonical form (R128, R145, R146, R183, R382). -/

namespace Sys2Proof.Machine

theorem PrgData.put_mem (d : PrgData) (k : BitVec 64) (i : Inst) : (d.put k i).mem = d.mem := rfl

theorem Image.initial_wf (b : Bytes) : Memory.wf (Image.initial b) = true := Memory.writeAll_wf _ _ rfl

theorem PrgData.canon_wf (d : PrgData) : Memory.wf d.canon.mem = true := Memory.ofCells_wf _

theorem Running.retained_wf (r : Running) {d : PrgData} (h : Memory.wf d.mem = true) : Memory.wf (r.retained d).mem = true :=
  Memory.within_wf _ _ h

theorem Running.restore_wf (r : Running) {d ret : PrgData} (h : Memory.wf d.mem = true) (k : Memory.wf ret.mem = true) :
    Memory.wf (r.restore d ret).mem = true := Memory.splice_wf _ _ h k

theorem rebase_mem (saved now : Int) (d : PrgData) : (rebase saved now d).mem = d.mem := rfl

/-- One act of a task keeps data memory canonical. -/
theorem Running.act_wf (r : Running) (now : Int) (x : PrgData × Option Nat) (a : PrgAct) (h : Memory.wf x.1.mem = true) :
    Memory.wf (r.act now x a).1.mem = true := by
  obtain ⟨d, bad⟩ := x
  unfold Running.act
  dsimp only
  split
  · exact h
  · cases a with
    | store addr data =>
      dsimp only
      split
      · exact Memory.writeAll_wf _ _ h
      · exact h
    | _ => exact h

/-- The acts of a task keep data memory canonical. -/
theorem Running.acts_wf (r : Running) (now : Int) (l : List PrgAct) {d : PrgData} (h : Memory.wf d.mem = true) :
    Memory.wf (r.acts now l d).1.mem = true := by
  have aux : ∀ (l : List PrgAct) (x : PrgData × Option Nat), Memory.wf x.1.mem = true →
      Memory.wf (l.foldl (r.act now) x).1.mem = true := by
    intro l
    induction l with
    | nil => intro x hx; exact hx
    | cons a l ih => intro x hx; exact ih _ (r.act_wf now x a hx)
  exact aux l (d, none) h

theorem carryEntry_wf (old : List KeyEntry) (src : PrgData) {d : PrgData} (n : KeyEntry) (h : Memory.wf d.mem = true) :
    Memory.wf (carryEntry old src d n).mem = true := by
  unfold carryEntry
  split
  · dsimp only
    split
    · exact Memory.writeAll_wf _ _ h
    · exact Memory.writeAll_wf _ _ h
  · dsimp only
    have h1 : ∀ b o v, Memory.wf (match convert o n b v with
        | some v => ({ d with mem := Memory.writeAll d.mem n.addr v } : PrgData)
        | none => d).mem = true := by
      intro b o v
      split
      · exact Memory.writeAll_wf _ _ h
      · exact h
    split
    · exact h1 _ _ _
    · exact h1 _ _ _
  · exact h

/-- The carried data memory is canonical, whatever the old one held. -/
theorem carryData_wf (old : List KeyEntry) (src : PrgData) (image : Bytes) (new : List KeyEntry) :
    Memory.wf (carryData old src image new).mem = true := by
  have aux : ∀ (l : List KeyEntry) (d : PrgData), Memory.wf d.mem = true → Memory.wf (l.foldl (carryEntry old src) d).mem = true := by
    intro l
    induction l with
    | nil => intro d h; exact h
    | cons n l ih => intro d h; exact ih _ (carryEntry_wf old src n h)
  exact aux new _ (Image.initial_wf image)

/-- The bank that a WARM start restores is canonical. -/
theorem State.retainedBank_wf {s : State} (h : s.MemOk) {id : Bytes} {b : Boundary} (hb : s.retainedBank id = some b) :
    Memory.wf b.data.mem = true := by
  have hk := ((Store.heldOk_iff _).1 (h.2.2 1)).1
  have aux : ∀ k : Fin 2, (if (s.stores[(1 : Fin 2)]).banks[k].valid = true then
      (match (s.stores[(1 : Fin 2)]).banks[k].payload with
      | .retained x => if x.imageId = id then some x else none
      | _ => none) else none) = some b → Memory.wf b.data.mem = true := by
    intro k
    have := hk k
    split
    · split
      · split
        · intro e; cases e; simp_all [StorePayload.wf]
        · intro e; cases e
      · intro e; cases e
    · intro e; cases e
  unfold State.retainedBank at hb
  dsimp only at hb
  split at hb
  · split at hb
    · cases hb; exact aux 1 (by assumption)
    · cases hb; exact aux 0 (by assumption)
  · cases hb; exact aux 0 (by assumption)
  · exact aux 1 hb

/-- The program engine changes and its memory stays canonical, given that it was. -/
theorem Keep.snoc_prg {m : Nat} {s t : State} (f : Program → Program) (k : Keep m s t)
    (h : s.MemOk → t.MemOk → Memory.wf (f t.prg).data.mem = true ∧ Memory.wf (f t.prg).boundary.data.mem = true)
    (hm : 49152 ||| m = m) : Keep m s (t.updPrg f) := by
  refine Keep.of_fields k.clock k.free k.pending (fun hs => ?_) fun p hp => ?_
  · have ht := k.mem hs
    exact ⟨(h hs ht).1, (h hs ht).2, ht.2.2⟩
  · refine Keep.same_trans (k.same p hp) ?_
    have hb : (49152 : Nat).testBit p.bit = false := by
      rw [← hm, Nat.testBit_or, Bool.or_eq_false_iff] at hp; exact hp.1
    cases p <;> first | exact rfl | exact ⟨rfl, rfl⟩ | exact fun _ => rfl | exact absurd hb (by decide)

end Sys2Proof.Machine
end

