-- ==== Sys2Proof/Laws/Exec.lean ====
section
/-! SUPPORT. One equation per command: what `exec` calls for it; and a descriptor that is taken up runs its work. -/

namespace Sys2Proof.Machine

/-- A descriptor that is admitted and whose checks pass runs its work. -/
theorem serve_next {org : Origin} {op : Nat} {l : List Isl} {f c : Option Outcome} {work : State → State} {s : State}
    (h : s.Admits org op l) (hf : f = none) (hc : c = none) : serve org op l f c work s = .next (work s) := by
  simp [serve, h.1, h.2, hf, hc]

/-- A descriptor that waits for a barrier changes nothing. -/
theorem serve_waits {org : Origin} {op : Nat} {l : List Isl} {f c : Option Outcome} {work : State → State} {s : State}
    (h : s.waitsBarrier org = true) : serve org op l f c work s = .next s := by
  simp [serve, h]

/-- A descriptor that a check refuses is answered with the outcome of the first check that fails. -/
theorem serve_refused {org : Origin} {op : Nat} {l : List Isl} {f c : Option Outcome} {work : State → State} {s : State}
    {o : Outcome} (h : s.waitsBarrier org = false) (hc : ((f.orElse fun _ => s.gate org op l).orElse fun _ => c) = some o) :
    serve org op l f c work s = answer org o s := by
  simp only [serve, h, Bool.false_eq_true, if_false, hc]

theorem exec_crossingRequest (t src dst x accepted s) :
    exec (.crossingRequest t src dst x accepted) s = execCrossingRequest t src dst x accepted s := rfl
theorem exec_islandWatchdogExpiry (t isl s) : exec (.islandWatchdogExpiry t isl) s = execIslandWatchdogExpiry t isl s := rfl
theorem exec_crossingTimeout (t src dst s) : exec (.crossingTimeout t src dst) s = execCrossingTimeout t src dst s := rfl
theorem exec_islandReady (t isl s) : exec (.islandReady t isl) s = execIslandReady t isl s := rfl
theorem exec_recordSubmit (t src kind items s) :
    exec (.recordSubmit t src kind items) s = execRecordSubmit t src kind items s := rfl
theorem exec_recordsDropped (t s) : exec (.recordsDropped t) s = execRecordsDropped t s := rfl
theorem exec_timeoutDecisionDeferred (t which good stamp s) :
    exec (.timeoutDecisionDeferred t which good stamp) s = execTimeoutDecisionDeferred t which good stamp s := rfl
theorem exec_laneTick (t cells groups s) : exec (.laneTick t cells groups) s = execLaneTick t cells groups s := rfl
theorem exec_channelInputFrame (t ch frame s) :
    exec (.channelInputFrame t ch frame) s = execChannelInputFrame t ch frame s := rfl
theorem exec_outputCutoff (t s) : exec (.outputCutoff t) s = execOutputCutoff t s := rfl
theorem exec_channelOutputFrame (t ch frame s) :
    exec (.channelOutputFrame t ch frame) s = execChannelOutputFrame t ch frame s := rfl
theorem exec_groupOutputFrame (t g frame s) : exec (.groupOutputFrame t g frame) s = execGroupOutputFrame t g frame s := rfl
theorem exec_groupInputFrame (t g frame s) : exec (.groupInputFrame t g frame) s = execGroupInputFrame t g frame s := rfl
theorem exec_silentEntry (t ch s) : exec (.silentEntry t ch) s = execSilentEntry t ch s := rfl
theorem exec_groupSilentEntry (t g s) : exec (.groupSilentEntry t g) s = execGroupSilentEntry t g s := rfl
theorem exec_sdoReadbackCheck (t ch s) : exec (.sdoReadbackCheck t ch) s = execSdoReadbackCheck t ch s := rfl
theorem exec_groupSdoReadbackCheck (t g s) : exec (.groupSdoReadbackCheck t g) s = execGroupSdoReadbackCheck t g s := rfl
theorem exec_holdLimitExpiry (t ch s) : exec (.holdLimitExpiry t ch) s = execHoldLimitExpiry t ch s := rfl
theorem exec_wireBreakSet (t ch s) : exec (.wireBreakSet t ch) s = execWireBreakSet t ch s := rfl
theorem exec_wireBreakClear (t ch s) : exec (.wireBreakClear t ch) s = execWireBreakClear t ch s := rfl
theorem exec_inrushWindowEnd (t ch s) : exec (.inrushWindowEnd t ch) s = execInrushWindowEnd t ch s := rfl
theorem exec_overloadTrip (t ch s) : exec (.overloadTrip t ch) s = execOverloadTrip t ch s := rfl
theorem exec_overloadRetry (t ch s) : exec (.overloadRetry t ch) s = execOverloadRetry t ch s := rfl
theorem exec_overloadClear (t ch s) : exec (.overloadClear t ch) s = execOverloadClear t ch s := rfl
theorem exec_openLoad (t ch s) : exec (.openLoad t ch) s = execOpenLoad t ch s := rfl
theorem exec_offPulseSlot (t ch s) : exec (.offPulseSlot t ch) s = execOffPulseSlot t ch s := rfl
theorem exec_offPulseEnd (t ch seen s) : exec (.offPulseEnd t ch seen) s = execOffPulseEnd t ch seen s := rfl
theorem exec_offPulseRoundEnd (t s) : exec (.offPulseRoundEnd t) s = execOffPulseRoundEnd t s := rfl
theorem exec_testPulseSlot (t ch belowOff closed s) :
    exec (.testPulseSlot t ch belowOff closed) s = execTestPulseSlot t ch belowOff closed s := rfl
theorem exec_readbackDelayExpiry (t ch s) : exec (.readbackDelayExpiry t ch) s = execReadbackDelayExpiry t ch s := rfl
theorem exec_lplusLow (t g s) : exec (.lplusLow t g) s = execLplusLow t g s := rfl
theorem exec_lplusOff (t g s) : exec (.lplusOff t g) s = execLplusOff t g s := rfl
theorem exec_lplusHigh (t g s) : exec (.lplusHigh t g) s = execLplusHigh t g s := rfl
theorem exec_lplusRecover (t g s) : exec (.lplusRecover t g) s = execLplusRecover t g s := rfl
theorem exec_groupConfig (t org obj s) : exec (.groupConfig t org obj) s = execGroupConfig t org obj s := rfl
theorem exec_cfgCommit (t g s) : exec (.cfgCommit t g) s = execCfgCommit t g s := rfl
theorem exec_groupConfigSettled (t g s) : exec (.groupConfigSettled t g) s = execGroupConfigSettled t g s := rfl
theorem exec_groupConfigResend (t g s) : exec (.groupConfigResend t g) s = execGroupConfigResend t g s := rfl
theorem exec_buckTargetReached (t ch s) : exec (.buckTargetReached t ch) s = execBuckTargetReached t ch s := rfl
theorem exec_thermalClear (t ch s) : exec (.thermalClear t ch) s = execThermalClear t ch s := rfl
theorem exec_complianceSet (t ch s) : exec (.complianceSet t ch) s = execComplianceSet t ch s := rfl
theorem exec_complianceClear (t ch s) : exec (.complianceClear t ch) s = execComplianceClear t ch s := rfl
theorem exec_rangeDelayExpiry (t ch s) : exec (.rangeDelayExpiry t ch) s = execRangeDelayExpiry t ch s := rfl
theorem exec_charLoad (t org obj s) : exec (.charLoad t org obj) s = execCharLoad t org obj s := rfl
theorem exec_calibrationCheck (t ch s) : exec (.calibrationCheck t ch) s = execCalibrationCheck t ch s := rfl
theorem exec_calibrationCheckEnd (t ch ref4 ref20 s) :
    exec (.calibrationCheckEnd t ch ref4 ref20) s = execCalibrationCheckEnd t ch ref4 ref20 s := rfl
theorem exec_hartRequest (t org obj s) : exec (.hartRequest t org obj) s = execHartRequest t org obj s := rfl
theorem exec_hartTransmitStart (t ch s) : exec (.hartTransmitStart t ch) s = execHartTransmitStart t ch s := rfl
theorem exec_hartResponse (t ch start frame s) :
    exec (.hartResponse t ch start frame) s = execHartResponse t ch start frame s := rfl
theorem exec_hartNoResponse (t ch s) : exec (.hartNoResponse t ch) s = execHartNoResponse t ch s := rfl
theorem exec_hartBurst (t ch start frame s) : exec (.hartBurst t ch start frame) s = execHartBurst t ch start frame s := rfl
theorem exec_burstSilence (t ch s) : exec (.burstSilence t ch) s = execBurstSilence t ch s := rfl
theorem exec_mainCycleStart (t faultActs acts s) :
    exec (.mainCycleStart t faultActs acts) s = execMainCycleStart t faultActs acts s := rfl
theorem exec_outputWrite (t writes s) : exec (.outputWrite t writes) s = execOutputWrite t writes s := rfl
theorem exec_eventTaskStart (t prio s) : exec (.eventTaskStart t prio) s = execEventTaskStart t prio s := rfl
theorem exec_eventTaskEnd (t prio acts writes s) :
    exec (.eventTaskEnd t prio acts writes) s = execEventTaskEnd t prio acts writes s := rfl
theorem exec_cycleLong (t s) : exec (.cycleLong t) s = execCycleLong t s := rfl
theorem exec_cycleLongEnd (t acts s) : exec (.cycleLongEnd t acts) s = execCycleLongEnd t acts s := rfl
theorem exec_watchdogHalt (t s) : exec (.watchdogHalt t) s = execWatchdogHalt t s := rfl
theorem exec_trap (t code codeAddr dataAddr s) :
    exec (.trap t code codeAddr dataAddr) s = execTrap t code codeAddr dataAddr s := rfl
theorem exec_eccHalt (t s) : exec (.eccHalt t) s = execEccHalt t s := rfl
theorem exec_eventOverrun (t prio s) : exec (.eventOverrun t prio) s = execEventOverrun t prio s := rfl
theorem exec_run (t org obj s) : exec (.run t org obj) s = execRun t org obj s := rfl
theorem exec_startFinished (t acts writes s) : exec (.startFinished t acts writes) s = execStartFinished t acts writes s := rfl
theorem exec_stop (t org obj s) : exec (.stop t org obj) s = execStop t org obj s := rfl
theorem exec_isoEnter (t org obj s) : exec (.isoEnter t org obj) s = execIsoEnter t org obj s := rfl
theorem exec_isoLeave (t org obj s) : exec (.isoLeave t org obj) s = execIsoLeave t org obj s := rfl
theorem exec_programParam (t org obj s) : exec (.programParam t org obj) s = execProgramParam t org obj s := rfl
theorem exec_varWrite (t org obj s) : exec (.varWrite t org obj) s = execVarWrite t org obj s := rfl
theorem exec_retainedSaveInterval (t s) : exec (.retainedSaveInterval t) s = execRetainedSaveInterval t s := rfl
theorem exec_cycleSlip (t s) : exec (.cycleSlip t) s = execCycleSlip t s := rfl
theorem exec_imageStage (t org param data s) : exec (.imageStage t org param data) s = execImageStage t org param data s := rfl
theorem exec_imageVerifyEnd (t partnerOk s) : exec (.imageVerifyEnd t partnerOk) s = execImageVerifyEnd t partnerOk s := rfl
theorem exec_programSwitch (t org obj s) : exec (.programSwitch t org obj) s = execProgramSwitch t org obj s := rfl
theorem exec_armed (t cycle s) : exec (.armed t cycle) s = execArmed t cycle s := rfl
theorem exec_pairNotArmed (t s) : exec (.pairNotArmed t) s = execPairNotArmed t s := rfl
theorem exec_preSwitchEnd (t gapUs acts s) : exec (.preSwitchEnd t gapUs acts) s = execPreSwitchEnd t gapUs acts s := rfl
theorem exec_postSwitchEnd (t acts s) : exec (.postSwitchEnd t acts) s = execPostSwitchEnd t acts s := rfl
theorem exec_loopSample (t lp done s) : exec (.loopSample t lp done) s = execLoopSample t lp done s := rfl
theorem exec_catchUpSample (t lp done s) : exec (.catchUpSample t lp done) s = execCatchUpSample t lp done s := rfl
theorem exec_loopSlip (t lp s) : exec (.loopSlip t lp) s = execLoopSlip t lp s := rfl
theorem exec_loopConfig (t org obj s) : exec (.loopConfig t org obj) s = execLoopConfig t org obj s := rfl
theorem exec_loopCommand (t org obj s) : exec (.loopCommand t org obj) s = execLoopCommand t org obj s := rfl
theorem exec_overrideConfig (t org obj s) : exec (.overrideConfig t org obj) s = execOverrideConfig t org obj s := rfl
theorem exec_tuneStart (t org obj s) : exec (.tuneStart t org obj) s = execTuneStart t org obj s := rfl
theorem exec_tuneStop (t org obj s) : exec (.tuneStop t org obj) s = execTuneStop t org obj s := rfl
theorem exec_tuneEnd (t s) : exec (.tuneEnd t) s = execTuneEnd t s := rfl
theorem exec_captureRead (t org param s) : exec (.captureRead t org param) s = execCaptureRead t org param s := rfl
theorem exec_axisSample (t ax done s) : exec (.axisSample t ax done) s = execAxisSample t ax done s := rfl
theorem exec_axisConfig (t org obj s) : exec (.axisConfig t org obj) s = execAxisConfig t org obj s := rfl
theorem exec_moveAbs (t org obj s) : exec (.moveAbs t org obj) s = execMoveAbs t org obj s := rfl
theorem exec_moveRel (t org obj s) : exec (.moveRel t org obj) s = execMoveRel t org obj s := rfl
theorem exec_runTable (t org obj s) : exec (.runTable t org obj) s = execRunTable t org obj s := rfl
theorem exec_axisStop (t org obj s) : exec (.axisStop t org obj) s = execAxisStop t org obj s := rfl
theorem exec_quickStop (t org obj s) : exec (.quickStop t org obj) s = execQuickStop t org obj s := rfl
theorem exec_setPosition (t org obj s) : exec (.setPosition t org obj) s = execSetPosition t org obj s := rfl
theorem exec_setLimits (t org obj s) : exec (.setLimits t org obj) s = execSetLimits t org obj s := rfl
theorem exec_resetFault (t org obj s) : exec (.resetFault t org obj) s = execResetFault t org obj s := rfl
theorem exec_tableLoad (t org obj s) : exec (.tableLoad t org obj) s = execTableLoad t org obj s := rfl
theorem exec_stepDebtTimeout (t ax s) : exec (.stepDebtTimeout t ax) s = execStepDebtTimeout t ax s := rfl
theorem exec_axisSlip (t ax s) : exec (.axisSlip t ax) s = execAxisSlip t ax s := rfl
theorem exec_safetyCycle (t agree lenA lenB inTimeA inTimeB s) :
    exec (.safetyCycle t agree lenA lenB inTimeA inTimeB) s = execSafetyCycle t agree lenA lenB inTimeA inTimeB s := rfl
theorem exec_discrepancy (t sf pair receiving s) :
    exec (.discrepancy t sf pair receiving) s = execDiscrepancy t sf pair receiving s := rfl
theorem exec_resetHeld (t sf s) : exec (.resetHeld t sf) s = execResetHeld t sf s := rfl
theorem exec_stoFeedback (t sf s) : exec (.stoFeedback t sf) s = execStoFeedback t sf s := rfl
theorem exec_inputFaultSettled (t ch s) : exec (.inputFaultSettled t ch) s = execInputFaultSettled t ch s := rfl
theorem exec_supplySettled (t g s) : exec (.supplySettled t g) s = execSupplySettled t g s := rfl
theorem exec_recloseCheck (t g s) : exec (.recloseCheck t g) s = execRecloseCheck t g s := rfl
theorem exec_recloseRoundCheck (t g s) : exec (.recloseRoundCheck t g) s = execRecloseRoundCheck t g s := rfl
theorem exec_permitTimeout (t ch s) : exec (.permitTimeout t ch) s = execPermitTimeout t ch s := rfl
theorem exec_safetyConfig (t org obj s) : exec (.safetyConfig t org obj) s = execSafetyConfig t org obj s := rfl
theorem exec_safetyConfirm (t org param s) : exec (.safetyConfirm t org param) s = execSafetyConfirm t org param s := rfl
theorem exec_safetyContainer (t ingress bytes agree s) :
    exec (.safetyContainer t ingress bytes agree) s = execSafetyContainer t ingress bytes agree s := rfl
theorem exec_safetyFrameWatchdog (t conn receiving s) :
    exec (.safetyFrameWatchdog t conn receiving) s = execSafetyFrameWatchdog t conn receiving s := rfl
theorem exec_safReferenceCheck (t diffPct s) : exec (.safReferenceCheck t diffPct) s = execSafReferenceCheck t diffPct s := rfl
theorem exec_safMemoryError (t s) : exec (.safMemoryError t) s = execSafMemoryError t s := rfl
theorem exec_safSupplyFault (t s) : exec (.safSupplyFault t) s = execSafSupplyFault t s := rfl
theorem exec_linkUp (t port gigabit s) : exec (.linkUp t port gigabit) s = execLinkUp t port gigabit s := rfl
theorem exec_linkDown (t port negFail s) : exec (.linkDown t port negFail) s = execLinkDown t port negFail s := rfl
theorem exec_frameReceive (t port ingress frame s) :
    exec (.frameReceive t port ingress frame) s = execFrameReceive t port ingress frame s := rfl
theorem exec_busCycleStart (t s) : exec (.busCycleStart t) s = execBusCycleStart t s := rfl
theorem exec_windowEnd (t s) : exec (.windowEnd t) s = execWindowEnd t s := rfl
theorem exec_acyclicSend (t s) : exec (.acyclicSend t) s = execAcyclicSend t s := rfl
theorem exec_inputImage (t ingress bytes s) : exec (.inputImage t ingress bytes) s = execInputImage t ingress bytes s := rfl
theorem exec_outputImage (t ingress bytes s) : exec (.outputImage t ingress bytes) s = execOutputImage t ingress bytes s := rfl
theorem exec_outputImageTake (t s) : exec (.outputImageTake t) s = execOutputImageTake t s := rfl
theorem exec_stationWatchdog (t index receiving s) :
    exec (.stationWatchdog t index receiving) s = execStationWatchdog t index receiving s := rfl
theorem exec_iostationWatchdog (t receiving s) :
    exec (.iostationWatchdog t receiving) s = execIostationWatchdog t receiving s := rfl
theorem exec_tunnelRequest (t ingress bytes s) :
    exec (.tunnelRequest t ingress bytes) s = execTunnelRequest t ingress bytes s := rfl
theorem exec_tunnelResponse (t ingress bytes s) :
    exec (.tunnelResponse t ingress bytes) s = execTunnelResponse t ingress bytes s := rfl
theorem exec_tunnelRetry (t tid s) : exec (.tunnelRetry t tid) s = execTunnelRetry t tid s := rfl
theorem exec_reassemblyTimeout (t src tid s) : exec (.reassemblyTimeout t src tid) s = execReassemblyTimeout t src tid s := rfl
theorem exec_addressFrame (t port ingress bytes s) :
    exec (.addressFrame t port ingress bytes) s = execAddressFrame t port ingress bytes s := rfl
theorem exec_ringConfig (t org obj s) : exec (.ringConfig t org obj) s = execRingConfig t org obj s := rfl
theorem exec_stationConfig (t org obj s) : exec (.stationConfig t org obj) s = execStationConfig t org obj s := rfl
theorem exec_imageMap (t org obj s) : exec (.imageMap t org obj) s = execImageMap t org obj s := rfl
theorem exec_branchConfig (t org obj s) : exec (.branchConfig t org obj) s = execBranchConfig t org obj s := rfl
theorem exec_nodeAddress (t org param s) : exec (.nodeAddress t org param) s = execNodeAddress t org param s := rfl
theorem exec_nodeAddressRetry (t s) : exec (.nodeAddressRetry t) s = execNodeAddressRetry t s := rfl
theorem exec_pairConfig (t org obj s) : exec (.pairConfig t org obj) s = execPairConfig t org obj s := rfl
theorem exec_handover (t org obj s) : exec (.handover t org obj) s = execHandover t org obj s := rfl
theorem exec_drill (t org obj s) : exec (.drill t org obj) s = execDrill t org obj s := rfl
theorem exec_releaseShadow (t org obj s) : exec (.releaseShadow t org obj) s = execReleaseShadow t org obj s := rfl
theorem exec_clearRevertLimit (t org obj s) : exec (.clearRevertLimit t org obj) s = execClearRevertLimit t org obj s := rfl
theorem exec_heartbeatSend (t s) : exec (.heartbeatSend t) s = execHeartbeatSend t s := rfl
theorem exec_heartbeat (t port ingress bytes s) :
    exec (.heartbeat t port ingress bytes) s = execHeartbeat t port ingress bytes s := rfl
theorem exec_heartbeatLoss (t who receiving s) :
    exec (.heartbeatLoss t who receiving) s = execHeartbeatLoss t who receiving s := rfl
theorem exec_grantRequest (t ingress bytes s) :
    exec (.grantRequest t ingress bytes) s = execGrantRequest t ingress bytes s := rfl
theorem exec_refereeGrantDecision (t pair s) : exec (.refereeGrantDecision t pair) s = execRefereeGrantDecision t pair s := rfl
theorem exec_formWait (t pair s) : exec (.formWait t pair) s = execFormWait t pair s := rfl
theorem exec_grant (t ingress bytes s) : exec (.grant t ingress bytes) s = execGrant t ingress bytes s := rfl
theorem exec_deny (t ingress bytes s) : exec (.deny t ingress bytes) s = execDeny t ingress bytes s := rfl
theorem exec_relinquish (t ingress bytes s) : exec (.relinquish t ingress bytes) s = execRelinquish t ingress bytes s := rfl
theorem exec_barrier (t msg s) : exec (.barrier t msg) s = execBarrier t msg s := rfl
theorem exec_outDone (t cycle stamp s) : exec (.outDone t cycle stamp) s = execOutDone t cycle stamp s := rfl
theorem exec_outputRelease (t s) : exec (.outputRelease t) s = execOutputRelease t s := rfl
theorem exec_imageFix (t images s) : exec (.imageFix t images) s = execImageFix t images s := rfl
theorem exec_digest (t bus crc s) : exec (.digest t bus crc) s = execDigest t bus crc s := rfl
theorem exec_resync (t msg s) : exec (.resync t msg) s = execResync t msg s := rfl
theorem exec_joinTimeout (t s) : exec (.joinTimeout t) s = execJoinTimeout t s := rfl
theorem exec_record (t rec s) : exec (.record t rec) s = execRecord t rec s := rfl
theorem exec_swapDrill (t s) : exec (.swapDrill t) s = execSwapDrill t s := rfl
theorem exec_revertReq (t s) : exec (.revertReq t) s = execRevertReq t s := rfl
theorem exec_sync (t port ingress msg s) : exec (.sync t port ingress msg) s = execSync t port ingress msg s := rfl
theorem exec_syncSend (t s) : exec (.syncSend t) s = execSyncSend t s := rfl
theorem exec_syncLoss (t s) : exec (.syncLoss t) s = execSyncLoss t s := rfl
theorem exec_holdoverExpiry (t s) : exec (.holdoverExpiry t) s = execHoldoverExpiry t s := rfl
theorem exec_announce (t port ingress msg gm s) :
    exec (.announce t port ingress msg gm) s = execAnnounce t port ingress msg gm s := rfl
theorem exec_announceSend (t s) : exec (.announceSend t) s = execAnnounceSend t s := rfl
theorem exec_announceTimeout (t s) : exec (.announceTimeout t) s = execAnnounceTimeout t s := rfl
theorem exec_pdelayReq (t port ingress msg s) :
    exec (.pdelayReq t port ingress msg) s = execPdelayReq t port ingress msg s := rfl
theorem exec_pdelayReqSend (t port s) : exec (.pdelayReqSend t port) s = execPdelayReqSend t port s := rfl
theorem exec_pdelayResp (t port ingress msg s) :
    exec (.pdelayResp t port ingress msg) s = execPdelayResp t port ingress msg s := rfl
theorem exec_pdelayInvalid (t port s) : exec (.pdelayInvalid t port) s = execPdelayInvalid t port s := rfl
theorem exec_shipTimeSet (t org obj s) : exec (.shipTimeSet t org obj) s = execShipTimeSet t org obj s := rfl
theorem exec_ppsIn (t s) : exec (.ppsIn t) s = execPpsIn t s := rfl
theorem exec_ppsMissing (t s) : exec (.ppsMissing t) s = execPpsMissing t s := rfl
theorem exec_shipTimeSlew (t org obj s) : exec (.shipTimeSlew t org obj) s = execShipTimeSlew t org obj s := rfl
theorem exec_slewEnd (t s) : exec (.slewEnd t) s = execSlewEnd t s := rfl
theorem exec_timeConfig (t org obj s) : exec (.timeConfig t org obj) s = execTimeConfig t org obj s := rfl
theorem exec_ppsOut (t s) : exec (.ppsOut t) s = execPpsOut t s := rfl
theorem exec_aonShipTimeCopy (t s) : exec (.aonShipTimeCopy t) s = execAonShipTimeCopy t s := rfl
theorem exec_sqTailDoorbell (t n value s) : exec (.sqTailDoorbell t n value) s = execSqTailDoorbell t n value s := rfl
theorem exec_cqHeadDoorbell (t n value s) : exec (.cqHeadDoorbell t n value) s = execCqHeadDoorbell t n value s := rfl
theorem exec_eqHeadDoorbell (t value s) : exec (.eqHeadDoorbell t value) s = execEqHeadDoorbell t value s := rfl
theorem exec_descriptorFetch (t desc data s) : exec (.descriptorFetch t desc data) s = execDescriptorFetch t desc data s := rfl
theorem exec_descriptorStart (t id s) : exec (.descriptorStart t id) s = execDescriptorStart t id s := rfl
theorem exec_completionWrite (t id s) : exec (.completionWrite t id) s = execCompletionWrite t id s := rfl
theorem exec_coalescingTimeout (t q s) : exec (.coalescingTimeout t q) s = execCoalescingTimeout t q s := rfl
theorem exec_eventPost (t type inst data s) : exec (.eventPost t type inst data) s = execEventPost t type inst data s := rfl
theorem exec_nop (t org s) : exec (.nop t org) s = execNop t org s := rfl
theorem exec_stateRead (t org param s) : exec (.stateRead t org param) s = execStateRead t org param s := rfl
theorem exec_hifSqCtlWrite (t n value s) : exec (.hifSqCtlWrite t n value) s = execHifSqCtlWrite t n value s := rfl
theorem exec_hifCqCtlWrite (t n value s) : exec (.hifCqCtlWrite t n value) s = execHifCqCtlWrite t n value s := rfl
theorem exec_hifEqCtlWrite (t value s) : exec (.hifEqCtlWrite t value) s = execHifEqCtlWrite t value s := rfl
theorem exec_hifSoftReset (t value s) : exec (.hifSoftReset t value) s = execHifSoftReset t value s := rfl
theorem exec_functionLevelReset (t s) : exec (.functionLevelReset t) s = execFunctionLevelReset t s := rfl
theorem exec_perstN (t s) : exec (.perstN t) s = execPerstN t s := rfl
theorem exec_d3hotEntry (t s) : exec (.d3hotEntry t) s = execD3hotEntry t s := rfl
theorem exec_d0Return (t s) : exec (.d0Return t) s = execD0Return t s := rfl
theorem exec_unsupportedRequest (t bar offset size s) :
    exec (.unsupportedRequest t bar offset size) s = execUnsupportedRequest t bar offset size s := rfl
theorem exec_registerWrite (t offset value s) :
    exec (.registerWrite t offset value) s = execRegisterWrite t offset value s := rfl
theorem exec_mbDataWrite (t who n j value s) : exec (.mbDataWrite t who n j value) s = execMbDataWrite t who n j value s := rfl
theorem exec_mbPost (t who n s) : exec (.mbPost t who n) s = execMbPost t who n s := rfl
theorem exec_mbTake (t who n s) : exec (.mbTake t who n) s = execMbTake t who n s := rfl
theorem exec_withdraw (t who n s) : exec (.withdraw t who n) s = execWithdraw t who n s := rfl
theorem exec_ackExpired (t due s) : exec (.ackExpired t due) s = execAckExpired t due s := rfl
theorem exec_mbBindWrite (t n value s) : exec (.mbBindWrite t n value) s = execMbBindWrite t n value s := rfl
theorem exec_domainPower (t org param s) : exec (.domainPower t org param) s = execDomainPower t org param s := rfl
theorem exec_recordFlashCopy (t good s) : exec (.recordFlashCopy t good) s = execRecordFlashCopy t good s := rfl
theorem exec_sectorEraseEnd (t ok s) : exec (.sectorEraseEnd t ok) s = execSectorEraseEnd t ok s := rfl
theorem exec_recSnapshot (t org s) : exec (.recSnapshot t org) s = execRecSnapshot t org s := rfl
theorem exec_recRead (t org param max s) : exec (.recRead t org param max) s = execRecRead t org param max s := rfl
theorem exec_configSaveStart (t s) : exec (.configSaveStart t) s = execConfigSaveStart t s := rfl
theorem exec_storeSaveComplete (t store s) : exec (.storeSaveComplete t store) s = execStoreSaveComplete t store s := rfl
theorem exec_saveRetained (t org param s) : exec (.saveRetained t org param) s = execSaveRetained t org param s := rfl
theorem exec_saveConfig (t org param s) : exec (.saveConfig t org param) s = execSaveConfig t org param s := rfl
theorem exec_clearRetained (t org param s) : exec (.clearRetained t org param) s = execClearRetained t org param s := rfl
theorem exec_factoryConfig (t org param s) : exec (.factoryConfig t org param) s = execFactoryConfig t org param s := rfl
theorem exec_powerFail (t s) : exec (.powerFail t) s = execPowerFail t s := rfl
theorem exec_vlogReturnAfterFail (t s) : exec (.vlogReturnAfterFail t) s = execVlogReturnAfterFail t s := rfl
theorem exec_holdupExhausted (t s) : exec (.holdupExhausted t) s = execHoldupExhausted t s := rfl
theorem exec_dispConfig (t org obj s) : exec (.dispConfig t org obj) s = execDispConfig t org obj s := rfl
theorem exec_dispRegion (t org obj s) : exec (.dispRegion t org obj) s = execDispRegion t org obj s := rfl
theorem exec_dispUpdate (t org obj s) : exec (.dispUpdate t org obj) s = execDispUpdate t org obj s := rfl
theorem exec_dispBlink (t org obj s) : exec (.dispBlink t org obj) s = execDispBlink t org obj s := rfl
theorem exec_displayPassStart (t volts s) : exec (.displayPassStart t volts) s = execDisplayPassStart t volts s := rfl
theorem exec_displayPhaseEnd (t volts s) : exec (.displayPhaseEnd t volts) s = execDisplayPhaseEnd t volts s := rfl
theorem exec_blinkToggle (t freq com s) : exec (.blinkToggle t freq com) s = execBlinkToggle t freq com s := rfl
theorem exec_dispSupplyCheck (t volts s) : exec (.dispSupplyCheck t volts) s = execDispSupplyCheck t volts s := rfl
theorem exec_powerOn (t vbat straps offTime s) :
    exec (.powerOn t vbat straps offTime) s = execPowerOn t vbat straps offTime s := rfl
theorem exec_resetNLow (t s) : exec (.resetNLow t) s = execResetNLow t s := rfl
theorem exec_resetNRelease (t straps s) : exec (.resetNRelease t straps) s = execResetNRelease t straps s := rfl
theorem exec_selftestComplete (t test s) : exec (.selftestComplete t test) s = execSelftestComplete t test s := rfl
theorem exec_masterConfirm (t org obj s) : exec (.masterConfirm t org obj) s = execMasterConfirm t org obj s := rfl
theorem exec_islandReset (t org param s) : exec (.islandReset t org param) s = execIslandReset t org param s := rfl
theorem exec_fwStage (t org param data s) : exec (.fwStage t org param data) s = execFwStage t org param data s := rfl
theorem exec_fwActivate (t org param s) : exec (.fwActivate t org param) s = execFwActivate t org param s := rfl
theorem exec_fwTrialExpiry (t s) : exec (.fwTrialExpiry t) s = execFwTrialExpiry t s := rfl
theorem exec_holdupCharged (t s) : exec (.holdupCharged t) s = execHoldupCharged t s := rfl
theorem exec_holdupNotCharged (t s) : exec (.holdupNotCharged t) s = execHoldupNotCharged t s := rfl
theorem exec_ledgerTest (t org meas s) : exec (.ledgerTest t org meas) s = execLedgerTest t org meas s := rfl
theorem exec_holdupTest (t meas s) : exec (.holdupTest t meas) s = execHoldupTest t meas s := rfl
theorem exec_ledgerMeasurement (t inst index value s) :
    exec (.ledgerMeasurement t inst index value) s = execLedgerMeasurement t inst index value s := rfl
theorem exec_thermalHours (t temps s) : exec (.thermalHours t temps) s = execThermalHours t temps s := rfl
theorem exec_mordantWrite (t value s) : exec (.mordantWrite t value) s = execMordantWrite t value s := rfl
theorem exec_safeEnWrite (t value s) : exec (.safeEnWrite t value) s = execSafeEnWrite t value s := rfl
theorem exec_testClrWrite (t value s) : exec (.testClrWrite t value) s = execTestClrWrite t value s := rfl
theorem exec_tmrScrub (t upsets s) : exec (.tmrScrub t upsets) s = execTmrScrub t upsets s := rfl
theorem exec_ringIdWrite (t offset value s) : exec (.ringIdWrite t offset value) s = execRingIdWrite t offset value s := rfl
theorem exec_imgKeyWordWrite (t k j value s) : exec (.imgKeyWordWrite t k j value) s = execImgKeyWordWrite t k j value s := rfl
theorem exec_keyValidWrite (t k value s) : exec (.keyValidWrite t k value) s = execKeyValidWrite t k value s := rfl
theorem exec_joinInhibitWrite (t value s) : exec (.joinInhibitWrite t value) s = execJoinInhibitWrite t value s := rfl
theorem exec_groupConfigurationLost (t g s) : exec (.groupConfigurationLost t g) s = execGroupConfigurationLost t g s := rfl
theorem exec_perstNRelease (t s) : exec (.perstNRelease t) s = execPerstNRelease t s := rfl
theorem exec_pcieLinkDown (t s) : exec (.pcieLinkDown t) s = execPcieLinkDown t s := rfl
theorem exec_pcieLinkUp (t speed s) : exec (.pcieLinkUp t speed) s = execPcieLinkUp t speed s := rfl
theorem exec_serviceUartTestControl (t g ctl set s) :
    exec (.serviceUartTestControl t g ctl set) s = execServiceUartTestControl t g ctl set s := rfl

end Sys2Proof.Machine
end

