-- ==== Sys2Proof/Laws/KeepOps.lean ====
section
/-! SUPPORT. What each operation and meaning of Machine/Ops.lean leaves alone. -/

namespace Sys2Proof.Machine

set_option linter.unusedTactic false
set_option linter.unreachableTactic false

theorem State.submitAs_keep : ∀ a0 a1 a2 s, Keep 536870928 s (State.submitAs a0 a1 a2 s) := by
  intro a0 a1 a2 s
  unfold State.submitAs
  extract_lets v0 v1 v2 v3
  try clear_value v3
  try clear_value v2
  try clear_value v1
  try clear_value v0
  repeat' first
    | with_reducible assumption
    | with_reducible exact Keep.refl _ _
    | intro _
    | (fail_if_no_progress beta_reduce)
    | (with_reducible apply KeepR.next)
    | (with_reducible apply Keep.ite)
    | (with_reducible apply KeepR.ite)
    | (with_reducible apply Keep.ite_fst)
    | (with_reducible apply Keep.snoc (State.updIsland_keep _ _ _ ?_))
    | (with_reducible apply Keep.snoc (State.updRec_keep _ _))
    | (with_reducible apply Keep.snoc' (Keep.foldl ?_ _ _))
    | (with_reducible apply And.intro)
    | exact rfl
    | (refine Keep.fst (by assumption) ?_)
    | (refine Keep.snd (by assumption) ?_)
    | split
    | dsimp only

theorem State.record_keep : ∀ a0 a1 a2 s, Keep 536870928 s (State.record a0 a1 a2 s) := by
  intro a0 a1 a2 s
  unfold State.record
  repeat' first
    | with_reducible assumption
    | with_reducible exact Keep.refl _ _
    | intro _
    | (fail_if_no_progress beta_reduce)
    | (with_reducible apply KeepR.next)
    | (with_reducible apply Keep.ite)
    | (with_reducible apply KeepR.ite)
    | (with_reducible apply Keep.ite_fst)
    | (with_reducible apply Keep.snoc (State.submitAs_keep _ _ _ _))
    | (with_reducible apply Keep.snoc' (Keep.foldl ?_ _ _))
    | (with_reducible apply And.intro)
    | exact rfl
    | (refine Keep.fst (by assumption) ?_)
    | (refine Keep.snd (by assumption) ?_)
    | split
    | dsimp only

theorem State.signal_keep : ∀ a0 s, Keep 67108864 s (State.signal a0 s) := by
  intro a0 s
  unfold State.signal
  repeat' first
    | with_reducible assumption
    | with_reducible exact Keep.refl _ _
    | intro _
    | (fail_if_no_progress beta_reduce)
    | (with_reducible apply KeepR.next)
    | (with_reducible apply Keep.ite)
    | (with_reducible apply KeepR.ite)
    | (with_reducible apply Keep.ite_fst)
    | (with_reducible apply Keep.snoc (State.emit_keep _ _))
    | (with_reducible apply Keep.snoc (State.updHif_keep _ _))
    | (with_reducible apply Keep.snoc' (Keep.foldl ?_ _ _))
    | (with_reducible apply And.intro)
    | exact rfl
    | (refine Keep.fst (by assumption) ?_)
    | (refine Keep.snd (by assumption) ?_)
    | split
    | dsimp only

theorem State.signalEq_keep : ∀ s, Keep 67108864 s (State.signalEq s) := by
  intro s
  unfold State.signalEq
  repeat' first
    | with_reducible assumption
    | with_reducible exact Keep.refl _ _
    | intro _
    | (fail_if_no_progress beta_reduce)
    | (with_reducible apply KeepR.next)
    | (with_reducible apply Keep.ite)
    | (with_reducible apply KeepR.ite)
    | (with_reducible apply Keep.ite_fst)
    | (with_reducible apply Keep.snoc (State.signal_keep _ _))
    | (with_reducible apply Keep.snoc (State.updHif_keep _ _))
    | (with_reducible apply Keep.snoc' (Keep.foldl ?_ _ _))
    | (with_reducible apply And.intro)
    | exact rfl
    | (refine Keep.fst (by assumption) ?_)
    | (refine Keep.snd (by assumption) ?_)
    | split
    | dsimp only

theorem State.writeEvent_keep : ∀ a0 s, Keep 67108864 s (State.writeEvent a0 s) := by
  intro a0 s
  unfold State.writeEvent
  repeat' first
    | with_reducible assumption
    | with_reducible exact Keep.refl _ _
    | intro _
    | (fail_if_no_progress beta_reduce)
    | (with_reducible apply KeepR.next)
    | (with_reducible apply Keep.ite)
    | (with_reducible apply KeepR.ite)
    | (with_reducible apply Keep.ite_fst)
    | (with_reducible apply Keep.snoc (State.emit_keep _ _))
    | (with_reducible apply Keep.snoc (State.signalEq_keep _))
    | (with_reducible apply Keep.snoc (State.updHif_keep _ _))
    | (with_reducible apply Keep.snoc' (Keep.foldl ?_ _ _))
    | (with_reducible apply And.intro)
    | exact rfl
    | (refine Keep.fst (by assumption) ?_)
    | (refine Keep.snd (by assumption) ?_)
    | split
    | dsimp only

theorem State.postEventAt_keep : ∀ a0 a1 a2 a3 s, Keep 67108864 s (State.postEventAt a0 a1 a2 a3 s) := by
  intro a0 a1 a2 a3 s
  unfold State.postEventAt
  extract_lets v0 v1
  try clear_value v0
  have h1 : Keep 67108864 s v1 := by
    unfold v1
    repeat' first
      | with_reducible assumption
      | with_reducible exact Keep.refl _ _
      | intro _
      | (fail_if_no_progress beta_reduce)
      | (with_reducible apply KeepR.next)
      | (with_reducible apply Keep.ite)
      | (with_reducible apply KeepR.ite)
      | (with_reducible apply Keep.ite_fst)
      | (with_reducible apply Keep.snoc (State.updHif_keep _ _))
      | (with_reducible apply Keep.snoc (State.writeEvent_keep _ _))
      | (with_reducible apply Keep.snoc' (Keep.foldl ?_ _ _))
      | (with_reducible apply And.intro)
      | exact rfl
      | (refine Keep.fst (by assumption) ?_)
      | (refine Keep.snd (by assumption) ?_)
      | split
      | dsimp only
  repeat' first
    | with_reducible assumption
    | with_reducible exact Keep.refl _ _
    | intro _
    | (fail_if_no_progress beta_reduce)
    | (with_reducible apply KeepR.next)
    | (with_reducible apply Keep.ite)
    | (with_reducible apply KeepR.ite)
    | (with_reducible apply Keep.ite_fst)
    | (with_reducible apply Keep.snoc (State.updHif_keep _ _))
    | (with_reducible apply Keep.snoc (State.writeEvent_keep _ _))
    | (with_reducible apply Keep.snoc' (Keep.foldl ?_ _ _))
    | (with_reducible apply And.intro)
    | exact rfl
    | (refine Keep.fst (by assumption) ?_)
    | (refine Keep.snd (by assumption) ?_)
    | split
    | dsimp only

theorem State.postEvent_keep : ∀ a0 a1 a2 s, Keep 67108864 s (State.postEvent a0 a1 a2 s) := by
  intro a0 a1 a2 s
  unfold State.postEvent
  repeat' first
    | with_reducible assumption
    | with_reducible exact Keep.refl _ _
    | intro _
    | (fail_if_no_progress beta_reduce)
    | (with_reducible apply KeepR.next)
    | (with_reducible apply Keep.ite)
    | (with_reducible apply KeepR.ite)
    | (with_reducible apply Keep.ite_fst)
    | (with_reducible apply Keep.snoc (State.postEventAt_keep _ _ _ _ _))
    | (with_reducible apply Keep.snoc' (Keep.foldl ?_ _ _))
    | (with_reducible apply And.intro)
    | exact rfl
    | (refine Keep.fst (by assumption) ?_)
    | (refine Keep.snd (by assumption) ?_)
    | split
    | dsimp only

theorem State.tunnelRespond_keep : ∀ a0 a1 a2 s, Keep 8388608 s (State.tunnelRespond a0 a1 a2 s) := by
  intro a0 a1 a2 s
  unfold State.tunnelRespond
  repeat' first
    | with_reducible assumption
    | with_reducible exact Keep.refl _ _
    | intro _
    | (fail_if_no_progress beta_reduce)
    | (with_reducible apply KeepR.next)
    | (with_reducible apply Keep.ite)
    | (with_reducible apply KeepR.ite)
    | (with_reducible apply Keep.ite_fst)
    | (with_reducible apply Keep.snoc (State.updRing_keep _ _))
    | (with_reducible apply Keep.snoc' (Keep.foldl ?_ _ _))
    | (with_reducible apply And.intro)
    | exact rfl
    | (refine Keep.fst (by assumption) ?_)
    | (refine Keep.snd (by assumption) ?_)
    | split
    | dsimp only

theorem State.commitHost_keep : ∀ a0 a1 s, Keep 67108864 s (State.commitHost a0 a1 s) := by
  intro a0 a1 s
  unfold State.commitHost
  repeat' first
    | with_reducible assumption
    | with_reducible exact Keep.refl _ _
    | intro _
    | (fail_if_no_progress beta_reduce)
    | (with_reducible apply KeepR.next)
    | (with_reducible apply Keep.ite)
    | (with_reducible apply KeepR.ite)
    | (with_reducible apply Keep.ite_fst)
    | (with_reducible apply Keep.snoc (State.updHif_keep _ _))
    | (with_reducible apply Keep.snoc' (Keep.foldl ?_ _ _))
    | (with_reducible apply And.intro)
    | exact rfl
    | (refine Keep.fst (by assumption) ?_)
    | (refine Keep.snd (by assumption) ?_)
    | split
    | dsimp only

theorem State.forwardDone_keep : ∀ a0 a1 a2 s, Keep 83886080 s (State.forwardDone a0 a1 a2 s) := by
  intro a0 a1 a2 s
  unfold State.forwardDone
  repeat' first
    | with_reducible assumption
    | with_reducible exact Keep.refl _ _
    | intro _
    | (fail_if_no_progress beta_reduce)
    | (with_reducible apply KeepR.next)
    | (with_reducible apply Keep.ite)
    | (with_reducible apply KeepR.ite)
    | (with_reducible apply Keep.ite_fst)
    | (with_reducible apply Keep.snoc (State.commitHost_keep _ _ _))
    | (with_reducible apply Keep.snoc (State.updPair_keep _ _))
    | (with_reducible apply Keep.snoc' (Keep.foldl ?_ _ _))
    | (with_reducible apply And.intro)
    | exact rfl
    | (refine Keep.fst (by assumption) ?_)
    | (refine Keep.snd (by assumption) ?_)
    | split
    | dsimp only

theorem State.complete_keep : ∀ a0 a1 s, Keep 92274688 s (State.complete a0 a1 s) := by
  intro a0 a1 s
  unfold State.complete
  repeat' first
    | with_reducible assumption
    | with_reducible exact Keep.refl _ _
    | intro _
    | (fail_if_no_progress beta_reduce)
    | (with_reducible apply KeepR.next)
    | (with_reducible apply Keep.ite)
    | (with_reducible apply KeepR.ite)
    | (with_reducible apply Keep.ite_fst)
    | (with_reducible apply Keep.snoc (State.forwardDone_keep _ _ _ _))
    | (with_reducible apply Keep.snoc (State.tunnelRespond_keep _ _ _ _))
    | (with_reducible apply Keep.snoc (State.updPair_keep _ _))
    | (with_reducible apply Keep.snoc' (Keep.foldl ?_ _ _))
    | (with_reducible apply And.intro)
    | exact rfl
    | (refine Keep.fst (by assumption) ?_)
    | (refine Keep.snd (by assumption) ?_)
    | split
    | dsimp only

theorem State.completeAll_keep : ∀ a0 a1 s, Keep 92274688 s (State.completeAll a0 a1 s) := by
  intro a0 a1 s
  unfold State.completeAll
  repeat' first
    | with_reducible assumption
    | with_reducible exact Keep.refl _ _
    | intro _
    | (fail_if_no_progress beta_reduce)
    | (with_reducible apply KeepR.next)
    | (with_reducible apply Keep.ite)
    | (with_reducible apply KeepR.ite)
    | (with_reducible apply Keep.ite_fst)
    | (with_reducible apply Keep.snoc (State.complete_keep _ _ _))
    | (with_reducible apply Keep.snoc' (Keep.foldl ?_ _ _))
    | (with_reducible apply And.intro)
    | exact rfl
    | (refine Keep.fst (by assumption) ?_)
    | (refine Keep.snd (by assumption) ?_)
    | split
    | dsimp only

theorem answer_keep : ∀ a0 a1 s, KeepR 92274688 s (answer a0 a1 s) := by
  intro a0 a1 s
  unfold answer
  repeat' first
    | with_reducible assumption
    | with_reducible exact Keep.refl _ _
    | intro _
    | (fail_if_no_progress beta_reduce)
    | (with_reducible apply KeepR.next)
    | (with_reducible apply Keep.ite)
    | (with_reducible apply KeepR.ite)
    | (with_reducible apply Keep.ite_fst)
    | (with_reducible apply Keep.snoc (State.complete_keep _ _ _))
    | (with_reducible apply Keep.snoc' (Keep.foldl ?_ _ _))
    | (with_reducible apply And.intro)
    | exact rfl
    | (refine Keep.fst (by assumption) ?_)
    | (refine Keep.snd (by assumption) ?_)
    | split
    | dsimp only

theorem State.storeObject_keep : ∀ a0 a1 a2 s, Keep 9663676416 s (State.storeObject a0 a1 a2 s) := by
  intro a0 a1 a2 s
  unfold State.storeObject
  extract_lets v0 v1
  try clear_value v1
  try clear_value v0
  repeat' first
    | with_reducible assumption
    | with_reducible exact Keep.refl _ _
    | intro _
    | (fail_if_no_progress beta_reduce)
    | (with_reducible apply KeepR.next)
    | (with_reducible apply Keep.ite)
    | (with_reducible apply KeepR.ite)
    | (with_reducible apply Keep.ite_fst)
    | (with_reducible apply Keep.snoc (State.updMod_keep _ _))
    | (with_reducible apply Keep.snoc (State.updStore_keep _ _ _ ?_))
    | (with_reducible apply Keep.snoc' (Keep.foldl ?_ _ _))
    | (with_reducible apply And.intro)
    | exact rfl
    | (refine Keep.fst (by assumption) ?_)
    | (refine Keep.snd (by assumption) ?_)
    | split
    | dsimp only

theorem State.storeRegister_keep : ∀ s, Keep 1073741824 s (State.storeRegister s) := by
  intro s
  unfold State.storeRegister
  repeat' first
    | with_reducible assumption
    | with_reducible exact Keep.refl _ _
    | intro _
    | (fail_if_no_progress beta_reduce)
    | (with_reducible apply KeepR.next)
    | (with_reducible apply Keep.ite)
    | (with_reducible apply KeepR.ite)
    | (with_reducible apply Keep.ite_fst)
    | (with_reducible apply Keep.snoc (State.updStore_keep _ _ _ ?_))
    | (with_reducible apply Keep.snoc' (Keep.foldl ?_ _ _))
    | (with_reducible apply And.intro)
    | exact rfl
    | (refine Keep.fst (by assumption) ?_)
    | (refine Keep.snd (by assumption) ?_)
    | split
    | dsimp only

theorem serve_keep {m : Nat} {work : State → State} (h : ∀ s, Keep m s (work s)) (org op l f c) {s u : State}
    (hm : 92274688 ||| m = m) (k : Keep m s u) : KeepR m s (serve org op l f c work u) := by
  unfold serve
  split
  · exact KeepR.next k
  · split
    · exact KeepR.next (Keep.snoc (State.complete_keep _ _ _) hm k)
    · exact KeepR.next (Keep.snoc' (h u) k)

end Sys2Proof.Machine
end

