-- ==== Sys2Proof/Laws/KeepFlags.lean ====
section
/-! SUPPORT. What each operation and meaning of Machine/Flags.lean leaves alone. -/

namespace Sys2Proof.Machine

set_option linter.unusedTactic false
set_option linter.unreachableTactic false

theorem State.putDiag_keep : ∀ a0 a1 a2 s, Keep 536871952 s (State.putDiag a0 a1 a2 s) := by
  intro a0 a1 a2 s
  unfold State.putDiag
  extract_lets v0 v1
  try clear_value v0
  have h1 : Keep 536871952 s v1 := by
    unfold v1
    repeat' first
      | with_reducible assumption
      | with_reducible exact Keep.refl _ _
      | intro _
      | (fail_if_no_progress beta_reduce)
      | (with_reducible apply KeepR.next)
      | (with_reducible apply Keep.ite)
      | (with_reducible apply KeepR.ite)
      | (with_reducible apply Keep.ite_fst)
      | (with_reducible apply Keep.snoc (State.record_keep _ _ _ _))
      | (with_reducible apply Keep.snoc (State.updChan_keep _ _ _))
      | (with_reducible apply Keep.snoc' (Keep.foldl ?_ _ _))
      | (with_reducible apply And.intro)
      | exact rfl
      | (refine Keep.fst (by assumption) ?_)
      | (refine Keep.snd (by assumption) ?_)
      | split
      | dsimp only
  repeat' first
    | with_reducible assumption
    | with_reducible exact Keep.refl _ _
    | intro _
    | (fail_if_no_progress beta_reduce)
    | (with_reducible apply KeepR.next)
    | (with_reducible apply Keep.ite)
    | (with_reducible apply KeepR.ite)
    | (with_reducible apply Keep.ite_fst)
    | (with_reducible apply Keep.snoc (State.record_keep _ _ _ _))
    | (with_reducible apply Keep.snoc (State.updChan_keep _ _ _))
    | (with_reducible apply Keep.snoc' (Keep.foldl ?_ _ _))
    | (with_reducible apply And.intro)
    | exact rfl
    | (refine Keep.fst (by assumption) ?_)
    | (refine Keep.snd (by assumption) ?_)
    | split
    | dsimp only

theorem State.diagBoth_keep : ∀ a0 a1 a2 s, Keep 536872208 s (State.diagBoth a0 a1 a2 s) := by
  intro a0 a1 a2 s
  unfold State.diagBoth
  repeat' first
    | with_reducible assumption
    | with_reducible exact Keep.refl _ _
    | intro _
    | (fail_if_no_progress beta_reduce)
    | (with_reducible apply KeepR.next)
    | (with_reducible apply Keep.ite)
    | (with_reducible apply KeepR.ite)
    | (with_reducible apply Keep.ite_fst)
    | (with_reducible apply Keep.snoc (State.putDiag_keep _ _ _ _))
    | (with_reducible apply Keep.snoc (State.updCell_keep _ _ _))
    | (with_reducible apply Keep.snoc' (Keep.foldl ?_ _ _))
    | (with_reducible apply And.intro)
    | exact rfl
    | (refine Keep.fst (by assumption) ?_)
    | (refine Keep.snd (by assumption) ?_)
    | split
    | dsimp only

theorem State.queueError_keep : ∀ a0 a1 s, Keep 67108864 s (State.queueError a0 a1 s) := by
  intro a0 a1 s
  unfold State.queueError
  repeat' first
    | with_reducible assumption
    | with_reducible exact Keep.refl _ _
    | intro _
    | (fail_if_no_progress beta_reduce)
    | (with_reducible apply KeepR.next)
    | (with_reducible apply Keep.ite)
    | (with_reducible apply KeepR.ite)
    | (with_reducible apply Keep.ite_fst)
    | (with_reducible apply Keep.snoc (State.postEvent_keep _ _ _ _))
    | (with_reducible apply Keep.snoc (State.updHif_keep _ _))
    | (with_reducible apply Keep.snoc' (Keep.foldl ?_ _ _))
    | (with_reducible apply And.intro)
    | exact rfl
    | (refine Keep.fst (by assumption) ?_)
    | (refine Keep.snd (by assumption) ?_)
    | split
    | dsimp only

theorem State.modError_keep : ∀ a0 a1 s, Keep 134217728 s (State.modError a0 a1 s) := by
  intro a0 a1 s
  unfold State.modError
  repeat' first
    | with_reducible assumption
    | with_reducible exact Keep.refl _ _
    | intro _
    | (fail_if_no_progress beta_reduce)
    | (with_reducible apply KeepR.next)
    | (with_reducible apply Keep.ite)
    | (with_reducible apply KeepR.ite)
    | (with_reducible apply Keep.ite_fst)
    | (with_reducible apply Keep.snoc (State.updRegs_keep _ _))
    | (with_reducible apply Keep.snoc' (Keep.foldl ?_ _ _))
    | (with_reducible apply And.intro)
    | exact rfl
    | (refine Keep.fst (by assumption) ?_)
    | (refine Keep.snd (by assumption) ?_)
    | split
    | dsimp only

theorem State.settleHealth_keep : ∀ s, Keep 9193914384 s (State.settleHealth s) := by
  intro s
  unfold State.settleHealth
  extract_lets v0 v1
  try clear_value v1
  try clear_value v0
  repeat' first
    | with_reducible assumption
    | with_reducible exact Keep.refl _ _
    | intro _
    | (fail_if_no_progress beta_reduce)
    | (with_reducible apply KeepR.next)
    | (with_reducible apply Keep.ite)
    | (with_reducible apply KeepR.ite)
    | (with_reducible apply Keep.ite_fst)
    | (with_reducible apply Keep.snoc (State.postEvent_keep _ _ _ _))
    | (with_reducible apply Keep.snoc (State.record_keep _ _ _ _))
    | (with_reducible apply Keep.snoc (State.updMod_keep _ _))
    | (with_reducible apply Keep.snoc' (Keep.foldl ?_ _ _))
    | (with_reducible apply And.intro)
    | exact rfl
    | (refine Keep.fst (by assumption) ?_)
    | (refine Keep.snd (by assumption) ?_)
    | split
    | dsimp only

theorem State.updLedger_keep : ∀ a0 a1 s, Keep 8589934592 s (State.updLedger a0 a1 s) := by
  intro a0 a1 s
  unfold State.updLedger
  repeat' first
    | with_reducible assumption
    | with_reducible exact Keep.refl _ _
    | intro _
    | (fail_if_no_progress beta_reduce)
    | (with_reducible apply KeepR.next)
    | (with_reducible apply Keep.ite)
    | (with_reducible apply KeepR.ite)
    | (with_reducible apply Keep.ite_fst)
    | (with_reducible apply Keep.snoc (State.updMod_keep _ _))
    | (with_reducible apply Keep.snoc' (Keep.foldl ?_ _ _))
    | (with_reducible apply And.intro)
    | exact rfl
    | (refine Keep.fst (by assumption) ?_)
    | (refine Keep.snd (by assumption) ?_)
    | split
    | dsimp only

theorem State.detail_keep : ∀ a0 a1 a2 s, Keep 8589934592 s (State.detail a0 a1 a2 s) := by
  intro a0 a1 a2 s
  unfold State.detail
  repeat' first
    | with_reducible assumption
    | with_reducible exact Keep.refl _ _
    | intro _
    | (fail_if_no_progress beta_reduce)
    | (with_reducible apply KeepR.next)
    | (with_reducible apply Keep.ite)
    | (with_reducible apply KeepR.ite)
    | (with_reducible apply Keep.ite_fst)
    | (with_reducible apply Keep.snoc (State.updLedger_keep _ _ _))
    | (with_reducible apply Keep.snoc' (Keep.foldl ?_ _ _))
    | (with_reducible apply And.intro)
    | exact rfl
    | (refine Keep.fst (by assumption) ?_)
    | (refine Keep.snd (by assumption) ?_)
    | split
    | dsimp only

theorem State.measure_keep : ∀ a0 a1 a2 a3 s, Keep 8589934592 s (State.measure a0 a1 a2 a3 s) := by
  intro a0 a1 a2 a3 s
  unfold State.measure
  repeat' first
    | with_reducible assumption
    | with_reducible exact Keep.refl _ _
    | intro _
    | (fail_if_no_progress beta_reduce)
    | (with_reducible apply KeepR.next)
    | (with_reducible apply Keep.ite)
    | (with_reducible apply KeepR.ite)
    | (with_reducible apply Keep.ite_fst)
    | (with_reducible apply Keep.snoc (State.detail_keep _ _ _ _))
    | (with_reducible apply Keep.snoc (State.updLedger_keep _ _ _))
    | (with_reducible apply Keep.snoc' (Keep.foldl ?_ _ _))
    | (with_reducible apply And.intro)
    | exact rfl
    | (refine Keep.fst (by assumption) ?_)
    | (refine Keep.snd (by assumption) ?_)
    | split
    | dsimp only

theorem State.ledgerWarn_keep : ∀ a0 a1 a2 a3 s, Keep 9193914384 s (State.ledgerWarn a0 a1 a2 a3 s) := by
  intro a0 a1 a2 a3 s
  unfold State.ledgerWarn
  extract_lets v0
  have h0 : Keep 9193914384 s v0 := by
    unfold v0
    repeat' first
      | with_reducible assumption
      | with_reducible exact Keep.refl _ _
      | intro _
      | (fail_if_no_progress beta_reduce)
      | (with_reducible apply KeepR.next)
      | (with_reducible apply Keep.ite)
      | (with_reducible apply KeepR.ite)
      | (with_reducible apply Keep.ite_fst)
      | (with_reducible apply Keep.snoc (State.postEvent_keep _ _ _ _))
      | (with_reducible apply Keep.snoc (State.record_keep _ _ _ _))
      | (with_reducible apply Keep.snoc (State.settleHealth_keep _))
      | (with_reducible apply Keep.snoc (State.updLedger_keep _ _ _))
      | (with_reducible apply Keep.snoc' (Keep.foldl ?_ _ _))
      | (with_reducible apply And.intro)
      | exact rfl
      | (refine Keep.fst (by assumption) ?_)
      | (refine Keep.snd (by assumption) ?_)
      | split
      | dsimp only
  repeat' first
    | with_reducible assumption
    | with_reducible exact Keep.refl _ _
    | intro _
    | (fail_if_no_progress beta_reduce)
    | (with_reducible apply KeepR.next)
    | (with_reducible apply Keep.ite)
    | (with_reducible apply KeepR.ite)
    | (with_reducible apply Keep.ite_fst)
    | (with_reducible apply Keep.snoc (State.postEvent_keep _ _ _ _))
    | (with_reducible apply Keep.snoc (State.record_keep _ _ _ _))
    | (with_reducible apply Keep.snoc (State.settleHealth_keep _))
    | (with_reducible apply Keep.snoc (State.updLedger_keep _ _ _))
    | (with_reducible apply Keep.snoc' (Keep.foldl ?_ _ _))
    | (with_reducible apply And.intro)
    | exact rfl
    | (refine Keep.fst (by assumption) ?_)
    | (refine Keep.snd (by assumption) ?_)
    | split
    | dsimp only

end Sys2Proof.Machine
end

