-- ==== Sys2Proof/Laws/KeepField.lean ====
section
/-! SUPPORT. What each operation and meaning of Machine/Field.lean leaves alone. -/

namespace Sys2Proof.Machine

set_option linter.unusedTactic false
set_option linter.unreachableTactic false

theorem State.shed_keep : ∀ a0 s, Keep 536872208 s (State.shed a0 s) := by
  intro a0 s
  unfold State.shed
  repeat' first
    | with_reducible assumption
    | with_reducible exact Keep.refl _ _
    | intro _
    | (fail_if_no_progress beta_reduce)
    | (with_reducible apply KeepR.next)
    | (with_reducible apply Keep.ite)
    | (with_reducible apply KeepR.ite)
    | (with_reducible apply Keep.ite_fst)
    | (with_reducible apply Keep.snoc (State.diagBoth_keep _ _ _ _))
    | (with_reducible apply Keep.snoc (State.updCell_keep _ _ _))
    | (with_reducible apply Keep.snoc' (Keep.foldl ?_ _ _))
    | (with_reducible apply And.intro)
    | exact rfl
    | (refine Keep.fst (by assumption) ?_)
    | (refine Keep.snd (by assumption) ?_)
    | split
    | dsimp only

theorem State.exitRecord_keep : ∀ a0 s, Keep 536870928 s (State.exitRecord a0 s) := by
  intro a0 s
  unfold State.exitRecord
  repeat' first
    | with_reducible assumption
    | with_reducible exact Keep.refl _ _
    | intro _
    | (fail_if_no_progress beta_reduce)
    | (with_reducible apply KeepR.next)
    | (with_reducible apply Keep.ite)
    | (with_reducible apply KeepR.ite)
    | (with_reducible apply Keep.ite_fst)
    | (with_reducible apply Keep.snoc (State.record_keep _ _ _ _))
    | (with_reducible apply Keep.snoc' (Keep.foldl ?_ _ _))
    | (with_reducible apply And.intro)
    | exact rfl
    | (refine Keep.fst (by assumption) ?_)
    | (refine Keep.snd (by assumption) ?_)
    | split
    | dsimp only

theorem State.keepTick_keep : ∀ s, Keep 16384 s (State.keepTick s) := by
  intro s
  unfold State.keepTick
  extract_lets v0 v1 v2
  try clear_value v2
  try clear_value v1
  try clear_value v0
  repeat' first
    | with_reducible assumption
    | with_reducible exact Keep.refl _ _
    | intro _
    | (fail_if_no_progress beta_reduce)
    | (with_reducible apply KeepR.next)
    | (with_reducible apply Keep.ite)
    | (with_reducible apply KeepR.ite)
    | (with_reducible apply Keep.ite_fst)
    | (with_reducible apply Keep.snoc (State.updPrg_keep _ _ ?_))
    | (with_reducible apply Keep.snoc' (Keep.foldl ?_ _ _))
    | (with_reducible apply And.intro)
    | exact rfl
    | (refine Keep.fst (by assumption) ?_)
    | (refine Keep.snd (by assumption) ?_)
    | split
    | dsimp only

theorem execLaneTick_keep : ∀ a0 a1 a2 s, KeepR 536889107 s (execLaneTick a0 a1 a2 s) := by
  intro a0 a1 a2 s
  unfold execLaneTick
  extract_lets v0 v1 v2 v3 v4 v5 v6 v7 v8 v9 v10
  try clear_value v6
  have h0 : Keep 536889107 s v0 := by
    unfold v0
    repeat' first
      | with_reducible assumption
      | with_reducible exact Keep.refl _ _
      | intro _
      | (fail_if_no_progress beta_reduce)
      | (with_reducible apply KeepR.next)
      | (with_reducible apply Keep.ite)
      | (with_reducible apply KeepR.ite)
      | (with_reducible apply Keep.ite_fst)
      | (with_reducible apply Keep.snoc (State.begin_keep _ _))
      | (with_reducible apply Keep.snoc (State.emit_keep _ _))
      | (with_reducible apply Keep.snoc (State.exitRecord_keep _ _))
      | (with_reducible apply Keep.snoc (State.keepTick_keep _))
      | (with_reducible apply Keep.snoc (State.shed_keep _ _))
      | (with_reducible apply Keep.snoc (State.updCell_keep _ _ _))
      | (with_reducible apply Keep.snoc (State.updGfe_keep _ _ _))
      | (with_reducible apply Keep.snoc' (Keep.forAll ?_ _))
      | (with_reducible apply Keep.snoc' (Keep.foldl ?_ _ _))
      | (with_reducible apply And.intro)
      | exact rfl
      | (refine Keep.fst (by assumption) ?_)
      | (refine Keep.snd (by assumption) ?_)
      | split
      | dsimp only
  have h1 : Keep 536889107 s v1 := by
    unfold v1
    repeat' first
      | with_reducible assumption
      | with_reducible exact Keep.refl _ _
      | intro _
      | (fail_if_no_progress beta_reduce)
      | (with_reducible apply KeepR.next)
      | (with_reducible apply Keep.ite)
      | (with_reducible apply KeepR.ite)
      | (with_reducible apply Keep.ite_fst)
      | (with_reducible apply Keep.snoc (State.begin_keep _ _))
      | (with_reducible apply Keep.snoc (State.emit_keep _ _))
      | (with_reducible apply Keep.snoc (State.exitRecord_keep _ _))
      | (with_reducible apply Keep.snoc (State.keepTick_keep _))
      | (with_reducible apply Keep.snoc (State.shed_keep _ _))
      | (with_reducible apply Keep.snoc (State.updCell_keep _ _ _))
      | (with_reducible apply Keep.snoc (State.updGfe_keep _ _ _))
      | (with_reducible apply Keep.snoc' (Keep.forAll ?_ _))
      | (with_reducible apply Keep.snoc' (Keep.foldl ?_ _ _))
      | (with_reducible apply And.intro)
      | exact rfl
      | (refine Keep.fst (by assumption) ?_)
      | (refine Keep.snd (by assumption) ?_)
      | split
      | dsimp only
  have h2 : Keep 536889107 s v2 := by
    unfold v2
    repeat' first
      | with_reducible assumption
      | with_reducible exact Keep.refl _ _
      | (with_reducible apply Keep.snoc (State.set_tick_keep _ _))
      | (with_reducible apply Keep.snoc (State.set_tickAt_keep _ _))
      | (with_reducible apply Keep.snoc (State.set_ticks_keep _ _ _))
      | exact rfl
  have h3 : Keep 536889107 s v3 := by
    unfold v3
    repeat' first
      | with_reducible assumption
      | with_reducible exact Keep.refl _ _
      | intro _
      | (fail_if_no_progress beta_reduce)
      | (with_reducible apply KeepR.next)
      | (with_reducible apply Keep.ite)
      | (with_reducible apply KeepR.ite)
      | (with_reducible apply Keep.ite_fst)
      | (with_reducible apply Keep.snoc (State.begin_keep _ _))
      | (with_reducible apply Keep.snoc (State.emit_keep _ _))
      | (with_reducible apply Keep.snoc (State.exitRecord_keep _ _))
      | (with_reducible apply Keep.snoc (State.keepTick_keep _))
      | (with_reducible apply Keep.snoc (State.shed_keep _ _))
      | (with_reducible apply Keep.snoc (State.updCell_keep _ _ _))
      | (with_reducible apply Keep.snoc (State.updGfe_keep _ _ _))
      | (with_reducible apply Keep.snoc' (Keep.forAll ?_ _))
      | (with_reducible apply Keep.snoc' (Keep.foldl ?_ _ _))
      | (with_reducible apply And.intro)
      | exact rfl
      | (refine Keep.fst (by assumption) ?_)
      | (refine Keep.snd (by assumption) ?_)
      | split
      | dsimp only
  have h4 : Keep 536889107 s v4 := by
    unfold v4
    repeat' first
      | with_reducible assumption
      | with_reducible exact Keep.refl _ _
      | intro _
      | (fail_if_no_progress beta_reduce)
      | (with_reducible apply KeepR.next)
      | (with_reducible apply Keep.ite)
      | (with_reducible apply KeepR.ite)
      | (with_reducible apply Keep.ite_fst)
      | (with_reducible apply Keep.snoc (State.begin_keep _ _))
      | (with_reducible apply Keep.snoc (State.emit_keep _ _))
      | (with_reducible apply Keep.snoc (State.exitRecord_keep _ _))
      | (with_reducible apply Keep.snoc (State.keepTick_keep _))
      | (with_reducible apply Keep.snoc (State.shed_keep _ _))
      | (with_reducible apply Keep.snoc (State.updCell_keep _ _ _))
      | (with_reducible apply Keep.snoc (State.updGfe_keep _ _ _))
      | (with_reducible apply Keep.snoc' (Keep.forAll ?_ _))
      | (with_reducible apply Keep.snoc' (Keep.foldl ?_ _ _))
      | (with_reducible apply And.intro)
      | exact rfl
      | (refine Keep.fst (by assumption) ?_)
      | (refine Keep.snd (by assumption) ?_)
      | split
      | dsimp only
  have h5 : Keep 536889107 s v5 := by
    unfold v5
    repeat' first
      | with_reducible assumption
      | with_reducible exact Keep.refl _ _
      | intro _
      | (fail_if_no_progress beta_reduce)
      | (with_reducible apply KeepR.next)
      | (with_reducible apply Keep.ite)
      | (with_reducible apply KeepR.ite)
      | (with_reducible apply Keep.ite_fst)
      | (with_reducible apply Keep.snoc (State.begin_keep _ _))
      | (with_reducible apply Keep.snoc (State.emit_keep _ _))
      | (with_reducible apply Keep.snoc (State.exitRecord_keep _ _))
      | (with_reducible apply Keep.snoc (State.keepTick_keep _))
      | (with_reducible apply Keep.snoc (State.shed_keep _ _))
      | (with_reducible apply Keep.snoc (State.updCell_keep _ _ _))
      | (with_reducible apply Keep.snoc (State.updGfe_keep _ _ _))
      | (with_reducible apply Keep.snoc' (Keep.forAll ?_ _))
      | (with_reducible apply Keep.snoc' (Keep.foldl ?_ _ _))
      | (with_reducible apply And.intro)
      | exact rfl
      | (refine Keep.fst (by assumption) ?_)
      | (refine Keep.snd (by assumption) ?_)
      | split
      | dsimp only
  have h7 : Keep 536889107 s v7 := by
    unfold v7
    repeat' first
      | with_reducible assumption
      | with_reducible exact Keep.refl _ _
      | intro _
      | (fail_if_no_progress beta_reduce)
      | (with_reducible apply KeepR.next)
      | (with_reducible apply Keep.ite)
      | (with_reducible apply KeepR.ite)
      | (with_reducible apply Keep.ite_fst)
      | (with_reducible apply Keep.snoc (State.begin_keep _ _))
      | (with_reducible apply Keep.snoc (State.emit_keep _ _))
      | (with_reducible apply Keep.snoc (State.exitRecord_keep _ _))
      | (with_reducible apply Keep.snoc (State.keepTick_keep _))
      | (with_reducible apply Keep.snoc (State.shed_keep _ _))
      | (with_reducible apply Keep.snoc (State.updCell_keep _ _ _))
      | (with_reducible apply Keep.snoc (State.updGfe_keep _ _ _))
      | (with_reducible apply Keep.snoc' (Keep.forAll ?_ _))
      | (with_reducible apply Keep.snoc' (Keep.foldl ?_ _ _))
      | (with_reducible apply And.intro)
      | exact rfl
      | (refine Keep.fst (by assumption) ?_)
      | (refine Keep.snd (by assumption) ?_)
      | split
      | dsimp only
  have h8 : Keep 536889107 s v8 := by
    unfold v8
    repeat' first
      | with_reducible assumption
      | with_reducible exact Keep.refl _ _
      | intro _
      | (fail_if_no_progress beta_reduce)
      | (with_reducible apply KeepR.next)
      | (with_reducible apply Keep.ite)
      | (with_reducible apply KeepR.ite)
      | (with_reducible apply Keep.ite_fst)
      | (with_reducible apply Keep.snoc (State.begin_keep _ _))
      | (with_reducible apply Keep.snoc (State.emit_keep _ _))
      | (with_reducible apply Keep.snoc (State.exitRecord_keep _ _))
      | (with_reducible apply Keep.snoc (State.keepTick_keep _))
      | (with_reducible apply Keep.snoc (State.shed_keep _ _))
      | (with_reducible apply Keep.snoc (State.updCell_keep _ _ _))
      | (with_reducible apply Keep.snoc (State.updGfe_keep _ _ _))
      | (with_reducible apply Keep.snoc' (Keep.forAll ?_ _))
      | (with_reducible apply Keep.snoc' (Keep.foldl ?_ _ _))
      | (with_reducible apply And.intro)
      | exact rfl
      | (refine Keep.fst (by assumption) ?_)
      | (refine Keep.snd (by assumption) ?_)
      | split
      | dsimp only
  have h9 : Keep 536889107 s v9 := by
    unfold v9
    repeat' first
      | with_reducible assumption
      | with_reducible exact Keep.refl _ _
      | intro _
      | (fail_if_no_progress beta_reduce)
      | (with_reducible apply KeepR.next)
      | (with_reducible apply Keep.ite)
      | (with_reducible apply KeepR.ite)
      | (with_reducible apply Keep.ite_fst)
      | (with_reducible apply Keep.snoc (State.begin_keep _ _))
      | (with_reducible apply Keep.snoc (State.emit_keep _ _))
      | (with_reducible apply Keep.snoc (State.exitRecord_keep _ _))
      | (with_reducible apply Keep.snoc (State.keepTick_keep _))
      | (with_reducible apply Keep.snoc (State.shed_keep _ _))
      | (with_reducible apply Keep.snoc (State.updCell_keep _ _ _))
      | (with_reducible apply Keep.snoc (State.updGfe_keep _ _ _))
      | (with_reducible apply Keep.snoc' (Keep.forAll ?_ _))
      | (with_reducible apply Keep.snoc' (Keep.foldl ?_ _ _))
      | (with_reducible apply And.intro)
      | exact rfl
      | (refine Keep.fst (by assumption) ?_)
      | (refine Keep.snd (by assumption) ?_)
      | split
      | dsimp only
  have h10 : Keep 536889107 s v10 := by
    unfold v10
    repeat' first
      | with_reducible assumption
      | with_reducible exact Keep.refl _ _
      | intro _
      | (fail_if_no_progress beta_reduce)
      | (with_reducible apply KeepR.next)
      | (with_reducible apply Keep.ite)
      | (with_reducible apply KeepR.ite)
      | (with_reducible apply Keep.ite_fst)
      | (with_reducible apply Keep.snoc (State.begin_keep _ _))
      | (with_reducible apply Keep.snoc (State.emit_keep _ _))
      | (with_reducible apply Keep.snoc (State.exitRecord_keep _ _))
      | (with_reducible apply Keep.snoc (State.keepTick_keep _))
      | (with_reducible apply Keep.snoc (State.shed_keep _ _))
      | (with_reducible apply Keep.snoc (State.updCell_keep _ _ _))
      | (with_reducible apply Keep.snoc (State.updGfe_keep _ _ _))
      | (with_reducible apply Keep.snoc' (Keep.forAll ?_ _))
      | (with_reducible apply Keep.snoc' (Keep.foldl ?_ _ _))
      | (with_reducible apply And.intro)
      | exact rfl
      | (refine Keep.fst (by assumption) ?_)
      | (refine Keep.snd (by assumption) ?_)
      | split
      | dsimp only
  repeat' first
    | with_reducible assumption
    | with_reducible exact Keep.refl _ _
    | intro _
    | (fail_if_no_progress beta_reduce)
    | (with_reducible apply KeepR.next)
    | (with_reducible apply Keep.ite)
    | (with_reducible apply KeepR.ite)
    | (with_reducible apply Keep.ite_fst)
    | (with_reducible apply Keep.snoc (State.begin_keep _ _))
    | (with_reducible apply Keep.snoc (State.emit_keep _ _))
    | (with_reducible apply Keep.snoc (State.exitRecord_keep _ _))
    | (with_reducible apply Keep.snoc (State.keepTick_keep _))
    | (with_reducible apply Keep.snoc (State.shed_keep _ _))
    | (with_reducible apply Keep.snoc (State.updCell_keep _ _ _))
    | (with_reducible apply Keep.snoc (State.updGfe_keep _ _ _))
    | (with_reducible apply Keep.snoc' (Keep.forAll ?_ _))
    | (with_reducible apply Keep.snoc' (Keep.foldl ?_ _ _))
    | (with_reducible apply And.intro)
    | exact rfl
    | (refine Keep.fst (by assumption) ?_)
    | (refine Keep.snd (by assumption) ?_)
    | split
    | dsimp only

theorem execChannelOutputFrame_keep : ∀ a0 a1 a2 s, KeepR 768 s (execChannelOutputFrame a0 a1 a2 s) := by
  intro a0 a1 a2 s
  unfold execChannelOutputFrame
  extract_lets v0 v1
  try clear_value v1
  have h0 : Keep 768 s v0 := by
    unfold v0
    repeat' first
      | with_reducible assumption
      | with_reducible exact Keep.refl _ _
      | intro _
      | (fail_if_no_progress beta_reduce)
      | (with_reducible apply KeepR.next)
      | (with_reducible apply Keep.ite)
      | (with_reducible apply KeepR.ite)
      | (with_reducible apply Keep.ite_fst)
      | (with_reducible apply Keep.snoc (State.begin_keep _ _))
      | (with_reducible apply Keep.snoc (State.updCell_keep _ _ _))
      | (with_reducible apply Keep.snoc (State.updGfe_keep _ _ _))
      | (with_reducible apply Keep.snoc' (Keep.foldl ?_ _ _))
      | (with_reducible apply And.intro)
      | exact rfl
      | (refine Keep.fst (by assumption) ?_)
      | (refine Keep.snd (by assumption) ?_)
      | split
      | dsimp only
  repeat' first
    | with_reducible assumption
    | with_reducible exact Keep.refl _ _
    | intro _
    | (fail_if_no_progress beta_reduce)
    | (with_reducible apply KeepR.next)
    | (with_reducible apply Keep.ite)
    | (with_reducible apply KeepR.ite)
    | (with_reducible apply Keep.ite_fst)
    | (with_reducible apply Keep.snoc (State.begin_keep _ _))
    | (with_reducible apply Keep.snoc (State.updCell_keep _ _ _))
    | (with_reducible apply Keep.snoc (State.updGfe_keep _ _ _))
    | (with_reducible apply Keep.snoc' (Keep.foldl ?_ _ _))
    | (with_reducible apply And.intro)
    | exact rfl
    | (refine Keep.fst (by assumption) ?_)
    | (refine Keep.snd (by assumption) ?_)
    | split
    | dsimp only

theorem execBuckTargetReached_keep : ∀ a0 a1 s, KeepR 256 s (execBuckTargetReached a0 a1 s) := by
  intro a0 a1 s
  unfold execBuckTargetReached
  extract_lets v0
  have h0 : Keep 256 s v0 := by
    unfold v0
    repeat' first
      | with_reducible assumption
      | with_reducible exact Keep.refl _ _
      | intro _
      | (fail_if_no_progress beta_reduce)
      | (with_reducible apply KeepR.next)
      | (with_reducible apply Keep.ite)
      | (with_reducible apply KeepR.ite)
      | (with_reducible apply Keep.ite_fst)
      | (with_reducible apply Keep.snoc (State.begin_keep _ _))
      | (with_reducible apply Keep.snoc (State.updCell_keep _ _ _))
      | (with_reducible apply Keep.snoc' (Keep.foldl ?_ _ _))
      | (with_reducible apply And.intro)
      | exact rfl
      | (refine Keep.fst (by assumption) ?_)
      | (refine Keep.snd (by assumption) ?_)
      | split
      | dsimp only
  repeat' first
    | with_reducible assumption
    | with_reducible exact Keep.refl _ _
    | intro _
    | (fail_if_no_progress beta_reduce)
    | (with_reducible apply KeepR.next)
    | (with_reducible apply Keep.ite)
    | (with_reducible apply KeepR.ite)
    | (with_reducible apply Keep.ite_fst)
    | (with_reducible apply Keep.snoc (State.begin_keep _ _))
    | (with_reducible apply Keep.snoc (State.updCell_keep _ _ _))
    | (with_reducible apply Keep.snoc' (Keep.foldl ?_ _ _))
    | (with_reducible apply And.intro)
    | exact rfl
    | (refine Keep.fst (by assumption) ?_)
    | (refine Keep.snd (by assumption) ?_)
    | split
    | dsimp only

theorem State.hartFlush_keep : ∀ a0 a1 s, Keep 92278784 s (State.hartFlush a0 a1 s) := by
  intro a0 a1 s
  unfold State.hartFlush
  extract_lets v0 v1 v2
  try clear_value v1
  try clear_value v0
  have h2 : Keep 92278784 s v2 := by
    unfold v2
    repeat' first
      | with_reducible assumption
      | with_reducible exact Keep.refl _ _
      | intro _
      | (fail_if_no_progress beta_reduce)
      | (with_reducible apply KeepR.next)
      | (with_reducible apply Keep.ite)
      | (with_reducible apply KeepR.ite)
      | (with_reducible apply Keep.ite_fst)
      | (with_reducible apply Keep.snoc (State.completeAll_keep _ _ _))
      | (with_reducible apply Keep.snoc (State.updHart_keep _ _ _))
      | (with_reducible apply Keep.snoc' (Keep.foldl ?_ _ _))
      | (with_reducible apply And.intro)
      | exact rfl
      | (refine Keep.fst (by assumption) ?_)
      | (refine Keep.snd (by assumption) ?_)
      | split
      | dsimp only
  repeat' first
    | with_reducible assumption
    | with_reducible exact Keep.refl _ _
    | intro _
    | (fail_if_no_progress beta_reduce)
    | (with_reducible apply KeepR.next)
    | (with_reducible apply Keep.ite)
    | (with_reducible apply KeepR.ite)
    | (with_reducible apply Keep.ite_fst)
    | (with_reducible apply Keep.snoc (State.completeAll_keep _ _ _))
    | (with_reducible apply Keep.snoc (State.updHart_keep _ _ _))
    | (with_reducible apply Keep.snoc' (Keep.foldl ?_ _ _))
    | (with_reducible apply And.intro)
    | exact rfl
    | (refine Keep.fst (by assumption) ?_)
    | (refine Keep.snd (by assumption) ?_)
    | split
    | dsimp only

theorem execSilentEntry_keep : ∀ a0 a1 s, KeepR 92279040 s (execSilentEntry a0 a1 s) := by
  intro a0 a1 s
  unfold execSilentEntry
  extract_lets v0 v1 v2
  try clear_value v1
  have h0 : Keep 92279040 s v0 := by
    unfold v0
    repeat' first
      | with_reducible assumption
      | with_reducible exact Keep.refl _ _
      | intro _
      | (fail_if_no_progress beta_reduce)
      | (with_reducible apply KeepR.next)
      | (with_reducible apply Keep.ite)
      | (with_reducible apply KeepR.ite)
      | (with_reducible apply Keep.ite_fst)
      | (with_reducible apply Keep.snoc (State.begin_keep _ _))
      | (with_reducible apply Keep.snoc (State.hartFlush_keep _ _ _))
      | (with_reducible apply Keep.snoc (State.updCell_keep _ _ _))
      | (with_reducible apply Keep.snoc' (Keep.foldl ?_ _ _))
      | (with_reducible apply And.intro)
      | exact rfl
      | (refine Keep.fst (by assumption) ?_)
      | (refine Keep.snd (by assumption) ?_)
      | split
      | dsimp only
  have h2 : Keep 92279040 s v2 := by
    unfold v2
    repeat' first
      | with_reducible assumption
      | with_reducible exact Keep.refl _ _
      | intro _
      | (fail_if_no_progress beta_reduce)
      | (with_reducible apply KeepR.next)
      | (with_reducible apply Keep.ite)
      | (with_reducible apply KeepR.ite)
      | (with_reducible apply Keep.ite_fst)
      | (with_reducible apply Keep.snoc (State.begin_keep _ _))
      | (with_reducible apply Keep.snoc (State.hartFlush_keep _ _ _))
      | (with_reducible apply Keep.snoc (State.updCell_keep _ _ _))
      | (with_reducible apply Keep.snoc' (Keep.foldl ?_ _ _))
      | (with_reducible apply And.intro)
      | exact rfl
      | (refine Keep.fst (by assumption) ?_)
      | (refine Keep.snd (by assumption) ?_)
      | split
      | dsimp only
  repeat' first
    | with_reducible assumption
    | with_reducible exact Keep.refl _ _
    | intro _
    | (fail_if_no_progress beta_reduce)
    | (with_reducible apply KeepR.next)
    | (with_reducible apply Keep.ite)
    | (with_reducible apply KeepR.ite)
    | (with_reducible apply Keep.ite_fst)
    | (with_reducible apply Keep.snoc (State.begin_keep _ _))
    | (with_reducible apply Keep.snoc (State.hartFlush_keep _ _ _))
    | (with_reducible apply Keep.snoc (State.updCell_keep _ _ _))
    | (with_reducible apply Keep.snoc' (Keep.foldl ?_ _ _))
    | (with_reducible apply And.intro)
    | exact rfl
    | (refine Keep.fst (by assumption) ?_)
    | (refine Keep.snd (by assumption) ?_)
    | split
    | dsimp only

theorem execSdoReadbackCheck_keep : ∀ a0 a1 s, KeepR 512 s (execSdoReadbackCheck a0 a1 s) := by
  intro a0 a1 s
  unfold execSdoReadbackCheck
  extract_lets v0 v1
  try clear_value v1
  have h0 : Keep 512 s v0 := by
    unfold v0
    repeat' first
      | with_reducible assumption
      | with_reducible exact Keep.refl _ _
      | intro _
      | (fail_if_no_progress beta_reduce)
      | (with_reducible apply KeepR.next)
      | (with_reducible apply Keep.ite)
      | (with_reducible apply KeepR.ite)
      | (with_reducible apply Keep.ite_fst)
      | (with_reducible apply Keep.snoc (State.begin_keep _ _))
      | (with_reducible apply Keep.snoc (State.updGfe_keep _ _ _))
      | (with_reducible apply Keep.snoc' (Keep.foldl ?_ _ _))
      | (with_reducible apply And.intro)
      | exact rfl
      | (refine Keep.fst (by assumption) ?_)
      | (refine Keep.snd (by assumption) ?_)
      | split
      | dsimp only
  repeat' first
    | with_reducible assumption
    | with_reducible exact Keep.refl _ _
    | intro _
    | (fail_if_no_progress beta_reduce)
    | (with_reducible apply KeepR.next)
    | (with_reducible apply Keep.ite)
    | (with_reducible apply KeepR.ite)
    | (with_reducible apply Keep.ite_fst)
    | (with_reducible apply Keep.snoc (State.begin_keep _ _))
    | (with_reducible apply Keep.snoc (State.updGfe_keep _ _ _))
    | (with_reducible apply Keep.snoc' (Keep.foldl ?_ _ _))
    | (with_reducible apply And.intro)
    | exact rfl
    | (refine Keep.fst (by assumption) ?_)
    | (refine Keep.snd (by assumption) ?_)
    | split
    | dsimp only

theorem execHoldLimitExpiry_keep : ∀ a0 a1 s, KeepR 256 s (execHoldLimitExpiry a0 a1 s) := by
  intro a0 a1 s
  unfold execHoldLimitExpiry
  extract_lets v0 v1 v2 v3
  try clear_value v3
  try clear_value v2
  try clear_value v1
  have h0 : Keep 256 s v0 := by
    unfold v0
    repeat' first
      | with_reducible assumption
      | with_reducible exact Keep.refl _ _
      | intro _
      | (fail_if_no_progress beta_reduce)
      | (with_reducible apply KeepR.next)
      | (with_reducible apply Keep.ite)
      | (with_reducible apply KeepR.ite)
      | (with_reducible apply Keep.ite_fst)
      | (with_reducible apply Keep.snoc (State.begin_keep _ _))
      | (with_reducible apply Keep.snoc (State.updCell_keep _ _ _))
      | (with_reducible apply Keep.snoc' (Keep.foldl ?_ _ _))
      | (with_reducible apply And.intro)
      | exact rfl
      | (refine Keep.fst (by assumption) ?_)
      | (refine Keep.snd (by assumption) ?_)
      | split
      | dsimp only
  repeat' first
    | with_reducible assumption
    | with_reducible exact Keep.refl _ _
    | intro _
    | (fail_if_no_progress beta_reduce)
    | (with_reducible apply KeepR.next)
    | (with_reducible apply Keep.ite)
    | (with_reducible apply KeepR.ite)
    | (with_reducible apply Keep.ite_fst)
    | (with_reducible apply Keep.snoc (State.begin_keep _ _))
    | (with_reducible apply Keep.snoc (State.updCell_keep _ _ _))
    | (with_reducible apply Keep.snoc' (Keep.foldl ?_ _ _))
    | (with_reducible apply And.intro)
    | exact rfl
    | (refine Keep.fst (by assumption) ?_)
    | (refine Keep.snd (by assumption) ?_)
    | split
    | dsimp only

theorem execWireBreakSet_keep : ∀ a0 a1 s, KeepR 536872208 s (execWireBreakSet a0 a1 s) := by
  intro a0 a1 s
  unfold execWireBreakSet
  extract_lets v0
  have h0 : Keep 536872208 s v0 := by
    unfold v0
    repeat' first
      | with_reducible assumption
      | with_reducible exact Keep.refl _ _
      | intro _
      | (fail_if_no_progress beta_reduce)
      | (with_reducible apply KeepR.next)
      | (with_reducible apply Keep.ite)
      | (with_reducible apply KeepR.ite)
      | (with_reducible apply Keep.ite_fst)
      | (with_reducible apply Keep.snoc (State.begin_keep _ _))
      | (with_reducible apply Keep.snoc (State.diagBoth_keep _ _ _ _))
      | (with_reducible apply Keep.snoc' (Keep.foldl ?_ _ _))
      | (with_reducible apply And.intro)
      | exact rfl
      | (refine Keep.fst (by assumption) ?_)
      | (refine Keep.snd (by assumption) ?_)
      | split
      | dsimp only
  repeat' first
    | with_reducible assumption
    | with_reducible exact Keep.refl _ _
    | intro _
    | (fail_if_no_progress beta_reduce)
    | (with_reducible apply KeepR.next)
    | (with_reducible apply Keep.ite)
    | (with_reducible apply KeepR.ite)
    | (with_reducible apply Keep.ite_fst)
    | (with_reducible apply Keep.snoc (State.begin_keep _ _))
    | (with_reducible apply Keep.snoc (State.diagBoth_keep _ _ _ _))
    | (with_reducible apply Keep.snoc' (Keep.foldl ?_ _ _))
    | (with_reducible apply And.intro)
    | exact rfl
    | (refine Keep.fst (by assumption) ?_)
    | (refine Keep.snd (by assumption) ?_)
    | split
    | dsimp only

theorem execWireBreakClear_keep : ∀ a0 a1 s, KeepR 536872208 s (execWireBreakClear a0 a1 s) := by
  intro a0 a1 s
  unfold execWireBreakClear
  extract_lets v0
  have h0 : Keep 536872208 s v0 := by
    unfold v0
    repeat' first
      | with_reducible assumption
      | with_reducible exact Keep.refl _ _
      | intro _
      | (fail_if_no_progress beta_reduce)
      | (with_reducible apply KeepR.next)
      | (with_reducible apply Keep.ite)
      | (with_reducible apply KeepR.ite)
      | (with_reducible apply Keep.ite_fst)
      | (with_reducible apply Keep.snoc (State.begin_keep _ _))
      | (with_reducible apply Keep.snoc (State.diagBoth_keep _ _ _ _))
      | (with_reducible apply Keep.snoc' (Keep.foldl ?_ _ _))
      | (with_reducible apply And.intro)
      | exact rfl
      | (refine Keep.fst (by assumption) ?_)
      | (refine Keep.snd (by assumption) ?_)
      | split
      | dsimp only
  repeat' first
    | with_reducible assumption
    | with_reducible exact Keep.refl _ _
    | intro _
    | (fail_if_no_progress beta_reduce)
    | (with_reducible apply KeepR.next)
    | (with_reducible apply Keep.ite)
    | (with_reducible apply KeepR.ite)
    | (with_reducible apply Keep.ite_fst)
    | (with_reducible apply Keep.snoc (State.begin_keep _ _))
    | (with_reducible apply Keep.snoc (State.diagBoth_keep _ _ _ _))
    | (with_reducible apply Keep.snoc' (Keep.foldl ?_ _ _))
    | (with_reducible apply And.intro)
    | exact rfl
    | (refine Keep.fst (by assumption) ?_)
    | (refine Keep.snd (by assumption) ?_)
    | split
    | dsimp only

theorem execInrushWindowEnd_keep : ∀ a0 a1 s, KeepR 256 s (execInrushWindowEnd a0 a1 s) := by
  intro a0 a1 s
  unfold execInrushWindowEnd
  extract_lets v0
  have h0 : Keep 256 s v0 := by
    unfold v0
    repeat' first
      | with_reducible assumption
      | with_reducible exact Keep.refl _ _
      | intro _
      | (fail_if_no_progress beta_reduce)
      | (with_reducible apply KeepR.next)
      | (with_reducible apply Keep.ite)
      | (with_reducible apply KeepR.ite)
      | (with_reducible apply Keep.ite_fst)
      | (with_reducible apply Keep.snoc (State.begin_keep _ _))
      | (with_reducible apply Keep.snoc (State.updCell_keep _ _ _))
      | (with_reducible apply Keep.snoc' (Keep.foldl ?_ _ _))
      | (with_reducible apply And.intro)
      | exact rfl
      | (refine Keep.fst (by assumption) ?_)
      | (refine Keep.snd (by assumption) ?_)
      | split
      | dsimp only
  repeat' first
    | with_reducible assumption
    | with_reducible exact Keep.refl _ _
    | intro _
    | (fail_if_no_progress beta_reduce)
    | (with_reducible apply KeepR.next)
    | (with_reducible apply Keep.ite)
    | (with_reducible apply KeepR.ite)
    | (with_reducible apply Keep.ite_fst)
    | (with_reducible apply Keep.snoc (State.begin_keep _ _))
    | (with_reducible apply Keep.snoc (State.updCell_keep _ _ _))
    | (with_reducible apply Keep.snoc' (Keep.foldl ?_ _ _))
    | (with_reducible apply And.intro)
    | exact rfl
    | (refine Keep.fst (by assumption) ?_)
    | (refine Keep.snd (by assumption) ?_)
    | split
    | dsimp only

theorem execOverloadTrip_keep : ∀ a0 a1 s, KeepR 536872208 s (execOverloadTrip a0 a1 s) := by
  intro a0 a1 s
  unfold execOverloadTrip
  extract_lets v0
  have h0 : Keep 536872208 s v0 := by
    unfold v0
    repeat' first
      | with_reducible assumption
      | with_reducible exact Keep.refl _ _
      | intro _
      | (fail_if_no_progress beta_reduce)
      | (with_reducible apply KeepR.next)
      | (with_reducible apply Keep.ite)
      | (with_reducible apply KeepR.ite)
      | (with_reducible apply Keep.ite_fst)
      | (with_reducible apply Keep.snoc (State.begin_keep _ _))
      | (with_reducible apply Keep.snoc (State.diagBoth_keep _ _ _ _))
      | (with_reducible apply Keep.snoc (State.updCell_keep _ _ _))
      | (with_reducible apply Keep.snoc' (Keep.foldl ?_ _ _))
      | (with_reducible apply And.intro)
      | exact rfl
      | (refine Keep.fst (by assumption) ?_)
      | (refine Keep.snd (by assumption) ?_)
      | split
      | dsimp only
  repeat' first
    | with_reducible assumption
    | with_reducible exact Keep.refl _ _
    | intro _
    | (fail_if_no_progress beta_reduce)
    | (with_reducible apply KeepR.next)
    | (with_reducible apply Keep.ite)
    | (with_reducible apply KeepR.ite)
    | (with_reducible apply Keep.ite_fst)
    | (with_reducible apply Keep.snoc (State.begin_keep _ _))
    | (with_reducible apply Keep.snoc (State.diagBoth_keep _ _ _ _))
    | (with_reducible apply Keep.snoc (State.updCell_keep _ _ _))
    | (with_reducible apply Keep.snoc' (Keep.foldl ?_ _ _))
    | (with_reducible apply And.intro)
    | exact rfl
    | (refine Keep.fst (by assumption) ?_)
    | (refine Keep.snd (by assumption) ?_)
    | split
    | dsimp only

theorem execOverloadRetry_keep : ∀ a0 a1 s, KeepR 256 s (execOverloadRetry a0 a1 s) := by
  intro a0 a1 s
  unfold execOverloadRetry
  extract_lets v0
  have h0 : Keep 256 s v0 := by
    unfold v0
    repeat' first
      | with_reducible assumption
      | with_reducible exact Keep.refl _ _
      | intro _
      | (fail_if_no_progress beta_reduce)
      | (with_reducible apply KeepR.next)
      | (with_reducible apply Keep.ite)
      | (with_reducible apply KeepR.ite)
      | (with_reducible apply Keep.ite_fst)
      | (with_reducible apply Keep.snoc (State.begin_keep _ _))
      | (with_reducible apply Keep.snoc (State.updCell_keep _ _ _))
      | (with_reducible apply Keep.snoc' (Keep.foldl ?_ _ _))
      | (with_reducible apply And.intro)
      | exact rfl
      | (refine Keep.fst (by assumption) ?_)
      | (refine Keep.snd (by assumption) ?_)
      | split
      | dsimp only
  repeat' first
    | with_reducible assumption
    | with_reducible exact Keep.refl _ _
    | intro _
    | (fail_if_no_progress beta_reduce)
    | (with_reducible apply KeepR.next)
    | (with_reducible apply Keep.ite)
    | (with_reducible apply KeepR.ite)
    | (with_reducible apply Keep.ite_fst)
    | (with_reducible apply Keep.snoc (State.begin_keep _ _))
    | (with_reducible apply Keep.snoc (State.updCell_keep _ _ _))
    | (with_reducible apply Keep.snoc' (Keep.foldl ?_ _ _))
    | (with_reducible apply And.intro)
    | exact rfl
    | (refine Keep.fst (by assumption) ?_)
    | (refine Keep.snd (by assumption) ?_)
    | split
    | dsimp only

theorem execOverloadClear_keep : ∀ a0 a1 s, KeepR 536872208 s (execOverloadClear a0 a1 s) := by
  intro a0 a1 s
  unfold execOverloadClear
  extract_lets v0
  have h0 : Keep 536872208 s v0 := by
    unfold v0
    repeat' first
      | with_reducible assumption
      | with_reducible exact Keep.refl _ _
      | intro _
      | (fail_if_no_progress beta_reduce)
      | (with_reducible apply KeepR.next)
      | (with_reducible apply Keep.ite)
      | (with_reducible apply KeepR.ite)
      | (with_reducible apply Keep.ite_fst)
      | (with_reducible apply Keep.snoc (State.begin_keep _ _))
      | (with_reducible apply Keep.snoc (State.diagBoth_keep _ _ _ _))
      | (with_reducible apply Keep.snoc (State.updCell_keep _ _ _))
      | (with_reducible apply Keep.snoc' (Keep.foldl ?_ _ _))
      | (with_reducible apply And.intro)
      | exact rfl
      | (refine Keep.fst (by assumption) ?_)
      | (refine Keep.snd (by assumption) ?_)
      | split
      | dsimp only
  repeat' first
    | with_reducible assumption
    | with_reducible exact Keep.refl _ _
    | intro _
    | (fail_if_no_progress beta_reduce)
    | (with_reducible apply KeepR.next)
    | (with_reducible apply Keep.ite)
    | (with_reducible apply KeepR.ite)
    | (with_reducible apply Keep.ite_fst)
    | (with_reducible apply Keep.snoc (State.begin_keep _ _))
    | (with_reducible apply Keep.snoc (State.diagBoth_keep _ _ _ _))
    | (with_reducible apply Keep.snoc (State.updCell_keep _ _ _))
    | (with_reducible apply Keep.snoc' (Keep.foldl ?_ _ _))
    | (with_reducible apply And.intro)
    | exact rfl
    | (refine Keep.fst (by assumption) ?_)
    | (refine Keep.snd (by assumption) ?_)
    | split
    | dsimp only

theorem execOpenLoad_keep : ∀ a0 a1 s, KeepR 536872208 s (execOpenLoad a0 a1 s) := by
  intro a0 a1 s
  unfold execOpenLoad
  extract_lets v0
  have h0 : Keep 536872208 s v0 := by
    unfold v0
    repeat' first
      | with_reducible assumption
      | with_reducible exact Keep.refl _ _
      | intro _
      | (fail_if_no_progress beta_reduce)
      | (with_reducible apply KeepR.next)
      | (with_reducible apply Keep.ite)
      | (with_reducible apply KeepR.ite)
      | (with_reducible apply Keep.ite_fst)
      | (with_reducible apply Keep.snoc (State.begin_keep _ _))
      | (with_reducible apply Keep.snoc (State.diagBoth_keep _ _ _ _))
      | (with_reducible apply Keep.snoc' (Keep.foldl ?_ _ _))
      | (with_reducible apply And.intro)
      | exact rfl
      | (refine Keep.fst (by assumption) ?_)
      | (refine Keep.snd (by assumption) ?_)
      | split
      | dsimp only
  repeat' first
    | with_reducible assumption
    | with_reducible exact Keep.refl _ _
    | intro _
    | (fail_if_no_progress beta_reduce)
    | (with_reducible apply KeepR.next)
    | (with_reducible apply Keep.ite)
    | (with_reducible apply KeepR.ite)
    | (with_reducible apply Keep.ite_fst)
    | (with_reducible apply Keep.snoc (State.begin_keep _ _))
    | (with_reducible apply Keep.snoc (State.diagBoth_keep _ _ _ _))
    | (with_reducible apply Keep.snoc' (Keep.foldl ?_ _ _))
    | (with_reducible apply And.intro)
    | exact rfl
    | (refine Keep.fst (by assumption) ?_)
    | (refine Keep.snd (by assumption) ?_)
    | split
    | dsimp only

theorem execThermalClear_keep : ∀ a0 a1 s, KeepR 536872208 s (execThermalClear a0 a1 s) := by
  intro a0 a1 s
  unfold execThermalClear
  extract_lets v0
  have h0 : Keep 536872208 s v0 := by
    unfold v0
    repeat' first
      | with_reducible assumption
      | with_reducible exact Keep.refl _ _
      | intro _
      | (fail_if_no_progress beta_reduce)
      | (with_reducible apply KeepR.next)
      | (with_reducible apply Keep.ite)
      | (with_reducible apply KeepR.ite)
      | (with_reducible apply Keep.ite_fst)
      | (with_reducible apply Keep.snoc (State.begin_keep _ _))
      | (with_reducible apply Keep.snoc (State.diagBoth_keep _ _ _ _))
      | (with_reducible apply Keep.snoc' (Keep.foldl ?_ _ _))
      | (with_reducible apply And.intro)
      | exact rfl
      | (refine Keep.fst (by assumption) ?_)
      | (refine Keep.snd (by assumption) ?_)
      | split
      | dsimp only
  repeat' first
    | with_reducible assumption
    | with_reducible exact Keep.refl _ _
    | intro _
    | (fail_if_no_progress beta_reduce)
    | (with_reducible apply KeepR.next)
    | (with_reducible apply Keep.ite)
    | (with_reducible apply KeepR.ite)
    | (with_reducible apply Keep.ite_fst)
    | (with_reducible apply Keep.snoc (State.begin_keep _ _))
    | (with_reducible apply Keep.snoc (State.diagBoth_keep _ _ _ _))
    | (with_reducible apply Keep.snoc' (Keep.foldl ?_ _ _))
    | (with_reducible apply And.intro)
    | exact rfl
    | (refine Keep.fst (by assumption) ?_)
    | (refine Keep.snd (by assumption) ?_)
    | split
    | dsimp only

theorem State.gfeAdopt_keep : ∀ a0 a1 a2 s, Keep 768 s (State.gfeAdopt a0 a1 a2 s) := by
  intro a0 a1 a2 s
  unfold State.gfeAdopt
  extract_lets v0 v1
  try clear_value v0
  have h1 : Keep 768 s v1 := by
    unfold v1
    repeat' first
      | with_reducible assumption
      | with_reducible exact Keep.refl _ _
      | intro _
      | (fail_if_no_progress beta_reduce)
      | (with_reducible apply KeepR.next)
      | (with_reducible apply Keep.ite)
      | (with_reducible apply KeepR.ite)
      | (with_reducible apply Keep.ite_fst)
      | (with_reducible apply Keep.snoc (State.updCell_keep _ _ _))
      | (with_reducible apply Keep.snoc (State.updGfe_keep _ _ _))
      | (with_reducible apply Keep.snoc' (Keep.forAll ?_ _))
      | (with_reducible apply Keep.snoc' (Keep.foldl ?_ _ _))
      | (with_reducible apply And.intro)
      | exact rfl
      | (refine Keep.fst (by assumption) ?_)
      | (refine Keep.snd (by assumption) ?_)
      | split
      | dsimp only
  repeat' first
    | with_reducible assumption
    | with_reducible exact Keep.refl _ _
    | intro _
    | (fail_if_no_progress beta_reduce)
    | (with_reducible apply KeepR.next)
    | (with_reducible apply Keep.ite)
    | (with_reducible apply KeepR.ite)
    | (with_reducible apply Keep.ite_fst)
    | (with_reducible apply Keep.snoc (State.updCell_keep _ _ _))
    | (with_reducible apply Keep.snoc (State.updGfe_keep _ _ _))
    | (with_reducible apply Keep.snoc' (Keep.forAll ?_ _))
    | (with_reducible apply Keep.snoc' (Keep.foldl ?_ _ _))
    | (with_reducible apply And.intro)
    | exact rfl
    | (refine Keep.fst (by assumption) ?_)
    | (refine Keep.snd (by assumption) ?_)
    | split
    | dsimp only

theorem State.groupTake_keep : ∀ a0 a1 s, Keep 768 s (State.groupTake a0 a1 s) := by
  intro a0 a1 s
  unfold State.groupTake
  extract_lets v0 v1 v2 v3
  try clear_value v2
  try clear_value v1
  try clear_value v0
  have h3 : ∀ q0, Keep 768 s (v3 q0) := by
    intro q0
    unfold v3
    repeat' first
      | with_reducible assumption
      | with_reducible exact Keep.refl _ _
      | intro _
      | (fail_if_no_progress beta_reduce)
      | (with_reducible apply KeepR.next)
      | (with_reducible apply Keep.ite)
      | (with_reducible apply KeepR.ite)
      | (with_reducible apply Keep.ite_fst)
      | (with_reducible apply Keep.snoc (State.gfeAdopt_keep _ _ _ _))
      | (with_reducible apply Keep.snoc (State.updCell_keep _ _ _))
      | (with_reducible apply Keep.snoc (State.updGfe_keep _ _ _))
      | (with_reducible apply Keep.snoc' (Keep.forAll ?_ _))
      | (with_reducible apply h3)
      | (with_reducible apply Keep.snoc' (Keep.foldl ?_ _ _))
      | (with_reducible apply And.intro)
      | exact rfl
      | (refine Keep.fst (by assumption) ?_)
      | (refine Keep.snd (by assumption) ?_)
      | split
      | dsimp only
  repeat' first
    | with_reducible assumption
    | with_reducible exact Keep.refl _ _
    | intro _
    | (fail_if_no_progress beta_reduce)
    | (with_reducible apply KeepR.next)
    | (with_reducible apply Keep.ite)
    | (with_reducible apply KeepR.ite)
    | (with_reducible apply Keep.ite_fst)
    | (with_reducible apply Keep.snoc (State.gfeAdopt_keep _ _ _ _))
    | (with_reducible apply Keep.snoc (State.updCell_keep _ _ _))
    | (with_reducible apply Keep.snoc (State.updGfe_keep _ _ _))
    | (with_reducible apply Keep.snoc' (Keep.forAll ?_ _))
    | (with_reducible apply h3)
    | (with_reducible apply Keep.snoc' (Keep.foldl ?_ _ _))
    | (with_reducible apply And.intro)
    | exact rfl
    | (refine Keep.fst (by assumption) ?_)
    | (refine Keep.snd (by assumption) ?_)
    | split
    | dsimp only

theorem execGroupOutputFrame_keep : ∀ a0 a1 a2 s, KeepR 768 s (execGroupOutputFrame a0 a1 a2 s) := by
  intro a0 a1 a2 s
  unfold execGroupOutputFrame
  extract_lets v0 v1
  try clear_value v1
  have h0 : Keep 768 s v0 := by
    unfold v0
    repeat' first
      | with_reducible assumption
      | with_reducible exact Keep.refl _ _
      | intro _
      | (fail_if_no_progress beta_reduce)
      | (with_reducible apply KeepR.next)
      | (with_reducible apply Keep.ite)
      | (with_reducible apply KeepR.ite)
      | (with_reducible apply Keep.ite_fst)
      | (with_reducible apply Keep.snoc (State.begin_keep _ _))
      | (with_reducible apply Keep.snoc (State.groupTake_keep _ _ _))
      | (with_reducible apply Keep.snoc' (Keep.foldl ?_ _ _))
      | (with_reducible apply And.intro)
      | exact rfl
      | (refine Keep.fst (by assumption) ?_)
      | (refine Keep.snd (by assumption) ?_)
      | split
      | dsimp only
  repeat' first
    | with_reducible assumption
    | with_reducible exact Keep.refl _ _
    | intro _
    | (fail_if_no_progress beta_reduce)
    | (with_reducible apply KeepR.next)
    | (with_reducible apply Keep.ite)
    | (with_reducible apply KeepR.ite)
    | (with_reducible apply Keep.ite_fst)
    | (with_reducible apply Keep.snoc (State.begin_keep _ _))
    | (with_reducible apply Keep.snoc (State.groupTake_keep _ _ _))
    | (with_reducible apply Keep.snoc' (Keep.foldl ?_ _ _))
    | (with_reducible apply And.intro)
    | exact rfl
    | (refine Keep.fst (by assumption) ?_)
    | (refine Keep.snd (by assumption) ?_)
    | split
    | dsimp only

theorem execGroupSilentEntry_keep : ∀ a0 a1 s, KeepR 768 s (execGroupSilentEntry a0 a1 s) := by
  intro a0 a1 s
  unfold execGroupSilentEntry
  extract_lets v0 v1 v2
  try clear_value v1
  have h0 : Keep 768 s v0 := by
    unfold v0
    repeat' first
      | with_reducible assumption
      | with_reducible exact Keep.refl _ _
      | intro _
      | (fail_if_no_progress beta_reduce)
      | (with_reducible apply KeepR.next)
      | (with_reducible apply Keep.ite)
      | (with_reducible apply KeepR.ite)
      | (with_reducible apply Keep.ite_fst)
      | (with_reducible apply Keep.snoc (State.begin_keep _ _))
      | (with_reducible apply Keep.snoc (State.updCell_keep _ _ _))
      | (with_reducible apply Keep.snoc (State.updGfe_keep _ _ _))
      | (with_reducible apply Keep.snoc' (Keep.forAll ?_ _))
      | (with_reducible apply Keep.snoc' (Keep.foldl ?_ _ _))
      | (with_reducible apply And.intro)
      | exact rfl
      | (refine Keep.fst (by assumption) ?_)
      | (refine Keep.snd (by assumption) ?_)
      | split
      | dsimp only
  have h2 : Keep 768 s v2 := by
    unfold v2
    repeat' first
      | with_reducible assumption
      | with_reducible exact Keep.refl _ _
      | intro _
      | (fail_if_no_progress beta_reduce)
      | (with_reducible apply KeepR.next)
      | (with_reducible apply Keep.ite)
      | (with_reducible apply KeepR.ite)
      | (with_reducible apply Keep.ite_fst)
      | (with_reducible apply Keep.snoc (State.begin_keep _ _))
      | (with_reducible apply Keep.snoc (State.updCell_keep _ _ _))
      | (with_reducible apply Keep.snoc (State.updGfe_keep _ _ _))
      | (with_reducible apply Keep.snoc' (Keep.forAll ?_ _))
      | (with_reducible apply Keep.snoc' (Keep.foldl ?_ _ _))
      | (with_reducible apply And.intro)
      | exact rfl
      | (refine Keep.fst (by assumption) ?_)
      | (refine Keep.snd (by assumption) ?_)
      | split
      | dsimp only
  repeat' first
    | with_reducible assumption
    | with_reducible exact Keep.refl _ _
    | intro _
    | (fail_if_no_progress beta_reduce)
    | (with_reducible apply KeepR.next)
    | (with_reducible apply Keep.ite)
    | (with_reducible apply KeepR.ite)
    | (with_reducible apply Keep.ite_fst)
    | (with_reducible apply Keep.snoc (State.begin_keep _ _))
    | (with_reducible apply Keep.snoc (State.updCell_keep _ _ _))
    | (with_reducible apply Keep.snoc (State.updGfe_keep _ _ _))
    | (with_reducible apply Keep.snoc' (Keep.forAll ?_ _))
    | (with_reducible apply Keep.snoc' (Keep.foldl ?_ _ _))
    | (with_reducible apply And.intro)
    | exact rfl
    | (refine Keep.fst (by assumption) ?_)
    | (refine Keep.snd (by assumption) ?_)
    | split
    | dsimp only

theorem execGroupSdoReadbackCheck_keep : ∀ a0 a1 s, KeepR 512 s (execGroupSdoReadbackCheck a0 a1 s) := by
  intro a0 a1 s
  unfold execGroupSdoReadbackCheck
  extract_lets v0 v1
  try clear_value v1
  have h0 : Keep 512 s v0 := by
    unfold v0
    repeat' first
      | with_reducible assumption
      | with_reducible exact Keep.refl _ _
      | intro _
      | (fail_if_no_progress beta_reduce)
      | (with_reducible apply KeepR.next)
      | (with_reducible apply Keep.ite)
      | (with_reducible apply KeepR.ite)
      | (with_reducible apply Keep.ite_fst)
      | (with_reducible apply Keep.snoc (State.begin_keep _ _))
      | (with_reducible apply Keep.snoc (State.updGfe_keep _ _ _))
      | (with_reducible apply Keep.snoc' (Keep.foldl ?_ _ _))
      | (with_reducible apply And.intro)
      | exact rfl
      | (refine Keep.fst (by assumption) ?_)
      | (refine Keep.snd (by assumption) ?_)
      | split
      | dsimp only
  repeat' first
    | with_reducible assumption
    | with_reducible exact Keep.refl _ _
    | intro _
    | (fail_if_no_progress beta_reduce)
    | (with_reducible apply KeepR.next)
    | (with_reducible apply Keep.ite)
    | (with_reducible apply KeepR.ite)
    | (with_reducible apply Keep.ite_fst)
    | (with_reducible apply Keep.snoc (State.begin_keep _ _))
    | (with_reducible apply Keep.snoc (State.updGfe_keep _ _ _))
    | (with_reducible apply Keep.snoc' (Keep.foldl ?_ _ _))
    | (with_reducible apply And.intro)
    | exact rfl
    | (refine Keep.fst (by assumption) ?_)
    | (refine Keep.snd (by assumption) ?_)
    | split
    | dsimp only

theorem State.setSupply_keep : ∀ a0 a1 s, Keep 768 s (State.setSupply a0 a1 s) := by
  intro a0 a1 s
  unfold State.setSupply
  extract_lets v0
  have h0 : Keep 768 s v0 := by
    unfold v0
    repeat' first
      | with_reducible assumption
      | with_reducible exact Keep.refl _ _
      | intro _
      | (fail_if_no_progress beta_reduce)
      | (with_reducible apply KeepR.next)
      | (with_reducible apply Keep.ite)
      | (with_reducible apply KeepR.ite)
      | (with_reducible apply Keep.ite_fst)
      | (with_reducible apply Keep.snoc (State.updCell_keep _ _ _))
      | (with_reducible apply Keep.snoc (State.updGfe_keep _ _ _))
      | (with_reducible apply Keep.snoc' (Keep.forAll ?_ _))
      | (with_reducible apply Keep.snoc' (Keep.foldl ?_ _ _))
      | (with_reducible apply And.intro)
      | exact rfl
      | (refine Keep.fst (by assumption) ?_)
      | (refine Keep.snd (by assumption) ?_)
      | split
      | dsimp only
  repeat' first
    | with_reducible assumption
    | with_reducible exact Keep.refl _ _
    | intro _
    | (fail_if_no_progress beta_reduce)
    | (with_reducible apply KeepR.next)
    | (with_reducible apply Keep.ite)
    | (with_reducible apply KeepR.ite)
    | (with_reducible apply Keep.ite_fst)
    | (with_reducible apply Keep.snoc (State.updCell_keep _ _ _))
    | (with_reducible apply Keep.snoc (State.updGfe_keep _ _ _))
    | (with_reducible apply Keep.snoc' (Keep.forAll ?_ _))
    | (with_reducible apply Keep.snoc' (Keep.foldl ?_ _ _))
    | (with_reducible apply And.intro)
    | exact rfl
    | (refine Keep.fst (by assumption) ?_)
    | (refine Keep.snd (by assumption) ?_)
    | split
    | dsimp only

theorem execLplusLow_keep : ∀ a0 a1 s, KeepR 768 s (execLplusLow a0 a1 s) := by
  intro a0 a1 s
  unfold execLplusLow
  extract_lets v0 v1
  try clear_value v1
  have h0 : Keep 768 s v0 := by
    unfold v0
    repeat' first
      | with_reducible assumption
      | with_reducible exact Keep.refl _ _
      | intro _
      | (fail_if_no_progress beta_reduce)
      | (with_reducible apply KeepR.next)
      | (with_reducible apply Keep.ite)
      | (with_reducible apply KeepR.ite)
      | (with_reducible apply Keep.ite_fst)
      | (with_reducible apply Keep.snoc (State.begin_keep _ _))
      | (with_reducible apply Keep.snoc (State.setSupply_keep _ _ _))
      | (with_reducible apply Keep.snoc' (Keep.foldl ?_ _ _))
      | (with_reducible apply And.intro)
      | exact rfl
      | (refine Keep.fst (by assumption) ?_)
      | (refine Keep.snd (by assumption) ?_)
      | split
      | dsimp only
  repeat' first
    | with_reducible assumption
    | with_reducible exact Keep.refl _ _
    | intro _
    | (fail_if_no_progress beta_reduce)
    | (with_reducible apply KeepR.next)
    | (with_reducible apply Keep.ite)
    | (with_reducible apply KeepR.ite)
    | (with_reducible apply Keep.ite_fst)
    | (with_reducible apply Keep.snoc (State.begin_keep _ _))
    | (with_reducible apply Keep.snoc (State.setSupply_keep _ _ _))
    | (with_reducible apply Keep.snoc' (Keep.foldl ?_ _ _))
    | (with_reducible apply And.intro)
    | exact rfl
    | (refine Keep.fst (by assumption) ?_)
    | (refine Keep.snd (by assumption) ?_)
    | split
    | dsimp only

theorem execLplusOff_keep : ∀ a0 a1 s, KeepR 768 s (execLplusOff a0 a1 s) := by
  intro a0 a1 s
  unfold execLplusOff
  extract_lets v0 v1 v2
  try clear_value v1
  have h0 : Keep 768 s v0 := by
    unfold v0
    repeat' first
      | with_reducible assumption
      | with_reducible exact Keep.refl _ _
      | intro _
      | (fail_if_no_progress beta_reduce)
      | (with_reducible apply KeepR.next)
      | (with_reducible apply Keep.ite)
      | (with_reducible apply KeepR.ite)
      | (with_reducible apply Keep.ite_fst)
      | (with_reducible apply Keep.snoc (State.begin_keep _ _))
      | (with_reducible apply Keep.snoc (State.setSupply_keep _ _ _))
      | (with_reducible apply Keep.snoc (State.updCell_keep _ _ _))
      | (with_reducible apply Keep.snoc' (Keep.forAll ?_ _))
      | (with_reducible apply Keep.snoc' (Keep.foldl ?_ _ _))
      | (with_reducible apply And.intro)
      | exact rfl
      | (refine Keep.fst (by assumption) ?_)
      | (refine Keep.snd (by assumption) ?_)
      | split
      | dsimp only
  have h2 : Keep 768 s v2 := by
    unfold v2
    repeat' first
      | with_reducible assumption
      | with_reducible exact Keep.refl _ _
      | intro _
      | (fail_if_no_progress beta_reduce)
      | (with_reducible apply KeepR.next)
      | (with_reducible apply Keep.ite)
      | (with_reducible apply KeepR.ite)
      | (with_reducible apply Keep.ite_fst)
      | (with_reducible apply Keep.snoc (State.begin_keep _ _))
      | (with_reducible apply Keep.snoc (State.setSupply_keep _ _ _))
      | (with_reducible apply Keep.snoc (State.updCell_keep _ _ _))
      | (with_reducible apply Keep.snoc' (Keep.forAll ?_ _))
      | (with_reducible apply Keep.snoc' (Keep.foldl ?_ _ _))
      | (with_reducible apply And.intro)
      | exact rfl
      | (refine Keep.fst (by assumption) ?_)
      | (refine Keep.snd (by assumption) ?_)
      | split
      | dsimp only
  repeat' first
    | with_reducible assumption
    | with_reducible exact Keep.refl _ _
    | intro _
    | (fail_if_no_progress beta_reduce)
    | (with_reducible apply KeepR.next)
    | (with_reducible apply Keep.ite)
    | (with_reducible apply KeepR.ite)
    | (with_reducible apply Keep.ite_fst)
    | (with_reducible apply Keep.snoc (State.begin_keep _ _))
    | (with_reducible apply Keep.snoc (State.setSupply_keep _ _ _))
    | (with_reducible apply Keep.snoc (State.updCell_keep _ _ _))
    | (with_reducible apply Keep.snoc' (Keep.forAll ?_ _))
    | (with_reducible apply Keep.snoc' (Keep.foldl ?_ _ _))
    | (with_reducible apply And.intro)
    | exact rfl
    | (refine Keep.fst (by assumption) ?_)
    | (refine Keep.snd (by assumption) ?_)
    | split
    | dsimp only

theorem execLplusHigh_keep : ∀ a0 a1 s, KeepR 768 s (execLplusHigh a0 a1 s) := by
  intro a0 a1 s
  unfold execLplusHigh
  extract_lets v0 v1
  try clear_value v1
  have h0 : Keep 768 s v0 := by
    unfold v0
    repeat' first
      | with_reducible assumption
      | with_reducible exact Keep.refl _ _
      | intro _
      | (fail_if_no_progress beta_reduce)
      | (with_reducible apply KeepR.next)
      | (with_reducible apply Keep.ite)
      | (with_reducible apply KeepR.ite)
      | (with_reducible apply Keep.ite_fst)
      | (with_reducible apply Keep.snoc (State.begin_keep _ _))
      | (with_reducible apply Keep.snoc (State.setSupply_keep _ _ _))
      | (with_reducible apply Keep.snoc' (Keep.foldl ?_ _ _))
      | (with_reducible apply And.intro)
      | exact rfl
      | (refine Keep.fst (by assumption) ?_)
      | (refine Keep.snd (by assumption) ?_)
      | split
      | dsimp only
  repeat' first
    | with_reducible assumption
    | with_reducible exact Keep.refl _ _
    | intro _
    | (fail_if_no_progress beta_reduce)
    | (with_reducible apply KeepR.next)
    | (with_reducible apply Keep.ite)
    | (with_reducible apply KeepR.ite)
    | (with_reducible apply Keep.ite_fst)
    | (with_reducible apply Keep.snoc (State.begin_keep _ _))
    | (with_reducible apply Keep.snoc (State.setSupply_keep _ _ _))
    | (with_reducible apply Keep.snoc' (Keep.foldl ?_ _ _))
    | (with_reducible apply And.intro)
    | exact rfl
    | (refine Keep.fst (by assumption) ?_)
    | (refine Keep.snd (by assumption) ?_)
    | split
    | dsimp only

theorem execLplusRecover_keep : ∀ a0 a1 s, KeepR 768 s (execLplusRecover a0 a1 s) := by
  intro a0 a1 s
  unfold execLplusRecover
  extract_lets v0 v1 v2
  try clear_value v1
  have h0 : Keep 768 s v0 := by
    unfold v0
    repeat' first
      | with_reducible assumption
      | with_reducible exact Keep.refl _ _
      | intro _
      | (fail_if_no_progress beta_reduce)
      | (with_reducible apply KeepR.next)
      | (with_reducible apply Keep.ite)
      | (with_reducible apply KeepR.ite)
      | (with_reducible apply Keep.ite_fst)
      | (with_reducible apply Keep.snoc (State.begin_keep _ _))
      | (with_reducible apply Keep.snoc (State.setSupply_keep _ _ _))
      | (with_reducible apply Keep.snoc (State.updCell_keep _ _ _))
      | (with_reducible apply Keep.snoc' (Keep.forAll ?_ _))
      | (with_reducible apply Keep.snoc' (Keep.foldl ?_ _ _))
      | (with_reducible apply And.intro)
      | exact rfl
      | (refine Keep.fst (by assumption) ?_)
      | (refine Keep.snd (by assumption) ?_)
      | split
      | dsimp only
  have h2 : Keep 768 s v2 := by
    unfold v2
    repeat' first
      | with_reducible assumption
      | with_reducible exact Keep.refl _ _
      | intro _
      | (fail_if_no_progress beta_reduce)
      | (with_reducible apply KeepR.next)
      | (with_reducible apply Keep.ite)
      | (with_reducible apply KeepR.ite)
      | (with_reducible apply Keep.ite_fst)
      | (with_reducible apply Keep.snoc (State.begin_keep _ _))
      | (with_reducible apply Keep.snoc (State.setSupply_keep _ _ _))
      | (with_reducible apply Keep.snoc (State.updCell_keep _ _ _))
      | (with_reducible apply Keep.snoc' (Keep.forAll ?_ _))
      | (with_reducible apply Keep.snoc' (Keep.foldl ?_ _ _))
      | (with_reducible apply And.intro)
      | exact rfl
      | (refine Keep.fst (by assumption) ?_)
      | (refine Keep.snd (by assumption) ?_)
      | split
      | dsimp only
  repeat' first
    | with_reducible assumption
    | with_reducible exact Keep.refl _ _
    | intro _
    | (fail_if_no_progress beta_reduce)
    | (with_reducible apply KeepR.next)
    | (with_reducible apply Keep.ite)
    | (with_reducible apply KeepR.ite)
    | (with_reducible apply Keep.ite_fst)
    | (with_reducible apply Keep.snoc (State.begin_keep _ _))
    | (with_reducible apply Keep.snoc (State.setSupply_keep _ _ _))
    | (with_reducible apply Keep.snoc (State.updCell_keep _ _ _))
    | (with_reducible apply Keep.snoc' (Keep.forAll ?_ _))
    | (with_reducible apply Keep.snoc' (Keep.foldl ?_ _ _))
    | (with_reducible apply And.intro)
    | exact rfl
    | (refine Keep.fst (by assumption) ?_)
    | (refine Keep.snd (by assumption) ?_)
    | split
    | dsimp only

theorem execGroupConfigurationLost_keep : ∀ a0 a1 s, KeepR 768 s (execGroupConfigurationLost a0 a1 s) := by
  intro a0 a1 s
  unfold execGroupConfigurationLost
  extract_lets v0 v1
  have h0 : Keep 768 s v0 := by
    unfold v0
    repeat' first
      | with_reducible assumption
      | with_reducible exact Keep.refl _ _
      | intro _
      | (fail_if_no_progress beta_reduce)
      | (with_reducible apply KeepR.next)
      | (with_reducible apply Keep.ite)
      | (with_reducible apply KeepR.ite)
      | (with_reducible apply Keep.ite_fst)
      | (with_reducible apply Keep.snoc (State.begin_keep _ _))
      | (with_reducible apply Keep.snoc (State.updCell_keep _ _ _))
      | (with_reducible apply Keep.snoc (State.updGfe_keep _ _ _))
      | (with_reducible apply Keep.snoc' (Keep.forAll ?_ _))
      | (with_reducible apply Keep.snoc' (Keep.foldl ?_ _ _))
      | (with_reducible apply And.intro)
      | exact rfl
      | (refine Keep.fst (by assumption) ?_)
      | (refine Keep.snd (by assumption) ?_)
      | split
      | dsimp only
  have h1 : Keep 768 s v1 := by
    unfold v1
    repeat' first
      | with_reducible assumption
      | with_reducible exact Keep.refl _ _
      | intro _
      | (fail_if_no_progress beta_reduce)
      | (with_reducible apply KeepR.next)
      | (with_reducible apply Keep.ite)
      | (with_reducible apply KeepR.ite)
      | (with_reducible apply Keep.ite_fst)
      | (with_reducible apply Keep.snoc (State.begin_keep _ _))
      | (with_reducible apply Keep.snoc (State.updCell_keep _ _ _))
      | (with_reducible apply Keep.snoc (State.updGfe_keep _ _ _))
      | (with_reducible apply Keep.snoc' (Keep.forAll ?_ _))
      | (with_reducible apply Keep.snoc' (Keep.foldl ?_ _ _))
      | (with_reducible apply And.intro)
      | exact rfl
      | (refine Keep.fst (by assumption) ?_)
      | (refine Keep.snd (by assumption) ?_)
      | split
      | dsimp only
  repeat' first
    | with_reducible assumption
    | with_reducible exact Keep.refl _ _
    | intro _
    | (fail_if_no_progress beta_reduce)
    | (with_reducible apply KeepR.next)
    | (with_reducible apply Keep.ite)
    | (with_reducible apply KeepR.ite)
    | (with_reducible apply Keep.ite_fst)
    | (with_reducible apply Keep.snoc (State.begin_keep _ _))
    | (with_reducible apply Keep.snoc (State.updCell_keep _ _ _))
    | (with_reducible apply Keep.snoc (State.updGfe_keep _ _ _))
    | (with_reducible apply Keep.snoc' (Keep.forAll ?_ _))
    | (with_reducible apply Keep.snoc' (Keep.foldl ?_ _ _))
    | (with_reducible apply And.intro)
    | exact rfl
    | (refine Keep.fst (by assumption) ?_)
    | (refine Keep.snd (by assumption) ?_)
    | split
    | dsimp only

end Sys2Proof.Machine
end

