-- ==== Sys2Proof/Laws/KeepLaneHub.lean ====
section
/-! SUPPORT. What each operation and meaning of Machine/LaneHub.lean leaves alone. -/

namespace Sys2Proof.Machine

set_option linter.unusedTactic false
set_option linter.unreachableTactic false

theorem State.ownerWrite_keep : ∀ a0 a1 a2 a3 a4 s, Keep 536871952 s (State.ownerWrite a0 a1 a2 a3 a4 s) := by
  intro a0 a1 a2 a3 a4 s
  unfold State.ownerWrite
  repeat' first
    | with_reducible assumption
    | with_reducible exact Keep.refl _ _
    | intro _
    | (fail_if_no_progress beta_reduce)
    | (with_reducible apply KeepR.next)
    | (with_reducible apply Keep.ite)
    | (with_reducible apply KeepR.ite)
    | (with_reducible apply Keep.ite_fst)
    | (with_reducible apply Keep.snoc (State.putDiag_keep _ _ _ _))
    | (with_reducible apply Keep.snoc (State.updChan_keep _ _ _))
    | (with_reducible apply Keep.snoc' (Keep.foldl ?_ _ _))
    | (with_reducible apply And.intro)
    | exact rfl
    | (refine Keep.fst (by assumption) ?_)
    | (refine Keep.snd (by assumption) ?_)
    | split
    | dsimp only

theorem State.ownerWriteAt_keep : ∀ a0 a1 a2 a3 a4 a5 s, Keep 536871952 s (State.ownerWriteAt a0 a1 a2 a3 a4 a5 s) := by
  intro a0 a1 a2 a3 a4 a5 s
  unfold State.ownerWriteAt
  repeat' first
    | with_reducible assumption
    | with_reducible exact Keep.refl _ _
    | intro _
    | (fail_if_no_progress beta_reduce)
    | (with_reducible apply KeepR.next)
    | (with_reducible apply Keep.ite)
    | (with_reducible apply KeepR.ite)
    | (with_reducible apply Keep.ite_fst)
    | (with_reducible apply Keep.snoc (State.ownerWrite_keep _ _ _ _ _ _))
    | (with_reducible apply Keep.snoc (State.updChan_keep _ _ _))
    | (with_reducible apply Keep.snoc' (Keep.foldl ?_ _ _))
    | (with_reducible apply And.intro)
    | exact rfl
    | (refine Keep.fst (by assumption) ?_)
    | (refine Keep.snd (by assumption) ?_)
    | split
    | dsimp only

theorem State.takeLate_keep : ∀ a0 s, Keep 536871952 s (State.takeLate a0 s) := by
  intro a0 s
  unfold State.takeLate
  extract_lets v0 v1 v2
  try clear_value v1
  try clear_value v0
  have h2 : Keep 536871952 s v2 := by
    unfold v2
    repeat' first
      | with_reducible assumption
      | with_reducible exact Keep.refl _ _
      | intro _
      | (fail_if_no_progress beta_reduce)
      | (with_reducible apply KeepR.next)
      | (with_reducible apply Keep.ite)
      | (with_reducible apply KeepR.ite)
      | (with_reducible apply Keep.ite_fst)
      | (with_reducible apply Keep.snoc (State.ownerWrite_keep _ _ _ _ _ _))
      | (with_reducible apply Keep.snoc (State.updChan_keep _ _ _))
      | (with_reducible apply Keep.snoc' (Keep.foldl ?_ _ _))
      | (with_reducible apply And.intro)
      | exact rfl
      | (refine Keep.fst (by assumption) ?_)
      | (refine Keep.snd (by assumption) ?_)
      | split
      | dsimp only
  repeat' first
    | with_reducible assumption
    | with_reducible exact Keep.refl _ _
    | intro _
    | (fail_if_no_progress beta_reduce)
    | (with_reducible apply KeepR.next)
    | (with_reducible apply Keep.ite)
    | (with_reducible apply KeepR.ite)
    | (with_reducible apply Keep.ite_fst)
    | (with_reducible apply Keep.snoc (State.ownerWrite_keep _ _ _ _ _ _))
    | (with_reducible apply Keep.snoc (State.updChan_keep _ _ _))
    | (with_reducible apply Keep.snoc' (Keep.foldl ?_ _ _))
    | (with_reducible apply And.intro)
    | exact rfl
    | (refine Keep.fst (by assumption) ?_)
    | (refine Keep.snd (by assumption) ?_)
    | split
    | dsimp only

theorem State.pulseWrite_keep : ∀ a0 a1 a2 a3 s, Keep 536871952 s (State.pulseWrite a0 a1 a2 a3 s) := by
  intro a0 a1 a2 a3 s
  unfold State.pulseWrite
  repeat' first
    | with_reducible assumption
    | with_reducible exact Keep.refl _ _
    | intro _
    | (fail_if_no_progress beta_reduce)
    | (with_reducible apply KeepR.next)
    | (with_reducible apply Keep.ite)
    | (with_reducible apply KeepR.ite)
    | (with_reducible apply Keep.ite_fst)
    | (with_reducible apply Keep.snoc (State.putDiag_keep _ _ _ _))
    | (with_reducible apply Keep.snoc (State.updChan_keep _ _ _))
    | (with_reducible apply Keep.snoc' (Keep.foldl ?_ _ _))
    | (with_reducible apply And.intro)
    | exact rfl
    | (refine Keep.fst (by assumption) ?_)
    | (refine Keep.snd (by assumption) ?_)
    | split
    | dsimp only

theorem State.built_keep : ∀ a0 a1 s, Keep 536876048 s (State.built a0 a1 s) := by
  intro a0 a1 s
  unfold State.built
  extract_lets v0 v1 v2 v3 v4 v5 v6 v7 v8 v9 v10 v11
  try clear_value v9
  try clear_value v8
  try clear_value v7
  try clear_value v6
  try clear_value v5
  try clear_value v4
  try clear_value v3
  try clear_value v2
  try clear_value v1
  try clear_value v0
  have h10 : Keep 536876048 s v10 := by
    unfold v10
    repeat' first
      | with_reducible assumption
      | with_reducible exact Keep.refl _ _
      | intro _
      | (fail_if_no_progress beta_reduce)
      | (with_reducible apply KeepR.next)
      | (with_reducible apply Keep.ite)
      | (with_reducible apply KeepR.ite)
      | (with_reducible apply Keep.ite_fst)
      | (with_reducible apply Keep.snoc (State.putDiag_keep _ _ _ _))
      | (with_reducible apply Keep.snoc (State.updChan_keep _ _ _))
      | (with_reducible apply Keep.snoc (State.updHart_keep _ _ _))
      | (with_reducible apply Keep.snoc' (Keep.foldl ?_ _ _))
      | (with_reducible apply And.intro)
      | exact rfl
      | (refine Keep.fst (by assumption) ?_)
      | (refine Keep.snd (by assumption) ?_)
      | split
      | dsimp only
  have h11 : Keep 536876048 s v11 := by
    unfold v11
    repeat' first
      | with_reducible assumption
      | with_reducible exact Keep.refl _ _
      | intro _
      | (fail_if_no_progress beta_reduce)
      | (with_reducible apply KeepR.next)
      | (with_reducible apply Keep.ite)
      | (with_reducible apply KeepR.ite)
      | (with_reducible apply Keep.ite_fst)
      | (with_reducible apply Keep.snoc (State.putDiag_keep _ _ _ _))
      | (with_reducible apply Keep.snoc (State.updChan_keep _ _ _))
      | (with_reducible apply Keep.snoc (State.updHart_keep _ _ _))
      | (with_reducible apply Keep.snoc' (Keep.foldl ?_ _ _))
      | (with_reducible apply And.intro)
      | exact rfl
      | (refine Keep.fst (by assumption) ?_)
      | (refine Keep.snd (by assumption) ?_)
      | split
      | dsimp only
  repeat' first
    | with_reducible assumption
    | with_reducible exact Keep.refl _ _
    | intro _
    | (fail_if_no_progress beta_reduce)
    | (with_reducible apply KeepR.next)
    | (with_reducible apply Keep.ite)
    | (with_reducible apply KeepR.ite)
    | (with_reducible apply Keep.ite_fst)
    | (with_reducible apply Keep.snoc (State.putDiag_keep _ _ _ _))
    | (with_reducible apply Keep.snoc (State.updChan_keep _ _ _))
    | (with_reducible apply Keep.snoc (State.updHart_keep _ _ _))
    | (with_reducible apply Keep.snoc' (Keep.foldl ?_ _ _))
    | (with_reducible apply And.intro)
    | exact rfl
    | (refine Keep.fst (by assumption) ?_)
    | (refine Keep.snd (by assumption) ?_)
    | split
    | dsimp only

theorem State.sendChannel_keep : ∀ a0 a1 a2 s, Keep 536876048 s (State.sendChannel a0 a1 a2 s) := by
  intro a0 a1 a2 s
  unfold State.sendChannel
  extract_lets v0
  try clear_value v0
  repeat' first
    | with_reducible assumption
    | with_reducible exact Keep.refl _ _
    | intro _
    | (fail_if_no_progress beta_reduce)
    | (with_reducible apply KeepR.next)
    | (with_reducible apply Keep.ite)
    | (with_reducible apply KeepR.ite)
    | (with_reducible apply Keep.ite_fst)
    | (with_reducible apply Keep.snoc (State.built_keep _ _ _))
    | (with_reducible apply Keep.snoc (State.emit_keep _ _))
    | (with_reducible apply Keep.snoc (State.updChan_keep _ _ _))
    | (with_reducible apply Keep.snoc' (Keep.foldl ?_ _ _))
    | (with_reducible apply And.intro)
    | exact rfl
    | (refine Keep.fst (by assumption) ?_)
    | (refine Keep.snd (by assumption) ?_)
    | split
    | dsimp only

theorem State.sendGroup_keep : ∀ a0 a1 a2 s, Keep 2048 s (State.sendGroup a0 a1 a2 s) := by
  intro a0 a1 a2 s
  unfold State.sendGroup
  extract_lets v0
  try clear_value v0
  repeat' first
    | with_reducible assumption
    | with_reducible exact Keep.refl _ _
    | intro _
    | (fail_if_no_progress beta_reduce)
    | (with_reducible apply KeepR.next)
    | (with_reducible apply Keep.ite)
    | (with_reducible apply KeepR.ite)
    | (with_reducible apply Keep.ite_fst)
    | (with_reducible apply Keep.snoc (State.emit_keep _ _))
    | (with_reducible apply Keep.snoc (State.updGroup_keep _ _ _))
    | (with_reducible apply Keep.snoc' (Keep.foldl ?_ _ _))
    | (with_reducible apply And.intro)
    | exact rfl
    | (refine Keep.fst (by assumption) ?_)
    | (refine Keep.snd (by assumption) ?_)
    | split
    | dsimp only

theorem State.driveSaf_keep : ∀ a0 a1 a2 s, Keep 536871952 s (State.driveSaf a0 a1 a2 s) := by
  intro a0 a1 a2 s
  unfold State.driveSaf
  extract_lets v0
  have h0 : Keep 536871952 s v0 := by
    unfold v0
    repeat' first
      | with_reducible assumption
      | with_reducible exact Keep.refl _ _
      | intro _
      | (fail_if_no_progress beta_reduce)
      | (with_reducible apply KeepR.next)
      | (with_reducible apply Keep.ite)
      | (with_reducible apply KeepR.ite)
      | (with_reducible apply Keep.ite_fst)
      | (with_reducible apply Keep.snoc (State.ownerWrite_keep _ _ _ _ _ _))
      | (with_reducible apply Keep.snoc (State.updChan_keep _ _ _))
      | (with_reducible apply Keep.snoc' (Keep.foldl ?_ _ _))
      | (with_reducible apply And.intro)
      | exact rfl
      | (refine Keep.fst (by assumption) ?_)
      | (refine Keep.snd (by assumption) ?_)
      | split
      | dsimp only
  repeat' first
    | with_reducible assumption
    | with_reducible exact Keep.refl _ _
    | intro _
    | (fail_if_no_progress beta_reduce)
    | (with_reducible apply KeepR.next)
    | (with_reducible apply Keep.ite)
    | (with_reducible apply KeepR.ite)
    | (with_reducible apply Keep.ite_fst)
    | (with_reducible apply Keep.snoc (State.ownerWrite_keep _ _ _ _ _ _))
    | (with_reducible apply Keep.snoc (State.updChan_keep _ _ _))
    | (with_reducible apply Keep.snoc' (Keep.foldl ?_ _ _))
    | (with_reducible apply And.intro)
    | exact rfl
    | (refine Keep.fst (by assumption) ?_)
    | (refine Keep.snd (by assumption) ?_)
    | split
    | dsimp only

theorem State.applySaf_keep : ∀ a0 s, Keep 541068304 s (State.applySaf a0 s) := by
  intro a0 s
  unfold State.applySaf
  extract_lets v0 v1 v2
  have h0 : Keep 541068304 s v0 := by
    unfold v0
    repeat' first
      | with_reducible assumption
      | with_reducible exact Keep.refl _ _
      | intro _
      | (fail_if_no_progress beta_reduce)
      | (with_reducible apply KeepR.next)
      | (with_reducible apply Keep.ite)
      | (with_reducible apply KeepR.ite)
      | (with_reducible apply Keep.ite_fst)
      | (with_reducible apply Keep.snoc (State.driveSaf_keep _ _ _ _))
      | (with_reducible apply Keep.snoc (State.updFn_keep _ _ _))
      | (with_reducible apply Keep.snoc (State.updGroup_keep _ _ _))
      | (with_reducible apply Keep.snoc (State.updSaf_keep _ _))
      | (with_reducible apply Keep.snoc' (Keep.forAll ?_ _))
      | (with_reducible apply Keep.snoc' (Keep.foldl ?_ _ _))
      | (with_reducible apply And.intro)
      | exact rfl
      | (refine Keep.fst (by assumption) ?_)
      | (refine Keep.snd (by assumption) ?_)
      | split
      | dsimp only
  have h1 : Keep 541068304 s v1 := by
    unfold v1
    repeat' first
      | with_reducible assumption
      | with_reducible exact Keep.refl _ _
      | intro _
      | (fail_if_no_progress beta_reduce)
      | (with_reducible apply KeepR.next)
      | (with_reducible apply Keep.ite)
      | (with_reducible apply KeepR.ite)
      | (with_reducible apply Keep.ite_fst)
      | (with_reducible apply Keep.snoc (State.driveSaf_keep _ _ _ _))
      | (with_reducible apply Keep.snoc (State.updFn_keep _ _ _))
      | (with_reducible apply Keep.snoc (State.updGroup_keep _ _ _))
      | (with_reducible apply Keep.snoc (State.updSaf_keep _ _))
      | (with_reducible apply Keep.snoc' (Keep.forAll ?_ _))
      | (with_reducible apply Keep.snoc' (Keep.foldl ?_ _ _))
      | (with_reducible apply And.intro)
      | exact rfl
      | (refine Keep.fst (by assumption) ?_)
      | (refine Keep.snd (by assumption) ?_)
      | split
      | dsimp only
  have h2 : Keep 541068304 s v2 := by
    unfold v2
    repeat' first
      | with_reducible assumption
      | with_reducible exact Keep.refl _ _
      | intro _
      | (fail_if_no_progress beta_reduce)
      | (with_reducible apply KeepR.next)
      | (with_reducible apply Keep.ite)
      | (with_reducible apply KeepR.ite)
      | (with_reducible apply Keep.ite_fst)
      | (with_reducible apply Keep.snoc (State.driveSaf_keep _ _ _ _))
      | (with_reducible apply Keep.snoc (State.updFn_keep _ _ _))
      | (with_reducible apply Keep.snoc (State.updGroup_keep _ _ _))
      | (with_reducible apply Keep.snoc (State.updSaf_keep _ _))
      | (with_reducible apply Keep.snoc' (Keep.forAll ?_ _))
      | (with_reducible apply Keep.snoc' (Keep.foldl ?_ _ _))
      | (with_reducible apply And.intro)
      | exact rfl
      | (refine Keep.fst (by assumption) ?_)
      | (refine Keep.snd (by assumption) ?_)
      | split
      | dsimp only
  repeat' first
    | with_reducible assumption
    | with_reducible exact Keep.refl _ _
    | intro _
    | (fail_if_no_progress beta_reduce)
    | (with_reducible apply KeepR.next)
    | (with_reducible apply Keep.ite)
    | (with_reducible apply KeepR.ite)
    | (with_reducible apply Keep.ite_fst)
    | (with_reducible apply Keep.snoc (State.driveSaf_keep _ _ _ _))
    | (with_reducible apply Keep.snoc (State.updFn_keep _ _ _))
    | (with_reducible apply Keep.snoc (State.updGroup_keep _ _ _))
    | (with_reducible apply Keep.snoc (State.updSaf_keep _ _))
    | (with_reducible apply Keep.snoc' (Keep.forAll ?_ _))
    | (with_reducible apply Keep.snoc' (Keep.foldl ?_ _ _))
    | (with_reducible apply And.intro)
    | exact rfl
    | (refine Keep.fst (by assumption) ?_)
    | (refine Keep.snd (by assumption) ?_)
    | split
    | dsimp only

theorem State.releaseSaf_keep : ∀ s, Keep 541068304 s (State.releaseSaf s) := by
  intro s
  unfold State.releaseSaf
  repeat' first
    | with_reducible assumption
    | with_reducible exact Keep.refl _ _
    | intro _
    | (fail_if_no_progress beta_reduce)
    | (with_reducible apply KeepR.next)
    | (with_reducible apply Keep.ite)
    | (with_reducible apply KeepR.ite)
    | (with_reducible apply Keep.ite_fst)
    | (with_reducible apply Keep.snoc (State.applySaf_keep _ _))
    | (with_reducible apply Keep.snoc' (Keep.foldl ?_ _ _))
    | (with_reducible apply And.intro)
    | exact rfl
    | (refine Keep.fst (by assumption) ?_)
    | (refine Keep.snd (by assumption) ?_)
    | split
    | dsimp only

theorem State.cutOff_keep : ∀ s, Keep 541072404 s (State.cutOff s) := by
  intro s
  unfold State.cutOff
  extract_lets v0 v1 v2 v3 v4 v5
  try clear_value v2
  have h0 : Keep 541072404 s v0 := by
    unfold v0
    repeat' first
      | with_reducible assumption
      | with_reducible exact Keep.refl _ _
      | intro _
      | (fail_if_no_progress beta_reduce)
      | (with_reducible apply KeepR.next)
      | (with_reducible apply Keep.ite)
      | (with_reducible apply KeepR.ite)
      | (with_reducible apply Keep.ite_fst)
      | (with_reducible apply Keep.snoc (State.releaseSaf_keep _))
      | (with_reducible apply Keep.snoc (State.sendChannel_keep _ _ _ _))
      | (with_reducible apply Keep.snoc (State.sendGroup_keep _ _ _ _))
      | (with_reducible apply Keep.snoc (State.takeLate_keep _ _))
      | (with_reducible apply Keep.snoc (State.updChan_keep _ _ _))
      | (with_reducible apply Keep.snoc (State.updGroup_keep _ _ _))
      | (with_reducible apply Keep.snoc' (Keep.forAll ?_ _))
      | (with_reducible apply Keep.snoc' (Keep.foldl ?_ _ _))
      | (with_reducible apply And.intro)
      | exact rfl
      | (refine Keep.fst (by assumption) ?_)
      | (refine Keep.snd (by assumption) ?_)
      | split
      | dsimp only
  have h1 : Keep 541072404 s v1 := by
    unfold v1
    repeat' first
      | with_reducible assumption
      | with_reducible exact Keep.refl _ _
      | intro _
      | (fail_if_no_progress beta_reduce)
      | (with_reducible apply KeepR.next)
      | (with_reducible apply Keep.ite)
      | (with_reducible apply KeepR.ite)
      | (with_reducible apply Keep.ite_fst)
      | (with_reducible apply Keep.snoc (State.releaseSaf_keep _))
      | (with_reducible apply Keep.snoc (State.sendChannel_keep _ _ _ _))
      | (with_reducible apply Keep.snoc (State.sendGroup_keep _ _ _ _))
      | (with_reducible apply Keep.snoc (State.takeLate_keep _ _))
      | (with_reducible apply Keep.snoc (State.updChan_keep _ _ _))
      | (with_reducible apply Keep.snoc (State.updGroup_keep _ _ _))
      | (with_reducible apply Keep.snoc' (Keep.forAll ?_ _))
      | (with_reducible apply Keep.snoc' (Keep.foldl ?_ _ _))
      | (with_reducible apply And.intro)
      | exact rfl
      | (refine Keep.fst (by assumption) ?_)
      | (refine Keep.snd (by assumption) ?_)
      | split
      | dsimp only
  have h3 : Keep 541072404 s v3 := by
    unfold v3
    repeat' first
      | with_reducible assumption
      | with_reducible exact Keep.refl _ _
      | intro _
      | (fail_if_no_progress beta_reduce)
      | (with_reducible apply KeepR.next)
      | (with_reducible apply Keep.ite)
      | (with_reducible apply KeepR.ite)
      | (with_reducible apply Keep.ite_fst)
      | (with_reducible apply Keep.snoc (State.releaseSaf_keep _))
      | (with_reducible apply Keep.snoc (State.sendChannel_keep _ _ _ _))
      | (with_reducible apply Keep.snoc (State.sendGroup_keep _ _ _ _))
      | (with_reducible apply Keep.snoc (State.takeLate_keep _ _))
      | (with_reducible apply Keep.snoc (State.updChan_keep _ _ _))
      | (with_reducible apply Keep.snoc (State.updGroup_keep _ _ _))
      | (with_reducible apply Keep.snoc' (Keep.forAll ?_ _))
      | (with_reducible apply Keep.snoc' (Keep.foldl ?_ _ _))
      | (with_reducible apply And.intro)
      | exact rfl
      | (refine Keep.fst (by assumption) ?_)
      | (refine Keep.snd (by assumption) ?_)
      | split
      | dsimp only
  have h4 : Keep 541072404 s v4 := by
    unfold v4
    repeat' first
      | with_reducible assumption
      | with_reducible exact Keep.refl _ _
      | (with_reducible apply Keep.snoc (State.set_laneSeq_keep _ _))
      | exact rfl
  have h5 : Keep 541072404 s v5 := by
    unfold v5
    repeat' first
      | with_reducible assumption
      | with_reducible exact Keep.refl _ _
      | intro _
      | (fail_if_no_progress beta_reduce)
      | (with_reducible apply KeepR.next)
      | (with_reducible apply Keep.ite)
      | (with_reducible apply KeepR.ite)
      | (with_reducible apply Keep.ite_fst)
      | (with_reducible apply Keep.snoc (State.releaseSaf_keep _))
      | (with_reducible apply Keep.snoc (State.sendChannel_keep _ _ _ _))
      | (with_reducible apply Keep.snoc (State.sendGroup_keep _ _ _ _))
      | (with_reducible apply Keep.snoc (State.takeLate_keep _ _))
      | (with_reducible apply Keep.snoc (State.updChan_keep _ _ _))
      | (with_reducible apply Keep.snoc (State.updGroup_keep _ _ _))
      | (with_reducible apply Keep.snoc' (Keep.forAll ?_ _))
      | (with_reducible apply Keep.snoc' (Keep.foldl ?_ _ _))
      | (with_reducible apply And.intro)
      | exact rfl
      | (refine Keep.fst (by assumption) ?_)
      | (refine Keep.snd (by assumption) ?_)
      | split
      | dsimp only
  repeat' first
    | with_reducible assumption
    | with_reducible exact Keep.refl _ _
    | intro _
    | (fail_if_no_progress beta_reduce)
    | (with_reducible apply KeepR.next)
    | (with_reducible apply Keep.ite)
    | (with_reducible apply KeepR.ite)
    | (with_reducible apply Keep.ite_fst)
    | (with_reducible apply Keep.snoc (State.releaseSaf_keep _))
    | (with_reducible apply Keep.snoc (State.sendChannel_keep _ _ _ _))
    | (with_reducible apply Keep.snoc (State.sendGroup_keep _ _ _ _))
    | (with_reducible apply Keep.snoc (State.takeLate_keep _ _))
    | (with_reducible apply Keep.snoc (State.updChan_keep _ _ _))
    | (with_reducible apply Keep.snoc (State.updGroup_keep _ _ _))
    | (with_reducible apply Keep.snoc' (Keep.forAll ?_ _))
    | (with_reducible apply Keep.snoc' (Keep.foldl ?_ _ _))
    | (with_reducible apply And.intro)
    | exact rfl
    | (refine Keep.fst (by assumption) ?_)
    | (refine Keep.snd (by assumption) ?_)
    | split
    | dsimp only

theorem State.queueEvent_keep : ∀ a0 a1 s, Keep 16384 s (State.queueEvent a0 a1 s) := by
  intro a0 a1 s
  unfold State.queueEvent
  repeat' first
    | with_reducible assumption
    | with_reducible exact Keep.refl _ _
    | intro _
    | (fail_if_no_progress beta_reduce)
    | (with_reducible apply KeepR.next)
    | (with_reducible apply Keep.ite)
    | (with_reducible apply KeepR.ite)
    | (with_reducible apply Keep.ite_fst)
    | (with_reducible apply Keep.snoc (State.updPrg_keep _ _ ?_))
    | (with_reducible apply Keep.snoc' (Keep.foldl ?_ _ _))
    | (with_reducible apply And.intro)
    | exact rfl
    | (refine Keep.fst (by assumption) ?_)
    | (refine Keep.snd (by assumption) ?_)
    | split
    | dsimp only

theorem State.pushEvent_keep : ∀ a0 a1 s, Keep 16793600 s (State.pushEvent a0 a1 s) := by
  intro a0 a1 s
  unfold State.pushEvent
  repeat' first
    | with_reducible assumption
    | with_reducible exact Keep.refl _ _
    | intro _
    | (fail_if_no_progress beta_reduce)
    | (with_reducible apply KeepR.next)
    | (with_reducible apply Keep.ite)
    | (with_reducible apply KeepR.ite)
    | (with_reducible apply Keep.ite_fst)
    | (with_reducible apply Keep.snoc (State.queueEvent_keep _ _ _))
    | (with_reducible apply Keep.snoc (State.updPair_keep _ _))
    | (with_reducible apply Keep.snoc' (Keep.foldl ?_ _ _))
    | (with_reducible apply And.intro)
    | exact rfl
    | (refine Keep.fst (by assumption) ?_)
    | (refine Keep.snd (by assumption) ?_)
    | split
    | dsimp only

theorem State.copyDiag_keep : ∀ a0 a1 s, Keep 536871952 s (State.copyDiag a0 a1 s) := by
  intro a0 a1 s
  unfold State.copyDiag
  repeat' first
    | with_reducible assumption
    | with_reducible exact Keep.refl _ _
    | intro _
    | (fail_if_no_progress beta_reduce)
    | (with_reducible apply KeepR.next)
    | (with_reducible apply Keep.ite)
    | (with_reducible apply KeepR.ite)
    | (with_reducible apply Keep.ite_fst)
    | (with_reducible apply Keep.snoc (State.putDiag_keep _ _ _ _))
    | (with_reducible apply Keep.snoc' (Keep.foldl ?_ _ _))
    | (with_reducible apply And.intro)
    | exact rfl
    | (refine Keep.fst (by assumption) ?_)
    | (refine Keep.snd (by assumption) ?_)
    | split
    | dsimp only

theorem State.gradeLane_keep : ∀ a0 s, Keep 9193915408 s (State.gradeLane a0 s) := by
  intro a0 s
  unfold State.gradeLane
  extract_lets v0 v1 v2 v3 v4 v5 v6 v7 v8 v9
  try clear_value v5
  try clear_value v4
  try clear_value v3
  try clear_value v2
  try clear_value v1
  try clear_value v0
  have h6 : Keep 9193915408 s v6 := by
    unfold v6
    repeat' first
      | with_reducible assumption
      | with_reducible exact Keep.refl _ _
      | intro _
      | (fail_if_no_progress beta_reduce)
      | (with_reducible apply KeepR.next)
      | (with_reducible apply Keep.ite)
      | (with_reducible apply KeepR.ite)
      | (with_reducible apply Keep.ite_fst)
      | (with_reducible apply Keep.snoc (State.ledgerWarn_keep _ _ _ _ _))
      | (with_reducible apply Keep.snoc (State.measure_keep _ _ _ _ _))
      | (with_reducible apply Keep.snoc (State.putDiag_keep _ _ _ _))
      | (with_reducible apply Keep.snoc (State.record_keep _ _ _ _))
      | (with_reducible apply Keep.snoc (State.updMod_keep _ _))
      | (with_reducible apply Keep.snoc' (Keep.foldl ?_ _ _))
      | (with_reducible apply And.intro)
      | exact rfl
      | (refine Keep.fst (by assumption) ?_)
      | (refine Keep.snd (by assumption) ?_)
      | split
      | dsimp only
  have h7 : Keep 9193915408 s v7 := by
    unfold v7
    repeat' first
      | with_reducible assumption
      | with_reducible exact Keep.refl _ _
      | intro _
      | (fail_if_no_progress beta_reduce)
      | (with_reducible apply KeepR.next)
      | (with_reducible apply Keep.ite)
      | (with_reducible apply KeepR.ite)
      | (with_reducible apply Keep.ite_fst)
      | (with_reducible apply Keep.snoc (State.ledgerWarn_keep _ _ _ _ _))
      | (with_reducible apply Keep.snoc (State.measure_keep _ _ _ _ _))
      | (with_reducible apply Keep.snoc (State.putDiag_keep _ _ _ _))
      | (with_reducible apply Keep.snoc (State.record_keep _ _ _ _))
      | (with_reducible apply Keep.snoc (State.updMod_keep _ _))
      | (with_reducible apply Keep.snoc' (Keep.foldl ?_ _ _))
      | (with_reducible apply And.intro)
      | exact rfl
      | (refine Keep.fst (by assumption) ?_)
      | (refine Keep.snd (by assumption) ?_)
      | split
      | dsimp only
  have h8 : Keep 9193915408 s v8 := by
    unfold v8
    repeat' first
      | with_reducible assumption
      | with_reducible exact Keep.refl _ _
      | intro _
      | (fail_if_no_progress beta_reduce)
      | (with_reducible apply KeepR.next)
      | (with_reducible apply Keep.ite)
      | (with_reducible apply KeepR.ite)
      | (with_reducible apply Keep.ite_fst)
      | (with_reducible apply Keep.snoc (State.ledgerWarn_keep _ _ _ _ _))
      | (with_reducible apply Keep.snoc (State.measure_keep _ _ _ _ _))
      | (with_reducible apply Keep.snoc (State.putDiag_keep _ _ _ _))
      | (with_reducible apply Keep.snoc (State.record_keep _ _ _ _))
      | (with_reducible apply Keep.snoc (State.updMod_keep _ _))
      | (with_reducible apply Keep.snoc' (Keep.foldl ?_ _ _))
      | (with_reducible apply And.intro)
      | exact rfl
      | (refine Keep.fst (by assumption) ?_)
      | (refine Keep.snd (by assumption) ?_)
      | split
      | dsimp only
  have h9 : Keep 9193915408 s v9 := by
    unfold v9
    repeat' first
      | with_reducible assumption
      | with_reducible exact Keep.refl _ _
      | intro _
      | (fail_if_no_progress beta_reduce)
      | (with_reducible apply KeepR.next)
      | (with_reducible apply Keep.ite)
      | (with_reducible apply KeepR.ite)
      | (with_reducible apply Keep.ite_fst)
      | (with_reducible apply Keep.snoc (State.ledgerWarn_keep _ _ _ _ _))
      | (with_reducible apply Keep.snoc (State.measure_keep _ _ _ _ _))
      | (with_reducible apply Keep.snoc (State.putDiag_keep _ _ _ _))
      | (with_reducible apply Keep.snoc (State.record_keep _ _ _ _))
      | (with_reducible apply Keep.snoc (State.updMod_keep _ _))
      | (with_reducible apply Keep.snoc' (Keep.foldl ?_ _ _))
      | (with_reducible apply And.intro)
      | exact rfl
      | (refine Keep.fst (by assumption) ?_)
      | (refine Keep.snd (by assumption) ?_)
      | split
      | dsimp only
  repeat' first
    | with_reducible assumption
    | with_reducible exact Keep.refl _ _
    | intro _
    | (fail_if_no_progress beta_reduce)
    | (with_reducible apply KeepR.next)
    | (with_reducible apply Keep.ite)
    | (with_reducible apply KeepR.ite)
    | (with_reducible apply Keep.ite_fst)
    | (with_reducible apply Keep.snoc (State.ledgerWarn_keep _ _ _ _ _))
    | (with_reducible apply Keep.snoc (State.measure_keep _ _ _ _ _))
    | (with_reducible apply Keep.snoc (State.putDiag_keep _ _ _ _))
    | (with_reducible apply Keep.snoc (State.record_keep _ _ _ _))
    | (with_reducible apply Keep.snoc (State.updMod_keep _ _))
    | (with_reducible apply Keep.snoc' (Keep.foldl ?_ _ _))
    | (with_reducible apply And.intro)
    | exact rfl
    | (refine Keep.fst (by assumption) ?_)
    | (refine Keep.snd (by assumption) ?_)
    | split
    | dsimp only

theorem State.crossSeen_keep : ∀ a0 a1 s, Keep 536872208 s (State.crossSeen a0 a1 s) := by
  intro a0 a1 s
  unfold State.crossSeen
  repeat' first
    | with_reducible assumption
    | with_reducible exact Keep.refl _ _
    | intro _
    | (fail_if_no_progress beta_reduce)
    | (with_reducible apply KeepR.next)
    | (with_reducible apply Keep.ite)
    | (with_reducible apply KeepR.ite)
    | (with_reducible apply Keep.ite_fst)
    | (with_reducible apply Keep.snoc (State.diagBoth_keep _ _ _ _))
    | (with_reducible apply Keep.snoc (State.record_keep _ _ _ _))
    | (with_reducible apply Keep.snoc (State.updChan_keep _ _ _))
    | (with_reducible apply Keep.snoc' (Keep.foldl ?_ _ _))
    | (with_reducible apply And.intro)
    | exact rfl
    | (refine Keep.fst (by assumption) ?_)
    | (refine Keep.snd (by assumption) ?_)
    | split
    | dsimp only

theorem State.inputMissing_keep : ∀ a0 s, Keep 9219085328 s (State.inputMissing a0 s) := by
  intro a0 s
  unfold State.inputMissing
  extract_lets v0 v1 v2
  try clear_value v0
  have h1 : Keep 9219085328 s v1 := by
    unfold v1
    repeat' first
      | with_reducible assumption
      | with_reducible exact Keep.refl _ _
      | intro _
      | (fail_if_no_progress beta_reduce)
      | (with_reducible apply KeepR.next)
      | (with_reducible apply Keep.ite)
      | (with_reducible apply KeepR.ite)
      | (with_reducible apply Keep.ite_fst)
      | (with_reducible apply Keep.snoc (State.gradeLane_keep _ _))
      | (with_reducible apply Keep.snoc (State.hartFlush_keep _ _ _))
      | (with_reducible apply Keep.snoc (State.putDiag_keep _ _ _ _))
      | (with_reducible apply Keep.snoc (State.updChan_keep _ _ _))
      | (with_reducible apply Keep.snoc' (Keep.foldl ?_ _ _))
      | (with_reducible apply And.intro)
      | exact rfl
      | (refine Keep.fst (by assumption) ?_)
      | (refine Keep.snd (by assumption) ?_)
      | split
      | dsimp only
  have h2 : Keep 9219085328 s v2 := by
    unfold v2
    repeat' first
      | with_reducible assumption
      | with_reducible exact Keep.refl _ _
      | intro _
      | (fail_if_no_progress beta_reduce)
      | (with_reducible apply KeepR.next)
      | (with_reducible apply Keep.ite)
      | (with_reducible apply KeepR.ite)
      | (with_reducible apply Keep.ite_fst)
      | (with_reducible apply Keep.snoc (State.gradeLane_keep _ _))
      | (with_reducible apply Keep.snoc (State.hartFlush_keep _ _ _))
      | (with_reducible apply Keep.snoc (State.putDiag_keep _ _ _ _))
      | (with_reducible apply Keep.snoc (State.updChan_keep _ _ _))
      | (with_reducible apply Keep.snoc' (Keep.foldl ?_ _ _))
      | (with_reducible apply And.intro)
      | exact rfl
      | (refine Keep.fst (by assumption) ?_)
      | (refine Keep.snd (by assumption) ?_)
      | split
      | dsimp only
  repeat' first
    | with_reducible assumption
    | with_reducible exact Keep.refl _ _
    | intro _
    | (fail_if_no_progress beta_reduce)
    | (with_reducible apply KeepR.next)
    | (with_reducible apply Keep.ite)
    | (with_reducible apply KeepR.ite)
    | (with_reducible apply Keep.ite_fst)
    | (with_reducible apply Keep.snoc (State.gradeLane_keep _ _))
    | (with_reducible apply Keep.snoc (State.hartFlush_keep _ _ _))
    | (with_reducible apply Keep.snoc (State.putDiag_keep _ _ _ _))
    | (with_reducible apply Keep.snoc (State.updChan_keep _ _ _))
    | (with_reducible apply Keep.snoc' (Keep.foldl ?_ _ _))
    | (with_reducible apply And.intro)
    | exact rfl
    | (refine Keep.fst (by assumption) ?_)
    | (refine Keep.snd (by assumption) ?_)
    | split
    | dsimp only

theorem State.echoCheck_keep : ∀ a0 a1 s, Keep 537920528 s (State.echoCheck a0 a1 s) := by
  intro a0 a1 s
  unfold State.echoCheck
  extract_lets v0
  have h0 : Keep 537920528 s v0 := by
    unfold v0
    repeat' first
      | with_reducible assumption
      | with_reducible exact Keep.refl _ _
      | intro _
      | (fail_if_no_progress beta_reduce)
      | (with_reducible apply KeepR.next)
      | (with_reducible apply Keep.ite)
      | (with_reducible apply KeepR.ite)
      | (with_reducible apply Keep.ite_fst)
      | (with_reducible apply Keep.snoc (State.record_keep _ _ _ _))
      | (with_reducible apply Keep.snoc (State.updAxis_keep _ _ _))
      | (with_reducible apply Keep.snoc (State.updChan_keep _ _ _))
      | (with_reducible apply Keep.snoc' (Keep.forAll ?_ _))
      | (with_reducible apply Keep.snoc' (Keep.foldl ?_ _ _))
      | (with_reducible apply And.intro)
      | exact rfl
      | (refine Keep.fst (by assumption) ?_)
      | (refine Keep.snd (by assumption) ?_)
      | split
      | dsimp only
  repeat' first
    | with_reducible assumption
    | with_reducible exact Keep.refl _ _
    | intro _
    | (fail_if_no_progress beta_reduce)
    | (with_reducible apply KeepR.next)
    | (with_reducible apply Keep.ite)
    | (with_reducible apply KeepR.ite)
    | (with_reducible apply Keep.ite_fst)
    | (with_reducible apply Keep.snoc (State.record_keep _ _ _ _))
    | (with_reducible apply Keep.snoc (State.updAxis_keep _ _ _))
    | (with_reducible apply Keep.snoc (State.updChan_keep _ _ _))
    | (with_reducible apply Keep.snoc' (Keep.forAll ?_ _))
    | (with_reducible apply Keep.snoc' (Keep.foldl ?_ _ _))
    | (with_reducible apply And.intro)
    | exact rfl
    | (refine Keep.fst (by assumption) ?_)
    | (refine Keep.snd (by assumption) ?_)
    | split
    | dsimp only

theorem State.publish_keep : ∀ a0 a1 s, Keep 9211761936 s (State.publish a0 a1 s) := by
  intro a0 a1 s
  unfold State.publish
  extract_lets v0 v1 v2 v3 v4 v5 v6 v7 v8 v9 v10 v11 v12 v13 v14 v15
  try clear_value v15
  try clear_value v4
  try clear_value v3
  try clear_value v2
  try clear_value v1
  try clear_value v0
  have h5 : Keep 9211761936 s v5 := by
    unfold v5
    repeat' first
      | with_reducible assumption
      | with_reducible exact Keep.refl _ _
      | intro _
      | (fail_if_no_progress beta_reduce)
      | (with_reducible apply KeepR.next)
      | (with_reducible apply Keep.ite)
      | (with_reducible apply KeepR.ite)
      | (with_reducible apply Keep.ite_fst)
      | (with_reducible apply Keep.snoc (State.copyDiag_keep _ _ _))
      | (with_reducible apply Keep.snoc (State.crossSeen_keep _ _ _))
      | (with_reducible apply Keep.snoc (State.diagBoth_keep _ _ _ _))
      | (with_reducible apply Keep.snoc (State.echoCheck_keep _ _ _))
      | (with_reducible apply Keep.snoc (State.gradeLane_keep _ _))
      | (with_reducible apply Keep.snoc (State.pushEvent_keep _ _ _))
      | (with_reducible apply Keep.snoc (State.putDiag_keep _ _ _ _))
      | (with_reducible apply Keep.snoc (State.updChan_keep _ _ _))
      | (with_reducible apply Keep.snoc (State.updHart_keep _ _ _))
      | (with_reducible apply Keep.snoc' (Keep.foldl ?_ _ _))
      | (with_reducible apply And.intro)
      | exact rfl
      | (refine Keep.fst (by assumption) ?_)
      | (refine Keep.snd (by assumption) ?_)
      | split
      | dsimp only
  have h6 : Keep 9211761936 s v6 := by
    unfold v6
    repeat' first
      | with_reducible assumption
      | with_reducible exact Keep.refl _ _
      | intro _
      | (fail_if_no_progress beta_reduce)
      | (with_reducible apply KeepR.next)
      | (with_reducible apply Keep.ite)
      | (with_reducible apply KeepR.ite)
      | (with_reducible apply Keep.ite_fst)
      | (with_reducible apply Keep.snoc (State.copyDiag_keep _ _ _))
      | (with_reducible apply Keep.snoc (State.crossSeen_keep _ _ _))
      | (with_reducible apply Keep.snoc (State.diagBoth_keep _ _ _ _))
      | (with_reducible apply Keep.snoc (State.echoCheck_keep _ _ _))
      | (with_reducible apply Keep.snoc (State.gradeLane_keep _ _))
      | (with_reducible apply Keep.snoc (State.pushEvent_keep _ _ _))
      | (with_reducible apply Keep.snoc (State.putDiag_keep _ _ _ _))
      | (with_reducible apply Keep.snoc (State.updChan_keep _ _ _))
      | (with_reducible apply Keep.snoc (State.updHart_keep _ _ _))
      | (with_reducible apply Keep.snoc' (Keep.foldl ?_ _ _))
      | (with_reducible apply And.intro)
      | exact rfl
      | (refine Keep.fst (by assumption) ?_)
      | (refine Keep.snd (by assumption) ?_)
      | split
      | dsimp only
  have h7 : Keep 9211761936 s v7 := by
    unfold v7
    repeat' first
      | with_reducible assumption
      | with_reducible exact Keep.refl _ _
      | intro _
      | (fail_if_no_progress beta_reduce)
      | (with_reducible apply KeepR.next)
      | (with_reducible apply Keep.ite)
      | (with_reducible apply KeepR.ite)
      | (with_reducible apply Keep.ite_fst)
      | (with_reducible apply Keep.snoc (State.copyDiag_keep _ _ _))
      | (with_reducible apply Keep.snoc (State.crossSeen_keep _ _ _))
      | (with_reducible apply Keep.snoc (State.diagBoth_keep _ _ _ _))
      | (with_reducible apply Keep.snoc (State.echoCheck_keep _ _ _))
      | (with_reducible apply Keep.snoc (State.gradeLane_keep _ _))
      | (with_reducible apply Keep.snoc (State.pushEvent_keep _ _ _))
      | (with_reducible apply Keep.snoc (State.putDiag_keep _ _ _ _))
      | (with_reducible apply Keep.snoc (State.updChan_keep _ _ _))
      | (with_reducible apply Keep.snoc (State.updHart_keep _ _ _))
      | (with_reducible apply Keep.snoc' (Keep.foldl ?_ _ _))
      | (with_reducible apply And.intro)
      | exact rfl
      | (refine Keep.fst (by assumption) ?_)
      | (refine Keep.snd (by assumption) ?_)
      | split
      | dsimp only
  have h8 : Keep 9211761936 s v8 := by
    unfold v8
    repeat' first
      | with_reducible assumption
      | with_reducible exact Keep.refl _ _
      | intro _
      | (fail_if_no_progress beta_reduce)
      | (with_reducible apply KeepR.next)
      | (with_reducible apply Keep.ite)
      | (with_reducible apply KeepR.ite)
      | (with_reducible apply Keep.ite_fst)
      | (with_reducible apply Keep.snoc (State.copyDiag_keep _ _ _))
      | (with_reducible apply Keep.snoc (State.crossSeen_keep _ _ _))
      | (with_reducible apply Keep.snoc (State.diagBoth_keep _ _ _ _))
      | (with_reducible apply Keep.snoc (State.echoCheck_keep _ _ _))
      | (with_reducible apply Keep.snoc (State.gradeLane_keep _ _))
      | (with_reducible apply Keep.snoc (State.pushEvent_keep _ _ _))
      | (with_reducible apply Keep.snoc (State.putDiag_keep _ _ _ _))
      | (with_reducible apply Keep.snoc (State.updChan_keep _ _ _))
      | (with_reducible apply Keep.snoc (State.updHart_keep _ _ _))
      | (with_reducible apply Keep.snoc' (Keep.foldl ?_ _ _))
      | (with_reducible apply And.intro)
      | exact rfl
      | (refine Keep.fst (by assumption) ?_)
      | (refine Keep.snd (by assumption) ?_)
      | split
      | dsimp only
  have h9 : Keep 9211761936 s v9 := by
    unfold v9
    repeat' first
      | with_reducible assumption
      | with_reducible exact Keep.refl _ _
      | intro _
      | (fail_if_no_progress beta_reduce)
      | (with_reducible apply KeepR.next)
      | (with_reducible apply Keep.ite)
      | (with_reducible apply KeepR.ite)
      | (with_reducible apply Keep.ite_fst)
      | (with_reducible apply Keep.snoc (State.copyDiag_keep _ _ _))
      | (with_reducible apply Keep.snoc (State.crossSeen_keep _ _ _))
      | (with_reducible apply Keep.snoc (State.diagBoth_keep _ _ _ _))
      | (with_reducible apply Keep.snoc (State.echoCheck_keep _ _ _))
      | (with_reducible apply Keep.snoc (State.gradeLane_keep _ _))
      | (with_reducible apply Keep.snoc (State.pushEvent_keep _ _ _))
      | (with_reducible apply Keep.snoc (State.putDiag_keep _ _ _ _))
      | (with_reducible apply Keep.snoc (State.updChan_keep _ _ _))
      | (with_reducible apply Keep.snoc (State.updHart_keep _ _ _))
      | (with_reducible apply Keep.snoc' (Keep.foldl ?_ _ _))
      | (with_reducible apply And.intro)
      | exact rfl
      | (refine Keep.fst (by assumption) ?_)
      | (refine Keep.snd (by assumption) ?_)
      | split
      | dsimp only
  have h10 : Keep 9211761936 s v10 := by
    unfold v10
    repeat' first
      | with_reducible assumption
      | with_reducible exact Keep.refl _ _
      | intro _
      | (fail_if_no_progress beta_reduce)
      | (with_reducible apply KeepR.next)
      | (with_reducible apply Keep.ite)
      | (with_reducible apply KeepR.ite)
      | (with_reducible apply Keep.ite_fst)
      | (with_reducible apply Keep.snoc (State.copyDiag_keep _ _ _))
      | (with_reducible apply Keep.snoc (State.crossSeen_keep _ _ _))
      | (with_reducible apply Keep.snoc (State.diagBoth_keep _ _ _ _))
      | (with_reducible apply Keep.snoc (State.echoCheck_keep _ _ _))
      | (with_reducible apply Keep.snoc (State.gradeLane_keep _ _))
      | (with_reducible apply Keep.snoc (State.pushEvent_keep _ _ _))
      | (with_reducible apply Keep.snoc (State.putDiag_keep _ _ _ _))
      | (with_reducible apply Keep.snoc (State.updChan_keep _ _ _))
      | (with_reducible apply Keep.snoc (State.updHart_keep _ _ _))
      | (with_reducible apply Keep.snoc' (Keep.foldl ?_ _ _))
      | (with_reducible apply And.intro)
      | exact rfl
      | (refine Keep.fst (by assumption) ?_)
      | (refine Keep.snd (by assumption) ?_)
      | split
      | dsimp only
  have h11 : Keep 9211761936 s v11 := by
    unfold v11
    repeat' first
      | with_reducible assumption
      | with_reducible exact Keep.refl _ _
      | intro _
      | (fail_if_no_progress beta_reduce)
      | (with_reducible apply KeepR.next)
      | (with_reducible apply Keep.ite)
      | (with_reducible apply KeepR.ite)
      | (with_reducible apply Keep.ite_fst)
      | (with_reducible apply Keep.snoc (State.copyDiag_keep _ _ _))
      | (with_reducible apply Keep.snoc (State.crossSeen_keep _ _ _))
      | (with_reducible apply Keep.snoc (State.diagBoth_keep _ _ _ _))
      | (with_reducible apply Keep.snoc (State.echoCheck_keep _ _ _))
      | (with_reducible apply Keep.snoc (State.gradeLane_keep _ _))
      | (with_reducible apply Keep.snoc (State.pushEvent_keep _ _ _))
      | (with_reducible apply Keep.snoc (State.putDiag_keep _ _ _ _))
      | (with_reducible apply Keep.snoc (State.updChan_keep _ _ _))
      | (with_reducible apply Keep.snoc (State.updHart_keep _ _ _))
      | (with_reducible apply Keep.snoc' (Keep.foldl ?_ _ _))
      | (with_reducible apply And.intro)
      | exact rfl
      | (refine Keep.fst (by assumption) ?_)
      | (refine Keep.snd (by assumption) ?_)
      | split
      | dsimp only
  have h12 : Keep 9211761936 s v12 := by
    unfold v12
    repeat' first
      | with_reducible assumption
      | with_reducible exact Keep.refl _ _
      | intro _
      | (fail_if_no_progress beta_reduce)
      | (with_reducible apply KeepR.next)
      | (with_reducible apply Keep.ite)
      | (with_reducible apply KeepR.ite)
      | (with_reducible apply Keep.ite_fst)
      | (with_reducible apply Keep.snoc (State.copyDiag_keep _ _ _))
      | (with_reducible apply Keep.snoc (State.crossSeen_keep _ _ _))
      | (with_reducible apply Keep.snoc (State.diagBoth_keep _ _ _ _))
      | (with_reducible apply Keep.snoc (State.echoCheck_keep _ _ _))
      | (with_reducible apply Keep.snoc (State.gradeLane_keep _ _))
      | (with_reducible apply Keep.snoc (State.pushEvent_keep _ _ _))
      | (with_reducible apply Keep.snoc (State.putDiag_keep _ _ _ _))
      | (with_reducible apply Keep.snoc (State.updChan_keep _ _ _))
      | (with_reducible apply Keep.snoc (State.updHart_keep _ _ _))
      | (with_reducible apply Keep.snoc' (Keep.foldl ?_ _ _))
      | (with_reducible apply And.intro)
      | exact rfl
      | (refine Keep.fst (by assumption) ?_)
      | (refine Keep.snd (by assumption) ?_)
      | split
      | dsimp only
  have h13 : Keep 9211761936 s v13 := by
    unfold v13
    repeat' first
      | with_reducible assumption
      | with_reducible exact Keep.refl _ _
      | intro _
      | (fail_if_no_progress beta_reduce)
      | (with_reducible apply KeepR.next)
      | (with_reducible apply Keep.ite)
      | (with_reducible apply KeepR.ite)
      | (with_reducible apply Keep.ite_fst)
      | (with_reducible apply Keep.snoc (State.copyDiag_keep _ _ _))
      | (with_reducible apply Keep.snoc (State.crossSeen_keep _ _ _))
      | (with_reducible apply Keep.snoc (State.diagBoth_keep _ _ _ _))
      | (with_reducible apply Keep.snoc (State.echoCheck_keep _ _ _))
      | (with_reducible apply Keep.snoc (State.gradeLane_keep _ _))
      | (with_reducible apply Keep.snoc (State.pushEvent_keep _ _ _))
      | (with_reducible apply Keep.snoc (State.putDiag_keep _ _ _ _))
      | (with_reducible apply Keep.snoc (State.updChan_keep _ _ _))
      | (with_reducible apply Keep.snoc (State.updHart_keep _ _ _))
      | (with_reducible apply Keep.snoc' (Keep.foldl ?_ _ _))
      | (with_reducible apply And.intro)
      | exact rfl
      | (refine Keep.fst (by assumption) ?_)
      | (refine Keep.snd (by assumption) ?_)
      | split
      | dsimp only
  have h14 : Keep 9211761936 s v14 := by
    unfold v14
    repeat' first
      | with_reducible assumption
      | with_reducible exact Keep.refl _ _
      | intro _
      | (fail_if_no_progress beta_reduce)
      | (with_reducible apply KeepR.next)
      | (with_reducible apply Keep.ite)
      | (with_reducible apply KeepR.ite)
      | (with_reducible apply Keep.ite_fst)
      | (with_reducible apply Keep.snoc (State.copyDiag_keep _ _ _))
      | (with_reducible apply Keep.snoc (State.crossSeen_keep _ _ _))
      | (with_reducible apply Keep.snoc (State.diagBoth_keep _ _ _ _))
      | (with_reducible apply Keep.snoc (State.echoCheck_keep _ _ _))
      | (with_reducible apply Keep.snoc (State.gradeLane_keep _ _))
      | (with_reducible apply Keep.snoc (State.pushEvent_keep _ _ _))
      | (with_reducible apply Keep.snoc (State.putDiag_keep _ _ _ _))
      | (with_reducible apply Keep.snoc (State.updChan_keep _ _ _))
      | (with_reducible apply Keep.snoc (State.updHart_keep _ _ _))
      | (with_reducible apply Keep.snoc' (Keep.foldl ?_ _ _))
      | (with_reducible apply And.intro)
      | exact rfl
      | (refine Keep.fst (by assumption) ?_)
      | (refine Keep.snd (by assumption) ?_)
      | split
      | dsimp only
  repeat' first
    | with_reducible assumption
    | with_reducible exact Keep.refl _ _
    | intro _
    | (fail_if_no_progress beta_reduce)
    | (with_reducible apply KeepR.next)
    | (with_reducible apply Keep.ite)
    | (with_reducible apply KeepR.ite)
    | (with_reducible apply Keep.ite_fst)
    | (with_reducible apply Keep.snoc (State.copyDiag_keep _ _ _))
    | (with_reducible apply Keep.snoc (State.crossSeen_keep _ _ _))
    | (with_reducible apply Keep.snoc (State.diagBoth_keep _ _ _ _))
    | (with_reducible apply Keep.snoc (State.echoCheck_keep _ _ _))
    | (with_reducible apply Keep.snoc (State.gradeLane_keep _ _))
    | (with_reducible apply Keep.snoc (State.pushEvent_keep _ _ _))
    | (with_reducible apply Keep.snoc (State.putDiag_keep _ _ _ _))
    | (with_reducible apply Keep.snoc (State.updChan_keep _ _ _))
    | (with_reducible apply Keep.snoc (State.updHart_keep _ _ _))
    | (with_reducible apply Keep.snoc' (Keep.foldl ?_ _ _))
    | (with_reducible apply And.intro)
    | exact rfl
    | (refine Keep.fst (by assumption) ?_)
    | (refine Keep.snd (by assumption) ?_)
    | split
    | dsimp only

theorem execChannelInputFrame_keep : ∀ a0 a1 a2 s, KeepR 9220150544 s (execChannelInputFrame a0 a1 a2 s) := by
  intro a0 a1 a2 s
  unfold execChannelInputFrame
  extract_lets v0
  have h0 : Keep 9220150544 s v0 := by
    unfold v0
    repeat' first
      | with_reducible assumption
      | with_reducible exact Keep.refl _ _
      | intro _
      | (fail_if_no_progress beta_reduce)
      | (with_reducible apply KeepR.next)
      | (with_reducible apply Keep.ite)
      | (with_reducible apply KeepR.ite)
      | (with_reducible apply Keep.ite_fst)
      | (with_reducible apply Keep.snoc (State.begin_keep _ _))
      | (with_reducible apply Keep.snoc (State.inputMissing_keep _ _))
      | (with_reducible apply Keep.snoc (State.publish_keep _ _ _))
      | (with_reducible apply Keep.snoc (State.settleHealth_keep _))
      | (with_reducible apply Keep.snoc' (Keep.foldl ?_ _ _))
      | (with_reducible apply And.intro)
      | exact rfl
      | (refine Keep.fst (by assumption) ?_)
      | (refine Keep.snd (by assumption) ?_)
      | split
      | dsimp only
  repeat' first
    | with_reducible assumption
    | with_reducible exact Keep.refl _ _
    | intro _
    | (fail_if_no_progress beta_reduce)
    | (with_reducible apply KeepR.next)
    | (with_reducible apply Keep.ite)
    | (with_reducible apply KeepR.ite)
    | (with_reducible apply Keep.ite_fst)
    | (with_reducible apply Keep.snoc (State.begin_keep _ _))
    | (with_reducible apply Keep.snoc (State.inputMissing_keep _ _))
    | (with_reducible apply Keep.snoc (State.publish_keep _ _ _))
    | (with_reducible apply Keep.snoc (State.settleHealth_keep _))
    | (with_reducible apply Keep.snoc' (Keep.foldl ?_ _ _))
    | (with_reducible apply And.intro)
    | exact rfl
    | (refine Keep.fst (by assumption) ?_)
    | (refine Keep.snd (by assumption) ?_)
    | split
    | dsimp only

theorem State.countGroupLane_keep : ∀ a0 a1 s, Keep 8589936640 s (State.countGroupLane a0 a1 s) := by
  intro a0 a1 s
  unfold State.countGroupLane
  extract_lets v0 v1 v2
  try clear_value v1
  have h0 : Keep 8589936640 s v0 := by
    unfold v0
    repeat' first
      | with_reducible assumption
      | with_reducible exact Keep.refl _ _
      | intro _
      | (fail_if_no_progress beta_reduce)
      | (with_reducible apply KeepR.next)
      | (with_reducible apply Keep.ite)
      | (with_reducible apply KeepR.ite)
      | (with_reducible apply Keep.ite_fst)
      | (with_reducible apply Keep.snoc (State.measure_keep _ _ _ _ _))
      | (with_reducible apply Keep.snoc (State.updGroup_keep _ _ _))
      | (with_reducible apply Keep.snoc' (Keep.foldl ?_ _ _))
      | (with_reducible apply And.intro)
      | exact rfl
      | (refine Keep.fst (by assumption) ?_)
      | (refine Keep.snd (by assumption) ?_)
      | split
      | dsimp only
  have h2 : Keep 8589936640 s v2 := by
    unfold v2
    repeat' first
      | with_reducible assumption
      | with_reducible exact Keep.refl _ _
      | intro _
      | (fail_if_no_progress beta_reduce)
      | (with_reducible apply KeepR.next)
      | (with_reducible apply Keep.ite)
      | (with_reducible apply KeepR.ite)
      | (with_reducible apply Keep.ite_fst)
      | (with_reducible apply Keep.snoc (State.measure_keep _ _ _ _ _))
      | (with_reducible apply Keep.snoc (State.updGroup_keep _ _ _))
      | (with_reducible apply Keep.snoc' (Keep.foldl ?_ _ _))
      | (with_reducible apply And.intro)
      | exact rfl
      | (refine Keep.fst (by assumption) ?_)
      | (refine Keep.snd (by assumption) ?_)
      | split
      | dsimp only
  repeat' first
    | with_reducible assumption
    | with_reducible exact Keep.refl _ _
    | intro _
    | (fail_if_no_progress beta_reduce)
    | (with_reducible apply KeepR.next)
    | (with_reducible apply Keep.ite)
    | (with_reducible apply KeepR.ite)
    | (with_reducible apply Keep.ite_fst)
    | (with_reducible apply Keep.snoc (State.measure_keep _ _ _ _ _))
    | (with_reducible apply Keep.snoc (State.updGroup_keep _ _ _))
    | (with_reducible apply Keep.snoc' (Keep.foldl ?_ _ _))
    | (with_reducible apply And.intro)
    | exact rfl
    | (refine Keep.fst (by assumption) ?_)
    | (refine Keep.snd (by assumption) ?_)
    | split
    | dsimp only

theorem State.groupMissing_keep : ∀ a0 s, Keep 9126807568 s (State.groupMissing a0 s) := by
  intro a0 s
  unfold State.groupMissing
  extract_lets v0 v1 v2
  try clear_value v1
  have h0 : Keep 9126807568 s v0 := by
    unfold v0
    repeat' first
      | with_reducible assumption
      | with_reducible exact Keep.refl _ _
      | intro _
      | (fail_if_no_progress beta_reduce)
      | (with_reducible apply KeepR.next)
      | (with_reducible apply Keep.ite)
      | (with_reducible apply KeepR.ite)
      | (with_reducible apply Keep.ite_fst)
      | (with_reducible apply Keep.snoc (State.countGroupLane_keep _ _ _))
      | (with_reducible apply Keep.snoc (State.record_keep _ _ _ _))
      | (with_reducible apply Keep.snoc (State.updGroup_keep _ _ _))
      | (with_reducible apply Keep.snoc' (Keep.foldl ?_ _ _))
      | (with_reducible apply And.intro)
      | exact rfl
      | (refine Keep.fst (by assumption) ?_)
      | (refine Keep.snd (by assumption) ?_)
      | split
      | dsimp only
  have h2 : Keep 9126807568 s v2 := by
    unfold v2
    repeat' first
      | with_reducible assumption
      | with_reducible exact Keep.refl _ _
      | intro _
      | (fail_if_no_progress beta_reduce)
      | (with_reducible apply KeepR.next)
      | (with_reducible apply Keep.ite)
      | (with_reducible apply KeepR.ite)
      | (with_reducible apply Keep.ite_fst)
      | (with_reducible apply Keep.snoc (State.countGroupLane_keep _ _ _))
      | (with_reducible apply Keep.snoc (State.record_keep _ _ _ _))
      | (with_reducible apply Keep.snoc (State.updGroup_keep _ _ _))
      | (with_reducible apply Keep.snoc' (Keep.foldl ?_ _ _))
      | (with_reducible apply And.intro)
      | exact rfl
      | (refine Keep.fst (by assumption) ?_)
      | (refine Keep.snd (by assumption) ?_)
      | split
      | dsimp only
  repeat' first
    | with_reducible assumption
    | with_reducible exact Keep.refl _ _
    | intro _
    | (fail_if_no_progress beta_reduce)
    | (with_reducible apply KeepR.next)
    | (with_reducible apply Keep.ite)
    | (with_reducible apply KeepR.ite)
    | (with_reducible apply Keep.ite_fst)
    | (with_reducible apply Keep.snoc (State.countGroupLane_keep _ _ _))
    | (with_reducible apply Keep.snoc (State.record_keep _ _ _ _))
    | (with_reducible apply Keep.snoc (State.updGroup_keep _ _ _))
    | (with_reducible apply Keep.snoc' (Keep.foldl ?_ _ _))
    | (with_reducible apply And.intro)
    | exact rfl
    | (refine Keep.fst (by assumption) ?_)
    | (refine Keep.snd (by assumption) ?_)
    | split
    | dsimp only

theorem execGroupInputFrame_keep : ∀ a0 a1 a2 s, KeepR 9193916432 s (execGroupInputFrame a0 a1 a2 s) := by
  intro a0 a1 a2 s
  unfold execGroupInputFrame
  extract_lets v0
  have h0 : Keep 9193916432 s v0 := by
    unfold v0
    repeat' first
      | with_reducible assumption
      | with_reducible exact Keep.refl _ _
      | intro _
      | (fail_if_no_progress beta_reduce)
      | (with_reducible apply KeepR.next)
      | (with_reducible apply Keep.ite)
      | (with_reducible apply KeepR.ite)
      | (with_reducible apply Keep.ite_fst)
      | (with_reducible apply Keep.snoc (State.begin_keep _ _))
      | (with_reducible apply Keep.snoc (State.countGroupLane_keep _ _ _))
      | (with_reducible apply Keep.snoc (State.groupMissing_keep _ _))
      | (with_reducible apply Keep.snoc (State.record_keep _ _ _ _))
      | (with_reducible apply Keep.snoc (State.settleHealth_keep _))
      | (with_reducible apply Keep.snoc (State.updGroup_keep _ _ _))
      | (with_reducible apply Keep.snoc' (Keep.foldl ?_ _ _))
      | (with_reducible apply And.intro)
      | exact rfl
      | (refine Keep.fst (by assumption) ?_)
      | (refine Keep.snd (by assumption) ?_)
      | split
      | dsimp only
  repeat' first
    | with_reducible assumption
    | with_reducible exact Keep.refl _ _
    | intro _
    | (fail_if_no_progress beta_reduce)
    | (with_reducible apply KeepR.next)
    | (with_reducible apply Keep.ite)
    | (with_reducible apply KeepR.ite)
    | (with_reducible apply Keep.ite_fst)
    | (with_reducible apply Keep.snoc (State.begin_keep _ _))
    | (with_reducible apply Keep.snoc (State.countGroupLane_keep _ _ _))
    | (with_reducible apply Keep.snoc (State.groupMissing_keep _ _))
    | (with_reducible apply Keep.snoc (State.record_keep _ _ _ _))
    | (with_reducible apply Keep.snoc (State.settleHealth_keep _))
    | (with_reducible apply Keep.snoc (State.updGroup_keep _ _ _))
    | (with_reducible apply Keep.snoc' (Keep.foldl ?_ _ _))
    | (with_reducible apply And.intro)
    | exact rfl
    | (refine Keep.fst (by assumption) ?_)
    | (refine Keep.snd (by assumption) ?_)
    | split
    | dsimp only

theorem execOffPulseSlot_keep : ∀ a0 a1 s, KeepR 1024 s (execOffPulseSlot a0 a1 s) := by
  intro a0 a1 s
  unfold execOffPulseSlot
  extract_lets v0
  have h0 : Keep 1024 s v0 := by
    unfold v0
    repeat' first
      | with_reducible assumption
      | with_reducible exact Keep.refl _ _
      | intro _
      | (fail_if_no_progress beta_reduce)
      | (with_reducible apply KeepR.next)
      | (with_reducible apply Keep.ite)
      | (with_reducible apply KeepR.ite)
      | (with_reducible apply Keep.ite_fst)
      | (with_reducible apply Keep.snoc (State.begin_keep _ _))
      | (with_reducible apply Keep.snoc (State.updChan_keep _ _ _))
      | (with_reducible apply Keep.snoc' (Keep.foldl ?_ _ _))
      | (with_reducible apply And.intro)
      | exact rfl
      | (refine Keep.fst (by assumption) ?_)
      | (refine Keep.snd (by assumption) ?_)
      | split
      | dsimp only
  repeat' first
    | with_reducible assumption
    | with_reducible exact Keep.refl _ _
    | intro _
    | (fail_if_no_progress beta_reduce)
    | (with_reducible apply KeepR.next)
    | (with_reducible apply Keep.ite)
    | (with_reducible apply KeepR.ite)
    | (with_reducible apply Keep.ite_fst)
    | (with_reducible apply Keep.snoc (State.begin_keep _ _))
    | (with_reducible apply Keep.snoc (State.updChan_keep _ _ _))
    | (with_reducible apply Keep.snoc' (Keep.foldl ?_ _ _))
    | (with_reducible apply And.intro)
    | exact rfl
    | (refine Keep.fst (by assumption) ?_)
    | (refine Keep.snd (by assumption) ?_)
    | split
    | dsimp only

theorem execOffPulseEnd_keep : ∀ a0 a1 a2 s, KeepR 536872208 s (execOffPulseEnd a0 a1 a2 s) := by
  intro a0 a1 a2 s
  unfold execOffPulseEnd
  extract_lets v0 v1 v2
  have h0 : Keep 536872208 s v0 := by
    unfold v0
    repeat' first
      | with_reducible assumption
      | with_reducible exact Keep.refl _ _
      | intro _
      | (fail_if_no_progress beta_reduce)
      | (with_reducible apply KeepR.next)
      | (with_reducible apply Keep.ite)
      | (with_reducible apply KeepR.ite)
      | (with_reducible apply Keep.ite_fst)
      | (with_reducible apply Keep.snoc (State.begin_keep _ _))
      | (with_reducible apply Keep.snoc (State.diagBoth_keep _ _ _ _))
      | (with_reducible apply Keep.snoc (State.updCell_keep _ _ _))
      | (with_reducible apply Keep.snoc (State.updChan_keep _ _ _))
      | (with_reducible apply Keep.snoc' (Keep.foldl ?_ _ _))
      | (with_reducible apply And.intro)
      | exact rfl
      | (refine Keep.fst (by assumption) ?_)
      | (refine Keep.snd (by assumption) ?_)
      | split
      | dsimp only
  have h1 : Keep 536872208 s v1 := by
    unfold v1
    repeat' first
      | with_reducible assumption
      | with_reducible exact Keep.refl _ _
      | intro _
      | (fail_if_no_progress beta_reduce)
      | (with_reducible apply KeepR.next)
      | (with_reducible apply Keep.ite)
      | (with_reducible apply KeepR.ite)
      | (with_reducible apply Keep.ite_fst)
      | (with_reducible apply Keep.snoc (State.begin_keep _ _))
      | (with_reducible apply Keep.snoc (State.diagBoth_keep _ _ _ _))
      | (with_reducible apply Keep.snoc (State.updCell_keep _ _ _))
      | (with_reducible apply Keep.snoc (State.updChan_keep _ _ _))
      | (with_reducible apply Keep.snoc' (Keep.foldl ?_ _ _))
      | (with_reducible apply And.intro)
      | exact rfl
      | (refine Keep.fst (by assumption) ?_)
      | (refine Keep.snd (by assumption) ?_)
      | split
      | dsimp only
  have h2 : Keep 536872208 s v2 := by
    unfold v2
    repeat' first
      | with_reducible assumption
      | with_reducible exact Keep.refl _ _
      | intro _
      | (fail_if_no_progress beta_reduce)
      | (with_reducible apply KeepR.next)
      | (with_reducible apply Keep.ite)
      | (with_reducible apply KeepR.ite)
      | (with_reducible apply Keep.ite_fst)
      | (with_reducible apply Keep.snoc (State.begin_keep _ _))
      | (with_reducible apply Keep.snoc (State.diagBoth_keep _ _ _ _))
      | (with_reducible apply Keep.snoc (State.updCell_keep _ _ _))
      | (with_reducible apply Keep.snoc (State.updChan_keep _ _ _))
      | (with_reducible apply Keep.snoc' (Keep.foldl ?_ _ _))
      | (with_reducible apply And.intro)
      | exact rfl
      | (refine Keep.fst (by assumption) ?_)
      | (refine Keep.snd (by assumption) ?_)
      | split
      | dsimp only
  repeat' first
    | with_reducible assumption
    | with_reducible exact Keep.refl _ _
    | intro _
    | (fail_if_no_progress beta_reduce)
    | (with_reducible apply KeepR.next)
    | (with_reducible apply Keep.ite)
    | (with_reducible apply KeepR.ite)
    | (with_reducible apply Keep.ite_fst)
    | (with_reducible apply Keep.snoc (State.begin_keep _ _))
    | (with_reducible apply Keep.snoc (State.diagBoth_keep _ _ _ _))
    | (with_reducible apply Keep.snoc (State.updCell_keep _ _ _))
    | (with_reducible apply Keep.snoc (State.updChan_keep _ _ _))
    | (with_reducible apply Keep.snoc' (Keep.foldl ?_ _ _))
    | (with_reducible apply And.intro)
    | exact rfl
    | (refine Keep.fst (by assumption) ?_)
    | (refine Keep.snd (by assumption) ?_)
    | split
    | dsimp only

theorem execOffPulseRoundEnd_keep : ∀ a0 s, KeepR 536872216 s (execOffPulseRoundEnd a0 s) := by
  intro a0 s
  unfold execOffPulseRoundEnd
  extract_lets v0 v1
  have h0 : Keep 536872216 s v0 := by
    unfold v0
    repeat' first
      | with_reducible assumption
      | with_reducible exact Keep.refl _ _
      | intro _
      | (fail_if_no_progress beta_reduce)
      | (with_reducible apply KeepR.next)
      | (with_reducible apply Keep.ite)
      | (with_reducible apply KeepR.ite)
      | (with_reducible apply Keep.ite_fst)
      | (with_reducible apply Keep.snoc (State.begin_keep _ _))
      | (with_reducible apply Keep.snoc (State.diagBoth_keep _ _ _ _))
      | (with_reducible apply Keep.snoc (State.updChan_keep _ _ _))
      | (with_reducible apply Keep.snoc' (Keep.forAll ?_ _))
      | (with_reducible apply Keep.snoc' (Keep.foldl ?_ _ _))
      | (with_reducible apply And.intro)
      | exact rfl
      | (refine Keep.fst (by assumption) ?_)
      | (refine Keep.snd (by assumption) ?_)
      | split
      | dsimp only
  have h1 : Keep 536872216 s v1 := by
    unfold v1
    repeat' first
      | with_reducible assumption
      | with_reducible exact Keep.refl _ _
      | (with_reducible apply Keep.snoc (State.set_pulseRound_keep _ _))
      | (with_reducible apply Keep.snoc (State.set_roundIdx_keep _ _))
      | (with_reducible apply Keep.snoc (State.set_round_keep _ _ _))
      | exact rfl
  repeat' first
    | with_reducible assumption
    | with_reducible exact Keep.refl _ _
    | intro _
    | (fail_if_no_progress beta_reduce)
    | (with_reducible apply KeepR.next)
    | (with_reducible apply Keep.ite)
    | (with_reducible apply KeepR.ite)
    | (with_reducible apply Keep.ite_fst)
    | (with_reducible apply Keep.snoc (State.begin_keep _ _))
    | (with_reducible apply Keep.snoc (State.diagBoth_keep _ _ _ _))
    | (with_reducible apply Keep.snoc (State.updChan_keep _ _ _))
    | (with_reducible apply Keep.snoc' (Keep.forAll ?_ _))
    | (with_reducible apply Keep.snoc' (Keep.foldl ?_ _ _))
    | (with_reducible apply And.intro)
    | exact rfl
    | (refine Keep.fst (by assumption) ?_)
    | (refine Keep.snd (by assumption) ?_)
    | split
    | dsimp only

theorem execTestPulseSlot_keep : ∀ a0 a1 a2 a3 s, KeepR 536872208 s (execTestPulseSlot a0 a1 a2 a3 s) := by
  intro a0 a1 a2 a3 s
  unfold execTestPulseSlot
  extract_lets v0
  have h0 : Keep 536872208 s v0 := by
    unfold v0
    repeat' first
      | with_reducible assumption
      | with_reducible exact Keep.refl _ _
      | intro _
      | (fail_if_no_progress beta_reduce)
      | (with_reducible apply KeepR.next)
      | (with_reducible apply Keep.ite)
      | (with_reducible apply KeepR.ite)
      | (with_reducible apply Keep.ite_fst)
      | (with_reducible apply Keep.snoc (State.begin_keep _ _))
      | (with_reducible apply Keep.snoc (State.diagBoth_keep _ _ _ _))
      | (with_reducible apply Keep.snoc' (Keep.foldl ?_ _ _))
      | (with_reducible apply And.intro)
      | exact rfl
      | (refine Keep.fst (by assumption) ?_)
      | (refine Keep.snd (by assumption) ?_)
      | split
      | dsimp only
  repeat' first
    | with_reducible assumption
    | with_reducible exact Keep.refl _ _
    | intro _
    | (fail_if_no_progress beta_reduce)
    | (with_reducible apply KeepR.next)
    | (with_reducible apply Keep.ite)
    | (with_reducible apply KeepR.ite)
    | (with_reducible apply Keep.ite_fst)
    | (with_reducible apply Keep.snoc (State.begin_keep _ _))
    | (with_reducible apply Keep.snoc (State.diagBoth_keep _ _ _ _))
    | (with_reducible apply Keep.snoc' (Keep.foldl ?_ _ _))
    | (with_reducible apply And.intro)
    | exact rfl
    | (refine Keep.fst (by assumption) ?_)
    | (refine Keep.snd (by assumption) ?_)
    | split
    | dsimp only

theorem execReadbackDelayExpiry_keep : ∀ a0 a1 s, KeepR 536872208 s (execReadbackDelayExpiry a0 a1 s) := by
  intro a0 a1 s
  unfold execReadbackDelayExpiry
  extract_lets v0 v1 v2
  try clear_value v1
  have h0 : Keep 536872208 s v0 := by
    unfold v0
    repeat' first
      | with_reducible assumption
      | with_reducible exact Keep.refl _ _
      | intro _
      | (fail_if_no_progress beta_reduce)
      | (with_reducible apply KeepR.next)
      | (with_reducible apply Keep.ite)
      | (with_reducible apply KeepR.ite)
      | (with_reducible apply Keep.ite_fst)
      | (with_reducible apply Keep.snoc (State.begin_keep _ _))
      | (with_reducible apply Keep.snoc (State.diagBoth_keep _ _ _ _))
      | (with_reducible apply Keep.snoc (State.updChan_keep _ _ _))
      | (with_reducible apply Keep.snoc' (Keep.foldl ?_ _ _))
      | (with_reducible apply And.intro)
      | exact rfl
      | (refine Keep.fst (by assumption) ?_)
      | (refine Keep.snd (by assumption) ?_)
      | split
      | dsimp only
  have h2 : Keep 536872208 s v2 := by
    unfold v2
    repeat' first
      | with_reducible assumption
      | with_reducible exact Keep.refl _ _
      | intro _
      | (fail_if_no_progress beta_reduce)
      | (with_reducible apply KeepR.next)
      | (with_reducible apply Keep.ite)
      | (with_reducible apply KeepR.ite)
      | (with_reducible apply Keep.ite_fst)
      | (with_reducible apply Keep.snoc (State.begin_keep _ _))
      | (with_reducible apply Keep.snoc (State.diagBoth_keep _ _ _ _))
      | (with_reducible apply Keep.snoc (State.updChan_keep _ _ _))
      | (with_reducible apply Keep.snoc' (Keep.foldl ?_ _ _))
      | (with_reducible apply And.intro)
      | exact rfl
      | (refine Keep.fst (by assumption) ?_)
      | (refine Keep.snd (by assumption) ?_)
      | split
      | dsimp only
  repeat' first
    | with_reducible assumption
    | with_reducible exact Keep.refl _ _
    | intro _
    | (fail_if_no_progress beta_reduce)
    | (with_reducible apply KeepR.next)
    | (with_reducible apply Keep.ite)
    | (with_reducible apply KeepR.ite)
    | (with_reducible apply Keep.ite_fst)
    | (with_reducible apply Keep.snoc (State.begin_keep _ _))
    | (with_reducible apply Keep.snoc (State.diagBoth_keep _ _ _ _))
    | (with_reducible apply Keep.snoc (State.updChan_keep _ _ _))
    | (with_reducible apply Keep.snoc' (Keep.foldl ?_ _ _))
    | (with_reducible apply And.intro)
    | exact rfl
    | (refine Keep.fst (by assumption) ?_)
    | (refine Keep.snd (by assumption) ?_)
    | split
    | dsimp only

theorem execComplianceSet_keep : ∀ a0 a1 s, KeepR 536872208 s (execComplianceSet a0 a1 s) := by
  intro a0 a1 s
  unfold execComplianceSet
  extract_lets v0 v1
  try clear_value v1
  have h0 : Keep 536872208 s v0 := by
    unfold v0
    repeat' first
      | with_reducible assumption
      | with_reducible exact Keep.refl _ _
      | intro _
      | (fail_if_no_progress beta_reduce)
      | (with_reducible apply KeepR.next)
      | (with_reducible apply Keep.ite)
      | (with_reducible apply KeepR.ite)
      | (with_reducible apply Keep.ite_fst)
      | (with_reducible apply Keep.snoc (State.begin_keep _ _))
      | (with_reducible apply Keep.snoc (State.diagBoth_keep _ _ _ _))
      | (with_reducible apply Keep.snoc' (Keep.foldl ?_ _ _))
      | (with_reducible apply And.intro)
      | exact rfl
      | (refine Keep.fst (by assumption) ?_)
      | (refine Keep.snd (by assumption) ?_)
      | split
      | dsimp only
  repeat' first
    | with_reducible assumption
    | with_reducible exact Keep.refl _ _
    | intro _
    | (fail_if_no_progress beta_reduce)
    | (with_reducible apply KeepR.next)
    | (with_reducible apply Keep.ite)
    | (with_reducible apply KeepR.ite)
    | (with_reducible apply Keep.ite_fst)
    | (with_reducible apply Keep.snoc (State.begin_keep _ _))
    | (with_reducible apply Keep.snoc (State.diagBoth_keep _ _ _ _))
    | (with_reducible apply Keep.snoc' (Keep.foldl ?_ _ _))
    | (with_reducible apply And.intro)
    | exact rfl
    | (refine Keep.fst (by assumption) ?_)
    | (refine Keep.snd (by assumption) ?_)
    | split
    | dsimp only

theorem execComplianceClear_keep : ∀ a0 a1 s, KeepR 536872208 s (execComplianceClear a0 a1 s) := by
  intro a0 a1 s
  unfold execComplianceClear
  extract_lets v0 v1
  try clear_value v1
  have h0 : Keep 536872208 s v0 := by
    unfold v0
    repeat' first
      | with_reducible assumption
      | with_reducible exact Keep.refl _ _
      | intro _
      | (fail_if_no_progress beta_reduce)
      | (with_reducible apply KeepR.next)
      | (with_reducible apply Keep.ite)
      | (with_reducible apply KeepR.ite)
      | (with_reducible apply Keep.ite_fst)
      | (with_reducible apply Keep.snoc (State.begin_keep _ _))
      | (with_reducible apply Keep.snoc (State.diagBoth_keep _ _ _ _))
      | (with_reducible apply Keep.snoc' (Keep.foldl ?_ _ _))
      | (with_reducible apply And.intro)
      | exact rfl
      | (refine Keep.fst (by assumption) ?_)
      | (refine Keep.snd (by assumption) ?_)
      | split
      | dsimp only
  repeat' first
    | with_reducible assumption
    | with_reducible exact Keep.refl _ _
    | intro _
    | (fail_if_no_progress beta_reduce)
    | (with_reducible apply KeepR.next)
    | (with_reducible apply Keep.ite)
    | (with_reducible apply KeepR.ite)
    | (with_reducible apply Keep.ite_fst)
    | (with_reducible apply Keep.snoc (State.begin_keep _ _))
    | (with_reducible apply Keep.snoc (State.diagBoth_keep _ _ _ _))
    | (with_reducible apply Keep.snoc' (Keep.foldl ?_ _ _))
    | (with_reducible apply And.intro)
    | exact rfl
    | (refine Keep.fst (by assumption) ?_)
    | (refine Keep.snd (by assumption) ?_)
    | split
    | dsimp only

theorem execRangeDelayExpiry_keep : ∀ a0 a1 s, KeepR 536872208 s (execRangeDelayExpiry a0 a1 s) := by
  intro a0 a1 s
  unfold execRangeDelayExpiry
  extract_lets v0 v1 v2
  try clear_value v2
  try clear_value v1
  have h0 : Keep 536872208 s v0 := by
    unfold v0
    repeat' first
      | with_reducible assumption
      | with_reducible exact Keep.refl _ _
      | intro _
      | (fail_if_no_progress beta_reduce)
      | (with_reducible apply KeepR.next)
      | (with_reducible apply Keep.ite)
      | (with_reducible apply KeepR.ite)
      | (with_reducible apply Keep.ite_fst)
      | (with_reducible apply Keep.snoc (State.begin_keep _ _))
      | (with_reducible apply Keep.snoc (State.diagBoth_keep _ _ _ _))
      | (with_reducible apply Keep.snoc (State.updChan_keep _ _ _))
      | (with_reducible apply Keep.snoc' (Keep.foldl ?_ _ _))
      | (with_reducible apply And.intro)
      | exact rfl
      | (refine Keep.fst (by assumption) ?_)
      | (refine Keep.snd (by assumption) ?_)
      | split
      | dsimp only
  repeat' first
    | with_reducible assumption
    | with_reducible exact Keep.refl _ _
    | intro _
    | (fail_if_no_progress beta_reduce)
    | (with_reducible apply KeepR.next)
    | (with_reducible apply Keep.ite)
    | (with_reducible apply KeepR.ite)
    | (with_reducible apply Keep.ite_fst)
    | (with_reducible apply Keep.snoc (State.begin_keep _ _))
    | (with_reducible apply Keep.snoc (State.diagBoth_keep _ _ _ _))
    | (with_reducible apply Keep.snoc (State.updChan_keep _ _ _))
    | (with_reducible apply Keep.snoc' (Keep.foldl ?_ _ _))
    | (with_reducible apply And.intro)
    | exact rfl
    | (refine Keep.fst (by assumption) ?_)
    | (refine Keep.snd (by assumption) ?_)
    | split
    | dsimp only

end Sys2Proof.Machine
end

