-- ==== Sys2Proof/Laws/KeepAdmit.lean ====
section
/-! SUPPORT. What each operation and meaning of Machine/Admit.lean leaves alone. -/

namespace Sys2Proof.Machine

set_option linter.unusedTactic false
set_option linter.unreachableTactic false

theorem State.answerCrossings_keep : ∀ a0 a1 s, Keep 64 s (State.answerCrossings a0 a1 s) := by
  intro a0 a1 s
  unfold State.answerCrossings
  refine Keep.snoc' (Keep.foldl (fun _ _ => ?_) _ _) ?_
  · exact Keep.snoc (State.emit_keep _ _) rfl (Keep.refl _ _)
  · exact Keep.mono (State.set_crossings_keep _ _) rfl

theorem State.markStall_keep : ∀ a0 a1 a2 s, Keep 536871024 s (State.markStall a0 a1 a2 s) := by
  intro a0 a1 a2 s
  unfold State.markStall
  repeat' first
    | with_reducible assumption
    | with_reducible exact Keep.refl _ _
    | intro _
    | (fail_if_no_progress beta_reduce)
    | (with_reducible apply KeepR.next)
    | (with_reducible apply Keep.ite)
    | (with_reducible apply KeepR.ite)
    | (with_reducible apply Keep.ite_fst)
    | (with_reducible apply Keep.snoc (State.answerCrossings_keep _ _ _))
    | (with_reducible apply Keep.snoc (State.record_keep _ _ _ _))
    | (with_reducible apply Keep.snoc (State.updIsland_live _ _ _))
    | (with_reducible apply Keep.snoc' (Keep.foldl ?_ _ _))
    | (with_reducible apply And.intro)
    | exact rfl
    | (refine Keep.fst (by assumption) ?_)
    | (refine Keep.snd (by assumption) ?_)
    | split
    | dsimp only

end Sys2Proof.Machine
end

