-- ==== Sys2Proof/Laws/KeepGroups.lean ====
section
/-! SUPPORT. What each operation and meaning of Machine/Groups.lean leaves alone. -/

namespace Sys2Proof.Machine

set_option linter.unusedTactic false
set_option linter.unreachableTactic false

theorem State.groupBegin_keep : ∀ a0 a1 s, Keep 629152784 s (State.groupBegin a0 a1 s) := by
  intro a0 a1 s
  unfold State.groupBegin
  extract_lets v0 v1
  try clear_value v0
  have h1 : Keep 629152784 s v1 := by
    unfold v1
    repeat' first
      | with_reducible assumption
      | with_reducible exact Keep.refl _ _
      | intro _
      | (fail_if_no_progress beta_reduce)
      | (with_reducible apply KeepR.next)
      | (with_reducible apply Keep.ite)
      | (with_reducible apply KeepR.ite)
      | (with_reducible apply Keep.ite_fst)
      | (with_reducible apply Keep.snoc (State.hartFlush_keep _ _ _))
      | (with_reducible apply Keep.snoc (State.putDiag_keep _ _ _ _))
      | (with_reducible apply Keep.snoc (State.updChan_keep _ _ _))
      | (with_reducible apply Keep.snoc (State.updGroup_keep _ _ _))
      | (with_reducible apply Keep.snoc' (Keep.forAll ?_ _))
      | (with_reducible apply Keep.snoc' (Keep.foldl ?_ _ _))
      | (with_reducible apply And.intro)
      | exact rfl
      | (refine Keep.fst (by assumption) ?_)
      | (refine Keep.snd (by assumption) ?_)
      | split
      | dsimp only
  repeat' first
    | with_reducible assumption
    | with_reducible exact Keep.refl _ _
    | intro _
    | (fail_if_no_progress beta_reduce)
    | (with_reducible apply KeepR.next)
    | (with_reducible apply Keep.ite)
    | (with_reducible apply KeepR.ite)
    | (with_reducible apply Keep.ite_fst)
    | (with_reducible apply Keep.snoc (State.hartFlush_keep _ _ _))
    | (with_reducible apply Keep.snoc (State.putDiag_keep _ _ _ _))
    | (with_reducible apply Keep.snoc (State.updChan_keep _ _ _))
    | (with_reducible apply Keep.snoc (State.updGroup_keep _ _ _))
    | (with_reducible apply Keep.snoc' (Keep.forAll ?_ _))
    | (with_reducible apply Keep.snoc' (Keep.foldl ?_ _ _))
    | (with_reducible apply And.intro)
    | exact rfl
    | (refine Keep.fst (by assumption) ?_)
    | (refine Keep.snd (by assumption) ?_)
    | split
    | dsimp only

theorem execGroupConfig_keep : ∀ a0 a1 a2 s, KeepR 629152784 s (execGroupConfig a0 a1 a2 s) := by
  intro a0 a1 a2 s
  unfold execGroupConfig
  extract_lets v0
  have h0 : Keep 629152784 s v0 := by
    unfold v0
    repeat' first
      | with_reducible assumption
      | with_reducible exact Keep.refl _ _
      | intro _
      | (fail_if_no_progress beta_reduce)
      | (with_reducible apply KeepR.next)
      | (with_reducible apply Keep.ite)
      | (with_reducible apply KeepR.ite)
      | (with_reducible apply Keep.ite_fst)
      | (with_reducible apply Keep.snoc (State.begin_keep _ _))
      | (with_reducible apply Keep.snoc (State.groupBegin_keep _ _ _))
      | (with_reducible apply serve_keep)
      | (with_reducible apply Keep.snoc' (Keep.foldl ?_ _ _))
      | (with_reducible apply And.intro)
      | exact rfl
      | (refine Keep.fst (by assumption) ?_)
      | (refine Keep.snd (by assumption) ?_)
      | split
      | dsimp only
  repeat' first
    | with_reducible assumption
    | with_reducible exact Keep.refl _ _
    | intro _
    | (fail_if_no_progress beta_reduce)
    | (with_reducible apply KeepR.next)
    | (with_reducible apply Keep.ite)
    | (with_reducible apply KeepR.ite)
    | (with_reducible apply Keep.ite_fst)
    | (with_reducible apply Keep.snoc (State.begin_keep _ _))
    | (with_reducible apply Keep.snoc (State.groupBegin_keep _ _ _))
    | (with_reducible apply serve_keep)
    | (with_reducible apply Keep.snoc' (Keep.foldl ?_ _ _))
    | (with_reducible apply And.intro)
    | exact rfl
    | (refine Keep.fst (by assumption) ?_)
    | (refine Keep.snd (by assumption) ?_)
    | split
    | dsimp only

theorem State.writeOwners_keep : ∀ a0 a1 s, Keep 134217728 s (State.writeOwners a0 a1 s) := by
  intro a0 a1 s
  unfold State.writeOwners
  extract_lets v0 v1 v2
  try clear_value v2
  try clear_value v1
  try clear_value v0
  repeat' first
    | with_reducible assumption
    | with_reducible exact Keep.refl _ _
    | intro _
    | (fail_if_no_progress beta_reduce)
    | (with_reducible apply KeepR.next)
    | (with_reducible apply Keep.ite)
    | (with_reducible apply KeepR.ite)
    | (with_reducible apply Keep.ite_fst)
    | (with_reducible apply Keep.snoc (State.updRegs_keep _ _))
    | (with_reducible apply Keep.snoc' (Keep.foldl ?_ _ _))
    | (with_reducible apply And.intro)
    | exact rfl
    | (refine Keep.fst (by assumption) ?_)
    | (refine Keep.snd (by assumption) ?_)
    | split
    | dsimp only

theorem State.groupAdopt_keep : ∀ a0 a1 a2 s, Keep 134224896 s (State.groupAdopt a0 a1 a2 s) := by
  intro a0 a1 a2 s
  unfold State.groupAdopt
  extract_lets v0 v1 v2 v3
  try clear_value v0
  have h1 : Keep 134224896 s v1 := by
    unfold v1
    repeat' first
      | with_reducible assumption
      | with_reducible exact Keep.refl _ _
      | intro _
      | (fail_if_no_progress beta_reduce)
      | (with_reducible apply KeepR.next)
      | (with_reducible apply Keep.ite)
      | (with_reducible apply KeepR.ite)
      | (with_reducible apply Keep.ite_fst)
      | (with_reducible apply Keep.snoc (State.updChan_keep _ _ _))
      | (with_reducible apply Keep.snoc (State.updGroup_keep _ _ _))
      | (with_reducible apply Keep.snoc (State.updHart_keep _ _ _))
      | (with_reducible apply Keep.snoc (State.writeOwners_keep _ _ _))
      | (with_reducible apply Keep.snoc' (Keep.forAll ?_ _))
      | (with_reducible apply Keep.snoc' (Keep.foldl ?_ _ _))
      | (with_reducible apply And.intro)
      | exact rfl
      | (refine Keep.fst (by assumption) ?_)
      | (refine Keep.snd (by assumption) ?_)
      | split
      | dsimp only
  have h2 : Keep 134224896 s v2 := by
    unfold v2
    repeat' first
      | with_reducible assumption
      | with_reducible exact Keep.refl _ _
      | intro _
      | (fail_if_no_progress beta_reduce)
      | (with_reducible apply KeepR.next)
      | (with_reducible apply Keep.ite)
      | (with_reducible apply KeepR.ite)
      | (with_reducible apply Keep.ite_fst)
      | (with_reducible apply Keep.snoc (State.updChan_keep _ _ _))
      | (with_reducible apply Keep.snoc (State.updGroup_keep _ _ _))
      | (with_reducible apply Keep.snoc (State.updHart_keep _ _ _))
      | (with_reducible apply Keep.snoc (State.writeOwners_keep _ _ _))
      | (with_reducible apply Keep.snoc' (Keep.forAll ?_ _))
      | (with_reducible apply Keep.snoc' (Keep.foldl ?_ _ _))
      | (with_reducible apply And.intro)
      | exact rfl
      | (refine Keep.fst (by assumption) ?_)
      | (refine Keep.snd (by assumption) ?_)
      | split
      | dsimp only
  have h3 : Keep 134224896 s v3 := by
    unfold v3
    repeat' first
      | with_reducible assumption
      | with_reducible exact Keep.refl _ _
      | intro _
      | (fail_if_no_progress beta_reduce)
      | (with_reducible apply KeepR.next)
      | (with_reducible apply Keep.ite)
      | (with_reducible apply KeepR.ite)
      | (with_reducible apply Keep.ite_fst)
      | (with_reducible apply Keep.snoc (State.updChan_keep _ _ _))
      | (with_reducible apply Keep.snoc (State.updGroup_keep _ _ _))
      | (with_reducible apply Keep.snoc (State.updHart_keep _ _ _))
      | (with_reducible apply Keep.snoc (State.writeOwners_keep _ _ _))
      | (with_reducible apply Keep.snoc' (Keep.forAll ?_ _))
      | (with_reducible apply Keep.snoc' (Keep.foldl ?_ _ _))
      | (with_reducible apply And.intro)
      | exact rfl
      | (refine Keep.fst (by assumption) ?_)
      | (refine Keep.snd (by assumption) ?_)
      | split
      | dsimp only
  repeat' first
    | with_reducible assumption
    | with_reducible exact Keep.refl _ _
    | intro _
    | (fail_if_no_progress beta_reduce)
    | (with_reducible apply KeepR.next)
    | (with_reducible apply Keep.ite)
    | (with_reducible apply KeepR.ite)
    | (with_reducible apply Keep.ite_fst)
    | (with_reducible apply Keep.snoc (State.updChan_keep _ _ _))
    | (with_reducible apply Keep.snoc (State.updGroup_keep _ _ _))
    | (with_reducible apply Keep.snoc (State.updHart_keep _ _ _))
    | (with_reducible apply Keep.snoc (State.writeOwners_keep _ _ _))
    | (with_reducible apply Keep.snoc' (Keep.forAll ?_ _))
    | (with_reducible apply Keep.snoc' (Keep.foldl ?_ _ _))
    | (with_reducible apply And.intro)
    | exact rfl
    | (refine Keep.fst (by assumption) ?_)
    | (refine Keep.snd (by assumption) ?_)
    | split
    | dsimp only

theorem execCfgCommit_keep : ∀ a0 a1 s, KeepR 671096592 s (execCfgCommit a0 a1 s) := by
  intro a0 a1 s
  unfold execCfgCommit
  extract_lets v0 v1
  try clear_value v1
  have h0 : Keep 671096592 s v0 := by
    unfold v0
    repeat' first
      | with_reducible assumption
      | with_reducible exact Keep.refl _ _
      | intro _
      | (fail_if_no_progress beta_reduce)
      | (with_reducible apply KeepR.next)
      | (with_reducible apply Keep.ite)
      | (with_reducible apply KeepR.ite)
      | (with_reducible apply Keep.ite_fst)
      | (with_reducible apply Keep.snoc (State.begin_keep _ _))
      | (with_reducible apply Keep.snoc (State.gfeAdopt_keep _ _ _ _))
      | (with_reducible apply Keep.snoc (State.groupAdopt_keep _ _ _ _))
      | (with_reducible apply Keep.snoc (State.record_keep _ _ _ _))
      | (with_reducible apply Keep.snoc (State.updGroup_keep _ _ _))
      | (with_reducible apply Keep.snoc' (Keep.foldl ?_ _ _))
      | (with_reducible apply And.intro)
      | exact rfl
      | (refine Keep.fst (by assumption) ?_)
      | (refine Keep.snd (by assumption) ?_)
      | split
      | dsimp only
  repeat' first
    | with_reducible assumption
    | with_reducible exact Keep.refl _ _
    | intro _
    | (fail_if_no_progress beta_reduce)
    | (with_reducible apply KeepR.next)
    | (with_reducible apply Keep.ite)
    | (with_reducible apply KeepR.ite)
    | (with_reducible apply Keep.ite_fst)
    | (with_reducible apply Keep.snoc (State.begin_keep _ _))
    | (with_reducible apply Keep.snoc (State.gfeAdopt_keep _ _ _ _))
    | (with_reducible apply Keep.snoc (State.groupAdopt_keep _ _ _ _))
    | (with_reducible apply Keep.snoc (State.record_keep _ _ _ _))
    | (with_reducible apply Keep.snoc (State.updGroup_keep _ _ _))
    | (with_reducible apply Keep.snoc' (Keep.foldl ?_ _ _))
    | (with_reducible apply And.intro)
    | exact rfl
    | (refine Keep.fst (by assumption) ?_)
    | (refine Keep.snd (by assumption) ?_)
    | split
    | dsimp only

theorem State.loadChar_keep : ∀ a0 s, Keep 9663684608 s (State.loadChar a0 s) := by
  intro a0 s
  unfold State.loadChar
  repeat' first
    | with_reducible assumption
    | with_reducible exact Keep.refl _ _
    | intro _
    | (fail_if_no_progress beta_reduce)
    | (with_reducible apply KeepR.next)
    | (with_reducible apply Keep.ite)
    | (with_reducible apply KeepR.ite)
    | (with_reducible apply Keep.ite_fst)
    | (with_reducible apply Keep.mono (State.set_chars_keep _ _))
    | (with_reducible apply Keep.snoc (State.storeObject_keep _ _ _ _))
    | (with_reducible apply Keep.snoc' (Keep.foldl ?_ _ _))
    | (with_reducible apply And.intro)
    | exact rfl
    | (refine Keep.fst (by assumption) ?_)
    | (refine Keep.snd (by assumption) ?_)
    | split
    | dsimp only

theorem execCharLoad_keep : ∀ a0 a1 a2 s, KeepR 9755959296 s (execCharLoad a0 a1 a2 s) := by
  intro a0 a1 a2 s
  unfold execCharLoad
  extract_lets v0
  have h0 : Keep 9755959296 s v0 := by
    unfold v0
    repeat' first
      | with_reducible assumption
      | with_reducible exact Keep.refl _ _
      | intro _
      | (fail_if_no_progress beta_reduce)
      | (with_reducible apply KeepR.next)
      | (with_reducible apply Keep.ite)
      | (with_reducible apply KeepR.ite)
      | (with_reducible apply Keep.ite_fst)
      | (with_reducible apply Keep.snoc (State.begin_keep _ _))
      | (with_reducible apply Keep.snoc (State.complete_keep _ _ _))
      | (with_reducible apply Keep.snoc (State.loadChar_keep _ _))
      | (with_reducible apply serve_keep)
      | (with_reducible apply Keep.snoc' (Keep.foldl ?_ _ _))
      | (with_reducible apply And.intro)
      | exact rfl
      | (refine Keep.fst (by assumption) ?_)
      | (refine Keep.snd (by assumption) ?_)
      | split
      | dsimp only
  repeat' first
    | with_reducible assumption
    | with_reducible exact Keep.refl _ _
    | intro _
    | (fail_if_no_progress beta_reduce)
    | (with_reducible apply KeepR.next)
    | (with_reducible apply Keep.ite)
    | (with_reducible apply KeepR.ite)
    | (with_reducible apply Keep.ite_fst)
    | (with_reducible apply Keep.snoc (State.begin_keep _ _))
    | (with_reducible apply Keep.snoc (State.complete_keep _ _ _))
    | (with_reducible apply Keep.snoc (State.loadChar_keep _ _))
    | (with_reducible apply serve_keep)
    | (with_reducible apply Keep.snoc' (Keep.foldl ?_ _ _))
    | (with_reducible apply And.intro)
    | exact rfl
    | (refine Keep.fst (by assumption) ?_)
    | (refine Keep.snd (by assumption) ?_)
    | split
    | dsimp only

theorem execCalibrationCheck_keep : ∀ a0 a1 s, KeepR 1024 s (execCalibrationCheck a0 a1 s) := by
  intro a0 a1 s
  unfold execCalibrationCheck
  extract_lets v0 v1 v2 v3 v4
  try clear_value v4
  try clear_value v3
  try clear_value v2
  try clear_value v1
  have h0 : Keep 1024 s v0 := by
    unfold v0
    repeat' first
      | with_reducible assumption
      | with_reducible exact Keep.refl _ _
      | intro _
      | (fail_if_no_progress beta_reduce)
      | (with_reducible apply KeepR.next)
      | (with_reducible apply Keep.ite)
      | (with_reducible apply KeepR.ite)
      | (with_reducible apply Keep.ite_fst)
      | (with_reducible apply Keep.snoc (State.begin_keep _ _))
      | (with_reducible apply Keep.snoc (State.updChan_keep _ _ _))
      | (with_reducible apply Keep.snoc' (Keep.foldl ?_ _ _))
      | (with_reducible apply And.intro)
      | exact rfl
      | (refine Keep.fst (by assumption) ?_)
      | (refine Keep.snd (by assumption) ?_)
      | split
      | dsimp only
  repeat' first
    | with_reducible assumption
    | with_reducible exact Keep.refl _ _
    | intro _
    | (fail_if_no_progress beta_reduce)
    | (with_reducible apply KeepR.next)
    | (with_reducible apply Keep.ite)
    | (with_reducible apply KeepR.ite)
    | (with_reducible apply Keep.ite_fst)
    | (with_reducible apply Keep.snoc (State.begin_keep _ _))
    | (with_reducible apply Keep.snoc (State.updChan_keep _ _ _))
    | (with_reducible apply Keep.snoc' (Keep.foldl ?_ _ _))
    | (with_reducible apply And.intro)
    | exact rfl
    | (refine Keep.fst (by assumption) ?_)
    | (refine Keep.snd (by assumption) ?_)
    | split
    | dsimp only

theorem execCalibrationCheckEnd_keep : ∀ a0 a1 a2 a3 s, KeepR 9193915408 s (execCalibrationCheckEnd a0 a1 a2 a3 s) := by
  intro a0 a1 a2 a3 s
  unfold execCalibrationCheckEnd
  extract_lets v0 v1 v2 v3 v4 v5 v6 v7
  try clear_value v2
  try clear_value v1
  have h0 : Keep 9193915408 s v0 := by
    unfold v0
    repeat' first
      | with_reducible assumption
      | with_reducible exact Keep.refl _ _
      | intro _
      | (fail_if_no_progress beta_reduce)
      | (with_reducible apply KeepR.next)
      | (with_reducible apply Keep.ite)
      | (with_reducible apply KeepR.ite)
      | (with_reducible apply Keep.ite_fst)
      | (with_reducible apply Keep.snoc (State.begin_keep _ _))
      | (with_reducible apply Keep.snoc (State.ledgerWarn_keep _ _ _ _ _))
      | (with_reducible apply Keep.snoc (State.measure_keep _ _ _ _ _))
      | (with_reducible apply Keep.snoc (State.record_keep _ _ _ _))
      | (with_reducible apply Keep.snoc (State.settleHealth_keep _))
      | (with_reducible apply Keep.snoc (State.updChan_keep _ _ _))
      | (with_reducible apply Keep.snoc' (Keep.foldl ?_ _ _))
      | (with_reducible apply And.intro)
      | exact rfl
      | (refine Keep.fst (by assumption) ?_)
      | (refine Keep.snd (by assumption) ?_)
      | split
      | dsimp only
  have h3 : Keep 9193915408 s v3 := by
    unfold v3
    repeat' first
      | with_reducible assumption
      | with_reducible exact Keep.refl _ _
      | intro _
      | (fail_if_no_progress beta_reduce)
      | (with_reducible apply KeepR.next)
      | (with_reducible apply Keep.ite)
      | (with_reducible apply KeepR.ite)
      | (with_reducible apply Keep.ite_fst)
      | (with_reducible apply Keep.snoc (State.begin_keep _ _))
      | (with_reducible apply Keep.snoc (State.ledgerWarn_keep _ _ _ _ _))
      | (with_reducible apply Keep.snoc (State.measure_keep _ _ _ _ _))
      | (with_reducible apply Keep.snoc (State.record_keep _ _ _ _))
      | (with_reducible apply Keep.snoc (State.settleHealth_keep _))
      | (with_reducible apply Keep.snoc (State.updChan_keep _ _ _))
      | (with_reducible apply Keep.snoc' (Keep.foldl ?_ _ _))
      | (with_reducible apply And.intro)
      | exact rfl
      | (refine Keep.fst (by assumption) ?_)
      | (refine Keep.snd (by assumption) ?_)
      | split
      | dsimp only
  have h4 : Keep 9193915408 s v4 := by
    unfold v4
    repeat' first
      | with_reducible assumption
      | with_reducible exact Keep.refl _ _
      | intro _
      | (fail_if_no_progress beta_reduce)
      | (with_reducible apply KeepR.next)
      | (with_reducible apply Keep.ite)
      | (with_reducible apply KeepR.ite)
      | (with_reducible apply Keep.ite_fst)
      | (with_reducible apply Keep.snoc (State.begin_keep _ _))
      | (with_reducible apply Keep.snoc (State.ledgerWarn_keep _ _ _ _ _))
      | (with_reducible apply Keep.snoc (State.measure_keep _ _ _ _ _))
      | (with_reducible apply Keep.snoc (State.record_keep _ _ _ _))
      | (with_reducible apply Keep.snoc (State.settleHealth_keep _))
      | (with_reducible apply Keep.snoc (State.updChan_keep _ _ _))
      | (with_reducible apply Keep.snoc' (Keep.foldl ?_ _ _))
      | (with_reducible apply And.intro)
      | exact rfl
      | (refine Keep.fst (by assumption) ?_)
      | (refine Keep.snd (by assumption) ?_)
      | split
      | dsimp only
  have h5 : Keep 9193915408 s v5 := by
    unfold v5
    repeat' first
      | with_reducible assumption
      | with_reducible exact Keep.refl _ _
      | intro _
      | (fail_if_no_progress beta_reduce)
      | (with_reducible apply KeepR.next)
      | (with_reducible apply Keep.ite)
      | (with_reducible apply KeepR.ite)
      | (with_reducible apply Keep.ite_fst)
      | (with_reducible apply Keep.snoc (State.begin_keep _ _))
      | (with_reducible apply Keep.snoc (State.ledgerWarn_keep _ _ _ _ _))
      | (with_reducible apply Keep.snoc (State.measure_keep _ _ _ _ _))
      | (with_reducible apply Keep.snoc (State.record_keep _ _ _ _))
      | (with_reducible apply Keep.snoc (State.settleHealth_keep _))
      | (with_reducible apply Keep.snoc (State.updChan_keep _ _ _))
      | (with_reducible apply Keep.snoc' (Keep.foldl ?_ _ _))
      | (with_reducible apply And.intro)
      | exact rfl
      | (refine Keep.fst (by assumption) ?_)
      | (refine Keep.snd (by assumption) ?_)
      | split
      | dsimp only
  have h6 : Keep 9193915408 s v6 := by
    unfold v6
    repeat' first
      | with_reducible assumption
      | with_reducible exact Keep.refl _ _
      | intro _
      | (fail_if_no_progress beta_reduce)
      | (with_reducible apply KeepR.next)
      | (with_reducible apply Keep.ite)
      | (with_reducible apply KeepR.ite)
      | (with_reducible apply Keep.ite_fst)
      | (with_reducible apply Keep.snoc (State.begin_keep _ _))
      | (with_reducible apply Keep.snoc (State.ledgerWarn_keep _ _ _ _ _))
      | (with_reducible apply Keep.snoc (State.measure_keep _ _ _ _ _))
      | (with_reducible apply Keep.snoc (State.record_keep _ _ _ _))
      | (with_reducible apply Keep.snoc (State.settleHealth_keep _))
      | (with_reducible apply Keep.snoc (State.updChan_keep _ _ _))
      | (with_reducible apply Keep.snoc' (Keep.foldl ?_ _ _))
      | (with_reducible apply And.intro)
      | exact rfl
      | (refine Keep.fst (by assumption) ?_)
      | (refine Keep.snd (by assumption) ?_)
      | split
      | dsimp only
  have h7 : Keep 9193915408 s v7 := by
    unfold v7
    repeat' first
      | with_reducible assumption
      | with_reducible exact Keep.refl _ _
      | intro _
      | (fail_if_no_progress beta_reduce)
      | (with_reducible apply KeepR.next)
      | (with_reducible apply Keep.ite)
      | (with_reducible apply KeepR.ite)
      | (with_reducible apply Keep.ite_fst)
      | (with_reducible apply Keep.snoc (State.begin_keep _ _))
      | (with_reducible apply Keep.snoc (State.ledgerWarn_keep _ _ _ _ _))
      | (with_reducible apply Keep.snoc (State.measure_keep _ _ _ _ _))
      | (with_reducible apply Keep.snoc (State.record_keep _ _ _ _))
      | (with_reducible apply Keep.snoc (State.settleHealth_keep _))
      | (with_reducible apply Keep.snoc (State.updChan_keep _ _ _))
      | (with_reducible apply Keep.snoc' (Keep.foldl ?_ _ _))
      | (with_reducible apply And.intro)
      | exact rfl
      | (refine Keep.fst (by assumption) ?_)
      | (refine Keep.snd (by assumption) ?_)
      | split
      | dsimp only
  repeat' first
    | with_reducible assumption
    | with_reducible exact Keep.refl _ _
    | intro _
    | (fail_if_no_progress beta_reduce)
    | (with_reducible apply KeepR.next)
    | (with_reducible apply Keep.ite)
    | (with_reducible apply KeepR.ite)
    | (with_reducible apply Keep.ite_fst)
    | (with_reducible apply Keep.snoc (State.begin_keep _ _))
    | (with_reducible apply Keep.snoc (State.ledgerWarn_keep _ _ _ _ _))
    | (with_reducible apply Keep.snoc (State.measure_keep _ _ _ _ _))
    | (with_reducible apply Keep.snoc (State.record_keep _ _ _ _))
    | (with_reducible apply Keep.snoc (State.settleHealth_keep _))
    | (with_reducible apply Keep.snoc (State.updChan_keep _ _ _))
    | (with_reducible apply Keep.snoc' (Keep.foldl ?_ _ _))
    | (with_reducible apply And.intro)
    | exact rfl
    | (refine Keep.fst (by assumption) ?_)
    | (refine Keep.snd (by assumption) ?_)
    | split
    | dsimp only

end Sys2Proof.Machine
end

