-- ==== Sys2Proof/Laws/KeepHart.lean ====
section
/-! SUPPORT. What each operation and meaning of Machine/Hart.lean leaves alone. -/

namespace Sys2Proof.Machine

set_option linter.unusedTactic false
set_option linter.unreachableTactic false

theorem State.hartEnqueue_keep : ∀ a0 a1 s, Keep 92278784 s (State.hartEnqueue a0 a1 s) := by
  intro a0 a1 s
  unfold State.hartEnqueue
  repeat' first
    | with_reducible assumption
    | with_reducible exact Keep.refl _ _
    | intro _
    | (fail_if_no_progress beta_reduce)
    | (with_reducible apply KeepR.next)
    | (with_reducible apply Keep.ite)
    | (with_reducible apply KeepR.ite)
    | (with_reducible apply Keep.ite_fst)
    | (with_reducible apply Keep.snoc (State.complete_keep _ _ _))
    | (with_reducible apply Keep.snoc (State.updHart_keep _ _ _))
    | (with_reducible apply Keep.snoc' (Keep.foldl ?_ _ _))
    | (with_reducible apply And.intro)
    | exact rfl
    | (refine Keep.fst (by assumption) ?_)
    | (refine Keep.snd (by assumption) ?_)
    | split
    | dsimp only

theorem execHartRequest_keep : ∀ a0 a1 a2 s, KeepR 92278784 s (execHartRequest a0 a1 a2 s) := by
  intro a0 a1 a2 s
  unfold execHartRequest
  extract_lets v0
  have h0 : Keep 92278784 s v0 := by
    unfold v0
    repeat' first
      | with_reducible assumption
      | with_reducible exact Keep.refl _ _
      | intro _
      | (fail_if_no_progress beta_reduce)
      | (with_reducible apply KeepR.next)
      | (with_reducible apply Keep.ite)
      | (with_reducible apply KeepR.ite)
      | (with_reducible apply Keep.ite_fst)
      | (with_reducible apply Keep.snoc (State.begin_keep _ _))
      | (with_reducible apply Keep.snoc (State.hartEnqueue_keep _ _ _))
      | (with_reducible apply serve_keep)
      | (with_reducible apply Keep.snoc' (Keep.foldl ?_ _ _))
      | (with_reducible apply And.intro)
      | exact rfl
      | (refine Keep.fst (by assumption) ?_)
      | (refine Keep.snd (by assumption) ?_)
      | split
      | dsimp only
  repeat' first
    | with_reducible assumption
    | with_reducible exact Keep.refl _ _
    | intro _
    | (fail_if_no_progress beta_reduce)
    | (with_reducible apply KeepR.next)
    | (with_reducible apply Keep.ite)
    | (with_reducible apply KeepR.ite)
    | (with_reducible apply Keep.ite_fst)
    | (with_reducible apply Keep.snoc (State.begin_keep _ _))
    | (with_reducible apply Keep.snoc (State.hartEnqueue_keep _ _ _))
    | (with_reducible apply serve_keep)
    | (with_reducible apply Keep.snoc' (Keep.foldl ?_ _ _))
    | (with_reducible apply And.intro)
    | exact rfl
    | (refine Keep.fst (by assumption) ?_)
    | (refine Keep.snd (by assumption) ?_)
    | split
    | dsimp only

theorem execHartTransmitStart_keep : ∀ a0 a1 s, KeepR 4096 s (execHartTransmitStart a0 a1 s) := by
  intro a0 a1 s
  unfold execHartTransmitStart
  extract_lets v0 v1
  try clear_value v1
  have h0 : Keep 4096 s v0 := by
    unfold v0
    repeat' first
      | with_reducible assumption
      | with_reducible exact Keep.refl _ _
      | intro _
      | (fail_if_no_progress beta_reduce)
      | (with_reducible apply KeepR.next)
      | (with_reducible apply Keep.ite)
      | (with_reducible apply KeepR.ite)
      | (with_reducible apply Keep.ite_fst)
      | (with_reducible apply Keep.snoc (State.begin_keep _ _))
      | (with_reducible apply Keep.snoc (State.updHart_keep _ _ _))
      | (with_reducible apply Keep.snoc' (Keep.foldl ?_ _ _))
      | (with_reducible apply And.intro)
      | exact rfl
      | (refine Keep.fst (by assumption) ?_)
      | (refine Keep.snd (by assumption) ?_)
      | split
      | dsimp only
  repeat' first
    | with_reducible assumption
    | with_reducible exact Keep.refl _ _
    | intro _
    | (fail_if_no_progress beta_reduce)
    | (with_reducible apply KeepR.next)
    | (with_reducible apply Keep.ite)
    | (with_reducible apply KeepR.ite)
    | (with_reducible apply Keep.ite_fst)
    | (with_reducible apply Keep.snoc (State.begin_keep _ _))
    | (with_reducible apply Keep.snoc (State.updHart_keep _ _ _))
    | (with_reducible apply Keep.snoc' (Keep.foldl ?_ _ _))
    | (with_reducible apply And.intro)
    | exact rfl
    | (refine Keep.fst (by assumption) ?_)
    | (refine Keep.snd (by assumption) ?_)
    | split
    | dsimp only

theorem State.hartFailed_keep : ∀ a0 a1 a2 s, Keep 629150992 s (State.hartFailed a0 a1 a2 s) := by
  intro a0 a1 a2 s
  unfold State.hartFailed
  extract_lets v0 v1
  try clear_value v0
  have h1 : Keep 629150992 s v1 := by
    unfold v1
    repeat' first
      | with_reducible assumption
      | with_reducible exact Keep.refl _ _
      | intro _
      | (fail_if_no_progress beta_reduce)
      | (with_reducible apply KeepR.next)
      | (with_reducible apply Keep.ite)
      | (with_reducible apply KeepR.ite)
      | (with_reducible apply Keep.ite_fst)
      | (with_reducible apply Keep.snoc (State.complete_keep _ _ _))
      | (with_reducible apply Keep.snoc (State.diagBoth_keep _ _ _ _))
      | (with_reducible apply Keep.snoc (State.updHart_keep _ _ _))
      | (with_reducible apply Keep.snoc' (Keep.foldl ?_ _ _))
      | (with_reducible apply And.intro)
      | exact rfl
      | (refine Keep.fst (by assumption) ?_)
      | (refine Keep.snd (by assumption) ?_)
      | split
      | dsimp only
  repeat' first
    | with_reducible assumption
    | with_reducible exact Keep.refl _ _
    | intro _
    | (fail_if_no_progress beta_reduce)
    | (with_reducible apply KeepR.next)
    | (with_reducible apply Keep.ite)
    | (with_reducible apply KeepR.ite)
    | (with_reducible apply Keep.ite_fst)
    | (with_reducible apply Keep.snoc (State.complete_keep _ _ _))
    | (with_reducible apply Keep.snoc (State.diagBoth_keep _ _ _ _))
    | (with_reducible apply Keep.snoc (State.updHart_keep _ _ _))
    | (with_reducible apply Keep.snoc' (Keep.foldl ?_ _ _))
    | (with_reducible apply And.intro)
    | exact rfl
    | (refine Keep.fst (by assumption) ?_)
    | (refine Keep.snd (by assumption) ?_)
    | split
    | dsimp only

theorem execHartResponse_keep : ∀ a0 a1 a2 a3 s, KeepR 629150992 s (execHartResponse a0 a1 a2 a3 s) := by
  intro a0 a1 a2 a3 s
  unfold execHartResponse
  extract_lets v0 v1 v2
  try clear_value v1
  have h0 : Keep 629150992 s v0 := by
    unfold v0
    repeat' first
      | with_reducible assumption
      | with_reducible exact Keep.refl _ _
      | intro _
      | (fail_if_no_progress beta_reduce)
      | (with_reducible apply KeepR.next)
      | (with_reducible apply Keep.ite)
      | (with_reducible apply KeepR.ite)
      | (with_reducible apply Keep.ite_fst)
      | (with_reducible apply Keep.snoc (State.begin_keep _ _))
      | (with_reducible apply Keep.snoc (State.complete_keep _ _ _))
      | (with_reducible apply Keep.snoc (State.diagBoth_keep _ _ _ _))
      | (with_reducible apply Keep.snoc (State.hartFailed_keep _ _ _ _))
      | (with_reducible apply Keep.snoc (State.updHart_keep _ _ _))
      | (with_reducible apply Keep.snoc' (Keep.foldl ?_ _ _))
      | (with_reducible apply And.intro)
      | exact rfl
      | (refine Keep.fst (by assumption) ?_)
      | (refine Keep.snd (by assumption) ?_)
      | split
      | dsimp only
  have h2 : Keep 629150992 s v2 := by
    unfold v2
    repeat' first
      | with_reducible assumption
      | with_reducible exact Keep.refl _ _
      | intro _
      | (fail_if_no_progress beta_reduce)
      | (with_reducible apply KeepR.next)
      | (with_reducible apply Keep.ite)
      | (with_reducible apply KeepR.ite)
      | (with_reducible apply Keep.ite_fst)
      | (with_reducible apply Keep.snoc (State.begin_keep _ _))
      | (with_reducible apply Keep.snoc (State.complete_keep _ _ _))
      | (with_reducible apply Keep.snoc (State.diagBoth_keep _ _ _ _))
      | (with_reducible apply Keep.snoc (State.hartFailed_keep _ _ _ _))
      | (with_reducible apply Keep.snoc (State.updHart_keep _ _ _))
      | (with_reducible apply Keep.snoc' (Keep.foldl ?_ _ _))
      | (with_reducible apply And.intro)
      | exact rfl
      | (refine Keep.fst (by assumption) ?_)
      | (refine Keep.snd (by assumption) ?_)
      | split
      | dsimp only
  repeat' first
    | with_reducible assumption
    | with_reducible exact Keep.refl _ _
    | intro _
    | (fail_if_no_progress beta_reduce)
    | (with_reducible apply KeepR.next)
    | (with_reducible apply Keep.ite)
    | (with_reducible apply KeepR.ite)
    | (with_reducible apply Keep.ite_fst)
    | (with_reducible apply Keep.snoc (State.begin_keep _ _))
    | (with_reducible apply Keep.snoc (State.complete_keep _ _ _))
    | (with_reducible apply Keep.snoc (State.diagBoth_keep _ _ _ _))
    | (with_reducible apply Keep.snoc (State.hartFailed_keep _ _ _ _))
    | (with_reducible apply Keep.snoc (State.updHart_keep _ _ _))
    | (with_reducible apply Keep.snoc' (Keep.foldl ?_ _ _))
    | (with_reducible apply And.intro)
    | exact rfl
    | (refine Keep.fst (by assumption) ?_)
    | (refine Keep.snd (by assumption) ?_)
    | split
    | dsimp only

theorem execHartNoResponse_keep : ∀ a0 a1 s, KeepR 629150992 s (execHartNoResponse a0 a1 s) := by
  intro a0 a1 s
  unfold execHartNoResponse
  extract_lets v0 v1
  try clear_value v1
  have h0 : Keep 629150992 s v0 := by
    unfold v0
    repeat' first
      | with_reducible assumption
      | with_reducible exact Keep.refl _ _
      | intro _
      | (fail_if_no_progress beta_reduce)
      | (with_reducible apply KeepR.next)
      | (with_reducible apply Keep.ite)
      | (with_reducible apply KeepR.ite)
      | (with_reducible apply Keep.ite_fst)
      | (with_reducible apply Keep.snoc (State.begin_keep _ _))
      | (with_reducible apply Keep.snoc (State.hartFailed_keep _ _ _ _))
      | (with_reducible apply Keep.snoc' (Keep.foldl ?_ _ _))
      | (with_reducible apply And.intro)
      | exact rfl
      | (refine Keep.fst (by assumption) ?_)
      | (refine Keep.snd (by assumption) ?_)
      | split
      | dsimp only
  repeat' first
    | with_reducible assumption
    | with_reducible exact Keep.refl _ _
    | intro _
    | (fail_if_no_progress beta_reduce)
    | (with_reducible apply KeepR.next)
    | (with_reducible apply Keep.ite)
    | (with_reducible apply KeepR.ite)
    | (with_reducible apply Keep.ite_fst)
    | (with_reducible apply Keep.snoc (State.begin_keep _ _))
    | (with_reducible apply Keep.snoc (State.hartFailed_keep _ _ _ _))
    | (with_reducible apply Keep.snoc' (Keep.foldl ?_ _ _))
    | (with_reducible apply And.intro)
    | exact rfl
    | (refine Keep.fst (by assumption) ?_)
    | (refine Keep.snd (by assumption) ?_)
    | split
    | dsimp only

theorem execHartBurst_keep : ∀ a0 a1 a2 a3 s, KeepR 67112960 s (execHartBurst a0 a1 a2 a3 s) := by
  intro a0 a1 a2 a3 s
  unfold execHartBurst
  extract_lets v0 v1 v2 v3 v4 v5
  try clear_value v5
  try clear_value v3
  try clear_value v2
  try clear_value v1
  have h0 : Keep 67112960 s v0 := by
    unfold v0
    repeat' first
      | with_reducible assumption
      | with_reducible exact Keep.refl _ _
      | intro _
      | (fail_if_no_progress beta_reduce)
      | (with_reducible apply KeepR.next)
      | (with_reducible apply Keep.ite)
      | (with_reducible apply KeepR.ite)
      | (with_reducible apply Keep.ite_fst)
      | (with_reducible apply Keep.snoc (State.begin_keep _ _))
      | (with_reducible apply Keep.snoc (State.postEventAt_keep _ _ _ _ _))
      | (with_reducible apply Keep.snoc (State.updHart_keep _ _ _))
      | (with_reducible apply Keep.snoc' (Keep.foldl ?_ _ _))
      | (with_reducible apply And.intro)
      | exact rfl
      | (refine Keep.fst (by assumption) ?_)
      | (refine Keep.snd (by assumption) ?_)
      | split
      | dsimp only
  have h4 : Keep 67112960 s v4 := by
    unfold v4
    repeat' first
      | with_reducible assumption
      | with_reducible exact Keep.refl _ _
      | intro _
      | (fail_if_no_progress beta_reduce)
      | (with_reducible apply KeepR.next)
      | (with_reducible apply Keep.ite)
      | (with_reducible apply KeepR.ite)
      | (with_reducible apply Keep.ite_fst)
      | (with_reducible apply Keep.snoc (State.begin_keep _ _))
      | (with_reducible apply Keep.snoc (State.postEventAt_keep _ _ _ _ _))
      | (with_reducible apply Keep.snoc (State.updHart_keep _ _ _))
      | (with_reducible apply Keep.snoc' (Keep.foldl ?_ _ _))
      | (with_reducible apply And.intro)
      | exact rfl
      | (refine Keep.fst (by assumption) ?_)
      | (refine Keep.snd (by assumption) ?_)
      | split
      | dsimp only
  repeat' first
    | with_reducible assumption
    | with_reducible exact Keep.refl _ _
    | intro _
    | (fail_if_no_progress beta_reduce)
    | (with_reducible apply KeepR.next)
    | (with_reducible apply Keep.ite)
    | (with_reducible apply KeepR.ite)
    | (with_reducible apply Keep.ite_fst)
    | (with_reducible apply Keep.snoc (State.begin_keep _ _))
    | (with_reducible apply Keep.snoc (State.postEventAt_keep _ _ _ _ _))
    | (with_reducible apply Keep.snoc (State.updHart_keep _ _ _))
    | (with_reducible apply Keep.snoc' (Keep.foldl ?_ _ _))
    | (with_reducible apply And.intro)
    | exact rfl
    | (refine Keep.fst (by assumption) ?_)
    | (refine Keep.snd (by assumption) ?_)
    | split
    | dsimp only

theorem execBurstSilence_keep : ∀ a0 a1 s, KeepR 4096 s (execBurstSilence a0 a1 s) := by
  intro a0 a1 s
  unfold execBurstSilence
  extract_lets v0 v1
  try clear_value v1
  have h0 : Keep 4096 s v0 := by
    unfold v0
    repeat' first
      | with_reducible assumption
      | with_reducible exact Keep.refl _ _
      | intro _
      | (fail_if_no_progress beta_reduce)
      | (with_reducible apply KeepR.next)
      | (with_reducible apply Keep.ite)
      | (with_reducible apply KeepR.ite)
      | (with_reducible apply Keep.ite_fst)
      | (with_reducible apply Keep.snoc (State.begin_keep _ _))
      | (with_reducible apply Keep.snoc (State.updHart_keep _ _ _))
      | (with_reducible apply Keep.snoc' (Keep.foldl ?_ _ _))
      | (with_reducible apply And.intro)
      | exact rfl
      | (refine Keep.fst (by assumption) ?_)
      | (refine Keep.snd (by assumption) ?_)
      | split
      | dsimp only
  repeat' first
    | with_reducible assumption
    | with_reducible exact Keep.refl _ _
    | intro _
    | (fail_if_no_progress beta_reduce)
    | (with_reducible apply KeepR.next)
    | (with_reducible apply Keep.ite)
    | (with_reducible apply KeepR.ite)
    | (with_reducible apply Keep.ite_fst)
    | (with_reducible apply Keep.snoc (State.begin_keep _ _))
    | (with_reducible apply Keep.snoc (State.updHart_keep _ _ _))
    | (with_reducible apply Keep.snoc' (Keep.foldl ?_ _ _))
    | (with_reducible apply And.intro)
    | exact rfl
    | (refine Keep.fst (by assumption) ?_)
    | (refine Keep.snd (by assumption) ?_)
    | split
    | dsimp only

end Sys2Proof.Machine
end

