-- ==== Sys2Proof/Laws/KeepStores.lean ====
section
/-! SUPPORT. What each operation and meaning of Machine/Stores.lean leaves alone. -/

namespace Sys2Proof.Machine

set_option linter.unusedTactic false
set_option linter.unreachableTactic false

theorem execRecordFlashCopy_keep : ∀ a0 a1 s, KeepR 536870912 s (execRecordFlashCopy a0 a1 s) := by
  intro a0 a1 s
  unfold execRecordFlashCopy
  extract_lets v0
  have h0 : Keep 536870912 s v0 := by
    unfold v0
    repeat' first
      | with_reducible assumption
      | with_reducible exact Keep.refl _ _
      | intro _
      | (fail_if_no_progress beta_reduce)
      | (with_reducible apply KeepR.next)
      | (with_reducible apply Keep.ite)
      | (with_reducible apply KeepR.ite)
      | (with_reducible apply Keep.ite_fst)
      | (with_reducible apply Keep.snoc (State.begin_keep _ _))
      | (with_reducible apply Keep.snoc (State.updRec_keep _ _))
      | (with_reducible apply Keep.snoc' (Keep.foldl ?_ _ _))
      | (with_reducible apply And.intro)
      | exact rfl
      | (refine Keep.fst (by assumption) ?_)
      | (refine Keep.snd (by assumption) ?_)
      | split
      | dsimp only
  repeat' first
    | with_reducible assumption
    | with_reducible exact Keep.refl _ _
    | intro _
    | (fail_if_no_progress beta_reduce)
    | (with_reducible apply KeepR.next)
    | (with_reducible apply Keep.ite)
    | (with_reducible apply KeepR.ite)
    | (with_reducible apply Keep.ite_fst)
    | (with_reducible apply Keep.snoc (State.begin_keep _ _))
    | (with_reducible apply Keep.snoc (State.updRec_keep _ _))
    | (with_reducible apply Keep.snoc' (Keep.foldl ?_ _ _))
    | (with_reducible apply And.intro)
    | exact rfl
    | (refine Keep.fst (by assumption) ?_)
    | (refine Keep.snd (by assumption) ?_)
    | split
    | dsimp only

theorem execSectorEraseEnd_keep : ∀ a0 a1 s, KeepR 9193914384 s (execSectorEraseEnd a0 a1 s) := by
  intro a0 a1 s
  unfold execSectorEraseEnd
  extract_lets v0 v1
  have h0 : Keep 9193914384 s v0 := by
    unfold v0
    repeat' first
      | with_reducible assumption
      | with_reducible exact Keep.refl _ _
      | intro _
      | (fail_if_no_progress beta_reduce)
      | (with_reducible apply KeepR.next)
      | (with_reducible apply Keep.ite)
      | (with_reducible apply KeepR.ite)
      | (with_reducible apply Keep.ite_fst)
      | (with_reducible apply Keep.snoc (State.begin_keep _ _))
      | (with_reducible apply Keep.snoc (State.ledgerWarn_keep _ _ _ _ _))
      | (with_reducible apply Keep.snoc (State.measure_keep _ _ _ _ _))
      | (with_reducible apply Keep.snoc (State.record_keep _ _ _ _))
      | (with_reducible apply Keep.snoc (State.updRec_keep _ _))
      | (with_reducible apply Keep.snoc' (Keep.foldl ?_ _ _))
      | (with_reducible apply And.intro)
      | exact rfl
      | (refine Keep.fst (by assumption) ?_)
      | (refine Keep.snd (by assumption) ?_)
      | split
      | dsimp only
  have h1 : Keep 9193914384 s v1 := by
    unfold v1
    repeat' first
      | with_reducible assumption
      | with_reducible exact Keep.refl _ _
      | intro _
      | (fail_if_no_progress beta_reduce)
      | (with_reducible apply KeepR.next)
      | (with_reducible apply Keep.ite)
      | (with_reducible apply KeepR.ite)
      | (with_reducible apply Keep.ite_fst)
      | (with_reducible apply Keep.snoc (State.begin_keep _ _))
      | (with_reducible apply Keep.snoc (State.ledgerWarn_keep _ _ _ _ _))
      | (with_reducible apply Keep.snoc (State.measure_keep _ _ _ _ _))
      | (with_reducible apply Keep.snoc (State.record_keep _ _ _ _))
      | (with_reducible apply Keep.snoc (State.updRec_keep _ _))
      | (with_reducible apply Keep.snoc' (Keep.foldl ?_ _ _))
      | (with_reducible apply And.intro)
      | exact rfl
      | (refine Keep.fst (by assumption) ?_)
      | (refine Keep.snd (by assumption) ?_)
      | split
      | dsimp only
  repeat' first
    | with_reducible assumption
    | with_reducible exact Keep.refl _ _
    | intro _
    | (fail_if_no_progress beta_reduce)
    | (with_reducible apply KeepR.next)
    | (with_reducible apply Keep.ite)
    | (with_reducible apply KeepR.ite)
    | (with_reducible apply Keep.ite_fst)
    | (with_reducible apply Keep.snoc (State.begin_keep _ _))
    | (with_reducible apply Keep.snoc (State.ledgerWarn_keep _ _ _ _ _))
    | (with_reducible apply Keep.snoc (State.measure_keep _ _ _ _ _))
    | (with_reducible apply Keep.snoc (State.record_keep _ _ _ _))
    | (with_reducible apply Keep.snoc (State.updRec_keep _ _))
    | (with_reducible apply Keep.snoc' (Keep.foldl ?_ _ _))
    | (with_reducible apply And.intro)
    | exact rfl
    | (refine Keep.fst (by assumption) ?_)
    | (refine Keep.snd (by assumption) ?_)
    | split
    | dsimp only

theorem execRecSnapshot_keep : ∀ a0 a1 s, KeepR 629145600 s (execRecSnapshot a0 a1 s) := by
  intro a0 a1 s
  unfold execRecSnapshot
  repeat' first
    | with_reducible assumption
    | with_reducible exact Keep.refl _ _
    | intro _
    | (fail_if_no_progress beta_reduce)
    | (with_reducible apply KeepR.next)
    | (with_reducible apply Keep.ite)
    | (with_reducible apply KeepR.ite)
    | (with_reducible apply Keep.ite_fst)
    | (with_reducible apply Keep.snoc (State.begin_keep _ _))
    | (with_reducible apply Keep.snoc (State.complete_keep _ _ _))
    | (with_reducible apply Keep.snoc (State.updRec_keep _ _))
    | (with_reducible apply serve_keep)
    | (with_reducible apply Keep.snoc' (Keep.foldl ?_ _ _))
    | (with_reducible apply And.intro)
    | exact rfl
    | (refine Keep.fst (by assumption) ?_)
    | (refine Keep.snd (by assumption) ?_)
    | split
    | dsimp only

theorem execRecRead_keep : ∀ a0 a1 a2 a3 s, KeepR 629145600 s (execRecRead a0 a1 a2 a3 s) := by
  intro a0 a1 a2 a3 s
  unfold execRecRead
  extract_lets v0 v1 v2 v3 v4 v5 v6 v7
  try clear_value v7
  try clear_value v6
  try clear_value v5
  try clear_value v4
  try clear_value v3
  try clear_value v2
  try clear_value v1
  have h0 : Keep 629145600 s v0 := by
    unfold v0
    repeat' first
      | with_reducible assumption
      | with_reducible exact Keep.refl _ _
      | intro _
      | (fail_if_no_progress beta_reduce)
      | (with_reducible apply KeepR.next)
      | (with_reducible apply Keep.ite)
      | (with_reducible apply KeepR.ite)
      | (with_reducible apply Keep.ite_fst)
      | (with_reducible apply Keep.snoc (State.begin_keep _ _))
      | (with_reducible apply Keep.snoc (State.complete_keep _ _ _))
      | (with_reducible apply Keep.snoc (State.updRec_keep _ _))
      | (with_reducible apply serve_keep)
      | (with_reducible apply Keep.snoc' (Keep.foldl ?_ _ _))
      | (with_reducible apply And.intro)
      | exact rfl
      | (refine Keep.fst (by assumption) ?_)
      | (refine Keep.snd (by assumption) ?_)
      | split
      | dsimp only
  repeat' first
    | with_reducible assumption
    | with_reducible exact Keep.refl _ _
    | intro _
    | (fail_if_no_progress beta_reduce)
    | (with_reducible apply KeepR.next)
    | (with_reducible apply Keep.ite)
    | (with_reducible apply KeepR.ite)
    | (with_reducible apply Keep.ite_fst)
    | (with_reducible apply Keep.snoc (State.begin_keep _ _))
    | (with_reducible apply Keep.snoc (State.complete_keep _ _ _))
    | (with_reducible apply Keep.snoc (State.updRec_keep _ _))
    | (with_reducible apply serve_keep)
    | (with_reducible apply Keep.snoc' (Keep.foldl ?_ _ _))
    | (with_reducible apply And.intro)
    | exact rfl
    | (refine Keep.fst (by assumption) ?_)
    | (refine Keep.snd (by assumption) ?_)
    | split
    | dsimp only

theorem State.recoverRecorder_keep : ∀ a0 s, Keep 536870928 s (State.recoverRecorder a0 s) := by
  intro a0 s
  unfold State.recoverRecorder
  extract_lets v0 v1 v2 v3 v4 v5
  try clear_value v5
  try clear_value v4
  try clear_value v3
  try clear_value v2
  try clear_value v1
  try clear_value v0
  repeat' first
    | with_reducible assumption
    | with_reducible exact Keep.refl _ _
    | intro _
    | (fail_if_no_progress beta_reduce)
    | (with_reducible apply KeepR.next)
    | (with_reducible apply Keep.ite)
    | (with_reducible apply KeepR.ite)
    | (with_reducible apply Keep.ite_fst)
    | (with_reducible apply Keep.mono (State.set_recorder_keep _ _))
    | (with_reducible apply Keep.snoc (State.record_keep _ _ _ _))
    | (with_reducible apply Keep.snoc' (Keep.foldl ?_ _ _))
    | (with_reducible apply And.intro)
    | exact rfl
    | (refine Keep.fst (by assumption) ?_)
    | (refine Keep.snd (by assumption) ?_)
    | split
    | dsimp only

theorem State.budgetCheck_keep : ∀ a0 s, Keep 10267656208 s (State.budgetCheck a0 s) := by
  intro a0 s
  unfold State.budgetCheck
  extract_lets v0
  try clear_value v0
  repeat' first
    | with_reducible assumption
    | with_reducible exact Keep.refl _ _
    | intro _
    | (fail_if_no_progress beta_reduce)
    | (with_reducible apply KeepR.next)
    | (with_reducible apply Keep.ite)
    | (with_reducible apply KeepR.ite)
    | (with_reducible apply Keep.ite_fst)
    | (with_reducible apply Keep.snoc (State.postEvent_keep _ _ _ _))
    | (with_reducible apply Keep.snoc (State.record_keep _ _ _ _))
    | (with_reducible apply Keep.snoc (State.settleHealth_keep _))
    | (with_reducible apply Keep.snoc (State.updStore_keep _ _ _ ?_))
    | (with_reducible apply Keep.snoc' (Keep.foldl ?_ _ _))
    | (with_reducible apply And.intro)
    | exact rfl
    | (refine Keep.fst (by assumption) ?_)
    | (refine Keep.snd (by assumption) ?_)
    | split
    | dsimp only

theorem State.startSave_keep : ∀ a0 a1 a2 s, Keep 12440305680 s (State.startSave a0 a1 a2 s).1 := by
  intro a0 a1 a2 s
  unfold State.startSave
  extract_lets v0 v1 p
  have h0 : Keep 12440305680 s v0 := by
    unfold v0
    split
    · exact Keep.snoc (State.budgetCheck_keep _ _) rfl (Keep.refl _ _)
    · exact Keep.refl _ _
  have h1 : Keep 12440305680 s v1 := by
    unfold v1
    exact Keep.snoc (State.updStore_keep _ _ _ fun _ => rfl) rfl h0
  split
  · dsimp only
    refine Keep.snoc (State.completeAll_keep _ _ _) ?_ (Keep.snoc (State.postEvent_keep _ _ _ _) ?_
      (Keep.snoc (State.record_keep _ _ _ _) ?_ h1)) <;> rfl
  · dsimp only
    refine Keep.snoc (State.updStore_mem _ _ _ fun k => ?_) rfl h0
    have hx := k.2.2 a0
    refine Store.heldOk_bank hx (v0.stores[a0]).target _ ?_ rfl ?_
    · exact ((Store.heldOk_iff _).1 hx).1 (v0.stores[a0]).target
    intro v hv
    cases hv
    show StorePayload.wf p.1
    unfold p State.savePayload
    split
    · trivial
    · exact k.2.1

theorem State.requestSave_keep : ∀ a0 a1 a2 s, Keep 12440305680 s (State.requestSave a0 a1 a2 s).1 := by
  intro a0 a1 a2 s
  unfold State.requestSave
  repeat' first
    | with_reducible assumption
    | with_reducible exact Keep.refl _ _
    | intro _
    | (fail_if_no_progress beta_reduce)
    | (with_reducible apply KeepR.next)
    | (with_reducible apply Keep.ite)
    | (with_reducible apply KeepR.ite)
    | (with_reducible apply Keep.ite_fst)
    | (with_reducible apply Keep.snoc (State.startSave_keep _ _ _ _))
    | (with_reducible apply Keep.snoc (State.updStore_keep _ _ _ ?_))
    | (with_reducible apply Keep.snoc' (Keep.foldl ?_ _ _))
    | (with_reducible apply And.intro)
    | exact rfl
    | (refine Keep.fst (by assumption) ?_)
    | (refine Keep.snd (by assumption) ?_)
    | split
    | dsimp only

theorem State.clearStore_keep : ∀ a0 a1 s, Keep 1166016512 s (State.clearStore a0 a1 s) := by
  intro a0 a1 s
  unfold State.clearStore
  repeat' first
    | with_reducible assumption
    | with_reducible exact Keep.refl _ _
    | intro _
    | (fail_if_no_progress beta_reduce)
    | (with_reducible apply KeepR.next)
    | (with_reducible apply Keep.ite)
    | (with_reducible apply KeepR.ite)
    | (with_reducible apply Keep.ite_fst)
    | (with_reducible apply Keep.snoc (State.complete_keep _ _ _))
    | (with_reducible apply Keep.snoc (State.updStore_keep _ _ _ ?_))
    | (with_reducible apply Keep.snoc' (Keep.foldl ?_ _ _))
    | (with_reducible apply And.intro)
    | exact rfl
    | (refine Keep.fst (by assumption) ?_)
    | (refine Keep.snd (by assumption) ?_)
    | split
    | dsimp only

theorem State.finishSave_keep : ∀ a0 s, Keep 12440322064 s (State.finishSave a0 s).1 := by
  intro a0 s
  unfold State.finishSave
  split
  · exact Keep.refl _ _
  · rename_i v hv
    extract_lets s1 s2 s3 s4
    have h1 : Keep 12440322064 s s1 := by
      refine Keep.snoc (State.updStore_mem _ _ _ fun k => ?_) rfl (Keep.refl _ _)
      have hx := k.2.2 a0
      refine Store.heldOk_bank hx v.target _ (((Store.heldOk_iff _).1 hx).2 v hv) rfl ?_
      intro w hw
      cases hw
    have h2 : Keep 12440322064 s s2 := by
      unfold s2
      split
      · exact Keep.snoc (State.updPrg_keep _ _ ⟨rfl, rfl⟩) rfl h1
      · exact h1
    have h3 : Keep 12440322064 s s3 := Keep.snoc (State.completeAll_keep _ _ _) rfl h2
    unfold s4
    split
    · exact h3
    · exact Keep.snoc (State.clearStore_keep _ _ _) rfl h3
    · exact Keep.snoc (State.startSave_keep _ _ _ _) rfl (Keep.snoc (State.updStore_keep _ _ _ fun _ => rfl) rfl h3)

theorem State.abandonSave_keep : ∀ a0 s, Keep 3221225472 s (State.abandonSave a0 s) := by
  intro a0 s
  refine Keep.snoc (State.updStore_mem _ _ _ fun k => ?_) rfl (Keep.refl _ _)
  have hx := k.2.2 a0
  rw [Store.heldOk_iff] at hx ⊢
  exact ⟨hx.1, fun w hw => by cases hw⟩

theorem execConfigSaveStart_keep : ∀ a0 s, KeepR 12440305680 s (execConfigSaveStart a0 s) := by
  intro a0 s
  unfold execConfigSaveStart
  extract_lets v0
  have h0 : Keep 12440305680 s v0 := by
    unfold v0
    repeat' first
      | with_reducible assumption
      | with_reducible exact Keep.refl _ _
      | intro _
      | (fail_if_no_progress beta_reduce)
      | (with_reducible apply KeepR.next)
      | (with_reducible apply Keep.ite)
      | (with_reducible apply KeepR.ite)
      | (with_reducible apply Keep.ite_fst)
      | (with_reducible apply Keep.snoc (State.begin_keep _ _))
      | (with_reducible apply Keep.snoc (State.requestSave_keep _ _ _ _))
      | (with_reducible apply Keep.snoc' (Keep.foldl ?_ _ _))
      | (with_reducible apply And.intro)
      | exact rfl
      | (refine Keep.fst (by assumption) ?_)
      | (refine Keep.snd (by assumption) ?_)
      | split
      | dsimp only
  repeat' first
    | with_reducible assumption
    | with_reducible exact Keep.refl _ _
    | intro _
    | (fail_if_no_progress beta_reduce)
    | (with_reducible apply KeepR.next)
    | (with_reducible apply Keep.ite)
    | (with_reducible apply KeepR.ite)
    | (with_reducible apply Keep.ite_fst)
    | (with_reducible apply Keep.snoc (State.begin_keep _ _))
    | (with_reducible apply Keep.snoc (State.requestSave_keep _ _ _ _))
    | (with_reducible apply Keep.snoc' (Keep.foldl ?_ _ _))
    | (with_reducible apply And.intro)
    | exact rfl
    | (refine Keep.fst (by assumption) ?_)
    | (refine Keep.snd (by assumption) ?_)
    | split
    | dsimp only

theorem execSaveRetained_keep : ∀ a0 a1 a2 s, KeepR 12440305680 s (execSaveRetained a0 a1 a2 s) := by
  intro a0 a1 a2 s
  unfold execSaveRetained
  extract_lets v0
  have h0 : Keep 12440305680 s v0 := by
    unfold v0
    repeat' first
      | with_reducible assumption
      | with_reducible exact Keep.refl _ _
      | intro _
      | (fail_if_no_progress beta_reduce)
      | (with_reducible apply KeepR.next)
      | (with_reducible apply Keep.ite)
      | (with_reducible apply KeepR.ite)
      | (with_reducible apply Keep.ite_fst)
      | (with_reducible apply Keep.snoc (State.begin_keep _ _))
      | (with_reducible apply Keep.snoc (State.requestSave_keep _ _ _ _))
      | (with_reducible apply Keep.snoc (State.updStore_keep _ _ _ ?_))
      | (with_reducible apply serve_keep)
      | (with_reducible apply Keep.snoc' (Keep.foldl ?_ _ _))
      | (with_reducible apply And.intro)
      | exact rfl
      | (refine Keep.fst (by assumption) ?_)
      | (refine Keep.snd (by assumption) ?_)
      | split
      | dsimp only
  repeat' first
    | with_reducible assumption
    | with_reducible exact Keep.refl _ _
    | intro _
    | (fail_if_no_progress beta_reduce)
    | (with_reducible apply KeepR.next)
    | (with_reducible apply Keep.ite)
    | (with_reducible apply KeepR.ite)
    | (with_reducible apply Keep.ite_fst)
    | (with_reducible apply Keep.snoc (State.begin_keep _ _))
    | (with_reducible apply Keep.snoc (State.requestSave_keep _ _ _ _))
    | (with_reducible apply Keep.snoc (State.updStore_keep _ _ _ ?_))
    | (with_reducible apply serve_keep)
    | (with_reducible apply Keep.snoc' (Keep.foldl ?_ _ _))
    | (with_reducible apply And.intro)
    | exact rfl
    | (refine Keep.fst (by assumption) ?_)
    | (refine Keep.snd (by assumption) ?_)
    | split
    | dsimp only

theorem execSaveConfig_keep : ∀ a0 a1 a2 s, KeepR 12440305680 s (execSaveConfig a0 a1 a2 s) := by
  intro a0 a1 a2 s
  unfold execSaveConfig
  extract_lets v0
  have h0 : Keep 12440305680 s v0 := by
    unfold v0
    repeat' first
      | with_reducible assumption
      | with_reducible exact Keep.refl _ _
      | intro _
      | (fail_if_no_progress beta_reduce)
      | (with_reducible apply KeepR.next)
      | (with_reducible apply Keep.ite)
      | (with_reducible apply KeepR.ite)
      | (with_reducible apply Keep.ite_fst)
      | (with_reducible apply Keep.snoc (State.begin_keep _ _))
      | (with_reducible apply Keep.snoc (State.requestSave_keep _ _ _ _))
      | (with_reducible apply Keep.snoc (State.updStore_keep _ _ _ ?_))
      | (with_reducible apply serve_keep)
      | (with_reducible apply Keep.snoc' (Keep.foldl ?_ _ _))
      | (with_reducible apply And.intro)
      | exact rfl
      | (refine Keep.fst (by assumption) ?_)
      | (refine Keep.snd (by assumption) ?_)
      | split
      | dsimp only
  repeat' first
    | with_reducible assumption
    | with_reducible exact Keep.refl _ _
    | intro _
    | (fail_if_no_progress beta_reduce)
    | (with_reducible apply KeepR.next)
    | (with_reducible apply Keep.ite)
    | (with_reducible apply KeepR.ite)
    | (with_reducible apply Keep.ite_fst)
    | (with_reducible apply Keep.snoc (State.begin_keep _ _))
    | (with_reducible apply Keep.snoc (State.requestSave_keep _ _ _ _))
    | (with_reducible apply Keep.snoc (State.updStore_keep _ _ _ ?_))
    | (with_reducible apply serve_keep)
    | (with_reducible apply Keep.snoc' (Keep.foldl ?_ _ _))
    | (with_reducible apply And.intro)
    | exact rfl
    | (refine Keep.fst (by assumption) ?_)
    | (refine Keep.snd (by assumption) ?_)
    | split
    | dsimp only

theorem State.clearOrWait_keep : ∀ a0 a1 s, Keep 1166016512 s (State.clearOrWait a0 a1 s) := by
  intro a0 a1 s
  unfold State.clearOrWait
  extract_lets v0
  have h0 : Keep 1166016512 s v0 := by
    unfold v0
    repeat' first
      | with_reducible assumption
      | with_reducible exact Keep.refl _ _
      | intro _
      | (fail_if_no_progress beta_reduce)
      | (with_reducible apply KeepR.next)
      | (with_reducible apply Keep.ite)
      | (with_reducible apply KeepR.ite)
      | (with_reducible apply Keep.ite_fst)
      | (with_reducible apply Keep.snoc (State.clearStore_keep _ _ _))
      | (with_reducible apply Keep.snoc (State.updStore_keep _ _ _ ?_))
      | (with_reducible apply Keep.snoc' (Keep.foldl ?_ _ _))
      | (with_reducible apply And.intro)
      | exact rfl
      | (refine Keep.fst (by assumption) ?_)
      | (refine Keep.snd (by assumption) ?_)
      | split
      | dsimp only
  repeat' first
    | with_reducible assumption
    | with_reducible exact Keep.refl _ _
    | intro _
    | (fail_if_no_progress beta_reduce)
    | (with_reducible apply KeepR.next)
    | (with_reducible apply Keep.ite)
    | (with_reducible apply KeepR.ite)
    | (with_reducible apply Keep.ite_fst)
    | (with_reducible apply Keep.snoc (State.clearStore_keep _ _ _))
    | (with_reducible apply Keep.snoc (State.updStore_keep _ _ _ ?_))
    | (with_reducible apply Keep.snoc' (Keep.foldl ?_ _ _))
    | (with_reducible apply And.intro)
    | exact rfl
    | (refine Keep.fst (by assumption) ?_)
    | (refine Keep.snd (by assumption) ?_)
    | split
    | dsimp only

theorem execClearRetained_keep : ∀ a0 a1 a2 s, KeepR 1166016512 s (execClearRetained a0 a1 a2 s) := by
  intro a0 a1 a2 s
  unfold execClearRetained
  extract_lets v0
  have h0 : Keep 1166016512 s v0 := by
    unfold v0
    repeat' first
      | with_reducible assumption
      | with_reducible exact Keep.refl _ _
      | intro _
      | (fail_if_no_progress beta_reduce)
      | (with_reducible apply KeepR.next)
      | (with_reducible apply Keep.ite)
      | (with_reducible apply KeepR.ite)
      | (with_reducible apply Keep.ite_fst)
      | (with_reducible apply Keep.snoc (State.begin_keep _ _))
      | (with_reducible apply Keep.snoc (State.clearOrWait_keep _ _ _))
      | (with_reducible apply serve_keep)
      | (with_reducible apply Keep.snoc' (Keep.foldl ?_ _ _))
      | (with_reducible apply And.intro)
      | exact rfl
      | (refine Keep.fst (by assumption) ?_)
      | (refine Keep.snd (by assumption) ?_)
      | split
      | dsimp only
  repeat' first
    | with_reducible assumption
    | with_reducible exact Keep.refl _ _
    | intro _
    | (fail_if_no_progress beta_reduce)
    | (with_reducible apply KeepR.next)
    | (with_reducible apply Keep.ite)
    | (with_reducible apply KeepR.ite)
    | (with_reducible apply Keep.ite_fst)
    | (with_reducible apply Keep.snoc (State.begin_keep _ _))
    | (with_reducible apply Keep.snoc (State.clearOrWait_keep _ _ _))
    | (with_reducible apply serve_keep)
    | (with_reducible apply Keep.snoc' (Keep.foldl ?_ _ _))
    | (with_reducible apply And.intro)
    | exact rfl
    | (refine Keep.fst (by assumption) ?_)
    | (refine Keep.snd (by assumption) ?_)
    | split
    | dsimp only

theorem execFactoryConfig_keep : ∀ a0 a1 a2 s, KeepR 1166016512 s (execFactoryConfig a0 a1 a2 s) := by
  intro a0 a1 a2 s
  unfold execFactoryConfig
  extract_lets v0
  have h0 : Keep 1166016512 s v0 := by
    unfold v0
    repeat' first
      | with_reducible assumption
      | with_reducible exact Keep.refl _ _
      | intro _
      | (fail_if_no_progress beta_reduce)
      | (with_reducible apply KeepR.next)
      | (with_reducible apply Keep.ite)
      | (with_reducible apply KeepR.ite)
      | (with_reducible apply Keep.ite_fst)
      | (with_reducible apply Keep.snoc (State.begin_keep _ _))
      | (with_reducible apply Keep.snoc (State.clearOrWait_keep _ _ _))
      | (with_reducible apply serve_keep)
      | (with_reducible apply Keep.snoc' (Keep.foldl ?_ _ _))
      | (with_reducible apply And.intro)
      | exact rfl
      | (refine Keep.fst (by assumption) ?_)
      | (refine Keep.snd (by assumption) ?_)
      | split
      | dsimp only
  repeat' first
    | with_reducible assumption
    | with_reducible exact Keep.refl _ _
    | intro _
    | (fail_if_no_progress beta_reduce)
    | (with_reducible apply KeepR.next)
    | (with_reducible apply Keep.ite)
    | (with_reducible apply KeepR.ite)
    | (with_reducible apply Keep.ite_fst)
    | (with_reducible apply Keep.snoc (State.begin_keep _ _))
    | (with_reducible apply Keep.snoc (State.clearOrWait_keep _ _ _))
    | (with_reducible apply serve_keep)
    | (with_reducible apply Keep.snoc' (Keep.foldl ?_ _ _))
    | (with_reducible apply And.intro)
    | exact rfl
    | (refine Keep.fst (by assumption) ?_)
    | (refine Keep.snd (by assumption) ?_)
    | split
    | dsimp only

theorem State.selectBank_keep : ∀ a0 s, Keep 1677721616 s (State.selectBank a0 s) := by
  intro a0 s
  unfold State.selectBank
  extract_lets v0 v1 v2
  try clear_value v0
  have h1 : Keep 1677721616 s v1 := by
    unfold v1
    repeat' first
      | with_reducible assumption
      | with_reducible exact Keep.refl _ _
      | intro _
      | (fail_if_no_progress beta_reduce)
      | (with_reducible apply KeepR.next)
      | (with_reducible apply Keep.ite)
      | (with_reducible apply KeepR.ite)
      | (with_reducible apply Keep.ite_fst)
      | (with_reducible apply Keep.snoc (State.postEvent_keep _ _ _ _))
      | (with_reducible apply Keep.snoc (State.record_keep _ _ _ _))
      | (with_reducible apply Keep.snoc (State.updStore_keep _ _ _ ?_))
      | (with_reducible apply Keep.snoc' (Keep.foldl ?_ _ _))
      | (with_reducible apply And.intro)
      | exact rfl
      | (refine Keep.fst (by assumption) ?_)
      | (refine Keep.snd (by assumption) ?_)
      | split
      | dsimp only
  have h2 : Keep 1677721616 s v2 := by
    unfold v2
    repeat' first
      | with_reducible assumption
      | with_reducible exact Keep.refl _ _
      | intro _
      | (fail_if_no_progress beta_reduce)
      | (with_reducible apply KeepR.next)
      | (with_reducible apply Keep.ite)
      | (with_reducible apply KeepR.ite)
      | (with_reducible apply Keep.ite_fst)
      | (with_reducible apply Keep.snoc (State.postEvent_keep _ _ _ _))
      | (with_reducible apply Keep.snoc (State.record_keep _ _ _ _))
      | (with_reducible apply Keep.snoc (State.updStore_keep _ _ _ ?_))
      | (with_reducible apply Keep.snoc' (Keep.foldl ?_ _ _))
      | (with_reducible apply And.intro)
      | exact rfl
      | (refine Keep.fst (by assumption) ?_)
      | (refine Keep.snd (by assumption) ?_)
      | split
      | dsimp only
  repeat' first
    | with_reducible assumption
    | with_reducible exact Keep.refl _ _
    | intro _
    | (fail_if_no_progress beta_reduce)
    | (with_reducible apply KeepR.next)
    | (with_reducible apply Keep.ite)
    | (with_reducible apply KeepR.ite)
    | (with_reducible apply Keep.ite_fst)
    | (with_reducible apply Keep.snoc (State.postEvent_keep _ _ _ _))
    | (with_reducible apply Keep.snoc (State.record_keep _ _ _ _))
    | (with_reducible apply Keep.snoc (State.updStore_keep _ _ _ ?_))
    | (with_reducible apply Keep.snoc' (Keep.foldl ?_ _ _))
    | (with_reducible apply And.intro)
    | exact rfl
    | (refine Keep.fst (by assumption) ?_)
    | (refine Keep.snd (by assumption) ?_)
    | split
    | dsimp only

end Sys2Proof.Machine
end

