-- ==== Sys2Proof/Laws/KeepMotion.lean ====
section
/-! SUPPORT. What each operation and meaning of Machine/Motion.lean leaves alone. -/

namespace Sys2Proof.Machine

set_option linter.unusedTactic false
set_option linter.unreachableTactic false

theorem State.notifyAxisAt_keep : ∀ a0 a1 a2 s, Keep 68157440 s (State.notifyAxisAt a0 a1 a2 s) := by
  intro a0 a1 a2 s
  unfold State.notifyAxisAt
  extract_lets v0
  try clear_value v0
  repeat' first
    | with_reducible assumption
    | with_reducible exact Keep.refl _ _
    | intro _
    | (fail_if_no_progress beta_reduce)
    | (with_reducible apply KeepR.next)
    | (with_reducible apply Keep.ite)
    | (with_reducible apply KeepR.ite)
    | (with_reducible apply Keep.ite_fst)
    | (with_reducible apply Keep.snoc (State.postEventAt_keep _ _ _ _ _))
    | (with_reducible apply Keep.snoc (State.updAxis_keep _ _ _))
    | (with_reducible apply Keep.snoc' (Keep.foldl ?_ _ _))
    | (with_reducible apply And.intro)
    | exact rfl
    | (refine Keep.fst (by assumption) ?_)
    | (refine Keep.snd (by assumption) ?_)
    | split
    | dsimp only

theorem State.notifyAxis_keep : ∀ a0 a1 s, Keep 68157440 s (State.notifyAxis a0 a1 s) := by
  intro a0 a1 s
  unfold State.notifyAxis
  repeat' first
    | with_reducible assumption
    | with_reducible exact Keep.refl _ _
    | intro _
    | (fail_if_no_progress beta_reduce)
    | (with_reducible apply KeepR.next)
    | (with_reducible apply Keep.ite)
    | (with_reducible apply KeepR.ite)
    | (with_reducible apply Keep.ite_fst)
    | (with_reducible apply Keep.snoc (State.notifyAxisAt_keep _ _ _ _))
    | (with_reducible apply Keep.snoc' (Keep.foldl ?_ _ _))
    | (with_reducible apply And.intro)
    | exact rfl
    | (refine Keep.fst (by assumption) ?_)
    | (refine Keep.snd (by assumption) ?_)
    | split
    | dsimp only

theorem State.setPlan_keep : ∀ a0 a1 a2 a3 s, Keep 1048576 s (State.setPlan a0 a1 a2 a3 s) := by
  intro a0 a1 a2 a3 s
  unfold State.setPlan
  repeat' first
    | with_reducible assumption
    | with_reducible exact Keep.refl _ _
    | intro _
    | (fail_if_no_progress beta_reduce)
    | (with_reducible apply KeepR.next)
    | (with_reducible apply Keep.ite)
    | (with_reducible apply KeepR.ite)
    | (with_reducible apply Keep.ite_fst)
    | (with_reducible apply Keep.snoc (State.updAxis_keep _ _ _))
    | (with_reducible apply Keep.snoc' (Keep.foldl ?_ _ _))
    | (with_reducible apply And.intro)
    | exact rfl
    | (refine Keep.fst (by assumption) ?_)
    | (refine Keep.snd (by assumption) ?_)
    | split
    | dsimp only

theorem State.quickStop_keep : ∀ a0 a1 s, Keep 1048576 s (State.quickStop a0 a1 s).1 := by
  intro a0 a1 s
  unfold State.quickStop
  extract_lets v0 v1 v2
  try clear_value v2
  try clear_value v1
  try clear_value v0
  repeat' first
    | with_reducible assumption
    | with_reducible exact Keep.refl _ _
    | intro _
    | (fail_if_no_progress beta_reduce)
    | (with_reducible apply KeepR.next)
    | (with_reducible apply Keep.ite)
    | (with_reducible apply KeepR.ite)
    | (with_reducible apply Keep.ite_fst)
    | (with_reducible apply Keep.snoc (State.setPlan_keep _ _ _ _ _))
    | (with_reducible apply Keep.snoc' (Keep.foldl ?_ _ _))
    | (with_reducible apply And.intro)
    | exact rfl
    | (refine Keep.fst (by assumption) ?_)
    | (refine Keep.snd (by assumption) ?_)
    | split
    | dsimp only

theorem State.axisFault_keep : ∀ a0 a1 a2 s, Keep 605028368 s (State.axisFault a0 a1 a2 s) := by
  intro a0 a1 a2 s
  unfold State.axisFault
  extract_lets v0 v1
  have h0 : Keep 605028368 s v0 := by
    unfold v0
    repeat' first
      | with_reducible assumption
      | with_reducible exact Keep.refl _ _
      | intro _
      | (fail_if_no_progress beta_reduce)
      | (with_reducible apply KeepR.next)
      | (with_reducible apply Keep.ite)
      | (with_reducible apply KeepR.ite)
      | (with_reducible apply Keep.ite_fst)
      | (with_reducible apply Keep.snoc (State.notifyAxis_keep _ _ _))
      | (with_reducible apply Keep.snoc (State.quickStop_keep _ _ _))
      | (with_reducible apply Keep.snoc (State.record_keep _ _ _ _))
      | (with_reducible apply Keep.snoc (State.updAxis_keep _ _ _))
      | (with_reducible apply Keep.snoc' (Keep.foldl ?_ _ _))
      | (with_reducible apply And.intro)
      | exact rfl
      | (refine Keep.fst (by assumption) ?_)
      | (refine Keep.snd (by assumption) ?_)
      | split
      | dsimp only
  have h1 : Keep 605028368 s v1 := by
    unfold v1
    repeat' first
      | with_reducible assumption
      | with_reducible exact Keep.refl _ _
      | intro _
      | (fail_if_no_progress beta_reduce)
      | (with_reducible apply KeepR.next)
      | (with_reducible apply Keep.ite)
      | (with_reducible apply KeepR.ite)
      | (with_reducible apply Keep.ite_fst)
      | (with_reducible apply Keep.snoc (State.notifyAxis_keep _ _ _))
      | (with_reducible apply Keep.snoc (State.quickStop_keep _ _ _))
      | (with_reducible apply Keep.snoc (State.record_keep _ _ _ _))
      | (with_reducible apply Keep.snoc (State.updAxis_keep _ _ _))
      | (with_reducible apply Keep.snoc' (Keep.foldl ?_ _ _))
      | (with_reducible apply And.intro)
      | exact rfl
      | (refine Keep.fst (by assumption) ?_)
      | (refine Keep.snd (by assumption) ?_)
      | split
      | dsimp only
  repeat' first
    | with_reducible assumption
    | with_reducible exact Keep.refl _ _
    | intro _
    | (fail_if_no_progress beta_reduce)
    | (with_reducible apply KeepR.next)
    | (with_reducible apply Keep.ite)
    | (with_reducible apply KeepR.ite)
    | (with_reducible apply Keep.ite_fst)
    | (with_reducible apply Keep.snoc (State.notifyAxis_keep _ _ _))
    | (with_reducible apply Keep.snoc (State.quickStop_keep _ _ _))
    | (with_reducible apply Keep.snoc (State.record_keep _ _ _ _))
    | (with_reducible apply Keep.snoc (State.updAxis_keep _ _ _))
    | (with_reducible apply Keep.snoc' (Keep.foldl ?_ _ _))
    | (with_reducible apply And.intro)
    | exact rfl
    | (refine Keep.fst (by assumption) ?_)
    | (refine Keep.snd (by assumption) ?_)
    | split
    | dsimp only

theorem State.unverify_keep : ∀ a0 s, Keep 537919504 s (State.unverify a0 s) := by
  intro a0 s
  unfold State.unverify
  repeat' first
    | with_reducible assumption
    | with_reducible exact Keep.refl _ _
    | intro _
    | (fail_if_no_progress beta_reduce)
    | (with_reducible apply KeepR.next)
    | (with_reducible apply Keep.ite)
    | (with_reducible apply KeepR.ite)
    | (with_reducible apply Keep.ite_fst)
    | (with_reducible apply Keep.snoc (State.record_keep _ _ _ _))
    | (with_reducible apply Keep.snoc (State.updAxis_keep _ _ _))
    | (with_reducible apply Keep.snoc' (Keep.foldl ?_ _ _))
    | (with_reducible apply And.intro)
    | exact rfl
    | (refine Keep.fst (by assumption) ?_)
    | (refine Keep.snd (by assumption) ?_)
    | split
    | dsimp only

theorem State.planTo_keep : ∀ a0 a1 a2 s, Keep 537919504 s (State.planTo a0 a1 a2 s) := by
  intro a0 a1 a2 s
  unfold State.planTo
  extract_lets v0
  try clear_value v0
  repeat' first
    | with_reducible assumption
    | with_reducible exact Keep.refl _ _
    | intro _
    | (fail_if_no_progress beta_reduce)
    | (with_reducible apply KeepR.next)
    | (with_reducible apply Keep.ite)
    | (with_reducible apply KeepR.ite)
    | (with_reducible apply Keep.ite_fst)
    | (with_reducible apply Keep.snoc (State.record_keep _ _ _ _))
    | (with_reducible apply Keep.snoc (State.setPlan_keep _ _ _ _ _))
    | (with_reducible apply Keep.snoc (State.updAxis_keep _ _ _))
    | (with_reducible apply Keep.snoc' (Keep.foldl ?_ _ _))
    | (with_reducible apply And.intro)
    | exact rfl
    | (refine Keep.fst (by assumption) ?_)
    | (refine Keep.snd (by assumption) ?_)
    | split
    | dsimp only

theorem State.planStop_keep : ∀ a0 a1 s, Keep 1048576 s (State.planStop a0 a1 s) := by
  intro a0 a1 s
  unfold State.planStop
  extract_lets v0 v1
  try clear_value v1
  try clear_value v0
  repeat' first
    | with_reducible assumption
    | with_reducible exact Keep.refl _ _
    | intro _
    | (fail_if_no_progress beta_reduce)
    | (with_reducible apply KeepR.next)
    | (with_reducible apply Keep.ite)
    | (with_reducible apply KeepR.ite)
    | (with_reducible apply Keep.ite_fst)
    | (with_reducible apply Keep.snoc (State.setPlan_keep _ _ _ _ _))
    | (with_reducible apply Keep.snoc (State.updAxis_keep _ _ _))
    | (with_reducible apply Keep.snoc' (Keep.foldl ?_ _ _))
    | (with_reducible apply And.intro)
    | exact rfl
    | (refine Keep.fst (by assumption) ?_)
    | (refine Keep.snd (by assumption) ?_)
    | split
    | dsimp only

theorem State.replan_keep : ∀ a0 a1 s, Keep 537919504 s (State.replan a0 a1 s) := by
  intro a0 a1 s
  unfold State.replan
  repeat' first
    | with_reducible assumption
    | with_reducible exact Keep.refl _ _
    | intro _
    | (fail_if_no_progress beta_reduce)
    | (with_reducible apply KeepR.next)
    | (with_reducible apply Keep.ite)
    | (with_reducible apply KeepR.ite)
    | (with_reducible apply Keep.ite_fst)
    | (with_reducible apply Keep.snoc (State.planStop_keep _ _ _))
    | (with_reducible apply Keep.snoc (State.planTo_keep _ _ _ _))
    | (with_reducible apply Keep.snoc' (Keep.foldl ?_ _ _))
    | (with_reducible apply And.intro)
    | exact rfl
    | (refine Keep.fst (by assumption) ?_)
    | (refine Keep.snd (by assumption) ?_)
    | split
    | dsimp only

theorem State.takeLimits_keep : ∀ a0 a1 a2 s, Keep 537919504 s (State.takeLimits a0 a1 a2 s) := by
  intro a0 a1 a2 s
  unfold State.takeLimits
  repeat' first
    | with_reducible assumption
    | with_reducible exact Keep.refl _ _
    | intro _
    | (fail_if_no_progress beta_reduce)
    | (with_reducible apply KeepR.next)
    | (with_reducible apply Keep.ite)
    | (with_reducible apply KeepR.ite)
    | (with_reducible apply Keep.ite_fst)
    | (with_reducible apply Keep.snoc (State.replan_keep _ _ _))
    | (with_reducible apply Keep.snoc (State.updAxis_keep _ _ _))
    | (with_reducible apply Keep.snoc' (Keep.foldl ?_ _ _))
    | (with_reducible apply And.intro)
    | exact rfl
    | (refine Keep.fst (by assumption) ?_)
    | (refine Keep.snd (by assumption) ?_)
    | split
    | dsimp only

theorem State.takeAxis_keep : ∀ a0 a1 a2 s, Keep 605028368 s (State.takeAxis a0 a1 a2 s).1 := by
  intro a0 a1 a2 s
  unfold State.takeAxis
  extract_lets v0 v1 v2 v3 v4 v5 v6 v7 v8 v9 v10 v11 v12 v13 v14 v15 v16 v17 v18 v19 v20 v21 v22
  try clear_value v19
  try clear_value v18
  try clear_value v17
  try clear_value v13
  try clear_value v12
  try clear_value v11
  try clear_value v10
  try clear_value v9
  try clear_value v8
  try clear_value v7
  try clear_value v6
  try clear_value v5
  try clear_value v4
  try clear_value v3
  try clear_value v2
  try clear_value v0
  have h1 : Keep 605028368 s v1 := by
    unfold v1
    repeat' first
      | with_reducible assumption
      | with_reducible exact Keep.refl _ _
      | intro _
      | (fail_if_no_progress beta_reduce)
      | (with_reducible apply KeepR.next)
      | (with_reducible apply Keep.ite)
      | (with_reducible apply KeepR.ite)
      | (with_reducible apply Keep.ite_fst)
      | (with_reducible apply Keep.snoc (State.notifyAxis_keep _ _ _))
      | (with_reducible apply Keep.snoc (State.planStop_keep _ _ _))
      | (with_reducible apply Keep.snoc (State.planTo_keep _ _ _ _))
      | (with_reducible apply Keep.snoc (State.quickStop_keep _ _ _))
      | (with_reducible apply Keep.snoc (State.record_keep _ _ _ _))
      | (with_reducible apply Keep.snoc (State.replan_keep _ _ _))
      | (with_reducible apply Keep.snoc (State.setPlan_keep _ _ _ _ _))
      | (with_reducible apply Keep.snoc (State.unverify_keep _ _))
      | (with_reducible apply Keep.snoc (State.updAxis_keep _ _ _))
      | (with_reducible apply Keep.snoc' (h14 _))
      | (with_reducible apply Keep.snoc' (Keep.foldl ?_ _ _))
      | (with_reducible apply And.intro)
      | exact rfl
      | (refine Keep.fst (by assumption) ?_)
      | (refine Keep.snd (by assumption) ?_)
      | split
      | dsimp only
  have h14 : ∀ q0, Keep 605028368 q0 (v14 q0) := by
    intro q0
    unfold v14
    repeat' first
      | with_reducible assumption
      | with_reducible exact Keep.refl _ _
      | intro _
      | (fail_if_no_progress beta_reduce)
      | (with_reducible apply KeepR.next)
      | (with_reducible apply Keep.ite)
      | (with_reducible apply KeepR.ite)
      | (with_reducible apply Keep.ite_fst)
      | (with_reducible apply Keep.snoc (State.notifyAxis_keep _ _ _))
      | (with_reducible apply Keep.snoc (State.planStop_keep _ _ _))
      | (with_reducible apply Keep.snoc (State.planTo_keep _ _ _ _))
      | (with_reducible apply Keep.snoc (State.quickStop_keep _ _ _))
      | (with_reducible apply Keep.snoc (State.record_keep _ _ _ _))
      | (with_reducible apply Keep.snoc (State.replan_keep _ _ _))
      | (with_reducible apply Keep.snoc (State.setPlan_keep _ _ _ _ _))
      | (with_reducible apply Keep.snoc (State.unverify_keep _ _))
      | (with_reducible apply Keep.snoc (State.updAxis_keep _ _ _))
      | (with_reducible apply Keep.snoc' (h14 _))
      | (with_reducible apply Keep.snoc' (Keep.foldl ?_ _ _))
      | (with_reducible apply And.intro)
      | exact rfl
      | (refine Keep.fst (by assumption) ?_)
      | (refine Keep.snd (by assumption) ?_)
      | split
      | dsimp only
  have h15 : Keep 605028368 s v15 := by
    unfold v15
    repeat' first
      | with_reducible assumption
      | with_reducible exact Keep.refl _ _
      | intro _
      | (fail_if_no_progress beta_reduce)
      | (with_reducible apply KeepR.next)
      | (with_reducible apply Keep.ite)
      | (with_reducible apply KeepR.ite)
      | (with_reducible apply Keep.ite_fst)
      | (with_reducible apply Keep.snoc (State.notifyAxis_keep _ _ _))
      | (with_reducible apply Keep.snoc (State.planStop_keep _ _ _))
      | (with_reducible apply Keep.snoc (State.planTo_keep _ _ _ _))
      | (with_reducible apply Keep.snoc (State.quickStop_keep _ _ _))
      | (with_reducible apply Keep.snoc (State.record_keep _ _ _ _))
      | (with_reducible apply Keep.snoc (State.replan_keep _ _ _))
      | (with_reducible apply Keep.snoc (State.setPlan_keep _ _ _ _ _))
      | (with_reducible apply Keep.snoc (State.unverify_keep _ _))
      | (with_reducible apply Keep.snoc (State.updAxis_keep _ _ _))
      | (with_reducible apply Keep.snoc' (h14 _))
      | (with_reducible apply Keep.snoc' (Keep.foldl ?_ _ _))
      | (with_reducible apply And.intro)
      | exact rfl
      | (refine Keep.fst (by assumption) ?_)
      | (refine Keep.snd (by assumption) ?_)
      | split
      | dsimp only
  have h16 : Keep 605028368 s v16 := by
    unfold v16
    repeat' first
      | with_reducible assumption
      | with_reducible exact Keep.refl _ _
      | intro _
      | (fail_if_no_progress beta_reduce)
      | (with_reducible apply KeepR.next)
      | (with_reducible apply Keep.ite)
      | (with_reducible apply KeepR.ite)
      | (with_reducible apply Keep.ite_fst)
      | (with_reducible apply Keep.snoc (State.notifyAxis_keep _ _ _))
      | (with_reducible apply Keep.snoc (State.planStop_keep _ _ _))
      | (with_reducible apply Keep.snoc (State.planTo_keep _ _ _ _))
      | (with_reducible apply Keep.snoc (State.quickStop_keep _ _ _))
      | (with_reducible apply Keep.snoc (State.record_keep _ _ _ _))
      | (with_reducible apply Keep.snoc (State.replan_keep _ _ _))
      | (with_reducible apply Keep.snoc (State.setPlan_keep _ _ _ _ _))
      | (with_reducible apply Keep.snoc (State.unverify_keep _ _))
      | (with_reducible apply Keep.snoc (State.updAxis_keep _ _ _))
      | (with_reducible apply Keep.snoc' (h14 _))
      | (with_reducible apply Keep.snoc' (Keep.foldl ?_ _ _))
      | (with_reducible apply And.intro)
      | exact rfl
      | (refine Keep.fst (by assumption) ?_)
      | (refine Keep.snd (by assumption) ?_)
      | split
      | dsimp only
  have h20 : Keep 605028368 s v20 := by
    unfold v20
    repeat' first
      | with_reducible assumption
      | with_reducible exact Keep.refl _ _
      | intro _
      | (fail_if_no_progress beta_reduce)
      | (with_reducible apply KeepR.next)
      | (with_reducible apply Keep.ite)
      | (with_reducible apply KeepR.ite)
      | (with_reducible apply Keep.ite_fst)
      | (with_reducible apply Keep.snoc (State.notifyAxis_keep _ _ _))
      | (with_reducible apply Keep.snoc (State.planStop_keep _ _ _))
      | (with_reducible apply Keep.snoc (State.planTo_keep _ _ _ _))
      | (with_reducible apply Keep.snoc (State.quickStop_keep _ _ _))
      | (with_reducible apply Keep.snoc (State.record_keep _ _ _ _))
      | (with_reducible apply Keep.snoc (State.replan_keep _ _ _))
      | (with_reducible apply Keep.snoc (State.setPlan_keep _ _ _ _ _))
      | (with_reducible apply Keep.snoc (State.unverify_keep _ _))
      | (with_reducible apply Keep.snoc (State.updAxis_keep _ _ _))
      | (with_reducible apply Keep.snoc' (h14 _))
      | (with_reducible apply Keep.snoc' (Keep.foldl ?_ _ _))
      | (with_reducible apply And.intro)
      | exact rfl
      | (refine Keep.fst (by assumption) ?_)
      | (refine Keep.snd (by assumption) ?_)
      | split
      | dsimp only
  have h21 : Keep 605028368 s v21 := by
    unfold v21
    repeat' first
      | with_reducible assumption
      | with_reducible exact Keep.refl _ _
      | intro _
      | (fail_if_no_progress beta_reduce)
      | (with_reducible apply KeepR.next)
      | (with_reducible apply Keep.ite)
      | (with_reducible apply KeepR.ite)
      | (with_reducible apply Keep.ite_fst)
      | (with_reducible apply Keep.snoc (State.notifyAxis_keep _ _ _))
      | (with_reducible apply Keep.snoc (State.planStop_keep _ _ _))
      | (with_reducible apply Keep.snoc (State.planTo_keep _ _ _ _))
      | (with_reducible apply Keep.snoc (State.quickStop_keep _ _ _))
      | (with_reducible apply Keep.snoc (State.record_keep _ _ _ _))
      | (with_reducible apply Keep.snoc (State.replan_keep _ _ _))
      | (with_reducible apply Keep.snoc (State.setPlan_keep _ _ _ _ _))
      | (with_reducible apply Keep.snoc (State.unverify_keep _ _))
      | (with_reducible apply Keep.snoc (State.updAxis_keep _ _ _))
      | (with_reducible apply Keep.snoc' (h14 _))
      | (with_reducible apply Keep.snoc' (Keep.foldl ?_ _ _))
      | (with_reducible apply And.intro)
      | exact rfl
      | (refine Keep.fst (by assumption) ?_)
      | (refine Keep.snd (by assumption) ?_)
      | split
      | dsimp only
  have h22 : Keep 605028368 s v22 := by
    unfold v22
    repeat' first
      | with_reducible assumption
      | with_reducible exact Keep.refl _ _
      | intro _
      | (fail_if_no_progress beta_reduce)
      | (with_reducible apply KeepR.next)
      | (with_reducible apply Keep.ite)
      | (with_reducible apply KeepR.ite)
      | (with_reducible apply Keep.ite_fst)
      | (with_reducible apply Keep.snoc (State.notifyAxis_keep _ _ _))
      | (with_reducible apply Keep.snoc (State.planStop_keep _ _ _))
      | (with_reducible apply Keep.snoc (State.planTo_keep _ _ _ _))
      | (with_reducible apply Keep.snoc (State.quickStop_keep _ _ _))
      | (with_reducible apply Keep.snoc (State.record_keep _ _ _ _))
      | (with_reducible apply Keep.snoc (State.replan_keep _ _ _))
      | (with_reducible apply Keep.snoc (State.setPlan_keep _ _ _ _ _))
      | (with_reducible apply Keep.snoc (State.unverify_keep _ _))
      | (with_reducible apply Keep.snoc (State.updAxis_keep _ _ _))
      | (with_reducible apply Keep.snoc' (h14 _))
      | (with_reducible apply Keep.snoc' (Keep.foldl ?_ _ _))
      | (with_reducible apply And.intro)
      | exact rfl
      | (refine Keep.fst (by assumption) ?_)
      | (refine Keep.snd (by assumption) ?_)
      | split
      | dsimp only
  repeat' first
    | with_reducible assumption
    | with_reducible exact Keep.refl _ _
    | intro _
    | (fail_if_no_progress beta_reduce)
    | (with_reducible apply KeepR.next)
    | (with_reducible apply Keep.ite)
    | (with_reducible apply KeepR.ite)
    | (with_reducible apply Keep.ite_fst)
    | (with_reducible apply Keep.snoc (State.notifyAxis_keep _ _ _))
    | (with_reducible apply Keep.snoc (State.planStop_keep _ _ _))
    | (with_reducible apply Keep.snoc (State.planTo_keep _ _ _ _))
    | (with_reducible apply Keep.snoc (State.quickStop_keep _ _ _))
    | (with_reducible apply Keep.snoc (State.record_keep _ _ _ _))
    | (with_reducible apply Keep.snoc (State.replan_keep _ _ _))
    | (with_reducible apply Keep.snoc (State.setPlan_keep _ _ _ _ _))
    | (with_reducible apply Keep.snoc (State.unverify_keep _ _))
    | (with_reducible apply Keep.snoc (State.updAxis_keep _ _ _))
    | (with_reducible apply Keep.snoc' (h14 _))
    | (with_reducible apply Keep.snoc' (Keep.foldl ?_ _ _))
    | (with_reducible apply And.intro)
    | exact rfl
    | (refine Keep.fst (by assumption) ?_)
    | (refine Keep.snd (by assumption) ?_)
    | split
    | dsimp only

theorem State.enterTracking_keep : ∀ a0 s, Keep 605028368 s (State.enterTracking a0 s) := by
  intro a0 s
  unfold State.enterTracking
  extract_lets v0 v1
  have h0 : Keep 605028368 s v0 := by
    unfold v0
    repeat' first
      | with_reducible assumption
      | with_reducible exact Keep.refl _ _
      | intro _
      | (fail_if_no_progress beta_reduce)
      | (with_reducible apply KeepR.next)
      | (with_reducible apply Keep.ite)
      | (with_reducible apply KeepR.ite)
      | (with_reducible apply Keep.ite_fst)
      | (with_reducible apply Keep.snoc (State.notifyAxis_keep _ _ _))
      | (with_reducible apply Keep.snoc (State.record_keep _ _ _ _))
      | (with_reducible apply Keep.snoc (State.updAxis_keep _ _ _))
      | (with_reducible apply Keep.snoc' (Keep.foldl ?_ _ _))
      | (with_reducible apply And.intro)
      | exact rfl
      | (refine Keep.fst (by assumption) ?_)
      | (refine Keep.snd (by assumption) ?_)
      | split
      | dsimp only
  have h1 : Keep 605028368 s v1 := by
    unfold v1
    repeat' first
      | with_reducible assumption
      | with_reducible exact Keep.refl _ _
      | intro _
      | (fail_if_no_progress beta_reduce)
      | (with_reducible apply KeepR.next)
      | (with_reducible apply Keep.ite)
      | (with_reducible apply KeepR.ite)
      | (with_reducible apply Keep.ite_fst)
      | (with_reducible apply Keep.snoc (State.notifyAxis_keep _ _ _))
      | (with_reducible apply Keep.snoc (State.record_keep _ _ _ _))
      | (with_reducible apply Keep.snoc (State.updAxis_keep _ _ _))
      | (with_reducible apply Keep.snoc' (Keep.foldl ?_ _ _))
      | (with_reducible apply And.intro)
      | exact rfl
      | (refine Keep.fst (by assumption) ?_)
      | (refine Keep.snd (by assumption) ?_)
      | split
      | dsimp only
  repeat' first
    | with_reducible assumption
    | with_reducible exact Keep.refl _ _
    | intro _
    | (fail_if_no_progress beta_reduce)
    | (with_reducible apply KeepR.next)
    | (with_reducible apply Keep.ite)
    | (with_reducible apply KeepR.ite)
    | (with_reducible apply Keep.ite_fst)
    | (with_reducible apply Keep.snoc (State.notifyAxis_keep _ _ _))
    | (with_reducible apply Keep.snoc (State.record_keep _ _ _ _))
    | (with_reducible apply Keep.snoc (State.updAxis_keep _ _ _))
    | (with_reducible apply Keep.snoc' (Keep.foldl ?_ _ _))
    | (with_reducible apply And.intro)
    | exact rfl
    | (refine Keep.fst (by assumption) ?_)
    | (refine Keep.snd (by assumption) ?_)
    | split
    | dsimp only

theorem State.trackNow_keep : ∀ a0 a1 s, Keep 1048576 s (State.trackNow a0 a1 s) := by
  intro a0 a1 s
  unfold State.trackNow
  repeat' first
    | with_reducible assumption
    | with_reducible exact Keep.refl _ _
    | intro _
    | (fail_if_no_progress beta_reduce)
    | (with_reducible apply KeepR.next)
    | (with_reducible apply Keep.ite)
    | (with_reducible apply KeepR.ite)
    | (with_reducible apply Keep.ite_fst)
    | (with_reducible apply Keep.snoc (State.updAxis_keep _ _ _))
    | (with_reducible apply Keep.snoc' (Keep.foldl ?_ _ _))
    | (with_reducible apply And.intro)
    | exact rfl
    | (refine Keep.fst (by assumption) ?_)
    | (refine Keep.snd (by assumption) ?_)
    | split
    | dsimp only

theorem State.leaveTracking_keep : ∀ a0 a1 a2 s, Keep 537919504 s (State.leaveTracking a0 a1 a2 s) := by
  intro a0 a1 a2 s
  unfold State.leaveTracking
  extract_lets v0 v1 v2 v3 v4
  try clear_value v3
  try clear_value v1
  have h0 : Keep 537919504 s v0 := by
    unfold v0
    repeat' first
      | with_reducible assumption
      | with_reducible exact Keep.refl _ _
      | intro _
      | (fail_if_no_progress beta_reduce)
      | (with_reducible apply KeepR.next)
      | (with_reducible apply Keep.ite)
      | (with_reducible apply KeepR.ite)
      | (with_reducible apply Keep.ite_fst)
      | (with_reducible apply Keep.snoc (State.record_keep _ _ _ _))
      | (with_reducible apply Keep.snoc (State.trackNow_keep _ _ _))
      | (with_reducible apply Keep.snoc (State.unverify_keep _ _))
      | (with_reducible apply Keep.snoc (State.updAxis_keep _ _ _))
      | (with_reducible apply Keep.snoc' (Keep.foldl ?_ _ _))
      | (with_reducible apply And.intro)
      | exact rfl
      | (refine Keep.fst (by assumption) ?_)
      | (refine Keep.snd (by assumption) ?_)
      | split
      | dsimp only
  have h2 : Keep 537919504 s v2 := by
    unfold v2
    repeat' first
      | with_reducible assumption
      | with_reducible exact Keep.refl _ _
      | intro _
      | (fail_if_no_progress beta_reduce)
      | (with_reducible apply KeepR.next)
      | (with_reducible apply Keep.ite)
      | (with_reducible apply KeepR.ite)
      | (with_reducible apply Keep.ite_fst)
      | (with_reducible apply Keep.snoc (State.record_keep _ _ _ _))
      | (with_reducible apply Keep.snoc (State.trackNow_keep _ _ _))
      | (with_reducible apply Keep.snoc (State.unverify_keep _ _))
      | (with_reducible apply Keep.snoc (State.updAxis_keep _ _ _))
      | (with_reducible apply Keep.snoc' (Keep.foldl ?_ _ _))
      | (with_reducible apply And.intro)
      | exact rfl
      | (refine Keep.fst (by assumption) ?_)
      | (refine Keep.snd (by assumption) ?_)
      | split
      | dsimp only
  have h4 : Keep 537919504 s v4 := by
    unfold v4
    repeat' first
      | with_reducible assumption
      | with_reducible exact Keep.refl _ _
      | intro _
      | (fail_if_no_progress beta_reduce)
      | (with_reducible apply KeepR.next)
      | (with_reducible apply Keep.ite)
      | (with_reducible apply KeepR.ite)
      | (with_reducible apply Keep.ite_fst)
      | (with_reducible apply Keep.snoc (State.record_keep _ _ _ _))
      | (with_reducible apply Keep.snoc (State.trackNow_keep _ _ _))
      | (with_reducible apply Keep.snoc (State.unverify_keep _ _))
      | (with_reducible apply Keep.snoc (State.updAxis_keep _ _ _))
      | (with_reducible apply Keep.snoc' (Keep.foldl ?_ _ _))
      | (with_reducible apply And.intro)
      | exact rfl
      | (refine Keep.fst (by assumption) ?_)
      | (refine Keep.snd (by assumption) ?_)
      | split
      | dsimp only
  repeat' first
    | with_reducible assumption
    | with_reducible exact Keep.refl _ _
    | intro _
    | (fail_if_no_progress beta_reduce)
    | (with_reducible apply KeepR.next)
    | (with_reducible apply Keep.ite)
    | (with_reducible apply KeepR.ite)
    | (with_reducible apply Keep.ite_fst)
    | (with_reducible apply Keep.snoc (State.record_keep _ _ _ _))
    | (with_reducible apply Keep.snoc (State.trackNow_keep _ _ _))
    | (with_reducible apply Keep.snoc (State.unverify_keep _ _))
    | (with_reducible apply Keep.snoc (State.updAxis_keep _ _ _))
    | (with_reducible apply Keep.snoc' (Keep.foldl ?_ _ _))
    | (with_reducible apply And.intro)
    | exact rfl
    | (refine Keep.fst (by assumption) ?_)
    | (refine Keep.snd (by assumption) ?_)
    | split
    | dsimp only

theorem State.writeServo_keep : ∀ a0 a1 a2 a3 a4 s, Keep 9437184 s (State.writeServo a0 a1 a2 a3 a4 s) := by
  intro a0 a1 a2 a3 a4 s
  unfold State.writeServo
  extract_lets v0 v1 v2 v3 v4 v5 v6 v7 v8
  try clear_value v7
  try clear_value v6
  try clear_value v5
  try clear_value v4
  try clear_value v3
  try clear_value v2
  try clear_value v1
  try clear_value v0
  have h8 : Keep 9437184 s v8 := by
    unfold v8
    repeat' first
      | with_reducible assumption
      | with_reducible exact Keep.refl _ _
      | intro _
      | (fail_if_no_progress beta_reduce)
      | (with_reducible apply KeepR.next)
      | (with_reducible apply Keep.ite)
      | (with_reducible apply KeepR.ite)
      | (with_reducible apply Keep.ite_fst)
      | (with_reducible apply Keep.snoc (State.remoteOut_keep _ _ _ _ _))
      | (with_reducible apply Keep.snoc (State.updAxis_keep _ _ _))
      | (with_reducible apply Keep.snoc' (Keep.foldl ?_ _ _))
      | (with_reducible apply And.intro)
      | exact rfl
      | (refine Keep.fst (by assumption) ?_)
      | (refine Keep.snd (by assumption) ?_)
      | split
      | dsimp only
  repeat' first
    | with_reducible assumption
    | with_reducible exact Keep.refl _ _
    | intro _
    | (fail_if_no_progress beta_reduce)
    | (with_reducible apply KeepR.next)
    | (with_reducible apply Keep.ite)
    | (with_reducible apply KeepR.ite)
    | (with_reducible apply Keep.ite_fst)
    | (with_reducible apply Keep.snoc (State.remoteOut_keep _ _ _ _ _))
    | (with_reducible apply Keep.snoc (State.updAxis_keep _ _ _))
    | (with_reducible apply Keep.snoc' (Keep.foldl ?_ _ _))
    | (with_reducible apply And.intro)
    | exact rfl
    | (refine Keep.fst (by assumption) ?_)
    | (refine Keep.snd (by assumption) ?_)
    | split
    | dsimp only

theorem State.axisTakeConfig_keep : ∀ a0 a1 s, Keep 10293870608 s (State.axisTakeConfig a0 a1 s) := by
  intro a0 a1 s
  unfold State.axisTakeConfig
  extract_lets v0
  try clear_value v0
  repeat' first
    | with_reducible assumption
    | with_reducible exact Keep.refl _ _
    | intro _
    | (fail_if_no_progress beta_reduce)
    | (with_reducible apply KeepR.next)
    | (with_reducible apply Keep.ite)
    | (with_reducible apply KeepR.ite)
    | (with_reducible apply Keep.ite_fst)
    | (with_reducible apply Keep.snoc (State.completeAll_keep _ _ _))
    | (with_reducible apply Keep.snoc (State.record_keep _ _ _ _))
    | (with_reducible apply Keep.snoc (State.storeObject_keep _ _ _ _))
    | (with_reducible apply Keep.snoc (State.unverify_keep _ _))
    | (with_reducible apply Keep.snoc (State.updAxis_keep _ _ _))
    | (with_reducible apply Keep.snoc' (Keep.foldl ?_ _ _))
    | (with_reducible apply And.intro)
    | exact rfl
    | (refine Keep.fst (by assumption) ?_)
    | (refine Keep.snd (by assumption) ?_)
    | split
    | dsimp only

theorem State.applyAxisCmd_keep : ∀ a0 a1 s a3, Keep 630194192 s (State.applyAxisCmd a0 a1 s a3) := by
  intro a0 a1 s a3
  unfold State.applyAxisCmd
  repeat' first
    | with_reducible assumption
    | with_reducible exact Keep.refl _ _
    | intro _
    | (fail_if_no_progress beta_reduce)
    | (with_reducible apply KeepR.next)
    | (with_reducible apply Keep.ite)
    | (with_reducible apply KeepR.ite)
    | (with_reducible apply Keep.ite_fst)
    | (with_reducible apply Keep.snoc (State.complete_keep _ _ _))
    | (with_reducible apply Keep.snoc (State.takeAxis_keep _ _ _ _))
    | (with_reducible apply Keep.snoc (State.updAxis_keep _ _ _))
    | (with_reducible apply Keep.snoc' (Keep.foldl ?_ _ _))
    | (with_reducible apply And.intro)
    | exact rfl
    | (refine Keep.fst (by assumption) ?_)
    | (refine Keep.snd (by assumption) ?_)
    | split
    | dsimp only

theorem State.nextPass_keep : ∀ a0 a1 a2 s, Keep 605028368 s (State.nextPass a0 a1 a2 s) := by
  intro a0 a1 a2 s
  unfold State.nextPass
  extract_lets v0 v1 v2 v3 v4 v5
  try clear_value v5
  try clear_value v4
  try clear_value v3
  try clear_value v2
  try clear_value v1
  try clear_value v0
  repeat' first
    | with_reducible assumption
    | with_reducible exact Keep.refl _ _
    | intro _
    | (fail_if_no_progress beta_reduce)
    | (with_reducible apply KeepR.next)
    | (with_reducible apply Keep.ite)
    | (with_reducible apply KeepR.ite)
    | (with_reducible apply Keep.ite_fst)
    | (with_reducible apply Keep.snoc (State.notifyAxis_keep _ _ _))
    | (with_reducible apply Keep.snoc (State.record_keep _ _ _ _))
    | (with_reducible apply Keep.snoc (State.setPlan_keep _ _ _ _ _))
    | (with_reducible apply Keep.snoc (State.updAxis_keep _ _ _))
    | (with_reducible apply Keep.snoc' (Keep.foldl ?_ _ _))
    | (with_reducible apply And.intro)
    | exact rfl
    | (refine Keep.fst (by assumption) ?_)
    | (refine Keep.snd (by assumption) ?_)
    | split
    | dsimp only

theorem State.settleMotion_keep : ∀ a0 a1 s, Keep 605028368 s (State.settleMotion a0 a1 s) := by
  intro a0 a1 s
  unfold State.settleMotion
  extract_lets v0 v1 v2 v3 v4
  try clear_value v3
  try clear_value v0
  have h1 : Keep 605028368 s v1 := by
    unfold v1
    repeat' first
      | with_reducible assumption
      | with_reducible exact Keep.refl _ _
      | intro _
      | (fail_if_no_progress beta_reduce)
      | (with_reducible apply KeepR.next)
      | (with_reducible apply Keep.ite)
      | (with_reducible apply KeepR.ite)
      | (with_reducible apply Keep.ite_fst)
      | (with_reducible apply Keep.snoc (State.notifyAxisAt_keep _ _ _ _))
      | (with_reducible apply Keep.snoc (State.record_keep _ _ _ _))
      | (with_reducible apply Keep.snoc (State.updAxis_keep _ _ _))
      | (with_reducible apply Keep.snoc' (h2 _))
      | (with_reducible apply Keep.snoc' (Keep.foldl ?_ _ _))
      | (with_reducible apply And.intro)
      | exact rfl
      | (refine Keep.fst (by assumption) ?_)
      | (refine Keep.snd (by assumption) ?_)
      | split
      | dsimp only
  have h2 : ∀ q0, Keep 605028368 q0 (v2 q0) := by
    intro q0
    unfold v2
    repeat' first
      | with_reducible assumption
      | with_reducible exact Keep.refl _ _
      | intro _
      | (fail_if_no_progress beta_reduce)
      | (with_reducible apply KeepR.next)
      | (with_reducible apply Keep.ite)
      | (with_reducible apply KeepR.ite)
      | (with_reducible apply Keep.ite_fst)
      | (with_reducible apply Keep.snoc (State.notifyAxisAt_keep _ _ _ _))
      | (with_reducible apply Keep.snoc (State.record_keep _ _ _ _))
      | (with_reducible apply Keep.snoc (State.updAxis_keep _ _ _))
      | (with_reducible apply Keep.snoc' (h2 _))
      | (with_reducible apply Keep.snoc' (Keep.foldl ?_ _ _))
      | (with_reducible apply And.intro)
      | exact rfl
      | (refine Keep.fst (by assumption) ?_)
      | (refine Keep.snd (by assumption) ?_)
      | split
      | dsimp only
  have h4 : Keep 605028368 s v4 := by
    unfold v4
    repeat' first
      | with_reducible assumption
      | with_reducible exact Keep.refl _ _
      | intro _
      | (fail_if_no_progress beta_reduce)
      | (with_reducible apply KeepR.next)
      | (with_reducible apply Keep.ite)
      | (with_reducible apply KeepR.ite)
      | (with_reducible apply Keep.ite_fst)
      | (with_reducible apply Keep.snoc (State.notifyAxisAt_keep _ _ _ _))
      | (with_reducible apply Keep.snoc (State.record_keep _ _ _ _))
      | (with_reducible apply Keep.snoc (State.updAxis_keep _ _ _))
      | (with_reducible apply Keep.snoc' (h2 _))
      | (with_reducible apply Keep.snoc' (Keep.foldl ?_ _ _))
      | (with_reducible apply And.intro)
      | exact rfl
      | (refine Keep.fst (by assumption) ?_)
      | (refine Keep.snd (by assumption) ?_)
      | split
      | dsimp only
  repeat' first
    | with_reducible assumption
    | with_reducible exact Keep.refl _ _
    | intro _
    | (fail_if_no_progress beta_reduce)
    | (with_reducible apply KeepR.next)
    | (with_reducible apply Keep.ite)
    | (with_reducible apply KeepR.ite)
    | (with_reducible apply Keep.ite_fst)
    | (with_reducible apply Keep.snoc (State.notifyAxisAt_keep _ _ _ _))
    | (with_reducible apply Keep.snoc (State.record_keep _ _ _ _))
    | (with_reducible apply Keep.snoc (State.updAxis_keep _ _ _))
    | (with_reducible apply Keep.snoc' (h2 _))
    | (with_reducible apply Keep.snoc' (Keep.foldl ?_ _ _))
    | (with_reducible apply And.intro)
    | exact rfl
    | (refine Keep.fst (by assumption) ?_)
    | (refine Keep.snd (by assumption) ?_)
    | split
    | dsimp only

theorem State.axisSampleAt_keep : ∀ a0 a1 a2 a3 s, Keep 10293870608 s (State.axisSampleAt a0 a1 a2 a3 s) := by
  intro a0 a1 a2 a3 s
  unfold State.axisSampleAt
  extract_lets start org c e s1
  have h_s1 : Keep 10293870608 s s1 := by
    unfold s1
    repeat' first
      | with_reducible assumption
      | with_reducible exact Keep.refl _ _
      | intro _
      | (fail_if_no_progress beta_reduce)
      | (with_reducible apply KeepR.next)
      | (with_reducible apply Keep.ite)
      | (with_reducible apply KeepR.ite)
      | (with_reducible apply Keep.ite_fst)
      | (with_reducible apply Keep.snoc (State.applyAxisCmd_keep _ _ _ _))
      | (with_reducible apply Keep.snoc (State.axisFault_keep _ _ _ _))
      | (with_reducible apply Keep.snoc (State.axisTakeConfig_keep _ _ _))
      | (with_reducible apply Keep.snoc (State.completeAll_keep _ _ _))
      | (with_reducible apply Keep.snoc (State.enterTracking_keep _ _))
      | (with_reducible apply Keep.snoc (State.leaveTracking_keep _ _ _ _))
      | (with_reducible apply Keep.snoc (State.nextPass_keep _ _ _ _))
      | (with_reducible apply Keep.snoc (State.record_keep _ _ _ _))
      | (with_reducible apply Keep.snoc (State.settleMotion_keep _ _ _))
      | (with_reducible apply Keep.snoc (State.takeLimits_keep _ _ _ _))
      | (with_reducible apply Keep.snoc (State.trackNow_keep _ _ _))
      | (with_reducible apply Keep.snoc (State.unverify_keep _ _))
      | (with_reducible apply Keep.snoc (State.updAxis_keep _ _ _))
      | (with_reducible apply Keep.snoc (State.writeServo_keep _ _ _ _ _ _))
      | (with_reducible apply Keep.snoc' (Keep.foldl ?_ _ _))
      | (with_reducible apply And.intro)
      | exact rfl
      | (refine Keep.fst (by assumption) ?_)
      | (refine Keep.snd (by assumption) ?_)
      | split
      | dsimp only
  clear_value org e
  split
  · repeat' first
      | with_reducible assumption
      | with_reducible exact Keep.refl _ _
      | intro _
      | (fail_if_no_progress beta_reduce)
      | (with_reducible apply KeepR.next)
      | (with_reducible apply Keep.ite)
      | (with_reducible apply KeepR.ite)
      | (with_reducible apply Keep.ite_fst)
      | (with_reducible apply Keep.snoc (State.applyAxisCmd_keep _ _ _ _))
      | (with_reducible apply Keep.snoc (State.axisFault_keep _ _ _ _))
      | (with_reducible apply Keep.snoc (State.axisTakeConfig_keep _ _ _))
      | (with_reducible apply Keep.snoc (State.completeAll_keep _ _ _))
      | (with_reducible apply Keep.snoc (State.enterTracking_keep _ _))
      | (with_reducible apply Keep.snoc (State.leaveTracking_keep _ _ _ _))
      | (with_reducible apply Keep.snoc (State.nextPass_keep _ _ _ _))
      | (with_reducible apply Keep.snoc (State.record_keep _ _ _ _))
      | (with_reducible apply Keep.snoc (State.settleMotion_keep _ _ _))
      | (with_reducible apply Keep.snoc (State.takeLimits_keep _ _ _ _))
      | (with_reducible apply Keep.snoc (State.trackNow_keep _ _ _))
      | (with_reducible apply Keep.snoc (State.unverify_keep _ _))
      | (with_reducible apply Keep.snoc (State.updAxis_keep _ _ _))
      | (with_reducible apply Keep.snoc (State.writeServo_keep _ _ _ _ _ _))
      | (with_reducible apply Keep.snoc' (Keep.foldl ?_ _ _))
      | (with_reducible apply And.intro)
      | exact rfl
      | (refine Keep.fst (by assumption) ?_)
      | (refine Keep.snd (by assumption) ?_)
      | split
      | dsimp only
  · rename_i o ho
    extract_lets s2 s3 lost s4 s5 s6 s7 a s8 cmds s9 s10 s11 at_ s12 s13 s14 s15
    have h_s2 : Keep 10293870608 s s2 := by
      unfold s2
      repeat' first
        | with_reducible assumption
        | with_reducible exact Keep.refl _ _
        | intro _
        | (fail_if_no_progress beta_reduce)
        | (with_reducible apply KeepR.next)
        | (with_reducible apply Keep.ite)
        | (with_reducible apply KeepR.ite)
        | (with_reducible apply Keep.ite_fst)
        | (with_reducible apply Keep.snoc (State.applyAxisCmd_keep _ _ _ _))
        | (with_reducible apply Keep.snoc (State.axisFault_keep _ _ _ _))
        | (with_reducible apply Keep.snoc (State.axisTakeConfig_keep _ _ _))
        | (with_reducible apply Keep.snoc (State.completeAll_keep _ _ _))
        | (with_reducible apply Keep.snoc (State.enterTracking_keep _ _))
        | (with_reducible apply Keep.snoc (State.leaveTracking_keep _ _ _ _))
        | (with_reducible apply Keep.snoc (State.nextPass_keep _ _ _ _))
        | (with_reducible apply Keep.snoc (State.record_keep _ _ _ _))
        | (with_reducible apply Keep.snoc (State.settleMotion_keep _ _ _))
        | (with_reducible apply Keep.snoc (State.takeLimits_keep _ _ _ _))
        | (with_reducible apply Keep.snoc (State.trackNow_keep _ _ _))
        | (with_reducible apply Keep.snoc (State.unverify_keep _ _))
        | (with_reducible apply Keep.snoc (State.updAxis_keep _ _ _))
        | (with_reducible apply Keep.snoc (State.writeServo_keep _ _ _ _ _ _))
        | (with_reducible apply Keep.snoc' (Keep.foldl ?_ _ _))
        | (with_reducible apply And.intro)
        | exact rfl
        | (refine Keep.fst (by assumption) ?_)
        | (refine Keep.snd (by assumption) ?_)
        | split
        | dsimp only
    have h_s3 : Keep 10293870608 s s3 := by
      unfold s3
      repeat' first
        | with_reducible assumption
        | with_reducible exact Keep.refl _ _
        | intro _
        | (fail_if_no_progress beta_reduce)
        | (with_reducible apply KeepR.next)
        | (with_reducible apply Keep.ite)
        | (with_reducible apply KeepR.ite)
        | (with_reducible apply Keep.ite_fst)
        | (with_reducible apply Keep.snoc (State.applyAxisCmd_keep _ _ _ _))
        | (with_reducible apply Keep.snoc (State.axisFault_keep _ _ _ _))
        | (with_reducible apply Keep.snoc (State.axisTakeConfig_keep _ _ _))
        | (with_reducible apply Keep.snoc (State.completeAll_keep _ _ _))
        | (with_reducible apply Keep.snoc (State.enterTracking_keep _ _))
        | (with_reducible apply Keep.snoc (State.leaveTracking_keep _ _ _ _))
        | (with_reducible apply Keep.snoc (State.nextPass_keep _ _ _ _))
        | (with_reducible apply Keep.snoc (State.record_keep _ _ _ _))
        | (with_reducible apply Keep.snoc (State.settleMotion_keep _ _ _))
        | (with_reducible apply Keep.snoc (State.takeLimits_keep _ _ _ _))
        | (with_reducible apply Keep.snoc (State.trackNow_keep _ _ _))
        | (with_reducible apply Keep.snoc (State.unverify_keep _ _))
        | (with_reducible apply Keep.snoc (State.updAxis_keep _ _ _))
        | (with_reducible apply Keep.snoc (State.writeServo_keep _ _ _ _ _ _))
        | (with_reducible apply Keep.snoc' (Keep.foldl ?_ _ _))
        | (with_reducible apply And.intro)
        | exact rfl
        | (refine Keep.fst (by assumption) ?_)
        | (refine Keep.snd (by assumption) ?_)
        | split
        | dsimp only
    have h_s4 : Keep 10293870608 s s4 := by
      unfold s4
      repeat' first
        | with_reducible assumption
        | with_reducible exact Keep.refl _ _
        | intro _
        | (fail_if_no_progress beta_reduce)
        | (with_reducible apply KeepR.next)
        | (with_reducible apply Keep.ite)
        | (with_reducible apply KeepR.ite)
        | (with_reducible apply Keep.ite_fst)
        | (with_reducible apply Keep.snoc (State.applyAxisCmd_keep _ _ _ _))
        | (with_reducible apply Keep.snoc (State.axisFault_keep _ _ _ _))
        | (with_reducible apply Keep.snoc (State.axisTakeConfig_keep _ _ _))
        | (with_reducible apply Keep.snoc (State.completeAll_keep _ _ _))
        | (with_reducible apply Keep.snoc (State.enterTracking_keep _ _))
        | (with_reducible apply Keep.snoc (State.leaveTracking_keep _ _ _ _))
        | (with_reducible apply Keep.snoc (State.nextPass_keep _ _ _ _))
        | (with_reducible apply Keep.snoc (State.record_keep _ _ _ _))
        | (with_reducible apply Keep.snoc (State.settleMotion_keep _ _ _))
        | (with_reducible apply Keep.snoc (State.takeLimits_keep _ _ _ _))
        | (with_reducible apply Keep.snoc (State.trackNow_keep _ _ _))
        | (with_reducible apply Keep.snoc (State.unverify_keep _ _))
        | (with_reducible apply Keep.snoc (State.updAxis_keep _ _ _))
        | (with_reducible apply Keep.snoc (State.writeServo_keep _ _ _ _ _ _))
        | (with_reducible apply Keep.snoc' (Keep.foldl ?_ _ _))
        | (with_reducible apply And.intro)
        | exact rfl
        | (refine Keep.fst (by assumption) ?_)
        | (refine Keep.snd (by assumption) ?_)
        | split
        | dsimp only
    have h_s5 : Keep 10293870608 s s5 := by
      unfold s5
      repeat' first
        | with_reducible assumption
        | with_reducible exact Keep.refl _ _
        | intro _
        | (fail_if_no_progress beta_reduce)
        | (with_reducible apply KeepR.next)
        | (with_reducible apply Keep.ite)
        | (with_reducible apply KeepR.ite)
        | (with_reducible apply Keep.ite_fst)
        | (with_reducible apply Keep.snoc (State.applyAxisCmd_keep _ _ _ _))
        | (with_reducible apply Keep.snoc (State.axisFault_keep _ _ _ _))
        | (with_reducible apply Keep.snoc (State.axisTakeConfig_keep _ _ _))
        | (with_reducible apply Keep.snoc (State.completeAll_keep _ _ _))
        | (with_reducible apply Keep.snoc (State.enterTracking_keep _ _))
        | (with_reducible apply Keep.snoc (State.leaveTracking_keep _ _ _ _))
        | (with_reducible apply Keep.snoc (State.nextPass_keep _ _ _ _))
        | (with_reducible apply Keep.snoc (State.record_keep _ _ _ _))
        | (with_reducible apply Keep.snoc (State.settleMotion_keep _ _ _))
        | (with_reducible apply Keep.snoc (State.takeLimits_keep _ _ _ _))
        | (with_reducible apply Keep.snoc (State.trackNow_keep _ _ _))
        | (with_reducible apply Keep.snoc (State.unverify_keep _ _))
        | (with_reducible apply Keep.snoc (State.updAxis_keep _ _ _))
        | (with_reducible apply Keep.snoc (State.writeServo_keep _ _ _ _ _ _))
        | (with_reducible apply Keep.snoc' (Keep.foldl ?_ _ _))
        | (with_reducible apply And.intro)
        | exact rfl
        | (refine Keep.fst (by assumption) ?_)
        | (refine Keep.snd (by assumption) ?_)
        | split
        | dsimp only
    have h_s6 : Keep 10293870608 s s6 := by
      unfold s6
      repeat' first
        | with_reducible assumption
        | with_reducible exact Keep.refl _ _
        | intro _
        | (fail_if_no_progress beta_reduce)
        | (with_reducible apply KeepR.next)
        | (with_reducible apply Keep.ite)
        | (with_reducible apply KeepR.ite)
        | (with_reducible apply Keep.ite_fst)
        | (with_reducible apply Keep.snoc (State.applyAxisCmd_keep _ _ _ _))
        | (with_reducible apply Keep.snoc (State.axisFault_keep _ _ _ _))
        | (with_reducible apply Keep.snoc (State.axisTakeConfig_keep _ _ _))
        | (with_reducible apply Keep.snoc (State.completeAll_keep _ _ _))
        | (with_reducible apply Keep.snoc (State.enterTracking_keep _ _))
        | (with_reducible apply Keep.snoc (State.leaveTracking_keep _ _ _ _))
        | (with_reducible apply Keep.snoc (State.nextPass_keep _ _ _ _))
        | (with_reducible apply Keep.snoc (State.record_keep _ _ _ _))
        | (with_reducible apply Keep.snoc (State.settleMotion_keep _ _ _))
        | (with_reducible apply Keep.snoc (State.takeLimits_keep _ _ _ _))
        | (with_reducible apply Keep.snoc (State.trackNow_keep _ _ _))
        | (with_reducible apply Keep.snoc (State.unverify_keep _ _))
        | (with_reducible apply Keep.snoc (State.updAxis_keep _ _ _))
        | (with_reducible apply Keep.snoc (State.writeServo_keep _ _ _ _ _ _))
        | (with_reducible apply Keep.snoc' (Keep.foldl ?_ _ _))
        | (with_reducible apply And.intro)
        | exact rfl
        | (refine Keep.fst (by assumption) ?_)
        | (refine Keep.snd (by assumption) ?_)
        | split
        | dsimp only
    have h_s7 : Keep 10293870608 s s7 := by
      unfold s7
      repeat' first
        | with_reducible assumption
        | with_reducible exact Keep.refl _ _
        | intro _
        | (fail_if_no_progress beta_reduce)
        | (with_reducible apply KeepR.next)
        | (with_reducible apply Keep.ite)
        | (with_reducible apply KeepR.ite)
        | (with_reducible apply Keep.ite_fst)
        | (with_reducible apply Keep.snoc (State.applyAxisCmd_keep _ _ _ _))
        | (with_reducible apply Keep.snoc (State.axisFault_keep _ _ _ _))
        | (with_reducible apply Keep.snoc (State.axisTakeConfig_keep _ _ _))
        | (with_reducible apply Keep.snoc (State.completeAll_keep _ _ _))
        | (with_reducible apply Keep.snoc (State.enterTracking_keep _ _))
        | (with_reducible apply Keep.snoc (State.leaveTracking_keep _ _ _ _))
        | (with_reducible apply Keep.snoc (State.nextPass_keep _ _ _ _))
        | (with_reducible apply Keep.snoc (State.record_keep _ _ _ _))
        | (with_reducible apply Keep.snoc (State.settleMotion_keep _ _ _))
        | (with_reducible apply Keep.snoc (State.takeLimits_keep _ _ _ _))
        | (with_reducible apply Keep.snoc (State.trackNow_keep _ _ _))
        | (with_reducible apply Keep.snoc (State.unverify_keep _ _))
        | (with_reducible apply Keep.snoc (State.updAxis_keep _ _ _))
        | (with_reducible apply Keep.snoc (State.writeServo_keep _ _ _ _ _ _))
        | (with_reducible apply Keep.snoc' (Keep.foldl ?_ _ _))
        | (with_reducible apply And.intro)
        | exact rfl
        | (refine Keep.fst (by assumption) ?_)
        | (refine Keep.snd (by assumption) ?_)
        | split
        | dsimp only
    have h_s8 : Keep 10293870608 s s8 := by
      unfold s8
      repeat' first
        | with_reducible assumption
        | with_reducible exact Keep.refl _ _
        | intro _
        | (fail_if_no_progress beta_reduce)
        | (with_reducible apply KeepR.next)
        | (with_reducible apply Keep.ite)
        | (with_reducible apply KeepR.ite)
        | (with_reducible apply Keep.ite_fst)
        | (with_reducible apply Keep.snoc (State.applyAxisCmd_keep _ _ _ _))
        | (with_reducible apply Keep.snoc (State.axisFault_keep _ _ _ _))
        | (with_reducible apply Keep.snoc (State.axisTakeConfig_keep _ _ _))
        | (with_reducible apply Keep.snoc (State.completeAll_keep _ _ _))
        | (with_reducible apply Keep.snoc (State.enterTracking_keep _ _))
        | (with_reducible apply Keep.snoc (State.leaveTracking_keep _ _ _ _))
        | (with_reducible apply Keep.snoc (State.nextPass_keep _ _ _ _))
        | (with_reducible apply Keep.snoc (State.record_keep _ _ _ _))
        | (with_reducible apply Keep.snoc (State.settleMotion_keep _ _ _))
        | (with_reducible apply Keep.snoc (State.takeLimits_keep _ _ _ _))
        | (with_reducible apply Keep.snoc (State.trackNow_keep _ _ _))
        | (with_reducible apply Keep.snoc (State.unverify_keep _ _))
        | (with_reducible apply Keep.snoc (State.updAxis_keep _ _ _))
        | (with_reducible apply Keep.snoc (State.writeServo_keep _ _ _ _ _ _))
        | (with_reducible apply Keep.snoc' (Keep.foldl ?_ _ _))
        | (with_reducible apply And.intro)
        | exact rfl
        | (refine Keep.fst (by assumption) ?_)
        | (refine Keep.snd (by assumption) ?_)
        | split
        | dsimp only
    have h_s9 : Keep 10293870608 s s9 := by
      unfold s9
      repeat' first
        | with_reducible assumption
        | with_reducible exact Keep.refl _ _
        | intro _
        | (fail_if_no_progress beta_reduce)
        | (with_reducible apply KeepR.next)
        | (with_reducible apply Keep.ite)
        | (with_reducible apply KeepR.ite)
        | (with_reducible apply Keep.ite_fst)
        | (with_reducible apply Keep.snoc (State.applyAxisCmd_keep _ _ _ _))
        | (with_reducible apply Keep.snoc (State.axisFault_keep _ _ _ _))
        | (with_reducible apply Keep.snoc (State.axisTakeConfig_keep _ _ _))
        | (with_reducible apply Keep.snoc (State.completeAll_keep _ _ _))
        | (with_reducible apply Keep.snoc (State.enterTracking_keep _ _))
        | (with_reducible apply Keep.snoc (State.leaveTracking_keep _ _ _ _))
        | (with_reducible apply Keep.snoc (State.nextPass_keep _ _ _ _))
        | (with_reducible apply Keep.snoc (State.record_keep _ _ _ _))
        | (with_reducible apply Keep.snoc (State.settleMotion_keep _ _ _))
        | (with_reducible apply Keep.snoc (State.takeLimits_keep _ _ _ _))
        | (with_reducible apply Keep.snoc (State.trackNow_keep _ _ _))
        | (with_reducible apply Keep.snoc (State.unverify_keep _ _))
        | (with_reducible apply Keep.snoc (State.updAxis_keep _ _ _))
        | (with_reducible apply Keep.snoc (State.writeServo_keep _ _ _ _ _ _))
        | (with_reducible apply Keep.snoc' (Keep.foldl ?_ _ _))
        | (with_reducible apply And.intro)
        | exact rfl
        | (refine Keep.fst (by assumption) ?_)
        | (refine Keep.snd (by assumption) ?_)
        | split
        | dsimp only
    have h_s10 : Keep 10293870608 s s10 := by
      unfold s10
      repeat' first
        | with_reducible assumption
        | with_reducible exact Keep.refl _ _
        | intro _
        | (fail_if_no_progress beta_reduce)
        | (with_reducible apply KeepR.next)
        | (with_reducible apply Keep.ite)
        | (with_reducible apply KeepR.ite)
        | (with_reducible apply Keep.ite_fst)
        | (with_reducible apply Keep.snoc (State.applyAxisCmd_keep _ _ _ _))
        | (with_reducible apply Keep.snoc (State.axisFault_keep _ _ _ _))
        | (with_reducible apply Keep.snoc (State.axisTakeConfig_keep _ _ _))
        | (with_reducible apply Keep.snoc (State.completeAll_keep _ _ _))
        | (with_reducible apply Keep.snoc (State.enterTracking_keep _ _))
        | (with_reducible apply Keep.snoc (State.leaveTracking_keep _ _ _ _))
        | (with_reducible apply Keep.snoc (State.nextPass_keep _ _ _ _))
        | (with_reducible apply Keep.snoc (State.record_keep _ _ _ _))
        | (with_reducible apply Keep.snoc (State.settleMotion_keep _ _ _))
        | (with_reducible apply Keep.snoc (State.takeLimits_keep _ _ _ _))
        | (with_reducible apply Keep.snoc (State.trackNow_keep _ _ _))
        | (with_reducible apply Keep.snoc (State.unverify_keep _ _))
        | (with_reducible apply Keep.snoc (State.updAxis_keep _ _ _))
        | (with_reducible apply Keep.snoc (State.writeServo_keep _ _ _ _ _ _))
        | (with_reducible apply Keep.snoc' (Keep.foldl ?_ _ _))
        | (with_reducible apply And.intro)
        | exact rfl
        | (refine Keep.fst (by assumption) ?_)
        | (refine Keep.snd (by assumption) ?_)
        | split
        | dsimp only
    have h_s11 : Keep 10293870608 s s11 := by
      unfold s11
      repeat' first
        | with_reducible assumption
        | with_reducible exact Keep.refl _ _
        | intro _
        | (fail_if_no_progress beta_reduce)
        | (with_reducible apply KeepR.next)
        | (with_reducible apply Keep.ite)
        | (with_reducible apply KeepR.ite)
        | (with_reducible apply Keep.ite_fst)
        | (with_reducible apply Keep.snoc (State.applyAxisCmd_keep _ _ _ _))
        | (with_reducible apply Keep.snoc (State.axisFault_keep _ _ _ _))
        | (with_reducible apply Keep.snoc (State.axisTakeConfig_keep _ _ _))
        | (with_reducible apply Keep.snoc (State.completeAll_keep _ _ _))
        | (with_reducible apply Keep.snoc (State.enterTracking_keep _ _))
        | (with_reducible apply Keep.snoc (State.leaveTracking_keep _ _ _ _))
        | (with_reducible apply Keep.snoc (State.nextPass_keep _ _ _ _))
        | (with_reducible apply Keep.snoc (State.record_keep _ _ _ _))
        | (with_reducible apply Keep.snoc (State.settleMotion_keep _ _ _))
        | (with_reducible apply Keep.snoc (State.takeLimits_keep _ _ _ _))
        | (with_reducible apply Keep.snoc (State.trackNow_keep _ _ _))
        | (with_reducible apply Keep.snoc (State.unverify_keep _ _))
        | (with_reducible apply Keep.snoc (State.updAxis_keep _ _ _))
        | (with_reducible apply Keep.snoc (State.writeServo_keep _ _ _ _ _ _))
        | (with_reducible apply Keep.snoc' (Keep.foldl ?_ _ _))
        | (with_reducible apply And.intro)
        | exact rfl
        | (refine Keep.fst (by assumption) ?_)
        | (refine Keep.snd (by assumption) ?_)
        | split
        | dsimp only
    have h_s12 : Keep 10293870608 s s12 := by
      unfold s12
      repeat' first
        | with_reducible assumption
        | with_reducible exact Keep.refl _ _
        | intro _
        | (fail_if_no_progress beta_reduce)
        | (with_reducible apply KeepR.next)
        | (with_reducible apply Keep.ite)
        | (with_reducible apply KeepR.ite)
        | (with_reducible apply Keep.ite_fst)
        | (with_reducible apply Keep.snoc (State.applyAxisCmd_keep _ _ _ _))
        | (with_reducible apply Keep.snoc (State.axisFault_keep _ _ _ _))
        | (with_reducible apply Keep.snoc (State.axisTakeConfig_keep _ _ _))
        | (with_reducible apply Keep.snoc (State.completeAll_keep _ _ _))
        | (with_reducible apply Keep.snoc (State.enterTracking_keep _ _))
        | (with_reducible apply Keep.snoc (State.leaveTracking_keep _ _ _ _))
        | (with_reducible apply Keep.snoc (State.nextPass_keep _ _ _ _))
        | (with_reducible apply Keep.snoc (State.record_keep _ _ _ _))
        | (with_reducible apply Keep.snoc (State.settleMotion_keep _ _ _))
        | (with_reducible apply Keep.snoc (State.takeLimits_keep _ _ _ _))
        | (with_reducible apply Keep.snoc (State.trackNow_keep _ _ _))
        | (with_reducible apply Keep.snoc (State.unverify_keep _ _))
        | (with_reducible apply Keep.snoc (State.updAxis_keep _ _ _))
        | (with_reducible apply Keep.snoc (State.writeServo_keep _ _ _ _ _ _))
        | (with_reducible apply Keep.snoc' (Keep.foldl ?_ _ _))
        | (with_reducible apply And.intro)
        | exact rfl
        | (refine Keep.fst (by assumption) ?_)
        | (refine Keep.snd (by assumption) ?_)
        | split
        | dsimp only
    have h_s13 : Keep 10293870608 s s13 := by
      unfold s13
      repeat' first
        | with_reducible assumption
        | with_reducible exact Keep.refl _ _
        | intro _
        | (fail_if_no_progress beta_reduce)
        | (with_reducible apply KeepR.next)
        | (with_reducible apply Keep.ite)
        | (with_reducible apply KeepR.ite)
        | (with_reducible apply Keep.ite_fst)
        | (with_reducible apply Keep.snoc (State.applyAxisCmd_keep _ _ _ _))
        | (with_reducible apply Keep.snoc (State.axisFault_keep _ _ _ _))
        | (with_reducible apply Keep.snoc (State.axisTakeConfig_keep _ _ _))
        | (with_reducible apply Keep.snoc (State.completeAll_keep _ _ _))
        | (with_reducible apply Keep.snoc (State.enterTracking_keep _ _))
        | (with_reducible apply Keep.snoc (State.leaveTracking_keep _ _ _ _))
        | (with_reducible apply Keep.snoc (State.nextPass_keep _ _ _ _))
        | (with_reducible apply Keep.snoc (State.record_keep _ _ _ _))
        | (with_reducible apply Keep.snoc (State.settleMotion_keep _ _ _))
        | (with_reducible apply Keep.snoc (State.takeLimits_keep _ _ _ _))
        | (with_reducible apply Keep.snoc (State.trackNow_keep _ _ _))
        | (with_reducible apply Keep.snoc (State.unverify_keep _ _))
        | (with_reducible apply Keep.snoc (State.updAxis_keep _ _ _))
        | (with_reducible apply Keep.snoc (State.writeServo_keep _ _ _ _ _ _))
        | (with_reducible apply Keep.snoc' (Keep.foldl ?_ _ _))
        | (with_reducible apply And.intro)
        | exact rfl
        | (refine Keep.fst (by assumption) ?_)
        | (refine Keep.snd (by assumption) ?_)
        | split
        | dsimp only
    have h_s14 : Keep 10293870608 s s14 := by
      unfold s14
      repeat' first
        | with_reducible assumption
        | with_reducible exact Keep.refl _ _
        | intro _
        | (fail_if_no_progress beta_reduce)
        | (with_reducible apply KeepR.next)
        | (with_reducible apply Keep.ite)
        | (with_reducible apply KeepR.ite)
        | (with_reducible apply Keep.ite_fst)
        | (with_reducible apply Keep.snoc (State.applyAxisCmd_keep _ _ _ _))
        | (with_reducible apply Keep.snoc (State.axisFault_keep _ _ _ _))
        | (with_reducible apply Keep.snoc (State.axisTakeConfig_keep _ _ _))
        | (with_reducible apply Keep.snoc (State.completeAll_keep _ _ _))
        | (with_reducible apply Keep.snoc (State.enterTracking_keep _ _))
        | (with_reducible apply Keep.snoc (State.leaveTracking_keep _ _ _ _))
        | (with_reducible apply Keep.snoc (State.nextPass_keep _ _ _ _))
        | (with_reducible apply Keep.snoc (State.record_keep _ _ _ _))
        | (with_reducible apply Keep.snoc (State.settleMotion_keep _ _ _))
        | (with_reducible apply Keep.snoc (State.takeLimits_keep _ _ _ _))
        | (with_reducible apply Keep.snoc (State.trackNow_keep _ _ _))
        | (with_reducible apply Keep.snoc (State.unverify_keep _ _))
        | (with_reducible apply Keep.snoc (State.updAxis_keep _ _ _))
        | (with_reducible apply Keep.snoc (State.writeServo_keep _ _ _ _ _ _))
        | (with_reducible apply Keep.snoc' (Keep.foldl ?_ _ _))
        | (with_reducible apply And.intro)
        | exact rfl
        | (refine Keep.fst (by assumption) ?_)
        | (refine Keep.snd (by assumption) ?_)
        | split
        | dsimp only
    have h_s15 : Keep 10293870608 s s15 := by
      unfold s15
      repeat' first
        | with_reducible assumption
        | with_reducible exact Keep.refl _ _
        | intro _
        | (fail_if_no_progress beta_reduce)
        | (with_reducible apply KeepR.next)
        | (with_reducible apply Keep.ite)
        | (with_reducible apply KeepR.ite)
        | (with_reducible apply Keep.ite_fst)
        | (with_reducible apply Keep.snoc (State.applyAxisCmd_keep _ _ _ _))
        | (with_reducible apply Keep.snoc (State.axisFault_keep _ _ _ _))
        | (with_reducible apply Keep.snoc (State.axisTakeConfig_keep _ _ _))
        | (with_reducible apply Keep.snoc (State.completeAll_keep _ _ _))
        | (with_reducible apply Keep.snoc (State.enterTracking_keep _ _))
        | (with_reducible apply Keep.snoc (State.leaveTracking_keep _ _ _ _))
        | (with_reducible apply Keep.snoc (State.nextPass_keep _ _ _ _))
        | (with_reducible apply Keep.snoc (State.record_keep _ _ _ _))
        | (with_reducible apply Keep.snoc (State.settleMotion_keep _ _ _))
        | (with_reducible apply Keep.snoc (State.takeLimits_keep _ _ _ _))
        | (with_reducible apply Keep.snoc (State.trackNow_keep _ _ _))
        | (with_reducible apply Keep.snoc (State.unverify_keep _ _))
        | (with_reducible apply Keep.snoc (State.updAxis_keep _ _ _))
        | (with_reducible apply Keep.snoc (State.writeServo_keep _ _ _ _ _ _))
        | (with_reducible apply Keep.snoc' (Keep.foldl ?_ _ _))
        | (with_reducible apply And.intro)
        | exact rfl
        | (refine Keep.fst (by assumption) ?_)
        | (refine Keep.snd (by assumption) ?_)
        | split
        | dsimp only
    repeat' first
      | with_reducible assumption
      | with_reducible exact Keep.refl _ _
      | intro _
      | (fail_if_no_progress beta_reduce)
      | (with_reducible apply KeepR.next)
      | (with_reducible apply Keep.ite)
      | (with_reducible apply KeepR.ite)
      | (with_reducible apply Keep.ite_fst)
      | (with_reducible apply Keep.snoc (State.applyAxisCmd_keep _ _ _ _))
      | (with_reducible apply Keep.snoc (State.axisFault_keep _ _ _ _))
      | (with_reducible apply Keep.snoc (State.axisTakeConfig_keep _ _ _))
      | (with_reducible apply Keep.snoc (State.completeAll_keep _ _ _))
      | (with_reducible apply Keep.snoc (State.enterTracking_keep _ _))
      | (with_reducible apply Keep.snoc (State.leaveTracking_keep _ _ _ _))
      | (with_reducible apply Keep.snoc (State.nextPass_keep _ _ _ _))
      | (with_reducible apply Keep.snoc (State.record_keep _ _ _ _))
      | (with_reducible apply Keep.snoc (State.settleMotion_keep _ _ _))
      | (with_reducible apply Keep.snoc (State.takeLimits_keep _ _ _ _))
      | (with_reducible apply Keep.snoc (State.trackNow_keep _ _ _))
      | (with_reducible apply Keep.snoc (State.unverify_keep _ _))
      | (with_reducible apply Keep.snoc (State.updAxis_keep _ _ _))
      | (with_reducible apply Keep.snoc (State.writeServo_keep _ _ _ _ _ _))
      | (with_reducible apply Keep.snoc' (Keep.foldl ?_ _ _))
      | (with_reducible apply And.intro)
      | exact rfl
      | (refine Keep.fst (by assumption) ?_)
      | (refine Keep.snd (by assumption) ?_)
      | split
      | dsimp only

theorem execAxisSample_keep : ∀ a0 a1 a2 s, KeepR 10293870608 s (execAxisSample a0 a1 a2 s) := by
  intro a0 a1 a2 s
  unfold execAxisSample
  extract_lets v0 v1 v2 v3
  try clear_value v3
  try clear_value v2
  try clear_value v1
  have h0 : Keep 10293870608 s v0 := by
    unfold v0
    repeat' first
      | with_reducible assumption
      | with_reducible exact Keep.refl _ _
      | intro _
      | (fail_if_no_progress beta_reduce)
      | (with_reducible apply KeepR.next)
      | (with_reducible apply Keep.ite)
      | (with_reducible apply KeepR.ite)
      | (with_reducible apply Keep.ite_fst)
      | (with_reducible apply Keep.snoc (State.axisSampleAt_keep _ _ _ _ _))
      | (with_reducible apply Keep.snoc (State.begin_keep _ _))
      | (with_reducible apply Keep.snoc' (Keep.foldl ?_ _ _))
      | (with_reducible apply And.intro)
      | exact rfl
      | (refine Keep.fst (by assumption) ?_)
      | (refine Keep.snd (by assumption) ?_)
      | split
      | dsimp only
  repeat' first
    | with_reducible assumption
    | with_reducible exact Keep.refl _ _
    | intro _
    | (fail_if_no_progress beta_reduce)
    | (with_reducible apply KeepR.next)
    | (with_reducible apply Keep.ite)
    | (with_reducible apply KeepR.ite)
    | (with_reducible apply Keep.ite_fst)
    | (with_reducible apply Keep.snoc (State.axisSampleAt_keep _ _ _ _ _))
    | (with_reducible apply Keep.snoc (State.begin_keep _ _))
    | (with_reducible apply Keep.snoc' (Keep.foldl ?_ _ _))
    | (with_reducible apply And.intro)
    | exact rfl
    | (refine Keep.fst (by assumption) ?_)
    | (refine Keep.snd (by assumption) ?_)
    | split
    | dsimp only

theorem execAxisSlip_keep : ∀ a0 a1 s, KeepR 537919504 s (execAxisSlip a0 a1 s) := by
  intro a0 a1 s
  unfold execAxisSlip
  extract_lets v0
  have h0 : Keep 537919504 s v0 := by
    unfold v0
    repeat' first
      | with_reducible assumption
      | with_reducible exact Keep.refl _ _
      | intro _
      | (fail_if_no_progress beta_reduce)
      | (with_reducible apply KeepR.next)
      | (with_reducible apply Keep.ite)
      | (with_reducible apply KeepR.ite)
      | (with_reducible apply Keep.ite_fst)
      | (with_reducible apply Keep.snoc (State.begin_keep _ _))
      | (with_reducible apply Keep.snoc (State.record_keep _ _ _ _))
      | (with_reducible apply Keep.snoc (State.updAxis_keep _ _ _))
      | (with_reducible apply Keep.snoc' (Keep.foldl ?_ _ _))
      | (with_reducible apply And.intro)
      | exact rfl
      | (refine Keep.fst (by assumption) ?_)
      | (refine Keep.snd (by assumption) ?_)
      | split
      | dsimp only
  repeat' first
    | with_reducible assumption
    | with_reducible exact Keep.refl _ _
    | intro _
    | (fail_if_no_progress beta_reduce)
    | (with_reducible apply KeepR.next)
    | (with_reducible apply Keep.ite)
    | (with_reducible apply KeepR.ite)
    | (with_reducible apply Keep.ite_fst)
    | (with_reducible apply Keep.snoc (State.begin_keep _ _))
    | (with_reducible apply Keep.snoc (State.record_keep _ _ _ _))
    | (with_reducible apply Keep.snoc (State.updAxis_keep _ _ _))
    | (with_reducible apply Keep.snoc' (Keep.foldl ?_ _ _))
    | (with_reducible apply And.intro)
    | exact rfl
    | (refine Keep.fst (by assumption) ?_)
    | (refine Keep.snd (by assumption) ?_)
    | split
    | dsimp only

theorem execAxisConfig_keep : ∀ a0 a1 a2 s, KeepR 10293870608 s (execAxisConfig a0 a1 a2 s) := by
  intro a0 a1 a2 s
  unfold execAxisConfig
  extract_lets v0 v1
  try clear_value v1
  have h0 : Keep 10293870608 s v0 := by
    unfold v0
    repeat' first
      | with_reducible assumption
      | with_reducible exact Keep.refl _ _
      | intro _
      | (fail_if_no_progress beta_reduce)
      | (with_reducible apply KeepR.next)
      | (with_reducible apply Keep.ite)
      | (with_reducible apply KeepR.ite)
      | (with_reducible apply Keep.ite_fst)
      | (with_reducible apply Keep.snoc (State.begin_keep _ _))
      | (with_reducible apply Keep.snoc (State.complete_keep _ _ _))
      | (with_reducible apply Keep.snoc (State.record_keep _ _ _ _))
      | (with_reducible apply Keep.snoc (State.storeObject_keep _ _ _ _))
      | (with_reducible apply Keep.snoc (State.updAxis_keep _ _ _))
      | (with_reducible apply serve_keep)
      | (with_reducible apply Keep.snoc' (Keep.foldl ?_ _ _))
      | (with_reducible apply And.intro)
      | exact rfl
      | (refine Keep.fst (by assumption) ?_)
      | (refine Keep.snd (by assumption) ?_)
      | split
      | dsimp only
  repeat' first
    | with_reducible assumption
    | with_reducible exact Keep.refl _ _
    | intro _
    | (fail_if_no_progress beta_reduce)
    | (with_reducible apply KeepR.next)
    | (with_reducible apply Keep.ite)
    | (with_reducible apply KeepR.ite)
    | (with_reducible apply Keep.ite_fst)
    | (with_reducible apply Keep.snoc (State.begin_keep _ _))
    | (with_reducible apply Keep.snoc (State.complete_keep _ _ _))
    | (with_reducible apply Keep.snoc (State.record_keep _ _ _ _))
    | (with_reducible apply Keep.snoc (State.storeObject_keep _ _ _ _))
    | (with_reducible apply Keep.snoc (State.updAxis_keep _ _ _))
    | (with_reducible apply serve_keep)
    | (with_reducible apply Keep.snoc' (Keep.foldl ?_ _ _))
    | (with_reducible apply And.intro)
    | exact rfl
    | (refine Keep.fst (by assumption) ?_)
    | (refine Keep.snd (by assumption) ?_)
    | split
    | dsimp only

theorem State.releaseAxis_keep : ∀ a0 a1 a2 s, Keep 1048576 s (State.releaseAxis a0 a1 a2 s) := by
  intro a0 a1 a2 s
  unfold State.releaseAxis
  repeat' first
    | with_reducible assumption
    | with_reducible exact Keep.refl _ _
    | intro _
    | (fail_if_no_progress beta_reduce)
    | (with_reducible apply KeepR.next)
    | (with_reducible apply Keep.ite)
    | (with_reducible apply KeepR.ite)
    | (with_reducible apply Keep.ite_fst)
    | (with_reducible apply Keep.snoc (State.updAxis_keep _ _ _))
    | (with_reducible apply Keep.snoc' (Keep.foldl ?_ _ _))
    | (with_reducible apply And.intro)
    | exact rfl
    | (refine Keep.fst (by assumption) ?_)
    | (refine Keep.snd (by assumption) ?_)
    | split
    | dsimp only

theorem State.programAxis_keep : ∀ a0 s, Keep 1048576 s (State.programAxis a0 s) := by
  intro a0 s
  unfold State.programAxis
  repeat' first
    | with_reducible assumption
    | with_reducible exact Keep.refl _ _
    | intro _
    | (fail_if_no_progress beta_reduce)
    | (with_reducible apply KeepR.next)
    | (with_reducible apply Keep.ite)
    | (with_reducible apply KeepR.ite)
    | (with_reducible apply Keep.ite_fst)
    | (with_reducible apply Keep.snoc (State.releaseAxis_keep _ _ _ _))
    | (with_reducible apply Keep.snoc (State.updAxis_keep _ _ _))
    | (with_reducible apply Keep.snoc' (Keep.foldl ?_ _ _))
    | (with_reducible apply And.intro)
    | exact rfl
    | (refine Keep.fst (by assumption) ?_)
    | (refine Keep.snd (by assumption) ?_)
    | split
    | dsimp only

theorem axisCommand_keep : ∀ a0 a1 a2 s, KeepR 93323264 s (axisCommand a0 a1 a2 s) := by
  intro a0 a1 a2 s
  unfold axisCommand
  extract_lets v0
  try clear_value v0
  repeat' first
    | with_reducible assumption
    | with_reducible exact Keep.refl _ _
    | intro _
    | (fail_if_no_progress beta_reduce)
    | (with_reducible apply KeepR.next)
    | (with_reducible apply Keep.ite)
    | (with_reducible apply KeepR.ite)
    | (with_reducible apply Keep.ite_fst)
    | (with_reducible apply Keep.snoc (State.releaseAxis_keep _ _ _ _))
    | (with_reducible apply serve_keep)
    | (with_reducible apply Keep.snoc' (Keep.foldl ?_ _ _))
    | (with_reducible apply And.intro)
    | exact rfl
    | (refine Keep.fst (by assumption) ?_)
    | (refine Keep.snd (by assumption) ?_)
    | split
    | dsimp only

theorem execMoveAbs_keep : ∀ a0 a1 a2 s, KeepR 93323264 s (execMoveAbs a0 a1 a2 s) := by
  intro a0 a1 a2 s
  unfold execMoveAbs
  repeat' first
    | with_reducible assumption
    | with_reducible exact Keep.refl _ _
    | intro _
    | (fail_if_no_progress beta_reduce)
    | (with_reducible apply KeepR.next)
    | (with_reducible apply Keep.ite)
    | (with_reducible apply KeepR.ite)
    | (with_reducible apply Keep.ite_fst)
    | (with_reducible apply Keep.snoc (State.begin_keep _ _))
    | (with_reducible apply KeepR.of (axisCommand_keep _ _ _ _))
    | (with_reducible apply Keep.snoc' (Keep.foldl ?_ _ _))
    | (with_reducible apply And.intro)
    | exact rfl
    | (refine Keep.fst (by assumption) ?_)
    | (refine Keep.snd (by assumption) ?_)
    | split
    | dsimp only

theorem execMoveRel_keep : ∀ a0 a1 a2 s, KeepR 93323264 s (execMoveRel a0 a1 a2 s) := by
  intro a0 a1 a2 s
  unfold execMoveRel
  repeat' first
    | with_reducible assumption
    | with_reducible exact Keep.refl _ _
    | intro _
    | (fail_if_no_progress beta_reduce)
    | (with_reducible apply KeepR.next)
    | (with_reducible apply Keep.ite)
    | (with_reducible apply KeepR.ite)
    | (with_reducible apply Keep.ite_fst)
    | (with_reducible apply Keep.snoc (State.begin_keep _ _))
    | (with_reducible apply KeepR.of (axisCommand_keep _ _ _ _))
    | (with_reducible apply Keep.snoc' (Keep.foldl ?_ _ _))
    | (with_reducible apply And.intro)
    | exact rfl
    | (refine Keep.fst (by assumption) ?_)
    | (refine Keep.snd (by assumption) ?_)
    | split
    | dsimp only

theorem execRunTable_keep : ∀ a0 a1 a2 s, KeepR 93323264 s (execRunTable a0 a1 a2 s) := by
  intro a0 a1 a2 s
  unfold execRunTable
  repeat' first
    | with_reducible assumption
    | with_reducible exact Keep.refl _ _
    | intro _
    | (fail_if_no_progress beta_reduce)
    | (with_reducible apply KeepR.next)
    | (with_reducible apply Keep.ite)
    | (with_reducible apply KeepR.ite)
    | (with_reducible apply Keep.ite_fst)
    | (with_reducible apply Keep.snoc (State.begin_keep _ _))
    | (with_reducible apply KeepR.of (axisCommand_keep _ _ _ _))
    | (with_reducible apply Keep.snoc' (Keep.foldl ?_ _ _))
    | (with_reducible apply And.intro)
    | exact rfl
    | (refine Keep.fst (by assumption) ?_)
    | (refine Keep.snd (by assumption) ?_)
    | split
    | dsimp only

theorem execAxisStop_keep : ∀ a0 a1 a2 s, KeepR 93323264 s (execAxisStop a0 a1 a2 s) := by
  intro a0 a1 a2 s
  unfold execAxisStop
  repeat' first
    | with_reducible assumption
    | with_reducible exact Keep.refl _ _
    | intro _
    | (fail_if_no_progress beta_reduce)
    | (with_reducible apply KeepR.next)
    | (with_reducible apply Keep.ite)
    | (with_reducible apply KeepR.ite)
    | (with_reducible apply Keep.ite_fst)
    | (with_reducible apply Keep.snoc (State.begin_keep _ _))
    | (with_reducible apply KeepR.of (axisCommand_keep _ _ _ _))
    | (with_reducible apply Keep.snoc' (Keep.foldl ?_ _ _))
    | (with_reducible apply And.intro)
    | exact rfl
    | (refine Keep.fst (by assumption) ?_)
    | (refine Keep.snd (by assumption) ?_)
    | split
    | dsimp only

theorem execQuickStop_keep : ∀ a0 a1 a2 s, KeepR 93323264 s (execQuickStop a0 a1 a2 s) := by
  intro a0 a1 a2 s
  unfold execQuickStop
  repeat' first
    | with_reducible assumption
    | with_reducible exact Keep.refl _ _
    | intro _
    | (fail_if_no_progress beta_reduce)
    | (with_reducible apply KeepR.next)
    | (with_reducible apply Keep.ite)
    | (with_reducible apply KeepR.ite)
    | (with_reducible apply Keep.ite_fst)
    | (with_reducible apply Keep.snoc (State.begin_keep _ _))
    | (with_reducible apply KeepR.of (axisCommand_keep _ _ _ _))
    | (with_reducible apply Keep.snoc' (Keep.foldl ?_ _ _))
    | (with_reducible apply And.intro)
    | exact rfl
    | (refine Keep.fst (by assumption) ?_)
    | (refine Keep.snd (by assumption) ?_)
    | split
    | dsimp only

theorem execSetPosition_keep : ∀ a0 a1 a2 s, KeepR 93323264 s (execSetPosition a0 a1 a2 s) := by
  intro a0 a1 a2 s
  unfold execSetPosition
  repeat' first
    | with_reducible assumption
    | with_reducible exact Keep.refl _ _
    | intro _
    | (fail_if_no_progress beta_reduce)
    | (with_reducible apply KeepR.next)
    | (with_reducible apply Keep.ite)
    | (with_reducible apply KeepR.ite)
    | (with_reducible apply Keep.ite_fst)
    | (with_reducible apply Keep.snoc (State.begin_keep _ _))
    | (with_reducible apply KeepR.of (axisCommand_keep _ _ _ _))
    | (with_reducible apply Keep.snoc' (Keep.foldl ?_ _ _))
    | (with_reducible apply And.intro)
    | exact rfl
    | (refine Keep.fst (by assumption) ?_)
    | (refine Keep.snd (by assumption) ?_)
    | split
    | dsimp only

theorem execSetLimits_keep : ∀ a0 a1 a2 s, KeepR 93323264 s (execSetLimits a0 a1 a2 s) := by
  intro a0 a1 a2 s
  unfold execSetLimits
  repeat' first
    | with_reducible assumption
    | with_reducible exact Keep.refl _ _
    | intro _
    | (fail_if_no_progress beta_reduce)
    | (with_reducible apply KeepR.next)
    | (with_reducible apply Keep.ite)
    | (with_reducible apply KeepR.ite)
    | (with_reducible apply Keep.ite_fst)
    | (with_reducible apply Keep.snoc (State.begin_keep _ _))
    | (with_reducible apply KeepR.of (axisCommand_keep _ _ _ _))
    | (with_reducible apply Keep.snoc' (Keep.foldl ?_ _ _))
    | (with_reducible apply And.intro)
    | exact rfl
    | (refine Keep.fst (by assumption) ?_)
    | (refine Keep.snd (by assumption) ?_)
    | split
    | dsimp only

theorem execResetFault_keep : ∀ a0 a1 a2 s, KeepR 93323264 s (execResetFault a0 a1 a2 s) := by
  intro a0 a1 a2 s
  unfold execResetFault
  repeat' first
    | with_reducible assumption
    | with_reducible exact Keep.refl _ _
    | intro _
    | (fail_if_no_progress beta_reduce)
    | (with_reducible apply KeepR.next)
    | (with_reducible apply Keep.ite)
    | (with_reducible apply KeepR.ite)
    | (with_reducible apply Keep.ite_fst)
    | (with_reducible apply Keep.snoc (State.begin_keep _ _))
    | (with_reducible apply KeepR.of (axisCommand_keep _ _ _ _))
    | (with_reducible apply Keep.snoc' (Keep.foldl ?_ _ _))
    | (with_reducible apply And.intro)
    | exact rfl
    | (refine Keep.fst (by assumption) ?_)
    | (refine Keep.snd (by assumption) ?_)
    | split
    | dsimp only

theorem execTableLoad_keep : ∀ a0 a1 a2 s, KeepR 631242768 s (execTableLoad a0 a1 a2 s) := by
  intro a0 a1 a2 s
  unfold execTableLoad
  extract_lets v0 v1 v2 v3 v4 v5 v6 v7
  try clear_value v6
  try clear_value v5
  try clear_value v4
  try clear_value v3
  try clear_value v2
  try clear_value v1
  have h0 : Keep 631242768 s v0 := by
    unfold v0
    repeat' first
      | with_reducible assumption
      | with_reducible exact Keep.refl _ _
      | intro _
      | (fail_if_no_progress beta_reduce)
      | (with_reducible apply KeepR.next)
      | (with_reducible apply Keep.ite)
      | (with_reducible apply KeepR.ite)
      | (with_reducible apply Keep.ite_fst)
      | (with_reducible apply Keep.mono (State.set_tables_keep _ _))
      | (with_reducible apply Keep.snoc (State.begin_keep _ _))
      | (with_reducible apply Keep.snoc (State.complete_keep _ _ _))
      | (with_reducible apply Keep.snoc (State.record_keep _ _ _ _))
      | (with_reducible apply serve_keep)
      | (with_reducible apply Keep.snoc' (Keep.foldl ?_ _ _))
      | (with_reducible apply And.intro)
      | exact rfl
      | (refine Keep.fst (by assumption) ?_)
      | (refine Keep.snd (by assumption) ?_)
      | split
      | dsimp only
  have h7 : Keep 631242768 s v7 := by
    unfold v7
    repeat' first
      | with_reducible assumption
      | with_reducible exact Keep.refl _ _
      | intro _
      | (fail_if_no_progress beta_reduce)
      | (with_reducible apply KeepR.next)
      | (with_reducible apply Keep.ite)
      | (with_reducible apply KeepR.ite)
      | (with_reducible apply Keep.ite_fst)
      | (with_reducible apply Keep.mono (State.set_tables_keep _ _))
      | (with_reducible apply Keep.snoc (State.begin_keep _ _))
      | (with_reducible apply Keep.snoc (State.complete_keep _ _ _))
      | (with_reducible apply Keep.snoc (State.record_keep _ _ _ _))
      | (with_reducible apply serve_keep)
      | (with_reducible apply Keep.snoc' (Keep.foldl ?_ _ _))
      | (with_reducible apply And.intro)
      | exact rfl
      | (refine Keep.fst (by assumption) ?_)
      | (refine Keep.snd (by assumption) ?_)
      | split
      | dsimp only
  repeat' first
    | with_reducible assumption
    | with_reducible exact Keep.refl _ _
    | intro _
    | (fail_if_no_progress beta_reduce)
    | (with_reducible apply KeepR.next)
    | (with_reducible apply Keep.ite)
    | (with_reducible apply KeepR.ite)
    | (with_reducible apply Keep.ite_fst)
    | (with_reducible apply Keep.mono (State.set_tables_keep _ _))
    | (with_reducible apply Keep.snoc (State.begin_keep _ _))
    | (with_reducible apply Keep.snoc (State.complete_keep _ _ _))
    | (with_reducible apply Keep.snoc (State.record_keep _ _ _ _))
    | (with_reducible apply serve_keep)
    | (with_reducible apply Keep.snoc' (Keep.foldl ?_ _ _))
    | (with_reducible apply And.intro)
    | exact rfl
    | (refine Keep.fst (by assumption) ?_)
    | (refine Keep.snd (by assumption) ?_)
    | split
    | dsimp only

theorem execStepDebtTimeout_keep : ∀ a0 a1 s, KeepR 605028368 s (execStepDebtTimeout a0 a1 s) := by
  intro a0 a1 s
  unfold execStepDebtTimeout
  extract_lets v0 v1
  try clear_value v1
  have h0 : Keep 605028368 s v0 := by
    unfold v0
    repeat' first
      | with_reducible assumption
      | with_reducible exact Keep.refl _ _
      | intro _
      | (fail_if_no_progress beta_reduce)
      | (with_reducible apply KeepR.next)
      | (with_reducible apply Keep.ite)
      | (with_reducible apply KeepR.ite)
      | (with_reducible apply Keep.ite_fst)
      | (with_reducible apply Keep.snoc (State.axisFault_keep _ _ _ _))
      | (with_reducible apply Keep.snoc (State.begin_keep _ _))
      | (with_reducible apply Keep.snoc (State.unverify_keep _ _))
      | (with_reducible apply Keep.snoc' (Keep.foldl ?_ _ _))
      | (with_reducible apply And.intro)
      | exact rfl
      | (refine Keep.fst (by assumption) ?_)
      | (refine Keep.snd (by assumption) ?_)
      | split
      | dsimp only
  repeat' first
    | with_reducible assumption
    | with_reducible exact Keep.refl _ _
    | intro _
    | (fail_if_no_progress beta_reduce)
    | (with_reducible apply KeepR.next)
    | (with_reducible apply Keep.ite)
    | (with_reducible apply KeepR.ite)
    | (with_reducible apply Keep.ite_fst)
    | (with_reducible apply Keep.snoc (State.axisFault_keep _ _ _ _))
    | (with_reducible apply Keep.snoc (State.begin_keep _ _))
    | (with_reducible apply Keep.snoc (State.unverify_keep _ _))
    | (with_reducible apply Keep.snoc' (Keep.foldl ?_ _ _))
    | (with_reducible apply And.intro)
    | exact rfl
    | (refine Keep.fst (by assumption) ?_)
    | (refine Keep.snd (by assumption) ?_)
    | split
    | dsimp only

theorem State.stepAxis_keep : ∀ a0 s, Keep 537920528 s (State.stepAxis a0 s) := by
  intro a0 s
  unfold State.stepAxis
  extract_lets v0 v1 v2 v3 v4 v5 v6 v7
  try clear_value v6
  try clear_value v5
  try clear_value v4
  try clear_value v3
  try clear_value v2
  try clear_value v1
  try clear_value v0
  have h7 : ∀ q0 q1 q2 q3, Keep 537920528 q3 (v7 q0 q1 q2 q3) := by
    intro q0 q1 q2 q3
    unfold v7
    repeat' first
      | with_reducible assumption
      | with_reducible exact Keep.refl _ _
      | intro _
      | (fail_if_no_progress beta_reduce)
      | (with_reducible apply KeepR.next)
      | (with_reducible apply Keep.ite)
      | (with_reducible apply KeepR.ite)
      | (with_reducible apply Keep.ite_fst)
      | (with_reducible apply Keep.snoc (State.pulseWrite_keep _ _ _ _ _))
      | (with_reducible apply Keep.snoc (State.updAxis_keep _ _ _))
      | (with_reducible apply Keep.snoc' (h7 _ _ _ _))
      | (with_reducible apply Keep.snoc' (Keep.foldl ?_ _ _))
      | (with_reducible apply And.intro)
      | exact rfl
      | (refine Keep.fst (by assumption) ?_)
      | (refine Keep.snd (by assumption) ?_)
      | split
      | dsimp only
  repeat' first
    | with_reducible assumption
    | with_reducible exact Keep.refl _ _
    | intro _
    | (fail_if_no_progress beta_reduce)
    | (with_reducible apply KeepR.next)
    | (with_reducible apply Keep.ite)
    | (with_reducible apply KeepR.ite)
    | (with_reducible apply Keep.ite_fst)
    | (with_reducible apply Keep.snoc (State.pulseWrite_keep _ _ _ _ _))
    | (with_reducible apply Keep.snoc (State.updAxis_keep _ _ _))
    | (with_reducible apply Keep.snoc' (h7 _ _ _ _))
    | (with_reducible apply Keep.snoc' (Keep.foldl ?_ _ _))
    | (with_reducible apply And.intro)
    | exact rfl
    | (refine Keep.fst (by assumption) ?_)
    | (refine Keep.snd (by assumption) ?_)
    | split
    | dsimp only

theorem execOutputCutoff_keep : ∀ a0 s, KeepR 542120980 s (execOutputCutoff a0 s) := by
  intro a0 s
  unfold execOutputCutoff
  repeat' first
    | with_reducible assumption
    | with_reducible exact Keep.refl _ _
    | intro _
    | (fail_if_no_progress beta_reduce)
    | (with_reducible apply KeepR.next)
    | (with_reducible apply Keep.ite)
    | (with_reducible apply KeepR.ite)
    | (with_reducible apply Keep.ite_fst)
    | (with_reducible apply Keep.snoc (State.begin_keep _ _))
    | (with_reducible apply Keep.snoc (State.cutOff_keep _))
    | (with_reducible apply Keep.snoc (State.stepAxis_keep _ _))
    | (with_reducible apply Keep.snoc' (Keep.forAll ?_ _))
    | (with_reducible apply Keep.snoc' (Keep.foldl ?_ _ _))
    | (with_reducible apply And.intro)
    | exact rfl
    | (refine Keep.fst (by assumption) ?_)
    | (refine Keep.snd (by assumption) ?_)
    | split
    | dsimp only

end Sys2Proof.Machine
end

