-- ==== Sys2Proof/Laws/KeepProgram.lean ====
section
/-! SUPPORT. What each operation and meaning of Machine/Program.lean leaves alone. -/

namespace Sys2Proof.Machine

set_option linter.unusedTactic false
set_option linter.unreachableTactic false

theorem State.stopValues_keep : ∀ s, Keep 17408 s (State.stopValues s) := by
  intro s
  unfold State.stopValues
  extract_lets v0
  have h0 : Keep 17408 s v0 := by
    unfold v0
    repeat' first
      | with_reducible assumption
      | with_reducible exact Keep.refl _ _
      | intro _
      | (fail_if_no_progress beta_reduce)
      | (with_reducible apply KeepR.next)
      | (with_reducible apply Keep.ite)
      | (with_reducible apply KeepR.ite)
      | (with_reducible apply Keep.ite_fst)
      | (with_reducible apply Keep.snoc (State.updChan_keep _ _ _))
      | (with_reducible apply Keep.snoc (State.updPrg_keep _ _ ?_))
      | (with_reducible apply Keep.snoc' (Keep.forAll ?_ _))
      | (with_reducible apply Keep.snoc' (Keep.foldl ?_ _ _))
      | (with_reducible apply And.intro)
      | exact rfl
      | (refine Keep.fst (by assumption) ?_)
      | (refine Keep.snd (by assumption) ?_)
      | split
      | dsimp only
  repeat' first
    | with_reducible assumption
    | with_reducible exact Keep.refl _ _
    | intro _
    | (fail_if_no_progress beta_reduce)
    | (with_reducible apply KeepR.next)
    | (with_reducible apply Keep.ite)
    | (with_reducible apply KeepR.ite)
    | (with_reducible apply Keep.ite_fst)
    | (with_reducible apply Keep.snoc (State.updChan_keep _ _ _))
    | (with_reducible apply Keep.snoc (State.updPrg_keep _ _ ?_))
    | (with_reducible apply Keep.snoc' (Keep.forAll ?_ _))
    | (with_reducible apply Keep.snoc' (Keep.foldl ?_ _ _))
    | (with_reducible apply And.intro)
    | exact rfl
    | (refine Keep.fst (by assumption) ?_)
    | (refine Keep.snd (by assumption) ?_)
    | split
    | dsimp only

theorem State.takeParam_keep : ∀ s, Keep 92291072 s (State.takeParam s) := by
  intro s
  unfold State.takeParam
  repeat' first
    | with_reducible assumption
    | with_reducible exact Keep.refl _ _
    | intro _
    | (fail_if_no_progress beta_reduce)
    | (with_reducible apply KeepR.next)
    | (with_reducible apply Keep.ite)
    | (with_reducible apply KeepR.ite)
    | (with_reducible apply Keep.ite_fst)
    | (with_reducible apply Keep.snoc (State.complete_keep _ _ _))
    | (with_reducible apply Keep.snoc (State.updPrg_keep _ _ ?_))
    | (with_reducible apply Keep.snoc' (Keep.foldl ?_ _ _))
    | (with_reducible apply And.intro)
    | exact rfl
    | (refine Keep.fst (by assumption) ?_)
    | (refine Keep.snd (by assumption) ?_)
    | split
    | dsimp only

theorem State.applyVar_keep : ∀ a0 a1 s, Keep 92323840 s (State.applyVar a0 a1 s) := by
  intro a0 a1 s
  unfold State.applyVar
  split
  · exact Keep.snoc (State.complete_keep _ _ _) rfl (Keep.refl _ _)
  split
  · exact Keep.refl _ _
  · rename_i e he
    extract_lets s1 s2
    have h1 : Keep 92323840 s s1 :=
      Keep.snoc (State.updPrg_mem _ _ fun hd hb => ⟨Memory.writeAll_wf _ _ hd, hb⟩) rfl (Keep.refl _ _)
    have h2 : Keep 92323840 s s2 := by
      unfold s2
      split
      · exact Keep.snoc (State.updPrg_mem _ _ fun hd hb => ⟨hd, Memory.writeAll_wf _ _ hb⟩) rfl h1
      · exact h1
    exact Keep.snoc (State.complete_keep _ _ _) rfl h2

theorem State.applyVars_keep : ∀ a0 s, Keep 92323840 s (State.applyVars a0 s) := by
  intro a0 s
  unfold State.applyVars
  extract_lets v0
  try clear_value v0
  repeat' first
    | with_reducible assumption
    | with_reducible exact Keep.refl _ _
    | intro _
    | (fail_if_no_progress beta_reduce)
    | (with_reducible apply KeepR.next)
    | (with_reducible apply Keep.ite)
    | (with_reducible apply KeepR.ite)
    | (with_reducible apply Keep.ite_fst)
    | (with_reducible apply Keep.snoc (State.applyVar_keep _ _ _))
    | (with_reducible apply Keep.snoc (State.updPrg_keep _ _ ?_))
    | (with_reducible apply Keep.snoc' (Keep.foldl ?_ _ _))
    | (with_reducible apply And.intro)
    | exact rfl
    | (refine Keep.fst (by assumption) ?_)
    | (refine Keep.snd (by assumption) ?_)
    | split
    | dsimp only

theorem State.finishStop_keep : ∀ a0 s, Keep 92324864 s (State.finishStop a0 s) := by
  intro a0 s
  unfold State.finishStop
  extract_lets v0 v1 v2
  try clear_value v0
  have h1 : Keep 92324864 s v1 := by
    unfold v1
    repeat' first
      | with_reducible assumption
      | with_reducible exact Keep.refl _ _
      | intro _
      | (fail_if_no_progress beta_reduce)
      | (with_reducible apply KeepR.next)
      | (with_reducible apply Keep.ite)
      | (with_reducible apply KeepR.ite)
      | (with_reducible apply Keep.ite_fst)
      | (with_reducible apply Keep.snoc (State.applyVars_keep _ _))
      | (with_reducible apply Keep.snoc (State.complete_keep _ _ _))
      | (with_reducible apply Keep.snoc (State.stopValues_keep _))
      | (with_reducible apply Keep.snoc (State.takeParam_keep _))
      | (with_reducible apply Keep.snoc (State.updPrg_keep _ _ ?_))
      | (with_reducible apply Keep.snoc' (Keep.foldl ?_ _ _))
      | (with_reducible apply And.intro)
      | exact rfl
      | (refine Keep.fst (by assumption) ?_)
      | (refine Keep.snd (by assumption) ?_)
      | split
      | dsimp only
  have h2 : Keep 92324864 s v2 := by
    unfold v2
    repeat' first
      | with_reducible assumption
      | with_reducible exact Keep.refl _ _
      | intro _
      | (fail_if_no_progress beta_reduce)
      | (with_reducible apply KeepR.next)
      | (with_reducible apply Keep.ite)
      | (with_reducible apply KeepR.ite)
      | (with_reducible apply Keep.ite_fst)
      | (with_reducible apply Keep.snoc (State.applyVars_keep _ _))
      | (with_reducible apply Keep.snoc (State.complete_keep _ _ _))
      | (with_reducible apply Keep.snoc (State.stopValues_keep _))
      | (with_reducible apply Keep.snoc (State.takeParam_keep _))
      | (with_reducible apply Keep.snoc (State.updPrg_keep _ _ ?_))
      | (with_reducible apply Keep.snoc' (Keep.foldl ?_ _ _))
      | (with_reducible apply And.intro)
      | exact rfl
      | (refine Keep.fst (by assumption) ?_)
      | (refine Keep.snd (by assumption) ?_)
      | split
      | dsimp only
  repeat' first
    | with_reducible assumption
    | with_reducible exact Keep.refl _ _
    | intro _
    | (fail_if_no_progress beta_reduce)
    | (with_reducible apply KeepR.next)
    | (with_reducible apply Keep.ite)
    | (with_reducible apply KeepR.ite)
    | (with_reducible apply Keep.ite_fst)
    | (with_reducible apply Keep.snoc (State.applyVars_keep _ _))
    | (with_reducible apply Keep.snoc (State.complete_keep _ _ _))
    | (with_reducible apply Keep.snoc (State.stopValues_keep _))
    | (with_reducible apply Keep.snoc (State.takeParam_keep _))
    | (with_reducible apply Keep.snoc (State.updPrg_keep _ _ ?_))
    | (with_reducible apply Keep.snoc' (Keep.foldl ?_ _ _))
    | (with_reducible apply And.intro)
    | exact rfl
    | (refine Keep.fst (by assumption) ?_)
    | (refine Keep.snd (by assumption) ?_)
    | split
    | dsimp only

theorem State.beginStop_keep : ∀ s, Keep 12440355856 s (State.beginStop s) := by
  intro s
  unfold State.beginStop
  extract_lets v0
  have h0 : Keep 12440355856 s v0 := by
    unfold v0
    repeat' first
      | with_reducible assumption
      | with_reducible exact Keep.refl _ _
      | intro _
      | (fail_if_no_progress beta_reduce)
      | (with_reducible apply KeepR.next)
      | (with_reducible apply Keep.ite)
      | (with_reducible apply KeepR.ite)
      | (with_reducible apply Keep.ite_fst)
      | (with_reducible apply Keep.snoc (State.finishStop_keep _ _))
      | (with_reducible apply Keep.snoc (State.requestSave_keep _ _ _ _))
      | (with_reducible apply Keep.snoc (State.updPrg_keep _ _ ?_))
      | (with_reducible apply Keep.snoc' (Keep.foldl ?_ _ _))
      | (with_reducible apply And.intro)
      | exact rfl
      | (refine Keep.fst (by assumption) ?_)
      | (refine Keep.snd (by assumption) ?_)
      | split
      | dsimp only
  repeat' first
    | with_reducible assumption
    | with_reducible exact Keep.refl _ _
    | intro _
    | (fail_if_no_progress beta_reduce)
    | (with_reducible apply KeepR.next)
    | (with_reducible apply Keep.ite)
    | (with_reducible apply KeepR.ite)
    | (with_reducible apply Keep.ite_fst)
    | (with_reducible apply Keep.snoc (State.finishStop_keep _ _))
    | (with_reducible apply Keep.snoc (State.requestSave_keep _ _ _ _))
    | (with_reducible apply Keep.snoc (State.updPrg_keep _ _ ?_))
    | (with_reducible apply Keep.snoc' (Keep.foldl ?_ _ _))
    | (with_reducible apply And.intro)
    | exact rfl
    | (refine Keep.fst (by assumption) ?_)
    | (refine Keep.snd (by assumption) ?_)
    | split
    | dsimp only

theorem State.dropSwitch_keep : ∀ a0 s, Keep 92340224 s (State.dropSwitch a0 s) := by
  intro a0 s
  unfold State.dropSwitch
  repeat' first
    | with_reducible assumption
    | with_reducible exact Keep.refl _ _
    | intro _
    | (fail_if_no_progress beta_reduce)
    | (with_reducible apply KeepR.next)
    | (with_reducible apply Keep.ite)
    | (with_reducible apply KeepR.ite)
    | (with_reducible apply Keep.ite_fst)
    | (with_reducible apply Keep.snoc (State.complete_keep _ _ _))
    | (with_reducible apply Keep.snoc (State.updXch_keep _ _))
    | (with_reducible apply Keep.snoc' (Keep.foldl ?_ _ _))
    | (with_reducible apply And.intro)
    | exact rfl
    | (refine Keep.fst (by assumption) ?_)
    | (refine Keep.snd (by assumption) ?_)
    | split
    | dsimp only

theorem State.haltProgram_keep : ∀ a0 a1 a2 a3 s, Keep 12440421392 s (State.haltProgram a0 a1 a2 a3 s) := by
  intro a0 a1 a2 a3 s
  unfold State.haltProgram
  extract_lets v0 v1 v2 v3 v4 v5 v6
  try clear_value v1
  try clear_value v0
  have h2 : Keep 12440421392 s v2 := by
    unfold v2
    repeat' first
      | with_reducible assumption
      | with_reducible exact Keep.refl _ _
      | intro _
      | (fail_if_no_progress beta_reduce)
      | (with_reducible apply KeepR.next)
      | (with_reducible apply Keep.ite)
      | (with_reducible apply KeepR.ite)
      | (with_reducible apply Keep.ite_fst)
      | (with_reducible apply Keep.snoc (State.applyVars_keep _ _))
      | (with_reducible apply Keep.snoc (State.beginStop_keep _))
      | (with_reducible apply Keep.snoc (State.complete_keep _ _ _))
      | (with_reducible apply Keep.snoc (State.dropSwitch_keep _ _))
      | (with_reducible apply Keep.snoc (State.record_keep _ _ _ _))
      | (with_reducible apply Keep.snoc (State.setMember_keep _ _ _))
      | (with_reducible apply Keep.snoc (State.settleHealth_keep _))
      | (with_reducible apply Keep.snoc (State.stopValues_keep _))
      | (with_reducible apply Keep.snoc (State.takeParam_keep _))
      | (with_reducible apply Keep.snoc (State.updPrg_keep _ _ ?_))
      | (with_reducible apply Keep.snoc' (Keep.foldl ?_ _ _))
      | (with_reducible apply And.intro)
      | exact rfl
      | (refine Keep.fst (by assumption) ?_)
      | (refine Keep.snd (by assumption) ?_)
      | split
      | dsimp only
  have h3 : Keep 12440421392 s v3 := by
    unfold v3
    repeat' first
      | with_reducible assumption
      | with_reducible exact Keep.refl _ _
      | intro _
      | (fail_if_no_progress beta_reduce)
      | (with_reducible apply KeepR.next)
      | (with_reducible apply Keep.ite)
      | (with_reducible apply KeepR.ite)
      | (with_reducible apply Keep.ite_fst)
      | (with_reducible apply Keep.snoc (State.applyVars_keep _ _))
      | (with_reducible apply Keep.snoc (State.beginStop_keep _))
      | (with_reducible apply Keep.snoc (State.complete_keep _ _ _))
      | (with_reducible apply Keep.snoc (State.dropSwitch_keep _ _))
      | (with_reducible apply Keep.snoc (State.record_keep _ _ _ _))
      | (with_reducible apply Keep.snoc (State.setMember_keep _ _ _))
      | (with_reducible apply Keep.snoc (State.settleHealth_keep _))
      | (with_reducible apply Keep.snoc (State.stopValues_keep _))
      | (with_reducible apply Keep.snoc (State.takeParam_keep _))
      | (with_reducible apply Keep.snoc (State.updPrg_keep _ _ ?_))
      | (with_reducible apply Keep.snoc' (Keep.foldl ?_ _ _))
      | (with_reducible apply And.intro)
      | exact rfl
      | (refine Keep.fst (by assumption) ?_)
      | (refine Keep.snd (by assumption) ?_)
      | split
      | dsimp only
  have h4 : Keep 12440421392 s v4 := by
    unfold v4
    repeat' first
      | with_reducible assumption
      | with_reducible exact Keep.refl _ _
      | intro _
      | (fail_if_no_progress beta_reduce)
      | (with_reducible apply KeepR.next)
      | (with_reducible apply Keep.ite)
      | (with_reducible apply KeepR.ite)
      | (with_reducible apply Keep.ite_fst)
      | (with_reducible apply Keep.snoc (State.applyVars_keep _ _))
      | (with_reducible apply Keep.snoc (State.beginStop_keep _))
      | (with_reducible apply Keep.snoc (State.complete_keep _ _ _))
      | (with_reducible apply Keep.snoc (State.dropSwitch_keep _ _))
      | (with_reducible apply Keep.snoc (State.record_keep _ _ _ _))
      | (with_reducible apply Keep.snoc (State.setMember_keep _ _ _))
      | (with_reducible apply Keep.snoc (State.settleHealth_keep _))
      | (with_reducible apply Keep.snoc (State.stopValues_keep _))
      | (with_reducible apply Keep.snoc (State.takeParam_keep _))
      | (with_reducible apply Keep.snoc (State.updPrg_keep _ _ ?_))
      | (with_reducible apply Keep.snoc' (Keep.foldl ?_ _ _))
      | (with_reducible apply And.intro)
      | exact rfl
      | (refine Keep.fst (by assumption) ?_)
      | (refine Keep.snd (by assumption) ?_)
      | split
      | dsimp only
  have h5 : Keep 12440421392 s v5 := by
    unfold v5
    repeat' first
      | with_reducible assumption
      | with_reducible exact Keep.refl _ _
      | intro _
      | (fail_if_no_progress beta_reduce)
      | (with_reducible apply KeepR.next)
      | (with_reducible apply Keep.ite)
      | (with_reducible apply KeepR.ite)
      | (with_reducible apply Keep.ite_fst)
      | (with_reducible apply Keep.snoc (State.applyVars_keep _ _))
      | (with_reducible apply Keep.snoc (State.beginStop_keep _))
      | (with_reducible apply Keep.snoc (State.complete_keep _ _ _))
      | (with_reducible apply Keep.snoc (State.dropSwitch_keep _ _))
      | (with_reducible apply Keep.snoc (State.record_keep _ _ _ _))
      | (with_reducible apply Keep.snoc (State.setMember_keep _ _ _))
      | (with_reducible apply Keep.snoc (State.settleHealth_keep _))
      | (with_reducible apply Keep.snoc (State.stopValues_keep _))
      | (with_reducible apply Keep.snoc (State.takeParam_keep _))
      | (with_reducible apply Keep.snoc (State.updPrg_keep _ _ ?_))
      | (with_reducible apply Keep.snoc' (Keep.foldl ?_ _ _))
      | (with_reducible apply And.intro)
      | exact rfl
      | (refine Keep.fst (by assumption) ?_)
      | (refine Keep.snd (by assumption) ?_)
      | split
      | dsimp only
  have h6 : Keep 12440421392 s v6 := by
    unfold v6
    repeat' first
      | with_reducible assumption
      | with_reducible exact Keep.refl _ _
      | intro _
      | (fail_if_no_progress beta_reduce)
      | (with_reducible apply KeepR.next)
      | (with_reducible apply Keep.ite)
      | (with_reducible apply KeepR.ite)
      | (with_reducible apply Keep.ite_fst)
      | (with_reducible apply Keep.snoc (State.applyVars_keep _ _))
      | (with_reducible apply Keep.snoc (State.beginStop_keep _))
      | (with_reducible apply Keep.snoc (State.complete_keep _ _ _))
      | (with_reducible apply Keep.snoc (State.dropSwitch_keep _ _))
      | (with_reducible apply Keep.snoc (State.record_keep _ _ _ _))
      | (with_reducible apply Keep.snoc (State.setMember_keep _ _ _))
      | (with_reducible apply Keep.snoc (State.settleHealth_keep _))
      | (with_reducible apply Keep.snoc (State.stopValues_keep _))
      | (with_reducible apply Keep.snoc (State.takeParam_keep _))
      | (with_reducible apply Keep.snoc (State.updPrg_keep _ _ ?_))
      | (with_reducible apply Keep.snoc' (Keep.foldl ?_ _ _))
      | (with_reducible apply And.intro)
      | exact rfl
      | (refine Keep.fst (by assumption) ?_)
      | (refine Keep.snd (by assumption) ?_)
      | split
      | dsimp only
  repeat' first
    | with_reducible assumption
    | with_reducible exact Keep.refl _ _
    | intro _
    | (fail_if_no_progress beta_reduce)
    | (with_reducible apply KeepR.next)
    | (with_reducible apply Keep.ite)
    | (with_reducible apply KeepR.ite)
    | (with_reducible apply Keep.ite_fst)
    | (with_reducible apply Keep.snoc (State.applyVars_keep _ _))
    | (with_reducible apply Keep.snoc (State.beginStop_keep _))
    | (with_reducible apply Keep.snoc (State.complete_keep _ _ _))
    | (with_reducible apply Keep.snoc (State.dropSwitch_keep _ _))
    | (with_reducible apply Keep.snoc (State.record_keep _ _ _ _))
    | (with_reducible apply Keep.snoc (State.setMember_keep _ _ _))
    | (with_reducible apply Keep.snoc (State.settleHealth_keep _))
    | (with_reducible apply Keep.snoc (State.stopValues_keep _))
    | (with_reducible apply Keep.snoc (State.takeParam_keep _))
    | (with_reducible apply Keep.snoc (State.updPrg_keep _ _ ?_))
    | (with_reducible apply Keep.snoc' (Keep.foldl ?_ _ _))
    | (with_reducible apply And.intro)
    | exact rfl
    | (refine Keep.fst (by assumption) ?_)
    | (refine Keep.snd (by assumption) ?_)
    | split
    | dsimp only

theorem State.runActs_keep : ∀ a0 a1 s, Keep 12440421392 s (State.runActs a0 a1 s).1 := by
  intro a0 a1 s
  unfold State.runActs
  split
  · exact Keep.refl _ _
  · rename_i r hr
    split
    rename_i d bad hd
    have h1 : Keep 12440421392 s (s.updPrg fun p => { p with data := d }) := by
      refine Keep.snoc (State.updPrg_mem _ _ fun h hb => ⟨?_, hb⟩) rfl (Keep.refl _ _)
      have := r.acts_wf a0 a1 h
      rw [hd] at this
      exact this
    dsimp only
    split
    · exact h1
    · exact Keep.snoc (State.haltProgram_keep _ _ _ _ _) rfl h1

theorem State.longStore_keep : ∀ a0 a1 s, Keep 12440421392 s (State.longStore a0 a1 s).1 := by
  intro a0 a1 s
  unfold State.longStore
  split
  · exact Keep.refl _ _
  · rename_i r hr
    split
    · exact Keep.snoc (State.haltProgram_keep _ _ _ _ _) rfl (Keep.refl _ _)
    · split
      · dsimp only
        exact Keep.snoc (State.updPrg_mem _ _ fun h hb => ⟨Memory.writeAll_wf _ _ h, hb⟩) rfl (Keep.refl _ _)
      · exact Keep.refl _ _

theorem State.longActs_keep : ∀ a0 s, Keep 12708856912 s (State.longActs a0 s).1 := by
  intro l
  induction l with
  | nil => intro s; exact Keep.refl _ _
  | cons a l ih =>
    intro s
    cases a with
    | store addr data =>
      unfold State.longActs
      dsimp only
      split
      · exact Keep.snoc' (ih _) (Keep.mono (State.longStore_keep _ _ _) rfl)
      · exact Keep.mono (State.longStore_keep _ _ _) rfl
    | post n data =>
      unfold State.longActs
      exact Keep.snoc' (ih _) (Keep.mono (State.programPost_keep _ _ _ _) rfl)
    | stop =>
      unfold State.longActs
      split
      · exact Keep.snoc' (ih _) (Keep.mono (State.updPrg_keep _ _ ⟨rfl, rfl⟩) rfl)
      · split
        · exact Keep.snoc' (ih _) (Keep.mono (State.beginStop_keep _) rfl)
        · exact ih _

theorem State.takeMessages_keep : ∀ s, Keep 805306384 s (State.takeMessages s).2 := by
  intro s
  unfold State.takeMessages
  extract_lets v0
  try clear_value v0
  repeat' first
    | with_reducible assumption
    | with_reducible exact Keep.refl _ _
    | intro _
    | (fail_if_no_progress beta_reduce)
    | (with_reducible apply KeepR.next)
    | (with_reducible apply Keep.ite)
    | (with_reducible apply KeepR.ite)
    | (with_reducible apply Keep.ite_fst)
    | (with_reducible apply Keep.snoc (State.hubTake_keep _ _))
    | (with_reducible apply Keep.snoc' (Keep.foldl ?_ _ _))
    | (with_reducible apply And.intro)
    | exact rfl
    | (refine Keep.fst (by assumption) ?_)
    | (refine Keep.snd (by assumption) ?_)
    | split
    | dsimp only

theorem State.atBeginning_keep : ∀ s, Keep 92291072 s (State.atBeginning s) := by
  intro s
  unfold State.atBeginning
  extract_lets v0 v1
  have h0 : Keep 92291072 s v0 := by
    unfold v0
    repeat' first
      | with_reducible assumption
      | with_reducible exact Keep.refl _ _
      | intro _
      | (fail_if_no_progress beta_reduce)
      | (with_reducible apply KeepR.next)
      | (with_reducible apply Keep.ite)
      | (with_reducible apply KeepR.ite)
      | (with_reducible apply Keep.ite_fst)
      | (with_reducible apply Keep.snoc (State.complete_keep _ _ _))
      | (with_reducible apply Keep.snoc (State.takeParam_keep _))
      | (with_reducible apply Keep.snoc (State.updPrg_keep _ _ ?_))
      | (with_reducible apply Keep.snoc' (Keep.foldl ?_ _ _))
      | (with_reducible apply And.intro)
      | exact rfl
      | (refine Keep.fst (by assumption) ?_)
      | (refine Keep.snd (by assumption) ?_)
      | split
      | dsimp only
  have h1 : Keep 92291072 s v1 := by
    unfold v1
    repeat' first
      | with_reducible assumption
      | with_reducible exact Keep.refl _ _
      | intro _
      | (fail_if_no_progress beta_reduce)
      | (with_reducible apply KeepR.next)
      | (with_reducible apply Keep.ite)
      | (with_reducible apply KeepR.ite)
      | (with_reducible apply Keep.ite_fst)
      | (with_reducible apply Keep.snoc (State.complete_keep _ _ _))
      | (with_reducible apply Keep.snoc (State.takeParam_keep _))
      | (with_reducible apply Keep.snoc (State.updPrg_keep _ _ ?_))
      | (with_reducible apply Keep.snoc' (Keep.foldl ?_ _ _))
      | (with_reducible apply And.intro)
      | exact rfl
      | (refine Keep.fst (by assumption) ?_)
      | (refine Keep.snd (by assumption) ?_)
      | split
      | dsimp only
  repeat' first
    | with_reducible assumption
    | with_reducible exact Keep.refl _ _
    | intro _
    | (fail_if_no_progress beta_reduce)
    | (with_reducible apply KeepR.next)
    | (with_reducible apply Keep.ite)
    | (with_reducible apply KeepR.ite)
    | (with_reducible apply Keep.ite_fst)
    | (with_reducible apply Keep.snoc (State.complete_keep _ _ _))
    | (with_reducible apply Keep.snoc (State.takeParam_keep _))
    | (with_reducible apply Keep.snoc (State.updPrg_keep _ _ ?_))
    | (with_reducible apply Keep.snoc' (Keep.foldl ?_ _ _))
    | (with_reducible apply And.intro)
    | exact rfl
    | (refine Keep.fst (by assumption) ?_)
    | (refine Keep.snd (by assumption) ?_)
    | split
    | dsimp only

theorem State.isoBegin_keep : ∀ a0 a1 s, Keep 16384 s (State.isoBegin a0 a1 s) := by
  intro a0 a1 s
  unfold State.isoBegin
  extract_lets v0 v1
  try clear_value v1
  try clear_value v0
  repeat' first
    | with_reducible assumption
    | with_reducible exact Keep.refl _ _
    | intro _
    | (fail_if_no_progress beta_reduce)
    | (with_reducible apply KeepR.next)
    | (with_reducible apply Keep.ite)
    | (with_reducible apply KeepR.ite)
    | (with_reducible apply Keep.ite_fst)
    | (with_reducible apply Keep.snoc (State.updPrg_keep _ _ ?_))
    | (with_reducible apply Keep.snoc' (Keep.foldl ?_ _ _))
    | (with_reducible apply And.intro)
    | exact rfl
    | (refine Keep.fst (by assumption) ?_)
    | (refine Keep.snd (by assumption) ?_)
    | split
    | dsimp only

theorem State.runFaults_keep : ∀ a0 a1 a2 s, Keep 12440421392 s (State.runFaults a0 a1 a2 s).1 := by
  intro now l
  induction l with
  | nil => intro acts s; exact Keep.refl _ _
  | cons a l ih =>
    intro acts s
    unfold State.runFaults
    dsimp only
    split
    · exact Keep.snoc' (ih _ _) (Keep.mono (State.runActs_keep _ _ _) rfl)
    · exact Keep.mono (State.runActs_keep _ _ _) rfl

theorem State.beforeRead_keep : ∀ a0 a1 s, Keep 12440421392 s (State.beforeRead a0 a1 s).1 := by
  intro a0 a1 s
  unfold State.beforeRead
  extract_lets v0 v1 v2
  try clear_value v1
  try clear_value v0
  have h2 : Keep 12440421392 s v2 := by
    unfold v2
    repeat' first
      | with_reducible assumption
      | with_reducible exact Keep.refl _ _
      | intro _
      | (fail_if_no_progress beta_reduce)
      | (with_reducible apply KeepR.next)
      | (with_reducible apply Keep.ite)
      | (with_reducible apply KeepR.ite)
      | (with_reducible apply Keep.ite_fst)
      | (with_reducible apply Keep.snoc (State.applyVars_keep _ _))
      | (with_reducible apply Keep.snoc (State.runFaults_keep _ _ _ _))
      | (with_reducible apply Keep.snoc (State.updPrg_keep _ _ ?_))
      | (with_reducible apply Keep.snoc' (Keep.foldl ?_ _ _))
      | (with_reducible apply And.intro)
      | exact rfl
      | (refine Keep.fst (by assumption) ?_)
      | (refine Keep.snd (by assumption) ?_)
      | split
      | dsimp only
  repeat' first
    | with_reducible assumption
    | with_reducible exact Keep.refl _ _
    | intro _
    | (fail_if_no_progress beta_reduce)
    | (with_reducible apply KeepR.next)
    | (with_reducible apply Keep.ite)
    | (with_reducible apply KeepR.ite)
    | (with_reducible apply Keep.ite_fst)
    | (with_reducible apply Keep.snoc (State.applyVars_keep _ _))
    | (with_reducible apply Keep.snoc (State.runFaults_keep _ _ _ _))
    | (with_reducible apply Keep.snoc (State.updPrg_keep _ _ ?_))
    | (with_reducible apply Keep.snoc' (Keep.foldl ?_ _ _))
    | (with_reducible apply And.intro)
    | exact rfl
    | (refine Keep.fst (by assumption) ?_)
    | (refine Keep.snd (by assumption) ?_)
    | split
    | dsimp only

theorem State.enterMain_keep : ∀ a0 a1 a2 a3 s, Keep 12708856848 s (State.enterMain a0 a1 a2 a3 s) := by
  intro a0 a1 a2 a3 s
  unfold State.enterMain
  repeat' first
    | with_reducible assumption
    | with_reducible exact Keep.refl _ _
    | intro _
    | (fail_if_no_progress beta_reduce)
    | (with_reducible apply KeepR.next)
    | (with_reducible apply Keep.ite)
    | (with_reducible apply KeepR.ite)
    | (with_reducible apply Keep.ite_fst)
    | (with_reducible apply Keep.snoc (State.isoBegin_keep _ _ _))
    | (with_reducible apply Keep.snoc (State.runActs_keep _ _ _))
    | (with_reducible apply Keep.snoc (State.takeMessages_keep _))
    | (with_reducible apply Keep.snoc (State.updPrg_keep _ _ ?_))
    | (with_reducible apply Keep.snoc' (Keep.foldl ?_ _ _))
    | (with_reducible apply And.intro)
    | exact rfl
    | (refine Keep.fst (by assumption) ?_)
    | (refine Keep.snd (by assumption) ?_)
    | split
    | dsimp only

theorem State.idleBarrier_keep : ∀ s, Keep 855654416 s (State.idleBarrier s) := by
  intro s
  unfold State.idleBarrier
  extract_lets v0
  try clear_value v0
  repeat' first
    | with_reducible assumption
    | with_reducible exact Keep.refl _ _
    | intro _
    | (fail_if_no_progress beta_reduce)
    | (with_reducible apply KeepR.next)
    | (with_reducible apply Keep.ite)
    | (with_reducible apply KeepR.ite)
    | (with_reducible apply Keep.ite_fst)
    | (with_reducible apply Keep.snoc (State.meetBarrier_keep _))
    | (with_reducible apply Keep.snoc (State.sendBarrier_keep _ _))
    | (with_reducible apply Keep.snoc' (Keep.foldl ?_ _ _))
    | (with_reducible apply And.intro)
    | exact rfl
    | (refine Keep.fst (by assumption) ?_)
    | (refine Keep.snd (by assumption) ?_)
    | split
    | dsimp only

theorem execMainCycleStart_keep : ∀ a0 a1 a2 s, KeepR 12742411344 s (execMainCycleStart a0 a1 a2 s) := by
  intro a0 a1 a2 s
  unfold execMainCycleStart
  extract_lets v0 v1 v2 v3 v4 v5 v6
  try clear_value v6
  try clear_value v5
  try clear_value v4
  try clear_value v3
  try clear_value v1
  have h0 : Keep 12742411344 s v0 := by
    unfold v0
    repeat' first
      | with_reducible assumption
      | with_reducible exact Keep.refl _ _
      | intro _
      | (fail_if_no_progress beta_reduce)
      | (with_reducible apply KeepR.next)
      | (with_reducible apply Keep.ite)
      | (with_reducible apply KeepR.ite)
      | (with_reducible apply Keep.ite_fst)
      | (with_reducible apply Keep.snoc (State.atBeginning_keep _))
      | (with_reducible apply Keep.snoc (State.beforeRead_keep _ _ _))
      | (with_reducible apply Keep.snoc (State.begin_keep _ _))
      | (with_reducible apply Keep.snoc (State.enterMain_keep _ _ _ _ _))
      | (with_reducible apply Keep.snoc (State.idleBarrier_keep _))
      | (with_reducible apply Keep.snoc (State.longActs_keep _ _))
      | (with_reducible apply Keep.snoc (State.meetBarrier_keep _))
      | (with_reducible apply Keep.snoc (State.sendBarrier_keep _ _))
      | (with_reducible apply Keep.snoc (State.updPair_keep _ _))
      | (with_reducible apply Keep.snoc (State.updPrg_keep _ _ ?_))
      | (with_reducible apply Keep.snoc' (Keep.foldl ?_ _ _))
      | (with_reducible apply And.intro)
      | exact rfl
      | (refine Keep.fst (by assumption) ?_)
      | (refine Keep.snd (by assumption) ?_)
      | split
      | dsimp only
  have h2 : Keep 12742411344 s v2 := by
    unfold v2
    repeat' first
      | with_reducible assumption
      | with_reducible exact Keep.refl _ _
      | intro _
      | (fail_if_no_progress beta_reduce)
      | (with_reducible apply KeepR.next)
      | (with_reducible apply Keep.ite)
      | (with_reducible apply KeepR.ite)
      | (with_reducible apply Keep.ite_fst)
      | (with_reducible apply Keep.snoc (State.atBeginning_keep _))
      | (with_reducible apply Keep.snoc (State.beforeRead_keep _ _ _))
      | (with_reducible apply Keep.snoc (State.begin_keep _ _))
      | (with_reducible apply Keep.snoc (State.enterMain_keep _ _ _ _ _))
      | (with_reducible apply Keep.snoc (State.idleBarrier_keep _))
      | (with_reducible apply Keep.snoc (State.longActs_keep _ _))
      | (with_reducible apply Keep.snoc (State.meetBarrier_keep _))
      | (with_reducible apply Keep.snoc (State.sendBarrier_keep _ _))
      | (with_reducible apply Keep.snoc (State.updPair_keep _ _))
      | (with_reducible apply Keep.snoc (State.updPrg_keep _ _ ?_))
      | (with_reducible apply Keep.snoc' (Keep.foldl ?_ _ _))
      | (with_reducible apply And.intro)
      | exact rfl
      | (refine Keep.fst (by assumption) ?_)
      | (refine Keep.snd (by assumption) ?_)
      | split
      | dsimp only
  repeat' first
    | with_reducible assumption
    | with_reducible exact Keep.refl _ _
    | intro _
    | (fail_if_no_progress beta_reduce)
    | (with_reducible apply KeepR.next)
    | (with_reducible apply Keep.ite)
    | (with_reducible apply KeepR.ite)
    | (with_reducible apply Keep.ite_fst)
    | (with_reducible apply Keep.snoc (State.atBeginning_keep _))
    | (with_reducible apply Keep.snoc (State.beforeRead_keep _ _ _))
    | (with_reducible apply Keep.snoc (State.begin_keep _ _))
    | (with_reducible apply Keep.snoc (State.enterMain_keep _ _ _ _ _))
    | (with_reducible apply Keep.snoc (State.idleBarrier_keep _))
    | (with_reducible apply Keep.snoc (State.longActs_keep _ _))
    | (with_reducible apply Keep.snoc (State.meetBarrier_keep _))
    | (with_reducible apply Keep.snoc (State.sendBarrier_keep _ _))
    | (with_reducible apply Keep.snoc (State.updPair_keep _ _))
    | (with_reducible apply Keep.snoc (State.updPrg_keep _ _ ?_))
    | (with_reducible apply Keep.snoc' (Keep.foldl ?_ _ _))
    | (with_reducible apply And.intro)
    | exact rfl
    | (refine Keep.fst (by assumption) ?_)
    | (refine Keep.snd (by assumption) ?_)
    | split
    | dsimp only

theorem State.programRemote_keep : ∀ a0 a1 a2 s, Keep 9830400 s (State.programRemote a0 a1 a2 s) := by
  intro a0 a1 a2 s
  unfold State.programRemote
  repeat' first
    | with_reducible assumption
    | with_reducible exact Keep.refl _ _
    | intro _
    | (fail_if_no_progress beta_reduce)
    | (with_reducible apply KeepR.next)
    | (with_reducible apply Keep.ite)
    | (with_reducible apply KeepR.ite)
    | (with_reducible apply Keep.ite_fst)
    | (with_reducible apply Keep.snoc (State.remoteOut_keep _ _ _ _ _))
    | (with_reducible apply Keep.snoc (State.updAxis_keep _ _ _))
    | (with_reducible apply Keep.snoc (State.updLoop_keep _ _ _))
    | (with_reducible apply Keep.snoc (State.updOver_keep _ _ _))
    | (with_reducible apply Keep.snoc' (Keep.foldl ?_ _ _))
    | (with_reducible apply And.intro)
    | exact rfl
    | (refine Keep.fst (by assumption) ?_)
    | (refine Keep.snd (by assumption) ?_)
    | split
    | dsimp only

theorem State.release_keep : ∀ s a1, Keep 899044432 s (State.release s a1) := by
  intro s a1
  unfold State.release
  repeat' first
    | with_reducible assumption
    | with_reducible exact Keep.refl _ _
    | intro _
    | (fail_if_no_progress beta_reduce)
    | (with_reducible apply KeepR.next)
    | (with_reducible apply Keep.ite)
    | (with_reducible apply KeepR.ite)
    | (with_reducible apply Keep.ite_fst)
    | (with_reducible apply Keep.snoc (State.hartEnqueue_keep _ _ _))
    | (with_reducible apply Keep.snoc (State.ownerWrite_keep _ _ _ _ _ _))
    | (with_reducible apply Keep.snoc (State.programAxis_keep _ _))
    | (with_reducible apply Keep.snoc (State.programLoop_keep _ _))
    | (with_reducible apply Keep.snoc (State.programPost_keep _ _ _ _))
    | (with_reducible apply Keep.snoc (State.programRemote_keep _ _ _ _))
    | (with_reducible apply Keep.snoc' (Keep.foldl ?_ _ _))
    | (with_reducible apply And.intro)
    | exact rfl
    | (refine Keep.fst (by assumption) ?_)
    | (refine Keep.snd (by assumption) ?_)
    | split
    | dsimp only

theorem State.markBoundary_keep : ∀ s, Keep 49152 s (State.markBoundary s) := by
  intro s
  unfold State.markBoundary
  split
  · exact Keep.refl _ _
  · rename_i r hr
    exact Keep.snoc (State.updPrg_mem _ _ fun h _ => ⟨h, r.retained_wf h⟩) rfl (Keep.refl _ _)

theorem State.countUndelivered_keep : ∀ s, Keep 8404992 s (State.countUndelivered s) := by
  intro s
  unfold State.countUndelivered
  extract_lets v0 v1
  try clear_value v0
  have h1 : Keep 8404992 s v1 := by
    unfold v1
    repeat' first
      | with_reducible assumption
      | with_reducible exact Keep.refl _ _
      | intro _
      | (fail_if_no_progress beta_reduce)
      | (with_reducible apply KeepR.next)
      | (with_reducible apply Keep.ite)
      | (with_reducible apply KeepR.ite)
      | (with_reducible apply Keep.ite_fst)
      | (with_reducible apply Keep.snoc (State.updPrg_keep _ _ ?_))
      | (with_reducible apply Keep.snoc (State.updRing_keep _ _))
      | (with_reducible apply Keep.snoc' (Keep.foldl ?_ _ _))
      | (with_reducible apply And.intro)
      | exact rfl
      | (refine Keep.fst (by assumption) ?_)
      | (refine Keep.snd (by assumption) ?_)
      | split
      | dsimp only
  repeat' first
    | with_reducible assumption
    | with_reducible exact Keep.refl _ _
    | intro _
    | (fail_if_no_progress beta_reduce)
    | (with_reducible apply KeepR.next)
    | (with_reducible apply Keep.ite)
    | (with_reducible apply KeepR.ite)
    | (with_reducible apply Keep.ite_fst)
    | (with_reducible apply Keep.snoc (State.updPrg_keep _ _ ?_))
    | (with_reducible apply Keep.snoc (State.updRing_keep _ _))
    | (with_reducible apply Keep.snoc' (Keep.foldl ?_ _ _))
    | (with_reducible apply And.intro)
    | exact rfl
    | (refine Keep.fst (by assumption) ?_)
    | (refine Keep.snd (by assumption) ?_)
    | split
    | dsimp only

theorem State.countOverrun_keep : ∀ s, Keep 16384 s (State.countOverrun s) := by
  intro s
  unfold State.countOverrun
  repeat' first
    | with_reducible assumption
    | with_reducible exact Keep.refl _ _
    | intro _
    | (fail_if_no_progress beta_reduce)
    | (with_reducible apply KeepR.next)
    | (with_reducible apply Keep.ite)
    | (with_reducible apply KeepR.ite)
    | (with_reducible apply Keep.ite_fst)
    | (with_reducible apply Keep.snoc (State.updPrg_keep _ _ ?_))
    | (with_reducible apply Keep.snoc' (Keep.foldl ?_ _ _))
    | (with_reducible apply And.intro)
    | exact rfl
    | (refine Keep.fst (by assumption) ?_)
    | (refine Keep.snd (by assumption) ?_)
    | split
    | dsimp only

theorem State.switchDone_keep : ∀ s, Keep 12440371216 s (State.switchDone s) := by
  intro s
  unfold State.switchDone
  repeat' first
    | with_reducible assumption
    | with_reducible exact Keep.refl _ _
    | intro _
    | (fail_if_no_progress beta_reduce)
    | (with_reducible apply KeepR.next)
    | (with_reducible apply Keep.ite)
    | (with_reducible apply KeepR.ite)
    | (with_reducible apply Keep.ite_fst)
    | (with_reducible apply Keep.snoc (State.complete_keep _ _ _))
    | (with_reducible apply Keep.snoc (State.record_keep _ _ _ _))
    | (with_reducible apply Keep.snoc (State.requestSave_keep _ _ _ _))
    | (with_reducible apply Keep.snoc (State.updXch_keep _ _))
    | (with_reducible apply Keep.snoc' (Keep.foldl ?_ _ _))
    | (with_reducible apply And.intro)
    | exact rfl
    | (refine Keep.fst (by assumption) ?_)
    | (refine Keep.snd (by assumption) ?_)
    | split
    | dsimp only

theorem State.startSwitch_keep : ∀ s, Keep 65536 s (State.startSwitch s) := by
  intro s
  unfold State.startSwitch
  repeat' first
    | with_reducible assumption
    | with_reducible exact Keep.refl _ _
    | intro _
    | (fail_if_no_progress beta_reduce)
    | (with_reducible apply KeepR.next)
    | (with_reducible apply Keep.ite)
    | (with_reducible apply KeepR.ite)
    | (with_reducible apply Keep.ite_fst)
    | (with_reducible apply Keep.snoc (State.updXch_keep _ _))
    | (with_reducible apply Keep.snoc' (Keep.foldl ?_ _ _))
    | (with_reducible apply And.intro)
    | exact rfl
    | (refine Keep.fst (by assumption) ?_)
    | (refine Keep.snd (by assumption) ?_)
    | split
    | dsimp only

theorem execOutputWrite_keep : ∀ a0 a1 s, KeepR 12710302800 s (execOutputWrite a0 a1 s) := by
  intro a0 a1 s
  unfold execOutputWrite
  extract_lets v0 v1 v2 v3 v4 v5 v6 v7 v8
  try clear_value v2
  try clear_value v1
  have h0 : Keep 12710302800 s v0 := by
    unfold v0
    repeat' first
      | with_reducible assumption
      | with_reducible exact Keep.refl _ _
      | intro _
      | (fail_if_no_progress beta_reduce)
      | (with_reducible apply KeepR.next)
      | (with_reducible apply Keep.ite)
      | (with_reducible apply KeepR.ite)
      | (with_reducible apply Keep.ite_fst)
      | (with_reducible apply Keep.snoc (State.begin_keep _ _))
      | (with_reducible apply Keep.snoc (State.beginStop_keep _))
      | (with_reducible apply Keep.snoc (State.complete_keep _ _ _))
      | (with_reducible apply Keep.snoc (State.countOverrun_keep _))
      | (with_reducible apply Keep.snoc (State.countUndelivered_keep _))
      | (with_reducible apply Keep.snoc (State.emit_keep _ _))
      | (with_reducible apply Keep.snoc (State.markBoundary_keep _))
      | (with_reducible apply Keep.snoc (State.release_keep _ _))
      | (with_reducible apply Keep.snoc (State.startSwitch_keep _))
      | (with_reducible apply Keep.snoc (State.switchDone_keep _))
      | (with_reducible apply Keep.snoc (State.updPair_keep _ _))
      | (with_reducible apply Keep.snoc (State.updPrg_keep _ _ ?_))
      | (with_reducible apply Keep.snoc' (Keep.foldl ?_ _ _))
      | (with_reducible apply And.intro)
      | exact rfl
      | (refine Keep.fst (by assumption) ?_)
      | (refine Keep.snd (by assumption) ?_)
      | split
      | dsimp only
  have h3 : Keep 12710302800 s v3 := by
    unfold v3
    repeat' first
      | with_reducible assumption
      | with_reducible exact Keep.refl _ _
      | intro _
      | (fail_if_no_progress beta_reduce)
      | (with_reducible apply KeepR.next)
      | (with_reducible apply Keep.ite)
      | (with_reducible apply KeepR.ite)
      | (with_reducible apply Keep.ite_fst)
      | (with_reducible apply Keep.snoc (State.begin_keep _ _))
      | (with_reducible apply Keep.snoc (State.beginStop_keep _))
      | (with_reducible apply Keep.snoc (State.complete_keep _ _ _))
      | (with_reducible apply Keep.snoc (State.countOverrun_keep _))
      | (with_reducible apply Keep.snoc (State.countUndelivered_keep _))
      | (with_reducible apply Keep.snoc (State.emit_keep _ _))
      | (with_reducible apply Keep.snoc (State.markBoundary_keep _))
      | (with_reducible apply Keep.snoc (State.release_keep _ _))
      | (with_reducible apply Keep.snoc (State.startSwitch_keep _))
      | (with_reducible apply Keep.snoc (State.switchDone_keep _))
      | (with_reducible apply Keep.snoc (State.updPair_keep _ _))
      | (with_reducible apply Keep.snoc (State.updPrg_keep _ _ ?_))
      | (with_reducible apply Keep.snoc' (Keep.foldl ?_ _ _))
      | (with_reducible apply And.intro)
      | exact rfl
      | (refine Keep.fst (by assumption) ?_)
      | (refine Keep.snd (by assumption) ?_)
      | split
      | dsimp only
  have h4 : Keep 12710302800 s v4 := by
    unfold v4
    repeat' first
      | with_reducible assumption
      | with_reducible exact Keep.refl _ _
      | intro _
      | (fail_if_no_progress beta_reduce)
      | (with_reducible apply KeepR.next)
      | (with_reducible apply Keep.ite)
      | (with_reducible apply KeepR.ite)
      | (with_reducible apply Keep.ite_fst)
      | (with_reducible apply Keep.snoc (State.begin_keep _ _))
      | (with_reducible apply Keep.snoc (State.beginStop_keep _))
      | (with_reducible apply Keep.snoc (State.complete_keep _ _ _))
      | (with_reducible apply Keep.snoc (State.countOverrun_keep _))
      | (with_reducible apply Keep.snoc (State.countUndelivered_keep _))
      | (with_reducible apply Keep.snoc (State.emit_keep _ _))
      | (with_reducible apply Keep.snoc (State.markBoundary_keep _))
      | (with_reducible apply Keep.snoc (State.release_keep _ _))
      | (with_reducible apply Keep.snoc (State.startSwitch_keep _))
      | (with_reducible apply Keep.snoc (State.switchDone_keep _))
      | (with_reducible apply Keep.snoc (State.updPair_keep _ _))
      | (with_reducible apply Keep.snoc (State.updPrg_keep _ _ ?_))
      | (with_reducible apply Keep.snoc' (Keep.foldl ?_ _ _))
      | (with_reducible apply And.intro)
      | exact rfl
      | (refine Keep.fst (by assumption) ?_)
      | (refine Keep.snd (by assumption) ?_)
      | split
      | dsimp only
  have h5 : Keep 12710302800 s v5 := by
    unfold v5
    repeat' first
      | with_reducible assumption
      | with_reducible exact Keep.refl _ _
      | intro _
      | (fail_if_no_progress beta_reduce)
      | (with_reducible apply KeepR.next)
      | (with_reducible apply Keep.ite)
      | (with_reducible apply KeepR.ite)
      | (with_reducible apply Keep.ite_fst)
      | (with_reducible apply Keep.snoc (State.begin_keep _ _))
      | (with_reducible apply Keep.snoc (State.beginStop_keep _))
      | (with_reducible apply Keep.snoc (State.complete_keep _ _ _))
      | (with_reducible apply Keep.snoc (State.countOverrun_keep _))
      | (with_reducible apply Keep.snoc (State.countUndelivered_keep _))
      | (with_reducible apply Keep.snoc (State.emit_keep _ _))
      | (with_reducible apply Keep.snoc (State.markBoundary_keep _))
      | (with_reducible apply Keep.snoc (State.release_keep _ _))
      | (with_reducible apply Keep.snoc (State.startSwitch_keep _))
      | (with_reducible apply Keep.snoc (State.switchDone_keep _))
      | (with_reducible apply Keep.snoc (State.updPair_keep _ _))
      | (with_reducible apply Keep.snoc (State.updPrg_keep _ _ ?_))
      | (with_reducible apply Keep.snoc' (Keep.foldl ?_ _ _))
      | (with_reducible apply And.intro)
      | exact rfl
      | (refine Keep.fst (by assumption) ?_)
      | (refine Keep.snd (by assumption) ?_)
      | split
      | dsimp only
  have h6 : Keep 12710302800 s v6 := by
    unfold v6
    repeat' first
      | with_reducible assumption
      | with_reducible exact Keep.refl _ _
      | intro _
      | (fail_if_no_progress beta_reduce)
      | (with_reducible apply KeepR.next)
      | (with_reducible apply Keep.ite)
      | (with_reducible apply KeepR.ite)
      | (with_reducible apply Keep.ite_fst)
      | (with_reducible apply Keep.snoc (State.begin_keep _ _))
      | (with_reducible apply Keep.snoc (State.beginStop_keep _))
      | (with_reducible apply Keep.snoc (State.complete_keep _ _ _))
      | (with_reducible apply Keep.snoc (State.countOverrun_keep _))
      | (with_reducible apply Keep.snoc (State.countUndelivered_keep _))
      | (with_reducible apply Keep.snoc (State.emit_keep _ _))
      | (with_reducible apply Keep.snoc (State.markBoundary_keep _))
      | (with_reducible apply Keep.snoc (State.release_keep _ _))
      | (with_reducible apply Keep.snoc (State.startSwitch_keep _))
      | (with_reducible apply Keep.snoc (State.switchDone_keep _))
      | (with_reducible apply Keep.snoc (State.updPair_keep _ _))
      | (with_reducible apply Keep.snoc (State.updPrg_keep _ _ ?_))
      | (with_reducible apply Keep.snoc' (Keep.foldl ?_ _ _))
      | (with_reducible apply And.intro)
      | exact rfl
      | (refine Keep.fst (by assumption) ?_)
      | (refine Keep.snd (by assumption) ?_)
      | split
      | dsimp only
  have h7 : Keep 12710302800 s v7 := by
    unfold v7
    repeat' first
      | with_reducible assumption
      | with_reducible exact Keep.refl _ _
      | intro _
      | (fail_if_no_progress beta_reduce)
      | (with_reducible apply KeepR.next)
      | (with_reducible apply Keep.ite)
      | (with_reducible apply KeepR.ite)
      | (with_reducible apply Keep.ite_fst)
      | (with_reducible apply Keep.snoc (State.begin_keep _ _))
      | (with_reducible apply Keep.snoc (State.beginStop_keep _))
      | (with_reducible apply Keep.snoc (State.complete_keep _ _ _))
      | (with_reducible apply Keep.snoc (State.countOverrun_keep _))
      | (with_reducible apply Keep.snoc (State.countUndelivered_keep _))
      | (with_reducible apply Keep.snoc (State.emit_keep _ _))
      | (with_reducible apply Keep.snoc (State.markBoundary_keep _))
      | (with_reducible apply Keep.snoc (State.release_keep _ _))
      | (with_reducible apply Keep.snoc (State.startSwitch_keep _))
      | (with_reducible apply Keep.snoc (State.switchDone_keep _))
      | (with_reducible apply Keep.snoc (State.updPair_keep _ _))
      | (with_reducible apply Keep.snoc (State.updPrg_keep _ _ ?_))
      | (with_reducible apply Keep.snoc' (Keep.foldl ?_ _ _))
      | (with_reducible apply And.intro)
      | exact rfl
      | (refine Keep.fst (by assumption) ?_)
      | (refine Keep.snd (by assumption) ?_)
      | split
      | dsimp only
  have h8 : Keep 12710302800 s v8 := by
    unfold v8
    repeat' first
      | with_reducible assumption
      | with_reducible exact Keep.refl _ _
      | intro _
      | (fail_if_no_progress beta_reduce)
      | (with_reducible apply KeepR.next)
      | (with_reducible apply Keep.ite)
      | (with_reducible apply KeepR.ite)
      | (with_reducible apply Keep.ite_fst)
      | (with_reducible apply Keep.snoc (State.begin_keep _ _))
      | (with_reducible apply Keep.snoc (State.beginStop_keep _))
      | (with_reducible apply Keep.snoc (State.complete_keep _ _ _))
      | (with_reducible apply Keep.snoc (State.countOverrun_keep _))
      | (with_reducible apply Keep.snoc (State.countUndelivered_keep _))
      | (with_reducible apply Keep.snoc (State.emit_keep _ _))
      | (with_reducible apply Keep.snoc (State.markBoundary_keep _))
      | (with_reducible apply Keep.snoc (State.release_keep _ _))
      | (with_reducible apply Keep.snoc (State.startSwitch_keep _))
      | (with_reducible apply Keep.snoc (State.switchDone_keep _))
      | (with_reducible apply Keep.snoc (State.updPair_keep _ _))
      | (with_reducible apply Keep.snoc (State.updPrg_keep _ _ ?_))
      | (with_reducible apply Keep.snoc' (Keep.foldl ?_ _ _))
      | (with_reducible apply And.intro)
      | exact rfl
      | (refine Keep.fst (by assumption) ?_)
      | (refine Keep.snd (by assumption) ?_)
      | split
      | dsimp only
  repeat' first
    | with_reducible assumption
    | with_reducible exact Keep.refl _ _
    | intro _
    | (fail_if_no_progress beta_reduce)
    | (with_reducible apply KeepR.next)
    | (with_reducible apply Keep.ite)
    | (with_reducible apply KeepR.ite)
    | (with_reducible apply Keep.ite_fst)
    | (with_reducible apply Keep.snoc (State.begin_keep _ _))
    | (with_reducible apply Keep.snoc (State.beginStop_keep _))
    | (with_reducible apply Keep.snoc (State.complete_keep _ _ _))
    | (with_reducible apply Keep.snoc (State.countOverrun_keep _))
    | (with_reducible apply Keep.snoc (State.countUndelivered_keep _))
    | (with_reducible apply Keep.snoc (State.emit_keep _ _))
    | (with_reducible apply Keep.snoc (State.markBoundary_keep _))
    | (with_reducible apply Keep.snoc (State.release_keep _ _))
    | (with_reducible apply Keep.snoc (State.startSwitch_keep _))
    | (with_reducible apply Keep.snoc (State.switchDone_keep _))
    | (with_reducible apply Keep.snoc (State.updPair_keep _ _))
    | (with_reducible apply Keep.snoc (State.updPrg_keep _ _ ?_))
    | (with_reducible apply Keep.snoc' (Keep.foldl ?_ _ _))
    | (with_reducible apply And.intro)
    | exact rfl
    | (refine Keep.fst (by assumption) ?_)
    | (refine Keep.snd (by assumption) ?_)
    | split
    | dsimp only

theorem execOutputRelease_keep : ∀ a0 s, KeepR 899044432 s (execOutputRelease a0 s) := by
  intro a0 s
  unfold execOutputRelease
  extract_lets v0 v1
  try clear_value v1
  have h0 : Keep 899044432 s v0 := by
    unfold v0
    repeat' first
      | with_reducible assumption
      | with_reducible exact Keep.refl _ _
      | intro _
      | (fail_if_no_progress beta_reduce)
      | (with_reducible apply KeepR.next)
      | (with_reducible apply Keep.ite)
      | (with_reducible apply KeepR.ite)
      | (with_reducible apply Keep.ite_fst)
      | (with_reducible apply Keep.snoc (State.begin_keep _ _))
      | (with_reducible apply Keep.snoc (State.release_keep _ _))
      | (with_reducible apply Keep.snoc (State.updPrg_keep _ _ ?_))
      | (with_reducible apply Keep.snoc' (Keep.foldl ?_ _ _))
      | (with_reducible apply And.intro)
      | exact rfl
      | (refine Keep.fst (by assumption) ?_)
      | (refine Keep.snd (by assumption) ?_)
      | split
      | dsimp only
  repeat' first
    | with_reducible assumption
    | with_reducible exact Keep.refl _ _
    | intro _
    | (fail_if_no_progress beta_reduce)
    | (with_reducible apply KeepR.next)
    | (with_reducible apply Keep.ite)
    | (with_reducible apply KeepR.ite)
    | (with_reducible apply Keep.ite_fst)
    | (with_reducible apply Keep.snoc (State.begin_keep _ _))
    | (with_reducible apply Keep.snoc (State.release_keep _ _))
    | (with_reducible apply Keep.snoc (State.updPrg_keep _ _ ?_))
    | (with_reducible apply Keep.snoc' (Keep.foldl ?_ _ _))
    | (with_reducible apply And.intro)
    | exact rfl
    | (refine Keep.fst (by assumption) ?_)
    | (refine Keep.snd (by assumption) ?_)
    | split
    | dsimp only

theorem State.eventTake_keep : ∀ a0 s, Keep 805306384 s (State.eventTake a0 s) := by
  intro a0 s
  unfold State.eventTake
  repeat' first
    | with_reducible assumption
    | with_reducible exact Keep.refl _ _
    | intro _
    | (fail_if_no_progress beta_reduce)
    | (with_reducible apply KeepR.next)
    | (with_reducible apply Keep.ite)
    | (with_reducible apply KeepR.ite)
    | (with_reducible apply Keep.ite_fst)
    | (with_reducible apply Keep.snoc (State.hubTake_keep _ _))
    | (with_reducible apply Keep.snoc' (Keep.foldl ?_ _ _))
    | (with_reducible apply And.intro)
    | exact rfl
    | (refine Keep.fst (by assumption) ?_)
    | (refine Keep.snd (by assumption) ?_)
    | split
    | dsimp only

theorem execEventTaskStart_keep : ∀ a0 a1 s, KeepR 805322768 s (execEventTaskStart a0 a1 s) := by
  intro a0 a1 s
  unfold execEventTaskStart
  extract_lets v0
  have h0 : Keep 805322768 s v0 := by
    unfold v0
    repeat' first
      | with_reducible assumption
      | with_reducible exact Keep.refl _ _
      | intro _
      | (fail_if_no_progress beta_reduce)
      | (with_reducible apply KeepR.next)
      | (with_reducible apply Keep.ite)
      | (with_reducible apply KeepR.ite)
      | (with_reducible apply Keep.ite_fst)
      | (with_reducible apply Keep.snoc (State.begin_keep _ _))
      | (with_reducible apply Keep.snoc (State.eventTake_keep _ _))
      | (with_reducible apply Keep.snoc (State.updPrg_keep _ _ ?_))
      | (with_reducible apply Keep.snoc' (Keep.foldl ?_ _ _))
      | (with_reducible apply And.intro)
      | exact rfl
      | (refine Keep.fst (by assumption) ?_)
      | (refine Keep.snd (by assumption) ?_)
      | split
      | dsimp only
  repeat' first
    | with_reducible assumption
    | with_reducible exact Keep.refl _ _
    | intro _
    | (fail_if_no_progress beta_reduce)
    | (with_reducible apply KeepR.next)
    | (with_reducible apply Keep.ite)
    | (with_reducible apply KeepR.ite)
    | (with_reducible apply Keep.ite_fst)
    | (with_reducible apply Keep.snoc (State.begin_keep _ _))
    | (with_reducible apply Keep.snoc (State.eventTake_keep _ _))
    | (with_reducible apply Keep.snoc (State.updPrg_keep _ _ ?_))
    | (with_reducible apply Keep.snoc' (Keep.foldl ?_ _ _))
    | (with_reducible apply And.intro)
    | exact rfl
    | (refine Keep.fst (by assumption) ?_)
    | (refine Keep.snd (by assumption) ?_)
    | split
    | dsimp only

theorem State.releaseEvent_keep : ∀ s a1, Keep 899044432 s (State.releaseEvent s a1) := by
  intro s a1
  unfold State.releaseEvent
  repeat' first
    | with_reducible assumption
    | with_reducible exact Keep.refl _ _
    | intro _
    | (fail_if_no_progress beta_reduce)
    | (with_reducible apply KeepR.next)
    | (with_reducible apply Keep.ite)
    | (with_reducible apply KeepR.ite)
    | (with_reducible apply Keep.ite_fst)
    | (with_reducible apply Keep.snoc (State.programPost_keep _ _ _ _))
    | (with_reducible apply Keep.snoc (State.release_keep _ _))
    | (with_reducible apply Keep.snoc' (Keep.foldl ?_ _ _))
    | (with_reducible apply And.intro)
    | exact rfl
    | (refine Keep.fst (by assumption) ?_)
    | (refine Keep.snd (by assumption) ?_)
    | split
    | dsimp only

theorem execEventTaskEnd_keep : ∀ a0 a1 a2 a3 s, KeepR 12710302800 s (execEventTaskEnd a0 a1 a2 a3 s) := by
  intro a0 a1 a2 a3 s
  unfold execEventTaskEnd
  extract_lets v0
  have h0 : Keep 12710302800 s v0 := by
    unfold v0
    repeat' first
      | with_reducible assumption
      | with_reducible exact Keep.refl _ _
      | intro _
      | (fail_if_no_progress beta_reduce)
      | (with_reducible apply KeepR.next)
      | (with_reducible apply Keep.ite)
      | (with_reducible apply KeepR.ite)
      | (with_reducible apply Keep.ite_fst)
      | (with_reducible apply Keep.snoc (State.begin_keep _ _))
      | (with_reducible apply Keep.snoc (State.releaseEvent_keep _ _))
      | (with_reducible apply Keep.snoc (State.runActs_keep _ _ _))
      | (with_reducible apply Keep.snoc (State.updPrg_keep _ _ ?_))
      | (with_reducible apply Keep.snoc' (Keep.foldl ?_ _ _))
      | (with_reducible apply And.intro)
      | exact rfl
      | (refine Keep.fst (by assumption) ?_)
      | (refine Keep.snd (by assumption) ?_)
      | split
      | dsimp only
  repeat' first
    | with_reducible assumption
    | with_reducible exact Keep.refl _ _
    | intro _
    | (fail_if_no_progress beta_reduce)
    | (with_reducible apply KeepR.next)
    | (with_reducible apply Keep.ite)
    | (with_reducible apply KeepR.ite)
    | (with_reducible apply Keep.ite_fst)
    | (with_reducible apply Keep.snoc (State.begin_keep _ _))
    | (with_reducible apply Keep.snoc (State.releaseEvent_keep _ _))
    | (with_reducible apply Keep.snoc (State.runActs_keep _ _ _))
    | (with_reducible apply Keep.snoc (State.updPrg_keep _ _ ?_))
    | (with_reducible apply Keep.snoc' (Keep.foldl ?_ _ _))
    | (with_reducible apply And.intro)
    | exact rfl
    | (refine Keep.fst (by assumption) ?_)
    | (refine Keep.snd (by assumption) ?_)
    | split
    | dsimp only

theorem execCycleLong_keep : ∀ a0 s, KeepR 16384 s (execCycleLong a0 s) := by
  intro a0 s
  unfold execCycleLong
  extract_lets v0 v1
  try clear_value v1
  have h0 : Keep 16384 s v0 := by
    unfold v0
    repeat' first
      | with_reducible assumption
      | with_reducible exact Keep.refl _ _
      | intro _
      | (fail_if_no_progress beta_reduce)
      | (with_reducible apply KeepR.next)
      | (with_reducible apply Keep.ite)
      | (with_reducible apply KeepR.ite)
      | (with_reducible apply Keep.ite_fst)
      | (with_reducible apply Keep.snoc (State.begin_keep _ _))
      | (with_reducible apply Keep.snoc (State.updPrg_keep _ _ ?_))
      | (with_reducible apply Keep.snoc' (Keep.foldl ?_ _ _))
      | (with_reducible apply And.intro)
      | exact rfl
      | (refine Keep.fst (by assumption) ?_)
      | (refine Keep.snd (by assumption) ?_)
      | split
      | dsimp only
  repeat' first
    | with_reducible assumption
    | with_reducible exact Keep.refl _ _
    | intro _
    | (fail_if_no_progress beta_reduce)
    | (with_reducible apply KeepR.next)
    | (with_reducible apply Keep.ite)
    | (with_reducible apply KeepR.ite)
    | (with_reducible apply Keep.ite_fst)
    | (with_reducible apply Keep.snoc (State.begin_keep _ _))
    | (with_reducible apply Keep.snoc (State.updPrg_keep _ _ ?_))
    | (with_reducible apply Keep.snoc' (Keep.foldl ?_ _ _))
    | (with_reducible apply And.intro)
    | exact rfl
    | (refine Keep.fst (by assumption) ?_)
    | (refine Keep.snd (by assumption) ?_)
    | split
    | dsimp only

theorem execCycleLongEnd_keep : ∀ a0 a1 s, KeepR 12708856912 s (execCycleLongEnd a0 a1 s) := by
  intro a0 a1 s
  unfold execCycleLongEnd
  extract_lets v0 v1
  have h0 : Keep 12708856912 s v0 := by
    unfold v0
    repeat' first
      | with_reducible assumption
      | with_reducible exact Keep.refl _ _
      | intro _
      | (fail_if_no_progress beta_reduce)
      | (with_reducible apply KeepR.next)
      | (with_reducible apply Keep.ite)
      | (with_reducible apply KeepR.ite)
      | (with_reducible apply Keep.ite_fst)
      | (with_reducible apply Keep.snoc (State.begin_keep _ _))
      | (with_reducible apply Keep.snoc (State.longActs_keep _ _))
      | (with_reducible apply Keep.snoc (State.updPrg_keep _ _ ?_))
      | (with_reducible apply Keep.snoc' (Keep.foldl ?_ _ _))
      | (with_reducible apply And.intro)
      | exact rfl
      | (refine Keep.fst (by assumption) ?_)
      | (refine Keep.snd (by assumption) ?_)
      | split
      | dsimp only
  have h1 : Keep 12708856912 s v1 := by
    unfold v1
    repeat' first
      | with_reducible assumption
      | with_reducible exact Keep.refl _ _
      | intro _
      | (fail_if_no_progress beta_reduce)
      | (with_reducible apply KeepR.next)
      | (with_reducible apply Keep.ite)
      | (with_reducible apply KeepR.ite)
      | (with_reducible apply Keep.ite_fst)
      | (with_reducible apply Keep.snoc (State.begin_keep _ _))
      | (with_reducible apply Keep.snoc (State.longActs_keep _ _))
      | (with_reducible apply Keep.snoc (State.updPrg_keep _ _ ?_))
      | (with_reducible apply Keep.snoc' (Keep.foldl ?_ _ _))
      | (with_reducible apply And.intro)
      | exact rfl
      | (refine Keep.fst (by assumption) ?_)
      | (refine Keep.snd (by assumption) ?_)
      | split
      | dsimp only
  repeat' first
    | with_reducible assumption
    | with_reducible exact Keep.refl _ _
    | intro _
    | (fail_if_no_progress beta_reduce)
    | (with_reducible apply KeepR.next)
    | (with_reducible apply Keep.ite)
    | (with_reducible apply KeepR.ite)
    | (with_reducible apply Keep.ite_fst)
    | (with_reducible apply Keep.snoc (State.begin_keep _ _))
    | (with_reducible apply Keep.snoc (State.longActs_keep _ _))
    | (with_reducible apply Keep.snoc (State.updPrg_keep _ _ ?_))
    | (with_reducible apply Keep.snoc' (Keep.foldl ?_ _ _))
    | (with_reducible apply And.intro)
    | exact rfl
    | (refine Keep.fst (by assumption) ?_)
    | (refine Keep.snd (by assumption) ?_)
    | split
    | dsimp only

theorem execWatchdogHalt_keep : ∀ a0 s, KeepR 12440421392 s (execWatchdogHalt a0 s) := by
  intro a0 s
  unfold execWatchdogHalt
  extract_lets v0 v1 v2
  try clear_value v2
  try clear_value v1
  have h0 : Keep 12440421392 s v0 := by
    unfold v0
    repeat' first
      | with_reducible assumption
      | with_reducible exact Keep.refl _ _
      | intro _
      | (fail_if_no_progress beta_reduce)
      | (with_reducible apply KeepR.next)
      | (with_reducible apply Keep.ite)
      | (with_reducible apply KeepR.ite)
      | (with_reducible apply Keep.ite_fst)
      | (with_reducible apply Keep.snoc (State.begin_keep _ _))
      | (with_reducible apply Keep.snoc (State.haltProgram_keep _ _ _ _ _))
      | (with_reducible apply Keep.snoc' (Keep.foldl ?_ _ _))
      | (with_reducible apply And.intro)
      | exact rfl
      | (refine Keep.fst (by assumption) ?_)
      | (refine Keep.snd (by assumption) ?_)
      | split
      | dsimp only
  repeat' first
    | with_reducible assumption
    | with_reducible exact Keep.refl _ _
    | intro _
    | (fail_if_no_progress beta_reduce)
    | (with_reducible apply KeepR.next)
    | (with_reducible apply Keep.ite)
    | (with_reducible apply KeepR.ite)
    | (with_reducible apply Keep.ite_fst)
    | (with_reducible apply Keep.snoc (State.begin_keep _ _))
    | (with_reducible apply Keep.snoc (State.haltProgram_keep _ _ _ _ _))
    | (with_reducible apply Keep.snoc' (Keep.foldl ?_ _ _))
    | (with_reducible apply And.intro)
    | exact rfl
    | (refine Keep.fst (by assumption) ?_)
    | (refine Keep.snd (by assumption) ?_)
    | split
    | dsimp only

theorem execTrap_keep : ∀ a0 a1 a2 a3 s, KeepR 12440421392 s (execTrap a0 a1 a2 a3 s) := by
  intro a0 a1 a2 a3 s
  unfold execTrap
  repeat' first
    | with_reducible assumption
    | with_reducible exact Keep.refl _ _
    | intro _
    | (fail_if_no_progress beta_reduce)
    | (with_reducible apply KeepR.next)
    | (with_reducible apply Keep.ite)
    | (with_reducible apply KeepR.ite)
    | (with_reducible apply Keep.ite_fst)
    | (with_reducible apply Keep.snoc (State.begin_keep _ _))
    | (with_reducible apply Keep.snoc (State.haltProgram_keep _ _ _ _ _))
    | (with_reducible apply Keep.snoc' (Keep.foldl ?_ _ _))
    | (with_reducible apply And.intro)
    | exact rfl
    | (refine Keep.fst (by assumption) ?_)
    | (refine Keep.snd (by assumption) ?_)
    | split
    | dsimp only

theorem execEccHalt_keep : ∀ a0 s, KeepR 12440421392 s (execEccHalt a0 s) := by
  intro a0 s
  unfold execEccHalt
  repeat' first
    | with_reducible assumption
    | with_reducible exact Keep.refl _ _
    | intro _
    | (fail_if_no_progress beta_reduce)
    | (with_reducible apply KeepR.next)
    | (with_reducible apply Keep.ite)
    | (with_reducible apply KeepR.ite)
    | (with_reducible apply Keep.ite_fst)
    | (with_reducible apply Keep.snoc (State.begin_keep _ _))
    | (with_reducible apply Keep.snoc (State.haltProgram_keep _ _ _ _ _))
    | (with_reducible apply Keep.snoc' (Keep.foldl ?_ _ _))
    | (with_reducible apply And.intro)
    | exact rfl
    | (refine Keep.fst (by assumption) ?_)
    | (refine Keep.snd (by assumption) ?_)
    | split
    | dsimp only

theorem execEventOverrun_keep : ∀ a0 a1 s, KeepR 12440421392 s (execEventOverrun a0 a1 s) := by
  intro a0 a1 s
  unfold execEventOverrun
  extract_lets v0
  have h0 : Keep 12440421392 s v0 := by
    unfold v0
    repeat' first
      | with_reducible assumption
      | with_reducible exact Keep.refl _ _
      | intro _
      | (fail_if_no_progress beta_reduce)
      | (with_reducible apply KeepR.next)
      | (with_reducible apply Keep.ite)
      | (with_reducible apply KeepR.ite)
      | (with_reducible apply Keep.ite_fst)
      | (with_reducible apply Keep.snoc (State.begin_keep _ _))
      | (with_reducible apply Keep.snoc (State.haltProgram_keep _ _ _ _ _))
      | (with_reducible apply Keep.snoc' (Keep.foldl ?_ _ _))
      | (with_reducible apply And.intro)
      | exact rfl
      | (refine Keep.fst (by assumption) ?_)
      | (refine Keep.snd (by assumption) ?_)
      | split
      | dsimp only
  repeat' first
    | with_reducible assumption
    | with_reducible exact Keep.refl _ _
    | intro _
    | (fail_if_no_progress beta_reduce)
    | (with_reducible apply KeepR.next)
    | (with_reducible apply Keep.ite)
    | (with_reducible apply KeepR.ite)
    | (with_reducible apply Keep.ite_fst)
    | (with_reducible apply Keep.snoc (State.begin_keep _ _))
    | (with_reducible apply Keep.snoc (State.haltProgram_keep _ _ _ _ _))
    | (with_reducible apply Keep.snoc' (Keep.foldl ?_ _ _))
    | (with_reducible apply And.intro)
    | exact rfl
    | (refine Keep.fst (by assumption) ?_)
    | (refine Keep.snd (by assumption) ?_)
    | split
    | dsimp only

theorem State.startProgram_keep : ∀ a0 a1 a2 s, Keep 10267705360 s (State.startProgram a0 a1 a2 s) := by
  intro a0 a1 a2 s
  unfold State.startProgram
  extract_lets fb bank src now lost init data info s1 s2 s3 s4 s5
  have hsrc : s.MemOk → ∀ b, src = some b → Memory.wf b.data.mem = true := by
    intro hs b hb
    cases a0 with
    | true =>
      have : src = none := rfl
      rw [this] at hb; cases hb
    | false =>
      cases hf : fb with
      | true =>
        have : src = some s.prg.boundary := by unfold src; rw [hf]; rfl
        rw [this] at hb; cases hb; exact hs.2.1
      | false =>
        have : src = bank := by unfold src; rw [hf]; rfl
        rw [this] at hb; exact State.retainedBank_wf hs hb
  clear_value src fb
  have hdata : s.MemOk → Memory.wf data.mem = true := by
    intro hs
    cases src with
    | some b =>
      refine a2.restore_wf hs.1 ?_
      split
      · exact hsrc hs b rfl
      · exact hsrc hs b rfl
    | none => exact a2.restore_wf hs.1 (Image.initial_wf _)
  clear_value data bank info
  have h1 : Keep 10267705360 s s1 := by
    unfold s1
    repeat' first
      | with_reducible assumption
      | with_reducible exact Keep.refl _ _
      | intro _
      | (fail_if_no_progress beta_reduce)
      | (with_reducible apply KeepR.next)
      | (with_reducible apply Keep.ite)
      | (with_reducible apply KeepR.ite)
      | (with_reducible apply Keep.ite_fst)
      | (with_reducible apply Keep.snoc (State.postEvent_keep _ _ _ _))
      | (with_reducible apply Keep.snoc (State.record_keep _ _ _ _))
      | (with_reducible apply Keep.snoc (State.settleHealth_keep _))
      | (with_reducible apply Keep.snoc (State.updMod_keep _ _))
      | (with_reducible apply Keep.snoc (State.updPrg_mem _ _ ?_))
      | (with_reducible apply Keep.snoc (State.updStore_keep _ _ _ ?_))
      | (with_reducible apply Keep.snoc' (Keep.foldl ?_ _ _))
      | (with_reducible apply And.intro)
      | exact rfl
      | (refine Keep.fst (by assumption) ?_)
      | (refine Keep.snd (by assumption) ?_)
      | split
      | dsimp only
  have h2 : Keep 10267705360 s s2 := by
    unfold s2
    repeat' first
      | with_reducible assumption
      | with_reducible exact Keep.refl _ _
      | intro _
      | (fail_if_no_progress beta_reduce)
      | (with_reducible apply KeepR.next)
      | (with_reducible apply Keep.ite)
      | (with_reducible apply KeepR.ite)
      | (with_reducible apply Keep.ite_fst)
      | (with_reducible apply Keep.snoc (State.postEvent_keep _ _ _ _))
      | (with_reducible apply Keep.snoc (State.record_keep _ _ _ _))
      | (with_reducible apply Keep.snoc (State.settleHealth_keep _))
      | (with_reducible apply Keep.snoc (State.updMod_keep _ _))
      | (with_reducible apply Keep.snoc (State.updPrg_mem _ _ ?_))
      | (with_reducible apply Keep.snoc (State.updStore_keep _ _ _ ?_))
      | (with_reducible apply Keep.snoc' (Keep.foldl ?_ _ _))
      | (with_reducible apply And.intro)
      | exact rfl
      | (refine Keep.fst (by assumption) ?_)
      | (refine Keep.snd (by assumption) ?_)
      | split
      | dsimp only
  have h3 : Keep 10267705360 s s3 := by
    unfold s3
    repeat' first
      | with_reducible assumption
      | with_reducible exact Keep.refl _ _
      | intro _
      | (fail_if_no_progress beta_reduce)
      | (with_reducible apply KeepR.next)
      | (with_reducible apply Keep.ite)
      | (with_reducible apply KeepR.ite)
      | (with_reducible apply Keep.ite_fst)
      | (with_reducible apply Keep.snoc (State.postEvent_keep _ _ _ _))
      | (with_reducible apply Keep.snoc (State.record_keep _ _ _ _))
      | (with_reducible apply Keep.snoc (State.settleHealth_keep _))
      | (with_reducible apply Keep.snoc (State.updMod_keep _ _))
      | (with_reducible apply Keep.snoc (State.updPrg_mem _ _ ?_))
      | (with_reducible apply Keep.snoc (State.updStore_keep _ _ _ ?_))
      | (with_reducible apply Keep.snoc' (Keep.foldl ?_ _ _))
      | (with_reducible apply And.intro)
      | exact rfl
      | (refine Keep.fst (by assumption) ?_)
      | (refine Keep.snd (by assumption) ?_)
      | split
      | dsimp only
  have h4 : Keep 10267705360 s s4 := by
    unfold s4
    exact Keep.snoc_prg _ h3 (fun hs ht => ⟨hdata hs, ht.2.1⟩) rfl
  have h5 : Keep 10267705360 s s5 := by
    unfold s5
    repeat' first
      | with_reducible assumption
      | with_reducible exact Keep.refl _ _
      | intro _
      | (fail_if_no_progress beta_reduce)
      | (with_reducible apply KeepR.next)
      | (with_reducible apply Keep.ite)
      | (with_reducible apply KeepR.ite)
      | (with_reducible apply Keep.ite_fst)
      | (with_reducible apply Keep.snoc (State.postEvent_keep _ _ _ _))
      | (with_reducible apply Keep.snoc (State.record_keep _ _ _ _))
      | (with_reducible apply Keep.snoc (State.settleHealth_keep _))
      | (with_reducible apply Keep.snoc (State.updMod_keep _ _))
      | (with_reducible apply Keep.snoc (State.updPrg_mem _ _ ?_))
      | (with_reducible apply Keep.snoc (State.updStore_keep _ _ _ ?_))
      | (with_reducible apply Keep.snoc' (Keep.foldl ?_ _ _))
      | (with_reducible apply And.intro)
      | exact rfl
      | (refine Keep.fst (by assumption) ?_)
      | (refine Keep.snd (by assumption) ?_)
      | split
      | dsimp only
  refine Keep.ite (fun _ => h5) fun _ => ?_
  exact Keep.snoc (State.updPrg_keep _ _ ⟨rfl, rfl⟩) rfl h5

theorem execRun_keep : ∀ a0 a1 a2 s, KeepR 10292871184 s (execRun a0 a1 a2 s) := by
  intro a0 a1 a2 s
  unfold execRun
  extract_lets v0
  have h0 : Keep 10292871184 s v0 := by
    unfold v0
    repeat' first
      | with_reducible assumption
      | with_reducible exact Keep.refl _ _
      | intro _
      | (fail_if_no_progress beta_reduce)
      | (with_reducible apply KeepR.next)
      | (with_reducible apply Keep.ite)
      | (with_reducible apply KeepR.ite)
      | (with_reducible apply Keep.ite_fst)
      | (with_reducible apply Keep.snoc (State.begin_keep _ _))
      | (with_reducible apply Keep.snoc (State.startProgram_keep _ _ _ _))
      | (with_reducible apply serve_keep)
      | (with_reducible apply Keep.snoc' (Keep.foldl ?_ _ _))
      | (with_reducible apply And.intro)
      | exact rfl
      | (refine Keep.fst (by assumption) ?_)
      | (refine Keep.snd (by assumption) ?_)
      | split
      | dsimp only
  repeat' first
    | with_reducible assumption
    | with_reducible exact Keep.refl _ _
    | intro _
    | (fail_if_no_progress beta_reduce)
    | (with_reducible apply KeepR.next)
    | (with_reducible apply Keep.ite)
    | (with_reducible apply KeepR.ite)
    | (with_reducible apply Keep.ite_fst)
    | (with_reducible apply Keep.snoc (State.begin_keep _ _))
    | (with_reducible apply Keep.snoc (State.startProgram_keep _ _ _ _))
    | (with_reducible apply serve_keep)
    | (with_reducible apply Keep.snoc' (Keep.foldl ?_ _ _))
    | (with_reducible apply And.intro)
    | exact rfl
    | (refine Keep.fst (by assumption) ?_)
    | (refine Keep.snd (by assumption) ?_)
    | split
    | dsimp only

theorem execStartFinished_keep : ∀ a0 a1 a2 s, KeepR 12440421392 s (execStartFinished a0 a1 a2 s) := by
  intro a0 a1 a2 s
  unfold execStartFinished
  extract_lets v0
  have h0 : Keep 12440421392 s v0 := by
    unfold v0
    repeat' first
      | with_reducible assumption
      | with_reducible exact Keep.refl _ _
      | intro _
      | (fail_if_no_progress beta_reduce)
      | (with_reducible apply KeepR.next)
      | (with_reducible apply Keep.ite)
      | (with_reducible apply KeepR.ite)
      | (with_reducible apply Keep.ite_fst)
      | (with_reducible apply Keep.snoc (State.begin_keep _ _))
      | (with_reducible apply Keep.snoc (State.runActs_keep _ _ _))
      | (with_reducible apply Keep.snoc (State.updPrg_keep _ _ ?_))
      | (with_reducible apply Keep.snoc' (Keep.foldl ?_ _ _))
      | (with_reducible apply And.intro)
      | exact rfl
      | (refine Keep.fst (by assumption) ?_)
      | (refine Keep.snd (by assumption) ?_)
      | split
      | dsimp only
  repeat' first
    | with_reducible assumption
    | with_reducible exact Keep.refl _ _
    | intro _
    | (fail_if_no_progress beta_reduce)
    | (with_reducible apply KeepR.next)
    | (with_reducible apply Keep.ite)
    | (with_reducible apply KeepR.ite)
    | (with_reducible apply Keep.ite_fst)
    | (with_reducible apply Keep.snoc (State.begin_keep _ _))
    | (with_reducible apply Keep.snoc (State.runActs_keep _ _ _))
    | (with_reducible apply Keep.snoc (State.updPrg_keep _ _ ?_))
    | (with_reducible apply Keep.snoc' (Keep.foldl ?_ _ _))
    | (with_reducible apply And.intro)
    | exact rfl
    | (refine Keep.fst (by assumption) ?_)
    | (refine Keep.snd (by assumption) ?_)
    | split
    | dsimp only

theorem execStop_keep : ∀ a0 a1 a2 s, KeepR 12440355856 s (execStop a0 a1 a2 s) := by
  intro a0 a1 a2 s
  unfold execStop
  extract_lets v0
  have h0 : Keep 12440355856 s v0 := by
    unfold v0
    repeat' first
      | with_reducible assumption
      | with_reducible exact Keep.refl _ _
      | intro _
      | (fail_if_no_progress beta_reduce)
      | (with_reducible apply KeepR.next)
      | (with_reducible apply Keep.ite)
      | (with_reducible apply KeepR.ite)
      | (with_reducible apply Keep.ite_fst)
      | (with_reducible apply Keep.snoc (State.begin_keep _ _))
      | (with_reducible apply Keep.snoc (State.beginStop_keep _))
      | (with_reducible apply Keep.snoc (State.updPrg_keep _ _ ?_))
      | (with_reducible apply serve_keep)
      | (with_reducible apply Keep.snoc' (Keep.foldl ?_ _ _))
      | (with_reducible apply And.intro)
      | exact rfl
      | (refine Keep.fst (by assumption) ?_)
      | (refine Keep.snd (by assumption) ?_)
      | split
      | dsimp only
  repeat' first
    | with_reducible assumption
    | with_reducible exact Keep.refl _ _
    | intro _
    | (fail_if_no_progress beta_reduce)
    | (with_reducible apply KeepR.next)
    | (with_reducible apply Keep.ite)
    | (with_reducible apply KeepR.ite)
    | (with_reducible apply Keep.ite_fst)
    | (with_reducible apply Keep.snoc (State.begin_keep _ _))
    | (with_reducible apply Keep.snoc (State.beginStop_keep _))
    | (with_reducible apply Keep.snoc (State.updPrg_keep _ _ ?_))
    | (with_reducible apply serve_keep)
    | (with_reducible apply Keep.snoc' (Keep.foldl ?_ _ _))
    | (with_reducible apply And.intro)
    | exact rfl
    | (refine Keep.fst (by assumption) ?_)
    | (refine Keep.snd (by assumption) ?_)
    | split
    | dsimp only

theorem execIsoEnter_keep : ∀ a0 a1 a2 s, KeepR 92291072 s (execIsoEnter a0 a1 a2 s) := by
  intro a0 a1 a2 s
  unfold execIsoEnter
  extract_lets v0
  have h0 : Keep 92291072 s v0 := by
    unfold v0
    repeat' first
      | with_reducible assumption
      | with_reducible exact Keep.refl _ _
      | intro _
      | (fail_if_no_progress beta_reduce)
      | (with_reducible apply KeepR.next)
      | (with_reducible apply Keep.ite)
      | (with_reducible apply KeepR.ite)
      | (with_reducible apply Keep.ite_fst)
      | (with_reducible apply Keep.snoc (State.begin_keep _ _))
      | (with_reducible apply Keep.snoc (State.updPrg_keep _ _ ?_))
      | (with_reducible apply serve_keep)
      | (with_reducible apply Keep.snoc' (Keep.foldl ?_ _ _))
      | (with_reducible apply And.intro)
      | exact rfl
      | (refine Keep.fst (by assumption) ?_)
      | (refine Keep.snd (by assumption) ?_)
      | split
      | dsimp only
  repeat' first
    | with_reducible assumption
    | with_reducible exact Keep.refl _ _
    | intro _
    | (fail_if_no_progress beta_reduce)
    | (with_reducible apply KeepR.next)
    | (with_reducible apply Keep.ite)
    | (with_reducible apply KeepR.ite)
    | (with_reducible apply Keep.ite_fst)
    | (with_reducible apply Keep.snoc (State.begin_keep _ _))
    | (with_reducible apply Keep.snoc (State.updPrg_keep _ _ ?_))
    | (with_reducible apply serve_keep)
    | (with_reducible apply Keep.snoc' (Keep.foldl ?_ _ _))
    | (with_reducible apply And.intro)
    | exact rfl
    | (refine Keep.fst (by assumption) ?_)
    | (refine Keep.snd (by assumption) ?_)
    | split
    | dsimp only

theorem execIsoLeave_keep : ∀ a0 a1 a2 s, KeepR 92291072 s (execIsoLeave a0 a1 a2 s) := by
  intro a0 a1 a2 s
  unfold execIsoLeave
  extract_lets v0
  have h0 : Keep 92291072 s v0 := by
    unfold v0
    repeat' first
      | with_reducible assumption
      | with_reducible exact Keep.refl _ _
      | intro _
      | (fail_if_no_progress beta_reduce)
      | (with_reducible apply KeepR.next)
      | (with_reducible apply Keep.ite)
      | (with_reducible apply KeepR.ite)
      | (with_reducible apply Keep.ite_fst)
      | (with_reducible apply Keep.snoc (State.begin_keep _ _))
      | (with_reducible apply Keep.snoc (State.updPrg_keep _ _ ?_))
      | (with_reducible apply serve_keep)
      | (with_reducible apply Keep.snoc' (Keep.foldl ?_ _ _))
      | (with_reducible apply And.intro)
      | exact rfl
      | (refine Keep.fst (by assumption) ?_)
      | (refine Keep.snd (by assumption) ?_)
      | split
      | dsimp only
  repeat' first
    | with_reducible assumption
    | with_reducible exact Keep.refl _ _
    | intro _
    | (fail_if_no_progress beta_reduce)
    | (with_reducible apply KeepR.next)
    | (with_reducible apply Keep.ite)
    | (with_reducible apply KeepR.ite)
    | (with_reducible apply Keep.ite_fst)
    | (with_reducible apply Keep.snoc (State.begin_keep _ _))
    | (with_reducible apply Keep.snoc (State.updPrg_keep _ _ ?_))
    | (with_reducible apply serve_keep)
    | (with_reducible apply Keep.snoc' (Keep.foldl ?_ _ _))
    | (with_reducible apply And.intro)
    | exact rfl
    | (refine Keep.fst (by assumption) ?_)
    | (refine Keep.snd (by assumption) ?_)
    | split
    | dsimp only

theorem execProgramParam_keep : ∀ a0 a1 a2 s, KeepR 9755967488 s (execProgramParam a0 a1 a2 s) := by
  intro a0 a1 a2 s
  unfold execProgramParam
  extract_lets v0
  have h0 : Keep 9755967488 s v0 := by
    unfold v0
    repeat' first
      | with_reducible assumption
      | with_reducible exact Keep.refl _ _
      | intro _
      | (fail_if_no_progress beta_reduce)
      | (with_reducible apply KeepR.next)
      | (with_reducible apply Keep.ite)
      | (with_reducible apply KeepR.ite)
      | (with_reducible apply Keep.ite_fst)
      | (with_reducible apply Keep.snoc (State.begin_keep _ _))
      | (with_reducible apply Keep.snoc (State.storeObject_keep _ _ _ _))
      | (with_reducible apply Keep.snoc (State.takeParam_keep _))
      | (with_reducible apply Keep.snoc (State.updPrg_keep _ _ ?_))
      | (with_reducible apply serve_keep)
      | (with_reducible apply Keep.snoc' (Keep.foldl ?_ _ _))
      | (with_reducible apply And.intro)
      | exact rfl
      | (refine Keep.fst (by assumption) ?_)
      | (refine Keep.snd (by assumption) ?_)
      | split
      | dsimp only
  repeat' first
    | with_reducible assumption
    | with_reducible exact Keep.refl _ _
    | intro _
    | (fail_if_no_progress beta_reduce)
    | (with_reducible apply KeepR.next)
    | (with_reducible apply Keep.ite)
    | (with_reducible apply KeepR.ite)
    | (with_reducible apply Keep.ite_fst)
    | (with_reducible apply Keep.snoc (State.begin_keep _ _))
    | (with_reducible apply Keep.snoc (State.storeObject_keep _ _ _ _))
    | (with_reducible apply Keep.snoc (State.takeParam_keep _))
    | (with_reducible apply Keep.snoc (State.updPrg_keep _ _ ?_))
    | (with_reducible apply serve_keep)
    | (with_reducible apply Keep.snoc' (Keep.foldl ?_ _ _))
    | (with_reducible apply And.intro)
    | exact rfl
    | (refine Keep.fst (by assumption) ?_)
    | (refine Keep.snd (by assumption) ?_)
    | split
    | dsimp only

theorem execVarWrite_keep : ∀ a0 a1 a2 s, KeepR 92323840 s (execVarWrite a0 a1 a2 s) := by
  intro a0 a1 a2 s
  unfold execVarWrite
  extract_lets v0 v1 v2
  try clear_value v2
  try clear_value v1
  have h0 : Keep 92323840 s v0 := by
    unfold v0
    repeat' first
      | with_reducible assumption
      | with_reducible exact Keep.refl _ _
      | intro _
      | (fail_if_no_progress beta_reduce)
      | (with_reducible apply KeepR.next)
      | (with_reducible apply Keep.ite)
      | (with_reducible apply KeepR.ite)
      | (with_reducible apply Keep.ite_fst)
      | (with_reducible apply Keep.snoc (State.applyVar_keep _ _ _))
      | (with_reducible apply Keep.snoc (State.begin_keep _ _))
      | (with_reducible apply Keep.snoc (State.updPrg_keep _ _ ?_))
      | (with_reducible apply serve_keep)
      | (with_reducible apply Keep.snoc' (Keep.foldl ?_ _ _))
      | (with_reducible apply And.intro)
      | exact rfl
      | (refine Keep.fst (by assumption) ?_)
      | (refine Keep.snd (by assumption) ?_)
      | split
      | dsimp only
  repeat' first
    | with_reducible assumption
    | with_reducible exact Keep.refl _ _
    | intro _
    | (fail_if_no_progress beta_reduce)
    | (with_reducible apply KeepR.next)
    | (with_reducible apply Keep.ite)
    | (with_reducible apply KeepR.ite)
    | (with_reducible apply Keep.ite_fst)
    | (with_reducible apply Keep.snoc (State.applyVar_keep _ _ _))
    | (with_reducible apply Keep.snoc (State.begin_keep _ _))
    | (with_reducible apply Keep.snoc (State.updPrg_keep _ _ ?_))
    | (with_reducible apply serve_keep)
    | (with_reducible apply Keep.snoc' (Keep.foldl ?_ _ _))
    | (with_reducible apply And.intro)
    | exact rfl
    | (refine Keep.fst (by assumption) ?_)
    | (refine Keep.snd (by assumption) ?_)
    | split
    | dsimp only

theorem execRetainedSaveInterval_keep : ∀ a0 s, KeepR 12440322064 s (execRetainedSaveInterval a0 s) := by
  intro a0 s
  unfold execRetainedSaveInterval
  extract_lets v0
  have h0 : Keep 12440322064 s v0 := by
    unfold v0
    repeat' first
      | with_reducible assumption
      | with_reducible exact Keep.refl _ _
      | intro _
      | (fail_if_no_progress beta_reduce)
      | (with_reducible apply KeepR.next)
      | (with_reducible apply Keep.ite)
      | (with_reducible apply KeepR.ite)
      | (with_reducible apply Keep.ite_fst)
      | (with_reducible apply Keep.snoc (State.begin_keep _ _))
      | (with_reducible apply Keep.snoc (State.requestSave_keep _ _ _ _))
      | (with_reducible apply Keep.snoc (State.updPrg_keep _ _ ?_))
      | (with_reducible apply Keep.snoc' (Keep.foldl ?_ _ _))
      | (with_reducible apply And.intro)
      | exact rfl
      | (refine Keep.fst (by assumption) ?_)
      | (refine Keep.snd (by assumption) ?_)
      | split
      | dsimp only
  repeat' first
    | with_reducible assumption
    | with_reducible exact Keep.refl _ _
    | intro _
    | (fail_if_no_progress beta_reduce)
    | (with_reducible apply KeepR.next)
    | (with_reducible apply Keep.ite)
    | (with_reducible apply KeepR.ite)
    | (with_reducible apply Keep.ite_fst)
    | (with_reducible apply Keep.snoc (State.begin_keep _ _))
    | (with_reducible apply Keep.snoc (State.requestSave_keep _ _ _ _))
    | (with_reducible apply Keep.snoc (State.updPrg_keep _ _ ?_))
    | (with_reducible apply Keep.snoc' (Keep.foldl ?_ _ _))
    | (with_reducible apply And.intro)
    | exact rfl
    | (refine Keep.fst (by assumption) ?_)
    | (refine Keep.snd (by assumption) ?_)
    | split
    | dsimp only

theorem execCycleSlip_keep : ∀ a0 s, KeepR 536887312 s (execCycleSlip a0 s) := by
  intro a0 s
  unfold execCycleSlip
  extract_lets v0
  have h0 : Keep 536887312 s v0 := by
    unfold v0
    repeat' first
      | with_reducible assumption
      | with_reducible exact Keep.refl _ _
      | intro _
      | (fail_if_no_progress beta_reduce)
      | (with_reducible apply KeepR.next)
      | (with_reducible apply Keep.ite)
      | (with_reducible apply KeepR.ite)
      | (with_reducible apply Keep.ite_fst)
      | (with_reducible apply Keep.snoc (State.begin_keep _ _))
      | (with_reducible apply Keep.snoc (State.record_keep _ _ _ _))
      | (with_reducible apply Keep.snoc (State.updPrg_keep _ _ ?_))
      | (with_reducible apply Keep.snoc' (Keep.foldl ?_ _ _))
      | (with_reducible apply And.intro)
      | exact rfl
      | (refine Keep.fst (by assumption) ?_)
      | (refine Keep.snd (by assumption) ?_)
      | split
      | dsimp only
  repeat' first
    | with_reducible assumption
    | with_reducible exact Keep.refl _ _
    | intro _
    | (fail_if_no_progress beta_reduce)
    | (with_reducible apply KeepR.next)
    | (with_reducible apply Keep.ite)
    | (with_reducible apply KeepR.ite)
    | (with_reducible apply Keep.ite_fst)
    | (with_reducible apply Keep.snoc (State.begin_keep _ _))
    | (with_reducible apply Keep.snoc (State.record_keep _ _ _ _))
    | (with_reducible apply Keep.snoc (State.updPrg_keep _ _ ?_))
    | (with_reducible apply Keep.snoc' (Keep.foldl ?_ _ _))
    | (with_reducible apply And.intro)
    | exact rfl
    | (refine Keep.fst (by assumption) ?_)
    | (refine Keep.snd (by assumption) ?_)
    | split
    | dsimp only

end Sys2Proof.Machine
end

