-- ==== Sys2Proof/Laws/KeepSaf.lean ====
section
/-! SUPPORT. What each operation and meaning of Machine/Saf.lean leaves alone. -/

namespace Sys2Proof.Machine

set_option linter.unusedTactic false
set_option linter.unreachableTactic false

theorem State.setSf_keep : ∀ a0 a1 s, Keep 541065232 s (State.setSf a0 a1 s) := by
  intro a0 a1 s
  unfold State.setSf
  extract_lets v0 v1 v2
  try clear_value v1
  try clear_value v0
  have h2 : Keep 541065232 s v2 := by
    unfold v2
    repeat' first
      | with_reducible assumption
      | with_reducible exact Keep.refl _ _
      | intro _
      | (fail_if_no_progress beta_reduce)
      | (with_reducible apply KeepR.next)
      | (with_reducible apply Keep.ite)
      | (with_reducible apply KeepR.ite)
      | (with_reducible apply Keep.ite_fst)
      | (with_reducible apply Keep.snoc (State.record_keep _ _ _ _))
      | (with_reducible apply Keep.snoc (State.updFn_keep _ _ _))
      | (with_reducible apply Keep.snoc' (Keep.foldl ?_ _ _))
      | (with_reducible apply And.intro)
      | exact rfl
      | (refine Keep.fst (by assumption) ?_)
      | (refine Keep.snd (by assumption) ?_)
      | split
      | dsimp only
  repeat' first
    | with_reducible assumption
    | with_reducible exact Keep.refl _ _
    | intro _
    | (fail_if_no_progress beta_reduce)
    | (with_reducible apply KeepR.next)
    | (with_reducible apply Keep.ite)
    | (with_reducible apply KeepR.ite)
    | (with_reducible apply Keep.ite_fst)
    | (with_reducible apply Keep.snoc (State.record_keep _ _ _ _))
    | (with_reducible apply Keep.snoc (State.updFn_keep _ _ _))
    | (with_reducible apply Keep.snoc' (Keep.foldl ?_ _ _))
    | (with_reducible apply And.intro)
    | exact rfl
    | (refine Keep.fst (by assumption) ?_)
    | (refine Keep.snd (by assumption) ?_)
    | split
    | dsimp only

theorem State.lockSf_keep : ∀ a0 a1 s, Keep 541065232 s (State.lockSf a0 a1 s) := by
  intro a0 a1 s
  unfold State.lockSf
  extract_lets v0 v1
  try clear_value v1
  try clear_value v0
  repeat' first
    | with_reducible assumption
    | with_reducible exact Keep.refl _ _
    | intro _
    | (fail_if_no_progress beta_reduce)
    | (with_reducible apply KeepR.next)
    | (with_reducible apply Keep.ite)
    | (with_reducible apply KeepR.ite)
    | (with_reducible apply Keep.ite_fst)
    | (with_reducible apply Keep.snoc (State.setSf_keep _ _ _))
    | (with_reducible apply Keep.snoc (State.updFn_keep _ _ _))
    | (with_reducible apply Keep.snoc' (Keep.foldl ?_ _ _))
    | (with_reducible apply And.intro)
    | exact rfl
    | (refine Keep.fst (by assumption) ?_)
    | (refine Keep.snd (by assumption) ?_)
    | split
    | dsimp only

theorem State.unlockSf_keep : ∀ a0 s, Keep 541065232 s (State.unlockSf a0 s) := by
  intro a0 s
  unfold State.unlockSf
  extract_lets v0
  try clear_value v0
  repeat' first
    | with_reducible assumption
    | with_reducible exact Keep.refl _ _
    | intro _
    | (fail_if_no_progress beta_reduce)
    | (with_reducible apply KeepR.next)
    | (with_reducible apply Keep.ite)
    | (with_reducible apply KeepR.ite)
    | (with_reducible apply Keep.ite_fst)
    | (with_reducible apply Keep.snoc (State.setSf_keep _ _ _))
    | (with_reducible apply Keep.snoc' (Keep.foldl ?_ _ _))
    | (with_reducible apply And.intro)
    | exact rfl
    | (refine Keep.fst (by assumption) ?_)
    | (refine Keep.snd (by assumption) ?_)
    | split
    | dsimp only

theorem State.dropCause_keep : ∀ a0 a1 s, Keep 4194304 s (State.dropCause a0 a1 s) := by
  intro a0 a1 s
  unfold State.dropCause
  repeat' first
    | with_reducible assumption
    | with_reducible exact Keep.refl _ _
    | intro _
    | (fail_if_no_progress beta_reduce)
    | (with_reducible apply KeepR.next)
    | (with_reducible apply Keep.ite)
    | (with_reducible apply KeepR.ite)
    | (with_reducible apply Keep.ite_fst)
    | (with_reducible apply Keep.snoc (State.updFn_keep _ _ _))
    | (with_reducible apply Keep.snoc' (Keep.foldl ?_ _ _))
    | (with_reducible apply And.intro)
    | exact rfl
    | (refine Keep.fst (by assumption) ?_)
    | (refine Keep.snd (by assumption) ?_)
    | split
    | dsimp only

theorem State.stepPair_keep : ∀ a0 a1 a2 a3 s, Keep 541065232 s (State.stepPair a0 a1 a2 a3 s) := by
  intro a0 a1 a2 a3 s
  unfold State.stepPair
  extract_lets v0 v1 v2 v3 v4 v5 v6 v7 v8 v9 v10 v11 v12 v13
  try clear_value v10
  try clear_value v9
  try clear_value v8
  try clear_value v7
  try clear_value v6
  try clear_value v5
  try clear_value v4
  try clear_value v3
  try clear_value v2
  try clear_value v1
  try clear_value v0
  have h11 : Keep 541065232 s v11 := by
    unfold v11
    repeat' first
      | with_reducible assumption
      | with_reducible exact Keep.refl _ _
      | intro _
      | (fail_if_no_progress beta_reduce)
      | (with_reducible apply KeepR.next)
      | (with_reducible apply Keep.ite)
      | (with_reducible apply KeepR.ite)
      | (with_reducible apply Keep.ite_fst)
      | (with_reducible apply Keep.snoc (State.lockSf_keep _ _ _))
      | (with_reducible apply Keep.snoc (State.updFn_keep _ _ _))
      | (with_reducible apply Keep.snoc' (Keep.foldl ?_ _ _))
      | (with_reducible apply And.intro)
      | exact rfl
      | (refine Keep.fst (by assumption) ?_)
      | (refine Keep.snd (by assumption) ?_)
      | split
      | dsimp only
  have h12 : Keep 541065232 s v12 := by
    unfold v12
    repeat' first
      | with_reducible assumption
      | with_reducible exact Keep.refl _ _
      | intro _
      | (fail_if_no_progress beta_reduce)
      | (with_reducible apply KeepR.next)
      | (with_reducible apply Keep.ite)
      | (with_reducible apply KeepR.ite)
      | (with_reducible apply Keep.ite_fst)
      | (with_reducible apply Keep.snoc (State.lockSf_keep _ _ _))
      | (with_reducible apply Keep.snoc (State.updFn_keep _ _ _))
      | (with_reducible apply Keep.snoc' (Keep.foldl ?_ _ _))
      | (with_reducible apply And.intro)
      | exact rfl
      | (refine Keep.fst (by assumption) ?_)
      | (refine Keep.snd (by assumption) ?_)
      | split
      | dsimp only
  have h13 : Keep 541065232 s v13 := by
    unfold v13
    repeat' first
      | with_reducible assumption
      | with_reducible exact Keep.refl _ _
      | intro _
      | (fail_if_no_progress beta_reduce)
      | (with_reducible apply KeepR.next)
      | (with_reducible apply Keep.ite)
      | (with_reducible apply KeepR.ite)
      | (with_reducible apply Keep.ite_fst)
      | (with_reducible apply Keep.snoc (State.lockSf_keep _ _ _))
      | (with_reducible apply Keep.snoc (State.updFn_keep _ _ _))
      | (with_reducible apply Keep.snoc' (Keep.foldl ?_ _ _))
      | (with_reducible apply And.intro)
      | exact rfl
      | (refine Keep.fst (by assumption) ?_)
      | (refine Keep.snd (by assumption) ?_)
      | split
      | dsimp only
  repeat' first
    | with_reducible assumption
    | with_reducible exact Keep.refl _ _
    | intro _
    | (fail_if_no_progress beta_reduce)
    | (with_reducible apply KeepR.next)
    | (with_reducible apply Keep.ite)
    | (with_reducible apply KeepR.ite)
    | (with_reducible apply Keep.ite_fst)
    | (with_reducible apply Keep.snoc (State.lockSf_keep _ _ _))
    | (with_reducible apply Keep.snoc (State.updFn_keep _ _ _))
    | (with_reducible apply Keep.snoc' (Keep.foldl ?_ _ _))
    | (with_reducible apply And.intro)
    | exact rfl
    | (refine Keep.fst (by assumption) ?_)
    | (refine Keep.snd (by assumption) ?_)
    | split
    | dsimp only

theorem State.stuckOut_keep : ∀ a0 a1 s, Keep 541065232 s (State.stuckOut a0 a1 s) := by
  intro a0 a1 s
  unfold State.stuckOut
  extract_lets v0 v1
  try clear_value v1
  try clear_value v0
  repeat' first
    | with_reducible assumption
    | with_reducible exact Keep.refl _ _
    | intro _
    | (fail_if_no_progress beta_reduce)
    | (with_reducible apply KeepR.next)
    | (with_reducible apply Keep.ite)
    | (with_reducible apply KeepR.ite)
    | (with_reducible apply Keep.ite_fst)
    | (with_reducible apply Keep.snoc (State.lockSf_keep _ _ _))
    | (with_reducible apply Keep.snoc (State.updSaf_keep _ _))
    | (with_reducible apply Keep.snoc' (Keep.foldl ?_ _ _))
    | (with_reducible apply And.intro)
    | exact rfl
    | (refine Keep.fst (by assumption) ?_)
    | (refine Keep.snd (by assumption) ?_)
    | split
    | dsimp only

theorem State.stoStep_keep : ∀ a0 s, Keep 541065232 s (State.stoStep a0 s) := by
  intro a0 s
  unfold State.stoStep
  extract_lets v0 v1 v2 v3 v4 v5 v6
  try clear_value v5
  try clear_value v4
  try clear_value v3
  try clear_value v2
  try clear_value v1
  try clear_value v0
  have h6 : Keep 541065232 s v6 := by
    unfold v6
    repeat' first
      | with_reducible assumption
      | with_reducible exact Keep.refl _ _
      | intro _
      | (fail_if_no_progress beta_reduce)
      | (with_reducible apply KeepR.next)
      | (with_reducible apply Keep.ite)
      | (with_reducible apply KeepR.ite)
      | (with_reducible apply Keep.ite_fst)
      | (with_reducible apply Keep.snoc (State.lockSf_keep _ _ _))
      | (with_reducible apply Keep.snoc (State.updFn_keep _ _ _))
      | (with_reducible apply Keep.snoc' (Keep.foldl ?_ _ _))
      | (with_reducible apply And.intro)
      | exact rfl
      | (refine Keep.fst (by assumption) ?_)
      | (refine Keep.snd (by assumption) ?_)
      | split
      | dsimp only
  repeat' first
    | with_reducible assumption
    | with_reducible exact Keep.refl _ _
    | intro _
    | (fail_if_no_progress beta_reduce)
    | (with_reducible apply KeepR.next)
    | (with_reducible apply Keep.ite)
    | (with_reducible apply KeepR.ite)
    | (with_reducible apply Keep.ite_fst)
    | (with_reducible apply Keep.snoc (State.lockSf_keep _ _ _))
    | (with_reducible apply Keep.snoc (State.updFn_keep _ _ _))
    | (with_reducible apply Keep.snoc' (Keep.foldl ?_ _ _))
    | (with_reducible apply And.intro)
    | exact rfl
    | (refine Keep.fst (by assumption) ?_)
    | (refine Keep.snd (by assumption) ?_)
    | split
    | dsimp only

theorem State.newCauses_keep : ∀ a0 s, Keep 541065232 s (State.newCauses a0 s) := by
  intro a0 s
  unfold State.newCauses
  extract_lets v0 v1 v2 v3 v4
  have h0 : Keep 541065232 s v0 := by
    unfold v0
    repeat' first
      | with_reducible assumption
      | with_reducible exact Keep.refl _ _
      | intro _
      | (fail_if_no_progress beta_reduce)
      | (with_reducible apply KeepR.next)
      | (with_reducible apply Keep.ite)
      | (with_reducible apply KeepR.ite)
      | (with_reducible apply Keep.ite_fst)
      | (with_reducible apply Keep.snoc (State.lockSf_keep _ _ _))
      | (with_reducible apply Keep.snoc (State.stoStep_keep _ _))
      | (with_reducible apply Keep.snoc (State.stuckOut_keep _ _ _))
      | (with_reducible apply Keep.snoc' (Keep.forAll ?_ _))
      | (with_reducible apply Keep.snoc' (Keep.foldl ?_ _ _))
      | (with_reducible apply And.intro)
      | exact rfl
      | (refine Keep.fst (by assumption) ?_)
      | (refine Keep.snd (by assumption) ?_)
      | split
      | dsimp only
  have h1 : Keep 541065232 s v1 := by
    unfold v1
    repeat' first
      | with_reducible assumption
      | with_reducible exact Keep.refl _ _
      | intro _
      | (fail_if_no_progress beta_reduce)
      | (with_reducible apply KeepR.next)
      | (with_reducible apply Keep.ite)
      | (with_reducible apply KeepR.ite)
      | (with_reducible apply Keep.ite_fst)
      | (with_reducible apply Keep.snoc (State.lockSf_keep _ _ _))
      | (with_reducible apply Keep.snoc (State.stoStep_keep _ _))
      | (with_reducible apply Keep.snoc (State.stuckOut_keep _ _ _))
      | (with_reducible apply Keep.snoc' (Keep.forAll ?_ _))
      | (with_reducible apply Keep.snoc' (Keep.foldl ?_ _ _))
      | (with_reducible apply And.intro)
      | exact rfl
      | (refine Keep.fst (by assumption) ?_)
      | (refine Keep.snd (by assumption) ?_)
      | split
      | dsimp only
  have h2 : Keep 541065232 s v2 := by
    unfold v2
    repeat' first
      | with_reducible assumption
      | with_reducible exact Keep.refl _ _
      | intro _
      | (fail_if_no_progress beta_reduce)
      | (with_reducible apply KeepR.next)
      | (with_reducible apply Keep.ite)
      | (with_reducible apply KeepR.ite)
      | (with_reducible apply Keep.ite_fst)
      | (with_reducible apply Keep.snoc (State.lockSf_keep _ _ _))
      | (with_reducible apply Keep.snoc (State.stoStep_keep _ _))
      | (with_reducible apply Keep.snoc (State.stuckOut_keep _ _ _))
      | (with_reducible apply Keep.snoc' (Keep.forAll ?_ _))
      | (with_reducible apply Keep.snoc' (Keep.foldl ?_ _ _))
      | (with_reducible apply And.intro)
      | exact rfl
      | (refine Keep.fst (by assumption) ?_)
      | (refine Keep.snd (by assumption) ?_)
      | split
      | dsimp only
  have h3 : Keep 541065232 s v3 := by
    unfold v3
    repeat' first
      | with_reducible assumption
      | with_reducible exact Keep.refl _ _
      | intro _
      | (fail_if_no_progress beta_reduce)
      | (with_reducible apply KeepR.next)
      | (with_reducible apply Keep.ite)
      | (with_reducible apply KeepR.ite)
      | (with_reducible apply Keep.ite_fst)
      | (with_reducible apply Keep.snoc (State.lockSf_keep _ _ _))
      | (with_reducible apply Keep.snoc (State.stoStep_keep _ _))
      | (with_reducible apply Keep.snoc (State.stuckOut_keep _ _ _))
      | (with_reducible apply Keep.snoc' (Keep.forAll ?_ _))
      | (with_reducible apply Keep.snoc' (Keep.foldl ?_ _ _))
      | (with_reducible apply And.intro)
      | exact rfl
      | (refine Keep.fst (by assumption) ?_)
      | (refine Keep.snd (by assumption) ?_)
      | split
      | dsimp only
  have h4 : Keep 541065232 s v4 := by
    unfold v4
    repeat' first
      | with_reducible assumption
      | with_reducible exact Keep.refl _ _
      | intro _
      | (fail_if_no_progress beta_reduce)
      | (with_reducible apply KeepR.next)
      | (with_reducible apply Keep.ite)
      | (with_reducible apply KeepR.ite)
      | (with_reducible apply Keep.ite_fst)
      | (with_reducible apply Keep.snoc (State.lockSf_keep _ _ _))
      | (with_reducible apply Keep.snoc (State.stoStep_keep _ _))
      | (with_reducible apply Keep.snoc (State.stuckOut_keep _ _ _))
      | (with_reducible apply Keep.snoc' (Keep.forAll ?_ _))
      | (with_reducible apply Keep.snoc' (Keep.foldl ?_ _ _))
      | (with_reducible apply And.intro)
      | exact rfl
      | (refine Keep.fst (by assumption) ?_)
      | (refine Keep.snd (by assumption) ?_)
      | split
      | dsimp only
  repeat' first
    | with_reducible assumption
    | with_reducible exact Keep.refl _ _
    | intro _
    | (fail_if_no_progress beta_reduce)
    | (with_reducible apply KeepR.next)
    | (with_reducible apply Keep.ite)
    | (with_reducible apply KeepR.ite)
    | (with_reducible apply Keep.ite_fst)
    | (with_reducible apply Keep.snoc (State.lockSf_keep _ _ _))
    | (with_reducible apply Keep.snoc (State.stoStep_keep _ _))
    | (with_reducible apply Keep.snoc (State.stuckOut_keep _ _ _))
    | (with_reducible apply Keep.snoc' (Keep.forAll ?_ _))
    | (with_reducible apply Keep.snoc' (Keep.foldl ?_ _ _))
    | (with_reducible apply And.intro)
    | exact rfl
    | (refine Keep.fst (by assumption) ?_)
    | (refine Keep.snd (by assumption) ?_)
    | split
    | dsimp only

theorem State.moveSf_keep : ∀ a0 s, Keep 541065232 s (State.moveSf a0 s) := by
  intro a0 s
  unfold State.moveSf
  extract_lets v0 v1
  try clear_value v1
  have h0 : Keep 541065232 s v0 := by
    unfold v0
    repeat' first
      | with_reducible assumption
      | with_reducible exact Keep.refl _ _
      | intro _
      | (fail_if_no_progress beta_reduce)
      | (with_reducible apply KeepR.next)
      | (with_reducible apply Keep.ite)
      | (with_reducible apply KeepR.ite)
      | (with_reducible apply Keep.ite_fst)
      | (with_reducible apply Keep.snoc (State.setSf_keep _ _ _))
      | (with_reducible apply Keep.snoc (State.unlockSf_keep _ _))
      | (with_reducible apply Keep.snoc (State.updFn_keep _ _ _))
      | (with_reducible apply Keep.snoc' (Keep.foldl ?_ _ _))
      | (with_reducible apply And.intro)
      | exact rfl
      | (refine Keep.fst (by assumption) ?_)
      | (refine Keep.snd (by assumption) ?_)
      | split
      | dsimp only
  repeat' first
    | with_reducible assumption
    | with_reducible exact Keep.refl _ _
    | intro _
    | (fail_if_no_progress beta_reduce)
    | (with_reducible apply KeepR.next)
    | (with_reducible apply Keep.ite)
    | (with_reducible apply KeepR.ite)
    | (with_reducible apply Keep.ite_fst)
    | (with_reducible apply Keep.snoc (State.setSf_keep _ _ _))
    | (with_reducible apply Keep.snoc (State.unlockSf_keep _ _))
    | (with_reducible apply Keep.snoc (State.updFn_keep _ _ _))
    | (with_reducible apply Keep.snoc' (Keep.foldl ?_ _ _))
    | (with_reducible apply And.intro)
    | exact rfl
    | (refine Keep.fst (by assumption) ?_)
    | (refine Keep.snd (by assumption) ?_)
    | split
    | dsimp only

theorem State.cycleSf_keep : ∀ a0 a1 a2 s, Keep 541065232 s (State.cycleSf a0 a1 a2 s) := by
  intro a0 a1 a2 s
  unfold State.cycleSf
  extract_lets v0 v1 v2 v3
  try clear_value v3
  try clear_value v0
  have h1 : Keep 541065232 s v1 := by
    unfold v1
    repeat' first
      | with_reducible assumption
      | with_reducible exact Keep.refl _ _
      | intro _
      | (fail_if_no_progress beta_reduce)
      | (with_reducible apply KeepR.next)
      | (with_reducible apply Keep.ite)
      | (with_reducible apply KeepR.ite)
      | (with_reducible apply Keep.ite_fst)
      | (with_reducible apply Keep.snoc (State.dropCause_keep _ _ _))
      | (with_reducible apply Keep.snoc (State.moveSf_keep _ _))
      | (with_reducible apply Keep.snoc (State.newCauses_keep _ _))
      | (with_reducible apply Keep.snoc (State.stepPair_keep _ _ _ _ _))
      | (with_reducible apply Keep.snoc' (Keep.forAll ?_ _))
      | (with_reducible apply Keep.snoc' (Keep.foldl ?_ _ _))
      | (with_reducible apply And.intro)
      | exact rfl
      | (refine Keep.fst (by assumption) ?_)
      | (refine Keep.snd (by assumption) ?_)
      | split
      | dsimp only
  have h2 : Keep 541065232 s v2 := by
    unfold v2
    repeat' first
      | with_reducible assumption
      | with_reducible exact Keep.refl _ _
      | intro _
      | (fail_if_no_progress beta_reduce)
      | (with_reducible apply KeepR.next)
      | (with_reducible apply Keep.ite)
      | (with_reducible apply KeepR.ite)
      | (with_reducible apply Keep.ite_fst)
      | (with_reducible apply Keep.snoc (State.dropCause_keep _ _ _))
      | (with_reducible apply Keep.snoc (State.moveSf_keep _ _))
      | (with_reducible apply Keep.snoc (State.newCauses_keep _ _))
      | (with_reducible apply Keep.snoc (State.stepPair_keep _ _ _ _ _))
      | (with_reducible apply Keep.snoc' (Keep.forAll ?_ _))
      | (with_reducible apply Keep.snoc' (Keep.foldl ?_ _ _))
      | (with_reducible apply And.intro)
      | exact rfl
      | (refine Keep.fst (by assumption) ?_)
      | (refine Keep.snd (by assumption) ?_)
      | split
      | dsimp only
  repeat' first
    | with_reducible assumption
    | with_reducible exact Keep.refl _ _
    | intro _
    | (fail_if_no_progress beta_reduce)
    | (with_reducible apply KeepR.next)
    | (with_reducible apply Keep.ite)
    | (with_reducible apply KeepR.ite)
    | (with_reducible apply Keep.ite_fst)
    | (with_reducible apply Keep.snoc (State.dropCause_keep _ _ _))
    | (with_reducible apply Keep.snoc (State.moveSf_keep _ _))
    | (with_reducible apply Keep.snoc (State.newCauses_keep _ _))
    | (with_reducible apply Keep.snoc (State.stepPair_keep _ _ _ _ _))
    | (with_reducible apply Keep.snoc' (Keep.forAll ?_ _))
    | (with_reducible apply Keep.snoc' (Keep.foldl ?_ _ _))
    | (with_reducible apply And.intro)
    | exact rfl
    | (refine Keep.fst (by assumption) ?_)
    | (refine Keep.snd (by assumption) ?_)
    | split
    | dsimp only

theorem State.startReclose_keep : ∀ a0 a1 s, Keep 4194304 s (State.startReclose a0 a1 s) := by
  intro a0 a1 s
  unfold State.startReclose
  extract_lets v0 v1 v2
  try clear_value v2
  try clear_value v1
  try clear_value v0
  repeat' first
    | with_reducible assumption
    | with_reducible exact Keep.refl _ _
    | intro _
    | (fail_if_no_progress beta_reduce)
    | (with_reducible apply KeepR.next)
    | (with_reducible apply Keep.ite)
    | (with_reducible apply KeepR.ite)
    | (with_reducible apply Keep.ite_fst)
    | (with_reducible apply Keep.snoc (State.updSaf_keep _ _))
    | (with_reducible apply Keep.snoc' (Keep.foldl ?_ _ _))
    | (with_reducible apply And.intro)
    | exact rfl
    | (refine Keep.fst (by assumption) ?_)
    | (refine Keep.snd (by assumption) ?_)
    | split
    | dsimp only

theorem State.tryReset_keep : ∀ a0 a1 a2 s, Keep 541065232 s (State.tryReset a0 a1 a2 s) := by
  intro a0 a1 a2 s
  unfold State.tryReset
  extract_lets v0 v1 v2
  try clear_value v2
  try clear_value v1
  have h0 : ∀ q0, Keep 541065232 q0 (v0 q0) := by
    intro q0
    unfold v0
    repeat' first
      | with_reducible assumption
      | with_reducible exact Keep.refl _ _
      | intro _
      | (fail_if_no_progress beta_reduce)
      | (with_reducible apply KeepR.next)
      | (with_reducible apply Keep.ite)
      | (with_reducible apply KeepR.ite)
      | (with_reducible apply Keep.ite_fst)
      | (with_reducible apply Keep.snoc (State.record_keep _ _ _ _))
      | (with_reducible apply Keep.snoc (State.setSf_keep _ _ _))
      | (with_reducible apply Keep.snoc (State.startReclose_keep _ _ _))
      | (with_reducible apply Keep.snoc (State.updFn_keep _ _ _))
      | (with_reducible apply Keep.snoc' (h0 _))
      | (with_reducible apply Keep.snoc' (Keep.foldl ?_ _ _))
      | (with_reducible apply And.intro)
      | exact rfl
      | (refine Keep.fst (by assumption) ?_)
      | (refine Keep.snd (by assumption) ?_)
      | split
      | dsimp only
  repeat' first
    | with_reducible assumption
    | with_reducible exact Keep.refl _ _
    | intro _
    | (fail_if_no_progress beta_reduce)
    | (with_reducible apply KeepR.next)
    | (with_reducible apply Keep.ite)
    | (with_reducible apply KeepR.ite)
    | (with_reducible apply Keep.ite_fst)
    | (with_reducible apply Keep.snoc (State.record_keep _ _ _ _))
    | (with_reducible apply Keep.snoc (State.setSf_keep _ _ _))
    | (with_reducible apply Keep.snoc (State.startReclose_keep _ _ _))
    | (with_reducible apply Keep.snoc (State.updFn_keep _ _ _))
    | (with_reducible apply Keep.snoc' (h0 _))
    | (with_reducible apply Keep.snoc' (Keep.foldl ?_ _ _))
    | (with_reducible apply And.intro)
    | exact rfl
    | (refine Keep.fst (by assumption) ?_)
    | (refine Keep.snd (by assumption) ?_)
    | split
    | dsimp only

theorem State.cycleButton_keep : ∀ a0 a1 a2 s, Keep 541065232 s (State.cycleButton a0 a1 a2 s) := by
  intro a0 a1 a2 s
  unfold State.cycleButton
  extract_lets v0 v1 v2 v3 v4
  try clear_value v4
  try clear_value v2
  try clear_value v1
  try clear_value v0
  have h3 : ∀ q0 q1, Keep 541065232 q1 (v3 q0 q1) := by
    intro q0 q1
    unfold v3
    repeat' first
      | with_reducible assumption
      | with_reducible exact Keep.refl _ _
      | intro _
      | (fail_if_no_progress beta_reduce)
      | (with_reducible apply KeepR.next)
      | (with_reducible apply Keep.ite)
      | (with_reducible apply KeepR.ite)
      | (with_reducible apply Keep.ite_fst)
      | (with_reducible apply Keep.snoc (State.record_keep _ _ _ _))
      | (with_reducible apply Keep.snoc (State.tryReset_keep _ _ _ _))
      | (with_reducible apply Keep.snoc (State.updFn_keep _ _ _))
      | (with_reducible apply Keep.snoc' (h3 _ _))
      | (with_reducible apply Keep.snoc' (Keep.foldl ?_ _ _))
      | (with_reducible apply And.intro)
      | exact rfl
      | (refine Keep.fst (by assumption) ?_)
      | (refine Keep.snd (by assumption) ?_)
      | split
      | dsimp only
  repeat' first
    | with_reducible assumption
    | with_reducible exact Keep.refl _ _
    | intro _
    | (fail_if_no_progress beta_reduce)
    | (with_reducible apply KeepR.next)
    | (with_reducible apply Keep.ite)
    | (with_reducible apply KeepR.ite)
    | (with_reducible apply Keep.ite_fst)
    | (with_reducible apply Keep.snoc (State.record_keep _ _ _ _))
    | (with_reducible apply Keep.snoc (State.tryReset_keep _ _ _ _))
    | (with_reducible apply Keep.snoc (State.updFn_keep _ _ _))
    | (with_reducible apply Keep.snoc' (h3 _ _))
    | (with_reducible apply Keep.snoc' (Keep.foldl ?_ _ _))
    | (with_reducible apply And.intro)
    | exact rfl
    | (refine Keep.fst (by assumption) ?_)
    | (refine Keep.snd (by assumption) ?_)
    | split
    | dsimp only

theorem State.safOutputs_keep : ∀ s, Keep 5242880 s (State.safOutputs s) := by
  intro s
  unfold State.safOutputs
  extract_lets v0 v1
  try clear_value v1
  have h0 : Keep 5242880 s v0 := by
    unfold v0
    repeat' first
      | with_reducible assumption
      | with_reducible exact Keep.refl _ _
      | intro _
      | (fail_if_no_progress beta_reduce)
      | (with_reducible apply KeepR.next)
      | (with_reducible apply Keep.ite)
      | (with_reducible apply KeepR.ite)
      | (with_reducible apply Keep.ite_fst)
      | (with_reducible apply Keep.snoc (State.updAxis_keep _ _ _))
      | (with_reducible apply Keep.snoc (State.updSaf_keep _ _))
      | (with_reducible apply Keep.snoc' (Keep.forAll ?_ _))
      | (with_reducible apply Keep.snoc' (Keep.foldl ?_ _ _))
      | (with_reducible apply And.intro)
      | exact rfl
      | (refine Keep.fst (by assumption) ?_)
      | (refine Keep.snd (by assumption) ?_)
      | split
      | dsimp only
  repeat' first
    | with_reducible assumption
    | with_reducible exact Keep.refl _ _
    | intro _
    | (fail_if_no_progress beta_reduce)
    | (with_reducible apply KeepR.next)
    | (with_reducible apply Keep.ite)
    | (with_reducible apply KeepR.ite)
    | (with_reducible apply Keep.ite_fst)
    | (with_reducible apply Keep.snoc (State.updAxis_keep _ _ _))
    | (with_reducible apply Keep.snoc (State.updSaf_keep _ _))
    | (with_reducible apply Keep.snoc' (Keep.forAll ?_ _))
    | (with_reducible apply Keep.snoc' (Keep.foldl ?_ _ _))
    | (with_reducible apply And.intro)
    | exact rfl
    | (refine Keep.fst (by assumption) ?_)
    | (refine Keep.snd (by assumption) ?_)
    | split
    | dsimp only

theorem State.produce_keep : ∀ a0 a1 a2 s, Keep 4194304 s (State.produce a0 a1 a2 s) := by
  intro a0 a1 a2 s
  unfold State.produce
  extract_lets v0
  try clear_value v0
  repeat' first
    | with_reducible assumption
    | with_reducible exact Keep.refl _ _
    | intro _
    | (fail_if_no_progress beta_reduce)
    | (with_reducible apply KeepR.next)
    | (with_reducible apply Keep.ite)
    | (with_reducible apply KeepR.ite)
    | (with_reducible apply Keep.ite_fst)
    | (with_reducible apply Keep.snoc (State.updConn_keep _ _ _))
    | (with_reducible apply Keep.snoc' (Keep.foldl ?_ _ _))
    | (with_reducible apply And.intro)
    | exact rfl
    | (refine Keep.fst (by assumption) ?_)
    | (refine Keep.snd (by assumption) ?_)
    | split
    | dsimp only

theorem State.produceAll_keep : ∀ a0 a1 s, Keep 4194304 s (State.produceAll a0 a1 s) := by
  intro a0 a1 s
  unfold State.produceAll
  repeat' first
    | with_reducible assumption
    | with_reducible exact Keep.refl _ _
    | intro _
    | (fail_if_no_progress beta_reduce)
    | (with_reducible apply KeepR.next)
    | (with_reducible apply Keep.ite)
    | (with_reducible apply KeepR.ite)
    | (with_reducible apply Keep.ite_fst)
    | (with_reducible apply Keep.snoc (State.produce_keep _ _ _ _))
    | (with_reducible apply Keep.snoc' (Keep.foldl ?_ _ _))
    | (with_reducible apply And.intro)
    | exact rfl
    | (refine Keep.fst (by assumption) ?_)
    | (refine Keep.snd (by assumption) ?_)
    | split
    | dsimp only

theorem State.postStatus_keep : ∀ a0 s, Keep 889208912 s (State.postStatus a0 s) := by
  intro a0 s
  unfold State.postStatus
  repeat' first
    | with_reducible assumption
    | with_reducible exact Keep.refl _ _
    | intro _
    | (fail_if_no_progress beta_reduce)
    | (with_reducible apply KeepR.next)
    | (with_reducible apply Keep.ite)
    | (with_reducible apply KeepR.ite)
    | (with_reducible apply Keep.ite_fst)
    | (with_reducible apply Keep.snoc (State.programPost_keep _ _ _ _))
    | (with_reducible apply Keep.snoc (State.updMb_keep _ _))
    | (with_reducible apply Keep.snoc' (Keep.forAll ?_ _))
    | (with_reducible apply Keep.snoc' (Keep.foldl ?_ _ _))
    | (with_reducible apply And.intro)
    | exact rfl
    | (refine Keep.fst (by assumption) ?_)
    | (refine Keep.snd (by assumption) ?_)
    | split
    | dsimp only

theorem State.islandFault_keep : ∀ a0 s, Keep 9492778064 s (State.islandFault a0 s) := by
  intro a0 s
  unfold State.islandFault
  extract_lets v0 v1 v2 v3 v4 v5 v6 v7 v8 v9 v10
  try clear_value v1
  try clear_value v0
  have h2 : Keep 9492778064 s v2 := by
    unfold v2
    repeat' first
      | with_reducible assumption
      | with_reducible exact Keep.refl _ _
      | intro _
      | (fail_if_no_progress beta_reduce)
      | (with_reducible apply KeepR.next)
      | (with_reducible apply Keep.ite)
      | (with_reducible apply KeepR.ite)
      | (with_reducible apply Keep.ite_fst)
      | (with_reducible apply Keep.snoc (State.postStatus_keep _ _))
      | (with_reducible apply Keep.snoc (State.produceAll_keep _ _ _))
      | (with_reducible apply Keep.snoc (State.record_keep _ _ _ _))
      | (with_reducible apply Keep.snoc (State.safAnswer_keep _ _ _ _))
      | (with_reducible apply Keep.snoc (State.setSf_keep _ _ _))
      | (with_reducible apply Keep.snoc (State.settleHealth_keep _))
      | (with_reducible apply Keep.snoc (State.updAxis_keep _ _ _))
      | (with_reducible apply Keep.snoc (State.updChan_keep _ _ _))
      | (with_reducible apply Keep.snoc (State.updConn_keep _ _ _))
      | (with_reducible apply Keep.snoc (State.updGroup_keep _ _ _))
      | (with_reducible apply Keep.snoc (State.updPair_keep _ _))
      | (with_reducible apply Keep.snoc (State.updSaf_keep _ _))
      | (with_reducible apply Keep.snoc' (Keep.forAll ?_ _))
      | (with_reducible apply Keep.snoc' (Keep.foldl ?_ _ _))
      | (with_reducible apply And.intro)
      | exact rfl
      | (refine Keep.fst (by assumption) ?_)
      | (refine Keep.snd (by assumption) ?_)
      | split
      | dsimp only
  have h3 : Keep 9492778064 s v3 := by
    unfold v3
    repeat' first
      | with_reducible assumption
      | with_reducible exact Keep.refl _ _
      | intro _
      | (fail_if_no_progress beta_reduce)
      | (with_reducible apply KeepR.next)
      | (with_reducible apply Keep.ite)
      | (with_reducible apply KeepR.ite)
      | (with_reducible apply Keep.ite_fst)
      | (with_reducible apply Keep.snoc (State.postStatus_keep _ _))
      | (with_reducible apply Keep.snoc (State.produceAll_keep _ _ _))
      | (with_reducible apply Keep.snoc (State.record_keep _ _ _ _))
      | (with_reducible apply Keep.snoc (State.safAnswer_keep _ _ _ _))
      | (with_reducible apply Keep.snoc (State.setSf_keep _ _ _))
      | (with_reducible apply Keep.snoc (State.settleHealth_keep _))
      | (with_reducible apply Keep.snoc (State.updAxis_keep _ _ _))
      | (with_reducible apply Keep.snoc (State.updChan_keep _ _ _))
      | (with_reducible apply Keep.snoc (State.updConn_keep _ _ _))
      | (with_reducible apply Keep.snoc (State.updGroup_keep _ _ _))
      | (with_reducible apply Keep.snoc (State.updPair_keep _ _))
      | (with_reducible apply Keep.snoc (State.updSaf_keep _ _))
      | (with_reducible apply Keep.snoc' (Keep.forAll ?_ _))
      | (with_reducible apply Keep.snoc' (Keep.foldl ?_ _ _))
      | (with_reducible apply And.intro)
      | exact rfl
      | (refine Keep.fst (by assumption) ?_)
      | (refine Keep.snd (by assumption) ?_)
      | split
      | dsimp only
  have h4 : Keep 9492778064 s v4 := by
    unfold v4
    repeat' first
      | with_reducible assumption
      | with_reducible exact Keep.refl _ _
      | intro _
      | (fail_if_no_progress beta_reduce)
      | (with_reducible apply KeepR.next)
      | (with_reducible apply Keep.ite)
      | (with_reducible apply KeepR.ite)
      | (with_reducible apply Keep.ite_fst)
      | (with_reducible apply Keep.snoc (State.postStatus_keep _ _))
      | (with_reducible apply Keep.snoc (State.produceAll_keep _ _ _))
      | (with_reducible apply Keep.snoc (State.record_keep _ _ _ _))
      | (with_reducible apply Keep.snoc (State.safAnswer_keep _ _ _ _))
      | (with_reducible apply Keep.snoc (State.setSf_keep _ _ _))
      | (with_reducible apply Keep.snoc (State.settleHealth_keep _))
      | (with_reducible apply Keep.snoc (State.updAxis_keep _ _ _))
      | (with_reducible apply Keep.snoc (State.updChan_keep _ _ _))
      | (with_reducible apply Keep.snoc (State.updConn_keep _ _ _))
      | (with_reducible apply Keep.snoc (State.updGroup_keep _ _ _))
      | (with_reducible apply Keep.snoc (State.updPair_keep _ _))
      | (with_reducible apply Keep.snoc (State.updSaf_keep _ _))
      | (with_reducible apply Keep.snoc' (Keep.forAll ?_ _))
      | (with_reducible apply Keep.snoc' (Keep.foldl ?_ _ _))
      | (with_reducible apply And.intro)
      | exact rfl
      | (refine Keep.fst (by assumption) ?_)
      | (refine Keep.snd (by assumption) ?_)
      | split
      | dsimp only
  have h5 : Keep 9492778064 s v5 := by
    unfold v5
    repeat' first
      | with_reducible assumption
      | with_reducible exact Keep.refl _ _
      | intro _
      | (fail_if_no_progress beta_reduce)
      | (with_reducible apply KeepR.next)
      | (with_reducible apply Keep.ite)
      | (with_reducible apply KeepR.ite)
      | (with_reducible apply Keep.ite_fst)
      | (with_reducible apply Keep.snoc (State.postStatus_keep _ _))
      | (with_reducible apply Keep.snoc (State.produceAll_keep _ _ _))
      | (with_reducible apply Keep.snoc (State.record_keep _ _ _ _))
      | (with_reducible apply Keep.snoc (State.safAnswer_keep _ _ _ _))
      | (with_reducible apply Keep.snoc (State.setSf_keep _ _ _))
      | (with_reducible apply Keep.snoc (State.settleHealth_keep _))
      | (with_reducible apply Keep.snoc (State.updAxis_keep _ _ _))
      | (with_reducible apply Keep.snoc (State.updChan_keep _ _ _))
      | (with_reducible apply Keep.snoc (State.updConn_keep _ _ _))
      | (with_reducible apply Keep.snoc (State.updGroup_keep _ _ _))
      | (with_reducible apply Keep.snoc (State.updPair_keep _ _))
      | (with_reducible apply Keep.snoc (State.updSaf_keep _ _))
      | (with_reducible apply Keep.snoc' (Keep.forAll ?_ _))
      | (with_reducible apply Keep.snoc' (Keep.foldl ?_ _ _))
      | (with_reducible apply And.intro)
      | exact rfl
      | (refine Keep.fst (by assumption) ?_)
      | (refine Keep.snd (by assumption) ?_)
      | split
      | dsimp only
  have h6 : Keep 9492778064 s v6 := by
    unfold v6
    repeat' first
      | with_reducible assumption
      | with_reducible exact Keep.refl _ _
      | intro _
      | (fail_if_no_progress beta_reduce)
      | (with_reducible apply KeepR.next)
      | (with_reducible apply Keep.ite)
      | (with_reducible apply KeepR.ite)
      | (with_reducible apply Keep.ite_fst)
      | (with_reducible apply Keep.snoc (State.postStatus_keep _ _))
      | (with_reducible apply Keep.snoc (State.produceAll_keep _ _ _))
      | (with_reducible apply Keep.snoc (State.record_keep _ _ _ _))
      | (with_reducible apply Keep.snoc (State.safAnswer_keep _ _ _ _))
      | (with_reducible apply Keep.snoc (State.setSf_keep _ _ _))
      | (with_reducible apply Keep.snoc (State.settleHealth_keep _))
      | (with_reducible apply Keep.snoc (State.updAxis_keep _ _ _))
      | (with_reducible apply Keep.snoc (State.updChan_keep _ _ _))
      | (with_reducible apply Keep.snoc (State.updConn_keep _ _ _))
      | (with_reducible apply Keep.snoc (State.updGroup_keep _ _ _))
      | (with_reducible apply Keep.snoc (State.updPair_keep _ _))
      | (with_reducible apply Keep.snoc (State.updSaf_keep _ _))
      | (with_reducible apply Keep.snoc' (Keep.forAll ?_ _))
      | (with_reducible apply Keep.snoc' (Keep.foldl ?_ _ _))
      | (with_reducible apply And.intro)
      | exact rfl
      | (refine Keep.fst (by assumption) ?_)
      | (refine Keep.snd (by assumption) ?_)
      | split
      | dsimp only
  have h7 : Keep 9492778064 s v7 := by
    unfold v7
    repeat' first
      | with_reducible assumption
      | with_reducible exact Keep.refl _ _
      | intro _
      | (fail_if_no_progress beta_reduce)
      | (with_reducible apply KeepR.next)
      | (with_reducible apply Keep.ite)
      | (with_reducible apply KeepR.ite)
      | (with_reducible apply Keep.ite_fst)
      | (with_reducible apply Keep.snoc (State.postStatus_keep _ _))
      | (with_reducible apply Keep.snoc (State.produceAll_keep _ _ _))
      | (with_reducible apply Keep.snoc (State.record_keep _ _ _ _))
      | (with_reducible apply Keep.snoc (State.safAnswer_keep _ _ _ _))
      | (with_reducible apply Keep.snoc (State.setSf_keep _ _ _))
      | (with_reducible apply Keep.snoc (State.settleHealth_keep _))
      | (with_reducible apply Keep.snoc (State.updAxis_keep _ _ _))
      | (with_reducible apply Keep.snoc (State.updChan_keep _ _ _))
      | (with_reducible apply Keep.snoc (State.updConn_keep _ _ _))
      | (with_reducible apply Keep.snoc (State.updGroup_keep _ _ _))
      | (with_reducible apply Keep.snoc (State.updPair_keep _ _))
      | (with_reducible apply Keep.snoc (State.updSaf_keep _ _))
      | (with_reducible apply Keep.snoc' (Keep.forAll ?_ _))
      | (with_reducible apply Keep.snoc' (Keep.foldl ?_ _ _))
      | (with_reducible apply And.intro)
      | exact rfl
      | (refine Keep.fst (by assumption) ?_)
      | (refine Keep.snd (by assumption) ?_)
      | split
      | dsimp only
  have h8 : Keep 9492778064 s v8 := by
    unfold v8
    repeat' first
      | with_reducible assumption
      | with_reducible exact Keep.refl _ _
      | intro _
      | (fail_if_no_progress beta_reduce)
      | (with_reducible apply KeepR.next)
      | (with_reducible apply Keep.ite)
      | (with_reducible apply KeepR.ite)
      | (with_reducible apply Keep.ite_fst)
      | (with_reducible apply Keep.snoc (State.postStatus_keep _ _))
      | (with_reducible apply Keep.snoc (State.produceAll_keep _ _ _))
      | (with_reducible apply Keep.snoc (State.record_keep _ _ _ _))
      | (with_reducible apply Keep.snoc (State.safAnswer_keep _ _ _ _))
      | (with_reducible apply Keep.snoc (State.setSf_keep _ _ _))
      | (with_reducible apply Keep.snoc (State.settleHealth_keep _))
      | (with_reducible apply Keep.snoc (State.updAxis_keep _ _ _))
      | (with_reducible apply Keep.snoc (State.updChan_keep _ _ _))
      | (with_reducible apply Keep.snoc (State.updConn_keep _ _ _))
      | (with_reducible apply Keep.snoc (State.updGroup_keep _ _ _))
      | (with_reducible apply Keep.snoc (State.updPair_keep _ _))
      | (with_reducible apply Keep.snoc (State.updSaf_keep _ _))
      | (with_reducible apply Keep.snoc' (Keep.forAll ?_ _))
      | (with_reducible apply Keep.snoc' (Keep.foldl ?_ _ _))
      | (with_reducible apply And.intro)
      | exact rfl
      | (refine Keep.fst (by assumption) ?_)
      | (refine Keep.snd (by assumption) ?_)
      | split
      | dsimp only
  have h9 : Keep 9492778064 s v9 := by
    unfold v9
    repeat' first
      | with_reducible assumption
      | with_reducible exact Keep.refl _ _
      | intro _
      | (fail_if_no_progress beta_reduce)
      | (with_reducible apply KeepR.next)
      | (with_reducible apply Keep.ite)
      | (with_reducible apply KeepR.ite)
      | (with_reducible apply Keep.ite_fst)
      | (with_reducible apply Keep.snoc (State.postStatus_keep _ _))
      | (with_reducible apply Keep.snoc (State.produceAll_keep _ _ _))
      | (with_reducible apply Keep.snoc (State.record_keep _ _ _ _))
      | (with_reducible apply Keep.snoc (State.safAnswer_keep _ _ _ _))
      | (with_reducible apply Keep.snoc (State.setSf_keep _ _ _))
      | (with_reducible apply Keep.snoc (State.settleHealth_keep _))
      | (with_reducible apply Keep.snoc (State.updAxis_keep _ _ _))
      | (with_reducible apply Keep.snoc (State.updChan_keep _ _ _))
      | (with_reducible apply Keep.snoc (State.updConn_keep _ _ _))
      | (with_reducible apply Keep.snoc (State.updGroup_keep _ _ _))
      | (with_reducible apply Keep.snoc (State.updPair_keep _ _))
      | (with_reducible apply Keep.snoc (State.updSaf_keep _ _))
      | (with_reducible apply Keep.snoc' (Keep.forAll ?_ _))
      | (with_reducible apply Keep.snoc' (Keep.foldl ?_ _ _))
      | (with_reducible apply And.intro)
      | exact rfl
      | (refine Keep.fst (by assumption) ?_)
      | (refine Keep.snd (by assumption) ?_)
      | split
      | dsimp only
  have h10 : Keep 9492778064 s v10 := by
    unfold v10
    repeat' first
      | with_reducible assumption
      | with_reducible exact Keep.refl _ _
      | intro _
      | (fail_if_no_progress beta_reduce)
      | (with_reducible apply KeepR.next)
      | (with_reducible apply Keep.ite)
      | (with_reducible apply KeepR.ite)
      | (with_reducible apply Keep.ite_fst)
      | (with_reducible apply Keep.snoc (State.postStatus_keep _ _))
      | (with_reducible apply Keep.snoc (State.produceAll_keep _ _ _))
      | (with_reducible apply Keep.snoc (State.record_keep _ _ _ _))
      | (with_reducible apply Keep.snoc (State.safAnswer_keep _ _ _ _))
      | (with_reducible apply Keep.snoc (State.setSf_keep _ _ _))
      | (with_reducible apply Keep.snoc (State.settleHealth_keep _))
      | (with_reducible apply Keep.snoc (State.updAxis_keep _ _ _))
      | (with_reducible apply Keep.snoc (State.updChan_keep _ _ _))
      | (with_reducible apply Keep.snoc (State.updConn_keep _ _ _))
      | (with_reducible apply Keep.snoc (State.updGroup_keep _ _ _))
      | (with_reducible apply Keep.snoc (State.updPair_keep _ _))
      | (with_reducible apply Keep.snoc (State.updSaf_keep _ _))
      | (with_reducible apply Keep.snoc' (Keep.forAll ?_ _))
      | (with_reducible apply Keep.snoc' (Keep.foldl ?_ _ _))
      | (with_reducible apply And.intro)
      | exact rfl
      | (refine Keep.fst (by assumption) ?_)
      | (refine Keep.snd (by assumption) ?_)
      | split
      | dsimp only
  repeat' first
    | with_reducible assumption
    | with_reducible exact Keep.refl _ _
    | intro _
    | (fail_if_no_progress beta_reduce)
    | (with_reducible apply KeepR.next)
    | (with_reducible apply Keep.ite)
    | (with_reducible apply KeepR.ite)
    | (with_reducible apply Keep.ite_fst)
    | (with_reducible apply Keep.snoc (State.postStatus_keep _ _))
    | (with_reducible apply Keep.snoc (State.produceAll_keep _ _ _))
    | (with_reducible apply Keep.snoc (State.record_keep _ _ _ _))
    | (with_reducible apply Keep.snoc (State.safAnswer_keep _ _ _ _))
    | (with_reducible apply Keep.snoc (State.setSf_keep _ _ _))
    | (with_reducible apply Keep.snoc (State.settleHealth_keep _))
    | (with_reducible apply Keep.snoc (State.updAxis_keep _ _ _))
    | (with_reducible apply Keep.snoc (State.updChan_keep _ _ _))
    | (with_reducible apply Keep.snoc (State.updConn_keep _ _ _))
    | (with_reducible apply Keep.snoc (State.updGroup_keep _ _ _))
    | (with_reducible apply Keep.snoc (State.updPair_keep _ _))
    | (with_reducible apply Keep.snoc (State.updSaf_keep _ _))
    | (with_reducible apply Keep.snoc' (Keep.forAll ?_ _))
    | (with_reducible apply Keep.snoc' (Keep.foldl ?_ _ _))
    | (with_reducible apply And.intro)
    | exact rfl
    | (refine Keep.fst (by assumption) ?_)
    | (refine Keep.snd (by assumption) ?_)
    | split
    | dsimp only

theorem State.safActivate_keep : ∀ a0 a1 s, Keep 541065232 s (State.safActivate a0 a1 s) := by
  intro a0 a1 s
  unfold State.safActivate
  extract_lets v0 v1 v2 v3 v4
  try clear_value v2
  try clear_value v1
  try clear_value v0
  have h3 : Keep 541065232 s v3 := by
    unfold v3
    repeat' first
      | with_reducible assumption
      | with_reducible exact Keep.refl _ _
      | intro _
      | (fail_if_no_progress beta_reduce)
      | (with_reducible apply KeepR.next)
      | (with_reducible apply Keep.ite)
      | (with_reducible apply KeepR.ite)
      | (with_reducible apply Keep.ite_fst)
      | (with_reducible apply Keep.snoc (State.record_keep _ _ _ _))
      | (with_reducible apply Keep.snoc (State.updConn_keep _ _ _))
      | (with_reducible apply Keep.snoc (State.updFn_keep _ _ _))
      | (with_reducible apply Keep.snoc (State.updSaf_keep _ _))
      | (with_reducible apply Keep.snoc' (Keep.forAll ?_ _))
      | (with_reducible apply Keep.snoc' (Keep.foldl ?_ _ _))
      | (with_reducible apply And.intro)
      | exact rfl
      | (refine Keep.fst (by assumption) ?_)
      | (refine Keep.snd (by assumption) ?_)
      | split
      | dsimp only
  have h4 : Keep 541065232 s v4 := by
    unfold v4
    repeat' first
      | with_reducible assumption
      | with_reducible exact Keep.refl _ _
      | intro _
      | (fail_if_no_progress beta_reduce)
      | (with_reducible apply KeepR.next)
      | (with_reducible apply Keep.ite)
      | (with_reducible apply KeepR.ite)
      | (with_reducible apply Keep.ite_fst)
      | (with_reducible apply Keep.snoc (State.record_keep _ _ _ _))
      | (with_reducible apply Keep.snoc (State.updConn_keep _ _ _))
      | (with_reducible apply Keep.snoc (State.updFn_keep _ _ _))
      | (with_reducible apply Keep.snoc (State.updSaf_keep _ _))
      | (with_reducible apply Keep.snoc' (Keep.forAll ?_ _))
      | (with_reducible apply Keep.snoc' (Keep.foldl ?_ _ _))
      | (with_reducible apply And.intro)
      | exact rfl
      | (refine Keep.fst (by assumption) ?_)
      | (refine Keep.snd (by assumption) ?_)
      | split
      | dsimp only
  repeat' first
    | with_reducible assumption
    | with_reducible exact Keep.refl _ _
    | intro _
    | (fail_if_no_progress beta_reduce)
    | (with_reducible apply KeepR.next)
    | (with_reducible apply Keep.ite)
    | (with_reducible apply KeepR.ite)
    | (with_reducible apply Keep.ite_fst)
    | (with_reducible apply Keep.snoc (State.record_keep _ _ _ _))
    | (with_reducible apply Keep.snoc (State.updConn_keep _ _ _))
    | (with_reducible apply Keep.snoc (State.updFn_keep _ _ _))
    | (with_reducible apply Keep.snoc (State.updSaf_keep _ _))
    | (with_reducible apply Keep.snoc' (Keep.forAll ?_ _))
    | (with_reducible apply Keep.snoc' (Keep.foldl ?_ _ _))
    | (with_reducible apply And.intro)
    | exact rfl
    | (refine Keep.fst (by assumption) ?_)
    | (refine Keep.snd (by assumption) ?_)
    | split
    | dsimp only

theorem State.raiseTm_keep : ∀ s, Keep 9198108688 s (State.raiseTm s) := by
  intro s
  unfold State.raiseTm
  repeat' first
    | with_reducible assumption
    | with_reducible exact Keep.refl _ _
    | intro _
    | (fail_if_no_progress beta_reduce)
    | (with_reducible apply KeepR.next)
    | (with_reducible apply Keep.ite)
    | (with_reducible apply KeepR.ite)
    | (with_reducible apply Keep.ite_fst)
    | (with_reducible apply Keep.snoc (State.ledgerWarn_keep _ _ _ _ _))
    | (with_reducible apply Keep.snoc (State.postEvent_keep _ _ _ _))
    | (with_reducible apply Keep.snoc (State.record_keep _ _ _ _))
    | (with_reducible apply Keep.snoc (State.updFn_keep _ _ _))
    | (with_reducible apply Keep.snoc (State.updSaf_keep _ _))
    | (with_reducible apply Keep.snoc' (Keep.forAll ?_ _))
    | (with_reducible apply Keep.snoc' (Keep.foldl ?_ _ _))
    | (with_reducible apply And.intro)
    | exact rfl
    | (refine Keep.fst (by assumption) ?_)
    | (refine Keep.snd (by assumption) ?_)
    | split
    | dsimp only

theorem State.cycleGroup_keep : ∀ a0 s, Keep 4194304 s (State.cycleGroup a0 s) := by
  intro a0 s
  unfold State.cycleGroup
  extract_lets v0 v1 v2 v3 v4 v5
  try clear_value v5
  try clear_value v2
  try clear_value v1
  try clear_value v0
  have h3 : Keep 4194304 s v3 := by
    unfold v3
    repeat' first
      | with_reducible assumption
      | with_reducible exact Keep.refl _ _
      | intro _
      | (fail_if_no_progress beta_reduce)
      | (with_reducible apply KeepR.next)
      | (with_reducible apply Keep.ite)
      | (with_reducible apply KeepR.ite)
      | (with_reducible apply Keep.ite_fst)
      | (with_reducible apply Keep.snoc (State.startReclose_keep _ _ _))
      | (with_reducible apply Keep.snoc (State.updSaf_keep _ _))
      | (with_reducible apply Keep.snoc' (Keep.foldl ?_ _ _))
      | (with_reducible apply And.intro)
      | exact rfl
      | (refine Keep.fst (by assumption) ?_)
      | (refine Keep.snd (by assumption) ?_)
      | split
      | dsimp only
  have h4 : Keep 4194304 s v4 := by
    unfold v4
    repeat' first
      | with_reducible assumption
      | with_reducible exact Keep.refl _ _
      | intro _
      | (fail_if_no_progress beta_reduce)
      | (with_reducible apply KeepR.next)
      | (with_reducible apply Keep.ite)
      | (with_reducible apply KeepR.ite)
      | (with_reducible apply Keep.ite_fst)
      | (with_reducible apply Keep.snoc (State.startReclose_keep _ _ _))
      | (with_reducible apply Keep.snoc (State.updSaf_keep _ _))
      | (with_reducible apply Keep.snoc' (Keep.foldl ?_ _ _))
      | (with_reducible apply And.intro)
      | exact rfl
      | (refine Keep.fst (by assumption) ?_)
      | (refine Keep.snd (by assumption) ?_)
      | split
      | dsimp only
  repeat' first
    | with_reducible assumption
    | with_reducible exact Keep.refl _ _
    | intro _
    | (fail_if_no_progress beta_reduce)
    | (with_reducible apply KeepR.next)
    | (with_reducible apply Keep.ite)
    | (with_reducible apply KeepR.ite)
    | (with_reducible apply Keep.ite_fst)
    | (with_reducible apply Keep.snoc (State.startReclose_keep _ _ _))
    | (with_reducible apply Keep.snoc (State.updSaf_keep _ _))
    | (with_reducible apply Keep.snoc' (Keep.foldl ?_ _ _))
    | (with_reducible apply And.intro)
    | exact rfl
    | (refine Keep.fst (by assumption) ?_)
    | (refine Keep.snd (by assumption) ?_)
    | split
    | dsimp only

theorem State.evaluate_keep : ∀ a0 s, Keep 10566516816 s (State.evaluate a0 s) := by
  intro a0 s
  unfold State.evaluate
  extract_lets v0 v1 v2 v3 v4 v5 v6 v7 v8 v9 v10 v11 v12
  try clear_value v8
  try clear_value v7
  try clear_value v3
  try clear_value v0
  have h1 : Keep 10566516816 s v1 := by
    unfold v1
    repeat' first
      | with_reducible assumption
      | with_reducible exact Keep.refl _ _
      | intro _
      | (fail_if_no_progress beta_reduce)
      | (with_reducible apply KeepR.next)
      | (with_reducible apply Keep.ite)
      | (with_reducible apply KeepR.ite)
      | (with_reducible apply Keep.ite_fst)
      | (with_reducible apply Keep.snoc (State.cycleButton_keep _ _ _ _))
      | (with_reducible apply Keep.snoc (State.cycleGroup_keep _ _))
      | (with_reducible apply Keep.snoc (State.cycleSf_keep _ _ _ _))
      | (with_reducible apply Keep.snoc (State.postStatus_keep _ _))
      | (with_reducible apply Keep.snoc (State.produceAll_keep _ _ _))
      | (with_reducible apply Keep.snoc (State.raiseTm_keep _))
      | (with_reducible apply Keep.snoc (State.safActivate_keep _ _ _))
      | (with_reducible apply Keep.snoc (State.safAnswer_keep _ _ _ _))
      | (with_reducible apply Keep.snoc (State.safOutputs_keep _))
      | (with_reducible apply Keep.snoc (State.storeObject_keep _ _ _ _))
      | (with_reducible apply Keep.snoc (State.updSaf_keep _ _))
      | (with_reducible apply Keep.snoc' (Keep.forAll ?_ _))
      | (with_reducible apply Keep.snoc' (Keep.foldl ?_ _ _))
      | (with_reducible apply And.intro)
      | exact rfl
      | (refine Keep.fst (by assumption) ?_)
      | (refine Keep.snd (by assumption) ?_)
      | split
      | dsimp only
  have h2 : Keep 10566516816 s v2 := by
    unfold v2
    repeat' first
      | with_reducible assumption
      | with_reducible exact Keep.refl _ _
      | intro _
      | (fail_if_no_progress beta_reduce)
      | (with_reducible apply KeepR.next)
      | (with_reducible apply Keep.ite)
      | (with_reducible apply KeepR.ite)
      | (with_reducible apply Keep.ite_fst)
      | (with_reducible apply Keep.snoc (State.cycleButton_keep _ _ _ _))
      | (with_reducible apply Keep.snoc (State.cycleGroup_keep _ _))
      | (with_reducible apply Keep.snoc (State.cycleSf_keep _ _ _ _))
      | (with_reducible apply Keep.snoc (State.postStatus_keep _ _))
      | (with_reducible apply Keep.snoc (State.produceAll_keep _ _ _))
      | (with_reducible apply Keep.snoc (State.raiseTm_keep _))
      | (with_reducible apply Keep.snoc (State.safActivate_keep _ _ _))
      | (with_reducible apply Keep.snoc (State.safAnswer_keep _ _ _ _))
      | (with_reducible apply Keep.snoc (State.safOutputs_keep _))
      | (with_reducible apply Keep.snoc (State.storeObject_keep _ _ _ _))
      | (with_reducible apply Keep.snoc (State.updSaf_keep _ _))
      | (with_reducible apply Keep.snoc' (Keep.forAll ?_ _))
      | (with_reducible apply Keep.snoc' (Keep.foldl ?_ _ _))
      | (with_reducible apply And.intro)
      | exact rfl
      | (refine Keep.fst (by assumption) ?_)
      | (refine Keep.snd (by assumption) ?_)
      | split
      | dsimp only
  have h4 : Keep 10566516816 s v4 := by
    unfold v4
    repeat' first
      | with_reducible assumption
      | with_reducible exact Keep.refl _ _
      | intro _
      | (fail_if_no_progress beta_reduce)
      | (with_reducible apply KeepR.next)
      | (with_reducible apply Keep.ite)
      | (with_reducible apply KeepR.ite)
      | (with_reducible apply Keep.ite_fst)
      | (with_reducible apply Keep.snoc (State.cycleButton_keep _ _ _ _))
      | (with_reducible apply Keep.snoc (State.cycleGroup_keep _ _))
      | (with_reducible apply Keep.snoc (State.cycleSf_keep _ _ _ _))
      | (with_reducible apply Keep.snoc (State.postStatus_keep _ _))
      | (with_reducible apply Keep.snoc (State.produceAll_keep _ _ _))
      | (with_reducible apply Keep.snoc (State.raiseTm_keep _))
      | (with_reducible apply Keep.snoc (State.safActivate_keep _ _ _))
      | (with_reducible apply Keep.snoc (State.safAnswer_keep _ _ _ _))
      | (with_reducible apply Keep.snoc (State.safOutputs_keep _))
      | (with_reducible apply Keep.snoc (State.storeObject_keep _ _ _ _))
      | (with_reducible apply Keep.snoc (State.updSaf_keep _ _))
      | (with_reducible apply Keep.snoc' (Keep.forAll ?_ _))
      | (with_reducible apply Keep.snoc' (Keep.foldl ?_ _ _))
      | (with_reducible apply And.intro)
      | exact rfl
      | (refine Keep.fst (by assumption) ?_)
      | (refine Keep.snd (by assumption) ?_)
      | split
      | dsimp only
  have h5 : Keep 10566516816 s v5 := by
    unfold v5
    repeat' first
      | with_reducible assumption
      | with_reducible exact Keep.refl _ _
      | intro _
      | (fail_if_no_progress beta_reduce)
      | (with_reducible apply KeepR.next)
      | (with_reducible apply Keep.ite)
      | (with_reducible apply KeepR.ite)
      | (with_reducible apply Keep.ite_fst)
      | (with_reducible apply Keep.snoc (State.cycleButton_keep _ _ _ _))
      | (with_reducible apply Keep.snoc (State.cycleGroup_keep _ _))
      | (with_reducible apply Keep.snoc (State.cycleSf_keep _ _ _ _))
      | (with_reducible apply Keep.snoc (State.postStatus_keep _ _))
      | (with_reducible apply Keep.snoc (State.produceAll_keep _ _ _))
      | (with_reducible apply Keep.snoc (State.raiseTm_keep _))
      | (with_reducible apply Keep.snoc (State.safActivate_keep _ _ _))
      | (with_reducible apply Keep.snoc (State.safAnswer_keep _ _ _ _))
      | (with_reducible apply Keep.snoc (State.safOutputs_keep _))
      | (with_reducible apply Keep.snoc (State.storeObject_keep _ _ _ _))
      | (with_reducible apply Keep.snoc (State.updSaf_keep _ _))
      | (with_reducible apply Keep.snoc' (Keep.forAll ?_ _))
      | (with_reducible apply Keep.snoc' (Keep.foldl ?_ _ _))
      | (with_reducible apply And.intro)
      | exact rfl
      | (refine Keep.fst (by assumption) ?_)
      | (refine Keep.snd (by assumption) ?_)
      | split
      | dsimp only
  have h6 : Keep 10566516816 s v6 := by
    unfold v6
    repeat' first
      | with_reducible assumption
      | with_reducible exact Keep.refl _ _
      | intro _
      | (fail_if_no_progress beta_reduce)
      | (with_reducible apply KeepR.next)
      | (with_reducible apply Keep.ite)
      | (with_reducible apply KeepR.ite)
      | (with_reducible apply Keep.ite_fst)
      | (with_reducible apply Keep.snoc (State.cycleButton_keep _ _ _ _))
      | (with_reducible apply Keep.snoc (State.cycleGroup_keep _ _))
      | (with_reducible apply Keep.snoc (State.cycleSf_keep _ _ _ _))
      | (with_reducible apply Keep.snoc (State.postStatus_keep _ _))
      | (with_reducible apply Keep.snoc (State.produceAll_keep _ _ _))
      | (with_reducible apply Keep.snoc (State.raiseTm_keep _))
      | (with_reducible apply Keep.snoc (State.safActivate_keep _ _ _))
      | (with_reducible apply Keep.snoc (State.safAnswer_keep _ _ _ _))
      | (with_reducible apply Keep.snoc (State.safOutputs_keep _))
      | (with_reducible apply Keep.snoc (State.storeObject_keep _ _ _ _))
      | (with_reducible apply Keep.snoc (State.updSaf_keep _ _))
      | (with_reducible apply Keep.snoc' (Keep.forAll ?_ _))
      | (with_reducible apply Keep.snoc' (Keep.foldl ?_ _ _))
      | (with_reducible apply And.intro)
      | exact rfl
      | (refine Keep.fst (by assumption) ?_)
      | (refine Keep.snd (by assumption) ?_)
      | split
      | dsimp only
  have h9 : Keep 10566516816 s v9 := by
    unfold v9
    repeat' first
      | with_reducible assumption
      | with_reducible exact Keep.refl _ _
      | intro _
      | (fail_if_no_progress beta_reduce)
      | (with_reducible apply KeepR.next)
      | (with_reducible apply Keep.ite)
      | (with_reducible apply KeepR.ite)
      | (with_reducible apply Keep.ite_fst)
      | (with_reducible apply Keep.snoc (State.cycleButton_keep _ _ _ _))
      | (with_reducible apply Keep.snoc (State.cycleGroup_keep _ _))
      | (with_reducible apply Keep.snoc (State.cycleSf_keep _ _ _ _))
      | (with_reducible apply Keep.snoc (State.postStatus_keep _ _))
      | (with_reducible apply Keep.snoc (State.produceAll_keep _ _ _))
      | (with_reducible apply Keep.snoc (State.raiseTm_keep _))
      | (with_reducible apply Keep.snoc (State.safActivate_keep _ _ _))
      | (with_reducible apply Keep.snoc (State.safAnswer_keep _ _ _ _))
      | (with_reducible apply Keep.snoc (State.safOutputs_keep _))
      | (with_reducible apply Keep.snoc (State.storeObject_keep _ _ _ _))
      | (with_reducible apply Keep.snoc (State.updSaf_keep _ _))
      | (with_reducible apply Keep.snoc' (Keep.forAll ?_ _))
      | (with_reducible apply Keep.snoc' (Keep.foldl ?_ _ _))
      | (with_reducible apply And.intro)
      | exact rfl
      | (refine Keep.fst (by assumption) ?_)
      | (refine Keep.snd (by assumption) ?_)
      | split
      | dsimp only
  have h10 : Keep 10566516816 s v10 := by
    unfold v10
    repeat' first
      | with_reducible assumption
      | with_reducible exact Keep.refl _ _
      | intro _
      | (fail_if_no_progress beta_reduce)
      | (with_reducible apply KeepR.next)
      | (with_reducible apply Keep.ite)
      | (with_reducible apply KeepR.ite)
      | (with_reducible apply Keep.ite_fst)
      | (with_reducible apply Keep.snoc (State.cycleButton_keep _ _ _ _))
      | (with_reducible apply Keep.snoc (State.cycleGroup_keep _ _))
      | (with_reducible apply Keep.snoc (State.cycleSf_keep _ _ _ _))
      | (with_reducible apply Keep.snoc (State.postStatus_keep _ _))
      | (with_reducible apply Keep.snoc (State.produceAll_keep _ _ _))
      | (with_reducible apply Keep.snoc (State.raiseTm_keep _))
      | (with_reducible apply Keep.snoc (State.safActivate_keep _ _ _))
      | (with_reducible apply Keep.snoc (State.safAnswer_keep _ _ _ _))
      | (with_reducible apply Keep.snoc (State.safOutputs_keep _))
      | (with_reducible apply Keep.snoc (State.storeObject_keep _ _ _ _))
      | (with_reducible apply Keep.snoc (State.updSaf_keep _ _))
      | (with_reducible apply Keep.snoc' (Keep.forAll ?_ _))
      | (with_reducible apply Keep.snoc' (Keep.foldl ?_ _ _))
      | (with_reducible apply And.intro)
      | exact rfl
      | (refine Keep.fst (by assumption) ?_)
      | (refine Keep.snd (by assumption) ?_)
      | split
      | dsimp only
  have h11 : Keep 10566516816 s v11 := by
    unfold v11
    repeat' first
      | with_reducible assumption
      | with_reducible exact Keep.refl _ _
      | intro _
      | (fail_if_no_progress beta_reduce)
      | (with_reducible apply KeepR.next)
      | (with_reducible apply Keep.ite)
      | (with_reducible apply KeepR.ite)
      | (with_reducible apply Keep.ite_fst)
      | (with_reducible apply Keep.snoc (State.cycleButton_keep _ _ _ _))
      | (with_reducible apply Keep.snoc (State.cycleGroup_keep _ _))
      | (with_reducible apply Keep.snoc (State.cycleSf_keep _ _ _ _))
      | (with_reducible apply Keep.snoc (State.postStatus_keep _ _))
      | (with_reducible apply Keep.snoc (State.produceAll_keep _ _ _))
      | (with_reducible apply Keep.snoc (State.raiseTm_keep _))
      | (with_reducible apply Keep.snoc (State.safActivate_keep _ _ _))
      | (with_reducible apply Keep.snoc (State.safAnswer_keep _ _ _ _))
      | (with_reducible apply Keep.snoc (State.safOutputs_keep _))
      | (with_reducible apply Keep.snoc (State.storeObject_keep _ _ _ _))
      | (with_reducible apply Keep.snoc (State.updSaf_keep _ _))
      | (with_reducible apply Keep.snoc' (Keep.forAll ?_ _))
      | (with_reducible apply Keep.snoc' (Keep.foldl ?_ _ _))
      | (with_reducible apply And.intro)
      | exact rfl
      | (refine Keep.fst (by assumption) ?_)
      | (refine Keep.snd (by assumption) ?_)
      | split
      | dsimp only
  have h12 : Keep 10566516816 s v12 := by
    unfold v12
    repeat' first
      | with_reducible assumption
      | with_reducible exact Keep.refl _ _
      | intro _
      | (fail_if_no_progress beta_reduce)
      | (with_reducible apply KeepR.next)
      | (with_reducible apply Keep.ite)
      | (with_reducible apply KeepR.ite)
      | (with_reducible apply Keep.ite_fst)
      | (with_reducible apply Keep.snoc (State.cycleButton_keep _ _ _ _))
      | (with_reducible apply Keep.snoc (State.cycleGroup_keep _ _))
      | (with_reducible apply Keep.snoc (State.cycleSf_keep _ _ _ _))
      | (with_reducible apply Keep.snoc (State.postStatus_keep _ _))
      | (with_reducible apply Keep.snoc (State.produceAll_keep _ _ _))
      | (with_reducible apply Keep.snoc (State.raiseTm_keep _))
      | (with_reducible apply Keep.snoc (State.safActivate_keep _ _ _))
      | (with_reducible apply Keep.snoc (State.safAnswer_keep _ _ _ _))
      | (with_reducible apply Keep.snoc (State.safOutputs_keep _))
      | (with_reducible apply Keep.snoc (State.storeObject_keep _ _ _ _))
      | (with_reducible apply Keep.snoc (State.updSaf_keep _ _))
      | (with_reducible apply Keep.snoc' (Keep.forAll ?_ _))
      | (with_reducible apply Keep.snoc' (Keep.foldl ?_ _ _))
      | (with_reducible apply And.intro)
      | exact rfl
      | (refine Keep.fst (by assumption) ?_)
      | (refine Keep.snd (by assumption) ?_)
      | split
      | dsimp only
  repeat' first
    | with_reducible assumption
    | with_reducible exact Keep.refl _ _
    | intro _
    | (fail_if_no_progress beta_reduce)
    | (with_reducible apply KeepR.next)
    | (with_reducible apply Keep.ite)
    | (with_reducible apply KeepR.ite)
    | (with_reducible apply Keep.ite_fst)
    | (with_reducible apply Keep.snoc (State.cycleButton_keep _ _ _ _))
    | (with_reducible apply Keep.snoc (State.cycleGroup_keep _ _))
    | (with_reducible apply Keep.snoc (State.cycleSf_keep _ _ _ _))
    | (with_reducible apply Keep.snoc (State.postStatus_keep _ _))
    | (with_reducible apply Keep.snoc (State.produceAll_keep _ _ _))
    | (with_reducible apply Keep.snoc (State.raiseTm_keep _))
    | (with_reducible apply Keep.snoc (State.safActivate_keep _ _ _))
    | (with_reducible apply Keep.snoc (State.safAnswer_keep _ _ _ _))
    | (with_reducible apply Keep.snoc (State.safOutputs_keep _))
    | (with_reducible apply Keep.snoc (State.storeObject_keep _ _ _ _))
    | (with_reducible apply Keep.snoc (State.updSaf_keep _ _))
    | (with_reducible apply Keep.snoc' (Keep.forAll ?_ _))
    | (with_reducible apply Keep.snoc' (Keep.foldl ?_ _ _))
    | (with_reducible apply And.intro)
    | exact rfl
    | (refine Keep.fst (by assumption) ?_)
    | (refine Keep.snd (by assumption) ?_)
    | split
    | dsimp only

theorem execSafetyCycle_keep : ∀ a0 a1 a2 a3 a4 a5 s, KeepR 10600074320 s (execSafetyCycle a0 a1 a2 a3 a4 a5 s) := by
  intro a0 a1 a2 a3 a4 a5 s
  unfold execSafetyCycle
  extract_lets v0 v1 v2 v3 v4 v5 v6
  try clear_value v3
  try clear_value v1
  have h0 : Keep 10600074320 s v0 := by
    unfold v0
    repeat' first
      | with_reducible assumption
      | with_reducible exact Keep.refl _ _
      | intro _
      | (fail_if_no_progress beta_reduce)
      | (with_reducible apply KeepR.next)
      | (with_reducible apply Keep.ite)
      | (with_reducible apply KeepR.ite)
      | (with_reducible apply Keep.ite_fst)
      | (with_reducible apply Keep.snoc (State.begin_keep _ _))
      | (with_reducible apply Keep.snoc (State.evaluate_keep _ _))
      | (with_reducible apply Keep.snoc (State.islandFault_keep _ _))
      | (with_reducible apply Keep.snoc (State.postStatus_keep _ _))
      | (with_reducible apply Keep.snoc (State.updSaf_keep _ _))
      | (with_reducible apply Keep.snoc (State.updTime_keep _ _))
      | (with_reducible apply Keep.snoc' (Keep.foldl ?_ _ _))
      | (with_reducible apply And.intro)
      | exact rfl
      | (refine Keep.fst (by assumption) ?_)
      | (refine Keep.snd (by assumption) ?_)
      | split
      | dsimp only
  have h2 : Keep 10600074320 s v2 := by
    unfold v2
    repeat' first
      | with_reducible assumption
      | with_reducible exact Keep.refl _ _
      | intro _
      | (fail_if_no_progress beta_reduce)
      | (with_reducible apply KeepR.next)
      | (with_reducible apply Keep.ite)
      | (with_reducible apply KeepR.ite)
      | (with_reducible apply Keep.ite_fst)
      | (with_reducible apply Keep.snoc (State.begin_keep _ _))
      | (with_reducible apply Keep.snoc (State.evaluate_keep _ _))
      | (with_reducible apply Keep.snoc (State.islandFault_keep _ _))
      | (with_reducible apply Keep.snoc (State.postStatus_keep _ _))
      | (with_reducible apply Keep.snoc (State.updSaf_keep _ _))
      | (with_reducible apply Keep.snoc (State.updTime_keep _ _))
      | (with_reducible apply Keep.snoc' (Keep.foldl ?_ _ _))
      | (with_reducible apply And.intro)
      | exact rfl
      | (refine Keep.fst (by assumption) ?_)
      | (refine Keep.snd (by assumption) ?_)
      | split
      | dsimp only
  have h4 : Keep 10600074320 s v4 := by
    unfold v4
    repeat' first
      | with_reducible assumption
      | with_reducible exact Keep.refl _ _
      | intro _
      | (fail_if_no_progress beta_reduce)
      | (with_reducible apply KeepR.next)
      | (with_reducible apply Keep.ite)
      | (with_reducible apply KeepR.ite)
      | (with_reducible apply Keep.ite_fst)
      | (with_reducible apply Keep.snoc (State.begin_keep _ _))
      | (with_reducible apply Keep.snoc (State.evaluate_keep _ _))
      | (with_reducible apply Keep.snoc (State.islandFault_keep _ _))
      | (with_reducible apply Keep.snoc (State.postStatus_keep _ _))
      | (with_reducible apply Keep.snoc (State.updSaf_keep _ _))
      | (with_reducible apply Keep.snoc (State.updTime_keep _ _))
      | (with_reducible apply Keep.snoc' (Keep.foldl ?_ _ _))
      | (with_reducible apply And.intro)
      | exact rfl
      | (refine Keep.fst (by assumption) ?_)
      | (refine Keep.snd (by assumption) ?_)
      | split
      | dsimp only
  have h5 : Keep 10600074320 s v5 := by
    unfold v5
    repeat' first
      | with_reducible assumption
      | with_reducible exact Keep.refl _ _
      | intro _
      | (fail_if_no_progress beta_reduce)
      | (with_reducible apply KeepR.next)
      | (with_reducible apply Keep.ite)
      | (with_reducible apply KeepR.ite)
      | (with_reducible apply Keep.ite_fst)
      | (with_reducible apply Keep.snoc (State.begin_keep _ _))
      | (with_reducible apply Keep.snoc (State.evaluate_keep _ _))
      | (with_reducible apply Keep.snoc (State.islandFault_keep _ _))
      | (with_reducible apply Keep.snoc (State.postStatus_keep _ _))
      | (with_reducible apply Keep.snoc (State.updSaf_keep _ _))
      | (with_reducible apply Keep.snoc (State.updTime_keep _ _))
      | (with_reducible apply Keep.snoc' (Keep.foldl ?_ _ _))
      | (with_reducible apply And.intro)
      | exact rfl
      | (refine Keep.fst (by assumption) ?_)
      | (refine Keep.snd (by assumption) ?_)
      | split
      | dsimp only
  have h6 : Keep 10600074320 s v6 := by
    unfold v6
    repeat' first
      | with_reducible assumption
      | with_reducible exact Keep.refl _ _
      | intro _
      | (fail_if_no_progress beta_reduce)
      | (with_reducible apply KeepR.next)
      | (with_reducible apply Keep.ite)
      | (with_reducible apply KeepR.ite)
      | (with_reducible apply Keep.ite_fst)
      | (with_reducible apply Keep.snoc (State.begin_keep _ _))
      | (with_reducible apply Keep.snoc (State.evaluate_keep _ _))
      | (with_reducible apply Keep.snoc (State.islandFault_keep _ _))
      | (with_reducible apply Keep.snoc (State.postStatus_keep _ _))
      | (with_reducible apply Keep.snoc (State.updSaf_keep _ _))
      | (with_reducible apply Keep.snoc (State.updTime_keep _ _))
      | (with_reducible apply Keep.snoc' (Keep.foldl ?_ _ _))
      | (with_reducible apply And.intro)
      | exact rfl
      | (refine Keep.fst (by assumption) ?_)
      | (refine Keep.snd (by assumption) ?_)
      | split
      | dsimp only
  repeat' first
    | with_reducible assumption
    | with_reducible exact Keep.refl _ _
    | intro _
    | (fail_if_no_progress beta_reduce)
    | (with_reducible apply KeepR.next)
    | (with_reducible apply Keep.ite)
    | (with_reducible apply KeepR.ite)
    | (with_reducible apply Keep.ite_fst)
    | (with_reducible apply Keep.snoc (State.begin_keep _ _))
    | (with_reducible apply Keep.snoc (State.evaluate_keep _ _))
    | (with_reducible apply Keep.snoc (State.islandFault_keep _ _))
    | (with_reducible apply Keep.snoc (State.postStatus_keep _ _))
    | (with_reducible apply Keep.snoc (State.updSaf_keep _ _))
    | (with_reducible apply Keep.snoc (State.updTime_keep _ _))
    | (with_reducible apply Keep.snoc' (Keep.foldl ?_ _ _))
    | (with_reducible apply And.intro)
    | exact rfl
    | (refine Keep.fst (by assumption) ?_)
    | (refine Keep.snd (by assumption) ?_)
    | split
    | dsimp only

theorem State.afterLock_keep : ∀ a0 s, Keep 894451792 s (State.afterLock a0 s) := by
  intro a0 s
  unfold State.afterLock
  extract_lets v0
  have h0 : Keep 894451792 s v0 := by
    unfold v0
    repeat' first
      | with_reducible assumption
      | with_reducible exact Keep.refl _ _
      | intro _
      | (fail_if_no_progress beta_reduce)
      | (with_reducible apply KeepR.next)
      | (with_reducible apply Keep.ite)
      | (with_reducible apply KeepR.ite)
      | (with_reducible apply Keep.ite_fst)
      | (with_reducible apply Keep.snoc (State.postStatus_keep _ _))
      | (with_reducible apply Keep.snoc (State.safOutputs_keep _))
      | (with_reducible apply Keep.snoc' (Keep.foldl ?_ _ _))
      | (with_reducible apply And.intro)
      | exact rfl
      | (refine Keep.fst (by assumption) ?_)
      | (refine Keep.snd (by assumption) ?_)
      | split
      | dsimp only
  repeat' first
    | with_reducible assumption
    | with_reducible exact Keep.refl _ _
    | intro _
    | (fail_if_no_progress beta_reduce)
    | (with_reducible apply KeepR.next)
    | (with_reducible apply Keep.ite)
    | (with_reducible apply KeepR.ite)
    | (with_reducible apply Keep.ite_fst)
    | (with_reducible apply Keep.snoc (State.postStatus_keep _ _))
    | (with_reducible apply Keep.snoc (State.safOutputs_keep _))
    | (with_reducible apply Keep.snoc' (Keep.foldl ?_ _ _))
    | (with_reducible apply And.intro)
    | exact rfl
    | (refine Keep.fst (by assumption) ?_)
    | (refine Keep.snd (by assumption) ?_)
    | split
    | dsimp only

theorem execDiscrepancy_keep : ∀ a0 a1 a2 a3 s, KeepR 894451920 s (execDiscrepancy a0 a1 a2 a3 s) := by
  intro a0 a1 a2 a3 s
  unfold execDiscrepancy
  extract_lets v0 v1 v2
  try clear_value v2
  try clear_value v1
  have h0 : Keep 894451920 s v0 := by
    unfold v0
    repeat' first
      | with_reducible assumption
      | with_reducible exact Keep.refl _ _
      | intro _
      | (fail_if_no_progress beta_reduce)
      | (with_reducible apply KeepR.next)
      | (with_reducible apply Keep.ite)
      | (with_reducible apply KeepR.ite)
      | (with_reducible apply Keep.ite_fst)
      | (with_reducible apply Keep.snoc (State.afterLock_keep _ _))
      | (with_reducible apply Keep.snoc (State.begin_keep _ _))
      | (with_reducible apply State.deferOr_keep)
      | (with_reducible apply Keep.snoc (State.lockSf_keep _ _ _))
      | (with_reducible apply Keep.snoc' (Keep.foldl ?_ _ _))
      | (with_reducible apply And.intro)
      | exact rfl
      | (refine Keep.fst (by assumption) ?_)
      | (refine Keep.snd (by assumption) ?_)
      | split
      | dsimp only
  repeat' first
    | with_reducible assumption
    | with_reducible exact Keep.refl _ _
    | intro _
    | (fail_if_no_progress beta_reduce)
    | (with_reducible apply KeepR.next)
    | (with_reducible apply Keep.ite)
    | (with_reducible apply KeepR.ite)
    | (with_reducible apply Keep.ite_fst)
    | (with_reducible apply Keep.snoc (State.afterLock_keep _ _))
    | (with_reducible apply Keep.snoc (State.begin_keep _ _))
    | (with_reducible apply State.deferOr_keep)
    | (with_reducible apply Keep.snoc (State.lockSf_keep _ _ _))
    | (with_reducible apply Keep.snoc' (Keep.foldl ?_ _ _))
    | (with_reducible apply And.intro)
    | exact rfl
    | (refine Keep.fst (by assumption) ?_)
    | (refine Keep.snd (by assumption) ?_)
    | split
    | dsimp only

theorem execResetHeld_keep : ∀ a0 a1 s, KeepR 541065232 s (execResetHeld a0 a1 s) := by
  intro a0 a1 s
  unfold execResetHeld
  extract_lets v0 v1
  try clear_value v1
  have h0 : Keep 541065232 s v0 := by
    unfold v0
    repeat' first
      | with_reducible assumption
      | with_reducible exact Keep.refl _ _
      | intro _
      | (fail_if_no_progress beta_reduce)
      | (with_reducible apply KeepR.next)
      | (with_reducible apply Keep.ite)
      | (with_reducible apply KeepR.ite)
      | (with_reducible apply Keep.ite_fst)
      | (with_reducible apply Keep.snoc (State.begin_keep _ _))
      | (with_reducible apply Keep.snoc (State.record_keep _ _ _ _))
      | (with_reducible apply Keep.snoc (State.updFn_keep _ _ _))
      | (with_reducible apply Keep.snoc' (Keep.foldl ?_ _ _))
      | (with_reducible apply And.intro)
      | exact rfl
      | (refine Keep.fst (by assumption) ?_)
      | (refine Keep.snd (by assumption) ?_)
      | split
      | dsimp only
  repeat' first
    | with_reducible assumption
    | with_reducible exact Keep.refl _ _
    | intro _
    | (fail_if_no_progress beta_reduce)
    | (with_reducible apply KeepR.next)
    | (with_reducible apply Keep.ite)
    | (with_reducible apply KeepR.ite)
    | (with_reducible apply Keep.ite_fst)
    | (with_reducible apply Keep.snoc (State.begin_keep _ _))
    | (with_reducible apply Keep.snoc (State.record_keep _ _ _ _))
    | (with_reducible apply Keep.snoc (State.updFn_keep _ _ _))
    | (with_reducible apply Keep.snoc' (Keep.foldl ?_ _ _))
    | (with_reducible apply And.intro)
    | exact rfl
    | (refine Keep.fst (by assumption) ?_)
    | (refine Keep.snd (by assumption) ?_)
    | split
    | dsimp only

theorem execStoFeedback_keep : ∀ a0 a1 s, KeepR 894451792 s (execStoFeedback a0 a1 s) := by
  intro a0 a1 s
  unfold execStoFeedback
  extract_lets v0 v1 v2
  try clear_value v2
  try clear_value v1
  have h0 : Keep 894451792 s v0 := by
    unfold v0
    repeat' first
      | with_reducible assumption
      | with_reducible exact Keep.refl _ _
      | intro _
      | (fail_if_no_progress beta_reduce)
      | (with_reducible apply KeepR.next)
      | (with_reducible apply Keep.ite)
      | (with_reducible apply KeepR.ite)
      | (with_reducible apply Keep.ite_fst)
      | (with_reducible apply Keep.snoc (State.afterLock_keep _ _))
      | (with_reducible apply Keep.snoc (State.begin_keep _ _))
      | (with_reducible apply Keep.snoc (State.lockSf_keep _ _ _))
      | (with_reducible apply Keep.snoc' (Keep.foldl ?_ _ _))
      | (with_reducible apply And.intro)
      | exact rfl
      | (refine Keep.fst (by assumption) ?_)
      | (refine Keep.snd (by assumption) ?_)
      | split
      | dsimp only
  repeat' first
    | with_reducible assumption
    | with_reducible exact Keep.refl _ _
    | intro _
    | (fail_if_no_progress beta_reduce)
    | (with_reducible apply KeepR.next)
    | (with_reducible apply Keep.ite)
    | (with_reducible apply KeepR.ite)
    | (with_reducible apply Keep.ite_fst)
    | (with_reducible apply Keep.snoc (State.afterLock_keep _ _))
    | (with_reducible apply Keep.snoc (State.begin_keep _ _))
    | (with_reducible apply Keep.snoc (State.lockSf_keep _ _ _))
    | (with_reducible apply Keep.snoc' (Keep.foldl ?_ _ _))
    | (with_reducible apply And.intro)
    | exact rfl
    | (refine Keep.fst (by assumption) ?_)
    | (refine Keep.snd (by assumption) ?_)
    | split
    | dsimp only

theorem execInputFaultSettled_keep : ∀ a0 a1 s, KeepR 893403216 s (execInputFaultSettled a0 a1 s) := by
  intro a0 a1 s
  unfold execInputFaultSettled
  extract_lets v0 v1 v2 v3
  try clear_value v2
  try clear_value v1
  have h0 : Keep 893403216 s v0 := by
    unfold v0
    repeat' first
      | with_reducible assumption
      | with_reducible exact Keep.refl _ _
      | intro _
      | (fail_if_no_progress beta_reduce)
      | (with_reducible apply KeepR.next)
      | (with_reducible apply Keep.ite)
      | (with_reducible apply KeepR.ite)
      | (with_reducible apply Keep.ite_fst)
      | (with_reducible apply Keep.snoc (State.begin_keep _ _))
      | (with_reducible apply Keep.snoc (State.dropCause_keep _ _ _))
      | (with_reducible apply Keep.snoc (State.postStatus_keep _ _))
      | (with_reducible apply Keep.snoc (State.unlockSf_keep _ _))
      | (with_reducible apply Keep.snoc' (Keep.forAll ?_ _))
      | (with_reducible apply Keep.snoc' (Keep.foldl ?_ _ _))
      | (with_reducible apply And.intro)
      | exact rfl
      | (refine Keep.fst (by assumption) ?_)
      | (refine Keep.snd (by assumption) ?_)
      | split
      | dsimp only
  have h3 : Keep 893403216 s v3 := by
    unfold v3
    repeat' first
      | with_reducible assumption
      | with_reducible exact Keep.refl _ _
      | intro _
      | (fail_if_no_progress beta_reduce)
      | (with_reducible apply KeepR.next)
      | (with_reducible apply Keep.ite)
      | (with_reducible apply KeepR.ite)
      | (with_reducible apply Keep.ite_fst)
      | (with_reducible apply Keep.snoc (State.begin_keep _ _))
      | (with_reducible apply Keep.snoc (State.dropCause_keep _ _ _))
      | (with_reducible apply Keep.snoc (State.postStatus_keep _ _))
      | (with_reducible apply Keep.snoc (State.unlockSf_keep _ _))
      | (with_reducible apply Keep.snoc' (Keep.forAll ?_ _))
      | (with_reducible apply Keep.snoc' (Keep.foldl ?_ _ _))
      | (with_reducible apply And.intro)
      | exact rfl
      | (refine Keep.fst (by assumption) ?_)
      | (refine Keep.snd (by assumption) ?_)
      | split
      | dsimp only
  repeat' first
    | with_reducible assumption
    | with_reducible exact Keep.refl _ _
    | intro _
    | (fail_if_no_progress beta_reduce)
    | (with_reducible apply KeepR.next)
    | (with_reducible apply Keep.ite)
    | (with_reducible apply KeepR.ite)
    | (with_reducible apply Keep.ite_fst)
    | (with_reducible apply Keep.snoc (State.begin_keep _ _))
    | (with_reducible apply Keep.snoc (State.dropCause_keep _ _ _))
    | (with_reducible apply Keep.snoc (State.postStatus_keep _ _))
    | (with_reducible apply Keep.snoc (State.unlockSf_keep _ _))
    | (with_reducible apply Keep.snoc' (Keep.forAll ?_ _))
    | (with_reducible apply Keep.snoc' (Keep.foldl ?_ _ _))
    | (with_reducible apply And.intro)
    | exact rfl
    | (refine Keep.fst (by assumption) ?_)
    | (refine Keep.snd (by assumption) ?_)
    | split
    | dsimp only

theorem execSupplySettled_keep : ∀ a0 a1 s, KeepR 894451792 s (execSupplySettled a0 a1 s) := by
  intro a0 a1 s
  unfold execSupplySettled
  extract_lets v0 v1 v2 v3
  try clear_value v1
  have h0 : Keep 894451792 s v0 := by
    unfold v0
    repeat' first
      | with_reducible assumption
      | with_reducible exact Keep.refl _ _
      | intro _
      | (fail_if_no_progress beta_reduce)
      | (with_reducible apply KeepR.next)
      | (with_reducible apply Keep.ite)
      | (with_reducible apply KeepR.ite)
      | (with_reducible apply Keep.ite_fst)
      | (with_reducible apply Keep.snoc (State.afterLock_keep _ _))
      | (with_reducible apply Keep.snoc (State.begin_keep _ _))
      | (with_reducible apply Keep.snoc (State.dropCause_keep _ _ _))
      | (with_reducible apply Keep.snoc (State.unlockSf_keep _ _))
      | (with_reducible apply Keep.snoc (State.updSaf_keep _ _))
      | (with_reducible apply Keep.snoc' (Keep.forAll ?_ _))
      | (with_reducible apply Keep.snoc' (Keep.foldl ?_ _ _))
      | (with_reducible apply And.intro)
      | exact rfl
      | (refine Keep.fst (by assumption) ?_)
      | (refine Keep.snd (by assumption) ?_)
      | split
      | dsimp only
  have h2 : Keep 894451792 s v2 := by
    unfold v2
    repeat' first
      | with_reducible assumption
      | with_reducible exact Keep.refl _ _
      | intro _
      | (fail_if_no_progress beta_reduce)
      | (with_reducible apply KeepR.next)
      | (with_reducible apply Keep.ite)
      | (with_reducible apply KeepR.ite)
      | (with_reducible apply Keep.ite_fst)
      | (with_reducible apply Keep.snoc (State.afterLock_keep _ _))
      | (with_reducible apply Keep.snoc (State.begin_keep _ _))
      | (with_reducible apply Keep.snoc (State.dropCause_keep _ _ _))
      | (with_reducible apply Keep.snoc (State.unlockSf_keep _ _))
      | (with_reducible apply Keep.snoc (State.updSaf_keep _ _))
      | (with_reducible apply Keep.snoc' (Keep.forAll ?_ _))
      | (with_reducible apply Keep.snoc' (Keep.foldl ?_ _ _))
      | (with_reducible apply And.intro)
      | exact rfl
      | (refine Keep.fst (by assumption) ?_)
      | (refine Keep.snd (by assumption) ?_)
      | split
      | dsimp only
  have h3 : Keep 894451792 s v3 := by
    unfold v3
    repeat' first
      | with_reducible assumption
      | with_reducible exact Keep.refl _ _
      | intro _
      | (fail_if_no_progress beta_reduce)
      | (with_reducible apply KeepR.next)
      | (with_reducible apply Keep.ite)
      | (with_reducible apply KeepR.ite)
      | (with_reducible apply Keep.ite_fst)
      | (with_reducible apply Keep.snoc (State.afterLock_keep _ _))
      | (with_reducible apply Keep.snoc (State.begin_keep _ _))
      | (with_reducible apply Keep.snoc (State.dropCause_keep _ _ _))
      | (with_reducible apply Keep.snoc (State.unlockSf_keep _ _))
      | (with_reducible apply Keep.snoc (State.updSaf_keep _ _))
      | (with_reducible apply Keep.snoc' (Keep.forAll ?_ _))
      | (with_reducible apply Keep.snoc' (Keep.foldl ?_ _ _))
      | (with_reducible apply And.intro)
      | exact rfl
      | (refine Keep.fst (by assumption) ?_)
      | (refine Keep.snd (by assumption) ?_)
      | split
      | dsimp only
  repeat' first
    | with_reducible assumption
    | with_reducible exact Keep.refl _ _
    | intro _
    | (fail_if_no_progress beta_reduce)
    | (with_reducible apply KeepR.next)
    | (with_reducible apply Keep.ite)
    | (with_reducible apply KeepR.ite)
    | (with_reducible apply Keep.ite_fst)
    | (with_reducible apply Keep.snoc (State.afterLock_keep _ _))
    | (with_reducible apply Keep.snoc (State.begin_keep _ _))
    | (with_reducible apply Keep.snoc (State.dropCause_keep _ _ _))
    | (with_reducible apply Keep.snoc (State.unlockSf_keep _ _))
    | (with_reducible apply Keep.snoc (State.updSaf_keep _ _))
    | (with_reducible apply Keep.snoc' (Keep.forAll ?_ _))
    | (with_reducible apply Keep.snoc' (Keep.foldl ?_ _ _))
    | (with_reducible apply And.intro)
    | exact rfl
    | (refine Keep.fst (by assumption) ?_)
    | (refine Keep.snd (by assumption) ?_)
    | split
    | dsimp only

theorem State.endReclose_keep : ∀ a0 s, Keep 541065232 s (State.endReclose a0 s) := by
  intro a0 s
  unfold State.endReclose
  extract_lets v0 v1 v2 v3 v4 v5 v6
  try clear_value v5
  try clear_value v4
  try clear_value v1
  try clear_value v0
  have h2 : Keep 541065232 s v2 := by
    unfold v2
    repeat' first
      | with_reducible assumption
      | with_reducible exact Keep.refl _ _
      | intro _
      | (fail_if_no_progress beta_reduce)
      | (with_reducible apply KeepR.next)
      | (with_reducible apply Keep.ite)
      | (with_reducible apply KeepR.ite)
      | (with_reducible apply Keep.ite_fst)
      | (with_reducible apply Keep.snoc (State.dropCause_keep _ _ _))
      | (with_reducible apply Keep.snoc (State.setSf_keep _ _ _))
      | (with_reducible apply Keep.snoc (State.unlockSf_keep _ _))
      | (with_reducible apply Keep.snoc (State.updFn_keep _ _ _))
      | (with_reducible apply Keep.snoc (State.updSaf_keep _ _))
      | (with_reducible apply Keep.snoc' (Keep.forAll ?_ _))
      | (with_reducible apply Keep.snoc' (Keep.foldl ?_ _ _))
      | (with_reducible apply And.intro)
      | exact rfl
      | (refine Keep.fst (by assumption) ?_)
      | (refine Keep.snd (by assumption) ?_)
      | split
      | dsimp only
  have h3 : Keep 541065232 s v3 := by
    unfold v3
    repeat' first
      | with_reducible assumption
      | with_reducible exact Keep.refl _ _
      | intro _
      | (fail_if_no_progress beta_reduce)
      | (with_reducible apply KeepR.next)
      | (with_reducible apply Keep.ite)
      | (with_reducible apply KeepR.ite)
      | (with_reducible apply Keep.ite_fst)
      | (with_reducible apply Keep.snoc (State.dropCause_keep _ _ _))
      | (with_reducible apply Keep.snoc (State.setSf_keep _ _ _))
      | (with_reducible apply Keep.snoc (State.unlockSf_keep _ _))
      | (with_reducible apply Keep.snoc (State.updFn_keep _ _ _))
      | (with_reducible apply Keep.snoc (State.updSaf_keep _ _))
      | (with_reducible apply Keep.snoc' (Keep.forAll ?_ _))
      | (with_reducible apply Keep.snoc' (Keep.foldl ?_ _ _))
      | (with_reducible apply And.intro)
      | exact rfl
      | (refine Keep.fst (by assumption) ?_)
      | (refine Keep.snd (by assumption) ?_)
      | split
      | dsimp only
  have h6 : Keep 541065232 s v6 := by
    unfold v6
    repeat' first
      | with_reducible assumption
      | with_reducible exact Keep.refl _ _
      | intro _
      | (fail_if_no_progress beta_reduce)
      | (with_reducible apply KeepR.next)
      | (with_reducible apply Keep.ite)
      | (with_reducible apply KeepR.ite)
      | (with_reducible apply Keep.ite_fst)
      | (with_reducible apply Keep.snoc (State.dropCause_keep _ _ _))
      | (with_reducible apply Keep.snoc (State.setSf_keep _ _ _))
      | (with_reducible apply Keep.snoc (State.unlockSf_keep _ _))
      | (with_reducible apply Keep.snoc (State.updFn_keep _ _ _))
      | (with_reducible apply Keep.snoc (State.updSaf_keep _ _))
      | (with_reducible apply Keep.snoc' (Keep.forAll ?_ _))
      | (with_reducible apply Keep.snoc' (Keep.foldl ?_ _ _))
      | (with_reducible apply And.intro)
      | exact rfl
      | (refine Keep.fst (by assumption) ?_)
      | (refine Keep.snd (by assumption) ?_)
      | split
      | dsimp only
  repeat' first
    | with_reducible assumption
    | with_reducible exact Keep.refl _ _
    | intro _
    | (fail_if_no_progress beta_reduce)
    | (with_reducible apply KeepR.next)
    | (with_reducible apply Keep.ite)
    | (with_reducible apply KeepR.ite)
    | (with_reducible apply Keep.ite_fst)
    | (with_reducible apply Keep.snoc (State.dropCause_keep _ _ _))
    | (with_reducible apply Keep.snoc (State.setSf_keep _ _ _))
    | (with_reducible apply Keep.snoc (State.unlockSf_keep _ _))
    | (with_reducible apply Keep.snoc (State.updFn_keep _ _ _))
    | (with_reducible apply Keep.snoc (State.updSaf_keep _ _))
    | (with_reducible apply Keep.snoc' (Keep.forAll ?_ _))
    | (with_reducible apply Keep.snoc' (Keep.foldl ?_ _ _))
    | (with_reducible apply And.intro)
    | exact rfl
    | (refine Keep.fst (by assumption) ?_)
    | (refine Keep.snd (by assumption) ?_)
    | split
    | dsimp only

theorem execRecloseCheck_keep : ∀ a0 a1 s, KeepR 894451792 s (execRecloseCheck a0 a1 s) := by
  intro a0 a1 s
  unfold execRecloseCheck
  extract_lets v0 v1
  try clear_value v1
  have h0 : Keep 894451792 s v0 := by
    unfold v0
    repeat' first
      | with_reducible assumption
      | with_reducible exact Keep.refl _ _
      | intro _
      | (fail_if_no_progress beta_reduce)
      | (with_reducible apply KeepR.next)
      | (with_reducible apply Keep.ite)
      | (with_reducible apply KeepR.ite)
      | (with_reducible apply Keep.ite_fst)
      | (with_reducible apply Keep.snoc (State.afterLock_keep _ _))
      | (with_reducible apply Keep.snoc (State.begin_keep _ _))
      | (with_reducible apply Keep.snoc (State.endReclose_keep _ _))
      | (with_reducible apply Keep.snoc' (Keep.foldl ?_ _ _))
      | (with_reducible apply And.intro)
      | exact rfl
      | (refine Keep.fst (by assumption) ?_)
      | (refine Keep.snd (by assumption) ?_)
      | split
      | dsimp only
  repeat' first
    | with_reducible assumption
    | with_reducible exact Keep.refl _ _
    | intro _
    | (fail_if_no_progress beta_reduce)
    | (with_reducible apply KeepR.next)
    | (with_reducible apply Keep.ite)
    | (with_reducible apply KeepR.ite)
    | (with_reducible apply Keep.ite_fst)
    | (with_reducible apply Keep.snoc (State.afterLock_keep _ _))
    | (with_reducible apply Keep.snoc (State.begin_keep _ _))
    | (with_reducible apply Keep.snoc (State.endReclose_keep _ _))
    | (with_reducible apply Keep.snoc' (Keep.foldl ?_ _ _))
    | (with_reducible apply And.intro)
    | exact rfl
    | (refine Keep.fst (by assumption) ?_)
    | (refine Keep.snd (by assumption) ?_)
    | split
    | dsimp only

theorem execRecloseRoundCheck_keep : ∀ a0 a1 s, KeepR 894451792 s (execRecloseRoundCheck a0 a1 s) := by
  intro a0 a1 s
  unfold execRecloseRoundCheck
  extract_lets v0 v1 v2 v3
  try clear_value v1
  have h0 : Keep 894451792 s v0 := by
    unfold v0
    repeat' first
      | with_reducible assumption
      | with_reducible exact Keep.refl _ _
      | intro _
      | (fail_if_no_progress beta_reduce)
      | (with_reducible apply KeepR.next)
      | (with_reducible apply Keep.ite)
      | (with_reducible apply KeepR.ite)
      | (with_reducible apply Keep.ite_fst)
      | (with_reducible apply Keep.snoc (State.afterLock_keep _ _))
      | (with_reducible apply Keep.snoc (State.begin_keep _ _))
      | (with_reducible apply Keep.snoc (State.stuckOut_keep _ _ _))
      | (with_reducible apply Keep.snoc (State.updSaf_keep _ _))
      | (with_reducible apply Keep.snoc' (Keep.foldl ?_ _ _))
      | (with_reducible apply And.intro)
      | exact rfl
      | (refine Keep.fst (by assumption) ?_)
      | (refine Keep.snd (by assumption) ?_)
      | split
      | dsimp only
  have h2 : Keep 894451792 s v2 := by
    unfold v2
    repeat' first
      | with_reducible assumption
      | with_reducible exact Keep.refl _ _
      | intro _
      | (fail_if_no_progress beta_reduce)
      | (with_reducible apply KeepR.next)
      | (with_reducible apply Keep.ite)
      | (with_reducible apply KeepR.ite)
      | (with_reducible apply Keep.ite_fst)
      | (with_reducible apply Keep.snoc (State.afterLock_keep _ _))
      | (with_reducible apply Keep.snoc (State.begin_keep _ _))
      | (with_reducible apply Keep.snoc (State.stuckOut_keep _ _ _))
      | (with_reducible apply Keep.snoc (State.updSaf_keep _ _))
      | (with_reducible apply Keep.snoc' (Keep.foldl ?_ _ _))
      | (with_reducible apply And.intro)
      | exact rfl
      | (refine Keep.fst (by assumption) ?_)
      | (refine Keep.snd (by assumption) ?_)
      | split
      | dsimp only
  have h3 : Keep 894451792 s v3 := by
    unfold v3
    repeat' first
      | with_reducible assumption
      | with_reducible exact Keep.refl _ _
      | intro _
      | (fail_if_no_progress beta_reduce)
      | (with_reducible apply KeepR.next)
      | (with_reducible apply Keep.ite)
      | (with_reducible apply KeepR.ite)
      | (with_reducible apply Keep.ite_fst)
      | (with_reducible apply Keep.snoc (State.afterLock_keep _ _))
      | (with_reducible apply Keep.snoc (State.begin_keep _ _))
      | (with_reducible apply Keep.snoc (State.stuckOut_keep _ _ _))
      | (with_reducible apply Keep.snoc (State.updSaf_keep _ _))
      | (with_reducible apply Keep.snoc' (Keep.foldl ?_ _ _))
      | (with_reducible apply And.intro)
      | exact rfl
      | (refine Keep.fst (by assumption) ?_)
      | (refine Keep.snd (by assumption) ?_)
      | split
      | dsimp only
  repeat' first
    | with_reducible assumption
    | with_reducible exact Keep.refl _ _
    | intro _
    | (fail_if_no_progress beta_reduce)
    | (with_reducible apply KeepR.next)
    | (with_reducible apply Keep.ite)
    | (with_reducible apply KeepR.ite)
    | (with_reducible apply Keep.ite_fst)
    | (with_reducible apply Keep.snoc (State.afterLock_keep _ _))
    | (with_reducible apply Keep.snoc (State.begin_keep _ _))
    | (with_reducible apply Keep.snoc (State.stuckOut_keep _ _ _))
    | (with_reducible apply Keep.snoc (State.updSaf_keep _ _))
    | (with_reducible apply Keep.snoc' (Keep.foldl ?_ _ _))
    | (with_reducible apply And.intro)
    | exact rfl
    | (refine Keep.fst (by assumption) ?_)
    | (refine Keep.snd (by assumption) ?_)
    | split
    | dsimp only

theorem execPermitTimeout_keep : ∀ a0 a1 s, KeepR 1024 s (execPermitTimeout a0 a1 s) := by
  intro a0 a1 s
  unfold execPermitTimeout
  extract_lets v0
  have h0 : Keep 1024 s v0 := by
    unfold v0
    repeat' first
      | with_reducible assumption
      | with_reducible exact Keep.refl _ _
      | intro _
      | (fail_if_no_progress beta_reduce)
      | (with_reducible apply KeepR.next)
      | (with_reducible apply Keep.ite)
      | (with_reducible apply KeepR.ite)
      | (with_reducible apply Keep.ite_fst)
      | (with_reducible apply Keep.snoc (State.begin_keep _ _))
      | (with_reducible apply Keep.snoc (State.updChan_keep _ _ _))
      | (with_reducible apply Keep.snoc' (Keep.foldl ?_ _ _))
      | (with_reducible apply And.intro)
      | exact rfl
      | (refine Keep.fst (by assumption) ?_)
      | (refine Keep.snd (by assumption) ?_)
      | split
      | dsimp only
  repeat' first
    | with_reducible assumption
    | with_reducible exact Keep.refl _ _
    | intro _
    | (fail_if_no_progress beta_reduce)
    | (with_reducible apply KeepR.next)
    | (with_reducible apply Keep.ite)
    | (with_reducible apply KeepR.ite)
    | (with_reducible apply Keep.ite_fst)
    | (with_reducible apply Keep.snoc (State.begin_keep _ _))
    | (with_reducible apply Keep.snoc (State.updChan_keep _ _ _))
    | (with_reducible apply Keep.snoc' (Keep.foldl ?_ _ _))
    | (with_reducible apply And.intro)
    | exact rfl
    | (refine Keep.fst (by assumption) ?_)
    | (refine Keep.snd (by assumption) ?_)
    | split
    | dsimp only

theorem execSafetyContainer_keep : ∀ a0 a1 a2 a3 s, KeepR 9492778064 s (execSafetyContainer a0 a1 a2 a3 s) := by
  intro a0 a1 a2 a3 s
  unfold execSafetyContainer
  extract_lets v0
  have h0 : Keep 9492778064 s v0 := by
    unfold v0
    repeat' first
      | with_reducible assumption
      | with_reducible exact Keep.refl _ _
      | intro _
      | (fail_if_no_progress beta_reduce)
      | (with_reducible apply KeepR.next)
      | (with_reducible apply Keep.ite)
      | (with_reducible apply KeepR.ite)
      | (with_reducible apply Keep.ite_fst)
      | (with_reducible apply Keep.snoc (State.begin_keep _ _))
      | (with_reducible apply Keep.snoc (State.countPcrc_keep _ _))
      | (with_reducible apply Keep.snoc (State.islandFault_keep _ _))
      | (with_reducible apply Keep.snoc (State.safetyFrame_keep _ _ _))
      | (with_reducible apply Keep.snoc' (Keep.foldl ?_ _ _))
      | (with_reducible apply And.intro)
      | exact rfl
      | (refine Keep.fst (by assumption) ?_)
      | (refine Keep.snd (by assumption) ?_)
      | split
      | dsimp only
  repeat' first
    | with_reducible assumption
    | with_reducible exact Keep.refl _ _
    | intro _
    | (fail_if_no_progress beta_reduce)
    | (with_reducible apply KeepR.next)
    | (with_reducible apply Keep.ite)
    | (with_reducible apply KeepR.ite)
    | (with_reducible apply Keep.ite_fst)
    | (with_reducible apply Keep.snoc (State.begin_keep _ _))
    | (with_reducible apply Keep.snoc (State.countPcrc_keep _ _))
    | (with_reducible apply Keep.snoc (State.islandFault_keep _ _))
    | (with_reducible apply Keep.snoc (State.safetyFrame_keep _ _ _))
    | (with_reducible apply Keep.snoc' (Keep.foldl ?_ _ _))
    | (with_reducible apply And.intro)
    | exact rfl
    | (refine Keep.fst (by assumption) ?_)
    | (refine Keep.snd (by assumption) ?_)
    | split
    | dsimp only

theorem State.watchdogLost_keep : ∀ a0 s, Keep 542113808 s (State.watchdogLost a0 s) := by
  intro a0 s
  unfold State.watchdogLost
  extract_lets v0
  have h0 : Keep 542113808 s v0 := by
    unfold v0
    repeat' first
      | with_reducible assumption
      | with_reducible exact Keep.refl _ _
      | intro _
      | (fail_if_no_progress beta_reduce)
      | (with_reducible apply KeepR.next)
      | (with_reducible apply Keep.ite)
      | (with_reducible apply KeepR.ite)
      | (with_reducible apply Keep.ite_fst)
      | (with_reducible apply Keep.snoc (State.safOutputs_keep _))
      | (with_reducible apply Keep.snoc (State.setConn_keep _ _ _))
      | (with_reducible apply Keep.snoc (State.updConn_keep _ _ _))
      | (with_reducible apply Keep.snoc' (Keep.foldl ?_ _ _))
      | (with_reducible apply And.intro)
      | exact rfl
      | (refine Keep.fst (by assumption) ?_)
      | (refine Keep.snd (by assumption) ?_)
      | split
      | dsimp only
  repeat' first
    | with_reducible assumption
    | with_reducible exact Keep.refl _ _
    | intro _
    | (fail_if_no_progress beta_reduce)
    | (with_reducible apply KeepR.next)
    | (with_reducible apply Keep.ite)
    | (with_reducible apply KeepR.ite)
    | (with_reducible apply Keep.ite_fst)
    | (with_reducible apply Keep.snoc (State.safOutputs_keep _))
    | (with_reducible apply Keep.snoc (State.setConn_keep _ _ _))
    | (with_reducible apply Keep.snoc (State.updConn_keep _ _ _))
    | (with_reducible apply Keep.snoc' (Keep.foldl ?_ _ _))
    | (with_reducible apply And.intro)
    | exact rfl
    | (refine Keep.fst (by assumption) ?_)
    | (refine Keep.snd (by assumption) ?_)
    | split
    | dsimp only

theorem execSafetyFrameWatchdog_keep : ∀ a0 a1 a2 s, KeepR 542113936 s (execSafetyFrameWatchdog a0 a1 a2 s) := by
  intro a0 a1 a2 s
  unfold execSafetyFrameWatchdog
  extract_lets v0
  have h0 : Keep 542113936 s v0 := by
    unfold v0
    repeat' first
      | with_reducible assumption
      | with_reducible exact Keep.refl _ _
      | intro _
      | (fail_if_no_progress beta_reduce)
      | (with_reducible apply KeepR.next)
      | (with_reducible apply Keep.ite)
      | (with_reducible apply KeepR.ite)
      | (with_reducible apply Keep.ite_fst)
      | (with_reducible apply Keep.snoc (State.begin_keep _ _))
      | (with_reducible apply State.deferOr_keep)
      | (with_reducible apply Keep.snoc (State.watchdogLost_keep _ _))
      | (with_reducible apply Keep.snoc' (Keep.foldl ?_ _ _))
      | (with_reducible apply And.intro)
      | exact rfl
      | (refine Keep.fst (by assumption) ?_)
      | (refine Keep.snd (by assumption) ?_)
      | split
      | dsimp only
  repeat' first
    | with_reducible assumption
    | with_reducible exact Keep.refl _ _
    | intro _
    | (fail_if_no_progress beta_reduce)
    | (with_reducible apply KeepR.next)
    | (with_reducible apply Keep.ite)
    | (with_reducible apply KeepR.ite)
    | (with_reducible apply Keep.ite_fst)
    | (with_reducible apply Keep.snoc (State.begin_keep _ _))
    | (with_reducible apply State.deferOr_keep)
    | (with_reducible apply Keep.snoc (State.watchdogLost_keep _ _))
    | (with_reducible apply Keep.snoc' (Keep.foldl ?_ _ _))
    | (with_reducible apply And.intro)
    | exact rfl
    | (refine Keep.fst (by assumption) ?_)
    | (refine Keep.snd (by assumption) ?_)
    | split
    | dsimp only

theorem execSafReferenceCheck_keep : ∀ a0 a1 s, KeepR 9492778064 s (execSafReferenceCheck a0 a1 s) := by
  intro a0 a1 s
  unfold execSafReferenceCheck
  extract_lets v0
  have h0 : Keep 9492778064 s v0 := by
    unfold v0
    repeat' first
      | with_reducible assumption
      | with_reducible exact Keep.refl _ _
      | intro _
      | (fail_if_no_progress beta_reduce)
      | (with_reducible apply KeepR.next)
      | (with_reducible apply Keep.ite)
      | (with_reducible apply KeepR.ite)
      | (with_reducible apply Keep.ite_fst)
      | (with_reducible apply Keep.snoc (State.begin_keep _ _))
      | (with_reducible apply Keep.snoc (State.islandFault_keep _ _))
      | (with_reducible apply Keep.snoc' (Keep.foldl ?_ _ _))
      | (with_reducible apply And.intro)
      | exact rfl
      | (refine Keep.fst (by assumption) ?_)
      | (refine Keep.snd (by assumption) ?_)
      | split
      | dsimp only
  repeat' first
    | with_reducible assumption
    | with_reducible exact Keep.refl _ _
    | intro _
    | (fail_if_no_progress beta_reduce)
    | (with_reducible apply KeepR.next)
    | (with_reducible apply Keep.ite)
    | (with_reducible apply KeepR.ite)
    | (with_reducible apply Keep.ite_fst)
    | (with_reducible apply Keep.snoc (State.begin_keep _ _))
    | (with_reducible apply Keep.snoc (State.islandFault_keep _ _))
    | (with_reducible apply Keep.snoc' (Keep.foldl ?_ _ _))
    | (with_reducible apply And.intro)
    | exact rfl
    | (refine Keep.fst (by assumption) ?_)
    | (refine Keep.snd (by assumption) ?_)
    | split
    | dsimp only

theorem execSafMemoryError_keep : ∀ a0 s, KeepR 9492778064 s (execSafMemoryError a0 s) := by
  intro a0 s
  unfold execSafMemoryError
  repeat' first
    | with_reducible assumption
    | with_reducible exact Keep.refl _ _
    | intro _
    | (fail_if_no_progress beta_reduce)
    | (with_reducible apply KeepR.next)
    | (with_reducible apply Keep.ite)
    | (with_reducible apply KeepR.ite)
    | (with_reducible apply Keep.ite_fst)
    | (with_reducible apply Keep.snoc (State.begin_keep _ _))
    | (with_reducible apply Keep.snoc (State.islandFault_keep _ _))
    | (with_reducible apply Keep.snoc' (Keep.foldl ?_ _ _))
    | (with_reducible apply And.intro)
    | exact rfl
    | (refine Keep.fst (by assumption) ?_)
    | (refine Keep.snd (by assumption) ?_)
    | split
    | dsimp only

theorem execSafSupplyFault_keep : ∀ a0 s, KeepR 9492778064 s (execSafSupplyFault a0 s) := by
  intro a0 s
  unfold execSafSupplyFault
  repeat' first
    | with_reducible assumption
    | with_reducible exact Keep.refl _ _
    | intro _
    | (fail_if_no_progress beta_reduce)
    | (with_reducible apply KeepR.next)
    | (with_reducible apply Keep.ite)
    | (with_reducible apply KeepR.ite)
    | (with_reducible apply Keep.ite_fst)
    | (with_reducible apply Keep.snoc (State.begin_keep _ _))
    | (with_reducible apply Keep.snoc (State.islandFault_keep _ _))
    | (with_reducible apply Keep.snoc' (Keep.foldl ?_ _ _))
    | (with_reducible apply And.intro)
    | exact rfl
    | (refine Keep.fst (by assumption) ?_)
    | (refine Keep.snd (by assumption) ?_)
    | split
    | dsimp only

end Sys2Proof.Machine
end

