-- ==== Sys2Proof/Laws/KeepIslands.lean ====
section
/-! SUPPORT. What each operation and meaning of Machine/Islands.lean leaves alone. -/

namespace Sys2Proof.Machine

set_option linter.unusedTactic false
set_option linter.unreachableTactic false

theorem State.driveReset_keep : ∀ a0 s, Keep 8589934592 s (State.driveReset a0 s) := by
  intro a0 s
  unfold State.driveReset
  repeat' first
    | with_reducible assumption
    | with_reducible exact Keep.refl _ _
    | intro _
    | (fail_if_no_progress beta_reduce)
    | (with_reducible apply KeepR.next)
    | (with_reducible apply Keep.ite)
    | (with_reducible apply KeepR.ite)
    | (with_reducible apply Keep.ite_fst)
    | (with_reducible apply Keep.snoc (State.emit_keep _ _))
    | (with_reducible apply Keep.snoc (State.updMod_keep _ _))
    | (with_reducible apply Keep.snoc' (Keep.foldl ?_ _ _))
    | (with_reducible apply And.intro)
    | exact rfl
    | (refine Keep.fst (by assumption) ?_)
    | (refine Keep.snd (by assumption) ?_)
    | split
    | dsimp only

theorem State.reloadRegs_keep : ∀ s, Keep 402653184 s (State.reloadRegs s) := by
  intro s
  unfold State.reloadRegs
  extract_lets v0 v1
  try clear_value v0
  have h1 : Keep 402653184 s v1 := by
    unfold v1
    repeat' first
      | with_reducible assumption
      | with_reducible exact Keep.refl _ _
      | intro _
      | (fail_if_no_progress beta_reduce)
      | (with_reducible apply KeepR.next)
      | (with_reducible apply Keep.ite)
      | (with_reducible apply KeepR.ite)
      | (with_reducible apply Keep.ite_fst)
      | (with_reducible apply Keep.snoc (State.updMb_keep _ _))
      | (with_reducible apply Keep.snoc (State.updRegs_keep _ _))
      | (with_reducible apply Keep.snoc' (Keep.foldl ?_ _ _))
      | (with_reducible apply And.intro)
      | exact rfl
      | (refine Keep.fst (by assumption) ?_)
      | (refine Keep.snd (by assumption) ?_)
      | split
      | dsimp only
  repeat' first
    | with_reducible assumption
    | with_reducible exact Keep.refl _ _
    | intro _
    | (fail_if_no_progress beta_reduce)
    | (with_reducible apply KeepR.next)
    | (with_reducible apply Keep.ite)
    | (with_reducible apply KeepR.ite)
    | (with_reducible apply Keep.ite_fst)
    | (with_reducible apply Keep.snoc (State.updMb_keep _ _))
    | (with_reducible apply Keep.snoc (State.updRegs_keep _ _))
    | (with_reducible apply Keep.snoc' (Keep.foldl ?_ _ _))
    | (with_reducible apply And.intro)
    | exact rfl
    | (refine Keep.fst (by assumption) ?_)
    | (refine Keep.snd (by assumption) ?_)
    | split
    | dsimp only

theorem State.clearSvc_keep : ∀ s, Keep 8992655360 s (State.clearSvc s) := by
  intro s
  unfold State.clearSvc
  extract_lets v0 v1 v2 v3
  clear_value v1 v2 v3
  have h0 : Keep 8992655360 s v0 := Keep.snoc (State.reloadRegs_keep _) rfl (Keep.refl _ _)
  refine h0.trans (Keep.of_fields le_rfl le_rfl rfl (fun k => k) fun p hp => ?_)
  cases p <;> first | exact rfl | exact ⟨rfl, rfl⟩ | exact fun _ => rfl | exact absurd hp (by decide)

theorem State.clearPrg_keep : ∀ s, Keep 536986640 s (State.clearPrg s) := by
  intro s
  unfold State.clearPrg
  extract_lets bank init data cycle stamp s1
  have hb : s.MemOk → ∀ b, bank = some b → Memory.wf b.data.mem = true := by
    intro hs b hb
    unfold bank at hb
    cases hr : s.prg.running with
    | none => rw [hr] at hb; cases hb
    | some r => rw [hr] at hb; exact State.retainedBank_wf hs hb
  have hd : s.MemOk → Memory.wf data.mem = true := by
    intro hs
    unfold data
    split
    · rename_i r b h1 h2
      exact r.restore_wf (Image.initial_wf _) (hb hs b h2)
    · exact Image.initial_wf _
    · rfl
  have h1 : Keep 536986640 s s1 := by
    unfold s1
    refine Keep.snoc (State.updXch_keep _ _) rfl (Keep.snoc_prg _ (Keep.refl _ _) (fun hs _ => ⟨hd hs, ?_⟩) rfl)
    show Memory.wf (bank.getD {}).data.mem = true
    cases hq : bank with
    | none => rfl
    | some b => exact hb hs b hq
  repeat' first
    | with_reducible assumption
    | with_reducible exact Keep.refl _ _
    | intro _
    | (fail_if_no_progress beta_reduce)
    | (with_reducible apply KeepR.next)
    | (with_reducible apply Keep.ite)
    | (with_reducible apply KeepR.ite)
    | (with_reducible apply Keep.ite_fst)
    | (with_reducible apply Keep.snoc (State.record_keep _ _ _ _))
    | (with_reducible apply Keep.snoc (State.stopValues_keep _))
    | (with_reducible apply Keep.snoc (State.updPrg_mem _ _ ?_))
    | (with_reducible apply Keep.snoc (State.updXch_keep _ _))
    | (with_reducible apply Keep.snoc' (Keep.foldl ?_ _ _))
    | (with_reducible apply And.intro)
    | exact rfl
    | (refine Keep.fst (by assumption) ?_)
    | (refine Keep.snd (by assumption) ?_)
    | split
    | dsimp only

theorem State.clearRng_keep : ∀ s, Keep 562053136 s (State.clearRng s) := by
  intro s
  unfold State.clearRng
  extract_lets v0 v1
  have h0 : Keep 562053136 s v0 := by
    unfold v0
    repeat' first
      | with_reducible assumption
      | with_reducible exact Keep.refl _ _
      | intro _
      | (fail_if_no_progress beta_reduce)
      | (with_reducible apply KeepR.next)
      | (with_reducible apply Keep.ite)
      | (with_reducible apply KeepR.ite)
      | (with_reducible apply Keep.ite_fst)
      | (with_reducible apply Keep.snoc (State.stationDown_keep _ _))
      | (with_reducible apply Keep.snoc (State.updPair_keep _ _))
      | (with_reducible apply Keep.snoc (State.updRing_keep _ _))
      | (with_reducible apply Keep.snoc' (Keep.foldl ?_ _ _))
      | (with_reducible apply And.intro)
      | exact rfl
      | (refine Keep.fst (by assumption) ?_)
      | (refine Keep.snd (by assumption) ?_)
      | split
      | dsimp only
  have h1 : Keep 562053136 s v1 := by
    unfold v1
    repeat' first
      | with_reducible assumption
      | with_reducible exact Keep.refl _ _
      | intro _
      | (fail_if_no_progress beta_reduce)
      | (with_reducible apply KeepR.next)
      | (with_reducible apply Keep.ite)
      | (with_reducible apply KeepR.ite)
      | (with_reducible apply Keep.ite_fst)
      | (with_reducible apply Keep.snoc (State.stationDown_keep _ _))
      | (with_reducible apply Keep.snoc (State.updPair_keep _ _))
      | (with_reducible apply Keep.snoc (State.updRing_keep _ _))
      | (with_reducible apply Keep.snoc' (Keep.foldl ?_ _ _))
      | (with_reducible apply And.intro)
      | exact rfl
      | (refine Keep.fst (by assumption) ?_)
      | (refine Keep.snd (by assumption) ?_)
      | split
      | dsimp only
  repeat' first
    | with_reducible assumption
    | with_reducible exact Keep.refl _ _
    | intro _
    | (fail_if_no_progress beta_reduce)
    | (with_reducible apply KeepR.next)
    | (with_reducible apply Keep.ite)
    | (with_reducible apply KeepR.ite)
    | (with_reducible apply Keep.ite_fst)
    | (with_reducible apply Keep.snoc (State.stationDown_keep _ _))
    | (with_reducible apply Keep.snoc (State.updPair_keep _ _))
    | (with_reducible apply Keep.snoc (State.updRing_keep _ _))
    | (with_reducible apply Keep.snoc' (Keep.foldl ?_ _ _))
    | (with_reducible apply And.intro)
    | exact rfl
    | (refine Keep.fst (by assumption) ?_)
    | (refine Keep.snd (by assumption) ?_)
    | split
    | dsimp only

theorem State.clearRec_keep : ∀ a0 s, Keep 3850486784 s (State.clearRec a0 s) := by
  intro a0 s
  unfold State.clearRec
  extract_lets v0 v1 v2 v3 v4
  try clear_value v0
  have h1 : Keep 3850486784 s v1 := by
    unfold v1
    repeat' first
      | with_reducible assumption
      | with_reducible exact Keep.refl _ _
      | intro _
      | (fail_if_no_progress beta_reduce)
      | (with_reducible apply KeepR.next)
      | (with_reducible apply Keep.ite)
      | (with_reducible apply KeepR.ite)
      | (with_reducible apply Keep.ite_fst)
      | (with_reducible apply Keep.snoc (State.abandonSave_keep _ _))
      | (with_reducible apply Keep.snoc (State.dropSwitch_keep _ _))
      | (with_reducible apply Keep.snoc (State.finishStop_keep _ _))
      | (with_reducible apply Keep.snoc (State.updRec_keep _ _))
      | (with_reducible apply Keep.snoc (State.updStore_keep _ _ _ ?_))
      | (with_reducible apply Keep.snoc' (Keep.foldl ?_ _ _))
      | (with_reducible apply And.intro)
      | exact rfl
      | (refine Keep.fst (by assumption) ?_)
      | (refine Keep.snd (by assumption) ?_)
      | split
      | dsimp only
  have h2 : Keep 3850486784 s v2 := by
    unfold v2
    repeat' first
      | with_reducible assumption
      | with_reducible exact Keep.refl _ _
      | intro _
      | (fail_if_no_progress beta_reduce)
      | (with_reducible apply KeepR.next)
      | (with_reducible apply Keep.ite)
      | (with_reducible apply KeepR.ite)
      | (with_reducible apply Keep.ite_fst)
      | (with_reducible apply Keep.snoc (State.abandonSave_keep _ _))
      | (with_reducible apply Keep.snoc (State.dropSwitch_keep _ _))
      | (with_reducible apply Keep.snoc (State.finishStop_keep _ _))
      | (with_reducible apply Keep.snoc (State.updRec_keep _ _))
      | (with_reducible apply Keep.snoc (State.updStore_keep _ _ _ ?_))
      | (with_reducible apply Keep.snoc' (Keep.foldl ?_ _ _))
      | (with_reducible apply And.intro)
      | exact rfl
      | (refine Keep.fst (by assumption) ?_)
      | (refine Keep.snd (by assumption) ?_)
      | split
      | dsimp only
  have h3 : Keep 3850486784 s v3 := by
    unfold v3
    repeat' first
      | with_reducible assumption
      | with_reducible exact Keep.refl _ _
      | intro _
      | (fail_if_no_progress beta_reduce)
      | (with_reducible apply KeepR.next)
      | (with_reducible apply Keep.ite)
      | (with_reducible apply KeepR.ite)
      | (with_reducible apply Keep.ite_fst)
      | (with_reducible apply Keep.snoc (State.abandonSave_keep _ _))
      | (with_reducible apply Keep.snoc (State.dropSwitch_keep _ _))
      | (with_reducible apply Keep.snoc (State.finishStop_keep _ _))
      | (with_reducible apply Keep.snoc (State.updRec_keep _ _))
      | (with_reducible apply Keep.snoc (State.updStore_keep _ _ _ ?_))
      | (with_reducible apply Keep.snoc' (Keep.foldl ?_ _ _))
      | (with_reducible apply And.intro)
      | exact rfl
      | (refine Keep.fst (by assumption) ?_)
      | (refine Keep.snd (by assumption) ?_)
      | split
      | dsimp only
  have h4 : Keep 3850486784 s v4 := by
    unfold v4
    repeat' first
      | with_reducible assumption
      | with_reducible exact Keep.refl _ _
      | intro _
      | (fail_if_no_progress beta_reduce)
      | (with_reducible apply KeepR.next)
      | (with_reducible apply Keep.ite)
      | (with_reducible apply KeepR.ite)
      | (with_reducible apply Keep.ite_fst)
      | (with_reducible apply Keep.snoc (State.abandonSave_keep _ _))
      | (with_reducible apply Keep.snoc (State.dropSwitch_keep _ _))
      | (with_reducible apply Keep.snoc (State.finishStop_keep _ _))
      | (with_reducible apply Keep.snoc (State.updRec_keep _ _))
      | (with_reducible apply Keep.snoc (State.updStore_keep _ _ _ ?_))
      | (with_reducible apply Keep.snoc' (Keep.foldl ?_ _ _))
      | (with_reducible apply And.intro)
      | exact rfl
      | (refine Keep.fst (by assumption) ?_)
      | (refine Keep.snd (by assumption) ?_)
      | split
      | dsimp only
  repeat' first
    | with_reducible assumption
    | with_reducible exact Keep.refl _ _
    | intro _
    | (fail_if_no_progress beta_reduce)
    | (with_reducible apply KeepR.next)
    | (with_reducible apply Keep.ite)
    | (with_reducible apply KeepR.ite)
    | (with_reducible apply Keep.ite_fst)
    | (with_reducible apply Keep.snoc (State.abandonSave_keep _ _))
    | (with_reducible apply Keep.snoc (State.dropSwitch_keep _ _))
    | (with_reducible apply Keep.snoc (State.finishStop_keep _ _))
    | (with_reducible apply Keep.snoc (State.updRec_keep _ _))
    | (with_reducible apply Keep.snoc (State.updStore_keep _ _ _ ?_))
    | (with_reducible apply Keep.snoc' (Keep.foldl ?_ _ _))
    | (with_reducible apply And.intro)
    | exact rfl
    | (refine Keep.fst (by assumption) ?_)
    | (refine Keep.snd (by assumption) ?_)
    | split
    | dsimp only

theorem State.clearCtl_keep : ∀ s, Keep 917504 s (State.clearCtl s) := by
  intro s
  unfold State.clearCtl
  repeat' first
    | with_reducible assumption
    | with_reducible exact Keep.refl _ _
    | intro _
    | (fail_if_no_progress beta_reduce)
    | (with_reducible apply KeepR.next)
    | (with_reducible apply Keep.ite)
    | (with_reducible apply KeepR.ite)
    | (with_reducible apply Keep.ite_fst)
    | (refine Keep.of_fields le_rfl le_rfl rfl (fun k => k) fun p hp => ?_; cases p <;> first | exact rfl | exact ⟨rfl, rfl⟩ | exact fun _ => rfl | exact absurd hp (by decide))
    | (with_reducible apply Keep.mono (State.set_loops_keep _ _))
    | (with_reducible apply Keep.mono (State.set_overs_keep _ _))
    | (with_reducible apply Keep.mono (State.set_tune_keep _ _))
    | (with_reducible apply Keep.snoc' (Keep.foldl ?_ _ _))
    | (with_reducible apply And.intro)
    | exact rfl
    | (refine Keep.fst (by assumption) ?_)
    | (refine Keep.snd (by assumption) ?_)
    | split
    | dsimp only

theorem State.clearMot_keep : ∀ s, Keep 3145728 s (State.clearMot s) := by
  intro s
  unfold State.clearMot
  repeat' first
    | with_reducible assumption
    | with_reducible exact Keep.refl _ _
    | intro _
    | (fail_if_no_progress beta_reduce)
    | (with_reducible apply KeepR.next)
    | (with_reducible apply Keep.ite)
    | (with_reducible apply KeepR.ite)
    | (with_reducible apply Keep.ite_fst)
    | (refine Keep.of_fields le_rfl le_rfl rfl (fun k => k) fun p hp => ?_; cases p <;> first | exact rfl | exact ⟨rfl, rfl⟩ | exact fun _ => rfl | exact absurd hp (by decide))
    | (with_reducible apply Keep.mono (State.set_axes_keep _ _))
    | (with_reducible apply Keep.mono (State.set_tables_keep _ _))
    | (with_reducible apply Keep.snoc' (Keep.foldl ?_ _ _))
    | (with_reducible apply And.intro)
    | exact rfl
    | (refine Keep.fst (by assumption) ?_)
    | (refine Keep.snd (by assumption) ?_)
    | split
    | dsimp only

theorem State.softReset_keep : ∀ a0 a1 s, Keep 17175665744 s (State.softReset a0 a1 s) := by
  intro a0 a1 s
  unfold State.softReset
  extract_lets v0 v1 v2
  try clear_value v2
  try clear_value v0
  have h1 : Keep 17175665744 s v1 := by
    unfold v1
    repeat' first
      | with_reducible assumption
      | with_reducible exact Keep.refl _ _
      | intro _
      | (fail_if_no_progress beta_reduce)
      | (with_reducible apply KeepR.next)
      | (with_reducible apply Keep.ite)
      | (with_reducible apply KeepR.ite)
      | (with_reducible apply Keep.ite_fst)
      | (with_reducible apply Keep.snoc (State.clearCtl_keep _))
      | (with_reducible apply Keep.snoc (State.clearMot_keep _))
      | (with_reducible apply Keep.snoc (State.clearPrg_keep _))
      | (with_reducible apply Keep.snoc (State.clearRec_keep _ _))
      | (with_reducible apply Keep.snoc (State.clearRng_keep _))
      | (with_reducible apply Keep.snoc (State.clearSvc_keep _))
      | (with_reducible apply Keep.snoc (State.completeAll_keep _ _ _))
      | (with_reducible apply Keep.snoc (State.resetHif_keep _ _))
      | (with_reducible apply Keep.snoc (State.settleHealth_keep _))
      | (with_reducible apply Keep.snoc (State.updDisp_keep _ _))
      | (with_reducible apply Keep.snoc (State.updMod_keep _ _))
      | (with_reducible apply Keep.snoc (State.updTime_keep _ _))
      | (with_reducible apply Keep.snoc' (Keep.foldl ?_ _ _))
      | (with_reducible apply And.intro)
      | exact rfl
      | (refine Keep.fst (by assumption) ?_)
      | (refine Keep.snd (by assumption) ?_)
      | split
      | dsimp only
  repeat' first
    | with_reducible assumption
    | with_reducible exact Keep.refl _ _
    | intro _
    | (fail_if_no_progress beta_reduce)
    | (with_reducible apply KeepR.next)
    | (with_reducible apply Keep.ite)
    | (with_reducible apply KeepR.ite)
    | (with_reducible apply Keep.ite_fst)
    | (with_reducible apply Keep.snoc (State.clearCtl_keep _))
    | (with_reducible apply Keep.snoc (State.clearMot_keep _))
    | (with_reducible apply Keep.snoc (State.clearPrg_keep _))
    | (with_reducible apply Keep.snoc (State.clearRec_keep _ _))
    | (with_reducible apply Keep.snoc (State.clearRng_keep _))
    | (with_reducible apply Keep.snoc (State.clearSvc_keep _))
    | (with_reducible apply Keep.snoc (State.completeAll_keep _ _ _))
    | (with_reducible apply Keep.snoc (State.resetHif_keep _ _))
    | (with_reducible apply Keep.snoc (State.settleHealth_keep _))
    | (with_reducible apply Keep.snoc (State.updDisp_keep _ _))
    | (with_reducible apply Keep.snoc (State.updMod_keep _ _))
    | (with_reducible apply Keep.snoc (State.updTime_keep _ _))
    | (with_reducible apply Keep.snoc' (Keep.foldl ?_ _ _))
    | (with_reducible apply And.intro)
    | exact rfl
    | (refine Keep.fst (by assumption) ?_)
    | (refine Keep.snd (by assumption) ?_)
    | split
    | dsimp only

theorem State.restoreCtl_keep : ∀ s, Keep 10293215248 s (State.restoreCtl s) := by
  intro s
  unfold State.restoreCtl
  repeat' first
    | with_reducible assumption
    | with_reducible exact Keep.refl _ _
    | intro _
    | (fail_if_no_progress beta_reduce)
    | (with_reducible apply KeepR.next)
    | (with_reducible apply Keep.ite)
    | (with_reducible apply KeepR.ite)
    | (with_reducible apply Keep.ite_fst)
    | (with_reducible apply Keep.snoc (State.loopConfigWork_keep _ _ _))
    | (with_reducible apply Keep.snoc (State.overrideWork_keep _ _ _))
    | (with_reducible apply Keep.snoc' (Keep.foldl ?_ _ _))
    | (with_reducible apply And.intro)
    | exact rfl
    | (refine Keep.fst (by assumption) ?_)
    | (refine Keep.snd (by assumption) ?_)
    | split
    | dsimp only

theorem State.axisWork_keep : ∀ a0 a1 s, Keep 1048576 s (State.axisWork a0 a1 s) := by
  intro a0 a1 s
  unfold State.axisWork
  extract_lets v0 v1
  try clear_value v1
  try clear_value v0
  repeat' first
    | with_reducible assumption
    | with_reducible exact Keep.refl _ _
    | intro _
    | (fail_if_no_progress beta_reduce)
    | (with_reducible apply KeepR.next)
    | (with_reducible apply Keep.ite)
    | (with_reducible apply KeepR.ite)
    | (with_reducible apply Keep.ite_fst)
    | (with_reducible apply Keep.snoc (State.updAxis_keep _ _ _))
    | (with_reducible apply Keep.snoc' (Keep.foldl ?_ _ _))
    | (with_reducible apply And.intro)
    | exact rfl
    | (refine Keep.fst (by assumption) ?_)
    | (refine Keep.snd (by assumption) ?_)
    | split
    | dsimp only

theorem State.restoreMot_keep : ∀ s, Keep 1048576 s (State.restoreMot s) := by
  intro s
  unfold State.restoreMot
  repeat' first
    | with_reducible assumption
    | with_reducible exact Keep.refl _ _
    | intro _
    | (fail_if_no_progress beta_reduce)
    | (with_reducible apply KeepR.next)
    | (with_reducible apply Keep.ite)
    | (with_reducible apply KeepR.ite)
    | (with_reducible apply Keep.ite_fst)
    | (with_reducible apply Keep.snoc (State.axisWork_keep _ _ _))
    | (with_reducible apply Keep.snoc' (Keep.foldl ?_ _ _))
    | (with_reducible apply And.intro)
    | exact rfl
    | (refine Keep.fst (by assumption) ?_)
    | (refine Keep.snd (by assumption) ?_)
    | split
    | dsimp only

theorem State.powerDone_keep : ∀ a0 s, Keep 897581136 s (State.powerDone a0 s) := by
  intro a0 s
  unfold State.powerDone
  extract_lets v0 v1
  try clear_value v0
  have h1 : Keep 897581136 s v1 := by
    unfold v1
    repeat' first
      | with_reducible assumption
      | with_reducible exact Keep.refl _ _
      | intro _
      | (fail_if_no_progress beta_reduce)
      | (with_reducible apply KeepR.next)
      | (with_reducible apply Keep.ite)
      | (with_reducible apply KeepR.ite)
      | (with_reducible apply Keep.ite_fst)
      | (with_reducible apply Keep.snoc (State.clearReceived_keep _ _))
      | (with_reducible apply Keep.snoc (State.complete_keep _ _ _))
      | (with_reducible apply Keep.snoc (State.setDomain_keep _ _ _))
      | (with_reducible apply Keep.snoc (State.updMb_keep _ _))
      | (with_reducible apply Keep.snoc' (Keep.foldl ?_ _ _))
      | (with_reducible apply And.intro)
      | exact rfl
      | (refine Keep.fst (by assumption) ?_)
      | (refine Keep.snd (by assumption) ?_)
      | split
      | dsimp only
  repeat' first
    | with_reducible assumption
    | with_reducible exact Keep.refl _ _
    | intro _
    | (fail_if_no_progress beta_reduce)
    | (with_reducible apply KeepR.next)
    | (with_reducible apply Keep.ite)
    | (with_reducible apply KeepR.ite)
    | (with_reducible apply Keep.ite_fst)
    | (with_reducible apply Keep.snoc (State.clearReceived_keep _ _))
    | (with_reducible apply Keep.snoc (State.complete_keep _ _ _))
    | (with_reducible apply Keep.snoc (State.setDomain_keep _ _ _))
    | (with_reducible apply Keep.snoc (State.updMb_keep _ _))
    | (with_reducible apply Keep.snoc' (Keep.foldl ?_ _ _))
    | (with_reducible apply And.intro)
    | exact rfl
    | (refine Keep.fst (by assumption) ?_)
    | (refine Keep.snd (by assumption) ?_)
    | split
    | dsimp only

theorem execIslandReady_keep : ∀ a0 a1 s, KeepR 10562715760 s (execIslandReady a0 a1 s) := by
  intro a0 a1 s
  unfold execIslandReady
  extract_lets v0 v1 v2 v3 v4 v5 v6
  try clear_value v5
  have h0 : Keep 10562715760 s v0 := by
    unfold v0
    repeat' first
      | with_reducible assumption
      | with_reducible exact Keep.refl _ _
      | intro _
      | (fail_if_no_progress beta_reduce)
      | (with_reducible apply KeepR.next)
      | (with_reducible apply Keep.ite)
      | (with_reducible apply KeepR.ite)
      | (with_reducible apply Keep.ite_fst)
      | (with_reducible apply Keep.snoc (State.begin_keep _ _))
      | (with_reducible apply Keep.snoc (State.bumpEpoch_keep _ _))
      | (with_reducible apply Keep.snoc (State.completeAll_keep _ _ _))
      | (with_reducible apply Keep.snoc (State.powerDone_keep _ _))
      | (with_reducible apply Keep.snoc (State.recoverRecorder_keep _ _))
      | (with_reducible apply Keep.snoc (State.restoreCtl_keep _))
      | (with_reducible apply Keep.snoc (State.restoreMot_keep _))
      | (with_reducible apply Keep.snoc (State.rewake_keep _ _))
      | (with_reducible apply Keep.snoc (State.settleHealth_keep _))
      | (with_reducible apply Keep.snoc (State.updIsland_live _ _ _))
      | (with_reducible apply Keep.snoc (State.updMod_keep _ _))
      | (with_reducible apply Keep.snoc' (Keep.foldl ?_ _ _))
      | (with_reducible apply And.intro)
      | exact rfl
      | (refine Keep.fst (by assumption) ?_)
      | (refine Keep.snd (by assumption) ?_)
      | split
      | dsimp only
  have h1 : Keep 10562715760 s v1 := by
    unfold v1
    repeat' first
      | with_reducible assumption
      | with_reducible exact Keep.refl _ _
      | intro _
      | (fail_if_no_progress beta_reduce)
      | (with_reducible apply KeepR.next)
      | (with_reducible apply Keep.ite)
      | (with_reducible apply KeepR.ite)
      | (with_reducible apply Keep.ite_fst)
      | (with_reducible apply Keep.snoc (State.begin_keep _ _))
      | (with_reducible apply Keep.snoc (State.bumpEpoch_keep _ _))
      | (with_reducible apply Keep.snoc (State.completeAll_keep _ _ _))
      | (with_reducible apply Keep.snoc (State.powerDone_keep _ _))
      | (with_reducible apply Keep.snoc (State.recoverRecorder_keep _ _))
      | (with_reducible apply Keep.snoc (State.restoreCtl_keep _))
      | (with_reducible apply Keep.snoc (State.restoreMot_keep _))
      | (with_reducible apply Keep.snoc (State.rewake_keep _ _))
      | (with_reducible apply Keep.snoc (State.settleHealth_keep _))
      | (with_reducible apply Keep.snoc (State.updIsland_live _ _ _))
      | (with_reducible apply Keep.snoc (State.updMod_keep _ _))
      | (with_reducible apply Keep.snoc' (Keep.foldl ?_ _ _))
      | (with_reducible apply And.intro)
      | exact rfl
      | (refine Keep.fst (by assumption) ?_)
      | (refine Keep.snd (by assumption) ?_)
      | split
      | dsimp only
  have h2 : Keep 10562715760 s v2 := by
    unfold v2
    repeat' first
      | with_reducible assumption
      | with_reducible exact Keep.refl _ _
      | intro _
      | (fail_if_no_progress beta_reduce)
      | (with_reducible apply KeepR.next)
      | (with_reducible apply Keep.ite)
      | (with_reducible apply KeepR.ite)
      | (with_reducible apply Keep.ite_fst)
      | (with_reducible apply Keep.snoc (State.begin_keep _ _))
      | (with_reducible apply Keep.snoc (State.bumpEpoch_keep _ _))
      | (with_reducible apply Keep.snoc (State.completeAll_keep _ _ _))
      | (with_reducible apply Keep.snoc (State.powerDone_keep _ _))
      | (with_reducible apply Keep.snoc (State.recoverRecorder_keep _ _))
      | (with_reducible apply Keep.snoc (State.restoreCtl_keep _))
      | (with_reducible apply Keep.snoc (State.restoreMot_keep _))
      | (with_reducible apply Keep.snoc (State.rewake_keep _ _))
      | (with_reducible apply Keep.snoc (State.settleHealth_keep _))
      | (with_reducible apply Keep.snoc (State.updIsland_live _ _ _))
      | (with_reducible apply Keep.snoc (State.updMod_keep _ _))
      | (with_reducible apply Keep.snoc' (Keep.foldl ?_ _ _))
      | (with_reducible apply And.intro)
      | exact rfl
      | (refine Keep.fst (by assumption) ?_)
      | (refine Keep.snd (by assumption) ?_)
      | split
      | dsimp only
  have h3 : Keep 10562715760 s v3 := by
    unfold v3
    repeat' first
      | with_reducible assumption
      | with_reducible exact Keep.refl _ _
      | intro _
      | (fail_if_no_progress beta_reduce)
      | (with_reducible apply KeepR.next)
      | (with_reducible apply Keep.ite)
      | (with_reducible apply KeepR.ite)
      | (with_reducible apply Keep.ite_fst)
      | (with_reducible apply Keep.snoc (State.begin_keep _ _))
      | (with_reducible apply Keep.snoc (State.bumpEpoch_keep _ _))
      | (with_reducible apply Keep.snoc (State.completeAll_keep _ _ _))
      | (with_reducible apply Keep.snoc (State.powerDone_keep _ _))
      | (with_reducible apply Keep.snoc (State.recoverRecorder_keep _ _))
      | (with_reducible apply Keep.snoc (State.restoreCtl_keep _))
      | (with_reducible apply Keep.snoc (State.restoreMot_keep _))
      | (with_reducible apply Keep.snoc (State.rewake_keep _ _))
      | (with_reducible apply Keep.snoc (State.settleHealth_keep _))
      | (with_reducible apply Keep.snoc (State.updIsland_live _ _ _))
      | (with_reducible apply Keep.snoc (State.updMod_keep _ _))
      | (with_reducible apply Keep.snoc' (Keep.foldl ?_ _ _))
      | (with_reducible apply And.intro)
      | exact rfl
      | (refine Keep.fst (by assumption) ?_)
      | (refine Keep.snd (by assumption) ?_)
      | split
      | dsimp only
  have h4 : Keep 10562715760 s v4 := by
    unfold v4
    repeat' first
      | with_reducible assumption
      | with_reducible exact Keep.refl _ _
      | intro _
      | (fail_if_no_progress beta_reduce)
      | (with_reducible apply KeepR.next)
      | (with_reducible apply Keep.ite)
      | (with_reducible apply KeepR.ite)
      | (with_reducible apply Keep.ite_fst)
      | (with_reducible apply Keep.snoc (State.begin_keep _ _))
      | (with_reducible apply Keep.snoc (State.bumpEpoch_keep _ _))
      | (with_reducible apply Keep.snoc (State.completeAll_keep _ _ _))
      | (with_reducible apply Keep.snoc (State.powerDone_keep _ _))
      | (with_reducible apply Keep.snoc (State.recoverRecorder_keep _ _))
      | (with_reducible apply Keep.snoc (State.restoreCtl_keep _))
      | (with_reducible apply Keep.snoc (State.restoreMot_keep _))
      | (with_reducible apply Keep.snoc (State.rewake_keep _ _))
      | (with_reducible apply Keep.snoc (State.settleHealth_keep _))
      | (with_reducible apply Keep.snoc (State.updIsland_live _ _ _))
      | (with_reducible apply Keep.snoc (State.updMod_keep _ _))
      | (with_reducible apply Keep.snoc' (Keep.foldl ?_ _ _))
      | (with_reducible apply And.intro)
      | exact rfl
      | (refine Keep.fst (by assumption) ?_)
      | (refine Keep.snd (by assumption) ?_)
      | split
      | dsimp only
  have h6 : Keep 10562715760 s v6 := by
    unfold v6
    repeat' first
      | with_reducible assumption
      | with_reducible exact Keep.refl _ _
      | intro _
      | (fail_if_no_progress beta_reduce)
      | (with_reducible apply KeepR.next)
      | (with_reducible apply Keep.ite)
      | (with_reducible apply KeepR.ite)
      | (with_reducible apply Keep.ite_fst)
      | (with_reducible apply Keep.snoc (State.begin_keep _ _))
      | (with_reducible apply Keep.snoc (State.bumpEpoch_keep _ _))
      | (with_reducible apply Keep.snoc (State.completeAll_keep _ _ _))
      | (with_reducible apply Keep.snoc (State.powerDone_keep _ _))
      | (with_reducible apply Keep.snoc (State.recoverRecorder_keep _ _))
      | (with_reducible apply Keep.snoc (State.restoreCtl_keep _))
      | (with_reducible apply Keep.snoc (State.restoreMot_keep _))
      | (with_reducible apply Keep.snoc (State.rewake_keep _ _))
      | (with_reducible apply Keep.snoc (State.settleHealth_keep _))
      | (with_reducible apply Keep.snoc (State.updIsland_live _ _ _))
      | (with_reducible apply Keep.snoc (State.updMod_keep _ _))
      | (with_reducible apply Keep.snoc' (Keep.foldl ?_ _ _))
      | (with_reducible apply And.intro)
      | exact rfl
      | (refine Keep.fst (by assumption) ?_)
      | (refine Keep.snd (by assumption) ?_)
      | split
      | dsimp only
  repeat' first
    | with_reducible assumption
    | with_reducible exact Keep.refl _ _
    | intro _
    | (fail_if_no_progress beta_reduce)
    | (with_reducible apply KeepR.next)
    | (with_reducible apply Keep.ite)
    | (with_reducible apply KeepR.ite)
    | (with_reducible apply Keep.ite_fst)
    | (with_reducible apply Keep.snoc (State.begin_keep _ _))
    | (with_reducible apply Keep.snoc (State.bumpEpoch_keep _ _))
    | (with_reducible apply Keep.snoc (State.completeAll_keep _ _ _))
    | (with_reducible apply Keep.snoc (State.powerDone_keep _ _))
    | (with_reducible apply Keep.snoc (State.recoverRecorder_keep _ _))
    | (with_reducible apply Keep.snoc (State.restoreCtl_keep _))
    | (with_reducible apply Keep.snoc (State.restoreMot_keep _))
    | (with_reducible apply Keep.snoc (State.rewake_keep _ _))
    | (with_reducible apply Keep.snoc (State.settleHealth_keep _))
    | (with_reducible apply Keep.snoc (State.updIsland_live _ _ _))
    | (with_reducible apply Keep.snoc (State.updMod_keep _ _))
    | (with_reducible apply Keep.snoc' (Keep.foldl ?_ _ _))
    | (with_reducible apply And.intro)
    | exact rfl
    | (refine Keep.fst (by assumption) ?_)
    | (refine Keep.snd (by assumption) ?_)
    | split
    | dsimp only

theorem State.react_keep : ∀ a0 a1 s, Keep 17179860048 s (State.react a0 a1 s) := by
  intro a0 a1 s
  unfold State.react
  extract_lets v0 v1
  try clear_value v0
  have h1 : Keep 17179860048 s v1 := by
    unfold v1
    repeat' first
      | with_reducible assumption
      | with_reducible exact Keep.refl _ _
      | intro _
      | (fail_if_no_progress beta_reduce)
      | (with_reducible apply KeepR.next)
      | (with_reducible apply Keep.ite)
      | (with_reducible apply KeepR.ite)
      | (with_reducible apply Keep.ite_fst)
      | (with_reducible apply Keep.snoc (State.driveReset_keep _ _))
      | (with_reducible apply Keep.snoc (State.islandFault_keep _ _))
      | (with_reducible apply Keep.snoc (State.softReset_keep _ _ _))
      | (with_reducible apply Keep.snoc (State.updMod_keep _ _))
      | (with_reducible apply Keep.snoc' (Keep.foldl ?_ _ _))
      | (with_reducible apply And.intro)
      | exact rfl
      | (refine Keep.fst (by assumption) ?_)
      | (refine Keep.snd (by assumption) ?_)
      | split
      | dsimp only
  repeat' first
    | with_reducible assumption
    | with_reducible exact Keep.refl _ _
    | intro _
    | (fail_if_no_progress beta_reduce)
    | (with_reducible apply KeepR.next)
    | (with_reducible apply Keep.ite)
    | (with_reducible apply KeepR.ite)
    | (with_reducible apply Keep.ite_fst)
    | (with_reducible apply Keep.snoc (State.driveReset_keep _ _))
    | (with_reducible apply Keep.snoc (State.islandFault_keep _ _))
    | (with_reducible apply Keep.snoc (State.softReset_keep _ _ _))
    | (with_reducible apply Keep.snoc (State.updMod_keep _ _))
    | (with_reducible apply Keep.snoc' (Keep.foldl ?_ _ _))
    | (with_reducible apply And.intro)
    | exact rfl
    | (refine Keep.fst (by assumption) ?_)
    | (refine Keep.snd (by assumption) ?_)
    | split
    | dsimp only

theorem State.stall_keep : ∀ a0 a1 s, Keep 17179860080 s (State.stall a0 a1 s) := by
  intro a0 a1 s
  unfold State.stall
  repeat' first
    | with_reducible assumption
    | with_reducible exact Keep.refl _ _
    | intro _
    | (fail_if_no_progress beta_reduce)
    | (with_reducible apply KeepR.next)
    | (with_reducible apply Keep.ite)
    | (with_reducible apply KeepR.ite)
    | (with_reducible apply Keep.ite_fst)
    | (with_reducible apply Keep.snoc (State.markStall_keep _ _ _ _))
    | (with_reducible apply Keep.snoc (State.react_keep _ _ _))
    | (with_reducible apply Keep.snoc (State.settleHealth_keep _))
    | (with_reducible apply Keep.snoc' (Keep.foldl ?_ _ _))
    | (with_reducible apply And.intro)
    | exact rfl
    | (refine Keep.fst (by assumption) ?_)
    | (refine Keep.snd (by assumption) ?_)
    | split
    | dsimp only

theorem execIslandWatchdogExpiry_keep : ∀ a0 a1 s, KeepR 17179860080 s (execIslandWatchdogExpiry a0 a1 s) := by
  intro a0 a1 s
  unfold execIslandWatchdogExpiry
  extract_lets v0
  have h0 : Keep 17179860080 s v0 := by
    unfold v0
    repeat' first
      | with_reducible assumption
      | with_reducible exact Keep.refl _ _
      | intro _
      | (fail_if_no_progress beta_reduce)
      | (with_reducible apply KeepR.next)
      | (with_reducible apply Keep.ite)
      | (with_reducible apply KeepR.ite)
      | (with_reducible apply Keep.ite_fst)
      | (with_reducible apply Keep.snoc (State.begin_keep _ _))
      | (with_reducible apply Keep.snoc (State.stall_keep _ _ _))
      | (with_reducible apply Keep.snoc' (Keep.foldl ?_ _ _))
      | (with_reducible apply And.intro)
      | exact rfl
      | (refine Keep.fst (by assumption) ?_)
      | (refine Keep.snd (by assumption) ?_)
      | split
      | dsimp only
  repeat' first
    | with_reducible assumption
    | with_reducible exact Keep.refl _ _
    | intro _
    | (fail_if_no_progress beta_reduce)
    | (with_reducible apply KeepR.next)
    | (with_reducible apply Keep.ite)
    | (with_reducible apply KeepR.ite)
    | (with_reducible apply Keep.ite_fst)
    | (with_reducible apply Keep.snoc (State.begin_keep _ _))
    | (with_reducible apply Keep.snoc (State.stall_keep _ _ _))
    | (with_reducible apply Keep.snoc' (Keep.foldl ?_ _ _))
    | (with_reducible apply And.intro)
    | exact rfl
    | (refine Keep.fst (by assumption) ?_)
    | (refine Keep.snd (by assumption) ?_)
    | split
    | dsimp only

theorem State.deliver_keep : ∀ a0 a1 s, Keep 536871952 s (State.deliver a0 a1 s) := by
  intro a0 a1 s
  unfold State.deliver
  repeat' first
    | with_reducible assumption
    | with_reducible exact Keep.refl _ _
    | intro _
    | (fail_if_no_progress beta_reduce)
    | (with_reducible apply KeepR.next)
    | (with_reducible apply Keep.ite)
    | (with_reducible apply KeepR.ite)
    | (with_reducible apply Keep.ite_fst)
    | (with_reducible apply Keep.snoc (State.ownerWrite_keep _ _ _ _ _ _))
    | (with_reducible apply Keep.snoc' (Keep.foldl ?_ _ _))
    | (with_reducible apply And.intro)
    | exact rfl
    | (refine Keep.fst (by assumption) ?_)
    | (refine Keep.snd (by assumption) ?_)
    | split
    | dsimp only

theorem execCrossingRequest_keep : ∀ a0 a1 a2 a3 a4 s, KeepR 536872016 s (execCrossingRequest a0 a1 a2 a3 a4 s) := by
  intro a0 a1 a2 a3 a4 s
  unfold execCrossingRequest
  extract_lets v0
  have h0 : Keep 536872016 s v0 := by
    unfold v0
    repeat' first
      | with_reducible assumption
      | with_reducible exact Keep.refl _ _
      | intro _
      | (fail_if_no_progress beta_reduce)
      | (with_reducible apply KeepR.next)
      | (with_reducible apply Keep.ite)
      | (with_reducible apply KeepR.ite)
      | (with_reducible apply Keep.ite_fst)
      | (with_reducible apply Keep.mono (State.set_crossings_keep _ _))
      | (with_reducible apply Keep.snoc (State.begin_keep _ _))
      | (with_reducible apply Keep.snoc (State.deliver_keep _ _ _))
      | (with_reducible apply Keep.snoc (State.emit_keep _ _))
      | (with_reducible apply Keep.snoc (State.set_crossings_keep _ _))
      | (with_reducible apply Keep.snoc' (Keep.foldl ?_ _ _))
      | (with_reducible apply And.intro)
      | exact rfl
      | (refine Keep.fst (by assumption) ?_)
      | (refine Keep.snd (by assumption) ?_)
      | split
      | dsimp only
  repeat' first
    | with_reducible assumption
    | with_reducible exact Keep.refl _ _
    | intro _
    | (fail_if_no_progress beta_reduce)
    | (with_reducible apply KeepR.next)
    | (with_reducible apply Keep.ite)
    | (with_reducible apply KeepR.ite)
    | (with_reducible apply Keep.ite_fst)
    | (with_reducible apply Keep.mono (State.set_crossings_keep _ _))
    | (with_reducible apply Keep.snoc (State.begin_keep _ _))
    | (with_reducible apply Keep.snoc (State.deliver_keep _ _ _))
    | (with_reducible apply Keep.snoc (State.emit_keep _ _))
    | (with_reducible apply Keep.snoc (State.set_crossings_keep _ _))
    | (with_reducible apply Keep.snoc' (Keep.foldl ?_ _ _))
    | (with_reducible apply And.intro)
    | exact rfl
    | (refine Keep.fst (by assumption) ?_)
    | (refine Keep.snd (by assumption) ?_)
    | split
    | dsimp only

theorem execCrossingTimeout_keep : ∀ a0 a1 a2 s, KeepR 17179860080 s (execCrossingTimeout a0 a1 a2 s) := by
  intro a0 a1 a2 s
  unfold execCrossingTimeout
  extract_lets v0 v1
  try clear_value v1
  have h0 : Keep 17179860080 s v0 := by
    unfold v0
    repeat' first
      | with_reducible assumption
      | with_reducible exact Keep.refl _ _
      | intro _
      | (fail_if_no_progress beta_reduce)
      | (with_reducible apply KeepR.next)
      | (with_reducible apply Keep.ite)
      | (with_reducible apply KeepR.ite)
      | (with_reducible apply Keep.ite_fst)
      | (with_reducible apply Keep.snoc (State.begin_keep _ _))
      | (with_reducible apply Keep.snoc (State.stall_keep _ _ _))
      | (with_reducible apply Keep.snoc' (Keep.foldl ?_ _ _))
      | (with_reducible apply And.intro)
      | exact rfl
      | (refine Keep.fst (by assumption) ?_)
      | (refine Keep.snd (by assumption) ?_)
      | split
      | dsimp only
  repeat' first
    | with_reducible assumption
    | with_reducible exact Keep.refl _ _
    | intro _
    | (fail_if_no_progress beta_reduce)
    | (with_reducible apply KeepR.next)
    | (with_reducible apply Keep.ite)
    | (with_reducible apply KeepR.ite)
    | (with_reducible apply Keep.ite_fst)
    | (with_reducible apply Keep.snoc (State.begin_keep _ _))
    | (with_reducible apply Keep.snoc (State.stall_keep _ _ _))
    | (with_reducible apply Keep.snoc' (Keep.foldl ?_ _ _))
    | (with_reducible apply And.intro)
    | exact rfl
    | (refine Keep.fst (by assumption) ?_)
    | (refine Keep.snd (by assumption) ?_)
    | split
    | dsimp only

theorem execRecordSubmit_keep : ∀ a0 a1 a2 a3 s, KeepR 536870928 s (execRecordSubmit a0 a1 a2 a3 s) := by
  intro a0 a1 a2 a3 s
  unfold execRecordSubmit
  repeat' first
    | with_reducible assumption
    | with_reducible exact Keep.refl _ _
    | intro _
    | (fail_if_no_progress beta_reduce)
    | (with_reducible apply KeepR.next)
    | (with_reducible apply Keep.ite)
    | (with_reducible apply KeepR.ite)
    | (with_reducible apply Keep.ite_fst)
    | (with_reducible apply Keep.snoc (State.begin_keep _ _))
    | (with_reducible apply Keep.snoc (State.record_keep _ _ _ _))
    | (with_reducible apply Keep.snoc' (Keep.foldl ?_ _ _))
    | (with_reducible apply And.intro)
    | exact rfl
    | (refine Keep.fst (by assumption) ?_)
    | (refine Keep.snd (by assumption) ?_)
    | split
    | dsimp only

theorem execRecordsDropped_keep : ∀ a0 s, KeepR 536870928 s (execRecordsDropped a0 s) := by
  intro a0 s
  unfold execRecordsDropped
  extract_lets v0 v1 v2
  try clear_value v2
  try clear_value v1
  have h0 : Keep 536870928 s v0 := by
    unfold v0
    repeat' first
      | with_reducible assumption
      | with_reducible exact Keep.refl _ _
      | intro _
      | (fail_if_no_progress beta_reduce)
      | (with_reducible apply KeepR.next)
      | (with_reducible apply Keep.ite)
      | (with_reducible apply KeepR.ite)
      | (with_reducible apply Keep.ite_fst)
      | (with_reducible apply Keep.snoc (State.begin_keep _ _))
      | (with_reducible apply Keep.snoc (State.record_keep _ _ _ _))
      | (with_reducible apply Keep.snoc (State.updRec_keep _ _))
      | (with_reducible apply Keep.snoc' (Keep.foldl ?_ _ _))
      | (with_reducible apply And.intro)
      | exact rfl
      | (refine Keep.fst (by assumption) ?_)
      | (refine Keep.snd (by assumption) ?_)
      | split
      | dsimp only
  repeat' first
    | with_reducible assumption
    | with_reducible exact Keep.refl _ _
    | intro _
    | (fail_if_no_progress beta_reduce)
    | (with_reducible apply KeepR.next)
    | (with_reducible apply Keep.ite)
    | (with_reducible apply KeepR.ite)
    | (with_reducible apply Keep.ite_fst)
    | (with_reducible apply Keep.snoc (State.begin_keep _ _))
    | (with_reducible apply Keep.snoc (State.record_keep _ _ _ _))
    | (with_reducible apply Keep.snoc (State.updRec_keep _ _))
    | (with_reducible apply Keep.snoc' (Keep.foldl ?_ _ _))
    | (with_reducible apply And.intro)
    | exact rfl
    | (refine Keep.fst (by assumption) ?_)
    | (refine Keep.snd (by assumption) ?_)
    | split
    | dsimp only

theorem State.expire_keep : ∀ a0 s, Keep 9492776016 s (State.expire a0 s) := by
  intro a0 s
  unfold State.expire
  extract_lets v0
  try clear_value v0
  repeat' first
    | with_reducible assumption
    | with_reducible exact Keep.refl _ _
    | intro _
    | (fail_if_no_progress beta_reduce)
    | (with_reducible apply KeepR.next)
    | (with_reducible apply Keep.ite)
    | (with_reducible apply KeepR.ite)
    | (with_reducible apply Keep.ite_fst)
    | (with_reducible apply Keep.snoc (State.ackExpires_keep _ _))
    | (with_reducible apply Keep.snoc (State.afterLock_keep _ _))
    | (with_reducible apply Keep.snoc (State.heartbeatLost_keep _ _))
    | (with_reducible apply Keep.snoc (State.ioExpired_keep _))
    | (with_reducible apply Keep.snoc (State.lockSf_keep _ _ _))
    | (with_reducible apply Keep.snoc (State.stationDown_keep _ _))
    | (with_reducible apply Keep.snoc (State.watchdogLost_keep _ _))
    | (with_reducible apply Keep.snoc' (Keep.foldl ?_ _ _))
    | (with_reducible apply And.intro)
    | exact rfl
    | (refine Keep.fst (by assumption) ?_)
    | (refine Keep.snd (by assumption) ?_)
    | split
    | dsimp only

theorem State.decideExpiry_keep : ∀ a0 s, Keep 9492776016 s (State.decideExpiry a0 s) := by
  intro a0 s
  unfold State.decideExpiry
  repeat' first
    | with_reducible assumption
    | with_reducible exact Keep.refl _ _
    | intro _
    | (fail_if_no_progress beta_reduce)
    | (with_reducible apply KeepR.next)
    | (with_reducible apply Keep.ite)
    | (with_reducible apply KeepR.ite)
    | (with_reducible apply Keep.ite_fst)
    | (with_reducible apply Keep.snoc (State.expire_keep _ _))
    | (with_reducible apply Keep.snoc' (Keep.foldl ?_ _ _))
    | (with_reducible apply And.intro)
    | exact rfl
    | (refine Keep.fst (by assumption) ?_)
    | (refine Keep.snd (by assumption) ?_)
    | split
    | dsimp only

theorem execTimeoutDecisionDeferred_keep : ∀ a0 a1 a2 a3 s, KeepR 9492776144 s (execTimeoutDecisionDeferred a0 a1 a2 a3 s) := by
  intro a0 a1 a2 a3 s
  unfold execTimeoutDecisionDeferred
  extract_lets v0 v1
  try clear_value v1
  have h0 : Keep 9492776144 s v0 := by
    unfold v0
    repeat' first
      | with_reducible assumption
      | with_reducible exact Keep.refl _ _
      | intro _
      | (fail_if_no_progress beta_reduce)
      | (with_reducible apply KeepR.next)
      | (with_reducible apply Keep.ite)
      | (with_reducible apply KeepR.ite)
      | (with_reducible apply Keep.ite_fst)
      | (with_reducible apply Keep.mono (State.set_deferred_keep _ _))
      | (with_reducible apply Keep.snoc (State.begin_keep _ _))
      | (with_reducible apply Keep.snoc (State.decideExpiry_keep _ _))
      | (with_reducible apply Keep.snoc (State.set_deferred_keep _ _))
      | (with_reducible apply Keep.snoc' (Keep.foldl ?_ _ _))
      | (with_reducible apply And.intro)
      | exact rfl
      | (refine Keep.fst (by assumption) ?_)
      | (refine Keep.snd (by assumption) ?_)
      | split
      | dsimp only
  repeat' first
    | with_reducible assumption
    | with_reducible exact Keep.refl _ _
    | intro _
    | (fail_if_no_progress beta_reduce)
    | (with_reducible apply KeepR.next)
    | (with_reducible apply Keep.ite)
    | (with_reducible apply KeepR.ite)
    | (with_reducible apply Keep.ite_fst)
    | (with_reducible apply Keep.mono (State.set_deferred_keep _ _))
    | (with_reducible apply Keep.snoc (State.begin_keep _ _))
    | (with_reducible apply Keep.snoc (State.decideExpiry_keep _ _))
    | (with_reducible apply Keep.snoc (State.set_deferred_keep _ _))
    | (with_reducible apply Keep.snoc' (Keep.foldl ?_ _ _))
    | (with_reducible apply And.intro)
    | exact rfl
    | (refine Keep.fst (by assumption) ?_)
    | (refine Keep.snd (by assumption) ?_)
    | split
    | dsimp only

theorem execIslandReset_keep : ∀ a0 a1 a2 s, KeepR 17175665776 s (execIslandReset a0 a1 a2 s) := by
  intro a0 a1 a2 s
  unfold execIslandReset
  extract_lets v0 v1
  try clear_value v1
  have h0 : Keep 17175665776 s v0 := by
    unfold v0
    repeat' first
      | with_reducible assumption
      | with_reducible exact Keep.refl _ _
      | intro _
      | (fail_if_no_progress beta_reduce)
      | (with_reducible apply KeepR.next)
      | (with_reducible apply Keep.ite)
      | (with_reducible apply KeepR.ite)
      | (with_reducible apply Keep.ite_fst)
      | (with_reducible apply Keep.snoc (State.begin_keep _ _))
      | (with_reducible apply Keep.snoc (State.markStall_keep _ _ _ _))
      | (with_reducible apply Keep.snoc (State.settleHealth_keep _))
      | (with_reducible apply Keep.snoc (State.softReset_keep _ _ _))
      | (with_reducible apply Keep.snoc (State.updMod_keep _ _))
      | (with_reducible apply serve_keep)
      | (with_reducible apply Keep.snoc' (Keep.foldl ?_ _ _))
      | (with_reducible apply And.intro)
      | exact rfl
      | (refine Keep.fst (by assumption) ?_)
      | (refine Keep.snd (by assumption) ?_)
      | split
      | dsimp only
  repeat' first
    | with_reducible assumption
    | with_reducible exact Keep.refl _ _
    | intro _
    | (fail_if_no_progress beta_reduce)
    | (with_reducible apply KeepR.next)
    | (with_reducible apply Keep.ite)
    | (with_reducible apply KeepR.ite)
    | (with_reducible apply Keep.ite_fst)
    | (with_reducible apply Keep.snoc (State.begin_keep _ _))
    | (with_reducible apply Keep.snoc (State.markStall_keep _ _ _ _))
    | (with_reducible apply Keep.snoc (State.settleHealth_keep _))
    | (with_reducible apply Keep.snoc (State.softReset_keep _ _ _))
    | (with_reducible apply Keep.snoc (State.updMod_keep _ _))
    | (with_reducible apply serve_keep)
    | (with_reducible apply Keep.snoc' (Keep.foldl ?_ _ _))
    | (with_reducible apply And.intro)
    | exact rfl
    | (refine Keep.fst (by assumption) ?_)
    | (refine Keep.snd (by assumption) ?_)
    | split
    | dsimp only

theorem State.powerUp_keep : ∀ a0 a1 a2 s, Keep 17175665776 s (State.powerUp a0 a1 a2 s) := by
  intro a0 a1 a2 s
  unfold State.powerUp
  repeat' first
    | with_reducible assumption
    | with_reducible exact Keep.refl _ _
    | intro _
    | (fail_if_no_progress beta_reduce)
    | (with_reducible apply KeepR.next)
    | (with_reducible apply Keep.ite)
    | (with_reducible apply KeepR.ite)
    | (with_reducible apply Keep.ite_fst)
    | (with_reducible apply Keep.snoc (State.bumpEpoch_keep _ _))
    | (with_reducible apply Keep.snoc (State.clearReceived_keep _ _))
    | (with_reducible apply Keep.snoc (State.complete_keep _ _ _))
    | (with_reducible apply Keep.snoc (State.setDomain_keep _ _ _))
    | (with_reducible apply Keep.snoc (State.softReset_keep _ _ _))
    | (with_reducible apply Keep.snoc (State.updIsland_live _ _ _))
    | (with_reducible apply Keep.snoc (State.updMb_keep _ _))
    | (with_reducible apply Keep.snoc' (Keep.foldl ?_ _ _))
    | (with_reducible apply And.intro)
    | exact rfl
    | (refine Keep.fst (by assumption) ?_)
    | (refine Keep.snd (by assumption) ?_)
    | split
    | dsimp only

theorem execDomainPower_keep : ∀ a0 a1 a2 s, KeepR 17175665776 s (execDomainPower a0 a1 a2 s) := by
  intro a0 a1 a2 s
  unfold execDomainPower
  extract_lets v0 v1 v2
  try clear_value v2
  try clear_value v1
  have h0 : Keep 17175665776 s v0 := by
    unfold v0
    repeat' first
      | with_reducible assumption
      | with_reducible exact Keep.refl _ _
      | intro _
      | (fail_if_no_progress beta_reduce)
      | (with_reducible apply KeepR.next)
      | (with_reducible apply Keep.ite)
      | (with_reducible apply KeepR.ite)
      | (with_reducible apply Keep.ite_fst)
      | (with_reducible apply Keep.snoc (State.begin_keep _ _))
      | (with_reducible apply Keep.snoc (State.complete_keep _ _ _))
      | (with_reducible apply Keep.snoc (State.powerUp_keep _ _ _ _))
      | (with_reducible apply Keep.snoc (State.setDomain_keep _ _ _))
      | (with_reducible apply serve_keep)
      | (with_reducible apply Keep.snoc' (Keep.foldl ?_ _ _))
      | (with_reducible apply And.intro)
      | exact rfl
      | (refine Keep.fst (by assumption) ?_)
      | (refine Keep.snd (by assumption) ?_)
      | split
      | dsimp only
  repeat' first
    | with_reducible assumption
    | with_reducible exact Keep.refl _ _
    | intro _
    | (fail_if_no_progress beta_reduce)
    | (with_reducible apply KeepR.next)
    | (with_reducible apply Keep.ite)
    | (with_reducible apply KeepR.ite)
    | (with_reducible apply Keep.ite_fst)
    | (with_reducible apply Keep.snoc (State.begin_keep _ _))
    | (with_reducible apply Keep.snoc (State.complete_keep _ _ _))
    | (with_reducible apply Keep.snoc (State.powerUp_keep _ _ _ _))
    | (with_reducible apply Keep.snoc (State.setDomain_keep _ _ _))
    | (with_reducible apply serve_keep)
    | (with_reducible apply Keep.snoc' (Keep.foldl ?_ _ _))
    | (with_reducible apply And.intro)
    | exact rfl
    | (refine Keep.fst (by assumption) ?_)
    | (refine Keep.snd (by assumption) ?_)
    | split
    | dsimp only

end Sys2Proof.Machine
end

