-- ==== Sys2Proof/Laws/State.lean ====
section
/-! SUPPORT. What each update of the state does to each field of it: the changed field has its new value, every other field is that of
the state before. -/

namespace Sys2Proof.Machine

variable (s : State)

/-! ### updCell -/

section
variable (i : Fin 128) (f : Cell → Cell)
@[simp] theorem State.updCell_clock : (s.updCell i f).clock = s.clock := rfl
@[simp] theorem State.updCell_tick : (s.updCell i f).tick = s.tick := rfl
@[simp] theorem State.updCell_tickAt : (s.updCell i f).tickAt = s.tickAt := rfl
@[simp] theorem State.updCell_laneSeq : (s.updCell i f).laneSeq = s.laneSeq := rfl
@[simp] theorem State.updCell_pulseRound : (s.updCell i f).pulseRound = s.pulseRound := rfl
@[simp] theorem State.updCell_roundIdx : (s.updCell i f).roundIdx = s.roundIdx := rfl
@[simp] theorem State.updCell_islands : (s.updCell i f).islands = s.islands := rfl
@[simp] theorem State.updCell_crossings : (s.updCell i f).crossings = s.crossings := rfl
@[simp] theorem State.updCell_deferred : (s.updCell i f).deferred = s.deferred := rfl
@[simp] theorem State.updCell_cells : (s.updCell i f).cells = s.cells.set i (f s.cells[i]) := rfl
@[simp] theorem State.updCell_gfes : (s.updCell i f).gfes = s.gfes := rfl
@[simp] theorem State.updCell_chans : (s.updCell i f).chans = s.chans := rfl
@[simp] theorem State.updCell_groups : (s.updCell i f).groups = s.groups := rfl
@[simp] theorem State.updCell_harts : (s.updCell i f).harts = s.harts := rfl
@[simp] theorem State.updCell_chars : (s.updCell i f).chars = s.chars := rfl
@[simp] theorem State.updCell_prg : (s.updCell i f).prg = s.prg := rfl
@[simp] theorem State.updCell_xch : (s.updCell i f).xch = s.xch := rfl
@[simp] theorem State.updCell_loops : (s.updCell i f).loops = s.loops := rfl
@[simp] theorem State.updCell_overs : (s.updCell i f).overs = s.overs := rfl
@[simp] theorem State.updCell_tune : (s.updCell i f).tune = s.tune := rfl
@[simp] theorem State.updCell_axes : (s.updCell i f).axes = s.axes := rfl
@[simp] theorem State.updCell_tables : (s.updCell i f).tables = s.tables := rfl
@[simp] theorem State.updCell_saf : (s.updCell i f).saf = s.saf := rfl
@[simp] theorem State.updCell_ring : (s.updCell i f).ring = s.ring := rfl
@[simp] theorem State.updCell_pair : (s.updCell i f).pair = s.pair := rfl
@[simp] theorem State.updCell_time : (s.updCell i f).time = s.time := rfl
@[simp] theorem State.updCell_hif : (s.updCell i f).hif = s.hif := rfl
@[simp] theorem State.updCell_regs : (s.updCell i f).regs = s.regs := rfl
@[simp] theorem State.updCell_mb : (s.updCell i f).mb = s.mb := rfl
@[simp] theorem State.updCell_recorder : (s.updCell i f).recorder = s.recorder := rfl
@[simp] theorem State.updCell_stores : (s.updCell i f).stores = s.stores := rfl
@[simp] theorem State.updCell_disp : (s.updCell i f).disp = s.disp := rfl
@[simp] theorem State.updCell_mod : (s.updCell i f).mod = s.mod := rfl
@[simp] theorem State.updCell_free : (s.updCell i f).free = s.free := rfl
@[simp] theorem State.updCell_out : (s.updCell i f).out = s.out := rfl
@[simp] theorem State.updCell_pending : (s.updCell i f).pending = s.pending := rfl
end

/-! ### updGfe -/

section
variable (g : Fin 8) (f : GroupCtl → GroupCtl)
@[simp] theorem State.updGfe_clock : (s.updGfe g f).clock = s.clock := rfl
@[simp] theorem State.updGfe_tick : (s.updGfe g f).tick = s.tick := rfl
@[simp] theorem State.updGfe_tickAt : (s.updGfe g f).tickAt = s.tickAt := rfl
@[simp] theorem State.updGfe_laneSeq : (s.updGfe g f).laneSeq = s.laneSeq := rfl
@[simp] theorem State.updGfe_pulseRound : (s.updGfe g f).pulseRound = s.pulseRound := rfl
@[simp] theorem State.updGfe_roundIdx : (s.updGfe g f).roundIdx = s.roundIdx := rfl
@[simp] theorem State.updGfe_islands : (s.updGfe g f).islands = s.islands := rfl
@[simp] theorem State.updGfe_crossings : (s.updGfe g f).crossings = s.crossings := rfl
@[simp] theorem State.updGfe_deferred : (s.updGfe g f).deferred = s.deferred := rfl
@[simp] theorem State.updGfe_cells : (s.updGfe g f).cells = s.cells := rfl
@[simp] theorem State.updGfe_gfes : (s.updGfe g f).gfes = s.gfes.set g (f s.gfes[g]) := rfl
@[simp] theorem State.updGfe_chans : (s.updGfe g f).chans = s.chans := rfl
@[simp] theorem State.updGfe_groups : (s.updGfe g f).groups = s.groups := rfl
@[simp] theorem State.updGfe_harts : (s.updGfe g f).harts = s.harts := rfl
@[simp] theorem State.updGfe_chars : (s.updGfe g f).chars = s.chars := rfl
@[simp] theorem State.updGfe_prg : (s.updGfe g f).prg = s.prg := rfl
@[simp] theorem State.updGfe_xch : (s.updGfe g f).xch = s.xch := rfl
@[simp] theorem State.updGfe_loops : (s.updGfe g f).loops = s.loops := rfl
@[simp] theorem State.updGfe_overs : (s.updGfe g f).overs = s.overs := rfl
@[simp] theorem State.updGfe_tune : (s.updGfe g f).tune = s.tune := rfl
@[simp] theorem State.updGfe_axes : (s.updGfe g f).axes = s.axes := rfl
@[simp] theorem State.updGfe_tables : (s.updGfe g f).tables = s.tables := rfl
@[simp] theorem State.updGfe_saf : (s.updGfe g f).saf = s.saf := rfl
@[simp] theorem State.updGfe_ring : (s.updGfe g f).ring = s.ring := rfl
@[simp] theorem State.updGfe_pair : (s.updGfe g f).pair = s.pair := rfl
@[simp] theorem State.updGfe_time : (s.updGfe g f).time = s.time := rfl
@[simp] theorem State.updGfe_hif : (s.updGfe g f).hif = s.hif := rfl
@[simp] theorem State.updGfe_regs : (s.updGfe g f).regs = s.regs := rfl
@[simp] theorem State.updGfe_mb : (s.updGfe g f).mb = s.mb := rfl
@[simp] theorem State.updGfe_recorder : (s.updGfe g f).recorder = s.recorder := rfl
@[simp] theorem State.updGfe_stores : (s.updGfe g f).stores = s.stores := rfl
@[simp] theorem State.updGfe_disp : (s.updGfe g f).disp = s.disp := rfl
@[simp] theorem State.updGfe_mod : (s.updGfe g f).mod = s.mod := rfl
@[simp] theorem State.updGfe_free : (s.updGfe g f).free = s.free := rfl
@[simp] theorem State.updGfe_out : (s.updGfe g f).out = s.out := rfl
@[simp] theorem State.updGfe_pending : (s.updGfe g f).pending = s.pending := rfl
end

/-! ### updChan -/

section
variable (i : Fin 128) (f : Chan → Chan)
@[simp] theorem State.updChan_clock : (s.updChan i f).clock = s.clock := rfl
@[simp] theorem State.updChan_tick : (s.updChan i f).tick = s.tick := rfl
@[simp] theorem State.updChan_tickAt : (s.updChan i f).tickAt = s.tickAt := rfl
@[simp] theorem State.updChan_laneSeq : (s.updChan i f).laneSeq = s.laneSeq := rfl
@[simp] theorem State.updChan_pulseRound : (s.updChan i f).pulseRound = s.pulseRound := rfl
@[simp] theorem State.updChan_roundIdx : (s.updChan i f).roundIdx = s.roundIdx := rfl
@[simp] theorem State.updChan_islands : (s.updChan i f).islands = s.islands := rfl
@[simp] theorem State.updChan_crossings : (s.updChan i f).crossings = s.crossings := rfl
@[simp] theorem State.updChan_deferred : (s.updChan i f).deferred = s.deferred := rfl
@[simp] theorem State.updChan_cells : (s.updChan i f).cells = s.cells := rfl
@[simp] theorem State.updChan_gfes : (s.updChan i f).gfes = s.gfes := rfl
@[simp] theorem State.updChan_chans : (s.updChan i f).chans = s.chans.set i (f s.chans[i]) := rfl
@[simp] theorem State.updChan_groups : (s.updChan i f).groups = s.groups := rfl
@[simp] theorem State.updChan_harts : (s.updChan i f).harts = s.harts := rfl
@[simp] theorem State.updChan_chars : (s.updChan i f).chars = s.chars := rfl
@[simp] theorem State.updChan_prg : (s.updChan i f).prg = s.prg := rfl
@[simp] theorem State.updChan_xch : (s.updChan i f).xch = s.xch := rfl
@[simp] theorem State.updChan_loops : (s.updChan i f).loops = s.loops := rfl
@[simp] theorem State.updChan_overs : (s.updChan i f).overs = s.overs := rfl
@[simp] theorem State.updChan_tune : (s.updChan i f).tune = s.tune := rfl
@[simp] theorem State.updChan_axes : (s.updChan i f).axes = s.axes := rfl
@[simp] theorem State.updChan_tables : (s.updChan i f).tables = s.tables := rfl
@[simp] theorem State.updChan_saf : (s.updChan i f).saf = s.saf := rfl
@[simp] theorem State.updChan_ring : (s.updChan i f).ring = s.ring := rfl
@[simp] theorem State.updChan_pair : (s.updChan i f).pair = s.pair := rfl
@[simp] theorem State.updChan_time : (s.updChan i f).time = s.time := rfl
@[simp] theorem State.updChan_hif : (s.updChan i f).hif = s.hif := rfl
@[simp] theorem State.updChan_regs : (s.updChan i f).regs = s.regs := rfl
@[simp] theorem State.updChan_mb : (s.updChan i f).mb = s.mb := rfl
@[simp] theorem State.updChan_recorder : (s.updChan i f).recorder = s.recorder := rfl
@[simp] theorem State.updChan_stores : (s.updChan i f).stores = s.stores := rfl
@[simp] theorem State.updChan_disp : (s.updChan i f).disp = s.disp := rfl
@[simp] theorem State.updChan_mod : (s.updChan i f).mod = s.mod := rfl
@[simp] theorem State.updChan_free : (s.updChan i f).free = s.free := rfl
@[simp] theorem State.updChan_out : (s.updChan i f).out = s.out := rfl
@[simp] theorem State.updChan_pending : (s.updChan i f).pending = s.pending := rfl
end

/-! ### updGroup -/

section
variable (g : Fin 8) (f : Group → Group)
@[simp] theorem State.updGroup_clock : (s.updGroup g f).clock = s.clock := rfl
@[simp] theorem State.updGroup_tick : (s.updGroup g f).tick = s.tick := rfl
@[simp] theorem State.updGroup_tickAt : (s.updGroup g f).tickAt = s.tickAt := rfl
@[simp] theorem State.updGroup_laneSeq : (s.updGroup g f).laneSeq = s.laneSeq := rfl
@[simp] theorem State.updGroup_pulseRound : (s.updGroup g f).pulseRound = s.pulseRound := rfl
@[simp] theorem State.updGroup_roundIdx : (s.updGroup g f).roundIdx = s.roundIdx := rfl
@[simp] theorem State.updGroup_islands : (s.updGroup g f).islands = s.islands := rfl
@[simp] theorem State.updGroup_crossings : (s.updGroup g f).crossings = s.crossings := rfl
@[simp] theorem State.updGroup_deferred : (s.updGroup g f).deferred = s.deferred := rfl
@[simp] theorem State.updGroup_cells : (s.updGroup g f).cells = s.cells := rfl
@[simp] theorem State.updGroup_gfes : (s.updGroup g f).gfes = s.gfes := rfl
@[simp] theorem State.updGroup_chans : (s.updGroup g f).chans = s.chans := rfl
@[simp] theorem State.updGroup_groups : (s.updGroup g f).groups = s.groups.set g (f s.groups[g]) := rfl
@[simp] theorem State.updGroup_harts : (s.updGroup g f).harts = s.harts := rfl
@[simp] theorem State.updGroup_chars : (s.updGroup g f).chars = s.chars := rfl
@[simp] theorem State.updGroup_prg : (s.updGroup g f).prg = s.prg := rfl
@[simp] theorem State.updGroup_xch : (s.updGroup g f).xch = s.xch := rfl
@[simp] theorem State.updGroup_loops : (s.updGroup g f).loops = s.loops := rfl
@[simp] theorem State.updGroup_overs : (s.updGroup g f).overs = s.overs := rfl
@[simp] theorem State.updGroup_tune : (s.updGroup g f).tune = s.tune := rfl
@[simp] theorem State.updGroup_axes : (s.updGroup g f).axes = s.axes := rfl
@[simp] theorem State.updGroup_tables : (s.updGroup g f).tables = s.tables := rfl
@[simp] theorem State.updGroup_saf : (s.updGroup g f).saf = s.saf := rfl
@[simp] theorem State.updGroup_ring : (s.updGroup g f).ring = s.ring := rfl
@[simp] theorem State.updGroup_pair : (s.updGroup g f).pair = s.pair := rfl
@[simp] theorem State.updGroup_time : (s.updGroup g f).time = s.time := rfl
@[simp] theorem State.updGroup_hif : (s.updGroup g f).hif = s.hif := rfl
@[simp] theorem State.updGroup_regs : (s.updGroup g f).regs = s.regs := rfl
@[simp] theorem State.updGroup_mb : (s.updGroup g f).mb = s.mb := rfl
@[simp] theorem State.updGroup_recorder : (s.updGroup g f).recorder = s.recorder := rfl
@[simp] theorem State.updGroup_stores : (s.updGroup g f).stores = s.stores := rfl
@[simp] theorem State.updGroup_disp : (s.updGroup g f).disp = s.disp := rfl
@[simp] theorem State.updGroup_mod : (s.updGroup g f).mod = s.mod := rfl
@[simp] theorem State.updGroup_free : (s.updGroup g f).free = s.free := rfl
@[simp] theorem State.updGroup_out : (s.updGroup g f).out = s.out := rfl
@[simp] theorem State.updGroup_pending : (s.updGroup g f).pending = s.pending := rfl
end

/-! ### updHart -/

section
variable (i : Fin 128) (f : Hart → Hart)
@[simp] theorem State.updHart_clock : (s.updHart i f).clock = s.clock := rfl
@[simp] theorem State.updHart_tick : (s.updHart i f).tick = s.tick := rfl
@[simp] theorem State.updHart_tickAt : (s.updHart i f).tickAt = s.tickAt := rfl
@[simp] theorem State.updHart_laneSeq : (s.updHart i f).laneSeq = s.laneSeq := rfl
@[simp] theorem State.updHart_pulseRound : (s.updHart i f).pulseRound = s.pulseRound := rfl
@[simp] theorem State.updHart_roundIdx : (s.updHart i f).roundIdx = s.roundIdx := rfl
@[simp] theorem State.updHart_islands : (s.updHart i f).islands = s.islands := rfl
@[simp] theorem State.updHart_crossings : (s.updHart i f).crossings = s.crossings := rfl
@[simp] theorem State.updHart_deferred : (s.updHart i f).deferred = s.deferred := rfl
@[simp] theorem State.updHart_cells : (s.updHart i f).cells = s.cells := rfl
@[simp] theorem State.updHart_gfes : (s.updHart i f).gfes = s.gfes := rfl
@[simp] theorem State.updHart_chans : (s.updHart i f).chans = s.chans := rfl
@[simp] theorem State.updHart_groups : (s.updHart i f).groups = s.groups := rfl
@[simp] theorem State.updHart_harts : (s.updHart i f).harts = s.harts.set i (f s.harts[i]) := rfl
@[simp] theorem State.updHart_chars : (s.updHart i f).chars = s.chars := rfl
@[simp] theorem State.updHart_prg : (s.updHart i f).prg = s.prg := rfl
@[simp] theorem State.updHart_xch : (s.updHart i f).xch = s.xch := rfl
@[simp] theorem State.updHart_loops : (s.updHart i f).loops = s.loops := rfl
@[simp] theorem State.updHart_overs : (s.updHart i f).overs = s.overs := rfl
@[simp] theorem State.updHart_tune : (s.updHart i f).tune = s.tune := rfl
@[simp] theorem State.updHart_axes : (s.updHart i f).axes = s.axes := rfl
@[simp] theorem State.updHart_tables : (s.updHart i f).tables = s.tables := rfl
@[simp] theorem State.updHart_saf : (s.updHart i f).saf = s.saf := rfl
@[simp] theorem State.updHart_ring : (s.updHart i f).ring = s.ring := rfl
@[simp] theorem State.updHart_pair : (s.updHart i f).pair = s.pair := rfl
@[simp] theorem State.updHart_time : (s.updHart i f).time = s.time := rfl
@[simp] theorem State.updHart_hif : (s.updHart i f).hif = s.hif := rfl
@[simp] theorem State.updHart_regs : (s.updHart i f).regs = s.regs := rfl
@[simp] theorem State.updHart_mb : (s.updHart i f).mb = s.mb := rfl
@[simp] theorem State.updHart_recorder : (s.updHart i f).recorder = s.recorder := rfl
@[simp] theorem State.updHart_stores : (s.updHart i f).stores = s.stores := rfl
@[simp] theorem State.updHart_disp : (s.updHart i f).disp = s.disp := rfl
@[simp] theorem State.updHart_mod : (s.updHart i f).mod = s.mod := rfl
@[simp] theorem State.updHart_free : (s.updHart i f).free = s.free := rfl
@[simp] theorem State.updHart_out : (s.updHart i f).out = s.out := rfl
@[simp] theorem State.updHart_pending : (s.updHart i f).pending = s.pending := rfl
end

/-! ### updLoop -/

section
variable (i : Fin 64) (f : Loop → Loop)
@[simp] theorem State.updLoop_clock : (s.updLoop i f).clock = s.clock := rfl
@[simp] theorem State.updLoop_tick : (s.updLoop i f).tick = s.tick := rfl
@[simp] theorem State.updLoop_tickAt : (s.updLoop i f).tickAt = s.tickAt := rfl
@[simp] theorem State.updLoop_laneSeq : (s.updLoop i f).laneSeq = s.laneSeq := rfl
@[simp] theorem State.updLoop_pulseRound : (s.updLoop i f).pulseRound = s.pulseRound := rfl
@[simp] theorem State.updLoop_roundIdx : (s.updLoop i f).roundIdx = s.roundIdx := rfl
@[simp] theorem State.updLoop_islands : (s.updLoop i f).islands = s.islands := rfl
@[simp] theorem State.updLoop_crossings : (s.updLoop i f).crossings = s.crossings := rfl
@[simp] theorem State.updLoop_deferred : (s.updLoop i f).deferred = s.deferred := rfl
@[simp] theorem State.updLoop_cells : (s.updLoop i f).cells = s.cells := rfl
@[simp] theorem State.updLoop_gfes : (s.updLoop i f).gfes = s.gfes := rfl
@[simp] theorem State.updLoop_chans : (s.updLoop i f).chans = s.chans := rfl
@[simp] theorem State.updLoop_groups : (s.updLoop i f).groups = s.groups := rfl
@[simp] theorem State.updLoop_harts : (s.updLoop i f).harts = s.harts := rfl
@[simp] theorem State.updLoop_chars : (s.updLoop i f).chars = s.chars := rfl
@[simp] theorem State.updLoop_prg : (s.updLoop i f).prg = s.prg := rfl
@[simp] theorem State.updLoop_xch : (s.updLoop i f).xch = s.xch := rfl
@[simp] theorem State.updLoop_loops : (s.updLoop i f).loops = s.loops.set i (f s.loops[i]) := rfl
@[simp] theorem State.updLoop_overs : (s.updLoop i f).overs = s.overs := rfl
@[simp] theorem State.updLoop_tune : (s.updLoop i f).tune = s.tune := rfl
@[simp] theorem State.updLoop_axes : (s.updLoop i f).axes = s.axes := rfl
@[simp] theorem State.updLoop_tables : (s.updLoop i f).tables = s.tables := rfl
@[simp] theorem State.updLoop_saf : (s.updLoop i f).saf = s.saf := rfl
@[simp] theorem State.updLoop_ring : (s.updLoop i f).ring = s.ring := rfl
@[simp] theorem State.updLoop_pair : (s.updLoop i f).pair = s.pair := rfl
@[simp] theorem State.updLoop_time : (s.updLoop i f).time = s.time := rfl
@[simp] theorem State.updLoop_hif : (s.updLoop i f).hif = s.hif := rfl
@[simp] theorem State.updLoop_regs : (s.updLoop i f).regs = s.regs := rfl
@[simp] theorem State.updLoop_mb : (s.updLoop i f).mb = s.mb := rfl
@[simp] theorem State.updLoop_recorder : (s.updLoop i f).recorder = s.recorder := rfl
@[simp] theorem State.updLoop_stores : (s.updLoop i f).stores = s.stores := rfl
@[simp] theorem State.updLoop_disp : (s.updLoop i f).disp = s.disp := rfl
@[simp] theorem State.updLoop_mod : (s.updLoop i f).mod = s.mod := rfl
@[simp] theorem State.updLoop_free : (s.updLoop i f).free = s.free := rfl
@[simp] theorem State.updLoop_out : (s.updLoop i f).out = s.out := rfl
@[simp] theorem State.updLoop_pending : (s.updLoop i f).pending = s.pending := rfl
end

/-! ### updOver -/

section
variable (i : Fin 8) (f : Override → Override)
@[simp] theorem State.updOver_clock : (s.updOver i f).clock = s.clock := rfl
@[simp] theorem State.updOver_tick : (s.updOver i f).tick = s.tick := rfl
@[simp] theorem State.updOver_tickAt : (s.updOver i f).tickAt = s.tickAt := rfl
@[simp] theorem State.updOver_laneSeq : (s.updOver i f).laneSeq = s.laneSeq := rfl
@[simp] theorem State.updOver_pulseRound : (s.updOver i f).pulseRound = s.pulseRound := rfl
@[simp] theorem State.updOver_roundIdx : (s.updOver i f).roundIdx = s.roundIdx := rfl
@[simp] theorem State.updOver_islands : (s.updOver i f).islands = s.islands := rfl
@[simp] theorem State.updOver_crossings : (s.updOver i f).crossings = s.crossings := rfl
@[simp] theorem State.updOver_deferred : (s.updOver i f).deferred = s.deferred := rfl
@[simp] theorem State.updOver_cells : (s.updOver i f).cells = s.cells := rfl
@[simp] theorem State.updOver_gfes : (s.updOver i f).gfes = s.gfes := rfl
@[simp] theorem State.updOver_chans : (s.updOver i f).chans = s.chans := rfl
@[simp] theorem State.updOver_groups : (s.updOver i f).groups = s.groups := rfl
@[simp] theorem State.updOver_harts : (s.updOver i f).harts = s.harts := rfl
@[simp] theorem State.updOver_chars : (s.updOver i f).chars = s.chars := rfl
@[simp] theorem State.updOver_prg : (s.updOver i f).prg = s.prg := rfl
@[simp] theorem State.updOver_xch : (s.updOver i f).xch = s.xch := rfl
@[simp] theorem State.updOver_loops : (s.updOver i f).loops = s.loops := rfl
@[simp] theorem State.updOver_overs : (s.updOver i f).overs = s.overs.set i (f s.overs[i]) := rfl
@[simp] theorem State.updOver_tune : (s.updOver i f).tune = s.tune := rfl
@[simp] theorem State.updOver_axes : (s.updOver i f).axes = s.axes := rfl
@[simp] theorem State.updOver_tables : (s.updOver i f).tables = s.tables := rfl
@[simp] theorem State.updOver_saf : (s.updOver i f).saf = s.saf := rfl
@[simp] theorem State.updOver_ring : (s.updOver i f).ring = s.ring := rfl
@[simp] theorem State.updOver_pair : (s.updOver i f).pair = s.pair := rfl
@[simp] theorem State.updOver_time : (s.updOver i f).time = s.time := rfl
@[simp] theorem State.updOver_hif : (s.updOver i f).hif = s.hif := rfl
@[simp] theorem State.updOver_regs : (s.updOver i f).regs = s.regs := rfl
@[simp] theorem State.updOver_mb : (s.updOver i f).mb = s.mb := rfl
@[simp] theorem State.updOver_recorder : (s.updOver i f).recorder = s.recorder := rfl
@[simp] theorem State.updOver_stores : (s.updOver i f).stores = s.stores := rfl
@[simp] theorem State.updOver_disp : (s.updOver i f).disp = s.disp := rfl
@[simp] theorem State.updOver_mod : (s.updOver i f).mod = s.mod := rfl
@[simp] theorem State.updOver_free : (s.updOver i f).free = s.free := rfl
@[simp] theorem State.updOver_out : (s.updOver i f).out = s.out := rfl
@[simp] theorem State.updOver_pending : (s.updOver i f).pending = s.pending := rfl
end

/-! ### updAxis -/

section
variable (i : Fin 16) (f : Axis → Axis)
@[simp] theorem State.updAxis_clock : (s.updAxis i f).clock = s.clock := rfl
@[simp] theorem State.updAxis_tick : (s.updAxis i f).tick = s.tick := rfl
@[simp] theorem State.updAxis_tickAt : (s.updAxis i f).tickAt = s.tickAt := rfl
@[simp] theorem State.updAxis_laneSeq : (s.updAxis i f).laneSeq = s.laneSeq := rfl
@[simp] theorem State.updAxis_pulseRound : (s.updAxis i f).pulseRound = s.pulseRound := rfl
@[simp] theorem State.updAxis_roundIdx : (s.updAxis i f).roundIdx = s.roundIdx := rfl
@[simp] theorem State.updAxis_islands : (s.updAxis i f).islands = s.islands := rfl
@[simp] theorem State.updAxis_crossings : (s.updAxis i f).crossings = s.crossings := rfl
@[simp] theorem State.updAxis_deferred : (s.updAxis i f).deferred = s.deferred := rfl
@[simp] theorem State.updAxis_cells : (s.updAxis i f).cells = s.cells := rfl
@[simp] theorem State.updAxis_gfes : (s.updAxis i f).gfes = s.gfes := rfl
@[simp] theorem State.updAxis_chans : (s.updAxis i f).chans = s.chans := rfl
@[simp] theorem State.updAxis_groups : (s.updAxis i f).groups = s.groups := rfl
@[simp] theorem State.updAxis_harts : (s.updAxis i f).harts = s.harts := rfl
@[simp] theorem State.updAxis_chars : (s.updAxis i f).chars = s.chars := rfl
@[simp] theorem State.updAxis_prg : (s.updAxis i f).prg = s.prg := rfl
@[simp] theorem State.updAxis_xch : (s.updAxis i f).xch = s.xch := rfl
@[simp] theorem State.updAxis_loops : (s.updAxis i f).loops = s.loops := rfl
@[simp] theorem State.updAxis_overs : (s.updAxis i f).overs = s.overs := rfl
@[simp] theorem State.updAxis_tune : (s.updAxis i f).tune = s.tune := rfl
@[simp] theorem State.updAxis_axes : (s.updAxis i f).axes = s.axes.set i (f s.axes[i]) := rfl
@[simp] theorem State.updAxis_tables : (s.updAxis i f).tables = s.tables := rfl
@[simp] theorem State.updAxis_saf : (s.updAxis i f).saf = s.saf := rfl
@[simp] theorem State.updAxis_ring : (s.updAxis i f).ring = s.ring := rfl
@[simp] theorem State.updAxis_pair : (s.updAxis i f).pair = s.pair := rfl
@[simp] theorem State.updAxis_time : (s.updAxis i f).time = s.time := rfl
@[simp] theorem State.updAxis_hif : (s.updAxis i f).hif = s.hif := rfl
@[simp] theorem State.updAxis_regs : (s.updAxis i f).regs = s.regs := rfl
@[simp] theorem State.updAxis_mb : (s.updAxis i f).mb = s.mb := rfl
@[simp] theorem State.updAxis_recorder : (s.updAxis i f).recorder = s.recorder := rfl
@[simp] theorem State.updAxis_stores : (s.updAxis i f).stores = s.stores := rfl
@[simp] theorem State.updAxis_disp : (s.updAxis i f).disp = s.disp := rfl
@[simp] theorem State.updAxis_mod : (s.updAxis i f).mod = s.mod := rfl
@[simp] theorem State.updAxis_free : (s.updAxis i f).free = s.free := rfl
@[simp] theorem State.updAxis_out : (s.updAxis i f).out = s.out := rfl
@[simp] theorem State.updAxis_pending : (s.updAxis i f).pending = s.pending := rfl
end

/-! ### updStore -/

section
variable (i : Fin 2) (f : Store → Store)
@[simp] theorem State.updStore_clock : (s.updStore i f).clock = s.clock := rfl
@[simp] theorem State.updStore_tick : (s.updStore i f).tick = s.tick := rfl
@[simp] theorem State.updStore_tickAt : (s.updStore i f).tickAt = s.tickAt := rfl
@[simp] theorem State.updStore_laneSeq : (s.updStore i f).laneSeq = s.laneSeq := rfl
@[simp] theorem State.updStore_pulseRound : (s.updStore i f).pulseRound = s.pulseRound := rfl
@[simp] theorem State.updStore_roundIdx : (s.updStore i f).roundIdx = s.roundIdx := rfl
@[simp] theorem State.updStore_islands : (s.updStore i f).islands = s.islands := rfl
@[simp] theorem State.updStore_crossings : (s.updStore i f).crossings = s.crossings := rfl
@[simp] theorem State.updStore_deferred : (s.updStore i f).deferred = s.deferred := rfl
@[simp] theorem State.updStore_cells : (s.updStore i f).cells = s.cells := rfl
@[simp] theorem State.updStore_gfes : (s.updStore i f).gfes = s.gfes := rfl
@[simp] theorem State.updStore_chans : (s.updStore i f).chans = s.chans := rfl
@[simp] theorem State.updStore_groups : (s.updStore i f).groups = s.groups := rfl
@[simp] theorem State.updStore_harts : (s.updStore i f).harts = s.harts := rfl
@[simp] theorem State.updStore_chars : (s.updStore i f).chars = s.chars := rfl
@[simp] theorem State.updStore_prg : (s.updStore i f).prg = s.prg := rfl
@[simp] theorem State.updStore_xch : (s.updStore i f).xch = s.xch := rfl
@[simp] theorem State.updStore_loops : (s.updStore i f).loops = s.loops := rfl
@[simp] theorem State.updStore_overs : (s.updStore i f).overs = s.overs := rfl
@[simp] theorem State.updStore_tune : (s.updStore i f).tune = s.tune := rfl
@[simp] theorem State.updStore_axes : (s.updStore i f).axes = s.axes := rfl
@[simp] theorem State.updStore_tables : (s.updStore i f).tables = s.tables := rfl
@[simp] theorem State.updStore_saf : (s.updStore i f).saf = s.saf := rfl
@[simp] theorem State.updStore_ring : (s.updStore i f).ring = s.ring := rfl
@[simp] theorem State.updStore_pair : (s.updStore i f).pair = s.pair := rfl
@[simp] theorem State.updStore_time : (s.updStore i f).time = s.time := rfl
@[simp] theorem State.updStore_hif : (s.updStore i f).hif = s.hif := rfl
@[simp] theorem State.updStore_regs : (s.updStore i f).regs = s.regs := rfl
@[simp] theorem State.updStore_mb : (s.updStore i f).mb = s.mb := rfl
@[simp] theorem State.updStore_recorder : (s.updStore i f).recorder = s.recorder := rfl
@[simp] theorem State.updStore_stores : (s.updStore i f).stores = s.stores.set i (f s.stores[i]) := rfl
@[simp] theorem State.updStore_disp : (s.updStore i f).disp = s.disp := rfl
@[simp] theorem State.updStore_mod : (s.updStore i f).mod = s.mod := rfl
@[simp] theorem State.updStore_free : (s.updStore i f).free = s.free := rfl
@[simp] theorem State.updStore_out : (s.updStore i f).out = s.out := rfl
@[simp] theorem State.updStore_pending : (s.updStore i f).pending = s.pending := rfl
end

/-! ### updIsland -/

section
variable (i : Fin 11) (f : Island → Island)
@[simp] theorem State.updIsland_clock : (s.updIsland i f).clock = s.clock := rfl
@[simp] theorem State.updIsland_tick : (s.updIsland i f).tick = s.tick := rfl
@[simp] theorem State.updIsland_tickAt : (s.updIsland i f).tickAt = s.tickAt := rfl
@[simp] theorem State.updIsland_laneSeq : (s.updIsland i f).laneSeq = s.laneSeq := rfl
@[simp] theorem State.updIsland_pulseRound : (s.updIsland i f).pulseRound = s.pulseRound := rfl
@[simp] theorem State.updIsland_roundIdx : (s.updIsland i f).roundIdx = s.roundIdx := rfl
@[simp] theorem State.updIsland_islands : (s.updIsland i f).islands = s.islands.set i (f s.islands[i]) := rfl
@[simp] theorem State.updIsland_crossings : (s.updIsland i f).crossings = s.crossings := rfl
@[simp] theorem State.updIsland_deferred : (s.updIsland i f).deferred = s.deferred := rfl
@[simp] theorem State.updIsland_cells : (s.updIsland i f).cells = s.cells := rfl
@[simp] theorem State.updIsland_gfes : (s.updIsland i f).gfes = s.gfes := rfl
@[simp] theorem State.updIsland_chans : (s.updIsland i f).chans = s.chans := rfl
@[simp] theorem State.updIsland_groups : (s.updIsland i f).groups = s.groups := rfl
@[simp] theorem State.updIsland_harts : (s.updIsland i f).harts = s.harts := rfl
@[simp] theorem State.updIsland_chars : (s.updIsland i f).chars = s.chars := rfl
@[simp] theorem State.updIsland_prg : (s.updIsland i f).prg = s.prg := rfl
@[simp] theorem State.updIsland_xch : (s.updIsland i f).xch = s.xch := rfl
@[simp] theorem State.updIsland_loops : (s.updIsland i f).loops = s.loops := rfl
@[simp] theorem State.updIsland_overs : (s.updIsland i f).overs = s.overs := rfl
@[simp] theorem State.updIsland_tune : (s.updIsland i f).tune = s.tune := rfl
@[simp] theorem State.updIsland_axes : (s.updIsland i f).axes = s.axes := rfl
@[simp] theorem State.updIsland_tables : (s.updIsland i f).tables = s.tables := rfl
@[simp] theorem State.updIsland_saf : (s.updIsland i f).saf = s.saf := rfl
@[simp] theorem State.updIsland_ring : (s.updIsland i f).ring = s.ring := rfl
@[simp] theorem State.updIsland_pair : (s.updIsland i f).pair = s.pair := rfl
@[simp] theorem State.updIsland_time : (s.updIsland i f).time = s.time := rfl
@[simp] theorem State.updIsland_hif : (s.updIsland i f).hif = s.hif := rfl
@[simp] theorem State.updIsland_regs : (s.updIsland i f).regs = s.regs := rfl
@[simp] theorem State.updIsland_mb : (s.updIsland i f).mb = s.mb := rfl
@[simp] theorem State.updIsland_recorder : (s.updIsland i f).recorder = s.recorder := rfl
@[simp] theorem State.updIsland_stores : (s.updIsland i f).stores = s.stores := rfl
@[simp] theorem State.updIsland_disp : (s.updIsland i f).disp = s.disp := rfl
@[simp] theorem State.updIsland_mod : (s.updIsland i f).mod = s.mod := rfl
@[simp] theorem State.updIsland_free : (s.updIsland i f).free = s.free := rfl
@[simp] theorem State.updIsland_out : (s.updIsland i f).out = s.out := rfl
@[simp] theorem State.updIsland_pending : (s.updIsland i f).pending = s.pending := rfl
end

/-! ### updPrg -/

section
variable (f : Program → Program)
@[simp] theorem State.updPrg_clock : (s.updPrg f).clock = s.clock := rfl
@[simp] theorem State.updPrg_tick : (s.updPrg f).tick = s.tick := rfl
@[simp] theorem State.updPrg_tickAt : (s.updPrg f).tickAt = s.tickAt := rfl
@[simp] theorem State.updPrg_laneSeq : (s.updPrg f).laneSeq = s.laneSeq := rfl
@[simp] theorem State.updPrg_pulseRound : (s.updPrg f).pulseRound = s.pulseRound := rfl
@[simp] theorem State.updPrg_roundIdx : (s.updPrg f).roundIdx = s.roundIdx := rfl
@[simp] theorem State.updPrg_islands : (s.updPrg f).islands = s.islands := rfl
@[simp] theorem State.updPrg_crossings : (s.updPrg f).crossings = s.crossings := rfl
@[simp] theorem State.updPrg_deferred : (s.updPrg f).deferred = s.deferred := rfl
@[simp] theorem State.updPrg_cells : (s.updPrg f).cells = s.cells := rfl
@[simp] theorem State.updPrg_gfes : (s.updPrg f).gfes = s.gfes := rfl
@[simp] theorem State.updPrg_chans : (s.updPrg f).chans = s.chans := rfl
@[simp] theorem State.updPrg_groups : (s.updPrg f).groups = s.groups := rfl
@[simp] theorem State.updPrg_harts : (s.updPrg f).harts = s.harts := rfl
@[simp] theorem State.updPrg_chars : (s.updPrg f).chars = s.chars := rfl
@[simp] theorem State.updPrg_prg : (s.updPrg f).prg = f s.prg := rfl
@[simp] theorem State.updPrg_xch : (s.updPrg f).xch = s.xch := rfl
@[simp] theorem State.updPrg_loops : (s.updPrg f).loops = s.loops := rfl
@[simp] theorem State.updPrg_overs : (s.updPrg f).overs = s.overs := rfl
@[simp] theorem State.updPrg_tune : (s.updPrg f).tune = s.tune := rfl
@[simp] theorem State.updPrg_axes : (s.updPrg f).axes = s.axes := rfl
@[simp] theorem State.updPrg_tables : (s.updPrg f).tables = s.tables := rfl
@[simp] theorem State.updPrg_saf : (s.updPrg f).saf = s.saf := rfl
@[simp] theorem State.updPrg_ring : (s.updPrg f).ring = s.ring := rfl
@[simp] theorem State.updPrg_pair : (s.updPrg f).pair = s.pair := rfl
@[simp] theorem State.updPrg_time : (s.updPrg f).time = s.time := rfl
@[simp] theorem State.updPrg_hif : (s.updPrg f).hif = s.hif := rfl
@[simp] theorem State.updPrg_regs : (s.updPrg f).regs = s.regs := rfl
@[simp] theorem State.updPrg_mb : (s.updPrg f).mb = s.mb := rfl
@[simp] theorem State.updPrg_recorder : (s.updPrg f).recorder = s.recorder := rfl
@[simp] theorem State.updPrg_stores : (s.updPrg f).stores = s.stores := rfl
@[simp] theorem State.updPrg_disp : (s.updPrg f).disp = s.disp := rfl
@[simp] theorem State.updPrg_mod : (s.updPrg f).mod = s.mod := rfl
@[simp] theorem State.updPrg_free : (s.updPrg f).free = s.free := rfl
@[simp] theorem State.updPrg_out : (s.updPrg f).out = s.out := rfl
@[simp] theorem State.updPrg_pending : (s.updPrg f).pending = s.pending := rfl
end

/-! ### updXch -/

section
variable (f : Exchange → Exchange)
@[simp] theorem State.updXch_clock : (s.updXch f).clock = s.clock := rfl
@[simp] theorem State.updXch_tick : (s.updXch f).tick = s.tick := rfl
@[simp] theorem State.updXch_tickAt : (s.updXch f).tickAt = s.tickAt := rfl
@[simp] theorem State.updXch_laneSeq : (s.updXch f).laneSeq = s.laneSeq := rfl
@[simp] theorem State.updXch_pulseRound : (s.updXch f).pulseRound = s.pulseRound := rfl
@[simp] theorem State.updXch_roundIdx : (s.updXch f).roundIdx = s.roundIdx := rfl
@[simp] theorem State.updXch_islands : (s.updXch f).islands = s.islands := rfl
@[simp] theorem State.updXch_crossings : (s.updXch f).crossings = s.crossings := rfl
@[simp] theorem State.updXch_deferred : (s.updXch f).deferred = s.deferred := rfl
@[simp] theorem State.updXch_cells : (s.updXch f).cells = s.cells := rfl
@[simp] theorem State.updXch_gfes : (s.updXch f).gfes = s.gfes := rfl
@[simp] theorem State.updXch_chans : (s.updXch f).chans = s.chans := rfl
@[simp] theorem State.updXch_groups : (s.updXch f).groups = s.groups := rfl
@[simp] theorem State.updXch_harts : (s.updXch f).harts = s.harts := rfl
@[simp] theorem State.updXch_chars : (s.updXch f).chars = s.chars := rfl
@[simp] theorem State.updXch_prg : (s.updXch f).prg = s.prg := rfl
@[simp] theorem State.updXch_xch : (s.updXch f).xch = f s.xch := rfl
@[simp] theorem State.updXch_loops : (s.updXch f).loops = s.loops := rfl
@[simp] theorem State.updXch_overs : (s.updXch f).overs = s.overs := rfl
@[simp] theorem State.updXch_tune : (s.updXch f).tune = s.tune := rfl
@[simp] theorem State.updXch_axes : (s.updXch f).axes = s.axes := rfl
@[simp] theorem State.updXch_tables : (s.updXch f).tables = s.tables := rfl
@[simp] theorem State.updXch_saf : (s.updXch f).saf = s.saf := rfl
@[simp] theorem State.updXch_ring : (s.updXch f).ring = s.ring := rfl
@[simp] theorem State.updXch_pair : (s.updXch f).pair = s.pair := rfl
@[simp] theorem State.updXch_time : (s.updXch f).time = s.time := rfl
@[simp] theorem State.updXch_hif : (s.updXch f).hif = s.hif := rfl
@[simp] theorem State.updXch_regs : (s.updXch f).regs = s.regs := rfl
@[simp] theorem State.updXch_mb : (s.updXch f).mb = s.mb := rfl
@[simp] theorem State.updXch_recorder : (s.updXch f).recorder = s.recorder := rfl
@[simp] theorem State.updXch_stores : (s.updXch f).stores = s.stores := rfl
@[simp] theorem State.updXch_disp : (s.updXch f).disp = s.disp := rfl
@[simp] theorem State.updXch_mod : (s.updXch f).mod = s.mod := rfl
@[simp] theorem State.updXch_free : (s.updXch f).free = s.free := rfl
@[simp] theorem State.updXch_out : (s.updXch f).out = s.out := rfl
@[simp] theorem State.updXch_pending : (s.updXch f).pending = s.pending := rfl
end

/-! ### updTune -/

section
variable (f : Tune → Tune)
@[simp] theorem State.updTune_clock : (s.updTune f).clock = s.clock := rfl
@[simp] theorem State.updTune_tick : (s.updTune f).tick = s.tick := rfl
@[simp] theorem State.updTune_tickAt : (s.updTune f).tickAt = s.tickAt := rfl
@[simp] theorem State.updTune_laneSeq : (s.updTune f).laneSeq = s.laneSeq := rfl
@[simp] theorem State.updTune_pulseRound : (s.updTune f).pulseRound = s.pulseRound := rfl
@[simp] theorem State.updTune_roundIdx : (s.updTune f).roundIdx = s.roundIdx := rfl
@[simp] theorem State.updTune_islands : (s.updTune f).islands = s.islands := rfl
@[simp] theorem State.updTune_crossings : (s.updTune f).crossings = s.crossings := rfl
@[simp] theorem State.updTune_deferred : (s.updTune f).deferred = s.deferred := rfl
@[simp] theorem State.updTune_cells : (s.updTune f).cells = s.cells := rfl
@[simp] theorem State.updTune_gfes : (s.updTune f).gfes = s.gfes := rfl
@[simp] theorem State.updTune_chans : (s.updTune f).chans = s.chans := rfl
@[simp] theorem State.updTune_groups : (s.updTune f).groups = s.groups := rfl
@[simp] theorem State.updTune_harts : (s.updTune f).harts = s.harts := rfl
@[simp] theorem State.updTune_chars : (s.updTune f).chars = s.chars := rfl
@[simp] theorem State.updTune_prg : (s.updTune f).prg = s.prg := rfl
@[simp] theorem State.updTune_xch : (s.updTune f).xch = s.xch := rfl
@[simp] theorem State.updTune_loops : (s.updTune f).loops = s.loops := rfl
@[simp] theorem State.updTune_overs : (s.updTune f).overs = s.overs := rfl
@[simp] theorem State.updTune_tune : (s.updTune f).tune = f s.tune := rfl
@[simp] theorem State.updTune_axes : (s.updTune f).axes = s.axes := rfl
@[simp] theorem State.updTune_tables : (s.updTune f).tables = s.tables := rfl
@[simp] theorem State.updTune_saf : (s.updTune f).saf = s.saf := rfl
@[simp] theorem State.updTune_ring : (s.updTune f).ring = s.ring := rfl
@[simp] theorem State.updTune_pair : (s.updTune f).pair = s.pair := rfl
@[simp] theorem State.updTune_time : (s.updTune f).time = s.time := rfl
@[simp] theorem State.updTune_hif : (s.updTune f).hif = s.hif := rfl
@[simp] theorem State.updTune_regs : (s.updTune f).regs = s.regs := rfl
@[simp] theorem State.updTune_mb : (s.updTune f).mb = s.mb := rfl
@[simp] theorem State.updTune_recorder : (s.updTune f).recorder = s.recorder := rfl
@[simp] theorem State.updTune_stores : (s.updTune f).stores = s.stores := rfl
@[simp] theorem State.updTune_disp : (s.updTune f).disp = s.disp := rfl
@[simp] theorem State.updTune_mod : (s.updTune f).mod = s.mod := rfl
@[simp] theorem State.updTune_free : (s.updTune f).free = s.free := rfl
@[simp] theorem State.updTune_out : (s.updTune f).out = s.out := rfl
@[simp] theorem State.updTune_pending : (s.updTune f).pending = s.pending := rfl
end

/-! ### updSaf -/

section
variable (f : Saf → Saf)
@[simp] theorem State.updSaf_clock : (s.updSaf f).clock = s.clock := rfl
@[simp] theorem State.updSaf_tick : (s.updSaf f).tick = s.tick := rfl
@[simp] theorem State.updSaf_tickAt : (s.updSaf f).tickAt = s.tickAt := rfl
@[simp] theorem State.updSaf_laneSeq : (s.updSaf f).laneSeq = s.laneSeq := rfl
@[simp] theorem State.updSaf_pulseRound : (s.updSaf f).pulseRound = s.pulseRound := rfl
@[simp] theorem State.updSaf_roundIdx : (s.updSaf f).roundIdx = s.roundIdx := rfl
@[simp] theorem State.updSaf_islands : (s.updSaf f).islands = s.islands := rfl
@[simp] theorem State.updSaf_crossings : (s.updSaf f).crossings = s.crossings := rfl
@[simp] theorem State.updSaf_deferred : (s.updSaf f).deferred = s.deferred := rfl
@[simp] theorem State.updSaf_cells : (s.updSaf f).cells = s.cells := rfl
@[simp] theorem State.updSaf_gfes : (s.updSaf f).gfes = s.gfes := rfl
@[simp] theorem State.updSaf_chans : (s.updSaf f).chans = s.chans := rfl
@[simp] theorem State.updSaf_groups : (s.updSaf f).groups = s.groups := rfl
@[simp] theorem State.updSaf_harts : (s.updSaf f).harts = s.harts := rfl
@[simp] theorem State.updSaf_chars : (s.updSaf f).chars = s.chars := rfl
@[simp] theorem State.updSaf_prg : (s.updSaf f).prg = s.prg := rfl
@[simp] theorem State.updSaf_xch : (s.updSaf f).xch = s.xch := rfl
@[simp] theorem State.updSaf_loops : (s.updSaf f).loops = s.loops := rfl
@[simp] theorem State.updSaf_overs : (s.updSaf f).overs = s.overs := rfl
@[simp] theorem State.updSaf_tune : (s.updSaf f).tune = s.tune := rfl
@[simp] theorem State.updSaf_axes : (s.updSaf f).axes = s.axes := rfl
@[simp] theorem State.updSaf_tables : (s.updSaf f).tables = s.tables := rfl
@[simp] theorem State.updSaf_saf : (s.updSaf f).saf = f s.saf := rfl
@[simp] theorem State.updSaf_ring : (s.updSaf f).ring = s.ring := rfl
@[simp] theorem State.updSaf_pair : (s.updSaf f).pair = s.pair := rfl
@[simp] theorem State.updSaf_time : (s.updSaf f).time = s.time := rfl
@[simp] theorem State.updSaf_hif : (s.updSaf f).hif = s.hif := rfl
@[simp] theorem State.updSaf_regs : (s.updSaf f).regs = s.regs := rfl
@[simp] theorem State.updSaf_mb : (s.updSaf f).mb = s.mb := rfl
@[simp] theorem State.updSaf_recorder : (s.updSaf f).recorder = s.recorder := rfl
@[simp] theorem State.updSaf_stores : (s.updSaf f).stores = s.stores := rfl
@[simp] theorem State.updSaf_disp : (s.updSaf f).disp = s.disp := rfl
@[simp] theorem State.updSaf_mod : (s.updSaf f).mod = s.mod := rfl
@[simp] theorem State.updSaf_free : (s.updSaf f).free = s.free := rfl
@[simp] theorem State.updSaf_out : (s.updSaf f).out = s.out := rfl
@[simp] theorem State.updSaf_pending : (s.updSaf f).pending = s.pending := rfl
end

/-! ### updRing -/

section
variable (f : Ring → Ring)
@[simp] theorem State.updRing_clock : (s.updRing f).clock = s.clock := rfl
@[simp] theorem State.updRing_tick : (s.updRing f).tick = s.tick := rfl
@[simp] theorem State.updRing_tickAt : (s.updRing f).tickAt = s.tickAt := rfl
@[simp] theorem State.updRing_laneSeq : (s.updRing f).laneSeq = s.laneSeq := rfl
@[simp] theorem State.updRing_pulseRound : (s.updRing f).pulseRound = s.pulseRound := rfl
@[simp] theorem State.updRing_roundIdx : (s.updRing f).roundIdx = s.roundIdx := rfl
@[simp] theorem State.updRing_islands : (s.updRing f).islands = s.islands := rfl
@[simp] theorem State.updRing_crossings : (s.updRing f).crossings = s.crossings := rfl
@[simp] theorem State.updRing_deferred : (s.updRing f).deferred = s.deferred := rfl
@[simp] theorem State.updRing_cells : (s.updRing f).cells = s.cells := rfl
@[simp] theorem State.updRing_gfes : (s.updRing f).gfes = s.gfes := rfl
@[simp] theorem State.updRing_chans : (s.updRing f).chans = s.chans := rfl
@[simp] theorem State.updRing_groups : (s.updRing f).groups = s.groups := rfl
@[simp] theorem State.updRing_harts : (s.updRing f).harts = s.harts := rfl
@[simp] theorem State.updRing_chars : (s.updRing f).chars = s.chars := rfl
@[simp] theorem State.updRing_prg : (s.updRing f).prg = s.prg := rfl
@[simp] theorem State.updRing_xch : (s.updRing f).xch = s.xch := rfl
@[simp] theorem State.updRing_loops : (s.updRing f).loops = s.loops := rfl
@[simp] theorem State.updRing_overs : (s.updRing f).overs = s.overs := rfl
@[simp] theorem State.updRing_tune : (s.updRing f).tune = s.tune := rfl
@[simp] theorem State.updRing_axes : (s.updRing f).axes = s.axes := rfl
@[simp] theorem State.updRing_tables : (s.updRing f).tables = s.tables := rfl
@[simp] theorem State.updRing_saf : (s.updRing f).saf = s.saf := rfl
@[simp] theorem State.updRing_ring : (s.updRing f).ring = f s.ring := rfl
@[simp] theorem State.updRing_pair : (s.updRing f).pair = s.pair := rfl
@[simp] theorem State.updRing_time : (s.updRing f).time = s.time := rfl
@[simp] theorem State.updRing_hif : (s.updRing f).hif = s.hif := rfl
@[simp] theorem State.updRing_regs : (s.updRing f).regs = s.regs := rfl
@[simp] theorem State.updRing_mb : (s.updRing f).mb = s.mb := rfl
@[simp] theorem State.updRing_recorder : (s.updRing f).recorder = s.recorder := rfl
@[simp] theorem State.updRing_stores : (s.updRing f).stores = s.stores := rfl
@[simp] theorem State.updRing_disp : (s.updRing f).disp = s.disp := rfl
@[simp] theorem State.updRing_mod : (s.updRing f).mod = s.mod := rfl
@[simp] theorem State.updRing_free : (s.updRing f).free = s.free := rfl
@[simp] theorem State.updRing_out : (s.updRing f).out = s.out := rfl
@[simp] theorem State.updRing_pending : (s.updRing f).pending = s.pending := rfl
end

/-! ### updPair -/

section
variable (f : Pair → Pair)
@[simp] theorem State.updPair_clock : (s.updPair f).clock = s.clock := rfl
@[simp] theorem State.updPair_tick : (s.updPair f).tick = s.tick := rfl
@[simp] theorem State.updPair_tickAt : (s.updPair f).tickAt = s.tickAt := rfl
@[simp] theorem State.updPair_laneSeq : (s.updPair f).laneSeq = s.laneSeq := rfl
@[simp] theorem State.updPair_pulseRound : (s.updPair f).pulseRound = s.pulseRound := rfl
@[simp] theorem State.updPair_roundIdx : (s.updPair f).roundIdx = s.roundIdx := rfl
@[simp] theorem State.updPair_islands : (s.updPair f).islands = s.islands := rfl
@[simp] theorem State.updPair_crossings : (s.updPair f).crossings = s.crossings := rfl
@[simp] theorem State.updPair_deferred : (s.updPair f).deferred = s.deferred := rfl
@[simp] theorem State.updPair_cells : (s.updPair f).cells = s.cells := rfl
@[simp] theorem State.updPair_gfes : (s.updPair f).gfes = s.gfes := rfl
@[simp] theorem State.updPair_chans : (s.updPair f).chans = s.chans := rfl
@[simp] theorem State.updPair_groups : (s.updPair f).groups = s.groups := rfl
@[simp] theorem State.updPair_harts : (s.updPair f).harts = s.harts := rfl
@[simp] theorem State.updPair_chars : (s.updPair f).chars = s.chars := rfl
@[simp] theorem State.updPair_prg : (s.updPair f).prg = s.prg := rfl
@[simp] theorem State.updPair_xch : (s.updPair f).xch = s.xch := rfl
@[simp] theorem State.updPair_loops : (s.updPair f).loops = s.loops := rfl
@[simp] theorem State.updPair_overs : (s.updPair f).overs = s.overs := rfl
@[simp] theorem State.updPair_tune : (s.updPair f).tune = s.tune := rfl
@[simp] theorem State.updPair_axes : (s.updPair f).axes = s.axes := rfl
@[simp] theorem State.updPair_tables : (s.updPair f).tables = s.tables := rfl
@[simp] theorem State.updPair_saf : (s.updPair f).saf = s.saf := rfl
@[simp] theorem State.updPair_ring : (s.updPair f).ring = s.ring := rfl
@[simp] theorem State.updPair_pair : (s.updPair f).pair = f s.pair := rfl
@[simp] theorem State.updPair_time : (s.updPair f).time = s.time := rfl
@[simp] theorem State.updPair_hif : (s.updPair f).hif = s.hif := rfl
@[simp] theorem State.updPair_regs : (s.updPair f).regs = s.regs := rfl
@[simp] theorem State.updPair_mb : (s.updPair f).mb = s.mb := rfl
@[simp] theorem State.updPair_recorder : (s.updPair f).recorder = s.recorder := rfl
@[simp] theorem State.updPair_stores : (s.updPair f).stores = s.stores := rfl
@[simp] theorem State.updPair_disp : (s.updPair f).disp = s.disp := rfl
@[simp] theorem State.updPair_mod : (s.updPair f).mod = s.mod := rfl
@[simp] theorem State.updPair_free : (s.updPair f).free = s.free := rfl
@[simp] theorem State.updPair_out : (s.updPair f).out = s.out := rfl
@[simp] theorem State.updPair_pending : (s.updPair f).pending = s.pending := rfl
end

/-! ### updTime -/

section
variable (f : Time → Time)
@[simp] theorem State.updTime_clock : (s.updTime f).clock = s.clock := rfl
@[simp] theorem State.updTime_tick : (s.updTime f).tick = s.tick := rfl
@[simp] theorem State.updTime_tickAt : (s.updTime f).tickAt = s.tickAt := rfl
@[simp] theorem State.updTime_laneSeq : (s.updTime f).laneSeq = s.laneSeq := rfl
@[simp] theorem State.updTime_pulseRound : (s.updTime f).pulseRound = s.pulseRound := rfl
@[simp] theorem State.updTime_roundIdx : (s.updTime f).roundIdx = s.roundIdx := rfl
@[simp] theorem State.updTime_islands : (s.updTime f).islands = s.islands := rfl
@[simp] theorem State.updTime_crossings : (s.updTime f).crossings = s.crossings := rfl
@[simp] theorem State.updTime_deferred : (s.updTime f).deferred = s.deferred := rfl
@[simp] theorem State.updTime_cells : (s.updTime f).cells = s.cells := rfl
@[simp] theorem State.updTime_gfes : (s.updTime f).gfes = s.gfes := rfl
@[simp] theorem State.updTime_chans : (s.updTime f).chans = s.chans := rfl
@[simp] theorem State.updTime_groups : (s.updTime f).groups = s.groups := rfl
@[simp] theorem State.updTime_harts : (s.updTime f).harts = s.harts := rfl
@[simp] theorem State.updTime_chars : (s.updTime f).chars = s.chars := rfl
@[simp] theorem State.updTime_prg : (s.updTime f).prg = s.prg := rfl
@[simp] theorem State.updTime_xch : (s.updTime f).xch = s.xch := rfl
@[simp] theorem State.updTime_loops : (s.updTime f).loops = s.loops := rfl
@[simp] theorem State.updTime_overs : (s.updTime f).overs = s.overs := rfl
@[simp] theorem State.updTime_tune : (s.updTime f).tune = s.tune := rfl
@[simp] theorem State.updTime_axes : (s.updTime f).axes = s.axes := rfl
@[simp] theorem State.updTime_tables : (s.updTime f).tables = s.tables := rfl
@[simp] theorem State.updTime_saf : (s.updTime f).saf = s.saf := rfl
@[simp] theorem State.updTime_ring : (s.updTime f).ring = s.ring := rfl
@[simp] theorem State.updTime_pair : (s.updTime f).pair = s.pair := rfl
@[simp] theorem State.updTime_time : (s.updTime f).time = f s.time := rfl
@[simp] theorem State.updTime_hif : (s.updTime f).hif = s.hif := rfl
@[simp] theorem State.updTime_regs : (s.updTime f).regs = s.regs := rfl
@[simp] theorem State.updTime_mb : (s.updTime f).mb = s.mb := rfl
@[simp] theorem State.updTime_recorder : (s.updTime f).recorder = s.recorder := rfl
@[simp] theorem State.updTime_stores : (s.updTime f).stores = s.stores := rfl
@[simp] theorem State.updTime_disp : (s.updTime f).disp = s.disp := rfl
@[simp] theorem State.updTime_mod : (s.updTime f).mod = s.mod := rfl
@[simp] theorem State.updTime_free : (s.updTime f).free = s.free := rfl
@[simp] theorem State.updTime_out : (s.updTime f).out = s.out := rfl
@[simp] theorem State.updTime_pending : (s.updTime f).pending = s.pending := rfl
end

/-! ### updHif -/

section
variable (f : Hif → Hif)
@[simp] theorem State.updHif_clock : (s.updHif f).clock = s.clock := rfl
@[simp] theorem State.updHif_tick : (s.updHif f).tick = s.tick := rfl
@[simp] theorem State.updHif_tickAt : (s.updHif f).tickAt = s.tickAt := rfl
@[simp] theorem State.updHif_laneSeq : (s.updHif f).laneSeq = s.laneSeq := rfl
@[simp] theorem State.updHif_pulseRound : (s.updHif f).pulseRound = s.pulseRound := rfl
@[simp] theorem State.updHif_roundIdx : (s.updHif f).roundIdx = s.roundIdx := rfl
@[simp] theorem State.updHif_islands : (s.updHif f).islands = s.islands := rfl
@[simp] theorem State.updHif_crossings : (s.updHif f).crossings = s.crossings := rfl
@[simp] theorem State.updHif_deferred : (s.updHif f).deferred = s.deferred := rfl
@[simp] theorem State.updHif_cells : (s.updHif f).cells = s.cells := rfl
@[simp] theorem State.updHif_gfes : (s.updHif f).gfes = s.gfes := rfl
@[simp] theorem State.updHif_chans : (s.updHif f).chans = s.chans := rfl
@[simp] theorem State.updHif_groups : (s.updHif f).groups = s.groups := rfl
@[simp] theorem State.updHif_harts : (s.updHif f).harts = s.harts := rfl
@[simp] theorem State.updHif_chars : (s.updHif f).chars = s.chars := rfl
@[simp] theorem State.updHif_prg : (s.updHif f).prg = s.prg := rfl
@[simp] theorem State.updHif_xch : (s.updHif f).xch = s.xch := rfl
@[simp] theorem State.updHif_loops : (s.updHif f).loops = s.loops := rfl
@[simp] theorem State.updHif_overs : (s.updHif f).overs = s.overs := rfl
@[simp] theorem State.updHif_tune : (s.updHif f).tune = s.tune := rfl
@[simp] theorem State.updHif_axes : (s.updHif f).axes = s.axes := rfl
@[simp] theorem State.updHif_tables : (s.updHif f).tables = s.tables := rfl
@[simp] theorem State.updHif_saf : (s.updHif f).saf = s.saf := rfl
@[simp] theorem State.updHif_ring : (s.updHif f).ring = s.ring := rfl
@[simp] theorem State.updHif_pair : (s.updHif f).pair = s.pair := rfl
@[simp] theorem State.updHif_time : (s.updHif f).time = s.time := rfl
@[simp] theorem State.updHif_hif : (s.updHif f).hif = f s.hif := rfl
@[simp] theorem State.updHif_regs : (s.updHif f).regs = s.regs := rfl
@[simp] theorem State.updHif_mb : (s.updHif f).mb = s.mb := rfl
@[simp] theorem State.updHif_recorder : (s.updHif f).recorder = s.recorder := rfl
@[simp] theorem State.updHif_stores : (s.updHif f).stores = s.stores := rfl
@[simp] theorem State.updHif_disp : (s.updHif f).disp = s.disp := rfl
@[simp] theorem State.updHif_mod : (s.updHif f).mod = s.mod := rfl
@[simp] theorem State.updHif_free : (s.updHif f).free = s.free := rfl
@[simp] theorem State.updHif_out : (s.updHif f).out = s.out := rfl
@[simp] theorem State.updHif_pending : (s.updHif f).pending = s.pending := rfl
end

/-! ### updRegs -/

section
variable (f : Regs → Regs)
@[simp] theorem State.updRegs_clock : (s.updRegs f).clock = s.clock := rfl
@[simp] theorem State.updRegs_tick : (s.updRegs f).tick = s.tick := rfl
@[simp] theorem State.updRegs_tickAt : (s.updRegs f).tickAt = s.tickAt := rfl
@[simp] theorem State.updRegs_laneSeq : (s.updRegs f).laneSeq = s.laneSeq := rfl
@[simp] theorem State.updRegs_pulseRound : (s.updRegs f).pulseRound = s.pulseRound := rfl
@[simp] theorem State.updRegs_roundIdx : (s.updRegs f).roundIdx = s.roundIdx := rfl
@[simp] theorem State.updRegs_islands : (s.updRegs f).islands = s.islands := rfl
@[simp] theorem State.updRegs_crossings : (s.updRegs f).crossings = s.crossings := rfl
@[simp] theorem State.updRegs_deferred : (s.updRegs f).deferred = s.deferred := rfl
@[simp] theorem State.updRegs_cells : (s.updRegs f).cells = s.cells := rfl
@[simp] theorem State.updRegs_gfes : (s.updRegs f).gfes = s.gfes := rfl
@[simp] theorem State.updRegs_chans : (s.updRegs f).chans = s.chans := rfl
@[simp] theorem State.updRegs_groups : (s.updRegs f).groups = s.groups := rfl
@[simp] theorem State.updRegs_harts : (s.updRegs f).harts = s.harts := rfl
@[simp] theorem State.updRegs_chars : (s.updRegs f).chars = s.chars := rfl
@[simp] theorem State.updRegs_prg : (s.updRegs f).prg = s.prg := rfl
@[simp] theorem State.updRegs_xch : (s.updRegs f).xch = s.xch := rfl
@[simp] theorem State.updRegs_loops : (s.updRegs f).loops = s.loops := rfl
@[simp] theorem State.updRegs_overs : (s.updRegs f).overs = s.overs := rfl
@[simp] theorem State.updRegs_tune : (s.updRegs f).tune = s.tune := rfl
@[simp] theorem State.updRegs_axes : (s.updRegs f).axes = s.axes := rfl
@[simp] theorem State.updRegs_tables : (s.updRegs f).tables = s.tables := rfl
@[simp] theorem State.updRegs_saf : (s.updRegs f).saf = s.saf := rfl
@[simp] theorem State.updRegs_ring : (s.updRegs f).ring = s.ring := rfl
@[simp] theorem State.updRegs_pair : (s.updRegs f).pair = s.pair := rfl
@[simp] theorem State.updRegs_time : (s.updRegs f).time = s.time := rfl
@[simp] theorem State.updRegs_hif : (s.updRegs f).hif = s.hif := rfl
@[simp] theorem State.updRegs_regs : (s.updRegs f).regs = f s.regs := rfl
@[simp] theorem State.updRegs_mb : (s.updRegs f).mb = s.mb := rfl
@[simp] theorem State.updRegs_recorder : (s.updRegs f).recorder = s.recorder := rfl
@[simp] theorem State.updRegs_stores : (s.updRegs f).stores = s.stores := rfl
@[simp] theorem State.updRegs_disp : (s.updRegs f).disp = s.disp := rfl
@[simp] theorem State.updRegs_mod : (s.updRegs f).mod = s.mod := rfl
@[simp] theorem State.updRegs_free : (s.updRegs f).free = s.free := rfl
@[simp] theorem State.updRegs_out : (s.updRegs f).out = s.out := rfl
@[simp] theorem State.updRegs_pending : (s.updRegs f).pending = s.pending := rfl
end

/-! ### updMb -/

section
variable (f : MbHub → MbHub)
@[simp] theorem State.updMb_clock : (s.updMb f).clock = s.clock := rfl
@[simp] theorem State.updMb_tick : (s.updMb f).tick = s.tick := rfl
@[simp] theorem State.updMb_tickAt : (s.updMb f).tickAt = s.tickAt := rfl
@[simp] theorem State.updMb_laneSeq : (s.updMb f).laneSeq = s.laneSeq := rfl
@[simp] theorem State.updMb_pulseRound : (s.updMb f).pulseRound = s.pulseRound := rfl
@[simp] theorem State.updMb_roundIdx : (s.updMb f).roundIdx = s.roundIdx := rfl
@[simp] theorem State.updMb_islands : (s.updMb f).islands = s.islands := rfl
@[simp] theorem State.updMb_crossings : (s.updMb f).crossings = s.crossings := rfl
@[simp] theorem State.updMb_deferred : (s.updMb f).deferred = s.deferred := rfl
@[simp] theorem State.updMb_cells : (s.updMb f).cells = s.cells := rfl
@[simp] theorem State.updMb_gfes : (s.updMb f).gfes = s.gfes := rfl
@[simp] theorem State.updMb_chans : (s.updMb f).chans = s.chans := rfl
@[simp] theorem State.updMb_groups : (s.updMb f).groups = s.groups := rfl
@[simp] theorem State.updMb_harts : (s.updMb f).harts = s.harts := rfl
@[simp] theorem State.updMb_chars : (s.updMb f).chars = s.chars := rfl
@[simp] theorem State.updMb_prg : (s.updMb f).prg = s.prg := rfl
@[simp] theorem State.updMb_xch : (s.updMb f).xch = s.xch := rfl
@[simp] theorem State.updMb_loops : (s.updMb f).loops = s.loops := rfl
@[simp] theorem State.updMb_overs : (s.updMb f).overs = s.overs := rfl
@[simp] theorem State.updMb_tune : (s.updMb f).tune = s.tune := rfl
@[simp] theorem State.updMb_axes : (s.updMb f).axes = s.axes := rfl
@[simp] theorem State.updMb_tables : (s.updMb f).tables = s.tables := rfl
@[simp] theorem State.updMb_saf : (s.updMb f).saf = s.saf := rfl
@[simp] theorem State.updMb_ring : (s.updMb f).ring = s.ring := rfl
@[simp] theorem State.updMb_pair : (s.updMb f).pair = s.pair := rfl
@[simp] theorem State.updMb_time : (s.updMb f).time = s.time := rfl
@[simp] theorem State.updMb_hif : (s.updMb f).hif = s.hif := rfl
@[simp] theorem State.updMb_regs : (s.updMb f).regs = s.regs := rfl
@[simp] theorem State.updMb_mb : (s.updMb f).mb = f s.mb := rfl
@[simp] theorem State.updMb_recorder : (s.updMb f).recorder = s.recorder := rfl
@[simp] theorem State.updMb_stores : (s.updMb f).stores = s.stores := rfl
@[simp] theorem State.updMb_disp : (s.updMb f).disp = s.disp := rfl
@[simp] theorem State.updMb_mod : (s.updMb f).mod = s.mod := rfl
@[simp] theorem State.updMb_free : (s.updMb f).free = s.free := rfl
@[simp] theorem State.updMb_out : (s.updMb f).out = s.out := rfl
@[simp] theorem State.updMb_pending : (s.updMb f).pending = s.pending := rfl
end

/-! ### updRec -/

section
variable (f : Recorder → Recorder)
@[simp] theorem State.updRec_clock : (s.updRec f).clock = s.clock := rfl
@[simp] theorem State.updRec_tick : (s.updRec f).tick = s.tick := rfl
@[simp] theorem State.updRec_tickAt : (s.updRec f).tickAt = s.tickAt := rfl
@[simp] theorem State.updRec_laneSeq : (s.updRec f).laneSeq = s.laneSeq := rfl
@[simp] theorem State.updRec_pulseRound : (s.updRec f).pulseRound = s.pulseRound := rfl
@[simp] theorem State.updRec_roundIdx : (s.updRec f).roundIdx = s.roundIdx := rfl
@[simp] theorem State.updRec_islands : (s.updRec f).islands = s.islands := rfl
@[simp] theorem State.updRec_crossings : (s.updRec f).crossings = s.crossings := rfl
@[simp] theorem State.updRec_deferred : (s.updRec f).deferred = s.deferred := rfl
@[simp] theorem State.updRec_cells : (s.updRec f).cells = s.cells := rfl
@[simp] theorem State.updRec_gfes : (s.updRec f).gfes = s.gfes := rfl
@[simp] theorem State.updRec_chans : (s.updRec f).chans = s.chans := rfl
@[simp] theorem State.updRec_groups : (s.updRec f).groups = s.groups := rfl
@[simp] theorem State.updRec_harts : (s.updRec f).harts = s.harts := rfl
@[simp] theorem State.updRec_chars : (s.updRec f).chars = s.chars := rfl
@[simp] theorem State.updRec_prg : (s.updRec f).prg = s.prg := rfl
@[simp] theorem State.updRec_xch : (s.updRec f).xch = s.xch := rfl
@[simp] theorem State.updRec_loops : (s.updRec f).loops = s.loops := rfl
@[simp] theorem State.updRec_overs : (s.updRec f).overs = s.overs := rfl
@[simp] theorem State.updRec_tune : (s.updRec f).tune = s.tune := rfl
@[simp] theorem State.updRec_axes : (s.updRec f).axes = s.axes := rfl
@[simp] theorem State.updRec_tables : (s.updRec f).tables = s.tables := rfl
@[simp] theorem State.updRec_saf : (s.updRec f).saf = s.saf := rfl
@[simp] theorem State.updRec_ring : (s.updRec f).ring = s.ring := rfl
@[simp] theorem State.updRec_pair : (s.updRec f).pair = s.pair := rfl
@[simp] theorem State.updRec_time : (s.updRec f).time = s.time := rfl
@[simp] theorem State.updRec_hif : (s.updRec f).hif = s.hif := rfl
@[simp] theorem State.updRec_regs : (s.updRec f).regs = s.regs := rfl
@[simp] theorem State.updRec_mb : (s.updRec f).mb = s.mb := rfl
@[simp] theorem State.updRec_recorder : (s.updRec f).recorder = f s.recorder := rfl
@[simp] theorem State.updRec_stores : (s.updRec f).stores = s.stores := rfl
@[simp] theorem State.updRec_disp : (s.updRec f).disp = s.disp := rfl
@[simp] theorem State.updRec_mod : (s.updRec f).mod = s.mod := rfl
@[simp] theorem State.updRec_free : (s.updRec f).free = s.free := rfl
@[simp] theorem State.updRec_out : (s.updRec f).out = s.out := rfl
@[simp] theorem State.updRec_pending : (s.updRec f).pending = s.pending := rfl
end

/-! ### updDisp -/

section
variable (f : Display → Display)
@[simp] theorem State.updDisp_clock : (s.updDisp f).clock = s.clock := rfl
@[simp] theorem State.updDisp_tick : (s.updDisp f).tick = s.tick := rfl
@[simp] theorem State.updDisp_tickAt : (s.updDisp f).tickAt = s.tickAt := rfl
@[simp] theorem State.updDisp_laneSeq : (s.updDisp f).laneSeq = s.laneSeq := rfl
@[simp] theorem State.updDisp_pulseRound : (s.updDisp f).pulseRound = s.pulseRound := rfl
@[simp] theorem State.updDisp_roundIdx : (s.updDisp f).roundIdx = s.roundIdx := rfl
@[simp] theorem State.updDisp_islands : (s.updDisp f).islands = s.islands := rfl
@[simp] theorem State.updDisp_crossings : (s.updDisp f).crossings = s.crossings := rfl
@[simp] theorem State.updDisp_deferred : (s.updDisp f).deferred = s.deferred := rfl
@[simp] theorem State.updDisp_cells : (s.updDisp f).cells = s.cells := rfl
@[simp] theorem State.updDisp_gfes : (s.updDisp f).gfes = s.gfes := rfl
@[simp] theorem State.updDisp_chans : (s.updDisp f).chans = s.chans := rfl
@[simp] theorem State.updDisp_groups : (s.updDisp f).groups = s.groups := rfl
@[simp] theorem State.updDisp_harts : (s.updDisp f).harts = s.harts := rfl
@[simp] theorem State.updDisp_chars : (s.updDisp f).chars = s.chars := rfl
@[simp] theorem State.updDisp_prg : (s.updDisp f).prg = s.prg := rfl
@[simp] theorem State.updDisp_xch : (s.updDisp f).xch = s.xch := rfl
@[simp] theorem State.updDisp_loops : (s.updDisp f).loops = s.loops := rfl
@[simp] theorem State.updDisp_overs : (s.updDisp f).overs = s.overs := rfl
@[simp] theorem State.updDisp_tune : (s.updDisp f).tune = s.tune := rfl
@[simp] theorem State.updDisp_axes : (s.updDisp f).axes = s.axes := rfl
@[simp] theorem State.updDisp_tables : (s.updDisp f).tables = s.tables := rfl
@[simp] theorem State.updDisp_saf : (s.updDisp f).saf = s.saf := rfl
@[simp] theorem State.updDisp_ring : (s.updDisp f).ring = s.ring := rfl
@[simp] theorem State.updDisp_pair : (s.updDisp f).pair = s.pair := rfl
@[simp] theorem State.updDisp_time : (s.updDisp f).time = s.time := rfl
@[simp] theorem State.updDisp_hif : (s.updDisp f).hif = s.hif := rfl
@[simp] theorem State.updDisp_regs : (s.updDisp f).regs = s.regs := rfl
@[simp] theorem State.updDisp_mb : (s.updDisp f).mb = s.mb := rfl
@[simp] theorem State.updDisp_recorder : (s.updDisp f).recorder = s.recorder := rfl
@[simp] theorem State.updDisp_stores : (s.updDisp f).stores = s.stores := rfl
@[simp] theorem State.updDisp_disp : (s.updDisp f).disp = f s.disp := rfl
@[simp] theorem State.updDisp_mod : (s.updDisp f).mod = s.mod := rfl
@[simp] theorem State.updDisp_free : (s.updDisp f).free = s.free := rfl
@[simp] theorem State.updDisp_out : (s.updDisp f).out = s.out := rfl
@[simp] theorem State.updDisp_pending : (s.updDisp f).pending = s.pending := rfl
end

/-! ### updMod -/

section
variable (f : Module → Module)
@[simp] theorem State.updMod_clock : (s.updMod f).clock = s.clock := rfl
@[simp] theorem State.updMod_tick : (s.updMod f).tick = s.tick := rfl
@[simp] theorem State.updMod_tickAt : (s.updMod f).tickAt = s.tickAt := rfl
@[simp] theorem State.updMod_laneSeq : (s.updMod f).laneSeq = s.laneSeq := rfl
@[simp] theorem State.updMod_pulseRound : (s.updMod f).pulseRound = s.pulseRound := rfl
@[simp] theorem State.updMod_roundIdx : (s.updMod f).roundIdx = s.roundIdx := rfl
@[simp] theorem State.updMod_islands : (s.updMod f).islands = s.islands := rfl
@[simp] theorem State.updMod_crossings : (s.updMod f).crossings = s.crossings := rfl
@[simp] theorem State.updMod_deferred : (s.updMod f).deferred = s.deferred := rfl
@[simp] theorem State.updMod_cells : (s.updMod f).cells = s.cells := rfl
@[simp] theorem State.updMod_gfes : (s.updMod f).gfes = s.gfes := rfl
@[simp] theorem State.updMod_chans : (s.updMod f).chans = s.chans := rfl
@[simp] theorem State.updMod_groups : (s.updMod f).groups = s.groups := rfl
@[simp] theorem State.updMod_harts : (s.updMod f).harts = s.harts := rfl
@[simp] theorem State.updMod_chars : (s.updMod f).chars = s.chars := rfl
@[simp] theorem State.updMod_prg : (s.updMod f).prg = s.prg := rfl
@[simp] theorem State.updMod_xch : (s.updMod f).xch = s.xch := rfl
@[simp] theorem State.updMod_loops : (s.updMod f).loops = s.loops := rfl
@[simp] theorem State.updMod_overs : (s.updMod f).overs = s.overs := rfl
@[simp] theorem State.updMod_tune : (s.updMod f).tune = s.tune := rfl
@[simp] theorem State.updMod_axes : (s.updMod f).axes = s.axes := rfl
@[simp] theorem State.updMod_tables : (s.updMod f).tables = s.tables := rfl
@[simp] theorem State.updMod_saf : (s.updMod f).saf = s.saf := rfl
@[simp] theorem State.updMod_ring : (s.updMod f).ring = s.ring := rfl
@[simp] theorem State.updMod_pair : (s.updMod f).pair = s.pair := rfl
@[simp] theorem State.updMod_time : (s.updMod f).time = s.time := rfl
@[simp] theorem State.updMod_hif : (s.updMod f).hif = s.hif := rfl
@[simp] theorem State.updMod_regs : (s.updMod f).regs = s.regs := rfl
@[simp] theorem State.updMod_mb : (s.updMod f).mb = s.mb := rfl
@[simp] theorem State.updMod_recorder : (s.updMod f).recorder = s.recorder := rfl
@[simp] theorem State.updMod_stores : (s.updMod f).stores = s.stores := rfl
@[simp] theorem State.updMod_disp : (s.updMod f).disp = s.disp := rfl
@[simp] theorem State.updMod_mod : (s.updMod f).mod = f s.mod := rfl
@[simp] theorem State.updMod_free : (s.updMod f).free = s.free := rfl
@[simp] theorem State.updMod_out : (s.updMod f).out = s.out := rfl
@[simp] theorem State.updMod_pending : (s.updMod f).pending = s.pending := rfl
end

/-! ### What begins a command, and what it sends -/

@[simp] theorem State.begin_clock (t : Ns) : (s.begin t).clock = max s.clock t := rfl
@[simp] theorem State.begin_tick (t : Ns) : (s.begin t).tick = s.tick := rfl
@[simp] theorem State.begin_tickAt (t : Ns) : (s.begin t).tickAt = s.tickAt := rfl
@[simp] theorem State.begin_laneSeq (t : Ns) : (s.begin t).laneSeq = s.laneSeq := rfl
@[simp] theorem State.begin_pulseRound (t : Ns) : (s.begin t).pulseRound = s.pulseRound := rfl
@[simp] theorem State.begin_roundIdx (t : Ns) : (s.begin t).roundIdx = s.roundIdx := rfl
@[simp] theorem State.begin_islands (t : Ns) : (s.begin t).islands = s.islands := rfl
@[simp] theorem State.begin_crossings (t : Ns) : (s.begin t).crossings = s.crossings := rfl
@[simp] theorem State.begin_deferred (t : Ns) : (s.begin t).deferred = s.deferred := rfl
@[simp] theorem State.begin_cells (t : Ns) : (s.begin t).cells = s.cells := rfl
@[simp] theorem State.begin_gfes (t : Ns) : (s.begin t).gfes = s.gfes := rfl
@[simp] theorem State.begin_chans (t : Ns) : (s.begin t).chans = s.chans := rfl
@[simp] theorem State.begin_groups (t : Ns) : (s.begin t).groups = s.groups := rfl
@[simp] theorem State.begin_harts (t : Ns) : (s.begin t).harts = s.harts := rfl
@[simp] theorem State.begin_chars (t : Ns) : (s.begin t).chars = s.chars := rfl
@[simp] theorem State.begin_prg (t : Ns) : (s.begin t).prg = s.prg := rfl
@[simp] theorem State.begin_xch (t : Ns) : (s.begin t).xch = s.xch := rfl
@[simp] theorem State.begin_loops (t : Ns) : (s.begin t).loops = s.loops := rfl
@[simp] theorem State.begin_overs (t : Ns) : (s.begin t).overs = s.overs := rfl
@[simp] theorem State.begin_tune (t : Ns) : (s.begin t).tune = s.tune := rfl
@[simp] theorem State.begin_axes (t : Ns) : (s.begin t).axes = s.axes := rfl
@[simp] theorem State.begin_tables (t : Ns) : (s.begin t).tables = s.tables := rfl
@[simp] theorem State.begin_saf (t : Ns) : (s.begin t).saf = s.saf := rfl
@[simp] theorem State.begin_ring (t : Ns) : (s.begin t).ring = s.ring := rfl
@[simp] theorem State.begin_pair (t : Ns) : (s.begin t).pair = s.pair := rfl
@[simp] theorem State.begin_time (t : Ns) : (s.begin t).time = s.time := rfl
@[simp] theorem State.begin_hif (t : Ns) : (s.begin t).hif = s.hif := rfl
@[simp] theorem State.begin_regs (t : Ns) : (s.begin t).regs = s.regs := rfl
@[simp] theorem State.begin_mb (t : Ns) : (s.begin t).mb = s.mb := rfl
@[simp] theorem State.begin_recorder (t : Ns) : (s.begin t).recorder = s.recorder := rfl
@[simp] theorem State.begin_stores (t : Ns) : (s.begin t).stores = s.stores := rfl
@[simp] theorem State.begin_disp (t : Ns) : (s.begin t).disp = s.disp := rfl
@[simp] theorem State.begin_mod (t : Ns) : (s.begin t).mod = s.mod := rfl
@[simp] theorem State.begin_free (t : Ns) : (s.begin t).free = s.free := rfl
@[simp] theorem State.begin_out (t : Ns) : (s.begin t).out = [] := rfl
@[simp] theorem State.begin_pending (t : Ns) : (s.begin t).pending = s.pending := rfl

@[simp] theorem State.emit_clock (e : Emission) : (s.emit e).clock = s.clock := rfl
@[simp] theorem State.emit_tick (e : Emission) : (s.emit e).tick = s.tick := rfl
@[simp] theorem State.emit_tickAt (e : Emission) : (s.emit e).tickAt = s.tickAt := rfl
@[simp] theorem State.emit_laneSeq (e : Emission) : (s.emit e).laneSeq = s.laneSeq := rfl
@[simp] theorem State.emit_pulseRound (e : Emission) : (s.emit e).pulseRound = s.pulseRound := rfl
@[simp] theorem State.emit_roundIdx (e : Emission) : (s.emit e).roundIdx = s.roundIdx := rfl
@[simp] theorem State.emit_islands (e : Emission) : (s.emit e).islands = s.islands := rfl
@[simp] theorem State.emit_crossings (e : Emission) : (s.emit e).crossings = s.crossings := rfl
@[simp] theorem State.emit_deferred (e : Emission) : (s.emit e).deferred = s.deferred := rfl
@[simp] theorem State.emit_cells (e : Emission) : (s.emit e).cells = s.cells := rfl
@[simp] theorem State.emit_gfes (e : Emission) : (s.emit e).gfes = s.gfes := rfl
@[simp] theorem State.emit_chans (e : Emission) : (s.emit e).chans = s.chans := rfl
@[simp] theorem State.emit_groups (e : Emission) : (s.emit e).groups = s.groups := rfl
@[simp] theorem State.emit_harts (e : Emission) : (s.emit e).harts = s.harts := rfl
@[simp] theorem State.emit_chars (e : Emission) : (s.emit e).chars = s.chars := rfl
@[simp] theorem State.emit_prg (e : Emission) : (s.emit e).prg = s.prg := rfl
@[simp] theorem State.emit_xch (e : Emission) : (s.emit e).xch = s.xch := rfl
@[simp] theorem State.emit_loops (e : Emission) : (s.emit e).loops = s.loops := rfl
@[simp] theorem State.emit_overs (e : Emission) : (s.emit e).overs = s.overs := rfl
@[simp] theorem State.emit_tune (e : Emission) : (s.emit e).tune = s.tune := rfl
@[simp] theorem State.emit_axes (e : Emission) : (s.emit e).axes = s.axes := rfl
@[simp] theorem State.emit_tables (e : Emission) : (s.emit e).tables = s.tables := rfl
@[simp] theorem State.emit_saf (e : Emission) : (s.emit e).saf = s.saf := rfl
@[simp] theorem State.emit_ring (e : Emission) : (s.emit e).ring = s.ring := rfl
@[simp] theorem State.emit_pair (e : Emission) : (s.emit e).pair = s.pair := rfl
@[simp] theorem State.emit_time (e : Emission) : (s.emit e).time = s.time := rfl
@[simp] theorem State.emit_hif (e : Emission) : (s.emit e).hif = s.hif := rfl
@[simp] theorem State.emit_regs (e : Emission) : (s.emit e).regs = s.regs := rfl
@[simp] theorem State.emit_mb (e : Emission) : (s.emit e).mb = s.mb := rfl
@[simp] theorem State.emit_recorder (e : Emission) : (s.emit e).recorder = s.recorder := rfl
@[simp] theorem State.emit_stores (e : Emission) : (s.emit e).stores = s.stores := rfl
@[simp] theorem State.emit_disp (e : Emission) : (s.emit e).disp = s.disp := rfl
@[simp] theorem State.emit_mod (e : Emission) : (s.emit e).mod = s.mod := rfl
@[simp] theorem State.emit_free (e : Emission) : (s.emit e).free = s.free := rfl
@[simp] theorem State.emit_out (e : Emission) : (s.emit e).out = s.out ++ [e] := rfl
@[simp] theorem State.emit_pending (e : Emission) : (s.emit e).pending = s.pending := rfl

@[simp] theorem State.advance_clock : (s.advance).clock = s.clock := rfl
@[simp] theorem State.advance_tick : (s.advance).tick = s.tick := rfl
@[simp] theorem State.advance_tickAt : (s.advance).tickAt = s.tickAt := rfl
@[simp] theorem State.advance_laneSeq : (s.advance).laneSeq = s.laneSeq := rfl
@[simp] theorem State.advance_pulseRound : (s.advance).pulseRound = s.pulseRound := rfl
@[simp] theorem State.advance_roundIdx : (s.advance).roundIdx = s.roundIdx := rfl
@[simp] theorem State.advance_islands : (s.advance).islands = s.islands := rfl
@[simp] theorem State.advance_crossings : (s.advance).crossings = s.crossings := rfl
@[simp] theorem State.advance_deferred : (s.advance).deferred = s.deferred := rfl
@[simp] theorem State.advance_cells : (s.advance).cells = s.cells := rfl
@[simp] theorem State.advance_gfes : (s.advance).gfes = s.gfes := rfl
@[simp] theorem State.advance_chans : (s.advance).chans = s.chans := rfl
@[simp] theorem State.advance_groups : (s.advance).groups = s.groups := rfl
@[simp] theorem State.advance_harts : (s.advance).harts = s.harts := rfl
@[simp] theorem State.advance_chars : (s.advance).chars = s.chars := rfl
@[simp] theorem State.advance_prg : (s.advance).prg = s.prg := rfl
@[simp] theorem State.advance_xch : (s.advance).xch = s.xch := rfl
@[simp] theorem State.advance_loops : (s.advance).loops = s.loops := rfl
@[simp] theorem State.advance_overs : (s.advance).overs = s.overs := rfl
@[simp] theorem State.advance_tune : (s.advance).tune = s.tune := rfl
@[simp] theorem State.advance_axes : (s.advance).axes = s.axes := rfl
@[simp] theorem State.advance_tables : (s.advance).tables = s.tables := rfl
@[simp] theorem State.advance_saf : (s.advance).saf = s.saf := rfl
@[simp] theorem State.advance_ring : (s.advance).ring = s.ring := rfl
@[simp] theorem State.advance_pair : (s.advance).pair = s.pair := rfl
@[simp] theorem State.advance_time : (s.advance).time = s.time := rfl
@[simp] theorem State.advance_hif : (s.advance).hif = s.hif := rfl
@[simp] theorem State.advance_regs : (s.advance).regs = s.regs := rfl
@[simp] theorem State.advance_mb : (s.advance).mb = s.mb := rfl
@[simp] theorem State.advance_recorder : (s.advance).recorder = s.recorder := rfl
@[simp] theorem State.advance_stores : (s.advance).stores = s.stores := rfl
@[simp] theorem State.advance_disp : (s.advance).disp = s.disp := rfl
@[simp] theorem State.advance_mod : (s.advance).mod = s.mod := rfl
@[simp] theorem State.advance_free : (s.advance).free = s.free + 1 := rfl
@[simp] theorem State.advance_out : (s.advance).out = s.out := rfl
@[simp] theorem State.advance_pending : (s.advance).pending = s.pending := rfl

end Sys2Proof.Machine
end

