-- ==== Sys2Proof/Tests/Slice0.lean ====
section
/-! SUPPORT. Small states, and for every clause of a statement with hypotheses a state and operands that meet them all. Then the checks
of WellFormed on ill-formed commands, and single steps whose results are worked out from the rules. -/

namespace Sys2Proof.Machine

set_option linter.unusedVariables false
set_option Elab.async false
set_option maxRecDepth 20000
set_option synthInstance.maxSize 2000
set_option synthInstance.maxHeartbeats 200000

/-- A group configuration object with one record in it. -/
def wObj (head : Bytes) (k : Nat) (r : Bytes) : Bytes :=
  (head ++ List.replicate 32 0).take 32 ++ (List.range 16).flatMap fun i =>
    if i = k then (r ++ List.replicate 32 0).take 32 else List.replicate 32 0

/-- The module after reset with one cell, one channel, one group changed. -/
def wCell (f : Cell → Cell) : State := State.reset.updCell 3 f
def wChan (f : Chan → Chan) : State := State.reset.updChan 3 f
def wGfe (f : GroupCtl → GroupCtl) : State := State.reset.updGfe 0 f
def wGroup (f : Group → Group) : State := State.reset.updGroup 0 f

/-- A group change whose 35 chunks are out and received. -/
def wChange : GroupChange :=
  { org := .self, obj := wObj [0, 1] 3 [0x13, 0x10, 0, 0, 0, 0, 0, 0, 1], newEpoch := 1, accepted := 0, next := 35 }
def wCommit : State :=
  (wGroup fun q => { q with change := some wChange }).updGfe 0 fun q =>
    { q with chunks := (List.range 34).map (fun k => (k, (wChange.obj.drop (16 * k)).take 16)) ++ [(34, wr 4 (crc32c wChange.obj).toNat)] }

/-- A running image, the controller that runs it, and the lead of a pair that runs in step. -/
def wImage : Running :=
  { slot := 0, imageId := [1], build := 0, codeSize := 16, dataSize := 64, retainedOffset := 0, retainedSize := 0,
    keyMap := [⟨7, 4, 0, 0, 8, 4, false, false, false, false, false⟩], initSize := 0, hasStart := true, hasStationFault := false,
    hasCycleLong := true, hasPreSwitch := false, hasPostSwitch := false, writesLocal := [], readsLocal := [] }
def wRun : State :=
  { State.reset with
    mod := { state := .service }, regs := { role := Tmr.of 0 }, xch := { slots := #v[{ state := .running }, {}] },
    prg := { state := .running, running := some wImage, isoLeft := some 0, firstAfterStart := true } }
def wInStep : State :=
  { wRun with regs := { role := Tmr.of 1 }, pair := { state := .lead, barrier := { partnerLive := true } } }
def wSave : Save := { causes := [.interval], start := 0, payload := .empty, length := 0, target := 0 }
def wTask : EventTask := { prio := 2, trigger := .edge 3, queue := [.edge 3 true 0 1] }

/-- A verified image without sections stands in slot 1. -/
def wTwo : State :=
  { wRun with xch := { slots := #v[{ state := .running }, { state := .verified, bytes := List.replicate 16 0 ++ List.replicate 16 5 }] } }
def wSwitchObj : Bytes := 1 :: List.replicate 15 0 ++ List.replicate 16 5

theorem inside_nil (s : State) : Inside s [] := by intro r _ addr data h; cases h

/-- A loop of period 100 µs in manual mode with PV from the program, and a tuning step on it. -/
def wLoopObj : Bytes :=
  [0x80, 0, 0, 1] ++ wr 4 2 ++ wr 4 0 ++ wr 4 0x60000000 ++ wr 16 0 ++ [0xFF, 0, 0, 0] ++ wr 32 0 ++ wr 4 0x3F800000 ++ wr 4 0
    ++ wr 4 0x3F800000 ++ wr 4 0 ++ wr 4 0x3F800000 ++ wr 4 0 ++ wr 4 0x3F800000 ++ wr 32 0
def wTuneObj : Bytes :=
  [0, 4, 0, 0] ++ wr 4 0x3F800000 ++ wr 12 0 ++ wr 4 10 ++ [0, 0, 1, 0] ++ wr 4 0 ++ wr 4 0x3F800000 ++ wr 28 0
def wLoopSt : State :=
  { wRun with loops := wRun.loops.set 0 { cfg := some wLoopObj }, pending := [] }

/-- A step axis of period 250 µs on channels 3 and 4, configured and in standstill. -/
def wAxisObj : Bytes :=
  [0x80, 0, 1, 0] ++ wr 4 5 ++ wr 4 0 ++ [3, 4, 0xFF, 0xFF] ++ wr 2 80 ++ wr 2 40 ++ wr 2 40 ++ wr 2 0 ++ wr 16 0 ++ wr 8 (2 ^ 40)
    ++ wr 8 (2 ^ 42) ++ wr 8 (2 ^ 42) ++ wr 8 (2 ^ 44) ++ wr 8 (2 ^ 42) ++ wr 8 0 ++ wr 8 0 ++ wr 8 (2 ^ 50) ++ wr 24 0
def wMove (command : Nat) : Bytes := [0, BitVec.ofNat 8 command, 0, 0, 7, 0, 0, 0] ++ wr 8 (2 ^ 33) ++ wr 48 0
def wAxisSt : State :=
  { wRun with axes := wRun.axes.set 0 { cfg := some wAxisObj, state := .standstill, limits := acLimits wAxisObj } }
def wTable : Bytes := wr 4 0 ++ wr 4 2 ++ wr 24 0 ++ (wr 8 0 ++ wr 16 0) ++ (wr 4 5 ++ wr 20 0)
/-- A group object with two records in it. -/
def wObj2 (head : Bytes) (k : Nat) (r : Bytes) (k' : Nat) (r' : Bytes) : Bytes :=
  (head ++ List.replicate 32 0).take 32 ++ (List.range 16).flatMap fun i =>
    if i = k then (r ++ List.replicate 32 0).take 32 else if i = k' then (r' ++ List.replicate 32 0).take 32 else List.replicate 32 0

/-- A safety configuration: local SDI 3, 4 and 5, SDO 6, one consumed connection, one function on the first pair. -/
def wSafBody : Bytes :=
  wr 4 0x11 ++ [4, 1, 1, 0] ++ wr 4 144 ++ wr 16 0
def wSafRest : Bytes :=
  [0, 1, 3, 0] ++ wr 2 100 ++ wr 2 0 ++ ([1, 1, 4, 0] ++ wr 2 100 ++ wr 2 0) ++ ([2, 1, 5, 0] ++ wr 2 100 ++ wr 2 0)
    ++ ([3, 2, 6, 0] ++ wr 4 0) ++ ([0, 0] ++ wr 2 5 ++ wr 4 7 ++ wr 2 10 ++ wr 2 0 ++ [1, 2, 3, 4])
    ++ ([0x80, 0] ++ wr 6 0 ++ [0, 1, 0, 0] ++ wr 2 100 ++ wr 2 0 ++ (List.replicate 3 ([0xFF, 0xFF] ++ wr 6 0)).flatten
      ++ [3, 0xFF, 0xFF, 0xFF, 0xFF, 0xFF, 0xFF, 0xFF, 2, 0xFF] ++ wr 2 0 ++ wr 2 0 ++ wr 2 0 ++ wr 8 0)
def wSafObj : Bytes := wSafBody ++ wr 4 (crc32c (wSafBody ++ wr 4 0 ++ wSafRest)).toNat ++ wSafRest
/-- Group 0 is a safety group with three SDIs and an SDO of the safety island. -/
def wSafGroup : Bytes :=
  wr 32 0 ++ (List.range 16).flatMap fun i =>
    if i = 3 ∨ i = 4 ∨ i = 5 then [9] ++ wr 7 0 ++ wr 2 100 ++ wr 22 0 else if i = 6 then 0x4A :: wr 31 0 else wr 32 0
def wSafMod : State :=
  ({ wRun with regs := { wRun.regs with groupEn := Tmr.of 1, chown := wRun.regs.chown.set 0 (Tmr.of 0x4000000) } } : State).updGroup 0
    fun q => { q with cfg := some wSafGroup }
/-- The same with the configuration in force and the function in a state. -/
def wSafRun (f : SafFn) : State :=
  wSafMod.updSaf fun v => { v with cfg := some wSafObj, fns := v.fns.set 0 f }
def wSafConn (c : SafConn) : State :=
  wSafMod.updSaf fun v => { v with cfg := some wSafObj, conns := v.conns.set 0 c }
def wFrame20 (seq : BitVec 16) : Bytes := mkSafety 7 seq 0 0 0xFFFF false [1, 2, 3, 4]
def wContainer (seq : BitVec 16) : Bytes := mkBroluma 5 1 clsCyclic 0 false 3 0 0 (wr 2 1 ++ wr 2 0 ++ wFrame20 seq)

/-- A controller at node 9, locked in ring time, with its ports up. -/
def wCtl : State :=
  { wRun with
    regs := { wRun.regs with nodeAddr := Tmr.of 9, etherType := 0x88B5 },
    ring := { ports := Vector.replicate 3 { link := .up, gigabit := true }, cfg := {}, busCycle := 4, busStart := 4000000,
              windowEnded := false } }
/-- A station of one input and one output word at node 5. -/
def wStObj : Bytes := wr 2 3 ++ wr 2 5 ++ [0x80, 3] ++ wr 2 1 ++ wr 2 1 ++ [1, 255] ++ wr 20 0 ++ wr 4 0
def wStation : Station := { index := 3, obj := wStObj, state := .up }
def wCtlSt (f : Station → Station) : State := wCtl.updRing fun r => { r with stations := [f wStation] }
/-- The same node as an I/O station of master 1 with one RING-owned output. -/
def wIoMap : Bytes := wr 2 0 ++ wr 2 1 ++ wr 4 0 ++ [3, 0x11, 0, 0]
def wIo : State :=
  { wCtl with
    regs := { wCtl.regs with role := Tmr.of 3, chown := wRun.regs.chown.set 0 (Tmr.of 0x5000) },
    ring := { wCtl.ring with cfg := { wdCycles := 3, master := 1 }, io := { imageMap := some wIoMap, live := true } } }
def wFrame (src : Nat) (cls sub dest : Nat) (payload : Bytes) : Bytes := mkBroluma src 77 cls 0 false sub dest 0 payload
def wWire (b : Bytes) : WireFrame := { length := 64, etherType := 0x88B5, bytes := b, fcsGood := true }
def wInput : Bytes := wFrame 5 1 2 9 (wr 4 4 ++ [1, 0] ++ wr 2 1 ++ wr 4 7 ++ [0])
def wOutput : Bytes := wFrame 1 1 1 9 (wr 4 4 ++ [1, 0] ++ wr 2 1 ++ wr 4 0x3F800000)
def wTunnel (kind total : Nat) (data : Bytes) : Bytes :=
  wFrame 5 2 1 9 (wr 2 6 ++ [BitVec.ofNat 8 kind, 1] ++ wr 2 0 ++ wr 2 data.length ++ wr 4 total ++ wr 4 0 ++ data)
def wOut : TunnelOut := { tid := 6, org := .self, station := 3, node := 5, request := [1, 2] }
def wNode : NodeAddr := { org := .self, port := .a, hops := 2, newAddr := 5 }
def wRingObj : Bytes := wr 4 1000 ++ [60, 0, 0, 0] ++ wr 2 0 ++ wr 2 250 ++ wr 2 50 ++ [2, 0] ++ wr 16 0

/-- PAIR_CONFIG of pair 100 with members 9 and 8 and referees 7 and 6. -/
def wPairObj : Bytes := wr 2 100 ++ wr 2 9 ++ wr 2 8 ++ wr 2 7 ++ wr 2 6 ++ [5, 3] ++ wr 2 10 ++ wr 2 0 ++ [1] ++ wr 15 0
/-- Member A in a state, its partner and a referee heard. -/
def wMember (m : Member) (f : Pair → Pair) : State :=
  { wCtl with
    regs := { wCtl.regs with role := Tmr.of 1 },
    pair := f { cfg := some wPairObj, state := m, term := 3, leadNode := 9,
                partner := { lost := false, last := some 5, state := 2, leadNode := 9 }, ref1 := { lost := false, last := some 5 },
                barrier := { partnerLive := m == .lead || m == .shadow } } }
/-- Node 7 as a referee that holds the pair. -/
def wReferee (f : RefPair → RefPair) : State :=
  { wCtl with
    regs := { wCtl.regs with role := Tmr.of 4, nodeAddr := Tmr.of 7 },
    pair := { held := [f { cfg := wPairObj, term := 3, leadNode := 9, lastA := some 5, lostA := false }] } }
def wPairCmd (command : Nat) : Bytes := BitVec.ofNat 8 command :: wr 15 0
def wGrantMsg (sub src dest node term kh reason : Nat) : Bytes :=
  wFrame src 3 sub dest (grantPayload 100 node (BitVec.ofNat 32 term) kh (BitVec.ofNat 8 reason))
def wBeat : Bytes := wFrame 8 3 1 0xFFFF (heartbeatPayload 100 1 2 3 9 1 0 0 0 (crc32c wPairObj).toNat)
def wBarrier : BarrierMsg :=
  { cycle := 1, idle := false, stamp := 50, outputCrc := 0, newestBus := 4, crcs := [], locals := [], events := [], posts := [],
    revertReq := false, fromLead := true, writes := [], outcomes := [], retries := [], mailbox := [], pps := none, halted := none,
    armed := false, longActs := [] }

/-- A slave-only node that hears a grandmaster on port A, and a node that is the grandmaster. -/
def wGm : GmData := ⟨128, 248, 0xFE, 0xFFFF, 128, 77, 0⟩
def wTime (f : Time → Time) : State :=
  { wCtl with time := f { state := .locked, gm := some wGm, lastSync := some 5, pdelay := Vector.replicate 3 { invalid := false, lastValid := some 5 } } }
def wPtp (origin : Int) : PtpMsg := ⟨0, false, 0, 77 * 65536 + 1, 4, origin⟩
def wTimeObj : Bytes := [1, 128, 128, 0, 1, 3, 0, 0] ++ wr 2 100 ++ wr 2 10 ++ wr 4 0x3F333333 ++ wr 4 0x3E99999A ++ wr 12 0

/-- The function reached by its host, queue 0 and its completion queue enabled with 16 entries. -/
def wHost (f : Hif → Hif) : State :=
  { wRun with hif := f { ready := true, linkSpeed := 2, sqs := (Vector.replicate 8 {}).set 0 { log2 := 4, enable := true },
                         cqs := (Vector.replicate 8 {}).set 0 { log2 := 4, enable := true }, eq := { log2 := 4, enable := true } } }
/-- A descriptor of NOP. -/
def wNopDesc : Bytes := wr 2 1 ++ wr 62 0
def wBadDesc : Bytes := wr 2 0x7777 ++ wr 62 0
def wTag : Tag := { id := 6, sq := 0, desc := wNopDesc, accepted := 5 }
def wDone : Tag := { id := 6, sq := 0, desc := wNopDesc, accepted := 5, started := some 6, outcome := some (.done, 7) }
/-- Channel 3 bound from the host to CTL. -/
def wBox (f : Mailbox → Mailbox) : State :=
  { wRun with mb := { wRun.mb with bind := wRun.mb.bind.set 3 (Tmr.of 0x1015), boxes := wRun.mb.boxes.set 3 (f {}),
                                   domains := Vector.replicate 9 .on } }
/-- A record of 32 bytes, and the module with a recorder or a store changed. -/
def wRec : RecEntry :=
  { seq := 7, source := .svc, kind := .resetRelease, items := [], opSeconds := 0, powerCycles := 0, shipTime := none, length := 32 }
def wRecSt (f : Recorder → Recorder) : State := wRun.updRec f
def wStore (k : Fin 2) (f : Store → Store) : State := wRun.updStore k f
def wAction (a : Nat) : Bytes := BitVec.ofNat 8 a :: wr 15 0
def wChunk (last : Bool) (len : Nat) : Bytes := wr 4 0 ++ wr 4 len ++ [if last then 3 else 1] ++ wr 7 0
def wMeas : HoldupMeas := { vStart := 24, vMean := 20, dV := 1 }
def wDispConfig : Bytes := wr 2 100 ++ wr 2 20 ++ [95, 0] ++ wr 2 200 ++ wr 8 0
def wRegion (r on : BitVec 8) (mask : Nat) : Bytes := [r, on, 0, 0] ++ wr 12 mask
/-- Region 2 holds segments 0 to 7, and an update of it waits. -/
def wDisp (f : Display → Display) : State :=
  wRun.updDisp fun d => f { d with regions := d.regions.set 2 (some 0xFF), queued := d.queued.set 2 (some (.self, 5)), redriveDue := none }
def wBlinkObj : Bytes := [3, 1, 50, 0] ++ (List.replicate 7 [0xFF, 0, 0, 0]).flatten
def wPass : Pass :=
  { phases := [{ on := true, com := 0, segs := 5 }, { on := false, com := 3, segs := segBit 95 }], frame := 5, updates := [(.self, 2)] }
def wLed (k : Fin 2) : Bytes := BitVec.ofNat 8 k.val :: wr 15 0
/-- The module while it waits for its confirmation, as a controller. -/
def wWait : State := { State.reset with mod := { state := .waitConfirm }, regs := { role := Tmr.of 0 } }
def wTest : SelfTest :=
  { svcSram := true, oscillator := true, memories := true, prgSram := true, safMemory := true, crossings := List.replicate 11 true,
    badLanes := [], badGroupLanes := [], badPorts := [] }

theorem witness_CrossingsAndRecords_crossingRequest :
    ∃ (t : Ns) (src dst : Isl) (x : Transfer) (accepted : Bool) (s : State),
      (s.begin t).islandCode dst = none :=
  ⟨0, .prg, .ctl, .other 0, true, State.reset, by decide +kernel⟩

theorem witness_CrossingsAndRecords_crossingError :
    ∃ (t : Ns) (src dst : Isl) (x : Transfer) (accepted : Bool) (k : CrossCode) (s : State),
      (s.begin t).islandCode dst = some k :=
  ⟨0, .prg, .ctl, .other 0, true, .stalled, { State.reset with islands := State.reset.islands.set 3 { state := .stalled, code := some .stalled } }, by decide +kernel⟩

theorem witness_CrossingsAndRecords_islandWatchdogExpiry :
    ∃ (t : Ns) (i : Isl) (s : State),
      s.up i = true ∧ s.domainOn i = true ∧ (s.begin t).due i ((s.island i).serviced) i.watchdog ≤ max s.clock t :=
  ⟨20000000, .prg, State.reset, by decide +kernel⟩

theorem witness_CrossingsAndRecords_crossingTimeout :
    ∃ (t : Ns) (src dst : Isl) (x : Crossing) (s : State),
      s.up dst = true ∧ s.domainOn dst = true ∧ x ∈ s.crossings ∧ x.src = src ∧ x.dst = dst ∧ (s.begin t).due dst x.since dst.crossTimeout ≤ max s.clock t :=
  ⟨1000, .svc, .prg, ⟨.svc, .prg, 0, .other 0⟩, { State.reset with crossings := [⟨.svc, .prg, 0, .other 0⟩] }, by decide +kernel⟩

theorem witness_CrossingsAndRecords_islandReady :
    ∃ (t : Ns) (i : Isl) (s : State),
      s.up i = false ∧ s.mayRise i = true :=
  ⟨0, .ctl, { State.reset with mod := { state := .service }, islands := State.reset.islands.set 3 { state := .stalled } }, by decide +kernel⟩

theorem witness_CrossingsAndRecords_recordsDropped :
    ∃ (t : Ns) (s : State),
      s.recorder.intake = [] ∧ (∃ i : Fin 11, s.recorder.dropped[i] ≠ 0) :=
  ⟨0, { State.reset with recorder := { dropped := (Vector.replicate 11 0).set 2 3 } }, by decide +kernel⟩

theorem witness_CrossingsAndRecords_timeoutDecisionDeferred :
    ∃ (t : Ns) (w : Timeout) (good : Bool) (stamp : Ns) (d : Deferred) (s : State),
      s.deferred.find? (fun d => d.which == w) = some d :=
  ⟨0, .ioStation, true, 5, ⟨.ioStation, 7, [5]⟩, { State.reset with deferred := [⟨.ioStation, 7, [5]⟩] }, by decide +kernel⟩

theorem witness_IslandCommands_islandReset :
    ∃ (t : Ns) (org : Origin) (param : Bytes) (i : Isl) (s : State),
      (s.begin t).Admits org opIslandReset [.svc] ∧ param.length = 16 ∧ zeroAt param 1 15 = true ∧ islOfIdx (rd param 0 1) = some i ∧ (s.begin t).resetCheck i = none :=
  ⟨0, .self, 8 :: List.replicate 15 0, .recorder, State.reset, by decide +kernel⟩

theorem witness_IslandCommands_domainPower :
    ∃ (t : Ns) (org : Origin) (param : Bytes) (s : State),
      (s.begin t).Admits org opDomainPower [.svc] ∧ param.length = 16 ∧ rd param 1 1 ≤ 2 ∧ zeroAt param 2 14 = true ∧ (s.begin t).domainCheck (Ident.ofCode (rd param 0 1)) (domOf (rd param 1 1)) = none ∧ (s.domain (Ident.ofCode (rd param 0 1)) ≠ .off ∨ domOf (rd param 1 1) = .off) :=
  ⟨0, .self, 4 :: 0 :: List.replicate 14 0, State.reset, by decide +kernel⟩

theorem witness_IslandCommands_domainPowerUp :
    ∃ (t : Ns) (org : Origin) (param : Bytes) (s : State),
      (s.begin t).Admits org opDomainPower [.svc] ∧ param.length = 16 ∧ rd param 1 1 ≤ 2 ∧ zeroAt param 2 14 = true ∧ (s.begin t).domainCheck (Ident.ofCode (rd param 0 1)) (domOf (rd param 1 1)) = none ∧ s.domain (Ident.ofCode (rd param 0 1)) = .off ∧ domOf (rd param 1 1) ≠ .off ∧ Ident.ofCode (rd param 0 1) ≠ .prg1 :=
  ⟨0, .self, 5 :: 2 :: List.replicate 14 0, State.reset.updMb fun m => { m with domains := m.domains.set 4 .off }, by decide +kernel⟩

theorem witness_LaneTickAndFrames_channelInputFrame :
    ∃ (t : Ns) (ch : Fin 128) (f : BitVec 256) (s : State),
      frameGood 0 f = true ∧ s.regs.testCtl.getLsbD (grp ch).val = false :=
  ⟨50000, 3, cellFrame State.reset 3, State.reset, by decide +kernel⟩

theorem witness_LaneTickAndFrames_channelInputMissing :
    ∃ (t : Ns) (ch : Fin 128) (frame : Option (BitVec 256)) (s : State),
      (∀ f, frame = some f → frameGood 0 f = false ∨ s.regs.testCtl.getLsbD (grp ch).val = true) :=
  ⟨50000, 3, none, wChan fun c => { c with badRun := 3 }, fun _ h => nomatch h⟩

theorem witness_LaneTickAndFrames_groupInputFrame :
    ∃ (t : Ns) (g : Fin 8) (f : BitVec 256) (s : State),
      frameGood 2 f = true :=
  ⟨50000, 2, groupFrame State.reset 2, State.reset, by decide +kernel⟩

theorem witness_LaneTickAndFrames_groupInputMissing :
    ∃ (t : Ns) (g : Fin 8) (frame : Option (BitVec 256)) (s : State),
      (∀ f, frame = some f → frameGood 2 f = false) ∧ 3 ≤ s.groups[g].badRun :=
  ⟨50000, 0, none, wGroup fun q => { q with badRun := 3, supply := .ok }, (fun _ h => (nomatch h)), by decide +kernel⟩

theorem witness_LaneTickAndFrames_outputCutoff :
    ∃ (t : Ns) (s : State),
      s.lanesLive = true :=
  ⟨0, { State.reset with mod := { state := .service } }, by decide +kernel⟩

theorem witness_OutputFrames_channelOutputFrame :
    ∃ (t : Ns) (ch : Fin 128) (f : BitVec 256) (s : State),
      s.regs.testCtl.getLsbD (grp ch).val = false ∧ acceptable 1 s.cells[ch].epoch s.cells[ch].lastSeq s.cells[ch].silent f = true :=
  ⟨0, 3, (State.reset.outFrame 1 3).pack, State.reset, by decide +kernel⟩

theorem witness_OutputFrames_silenceEnds :
    ∃ (t : Ns) (ch : Fin 128) (f : BitVec 256) (p : BitVec 8) (s : State),
      s.regs.testCtl.getLsbD (grp ch).val = false ∧ acceptable 1 s.cells[ch].epoch s.cells[ch].lastSeq s.cells[ch].silent f = true ∧ s.cells[ch].silent = true ∧ s.cells[ch].exitCand = some p ∧ seqAfter p (BitVec.ofNat 8 (OutFrame.unpack f).seq) = 1 ∧ (OutFrame.unpack f).ownerLost = false :=
  ⟨0, 3, (State.reset.outFrame 1 3).pack, 0, wCell fun c => { c with exitCand := some 0 }, by decide +kernel⟩

theorem witness_OutputFrames_groupOutputFrame :
    ∃ (t : Ns) (g : Fin 8) (f : BitVec 256) (s : State),
      acceptable 3 s.gfes[g].epoch s.gfes[g].lastSeq s.gfes[g].silent f = true :=
  ⟨0, 3, (State.reset.groupOut 1 3).pack, State.reset, by decide +kernel⟩

theorem witness_OutputFrames_silentEntry :
    ∃ (t : Ns) (ch : Fin 128) (s : State),
      s.cells[ch].silent = false ∧ (s.begin t).dueField (grp ch) s.cells[ch].lastOutAccept 200000 ≤ max s.clock t :=
  ⟨200000, 3, wCell fun c => { c with silent := false }, by decide +kernel⟩

theorem witness_OutputFrames_groupSilentEntry :
    ∃ (t : Ns) (g : Fin 8) (s : State),
      s.gfes[g].silent = false ∧ (s.begin t).dueField g s.gfes[g].lastAccept 200000 ≤ max s.clock t :=
  ⟨200000, 0, wGfe fun q => { q with silent := false }, by decide +kernel⟩

theorem witness_OutputFrames_sdoReadbackCheck :
    ∃ (t : Ns) (ch : Fin 128) (s : State),
      s.cells[ch].mode = .sdo ∧ s.cells[ch].silent = true ∧ s.cells[ch].outRb = true ∧ (s.begin t).dueField (grp ch) s.cells[ch].lastOutAccept 1200000 ≤ max s.clock t :=
  ⟨1200000, 3, wCell fun c => { c with mode := .sdo, outRb := true }, by decide +kernel⟩

theorem witness_OutputFrames_groupSdoReadbackCheck :
    ∃ (t : Ns) (g : Fin 8) (i : Fin 16) (s : State),
      s.gfes[g].silent = true ∧ (s.begin t).dueField g s.gfes[g].lastAccept 1200000 ≤ max s.clock t ∧ s.cells[chanOf g i].mode = .sdo ∧ s.cells[chanOf g i].outRb = true :=
  ⟨1200000, 0, 3, wCell fun c => { c with mode := .sdo, outRb := true }, by decide +kernel⟩

theorem witness_OutputFrames_holdLimitExpiry :
    ∃ (t : Ns) (ch : Fin 128) (s : State),
      s.cells[ch].silent = true ∧ s.cells[ch].holdSubst = false ∧ holdLimit s.gfes[grp ch].cfg ≠ 0 ∧ (s.begin t).dueField (grp ch) s.cells[ch].lastOutAccept (holdLimit s.gfes[grp ch].cfg * 950000) ≤ max s.clock t :=
  ⟨2000000, 3, wGfe fun q => { q with cfg := some (wObj [0, 0, 0, 0, 1] 3 []) }, by decide +kernel⟩

theorem witness_Detectors_wireBreakSet :
    ∃ (t : Ns) (ch : Fin 128) (s : State),
      held (max s.clock t) s.cells[ch].wbSince 20000000 = true :=
  ⟨20000000, 3, wCell fun c => { c with wbSince := some 0 }, by decide +kernel⟩

theorem witness_Detectors_wireBreakClear :
    ∃ (t : Ns) (ch : Fin 128) (s : State),
      held (max s.clock t) s.cells[ch].wbClearSince 20000000 = true :=
  ⟨20000000, 3, wCell fun c => { c with wbClearSince := some 0 }, by decide +kernel⟩

theorem witness_Detectors_inrushWindowEnd :
    ∃ (t : Ns) (ch : Fin 128) (e : Ns) (s : State),
      s.cells[ch].inrushUntil = some e ∧ e ≤ max s.clock t :=
  ⟨9, 3, 7, wCell fun c => { c with inrushUntil := some 7 }, by decide +kernel⟩

theorem witness_Detectors_overloadTrip :
    ∃ (t : Ns) (ch : Fin 128) (s : State),
      s.cells[ch].mode.isDo = true ∧ s.cells[ch].switched = true ∧ held (max s.clock t) s.cells[ch].overSince 5000000 = true :=
  ⟨5000000, 3, wCell fun c => { c with mode := .dout, out := { c.out with on := true }, overSince := some 0 }, by decide +kernel⟩

theorem witness_Detectors_overloadRetry :
    ∃ (t : Ns) (ch : Fin 128) (r : Ns) (s : State),
      s.cells[ch].retryAt = some r ∧ r ≤ max s.clock t :=
  ⟨9, 3, 9, wCell fun c => { c with retryAt := some 9, tripped := true }, by decide +kernel⟩

theorem witness_Detectors_overloadClear :
    ∃ (t : Ns) (ch : Fin 128) (s : State),
      s.cells[ch].switched = true ∧ held (max s.clock t) s.cells[ch].onSince 1000000000 = true :=
  ⟨1000000000, 3, wCell fun c => { c with mode := .dout, out := { c.out with on := true }, onSince := some 0, trips := 2 }, by decide +kernel⟩

theorem witness_Detectors_openLoad :
    ∃ (t : Ns) (ch : Fin 128) (s : State),
      held (max s.clock t) s.cells[ch].openSince 100000000 = true :=
  ⟨100000000, 3, wCell fun c => { c with openSince := some 0 }, by decide +kernel⟩

theorem witness_Detectors_thermalClear :
    ∃ (t : Ns) (ch : Fin 128) (s : State),
      s.cells[ch].mode.isAo = true ∧ held (max s.clock t) s.cells[ch].coolSince 1000000000 = true :=
  ⟨1000000000, 3, wCell fun c => { c with mode := .aoSource, coolSince := some 0 }, by decide +kernel⟩

theorem witness_Detectors_complianceSet :
    ∃ (t : Ns) (ch : Fin 128) (s : State),
      (s.mode ch).isAo = true ∧ (s.begin t).complianceOpen ch = true ∧ heldStamp s.chans[ch].sample.stamp s.chans[ch].shortfallSince 50000000 = true :=
  ⟨60000000, 3, (wChan fun c => { c with shortfallSince := some 0, sample := { c.sample with stamp := 60000000 } }).updGroup 0 fun q => { q with cfg := some (wObj [] 3 [5]) }, by decide +kernel⟩

theorem witness_Detectors_complianceClear :
    ∃ (t : Ns) (ch : Fin 128) (s : State),
      heldStamp s.chans[ch].sample.stamp s.chans[ch].shortfallOkSince 500000000 = true :=
  ⟨500000000, 3, wChan fun c => { c with shortfallOkSince := some 0, sample := { c.sample with stamp := 500000000 } }, by decide +kernel⟩

theorem witness_Detectors_rangeDelayExpiry :
    ∃ (t : Ns) (ch : Fin 128) (s : State),
      (s.mode ch).isAi = true ∧ held (max s.clock t) s.chans[ch].bandSince (recRangeDelay (s.chanRec ch) * 1000000) = true :=
  ⟨500000000, 3, (wChan fun c => { c with bandSince := some 0 }).updGroup 0 fun q => { q with cfg := some (wObj [] 3 [7]) }, by decide +kernel⟩

theorem witness_Detectors_rangeClears :
    ∃ (t : Ns) (ch : Fin 128) (s : State),
      (s.mode ch).isAi = true ∧ held (max s.clock t) s.chans[ch].bandSince (recRangeDelay (s.chanRec ch) * 1000000) = false ∧ held (max s.clock t) s.chans[ch].outsideSince (recRangeDelay (s.chanRec ch) * 1000000) = true :=
  ⟨500000000, 3, (wChan fun c => { c with outsideSince := some 0 }).updGroup 0 fun q => { q with cfg := some (wObj [] 3 [7]) }, by decide +kernel⟩

theorem witness_PulsesAndReadback_offPulseSlot :
    ∃ (t : Ns) (ch : Fin 128) (s : State),
      (s.mode ch).isDo = true ∧ recPulseEn (s.chanRec ch) = true ∧ ((s.begin t).drive ch).on = true ∧ ((s.begin t).drive ch).hold = false ∧ ((s.begin t).drive ch).subst = false ∧ s.chans[ch].safOff = false ∧ (¬(s.regs.testCtl.getLsbD (8 + (grp ch).val) = true ∧ s.safetyGroup (grp ch) = false)) ∧ (roundTick roundNs (s.begin t).now + 2) % 5000 = 39 * ch.val :=
  ⟨5750000, 3, (wChan fun c => { c with demand := { c.demand with on := true } }).updGroup 0 fun q => { q with cfg := some (wObj [] 3 [3, 2]) }, by decide +kernel⟩

theorem witness_PulsesAndReadback_noOffPulse :
    ∃ (t : Ns) (ch : Fin 128) (s : State),
      ((s.begin t).beforeSlot ch = false ∨ (s.begin t).pulseAllowed ch = false) :=
  ⟨0, 3, State.reset, by decide +kernel⟩

theorem witness_PulsesAndReadback_offPulseEnd :
    ∃ (t : Ns) (ch : Fin 128) (seen : Bool) (p : Ns) (s : State),
      s.cells[ch].offPulseAt = some p ∧ p + 1000 * recPulseWidth (s.cellRec ch) ≤ max s.clock t :=
  ⟨1000000, 3, false, 0, wCell fun c => { c with offPulseAt := some 0 }, by decide +kernel⟩

theorem witness_PulsesAndReadback_offPulseRoundEnd :
    ∃ (t : Ns) (s : State),
      (s.begin t).now / roundNs ≠ s.roundIdx :=
  ⟨250000000, wChan fun c => { c with diag := 8, pulseSeenOwn := true, crossPartner := 7 }, by decide +kernel⟩

theorem witness_PulsesAndReadback_testPulseSlot :
    ∃ (t : Ns) (ch : Fin 128) (belowOff : Bool) (s : State),
      s.cells[ch].mode = .sdi ∧ 15 * ch.val ≤ roundTick 100000000 (s.begin t).now ∧ roundTick 100000000 (s.begin t).now < 15 * ch.val + 15 :=
  ⟨2300000, 3, false, wCell fun c => { c with mode := .sdi }, by decide +kernel⟩

theorem witness_PulsesAndReadback_readbackDelayExpiry :
    ∃ (t : Ns) (ch : Fin 128) (d : Ns) (s : State),
      s.chans[ch].rbDue = some d ∧ d ≤ max s.clock t :=
  ⟨9, 3, 5, (wChan fun c => { c with rbDue := some 5, sample := { c.sample with outRb := true } }).updGroup 0 fun q => { q with cfg := some (wObj [] 3 [3]) }, by decide +kernel⟩

theorem witness_PulsesAndReadback_buckTargetReached :
    ∃ (t : Ns) (ch : Fin 128) (code : BitVec 16) (fail : Bool) (b : Nat) (s : State),
      s.cells[ch].waiting = some (code, fail, b) :=
  ⟨0, 3, 700, false, 9, wCell fun c => { c with waiting := some (700, false, 9) }, by decide +kernel⟩

theorem witness_GroupSupply_lplusLow :
    ∃ (t : Ns) (g : Fin 8) (s : State),
      s.gfes[g].supply = .ok ∧ held (max s.clock t) s.gfes[g].lowSince 10000000 = true :=
  ⟨10000000, 0, wGfe fun q => { q with supply := .ok, lowSince := some 0 }, by decide +kernel⟩

theorem witness_GroupSupply_lplusOff :
    ∃ (t : Ns) (g : Fin 8) (s : State),
      s.gfes[g].supply ≠ .off ∧ 4 ≤ s.gfes[g].offRun :=
  ⟨0, 0, wGfe fun q => { q with supply := .ok, offRun := 4 }, by decide +kernel⟩

theorem witness_GroupSupply_lplusHigh :
    ∃ (t : Ns) (g : Fin 8) (s : State),
      (s.gfes[g].supply = .ok ∨ s.gfes[g].supply = .low) ∧ 4 ≤ s.gfes[g].highRun :=
  ⟨0, 0, wGfe fun q => { q with supply := .ok, highRun := 4 }, by decide +kernel⟩

theorem witness_GroupSupply_lplusRecover :
    ∃ (t : Ns) (g : Fin 8) (s : State),
      s.gfes[g].supply ≠ .off ∧ held (max s.clock t) s.gfes[g].recoverSince 100000000 = true :=
  ⟨100000000, 0, wGfe fun q => { q with supply := .low, recoverSince := some 0 }, by decide +kernel⟩

theorem witness_GroupSupply_lplusReturns :
    ∃ (t : Ns) (g : Fin 8) (s : State),
      s.gfes[g].supply = .off ∧ held (max s.clock t) s.gfes[g].recoverSince 100000000 = true :=
  ⟨100000000, 0, (wGfe fun q => { q with supply := .off, recoverSince := some 0 }).updCell 3 fun c => { c with mode := .dout, out := { c.out with on := true } }, by decide +kernel⟩

theorem witness_GroupSupply_groupConfigurationLost :
    ∃ (t : Ns) (g : Fin 8) (s : State),
      s.mod.vlog = false ∧ s.gfes[g].lplusV.toNat < 1000 :=
  ⟨0, 0, { State.reset with mod := { powered := false } }, by decide +kernel⟩

theorem witness_GroupConfiguration_groupConfig :
    ∃ (t : Ns) (org : Origin) (o : Bytes) (s : State),
      (s.begin t).Admits org opGroupConfig [.svc] ∧ o.length = 544 ∧ (s.begin t).groupCheck o = none :=
  ⟨0, .self, wObj [0, 0, 0, 0, 0] 3 [], State.reset, by decide +kernel⟩

theorem witness_GroupConfiguration_cfgCommit :
    ∃ (t : Ns) (g : Fin 8) (c : GroupChange) (s : State),
      s.groups[g].change = some c ∧ c.committed = false ∧ 35 ≤ c.next ∧ ((s.gfes[g].complete = true ∧ s.gfes[g].object = c.obj) ∨ (s.gfes[g].epoch = c.newEpoch ∧ s.gfes[g].chunks = [])) :=
  ⟨0, 0, wChange, wCommit.updGfe 0 fun q => { q with epoch := 1, chunks := [] }, by decide +kernel⟩

theorem witness_GroupConfiguration_groupConfigSettled :
    ∃ (t : Ns) (g : Fin 8) (c : GroupChange) (s : State),
      s.groups[g].change = some c ∧ c.committed = true :=
  ⟨0, 0, { wChange with committed := true }, wCommit.updGroup 0 fun q => { q with change := some { wChange with committed := true } }, by decide +kernel⟩

theorem witness_GroupConfiguration_groupConfigResend :
    ∃ (t : Ns) (g : Fin 8) (c : GroupChange) (s : State),
      s.groups[g].change = some c ∧ c.committed = false ∧ s.gfes[g].complete = false ∧ 35 ≤ c.next ∧ c.resent = false :=
  ⟨0, 0, wChange, wCommit.updGfe 0 fun q => { q with chunks := [] }, by decide +kernel⟩

theorem witness_GroupConfiguration_transferFails :
    ∃ (t : Ns) (g : Fin 8) (c : GroupChange) (s : State),
      s.groups[g].change = some c ∧ c.committed = false ∧ s.gfes[g].complete = false ∧ 35 ≤ c.next ∧ c.resent = true :=
  ⟨0, 0, { wChange with resent := true }, (wCommit.updGroup 0 fun q => { q with change := some { wChange with resent := true } }).updGfe 0 fun q => { q with chunks := [] }, by decide +kernel⟩

theorem witness_GroupConfiguration_charLoad :
    ∃ (t : Ns) (org : Origin) (o : Bytes) (s : State),
      (s.begin t).Admits org opCharLoad [.svc] ∧ o.length = 264 ∧ charOk o = true ∧ s.charUsers (clIndex o) = [] ∧ s.charPending org (clIndex o) = false ∧ s.storeOverflow (BitVec.ofNat 16 opCharLoad) (clIndex o) o = false :=
  ⟨0, .self, [5, 0, 0, 2, 0, 0, 0, 0] ++ wr 4 0 ++ wr 4 0 ++ wr 4 0x3F800000 ++ wr 4 0x3F800000 ++ List.replicate 240 0, State.reset, by decide +kernel⟩

theorem witness_GroupConfiguration_calibrationCheck :
    ∃ (t : Ns) (ch : Fin 128) (s : State),
      ((s.mode ch).isAo = true ∨ (s.mode ch).isAi = true) ∧ s.up .svc = true ∧ (∀ i : Fin 16, s.chans[chanOf (grp ch) i].cal.running = none) ∧ (s.safetyGroup (grp ch) = false ∨ ∀ i : Fin 16, s.chans[chanOf (grp ch) i].pulseReq = false ∧ s.cells[chanOf (grp ch) i].offPulseAt = none) ∧ s.regs.testCtl.getLsbD (16 + (grp ch).val) = false ∧ s.chans[ch].cal.nextDue ≤ max s.clock t :=
  ⟨28800000000000, 3, wGroup fun q => { q with cfg := some (wObj [] 3 [7]) }, by decide +kernel⟩

theorem witness_GroupConfiguration_calibrationCheckEnd :
    ∃ (t : Ns) (ch : Fin 128) (ref4 ref20 : Rat) (b : Ns) (s : State),
      s.chans[ch].cal.running = some b ∧ b + 300000 ≤ max s.clock t :=
  ⟨300000, 3, 4, 20, 0, wChan fun c => { c with cal := { c.cal with running := some 0 } }, by decide +kernel⟩

theorem witness_HartModem_hartRequest :
    ∃ (t : Ns) (org : Origin) (o : Bytes) (ch : Fin 128) (s : State),
      (s.begin t).Admits org opHartRequest [.svc, .tim] ∧ (16 ≤ o.length ∧ o.length ≤ 271) ∧ hartOk o = true ∧ hqChannel o = ch.val ∧ recHartEn (s.chanRec ch) = true ∧ ((s.mode ch).isAo = true ∨ (s.mode ch).isAi = true) ∧ s.groups[grp ch].change = none ∧ s.cells[ch].silent = false ∧ s.chans[ch].has .laneFailed = false :=
  ⟨0, .self, [3, 0, 1, 5] ++ List.replicate 12 0, 3, (wCell fun c => { c with silent := false }).updGroup 0 fun q => { q with cfg := some (wObj [] 3 [7, 0x20]) }, by decide +kernel⟩

theorem witness_HartModem_hartTransmitStart :
    ∃ (t : Ns) (ch : Fin 128) (q : HartReq) (s : State),
      s.harts[ch].active = some q ∧ s.harts[ch].state = .waitGap ∧ s.harts[ch].mayStart (max s.clock t) = true :=
  ⟨20000000, 3, ⟨.self, [3, 0, 1, 5], 0, false⟩, State.reset.updHart 3 fun h => { h with active := some ⟨.self, [3, 0, 1, 5], 0, false⟩, state := .waitGap }, by decide +kernel⟩

theorem witness_HartModem_hartResponse :
    ∃ (t : Ns) (ch : Fin 128) (start : Ns) (f : Bytes) (q : HartReq) (e : Ns) (s : State),
      s.harts[ch].active = some q ∧ s.harts[ch].txEnd = some e ∧ (s.harts[ch].state = .waitResp ∨ s.harts[ch].state = .rx) ∧ rxMine f = true ∧ e ≤ start ∧ start ≤ e + 300000000 ∧ rxGood 6 f = true ∧ s.harts[ch].rxErr = false :=
  ⟨9, 3, 8, [6, 0x81, 0, 2, 0, 0, 0x85], ⟨.self, [3, 0, 1, 5], 1, false⟩, 7, State.reset.updHart 3 fun h => { h with active := some ⟨.self, [3, 0, 1, 5], 1, false⟩, state := .waitResp, txEnd := some 7 }, by decide +kernel⟩

theorem witness_HartModem_hartBadFrame :
    ∃ (t : Ns) (ch : Fin 128) (start : Ns) (f : Bytes) (q : HartReq) (e : Ns) (s : State),
      s.harts[ch].active = some q ∧ s.harts[ch].txEnd = some e ∧ (s.harts[ch].state = .waitResp ∨ s.harts[ch].state = .rx) ∧ rxMine f = true ∧ e ≤ start ∧ start ≤ e + 300000000 ∧ (rxGood 6 f = false ∨ s.harts[ch].rxErr = true) :=
  ⟨9, 3, 8, [6, 0x81], ⟨.self, [3, 0, 1, 5], 1, false⟩, 7, State.reset.updHart 3 fun h => { h with active := some ⟨.self, [3, 0, 1, 5], 1, false⟩, state := .waitResp, txEnd := some 7 }, by decide +kernel⟩

theorem witness_HartModem_hartOtherFrame :
    ∃ (t : Ns) (ch : Fin 128) (start : Ns) (f : Bytes) (s : State),
      rxMine f = false :=
  ⟨9, 3, 8, [], State.reset, by decide +kernel⟩

theorem witness_HartModem_hartNoResponse :
    ∃ (t : Ns) (ch : Fin 128) (q : HartReq) (e : Ns) (s : State),
      s.harts[ch].active = some q ∧ s.harts[ch].txEnd = some e ∧ (s.harts[ch].state = .waitResp ∨ (s.harts[ch].state = .rx ∧ s.harts[ch].carrier = false)) ∧ (s.begin t).due .tim e 300000000 ≤ max s.clock t :=
  ⟨400000000, 3, ⟨.self, [3, 0, 1, 5], 1, false⟩, 7, State.reset.updHart 3 fun h => { h with active := some ⟨.self, [3, 0, 1, 5], 1, false⟩, state := .waitResp, txEnd := some 7 }, by decide +kernel⟩

theorem witness_HartModem_hartBurst :
    ∃ (t : Ns) (ch : Fin 128) (start : Ns) (f : Bytes) (s : State),
      hartOn (s.chanRec ch) = true ∧ s.harts[ch].rxErr = false :=
  ⟨9, 3, 8, [1, 1, 0, 2, 0, 0, 2], wGroup fun q => { q with cfg := some (wObj [] 3 [7, 0x20]) }, by decide +kernel⟩

theorem witness_HartModem_burstSilence :
    ∃ (t : Ns) (ch : Fin 128) (s : State),
      s.harts[ch].bursting = true ∧ (s.begin t).due .tim s.harts[ch].lastBurstAt 500000000 ≤ max s.clock t :=
  ⟨600000000, 3, State.reset.updHart 3 fun h => { h with bursting := true }, by decide +kernel⟩

theorem witness_ProgramCycle_mainCycleStart :
    ∃ (t : Ns) (faultActs : List (List PrgAct)) (acts : List PrgAct) (s : State),
      s.inStep = false ∧ (s.begin t).mayBegin = true ∧ (∀ l ∈ faultActs, Inside s l) ∧ Inside s acts ∧ s.prg.longHeld = [] :=
  ⟨0, [], [], wRun, by decide +kernel, by decide +kernel, fun _ h => (nomatch h), inside_nil _, by decide +kernel⟩

theorem witness_ProgramCycle_barrierSent :
    ∃ (t : Ns) (faultActs : List (List PrgAct)) (acts : List PrgAct) (s : State),
      s.inStep = true ∧ s.prg.active = true ∧ (s.begin t).mayBegin = true ∧ s.needsBarrier = true ∧ s.pair.barrier.partnerMsg = none :=
  ⟨0, [], [], wInStep, by decide +kernel⟩

theorem witness_ProgramCycle_outputWrite :
    ∃ (t : Ns) (writes : List PrgWrite) (s : State),
      s.prg.inMain = true :=
  ⟨0, [], { wRun with prg := { wRun.prg with inMain := true } }, by decide +kernel⟩

theorem witness_ProgramCycle_outputHeld :
    ∃ (t : Ns) (writes : List PrgWrite) (s : State),
      s.prg.inMain = true ∧ s.inStep = true :=
  ⟨0, [], { wInStep with prg := { wInStep.prg with inMain := true } }, by decide +kernel⟩

theorem witness_ProgramCycle_outputRelease :
    ∃ (t : Ns) (s : State),
      s.prg.toRelease ≠ [] ∧ (s.begin t).releaseDue = true :=
  ⟨0, { wRun with prg := { wRun.prg with toRelease := [.channel 3 true none false] } }, by decide +kernel⟩

theorem witness_ProgramCycle_cycleSlip :
    ∃ (t : Ns) (f : Ns) (s : State),
      s.prg.firstOverrun = some f ∧ s.prg.isoNow = true ∧ s.prg.inMain = false ∧ f + s.prg.param.slipLimit * s.tBus < max s.clock t :=
  ⟨10000000, 0, { wRun with prg := { wRun.prg with state := .isochronous, isoLeft := none, firstOverrun := some 0 } }, by decide +kernel⟩

theorem witness_ProgramCycle_retainedSaveInterval :
    ∃ (t : Ns) (s : State),
      s.prg.active = true ∧ s.up .recorder = true ∧ s.prg.boundary.imageId ≠ [] ∧ s.prg.lastSaveAt + s.saveInterval * 1000000000 ≤ max s.clock t ∧ s.stores[(1 : Fin 2)].heldBack = false :=
  ⟨60000000000, { wRun with prg := { wRun.prg with boundary := { imageId := [1] } }, stores := #v[{}, { running := some wSave }] }, by decide +kernel⟩

theorem witness_EventTasksAndLong_eventTaskStart :
    ∃ (t : Ns) (prio : Fin 16) (k : EventTask) (e : PrgEvent) (rest : List PrgEvent) (s : State),
      s.prg.live = true ∧ s.prg.events.find? (fun k => k.prio = prio) = some k ∧ k.queue = e :: rest ∧ k.active = none ∧ (s.begin t).eventFree k e = true ∧ (s.begin t).hubReady e = true :=
  ⟨0, 2, wTask, .edge 3 true 0 1, [], { wRun with prg := { wRun.prg with events := [wTask] } }, by decide +kernel⟩

theorem witness_EventTasksAndLong_eventTaskEnd :
    ∃ (t : Ns) (prio : Fin 16) (acts : List PrgAct) (writes : List PrgWrite) (k : EventTask) (e : PrgEvent) (start : Ns) (s : State),
      s.prg.events.find? (fun k => k.prio = prio) = some k ∧ k.active = some (e, start) ∧ Inside s acts :=
  ⟨5, 2, [], [], { wTask with queue := [], active := some (.edge 3 true 0 1, 0) }, .edge 3 true 0 1, 0, { wRun with prg := { wRun.prg with events := [{ wTask with queue := [], active := some (.edge 3 true 0 1, 0) }] } }, by decide +kernel, by decide +kernel, inside_nil _⟩

theorem witness_EventTasksAndLong_cycleLong :
    ∃ (t : Ns) (s : State),
      s.prg.active = true ∧ s.prg.inMain = true ∧ s.prg.longInCycle = false ∧ s.prg.running.map Running.hasCycleLong = some true ∧ (s.begin t).cycleOver 1 = true :=
  ⟨200000000, { wRun with prg := { wRun.prg with inMain := true } }, by decide +kernel⟩

theorem witness_EventTasksAndLong_cycleLongEnd :
    ∃ (t : Ns) (acts : List LongAct) (s : State),
      s.prg.longRunning = true :=
  ⟨0, [.stop], { wRun with prg := { wRun.prg with longRunning := true, inMain := true } }, by decide +kernel⟩

theorem witness_EventTasksAndLong_longStore :
    ∃ (t : Ns) (addr : Nat) (data : Bytes) (r : Running) (s : State),
      s.prg.longRunning = true ∧ s.inStep = false ∧ s.prg.running = some r ∧ addr + data.length ≤ r.dataSize :=
  ⟨0, 0, [5], wImage, { wRun with prg := { wRun.prg with longRunning := true } }, by decide +kernel⟩

theorem witness_EventTasksAndLong_eventOverrun :
    ∃ (t : Ns) (prio : Fin 16) (e : PrgEvent) (start : Ns) (s : State),
      ((s.prg.active = true ∨ s.prg.state = .starting)) ∧ (s.prg.events.find? (fun k => k.prio = prio)).bind EventTask.active = some (e, start) ∧ (s.begin t).due .prg start (1000000 * s.prg.param.wdMs) < max s.clock t :=
  ⟨200000000, 2, .edge 3 true 0 1, 0, { wRun with prg := { wRun.prg with events := [{ wTask with queue := [], active := some (.edge 3 true 0 1, 0) }] } }, by decide +kernel⟩

theorem witness_EventTasksAndLong_watchdogHalt :
    ∃ (t : Ns) (s : State),
      ((s.prg.active = true ∨ s.prg.state = .starting)) ∧ (((s.prg.inMain = true ∨ s.prg.longRunning = true) ∧ (s.begin t).cycleOver 2 = true) ∨
      (s.xch.switch.any fun w => (w.phase == .pre || w.phase == .post) &&
        decide ((s.begin t).due .prg w.since (1000000 * s.prg.param.wdMs) < max s.clock t)) = true) :=
  ⟨300000000, { wRun with prg := { wRun.prg with inMain := true } }, by decide +kernel⟩

theorem witness_EventTasksAndLong_trap :
    ∃ (t : Ns) (code codeAddr dataAddr : Nat) (s : State),
      ((s.prg.active = true ∨ s.prg.state = .starting)) :=
  ⟨0, 1, 2, 3, wRun, by decide +kernel⟩

theorem witness_EventTasksAndLong_eccHalt :
    ∃ (t : Ns) (s : State),
      ((s.prg.active = true ∨ s.prg.state = .starting)) :=
  ⟨0, wRun, by decide +kernel⟩

theorem witness_ProgramControl_run :
    ∃ (t : Ns) (org : Origin) (o : Bytes) (r : Running) (s : State),
      (s.begin t).Admits org opProgramControl [.prg] ∧ controlFormat 1 o = true ∧ s.programHeld = false ∧ s.runsPrograms = true ∧ (s.prg.state = .stopped ∨ s.prg.state = .halted) ∧ s.mod.prgFailed = false ∧ s.mod.failAt = none ∧ s.prg.running = some r :=
  ⟨0, .self, 1 :: List.replicate 15 0, wImage, { wRun with prg := { wRun.prg with state := .stopped } }, by decide +kernel⟩

theorem witness_ProgramControl_startFinished :
    ∃ (t : Ns) (acts : List PrgAct) (writes : List PrgWrite) (s : State),
      s.prg.state = .starting ∧ Inside s acts :=
  ⟨0, [], [], { wRun with prg := { wRun.prg with state := .starting } }, by decide +kernel, inside_nil _⟩

theorem witness_ProgramControl_stop :
    ∃ (t : Ns) (org : Origin) (o : Bytes) (s : State),
      (s.begin t).Admits org opProgramControl [.prg] ∧ controlFormat 2 o = true ∧ s.programHeld = false ∧ s.runsPrograms = true ∧ s.prg.state ≠ .stopped :=
  ⟨0, .self, 2 :: List.replicate 15 0, { wRun with stores := #v[{}, { heldBack := true }] }, by decide +kernel⟩

theorem witness_ProgramControl_isoEnter :
    ∃ (t : Ns) (org : Origin) (o : Bytes) (s : State),
      (s.begin t).Admits org opProgramControl [.prg] ∧ controlFormat 3 o = true ∧ s.programHeld = false ∧ s.runsPrograms = true ∧ s.prg.active = true :=
  ⟨0, .self, 3 :: List.replicate 15 0, wRun, by decide +kernel⟩

theorem witness_ProgramControl_isoLeave :
    ∃ (t : Ns) (org : Origin) (o : Bytes) (s : State),
      (s.begin t).Admits org opProgramControl [.prg] ∧ controlFormat 4 o = true ∧ s.programHeld = false ∧ s.runsPrograms = true ∧ s.prg.active = true ∧ s.prg.isoStartup = false :=
  ⟨0, .self, 4 :: List.replicate 15 0, wRun, by decide +kernel⟩

theorem witness_ProgramControl_programParam :
    ∃ (t : Ns) (org : Origin) (o : Bytes) (s : State),
      (s.begin t).Admits org opProgramParam [.prg] ∧ paramFormat o = true ∧ s.programHeld = false ∧ s.storeOverflow (BitVec.ofNat 16 opProgramParam) 0 o = false :=
  ⟨0, .self, [100, 0, 0, 0, 3, 0, 4, 0, 60] ++ List.replicate 23 0, wRun, by decide +kernel⟩

theorem witness_ProgramControl_varWrite :
    ∃ (t : Ns) (org : Origin) (o : Bytes) (e : KeyEntry) (s : State),
      (s.begin t).Admits org opVarWrite [.prg] ∧ zeroAt o 14 2 = true ∧ (1 ≤ rd o 12 2 ∧ rd o 12 2 ≤ 4096) ∧ o.length = 16 + rd o 12 2 ∧ (s.prg.running.bind fun r => r.find (BitVec.ofNat 64 (rd o 0 8))) = some e ∧ e.typeSig = BitVec.ofNat 32 (rd o 8 4) ∧ e.size = rd o 12 2 ∧ e.noExternalWrite = false :=
  ⟨0, .self, [7, 0, 0, 0, 0, 0, 0, 0, 4, 0, 0, 0, 4, 0, 0, 0, 1, 2, 3, 4], ⟨7, 4, 0, 0, 8, 4, false, false, false, false, false⟩, { wRun with prg := { wRun.prg with state := .stopped } }, by decide +kernel⟩

theorem witness_OnlineExchange_imageStage :
    ∃ (t : Ns) (org : Origin) (p data : Bytes) (s : State),
      (s.begin t).Admits org opImageStage [.svc, .recorder] ∧ s.runsPrograms = true ∧ s.xch.switch = none ∧ (s.xch.staging.bind Staging.last) = none ∧ (¬(isFirst p = true ∧ s.xch.staging.isSome = true)) ∧ stageFormat p data = true ∧ s.xch.inOrder p = true :=
  ⟨0, .self, [0, 0, 0, 0, 0, 1, 0, 0, 1] ++ List.replicate 7 0, List.replicate 256 9, wRun, by decide +kernel⟩

theorem witness_OnlineExchange_imageVerifyEnd :
    ∃ (t : Ns) (partnerCheck : Option (Fin 8)) (org : Origin) (s : State),
      s.xch.staging.bind Staging.last = some org :=
  ⟨0, none, .self, { wRun with xch := { wRun.xch with staging := some { last := some .self } } }, by decide +kernel⟩

theorem witness_OnlineExchange_programSwitch :
    ∃ (t : Ns) (org : Origin) (o : Bytes) (s : State),
      (s.begin t).Admits org opProgramSwitch [.prg, .svc, .recorder] ∧ o.length = 32 ∧ rdBits o 0 7 1 = 0 ∧ zeroAt o 1 7 = true ∧ s.programHeld = false ∧ s.xch.staging = none ∧ s.runsPrograms = true ∧ s.xch.slots[swSlot o].state = .verified ∧ Image.imageId s.xch.slots[swSlot o].bytes = swId o ∧ s.prg.active = true ∧ s.prg.state ≠ .switching ∧ (swCycle o = 0 ∨ s.prg.cycleNumber < swCycle o) ∧ Image.crcsOk s.xch.slots[swSlot o].bytes = true ∧ s.stores[(1 : Fin 2)].heldBack = false ∧ s.savePages.length ≤ 255 :=
  ⟨0, .self, wSwitchObj, wTwo, by decide +kernel⟩

theorem witness_OnlineExchange_switchAtRest :
    ∃ (t : Ns) (org : Origin) (o : Bytes) (s : State),
      (s.begin t).Admits org opProgramSwitch [.prg, .svc, .recorder] ∧ o.length = 32 ∧ rdBits o 0 7 1 = 0 ∧ zeroAt o 1 7 = true ∧ s.programHeld = false ∧ s.xch.staging = none ∧ s.runsPrograms = true ∧ s.xch.slots[swSlot o].state = .verified ∧ Image.imageId s.xch.slots[swSlot o].bytes = swId o ∧ (s.prg.state = .stopped ∨ s.prg.state = .halted) ∧ (swCycle o = 0 ∨ s.prg.cycleNumber < swCycle o) ∧ Image.crcsOk s.xch.slots[swSlot o].bytes = true :=
  ⟨0, .self, wSwitchObj, { wTwo with prg := { wTwo.prg with state := .stopped } }, by decide +kernel⟩

theorem witness_OnlineExchange_armed :
    ∃ (t : Ns) (cycle : Nat) (w : Switch) (s : State),
      s.xch.switch = some w ∧ w.phase = .armed ∧ w.cycle = cycle :=
  ⟨0, 7, { org := .self, slot := 1, cycle := 7 }, { wRun with xch := { wRun.xch with switch := some { org := .self, slot := 1, cycle := 7 } } }, by decide +kernel⟩

theorem witness_OnlineExchange_pairNotArmed :
    ∃ (t : Ns) (w : Switch) (s : State),
      s.xch.switch = some w ∧ w.phase = .armed ∧ s.isPair = true ∧ (w.partnerArmed = false ∨ (w.ownArmed = false ∧ s.inStep = true)) ∧ w.cycle ≤ s.barrierCycle + 1 :=
  ⟨0, { org := .self, slot := 1, cycle := 7 }, { wInStep with xch := { wRun.xch with switch := some { org := .self, slot := 1, cycle := 7 } }, pair := { wInStep.pair with barrier := { wInStep.pair.barrier with own := some (7, 0), passed := true } } }, by decide +kernel⟩

theorem witness_OnlineExchange_preSwitchEnd :
    ∃ (t : Ns) (gapUs : Nat) (acts : List PrgAct) (w : Switch) (s : State),
      s.xch.switch = some w ∧ w.phase = .pre ∧ s.prg.longRunning = false ∧ (∀ k ∈ s.prg.events, k.active = none) ∧ Inside s acts :=
  ⟨0, 30, [], { org := .self, slot := 1, cycle := 7, phase := .pre }, { wRun with xch := { wRun.xch with switch := some { org := .self, slot := 1, cycle := 7, phase := .pre } } }, by decide +kernel, by decide +kernel, by decide +kernel, by decide +kernel, inside_nil _⟩

theorem witness_OnlineExchange_postSwitchEnd :
    ∃ (t : Ns) (acts : List PrgAct) (w : Switch) (s : State),
      s.xch.switch = some w ∧ w.phase = .post ∧ w.since ≤ max s.clock t ∧ Inside s acts :=
  ⟨0, [], { org := .self, slot := 1, cycle := 7, phase := .post }, { wRun with xch := { wRun.xch with switch := some { org := .self, slot := 1, cycle := 7, phase := .post } } }, by decide +kernel, by decide +kernel, by decide +kernel, inside_nil _⟩

theorem witness_LoopSamples_loopSample :
    ∃ (t : Ns) (lp : Fin 64) (done : Ns) (o : Bytes) (s : State),
      s.loops[lp].cfg = some o ∧ s.loops[lp].pending = none ∧ s.up .ctl = true ∧ (s.begin t).loopFirst (s.gridTick (max s.clock t)) lp = true ∧ s.mod.failAt = none ∧ s.tickClock (s.gridTick (max s.clock t)) + 36000 ≤ max s.clock t :=
  ⟨140000, 0, 150000, wLoopObj, wLoopSt, by decide +kernel⟩

theorem witness_LoopSamples_loopEnables :
    ∃ (t : Ns) (lp : Fin 64) (done : Ns) (org : Origin) (o : Bytes) (ph : Nat) (s : State),
      s.loops[lp].cfg = none ∧ s.loops[lp].pending = some (org, o, ph) ∧ lcEnable o = true ∧ s.up .ctl = true ∧ (s.begin t).loopFirst (s.gridTick (max s.clock t)) lp = true ∧ s.mod.failAt = none ∧ s.tickClock (s.gridTick (max s.clock t)) + 36000 ≤ max s.clock t :=
  ⟨140000, 0, 150000, .self, wLoopObj, 0, { wRun with loops := wRun.loops.set 0 { pending := some (.self, wLoopObj, 0) } }, by decide +kernel⟩

theorem witness_LoopSamples_catchUpSample :
    ∃ (t : Ns) (lp : Fin 64) (done : Ns) (o : Bytes) (i : Nat) (rest : List Nat) (s : State),
      s.loops[lp].cfg = some o ∧ s.loops[lp].pending = none ∧ s.loops[lp].owed = i :: rest ∧ s.up .ctl = true ∧ s.mod.failAt = none ∧ s.loopNext (s.gridTick (max s.clock t)) = none ∧ s.inUnit lp = true ∧ (s.begin t).catchUpBefore lp = false :=
  ⟨200000, 0, 230000, wLoopObj, 2, [], { wRun with loops := wRun.loops.set 0 { cfg := some wLoopObj, owed := [2] } }, by decide +kernel⟩

theorem witness_LoopSamples_loopSlip :
    ∃ (t : Ns) (lp : Fin 64) (o : Bytes) (i : Nat) (s : State),
      s.loops[lp].firstLate = some i ∧ s.loops[lp].cfg = some o ∧ s.tickClock (i + lcSlip o * lcPeriod o) + 36000 < max s.clock t :=
  ⟨900000, 0, wLoopObj, 2, { wRun with loops := wRun.loops.set 0 { cfg := some wLoopObj, owed := [2], firstLate := some 2 } }, by decide +kernel⟩

theorem witness_LoopSamples_loopConfig :
    ∃ (t : Ns) (org : Origin) (o : Bytes) (lp : Fin 64) (s : State),
      (s.begin t).Admits org opLoopConfig [.ctl] ∧ o.length = 128 ∧ (s.begin t).loopCheck o = none ∧ lp.val = lcLoop o :=
  ⟨0, .self, wLoopObj, 0, wRun, by decide +kernel⟩

theorem witness_LoopSamples_loopCommand :
    ∃ (t : Ns) (org : Origin) (o : Bytes) (lp : Fin 64) (s : State),
      (s.begin t).Admits org opLoopCommand [.ctl] ∧ loopCommandFormat o = true ∧ lp.val = rdBits o 0 5 0 ∧ s.loopCommandBad o = false ∧ (∀ w ∈ s.loops[lp].writes, w.org = none) :=
  ⟨0, .self, [0, 1, 1, 0] ++ List.replicate 28 0, 0, wLoopSt, by decide +kernel⟩

theorem witness_LoopSamples_overrideConfig :
    ∃ (t : Ns) (org : Origin) (o : Bytes) (g : Fin 8) (s : State),
      (s.begin t).Admits org opOverrideConfig [.ctl] ∧ o.length = 32 ∧ (s.begin t).overrideCheck o = none ∧ g.val = ocGroup o :=
  ⟨0, .self, [0, 2, 0, 1, 255, 255, 255, 255, 255, 255, 0, 0] ++ List.replicate 20 0, 0, wRun, by decide +kernel⟩

theorem witness_TuningTests_tuneStart :
    ∃ (t : Ns) (org : Origin) (o c : Bytes) (lp : Fin 64) (s : State),
      (s.begin t).Admits org opTuneStart [.ctl] ∧ o.length = 64 ∧ lp.val = tsLoop o ∧ s.loops[lp].cfg = some c ∧ tuneFormat o (lcPeriod c) = true ∧ ((tsOutput o = true → s.loops[lp].mode = .manual ∨ s.loops[lp].mode = .auto) ∧ (tsOutput o = false → s.loops[lp].mode = .auto ∨ s.loops[lp].mode = .cascade)) ∧ s.memberOf lp = none ∧ s.tune.running = none ∧ admitted (costItems (s.loopSet none) (s.groupSet none) (some o)) = true ∧ tuneSamples o (lcPeriod c) * (4 + 4 * tsCount o) ≤ 262144 :=
  ⟨0, .self, wTuneObj, wLoopObj, 0, { wRun with loops := wRun.loops.set 0 { cfg := some wLoopObj, mode := .auto } }, by decide +kernel⟩

theorem witness_TuningTests_tuneStop :
    ∃ (t : Ns) (org : Origin) (o : Bytes) (s : State),
      (s.begin t).Admits org opTuneStop [.ctl] ∧ rd o 0 1 ≤ 63 ∧ zeroAt o 1 15 = true :=
  ⟨0, .self, [], wRun, by decide +kernel⟩

theorem witness_TuningTests_tuneEnd :
    ∃ (t : Ns) (org : Origin) (o : Bytes) (t0 : Ns) (s : State),
      s.tune.running = some (org, o) ∧ s.tune.t0 = some t0 ∧ s.tune.over o (max s.clock t - t0) = true :=
  ⟨10000000, .self, wTuneObj, 0, { wLoopSt with tune := { running := some (.self, wTuneObj), t0 := some 0 } }, by decide +kernel⟩

theorem witness_TuningTests_captureRead :
    ∃ (t : Ns) (org : Origin) (p : Bytes) (s : State),
      (s.begin t).Admits org opCaptureRead [.ctl] ∧ p.length = 16 ∧ rd p 0 4 % 4 = 0 ∧ rd p 4 4 % 4 = 0 ∧ (4 ≤ rd p 4 4 ∧ rd p 4 4 ≤ 262144) ∧ zeroAt p 8 8 = true ∧ s.tune.everRun = true :=
  ⟨0, .self, [0, 0, 0, 0, 4] ++ List.replicate 11 0, { wRun with tune := { everRun := true } }, by decide +kernel⟩

theorem witness_AxisSamples_axisSample :
    ∃ (t : Ns) (ax : Fin 16) (done : Ns) (o : Bytes) (s : State),
      s.axes[ax].cfg = some o ∧ s.axes[ax].pendCfg = none ∧ axServo o = false ∧ s.up .mot = true ∧ s.mod.failAt = none ∧ s.axes[ax].owed = [] ∧ onGrid (acPeriod o) s.axes[ax].phase (s.gridTick (max s.clock t)) = true ∧ (s.axes[ax].lastPoint = none ∨ ∃ j, s.axes[ax].lastPoint = some j ∧ j < s.gridTick (max s.clock t)) ∧ s.time.gridFloor < s.gridTick (max s.clock t) ∧ s.tickClock (s.gridTick (max s.clock t)) + 36000 ≤ max s.clock t :=
  ⟨540000, 0, 550000, wAxisObj, wAxisSt, by decide +kernel⟩

theorem witness_AxisSamples_moveTaken :
    ∃ (t : Ns) (ax : Fin 16) (done : Ns) (o : Bytes) (x : AxisCmd) (s : State),
      s.axes[ax].cfg = some o ∧ s.axes[ax].pendCfg = none ∧ axServo o = false ∧ s.up .mot = true ∧ s.mod.failAt = none ∧ s.axes[ax].owed = [] ∧ onGrid (acPeriod o) s.axes[ax].phase (s.gridTick (max s.clock t)) = true ∧ (s.axes[ax].lastPoint = none ∨ ∃ j, s.axes[ax].lastPoint = some j ∧ j < s.gridTick (max s.clock t)) ∧ s.time.gridFloor < s.gridTick (max s.clock t) ∧ s.tickClock (s.gridTick (max s.clock t)) + 36000 ≤ max s.clock t ∧ s.axisLaneBad o = false ∧ s.tracks ax o = false ∧ s.axes[ax].state = .standstill ∧ s.axes[ax].limitPending = false ∧ s.axes[ax].cmds = [x] ∧ x.stamp ≤ (s.tickClock (s.gridTick (max s.clock t)) + 36000).toNat ∧ cmCommand x.obj = 1 ∧ axisCommandOk o x.obj = true ∧ acSoft o = false :=
  ⟨540000, 0, 550000, wAxisObj, ⟨0, true, wMove 1, none⟩, { wAxisSt with axes := wAxisSt.axes.set 0 { wAxisSt.axes[0] with cmds := [⟨0, true, wMove 1, none⟩] } }, by decide +kernel⟩

theorem witness_AxisSamples_axisSlip :
    ∃ (t : Ns) (ax : Fin 16) (o : Bytes) (i : Nat) (s : State),
      s.axes[ax].firstLate = some i ∧ s.axes[ax].cfg = some o ∧ s.tickClock (i + acSlip o * acPeriod o) + 36000 < max s.clock t :=
  ⟨900000, 0, wAxisObj, 2, { wRun with axes := wRun.axes.set 0 { cfg := some wAxisObj, owed := [2], firstLate := some 2 } }, by decide +kernel⟩

theorem witness_AxisSamples_stepDebtTimeout :
    ∃ (t : Ns) (ax : Fin 16) (o : Bytes) (d : Ns) (s : State),
      s.axes[ax].cfg = some o ∧ s.axes[ax].step.debtSince = some d ∧ s.axes[ax].step.debt ≠ 0 ∧ d + 20000000 ≤ max s.clock t ∧ s.axes[ax].state ≠ .disabled :=
  ⟨30000000, 0, wAxisObj, 5, { wAxisSt with axes := wAxisSt.axes.set 0 { wAxisSt.axes[0] with step := { debt := 3, debtSince := some 5 } } }, by decide +kernel⟩

theorem witness_AxisCommands_axisConfig :
    ∃ (t : Ns) (org : Origin) (o : Bytes) (ax : Fin 16) (s : State),
      (s.begin t).Admits org opAxisConfig [.mot] ∧ o.length = 128 ∧ (s.begin t).axisCheck o = none ∧ ax = acAxis o ∧ (acEnable o = true ∨ s.axes[ax].cfg.isSome = true) :=
  ⟨0, .self, wAxisObj, 0, ({ wRun with regs := { wRun.regs with chown := wRun.regs.chown.set 0 (Tmr.of 0x33000) } } : State).updGroup 0 fun q => { q with cfg := some (wObj2 [] 3 [0x34] 4 [0x34]) }, by decide +kernel⟩

theorem witness_AxisCommands_moveAbs :
    ∃ (t : Ns) (org : Origin) (o : Bytes) (ax : Fin 16) (s : State),
      (s.begin t).Admits org opAxisCommand [.mot] ∧ o.length = 64 ∧ cmCommand o = 1 ∧ ax = cmAxis o ∧ (∀ x ∈ s.axes[ax].cmds, x.org = none) ∧ s.axes[ax].cfg.isSome = true :=
  ⟨0, .self, wMove 1, 0, wAxisSt, by decide +kernel⟩

theorem witness_AxisCommands_moveRel :
    ∃ (t : Ns) (org : Origin) (o : Bytes) (ax : Fin 16) (s : State),
      (s.begin t).Admits org opAxisCommand [.mot] ∧ o.length = 64 ∧ cmCommand o = 2 ∧ ax = cmAxis o ∧ (∀ x ∈ s.axes[ax].cmds, x.org = none) ∧ s.axes[ax].cfg.isSome = true :=
  ⟨0, .self, wMove 2, 0, wAxisSt, by decide +kernel⟩

theorem witness_AxisCommands_runTable :
    ∃ (t : Ns) (org : Origin) (o : Bytes) (ax : Fin 16) (s : State),
      (s.begin t).Admits org opAxisCommand [.mot] ∧ o.length = 64 ∧ cmCommand o = 3 ∧ ax = cmAxis o ∧ (∀ x ∈ s.axes[ax].cmds, x.org = none) ∧ s.axes[ax].cfg.isSome = true :=
  ⟨0, .self, wMove 3, 0, wAxisSt, by decide +kernel⟩

theorem witness_AxisCommands_axisStop :
    ∃ (t : Ns) (org : Origin) (o : Bytes) (ax : Fin 16) (s : State),
      (s.begin t).Admits org opAxisCommand [.mot] ∧ o.length = 64 ∧ cmCommand o = 4 ∧ ax = cmAxis o ∧ (∀ x ∈ s.axes[ax].cmds, x.org = none) ∧ s.axes[ax].cfg.isSome = true :=
  ⟨0, .self, wMove 4, 0, wAxisSt, by decide +kernel⟩

theorem witness_AxisCommands_quickStop :
    ∃ (t : Ns) (org : Origin) (o : Bytes) (ax : Fin 16) (s : State),
      (s.begin t).Admits org opAxisCommand [.mot] ∧ o.length = 64 ∧ cmCommand o = 5 ∧ ax = cmAxis o ∧ (∀ x ∈ s.axes[ax].cmds, x.org = none) ∧ s.axes[ax].cfg.isSome = true :=
  ⟨0, .self, wMove 5, 0, wAxisSt, by decide +kernel⟩

theorem witness_AxisCommands_setPosition :
    ∃ (t : Ns) (org : Origin) (o : Bytes) (ax : Fin 16) (s : State),
      (s.begin t).Admits org opAxisCommand [.mot] ∧ o.length = 64 ∧ cmCommand o = 6 ∧ ax = cmAxis o ∧ (∀ x ∈ s.axes[ax].cmds, x.org = none) ∧ s.axes[ax].cfg.isSome = true :=
  ⟨0, .self, wMove 6, 0, wAxisSt, by decide +kernel⟩

theorem witness_AxisCommands_setLimits :
    ∃ (t : Ns) (org : Origin) (o : Bytes) (ax : Fin 16) (s : State),
      (s.begin t).Admits org opAxisCommand [.mot] ∧ o.length = 64 ∧ cmCommand o = 7 ∧ ax = cmAxis o ∧ (∀ x ∈ s.axes[ax].cmds, x.org = none) ∧ s.axes[ax].cfg.isSome = true :=
  ⟨0, .self, wMove 7, 0, wAxisSt, by decide +kernel⟩

theorem witness_AxisCommands_resetFault :
    ∃ (t : Ns) (org : Origin) (o : Bytes) (ax : Fin 16) (s : State),
      (s.begin t).Admits org opAxisCommand [.mot] ∧ o.length = 64 ∧ cmCommand o = 8 ∧ ax = cmAxis o ∧ (∀ x ∈ s.axes[ax].cmds, x.org = none) ∧ s.axes[ax].cfg.isSome = true :=
  ⟨0, .self, wMove 8, 0, wAxisSt, by decide +kernel⟩

theorem witness_AxisCommands_tableLoad :
    ∃ (t : Ns) (org : Origin) (o c : Bytes) (s : State),
      (s.begin t).Admits org opTableLoad [.mot] ∧ tableFormat o = true ∧ s.axes[Fin.ofNat 16 (tlAxis o)].cfg = some c ∧ (∀ k : Fin 16, ∀ r, s.axes[k].run = some r → r.index ≠ Fin.ofNat 256 (tlIndex o)) ∧ s.tablePending org (tlIndex o % 256) = false ∧ s.poolUsed (some (Fin.ofNat 256 (tlIndex o))) + tlCount o ≤ 32768 ∧ tableExceeds o (acPeriod c) (acV c) (acA c) (acD c) = none :=
  ⟨0, .self, wTable, wAxisObj, wAxisSt, by decide +kernel⟩

theorem witness_AxisCommands_tableInUse :
    ∃ (t : Ns) (org : Origin) (o : Bytes) (s : State),
      (s.begin t).Admits org opTableLoad [.mot] ∧ tableFormat o = true ∧ s.axes[Fin.ofNat 16 (tlAxis o)].cfg.isSome = true ∧ (∃ k : Fin 16, (s.axes[k].run.map (·.index)) = some (Fin.ofNat 256 (tlIndex o))) :=
  ⟨0, .self, wTable, { wAxisSt with axes := wAxisSt.axes.set 0 { wAxisSt.axes[0] with run := some ⟨0, 0, 0, 0, 0⟩ } }, by decide +kernel⟩

theorem witness_SafetyCycle_safetyCycle :
    ∃ (t : Ns) (lenA lenB : Rat) (s : State),
      s.up .saf = true ∧ s.saf.cycle ≠ ((s.begin t).now / 1000000).toNat ∧ 40000 ≤ (s.begin t).now % 1000000 ∧ (s.begin t).now % 1000000 < 50000 ∧ s.mod.failAt = none ∧ s.saf.fault = none ∧ s.time.stepped = false ∧ clockFault ((offTime lenA :: s.saf.historyA).take 10) = false ∧ clockFault ((offTime lenB :: s.saf.historyB).take 10) = false :=
  ⟨1040000, 1000000, 1000000, wSafRun { state := .run }, by decide +kernel⟩

theorem witness_SafetyCycle_channelsDiffer :
    ∃ (t : Ns) (lenA lenB : Rat) (inA inB : Bool) (s : State),
      s.up .saf = true ∧ s.saf.cycle ≠ ((s.begin t).now / 1000000).toNat ∧ 40000 ≤ (s.begin t).now % 1000000 ∧ (s.begin t).now % 1000000 < 50000 ∧ s.mod.failAt = none ∧ s.saf.fault = none :=
  ⟨1040000, 1000000, 1000000, true, true, wSafRun { state := .run }, by decide +kernel⟩

theorem witness_SafetyFunctions_discrepancy :
    ∃ (t : Ns) (sf : Fin 48) (p : Fin 4) (limit : Int) (s : State),
      s.safLive = true ∧ s.saf.fns[sf].state.active = true ∧ (s.begin t).discrepant sf p = some limit ∧ s.saf.fns[sf].causes.contains (.discrepancy p (follower (s.sfEntry sf) p.val s.saf.fns[sf].pairs[p].firstIsA)) = false :=
  ⟨900000000, 0, 0, 100000005, (wSafRun { state := .run, pairs := (Vector.replicate 4 {}).set 0 { disStart := some 5 } }).updSaf fun v => { v with cycle := 800 }, by decide +kernel⟩

theorem witness_SafetyFunctions_resetHeld :
    ∃ (t : Ns) (sf : Fin 48) (p : Int) (s : State),
      s.safLive = true ∧ s.saf.fns[sf].button.pressStart = some p ∧ s.saf.fns[sf].button.heldLogged = false ∧ p + 3000000000 < (s.begin t).now :=
  ⟨4000000000, 0, 5, wSafRun { state := .waitReset, button := { pressStart := some 5 } }, by decide +kernel⟩

theorem witness_SafetyFunctions_stoFeedback :
    ∃ (t : Ns) (sf : Fin 48) (t0 : Ns) (s : State),
      s.safLive = true ∧ s.saf.fns[sf].state.active = true ∧ s.saf.fns[sf].offSince = some t0 ∧ sfFb (s.sfEntry sf) ≠ 0xFF ∧ s.saf.fns[sf].outCmd = false ∧ s.saf.fns[sf].fbReached = false ∧ (t0 : Int) + s.time.ringOff + 1000000 * sfFbTime (s.sfEntry sf) < 1000000 * s.saf.cycle ∧ s.saf.fns[sf].causes.contains .stoFeedback = false :=
  ⟨900000000, 1, 5, (wSafRun {}).updSaf fun v => { v with fns := v.fns.set 1 { state := .demand, offSince := some 5 }, cycle := 800 }, by decide +kernel⟩

theorem witness_SafetyFunctions_inputFaultSettled :
    ∃ (t : Ns) (ch : Fin 64) (s : State),
      s.safLive = true ∧ s.saf.chans[ch].faulted = false ∧ held (max s.clock t) s.saf.chans[ch].freeSince 1000000000 = true :=
  ⟨2000000000, 0, (wSafRun { state := .locked, causes := [.inputFault 0] }).updSaf fun v => { v with chans := v.chans.set 0 { faulted := false, freeSince := some 5 } }, by decide +kernel⟩

theorem witness_SafetyFunctions_supplySettled :
    ∃ (t : Ns) (g : Fin 8) (s : State),
      s.safLive = true ∧ held (max s.clock t) s.saf.supplySince[g] 1000000000 = true ∧ (s.groups[g].supply = .ok ∨ s.groups[g].supply = .low) :=
  ⟨2000000000, 0, (wSafRun { state := .locked, causes := [.supply 0] }).updSaf (fun v => { v with supplySince := v.supplySince.set 0 (some 5) }) |>.updGroup 0 fun q => { q with supply := .ok }, by decide +kernel⟩

theorem witness_SafetyFunctions_recloseCheck :
    ∃ (t : Ns) (g : Fin 8) (due : Ns) (s : State),
      s.safLive = true ∧ s.saf.groupReclose[g] = .checking due ∧ due ≤ max s.clock t ∧ (s.sdosOf g).any (fun c => s.chans[c].sample.outRb) = false :=
  ⟨2000000000, 0, 5, (wSafRun { state := .locked, causes := [.outputStuck 0] }).updSaf fun v => { v with groupReclose := v.groupReclose.set 0 (.checking 5), testFor := v.testFor.set 0 [0] }, by decide +kernel⟩

theorem witness_SafetyFunctions_recloseFails :
    ∃ (t : Ns) (g : Fin 8) (due : Ns) (sf : Fin 48) (rest : List (Fin 48)) (s : State),
      s.safLive = true ∧ s.saf.groupReclose[g] = .checking due ∧ due ≤ max s.clock t ∧ (s.sdosOf g).any (fun c => s.chans[c].sample.outRb) = true ∧ s.saf.testFor[g] = sf :: rest :=
  ⟨2000000000, 0, 5, 0, [], (wSafRun { state := .locked, causes := [.outputStuck 0] }).updSaf (fun v => { v with groupReclose := v.groupReclose.set 0 (.checking 5), testFor := v.testFor.set 0 [0] }) |>.updChan 6 fun c => { c with sample := { c.sample with outRb := true } }, by decide +kernel⟩

theorem witness_SafetyFunctions_recloseRoundCheck :
    ∃ (t : Ns) (g : Fin 8) (r : Nat) (s : State),
      s.safLive = true ∧ s.saf.grace[g] = some r ∧ r ≤ s.pulseRound :=
  ⟨0, 0, 0, (wSafRun { state := .run }).updSaf fun v => { v with grace := v.grace.set 0 (some 0), ignored := [(6, true)] }, by decide +kernel⟩

theorem witness_SafetyFunctions_commandsReleased :
    ∃ (t : Ns) (c : SafCmd) (s : State),
      s.saf.release = some c ∧ c.due ≤ max s.clock t :=
  ⟨2000000, ⟨5, [], [], [], Vector.replicate 8 false, Vector.replicate 8 none⟩, (wSafRun { state := .run }).updSaf fun v => { v with release := some ⟨5, [], [], [], Vector.replicate 8 false, Vector.replicate 8 none⟩ }, by decide +kernel⟩

theorem witness_SafetyFunctions_permitTimeout :
    ∃ (t : Ns) (ch : Fin 128) (s : State),
      s.chans[ch].permit = true ∧ (s.begin t).due .tim s.chans[ch].permitStamp 2000000 ≤ max s.clock t :=
  ⟨3000000, 6, (wSafRun { state := .run }).updChan 6 fun c => { c with permit := true }, by decide +kernel⟩

theorem witness_SafetyConfigurationAndFaults_safetyConfig :
    ∃ (t : Ns) (org : Origin) (o : Bytes) (s : State),
      (s.begin t).Admits org opSafetyConfig [.saf] ∧ (32 ≤ o.length ∧ o.length ≤ 4128) ∧ s.saf.activate = none ∧ s.safPending org = false ∧ (s.begin t).safetyCheck o = none ∧ s.overCapacity s.nextRing (s.ring.stations.map Station.next) o = false ∧ (s.begin t).storeOverflow (BitVec.ofNat 16 opSafetyConfig) 0 o = false :=
  ⟨0, .self, wSafObj, wSafMod, by decide +kernel⟩

theorem witness_SafetyConfigurationAndFaults_safetyConfirm :
    ∃ (t : Ns) (org : Origin) (p o : Bytes) (s : State),
      (s.begin t).Admits org opSafetyConfirm [.saf] ∧ s.saf.fault = none ∧ s.saf.pendingCfg = some o ∧ rd p 0 4 = safId o ∧ rd p 4 4 = safCrc o :=
  ⟨0, .self, wr 4 0x11 ++ wr 4 (safCrc wSafObj) ++ wr 8 0, wSafObj, wSafMod.updSaf fun v => { v with pendingCfg := some wSafObj }, by decide +kernel⟩

theorem witness_SafetyConfigurationAndFaults_safetyContainer :
    ∃ (t ingress : Ns) (b f e : Bytes) (i : Fin 32) (last : BitVec 16) (s : State),
      s.safLive = true ∧ s.node ≠ 0 ∧ fClass b = clsCyclic ∧ fSubtype b = 3 ∧ pcrcGood b = true ∧ s.shut b = false ∧ containerFrames (fPayload b) = [f] ∧ (s.saf.cfg.bind fun o => (safConnEntries o).find? fun x => !cnProduces x && cnId x = sfrId f) = some e ∧ i.val = cnIndex e ∧ sfrGood (cnSeal e) f = true ∧ s.saf.conns[i].state = .active ∧ s.saf.conns[i].seqLast = some last ∧ s.seqNext last (sfrSeq f) = true ∧ sfrFailsafe f = false :=
  ⟨9, 9, wContainer 5, wFrame20 5, (wSafRest.drop 32).take 16, 0, 4, (wSafConn { state := .active, seqLast := some 4 }).updRegs fun r => { r with nodeAddr := Tmr.of 9 }, by decide +kernel⟩

theorem witness_SafetyConfigurationAndFaults_safetyFrameBad :
    ∃ (t ingress : Ns) (b f e : Bytes) (i : Fin 32) (s : State),
      s.safLive = true ∧ s.node ≠ 0 ∧ fClass b = clsCyclic ∧ fSubtype b = 3 ∧ pcrcGood b = true ∧ s.shut b = false ∧ containerFrames (fPayload b) = [f] ∧ (s.saf.cfg.bind fun o => (safConnEntries o).find? fun x => !cnProduces x && cnId x = sfrId f) = some e ∧ i.val = cnIndex e ∧ sfrGood (cnSeal e) f = false :=
  ⟨9, 9, mkBroluma 5 1 clsCyclic 0 false 3 0 0 (wr 2 1 ++ wr 2 0 ++ wr 4 7 ++ wr 16 0), wr 4 7 ++ wr 16 0, (wSafRest.drop 32).take 16, 0, (wSafConn { state := .active, seqLast := some 4 }).updRegs fun r => { r with nodeAddr := Tmr.of 9 }, by decide +kernel⟩

theorem witness_SafetyConfigurationAndFaults_safetyFrameWatchdog :
    ∃ (t : Ns) (conn : Fin 32) (d : Ns) (s : State),
      s.safLive = true ∧ (s.begin t).connDeadline conn = some d ∧ d ≤ max s.clock t :=
  ⟨90000000, 0, 10000005, wSafConn { state := .active, seqLast := some 4, lastIngress := some 5 }, by decide +kernel⟩

theorem witness_SafetyConfigurationAndFaults_safReferenceCheck :
    ∃ (t : Ns) (d : Rat) (s : State),
      s.up .saf = true ∧ s.saf.fault = none ∧ 2 < absR d :=
  ⟨0, 3, wSafRun { state := .run }, by decide +kernel⟩

theorem witness_SafetyConfigurationAndFaults_safMemoryError :
    ∃ (t : Ns) (s : State),
      s.saf.fault = none :=
  ⟨0, wSafRun { state := .run }, by decide +kernel⟩

theorem witness_SafetyConfigurationAndFaults_safSupplyFault :
    ∃ (t : Ns) (s : State),
      s.saf.fault = none :=
  ⟨0, wSafRun { state := .run }, by decide +kernel⟩

theorem witness_RingFrames_linkUp :
    ∃ (t : Ns) (p : Port) (gig : Bool) (s : State),
      s.portOff p = false :=
  ⟨0, .a, true, wCtl, by decide +kernel⟩

theorem witness_RingFrames_linkDown :
    ∃ (t : Ns) (p : Port) (neg : Bool) (s : State),
      (s.port p).link = .up :=
  ⟨0, .a, true, wCtl, by decide +kernel⟩

theorem witness_RingFrames_frameReceive :
    ∃ (t : Ns) (p q : Port) (ingress : Ns) (w : WireFrame) (s : State),
      s.up .rng = true ∧ (s.port p).link = .up ∧ w.length ≤ 1518 ∧ w.etherType ≠ 0x88F7 ∧ w.etherType = s.ringType ∧ 20 ≤ w.bytes.length ∧ (p == .l && s.isPair) = false ∧ (fClass w.bytes = 1 ∨ fClass w.bytes = 2 ∨ fClass w.bytes = 3) ∧ fHops w.bytes ≠ 255 ∧ s.forwardPorts p w.bytes = [q] ∧ s.ownFrame w.bytes = false ∧ s.ring.entry w.bytes = none ∧ w.fcsGood = true ∧ (s.node = 0 ∨ fDest w.bytes ≠ s.node) ∧ s.adopts w.bytes = false ∧ (s.port q).link = .up ∧ (fClass w.bytes == clsCyclic && s.locked && s.ring.windowEnded) = false :=
  ⟨5, .a, .b, 5, wWire (wFrame 5 2 1 12 [1]), wCtl, by decide +kernel⟩

theorem witness_RingFrames_frameDuplicate :
    ∃ (t : Ns) (p : Port) (ingress : Ns) (w : WireFrame) (d : DiscardSrc) (r : SeqRec) (s : State),
      s.up .rng = true ∧ (s.port p).link = .up ∧ w.length ≤ 1518 ∧ w.etherType ≠ 0x88F7 ∧ w.etherType = s.ringType ∧ 20 ≤ w.bytes.length ∧ (p == .l && s.isPair) = false ∧ (fClass w.bytes = 1 ∨ fClass w.bytes = 2 ∨ fClass w.bytes = 3) ∧ fHops w.bytes ≠ 255 ∧ s.ownFrame w.bytes = false ∧ s.ring.entry w.bytes = some d ∧ d.find (fSeq w.bytes) = some r :=
  ⟨5, .a, 5, wWire (wFrame 5 2 1 12 [1]), ⟨5, 0, 77, [⟨77, 1, false⟩], 3⟩, ⟨77, 1, false⟩, wCtl.updRing fun r => { r with discard := [⟨5, 0, 77, [⟨77, 1, false⟩], 3⟩] }, by decide +kernel⟩

theorem witness_RingFrames_frameOwn :
    ∃ (t : Ns) (p : Port) (ingress : Ns) (w : WireFrame) (s : State),
      s.up .rng = true ∧ (s.port p).link = .up ∧ w.length ≤ 1518 ∧ w.etherType ≠ 0x88F7 ∧ w.etherType = s.ringType ∧ 20 ≤ w.bytes.length ∧ (p == .l && s.isPair) = false ∧ (fClass w.bytes = 1 ∨ fClass w.bytes = 2 ∨ fClass w.bytes = 3) ∧ fHops w.bytes ≠ 255 ∧ s.ownFrame w.bytes = true :=
  ⟨5, .a, 5, wWire (wFrame 9 2 1 12 [1]), wCtl, by decide +kernel⟩

theorem witness_RingFrames_acyclicSend :
    ∃ (t : Ns) (a : AcyFrame) (rest : List AcyFrame) (s : State),
      s.up .rng = true ∧ s.node ≠ 0 ∧ takeFirst (s.begin t).acyReady s.ring.acyclic = some (a, rest) ∧ a.port = none ∧ a.seq = none ∧ s.acyPair a = false ∧ s.portsUp ringPorts ≠ [] :=
  ⟨5000000, { subtype := 1, dest := 5, payload := [] }, [], wCtl.updRing fun r => { r with acyclic := [{ subtype := 1, dest := 5, payload := [] }] }, by decide +kernel⟩

theorem witness_BusCycle_busCycleStart :
    ∃ (t : Ns) (s : State),
      s.up .rng = true ∧ ((s.begin t).now / (max 1 s.tBus : Nat)).toNat ≠ s.ring.busCycle ∧ s.ring.cfgPending = none :=
  ⟨5000000, wCtlSt id, by decide +kernel⟩

theorem witness_BusCycle_ringConfigTaken :
    ∃ (t : Ns) (org : Origin) (o : Bytes) (s : State),
      s.up .rng = true ∧ ((s.begin t).now / (max 1 s.tBus : Nat)).toNat ≠ s.ring.busCycle ∧ s.ring.cfgPending = some (org, o) :=
  ⟨5000000, .self, wRingObj, wCtl.updRing fun r => { r with cfgPending := some (.self, wRingObj) }, by decide +kernel⟩

theorem witness_BusCycle_windowEnd :
    ∃ (t : Ns) (s : State),
      s.ring.windowEnded = false ∧ s.ring.busStart + s.ring.cfg.windowNs ≤ max s.clock t :=
  ⟨4900000, wCtlSt id, by decide +kernel⟩

theorem witness_RemoteImages_inputImage :
    ∃ (t ingress : Ns) (f : Bytes) (x : Station) (s : State),
      s.up .rng = true ∧ s.sums = true ∧ fClass f = clsCyclic ∧ fSubtype f = 2 ∧ s.ring.stations.find? (fun x => stImages x.obj && stNode x.obj == fSource f) = some x ∧ s.station? x.index = some x ∧ pcrcGood f = true ∧ s.node ≠ 0 ∧ (fDest f = s.node ∨ (s.isPair = true ∧ s.pair.cfg.isSome = true ∧ fDest f = s.pairAddr)) ∧ imWords f = stIn x.obj ∧ fLength f = stInLen x.obj ∧ s.inWindow ingress f = true :=
  ⟨4200000, 4100000, wInput, wStation, wCtlSt id, by decide +kernel⟩

theorem witness_RemoteImages_imageLate :
    ∃ (t ingress : Ns) (f : Bytes) (x : Station) (s : State),
      s.up .rng = true ∧ s.sums = true ∧ fClass f = clsCyclic ∧ fSubtype f = 2 ∧ s.ring.stations.find? (fun x => stImages x.obj && stNode x.obj == fSource f) = some x ∧ s.station? x.index = some x ∧ pcrcGood f = true ∧ s.node ≠ 0 ∧ (fDest f = s.node ∨ (s.isPair = true ∧ s.pair.cfg.isSome = true ∧ fDest f = s.pairAddr)) ∧ imWords f = stIn x.obj ∧ fLength f = stInLen x.obj ∧ s.inWindow ingress f = false :=
  ⟨5200000, 5100000, wInput, wStation, wCtlSt id, by decide +kernel⟩

theorem witness_RemoteImages_outputImage :
    ∃ (t ingress : Ns) (f o : Bytes) (s : State),
      s.up .rng = true ∧ s.role = some .iostation ∧ fClass f = clsCyclic ∧ fSubtype f = 1 ∧ s.node ≠ 0 ∧ fDest f = s.node ∧ s.ring.cfg.master ≠ 0 ∧ fSource f = s.ring.cfg.master ∧ s.shut f = false ∧ pcrcGood f = true ∧ s.ring.io.imageMap = some o ∧ imWords f = mapOut o ∧ fLength f = 8 + 4 * mapOut o ∧ s.inWindow ingress f = true :=
  ⟨4200000, 4100000, wOutput, wIoMap, wIo, by decide +kernel⟩

theorem witness_RemoteImages_outputLate :
    ∃ (t ingress : Ns) (f o : Bytes) (s : State),
      s.up .rng = true ∧ s.role = some .iostation ∧ fClass f = clsCyclic ∧ fSubtype f = 1 ∧ s.node ≠ 0 ∧ fDest f = s.node ∧ s.ring.cfg.master ≠ 0 ∧ fSource f = s.ring.cfg.master ∧ s.shut f = false ∧ pcrcGood f = true ∧ s.ring.io.imageMap = some o ∧ imWords f = mapOut o ∧ fLength f = 8 + 4 * mapOut o ∧ s.inWindow ingress f = false :=
  ⟨5200000, 5100000, wOutput, wIoMap, wIo, by decide +kernel⟩

theorem witness_RemoteImages_outputImageTake :
    ∃ (t : Ns) (h : BitVec 8) (words : List Word) (o : Bytes) (s : State),
      s.up .rng = true ∧ s.role = some .iostation ∧ s.ring.busStart + s.ring.cfg.windowNs + 5000 ≤ max s.clock t ∧ s.ring.io.image = some (s.ring.busCycle, h, words) ∧ s.ring.io.imageMap = some o :=
  ⟨4700000, 1, [0x3F800000], wIoMap, wIo.updRing fun r => { r with io := { r.io with image := some (4, 1, [0x3F800000]) } }, by decide +kernel⟩

theorem witness_RemoteImages_wordTaken :
    ∃ (t : Ns) (h : BitVec 8) (w : Word) (v : Rat) (o e : Bytes) (s : State),
      s.up .rng = true ∧ s.role = some .iostation ∧ s.ring.busStart + s.ring.cfg.windowNs + 5000 ≤ max s.clock t ∧ s.ring.io.image = some (s.ring.busCycle, h, [w]) ∧ s.ring.io.imageMap = some o ∧ mapOutputs o = [e] ∧ h.getLsbD 0 = true ∧ s.ring.io.live = true ∧ meItem e = 0x11 ∧ s.owner (meChan e) = .ring ∧ decodeBin 8 23 w.toNat = some v :=
  ⟨4700000, 1, 0x3F800000, 1, wIoMap, [3, 0x11, 0, 0], wIo.updRing fun r => { r with io := { r.io with image := some (4, 1, [0x3F800000]) } }, by decide +kernel⟩

theorem witness_RemoteImages_stationWatchdog :
    ∃ (t : Ns) (i : Nat) (x : Station) (d : Ns) (s : State),
      s.up .rng = true ∧ s.station? i = some x ∧ (s.begin t).stationDeadline i = some d ∧ d ≤ max s.clock t :=
  ⟨9000000, 3, { wStation with lastIngress := some 5 }, 3000005, wCtlSt fun x => { x with lastIngress := some 5 }, by decide +kernel⟩

theorem witness_RemoteImages_iostationWatchdog :
    ∃ (t l : Ns) (s : State),
      s.up .rng = true ∧ s.role = some .iostation ∧ s.ring.cfg.wdCycles ≠ 0 ∧ s.ring.io.lastIngress = some l ∧ (s.begin t).due .rng l (s.ring.cfg.wdCycles * s.tBus) ≤ max s.clock t :=
  ⟨9000000, 5, wIo.updRing fun r => { r with io := { r.io with lastIngress := some 5 } }, by decide +kernel⟩

theorem witness_Tunnels_tunnelRequest :
    ∃ (t ingress : Ns) (f : Bytes) (p : Part) (s : State),
      s.tunnelFor f = true ∧ tunnelPart f = some p ∧ p.kind = 1 ∧ s.ring.tunnelsIn.find? (fun x => x.src == fSource f && x.tid == p.tid) = none ∧ assemble p.total [(p.idx, p.data)] = none :=
  ⟨9, 9, wTunnel 1 80 [1, 2], ⟨6, 1, 0, 80, [1, 2]⟩, wIo, by decide +kernel⟩

theorem witness_Tunnels_requestComplete :
    ∃ (t ingress : Ns) (f b : Bytes) (p : Part) (s : State),
      s.tunnelFor f = true ∧ tunnelPart f = some p ∧ p.kind = 1 ∧ s.ring.tunnelsIn.find? (fun x => x.src == fSource f && x.tid == p.tid) = none ∧ assemble p.total [(p.idx, p.data)] = some b ∧ 64 ≤ b.length ∧ (s.ring.kept.find? (fun k => k.src = fSource f ∧ k.tid = p.tid) = none) ∧ (s.ring.serving.any (fun v => v.src = fSource f ∧ v.tid = p.tid) = false) ∧ opTable.contains (rd b 0 2) = true ∧ rd b 24 4 + 64 = b.length ∧ s.policy (.tunnel (fSource f) p.tid) (rd b 0 2) = none :=
  ⟨9, 9, wTunnel 1 64 (wr 2 opStateRead ++ wr 62 0), wr 2 opStateRead ++ wr 62 0, ⟨6, 1, 0, 64, wr 2 opStateRead ++ wr 62 0⟩, wIo, by decide +kernel⟩

theorem witness_Tunnels_tunnelResponse :
    ∃ (t ingress : Ns) (f : Bytes) (p : Part) (x : TunnelOut) (s : State),
      s.tunnelFor f = true ∧ tunnelPart f = some p ∧ p.kind = 2 ∧ s.ring.tunnelsOut.find? (fun x => x.tid == p.tid && x.node == fSource f) = some x ∧ assemble p.total (addPart p x.frags) = none :=
  ⟨9, 9, wTunnel 2 80 [1, 2], ⟨6, 2, 0, 80, [1, 2]⟩, wOut, wCtl.updRing fun r => { r with tunnelsOut := [wOut] }, by decide +kernel⟩

theorem witness_Tunnels_responseComplete :
    ∃ (t ingress : Ns) (f b : Bytes) (p : Part) (x : TunnelOut) (s : State),
      s.tunnelFor f = true ∧ tunnelPart f = some p ∧ p.kind = 2 ∧ s.ring.tunnelsOut.find? (fun x => x.tid == p.tid && x.node == fSource f) = some x ∧ assemble p.total (addPart p x.frags) = some b ∧ 16 ≤ b.length ∧ s.ring.tunnelsWait = [] :=
  ⟨9, 9, wTunnel 2 16 (wr 16 0), wr 16 0, ⟨6, 2, 0, 16, wr 16 0⟩, wOut, wCtl.updRing fun r => { r with tunnelsOut := [wOut] }, by decide +kernel⟩

theorem witness_Tunnels_tunnelRetry :
    ∃ (t : Ns) (tid : BitVec 16) (x : TunnelOut) (s : State),
      s.up .rng = true ∧ s.ring.tunnelsOut.find? (fun x => x.tid == tid) = some x ∧ s.ring.acyclic.any (fun a => a.subtype == 1 && rd a.payload 2 1 == 1 && rd a.payload 0 2 == tid.toNat) = false ∧ s.pair.retriesDue.contains tid = false ∧ (s.begin t).due .rng x.lastSent (1000000 * s.ring.cfg.acyTimeout) ≤ max s.clock t ∧ x.retries < s.ring.cfg.acyRetries ∧ s.inStep = false :=
  ⟨90000000, 6, wOut, wCtl.updRing fun r => { r with tunnelsOut := [wOut] }, by decide +kernel⟩

theorem witness_Tunnels_tunnelGivenUp :
    ∃ (t : Ns) (tid : BitVec 16) (x : TunnelOut) (s : State),
      s.up .rng = true ∧ s.ring.tunnelsOut.find? (fun x => x.tid == tid) = some x ∧ s.ring.acyclic.any (fun a => a.subtype == 1 && rd a.payload 2 1 == 1 && rd a.payload 0 2 == tid.toNat) = false ∧ s.pair.retriesDue.contains tid = false ∧ (s.begin t).due .rng x.lastSent (1000000 * s.ring.cfg.acyTimeout) ≤ max s.clock t ∧ s.ring.cfg.acyRetries ≤ x.retries ∧ s.ring.tunnelsWait = [] :=
  ⟨90000000, 6, { wOut with retries := 2 }, wCtl.updRing fun r => { r with tunnelsOut := [{ wOut with retries := 2 }] }, by decide +kernel⟩

theorem witness_NodeAddresses_addressFrame :
    ∃ (t : Ns) (p : Port) (ingress : Ns) (f : Bytes) (s : State),
      s.up .rng = true ∧ (s.port p).link = .up ∧ ingress ≤ max s.clock t ∧ s.adopts f = true :=
  ⟨9, .a, 9, wFrame 1 2 2 0 (addressPayload 1 5), wCtl.updRegs fun r => { r with nodeAddr := Tmr.of 0 }, by decide +kernel⟩

theorem witness_NodeAddresses_addressEcho :
    ∃ (t : Ns) (p : Port) (ingress : Ns) (f : Bytes) (n : NodeAddr) (s : State),
      s.up .rng = true ∧ (s.port p).link = .up ∧ ingress ≤ max s.clock t ∧ s.adopts f = false ∧ s.ring.nodeAddr = some n ∧ fClass f = clsAcyclic ∧ fSubtype f = 2 ∧ fDest f = s.node ∧ s.node ≠ 0 ∧ pcrcGood f = true ∧ fSource f = n.newAddr ∧ rd (fPayload f) 4 2 = n.newAddr :=
  ⟨9, .a, 9, wFrame 5 2 2 9 (addressPayload 1 5), wNode, wCtl.updRing fun r => { r with nodeAddr := some wNode }, by decide +kernel⟩

theorem witness_NodeAddresses_nodeAddress :
    ∃ (t : Ns) (org : Origin) (p : Bytes) (s : State),
      (s.begin t).Admits org opNodeAddress [.rng] ∧ rd p 0 1 ≤ 1 ∧ rd p 1 1 ≠ 0 ∧ rd p 2 2 ≠ 0 ∧ rd p 2 2 ≠ 0xFFFF ∧ zeroAt p 4 12 = true ∧ s.sums = true ∧ s.ring.nodeAddr = none :=
  ⟨0, .self, [0, 2, 5, 0] ++ wr 12 0, wCtl, by decide +kernel⟩

theorem witness_NodeAddresses_nodeAddressRetry :
    ∃ (t : Ns) (n : NodeAddr) (s : State),
      s.up .rng = true ∧ s.ring.nodeAddr = some n ∧ s.ring.acyclic.any (fun a => a.port.isSome) = false ∧ (s.begin t).due .rng n.sentAt (1000000 * s.ring.cfg.acyTimeout) ≤ max s.clock t :=
  ⟨90000000, wNode, wCtl.updRing fun r => { r with nodeAddr := some wNode }, by decide +kernel⟩

theorem witness_RingConfiguration_ringConfig :
    ∃ (t : Ns) (org : Origin) (obj : Bytes) (s : State),
      (s.begin t).Admits org opRingConfig [.rng] ∧ obj.length = 32 ∧ s.ringCfgOk obj = true ∧ (s.originatesCyclic = true → (ringCfgOf obj).tBus = s.ring.cfg.tBus ∧ (ringCfgOf obj).window = s.ring.cfg.window) ∧ s.ring.cfgPending = none ∧ s.overCapacity (ringCfgOf obj) (s.ring.stations.map Station.next) s.safObj = false ∧ (s.begin t).storeOverflow (BitVec.ofNat 16 opRingConfig) 0 obj = false :=
  ⟨0, .self, wRingObj, wCtl, by decide +kernel⟩

theorem witness_RingConfiguration_stationConfig :
    ∃ (t : Ns) (org : Origin) (obj : Bytes) (x : Station) (s : State),
      (s.begin t).Admits org opStationConfig [.rng] ∧ (32 ≤ obj.length ∧ obj.length ≤ 1056) ∧ s.sums = true ∧ stationOk obj = true ∧ ((s.ring.stations.filter fun x => x.index != rd obj 0 2).any fun x => stNode x.next == stNode obj) = false ∧ s.station? (rd obj 0 2) = some x ∧ (stEnable x.obj = true → stFixed x.obj = stFixed obj) ∧ x.pending = none ∧ s.overCapacity s.nextRing (obj :: (s.ring.stations.filter fun x => x.index != rd obj 0 2).map Station.next) s.safObj = false ∧ (s.begin t).storeOverflow (BitVec.ofNat 16 opStationConfig) (rd obj 0 2) obj = false :=
  ⟨0, .self, wStObj, wStation, wCtlSt id, by decide +kernel⟩

theorem witness_RingConfiguration_stationNew :
    ∃ (t : Ns) (org : Origin) (obj : Bytes) (s : State),
      (s.begin t).Admits org opStationConfig [.rng] ∧ (32 ≤ obj.length ∧ obj.length ≤ 1056) ∧ s.sums = true ∧ stationOk obj = true ∧ ((s.ring.stations.filter fun x => x.index != rd obj 0 2).any fun x => stNode x.next == stNode obj) = false ∧ s.station? (rd obj 0 2) = none ∧ s.overCapacity s.nextRing (obj :: (s.ring.stations.filter fun x => x.index != rd obj 0 2).map Station.next) s.safObj = false ∧ (s.begin t).storeOverflow (BitVec.ofNat 16 opStationConfig) (rd obj 0 2) obj = false :=
  ⟨0, .self, wStObj, wCtl, by decide +kernel⟩

theorem witness_RingConfiguration_imageMap :
    ∃ (t : Ns) (org : Origin) (obj : Bytes) (s : State),
      (s.begin t).Admits org opImageMap [.rng] ∧ (8 ≤ obj.length ∧ obj.length ≤ 2056) ∧ s.role = some .iostation ∧ s.mapOk obj = true ∧ s.ring.io.mapPending = none ∧ (s.begin t).storeOverflow (BitVec.ofNat 16 opImageMap) 0 obj = false :=
  ⟨0, .self, wr 8 0, wIo, by decide +kernel⟩

theorem witness_RingConfiguration_branchConfig :
    ∃ (t : Ns) (org : Origin) (obj : Bytes) (s : State),
      (s.begin t).Admits org opBranchConfig [.rng] ∧ (8 ≤ obj.length ∧ obj.length ≤ 392) ∧ s.role = some .branch ∧ branchOk obj = true ∧ s.ring.branchPending = none ∧ (s.begin t).storeOverflow (BitVec.ofNat 16 opBranchConfig) 0 obj = false :=
  ⟨0, .self, wr 8 0, wCtl.updRegs fun r => { r with role := Tmr.of 5 }, by decide +kernel⟩

theorem witness_PairCommands_pairConfig :
    ∃ (t : Ns) (org : Origin) (o : Bytes) (s : State),
      (s.begin t).Admits org opPairConfig [.rng] ∧ pairOk o = true ∧ (s.ring.stations.any fun x => stNode x.obj == pcAddr o) = false ∧ s.isPair = true ∧ s.movesPair o = false ∧ (s.begin t).storeOverflow (BitVec.ofNat 16 opPairConfig) 0 o = false :=
  ⟨0, .self, wPairObj, wMember .unformed id, by decide +kernel⟩

theorem witness_PairCommands_pairHeld :
    ∃ (t : Ns) (org : Origin) (o : Bytes) (s : State),
      (s.begin t).Admits org opPairConfig [.rng] ∧ pairOk o = true ∧ (s.ring.stations.any fun x => stNode x.obj == pcAddr o) = false ∧ s.role = some .referee ∧ (s.pair.held.filter fun r => pcAddr r.cfg != pcAddr o).length < 8 ∧ (s.begin t).storeOverflow (BitVec.ofNat 16 opPairConfig) (pcAddr o) o = false :=
  ⟨0, .self, wPairObj, wReferee id, by decide +kernel⟩

theorem witness_PairCommands_handover :
    ∃ (t : Ns) (org : Origin) (o : Bytes) (s : State),
      (s.begin t).Admits org opPairCommand [.rng] ∧ o.length = 16 ∧ rd o 0 1 = 1 ∧ zeroAt o 1 15 = true ∧ s.isPair = true ∧ s.pair.handover = none ∧ s.shadowThere = true ∧ s.refHeard = true :=
  ⟨0, .self, wPairCmd 1, wMember .lead id, by decide +kernel⟩

theorem witness_PairCommands_drill :
    ∃ (t : Ns) (org : Origin) (o : Bytes) (s : State),
      (s.begin t).Admits org opPairCommand [.rng] ∧ o.length = 16 ∧ rd o 0 1 = 2 ∧ zeroAt o 1 15 = true ∧ s.isPair = true ∧ s.pair.handover = none ∧ s.shadowThere = true ∧ s.refHeard = true :=
  ⟨0, .self, wPairCmd 2, wMember .lead id, by decide +kernel⟩

theorem witness_PairCommands_releaseShadow :
    ∃ (t : Ns) (org : Origin) (o : Bytes) (s : State),
      (s.begin t).Admits org opPairCommand [.rng] ∧ o.length = 16 ∧ rd o 0 1 = 3 ∧ zeroAt o 1 15 = true ∧ s.isPair = true ∧ s.pair.handover = none ∧ (s.pair.state = .lead → s.shadowThere = true) :=
  ⟨0, .partner 4, wPairCmd 3, wMember .shadow id, by decide +kernel⟩

theorem witness_PairCommands_clearRevertLimit :
    ∃ (t : Ns) (org : Origin) (o : Bytes) (s : State),
      (s.begin t).Admits org opPairCommand [.rng] ∧ o.length = 16 ∧ rd o 0 1 = 4 ∧ zeroAt o 1 15 = true ∧ s.isPair = true :=
  ⟨0, .self, wPairCmd 4, wMember .lead fun p => { p with revertLimit := true }, by decide +kernel⟩

theorem witness_Heartbeats_heartbeatSend :
    ∃ (t : Ns) (o : Bytes) (s : State),
      s.up .rng = true ∧ s.isPair = true ∧ s.pair.cfg = some o ∧ (s.begin t).beatNow (pcPeriod o) = true ∧ s.node ≠ 0 ∧ s.portsUp [.a, .b, .l] ≠ [] :=
  ⟨5000000, wPairObj, wMember .lead id, by decide +kernel⟩

theorem witness_Heartbeats_heartbeat :
    ∃ (t : Ns) (p : Port) (ingress : Ns) (f o : Bytes) (s : State),
      s.up .rng = true ∧ pairFrame 1 f = true ∧ 32 ≤ fLength f ∧ fDest f = 0xFFFF ∧ (s.port p).link = .up ∧ s.isPair = true ∧ s.pair.cfg = some o ∧ hbAddr f = pcAddr o ∧ fSource f = s.partnerNode ∧ fSource f ≠ pcRef1 o ∧ fSource f ≠ pcRef2 o ∧ hbCrc f = (crc32c o).toNat :=
  ⟨9, .a, 9, wBeat, wPairObj, wMember .lead id, by decide +kernel⟩

theorem witness_Heartbeats_heartbeatCrc :
    ∃ (t : Ns) (p : Port) (ingress : Ns) (f o : Bytes) (s : State),
      s.up .rng = true ∧ pairFrame 1 f = true ∧ 32 ≤ fLength f ∧ fDest f = 0xFFFF ∧ (s.port p).link = .up ∧ s.isPair = true ∧ s.pair.cfg = some o ∧ hbAddr f = pcAddr o ∧ (fSource f = s.partnerNode ∨ fSource f = pcRef1 o) ∧ hbCrc f ≠ (crc32c o).toNat :=
  ⟨9, .a, 9, wBeat, wPairObj.take 31 ++ [1], wMember .lead fun p => { p with cfg := some (wPairObj.take 31 ++ [1]), cfgAt := 4 }, by decide +kernel⟩

theorem witness_Heartbeats_heartbeatLoss :
    ∃ (t : Ns) (d : Ns) (s : State),
      s.up .rng = true ∧ (s.begin t).heartbeatDeadline .partner = some d ∧ d ≤ max s.clock t :=
  ⟨90000000, 15000005, wMember .lead id, by decide +kernel⟩

theorem witness_Heartbeats_memberLost :
    ∃ (t : Ns) (d : Ns) (k : Fin 8) (r : RefPair) (s : State),
      s.up .rng = true ∧ (s.begin t).heartbeatDeadline (.heldA k) = some d ∧ d ≤ max s.clock t ∧ s.pair.held[k.val]? = some r :=
  ⟨90000000, 15000005, 0, { cfg := wPairObj, term := 3, leadNode := 9, lastA := some 5, lostA := false }, wReferee id, by decide +kernel⟩

theorem witness_RefereeGrants_grantRequest :
    ∃ (t ingress : Ns) (f : Bytes) (i : Nat) (r : RefPair) (s : State),
      s.up .rng = true ∧ ingress ≤ max s.clock t ∧ fDest f = s.node ∧ s.heldIndex f = some i ∧ s.pair.held[i]? = some r ∧ pairFrame 2 f = true ∧ (gNode f = pcNodeA r.cfg ∨ gNode f = pcNodeB r.cfg) ∧ r.top.toNat < (gTerm f).toNat :=
  ⟨9, 9, wGrantMsg 2 8 7 8 4 0 1, 0, { cfg := wPairObj, term := 3, leadNode := 9, lastA := some 5, lostA := false }, wReferee id, by decide +kernel⟩

theorem witness_RefereeGrants_requestStale :
    ∃ (t ingress : Ns) (f : Bytes) (i : Nat) (r : RefPair) (s : State),
      s.up .rng = true ∧ ingress ≤ max s.clock t ∧ fDest f = s.node ∧ s.heldIndex f = some i ∧ s.pair.held[i]? = some r ∧ pairFrame 2 f = true ∧ (gNode f = pcNodeA r.cfg ∨ gNode f = pcNodeB r.cfg) ∧ (gTerm f).toNat ≤ r.top.toNat :=
  ⟨9, 9, wGrantMsg 2 8 7 8 3 0 1, 0, { cfg := wPairObj, term := 3, leadNode := 9, lastA := some 5, lostA := false }, wReferee id, by decide +kernel⟩

theorem witness_RefereeGrants_refereeGrantDecision :
    ∃ (t : Ns) (k : Fin 8) (r : RefPair) (q : Nat × BitVec 32 × BitVec 8 × Ns) (s : State),
      s.up .rng = true ∧ s.pair.held[k.val]? = some r ∧ r.requests = [q] ∧ q.2.2.2 ≤ max s.clock t ∧ r.top.toNat < q.2.1.toNat ∧ r.leadSeen (max s.clock t) = false ∧ r.otherSees (max s.clock t) = false ∧ q.2.2.1 ≠ rsFormation :=
  ⟨90000000, 0, { cfg := wPairObj, term := 3, leadNode := 9, lastA := some 5, lostA := true, requests := [(8, 4, 1, 5)] }, (8, 4, 1, 5), wReferee fun r => { r with lostA := true, requests := [(8, 4, 1, 5)] }, by decide +kernel⟩

theorem witness_RefereeGrants_leadAlive :
    ∃ (t : Ns) (k : Fin 8) (r : RefPair) (q : Nat × BitVec 32 × BitVec 8 × Ns) (s : State),
      s.up .rng = true ∧ s.pair.held[k.val]? = some r ∧ r.requests = [q] ∧ q.2.2.2 ≤ max s.clock t ∧ r.top.toNat < q.2.1.toNat ∧ (r.leadSeen (max s.clock t) = true ∨ r.otherSees (max s.clock t) = true) :=
  ⟨90, 0, { cfg := wPairObj, term := 3, leadNode := 9, lastA := some 5, lostA := false, requests := [(8, 4, 1, 5)] }, (8, 4, 1, 5), wReferee fun r => { r with requests := [(8, 4, 1, 5)] }, by decide +kernel⟩

theorem witness_RefereeGrants_formWait :
    ∃ (t : Ns) (k : Fin 8) (r : RefPair) (b : Ns) (s : State),
      s.pair.held[k.val]? = some r ∧ r.firstB = some b ∧ max b s.pair.refStart + 10000000000 ≤ max s.clock t :=
  ⟨10000000005, 0, { cfg := wPairObj, term := 3, leadNode := 9, lastA := some 5, lostA := false, firstB := some 5 }, 5, wReferee fun r => { r with firstB := some 5 }, by decide +kernel⟩

theorem witness_RefereeGrants_relinquish :
    ∃ (t ingress : Ns) (f : Bytes) (i : Nat) (r : RefPair) (s : State),
      s.up .rng = true ∧ ingress ≤ max s.clock t ∧ fDest f = s.node ∧ s.heldIndex f = some i ∧ s.pair.held[i]? = some r ∧ pairFrame 5 f = true ∧ (gNode f = pcNodeA r.cfg ∨ gNode f = pcNodeB r.cfg) ∧ (fSource f = pcNodeA r.cfg ∨ fSource f = pcNodeB r.cfg) ∧ r.top.toNat ≤ (gTerm f).toNat ∧ r.lost (max s.clock t) (gNode f) = false ∧ (if gNode f = pcNodeA r.cfg then r.stateA else r.stateB) = 2 :=
  ⟨9, 9, wGrantMsg 5 9 7 8 3 40 5, 0, { cfg := wPairObj, term := 3, leadNode := 9, lastA := some 5, lostA := false, lastB := some 5, lostB := false, stateB := 2 }, wReferee fun r => { r with lastB := some 5, lostB := false, stateB := 2 }, by decide +kernel⟩

theorem witness_RefereeGrants_grant :
    ∃ (t ingress : Ns) (f : Bytes) (s : State),
      s.up .rng = true ∧ pairFrame 3 f = true ∧ ingress ≤ max s.clock t ∧ fDest f = s.node ∧ s.fromReferee f = true ∧ s.termHeard < (gTerm f).toNat ∧ (gNode f = s.node → s.pair.state = .unformed ∨ s.pair.state = .shadow ∨ s.pair.state = .lead) :=
  ⟨9, 9, wGrantMsg 3 7 9 9 4 0 1, wMember .shadow id, by decide +kernel⟩

theorem witness_RefereeGrants_deny :
    ∃ (t ingress : Ns) (f : Bytes) (s : State),
      s.up .rng = true ∧ pairFrame 4 f = true ∧ ingress ≤ max s.clock t ∧ fDest f = s.node ∧ s.fromReferee f = true :=
  ⟨9, 9, wGrantMsg 4 7 9 9 4 0 16, wMember .lead fun p => { p with handover := some (.self, 5, 99) }, by decide +kernel⟩

theorem witness_Barriers_barrier :
    ∃ (t : Ns) (m own : BarrierMsg) (s : State),
      s.up .rng = true ∧ s.inStep = true ∧ s.cycling = true ∧ s.pair.forwards = [] ∧ s.pair.barrier.passed = false ∧ s.pair.barrier.ownMsg = some own ∧ m.cycle = own.cycle ∧ m.idle = own.idle ∧ m.mailbox = [] ∧ m.writes = [] ∧ m.outcomes = [] ∧ m.pps = none ∧ m.armed = false ∧ m.revertReq = false ∧ m.halted = none ∧ s.pair.state = .lead :=
  ⟨9, wBarrier, wBarrier, { wMember .lead (fun p => { p with barrier := { partnerLive := true, ownMsg := some wBarrier } }) with prg := wRun.prg }, by decide +kernel⟩

theorem witness_Barriers_outDone :
    ∃ (t : Ns) (cycle : Nat) (stamp : Int) (s : State),
      s.inStep = true :=
  ⟨9, 4, 5, wMember .lead id, by decide +kernel⟩

theorem witness_Barriers_imageFix :
    ∃ (t : Ns) (i bus : Nat) (words : List Word) (x : Station) (s : State),
      s.pair.state = .shadow ∧ s.inStep = true ∧ s.pair.barrier.fixWait = [i] ∧ s.station? i = some x :=
  ⟨9, 3, 4, [7], wStation, { wMember .shadow (fun p => { p with barrier := { partnerLive := true, fixWait := [3] } }) with ring := (wCtlSt id).ring }, by decide +kernel⟩

theorem witness_Barriers_digest :
    ∃ (t : Ns) (bus : Nat) (crc own : BitVec 32) (s : State),
      s.isPair = true ∧ s.pair.state = .lead ∧ s.pair.ownDigests.find? (fun d => d.1 == bus) = some (bus, own) :=
  ⟨9, 4, 5, 6, wMember .lead fun p => { p with ownDigests := [(4, 6)] }, by decide +kernel⟩

theorem witness_Barriers_shadowWithdraws :
    ∃ (t : Ns) (bus : Nat) (crc own : BitVec 32) (s : State),
      s.isPair = true ∧ s.pair.state = .shadow ∧ s.pair.ownDigests.find? (fun d => d.1 == bus) = some (bus, own) ∧ own ≠ crc ∧ s.pair.mismatchRun = 2 ∧ s.pair.lastMismatchRejoin = none :=
  ⟨9, 4, 5, 6, wMember .shadow fun p => { p with ownDigests := [(4, 6)], mismatchRun := 2 }, by decide +kernel⟩

theorem witness_Barriers_record :
    ∃ (t : Ns) (r : PartnerRec) (s : State),
      s.isPair = true ∧ s.pair.state = .lead ∧ s.recorder.room r.source (recLength r.kind r.items) = true :=
  ⟨9, ⟨.prg, .health, [], 1, 2, none⟩, wMember .lead id, by
    refine ⟨by decide +kernel, by decide +kernel, ?_⟩
    have h : recLength .health [] ≤ 1024 := by unfold recLength recPayload; rw [List.length_take]; omega
    show Recorder.room {} .prg (recLength .health []) = true
    simp [Recorder.room, Recorder.used, Recorder.safUsed]
    omega⟩

theorem witness_JoiningAndDrills_resync :
    ∃ (t : Ns) (addr : Nat) (b : Bytes) (s : State),
      s.isPair = true ∧ s.pair.state = .joining ∧ s.pair.join.step ≠ 0 :=
  ⟨9, 4096, [1, 2], wMember .joining fun p => { p with join := { step := 3 } }, by decide +kernel⟩

theorem witness_JoiningAndDrills_joined :
    ∃ (t : Ns) (prg : Program) (off : Int) (fns : Vector SafFn 48) (conns : Vector SafConn 32) (seq : BitVec 16) (s : State),
      s.isPair = true ∧ s.pair.state = .joining ∧ s.pair.join.step = 3 ∧ s.sameImage prg = true :=
  ⟨9, { cycleNumber := 70 }, 0, Vector.replicate 48 {}, Vector.replicate 32 {}, 4, { wMember .joining (fun p => { p with join := { step := 3 } }) with prg := {} }, by decide +kernel⟩

theorem witness_JoiningAndDrills_joinTimeout :
    ∃ (t a : Ns) (s : State),
      s.pair.state = .joining ∧ s.pair.join.start = some a ∧ (s.begin t).due .rng a 300000000000 ≤ max s.clock t :=
  ⟨900000000000, 5, wMember .joining fun p => { p with join := { start := some 5 } }, by decide +kernel⟩

theorem witness_JoiningAndDrills_swapDrill :
    ∃ (t d : Ns) (o : Bytes) (s : State),
      s.isPair = true ∧ s.up .rng = true ∧ s.pair.state = .lead ∧ s.pair.drillNext = some d ∧ s.pair.cfg = some o ∧ d ≤ max s.clock t ∧ s.shadowThere = true ∧ s.pair.partner.since + pcHoldoff o * 1000000000 ≤ max s.clock t ∧ spanPassed (max s.clock t) s.pair.lastMismatchAt (pcHoldoff o * 1000000000) = true ∧ s.refHeard = true ∧ s.pair.handover = none :=
  ⟨20000000000, 5, wPairObj, wMember .lead fun p => { p with drillNext := some 5 }, by decide +kernel⟩

theorem witness_JoiningAndDrills_drillPutOff :
    ∃ (t d : Ns) (o : Bytes) (s : State),
      s.isPair = true ∧ s.up .rng = true ∧ s.pair.state = .lead ∧ s.pair.drillNext = some d ∧ s.pair.cfg = some o ∧ d ≤ max s.clock t ∧ s.shadowThere = false :=
  ⟨20000000000, 5, wPairObj, wMember .lead fun p => { p with drillNext := some 5, partner := {} }, by decide +kernel⟩

theorem witness_JoiningAndDrills_revertReq :
    ∃ (t h : Ns) (o : Bytes) (s : State),
      s.pair.holdoffFrom = some h ∧ s.pair.cfg = some o ∧ s.role = some .pairA ∧ s.pair.state = .shadow ∧ pcRevert o = true ∧ s.pair.revertLimit = false ∧ s.saf.fault = none ∧ h + pcHoldoff o * 1000000000 ≤ max s.clock t :=
  ⟨20000000000, 5, wPairObj, wMember .shadow fun p => { p with holdoffFrom := some 5 }, by decide +kernel⟩

theorem witness_RingTime_sync :
    ∃ (t ingress : Ns) (p : Port) (m : PtpMsg) (off : Rat) (s : State),
      (s.timeBegin t).up .tim = true ∧ (s.timeBegin t).ptpPort p = true ∧ m.domain = 0 ∧ m.twoStep = false ∧ ((s.timeBegin t).pdelay p).invalid = false ∧ (s.timeBegin t).ptpOld ptSync m = false ∧ (s.timeBegin t).time.isGm = false ∧ ((s.timeBegin t).time.gm.map GmData.identity) = some (ptpClock m) ∧ off = ((ingress : Int) + (s.timeBegin t).time.ringOff : Int) - (m.origin + m.correction + ((s.timeBegin t).pdelay p).mean) ∧ ((s.timeBegin t).time.state = .locked ∨ absR off ≤ 10000) :=
  ⟨900, 800, .a, wPtp 700, 100, wTime id, by decide +kernel⟩

theorem witness_RingTime_syncStep :
    ∃ (t ingress : Ns) (p : Port) (m : PtpMsg) (off : Rat) (s : State),
      (s.timeBegin t).up .tim = true ∧ (s.timeBegin t).ptpPort p = true ∧ m.domain = 0 ∧ m.twoStep = false ∧ ((s.timeBegin t).pdelay p).invalid = false ∧ (s.timeBegin t).ptpOld ptSync m = false ∧ (s.timeBegin t).time.isGm = false ∧ ((s.timeBegin t).time.gm.map GmData.identity) = some (ptpClock m) ∧ off = ((ingress : Int) + (s.timeBegin t).time.ringOff : Int) - (m.origin + m.correction + ((s.timeBegin t).pdelay p).mean) ∧ (s.timeBegin t).time.state ≠ .locked ∧ 10000 < absR off :=
  ⟨900, 800, .a, wPtp (-20000), 20800, wTime fun v => { v with state := .acquiring }, by decide +kernel⟩

theorem witness_RingTime_syncOther :
    ∃ (t ingress : Ns) (p : Port) (m : PtpMsg) (s : State),
      (s.timeBegin t).up .tim = true ∧ (s.timeBegin t).ptpPort p = true ∧ m.domain = 0 ∧ m.twoStep = false ∧ ((s.timeBegin t).pdelay p).invalid = false ∧ (s.timeBegin t).ptpOld ptSync m = false ∧ (((s.timeBegin t).time.isGm = true ∨ ((s.timeBegin t).time.gm.map GmData.identity) ≠ some (ptpClock m))) :=
  ⟨900, 800, .a, wPtp 700, wTime fun v => { v with isGm := true }, by decide +kernel⟩

theorem witness_RingTime_syncSend :
    ∃ (t : Ns) (s : State),
      (s.timeBegin t).up .tim = true ∧ (s.timeBegin t).time.isGm = true ∧ (∀ l, (s.timeBegin t).time.syncSentAt = some l → l + (s.timeBegin t).time.cfg.syncNs ≤ max s.clock t) :=
  ⟨900, wTime fun v => { v with isGm := true }, by refine ⟨by decide +kernel, by decide +kernel, ?_⟩; intro l h; cases h⟩

theorem witness_RingTime_syncLoss :
    ∃ (t l : Ns) (s : State),
      (s.timeBegin t).time.lastSync = some l ∧ (s.timeBegin t).time.state = .locked ∧ (s.timeBegin t).time.isGm = false ∧ (s.timeBegin t).due .tim l (3 * (s.timeBegin t).time.cfg.syncNs) ≤ max s.clock t :=
  ⟨4000000000, 5, wTime id, by decide +kernel⟩

theorem witness_RingTime_holdoverExpiry :
    ∃ (t : Ns) (s : State),
      (s.timeBegin t).time.state = .holdover ∧ (s.timeBegin t).time.holdoverAt + (s.timeBegin t).time.cfg.holdoverS * 1000000000 ≤ max s.clock t :=
  ⟨40000000000, wTime fun v => { v with state := .holdover }, by decide +kernel⟩

theorem witness_RingTime_timeConfig :
    ∃ (t : Ns) (org : Origin) (o : Bytes) (s : State),
      (s.timeBegin t).Admits org opTimeConfig [.tim] ∧ timeOk o = true ∧ (s.timeBegin t).timeSlave = false ∧ (s.timeBegin t).time.cfgPending = none ∧ (s.timeBegin t).storeOverflow (BitVec.ofNat 16 opTimeConfig) 0 o = false :=
  ⟨900, .self, wTimeObj, wTime id, by decide +kernel⟩

theorem witness_Grandmasters_announce :
    ∃ (t ingress : Ns) (p : Port) (m : PtpMsg) (g : GmData) (s : State),
      (s.timeBegin t).up .tim = true ∧ (s.timeBegin t).ptpPort p = true ∧ m.domain = 0 ∧ ingress ≤ max s.clock t ∧ (s.timeBegin t).ptpOld ptAnnounce m = false ∧ (((s.timeBegin t).time.cfg.gmCapable && !(s.timeBegin t).timeSlave) = false ∨ gmBetter g (s.timeBegin t).ownData = true) ∧ (∀ cur, (s.timeBegin t).time.gm = some cur → (s.timeBegin t).time.isGm = true ∨ cur.identity = g.identity ∨ gmBetter g cur = true) :=
  ⟨900, 800, .a, wPtp 0, { wGm with priority1 := 1 }, wTime id, by refine ⟨by decide +kernel, by decide +kernel, by decide +kernel, by decide +kernel, by decide +kernel, by decide +kernel, ?_⟩; rintro _ ⟨rfl⟩; decide +kernel⟩

theorem witness_Grandmasters_announceSend :
    ∃ (t : Ns) (s : State),
      (s.timeBegin t).up .tim = true ∧ (s.timeBegin t).time.isGm = true ∧ (∀ l, (s.timeBegin t).time.announceSentAt = some l → l + (s.timeBegin t).time.cfg.announceNs ≤ max s.clock t) :=
  ⟨900, wTime fun v => { v with isGm := true }, by refine ⟨by decide +kernel, by decide +kernel, ?_⟩; intro l h; cases h⟩

theorem witness_Grandmasters_announceTimeout :
    ∃ (t : Ns) (s : State),
      (s.timeBegin t).up .tim = true ∧ (s.timeBegin t).time.isGm = false ∧ (s.timeBegin t).due .tim (s.timeBegin t).time.lastBetter ((s.timeBegin t).time.cfg.announceTimeout * (s.timeBegin t).time.cfg.announceNs) ≤ max s.clock t ∧ (s.timeBegin t).time.cfg.gmCapable = true ∧ (s.timeBegin t).timeSlave = false :=
  ⟨90000000000, wTime fun v => { v with state := .freeRun, gm := none }, by decide +kernel⟩

theorem witness_Grandmasters_masterGone :
    ∃ (t : Ns) (s : State),
      (s.timeBegin t).up .tim = true ∧ (s.timeBegin t).time.isGm = false ∧ (s.timeBegin t).due .tim (s.timeBegin t).time.lastBetter ((s.timeBegin t).time.cfg.announceTimeout * (s.timeBegin t).time.cfg.announceNs) ≤ max s.clock t ∧ ((s.timeBegin t).time.cfg.gmCapable && !(s.timeBegin t).timeSlave) = false :=
  ⟨90000000000, wTime fun v => { v with cfg := { v.cfg with gmCapable := false } }, by decide +kernel⟩

theorem witness_Grandmasters_pdelayReq :
    ∃ (t ingress : Ns) (p : Port) (m : PtpMsg) (s : State),
      (s.timeBegin t).up .tim = true ∧ (s.timeBegin t).ptpPort p = true ∧ m.domain = 0 :=
  ⟨900, 800, .a, wPtp 0, wTime id, by decide +kernel⟩

theorem witness_Grandmasters_pdelayReqSend :
    ∃ (t : Ns) (p : Port) (s : State),
      (s.timeBegin t).up .tim = true ∧ (s.timeBegin t).ptpPort p = true ∧ (∀ l, ((s.timeBegin t).pdelay p).sentAt = some l → l + (s.timeBegin t).time.cfg.pdelayNs ≤ max s.clock t) :=
  ⟨900, .a, wTime id, by refine ⟨by decide +kernel, by decide +kernel, ?_⟩; intro l h; cases h⟩

theorem witness_Grandmasters_pdelayResp :
    ∃ (t ingress t1 : Ns) (p : Port) (m : PtpMsg) (s : State),
      (s.timeBegin t).up .tim = true ∧ (s.timeBegin t).ptpPort p = true ∧ m.domain = 0 ∧ m.twoStep = false ∧ ((s.timeBegin t).pdelay p).pending = some (m.seq, t1) ∧ 0 ≤ ((((ingress : Int) - t1 : Int) : Rat) - m.correction) / 2 :=
  ⟨900, 800, 500, .a, wPtp 0, wTime fun v => { v with pdelay := Vector.replicate 3 { pending := some (4, 500) } }, by decide +kernel⟩

theorem witness_Grandmasters_pdelayInvalid :
    ∃ (t l : Ns) (p : Port) (s : State),
      ((s.timeBegin t).pdelay p).lastValid = some l ∧ (s.timeBegin t).due .tim l (3 * (s.timeBegin t).time.cfg.pdelayNs) ≤ max s.clock t :=
  ⟨4000000000, 5, .a, wTime id, by decide +kernel⟩

theorem witness_ShipTime_shipTimeSet :
    ∃ (t : Ns) (org : Origin) (o : Bytes) (s : State),
      (s.timeBegin t).Admits org opShipTimeSet [.tim] ∧ (s.timeBegin t).shipSetOk o = true ∧ (s.timeBegin t).shipSetPolicy org = none ∧ (s.timeBegin t).time.ppsWait = none ∧ stPps o = false :=
  ⟨900, .self, wr 8 5000 ++ wr 8 800 ++ wr 8 0, wTime id, by decide +kernel⟩

theorem witness_ShipTime_shipTimeAtPps :
    ∃ (t : Ns) (org : Origin) (o : Bytes) (s : State),
      (s.timeBegin t).Admits org opShipTimeSet [.tim] ∧ (s.timeBegin t).shipSetOk o = true ∧ (s.timeBegin t).shipSetPolicy org = none ∧ (s.timeBegin t).time.ppsWait = none ∧ stPps o = true :=
  ⟨900, .self, wr 8 5000 ++ wr 8 0 ++ [1] ++ wr 7 0, wTime id, by decide +kernel⟩

theorem witness_ShipTime_stepLatched :
    ∃ (t : Ns) (org : Origin) (o : Bytes) (s : State),
      (s.timeBegin t).Admits org opShipTimeSet [.tim] ∧ o.length = 24 ∧ (s.timeBegin t).time.latch = true :=
  ⟨900, .self, wr 8 5000 ++ wr 8 800 ++ wr 8 0, wTime fun v => { v with latch := true }, by decide +kernel⟩

theorem witness_ShipTime_ppsIn :
    ∃ (t : Ns) (w : PpsWait) (s : State),
      (s.timeBegin t).up .tim = true ∧ (s.timeBegin t).time.ppsWait = some w ∧ isPartner w.org = false ∧ (s.timeBegin t).ppsLate w = false :=
  ⟨900, ⟨.self, 5000, 800⟩, wTime fun v => { v with ppsWait := some ⟨.self, 5000, 800⟩ }, by decide +kernel⟩

theorem witness_ShipTime_ppsStamped :
    ∃ (t : Ns) (s : State),
      (s.timeBegin t).up .tim = true ∧ (s.timeBegin t).time.ppsWait = none :=
  ⟨900, wTime id, by decide +kernel⟩

theorem witness_ShipTime_ppsMissing :
    ∃ (t : Ns) (w : PpsWait) (s : State),
      (s.timeBegin t).time.ppsWait = some w ∧ (s.timeBegin t).ppsLate w = true :=
  ⟨3000000000, ⟨.self, 5000, 800⟩, wTime fun v => { v with ppsWait := some ⟨.self, 5000, 800⟩ }, by decide +kernel⟩

theorem witness_ShipTime_shipTimeSlew :
    ∃ (t : Ns) (org : Origin) (o : Bytes) (s : State),
      (s.timeBegin t).Admits org opShipTimeSlew [.tim] ∧ slewOk o = true ∧ (s.timeBegin t).timeSlave = false ∧ (s.timeBegin t).time.ship = .set :=
  ⟨900, .self, wr 8 5000 ++ wr 4 800 ++ wr 4 0, wTime fun v => { v with ship := .set, slew := some ⟨.self, 100, 5, 0⟩ }, by decide +kernel⟩

theorem witness_ShipTime_slewEnd :
    ∃ (t : Ns) (w : Slew) (s : State),
      (s.timeBegin t).time.slew = some w ∧ w.added (max s.clock t) = w.offset :=
  ⟨90000000000, ⟨.self, 100, 5, 0⟩, wTime fun v => { v with ship := .set, slew := some ⟨.self, 100, 5, 0⟩ }, by decide +kernel⟩

theorem witness_ShipTime_ppsOut :
    ∃ (t : Ns) (s : State),
      (s.timeBegin t).up .tim = true ∧ (s.timeBegin t).time.cfg.ppsSrc = 1 ∧ nearSecond (s.timeBegin t).now = true ∧ (s.timeBegin t).time.ppsOutLast ≠ some (((s.timeBegin t).now + 10) / 1000000000) :=
  ⟨2000000000, wTime fun v => { v with cfg := { v.cfg with ppsSrc := 1 } }, by decide +kernel⟩

theorem witness_ShipTime_aonShipTimeCopy :
    ∃ (t : Ns) (s : State),
      (s.timeBegin t).up .tim = true ∧ (s.timeBegin t).up .aon = true ∧ (s.timeBegin t).mod.powered = true ∧ (s.timeBegin t).time.ship ≠ .unset ∧ (∀ x, (s.timeBegin t).time.aonShip = some x → x.2 + 1000000000 ≤ max s.clock t) :=
  ⟨2000000000, wTime fun v => { v with ship := .set }, by refine ⟨by decide +kernel, by decide +kernel, by decide +kernel, by decide +kernel, ?_⟩; intro l h; cases h⟩

theorem witness_Doorbells_sqTailDoorbell :
    ∃ (t : Ns) (n : Fin 8) (v : Word) (s : State),
      s.hifLive = true ∧ s.hif.sqs[n].enable = true ∧ doorbellBad (2 ^ s.hif.sqs[n].log2.toNat) v.toNat = false ∧ span (2 ^ s.hif.sqs[n].log2.toNat) s.hif.sqs[n].head s.hif.sqs[n].tail ≤ span (2 ^ s.hif.sqs[n].log2.toNat) s.hif.sqs[n].head v.toNat :=
  ⟨9, 0, 3, wHost id, by decide +kernel⟩

theorem witness_Doorbells_doorbellIgnored :
    ∃ (t : Ns) (n : Fin 8) (v : Word) (s : State),
      s.hifLive = true ∧ s.hif.sqs[n].enable = true ∧ doorbellBad (2 ^ s.hif.sqs[n].log2.toNat) v.toNat = true :=
  ⟨9, 0, 16, wHost id, by decide +kernel⟩

theorem witness_Doorbells_cqHeadDoorbell :
    ∃ (t : Ns) (n : Fin 8) (v : Word) (s : State),
      s.hifLive = true ∧ s.hif.cqs[n].enable = true ∧ doorbellBad s.hif.cqs[n].size v.toNat = false ∧ span s.hif.cqs[n].size s.hif.cqs[n].head v.toNat ≤ span s.hif.cqs[n].size s.hif.cqs[n].head s.hif.cqs[n].tail :=
  ⟨9, 0, 3, wHost fun h => { h with cqs := h.cqs.set 0 { log2 := 4, enable := true, tail := 5 } }, by decide +kernel⟩

theorem witness_Doorbells_eqHeadDoorbell :
    ∃ (t : Ns) (v : Word) (s : State),
      s.hifLive = true ∧ s.hif.eq.enable = true ∧ doorbellBad s.hif.eq.size v.toNat = false ∧ span s.hif.eq.size s.hif.eq.head v.toNat ≤ span s.hif.eq.size s.hif.eq.head s.hif.eq.tail :=
  ⟨9, 3, wHost fun h => { h with eq := { log2 := 4, enable := true, tail := 5 } }, by decide +kernel⟩

theorem witness_Doorbells_eventPost :
    ∃ (t : Ns) (ty : BitVec 16) (i : Nat) (d : Bytes) (s : State),
      s.hif.eq.room = true ∧ s.hif.held = [] ∧ s.hif.discarded = 0 ∧ s.hif.reports = [] :=
  ⟨9, 1, 2, wr 12 0, wHost id, by decide +kernel⟩

theorem witness_Doorbells_eventHeld :
    ∃ (t : Ns) (ty : BitVec 16) (i : Nat) (d : Bytes) (s : State),
      s.hif.eq.room = false ∧ s.hif.held.length < 256 :=
  ⟨9, 1, 2, wr 12 0, wRun, by decide +kernel⟩

theorem witness_Descriptors_descriptorFetch :
    ∃ (t : Ns) (n : Fin 8) (d : Bytes) (data : Option Bytes) (g : Tag) (s : State),
      s.hifLive = true ∧ s.hif.pick = some n ∧ d.length = 64 ∧ g = { id := s.hif.nextId, sq := n, cls := s.hif.sqs[n].cls, desc := d, data := data, accepted := s.hif.sqs[n].posted.headD (s.begin t).now } ∧ (((s.begin t).updHif fun h => { h with lastServed := h.lastServed.set (Fin.ofNat 4 s.hif.sqs[n].cls.toNat) n }).updHif (Hif.accept n g)).admitDesc (.host s.hif.nextId) d data = none :=
  ⟨9, 0, wNopDesc, none, { id := 0, sq := 0, desc := wNopDesc, accepted := 5 }, wHost fun h => { h with sqs := h.sqs.set 0 { log2 := 4, enable := true, tail := 1, posted := [5] } }, by decide +kernel⟩

theorem witness_Descriptors_unknownOpcode :
    ∃ (t : Ns) (n : Fin 8) (d : Bytes) (data : Option Bytes) (s : State),
      s.hifLive = true ∧ s.hif.pick = some n ∧ d.length = 64 ∧ opTable.contains (descOp d) = false ∧ (∀ g ∈ s.hif.tags, g.id ≠ s.hif.nextId) :=
  ⟨9, 0, wBadDesc, none, wHost fun h => { h with sqs := h.sqs.set 0 { log2 := 4, enable := true, tail := 1, posted := [5] } }, by decide +kernel⟩

theorem witness_Descriptors_descriptorStart :
    ∃ (t : Ns) (id : Nat) (g : Tag) (s : State),
      s.up .hif = true ∧ s.hif.tags.find? (fun x => x.id = id) = some g ∧ g.started = none ∧ g.outcome = none ∧ s.hif.mayStart g = true ∧ s.hostPolicy (.host id) g.desc = none ∧ s.inStep = false ∧ descTunnel g.desc = false :=
  ⟨9, 6, wTag, wHost fun h => { h with tags := [wTag] }, by decide +kernel⟩

theorem witness_Descriptors_completionWrite :
    ∃ (t : Ns) (id : Nat) (g : Tag) (o : Outcome) (c : Ns) (s : State),
      s.hifLive = true ∧ s.hif.tags.find? (fun x => x.id = id) = some g ∧ g.outcome = some (o, c) ∧ s.hif.cqs[s.hif.sqs[g.sq].cq].room = true ∧ s.hif.earlierCommit s.hif.sqs[g.sq].cq c = false :=
  ⟨9, 6, wDone, .done, 7, wHost fun h => { h with tags := [wDone] }, by decide +kernel⟩

theorem witness_Descriptors_coalescingTimeout :
    ∃ (t : Ns) (n : Fin 8) (s : State),
      s.hifLive = true ∧ s.hif.cqs[n].coalDue (max s.clock t) = true :=
  ⟨90000, 0, wHost fun h => { h with cqs := h.cqs.set 0 { log2 := 4, enable := true, coalUs := 5, unsignalled := 1, firstAt := some 5 } }, by decide +kernel⟩

theorem witness_Descriptors_nop :
    ∃ (t : Ns) (org : Origin) (s : State),
      (s.begin t).Admits org opNop [] :=
  ⟨0, .self, wRun, by decide +kernel⟩

theorem witness_Descriptors_stateRead :
    ∃ (t : Ns) (org : Origin) (p : Bytes) (s : State),
      (s.begin t).Admits org opStateRead [.svc, mapIsland (rd p 0 4 / 2 ^ 24 % 256)] ∧ p.length = 16 ∧ stateParamOk p = true ∧ rd p 0 4 / 2 ^ 24 % 256 = 0x20 ∧ rd p 0 4 % 4096 = 0 ∧ rd p 0 4 / 2 ^ 12 % 4096 < 64 :=
  ⟨0, .self, wr 4 0x20001000 ++ wr 12 0, wRun, by decide +kernel⟩

theorem witness_QueueSetUp_hifSqCtlWrite :
    ∃ (t : Ns) (n : Fin 8) (v : Word) (s : State),
      s.hifLive = true ∧ s.hif.sqs[n].enable = false ∧ v.getLsbD 8 = true ∧ (4 ≤ s.hif.sqs[n].log2 ∧ s.hif.sqs[n].log2 ≤ 12) ∧ s.hif.cqs[Fin.ofNat 8 (bitsOf v.toNat 6 4)].enable = true :=
  ⟨9, 1, 0x101, wHost fun h => { h with sqs := h.sqs.set 1 { log2 := 4 } }, by decide +kernel⟩

theorem witness_QueueSetUp_queueDisabled :
    ∃ (t : Ns) (n : Fin 8) (v : Word) (s : State),
      s.hifLive = true ∧ s.hif.sqs[n].enable = true ∧ v.getLsbD 8 = false :=
  ⟨9, 0, 0, wHost fun h => { h with tags := [wTag] }, by decide +kernel⟩

theorem witness_QueueSetUp_hifCqCtlWrite :
    ∃ (t : Ns) (n : Fin 8) (v : Word) (s : State),
      s.hifLive = true ∧ s.hif.cqs[n].enable = false ∧ v.getLsbD 31 = true ∧ (4 ≤ s.hif.cqs[n].log2 ∧ s.hif.cqs[n].log2 ≤ 12) ∧ ctlInRange v = true :=
  ⟨9, 1, 0x80040000, wHost fun h => { h with cqs := h.cqs.set 1 { log2 := 4 } }, by decide +kernel⟩

theorem witness_QueueSetUp_hifEqCtlWrite :
    ∃ (t : Ns) (v : Word) (s : State),
      s.hifLive = true ∧ s.hif.eq.enable = true ∧ v.getLsbD 31 = false :=
  ⟨9, 0, wHost id, by decide +kernel⟩

theorem witness_QueueSetUp_eventQueueEnabled :
    ∃ (t : Ns) (v : Word) (s : State),
      s.hifLive = true ∧ s.hif.eq.enable = false ∧ v.getLsbD 31 = true ∧ (4 ≤ s.hif.eq.log2 ∧ s.hif.eq.log2 ≤ 12) ∧ ctlInRange v = true ∧ s.hif.held = [] ∧ s.hif.reports = [] ∧ s.hif.discarded = 0 :=
  ⟨9, 0x80040000, wHost fun h => { h with eq := { log2 := 4 } }, by decide +kernel⟩

theorem witness_FunctionResets_hifSoftReset :
    ∃ (t : Ns) (v : Word) (s : State),
      s.barOpen = true ∧ v.getLsbD 0 = true :=
  ⟨9, 1, wHost fun h => { h with tags := [wTag] }, by decide +kernel⟩

theorem witness_FunctionResets_functionLevelReset :
    ∃ (t : Ns) (s : State),
      s.hif.perstLow = false ∧ s.hif.linkSpeed ≠ 0 :=
  ⟨9, wHost fun h => { h with tags := [wTag] }, by decide +kernel⟩

theorem witness_FunctionResets_perstN :
    ∃ (t : Ns) (s : State),
      s.hif.perstLow = false :=
  ⟨9, wHost fun h => { h with tags := [wTag] }, by decide +kernel⟩

theorem witness_FunctionResets_perstNRelease :
    ∃ (t : Ns) (s : State),
      s.hif.perstLow = true :=
  ⟨9, wHost fun h => { h with perstLow := true }, by decide +kernel⟩

theorem witness_FunctionResets_d3hotEntry :
    ∃ (t : Ns) (s : State),
      s.hif.d3hot = false ∧ s.hif.perstLow = false ∧ s.hif.linkSpeed ≠ 0 ∧ s.hif.anyEnabled = false :=
  ⟨9, { wRun with hif := { ready := true, linkSpeed := 2 } }, by decide +kernel⟩

theorem witness_FunctionResets_d3hotWithQueues :
    ∃ (t : Ns) (s : State),
      s.hif.d3hot = false ∧ s.hif.perstLow = false ∧ s.hif.linkSpeed ≠ 0 ∧ s.hif.anyEnabled = true :=
  ⟨9, wHost fun h => { h with tags := [wTag] }, by decide +kernel⟩

theorem witness_FunctionResets_d0Return :
    ∃ (t : Ns) (s : State),
      s.hif.d3hot = true ∧ s.hif.perstLow = false ∧ s.hif.linkSpeed ≠ 0 ∧ s.hif.ready = true :=
  ⟨9, wHost fun h => { h with d3hot := true }, by decide +kernel⟩

theorem witness_FunctionResets_pcieLinkDown :
    ∃ (t : Ns) (s : State),
      s.hif.linkSpeed ≠ 0 :=
  ⟨9, wHost id, by decide +kernel⟩

theorem witness_FunctionResets_pcieLinkUp :
    ∃ (t : Ns) (v : BitVec 2) (s : State),
      s.hif.perstLow = false ∧ s.hif.linkSpeed = 0 ∧ (v = 1 ∨ v = 2) :=
  ⟨9, 2, wHost fun h => { h with linkSpeed := 0, linkLost := true }, by decide +kernel⟩

theorem witness_Mailboxes_mbDataWrite :
    ∃ (t : Ns) (who : Ident) (n : Fin 32) (j : Fin 16) (v : Word) (s : State),
      s.islandCode .svc = none ∧ s.bindSender n = who ∧ s.mb.boxes[n].go = false ∧ s.receiverOff n = false :=
  ⟨9, .host, 3, 2, 7, wBox id, by decide +kernel⟩

theorem witness_Mailboxes_mbNotBound :
    ∃ (t : Ns) (who : Ident) (n : Fin 32) (j : Fin 16) (v : Word) (s : State),
      s.islandCode .svc = none ∧ s.bindSender n ≠ who ∧ s.receiverOff n = false :=
  ⟨9, .svc, 3, 2, 7, wBox id, by decide +kernel⟩

theorem witness_Mailboxes_mbPost :
    ∃ (t : Ns) (who : Ident) (n : Fin 32) (s : State),
      s.islandCode .svc = none ∧ s.bindSender n = who ∧ s.bindEnabled n = true ∧ s.mb.boxes[n].go = false ∧ s.receiverOff n = false ∧ s.bindReceiver n ≠ .saf :=
  ⟨9, .host, 3, wBox id, by decide +kernel⟩

theorem witness_Mailboxes_postRefused :
    ∃ (t : Ns) (who : Ident) (n : Fin 32) (s : State),
      s.islandCode .svc = none ∧ s.bindSender n = who ∧ s.mb.boxes[n].go = true :=
  ⟨9, .host, 3, wBox fun b => { b with go := true }, by decide +kernel⟩

theorem witness_Mailboxes_mbTake :
    ∃ (t : Ns) (who : Ident) (n : Fin 32) (s : State),
      s.islandCode .svc = none ∧ s.bindReceiver n = who ∧ s.mb.boxes[n].go = true ∧ s.receiverOff n = false ∧ (∀ d, s.ackDeadline n = some d → max s.clock t ≤ d) :=
  ⟨9, .ctl, 3, wBox fun b => { b with go := true }, by decide +kernel⟩

theorem witness_Mailboxes_mbTakeLate :
    ∃ (t : Ns) (who : Ident) (n : Fin 32) (d : Ns) (s : State),
      s.islandCode .svc = none ∧ s.bindReceiver n = who ∧ s.mb.boxes[n].go = true ∧ s.receiverOff n = false ∧ s.ackDeadline n = some d ∧ d < max s.clock t :=
  ⟨9000, .ctl, 3, 5000, wBox fun b => { b with go := true, deadline := some 5000 }, by decide +kernel⟩

theorem witness_Mailboxes_hubDown :
    ∃ (t : Ns) (who : Ident) (n : Fin 32) (c : CrossCode) (s : State),
      s.islandCode .svc = some c :=
  ⟨9, .ctl, 3, .stalled, { wRun with islands := wRun.islands.set 1 { state := .stalled, code := some .stalled } }, by decide +kernel⟩

theorem witness_Mailboxes_withdraw :
    ∃ (t : Ns) (who : Ident) (n : Fin 32) (s : State),
      s.islandCode .svc = none ∧ s.bindSender n = who ∧ s.mb.boxes[n].go = true ∧ s.receiverOff n = false ∧ s.bindReceiver n ≠ .partner :=
  ⟨9, .host, 3, wBox fun b => { b with go := true }, by decide +kernel⟩

theorem witness_Mailboxes_withdrawLate :
    ∃ (t : Ns) (who : Ident) (n : Fin 32) (s : State),
      s.islandCode .svc = none ∧ s.bindSender n = who ∧ s.mb.boxes[n].go = false ∧ s.mb.boxes[n].taken = true ∧ s.receiverOff n = false :=
  ⟨9, .host, 3, wBox fun b => { b with taken := true }, by decide +kernel⟩

theorem witness_Mailboxes_ackExpired :
    ∃ (t : Ns) (n : Fin 32) (d : Ns) (s : State),
      s.mb.boxes[n].go = true ∧ s.ackDeadline n = some d ∧ d < max s.clock t ∧ s.takesKnown n d = true :=
  ⟨9000, 3, 5000, wBox fun b => { b with go := true, deadline := some 5000 }, by decide +kernel⟩

theorem witness_Mailboxes_mbBindWrite :
    ∃ (t : Ns) (n : Fin 32) (v : Word) (s : State),
      s.up .svc = true ∧ s.lockMb = false ∧ s.mb.boxes[n].go = false ∧ bindingOk s.isPair v.toNat = true :=
  ⟨9, 4, 0x1312, wBox id, by decide +kernel⟩

theorem witness_Mailboxes_bindLocked :
    ∃ (t : Ns) (n : Fin 32) (v : Word) (s : State),
      s.up .svc = true ∧ s.lockMb = true :=
  ⟨9, 4, 0x1312, { wRun with regs := { mordant := Tmr.of 1 } }, by decide +kernel⟩

theorem witness_Registers_registerWrite :
    ∃ (t : Ns) (v : Word) (s : State),
      s.barOpen = true ∧ s.up .svc = true :=
  ⟨9, 1, wHost id, by decide +kernel⟩

theorem witness_Registers_hifErrClear :
    ∃ (t : Ns) (v : Word) (s : State),
      s.barOpen = true :=
  ⟨9, 1, wHost id, by decide +kernel⟩

theorem witness_Registers_vectorUnmasked :
    ∃ (t : Ns) (k : Fin 16) (v : Word) (s : State),
      s.barOpen = true ∧ s.hif.msix[k].pending = true ∧ v.getLsbD 0 = false :=
  ⟨9, 2, 0, wHost fun h => { h with msix := h.msix.set 2 { h.msix[2] with pending := true } }, by decide +kernel⟩

theorem witness_Registers_baseWhileEnabled :
    ∃ (t : Ns) (n : Fin 8) (v : Word) (s : State),
      s.hifLive = true ∧ s.hif.sqs[n].enable = true :=
  ⟨9, 0, 0, wHost id, by decide +kernel⟩

theorem witness_Registers_readOnlyWrite :
    ∃ (t : Ns) (off : Nat) (v : Word) (s : State),
      off < 0x118 :=
  ⟨9, 0x104, 0, wHost id, by decide +kernel⟩

theorem witness_Registers_mordantWrite :
    ∃ (t : Ns) (v : Word) (s : State),
      s.svcServes = true :=
  ⟨9, 5, wHost id, by decide +kernel⟩

theorem witness_Registers_safeEnWrite :
    ∃ (t : Ns) (v : Word) (s : State),
      s.svcServes = true ∧ s.lockSafeEn = false ∧ s.regs.testCtl = 0 :=
  ⟨9, 5, wHost id, by decide +kernel⟩

theorem witness_Registers_safeEnLocked :
    ∃ (t : Ns) (v : Word) (s : State),
      s.svcServes = true ∧ s.lockSafeEn = true :=
  ⟨9, 5, { wHost id with regs := { mordant := Tmr.of 4 } }, by decide +kernel⟩

theorem witness_Registers_testClrWrite :
    ∃ (t : Ns) (v : Word) (s : State),
      s.svcServes = true :=
  ⟨9, 0x100, { wHost id with regs := { testCtl := 3 } }, by decide +kernel⟩

theorem witness_Registers_serviceUartTestControl :
    ∃ (t : Ns) (g : Fin 8) (c : TestCtl) (set : Bool) (s : State),
      s.mod.testMode = true ∧ s.up .svc = true :=
  ⟨9, 2, .trim, true, { wRun with mod := { wRun.mod with testMode := true } }, by decide +kernel⟩

theorem witness_Registers_joinInhibitWrite :
    ∃ (t : Ns) (v : Word) (s : State),
      s.svcServes = true :=
  ⟨9, 1, wHost id, by decide +kernel⟩

theorem witness_VotedRegistersAndKeys_scrubClean :
    ∃ (t : Ns) (s : State),
      (∀ r ∈ tmrAll, (s.copies r.offset).c0 = (s.copies r.offset).c1 ∧ (s.copies r.offset).c0 = (s.copies r.offset).c2) :=
  ⟨9, wRun, by decide +kernel⟩

theorem witness_VotedRegistersAndKeys_tmrScrub :
    ∃ (t : Ns) (a b : Word) (s : State),
      (∀ r ∈ tmrAll, r.offset ≠ 0x114 → (s.copies r.offset).c0 = (s.copies r.offset).c1 ∧ (s.copies r.offset).c0 = (s.copies r.offset).c2) ∧ s.regs.groupEn = ⟨a, a, b⟩ ∧ a &&& 0xFF ≠ b &&& 0xFF :=
  ⟨9, 1, 3, { wRun with regs := { groupEn := ⟨1, 1, 3⟩ } }, by decide +kernel⟩

theorem witness_VotedRegistersAndKeys_scrubFatal :
    ∃ (t : Ns) (a b c : Word) (s : State),
      (∀ r ∈ tmrAll, r.offset ≠ 0x104 → (s.copies r.offset).c0 = (s.copies r.offset).c1 ∧ (s.copies r.offset).c0 = (s.copies r.offset).c2) ∧ s.regs.role = ⟨a, b, c⟩ ∧ a &&& 0xF ≠ b &&& 0xF ∧ a &&& 0xF ≠ c &&& 0xF ∧ b &&& 0xF ≠ c &&& 0xF ∧ s.mod.drivenUntil = none :=
  ⟨9, 0, 1, 3, { wRun with regs := { role := ⟨0, 1, 3⟩ } }, by decide +kernel⟩

theorem witness_VotedRegistersAndKeys_ringIdWrite :
    ∃ (t : Ns) (off : Nat) (v : Word) (s : State),
      s.svcServes = true ∧ ringIdOffsets.contains off = true ∧ s.lockRingId = false ∧ s.originatesCyclic = false ∧ (s.isPair = true → s.pair.state = .unformed) ∧ ringIdBad off v.toNat = false :=
  ⟨9, 0x2000, 12, wHost id, by decide +kernel⟩

theorem witness_VotedRegistersAndKeys_ringIdRefused :
    ∃ (t : Ns) (off : Nat) (v : Word) (s : State),
      s.svcServes = true ∧ ringIdOffsets.contains off = true ∧ s.lockRingId = false ∧ (s.originatesCyclic = true ∨ ringIdBad off v.toNat = true) :=
  ⟨9, 0x2000, 0xFFFF, wHost id, by decide +kernel⟩

theorem witness_VotedRegistersAndKeys_imgKeyWordWrite :
    ∃ (t : Ns) (k : Fin 4) (j : Fin 8) (v : Word) (s : State),
      s.svcServes = true ∧ s.lockImgKey = false ∧ s.regs.keyValid.getLsbD k.val = false :=
  ⟨9, 1, 2, 7, wHost id, by decide +kernel⟩

theorem witness_VotedRegistersAndKeys_keyValidWrite :
    ∃ (t : Ns) (k : Fin 4) (v : Word) (s : State),
      s.svcServes = true ∧ s.lockImgKey = false :=
  ⟨9, 1, 1, wHost id, by decide +kernel⟩

theorem witness_VotedRegistersAndKeys_keysLocked :
    ∃ (t : Ns) (k : Fin 4) (v : Word) (s : State),
      s.svcServes = true ∧ s.lockImgKey = true :=
  ⟨9, 1, 1, { wHost id with regs := { mordant := Tmr.of 8 } }, by decide +kernel⟩

theorem witness_Recorder_recordFlashCopy :
    ∃ (t : Ns) (e : RecEntry) (rest : List RecEntry) (s : State),
      s.up .recorder = true ∧ s.recorder.intake = e :: rest ∧ s.recorder.offset + e.slot ≤ 131072 :=
  ⟨9, wRec, [], wRecSt fun r => { r with intake := [wRec] }, by decide +kernel⟩

theorem witness_Recorder_markFails :
    ∃ (t : Ns) (e : RecEntry) (rest : List RecEntry) (s : State),
      s.up .recorder = true ∧ s.recorder.intake = e :: rest ∧ s.recorder.offset + e.slot ≤ 131072 :=
  ⟨9, wRec, [], wRecSt fun r => { r with intake := [wRec] }, by decide +kernel⟩

theorem witness_Recorder_sectorEraseEnd :
    ∃ (t : Ns) (k : Fin 512) (b : Ns) (s : State),
      s.recorder.erasing = some (k, b) ∧ s.recorder.sectors[k].erases + 1 < 100000 :=
  ⟨9, 4, 5, wRecSt fun r => { r with erasing := some (4, 5) }, by decide +kernel⟩

theorem witness_Recorder_sectorRetired :
    ∃ (t : Ns) (ok : Bool) (k : Fin 512) (b : Ns) (s : State),
      s.recorder.erasing = some (k, b) ∧ (ok = false ∨ 100000 ≤ s.recorder.sectors[k].erases + 1) ∧ s.recorder.spares ≠ 0 :=
  ⟨9, false, 4, 5, wRecSt fun r => { r with erasing := some (4, 5) }, by decide +kernel⟩

theorem witness_Recorder_recSnapshot :
    ∃ (t : Ns) (org : Origin) (s : State),
      (s.begin t).Admits org opRecSnapshot [.recorder] :=
  ⟨9, .self, wRun, by decide +kernel⟩

theorem witness_Recorder_recRead :
    ∃ (t : Ns) (org : Origin) (p : Bytes) (m : Nat) (sn : RecSnap) (s : State),
      (s.begin t).Admits org opRecRead [.recorder] ∧ p.length = 16 ∧ zeroAt p 12 4 = true ∧ 1040 ≤ m ∧ s.recorder.snaps.find? (fun x => x.id = rd p 0 4) = some sn ∧ seqBefore (BitVec.ofNat 32 (rd p 4 4)) s.recorder.firstNow = false :=
  ⟨9, .self, wr 4 1 ++ wr 4 1 ++ wr 8 0, 1040, { id := 1, first := 1, last := 0, stamp := 0 }, wRecSt fun r => { r with snaps := [{ id := 1, first := 1, last := 0, stamp := 0 }] }, by decide +kernel⟩

theorem witness_Recorder_recordsOverwritten :
    ∃ (t : Ns) (org : Origin) (p : Bytes) (m : Nat) (sn : RecSnap) (s : State),
      (s.begin t).Admits org opRecRead [.recorder] ∧ p.length = 16 ∧ zeroAt p 12 4 = true ∧ 1040 ≤ m ∧ s.recorder.snaps.find? (fun x => x.id = rd p 0 4) = some sn ∧ seqBefore (BitVec.ofNat 32 (rd p 4 4)) s.recorder.firstNow = true :=
  ⟨9, .self, wr 4 1 ++ wr 4 1 ++ wr 8 0, 1040, { id := 1, first := 1, last := 0, stamp := 0 }, wRecSt fun r => { r with nextSeq := 5, snaps := [{ id := 1, first := 1, last := 0, stamp := 0 }] }, by decide +kernel⟩

theorem witness_StoreSaves_configSaveStart :
    ∃ (t : Ns) (o : Int × Ns) (s : State),
      s.up .recorder = true ∧ s.stores[0].oldest = some o ∧ s.stores[0].running = none ∧ s.stores[0].heldBack = false :=
  ⟨9, (4, 4), wStore 0 fun x => { x with oldest := some (4, 4), changeSeq := 1 }, by decide +kernel⟩

theorem witness_StoreSaves_storeSaveComplete :
    ∃ (t : Ns) (v : Save) (s : State),
      s.up .recorder = true ∧ s.stores[0].running = some v ∧ s.stores[0].waiting = [] ∧ s.stores[0].clearWait = none :=
  ⟨9, wSave, wStore 0 fun x => { x with running := some wSave }, by decide +kernel⟩

theorem witness_StoreSaves_powerFailSaved :
    ∃ (t : Ns) (v : Save) (s : State),
      s.up .recorder = true ∧ s.stores[1].running = some v ∧ s.stores[1].waiting = [] ∧ s.stores[1].clearWait = none ∧ v.causes.contains .powerFail = true ∧ s.mod.vlogBack = false :=
  ⟨9, { wSave with causes := [.powerFail] }, wStore 1 fun x => { x with running := some { wSave with causes := [.powerFail] } }, by decide +kernel⟩

theorem witness_StoreSaves_saveRetained :
    ∃ (t : Ns) (org : Origin) (p : Bytes) (s : State),
      (s.begin t).Admits org opStoreCommand [.recorder] ∧ storeFormat 1 p = none ∧ s.stores[1].command = none ∧ s.prg.running ≠ none ∧ s.stores[1].running = none ∧ s.savePages.length ≤ 255 :=
  ⟨9, .self, wAction 1, wRun, by decide +kernel⟩

theorem witness_StoreSaves_saveConfig :
    ∃ (t : Ns) (org : Origin) (p : Bytes) (s : State),
      (s.begin t).Admits org opStoreCommand [.recorder] ∧ storeFormat 2 p = none ∧ s.stores[0].command = none ∧ s.stores[0].heldBack = false ∧ s.stores[0].running = none :=
  ⟨9, .self, wAction 2, wRun, by decide +kernel⟩

theorem witness_StoreSaves_clearRetained :
    ∃ (t : Ns) (org : Origin) (p : Bytes) (s : State),
      (s.begin t).Admits org opStoreCommand [.recorder] ∧ storeFormat 3 p = none ∧ s.stores[1].command = none ∧ (s.prg.state = .stopped ∨ s.prg.state = .halted) ∧ s.stores[1].running = none ∧ s.stores[1].waiting = [] :=
  ⟨9, .self, wAction 3, { wRun with prg := {} }, by decide +kernel⟩

theorem witness_StoreSaves_clearWaits :
    ∃ (t : Ns) (org : Origin) (p : Bytes) (s : State),
      (s.begin t).Admits org opStoreCommand [.recorder] ∧ storeFormat 3 p = none ∧ s.stores[1].command = none ∧ (s.prg.state = .stopped ∨ s.prg.state = .halted) ∧ s.stores[1].running ≠ none :=
  ⟨9, .self, wAction 3, { (wStore 1 fun x => { x with running := some wSave }) with prg := {} }, by decide +kernel⟩

theorem witness_StoreSaves_factoryConfig :
    ∃ (t : Ns) (org : Origin) (p : Bytes) (s : State),
      (s.begin t).Admits org opStoreCommand [.recorder] ∧ storeFormat 4 p = none ∧ s.lockMb = false ∧ s.lockChown = false ∧ s.stores[0].command = none ∧ s.stores[0].running = none ∧ s.stores[0].waiting = [] :=
  ⟨9, .self, wAction 4, wRun, by decide +kernel⟩

theorem witness_PowerFail_powerFail :
    ∃ (t : Ns) (s : State),
      s.mod.failAt = none ∧ s.mod.powered = true ∧ s.mod.state ≠ .reset ∧ s.mod.vlogBack = false :=
  ⟨9, wRun, by decide +kernel⟩

theorem witness_PowerFail_saveSkipped :
    ∃ (t : Ns) (s : State),
      s.mod.failAt = none ∧ s.mod.powered = true ∧ s.mod.state ≠ .reset ∧ s.mod.vlogBack = false ∧ s.prg.running ≠ none ∧ s.up .recorder = true ∧ s.stores[1].heldBack = false ∧ s.budget < s.retainedSize :=
  ⟨9, wRun, by decide +kernel⟩

theorem witness_PowerFail_vlogReturnAfterFail :
    ∃ (t : Ns) (f : Ns) (s : State),
      s.mod.failAt = some f ∧ s.mod.lanesStopped = false :=
  ⟨9, 5, { wRun with mod := { wRun.mod with failAt := some 5 } }, by decide +kernel⟩

theorem witness_PowerFail_restart :
    ∃ (t : Ns) (f : Ns) (s : State),
      s.mod.failAt = some f ∧ s.mod.lanesStopped = true :=
  ⟨9, 5, { wRun with mod := { wRun.mod with failAt := some 5, lanesStopped := true } }, by decide +kernel⟩

theorem witness_PowerFail_holdupExhausted :
    ∃ (t : Ns) (f : Ns) (s : State),
      s.mod.failAt = some f :=
  ⟨9, 5, { wRun with mod := { wRun.mod with failAt := some 5 } }, by decide +kernel⟩

theorem witness_PowerFail_holdupCharged :
    ∃ (t : Ns) (s : State),
      s.mod.charged = false ∧ s.mod.powered = true ∧ s.mod.failAt = none :=
  ⟨9, wRun, by decide +kernel⟩

theorem witness_PowerFail_holdupNotCharged :
    ∃ (t : Ns) (s : State),
      s.mod.charged = false ∧ s.mod.powered = true ∧ s.mod.timeZero + 2000000000 ≤ max s.clock t ∧ s.mod.state ≠ .reset :=
  ⟨3000000000, wRun, by decide +kernel⟩

theorem witness_FirmwareSlots_fwStage :
    ∃ (t : Ns) (org : Origin) (p d : Bytes) (s : State),
      (s.begin t).Admits org opFwStage [.svc, .recorder] ∧ stageFormat p d = true ∧ isOffset p + isLength p ≤ 8388608 ∧ isFirst p = true ∧ isLast p = false ∧ s.mod.fwStaging = none :=
  ⟨9, .self, wChunk false 256, List.replicate 256 7, wRun, by decide +kernel⟩

theorem witness_FirmwareSlots_fwChunkWrong :
    ∃ (t : Ns) (org : Origin) (p d : Bytes) (s : State),
      (s.begin t).Admits org opFwStage [.svc, .recorder] ∧ stageFormat p d = true ∧ isOffset p + isLength p ≤ 8388608 ∧ isFirst p = false ∧ s.mod.fwStaging ≠ some (isOffset p) ∧ s.mod.fwStaging ≠ none :=
  ⟨9, .self, wr 4 256 ++ wr 4 256 ++ wr 8 0, List.replicate 256 7, { wRun with mod := { wRun.mod with fwStaging := some 512 } }, by decide +kernel⟩

theorem witness_FirmwareSlots_fwActivate :
    ∃ (t : Ns) (org : Origin) (k : Fin 2) (p : Bytes) (s : State),
      (s.begin t).Admits org opFwActivate [.svc] ∧ p.length = 16 ∧ zeroAt p 1 15 = true ∧ rd p 0 1 = k.val ∧ (s.mod.fw[k].state = .verified ∨ s.mod.fw[k].state = .running) :=
  ⟨9, .self, 1, wLed 1, { wRun with mod := { wRun.mod with fw := wRun.mod.fw.set 1 { state := .verified, bytes := [1] } } }, by decide +kernel⟩

theorem witness_FirmwareSlots_fwTrialExpiry :
    ∃ (t : Ns) (s : State),
      s.mod.fwTrial = true ∧ s.mod.fwRunning = s.mod.fwBoot ∧ (s.mod.state = .selftest ∨ s.mod.state = .loading ∨ s.mod.state = .fatal) ∧ s.mod.timeZero + 5000000000 ≤ max s.clock t :=
  ⟨6000000000, { State.reset with mod := { fwTrial := true, fwBoot := 1, fwRunning := 1 } }, by decide +kernel⟩

theorem witness_MarginLedger_ledgerTest :
    ∃ (t : Ns) (org : Origin) (m : HoldupMeas) (s : State),
      (s.begin t).Admits org opLedgerTest [.svc] ∧ s.testPossible = true ∧ m.vMean * m.dV ≠ 0 :=
  ⟨9, .self, wMeas, wRun, by decide +kernel⟩

theorem witness_MarginLedger_holdupTest :
    ∃ (t : Ns) (m : HoldupMeas) (s : State),
      s.up .svc = true ∧ s.testPossible = true ∧ m.vMean * m.dV ≠ 0 :=
  ⟨9, wMeas, wRun, by decide +kernel⟩

theorem witness_MarginLedger_ledgerMeasurement :
    ∃ (t : Ns) (ch : Fin 128) (v : Rat) (s : State),
      s.up .svc = true ∧ s.mod.powered = true :=
  ⟨9, 3, 2, wRun, by decide +kernel⟩

theorem witness_MarginLedger_safetyTimeMargin :
    ∃ (t : Ns) (i : Nat) (v : Rat) (s : State),
      s.up .svc = true ∧ s.mod.powered = true ∧ s.saf.tMus < v.ceil.toNat :=
  ⟨9, 0, 900, wRun, by decide +kernel⟩

theorem witness_MarginLedger_operatingSeconds :
    ∃ (t : Ns) (i : Nat) (v : Rat) (s : State),
      s.up .svc = true ∧ s.mod.powered = true :=
  ⟨9, 0, 0, wRun, by decide +kernel⟩

theorem witness_MarginLedger_thermalHours :
    ∃ (t : Ns) (a : Nat) (l : List Nat) (s : State),
      s.up .svc = true ∧ s.mod.powered = true :=
  ⟨9, 100, [120], wRun, by decide +kernel⟩

theorem witness_DisplaySetUp_dispConfig :
    ∃ (t : Ns) (org : Origin) (o : Bytes) (s : State),
      (s.begin t).Admits org opDispConfig [.disp] ∧ o.length = 16 ∧ (1 ≤ rd o 0 2 ∧ rd o 0 2 ≤ 1000) ∧ rd o 2 2 ≤ 1000 ∧ rd o 4 1 < 96 ∧ (50 ≤ rd o 6 2 ∧ rd o 6 2 ≤ 400) ∧ zeroAt o 5 1 = true ∧ zeroAt o 8 8 = true ∧ (∀ r : Fin 16, s.disp.regions[r] = none) ∧ s.disp.blink = [] ∧ s.disp.pass = none ∧ (∀ r : Fin 16, s.disp.queued[r] = none) :=
  ⟨9, .self, wDispConfig, wRun, by decide +kernel⟩

theorem witness_DisplaySetUp_dispRegion :
    ∃ (t : Ns) (org : Origin) (r : Fin 16) (o : Bytes) (s : State),
      (s.begin t).Admits org opDispRegion [.disp] ∧ o.length = 16 ∧ rd o 0 1 = r.val ∧ rdBits o 1 7 1 = 0 ∧ zeroAt o 2 2 = true ∧ rdFrame o 4 ≠ 0 ∧ rdFrame o 4 &&& segBit s.disp.cfg.mark = 0 ∧ (∀ i : Fin 16, i ≠ r → s.disp.regions[i] = none) ∧ s.disp.pass = none ∧ s.disp.queued[r] = none :=
  ⟨9, .self, 4, wRegion 4 1 0xF0, wRun, by decide +kernel⟩

theorem witness_DisplaySetUp_dispBlink :
    ∃ (t : Ns) (org : Origin) (o : Bytes) (s : State),
      (s.begin t).Admits org opDispBlink [.disp] ∧ o.length = 32 ∧ s.disp.blinkPending = none ∧ s.disp.pass = none ∧ (blinkEntries o).all blinkEntryOk = true ∧ ((blinkEntries o).map fun e => rd e 0 1).contains s.disp.cfg.mark.val = false ∧ ((blinkEntries o).map fun e => rd e 0 1).eraseDups.length = (blinkEntries o).length ∧ blinkOccupancy s.disp.cfg ((blinkEntries o).map fun e => { segment := Fin.ofNat 96 (rd e 0 1), freq := Fin.ofNat 4 (rd e 1 1), duty := rd e 2 1 }) ≤ 1000 :=
  ⟨9, .self, wBlinkObj, wRun, by decide +kernel⟩

theorem witness_DisplaySetUp_blinkToggle :
    ∃ (t : Ns) (f c : Fin 4) (s : State),
      s.up .disp = true ∧ s.mod.failAt = none ∧ s.disp.pass = none ∧ s.disp.supply = false ∧ s.disp.blink.any (fun b => b.freq == f && segCom b.segment == c.val) = true ∧ (∀ b ∈ s.disp.blink, b.freq = f → segCom b.segment = c.val → b.since + b.least ≤ max s.clock t) :=
  ⟨4000000000, 1, 0, wDisp fun d => { d with blink := [{ segment := 3, freq := 1, duty := 50 }] }, by decide +kernel⟩

theorem witness_DisplayPasses_dispUpdate :
    ∃ (t : Ns) (org : Origin) (r : Fin 16) (m : BitVec 96) (o : Bytes) (s : State),
      (s.begin t).Admits org opDispUpdate [.disp] ∧ o.length = 16 ∧ zeroAt o 1 3 = true ∧ rd o 0 1 = r.val ∧ s.disp.regions[r] = some m ∧ rdFrame o 4 &&& ~~~m = 0 :=
  ⟨9, .self, 2, 0xFF, wRegion 2 0 9, wDisp id, by decide +kernel⟩

theorem witness_DisplayPasses_displayPassStart :
    ∃ (t : Ns) (v : Nat) (s : State),
      s.up .disp = true ∧ s.mod.failAt = none ∧ s.disp.pass = none ∧ s.disp.redriveDue = none ∧ s.disp.queue ≠ [] ∧ s.disp.cfg.vmin ≤ v ∧ s.disp.supply = false :=
  ⟨9, 240, wDisp id, by decide +kernel⟩

theorem witness_DisplayPasses_passWithoutSupply :
    ∃ (t : Ns) (v : Nat) (s : State),
      s.up .disp = true ∧ s.mod.failAt = none ∧ s.disp.pass = none ∧ s.disp.redriveDue = none ∧ s.disp.queue ≠ [] ∧ v < s.disp.cfg.vmin :=
  ⟨9, 100, wDisp id, by decide +kernel⟩

theorem witness_DisplayPasses_displayPhaseEnd :
    ∃ (t : Ns) (v : Nat) (p : Pass) (ph : Phase) (s : State),
      s.disp.pass = some p ∧ p.phases[p.index]? = some ph ∧ s.up .disp = true ∧ s.mod.failAt = none ∧ 95 * s.disp.cfg.phaseNs ≤ 100 * (max s.clock t - p.phaseStart) ∧ p.index + 1 < p.phases.length ∧ s.disp.cfg.vmin ≤ v :=
  ⟨4000000000, 240, wPass, { on := true, com := 0, segs := 5 }, wDisp fun d => { d with pass := some wPass }, by decide +kernel⟩

theorem witness_DisplayPasses_passEnds :
    ∃ (t : Ns) (v : Nat) (p : Pass) (ph : Phase) (s : State),
      s.disp.pass = some p ∧ p.phases[p.index]? = some ph ∧ s.up .disp = true ∧ s.mod.failAt = none ∧ 95 * s.disp.cfg.phaseNs ≤ 100 * (max s.clock t - p.phaseStart) ∧ p.index + 1 = p.phases.length ∧ s.disp.blinkPending = none :=
  ⟨4000000000, 240, { wPass with index := 1 }, { on := false, com := 3, segs := segBit 95 }, wDisp fun d => { d with pass := some { wPass with index := 1 } }, by decide +kernel⟩

theorem witness_DisplayPasses_dispSupplyCheck :
    ∃ (t : Ns) (v : Nat) (s : State),
      s.up .disp = true ∧ s.disp.supply = true ∧ s.disp.cfg.vmin ≤ v ∧ 1 ≤ s.disp.goodChecks :=
  ⟨9, 240, wDisp fun d => { d with supply := true, goodChecks := 1 }, by decide +kernel⟩

theorem witness_DisplayPasses_supplyStaysLow :
    ∃ (t : Ns) (v : Nat) (s : State),
      s.up .disp = true ∧ s.disp.supply = true ∧ v < s.disp.cfg.vmin :=
  ⟨9, 100, wDisp fun d => { d with supply := true, goodChecks := 1 }, by decide +kernel⟩

theorem witness_ResetAndStartUp_resetNLow :
    ∃ (t : Ns) (s : State),
      s.mod.lowSince = none ∧ s.mod.powered = true :=
  ⟨9000, wRun, by decide +kernel⟩

theorem witness_ResetAndStartUp_resetNRelease :
    ∃ (t : Ns) (p : Straps) (low : Ns) (s : State),
      s.mod.lowSince = some low ∧ s.mod.drivenUntil = none ∧ s.mod.powered = true ∧ s.up .aon = true :=
  ⟨9000, { pairId := 0, failDirHigh := false, testMode := false }, 5, { wRun with mod := { state := .reset, lowSince := some 5 } }, by decide +kernel⟩

theorem witness_ResetAndStartUp_selftestFatal :
    ∃ (t : Ns) (x : SelfTest) (s : State),
      s.mod.state = .selftest ∧ SelfTestFatal x = true :=
  ⟨9000000, { wTest with svcSram := false }, State.reset, by decide +kernel⟩

theorem witness_ResetAndStartUp_selftestComplete :
    ∃ (t : Ns) (x : SelfTest) (s : State),
      s.mod.state = .selftest ∧ SelfTestFatal x = false ∧ x.crossings.all id = true :=
  ⟨9000000, wTest, State.reset, by decide +kernel⟩

theorem witness_ResetAndStartUp_confirmDiscard :
    ∃ (t : Ns) (org : Origin) (o : Bytes) (s : State),
      (s.begin t).Admits org opMasterConfirm [.svc] ∧ s.confirmFormat o = true ∧ mcShip o = false ∧ mcDiscard o = true ∧ s.mod.state = .waitConfirm ∧ s.mod.confirming = none ∧ s.mod.conflict = false ∧ s.role.map Role.code = some (mcRole o) ∧ s.mod.testMode = false ∧ s.prg.running = none :=
  ⟨9, .self, wr 9 0 ++ [1] ++ wr 22 0, wWait, by decide +kernel⟩

theorem witness_ResetAndStartUp_masterConfirm :
    ∃ (t : Ns) (org : Origin) (o : Bytes) (s : State),
      (s.begin t).Admits org opMasterConfirm [.svc] ∧ s.confirmFormat o = true ∧ mcShip o = false ∧ mcDiscard o = false ∧ s.mod.state = .waitConfirm ∧ s.mod.confirming = none ∧ s.mod.conflict = false ∧ s.role.map Role.code = some (mcRole o) ∧ s.mod.testMode = false ∧ mcCrc o = s.mod.loadedCrc.toNat ∧ mcSeq o = s.mod.loadedSeq.toNat ∧ s.mod.loaded = [] ∧ s.prg.param.autoRun = false ∧ (∀ g : Fin 8, s.groups[g].change = none) :=
  ⟨9, .self, wr 32 0, wWait, by decide +kernel⟩

theorem witness_ResetAndStartUp_confirmNotWaiting :
    ∃ (t : Ns) (org : Origin) (o : Bytes) (s : State),
      (s.begin t).Admits org opMasterConfirm [.svc] ∧ s.confirmFormat o = true ∧ s.mod.state ≠ .waitConfirm ∧ s.mod.confirming = none :=
  ⟨9, .self, wr 32 0, wRun, by decide +kernel⟩

theorem witness_PpsStamps_ppsKept :
    ∃ (t : Ns) (s : State),
      (s.timeBegin t).up .tim = true ∧ (∀ w, (s.timeBegin t).time.ppsWait = some w → isPartner w.org = true) :=
  ⟨900, wTime id, by decide +kernel, by decide +kernel⟩

theorem witness_PpsStamps_ppsSets :
    ∃ (t : Ns) (w : PpsWait) (s : State),
      (s.timeBegin t).up .tim = true ∧ (s.timeBegin t).time.ppsWait = some w ∧ isPartner w.org = false ∧ (s.timeBegin t).ppsLate w = false :=
  ⟨900, ⟨.self, 5000, 800⟩, wTime fun v => { v with ppsWait := some ⟨.self, 5000, 800⟩ }, by decide +kernel⟩

theorem witness_PpsStamps_ppsTooLate :
    ∃ (t : Ns) (w : PpsWait) (s : State),
      (s.timeBegin t).up .tim = true ∧ (s.timeBegin t).time.ppsWait = some w ∧ (s.timeBegin t).ppsLate w = true :=
  ⟨2000000000, ⟨.self, 5000, 800⟩, wTime fun v => { v with ppsWait := some ⟨.self, 5000, 800⟩ }, by decide +kernel⟩

theorem witness_IgnoredDoorbells_sqIgnored :
    ∃ (t : Ns) (n : Fin 8) (v : Word) (s : State),
      s.hifLive = true ∧ s.hif.sqs[n].enable = true ∧ (v.toNat / 65536 ≠ 0 ∨ 2 ^ s.hif.sqs[n].log2.toNat ≤ v.toNat % 65536 ∨ span (2 ^ s.hif.sqs[n].log2.toNat) s.hif.sqs[n].head v.toNat < span (2 ^ s.hif.sqs[n].log2.toNat) s.hif.sqs[n].head s.hif.sqs[n].tail) :=
  ⟨9, 0, 0x10000, wHost id, by decide +kernel⟩

theorem witness_IgnoredDoorbells_cqIgnored :
    ∃ (t : Ns) (n : Fin 8) (v : Word) (s : State),
      s.hifLive = true ∧ s.hif.cqs[n].enable = true ∧ (v.toNat / 65536 ≠ 0 ∨ s.hif.cqs[n].size ≤ v.toNat % 65536 ∨ span s.hif.cqs[n].size s.hif.cqs[n].head s.hif.cqs[n].tail < span s.hif.cqs[n].size s.hif.cqs[n].head v.toNat) :=
  ⟨9, 0, 3, wHost id, by decide +kernel⟩

theorem witness_IgnoredDoorbells_eqIgnored :
    ∃ (t : Ns) (v : Word) (s : State),
      s.hifLive = true ∧ s.hif.eq.enable = true ∧ (v.toNat / 65536 ≠ 0 ∨ s.hif.eq.size ≤ v.toNat % 65536 ∨ span s.hif.eq.size s.hif.eq.head s.hif.eq.tail < span s.hif.eq.size s.hif.eq.head v.toNat) :=
  ⟨9, 3, wHost id, by decide +kernel⟩

theorem witness_ImageKeys_keyWordRefused :
    ∃ (t : Ns) (k : Fin 4) (j : Fin 8) (v : Word) (s : State),
      s.svcServes = true ∧ s.lockImgKey = false ∧ s.regs.keyValid.getLsbD k.val = true :=
  ⟨9, 1, 2, 7, { wHost id with regs := { keyValid := 2 } }, by decide +kernel⟩

theorem witness_ImageKeys_keyWordWritten :
    ∃ (t : Ns) (k : Fin 4) (j : Fin 8) (v : Word) (s : State),
      s.svcServes = true ∧ s.lockImgKey = false ∧ s.regs.keyValid.getLsbD k.val = false :=
  ⟨9, 1, 2, 7, wHost id, by decide +kernel⟩

theorem witness_ImageKeys_keyDecoded :
    ∃ (t : Ns) (k : Fin 4) (v : Word) (s : State),
      s.svcServes = true ∧ s.lockImgKey = false ∧ v.getLsbD 0 = true :=
  ⟨9, 1, 1, wHost id, by decide +kernel⟩

theorem witness_DisplaySupply_passNotStarted :
    ∃ (t : Ns) (v : Nat) (s : State),
      s.up .disp = true ∧ s.mod.failAt = none ∧ s.disp.pass = none ∧ s.disp.queue ≠ [] ∧ (s.disp.supply = true ∨ v < s.disp.cfg.vmin) ∧ s.pair.forwards = [] :=
  ⟨9, 100, wDisp id, by decide +kernel⟩

theorem witness_DisplaySupply_passBroken :
    ∃ (t : Ns) (v : Nat) (p : Pass) (ph : Phase) (s : State),
      s.disp.pass = some p ∧ p.phases[p.index]? = some ph ∧ s.up .disp = true ∧ s.mod.failAt = none ∧ 95 * s.disp.cfg.phaseNs ≤ 100 * (max s.clock t - p.phaseStart) ∧ p.index + 1 < p.phases.length ∧ v < s.disp.cfg.vmin ∧ s.pair.forwards = [] :=
  ⟨4000000000, 100, wPass, { on := true, com := 0, segs := 5 }, wDisp fun d => { d with pass := some wPass }, by decide +kernel⟩

theorem witness_DisplaySupply_redriven :
    ∃ (t : Ns) (v : Nat) (c : Fin 3) (s : State),
      s.up .disp = true ∧ s.mod.failAt = none ∧ s.disp.pass = none ∧ s.disp.redriveDue = some c ∧ s.disp.supply = false ∧ s.disp.cfg.vmin ≤ v :=
  ⟨9, 240, 1, wDisp fun d => { d with redriveDue := some 1 }, by decide +kernel⟩

theorem witness_StepRunsFrontCommand_stepIdle :
    ∃ (s : State),
      s.pending = [] :=
  ⟨wRun, by decide +kernel⟩

theorem witness_CommandsKeepFootprint_frame :
    ∃ (c : Instr) (s u : State) (p : Aspect),
      exec c s = .next u ∧ p ∉ footprint c :=
  ⟨.recordsDropped 3, State.reset, (State.reset.begin 3), .chans, by rfl, by decide⟩

theorem witness_StepKeepsMemoryCanonical_memStep :
    ∃ (s u : State),
      s.MemOk ∧ step s = .next u :=
  ⟨wRun, wRun, ⟨by decide +kernel, by decide +kernel, fun i => by fin_cases i <;> exact ⟨trivial, trivial, by simp [Store.held, wRun, State.reset]⟩⟩, rfl⟩

theorem witness_RefusedDescriptors_refused :
    ∃ (c : Instr) (s : State) (arrive : State → State) (org : Origin) (op : Nat) (l : List Isl) (o : Outcome),
      request c = some (arrive, org, op, l) ∧ (arrive s).waitsBarrier org = false ∧ (arrive s).gate org op l = some o :=
  ⟨.nop 5 (.tunnel 7 1), wRun, State.begin 5, .tunnel 7 1, opNop, [], .policy stPolicyRole, rfl, by decide +kernel, by decide +kernel⟩

theorem witness_RefusedDescriptors_waits :
    ∃ (c : Instr) (s : State) (arrive : State → State) (org : Origin) (op : Nat) (l : List Isl),
      request c = some (arrive, org, op, l) ∧ (arrive s).waitsBarrier org = true :=
  ⟨.nop 5 (.host 3), { wRun with pair := { forwards := [{ id := 0, org := .host 3, desc := [], obj := [] }] } }, State.begin 5, .host 3, opNop, [], rfl, by decide +kernel⟩

/-! Every check of WellFormed refuses an ill-formed command. -/

theorem test_ill_formed_1 :
    (([.groupConfig 0 .self [],
      .charLoad 0 .self [],
      .hartRequest 0 .self [],
      .hartRequest 0 .self (List.replicate 272 0),
      .hartResponse 0 0 0 [],
      .hartResponse 0 0 0 (List.replicate 301 0),
      .hartBurst 0 0 0 [],
      .hartBurst 0 0 0 (List.replicate 301 0),
      .run 0 .self [],
      .run 0 .self (List.replicate 17 0),
      .stop 0 .self [],
      .isoEnter 0 .self [],
      .isoLeave 0 .self [],
      .programParam 0 .self [],
      .varWrite 0 .self [],
      .varWrite 0 .self (List.replicate 4113 0),
      .imageStage 0 .self (List.replicate 15 0) (List.replicate 256 0),
      .imageStage 0 .self (List.replicate 16 0) (List.replicate 255 0),
      .programSwitch 0 .self [],
      .loopConfig 0 .self [],
      .loopCommand 0 .self [],
      .overrideConfig 0 .self [],
      .tuneStart 0 .self [],
      .tuneStop 0 .self []] : List Instr).all fun c => !c.wf) = true := by decide +kernel

theorem test_ill_formed_2 :
    (([.captureRead 0 .self [],
      .axisConfig 0 .self [],
      .moveAbs 0 .self [],
      .moveRel 0 .self [],
      .runTable 0 .self [],
      .axisStop 0 .self [],
      .quickStop 0 .self [],
      .setPosition 0 .self [],
      .setLimits 0 .self [],
      .resetFault 0 .self [],
      .tableLoad 0 .self [],
      .safetyConfig 0 .self [],
      .safetyConfig 0 .self (List.replicate 4129 0),
      .safetyConfirm 0 .self [],
      .safetyContainer 0 0 [] true,
      .safetyContainer 0 0 (List.replicate 19 0) true,
      .inputImage 0 0 [],
      .inputImage 0 0 (List.replicate 19 0),
      .outputImage 0 0 [],
      .outputImage 0 0 (List.replicate 19 0),
      .tunnelRequest 0 0 [],
      .tunnelRequest 0 0 (List.replicate 19 0),
      .tunnelResponse 0 0 [],
      .tunnelResponse 0 0 (List.replicate 19 0)] : List Instr).all fun c => !c.wf) = true := by decide +kernel

theorem test_ill_formed_3 :
    (([.addressFrame 0 .a 0 [],
      .addressFrame 0 .a 0 (List.replicate 19 0),
      .ringConfig 0 .self [],
      .stationConfig 0 .self [],
      .stationConfig 0 .self (List.replicate 1057 0),
      .imageMap 0 .self [],
      .imageMap 0 .self (List.replicate 2057 0),
      .branchConfig 0 .self [],
      .branchConfig 0 .self (List.replicate 393 0),
      .nodeAddress 0 .self [],
      .pairConfig 0 .self [],
      .handover 0 .self [],
      .drill 0 .self [],
      .releaseShadow 0 .self [],
      .clearRevertLimit 0 .self [],
      .heartbeat 0 .a 0 [],
      .heartbeat 0 .a 0 (List.replicate 19 0),
      .grantRequest 0 0 [],
      .grantRequest 0 0 (List.replicate 19 0),
      .grant 0 0 [],
      .grant 0 0 (List.replicate 19 0),
      .deny 0 0 [],
      .deny 0 0 (List.replicate 19 0),
      .relinquish 0 0 []] : List Instr).all fun c => !c.wf) = true := by decide +kernel

theorem test_ill_formed_4 :
    (([.relinquish 0 0 (List.replicate 19 0),
      .shipTimeSet 0 .self [],
      .shipTimeSlew 0 .self [],
      .timeConfig 0 .self [],
      .descriptorFetch 0 (some (List.replicate 63 0)) none,
      .eventPost 0 1 0 (List.replicate 13 0),
      .stateRead 0 .self [],
      .unsupportedRequest 0 6 0 4,
      .registerWrite 0 2 0,
      .registerWrite 0 65536 0,
      .domainPower 0 .self [],
      .recRead 0 .self [] 2048,
      .saveRetained 0 .self [],
      .saveConfig 0 .self [],
      .clearRetained 0 .self [],
      .factoryConfig 0 .self [],
      .dispConfig 0 .self [],
      .dispRegion 0 .self [],
      .dispUpdate 0 .self [],
      .dispBlink 0 .self [],
      .masterConfirm 0 .self [],
      .islandReset 0 .self [],
      .fwStage 0 .self (List.replicate 15 0) (List.replicate 256 0),
      .fwStage 0 .self (List.replicate 16 0) (List.replicate 255 0)] : List Instr).all fun c => !c.wf) = true := by decide +kernel

theorem test_ill_formed_5 :
    (([.fwActivate 0 .self [],
      .ringIdWrite 0 2 0,
      .ringIdWrite 0 65536 0] : List Instr).all fun c => !c.wf) = true := by decide +kernel

theorem test_well_formed_inline : (Instr.run 0 .self (List.replicate 16 0)).wf = true := by decide

/-! Values worked out from the rules or from catalogues of check values. -/

/-- No row of the table has bits. -/
theorem test_no_word_spells_a_command : decodeTableWord 32 0xFFFFFFFF = none := rfl
/-- The catalogue's check value of CRC-32C over the digits 1 to 9. -/
theorem test_crc32c_check : crc32c [0x31, 0x32, 0x33, 0x34, 0x35, 0x36, 0x37, 0x38, 0x39] = 0xE3069283 := by decide +kernel
/-- The catalogue's check value of the CRC-8 with polynomial 0x2F over the same digits. -/
theorem test_crc8_check : crc8 72 0x313233343536373839 = 0xDF := by decide +kernel
/-- R435: ISLAND_ERROR(CTL, ERR_STALLED), with the island index of R37. -/
theorem test_island_error_code : stIsland .ctl .stalled = 0x0F03 := by decide
/-- R128: the word 0x6D61_6464 from the lowest address. -/
theorem test_madder_fill :
    (List.range 4).map (Memory.read State.reset.prg.data.mem) = [0x64, 0x64, 0x61, 0x6D] := by decide +kernel
/-- A waiting command runs and leaves the queue (R565). -/
theorem test_step_takes_front :
    (match step { wHost id with pending := [.joinInhibitWrite 5 1, .nop 5 .self] } with
      | .next u => (u.regs.joinInhibit, u.pending.length)
      | _ => (false, 0)) = (true, 1) := by decide +kernel
/-- R551: a lock written 0 stays set. -/
theorem test_mordant_keeps_bits :
    (match execMordantWrite 5 1 { wHost id with regs := { mordant := Tmr.of 3 } } with
      | .next u => u.mordant
      | _ => 0) = 3 := by decide +kernel
/-- R71: a cell is silent 200 µs after its last accepted frame and not 1 ns before. -/
theorem test_silence_time :
    ([199999, 200000].map fun t => match execSilentEntry t 3 (wCell fun c => { c with silent := false }) with
      | .next u => u.cells[3].silent
      | _ => false) = [false, true] := by decide +kernel
/-- R419 and R420: tail 15 of 16 is taken, 16 is not. -/
theorem test_doorbell_bound :
    ([15, 16].map fun v => match execSqTailDoorbell 5 0 v (wHost id) with
      | .next u => (u.hif.sqs[0].tail, u.hif.err)
      | _ => (0, 0)) = [(15, 0), (0, 1)] := by decide +kernel

end Sys2Proof.Machine
end

section
/-! Register writes of the host, SVC and the service UART (obligation Registers): bits of a word, votes of copies, what records
leave of the registers, then one lemma per kind of write. -/

namespace Sys2Proof.Machine

/-! ### Single bits and voted copies (R548) -/

/-- Writing one bit changes that bit and no other. -/
theorem getLsbD_putBit {w : Nat} (x : BitVec w) {i : Nat} (hi : i < w) (v : Bool) (j : Nat) :
    (putBit x i v).getLsbD j = if j = i then v else x.getLsbD j := by
  rcases eq_or_ne j i with rfl | hne
  · cases v <;> simp [putBit, hi]
  · cases v
    · by_cases hj : j < w
      · simp [putBit, hj, hne]
      · simp [putBit, hj, hne, BitVec.getLsbD_of_ge x j (by omega)]
    · simp [putBit, hne, hne.symm]

/-- Three equal copies vote, field by field, for the word they hold. -/
theorem Tmr.vote_of (fields : List Word) (w : Word) : (Tmr.of w).vote fields = w &&& fields.foldl (· ||| ·) 0 := by
  have hfold : ∀ (l : List Word) (a : Word), l.foldl (fun x m => x ||| (Tmr.of w).field m) (w &&& a) =
      w &&& l.foldl (· ||| ·) a := by
    intro l
    induction l with
    | nil => intro a; rfl
    | cons m l ih =>
      intro a
      have hm : (w &&& a) ||| (Tmr.of w).field m = w &&& (a ||| m) := by
        ext i; simp [Tmr.field, Tmr.of, Bool.and_or_distrib_left]
      rw [List.foldl_cons, List.foldl_cons, hm, ih]
  simpa [Tmr.vote] using hfold fields 0

/-- A vote sets no bit outside a mask that covers every field. -/
theorem Tmr.vote_and_mask (r : Tmr) {mask : Word} {fields : List Word} (hf : ∀ m ∈ fields, m &&& mask = m) :
    r.vote fields &&& mask = r.vote fields := by
  have hfield : ∀ m, m &&& mask = m → r.field m &&& mask = r.field m := by
    intro m hm
    have hand : ∀ c : Word, (c &&& m) &&& mask = c &&& m := fun c => by rw [BitVec.and_assoc, hm]
    unfold Tmr.field
    split_ifs <;> exact hand _
  have hfold : ∀ (l : List Word) (a : Word), (∀ m ∈ l, m &&& mask = m) → a &&& mask = a →
      l.foldl (fun x m => x ||| r.field m) a &&& mask = l.foldl (fun x m => x ||| r.field m) a := by
    intro l
    induction l with
    | nil => exact fun a _ ha => ha
    | cons m l ih =>
      intro a hl ha
      refine ih _ (fun n hn => hl n (List.mem_cons_of_mem _ hn)) ?_
      rw [BitVec.and_or_distrib_right]
      exact congrArg₂ _ ha (hfield m (hl m List.mem_cons_self))
  exact hfold fields 0 hf (by simp)

/-! ### What the start of a command, records and errors leave alone -/

@[simp] theorem State.begin_up (s : State) (t : Ns) (i : Isl) : (s.begin t).up i = s.up i := rfl
@[simp] theorem State.begin_barOpen (s : State) (t : Ns) : (s.begin t).barOpen = s.barOpen := rfl
@[simp] theorem State.begin_hifLive (s : State) (t : Ns) : (s.begin t).hifLive = s.hifLive := rfl
@[simp] theorem State.begin_svcServes (s : State) (t : Ns) : (s.begin t).svcServes = s.svcServes := rfl
@[simp] theorem State.begin_mordant (s : State) (t : Ns) : (s.begin t).mordant = s.mordant := rfl
@[simp] theorem State.begin_lockSafeEn (s : State) (t : Ns) : (s.begin t).lockSafeEn = s.lockSafeEn := rfl
@[simp] theorem State.begin_mayEnable (s : State) (t : Ns) (g : Fin 8) : (s.begin t).mayEnable g = s.mayEnable g := rfl

/-- Records of a selection of items change no register. -/
@[simp] theorem State.foldl_record_regs (s : State) (l : List Nat) (p : Nat → Prop) [DecidablePred p] (src : Isl)
    (kind : RecKind) (items : Nat → List Int) :
    (l.foldl (fun s i => if p i then s.record src kind (items i) else s) s).regs = s.regs :=
  (Keep.foldl (m := 536870928) (fun s i => Keep.ite (fun _ => State.record_keep src kind (items i) s)
    fun _ => Keep.refl _ s) l s).same .regs (by decide)

@[simp] theorem State.testCtlFound_regs (s : State) : s.testCtlFound.regs = s.regs :=
  (State.testCtlFound_keep s).same .regs (by decide)

@[simp] theorem State.modError_regs (bit offset : Nat) (s : State) : (s.modError bit offset).regs =
    { s.regs with modErr := putBit s.regs.modErr bit true, lastOffset := BitVec.ofNat 16 offset } := rfl

/-! ### REGISTER_WRITE (R539, R540) -/

/-- Where BAR0 answers, a write to the host interface block is that block's. -/
theorem execRegisterWrite_hifBlock (t : Ns) {off : Nat} (v : Word) {s : State} (hb : s.barOpen = true) (hlo : 0x1000 ≤ off)
    (hhi : off < 0x1400) : execRegisterWrite t off v s = .next ((s.begin t).hifWrite (off - 0x1000) v) := by
  simp [execRegisterWrite, hb, hlo, hhi]

/-- The MASK word of an MSI-X entry reaches the entry, whether SVC serves or not. -/
theorem execRegisterWrite_msixMask (t : Ns) (k : Fin 16) (v : Word) {s : State} (hb : s.barOpen = true) :
    execRegisterWrite t (0xF00C + 16 * k.val) v s = .next ((s.begin t).msixWrite k 12 v) := by
  have hk := k.isLt
  have hidx : Fin.ofNat 16 ((0xF00C + 16 * k.val - 0xF000) / 16) = k := by
    ext; simp only [Fin.val_ofNat]; omega
  have hsub : (0xF00C + 16 * k.val) % 16 = 12 := by omega
  simp only [execRegisterWrite, State.begin_barOpen, hb, hidx, hsub]
  rw [if_neg (by simp), if_neg (by simp; omega), if_neg (by simp; omega), if_neg (by simp; omega), if_neg (by omega),
    if_neg (by omega), if_pos (by simp; omega)]

/-- MOD_ERR clears the bits written 1 (W1C in its register table). -/
theorem registerWrite_modErr (t : Ns) (v : Word) (s : State) (hb : s.barOpen = true) (hsvc : s.up .svc = true) :
    Completes (.registerWrite t 0x118 v) s fun u =>
      u = { s.begin t with regs := { s.regs with modErr := s.regs.modErr &&& ~~~ v.setWidth 4 } } := by
  refine ⟨_, ?_, rfl⟩
  simp [exec_registerWrite, execRegisterWrite, hb, hsvc, State.updRegs]

/-- HIF_QUEUE_ERR clears the bits written 1, also while the queues are not ready (R561). -/
theorem registerWrite_hifQueueErr (t : Ns) (v : Word) (s : State) (hb : s.barOpen = true) :
    Completes (.registerWrite t 0x1008 v) s fun u =>
      u = { s.begin t with hif := { s.hif with err := s.hif.err &&& ~~~ v.setWidth 5 } } :=
  ⟨_, execRegisterWrite_hifBlock t v hb (by decide) (by decide), rfl⟩

/-- A pending vector that is unmasked is neither masked nor pending any more, and its message goes out. -/
theorem State.msixWrite_unmask {s : State} {k : Fin 16} {v : Word} (hp : s.hif.msix[k].pending = true)
    (hv : v.getLsbD 0 = false) : s.msixWrite k 12 v = (s.updHif fun h => { h with
      msix := h.msix.set k { s.hif.msix[k] with masked := false, pending := false } }).emit (.msix k) := by
  simp only [State.msixWrite, State.updHif, hp, hv]
  rfl

/-- Unmasking a pending vector sends its message and ends its pending state (log 64). -/
theorem registerWrite_unmask (t : Ns) (k : Fin 16) (v : Word) (s : State) (hb : s.barOpen = true)
    (hp : s.hif.msix[k].pending = true) (hv : v.getLsbD 0 = false) :
    Completes (.registerWrite t (0xF00C + 16 * k.val) v) s fun u =>
      u.out = [.msix k] ∧ u.hif.msix[k] = { s.hif.msix[k] with masked := false, pending := false } ∧
      ∀ j : Fin 16, j ≠ k → u.hif.msix[j] = s.hif.msix[j] := by
  refine ⟨_, execRegisterWrite_msixMask t k v hb, ?_⟩
  rw [State.msixWrite_unmask (s := s.begin t) hp hv]
  refine ⟨rfl, by simp, fun j hj => ?_⟩
  have hkj : k.val ≠ j.val := fun h => hj (Fin.ext h.symm)
  simp [hkj]

/-- An update that gives an SQ back as it is changes nothing. -/
theorem Hif.updSq_of_eq {n : Fin 8} {f : Sq → Sq} {h : Hif} (hf : f h.sqs[n] = h.sqs[n]) : h.updSq n f = h := by
  rw [Hif.updSq, hf]
  simp

/-- The base of an enabled SQ ignores the write (R421, R560). -/
theorem registerWrite_sqBase (t : Ns) (n : Fin 8) (v : Word) (s : State) (hl : s.hifLive = true)
    (he : s.hif.sqs[n].enable = true) : Completes (.registerWrite t (0x1100 + 32 * n.val) v) s fun u => u = s.begin t := by
  have hn := n.isLt
  have hb : s.barOpen = true := by
    simp only [State.hifLive, Bool.and_eq_true] at hl
    exact hl.1
  refine ⟨_, execRegisterWrite_hifBlock t v hb (by omega) (by omega), ?_⟩
  have hoff : 0x1100 + 32 * n.val - 0x1000 = 0x100 + 32 * n.val := by omega
  have hidx : Fin.ofNat 8 ((0x100 + 32 * n.val - 0x100) / 32) = n := by
    ext; simp only [Fin.val_ofNat]; omega
  have hkeep : s.hif.updSq n (Sq.setUp ((0x100 + 32 * n.val) % 32) v) = s.hif :=
    Hif.updSq_of_eq (by simp only [Sq.setUp, he, if_true])
  simp only [State.hifWrite, State.begin_hifLive, hl, hoff, hidx]
  rw [if_neg (by omega), if_neg (by simp), if_pos (by simp; omega)]
  simp only [State.updHif, State.begin_hif, hkeep]
  rfl

/-- Below MOD_ERR every word is read-only, is unassigned or has a row of its own, and the write is ignored (R539, log 78). -/
theorem registerWrite_readOnly (t : Ns) (off : Nat) (v : Word) (s : State) (ho : off < 0x118) :
    Completes (.registerWrite t off v) s fun u => u = s.begin t := by
  have hle : ∀ b, 0x118 ≤ b → ¬ b ≤ off := fun b hb => by omega
  have hne : ∀ b, 0x118 ≤ b → off ≠ b := fun b hb => by omega
  refine ⟨_, ?_, rfl⟩
  simp [exec_registerWrite, execRegisterWrite, hle, hne]

/-! ### The locks (R551) -/

/-- MORDANT stores the old bits and those written 1, and no other register changes. -/
theorem execMordantWrite_regs (t : Ns) (v : Word) {s : State} (hs : s.svcServes = true) :
    ∃ u, execMordantWrite t v s = .next u ∧ u.regs = { s.regs with mordant := Tmr.of (s.mordant ||| (v &&& 0x1F)) } :=
  ⟨_, if_neg (by simp [hs]), by simp⟩

/-- MORDANT holds nothing outside its five bits. -/
theorem State.mordant_and (s : State) : s.mordant &&& 0x1F = s.mordant :=
  Tmr.vote_and_mask s.regs.mordant (fields := mordantFields) (by simp [mordantFields])

/-- MORDANT reads back the word that three copies within its five bits hold. -/
theorem Tmr.vote_mordant (w : Word) : (Tmr.of w).vote mordantFields = w &&& 0x1F :=
  (Tmr.vote_of mordantFields w).trans (congrArg (w &&& ·) (by decide))

/-- MORDANT sets the bits written 1 and clears none. -/
theorem mordantWrite_sets (t : Ns) (v : Word) (s : State) (hs : s.svcServes = true) :
    Completes (.mordantWrite t v) s fun u =>
      u.mordant = s.mordant ||| (v &&& 0x1F) ∧ u.regs = { s.regs with mordant := Tmr.of u.mordant } := by
  obtain ⟨u, hu, hregs⟩ := execMordantWrite_regs t v hs
  have hm : u.mordant = s.mordant ||| (v &&& 0x1F) := by
    rw [State.mordant, hregs, Tmr.vote_mordant, BitVec.and_or_distrib_right, s.mordant_and, BitVec.and_assoc,
      BitVec.and_self]
  exact ⟨u, hu, hm, by rw [hregs, hm]⟩

/-! ### SAFE_EN (R545, R552, R554) -/

/-- GROUP_EN reads back the low byte of the word that its three copies hold. -/
theorem Tmr.vote_groupEn (w : Word) : (Tmr.of w).vote groupEnFields = w &&& 0xFF :=
  (Tmr.vote_of groupEnFields w).trans (congrArg (w &&& ·) (by decide))

/-- Bits written one after another where a group may change: a listed group that may takes its bit of the value. -/
theorem getLsbD_foldl_putBit (may : Fin 8 → Bool) (v : Word) (j : Fin 8) (l : List (Fin 8)) (w : Word) :
    (l.foldl (fun w (g : Fin 8) => if may g = true then putBit w g.val (v.getLsbD g.val) else w) w).getLsbD j.val =
      if j ∈ l ∧ may j = true then v.getLsbD j.val else w.getLsbD j.val := by
  induction l generalizing w with
  | nil => simp
  | cons g l ih =>
    rw [List.foldl_cons, ih]
    by_cases hm : may g = true
    · rw [if_pos hm, getLsbD_putBit w (by omega)]
      rcases eq_or_ne j g with rfl | hne
      · simp [hm]
      · simp [hne, Fin.val_ne_of_ne hne]
    · rcases eq_or_ne j g with rfl | hne
      · simp [hm]
      · simp [hm, hne]

/-- GROUP_EN takes the bits of the groups that may change; the test controls stay. -/
theorem State.writeGroupEn_regs (v : Word) (s : State) :
    (s.writeGroupEn v).regs.groupEn = Tmr.of ((List.finRange 8).foldl (fun w (g : Fin 8) =>
      if s.mayEnable g = true then putBit w g.val (v.getLsbD g.val) else w) (s.regs.groupEn.vote groupEnFields)) ∧
    (s.writeGroupEn v).regs.testCtl = s.regs.testCtl := by
  simp only [State.writeGroupEn]
  split_ifs <;> exact ⟨rfl, rfl⟩

/-- A group that may change takes its bit of the value, every other keeps its own. -/
theorem State.writeGroupEn_safetyGroup (v : Word) (s : State) (g : Fin 8) :
    (s.writeGroupEn v).safetyGroup g = if s.mayEnable g = true then v.getLsbD g.val else s.safetyGroup g := by
  have hbit : (0xFF : Word).getLsbD g.val = true := by revert g; decide
  rw [State.safetyGroup, (s.writeGroupEn_regs v).1, Tmr.vote_groupEn, BitVec.getLsbD_and, hbit, Bool.and_true,
    getLsbD_foldl_putBit]
  simp only [List.mem_finRange, true_and]
  rfl

/-- With no test control set there is none to clear. -/
theorem State.clearByWrite_of_zero (v : Word) {s : State} (h : s.regs.testCtl = 0) : s.clearByWrite v = s := by
  simp [State.clearByWrite, h]

/-- A group may change exactly while it has no configuration and none on its way. -/
theorem State.mayEnable_iff (s : State) (g : Fin 8) :
    s.mayEnable g = true ↔ s.groups[g].cfg = none ∧ s.groups[g].change = none := by
  simp [State.mayEnable]

/-- SAFE_EN changes the groups without a configuration and no other. -/
theorem safeEnWrite_groups (t : Ns) (v : Word) (s : State) (hs : s.svcServes = true) (hlock : s.lockSafeEn = false)
    (htc : s.regs.testCtl = 0) : Completes (.safeEnWrite t v) s fun u =>
      (∀ g : Fin 8, u.safetyGroup g =
        if s.groups[g].cfg = none ∧ s.groups[g].change = none then v.getLsbD g.val else s.safetyGroup g) ∧
      u.regs.testCtl = 0 ∧ u.groups = s.groups ∧ u.chans = s.chans := by
  have htc' : ((s.begin t).writeGroupEn v).regs.testCtl = 0 := ((s.begin t).writeGroupEn_regs v).2.trans htc
  have hkeep := State.writeGroupEn_keep v (s.begin t)
  refine ⟨(s.begin t).writeGroupEn v, ?_, fun g => ?_, htc', hkeep.same .groups (by decide), hkeep.same .chans (by decide)⟩
  · simp [exec_safeEnWrite, execSafeEnWrite, hs, hlock, State.clearByWrite_of_zero v htc']
  · simp only [State.writeGroupEn_safetyGroup, State.begin_mayEnable, State.mayEnable_iff]
    rfl

/-- Under its lock SAFE_EN changes nothing but the error of a locked write (R552). -/
theorem safeEnWrite_locked (t : Ns) (v : Word) (s : State) (hs : s.svcServes = true) (hlock : s.lockSafeEn = true) :
    Completes (.safeEnWrite t v) s fun u =>
      u.regs = { s.regs with modErr := u.regs.modErr, lastOffset := 0x114 } ∧
      u.regs.modErr.getLsbD meLockedWrite = true := by
  refine ⟨(s.begin t).modError meLockedWrite 0x114, ?_, rfl, ?_⟩
  · simp [exec_safeEnWrite, execSafeEnWrite, hs, hlock]
  · rw [State.modError_regs, getLsbD_putBit _ (by decide), if_pos rfl]

/-! ### Test controls (R553 to R557, R571) -/

/-- TEST_CLR clears the test controls written 1 and changes no other register. -/
theorem testClrWrite_clears (t : Ns) (v : Word) (s : State) (hs : s.svcServes = true) :
    Completes (.testClrWrite t v) s fun u =>
      u.regs = { s.regs with testCtl := s.regs.testCtl &&& ~~~ BitVec.ofNat 24 (v.toNat / 256) } := by
  have hclear : ∀ x m : BitVec 24, x &&& ~~~ (x &&& m) = x &&& ~~~ m := by
    intro x m
    ext i
    cases hx : x[i] <;> simp [hx]
  by_cases hhit : s.regs.testCtl &&& BitVec.ofNat 24 (v.toNat / 256) = 0
  · refine ⟨s.begin t, ?_, ?_⟩
    · simp [exec_testClrWrite, execTestClrWrite, hhit]
    · have hsame : s.regs.testCtl &&& ~~~ BitVec.ofNat 24 (v.toNat / 256) = s.regs.testCtl := by
        rw [← hclear, hhit]
        exact BitVec.and_allOnes
      rw [hsame]; rfl
  · have hgo : ¬(!s.svcServes || decide (s.regs.testCtl &&& BitVec.ofNat 24 (v.toNat / 256) = 0)) = true := by
      simpa [hs] using hhit
    refine ⟨_, if_neg hgo, ?_⟩
    simp [hclear]

/-- The place of a test control is one of SAFE_EN [31:8]. -/
theorem testCtlBase_add_lt (c : TestCtl) (g : Fin 8) : testCtlBase c + g.val < 24 := by
  cases c <;> simp only [testCtlBase] <;> omega

/-- The service UART sets or clears one test control in test mode and no other. -/
theorem serviceUartTestControl_sets (t : Ns) (g : Fin 8) (c : TestCtl) (set : Bool) (s : State)
    (hm : s.mod.testMode = true) (hsvc : s.up .svc = true) : Completes (.serviceUartTestControl t g c set) s fun u =>
      u.regs = { s.regs with testCtl := u.regs.testCtl } ∧ u.regs.testCtl.getLsbD (testCtlBase c + g.val) = set ∧
      ∀ i : Fin 24, i.val ≠ testCtlBase c + g.val → u.regs.testCtl.getLsbD i.val = s.regs.testCtl.getLsbD i.val := by
  by_cases hset : s.regs.testCtl.getLsbD (testCtlBase c + g.val) = set
  · refine ⟨s.begin t, ?_, rfl, hset, fun _ _ => rfl⟩
    simp [exec_serviceUartTestControl, execServiceUartTestControl, hset]
  · refine ⟨_, if_neg (by simpa [hm, hsvc] using hset), ?_⟩
    have hput := getLsbD_putBit s.regs.testCtl (testCtlBase_add_lt c g) set
    refine ⟨by simp, ?_, fun i hi => ?_⟩
    · simpa using hput (testCtlBase c + g.val)
    · simpa [hi] using hput i.val

/-! ### JOIN_INHIBIT (R565) -/

/-- JOIN_INHIBIT takes bit 0 of the value. -/
theorem joinInhibitWrite_takes (t : Ns) (v : Word) (s : State) (hs : s.svcServes = true) :
    Completes (.joinInhibitWrite t v) s fun u =>
      u = { s.begin t with regs := { s.regs with joinInhibit := v.getLsbD 0 } } :=
  ⟨_, if_pos hs, rfl⟩

/-! ### The obligation -/

/-- Settles O40: each kind of write has its lemma above. -/
theorem registers : Obligations.Registers :=
  ⟨registerWrite_modErr, registerWrite_hifQueueErr, registerWrite_unmask, registerWrite_sqBase, registerWrite_readOnly,
    mordantWrite_sets, safeEnWrite_groups, safeEnWrite_locked, testClrWrite_clears, serviceUartTestControl_sets,
    joinInhibitWrite_takes⟩

end Sys2Proof.Machine
end

section
/-! What the operations that many commands share leave alone, field by field, and folds over the members of a table: the layer that
the proofs of this family use. -/

namespace Sys2Proof.Machine

/-! ### Folds over the members of a table -/

/-- What every update keeps, the updates of all members keep. -/
theorem forAll_induction {n : Nat} {F : Fin n → State → State} {P : State → Prop} (h : ∀ i s, P s → P (F i s)) {s : State}
    (hs : P s) : P (forAll n F s) :=
  List.foldlRecOn (List.finRange n) _ hs fun b hb i _ => h i b hb

/-- One member's update takes `P` to `Q`; the updates before it keep `P`, those after it keep `Q`. -/
theorem forAll_at {n : Nat} {F : Fin n → State → State} {P Q : State → Prop} (k : Fin n) {s : State}
    (hP : ∀ i, i ≠ k → ∀ t, P t → P (F i t)) (hk : ∀ t, P t → Q (F k t)) (hQ : ∀ i, i ≠ k → ∀ t, Q t → Q (F i t))
    (hs : P s) :
    Q (forAll n F s) := by
  obtain ⟨before, after, hsplit⟩ := List.append_of_mem (List.mem_finRange k)
  have hnodup := List.nodup_finRange n
  rw [hsplit, List.nodup_middle, List.nodup_cons, List.mem_append, not_or] at hnodup
  obtain ⟨⟨hbefore, hafter⟩, -⟩ := hnodup
  have hne : ∀ {l : List (Fin n)}, k ∉ l → ∀ i ∈ l, i ≠ k := fun hl i hi e => hl (e ▸ hi)
  rw [forAll, hsplit, List.foldl_append, List.foldl_cons]
  refine List.foldlRecOn after _ ?_ fun t ht i hi => hQ i (hne hafter i hi) t ht
  exact hk _ (List.foldlRecOn before _ hs fun t ht i hi => hP i (hne hbefore i hi) t ht)

/-! ### The start of a command -/

@[simp] theorem State.begin_now (s : State) (t : Ns) : (s.begin t).now = ((max s.clock t : Nat) : Int) + s.time.ringOff := rfl
@[simp] theorem State.begin_islandCode (s : State) (t : Ns) (i : Isl) : (s.begin t).islandCode i = s.islandCode i := rfl
@[simp] theorem State.begin_isPair (s : State) (t : Ns) : (s.begin t).isPair = s.isPair := rfl
@[simp] theorem State.begin_role (s : State) (t : Ns) : (s.begin t).role = s.role := rfl
@[simp] theorem State.begin_node (s : State) (t : Ns) : (s.begin t).node = s.node := rfl
@[simp] theorem State.begin_owner (s : State) (t : Ns) (ch : Fin 128) : (s.begin t).owner ch = s.owner ch := rfl
@[simp] theorem State.begin_port (s : State) (t : Ns) (p : Port) : (s.begin t).port p = s.port p := rfl
@[simp] theorem State.begin_testPossible (s : State) (t : Ns) : (s.begin t).testPossible = s.testPossible := rfl

/-- A deadline that the start of a command reaches is not ahead of it. -/
theorem State.begin_reached {s : State} {t d : Ns} (h : d ≤ max s.clock t) : decide ((s.begin t).clock < d) = false :=
  decide_eq_false h.not_gt

/-- An expiry with no frame in reception acts at once. -/
theorem State.deferOr_nil (w : Timeout) (d : Ns) (act : State → State) (s : State) : s.deferOr w d [] act = act s := by
  simp [State.deferOr]

/-! ### Records -/

section
variable (src : Isl) (kind : RecKind) (items : List Int) (s : State)

/-- A record changes the recorder and the drop counters of the islands. -/
theorem State.record_eq : ∃ r i, s.record src kind items = { s with recorder := r, islands := i } := by
  unfold State.record State.submitAs
  dsimp only
  split <;> exact ⟨_, _, rfl⟩

@[simp] theorem State.record_clock : (s.record src kind items).clock = s.clock := by
  obtain ⟨r, i, h⟩ := s.record_eq src kind items; rw [h]
@[simp] theorem State.record_out : (s.record src kind items).out = s.out := by
  obtain ⟨r, i, h⟩ := s.record_eq src kind items; rw [h]
@[simp] theorem State.record_free : (s.record src kind items).free = s.free := by
  obtain ⟨r, i, h⟩ := s.record_eq src kind items; rw [h]
@[simp] theorem State.record_tickAt : (s.record src kind items).tickAt = s.tickAt := (s.record_keep src kind items).same .tickAt (by decide)
@[simp] theorem State.record_cells : (s.record src kind items).cells = s.cells := (s.record_keep src kind items).same .cells (by decide)
@[simp] theorem State.record_gfes : (s.record src kind items).gfes = s.gfes := (s.record_keep src kind items).same .gfes (by decide)
@[simp] theorem State.record_chans : (s.record src kind items).chans = s.chans := (s.record_keep src kind items).same .chans (by decide)
@[simp] theorem State.record_groups : (s.record src kind items).groups = s.groups :=
  (s.record_keep src kind items).same .groups (by decide)
@[simp] theorem State.record_crossings : (s.record src kind items).crossings = s.crossings :=
  (s.record_keep src kind items).same .crossings (by decide)
@[simp] theorem State.record_prg : (s.record src kind items).prg = s.prg := (s.record_keep src kind items).same .prg (by decide)
@[simp] theorem State.record_saf : (s.record src kind items).saf = s.saf := (s.record_keep src kind items).same .saf (by decide)
@[simp] theorem State.record_ring : (s.record src kind items).ring = s.ring := (s.record_keep src kind items).same .ring (by decide)
@[simp] theorem State.record_pair : (s.record src kind items).pair = s.pair := (s.record_keep src kind items).same .pair (by decide)
@[simp] theorem State.record_time : (s.record src kind items).time = s.time := (s.record_keep src kind items).same .time (by decide)
@[simp] theorem State.record_hif : (s.record src kind items).hif = s.hif := (s.record_keep src kind items).same .hif (by decide)
@[simp] theorem State.record_regs : (s.record src kind items).regs = s.regs := (s.record_keep src kind items).same .regs (by decide)
@[simp] theorem State.record_mb : (s.record src kind items).mb = s.mb := (s.record_keep src kind items).same .mb (by decide)
@[simp] theorem State.record_stores : (s.record src kind items).stores = s.stores :=
  (s.record_keep src kind items).same .stores (by decide)
@[simp] theorem State.record_mod : (s.record src kind items).mod = s.mod := (s.record_keep src kind items).same .mod (by decide)
end

/-- A record counts at most a drop of its island, which stays in its state. -/
@[simp] theorem State.record_up (src : Isl) (kind : RecKind) (items : List Int) (i : Isl) (s : State) :
    (s.record src kind items).up i = s.up i := by
  unfold State.record State.submitAs
  dsimp only
  split
  · rfl
  · rw [State.up, State.up, State.island, State.island, State.updIsland]
    rcases eq_or_ne src.idx i.idx with hsame | hother
    · simp [← hsame, State.updRec]
    · have hval : src.idx.val ≠ i.idx.val := fun e => hother (Fin.ext e)
      simp [hval, State.updRec]

/-! ### Channels -/

theorem State.updChan_same (i : Fin 128) (f : Chan → Chan) (s : State) : (s.updChan i f).chans[i] = f s.chans[i] := by
  simp [State.updChan]

theorem State.updChan_ne {i k : Fin 128} (h : k ≠ i) (f : Chan → Chan) (s : State) : (s.updChan i f).chans[k] = s.chans[k] := by
  have hv : i.val ≠ k.val := fun e => h (Fin.ext e.symm)
  simp [State.updChan, hv]

/-- A diagnosis bit of a channel stands in its diagnosis and, where it sets, in the latch of it. -/
theorem State.putDiag_chans (ch : Fin 128) (d : Diag) (v : Bool) (s : State) : (s.putDiag ch d v).chans =
    (s.updChan ch fun c =>
      { c with diag := putBit c.diag d.bit v, diagLatch := if v then putBit c.diagLatch d.bit true else c.diagLatch }).chans := by
  unfold State.putDiag
  dsimp only
  split
  · rw [State.record_chans]
  · rfl

/-! ### Operations that only send after what was sent before -/

/-- From `s` to `t` the clock and the counter of free values stand still, and what was sent stays in front. -/
structure Sends (s t : State) : Prop where
  clock : t.clock = s.clock
  free : t.free = s.free
  out : s.out <+: t.out

namespace Sends

theorem refl (s : State) : Sends s s := ⟨rfl, rfl, List.prefix_rfl⟩

theorem trans {s t u : State} (h : Sends s t) (k : Sends t u) : Sends s u :=
  ⟨k.clock.trans h.clock, k.free.trans h.free, h.out.trans k.out⟩

theorem ite {s t u : State} {c : Prop} [Decidable c] (h : Sends s t) (k : Sends s u) : Sends s (if c then t else u) := by
  split
  · exact h
  · exact k

/-- Operations on every member of a list. -/
theorem foldl {α : Type} {f : State → α → State} (h : ∀ s x, Sends s (f s x)) (l : List α) (s : State) : Sends s (l.foldl f s) :=
  List.foldlRecOn l f (refl s) fun _ hb x _ => hb.trans (h _ x)

/-- An operation that sends nothing. -/
theorem of_eq {s t : State} (hc : t.clock = s.clock) (hf : t.free = s.free) (ho : t.out = s.out) : Sends s t :=
  ⟨hc, hf, ho ▸ List.prefix_rfl⟩

end Sends

section
variable (s : State)

theorem State.emit_sends (e : Emission) : Sends s (s.emit e) := ⟨rfl, rfl, List.prefix_append _ _⟩
theorem State.updHif_sends (f : Hif → Hif) : Sends s (s.updHif f) := .of_eq rfl rfl rfl
theorem State.updMod_sends (f : Module → Module) : Sends s (s.updMod f) := .of_eq rfl rfl rfl
theorem State.updPair_sends (f : Pair → Pair) : Sends s (s.updPair f) := .of_eq rfl rfl rfl
theorem State.updRing_sends (f : Ring → Ring) : Sends s (s.updRing f) := .of_eq rfl rfl rfl
theorem State.updRec_sends (f : Recorder → Recorder) : Sends s (s.updRec f) := .of_eq rfl rfl rfl

theorem State.record_sends (src : Isl) (kind : RecKind) (items : List Int) : Sends s (s.record src kind items) :=
  .of_eq (State.record_clock _ _ _ _) (State.record_free _ _ _ _) (State.record_out _ _ _ _)

theorem State.signal_sends (v : Fin 16) : Sends s (s.signal v) := by
  unfold State.signal
  split
  · exact s.updHif_sends _
  · exact s.emit_sends _

theorem State.signalEq_sends : Sends s s.signalEq := by
  unfold State.signalEq
  split
  · exact (s.updHif_sends _).trans (State.signal_sends _ _)
  · exact .refl s

theorem State.writeEvent_sends (e : Event) : Sends s (s.writeEvent e) :=
  ((s.emit_sends _).trans (State.updHif_sends _ _)).trans (State.signalEq_sends _)

theorem State.postEventAt_sends (stamp : Int) (type : BitVec 16) (inst : Nat) (data : Bytes) :
    Sends s (s.postEventAt stamp type inst data) := by
  unfold State.postEventAt
  dsimp only
  split
  · exact (s.updHif_sends _).trans (State.writeEvent_sends _ _)
  · exact (s.updHif_sends _).trans (State.updHif_sends _ _)

theorem State.postEvent_sends (type : BitVec 16) (inst : Nat) (data : Bytes) : Sends s (s.postEvent type inst data) :=
  s.postEventAt_sends _ _ _ _

theorem State.settleHealth_sends : Sends s s.settleHealth := by
  unfold State.settleHealth
  dsimp only
  split
  · exact .refl s
  · exact ((s.updMod_sends _).trans (State.record_sends _ _ _ _)).trans (State.postEvent_sends _ _ _ _)

theorem State.tunnelRespond_sends (src : Nat) (tid : BitVec 16) (o : Outcome) : Sends s (s.tunnelRespond src tid o) := by
  unfold State.tunnelRespond
  split
  · exact .refl s
  · exact s.updRing_sends _

theorem State.forwardDone_sends (org : Origin) (id : Nat) (o : Outcome) : Sends s (s.forwardDone org id o) := by
  unfold State.forwardDone
  split
  · exact s.updHif_sends _
  · split
    · exact (s.updPair_sends _).trans (State.updHif_sends _ _)
    · exact s.updPair_sends _

theorem State.complete_sends (org : Origin) (o : Outcome) : Sends s (s.complete org o) := by
  cases org with
  | host id => exact s.forwardDone_sends _ id o
  | tunnel src tid => exact s.tunnelRespond_sends src tid o
  | partner _ =>
    rw [State.complete]
    exact s.updPair_sends _
  | self => exact .refl s
end

/-! ### Health and completions in the module -/

@[simp] theorem State.postEvent_mod (type : BitVec 16) (inst : Nat) (data : Bytes) (s : State) :
    (s.postEvent type inst data).mod = s.mod := (State.postEventAt_keep s.now type inst data s).same .mod (by decide)

@[simp] theorem State.settleHealth_mod (s : State) : s.settleHealth.mod = { s.mod with health := s.healthNow } := by
  unfold State.settleHealth
  dsimp only
  split
  · rename_i hsame
    rw [hsame]
  · rw [State.postEvent_mod, State.record_mod]
    rfl

@[simp] theorem State.complete_mod (org : Origin) (o : Outcome) (s : State) : (s.complete org o).mod = s.mod :=
  (State.complete_keep org o s).same .mod (by decide)

end Sys2Proof.Machine
end

section
/-! Footprints (obligation CommandsKeepFootprint): the mask of a list of aspects, what each command leaves alone under the mask of
its footprint, and the frame of every command that follows. -/

namespace Sys2Proof.Machine

/-- The mask that holds the bits of these aspects and no other. -/
def Aspect.mask (l : List Aspect) : Nat := l.foldr (fun p m => 2 ^ p.bit ||| m) 0

/-- An aspect stands in the list of all aspects at the place of its bit. -/
theorem Aspect.every_getElem?_bit (p : Aspect) : Aspect.every[p.bit]? = some p := by
  cases p <;> rfl

theorem Aspect.bit_inj {p q : Aspect} : p.bit = q.bit ↔ p = q := by
  refine ⟨fun h => ?_, congrArg _⟩
  have hq := Aspect.every_getElem?_bit q
  rw [← h, Aspect.every_getElem?_bit p] at hq
  exact Option.some.inj hq

/-- A mask has the bits of the listed aspects. -/
theorem Aspect.testBit_mask (l : List Aspect) (p : Aspect) : (Aspect.mask l).testBit p.bit = decide (p ∈ l) := by
  induction l with
  | nil => simp [Aspect.mask]
  | cons q l ih =>
    have hstep : Aspect.mask (q :: l) = 2 ^ q.bit ||| Aspect.mask l := rfl
    rw [hstep, Nat.testBit_or, ih, Nat.testBit_two_pow]
    simp [Aspect.bit_inj, eq_comm]

/-- Every command answers a next state and leaves alone what is outside its footprint: one arm of `exec` per line. -/
theorem exec_keep (c : Instr) (s : State) : KeepR (Aspect.mask (footprint c)) s (exec c s) :=
  match c with
  | .crossingRequest t src dst x accepted => execCrossingRequest_keep t src dst x accepted s
  | .islandWatchdogExpiry t isl => execIslandWatchdogExpiry_keep t isl s
  | .crossingTimeout t src dst => execCrossingTimeout_keep t src dst s
  | .islandReady t isl => execIslandReady_keep t isl s
  | .recordSubmit t src kind items => execRecordSubmit_keep t src kind items s
  | .recordsDropped t => execRecordsDropped_keep t s
  | .timeoutDecisionDeferred t which good stamp => execTimeoutDecisionDeferred_keep t which good stamp s
  | .laneTick t cells groups => execLaneTick_keep t cells groups s
  | .channelInputFrame t ch frame => execChannelInputFrame_keep t ch frame s
  | .outputCutoff t => execOutputCutoff_keep t s
  | .channelOutputFrame t ch frame => execChannelOutputFrame_keep t ch frame s
  | .groupOutputFrame t g frame => execGroupOutputFrame_keep t g frame s
  | .groupInputFrame t g frame => execGroupInputFrame_keep t g frame s
  | .silentEntry t ch => execSilentEntry_keep t ch s
  | .groupSilentEntry t g => execGroupSilentEntry_keep t g s
  | .sdoReadbackCheck t ch => execSdoReadbackCheck_keep t ch s
  | .groupSdoReadbackCheck t g => execGroupSdoReadbackCheck_keep t g s
  | .holdLimitExpiry t ch => execHoldLimitExpiry_keep t ch s
  | .wireBreakSet t ch => execWireBreakSet_keep t ch s
  | .wireBreakClear t ch => execWireBreakClear_keep t ch s
  | .inrushWindowEnd t ch => execInrushWindowEnd_keep t ch s
  | .overloadTrip t ch => execOverloadTrip_keep t ch s
  | .overloadRetry t ch => execOverloadRetry_keep t ch s
  | .overloadClear t ch => execOverloadClear_keep t ch s
  | .openLoad t ch => execOpenLoad_keep t ch s
  | .offPulseSlot t ch => execOffPulseSlot_keep t ch s
  | .offPulseEnd t ch seen => execOffPulseEnd_keep t ch seen s
  | .offPulseRoundEnd t => execOffPulseRoundEnd_keep t s
  | .testPulseSlot t ch belowOff closed => execTestPulseSlot_keep t ch belowOff closed s
  | .readbackDelayExpiry t ch => execReadbackDelayExpiry_keep t ch s
  | .lplusLow t g => execLplusLow_keep t g s
  | .lplusOff t g => execLplusOff_keep t g s
  | .lplusHigh t g => execLplusHigh_keep t g s
  | .lplusRecover t g => execLplusRecover_keep t g s
  | .groupConfig t org obj => execGroupConfig_keep t org obj s
  | .cfgCommit t g => execCfgCommit_keep t g s
  | .groupConfigSettled t g => execGroupConfigSettled_keep t g s
  | .groupConfigResend t g => execGroupConfigResend_keep t g s
  | .buckTargetReached t ch => execBuckTargetReached_keep t ch s
  | .thermalClear t ch => execThermalClear_keep t ch s
  | .complianceSet t ch => execComplianceSet_keep t ch s
  | .complianceClear t ch => execComplianceClear_keep t ch s
  | .rangeDelayExpiry t ch => execRangeDelayExpiry_keep t ch s
  | .charLoad t org obj => execCharLoad_keep t org obj s
  | .calibrationCheck t ch => execCalibrationCheck_keep t ch s
  | .calibrationCheckEnd t ch ref4 ref20 => execCalibrationCheckEnd_keep t ch ref4 ref20 s
  | .hartRequest t org obj => execHartRequest_keep t org obj s
  | .hartTransmitStart t ch => execHartTransmitStart_keep t ch s
  | .hartResponse t ch start frame => execHartResponse_keep t ch start frame s
  | .hartNoResponse t ch => execHartNoResponse_keep t ch s
  | .hartBurst t ch start frame => execHartBurst_keep t ch start frame s
  | .burstSilence t ch => execBurstSilence_keep t ch s
  | .mainCycleStart t faultActs acts => execMainCycleStart_keep t faultActs acts s
  | .outputWrite t writes => execOutputWrite_keep t writes s
  | .eventTaskStart t prio => execEventTaskStart_keep t prio s
  | .eventTaskEnd t prio acts writes => execEventTaskEnd_keep t prio acts writes s
  | .cycleLong t => execCycleLong_keep t s
  | .cycleLongEnd t acts => execCycleLongEnd_keep t acts s
  | .watchdogHalt t => execWatchdogHalt_keep t s
  | .trap t code codeAddr dataAddr => execTrap_keep t code codeAddr dataAddr s
  | .eccHalt t => execEccHalt_keep t s
  | .eventOverrun t prio => execEventOverrun_keep t prio s
  | .run t org obj => execRun_keep t org obj s
  | .startFinished t acts writes => execStartFinished_keep t acts writes s
  | .stop t org obj => execStop_keep t org obj s
  | .isoEnter t org obj => execIsoEnter_keep t org obj s
  | .isoLeave t org obj => execIsoLeave_keep t org obj s
  | .programParam t org obj => execProgramParam_keep t org obj s
  | .varWrite t org obj => execVarWrite_keep t org obj s
  | .retainedSaveInterval t => execRetainedSaveInterval_keep t s
  | .cycleSlip t => execCycleSlip_keep t s
  | .imageStage t org param data => execImageStage_keep t org param data s
  | .imageVerifyEnd t partnerCheck => execImageVerifyEnd_keep t partnerCheck s
  | .programSwitch t org obj => execProgramSwitch_keep t org obj s
  | .armed t cycle => execArmed_keep t cycle s
  | .pairNotArmed t => execPairNotArmed_keep t s
  | .preSwitchEnd t gapUs acts => execPreSwitchEnd_keep t gapUs acts s
  | .postSwitchEnd t acts => execPostSwitchEnd_keep t acts s
  | .loopSample t lp done => execLoopSample_keep t lp done s
  | .catchUpSample t lp done => execCatchUpSample_keep t lp done s
  | .loopSlip t lp => execLoopSlip_keep t lp s
  | .loopConfig t org obj => execLoopConfig_keep t org obj s
  | .loopCommand t org obj => execLoopCommand_keep t org obj s
  | .overrideConfig t org obj => execOverrideConfig_keep t org obj s
  | .tuneStart t org obj => execTuneStart_keep t org obj s
  | .tuneStop t org obj => execTuneStop_keep t org obj s
  | .tuneEnd t => execTuneEnd_keep t s
  | .captureRead t org param => execCaptureRead_keep t org param s
  | .axisSample t ax done => execAxisSample_keep t ax done s
  | .axisConfig t org obj => execAxisConfig_keep t org obj s
  | .moveAbs t org obj => execMoveAbs_keep t org obj s
  | .moveRel t org obj => execMoveRel_keep t org obj s
  | .runTable t org obj => execRunTable_keep t org obj s
  | .axisStop t org obj => execAxisStop_keep t org obj s
  | .quickStop t org obj => execQuickStop_keep t org obj s
  | .setPosition t org obj => execSetPosition_keep t org obj s
  | .setLimits t org obj => execSetLimits_keep t org obj s
  | .resetFault t org obj => execResetFault_keep t org obj s
  | .tableLoad t org obj => execTableLoad_keep t org obj s
  | .stepDebtTimeout t ax => execStepDebtTimeout_keep t ax s
  | .axisSlip t ax => execAxisSlip_keep t ax s
  | .safetyCycle t agree lenA lenB inTimeA inTimeB => execSafetyCycle_keep t agree lenA lenB inTimeA inTimeB s
  | .discrepancy t sf pair receiving => execDiscrepancy_keep t sf pair receiving s
  | .resetHeld t sf => execResetHeld_keep t sf s
  | .stoFeedback t sf => execStoFeedback_keep t sf s
  | .inputFaultSettled t ch => execInputFaultSettled_keep t ch s
  | .supplySettled t g => execSupplySettled_keep t g s
  | .recloseCheck t g => execRecloseCheck_keep t g s
  | .recloseRoundCheck t g => execRecloseRoundCheck_keep t g s
  | .permitTimeout t ch => execPermitTimeout_keep t ch s
  | .safetyConfig t org obj => execSafetyConfig_keep t org obj s
  | .safetyConfirm t org param => execSafetyConfirm_keep t org param s
  | .safetyContainer t ingress bytes agree => execSafetyContainer_keep t ingress bytes agree s
  | .safetyFrameWatchdog t conn receiving => execSafetyFrameWatchdog_keep t conn receiving s
  | .safReferenceCheck t diffPct => execSafReferenceCheck_keep t diffPct s
  | .safMemoryError t => execSafMemoryError_keep t s
  | .safSupplyFault t => execSafSupplyFault_keep t s
  | .linkUp t port gigabit => execLinkUp_keep t port gigabit s
  | .linkDown t port negFail => execLinkDown_keep t port negFail s
  | .frameReceive t port ingress frame => execFrameReceive_keep t port ingress frame s
  | .busCycleStart t => execBusCycleStart_keep t s
  | .windowEnd t => execWindowEnd_keep t s
  | .acyclicSend t => execAcyclicSend_keep t s
  | .inputImage t ingress bytes => execInputImage_keep t ingress bytes s
  | .outputImage t ingress bytes => execOutputImage_keep t ingress bytes s
  | .outputImageTake t => execOutputImageTake_keep t s
  | .stationWatchdog t index receiving => execStationWatchdog_keep t index receiving s
  | .iostationWatchdog t receiving => execIostationWatchdog_keep t receiving s
  | .tunnelRequest t ingress bytes => execTunnelRequest_keep t ingress bytes s
  | .tunnelResponse t ingress bytes => execTunnelResponse_keep t ingress bytes s
  | .tunnelRetry t tid => execTunnelRetry_keep t tid s
  | .reassemblyTimeout t src tid => execReassemblyTimeout_keep t src tid s
  | .addressFrame t port ingress bytes => execAddressFrame_keep t port ingress bytes s
  | .ringConfig t org obj => execRingConfig_keep t org obj s
  | .stationConfig t org obj => execStationConfig_keep t org obj s
  | .imageMap t org obj => execImageMap_keep t org obj s
  | .branchConfig t org obj => execBranchConfig_keep t org obj s
  | .nodeAddress t org param => execNodeAddress_keep t org param s
  | .nodeAddressRetry t => execNodeAddressRetry_keep t s
  | .pairConfig t org obj => execPairConfig_keep t org obj s
  | .handover t org obj => execHandover_keep t org obj s
  | .drill t org obj => execDrill_keep t org obj s
  | .releaseShadow t org obj => execReleaseShadow_keep t org obj s
  | .clearRevertLimit t org obj => execClearRevertLimit_keep t org obj s
  | .heartbeatSend t => execHeartbeatSend_keep t s
  | .heartbeat t port ingress bytes => execHeartbeat_keep t port ingress bytes s
  | .heartbeatLoss t who receiving => execHeartbeatLoss_keep t who receiving s
  | .grantRequest t ingress bytes => execGrantRequest_keep t ingress bytes s
  | .refereeGrantDecision t pair => execRefereeGrantDecision_keep t pair s
  | .formWait t pair => execFormWait_keep t pair s
  | .grant t ingress bytes => execGrant_keep t ingress bytes s
  | .deny t ingress bytes => execDeny_keep t ingress bytes s
  | .relinquish t ingress bytes => execRelinquish_keep t ingress bytes s
  | .barrier t msg => execBarrier_keep t msg s
  | .outDone t cycle stamp => execOutDone_keep t cycle stamp s
  | .outputRelease t => execOutputRelease_keep t s
  | .imageFix t images => execImageFix_keep t images s
  | .digest t bus crc => execDigest_keep t bus crc s
  | .resync t msg => execResync_keep t msg s
  | .joinTimeout t => execJoinTimeout_keep t s
  | .record t rec => execRecord_keep t rec s
  | .swapDrill t => execSwapDrill_keep t s
  | .revertReq t => execRevertReq_keep t s
  | .sync t port ingress msg => execSync_keep t port ingress msg s
  | .syncSend t => execSyncSend_keep t s
  | .syncLoss t => execSyncLoss_keep t s
  | .holdoverExpiry t => execHoldoverExpiry_keep t s
  | .announce t port ingress msg gm => execAnnounce_keep t port ingress msg gm s
  | .announceSend t => execAnnounceSend_keep t s
  | .announceTimeout t => execAnnounceTimeout_keep t s
  | .pdelayReq t port ingress msg => execPdelayReq_keep t port ingress msg s
  | .pdelayReqSend t port => execPdelayReqSend_keep t port s
  | .pdelayResp t port ingress msg => execPdelayResp_keep t port ingress msg s
  | .pdelayInvalid t port => execPdelayInvalid_keep t port s
  | .shipTimeSet t org obj => execShipTimeSet_keep t org obj s
  | .ppsIn t => execPpsIn_keep t s
  | .ppsMissing t => execPpsMissing_keep t s
  | .shipTimeSlew t org obj => execShipTimeSlew_keep t org obj s
  | .slewEnd t => execSlewEnd_keep t s
  | .timeConfig t org obj => execTimeConfig_keep t org obj s
  | .ppsOut t => execPpsOut_keep t s
  | .aonShipTimeCopy t => execAonShipTimeCopy_keep t s
  | .sqTailDoorbell t n value => execSqTailDoorbell_keep t n value s
  | .cqHeadDoorbell t n value => execCqHeadDoorbell_keep t n value s
  | .eqHeadDoorbell t value => execEqHeadDoorbell_keep t value s
  | .descriptorFetch t desc data => execDescriptorFetch_keep t desc data s
  | .descriptorStart t id => execDescriptorStart_keep t id s
  | .completionWrite t id => execCompletionWrite_keep t id s
  | .coalescingTimeout t q => execCoalescingTimeout_keep t q s
  | .eventPost t type inst data => execEventPost_keep t type inst data s
  | .nop t org => execNop_keep t org s
  | .stateRead t org param => execStateRead_keep t org param s
  | .hifSqCtlWrite t n value => execHifSqCtlWrite_keep t n value s
  | .hifCqCtlWrite t n value => execHifCqCtlWrite_keep t n value s
  | .hifEqCtlWrite t value => execHifEqCtlWrite_keep t value s
  | .hifSoftReset t value => execHifSoftReset_keep t value s
  | .functionLevelReset t => execFunctionLevelReset_keep t s
  | .perstN t => execPerstN_keep t s
  | .d3hotEntry t => execD3hotEntry_keep t s
  | .d0Return t => execD0Return_keep t s
  | .unsupportedRequest t bar offset size => execUnsupportedRequest_keep t bar offset size s
  | .registerWrite t offset value => execRegisterWrite_keep t offset value s
  | .mbDataWrite t who n j value => execMbDataWrite_keep t who n j value s
  | .mbPost t who n => execMbPost_keep t who n s
  | .mbTake t who n => execMbTake_keep t who n s
  | .withdraw t who n => execWithdraw_keep t who n s
  | .ackExpired t due => execAckExpired_keep t due s
  | .mbBindWrite t n value => execMbBindWrite_keep t n value s
  | .domainPower t org param => execDomainPower_keep t org param s
  | .recordFlashCopy t good => execRecordFlashCopy_keep t good s
  | .sectorEraseEnd t ok => execSectorEraseEnd_keep t ok s
  | .recSnapshot t org => execRecSnapshot_keep t org s
  | .recRead t org param max => execRecRead_keep t org param max s
  | .configSaveStart t => execConfigSaveStart_keep t s
  | .storeSaveComplete t store => execStoreSaveComplete_keep t store s
  | .saveRetained t org param => execSaveRetained_keep t org param s
  | .saveConfig t org param => execSaveConfig_keep t org param s
  | .clearRetained t org param => execClearRetained_keep t org param s
  | .factoryConfig t org param => execFactoryConfig_keep t org param s
  | .powerFail t => execPowerFail_keep t s
  | .vlogReturnAfterFail t => execVlogReturnAfterFail_keep t s
  | .holdupExhausted t => execHoldupExhausted_keep t s
  | .dispConfig t org obj => execDispConfig_keep t org obj s
  | .dispRegion t org obj => execDispRegion_keep t org obj s
  | .dispUpdate t org obj => execDispUpdate_keep t org obj s
  | .dispBlink t org obj => execDispBlink_keep t org obj s
  | .displayPassStart t volts => execDisplayPassStart_keep t volts s
  | .displayPhaseEnd t volts => execDisplayPhaseEnd_keep t volts s
  | .blinkToggle t freq com => execBlinkToggle_keep t freq com s
  | .dispSupplyCheck t volts => execDispSupplyCheck_keep t volts s
  | .powerOn t vbat straps offTime => execPowerOn_keep t vbat straps offTime s
  | .resetNLow t => execResetNLow_keep t s
  | .resetNRelease t straps => execResetNRelease_keep t straps s
  | .selftestComplete t test => execSelftestComplete_keep t test s
  | .masterConfirm t org obj => execMasterConfirm_keep t org obj s
  | .islandReset t org param => execIslandReset_keep t org param s
  | .fwStage t org param data => execFwStage_keep t org param data s
  | .fwActivate t org param => execFwActivate_keep t org param s
  | .fwTrialExpiry t => execFwTrialExpiry_keep t s
  | .holdupCharged t => execHoldupCharged_keep t s
  | .holdupNotCharged t => execHoldupNotCharged_keep t s
  | .ledgerTest t org meas => execLedgerTest_keep t org meas s
  | .holdupTest t meas => execHoldupTest_keep t meas s
  | .ledgerMeasurement t inst index value => execLedgerMeasurement_keep t inst index value s
  | .thermalHours t temps => execThermalHours_keep t temps s
  | .mordantWrite t value => execMordantWrite_keep t value s
  | .safeEnWrite t value => execSafeEnWrite_keep t value s
  | .testClrWrite t value => execTestClrWrite_keep t value s
  | .tmrScrub t upsets => execTmrScrub_keep t upsets s
  | .ringIdWrite t offset value => execRingIdWrite_keep t offset value s
  | .imgKeyWordWrite t k j value => execImgKeyWordWrite_keep t k j value s
  | .keyValidWrite t k value => execKeyValidWrite_keep t k value s
  | .joinInhibitWrite t value => execJoinInhibitWrite_keep t value s
  | .groupConfigurationLost t g => execGroupConfigurationLost_keep t g s
  | .perstNRelease t => execPerstNRelease_keep t s
  | .pcieLinkDown t => execPcieLinkDown_keep t s
  | .pcieLinkUp t speed => execPcieLinkUp_keep t speed s
  | .serviceUartTestControl t g ctl set => execServiceUartTestControl_keep t g ctl set s

/-- Settles O56: the mask of a command's footprint holds no aspect outside it. -/
theorem commandsKeepFootprint : Obligations.CommandsKeepFootprint := by
  intro c s u p hu hp
  have hbit : (Aspect.mask (footprint c)).testBit p.bit = false := by simp [Aspect.testBit_mask, hp]
  exact ((exec_keep c s).keep u hu).same p hbit

end Sys2Proof.Machine
end

section
/-! Mailboxes (obligation Mailboxes): what the operations of the hub do to the boxes, then one lemma per kind of access. -/

namespace Sys2Proof.Machine

/-! ### The boxes of the hub -/

theorem State.updBox_same (n : Fin 32) (f : Mailbox → Mailbox) (s : State) :
    (s.updBox n f).mb.boxes[n] = f s.mb.boxes[n] := by simp [State.updBox]

theorem State.updBox_ne {n k : Fin 32} (h : k ≠ n) (f : Mailbox → Mailbox) (s : State) :
    (s.updBox n f).mb.boxes[k] = s.mb.boxes[k] := by
  have hv : n.val ≠ k.val := fun e => h (Fin.ext e.symm)
  simp [State.updBox, hv]

/-- An access while SVC answers reaches the hub. -/
theorem State.begin_atHub {who : Ident} {f : State → State} {s : State} (t : Ns) (h : s.islandCode .svc = none) :
    (s.begin t).atHub who f = f (s.begin t) := by simp [State.atHub, h]

/-- An access while SVC does not answer is returned with its code. -/
theorem State.begin_atHub_error {who : Ident} {f : State → State} {s : State} {c : CrossCode} (t : Ns)
    (h : s.islandCode .svc = some c) : (s.begin t).atHub who f = (s.begin t).emit (.crossingError who.island .svc c) := by
  simp [State.atHub, h]

@[simp] theorem State.begin_bindSender (s : State) (t : Ns) (n : Fin 32) : (s.begin t).bindSender n = s.bindSender n := rfl
@[simp] theorem State.begin_bindReceiver (s : State) (t : Ns) (n : Fin 32) : (s.begin t).bindReceiver n = s.bindReceiver n := rfl
@[simp] theorem State.begin_bindEnabled (s : State) (t : Ns) (n : Fin 32) : (s.begin t).bindEnabled n = s.bindEnabled n := rfl
@[simp] theorem State.begin_receiverOff (s : State) (t : Ns) (n : Fin 32) : (s.begin t).receiverOff n = s.receiverOff n := rfl
@[simp] theorem State.begin_ackDeadline (s : State) (t : Ns) (n : Fin 32) : (s.begin t).ackDeadline n = s.ackDeadline n := rfl
@[simp] theorem State.begin_takesKnown (s : State) (t : Ns) (n : Fin 32) (d : Ns) : (s.begin t).takesKnown n d = s.takesKnown n d := rfl
@[simp] theorem State.begin_lockMb (s : State) (t : Ns) : (s.begin t).lockMb = s.lockMb := rfl
@[simp] theorem State.begin_epochOf (s : State) (t : Ns) (i : Ident) : (s.begin t).epochOf i = s.epochOf i := rfl

/-! ### MB_DATA_WRITE (R454, R460) -/

/-- The bound sender writes a word of an idle mailbox. -/
theorem mbDataWrite_idle (t : Ns) (who : Ident) (n : Fin 32) (j : Fin 16) (v : Word) (s : State) (hsvc : s.islandCode .svc = none)
    (hsnd : s.bindSender n = who) (hgo : s.mb.boxes[n].go = false) (hoff : s.receiverOff n = false) :
    Completes (.mbDataWrite t who n j v) s fun u =>
      u.mb.boxes[n] = { s.mb.boxes[n] with data := s.mb.boxes[n].data.set j v } ∧
      ∀ k : Fin 32, k ≠ n → u.mb.boxes[k] = s.mb.boxes[k] := by
  refine ⟨(s.begin t).updBox n fun b => { b with data := b.data.set j v }, ?_, State.updBox_same _ _ _,
    fun k hk => State.updBox_ne hk _ _⟩
  rw [exec_mbDataWrite, execMbDataWrite, State.begin_atHub t hsvc]
  simp [-Fin.getElem_fin, State.hubData, hsnd, hgo, hoff]

/-- A writer that is not bound only sets NOT_BOUND. -/
theorem mbDataWrite_notBound (t : Ns) (who : Ident) (n : Fin 32) (j : Fin 16) (v : Word) (s : State)
    (hsvc : s.islandCode .svc = none) (hsnd : s.bindSender n ≠ who) (hoff : s.receiverOff n = false) :
    Completes (.mbDataWrite t who n j v) s fun u => u.mb = { s.mb with notBound := true } ∧ u.out = [] := by
  refine ⟨(s.begin t).notBound, ?_, rfl, rfl⟩
  rw [exec_mbDataWrite, execMbDataWrite, State.begin_atHub t hsvc]
  simp [State.hubData, hsnd, hoff]

/-! ### MB_POST (R460, R462, R466) -/

/-- CROSSED is all that the hub changes in the boxes when it looks for a crossed pair. -/
theorem State.markCrossed_boxes (n : Fin 32) (s : State) (k : Fin 32) : (s.markCrossed n).mb.boxes[k] =
    { s.mb.boxes[k] with crossed := (s.markCrossed n).mb.boxes[k].crossed } := by
  have hbox : ∀ (m : Fin 32) (u : State) (k : Fin 32), (u.updBox m fun b => { b with crossed := true }).mb.boxes[k] =
      { u.mb.boxes[k] with crossed := (u.updBox m fun b => { b with crossed := true }).mb.boxes[k].crossed } := by
    intro m u k
    rcases eq_or_ne k m with rfl | hk
    · rw [State.updBox_same]
    · rw [State.updBox_ne hk]
  revert k
  refine forAll_induction (P := fun u => ∀ k : Fin 32, u.mb.boxes[k] = { s.mb.boxes[k] with crossed := u.mb.boxes[k].crossed })
    (fun i u hu => ?_) fun _ => rfl
  dsimp only
  split
  · intro k
    rw [hbox, hbox, hu k]
  · exact hu

/-- Waking a receiver changes no box. -/
theorem State.wakeReceiver_boxes (n : Fin 32) (s : State) : (s.wakeReceiver n).mb.boxes = s.mb.boxes := by
  have hdom : ∀ (i : Ident) (d : Dom) (u : State), (u.setDomain i d).mb.boxes = u.mb.boxes := by
    intro i d u
    unfold State.setDomain
    split
    · rfl
    · rw [State.record_mb, (State.domainCrossings_keep i d _).same .mb (by decide)]
      rfl
  have hpush : ∀ (g : Trigger) (e : PrgEvent) (u : State), (u.pushEvent g e).mb = u.mb := fun g e u =>
    (State.pushEvent_keep g e u).same .mb (by decide)
  have hsignal : ∀ (v : Fin 16) (u : State), (u.signal v).mb = u.mb := fun v u => (State.signal_keep v u).same .mb (by decide)
  unfold State.wakeReceiver
  split
  · split
    · rw [hsignal]
    · rfl
    · rfl
  · rfl
  · rfl
  · rfl
  · dsimp only
    have hwoken : ∀ r : Ident, (if s.domain r = .sleep then s.setDomain r .on else s).mb.boxes = s.mb.boxes := by
      intro r
      split
      · exact hdom _ _ _
      · rfl
    split
    · rw [hpush, hwoken]
    · exact hwoken _
    · exact hwoken _

theorem Ident.code_lt (i : Ident) : i.code < 16 := by cases i <;> decide

/-- An accepted post writes the fields of its box; the wake-up changes no box. -/
theorem State.hubPost_accept {who : Ident} {n : Fin 32} {s : State} (hsnd : s.bindSender n = who) (hen : s.bindEnabled n = true)
    (hgo : s.mb.boxes[n].go = false) (hoff : s.receiverOff n = false) (hsaf : s.bindReceiver n ≠ .saf) :
    (s.hubPost who n).mb.boxes = ((s.updBox n (Mailbox.accept who (s.bindReceiver n) (s.epochOf who) (s.epochOf (s.bindReceiver n))
      s.now s.clock)).markCrossed n).mb.boxes := by
  unfold State.hubPost
  simp only [hsnd, hen, hgo, hoff, hsaf, bne_self_eq_false, if_false, Bool.false_eq_true, Bool.not_true]
  rw [State.wakeReceiver_boxes]
  split <;> rfl

/-- The bound sender posts an idle mailbox. -/
theorem mbPost_idle (t : Ns) (who : Ident) (n : Fin 32) (s : State) (hsvc : s.islandCode .svc = none) (hsnd : s.bindSender n = who)
    (hen : s.bindEnabled n = true) (hgo : s.mb.boxes[n].go = false) (hoff : s.receiverOff n = false)
    (hsaf : s.bindReceiver n ≠ .saf) : Completes (.mbPost t who n) s fun u =>
      u.mb.boxes[n].go = true ∧ u.mb.boxes[n].taken = false ∧ u.mb.boxes[n].postErr = false ∧ u.mb.boxes[n].withdrawn = false ∧
      u.mb.boxes[n].data = s.mb.boxes[n].data ∧ u.mb.boxes[n].sender.toNat = who.code ∧
      u.mb.boxes[n].receiver.toNat = (s.bindReceiver n).code ∧ u.mb.boxes[n].sndEpoch = s.epochOf who ∧
      u.mb.boxes[n].rcvEpoch = s.epochOf (s.bindReceiver n) ∧ u.mb.boxes[n].postStamp = ((s.begin t).now % 2 ^ 64).toNat ∧
      u.mb.boxes[n].posts = s.mb.boxes[n].posts + 1 ∧
      ∀ k : Fin 32, k ≠ n → u.mb.boxes[k] = { s.mb.boxes[k] with crossed := u.mb.boxes[k].crossed } := by
  refine ⟨(s.begin t).hubPost who n, ?_, ?_⟩
  · rw [exec_mbPost, execMbPost, State.begin_atHub t hsvc]
  beta_reduce
  rw [State.hubPost_accept (s := s.begin t) hsnd hen hgo hoff hsaf]
  generalize hv : (s.begin t).updBox n _ = v
  have hbox : ∃ c, (v.markCrossed n).mb.boxes[n] = { Mailbox.accept who (s.bindReceiver n) (s.epochOf who)
      (s.epochOf (s.bindReceiver n)) (s.begin t).now (s.begin t).clock s.mb.boxes[n] with crossed := c } :=
    ⟨_, by rw [v.markCrossed_boxes n n, ← hv, State.updBox_same]; rfl⟩
  obtain ⟨c, hc⟩ := hbox
  rw [hc]
  refine ⟨rfl, rfl, rfl, rfl, rfl, ?_, ?_, rfl, rfl, rfl, rfl, fun k hk => ?_⟩
  · exact Nat.mod_eq_of_lt (Ident.code_lt who)
  · exact Nat.mod_eq_of_lt (Ident.code_lt (s.bindReceiver n))
  · rw [v.markCrossed_boxes n k, ← hv, State.updBox_ne hk]
    rfl

/-- A post to a mailbox that still holds a message is refused and counted. -/
theorem mbPost_full (t : Ns) (who : Ident) (n : Fin 32) (s : State) (hsvc : s.islandCode .svc = none) (hsnd : s.bindSender n = who)
    (hgo : s.mb.boxes[n].go = true) : Completes (.mbPost t who n) s fun u =>
      u.mb.boxes[n] = { s.mb.boxes[n] with postErr := true, cause := 1, refusedPosts := s.mb.boxes[n].refusedPosts + 1 } ∧
      ∀ k : Fin 32, k ≠ n → u.mb.boxes[k] = s.mb.boxes[k] := by
  refine ⟨(s.begin t).updBox n (Mailbox.refuse 1), ?_, State.updBox_same _ _ _, fun k hk => State.updBox_ne hk _ _⟩
  rw [exec_mbPost, execMbPost, State.begin_atHub t hsvc]
  simp [-Fin.getElem_fin, State.hubPost, hsnd, hgo]

/-! ### MB_TAKE (R40, R461, R466) -/

/-- A box whose message has been taken at this instant. -/
def Mailbox.takenAtInstant (stamp : Int) (clock : Ns) (b : Mailbox) : Mailbox :=
  { b with go := false, taken := true, takenStamp := (stamp % 2 ^ 64).toNat, takenAt := some clock, deadline := none }

/-- A take is late where the deadline lies before the present instant. -/
theorem State.takenBy_now (n : Fin 32) (s : State) : s.takenBy n s.now =
    (if (s.ackDeadline n).any fun d => decide (d < s.clock) then s.ackExpires n else s).updBox n
      (Mailbox.takenAtInstant s.now s.clock) := by
  have hlate : (s.ackDeadline n).any (fun d => decide ((d : Int) + s.time.ringOff < s.now)) =
      (s.ackDeadline n).any fun d => decide (d < s.clock) := by
    cases s.ackDeadline n <;> simp [State.now]
  simp only [State.takenBy, hlate]
  split <;> simp [State.ackExpires, Mailbox.takenAtInstant, State.updBox]

/-- The answer to the partner changes no box. -/
theorem State.hubTake_boxes {n : Fin 32} {s : State} (hgo : s.mb.boxes[n].go = true) :
    (s.hubTake n).mb.boxes = (s.takenBy n s.now).mb.boxes := by
  simp only [State.hubTake, hgo, if_true]
  split <;> rfl

/-- What the bound receiver's take does to the boxes. -/
theorem mbTake_posted (t : Ns) (who : Ident) (n : Fin 32) (s : State) (hsvc : s.islandCode .svc = none)
    (hrcv : s.bindReceiver n = who) (hgo : s.mb.boxes[n].go = true) (hoff : s.receiverOff n = false) :
    Completes (.mbTake t who n) s fun u => u.mb.boxes = ((s.begin t).takenBy n (s.begin t).now).mb.boxes := by
  refine ⟨(s.begin t).hubTake n, ?_, State.hubTake_boxes hgo⟩
  rw [exec_mbTake, execMbTake, State.begin_atHub t hsvc]
  simp [hrcv, hoff]

/-- A take in time. -/
theorem mbTake_inTime (t : Ns) (who : Ident) (n : Fin 32) (s : State) (hsvc : s.islandCode .svc = none)
    (hrcv : s.bindReceiver n = who) (hgo : s.mb.boxes[n].go = true) (hoff : s.receiverOff n = false)
    (hdue : ∀ d, s.ackDeadline n = some d → max s.clock t ≤ d) : Completes (.mbTake t who n) s fun u =>
      u.mb.boxes[n] = { s.mb.boxes[n] with
        go := false, taken := true, takenStamp := ((s.begin t).now % 2 ^ 64).toNat, takenAt := some (max s.clock t), deadline := none } ∧
      ∀ k : Fin 32, k ≠ n → u.mb.boxes[k] = s.mb.boxes[k] := by
  obtain ⟨u, hu, hboxes⟩ := mbTake_posted t who n s hsvc hrcv hgo hoff
  have hlate : ((s.begin t).ackDeadline n).any (fun d => decide (d < (s.begin t).clock)) = false := by
    simpa [Option.any_eq_false] using hdue
  rw [State.takenBy_now, hlate] at hboxes
  refine ⟨u, hu, ?_, fun k hk => ?_⟩
  · rw [hboxes]; exact State.updBox_same _ _ _
  · rw [hboxes]; exact State.updBox_ne hk _ _

/-- A take after the deadline also sets ACK_EXPIRED. -/
theorem mbTake_late (t : Ns) (who : Ident) (n : Fin 32) (d : Ns) (s : State) (hsvc : s.islandCode .svc = none)
    (hrcv : s.bindReceiver n = who) (hgo : s.mb.boxes[n].go = true) (hoff : s.receiverOff n = false)
    (hd : s.ackDeadline n = some d) (hlt : d < max s.clock t) : Completes (.mbTake t who n) s fun u =>
      u.mb.boxes[n] = { s.mb.boxes[n] with
        go := false, taken := true, takenStamp := ((s.begin t).now % 2 ^ 64).toNat, takenAt := some (max s.clock t), deadline := none,
        ackExpired := true } ∧ ∀ k : Fin 32, k ≠ n → u.mb.boxes[k] = s.mb.boxes[k] := by
  obtain ⟨u, hu, hboxes⟩ := mbTake_posted t who n s hsvc hrcv hgo hoff
  have hlate : ((s.begin t).ackDeadline n).any (fun d => decide (d < (s.begin t).clock)) = true := by
    simpa [hd] using hlt
  rw [State.takenBy_now, hlate, if_pos rfl, State.ackExpires] at hboxes
  refine ⟨u, hu, ?_, fun k hk => ?_⟩
  · rw [hboxes, State.updBox_same, State.record_mb, State.updBox_same]; rfl
  · rw [hboxes, State.updBox_ne hk, State.record_mb, State.updBox_ne hk]; rfl

/-- While SVC does not answer a take is returned with the code (R17, log 122). -/
theorem mbTake_noSvc (t : Ns) (who : Ident) (n : Fin 32) (c : CrossCode) (s : State) (hsvc : s.islandCode .svc = some c) :
    Completes (.mbTake t who n) s fun u => u = (s.begin t).emit (.crossingError who.island .svc c) :=
  ⟨_, congrArg Host.Outcome.next (State.begin_atHub_error t hsvc), rfl⟩

/-! ### WITHDRAW (R462, R463) -/

/-- A post that was not taken is withdrawn. -/
theorem withdraw_posted (t : Ns) (who : Ident) (n : Fin 32) (s : State) (hsvc : s.islandCode .svc = none)
    (hsnd : s.bindSender n = who) (hgo : s.mb.boxes[n].go = true) (hoff : s.receiverOff n = false)
    (hpartner : s.bindReceiver n ≠ .partner) : Completes (.withdraw t who n) s fun u =>
      u.mb.boxes[n] = { s.mb.boxes[n] with go := false, withdrawn := true, wdPending := false, deadline := none } ∧
      ∀ k : Fin 32, k ≠ n → u.mb.boxes[k] = s.mb.boxes[k] := by
  refine ⟨(s.begin t).withdrawn n, ?_, ?_⟩
  · rw [exec_withdraw, execWithdraw, State.begin_atHub t hsvc]
    simp [-Fin.getElem_fin, hsnd, hgo, hoff, hpartner]
  · have hdrop : (if (s.begin t).bindReceiver n = .prg1 then (s.begin t).dropPost n else s.begin t).mb = s.mb := by
      split <;> rfl
    simp only [State.withdrawn, State.record_mb]
    refine ⟨?_, fun k hk => ?_⟩
    · rw [State.updBox_same, hdrop]
    · rw [State.updBox_ne hk, hdrop]

/-- A withdrawal after the take is late. -/
theorem withdraw_taken (t : Ns) (who : Ident) (n : Fin 32) (s : State) (hsvc : s.islandCode .svc = none)
    (hsnd : s.bindSender n = who) (hgo : s.mb.boxes[n].go = false) (htaken : s.mb.boxes[n].taken = true)
    (hoff : s.receiverOff n = false) : Completes (.withdraw t who n) s fun u =>
      u.mb.boxes[n] = { s.mb.boxes[n] with wdLate := true, wdPending := false } ∧
      ∀ k : Fin 32, k ≠ n → u.mb.boxes[k] = s.mb.boxes[k] := by
  refine ⟨(s.begin t).withdrawLate n, ?_, ?_⟩
  · rw [exec_withdraw, execWithdraw, State.begin_atHub t hsvc]
    simp [-Fin.getElem_fin, hsnd, hgo, htaken, hoff]
  · simp only [State.withdrawLate, State.record_mb]
    exact ⟨State.updBox_same _ _ _, fun k hk => State.updBox_ne hk _ _⟩

/-! ### ACK_EXPIRED (R466) -/

/-- A deadline that passes sets ACK_EXPIRED. -/
theorem ackExpired_due (t : Ns) (n : Fin 32) (d : Ns) (s : State) (hgo : s.mb.boxes[n].go = true) (hd : s.ackDeadline n = some d)
    (hlt : d < max s.clock t) (hknown : s.takesKnown n d = true) : Completes (.ackExpired t ⟨n, []⟩) s fun u =>
      u.mb.boxes[n] = { s.mb.boxes[n] with ackExpired := true, deadline := none } ∧
      ∀ k : Fin 32, k ≠ n → u.mb.boxes[k] = s.mb.boxes[k] := by
  refine ⟨(s.begin t).ackExpires n, ?_, ?_⟩
  · have hlt' : d < s.clock ∨ d < t := lt_max_iff.mp hlt
    simp [-Fin.getElem_fin, exec_ackExpired, execAckExpired, hd, hgo, hlt', hknown, State.deferOr_nil]
  · simp only [State.ackExpires, State.record_mb]
    exact ⟨State.updBox_same _ _ _, fun k hk => State.updBox_ne hk _ _⟩

/-! ### MB_BIND_WRITE (R458, R472, R552) -/

/-- A binding reads back the thirteen bits of the word that its three copies hold. -/
theorem Tmr.vote_bind (w : Word) : (Tmr.of w).vote bindFields = w &&& 0x1FFF :=
  (Tmr.vote_of bindFields w).trans (congrArg (w &&& ·) (by decide))

/-- The word that a binding with this enable, vector, sender and receiver stores. -/
def bindWordOf (e v snd rcv : Nat) : Word := BitVec.ofNat 32 (4096 * e + 256 * v + 16 * snd + rcv)

/-- The fields of a stored binding, read back. -/
theorem bindWordOf_fields {e v snd rcv : Nat} (he : e < 2) (hv : v < 16) (hsnd : snd < 16) (hrcv : rcv < 16) :
    let w := ((Tmr.of (bindWordOf e v snd rcv)).vote bindFields).toNat
    bitsOf w 7 4 = snd ∧ bitsOf w 3 0 = rcv ∧ bitsOf w 12 12 = e := by
  have hmask : (0x1FFF : Word).toNat = 2 ^ 13 - 1 := rfl
  simp only [Tmr.vote_bind, BitVec.toNat_and, hmask, Nat.and_two_pow_sub_one_eq_mod, bindWordOf, BitVec.toNat_ofNat, bitsOf]
  omega

theorem bitsOf_lt (v hi lo : Nat) : bitsOf v hi lo < 2 ^ (hi + 1 - lo) := Nat.mod_lt _ (Nat.two_pow_pos _)

/-- A legal binding of an idle mailbox is stored in three copies, with its record. -/
theorem execMbBindWrite_legal (t : Ns) {n : Fin 32} {v : Word} {s : State} (hsvc : s.up .svc = true) (hlock : s.lockMb = false)
    (hgo : s.mb.boxes[n].go = false) (hok : bindingOk s.isPair v.toNat = true) :
    ∃ vec < 16, ∃ w, w = bindWordOf (bitsOf v.toNat 12 12) vec (bitsOf v.toNat 7 4) (bitsOf v.toNat 3 0) ∧
      execMbBindWrite t n v s = .next ((((s.begin t).updMb fun m => { m with bind := m.bind.set n (Tmr.of w) }).storeRegister).record
        .svc .bindChange [n.val, w.toNat]) := by
  obtain ⟨vec, hvec, hvector⟩ : ∃ vec < 16, (if bitsOf v.toNat 3 0 = 1 then 256 * bitsOf v.toNat 11 8 else 0) = 256 * vec := by
    split
    · exact ⟨bitsOf v.toNat 11 8, bitsOf_lt _ 11 8, rfl⟩
    · exact ⟨0, by decide, rfl⟩
  refine ⟨vec, hvec, _, rfl, ?_⟩
  simp only [execMbBindWrite, State.begin_up, State.begin_lockMb, State.begin_mb, State.begin_isPair, hsvc, hlock, hgo, hok, hvector,
    Bool.not_true, Bool.false_eq_true, if_false, Bool.or_false]
  rfl

/-- A legal binding of an idle mailbox is in force, its enable, sender and receiver as written. -/
theorem mbBindWrite_legal (t : Ns) (n : Fin 32) (v : Word) (s : State) (hsvc : s.up .svc = true) (hlock : s.lockMb = false)
    (hgo : s.mb.boxes[n].go = false) (hok : bindingOk s.isPair v.toNat = true) : Completes (.mbBindWrite t n v) s fun u =>
      u.bindSender n = Ident.ofCode (bitsOf v.toNat 7 4) ∧ u.bindReceiver n = Ident.ofCode (bitsOf v.toNat 3 0) ∧
      u.bindEnabled n = (bitsOf v.toNat 12 12 == 1) ∧ u.mb.boxes = s.mb.boxes ∧ u.mb.bindErr = s.mb.bindErr ∧
      ∀ k : Fin 32, k ≠ n → u.mb.bind[k] = s.mb.bind[k] := by
  obtain ⟨vec, hvec, w, hw, hexec⟩ := execMbBindWrite_legal t hsvc hlock hgo hok
  obtain ⟨hsnd, hrcv, hen⟩ := bindWordOf_fields (bitsOf_lt v.toNat 12 12) hvec (bitsOf_lt v.toNat 7 4) (bitsOf_lt v.toNat 3 0)
  rw [← hw] at hsnd hrcv hen
  refine ⟨_, hexec, ?_⟩
  have hmb : ∀ (src : Isl) (kind : RecKind) (l : List Int) (u : State), (u.storeRegister.record src kind l).mb = u.mb :=
    fun src kind l u => State.record_mb src kind l u.storeRegister
  simp only [State.bindSender, State.bindReceiver, State.bindEnabled, State.bindWord, hmb, State.updMb_mb, Fin.getElem_fin,
    Vector.getElem_set_self, hsnd, hrcv, hen]
  refine ⟨trivial, trivial, trivial, rfl, rfl, fun k hk => ?_⟩
  exact Vector.getElem_set_ne _ _ fun h => hk (Fin.ext h.symm)

/-- Under the lock a binding only sets the errors. -/
theorem mbBindWrite_locked (t : Ns) (n : Fin 32) (v : Word) (s : State) (hsvc : s.up .svc = true) (hlock : s.lockMb = true) :
    Completes (.mbBindWrite t n v) s fun u => u.mb = { s.mb with bindErr := true } ∧ u.regs.modErr.getLsbD meLockedWrite = true := by
  refine ⟨((s.begin t).modError meLockedWrite (0x5000 + 4 * n.val)).updMb fun m => { m with bindErr := true }, ?_, rfl, ?_⟩
  · simp [exec_mbBindWrite, execMbBindWrite, hsvc, hlock]
  · rw [State.updMb_regs, State.modError_regs, getLsbD_putBit _ (by decide), if_pos rfl]

/-! ### The obligation -/

/-- Settles O39: each kind of access has its lemma above. -/
theorem mailboxes : Obligations.Mailboxes :=
  ⟨mbDataWrite_idle, mbDataWrite_notBound, mbPost_idle, mbPost_full, mbTake_inTime, mbTake_late, mbTake_noSvc, withdraw_posted,
    withdraw_taken, ackExpired_due, mbBindWrite_legal, mbBindWrite_locked⟩

end Sys2Proof.Machine
end

section
/-! The margin ledger (obligation MarginLedger): what a warning, a margin and a measurement do to the module, then one lemma per kind
of measurement. -/

namespace Sys2Proof.Machine

/-! ### Warnings and margins -/

/-- From `s` to `t` the module changes at most in its ledger and its health level, and the last value of entry `i` stays. -/
structure LedgerOnly (i : Fin 9) (s t : State) : Prop where
  mod : ∃ l h, t.mod = { s.mod with ledger := l, health := h }
  last : t.mod.ledger[i].last = s.mod.ledger[i].last
  sends : Sends s t

namespace LedgerOnly

theorem refl (i : Fin 9) (s : State) : LedgerOnly i s s := ⟨⟨_, _, rfl⟩, rfl, .refl s⟩

theorem trans {i : Fin 9} {s t u : State} (h : LedgerOnly i s t) (k : LedgerOnly i t u) : LedgerOnly i s u := by
  obtain ⟨l, a, hst⟩ := h.mod
  obtain ⟨m, b, htu⟩ := k.mod
  exact ⟨⟨m, b, by rw [htu, hst]⟩, k.last.trans h.last, h.sends.trans k.sends⟩

/-- An update of one entry that keeps the last value. -/
theorem of_set {i : Fin 9} {s t : State} {e : LedgerEntry} {h : Health}
    (hmod : t.mod = { s.mod with ledger := s.mod.ledger.set i e, health := h }) (hlast : e.last = s.mod.ledger[i].last)
    (hsends : Sends s t) : LedgerOnly i s t := ⟨⟨_, _, hmod⟩, by rw [hmod]; simp [hlast], hsends⟩

end LedgerOnly

section
variable (i : Fin 9)

theorem State.settleHealth_ledger (s : State) : LedgerOnly i s s.settleHealth :=
  ⟨⟨_, _, s.settleHealth_mod⟩, by rw [State.settleHealth_mod], s.settleHealth_sends⟩

/-- A ledger warning changes the warning bit of its entry, and the health level. -/
theorem State.ledgerWarn_ledger (on : Bool) (index : Nat) (value : Rat) (s : State) :
    LedgerOnly i s (s.ledgerWarn i on index value) := by
  unfold State.ledgerWarn
  dsimp only
  split
  · exact .refl i s
  · refine .trans (.of_set (e := { s.mod.ledger[i] with warning := on }) (h := s.mod.health) ?_ rfl ?_) (State.settleHealth_ledger i _)
    · split <;> simp [State.updLedger, State.updMod]
    · have hrec := (s.updMod_sends fun m => { m with ledger := m.ledger.set i { m.ledger[i] with warning := on } }).trans
        (State.record_sends _ .svc .ledgerWarn [i.val, b2n on, index, (value * 1000).floor])
      split
      · exact hrec.trans (State.postEvent_sends _ _ _ _)
      · exact hrec

/-- A margin is noted where it changed. -/
theorem State.replanIf_ledger (c : Bool) (index : Nat) (margin : Rat) (s : State) :
    LedgerOnly i s (if c = true then s.replanMargin i index margin else s) := by
  split
  · exact .of_set (State.record_mod _ _ _ _) rfl ((s.updMod_sends _).trans (State.record_sends _ _ _ _))
  · exact .refl i s

end

/-! ### Hold-up tests (R536) -/

/-- T_HU after a measured hold-up time: the first replaces the factory's, a later one only lowers it. -/
def Module.holdup (m : Module) (v : Rat) : Rat := if m.ledger[(2 : Fin 9)].worst.isNone then v else min m.tHu v

/-- A measured hold-up time is the last value of entry 2 and enters T_HU; the rest is its margin and warning. -/
theorem State.measureHoldup_ledger (v : Rat) (s : State) :
    LedgerOnly 2 ((s.updLedger 2 (LedgerEntry.measured s.now s.mod.opSeconds true v)).updMod fun m => { m with tHu := s.mod.holdup v })
      (s.measureHoldup v) :=
  (State.replanIf_ledger 2 (s.mod.holdup v != s.mod.tHu) 0 (s.mod.holdup v) _).trans (State.ledgerWarn_ledger 2 _ _ _ _)

/-- What a measured hold-up time leaves in the module. -/
theorem State.measureHoldup_spec (v : Rat) (s : State) : (s.measureHoldup v).mod.tHu = s.mod.holdup v ∧
    (s.measureHoldup v).mod.ledger[2].last = some (v, s.now) ∧ (s.measureHoldup v).free = s.free := by
  obtain ⟨⟨l, h, hmod⟩, hlast, hsends⟩ := s.measureHoldup_ledger v
  refine ⟨by rw [hmod]; rfl, hlast.trans ?_, hsends.free⟩
  simp [State.updMod, State.updLedger, LedgerEntry.measured]

/-- A test with a fall of VLOG keeps the least hold-up time and its last value, and draws nothing. -/
theorem State.holdupTest_spec (m : HoldupMeas) (s : State) (hfall : m.vMean * m.dV ≠ 0) :
    (s.holdupTest m).mod.tHu = s.mod.holdup (holdupTime 0 m) ∧
    (s.holdupTest m).mod.ledger[2].last = some (holdupTime 0 m, s.now) ∧ (s.holdupTest m).free = s.free := by
  have hv : holdupTime (Config.freeRat s.free) m = holdupTime 0 m := by simp only [holdupTime, if_neg hfall]
  obtain ⟨hthu, hlast, hfree⟩ := (s.record .svc .ledgerTest [(holdupTime 0 m * 10).floor]).measureHoldup_spec (holdupTime 0 m)
  rw [State.holdupTest]
  simp only [hv, if_neg hfall]
  refine ⟨hthu.trans (by rw [State.record_mod]), hlast.trans ?_, hfree.trans (State.record_free _ _ _ _)⟩
  simp [State.now]

/-- The least hold-up time as the obligation states it. -/
theorem Module.holdup_cases (m : Module) (v : Rat) :
    (m.ledger[2].worst ≠ none → m.holdup v = min m.tHu v) ∧ (m.ledger[2].worst = none → m.holdup v = v) := by
  unfold Module.holdup
  refine ⟨fun h => ?_, fun h => ?_⟩
  · exact if_neg (by simpa using h)
  · exact if_pos (by simpa using h)

theorem ledgerTest_done (t : Ns) (org : Origin) (m : HoldupMeas) (s : State) (hadm : (s.begin t).Admits org opLedgerTest [.svc])
    (hpos : s.testPossible = true) (hfall : m.vMean * m.dV ≠ 0) : Completes (.ledgerTest t org m) s fun u =>
      (s.mod.ledger[2].worst ≠ none → u.mod.tHu = min s.mod.tHu (holdupTime 0 m)) ∧
      (s.mod.ledger[2].worst = none → u.mod.tHu = holdupTime 0 m) ∧
      u.mod.ledger[2].last = some (holdupTime 0 m, (s.begin t).now) ∧ u.free = s.free := by
  obtain ⟨hthu, hlast, hfree⟩ := (s.begin t).holdupTest_spec m hfall
  have hchecks : fails (!(s.begin t).testPossible) (.error stTestNotPossible) = none := by simp [fails, hpos]
  obtain ⟨hworst, hfirst⟩ := s.mod.holdup_cases (holdupTime 0 m)
  rw [Completes, exec_ledgerTest, execLedgerTest]
  refine ⟨_, serve_next hadm rfl hchecks, ?_⟩
  rw [State.complete_mod, hthu]
  exact ⟨hworst, hfirst, hlast, (State.complete_sends _ _ _).free.trans hfree⟩

theorem holdupTest_done (t : Ns) (m : HoldupMeas) (s : State) (hup : s.up .svc = true) (hpos : s.testPossible = true)
    (hfall : m.vMean * m.dV ≠ 0) : Completes (.holdupTest t m) s fun u =>
      (s.mod.ledger[2].worst ≠ none → u.mod.tHu = min s.mod.tHu (holdupTime 0 m)) ∧
      (s.mod.ledger[2].worst = none → u.mod.tHu = holdupTime 0 m) ∧
      u.mod.ledger[2].last = some (holdupTime 0 m, (s.begin t).now) ∧ u.stores = s.stores := by
  obtain ⟨hthu, hlast, -⟩ := (s.begin t).holdupTest_spec m hfall
  obtain ⟨hworst, hfirst⟩ := s.mod.holdup_cases (holdupTime 0 m)
  refine ⟨(s.begin t).holdupTest m, by simp [exec_holdupTest, execHoldupTest, hpos, hup], ?_⟩
  beta_reduce
  rw [hthu]
  exact ⟨hworst, hfirst, hlast, (State.holdupTest_keep m _).same .stores (by decide)⟩

/-! ### Measurements (R534, R535) -/

/-- A measured resistance ratio is the last value of entry 0 and enters the worst of its channel; the rest is its margin and
warning. -/
theorem State.measureRon_ledger (ch : Fin 128) (v : Rat) (s : State) :
    LedgerOnly 0 (((s.updLedger 0 (LedgerEntry.measured s.now s.mod.opSeconds false v)).detail 0 ch.val v).updMod fun m =>
      { m with rWorst := m.rWorst.set ch (max s.mod.rWorst[ch] v) }) (s.measureRon ch v) :=
  (State.replanIf_ledger 0 (max s.mod.rWorst[ch] v != s.mod.rWorst[ch]) ch.val (1 / 2 / sqrtR (max s.mod.rWorst[ch] v)) _).trans
    (State.ledgerWarn_ledger 0 _ _ _ _)

/-- The worst resistance ratio of a channel. -/
theorem ledgerMeasurement_ron (t : Ns) (ch : Fin 128) (v : Rat) (s : State) (hup : s.up .svc = true) (hpow : s.mod.powered = true) :
    Completes (.ledgerMeasurement t 0 ch.val v) s fun u =>
      u.mod.rWorst = s.mod.rWorst.set ch (max s.mod.rWorst[ch] v) ∧ u.mod.ledger[0].last = some (v, (s.begin t).now) ∧
      u.mod.tHu = s.mod.tHu ∧ u.mod.tLim = s.mod.tLim ∧ u.mod.drift = s.mod.drift := by
  have hrun : exec (.ledgerMeasurement t 0 ch.val v) s = .next ((s.begin t).measureRon ch v).settleHealth := by
    simp [exec_ledgerMeasurement, execLedgerMeasurement, hup, hpow]
  obtain ⟨⟨l, h, hmod⟩, hlast, -⟩ := ((s.begin t).measureRon_ledger ch v).trans (State.settleHealth_ledger 0 _)
  refine ⟨_, hrun, ?_⟩
  generalize State.settleHealth _ = u at hmod hlast
  have hlast' : u.mod.ledger[(0 : Fin 9)].last = some (v, (s.begin t).now) := by
    rw [hlast]
    simp [State.updMod, State.updLedger, State.detail, LedgerEntry.measured]
  refine ⟨?_, hlast', ?_⟩ <;> simp [hmod, State.updMod, State.updLedger, State.detail]

/-- A reaction above the safety time waits to raise it. -/
theorem ledgerMeasurement_reaction (t : Ns) (i : Nat) (v : Rat) (s : State) (hup : s.up .svc = true) (hpow : s.mod.powered = true)
    (hmore : s.saf.tMus < v.ceil.toNat) : Completes (.ledgerMeasurement t 7 i v) s fun u =>
      u.saf = { s.saf with tMraise := some (max v.ceil.toNat (s.saf.tMraise.getD 0)) } := by
  have hmore' : ((s.begin t).updLedger 7 (LedgerEntry.measured (s.begin t).now s.mod.opSeconds false v)).saf.tMus < v.ceil.toNat :=
    hmore
  have hnot : (!(s.begin t).up .svc || !(s.begin t).mod.powered) = false := by simp [hup, hpow]
  rw [Completes, exec_ledgerMeasurement, execLedgerMeasurement]
  simp only [hnot, Bool.false_eq_true, if_false]
  exact ⟨_, congrArg Host.Outcome.next (if_pos hmore'), rfl⟩

/-- A second of operation counts. -/
theorem ledgerMeasurement_second (t : Ns) (i : Nat) (v : Rat) (s : State) (hup : s.up .svc = true) (hpow : s.mod.powered = true) :
    Completes (.ledgerMeasurement t 8 i v) s fun u => u.mod.opSeconds = s.mod.opSeconds + 1 ∧ u.saf = s.saf :=
  ⟨(s.begin t).countSecond, by simp [exec_ledgerMeasurement, execLedgerMeasurement, hup, hpow], rfl, rfl⟩

/-! ### Thermal hours (R534, R537) -/

/-- The module with a second's hours and their limit; the rest of THERMAL_HOURS is margin and warning. -/
def State.addHours (hours : Rat) (s : State) : State :=
  (s.updMod fun m => { m with thermalHours := hours, tLim := min s.mod.tLim (tLimAt hours) }).updLedger 6
    (LedgerEntry.measured s.now s.mod.opSeconds false hours)

theorem thermalHours_ledger (t : Ns) (a : Nat) (l : List Nat) (s : State) (hup : s.up .svc = true) (hpow : s.mod.powered = true) :
    ∃ u, exec (.thermalHours t (a :: l)) s = .next u ∧
      LedgerOnly 6 ((s.begin t).addHours (trim64 (s.mod.thermalHours + arrhenius (l.foldl max a) / 3600))) u := by
  have hnot : (!(s.begin t).up .svc || !(s.begin t).mod.powered) = false := by simp [hup, hpow]
  rw [exec_thermalHours, execThermalHours]
  simp only [hnot, Bool.false_eq_true, if_false]
  exact ⟨_, rfl, ((State.replanIf_ledger 6 _ 0 _ _).trans (State.ledgerWarn_ledger 6 _ 0 _ _)).trans (State.settleHealth_ledger 6 _)⟩

/-- A second at the hottest sensor. -/
theorem thermalHours_next (t : Ns) (a : Nat) (l : List Nat) (s : State) (hup : s.up .svc = true) (hpow : s.mod.powered = true) :
    Completes (.thermalHours t (a :: l)) s fun u =>
      u.mod.thermalHours = trim64 (s.mod.thermalHours + arrhenius (l.foldl max a) / 3600) ∧
      u.mod.tLim = min s.mod.tLim (tLimAt u.mod.thermalHours) ∧ u.mod.rWorst = s.mod.rWorst ∧ u.mod.tHu = s.mod.tHu := by
  obtain ⟨u, hrun, ⟨m, h, hmod⟩, -, -⟩ := thermalHours_ledger t a l s hup hpow
  refine ⟨u, hrun, ?_⟩
  simp [hmod, State.addHours, State.updMod, State.updLedger]

/-- Settles O46: an entry, its margin and its warning touch the ledger and the health level alone, and the measured values are
read off the update before them. -/
theorem marginLedger : Obligations.MarginLedger := by
  unfold Obligations.MarginLedger
  exact ⟨ledgerTest_done, holdupTest_done, ledgerMeasurement_ron, ledgerMeasurement_reaction, ledgerMeasurement_second,
    thermalHours_next⟩

end Sys2Proof.Machine
end

section
/-! Island crossings (obligation CrossingsAndRecords), refuted. A stall of SAF is an island fault, which posts the status of the safety
functions to the mailboxes bound from SAF; a post to a receiver that sleeps wakes its domain, and the crossings that wait for that
domain then start their time-out again. So more changes in the crossings than that those of the stalled island go. -/

namespace Sys2Proof.Machine

/-! ### The counterexample -/

/-- Mailbox 0 carries the posts of SAF to CTL; no other mailbox is bound. -/
def statusBind : Vector Tmr 32 := (Vector.replicate 32 {}).set 0 (Tmr.of 0x1095)

/-- Every domain is on but CTL, which sleeps. -/
def ctlSleeps : Vector Dom 9 := #v[.off, .on, .on, .on, .sleep, .on, .on, .off, .on]

/-- A crossing waits for CTL since instant 0, and SAF posts its status to CTL. -/
def statusToSleeper : State :=
  { State.reset with crossings := [⟨.svc, .ctl, 0, .other 0⟩], mb := { bind := statusBind, domains := ctlSleeps } }

/-! ### Until the status is posted -/

/-- Mailbox 0 is bound from SAF to CTL, which sleeps, and every crossing waits for CTL. -/
structure SleeperBound (s : State) : Prop where
  bind : s.mb.bind = statusBind
  domains : s.mb.domains = ctlSleeps
  clock : 0 < s.clock
  waiting : ∀ x ∈ s.crossings, x.dst = .ctl

/-- A post of SAF in mailbox 0 would find the mailbox idle and CTL asleep. -/
structure PostWakesCtl (s : State) : Prop extends SleeperBound s where
  idle : s.mb.boxes[(0 : Fin 32)].go = false
  svc : s.up .svc = true

namespace PostWakesCtl
variable {s t : State}

theorem of_same (h : PostWakesCtl s) (hmb : t.mb = s.mb) (hup : t.up .svc = s.up .svc) (hc : s.clock ≤ t.clock)
    (hx : t.crossings = s.crossings) : PostWakesCtl t :=
  ⟨⟨by rw [hmb, h.bind], by rw [hmb, h.domains], h.clock.trans_le hc, hx ▸ h.waiting⟩, by rw [hmb, h.idle], by rw [hup, h.svc]⟩

/-- What leaves the hub, the islands and the crossings alone. -/
theorem of_keep {m : Nat} (h : PostWakesCtl s) (k : Keep m s t)
    (hm : (m.testBit Aspect.mb.bit || m.testBit Aspect.islands.bit || m.testBit Aspect.crossings.bit) = false) : PostWakesCtl t := by
  simp only [Bool.or_eq_false_iff] at hm
  obtain ⟨⟨hmb, hisl⟩, hx⟩ := hm
  exact h.of_same (k.same .mb hmb) (by rw [State.up, State.up, State.island, State.island, k.same .islands hisl]) k.clock
    (k.same .crossings hx)

theorem record (h : PostWakesCtl s) (src : Isl) (kind : RecKind) (items : List Int) : PostWakesCtl (s.record src kind items) :=
  h.of_same (State.record_mb _ _ _ _) (State.record_up _ _ _ _ _) (State.record_keep _ _ _ _).clock (State.record_crossings _ _ _ _)

theorem setSf (h : PostWakesCtl s) (sf : Fin 48) (x : SfState) : PostWakesCtl (s.setSf sf x) := by
  unfold State.setSf
  dsimp only
  split
  · exact h
  · exact (h.of_keep (State.updFn_keep sf _ s) (by decide)).record _ _ _

theorem safAnswer (h : PostWakesCtl s) (kind : RecKind) (org : Origin) (o : Outcome) : PostWakesCtl (s.safAnswer kind org o) :=
  (h.record _ _ _).of_keep (State.complete_keep org o _) (by decide)

end PostWakesCtl

/-! ### From the post on -/

/-- No crossing waits since instant 0. -/
structure NoneSinceStart (s : State) : Prop where
  clock : 0 < s.clock
  since : ∀ x ∈ s.crossings, 0 < x.since

namespace NoneSinceStart
variable {s t : State}

/-- What leaves the crossings alone. -/
theorem of_keep {m : Nat} (h : NoneSinceStart s) (k : Keep m s t) (hm : m.testBit Aspect.crossings.bit = false) :
    NoneSinceStart t :=
  ⟨h.clock.trans_le k.clock, by rw [k.same .crossings hm]; exact h.since⟩

/-- A crossing that starts its time-out again starts it now. -/
theorem of_restart (hc : 0 < t.clock) (k : Isl) {l : List Crossing}
    (ht : t.crossings = l.map fun x => if x.dst == k then { x with since := t.clock } else x)
    (hl : ∀ x ∈ l, x.dst = k ∨ 0 < x.since) : NoneSinceStart t := by
  refine ⟨hc, fun x hx => ?_⟩
  obtain ⟨y, hy, rfl⟩ := List.mem_map.mp (ht ▸ hx)
  split
  · exact hc
  · rename_i hdst
    exact (hl y hy).resolve_left fun e => hdst (by simp [e])

theorem setDomain_on (h : NoneSinceStart s) (i : Ident) : NoneSinceStart (s.setDomain i .on) := by
  unfold State.setDomain
  split
  · exact h
  · refine NoneSinceStart.of_keep ?_ (State.record_keep _ _ _ _) (by decide)
    unfold State.domainCrossings
    split
    · exact ⟨h.clock, h.since⟩
    · exact of_restart h.clock _ rfl fun x hx => .inr (h.since x hx)

/-- The wake-up of CTL starts the time-outs of the crossings that wait for it again. -/
theorem setDomain_ctl (hc : 0 < s.clock) (hsleeps : s.domain .ctl ≠ .on) (hwait : ∀ x ∈ s.crossings, x.dst = .ctl) :
    NoneSinceStart (s.setDomain .ctl .on) := by
  unfold State.setDomain
  rw [if_neg hsleeps]
  refine NoneSinceStart.of_keep ?_ (State.record_keep _ _ _ _) (by decide)
  exact of_restart hc .ctl rfl fun x hx => .inl (hwait x hx)

theorem wakeReceiver (h : NoneSinceStart s) (n : Fin 32) : NoneSinceStart (s.wakeReceiver n) := by
  unfold State.wakeReceiver
  split
  · split
    · exact h.of_keep (State.signal_keep _ s) (by decide)
    · exact ⟨h.clock, h.since⟩
    · exact h
  · exact h
  · exact h
  · exact h
  · dsimp only
    have hwoken : ∀ r : Ident, NoneSinceStart (if s.domain r = .sleep then s.setDomain r .on else s) := by
      intro r
      split
      · exact h.setDomain_on r
      · exact h
    split
    · exact (hwoken _).of_keep (State.pushEvent_keep _ _ _) (by decide)
    · exact hwoken _
    · exact ⟨(hwoken _).clock, (hwoken _).since⟩

theorem hubPost (h : NoneSinceStart s) (who : Ident) (n : Fin 32) : NoneSinceStart (s.hubPost who n) := by
  unfold State.hubPost
  dsimp only
  split_ifs
  · exact ⟨h.clock, h.since⟩
  · exact ⟨h.clock, h.since⟩
  · exact h.of_keep ((State.updBox_keep n _ s).trans (State.accessOff_keep who n _)) (by decide)
  · exact ⟨h.clock, h.since⟩
  · exact ⟨h.clock, h.since⟩
  · exact ((h.of_keep (State.updBox_keep n _ s) (by decide)).of_keep
      ((State.markCrossed_keep n _).trans (State.toPartner_keep _ _)) (by decide)).wakeReceiver n
  · exact ((h.of_keep (State.updBox_keep n _ s) (by decide)).of_keep (State.markCrossed_keep n _) (by decide)).wakeReceiver n

theorem programPost (h : NoneSinceStart s) (who : Ident) (n : Fin 32) (data : List Word) :
    NoneSinceStart (s.programPost who n data) := by
  unfold State.programPost State.atHub
  split
  · exact ⟨h.clock, h.since⟩
  · refine (List.foldlRecOn _ _ h fun t ht j _ => ?_).hubPost who n
    split
    · exact ht.of_keep (State.hubData_keep who n j _ t) (by decide)
    · exact ht

end NoneSinceStart
/-! ### The post of mailbox 0 -/

namespace SleeperBound
variable {s : State}

theorem bindWord_zero (h : SleeperBound s) : s.bindWord 0 = 0x1095 := by
  rw [State.bindWord, h.bind]
  decide

theorem bindSender_zero (h : SleeperBound s) : s.bindSender 0 = .saf := by rw [State.bindSender, h.bindWord_zero]; rfl
theorem bindReceiver_zero (h : SleeperBound s) : s.bindReceiver 0 = .ctl := by rw [State.bindReceiver, h.bindWord_zero]; rfl
theorem bindEnabled_zero (h : SleeperBound s) : s.bindEnabled 0 = true := by rw [State.bindEnabled, h.bindWord_zero]; rfl

theorem bindEnabled_other (h : SleeperBound s) {n : Fin 32} (hn : n ≠ 0) : s.bindEnabled n = false := by
  have hword : ∀ n : Fin 32, n ≠ 0 → (statusBind[n].vote bindFields).toNat = 0 := by decide
  rw [State.bindEnabled, State.bindWord, h.bind, hword n hn]
  rfl

theorem domain_ctl (h : SleeperBound s) : s.domain .ctl = .sleep := by
  rw [State.domain, h.domains]
  rfl

theorem receiverOff_zero (h : SleeperBound s) : s.receiverOff 0 = false := by
  rw [State.receiverOff, h.bindReceiver_zero, h.domain_ctl]
  rfl

theorem updBox (h : SleeperBound s) (n : Fin 32) (f : Mailbox → Mailbox) : SleeperBound (s.updBox n f) :=
  ⟨h.bind, h.domains, h.clock, h.waiting⟩

theorem markCrossed (h : SleeperBound s) (n : Fin 32) : SleeperBound (s.markCrossed n) := by
  refine forAll_induction (fun k t ht => ?_) h
  split
  · exact (ht.updBox _ _).updBox _ _
  · exact ht

/-- The wake-up of the receiver of mailbox 0. -/
theorem wakeReceiver (h : SleeperBound s) : NoneSinceStart (s.wakeReceiver 0) := by
  have hwoken : NoneSinceStart (s.setDomain .ctl .on) :=
    .setDomain_ctl h.clock (by rw [h.domain_ctl]; decide) h.waiting
  unfold State.wakeReceiver
  rw [h.bindReceiver_zero]
  simp only [h.domain_ctl, if_true]
  exact ⟨hwoken.clock, hwoken.since⟩

end SleeperBound

namespace PostWakesCtl
variable {s : State}

theorem hubData (h : PostWakesCtl s) (j : Fin 16) (v : Word) : PostWakesCtl (s.hubData .saf 0 j v) := by
  have hgo : ¬ s.mb.boxes[(0 : Fin 32)].go = true := by simp [-Fin.getElem_fin, h.idle]
  unfold State.hubData
  rw [if_neg (by simp [h.receiverOff_zero]), if_neg (by simp [h.bindSender_zero]), if_neg hgo]
  exact ⟨h.updBox 0 _, by rw [State.updBox_same]; exact h.idle, h.svc⟩

/-- A post of SAF in mailbox 0 wakes CTL. -/
theorem hubPost (h : PostWakesCtl s) : NoneSinceStart (s.hubPost .saf 0) := by
  have hgo : ¬ s.mb.boxes[(0 : Fin 32)].go = true := by simp [-Fin.getElem_fin, h.idle]
  unfold State.hubPost
  dsimp only
  rw [if_neg (by simp [h.bindSender_zero]), if_neg hgo, if_neg (by simp [h.receiverOff_zero]), if_neg (by simp [h.bindReceiver_zero]),
    if_neg (by simp [h.bindEnabled_zero]), if_neg (by simp [h.bindReceiver_zero])]
  exact ((h.updBox 0 _).markCrossed 0).wakeReceiver

theorem programPost (h : PostWakesCtl s) (data : List Word) : NoneSinceStart (s.programPost .saf 0 data) := by
  have hcode : s.islandCode .svc = none := by
    have hrun : (s.island .svc).state = .running := by simpa [State.up] using h.svc
    simp [State.islandCode, State.domainOff, hrun]
  rw [State.programPost, State.atHub, hcode]
  refine PostWakesCtl.hubPost (List.foldlRecOn _ _ h fun t ht j _ => ?_)
  split
  · exact ht.hubData j _
  · exact ht

/-- The status goes to mailbox 0, and wakes CTL. -/
theorem postStatus (h : PostWakesCtl s) : NoneSinceStart (s.postStatus true) := by
  unfold State.postStatus
  refine forAll_at (P := PostWakesCtl) (Q := NoneSinceStart) 0 (fun n hn t ht => ?_) (fun t ht => ?_) (fun n _ t ht => ?_) h
  · rw [ht.bindEnabled_other hn]
    exact ht
  · rw [if_pos (by simp [ht.bindEnabled_zero, ht.bindSender_zero]), if_neg (by simp [-Fin.getElem_fin, ht.idle, ht.svc])]
    exact (ht.programPost _).of_keep (State.updMb_keep _ _) (by decide)
  · split_ifs
    · exact ht.of_keep (State.updMb_keep _ _) (by decide)
    · exact (ht.programPost _ _ _).of_keep (State.updMb_keep _ _) (by decide)
    · exact ht

/-- The answer to a SAFETY_CONFIRM in progress. -/
theorem answerActivate (h : PostWakesCtl s) : PostWakesCtl (match s.saf.activate with
    | some (org, _) => (s.updSaf fun v => { v with activate := none }).safAnswer .safetyConfirm org (.error stWrongState)
    | none => s) := by
  split
  · exact PostWakesCtl.safAnswer (h.of_keep (State.updSaf_keep _ s) (by decide)) _ _ _
  · exact h

/-- An island fault of SAF posts its status. -/
theorem islandFault (h : PostWakesCtl s) (hfault : s.saf.fault = none) (cls : SafFault) : NoneSinceStart (s.islandFault cls) := by
  have hend : ∀ t : State, NoneSinceStart t →
      NoneSinceStart (if (t.isPair && t.pair.state == .lead) = true then t.updPair fun p => { p with handoverDue := some rsHandover }
        else t).settleHealth := by
    intro t ht
    refine NoneSinceStart.of_keep ?_ (State.settleHealth_keep _) (by decide)
    split
    · exact ⟨ht.clock, ht.since⟩
    · exact ht
  have hset : ∀ t : State, PostWakesCtl t → PostWakesCtl (t.updSaf fun v => { v with fault := some cls, release := none }) :=
    fun t ht => ht.of_keep (State.updSaf_keep _ t) (by decide)
  unfold State.islandFault
  rw [if_neg (by simp [hfault])]
  refine hend _ (PostWakesCtl.postStatus (hset _ (answerActivate ?_)))
  have hprod : ∀ t : State, PostWakesCtl t → PostWakesCtl (if t.isPair = true then
      forAll 32 (fun i s => s.updConn i fun c => { c with prodAt := none, carried := [] }) t
      else t.produceAll (t.now / 1000000 * 1000000) true) := by
    intro t ht
    split
    · exact forAll_induction (fun i u hu => hu.of_keep (State.updConn_keep i _ u) (by decide)) ht
    · exact ht.of_keep (State.produceAll_keep _ _ t) (by decide)
  refine hprod _ (forAll_induction (fun ax t ht => ?_) (forAll_induction (fun g t ht => ?_) (forAll_induction (fun c t ht => ?_)
    (forAll_induction (fun sf t ht => ?_) (h.record _ _ _)))))
  · split
    · exact ht.of_keep (State.updAxis_keep ax _ t) (by decide)
    · exact ht
  · split
    · exact ht.of_keep (State.updGroup_keep g _ t) (by decide)
    · exact ht
  · split_ifs
    · exact ht.of_keep ((State.updChan_keep c _ t).trans (State.updChan_keep c _ _)) (by decide)
    · exact ht.of_keep (State.updChan_keep c _ t) (by decide)
    · exact ht
  · split
    · exact ht.setSf sf _
    · exact ht

end PostWakesCtl

/-! ### The refutation -/

theorem statusToSleeper_stalls : PostWakesCtl ((statusToSleeper.begin 20000000).markStall .saf .stalled .stalled) := by
  unfold State.markStall
  exact PostWakesCtl.record ⟨⟨rfl, rfl, by decide, by decide⟩, rfl, by decide⟩ _ _ _

/-- Once SAF has stalled for want of service, no crossing waits since instant 0. -/
theorem statusToSleeper_expiry : ∃ u, exec (.islandWatchdogExpiry 20000000 .saf) statusToSleeper = .next u ∧ NoneSinceStart u := by
  have hdue : (!(statusToSleeper.begin 20000000).up .saf || !(statusToSleeper.begin 20000000).domainOn .saf ||
      decide ((statusToSleeper.begin 20000000).clock < (statusToSleeper.begin 20000000).due .saf
        ((statusToSleeper.begin 20000000).island .saf).serviced Isl.saf.watchdog)) = false := by decide +kernel
  have hfault : ((statusToSleeper.begin 20000000).markStall .saf .stalled .stalled).saf.fault = none := by
    rw [(State.markStall_keep .saf .stalled .stalled _).same .saf (by decide)]
    rfl
  rw [exec_islandWatchdogExpiry, execIslandWatchdogExpiry]
  simp only [hdue, Bool.false_eq_true, if_false]
  exact ⟨_, rfl, (statusToSleeper_stalls.islandFault hfault .stall).of_keep (State.settleHealth_keep _) (by decide)⟩

/-- Refutes O1: a stall of SAF posts the status of the safety functions, which wakes a receiver that sleeps and starts the
time-outs of the crossings to it again. -/
theorem not_crossingsAndRecords : ¬ Obligations.CrossingsAndRecords := by
  unfold Obligations.CrossingsAndRecords
  rintro ⟨-, -, hwatchdog, -⟩
  obtain ⟨u, hrun, -, hcross⟩ := hwatchdog 20000000 .saf statusToSleeper (by decide) (by decide) (by decide +kernel)
  obtain ⟨v, hexpiry, hnone⟩ := statusToSleeper_expiry
  obtain rfl : u = v := Host.Outcome.next.inj (hrun.symm.trans hexpiry)
  have hwaits : (⟨.svc, .ctl, 0, .other 0⟩ : Crossing) ∈ u.crossings := by rw [hcross]; decide
  exact absurd (hnone.since _ hwaits) (by decide)

end Sys2Proof.Machine
end

section
/-! Heartbeats (obligation Heartbeats): frames a node originates, what the operations of a heartbeat do to the peers, then one lemma per
kind of heartbeat. -/

namespace Sys2Proof.Machine

/-! ### Frames that a node originates (R325, R329) -/

/-- The counters of the ports stand in the ring's state. -/
theorem State.countPorts_eq (l : List Port) (s : State) :
    ∃ r, l.foldl (fun s p => s.updPort p fun x => { x with txOriginated := satAdd 32 x.txOriginated 1 }) s = { s with ring := r } :=
  List.foldlRecOn (motive := fun t : State => ∃ r, t = { s with ring := r }) l _ ⟨s.ring, rfl⟩ fun t ht p _ => by
    obtain ⟨r, rfl⟩ := ht
    exact ⟨_, rfl⟩

/-- A frame under the node's own address changes the ring's state, and leaves on the ports that are UP. -/
theorem State.originate_eq (cls sub dest : Nat) (payload : Bytes) (l : List Port) (s : State) :
    ∃ r o, s.originate false cls sub dest payload l = { s with ring := r, out := s.out ++ o } ∧
      (s.node ≠ 0 → s.portsUp l ≠ [] →
        o = [.frame (s.portsUp l) (mkBroluma s.node s.ring.seq cls s.ring.epoch.toNat false sub dest s.now payload)]) := by
  obtain ⟨r, hr⟩ := s.countPorts_eq (s.portsUp l)
  unfold State.originate State.sendFrame State.takeSeq
  simp only [Bool.false_and, Bool.false_eq_true, if_false, hr]
  split_ifs with hnode hports
  · exact ⟨s.ring, [], by simp, fun h => absurd hnode h⟩
  · exact ⟨{ r with seq := r.seq + 1 }, [], by simp [State.updRing], fun _ h => absurd (List.isEmpty_iff.mp hports) h⟩
  · exact ⟨_, _, rfl, fun _ _ => rfl⟩

theorem State.originate_pair (cls sub dest : Nat) (payload : Bytes) (l : List Port) (s : State) :
    (s.originate false cls sub dest payload l).pair = s.pair := by
  obtain ⟨r, o, h, -⟩ := s.originate_eq cls sub dest payload l
  rw [h]

theorem State.originate_sends (cls sub dest : Nat) (payload : Bytes) (l : List Port) (s : State) :
    Sends s (s.originate false cls sub dest payload l) := by
  obtain ⟨r, o, h, -⟩ := s.originate_eq cls sub dest payload l
  rw [h]
  exact ⟨rfl, rfl, List.prefix_append _ _⟩

theorem State.requestLead_pair (reason : BitVec 8) (s : State) : (s.requestLead reason).pair = s.pair := by
  unfold State.requestLead
  exact List.foldlRecOn (motive := fun t : State => t.pair = s.pair) _ _ rfl fun t ht n _ => (t.originate_pair _ _ _ _ _).trans ht

theorem State.requestLead_sends (reason : BitVec 8) (s : State) : Sends s (s.requestLead reason) :=
  .foldl (fun u _ => u.originate_sends _ _ _ _ _) _ s

/-! ### The heartbeat period of a member (R372) -/

theorem State.settleReferee_sends (s : State) : Sends s s.settleReferee := by
  unfold State.settleReferee
  dsimp only
  split
  · exact .refl s
  · refine Sends.trans ?_ ((State.postEvent_sends _ _ _ _).trans (State.settleHealth_sends _))
    split
    · exact (s.updPair_sends _).trans (State.record_sends _ _ _ _)
    · exact s.updPair_sends _

theorem State.sendRecords_sends (s : State) : Sends s s.sendRecords := by
  unfold State.sendRecords
  dsimp only
  split_ifs
  · exact (Sends.foldl (fun u _ => u.emit_sends _) _ s).trans (State.updRec_sends _ _)
  · exact s.updRec_sends _
  · exact .refl s

theorem State.beatRequests_sends (o : Bytes) (s : State) : Sends s (s.beatRequests o) := by
  unfold State.beatRequests
  extract_lets a
  have ha : Sends s a := .ite s.settleReferee_sends (.refl s)
  exact ha.trans (.ite (a.requestLead_sends _) (.ite (a.requestLead_sends _) (.refl a)))

theorem State.dueHandover_sends (s : State) : Sends s s.dueHandover := by
  unfold State.dueHandover
  split
  · split
    · exact (s.updPair_sends _).trans (State.originate_sends _ _ _ _ _ _)
    · exact .refl s
  · exact .refl s

theorem State.memberBeat_sends (o : Bytes) (s : State) : Sends s (s.memberBeat o) :=
  (s.sendRecords_sends.trans (State.beatRequests_sends o _)).trans (State.dueHandover_sends _)

theorem State.role_of_isPair {s : State} (h : s.isPair = true) : (s.role == some .referee) = false := by
  rcases (Bool.or_eq_true _ _).mp h with h | h <;> simp [beq_iff_eq.mp h]

/-- A member's heartbeat is the first frame that it sends. -/
theorem heartbeatSend_member (t : Ns) (o : Bytes) (s : State) (hup : s.up .rng = true) (hpair : s.isPair = true)
    (hcfg : s.pair.cfg = some o) (hnow : (s.begin t).beatNow (pcPeriod o) = true) (hnode : s.node ≠ 0)
    (hports : s.portsUp [.a, .b, .l] ≠ []) : Completes (.heartbeatSend t) s fun u =>
      u.out.head? = some (.frame (s.portsUp [.a, .b, .l])
        (mkBroluma s.node s.ring.seq clsPair s.ring.epoch.toNat false 1 0xFFFF (s.begin t).now (s.memberHeartbeat o))) := by
  obtain ⟨r, out, hframe, hout⟩ := (s.begin t).originate_eq clsPair 1 0xFFFF ((s.begin t).memberHeartbeat o) [.a, .b, .l]
  refine ⟨((s.begin t).originate false clsPair 1 0xFFFF ((s.begin t).memberHeartbeat o) [.a, .b, .l]).memberBeat o, ?_, ?_⟩
  · simp [exec_heartbeatSend, execHeartbeatSend, hup, State.role_of_isPair hpair, hpair, hcfg, hnow]
  · obtain ⟨rest, hrest⟩ := (State.memberBeat_sends o ((s.begin t).originate false clsPair 1 0xFFFF
      ((s.begin t).memberHeartbeat o) [.a, .b, .l])).out
    rw [← hrest, hframe, hout hnode hports]
    rfl

/-! ### A heartbeat of the partner (R372, R375) -/

/-- What the peers were heard to say stays. -/
structure PeersSame (s t : State) : Prop where
  partner : t.pair.partner = s.pair.partner
  ref1 : t.pair.ref1 = s.pair.ref1
  ref2 : t.pair.ref2 = s.pair.ref2

namespace PeersSame
variable {s t u : State}

theorem refl (s : State) : PeersSame s s := ⟨rfl, rfl, rfl⟩

theorem trans (h : PeersSame s t) (k : PeersSame t u) : PeersSame s u :=
  ⟨k.partner.trans h.partner, k.ref1.trans h.ref1, k.ref2.trans h.ref2⟩

theorem of_pair (h : t.pair = s.pair) : PeersSame s t := ⟨by rw [h], by rw [h], by rw [h]⟩

theorem ite {c : Prop} [Decidable c] (h : PeersSame s t) (k : PeersSame s u) : PeersSame s (if c then t else u) := by
  split
  · exact h
  · exact k

/-- What leaves the pair alone. -/
theorem of_keep {m : Nat} (k : Keep m s t) (hm : m.testBit Aspect.pair.bit = false) : PeersSame s t := of_pair (k.same .pair hm)

end PeersSame

section
variable (s : State)

theorem State.record_peers (src : Isl) (kind : RecKind) (items : List Int) : PeersSame s (s.record src kind items) :=
  .of_pair (State.record_pair _ _ _ _)

theorem State.losePartner_peers : PeersSame s s.losePartner := ⟨rfl, rfl, rfl⟩

theorem State.releaseForwards_peers : PeersSame s s.releaseForwards := by
  unfold State.releaseForwards
  refine List.foldlRecOn (motive := PeersSame s) _ _ ⟨rfl, rfl, rfl⟩ fun t ht f _ => ht.trans ?_
  split
  · exact ⟨rfl, rfl, rfl⟩
  · exact .refl t

theorem State.planLead_peers (c : LeadChange) : PeersSame s (s.planLead c) := by
  unfold State.planLead
  extract_lets keep
  split
  · exact .refl s
  · exact ⟨rfl, rfl, rfl⟩

theorem State.followTerm_peers (referee : Bool) (term : BitVec 32) (lead : Nat) : PeersSame s (s.followTerm referee term lead) := by
  unfold State.followTerm
  extract_lets pend next
  refine .ite (.ite (.refl s) (.ite (.ite (s.planLead_peers _) (.refl s)) (.ite (.ite (.refl s) (s.planLead_peers _)) ?_)))
    (.ite (s.planLead_peers _) (.refl s))
  exact ⟨rfl, rfl, rfl⟩

theorem State.setMember_peers (m : Member) (cause : Nat) : PeersSame s (s.setMember m cause) := by
  unfold State.setMember
  split
  · exact .refl s
  · exact PeersSame.trans (t := s.updPair _) ⟨rfl, rfl, rfl⟩ (State.record_peers _ _ _ _)

theorem State.startJoin_peers (cause : Nat) : PeersSame s (s.startJoin cause) := by
  unfold State.startJoin
  extract_lets a
  have ha : PeersSame s a := ⟨rfl, rfl, rfl⟩
  exact (ha.trans (a.setMember_peers _ _)).trans (State.record_peers _ _ _ _)

theorem State.shadowHears_peers (ingress : Ns) (wasLost : Bool) (f : Bytes) : PeersSame s (s.shadowHears ingress wasLost f) := by
  unfold State.shadowHears
  exact .ite (.refl s) (.ite (.ite (s.startJoin_peers 9) (.refl s)) (.ite (s.startJoin_peers 9) ⟨rfl, rfl, rfl⟩))

theorem State.emitAll_peers {α : Type} (e : State → α → Emission) (l : List α) :
    PeersSame s (l.foldl (fun s x => s.emit (e s x)) s) :=
  List.foldlRecOn (motive := PeersSame s) l _ (.refl s) fun _ ht _ _ => ht.trans ⟨rfl, rfl, rfl⟩

theorem State.sendFinal_peers (agree : Bool) : PeersSame s (s.sendFinal agree) := by
  unfold State.sendFinal
  extract_lets off fns conns a b c fresh
  have ha : PeersSame s a := s.emitAll_peers (fun s k => .resync (s.pageMsg k)) _
  exact ⟨ha.partner, ha.ref1, ha.ref2⟩

theorem State.letGo_peers : PeersSame s s.losePartner.releaseForwards :=
  s.losePartner_peers.trans (State.releaseForwards_peers _)

theorem State.sendTransfer_peers : PeersSame s s.sendTransfer := by
  unfold State.sendTransfer
  extract_lets step stale late changed
  refine .ite ?_ (.ite ⟨rfl, rfl, rfl⟩ (.ite ?_ (.ite ⟨rfl, rfl, rfl⟩
    (.ite (.ite ?_ (.ite (s.sendFinal_peers true) (.refl s))) (.refl s)))))
  · exact PeersSame.trans (t := s.updPair _) ⟨rfl, rfl, rfl⟩ (State.letGo_peers _)
  · exact (s.emitAll_peers (fun _ m => .resync m) _).trans ⟨rfl, rfl, rfl⟩
  · exact (s.emitAll_peers (fun s k => .resync (s.pageMsg k)) _).trans ⟨rfl, rfl, rfl⟩

theorem State.leadHears_peers (state : Nat) : PeersSame s (s.leadHears state) := by
  unfold State.leadHears
  extract_lets a joined waits b
  have ha : PeersSame s a := .ite ⟨rfl, rfl, rfl⟩ (.refl s)
  have hb : PeersSame s b := ha.trans (.ite a.letGo_peers (.refl a))
  exact hb.trans (.ite b.sendTransfer_peers (.ite (.refl b) ⟨rfl, rfl, rfl⟩))
end

/-- What the partner was heard to say is noted; the rest leaves the peers alone. -/
theorem State.hearPartner_peers (ingress : Ns) (f : Bytes) (s : State) :
    PeersSame (s.updPair fun p => { p with partner := { p.partner with
      last := some (max ingress (p.partner.last.getD 0)), lost := (s.port .l).link != .up, term := hbTerm f, leadNode := hbLead f,
      state := hbState f, since := if s.pair.partner.state = hbState f then s.pair.partner.since else s.clock } })
      (s.hearPartner ingress f) := by
  unfold State.hearPartner
  extract_lets down was a back b c d
  have hb : PeersSame a b := .ite ((a.record_peers _ _ _).trans (.of_keep (State.bumpEpoch_keep _ _) (by decide))) (.refl a)
  have hc : PeersSame b c := .ite
    (PeersSame.trans (t := b.updPair _) ⟨rfl, rfl, rfl⟩ (.of_keep (State.settleHealth_keep _) (by decide)))
    (.refl b)
  have hd : PeersSame c d := .trans (.of_keep (State.settlePartner_keep c) (by decide)) (State.followTerm_peers _ _ _ _)
  refine (hb.trans (hc.trans hd)).trans ?_
  split
  · exact .ite (d.startJoin_peers 2) (.refl d)
  · exact d.shadowHears_peers _ _ _
  · exact d.leadHears_peers _
  · exact .refl d

/-- A heartbeat that a pair member accepts. -/
theorem heartbeat_member (t : Ns) (p : Port) (ingress : Ns) (f : Bytes) (s : State) (hup : s.up .rng = true)
    (hframe : pairFrame 1 f = true) (hlen : 32 ≤ fLength f) (hdest : fDest f = 0xFFFF) (hlink : (s.port p).link = .up)
    (hpair : s.isPair = true) : exec (.heartbeat t p ingress f) s = .next ((s.begin t).memberHears p ingress f) := by
  have hlen' : ¬ fLength f < 32 := hlen.not_gt
  simp [exec_heartbeat, execHeartbeat, hup, hframe, hlen', hdest, hlink, hpair, State.role_of_isPair hpair]

/-- The partner's heartbeat under the same configuration. -/
theorem heartbeat_partner (t : Ns) (p : Port) (ingress : Ns) (f o : Bytes) (s : State) (hup : s.up .rng = true)
    (hframe : pairFrame 1 f = true) (hlen : 32 ≤ fLength f) (hdest : fDest f = 0xFFFF) (hlink : (s.port p).link = .up)
    (hpair : s.isPair = true) (hcfg : s.pair.cfg = some o) (haddr : hbAddr f = pcAddr o) (hsrc : fSource f = s.partnerNode)
    (href1 : fSource f ≠ pcRef1 o) (href2 : fSource f ≠ pcRef2 o) (hcrc : hbCrc f = (crc32c o).toNat) :
    Completes (.heartbeat t p ingress f) s fun u =>
      u.pair.partner.last = some (max ingress (s.pair.partner.last.getD 0)) ∧ u.pair.partner.term = hbTerm f ∧
      u.pair.partner.leadNode = hbLead f ∧ u.pair.partner.state = hbState f ∧
      u.pair.ref1 = s.pair.ref1 ∧ u.pair.ref2 = s.pair.ref2 := by
  have hpeers := (s.begin t).hearPartner_peers ingress f
  have hhears : (s.begin t).memberHears p ingress f = (s.begin t).hearPartner ingress f := by
    have hnode : fSource f = (s.begin t).partnerNode := hsrc
    have hname : (fSource f == (s.begin t).partnerNode) = true := by simp [hnode]
    unfold State.memberHears
    simp [hcfg, haddr, hname, href1, href2, hcrc]
  refine ⟨_, heartbeat_member t p ingress f s hup hframe hlen hdest hlink hpair, ?_⟩
  beta_reduce
  rw [hhears, hpeers.partner, hpeers.ref1, hpeers.ref2]
  exact ⟨rfl, rfl, rfl, rfl, rfl, rfl⟩

/-- A heartbeat under another configuration is counted and stamped. -/
theorem heartbeat_otherCrc (t : Ns) (p : Port) (ingress : Ns) (f o : Bytes) (s : State) (hup : s.up .rng = true)
    (hframe : pairFrame 1 f = true) (hlen : 32 ≤ fLength f) (hdest : fDest f = 0xFFFF) (hlink : (s.port p).link = .up)
    (hpair : s.isPair = true) (hcfg : s.pair.cfg = some o) (haddr : hbAddr f = pcAddr o)
    (hsrc : fSource f = s.partnerNode ∨ fSource f = pcRef1 o) (hcrc : hbCrc f ≠ (crc32c o).toNat) :
    Completes (.heartbeat t p ingress f) s fun u =>
      u.pair = { s.pair with cfgCrcMismatch := s.pair.cfgCrcMismatch + 1, crcDiffAt := some (max s.clock t) } := by
  have hhears : (s.begin t).memberHears p ingress f = (s.begin t).crcDiffers := by
    have hnode : (s.begin t).partnerNode = s.partnerNode := rfl
    unfold State.memberHears
    rcases hsrc with h | h <;> simp [hcfg, haddr, hnode, h, hcrc]
  refine ⟨_, heartbeat_member t p ingress f s hup hframe hlen hdest hlink hpair, ?_⟩
  beta_reduce
  rw [hhears]
  rfl

/-! ### A lost heartbeat (R372) -/

/-- A deadline that has passed, with no frame in reception. -/
theorem heartbeatLoss_due (t : Ns) (who : HbSender) (d : Ns) (s : State) (hup : s.up .rng = true)
    (hdead : (s.begin t).heartbeatDeadline who = some d) (hlate : d ≤ max s.clock t) :
    exec (.heartbeatLoss t who []) s = .next (State.heartbeatLost who (s.begin t)) := by
  have hwait : (!(s.begin t).up .rng || decide ((s.begin t).clock < d)) = false := by
    rw [State.begin_reached hlate, State.begin_up, hup]
    rfl
  rw [exec_heartbeatLoss, execHeartbeatLoss]
  simp only [hdead, hwait, Bool.false_eq_true, if_false, State.deferOr_nil]

/-- A domain takes the state that it is set to. -/
theorem State.setDomain_domain (i : Ident) (d : Dom) (s : State) (hi : i ≠ .none) : (s.setDomain i d).domain i = d := by
  unfold State.setDomain
  split
  · assumption
  · have hmb : ∀ u : State, (u.domainCrossings i d).mb = u.mb := fun u => (State.domainCrossings_keep i d u).same .mb (by decide)
    simp [State.domain, hi, hmb, State.updMb]

/-- The partner is gone: lost, out of the barrier, without forwards and with its domain off. -/
structure PartnerOut (s : State) : Prop where
  lost : s.pair.partner.lost = true
  live : s.pair.barrier.partnerLive = false
  forwards : s.pair.forwards = []
  domain : s.domain .partner = .off

theorem PartnerOut.of_same {s t : State} (h : PartnerOut s) (hl : t.pair.partner = s.pair.partner)
    (hb : t.pair.barrier = s.pair.barrier) (hf : t.pair.forwards = s.pair.forwards) (hm : t.mb = s.mb) : PartnerOut t :=
  ⟨by rw [hl, h.lost], by rw [hb, h.live], by rw [hf, h.forwards], by rw [State.domain, hm]; exact h.domain⟩

theorem State.partnerGone_out (s : State) : PartnerOut s.partnerGone := by
  unfold State.partnerGone
  extract_lets a b
  have hlost : b.pair.partner.lost = true := by
    rw [(State.setDomain_keep .partner .off _).same .pair (by decide)]
    rfl
  have hdomain : b.domain .partner = .off := State.setDomain_domain .partner .off _ (by decide)
  clear_value b
  unfold State.releaseForwards
  refine List.foldlRecOn (motive := PartnerOut) _ _ ⟨hlost, rfl, rfl, hdomain⟩ fun t ht f _ => ?_
  split
  · exact ht.of_same rfl rfl rfl rfl
  · exact ht

/-- What leaves the pair and the hub alone. -/
theorem PartnerOut.of_keep {m : Nat} {s t : State} (h : PartnerOut s) (k : Keep m s t)
    (hm : (m.testBit Aspect.pair.bit || m.testBit Aspect.mb.bit) = false) : PartnerOut t := by
  obtain ⟨hpair, hmb⟩ := Bool.or_eq_false_iff.mp hm
  have hp : t.pair = s.pair := k.same .pair hpair
  exact h.of_same (by rw [hp]) (by rw [hp]) (by rw [hp]) (k.same .mb hmb)

theorem State.settleReferee_out {s : State} (h : PartnerOut s) : PartnerOut s.settleReferee := by
  unfold State.settleReferee
  extract_lets gone a b
  have ha : PartnerOut a := h.of_same rfl rfl rfl rfl
  have hb : PartnerOut b := by
    unfold b
    split
    · exact ha.of_keep (State.record_keep _ _ _ a) (by decide)
    · exact ha
  split
  · exact h
  · exact (hb.of_keep (State.postEvent_keep _ _ _ b) (by decide)).of_keep (State.settleHealth_keep _) (by decide)

/-- A partner that is not heard. -/
theorem heartbeatLoss_partner (t d : Ns) (s : State) (hup : s.up .rng = true)
    (hdead : (s.begin t).heartbeatDeadline .partner = some d) (hlate : d ≤ max s.clock t) :
    Completes (.heartbeatLoss t .partner []) s fun u =>
      u.pair.partner.lost = true ∧ u.pair.barrier.partnerLive = false ∧ u.pair.forwards = [] ∧ u.domain .partner = .off := by
  have hout : PartnerOut (State.heartbeatLost .partner (s.begin t)) := by
    have hgone := (s.begin t).partnerGone_out
    unfold State.heartbeatLost
    dsimp only
    split_ifs
    · exact hgone.of_same (by rw [State.requestLead_pair]) (by rw [State.requestLead_pair]) (by rw [State.requestLead_pair])
        ((State.requestLead_keep _ _).same .mb (by decide))
    · exact State.settleReferee_out hgone
    · exact hgone
  exact ⟨_, heartbeatLoss_due t .partner d s hup hdead hlate, hout.lost, hout.live, hout.forwards, hout.domain⟩

/-- A member that a referee does not hear. -/
theorem heartbeatLoss_heldA (t d : Ns) (k : Fin 8) (r : RefPair) (s : State) (hup : s.up .rng = true)
    (hdead : (s.begin t).heartbeatDeadline (.heldA k) = some d) (hlate : d ≤ max s.clock t) (hheld : s.pair.held[k.val]? = some r) :
    Completes (.heartbeatLoss t (.heldA k) []) s fun u => u.pair.held[k.val]? = some { r with lostA := true } := by
  refine ⟨_, heartbeatLoss_due t (.heldA k) d s hup hdead hlate, ?_⟩
  simp [State.heartbeatLost, State.updHeld, State.updPair, hheld]

/-- Settles O28: a heartbeat changes what its sender was heard to say, and the operations after it leave that alone. -/
theorem heartbeats : Obligations.Heartbeats := by
  unfold Obligations.Heartbeats
  exact ⟨heartbeatSend_member, heartbeat_partner, heartbeat_otherCrc, heartbeatLoss_partner, heartbeatLoss_heldA⟩

end Sys2Proof.Machine
end

section
/-! Remote images (obligation RemoteImages): what an update of one station and a word for one channel change, then one lemma per kind
of image and watchdog. -/

namespace Sys2Proof.Machine

/-! ### The stations of the ring -/

/-- An update of the stations under one index is seen under that index alone. -/
theorem State.updStation_station? (i k : Nat) (f : Station → Station) (s : State)
    (hf : ∀ y, (f y).index = y.index := by exact fun _ => rfl) :
    (s.updStation i f).station? k = if k = i then (s.station? i).map f else s.station? k := by
  have hsame : (fun x : Station => decide ((if x.index = i then f x else x).index = k)) = fun x => decide (x.index = k) := by
    funext x
    split <;> simp [hf]
  simp only [State.station?, State.updStation, State.updRing, List.find?_map, Function.comp_def, hsame]
  cases hfound : s.ring.stations.find? fun x => decide (x.index = k) with
  | none =>
    split
    · rename_i hk
      rw [← hk, hfound]
      rfl
    · rfl
  | some x =>
    have hx : x.index = k := by simpa using List.find?_some hfound
    split
    · rename_i hk
      rw [← hk, hfound]
      simp [hx, hk]
    · rename_i hk
      simp [hx, hk]

theorem State.updStation_same (i : Nat) (f : Station → Station) (s : State)
    (hf : ∀ y, (f y).index = y.index := by exact fun _ => rfl) :
    (s.updStation i f).station? i = (s.station? i).map f := by rw [State.updStation_station? i i f s hf, if_pos rfl]

theorem State.updStation_ne {i k : Nat} (hk : k ≠ i) (f : Station → Station) (s : State)
    (hf : ∀ y, (f y).index = y.index := by exact fun _ => rfl) :
    (s.updStation i f).station? k = s.station? k := by rw [State.updStation_station? i k f s hf, if_neg hk]

/-- From `s` to `t` at most the station `i` changes, and what `view` shows of it stays. -/
structure StationKeeps {β : Type} (i : Nat) (view : Station → β) (s t : State) : Prop where
  same : (t.station? i).map view = (s.station? i).map view
  other : ∀ k, k ≠ i → t.station? k = s.station? k

namespace StationKeeps
variable {β : Type} {i : Nat} {view : Station → β} {s t u : State}

theorem refl (s : State) : StationKeeps i view s s := ⟨rfl, fun _ _ => rfl⟩

theorem trans (h : StationKeeps i view s t) (k : StationKeeps i view t u) : StationKeeps i view s u :=
  ⟨k.same.trans h.same, fun n hn => (k.other n hn).trans (h.other n hn)⟩

theorem ite {c : Prop} [Decidable c] (h : StationKeeps i view s t) (k : StationKeeps i view s u) :
    StationKeeps i view s (if c then t else u) := by
  split
  · exact h
  · exact k

theorem of_ring (h : t.ring = s.ring) : StationKeeps i view s t := by
  have hs : ∀ k, t.station? k = s.station? k := fun k => by rw [State.station?, h, State.station?]
  exact ⟨by rw [hs], fun k _ => hs k⟩

theorem updStation (s : State) (f : Station → Station) (hf : ∀ y, (f y).index = y.index) (hv : ∀ y, view (f y) = view y) :
    StationKeeps i view s (s.updStation i f) := by
  refine ⟨?_, fun k hk => State.updStation_ne hk f s hf⟩
  rw [State.updStation_same i f s hf]
  cases s.station? i with
  | none => rfl
  | some y => simp [hv]

end StationKeeps

/-- A change of the state of a station shows in its state and the stamps of the change. -/
theorem State.setStation_keeps {β : Type} (i : Nat) (x : StState) (cause : Nat) (view : Station → β) (s : State)
    (hv : ∀ (y : Station) (a : Int) (b : Ns), view { y with state := x, changed := a, changedAt := b } = view y) :
    StationKeeps i view s (s.setStation i x cause) := by
  unfold State.setStation
  split
  · exact .refl s
  · split
    · exact .refl s
    · refine StationKeeps.trans ?_ (.of_ring (State.record_ring _ _ _ _))
      exact .updStation s _ (fun _ => rfl) fun y => hv y _ _

/-! ### Input images (R137, R159, R344 to R346) -/

/-- What an input image writes of its station. -/
def Station.received (x : Station) : Nat × Option Ns × Nat × Option InImage := (x.accepted, x.lastIngress, x.lastBus, x.back)

theorem State.returnStation_keeps (x : Station) (s : State) : StationKeeps x.index Station.received s (s.returnStation x) := by
  unfold State.returnStation
  split_ifs
  · exact .refl s
  · exact ((StationKeeps.of_ring (State.record_ring _ _ _ _)).trans (State.setStation_keeps _ _ _ _ _ fun _ _ _ => rfl)).trans
      (.updStation _ _ (fun _ => rfl) fun _ => rfl)
  · exact (State.setStation_keeps _ _ _ _ s fun _ _ _ => rfl).trans (.updStation _ _ (fun _ => rfl) fun _ => rfl)
  · exact .updStation s _ (fun _ => rfl) fun _ => rfl

/-- An input image for this node that is whole, of the size of its station and not shut out by the island or the class. -/
structure InputFits (f : Bytes) (x : Station) (s : State) : Prop where
  up : s.up .rng = true
  sums : s.sums = true
  cls : fClass f = clsCyclic
  sub : fSubtype f = 2
  find : s.ring.stations.find? (fun x => stImages x.obj && stNode x.obj == fSource f) = some x
  good : pcrcGood f = true
  node : s.node ≠ 0
  dest : fDest f = s.node ∨ (s.isPair = true ∧ s.pair.cfg.isSome = true ∧ fDest f = s.pairAddr)
  words : imWords f = stIn x.obj
  len : fLength f = stInLen x.obj

/-- An input image that fits is accepted in the window and counted after it. -/
theorem InputFits.exec_eq {f : Bytes} {x : Station} {s : State} (h : InputFits f x s) (t ingress : Ns) :
    exec (.inputImage t ingress f) s = .next (if s.inWindow ingress f = true then (s.begin t).acceptInput x ingress f
      else (s.begin t).updStation x.index fun y => { y with late := satAdd 32 y.late 1 }) := by
  have hmine : ((s.begin t).node != 0 && (fDest f == (s.begin t).node || ((s.begin t).isPair && (s.begin t).pair.cfg.isSome &&
      fDest f == (s.begin t).pairAddr))) = true := by
    have haddr : (s.begin t).pairAddr = s.pairAddr := rfl
    rcases h.dest with hd | ⟨hp, hc, hd⟩
    · simp [h.node, hd]
    · simp [h.node, hd, hp, hc, haddr]
  have hsums : (s.begin t).sums = true := h.sums
  have hwin : (s.begin t).inWindow ingress f = s.inWindow ingress f := rfl
  rw [exec_inputImage, execInputImage]
  simp only [hmine, State.begin_up, State.begin_ring, h.up, hsums, h.cls, h.sub, h.find, h.good, h.words, h.len, hwin]
  cases s.inWindow ingress f <;> simp

/-- A good input image in the window. -/
theorem inputImage_accepted (t ingress : Ns) (f : Bytes) (x : Station) (s : State) (hup : s.up .rng = true) (hsums : s.sums = true)
    (hcls : fClass f = clsCyclic) (hsub : fSubtype f = 2)
    (hfind : s.ring.stations.find? (fun x => stImages x.obj && stNode x.obj == fSource f) = some x)
    (hst : s.station? x.index = some x) (hgood : pcrcGood f = true) (hnode : s.node ≠ 0)
    (hdest : fDest f = s.node ∨ (s.isPair = true ∧ s.pair.cfg.isSome = true ∧ fDest f = s.pairAddr))
    (hwords : imWords f = stIn x.obj) (hlen : fLength f = stInLen x.obj) (hwin : s.inWindow ingress f = true) :
    Completes (.inputImage t ingress f) s fun u =>
      (u.station? x.index).map (fun y => (y.accepted, y.lastIngress, y.lastBus, y.back)) =
        some (satAdd 32 x.accepted 1, some ingress, s.ring.busCycle,
          some { busCycle := s.ring.busCycle, header := imHeader f, words := imData f, quals := imQuals f }) ∧
      ∀ k : Nat, k ≠ x.index → u.station? k = s.station? k := by
  have hfits : InputFits f x s := ⟨hup, hsums, hcls, hsub, hfind, hgood, hnode, hdest, hwords, hlen⟩
  refine ⟨_, hfits.exec_eq t ingress, ?_⟩
  rw [if_pos hwin]
  unfold State.acceptInput
  extract_lets im a
  have hkeeps : StationKeeps x.index Station.received a
      (if imLive f = true then a.returnStation x else a.updStation x.index fun y => { y with returnBus := none }) :=
    .ite (a.returnStation_keeps x) (.updStation a _ (fun _ => rfl) fun _ => rfl)
  refine ⟨hkeeps.same.trans ?_, fun k hk => (hkeeps.other k hk).trans (State.updStation_ne hk _ (s.begin t))⟩
  have hbegin : (s.begin t).station? x.index = some x := hst
  unfold a
  rw [State.updStation_same x.index _ (s.begin t), hbegin]
  rfl

/-- A good input image after the window. -/
theorem inputImage_late (t ingress : Ns) (f : Bytes) (x : Station) (s : State) (hup : s.up .rng = true) (hsums : s.sums = true)
    (hcls : fClass f = clsCyclic) (hsub : fSubtype f = 2)
    (hfind : s.ring.stations.find? (fun x => stImages x.obj && stNode x.obj == fSource f) = some x)
    (hst : s.station? x.index = some x) (hgood : pcrcGood f = true) (hnode : s.node ≠ 0)
    (hdest : fDest f = s.node ∨ (s.isPair = true ∧ s.pair.cfg.isSome = true ∧ fDest f = s.pairAddr))
    (hwords : imWords f = stIn x.obj) (hlen : fLength f = stInLen x.obj) (hwin : s.inWindow ingress f = false) :
    Completes (.inputImage t ingress f) s fun u =>
      u.station? x.index = some { x with late := satAdd 32 x.late 1 } ∧ ∀ k : Nat, k ≠ x.index → u.station? k = s.station? k := by
  have hfits : InputFits f x s := ⟨hup, hsums, hcls, hsub, hfind, hgood, hnode, hdest, hwords, hlen⟩
  have hbegin : (s.begin t).station? x.index = some x := hst
  refine ⟨_, hfits.exec_eq t ingress, ?_⟩
  beta_reduce
  rw [if_neg (by simp [hwin]), State.updStation_same x.index _ (s.begin t), hbegin]
  exact ⟨rfl, fun k hk => State.updStation_ne hk _ (s.begin t)⟩

/-! ### The station watchdog (R157, R344) -/

theorem insertDown_any (x : DownInfo) (l : List DownInfo) : (insertDown x l).any (fun n => n.index == x.index) = true := by
  induction l with
  | nil => simp [insertDown]
  | cons a r ih =>
    unfold insertDown
    split_ifs with hlt heq
    · simp
    · simp [heq]
    · simp only [List.any_cons, ih, Bool.or_true]

theorem State.setStation_changed {i : Nat} {x : Station} {st : StState} (cause : Nat) {s : State} (hst : s.station? i = some x)
    (hne : x.state ≠ st) :
    (s.setStation i st cause).station? i = some { x with state := st, changed := s.now, changedAt := s.clock } := by
  unfold State.setStation
  rw [hst]
  simp only [hne, if_false]
  rw [State.station?, State.record_ring]
  refine (State.updStation_same i _ s).trans ?_
  rw [hst]
  rfl

/-- A station that was up goes down, and waits for the program. -/
theorem State.stationDown_spec {i : Nat} {x : Station} {s : State} (hst : s.station? i = some x) (hup : x.state = .up) :
    ((s.stationDown i).station? i).map (fun y => (y.state, y.returnBus, y.downUndelivered)) = some (.down, none, x.undelivered) ∧
    (s.prg.live = true → ((s.stationDown i).prg.downQueue.any fun n => n.index == i) = true) ∧
    ∀ k : Nat, k ≠ i → (s.stationDown i).station? k = s.station? k := by
  have hset := State.setStation_changed (st := .down) 1 hst (by rw [hup]; decide)
  have hlive : (s.setStation i .down 1).prg = s.prg := (State.setStation_keep _ _ _ _).same .prg (by decide)
  have hother : ∀ k, k ≠ i → (s.setStation i .down 1).station? k = s.station? k :=
    (State.setStation_keeps i .down 1 (fun _ => ()) s fun _ _ _ => rfl).other
  unfold State.stationDown
  rw [hst]
  simp only [hup, bne_self_eq_false, Bool.false_eq_true, if_false]
  generalize s.setStation i .down 1 = a at hset hlive hother
  generalize hdown : a.updStation i _ = b
  have hb : (b.station? i).map (fun y => (y.state, y.returnBus, y.downUndelivered)) = some (.down, none, x.undelivered) := by
    rw [← hdown, State.updStation_same i _ a, hset]
    rfl
  have hbo : ∀ k, k ≠ i → b.station? k = s.station? k := fun k hk => by
    rw [← hdown, State.updStation_ne hk _ a, hother k hk]
  have hprg : b.prg.live = s.prg.live := by
    rw [← hdown, ← hlive]
    rfl
  split
  · exact ⟨hb, fun _ => insertDown_any _ _, hbo⟩
  · rename_i hoff
    exact ⟨hb, fun h => absurd (hprg.trans h) hoff, hbo⟩

/-- A station that is not heard within its watchdog. -/
theorem stationWatchdog_due (t : Ns) (i : Nat) (x : Station) (d : Ns) (s : State) (hup : s.up .rng = true)
    (hst : s.station? i = some x) (hdead : (s.begin t).stationDeadline i = some d) (hlate : d ≤ max s.clock t) :
    Completes (.stationWatchdog t i []) s fun u =>
      (u.station? i).map (fun y => (y.state, y.returnBus, y.downUndelivered)) = some (.down, none, x.undelivered) ∧
      (s.prg.live = true → (u.prg.downQueue.any fun n => n.index == i) = true) ∧ ∀ k : Nat, k ≠ i → u.station? k = s.station? k := by
  have hbegin : (s.begin t).station? i = some x := hst
  have hstate : x.state = .up := by
    by_contra hdown
    simp [State.stationDeadline, hbegin, hdown] at hdead
  have hwait : (!(s.begin t).up .rng || decide ((s.begin t).clock < d)) = false := by
    rw [State.begin_reached hlate, State.begin_up, hup]
    rfl
  refine ⟨(s.begin t).stationDown i, ?_, State.stationDown_spec hbegin hstate⟩
  rw [exec_stationWatchdog, execStationWatchdog]
  simp only [hdead, hwait, Bool.false_eq_true, if_false, State.deferOr_nil]

/-! ### The substitute values of an I/O station (R54, R347) -/

/-- The channels of a list take their substitute values where they are not fresh; the ring's state and the clock stand still. -/
theorem State.substituteChans_spec (l : List (Fin 128)) (s : State) :
    (l.foldl (fun s i => s.updChan i fun c => { c with ringSubst := !c.fresh }) s).ring = s.ring ∧
    ∀ ch : Fin 128, (l.foldl (fun s i => s.updChan i fun c => { c with ringSubst := !c.fresh }) s).chans[ch] =
      if ch ∈ l then { s.chans[ch] with ringSubst := !s.chans[ch].fresh } else s.chans[ch] := by
  induction l generalizing s with
  | nil => exact ⟨rfl, fun _ => rfl⟩
  | cons i l ih =>
    obtain ⟨hring, hchan⟩ := ih (s.updChan i fun c => { c with ringSubst := !c.fresh })
    refine ⟨hring, fun ch => (hchan ch).trans ?_⟩
    rcases eq_or_ne ch i with rfl | hne
    · rw [State.updChan_same]
      simp
    · rw [State.updChan_ne hne]
      simp [hne]

/-- A substitution of all RING channels, or of those without ENGINE words, leaves the received image and its stamp. -/
theorem State.substituteRing_io (all : Bool) (s : State) : ∃ since, (s.substituteRing all).ring.io =
    { s.ring.io with live := false, liveBus := none, substituting := true, expired := s.ring.io.expired || all, substSince := since } := by
  have hring : ∀ l : List (Fin 128), (l.foldl (fun s i => s.updChan i fun c => { c with ringSubst := !c.fresh }) s).ring = s.ring :=
    fun l => (State.substituteChans_spec l s).1
  unfold State.substituteRing
  simp only [State.updRing, hring]
  exact ⟨_, rfl⟩

theorem State.substituteRing_chan (s : State) (ch : Fin 128) :
    (s.substituteRing true).chans[ch].ringSubst = if s.owner ch = .ring then !s.chans[ch].fresh else s.chans[ch].ringSubst := by
  have hchan := (State.substituteChans_spec (s.ringOwned.filter fun i => !([] : List (Fin 128)).contains i) s).2 ch
  refine (congrArg Chan.ringSubst hchan).trans ?_
  simp only [State.ringOwned, List.contains_nil, Bool.not_false, List.filter_true, List.mem_filter, List.mem_finRange, true_and,
    beq_iff_eq]
  split <;> rfl

/-! ### Output images (R345 to R347) -/

/-- An output image of the master for this station that is whole, of the mapped size and not shut out by the island, the role or the
class. -/
structure OutputFits (f o : Bytes) (s : State) : Prop where
  up : s.up .rng = true
  role : s.role = some .iostation
  cls : fClass f = clsCyclic
  sub : fSubtype f = 1
  node : s.node ≠ 0
  dest : fDest f = s.node
  master : s.ring.cfg.master ≠ 0
  src : fSource f = s.ring.cfg.master
  shut : s.shut f = false
  good : pcrcGood f = true
  map : s.ring.io.imageMap = some o
  words : imWords f = mapOut o
  len : fLength f = 8 + 4 * mapOut o

/-- A good output image in the window is kept, with its ingress. -/
def State.keepImage (ingress : Ns) (f : Bytes) (s : State) : State :=
  s.updIo fun io => { io with image := some (s.ring.busCycle, imHeader f, imData f), lastIngress := some ingress }

/-- An output image that fits is kept in the window and counted after it. -/
theorem OutputFits.exec_eq {f o : Bytes} {s : State} (h : OutputFits f o s) (t ingress : Ns) :
    exec (.outputImage t ingress f) s = .next (if s.inWindow ingress f = true then
      (if imLive f = true then ((s.begin t).keepImage ingress f).liveFrame else ((s.begin t).keepImage ingress f).clearFrame)
      else (s.begin t).updIo fun io => { io with late := satAdd 32 io.late 1 }) := by
  have hshut : (s.begin t).shut f = false := h.shut
  have hwin : (s.begin t).inWindow ingress f = s.inWindow ingress f := rfl
  have hkeep : (s.begin t).updRing (fun r =>
      let io := r.io
      { r with io := { io with image := some (r.busCycle, imHeader f, imData f), lastIngress := some ingress } }) =
      (s.begin t).keepImage ingress f := rfl
  rw [exec_outputImage, execOutputImage]
  simp only [State.begin_up, State.begin_role, State.begin_node, State.begin_ring, h.up, h.role, h.cls, h.sub, h.node, h.dest,
    h.master, h.src, hshut, h.good, h.map, h.words, h.len, hwin, hkeep]
  cases s.inWindow ingress f <;> simp

/-- The second live image in a row returns the station; the image kept stays. -/
theorem State.liveFrame_spec (s : State) : s.liveFrame.ring.io.image = s.ring.io.image ∧
    s.liveFrame.ring.io.lastIngress = s.ring.io.lastIngress ∧ s.liveFrame.ring.io.liveBus = some s.ring.busCycle ∧
    s.liveFrame.ring.io.clearRun = 0 ∧
    (s.ring.io.liveBus = some (s.ring.busCycle - 1) → s.ring.busCycle ≠ 0 → s.liveFrame.ring.io.live = true) := by
  have hreturn : s.liveReturn.ring.io = { s.ring.io with live := true, substituting := false, expired := false } := by
    unfold State.liveReturn
    simp [State.updRing]
  unfold State.liveFrame
  extract_lets k second a
  have ha : a.ring.io = s.ring.io ∧ second = false ∨
      a.ring.io = { s.ring.io with live := true, substituting := false, expired := false } := by
    unfold a
    split
    · exact .inr hreturn
    · rename_i hfirst
      exact .inl ⟨rfl, by simpa using hfirst⟩
  clear_value a
  rcases ha with ⟨ha, hfirst⟩ | ha
  · simp only [State.updRing, ha, true_and]
    exact ⟨rfl, fun hbus hk => by simpa [second, k, hbus, hk] using hfirst⟩
  · simp [State.updRing, ha, k]

/-- An image with LIVE clear keeps the image and its ingress. -/
theorem State.clearFrame_spec (s : State) :
    s.clearFrame.ring.io.image = s.ring.io.image ∧ s.clearFrame.ring.io.lastIngress = s.ring.io.lastIngress := by
  unfold State.clearFrame
  extract_lets k io run a
  have ha : a.ring.io.image = s.ring.io.image ∧ a.ring.io.lastIngress = s.ring.io.lastIngress := ⟨rfl, rfl⟩
  clear_value a
  split
  · obtain ⟨since, hio⟩ := a.substituteRing_io false
    rw [hio]
    exact ha
  · exact ha

/-- A good output image in the window. -/
theorem outputImage_kept (t ingress : Ns) (f o : Bytes) (s : State) (hup : s.up .rng = true) (hrole : s.role = some .iostation)
    (hcls : fClass f = clsCyclic) (hsub : fSubtype f = 1) (hnode : s.node ≠ 0) (hdest : fDest f = s.node)
    (hmaster : s.ring.cfg.master ≠ 0) (hsrc : fSource f = s.ring.cfg.master) (hshut : s.shut f = false) (hgood : pcrcGood f = true)
    (hmap : s.ring.io.imageMap = some o) (hwords : imWords f = mapOut o) (hlen : fLength f = 8 + 4 * mapOut o)
    (hwin : s.inWindow ingress f = true) : Completes (.outputImage t ingress f) s fun u =>
      u.ring.io.image = some (s.ring.busCycle, imHeader f, imData f) ∧ u.ring.io.lastIngress = some ingress ∧
      (imLive f = true → u.ring.io.liveBus = some s.ring.busCycle ∧ u.ring.io.clearRun = 0 ∧
        (s.ring.io.liveBus = some (s.ring.busCycle - 1) → s.ring.busCycle ≠ 0 → u.ring.io.live = true)) := by
  have hfits : OutputFits f o s := ⟨hup, hrole, hcls, hsub, hnode, hdest, hmaster, hsrc, hshut, hgood, hmap, hwords, hlen⟩
  refine ⟨_, hfits.exec_eq t ingress, ?_⟩
  rw [if_pos hwin]
  cases hlive : imLive f with
  | true =>
    obtain ⟨himage, hingress, hbus, hrun, hreturn⟩ := ((s.begin t).keepImage ingress f).liveFrame_spec
    exact ⟨himage, hingress, fun _ => ⟨hbus, hrun, hreturn⟩⟩
  | false =>
    obtain ⟨himage, hingress⟩ := ((s.begin t).keepImage ingress f).clearFrame_spec
    exact ⟨himage, hingress, fun h => absurd h (by decide)⟩

/-- A good output image outside the window. -/
theorem outputImage_late (t ingress : Ns) (f o : Bytes) (s : State) (hup : s.up .rng = true) (hrole : s.role = some .iostation)
    (hcls : fClass f = clsCyclic) (hsub : fSubtype f = 1) (hnode : s.node ≠ 0) (hdest : fDest f = s.node)
    (hmaster : s.ring.cfg.master ≠ 0) (hsrc : fSource f = s.ring.cfg.master) (hshut : s.shut f = false) (hgood : pcrcGood f = true)
    (hmap : s.ring.io.imageMap = some o) (hwords : imWords f = mapOut o) (hlen : fLength f = 8 + 4 * mapOut o)
    (hwin : s.inWindow ingress f = false) : Completes (.outputImage t ingress f) s fun u =>
      u.ring.io = { s.ring.io with late := satAdd 32 s.ring.io.late 1 } ∧ u.chans = s.chans := by
  have hfits : OutputFits f o s := ⟨hup, hrole, hcls, hsub, hnode, hdest, hmaster, hsrc, hshut, hgood, hmap, hwords, hlen⟩
  refine ⟨_, hfits.exec_eq t ingress, ?_⟩
  rw [if_neg (by simp [hwin])]
  exact ⟨rfl, rfl⟩

/-! ### The I/O station watchdog (R347) -/

/-- An I/O station that is not heard substitutes its RING channels. -/
theorem iostationWatchdog_due (t l : Ns) (s : State) (hup : s.up .rng = true) (hrole : s.role = some .iostation)
    (hcycles : s.ring.cfg.wdCycles ≠ 0) (hlast : s.ring.io.lastIngress = some l)
    (hlate : (s.begin t).due .rng l (s.ring.cfg.wdCycles * s.tBus) ≤ max s.clock t) :
    Completes (.iostationWatchdog t []) s fun u =>
      u.ring.io.live = false ∧ u.ring.io.substituting = true ∧ u.ring.io.lastIngress = none ∧
      ∀ ch : Fin 128, u.chans[ch].ringSubst = if s.owner ch = .ring then !s.chans[ch].fresh else s.chans[ch].ringSubst := by
  have hrun : exec (.iostationWatchdog t []) s = .next (s.begin t).ioExpired := by
    have hlast' : (s.begin t).ring.io.lastIngress = some l := hlast
    have hwait : (!(s.begin t).up .rng || (s.begin t).role != some .iostation || decide ((s.begin t).ring.cfg.wdCycles = 0) ||
        decide ((s.begin t).clock < (s.begin t).due .rng l ((s.begin t).ring.cfg.wdCycles * (s.begin t).tBus))) = false := by
      rw [State.begin_reached (by exact hlate)]
      simp [hup, hrole, hcycles]
    rw [exec_iostationWatchdog, execIostationWatchdog]
    simp only [hlast', hwait, Bool.false_eq_true, if_false, State.deferOr_nil]
  obtain ⟨since, hio⟩ := (s.begin t).substituteRing_io true
  refine ⟨(s.begin t).ioExpired, hrun, ?_, ?_, rfl, fun ch => ?_⟩
  · simp [State.ioExpired, State.updRing, hio]
  · simp [State.ioExpired, State.updRing, hio]
  · refine Eq.trans ?_ ((s.begin t).substituteRing_chan ch)
    simp [-Fin.getElem_fin, State.ioExpired]

/-! ### The taking of an output image (R99, R107, R347 to R349) -/

/-- RING is the only owner that RNG serves. -/
theorem Owner.eq_ring_of_isl {o : Owner} (h : o.isl = some .rng) : o = .ring := by
  revert h
  cases o <;> decide

/-- The demand of a channel that RING does not own stays, and RING's state and the ownership too. -/
structure TakeKeeps (s t : State) : Prop where
  ring : t.ring = s.ring
  regs : t.regs = s.regs
  demand : ∀ ch : Fin 128, s.owner ch ≠ .ring → t.chans[ch].demand = s.chans[ch].demand

namespace TakeKeeps
variable {s t u : State}

theorem refl (s : State) : TakeKeeps s s := ⟨rfl, rfl, fun _ _ => rfl⟩

theorem owner (h : TakeKeeps s t) (ch : Fin 128) : t.owner ch = s.owner ch := by rw [State.owner, h.regs, State.owner]

theorem trans (h : TakeKeeps s t) (k : TakeKeeps t u) : TakeKeeps s u :=
  ⟨k.ring.trans h.ring, k.regs.trans h.regs, fun ch hch => (k.demand ch (by rwa [h.owner])).trans (h.demand ch hch)⟩

/-- An update of a channel that RING owns. -/
theorem updChan (s : State) (ch : Fin 128) (f : Chan → Chan) (h : (s.owner ch).isl = some .rng) : TakeKeeps s (s.updChan ch f) := by
  refine ⟨rfl, rfl, fun k hk => ?_⟩
  rcases eq_or_ne k ch with rfl | hne
  · exact absurd (Owner.eq_ring_of_isl h) hk
  · rw [State.updChan_ne hne]

end TakeKeeps

/-- A diagnosis bit leaves the demands alone. -/
theorem State.putDiag_take (ch : Fin 128) (d : Diag) (v : Bool) (s : State) : TakeKeeps s (s.putDiag ch d v) := by
  refine ⟨(State.putDiag_keep ch d v s).same .ring (by decide), (State.putDiag_keep ch d v s).same .regs (by decide), fun k _ => ?_⟩
  simp only [State.putDiag_chans]
  rcases eq_or_ne k ch with rfl | hne
  · rw [State.updChan_same]
  · rw [State.updChan_ne hne]

theorem State.ownerWrite_take (ch : Fin 128) (on : Bool) (value : Option Rat) (fail : Bool) (s : State) :
    TakeKeeps s (s.ownerWrite .rng ch on value fail) := by
  unfold State.ownerWrite
  split
  · rename_i hown
    split
    · exact .updChan s ch _ hown
    · exact .updChan s ch _ hown
  · exact s.putDiag_take ch _ _

theorem State.applyWord_take (e : Bytes) (w : Word) (s : State) : TakeKeeps s (s.applyWord e w) := by
  unfold State.applyWord
  extract_lets ch d
  split
  · exact s.ownerWrite_take ch _ _ _
  · split
    · exact .updChan s ch _ ‹_›
    · exact s.putDiag_take ch _ _
  · refine List.foldlRecOn (motive := TakeKeeps s) _ _ (.refl s) fun t ht i _ => ht.trans ?_
    dsimp only
    split
    · exact t.ownerWrite_take _ _ _ _
    · exact .refl t
  · exact .refl s

/-- Which words of an image are released: all while LIVE, else those of ENGINE entries that never stopped. -/
def IoStation.uses (io : IoStation) (live : Bool) (e : Bytes) : Bool :=
  if live then io.live || (meEngine e && !io.expired) else meEngine e

/-- The words that the take releases, each to its channels. -/
def State.applyWords (live : Bool) (l : List (Bytes × Word)) (s : State) : State :=
  l.foldl (fun u x => if s.ring.io.uses live x.1 = true then u.applyWord x.1 x.2 else u) s

/-- The words of the image at the instant of the take. -/
theorem outputImageTake_words (t : Ns) (h : BitVec 8) (words : List Word) (o : Bytes) (s : State) (hup : s.up .rng = true)
    (hrole : s.role = some .iostation) (hat : s.ring.busStart + s.ring.cfg.windowNs + 5000 ≤ max s.clock t)
    (himage : s.ring.io.image = some (s.ring.busCycle, h, words)) (hmap : s.ring.io.imageMap = some o) :
    exec (.outputImageTake t) s = .next (((s.begin t).updIo fun io => { io with image := none }).applyWords (h.getLsbD 0)
      ((mapOutputs o).zip words)) := by
  have hwait : (!(s.begin t).up .rng || (s.begin t).role != some .iostation ||
      decide ((s.begin t).clock < (s.begin t).ring.busStart + (s.begin t).ring.cfg.windowNs + 5000)) = false := by
    rw [State.begin_reached (by exact hat)]
    simp [hup, hrole]
  have himage' : (s.begin t).ring.io.image = some (s.ring.busCycle, h, words) := himage
  have hmap' : (s.begin t).ring.io.imageMap = some o := hmap
  rw [exec_outputImageTake, execOutputImageTake]
  simp only [hwait, Bool.false_eq_true, if_false, himage', hmap']
  exact if_neg (not_not_intro rfl)

/-- The words released leave the demand of channels that RING does not own. -/
theorem outputImageTake_others (t : Ns) (h : BitVec 8) (words : List Word) (o : Bytes) (s : State) (hup : s.up .rng = true)
    (hrole : s.role = some .iostation) (hat : s.ring.busStart + s.ring.cfg.windowNs + 5000 ≤ max s.clock t)
    (himage : s.ring.io.image = some (s.ring.busCycle, h, words)) (hmap : s.ring.io.imageMap = some o) :
    Completes (.outputImageTake t) s fun u => u.ring.io = { s.ring.io with image := none } ∧
      ∀ ch : Fin 128, s.owner ch ≠ .ring → u.chans[ch].demand = s.chans[ch].demand := by
  refine ⟨_, outputImageTake_words t h words o s hup hrole hat himage hmap, ?_⟩
  have htake : ∀ (v : State) (l : List (Bytes × Word)) (live : Bool), TakeKeeps v (v.applyWords live l) := by
    intro v l live
    refine List.foldlRecOn (motive := TakeKeeps v) l _ (.refl v) fun u hu x _ => ?_
    split
    · exact hu.trans (u.applyWord_take _ _)
    · exact hu
  obtain ⟨hring, -, hdemand⟩ := htake ((s.begin t).updIo fun io => { io with image := none }) ((mapOutputs o).zip words) (h.getLsbD 0)
  beta_reduce
  rw [hring]
  exact ⟨rfl, hdemand⟩

/-- A VALUE word of a LIVE image gives the demand of its channel. -/
theorem outputImageTake_value (t : Ns) (h : BitVec 8) (w : Word) (v : Rat) (o e : Bytes) (s : State) (hup : s.up .rng = true)
    (hrole : s.role = some .iostation) (hat : s.ring.busStart + s.ring.cfg.windowNs + 5000 ≤ max s.clock t)
    (himage : s.ring.io.image = some (s.ring.busCycle, h, [w])) (hmap : s.ring.io.imageMap = some o) (hentry : mapOutputs o = [e])
    (hbit : h.getLsbD 0 = true) (hlive : s.ring.io.live = true) (hitem : meItem e = 0x11) (hown : s.owner (meChan e) = .ring)
    (hv : decodeBin 8 23 w.toNat = some v) : Completes (.outputImageTake t) s fun u =>
      u.chans[meChan e].demand = { s.chans[meChan e].demand with
        written := true, on := v != 0, eng := v, failSig := s.chans[meChan e].demand.failSig } ∧
      u.chans[meChan e].ringSubst = false ∧ ∀ ch : Fin 128, ch ≠ meChan e → u.chans[ch] = s.chans[ch] := by
  refine ⟨_, outputImageTake_words t h [w] o s hup hrole hat himage hmap, ?_⟩
  generalize hs : (s.begin t).updIo (fun io => { io with image := none }) = a
  have hchans : a.chans = s.chans := by rw [← hs]; rfl
  have howner : (a.owner (meChan e)).isl = some .rng := by
    rw [← hs]
    exact congrArg Owner.isl hown
  have huse : a.ring.io.uses true e = true := by
    rw [← hs]
    simp [IoStation.uses, State.updIo, State.updRing, hlive]
  have hu : a.applyWords (h.getLsbD 0) ((mapOutputs o).zip [w]) = a.updChan (meChan e) fun c =>
      c.written { c.demand with on := v != 0, eng := v, failSig := a.chans[meChan e].demand.failSig } := by
    rw [hentry, hbit]
    simp [-Fin.getElem_fin, State.applyWords, huse, State.applyWord, hitem, hv, State.ownerWrite, howner]
  rw [hu]
  refine ⟨?_, ?_, fun ch hch => by rw [State.updChan_ne hch, hchans]⟩
  · rw [State.updChan_same, hchans]
    rfl
  · rw [State.updChan_same]
    rfl

/-- Settles O23: each image and each watchdog changes one station, or the channels that RING owns. -/
theorem remoteImages : Obligations.RemoteImages := by
  unfold Obligations.RemoteImages
  exact ⟨inputImage_accepted, inputImage_late, outputImage_kept, outputImage_late, outputImageTake_others, outputImageTake_value,
    stationWatchdog_due, iostationWatchdog_due⟩

end Sys2Proof.Machine
end

section
/-! The lane (obligation LaneTickAndFrames): what the operations on a channel leave of it and of the others, then one lemma per frame,
the lane tick and the cut-off. -/

namespace Sys2Proof.Machine

/-! ### What stays of a channel -/

/-- From `s` to `t` what `view` shows of a channel stays. -/
def ChanKeeps {β : Type} (ch : Fin 128) (view : Chan → β) (s t : State) : Prop := view t.chans[ch] = view s.chans[ch]

namespace ChanKeeps
variable {β : Type} {ch : Fin 128} {view : Chan → β} {s t u : State}

theorem refl (s : State) : ChanKeeps ch view s s := rfl

theorem trans (h : ChanKeeps ch view s t) (k : ChanKeeps ch view t u) : ChanKeeps ch view s u := Eq.trans k h

theorem ite {c : Prop} [Decidable c] (h : ChanKeeps ch view s t) (k : ChanKeeps ch view s u) :
    ChanKeeps ch view s (if c then t else u) := by
  split
  · exact h
  · exact k

theorem of_chans (h : t.chans = s.chans) : ChanKeeps ch view s t := by rw [ChanKeeps, h]

/-- What leaves the channels alone. -/
theorem of_keep {m : Nat} (k : Keep m s t) (hm : m.testBit Aspect.chans.bit = false) : ChanKeeps ch view s t :=
  of_chans (k.same .chans hm)

/-- An update that the view does not show. -/
theorem updChan (s : State) (i : Fin 128) (f : Chan → Chan) (hf : ∀ c, view (f c) = view c := by exact fun _ => rfl) :
    ChanKeeps ch view s (s.updChan i f) := by
  unfold ChanKeeps
  rcases eq_or_ne ch i with rfl | hne
  · rw [State.updChan_same, hf]
  · rw [State.updChan_ne hne]

/-- An update of another channel. -/
theorem updChan_other {i : Fin 128} (hi : ch ≠ i) (s : State) (f : Chan → Chan) : ChanKeeps ch view s (s.updChan i f) := by
  rw [ChanKeeps, State.updChan_ne hi]

theorem putDiag (s : State) (i : Fin 128) (d : Diag) (v : Bool)
    (hv : ∀ (c : Chan) (x y : BitVec 32), view { c with diag := x, diagLatch := y } = view c := by exact fun _ _ _ => rfl) :
    ChanKeeps ch view s (s.putDiag i d v) := by
  rw [ChanKeeps, State.putDiag_chans]
  exact updChan s i _ fun c => hv c _ _

theorem diagBoth (s : State) (i : Fin 128) (d : Diag) (v : Bool)
    (hv : ∀ (c : Chan) (x y : BitVec 32), view { c with diag := x, diagLatch := y } = view c := by exact fun _ _ _ => rfl) :
    ChanKeeps ch view s (s.diagBoth i d v) :=
  trans (t := s.updCell i (Cell.put d v)) rfl (putDiag _ i d v hv)

end ChanKeeps

/-! ### Channel input frames (R48 to R50, R57, R553) -/

/-- The published sample of a channel and its run of bad frames. -/
def Chan.heard (c : Chan) : Sample × Nat := (c.sample, c.badRun)

section
variable (ch : Fin 128) (s : State)

theorem State.echoCheck_heard (seq : Nat) : ChanKeeps ch Chan.heard s (s.echoCheck ch seq) := by
  unfold State.echoCheck
  split
  · split
    · exact .refl s
    · extract_lets a
      have ha : ChanKeeps ch Chan.heard s a := .updChan s ch _
      refine forAll_induction (P := ChanKeeps ch Chan.heard s) (fun i t ht => ht.trans ?_) ha
      exact .ite (.of_chans (State.record_chans _ _ _ _)) (.of_chans rfl)
  · exact .refl s

theorem State.copyDiag_heard (diag : Nat) : ChanKeeps ch Chan.heard s (s.copyDiag ch diag) := by
  unfold State.copyDiag
  refine List.foldlRecOn (motive := ChanKeeps ch Chan.heard s) _ _ (.refl s) fun t ht d _ => ht.trans ?_
  exact .ite (.ite (.putDiag t _ _ _) (.refl t)) (.putDiag t _ _ _)

/-- The grade of a lane shows in the diagnosis of its channel alone. -/
theorem State.gradeLane_keeps {β : Type} (view : Chan → β)
    (hv : ∀ (c : Chan) (x y : BitVec 32), view { c with diag := x, diagLatch := y } = view c := by exact fun _ _ _ => rfl) :
    ChanKeeps ch view s (s.gradeLane ch) := by
  unfold State.gradeLane
  extract_lets n degraded first low margin changed a b c d
  have ha : ChanKeeps ch view s a := .of_chans rfl
  have hb : ChanKeeps ch view a b := .ite (.of_keep (State.measure_keep _ _ _ _ a) (by decide)) (.refl a)
  have hc : ChanKeeps ch view b c := .ite (.of_chans (State.record_chans _ _ _ _)) (.refl b)
  have hd : ChanKeeps ch view c d := .putDiag c ch _ _ hv
  exact (ha.trans (hb.trans (hc.trans hd))).trans (.of_keep (State.ledgerWarn_keep _ _ _ _ d) (by decide))

theorem State.crossSeen_heard (slot : Nat) : ChanKeeps ch Chan.heard s (s.crossSeen ch slot) := by
  unfold State.crossSeen
  split
  · extract_lets other a b short
    have ha : ChanKeeps ch Chan.heard s a := (ChanKeeps.diagBoth s ch _ _).trans (.diagBoth _ other _ _)
    have hb : ChanKeeps ch Chan.heard a b := (ChanKeeps.updChan a ch _).trans (.updChan _ other _)
    refine (ha.trans hb).trans (.ite ?_ (.refl b))
    exact (ChanKeeps.diagBoth b ch _ _).trans (.of_chans (State.record_chans _ _ _ _))
  · exact .refl s

/-- The samples of an input frame. -/
def InFrame.sample (x : InFrame) (stamp : Int) : Sample :=
  { input := x.input, raw := x.raw, outRb := x.outRb, meas := BitVec.ofNat 24 x.meas, termV := BitVec.ofNat 16 x.termV,
    iout := BitVec.ofNat 16 x.iout, temp := BitVec.ofNat 8 x.temp, stamp := stamp }

theorem State.convertAi_heard (meas : Nat) (stamp : Int) (c : Chan) : (s.convertAi ch meas stamp c).1.heard = c.heard := by
  unfold State.convertAi
  extract_lets r lp
  split
  · rfl
  · rfl

theorem State.readAo_heard (meas : Nat) (stamp step : Int) (c : Chan) : (s.readAo ch meas stamp step c).heard = c.heard := by
  unfold State.readAo
  split <;> rfl

/-- A good frame gives its sample and ends the run of bad frames; the rest of its publication keeps both. -/
theorem State.publish_heard (x : InFrame) : (s.publish ch x).chans[ch].heard = (x.sample s.tickStamp, 0) := by
  unfold State.publish
  extract_lets stamp step m r good a b c d e f g h i j event
  have ha : a.chans[ch].heard = (x.sample s.tickStamp, 0) := by
    unfold a
    rw [State.updChan_same]
    rfl
  have hd : ChanKeeps ch Chan.heard a d := (a.echoCheck_heard ch _).trans
    ((b.copyDiag_heard ch _).trans (.ite (.putDiag c ch _ _) (.refl c)))
  have he : ChanKeeps ch Chan.heard d e := d.gradeLane_keeps ch _
  have hf : ChanKeeps ch Chan.heard e f := .ite (.diagBoth e ch _ _) (.refl e)
  have hg : ChanKeeps ch Chan.heard f g := .ite (.refl f) (f.crossSeen_heard ch _)
  have hh : ChanKeeps ch Chan.heard g h := by
    refine .ite ?_ (.ite (.updChan g ch _ (g.readAo_heard ch _ _ _)) (.refl g))
    have hconv := g.convertAi_heard ch x.meas stamp g.chans[ch]
    generalize g.convertAi ch x.meas stamp g.chans[ch] = out at hconv ⊢
    obtain ⟨c', range⟩ := out
    have hset : ChanKeeps ch Chan.heard g (g.updChan ch fun _ => c') := by rw [ChanKeeps, State.updChan_same, hconv]
    cases range with
    | some v => exact hset.trans (.diagBoth _ ch _ _)
    | none => exact hset
  have hi : ChanKeeps ch Chan.heard h i := .ite (.updChan h ch _) (.refl h)
  have hj : ChanKeeps ch Chan.heard i j := .ite (.of_chans rfl) (.refl i)
  have hlast : ChanKeeps ch Chan.heard j (if (recEdgeEvt r && 0 < x.count && !j.cells[ch].silent && j.groups[grp ch].change.isNone) = true
      then j.pushEvent (.edge ch) event else j) := .ite (.of_keep (State.pushEvent_keep _ _ j) (by decide)) (.refl j)
  exact Eq.trans (hd.trans (he.trans (hf.trans (hg.trans (hh.trans (hi.trans (hj.trans hlast))))))) ha

/-- A bad or missing frame adds to the run, keeps the sample and leaves no good quality. -/
theorem State.inputMissing_keeps : ChanKeeps ch (fun c => (c.badRun, c.sample, c.quality))
    (s.updChan ch fun c => { c with
      badRun := s.chans[ch].badRun + 1,
      quality := if c.staleRun + 1 ≤ s.mod.retry[ch] && c.quality != .bad then .stale else .bad }) (s.inputMissing ch) := by
  unfold State.inputMissing
  extract_lets n a b
  have ha : ChanKeeps ch (fun c => (c.badRun, c.sample, c.quality)) (s.updChan ch fun c => { c with
      badRun := s.chans[ch].badRun + 1,
      quality := if c.staleRun + 1 ≤ s.mod.retry[ch] && c.quality != .bad then .stale else .bad }) a := by
    unfold a
    rw [ChanKeeps, State.updChan_same, State.updChan_same]
  have hb := a.gradeLane_keeps ch fun c => (c.badRun, c.sample, c.quality)
  refine (ha.trans hb).trans (.ite ?_ (.refl b))
  refine ChanKeeps.trans ?_ (.putDiag _ ch _ _)
  exact .ite (.of_keep (State.hartFlush_keep ch _ b) (by decide)) (.refl b)

/-- A diagnosis bit that is set reads as set. -/
theorem State.putDiag_has (d : Diag) (hd : d.bit < 32) : (s.putDiag ch d true).chans[ch].has d = true := by
  simp only [State.putDiag_chans, State.updChan_same]
  simp [Chan.has, putBit, hd]

/-- The fourth missing frame in a row fails the lane. -/
theorem State.inputMissing_laneFailed (hrun : 3 ≤ s.chans[ch].badRun) : (s.inputMissing ch).chans[ch].has .laneFailed = true := by
  unfold State.inputMissing
  extract_lets n a b
  rw [if_pos (by omega)]
  exact State.putDiag_has ch _ .laneFailed (by decide)

end

/-- A good frame of a channel whose group has no test control. -/
theorem channelInputFrame_good (t : Ns) (ch : Fin 128) (f : BitVec 256) (s : State) (hgood : frameGood 0 f = true)
    (htest : s.regs.testCtl.getLsbD (grp ch).val = false) : Completes (.channelInputFrame t ch (some f)) s fun u =>
      u.chans[ch].sample.stamp = s.tickAt + s.time.ringOff ∧ u.chans[ch].sample.meas = BitVec.ofNat 24 (InFrame.unpack f).meas ∧
      u.chans[ch].sample.input = (InFrame.unpack f).input ∧ u.chans[ch].badRun = 0 := by
  refine ⟨((s.begin t).publish ch (InFrame.unpack f)).settleHealth, ?_, ?_⟩
  · simp only [exec_channelInputFrame, execChannelInputFrame, State.begin_regs, hgood, htest]
    rfl
  · have hheard := (s.begin t).publish_heard ch (InFrame.unpack f)
    have hchans := (State.settleHealth_keep ((s.begin t).publish ch (InFrame.unpack f))).same .chans (by decide)
    generalize ((s.begin t).publish ch (InFrame.unpack f)) = u at hheard hchans ⊢
    obtain ⟨hsample, hrun⟩ := Prod.mk.inj hheard
    replace hchans : u.settleHealth.chans = u.chans := hchans
    simp [-Fin.getElem_fin, hchans, hsample, hrun, InFrame.sample, State.tickStamp]

/-- A missing or bad frame, or the own frame under lane loopback. -/
theorem channelInputFrame_missing (t : Ns) (ch : Fin 128) (frame : Option (BitVec 256)) (s : State)
    (hbad : ∀ f, frame = some f → frameGood 0 f = false ∨ s.regs.testCtl.getLsbD (grp ch).val = true) :
    Completes (.channelInputFrame t ch frame) s fun u =>
      u.chans[ch].badRun = s.chans[ch].badRun + 1 ∧ u.chans[ch].sample = s.chans[ch].sample ∧
      u.chans[ch].quality ≠ .good ∧ (3 ≤ s.chans[ch].badRun → u.chans[ch].has .laneFailed = true) := by
  have hrun : exec (.channelInputFrame t ch frame) s = .next ((s.begin t).inputMissing ch).settleHealth := by
    cases frame with
    | none => rfl
    | some f =>
      have hnot : (frameGood 0 f && !s.regs.testCtl.getLsbD (grp ch).val) = false := by
        rcases hbad f rfl with h | h <;> simp [h]
      simp only [exec_channelInputFrame, execChannelInputFrame, State.begin_regs, hnot]
      rfl
  refine ⟨_, hrun, ?_⟩
  have hkeeps := (s.begin t).inputMissing_keeps ch
  have hfailed := (s.begin t).inputMissing_laneFailed ch
  have hchans := (State.settleHealth_keep ((s.begin t).inputMissing ch)).same .chans (by decide)
  generalize ((s.begin t).inputMissing ch) = u at hkeeps hfailed hchans ⊢
  have hchan : u.settleHealth.chans[ch] = u.chans[ch] := by rw [show u.settleHealth.chans = u.chans from hchans]
  rw [ChanKeeps, State.updChan_same] at hkeeps
  simp only [Prod.mk.injEq] at hkeeps
  obtain ⟨hbadRun, hsample, hquality⟩ := hkeeps
  beta_reduce
  rw [hchan, hbadRun, hsample, hquality]
  refine ⟨rfl, rfl, ?_, hfailed⟩
  split <;> decide

/-! ### Group input frames (R46, R48, R50, R82) -/

theorem State.updGroup_same (g : Fin 8) (f : Group → Group) (s : State) : (s.updGroup g f).groups[g] = f s.groups[g] := by
  simp [State.updGroup]

theorem State.updGroup_ne {g k : Fin 8} (h : k ≠ g) (f : Group → Group) (s : State) : (s.updGroup g f).groups[k] = s.groups[k] := by
  have hv : g.val ≠ k.val := fun e => h (Fin.ext e.symm)
  simp [State.updGroup, hv]

/-- From `s` to `t` at most the group `g` changes, and its supply and its lane's state stay. -/
structure GroupCounts (g : Fin 8) (s t : State) : Prop where
  other : ∀ k : Fin 8, k ≠ g → t.groups[k] = s.groups[k]
  badRun : t.groups[g].badRun = s.groups[g].badRun

/-- The count of a group lane's frames leaves the other groups and the run of bad frames. -/
theorem State.countGroupLane_counts (g : Fin 8) (bad : Bool) (s : State) : GroupCounts g s (s.countGroupLane g bad) := by
  unfold State.countGroupLane
  extract_lets a n b
  have hb : b.groups = a.groups := by
    unfold b
    split
    · exact (State.measure_keep _ _ _ _ a).same .groups (by decide)
    · rfl
  refine ⟨fun k hk => ?_, ?_⟩
  · rw [State.updGroup_ne hk]
    simp only [hb]
    exact State.updGroup_ne hk _ s
  · rw [State.updGroup_same]
    simp only [hb]
    unfold a
    rw [State.updGroup_same]

theorem State.settleHealth_groups (s : State) : s.settleHealth.groups = s.groups := (State.settleHealth_keep s).same .groups (by decide)

/-- A good group frame. -/
theorem groupInputFrame_good (t : Ns) (g : Fin 8) (f : BitVec 256) (s : State) (hgood : frameGood 2 f = true) :
    Completes (.groupInputFrame t g (some f)) s fun u =>
      u.groups[g].badRun = 0 ∧ u.groups[g].lplusV = BitVec.ofNat 16 (GroupIn.unpack f).lplusV ∧
      u.groups[g].disc = BitVec.ofNat 2 (GroupIn.unpack f).disc ∧ ∀ h : Fin 8, h ≠ g → u.groups[h] = s.groups[h] := by
  rw [Completes, exec_groupInputFrame]
  unfold execGroupInputFrame
  simp -zeta only [hgood, Bool.not_true, Bool.false_eq_true, if_false]
  extract_lets a x b q sup good lane newSup disc c d
  obtain ⟨hother, -⟩ : GroupCounts g a b := a.countGroupLane_counts g _
  have hd : d.groups = b.groups := by
    have hc : c.groups = b.groups := by
      unfold c
      split
      · exact State.record_groups _ _ _ _
      · rfl
    unfold d
    split
    · exact (State.record_groups _ _ _ _).trans hc
    · exact hc
  refine ⟨_, rfl, ?_⟩
  simp only [State.settleHealth_groups, State.updGroup_same]
  refine ⟨trivial, rfl, rfl, fun k hk => ?_⟩
  rw [State.updGroup_ne hk]
  simp only [hd]
  exact hother k hk

/-- A bad or missing group frame after three. -/
theorem groupInputFrame_missing (t : Ns) (g : Fin 8) (frame : Option (BitVec 256)) (s : State)
    (hbad : ∀ f, frame = some f → frameGood 2 f = false) (hrun : 3 ≤ s.groups[g].badRun) :
    Completes (.groupInputFrame t g frame) s fun u =>
      u.groups[g].laneFailed = true ∧ u.groups[g].supply = .unknown ∧ ∀ h : Fin 8, h ≠ g → u.groups[h] = s.groups[h] := by
  have hrun' : exec (.groupInputFrame t g frame) s = .next ((s.begin t).groupMissing g).settleHealth := by
    cases frame with
    | none => rfl
    | some f => simp [exec_groupInputFrame, execGroupInputFrame, hbad f rfl]
  refine ⟨_, hrun', ?_⟩
  simp only [State.settleHealth_groups]
  unfold State.groupMissing
  extract_lets a n b
  obtain ⟨hother, hcount⟩ := (s.begin t).countGroupLane_counts g true
  have hn : decide (4 ≤ n) = true := by
    have : n = s.groups[g].badRun + 1 := congrArg (· + 1) hcount
    simpa [this] using hrun
  have hbg : b.groups[g].laneFailed = true := by
    unfold b
    rw [State.updGroup_same, hn, Bool.or_true]
  have hbo : ∀ k : Fin 8, k ≠ g → b.groups[k] = s.groups[k] := fun k hk => (State.updGroup_ne hk _ a).trans (hother k hk)
  clear_value b
  split
  · simp only [State.record_groups, State.updGroup_same]
    exact ⟨hbg, trivial, fun k hk => (State.updGroup_ne hk _ b).trans (hbo k hk)⟩
  · rename_i hunknown
    exact ⟨hbg, by simpa [-Fin.getElem_fin, hn] using hunknown, hbo⟩

/-! ### The cut-off (R27, R29, R276) -/

/-- What decides whether and as what the frames of a cut-off leave stays. -/
structure LaneKeeps (s t : State) : Prop where
  laneSeq : t.laneSeq = s.laneSeq
  up : ∀ i, t.up i = s.up i
  mod : t.mod = s.mod
  served : ∀ g : Fin 8, t.groups[g].served = s.groups[g].served

namespace LaneKeeps
variable {s t u : State}

theorem refl (s : State) : LaneKeeps s s := ⟨rfl, fun _ => rfl, rfl, fun _ => rfl⟩

theorem trans (h : LaneKeeps s t) (k : LaneKeeps t u) : LaneKeeps s u :=
  ⟨k.laneSeq.trans h.laneSeq, fun i => (k.up i).trans (h.up i), k.mod.trans h.mod, fun g => (k.served g).trans (h.served g)⟩

theorem ite {c : Prop} [Decidable c] (h : LaneKeeps s t) (k : LaneKeeps s u) : LaneKeeps s (if c then t else u) := by
  split
  · exact h
  · exact k

theorem forAll {n : Nat} {F : Fin n → State → State} (h : ∀ i u, LaneKeeps u (F i u)) (s : State) : LaneKeeps s (forAll n F s) :=
  forAll_induction (P := LaneKeeps s) (fun i u hu => hu.trans (h i u)) (.refl s)

theorem lanesLive (h : LaneKeeps s t) : t.lanesLive = s.lanesLive := by rw [State.lanesLive, State.lanesLive, h.up, h.mod]

theorem record (s : State) (src : Isl) (kind : RecKind) (items : List Int) : LaneKeeps s (s.record src kind items) :=
  ⟨(State.record_keep src kind items s).same .laneSeq (by decide), fun _ => State.record_up _ _ _ _ _, State.record_mod _ _ _ _,
    fun g => by rw [State.record_groups]⟩

theorem updChan (s : State) (i : Fin 128) (f : Chan → Chan) : LaneKeeps s (s.updChan i f) := ⟨rfl, fun _ => rfl, rfl, fun _ => rfl⟩

theorem putDiag (s : State) (ch : Fin 128) (d : Diag) (v : Bool) : LaneKeeps s (s.putDiag ch d v) := by
  unfold State.putDiag
  extract_lets rise a
  have ha : LaneKeeps s a := .updChan s ch _
  exact ha.trans (.ite (.record a _ _ _) (.refl a))

theorem ownerWrite (s : State) (src : Isl) (ch : Fin 128) (on : Bool) (value : Option Rat) (fail : Bool) :
    LaneKeeps s (s.ownerWrite src ch on value fail) := by
  unfold State.ownerWrite
  refine .ite ?_ (.putDiag s ch _ _)
  cases value with
  | none => exact .updChan s ch _
  | some v => exact .updChan s ch _

theorem pulseWrite (s : State) (src : Isl) (ch : Fin 128) (level : Bool) (edges : List (BitVec 11)) :
    LaneKeeps s (s.pulseWrite src ch level edges) := .ite (.updChan s ch _) (.putDiag s ch _ _)

theorem takeLate (ch : Fin 128) (s : State) : LaneKeeps s (s.takeLate ch) := by
  unfold State.takeLate
  extract_lets due src a
  have ha : LaneKeeps s a := .updChan s ch _
  exact List.foldlRecOn (motive := LaneKeeps s) _ _ ha fun u hu w _ => hu.trans (.ownerWrite u _ _ _ _ _)

theorem driveSaf (on ovr : List Nat) (ch : Fin 128) (s : State) : LaneKeeps s (s.driveSaf on ovr ch) := by
  unfold State.driveSaf
  extract_lets a
  have ha : LaneKeeps s a := .ite ((LaneKeeps.ownerWrite s _ _ _ _ _).trans (.updChan _ ch _)) (.refl s)
  exact .ite (.refl s) (ha.trans (.updChan a ch _))

theorem updGroup (s : State) (g : Fin 8) (f : Group → Group) (hf : ∀ q, (f q).served = q.served) : LaneKeeps s (s.updGroup g f) := by
  refine ⟨rfl, fun _ => rfl, rfl, fun k => ?_⟩
  rcases eq_or_ne k g with rfl | hne
  · rw [State.updGroup_same, hf]
  · rw [State.updGroup_ne hne]

/-- What leaves the sequence number, the islands, the module and the groups alone. -/
theorem of_keep {m : Nat} (k : Keep m s t)
    (hm : (m.testBit Aspect.laneSeq.bit || m.testBit Aspect.islands.bit || m.testBit Aspect.mod.bit || m.testBit Aspect.groups.bit) =
      false) : LaneKeeps s t := by
  simp only [Bool.or_eq_false_iff] at hm
  obtain ⟨⟨⟨hseq, hisl⟩, hmod⟩, hgroups⟩ := hm
  have hup : ∀ i, t.up i = s.up i := fun i => by rw [State.up, State.up, State.island, State.island, k.same .islands hisl]
  have hserved : ∀ g : Fin 8, t.groups[g].served = s.groups[g].served := fun g => by rw [k.same .groups hgroups]
  exact ⟨k.same .laneSeq hseq, hup, k.same .mod hmod, hserved⟩

theorem applySaf (c : SafCmd) (s : State) : LaneKeeps s (s.applySaf c) := by
  unfold State.applySaf
  extract_lets a b d
  have ha : LaneKeeps s a := .forAll (fun ch u => .driveSaf c.on c.ovr ch u) s
  have hb : LaneKeeps a b := by
    refine LaneKeeps.forAll (fun g u => ?_) a
    exact .updGroup u g _ fun _ => rfl
  have hd : LaneKeeps b d := by
    refine LaneKeeps.forAll (fun sf u => ?_) b
    exact .of_keep (State.updFn_keep sf _ u) (by decide)
  exact (ha.trans (hb.trans hd)).trans (.of_keep (State.updSaf_keep _ d) (by decide))

theorem releaseSaf (s : State) : LaneKeeps s s.releaseSaf := by
  unfold State.releaseSaf
  split
  · exact .ite (.applySaf _ s) (.refl s)
  · exact .refl s

theorem stepAxis (ax : Fin 16) (s : State) : LaneKeeps s (s.stepAxis ax) := by
  unfold State.stepAxis
  extract_lets _ _ _ _ _ _ _ write
  split
  · exact .refl s
  · refine .ite (.refl s) ?_
    extract_lets _ _ _ _ _ _ _ b c _ d
    have hwrite : ∀ n l e u, LaneKeeps u (write n l e u) := by
      intro n l e u
      unfold write
      split
      · exact .pulseWrite u _ _ _ _
      · exact .refl u
    have hb : LaneKeeps s b := ⟨rfl, fun _ => rfl, rfl, fun _ => rfl⟩
    have hd : LaneKeeps s d := hb.trans ((hwrite _ _ _ b).trans (hwrite _ _ _ c))
    exact .ite hd (hd.trans ((hwrite _ _ _ d).trans (hwrite _ _ _ _)))

end LaneKeeps

/-- A diagnosis bit of another channel. -/
theorem ChanKeeps.putDiag_other {β : Type} {ch i : Fin 128} {view : Chan → β} (hi : ch ≠ i) (s : State) (d : Diag) (v : Bool) :
    ChanKeeps ch view s (s.putDiag i d v) := by
  rw [ChanKeeps, State.putDiag_chans]
  exact ChanKeeps.updChan_other hi s _

/-- A frame that is built writes what its channel sends. -/
theorem State.built_sent (seq : BitVec 8) (ch : Fin 128) (s : State) : (s.built seq ch).chans[ch].sent = some seq := by
  unfold State.built
  extract_lets c d m r on code fail goal rises clamp a b
  have hb : b.chans[ch].sent = some seq := by
    unfold b
    rw [State.updChan_same]
  have hdiag : ChanKeeps ch Chan.sent b (((b.putDiag ch .ownerLost (b.ownerLost ch)).putDiag ch .substitute d.subst).putDiag ch
      .safOverride c.safOff) := ((ChanKeeps.putDiag b ch _ _).trans (.putDiag _ ch _ _)).trans (.putDiag _ ch _ _)
  exact Eq.trans hdiag hb

theorem State.built_other {ch i : Fin 128} (hi : ch ≠ i) (seq : BitVec 8) (s : State) : ChanKeeps ch id s (s.built seq i) := by
  unfold State.built
  extract_lets c d m r on code fail goal rises clamp a b
  have hb : ChanKeeps ch id s b := ChanKeeps.trans (t := a) rfl (.updChan_other hi a _)
  clear_value b
  exact ((hb.trans (.putDiag_other hi b _ _)).trans (.putDiag_other hi _ _ _)).trans (.putDiag_other hi _ _ _)

/-- What a channel of a served group sends at a cut-off. -/
def FrameSent (old : State) (seq : BitVec 8) (ch : Fin 128) (s : State) : Prop :=
  s.chans[ch].sent = some seq ∧ s.chans[ch].frame = (old.outFrame seq ch).pack

theorem State.sendChannel_same {old : State} {ch : Fin 128} (hserved : old.groups[grp ch].served = true) (seq : BitVec 8) (s : State) :
    FrameSent old seq ch (State.sendChannel old seq ch s) := by
  have hsent := s.built_sent seq ch
  unfold State.sendChannel
  rw [if_pos hserved]
  extract_lets f
  generalize s.built seq ch = u at hsent
  have hchan : ((u.updChan ch fun c => { c with frame := f }).emit (.laneOut ch f)).chans[ch] = { u.chans[ch] with frame := f } := by
    simp only [State.emit_chans, State.updChan_same]
  rw [FrameSent, hchan]
  exact ⟨hsent, rfl⟩

theorem State.sendChannel_other {old : State} {ch i : Fin 128} (hi : ch ≠ i) (seq : BitVec 8) (s : State) :
    ChanKeeps ch id s (State.sendChannel old seq i s) := by
  unfold State.sendChannel
  refine .ite ?_ (.updChan_other hi s _)
  have hframe : ∀ (u : State) (f : BitVec 256), ChanKeeps ch id u ((u.updChan i fun c => { c with frame := f }).emit (.laneOut i f)) :=
    fun u f => by
      rw [ChanKeeps, State.emit_chans]
      exact ChanKeeps.updChan_other hi u _
  exact (State.built_other hi seq s).trans (hframe _ _)

/-- The state whose values a cut-off sends: released safety commands and late values are in force. -/
def State.finished (s : State) : State := forAll 128 State.takeLate s.releaseSaf

/-- A cut-off of live lanes sends the channels, then the groups, under the next sequence number. -/
theorem State.cutOff_live {s : State} (hlive : s.lanesLive = true) : s.cutOff = forAll 8 (State.sendGroup s.finished (s.laneSeq + 1))
    (forAll 128 (State.sendChannel s.finished (s.laneSeq + 1)) { s.finished with laneSeq := s.laneSeq + 1 }) := by
  have hold : LaneKeeps s s.finished := (LaneKeeps.releaseSaf s).trans (.forAll LaneKeeps.takeLate _)
  have hnot : ¬ (!s.finished.lanesLive) = true := by simp [hold.lanesLive, hlive]
  have hfinished : forAll 128 State.takeLate s.releaseSaf = s.finished := rfl
  unfold State.cutOff
  simp only [hfinished]
  rw [if_neg hnot, hold.laneSeq]

theorem State.cutOff_laneSeq {s : State} (hlive : s.lanesLive = true) : s.cutOff.laneSeq = s.laneSeq + 1 := by
  rw [State.cutOff_live hlive]
  refine forAll_induction (P := fun t => t.laneSeq = s.laneSeq + 1)
    (fun g t ht => ((State.sendGroup_keep s.finished _ g t).same .laneSeq (by decide)).trans ht) ?_
  exact forAll_induction (P := fun t => t.laneSeq = s.laneSeq + 1)
    (fun i t ht => ((State.sendChannel_keep s.finished _ i t).same .laneSeq (by decide)).trans ht) rfl

/-- A cut-off writes the frame of each channel of a served group. -/
theorem State.cutOff_frame {s : State} (hlive : s.lanesLive = true) {ch : Fin 128} (hserved : s.groups[grp ch].served = true) :
    FrameSent s.finished (s.laneSeq + 1) ch s.cutOff := by
  have hold : LaneKeeps s s.finished := (LaneKeeps.releaseSaf s).trans (.forAll LaneKeeps.takeLate _)
  rw [State.cutOff_live hlive]
  refine forAll_induction (fun g t ht => ?_) (forAll_at (P := fun _ => True) ch (fun _ _ _ _ => trivial)
    (fun t _ => State.sendChannel_same ((hold.served _).trans hserved) _ t) (fun i hi t ht => ?_) trivial)
  · have hsame : (State.sendGroup s.finished (s.laneSeq + 1) g t).chans = t.chans := (State.sendGroup_keep _ _ g t).same .chans (by decide)
    simp only [FrameSent, hsame]
    exact ht
  · have hsame : (State.sendChannel s.finished (s.laneSeq + 1) i t).chans[ch] = t.chans[ch] := State.sendChannel_other hi.symm _ t
    rw [FrameSent, hsame]
    exact ht

theorem outputCutoff_frames (t : Ns) (s : State) (hlive : s.lanesLive = true) : Completes (.outputCutoff t) s fun u =>
      u.laneSeq = s.laneSeq + 1 ∧ ∀ ch : Fin 128, s.groups[grp ch].served = true →
        u.chans[ch].sent = some (s.laneSeq + 1) ∧
        u.chans[ch].frame = ((forAll 128 State.takeLate (forAll 16 State.stepAxis (s.begin t)).releaseSaf).outFrame (s.laneSeq + 1)
          ch).pack := by
  have hstep : LaneKeeps (s.begin t) (forAll 16 State.stepAxis (s.begin t)) := .forAll LaneKeeps.stepAxis _
  refine ⟨(forAll 16 State.stepAxis (s.begin t)).cutOff, rfl, ?_⟩
  generalize forAll 16 State.stepAxis (s.begin t) = a at hstep ⊢
  have hlive' : a.lanesLive = true := hstep.lanesLive.trans hlive
  have hseq : a.laneSeq = s.laneSeq := hstep.laneSeq
  rw [← hseq]
  exact ⟨State.cutOff_laneSeq hlive', fun ch hserved => State.cutOff_frame hlive' ((hstep.served _).trans hserved)⟩

/-! ### The lane tick (R27, R46, R48, R83) -/

/-- What the front end samples at a latch. -/
def Cell.sampled (c : Cell) : BitVec 24 × BitVec 16 := (c.meas, c.termV)

theorem hartStep_sampled (now : Ns) (live : Bool) (c : Cell) : (hartStep now live c).sampled = c.sampled := by
  unfold hartStep
  extract_lets start
  have hstart : ∀ at_, (start at_).sampled = c.sampled := by
    intro at_
    unfold start
    split <;> rfl
  split
  · rfl
  · split
    · split
      · rfl
      · exact hstart _
    · exact hstart _

theorem pulseStep_sampled (blocked : Bool) (c : Cell) : (pulseStep blocked c).sampled = c.sampled := by
  unfold pulseStep
  split <;> rfl

theorem Cell.put_sampled (d : Diag) (v : Bool) (c : Cell) : (c.put d v).sampled = c.sampled := rfl

/-- A latch takes the samples. -/
theorem latchCell_sampled (s : State) (ch : Fin 128) (x : CellSample) (c : Cell) :
    (latchCell s ch x c).sampled = (x.meas, x.termV) := by
  unfold latchCell
  extract_lets
  split
  split
  extract_lets _ _ _ c1 c2 c3 c4
  have h1 : c1.sampled = (x.meas, x.termV) := rfl
  clear_value c1
  have h2 : c2.sampled = c1.sampled := by
    unfold c2
    rw [hartStep_sampled]
    split
    · exact pulseStep_sampled _ c1
    · rfl
  clear_value c2
  have h3 : c3.sampled = c2.sampled := by
    unfold c3
    split
    · split <;> rfl
    · rfl
  clear_value c3
  unfold c4
  rw [Cell.put_sampled, Cell.put_sampled, Cell.put_sampled, Cell.put_sampled, h3, h2, h1]

/-! ### Cells and group controllers -/

theorem State.updCell_same (i : Fin 128) (f : Cell → Cell) (s : State) : (s.updCell i f).cells[i] = f s.cells[i] := by
  simp [State.updCell]

theorem State.updCell_ne {i k : Fin 128} (h : k ≠ i) (f : Cell → Cell) (s : State) : (s.updCell i f).cells[k] = s.cells[k] := by
  have hv : i.val ≠ k.val := fun e => h (Fin.ext e.symm)
  simp [State.updCell, hv]

theorem State.updGfe_same (g : Fin 8) (f : GroupCtl → GroupCtl) (s : State) : (s.updGfe g f).gfes[g] = f s.gfes[g] := by
  simp [State.updGfe]

theorem State.updGfe_ne {g k : Fin 8} (h : k ≠ g) (f : GroupCtl → GroupCtl) (s : State) : (s.updGfe g f).gfes[k] = s.gfes[k] := by
  have hv : g.val ≠ k.val := fun e => h (Fin.ext e.symm)
  simp [State.updGfe, hv]

/-- An update of a cell that its samples do not show. -/
theorem State.updCell_sampled (i ch : Fin 128) (f : Cell → Cell) (s : State) (hf : ∀ c, (f c).sampled = c.sampled) :
    (s.updCell i f).cells[ch].sampled = s.cells[ch].sampled := by
  rcases eq_or_ne ch i with rfl | hne
  · rw [State.updCell_same, hf]
  · rw [State.updCell_ne hne]

/-- Load shedding leaves the samples. -/
theorem State.shed_sampled (g : Fin 8) (ch : Fin 128) (s : State) : (s.shed g).cells[ch].sampled = s.cells[ch].sampled := by
  have hdiag : ∀ (u : State) (i : Fin 128) (v : Bool), (u.putDiag i .overload v).cells = u.cells := fun u i v =>
    (State.putDiag_keep i .overload v u).same .cells (by decide)
  unfold State.shed
  split
  · split
    · rename_i i _
      rw [State.diagBoth]
      simp only [hdiag]
      rw [State.updCell_sampled i ch _ _ (by exact fun _ => rfl), State.updCell_sampled i ch _ _ (by exact fun _ => rfl)]
    · rfl
  · rfl

/-! ### The frames of a tick -/

/-- From `s` to `t` frames leave and nothing else changes. -/
def OnlyOut (s t : State) : Prop := ∃ o, t = { s with out := s.out ++ o }

theorem OnlyOut.refl (s : State) : OnlyOut s s := ⟨[], by rw [List.append_nil]⟩

theorem OnlyOut.trans {s t u : State} (h : OnlyOut s t) (k : OnlyOut t u) : OnlyOut s u := by
  obtain ⟨o, rfl⟩ := h
  obtain ⟨p, rfl⟩ := k
  exact ⟨o ++ p, by rw [← List.append_assoc]⟩

theorem OnlyOut.forAll {n : Nat} {F : Fin n → State → State} (h : ∀ i u, OnlyOut u (F i u)) (s : State) :
    OnlyOut s (forAll n F s) :=
  forAll_induction (P := OnlyOut s) (fun i u hu => hu.trans (h i u)) (.refl s)

/-- The frame of every member leaves, as the state before the first one has it. -/
theorem forAll_emit_mem {n : Nat} (e : State → Fin n → Emission) (he : ∀ (z : State) (o : List Emission) (i : Fin n),
    e { z with out := o } i = e z i) (s : State) (k : Fin n) : e s k ∈ (forAll n (fun i z => z.emit (e z i)) s).out := by
  refine forAll_at (P := OnlyOut s) (Q := fun t => e s k ∈ t.out) k (fun i _ t ht => ht.trans ⟨[e t i], rfl⟩) (fun t ht => ?_)
    (fun i _ t ht => List.mem_append_left _ ht) (.refl s)
  obtain ⟨o, rfl⟩ := ht
  exact List.mem_append_right _ (List.mem_singleton.mpr (he s _ k).symm)

theorem OnlyOut.cellFrame_eq {s t : State} (h : OnlyOut s t) (ch : Fin 128) : cellFrame t ch = cellFrame s ch := by
  obtain ⟨o, rfl⟩ := h
  rfl

theorem OnlyOut.groupFrame_eq {s t : State} (h : OnlyOut s t) (g : Fin 8) : groupFrame t g = groupFrame s g := by
  obtain ⟨o, rfl⟩ := h
  rfl

theorem OnlyOut.mem {s t : State} (h : OnlyOut s t) {e : Emission} (he : e ∈ s.out) : e ∈ t.out := by
  obtain ⟨o, rfl⟩ := h
  exact List.mem_append_left _ he

theorem OnlyOut.emit (s : State) (e : Emission) : OnlyOut s (s.emit e) := ⟨[e], rfl⟩

/-- The characters of the modems leave. -/
def State.sendHart (s : State) : State :=
  Machine.forAll 128 (fun i z => match z.cells[i].txNow with | some b => z.emit (.hart i [b]) | none => z) s

/-- The frames of the cells leave. -/
def State.sendCells (s : State) : State := Machine.forAll 128 (fun i z => z.emit (.laneIn i (cellFrame z i))) s

/-- The frames of the group controllers leave. -/
def State.sendGfes (s : State) : State := Machine.forAll 8 (fun g z => z.emit (.groupIn g (groupFrame z g))) s

theorem State.sendHart_only (s : State) : OnlyOut s s.sendHart := by
  refine .forAll (fun i u => ?_) s
  split
  · exact .emit u _
  · exact .refl u

theorem State.sendCells_only (s : State) : OnlyOut s s.sendCells := .forAll (fun _ u => .emit u _) s

theorem State.sendGfes_only (s : State) : OnlyOut s s.sendGfes := .forAll (fun _ u => .emit u _) s

/-- The frames of a tick leave, and nothing else changes. -/
theorem State.sendTick_only (s : State) : OnlyOut s s.sendHart.sendCells.sendGfes :=
  s.sendHart_only.trans (s.sendHart.sendCells_only.trans s.sendHart.sendCells.sendGfes_only)

theorem State.sendTick_cell (s : State) (ch : Fin 128) :
    .laneIn ch (cellFrame s.sendHart.sendCells.sendGfes ch) ∈ s.sendHart.sendCells.sendGfes.out := by
  have hsent := forAll_emit_mem (fun z i => .laneIn i (cellFrame z i)) (fun _ _ _ => rfl) s.sendHart ch
  have hlater := s.sendHart.sendCells_only.trans s.sendHart.sendCells.sendGfes_only
  rw [hlater.cellFrame_eq]
  exact s.sendHart.sendCells.sendGfes_only.mem hsent

theorem State.sendTick_group (s : State) (g : Fin 8) :
    .groupIn g (groupFrame s.sendHart.sendCells.sendGfes g) ∈ s.sendHart.sendCells.sendGfes.out := by
  have hsent := forAll_emit_mem (fun z i => .groupIn i (groupFrame z i)) (fun _ _ _ => rfl) s.sendHart.sendCells g
  rw [s.sendHart.sendCells.sendGfes_only.groupFrame_eq]
  exact hsent

/-! ### The latch of a tick -/

/-- The state whose frames a lane tick sends: every cell and group controller has latched. -/
def State.latched (cells : Vector CellSample 128) (groups : Vector GroupSample 8) (s : State) : State :=
  forAll 8 State.shed (forAll 8 (fun g => State.updGfe g (latchGroup s g groups[g]
    (forAll 128 (fun i => State.updCell i (latchCell s i cells[i])) s).cells))
    (forAll 128 (fun i => State.updCell i (latchCell s i cells[i])) s))

/-- The state of a lane tick before the latch: the tick that ends is kept, and the next one begins. -/
def State.nextTick (s : State) : State :=
  forAll 8 State.exitRecord { s.keepTick with tick := s.keepTick.tick + 1, tickAt := s.keepTick.clock }

theorem execLaneTick_eq (t : Ns) (cells : Vector CellSample 128) (groups : Vector GroupSample 8) (s : State) :
    execLaneTick t cells groups s =
    .next ((s.begin t).nextTick.latched cells groups).sendHart.sendCells.sendGfes := rfl

theorem State.latched_cells (cells : Vector CellSample 128) (groups : Vector GroupSample 8) (s : State) (ch : Fin 128) :
    (s.latched cells groups).cells[ch].sampled = (cells[ch].meas, cells[ch].termV) := by
  unfold State.latched
  refine forAll_induction (P := fun u => u.cells[ch].sampled = (cells[ch].meas, cells[ch].termV))
    (fun g u hu => (State.shed_sampled g ch u).trans hu) ?_
  refine forAll_induction (P := fun u => u.cells[ch].sampled = (cells[ch].meas, cells[ch].termV)) (fun g u hu => by exact hu) ?_
  refine forAll_at (P := fun _ => True) (Q := fun u => u.cells[ch].sampled = (cells[ch].meas, cells[ch].termV)) ch
    (fun _ _ _ _ => trivial) (fun u _ => ?_) (fun i hi u hu => ?_) trivial
  · rw [State.updCell_same, latchCell_sampled]
  · rw [State.updCell_ne hi.symm]
    exact hu

theorem State.latched_gfes (cells : Vector CellSample 128) (groups : Vector GroupSample 8) (s : State) (g : Fin 8) :
    (s.latched cells groups).gfes[g].lplusV = groups[g].lplusV := by
  unfold State.latched
  refine forAll_induction (P := fun u => u.gfes[g].lplusV = groups[g].lplusV) (fun i u hu => ?_) ?_
  · have hsame : (u.shed i).gfes = u.gfes := (State.shed_keep i u).same .gfes (by decide)
    simp only [hsame]
    exact hu
  · refine forAll_at (P := fun _ => True) (Q := fun u => u.gfes[g].lplusV = groups[g].lplusV) g
      (fun _ _ _ _ => trivial) (fun u _ => ?_) (fun i hi u hu => ?_) trivial
    · rw [State.updGfe_same]
      rfl
    · rw [State.updGfe_ne hi.symm]
      exact hu

/-- The tick number, its stamp, the program, the samples and the clocks before the latch stay. -/
theorem State.latched_same (cells : Vector CellSample 128) (groups : Vector GroupSample 8) (s : State) :
    (s.latched cells groups).tick = s.tick ∧ (s.latched cells groups).tickAt = s.tickAt ∧ (s.latched cells groups).prg = s.prg := by
  unfold State.latched
  refine forAll_induction (P := fun u => u.tick = s.tick ∧ u.tickAt = s.tickAt ∧ u.prg = s.prg) (fun g u hu => ?_) ?_
  · obtain ⟨htick, hat, hprg⟩ := hu
    have hkeep := State.shed_keep g u
    exact ⟨(hkeep.same .tick (by decide)).trans htick, (hkeep.same .tickAt (by decide)).trans hat,
      (hkeep.same .prg (by decide)).trans hprg⟩
  · refine forAll_induction (P := fun u => u.tick = s.tick ∧ u.tickAt = s.tickAt ∧ u.prg = s.prg) (fun g u hu => by exact hu) ?_
    exact forAll_induction (P := fun u => u.tick = s.tick ∧ u.tickAt = s.tickAt ∧ u.prg = s.prg) (fun i u hu => by exact hu)
      ⟨rfl, rfl, rfl⟩

theorem State.nextTick_same (s : State) :
    s.nextTick.tick = s.tick + 1 ∧ s.nextTick.tickAt = s.clock ∧ s.nextTick.prg = s.keepTick.prg := by
  unfold State.nextTick
  refine forAll_induction (P := fun u => u.tick = s.tick + 1 ∧ u.tickAt = s.clock ∧ u.prg = s.keepTick.prg) (fun g u hu => ?_)
    ⟨rfl, rfl, rfl⟩
  obtain ⟨htick, hat, hprg⟩ := hu
  have hkeep := State.exitRecord_keep g u
  exact ⟨(hkeep.same .tick (by decide)).trans htick, (hkeep.same .tickAt (by decide)).trans hat,
    (hkeep.same .prg (by decide)).trans hprg⟩

/-- A tick boundary: the latch, then the frames. -/
theorem laneTick_sends (t : Ns) (cells : Vector CellSample 128) (groups : Vector GroupSample 8) (s : State) :
    Completes (.laneTick t cells groups) s fun u =>
      u.tick = s.tick + 1 ∧ u.tickAt = max s.clock t ∧ u.prg.prevImage.locals = s.localSamples ∧
      (∀ ch : Fin 128, .laneIn ch (cellFrame u ch) ∈ u.out) ∧ (∀ g : Fin 8, .groupIn g (groupFrame u g) ∈ u.out) ∧
      (∀ ch : Fin 128, u.cells[ch].meas = cells[ch].meas ∧ u.cells[ch].termV = cells[ch].termV) ∧
      ∀ g : Fin 8, u.gfes[g].lplusV = groups[g].lplusV := by
  refine ⟨((s.begin t).nextTick.latched cells groups).sendHart.sendCells.sendGfes, execLaneTick_eq t cells groups s, ?_⟩
  obtain ⟨htick, hat, hprg⟩ := (s.begin t).nextTick_same
  obtain ⟨htick', hat', hprg'⟩ := (s.begin t).nextTick.latched_same cells groups
  have hcells := fun ch => (s.begin t).nextTick.latched_cells cells groups ch
  have hgfes := fun g => (s.begin t).nextTick.latched_gfes cells groups g
  generalize (s.begin t).nextTick.latched cells groups = a at *
  have hframes := a.sendTick_cell
  have hgroups := a.sendTick_group
  obtain ⟨o, ho⟩ := a.sendTick_only
  refine ⟨?_, ?_, ?_, hframes, hgroups, fun ch => ?_, fun g => ?_⟩
  · rw [ho]
    exact htick'.trans htick
  · rw [ho]
    exact hat'.trans hat
  · rw [ho]
    exact congrArg (fun p : Program => p.prevImage.locals) (hprg'.trans hprg)
  · simp only [ho]
    exact Prod.mk.inj (hcells ch)
  · simp only [ho]
    exact hgfes g

/-- Settles O3: a frame changes its channel or its group, and what is done after it leaves the sample and the run of bad frames; the
cut-off sends what the owners finished. -/
theorem laneTickAndFrames : Obligations.LaneTickAndFrames := by
  unfold Obligations.LaneTickAndFrames
  exact ⟨laneTick_sends, channelInputFrame_good, channelInputFrame_missing, groupInputFrame_good, groupInputFrame_missing,
    outputCutoff_frames⟩

end Sys2Proof.Machine
end

section
/-! Field operations that the obligations on channels and groups share: the channels of a group, the bits of a diagnosis, what an
operation on one channel leaves of the others, and updates of every cell of a group. -/

namespace Sys2Proof.Machine

/-! ### The channels of a group (R5) -/

@[simp] theorem grp_chanOf (g : Fin 8) (i : Fin 16) : grp (chanOf g i) = g := by
  ext
  simp only [grp, chanOf]
  omega

theorem chanOf_ne (g : Fin 8) {i k : Fin 16} (h : i ≠ k) : chanOf g i ≠ chanOf g k :=
  fun e => h (Fin.ext (Nat.add_left_cancel (congrArg Fin.val e)))

theorem ne_chanOf {g : Fin 8} {ch : Fin 128} (h : grp ch ≠ g) (i : Fin 16) : ch ≠ chanOf g i :=
  fun e => h (e ▸ grp_chanOf g i)

/-- Every channel has its place in its group. -/
theorem exists_chanOf {g : Fin 8} {ch : Fin 128} (h : grp ch = g) : ∃ i, ch = chanOf g i := by
  subst h
  exact ⟨⟨ch.val % 16, Nat.mod_lt _ (by decide)⟩, Fin.ext (Nat.div_add_mod ch.val 16).symm⟩

/-! ### What the start of a command leaves of the records and modes -/

@[simp] theorem State.begin_mode (s : State) (t : Ns) (ch : Fin 128) : (s.begin t).mode ch = s.mode ch := rfl
@[simp] theorem State.begin_chanRec (s : State) (t : Ns) (ch : Fin 128) : (s.begin t).chanRec ch = s.chanRec ch := rfl
@[simp] theorem State.begin_cellRec (s : State) (t : Ns) (ch : Fin 128) : (s.begin t).cellRec ch = s.cellRec ch := rfl
@[simp] theorem State.begin_safetyGroup (s : State) (t : Ns) (g : Fin 8) : (s.begin t).safetyGroup g = s.safetyGroup g := rfl

/-! ### The bits of a cell's diagnosis (R81) -/

/-- A diagnosis is found again by its bit. -/
theorem Diag.ofNat_bit (d : Diag) : Diag.ofNat d.bit = d := by
  cases d <;> rfl

theorem Diag.bit_inj {d e : Diag} : d.bit = e.bit ↔ d = e :=
  ⟨fun h => by rw [← Diag.ofNat_bit d, h, Diag.ofNat_bit], congrArg _⟩

/-- A bit that the cell's diagnosis holds reads as it was put, and no other bit changes. -/
theorem Cell.has_put (c : Cell) {d : Diag} (hd : d.bit < 14) (v : Bool) (e : Diag) :
    (c.put d v).has e = if e = d then v else c.has e := by
  rw [Cell.has, Cell.put, getLsbD_putBit _ hd]
  simp only [Diag.bit_inj]
  rfl

/-! ### Operations on one channel -/

/-- From `s` to `t` no cell and no channel but `ch` changes. -/
def OnlyChannel (ch : Fin 128) (s t : State) : Prop := ∀ j : Fin 128, j ≠ ch → t.cells[j] = s.cells[j] ∧ t.chans[j] = s.chans[j]

namespace OnlyChannel
variable {ch : Fin 128} {s t u : State}

theorem trans (h : OnlyChannel ch s t) (k : OnlyChannel ch t u) : OnlyChannel ch s u := fun j hj =>
  ⟨(k j hj).1.trans (h j hj).1, (k j hj).2.trans (h j hj).2⟩

theorem updCell (s : State) (ch : Fin 128) (f : Cell → Cell) : OnlyChannel ch s (s.updCell ch f) := fun _ hj =>
  ⟨State.updCell_ne hj f s, rfl⟩

theorem updChan (s : State) (ch : Fin 128) (f : Chan → Chan) : OnlyChannel ch s (s.updChan ch f) := fun _ hj =>
  ⟨rfl, State.updChan_ne hj f s⟩

end OnlyChannel

section
variable (ch : Fin 128) (d : Diag) (v : Bool) (s : State)

@[simp] theorem State.putDiag_cells : (s.putDiag ch d v).cells = s.cells := (State.putDiag_keep ch d v s).same .cells (by decide)
@[simp] theorem State.putDiag_gfes : (s.putDiag ch d v).gfes = s.gfes := (State.putDiag_keep ch d v s).same .gfes (by decide)
@[simp] theorem State.putDiag_groups : (s.putDiag ch d v).groups = s.groups := (State.putDiag_keep ch d v s).same .groups (by decide)

theorem State.putDiag_chan : (s.putDiag ch d v).chans[ch] = { s.chans[ch] with
    diag := putBit s.chans[ch].diag d.bit v,
    diagLatch := if v then putBit s.chans[ch].diagLatch d.bit true else s.chans[ch].diagLatch } := by
  simp only [State.putDiag_chans, State.updChan_same]

/-- A bit of the channel's diagnosis reads as it was put, and no other bit changes. -/
theorem State.putDiag_chan_has (e : Diag) : (s.putDiag ch d v).chans[ch].has e = if e = d then v else s.chans[ch].has e := by
  have hd : d.bit < 32 := by cases d <;> decide
  rw [State.putDiag_chan, Chan.has, getLsbD_putBit _ hd]
  simp only [Diag.bit_inj]
  rfl

theorem State.putDiag_chan_ne {j : Fin 128} (hj : j ≠ ch) : (s.putDiag ch d v).chans[j] = s.chans[j] :=
  ChanKeeps.putDiag_other (view := id) hj s d v

theorem State.diagBoth_cell : (s.diagBoth ch d v).cells[ch] = s.cells[ch].put d v := by
  simp only [State.diagBoth, State.putDiag_cells, State.updCell_same]

theorem State.diagBoth_chan_has (e : Diag) : (s.diagBoth ch d v).chans[ch].has e = if e = d then v else s.chans[ch].has e :=
  State.putDiag_chan_has ch d v _ e

theorem State.putDiag_only : OnlyChannel ch s (s.putDiag ch d v) := fun j hj =>
  ⟨by rw [State.putDiag_cells], State.putDiag_chan_ne ch d v s hj⟩

theorem State.diagBoth_only : OnlyChannel ch s (s.diagBoth ch d v) :=
  (OnlyChannel.updCell s ch _).trans (State.putDiag_only ch d v _)

/-- A diagnosis stands in the cell and in the channel, and no other channel changes. -/
theorem State.diagBoth_sets (hd : d.bit < 14) : (s.diagBoth ch d v).cells[ch].has d = v ∧ (s.diagBoth ch d v).chans[ch].has d = v ∧
    OnlyChannel ch s (s.diagBoth ch d v) := by
  refine ⟨?_, ?_, s.diagBoth_only ch d v⟩
  · rw [State.diagBoth_cell, Cell.has_put _ hd, if_pos rfl]
  · rw [State.diagBoth_chan_has, if_pos rfl]

end

/-! ### Updates of every cell of a group -/

/-- From `s` to `t` no group controller but `g` changes. -/
def OnlyGfe (g : Fin 8) (s t : State) : Prop := ∀ h : Fin 8, h ≠ g → t.gfes[h] = s.gfes[h]

theorem OnlyGfe.updGfe (s : State) (g : Fin 8) (f : GroupCtl → GroupCtl) : OnlyGfe g s (s.updGfe g f) := fun _ hh =>
  State.updGfe_ne hh f s

/-- An SDO that the field side switches off, and any other cell, after the group's SDOs have gone off. -/
def Cell.sdoOff (c : Cell) : Cell := if c.mode == .sdo then c.forceOff else c

theorem Cell.sdoOff_mode (c : Cell) : c.sdoOff.mode = c.mode := by
  unfold Cell.sdoOff
  split <;> rfl

theorem Cell.sdoOff_has (c : Cell) (d : Diag) : c.sdoOff.has d = c.has d := by
  unfold Cell.sdoOff
  split <;> rfl

theorem Cell.sdoOff_switched {c : Cell} (h : c.mode = .sdo) : c.sdoOff.switched = false := by
  simp [Cell.sdoOff, h, Cell.switched, Cell.forceOff]

section
variable (g : Fin 8) (f : Fin 16 → Cell → Cell) (s : State)

/-- Updates of cells change cells. -/
theorem forAll_updCell_eq : ∃ c, forAll 16 (fun i => State.updCell (chanOf g i) (f i)) s = { s with cells := c } := by
  refine forAll_induction (P := fun u => ∃ c, u = { s with cells := c }) (fun i u hu => ?_) ⟨s.cells, rfl⟩
  obtain ⟨c, rfl⟩ := hu
  exact ⟨_, rfl⟩

theorem forAll_updCell_gfes : (forAll 16 (fun i => State.updCell (chanOf g i) (f i)) s).gfes = s.gfes := by
  obtain ⟨c, h⟩ := forAll_updCell_eq g f s
  rw [h]

/-- Each cell of the group has its update. -/
theorem forAll_updCell_cell (i : Fin 16) :
    (forAll 16 (fun i => State.updCell (chanOf g i) (f i)) s).cells[chanOf g i] = f i s.cells[chanOf g i] := by
  refine forAll_at (P := fun u => u.cells[chanOf g i] = s.cells[chanOf g i])
    (Q := fun u => u.cells[chanOf g i] = f i s.cells[chanOf g i]) i (fun k hk u hu => ?_) (fun u hu => ?_) (fun k hk u hu => ?_) rfl
  · rw [State.updCell_ne (chanOf_ne g hk.symm), hu]
  · rw [State.updCell_same, hu]
  · rw [State.updCell_ne (chanOf_ne g hk.symm), hu]

/-- The cells of the other groups stay. -/
theorem forAll_updCell_other {ch : Fin 128} (h : grp ch ≠ g) :
    (forAll 16 (fun i => State.updCell (chanOf g i) (f i)) s).cells[ch] = s.cells[ch] := by
  refine forAll_induction (P := fun u => u.cells[ch] = s.cells[ch]) (fun i u hu => ?_) rfl
  rw [State.updCell_ne (ne_chanOf h i), hu]

end

end Sys2Proof.Machine
end

section
/-! Detectors of a channel (obligation Detectors): one lemma per detector. Each sets or clears a diagnosis of its channel, or changes
one cell. -/

namespace Sys2Proof.Machine

section
variable (t : Ns) (ch : Fin 128) (s : State)

/-! ### Wire break, open load (R58, R62) -/

theorem wireBreakSet_sets (h : held (max s.clock t) s.cells[ch].wbSince 20000000 = true) :
    Completes (.wireBreakSet t ch) s fun u =>
      u.cells[ch].has .wireBreak = true ∧ u.chans[ch].has .wireBreak = true ∧ OnlyChannel ch s u :=
  ⟨_, (exec_wireBreakSet t ch s).trans (if_pos h), (s.begin t).diagBoth_sets ch .wireBreak true (by decide)⟩

theorem wireBreakClear_clears (h : held (max s.clock t) s.cells[ch].wbClearSince 20000000 = true) :
    Completes (.wireBreakClear t ch) s fun u =>
      u.cells[ch].has .wireBreak = false ∧ u.chans[ch].has .wireBreak = false ∧ OnlyChannel ch s u :=
  ⟨_, (exec_wireBreakClear t ch s).trans (if_pos h), (s.begin t).diagBoth_sets ch .wireBreak false (by decide)⟩

theorem openLoad_sets (h : held (max s.clock t) s.cells[ch].openSince 100000000 = true) :
    Completes (.openLoad t ch) s fun u =>
      u.cells[ch].has .openLoad = true ∧ u.chans[ch].has .openLoad = true ∧ OnlyChannel ch s u :=
  ⟨_, (exec_openLoad t ch s).trans (if_pos h), (s.begin t).diagBoth_sets ch .openLoad true (by decide)⟩

/-! ### Inrush and overload (R61) -/

theorem inrushWindowEnd_ends (e : Ns) (he : s.cells[ch].inrushUntil = some e) (h : e ≤ max s.clock t) :
    Completes (.inrushWindowEnd t ch) s fun u =>
      u.cells[ch] = { s.cells[ch] with inrushUntil := none } ∧ ∀ j : Fin 128, j ≠ ch → u.cells[j] = s.cells[j] := by
  refine ⟨(s.begin t).updCell ch fun c => { c with inrushUntil := none }, ?_, State.updCell_same ch _ _,
    fun j hj => State.updCell_ne hj _ _⟩
  rw [exec_inrushWindowEnd]
  simp only [execInrushWindowEnd, State.begin_cells, he]
  exact if_pos h

/-- A cell that trips is off, counts the trip, and is retried after 1 s or locked at the fourth. -/
theorem Cell.trip_effect (now : Ns) (c : Cell) : (c.trip now).switched = false ∧ (c.trip now).trips = c.trips + 1 ∧
    (c.trips < 3 → (c.trip now).retryAt = some (now + 1000000000)) ∧
    (3 ≤ c.trips → (c.trip now).retryAt = none ∧ (c.trip now).lockedOff = true) := by
  refine ⟨by simp [Cell.switched, Cell.trip], rfl, fun h => ?_, fun h => ⟨?_, ?_⟩⟩
  · exact if_neg (by omega)
  · exact if_pos (by omega)
  · exact decide_eq_true (by omega)

theorem overloadTrip_trips (hmode : s.cells[ch].mode.isDo = true) (hon : s.cells[ch].switched = true)
    (h : held (max s.clock t) s.cells[ch].overSince 5000000 = true) : Completes (.overloadTrip t ch) s fun u =>
      u.cells[ch].switched = false ∧ u.cells[ch].trips = s.cells[ch].trips + 1 ∧ u.chans[ch].has .overload = true ∧
      (s.cells[ch].trips < 3 → u.cells[ch].retryAt = some (max s.clock t + 1000000000)) ∧
      (3 ≤ s.cells[ch].trips → u.cells[ch].retryAt = none ∧ u.cells[ch].lockedOff = true) ∧ OnlyChannel ch s u := by
  have hcond : ((s.begin t).cells[ch].mode.isDo && (s.begin t).cells[ch].switched &&
      held (s.begin t).clock (s.begin t).cells[ch].overSince 5000000) = true := by
    simp only [State.begin_cells, State.begin_clock, hmode, hon, h, Bool.and_self]
  refine ⟨_, (exec_overloadTrip t ch s).trans (if_pos hcond), ?_⟩
  obtain ⟨hoff, hcount, hretry, hlock⟩ := Cell.trip_effect (max s.clock t) s.cells[ch]
  have honly := (OnlyChannel.updCell (s.begin t) ch fun c => c.trip (s.begin t).clock).trans
    (State.diagBoth_only ch .overload true _)
  simp only [State.diagBoth_cell, State.diagBoth_chan_has, State.updCell_same]
  exact ⟨hoff, hcount, rfl, hretry, hlock, honly⟩

theorem overloadRetry_retries (r : Ns) (hr : s.cells[ch].retryAt = some r) (h : r ≤ max s.clock t) :
    Completes (.overloadRetry t ch) s fun u =>
      u.cells[ch].tripped = false ∧ u.cells[ch].retryAt = none ∧ u.cells[ch].inrushUntil = some (max s.clock t + 10000000) ∧
      ∀ j : Fin 128, j ≠ ch → u.cells[j] = s.cells[j] := by
  refine ⟨(s.begin t).updCell ch fun c => ({ c with tripped := false, retryAt := none } : Cell).switchOn (max s.clock t), ?_, ?_⟩
  · rw [exec_overloadRetry]
    simp only [execOverloadRetry, State.begin_cells, hr]
    exact if_pos h
  · simp only [State.updCell_same]
    exact ⟨rfl, rfl, rfl, fun j hj => State.updCell_ne hj _ _⟩

theorem overloadClear_clears (hon : s.cells[ch].switched = true) (h : held (max s.clock t) s.cells[ch].onSince 1000000000 = true) :
    Completes (.overloadClear t ch) s fun u =>
      u.cells[ch].trips = 0 ∧ u.cells[ch].has .overload = false ∧ u.chans[ch].has .overload = false ∧
      (s.cells[ch].mode = .dout → u.cells[ch].has .thermal = false ∧ u.chans[ch].has .thermal = false) ∧ OnlyChannel ch s u := by
  have hcond : ((s.begin t).cells[ch].switched && held (s.begin t).clock (s.begin t).cells[ch].onSince 1000000000) = true := by
    simp only [State.begin_cells, State.begin_clock, hon, h, Bool.and_self]
  refine ⟨_, (exec_overloadClear t ch s).trans (if_pos hcond), ?_⟩
  have honly := ((OnlyChannel.updCell (s.begin t) ch fun c => { c with trips := 0 }).trans
    (State.diagBoth_only ch .overload false _)).trans
    (State.diagBoth_only ch .thermal ((s.begin t).cells[ch].has .thermal && (s.begin t).cells[ch].mode != .dout) _)
  simp only [State.diagBoth_cell, State.diagBoth_chan_has, State.updCell_same]
  refine ⟨rfl, ?_, ?_, fun hmode => ⟨?_, ?_⟩, honly⟩
  · rw [Cell.has_put _ (by decide), if_neg (by decide), Cell.has_put _ (by decide), if_pos rfl]
  · rfl
  · rw [Cell.has_put _ (by decide), if_pos rfl, State.begin_cells, hmode]
    simp
  · simp [-Fin.getElem_fin, hmode]

/-! ### Thermal, compliance and range (R93, R96, R102, R103) -/

theorem thermalClear_clears (hmode : s.cells[ch].mode.isAo = true) (h : held (max s.clock t) s.cells[ch].coolSince 1000000000 = true) :
    Completes (.thermalClear t ch) s fun u =>
      u.cells[ch].has .thermal = false ∧ u.chans[ch].has .thermal = false ∧ OnlyChannel ch s u := by
  have hcond : ((s.begin t).cells[ch].mode.isAo && held (s.begin t).clock (s.begin t).cells[ch].coolSince 1000000000) = true := by
    simp only [State.begin_cells, State.begin_clock, hmode, h, Bool.and_self]
  exact ⟨_, (exec_thermalClear t ch s).trans (if_pos hcond), (s.begin t).diagBoth_sets ch .thermal false (by decide)⟩

theorem complianceSet_sets (hmode : (s.mode ch).isAo = true) (hopen : (s.begin t).complianceOpen ch = true)
    (h : heldStamp s.chans[ch].sample.stamp s.chans[ch].shortfallSince 50000000 = true) : Completes (.complianceSet t ch) s fun u =>
      u.cells[ch].has .compliance = true ∧ u.chans[ch].has .compliance = true ∧ OnlyChannel ch s u := by
  have hcond : (((s.begin t).mode ch).isAo && (s.begin t).complianceOpen ch &&
      heldStamp (s.begin t).chans[ch].sample.stamp (s.begin t).chans[ch].shortfallSince 50000000) = true := by
    rw [State.begin_mode, hmode, hopen, State.begin_chans, h]
    rfl
  exact ⟨_, (exec_complianceSet t ch s).trans (if_pos hcond), (s.begin t).diagBoth_sets ch .compliance true (by decide)⟩

theorem complianceClear_clears (h : heldStamp s.chans[ch].sample.stamp s.chans[ch].shortfallOkSince 500000000 = true) :
    Completes (.complianceClear t ch) s fun u =>
      u.cells[ch].has .compliance = false ∧ u.chans[ch].has .compliance = false ∧ OnlyChannel ch s u :=
  ⟨_, (exec_complianceClear t ch s).trans (if_pos h), (s.begin t).diagBoth_sets ch .compliance false (by decide)⟩

/-- A range delay acts on AI channels. -/
theorem execRangeDelayExpiry_ai (hmode : (s.mode ch).isAi = true) : exec (.rangeDelayExpiry t ch) s =
    if held (max s.clock t) s.chans[ch].bandSince (recRangeDelay (s.chanRec ch) * 1000000) = true then
      .next (((s.begin t).diagBoth ch .range true).updChan ch fun c => { c with quality := .bad })
    else if held (max s.clock t) s.chans[ch].outsideSince (recRangeDelay (s.chanRec ch) * 1000000) = true then
      .next ((s.begin t).diagBoth ch .range false)
    else .next (s.begin t) :=
  (exec_rangeDelayExpiry t ch s).trans (if_neg (by rw [State.begin_mode, hmode]; decide))

theorem rangeDelayExpiry_sets (hmode : (s.mode ch).isAi = true)
    (h : held (max s.clock t) s.chans[ch].bandSince (recRangeDelay (s.chanRec ch) * 1000000) = true) :
    Completes (.rangeDelayExpiry t ch) s fun u =>
      u.chans[ch].has .range = true ∧ u.chans[ch].quality = .bad ∧ OnlyChannel ch s u := by
  refine ⟨_, (execRangeDelayExpiry_ai t ch s hmode).trans (if_pos h), ?_⟩
  have honly := ((s.begin t).diagBoth_only ch .range true).trans (.updChan _ ch fun c => { c with quality := .bad })
  simp only [State.updChan_same]
  exact ⟨((s.begin t).diagBoth_sets ch .range true (by decide)).2.1, trivial, honly⟩

theorem rangeDelayExpiry_clears (hmode : (s.mode ch).isAi = true)
    (hband : held (max s.clock t) s.chans[ch].bandSince (recRangeDelay (s.chanRec ch) * 1000000) = false)
    (h : held (max s.clock t) s.chans[ch].outsideSince (recRangeDelay (s.chanRec ch) * 1000000) = true) :
    Completes (.rangeDelayExpiry t ch) s fun u => u.chans[ch].has .range = false ∧ OnlyChannel ch s u := by
  refine ⟨_, (execRangeDelayExpiry_ai t ch s hmode).trans ((if_neg (by rw [hband]; decide)).trans (if_pos h)), ?_⟩
  exact ((s.begin t).diagBoth_sets ch .range false (by decide)).2

end

/-- Settles O5: each detector puts its diagnosis into the cell and the channel, or updates its cell alone. -/
theorem detectors : Obligations.Detectors := by
  unfold Obligations.Detectors
  exact ⟨wireBreakSet_sets, wireBreakClear_clears, fun t ch e s => inrushWindowEnd_ends t ch s e, overloadTrip_trips,
    fun t ch r s => overloadRetry_retries t ch s r, overloadClear_clears, openLoad_sets, thermalClear_clears, complianceSet_sets,
    complianceClear_clears, rangeDelayExpiry_sets, rangeDelayExpiry_clears⟩

end Sys2Proof.Machine
end

section
/-! Output frames at the field side (obligation OutputFrames): what an accepted frame leaves of a cell's and a group controller's
lane, then one lemma per frame, silence, readback check and hold limit. -/

namespace Sys2Proof.Machine

/-! ### Frames that a cell accepts (R47, R71, R74) -/

/-- What a cell keeps of its lane: the last sequence number, the instants of the last frames, its silence. -/
def Cell.lane (c : Cell) : BitVec 8 × Ns × Ns × Bool := (c.lastSeq, c.lastAccept, c.lastOutAccept, c.silent)

theorem applySwitch_lane (now : Ns) (on : Bool) (c : Cell) : (applySwitch now on c).lane = c.lane := by
  unfold applySwitch
  split
  · extract_lets k
    have hk : k.lane = c.lane := by
      unfold k
      split <;> rfl
    split
    · exact hk
    · exact hk
  · rfl

theorem applyCurrent_lane (lplusV : Nat) (code : BitVec 16) (fail : Bool) (failCode : Nat) (c : Cell) :
    (applyCurrent lplusV code fail failCode c).lane = c.lane := by
  unfold applyCurrent
  extract_lets want old
  split
  · rfl
  · split
    · split <;> rfl
    · rfl

theorem applyOff_lane (x : OutFrame) (c : Cell) : (applyOff x c).lane = c.lane := by
  unfold applyOff
  split
  · split <;> rfl
  all_goals rfl

theorem applyOut_lane (s : State) (ch : Fin 128) (x : OutFrame) (c : Cell) : (applyOut s ch x c).lane = c.lane := by
  unfold applyOut
  split
  · exact applyOff_lane x c
  · split
    · rfl
    · split
      · exact applySwitch_lane _ _ c
      · exact applySwitch_lane _ _ c
      · rfl
      · exact applyCurrent_lane _ _ _ _ c
      · exact applyCurrent_lane _ _ _ _ c
      · rfl

theorem takeHart_lane (r : Bytes) (x : OutFrame) (c : Cell) : (takeHart r x c).lane = c.lane := by
  unfold takeHart
  split <;> rfl

/-- A frame that a cell takes gives its sequence number and its instant; one not marked OWNER_LOST gives that of the output too. -/
theorem takeFrame_lane (s : State) (ch : Fin 128) (x : OutFrame) (c : Cell) : ∃ silent, (takeFrame s ch x c).lane =
    (BitVec.ofNat 8 x.seq, s.clock, if x.ownerLost then c.lastOutAccept else s.clock, silent) := by
  unfold takeFrame
  extract_lets sq live off
  split
  · exact ⟨c.silent, rfl⟩
  · have hoff : ∀ k, (off k).lane = k.lane := fun k => by
      unfold off
      split <;> rfl
    split
    · split
      · split
        · exact ⟨false, applyOut_lane s ch x _⟩
        · exact ⟨live.silent, hoff _⟩
      · exact ⟨live.silent, hoff _⟩
    · have hlive : (applyOut s ch x (off live)).lane = live.lane := (applyOut_lane s ch x _).trans (hoff live)
      split
      · exact ⟨live.silent, hlive⟩
      · exact ⟨live.silent, hlive⟩

/-- The second consecutive frame ends the silence. -/
theorem takeFrame_ends_silence (s : State) (ch : Fin 128) (x : OutFrame) (c : Cell) (p : BitVec 8) (hsilent : c.silent = true)
    (hcand : c.exitCand = some p) (hnext : seqAfter p (BitVec.ofNat 8 x.seq) = 1) (hlost : x.ownerLost = false) :
    (takeFrame s ch x c).lane.2.2.2 = false := by
  unfold takeFrame
  simp only [hlost, hsilent, hcand, hnext, Bool.false_eq_true, if_false, if_true]
  rw [applyOut_lane]
  rfl

section
variable (t : Ns) (ch : Fin 128) (f : BitVec 256) (s : State)

/-- The cell after a frame that it accepts. -/
def State.frameTaken (s : State) (ch : Fin 128) (f : BitVec 256) : Cell :=
  takeHart (s.cellRec ch) (OutFrame.unpack f) (takeFrame s ch (OutFrame.unpack f) s.cells[ch])

theorem State.frameTaken_lane : (s.frameTaken ch f).lane = (takeFrame s ch (OutFrame.unpack f) s.cells[ch]).lane :=
  takeHart_lane _ _ _

/-- An acceptable frame changes its own cell alone. -/
theorem channelOutputFrame_taken (htest : s.regs.testCtl.getLsbD (grp ch).val = false)
    (hacc : acceptable 1 s.cells[ch].epoch s.cells[ch].lastSeq s.cells[ch].silent f = true) :
    Completes (.channelOutputFrame t ch (some f)) s fun u =>
      u.cells[ch] = (s.begin t).frameTaken ch f ∧ ∀ j : Fin 128, j ≠ ch → u.cells[j] = s.cells[j] := by
  have hcond : ¬ ((s.begin t).regs.testCtl.getLsbD (grp ch).val || !acceptable 1 (s.begin t).cells[ch].epoch
      (s.begin t).cells[ch].lastSeq (s.begin t).cells[ch].silent f) = true := by
    simp only [State.begin_regs, State.begin_cells, htest, hacc]
    decide
  refine ⟨_, (exec_channelOutputFrame t ch (some f) s).trans (if_neg hcond), ?_⟩
  have hcells : ∀ (c : Prop) [Decidable c] (u : State) (k : GroupCtl → GroupCtl),
      (if c then u.updGfe (grp ch) k else u).cells = u.cells := fun c _ u k => by split <;> rfl
  simp only [hcells]
  exact ⟨State.updCell_same ch _ _, fun j hj => State.updCell_ne hj _ _⟩

theorem channelOutputFrame_accepts (htest : s.regs.testCtl.getLsbD (grp ch).val = false)
    (hacc : acceptable 1 s.cells[ch].epoch s.cells[ch].lastSeq s.cells[ch].silent f = true) :
    Completes (.channelOutputFrame t ch (some f)) s fun u =>
      u.cells[ch].lastSeq = BitVec.ofNat 8 (OutFrame.unpack f).seq ∧ u.cells[ch].lastAccept = max s.clock t ∧
      ((OutFrame.unpack f).ownerLost = false → u.cells[ch].lastOutAccept = max s.clock t) ∧
      ∀ j : Fin 128, j ≠ ch → u.cells[j] = s.cells[j] := by
  obtain ⟨u, hrun, hcell, hother⟩ := channelOutputFrame_taken t ch f s htest hacc
  obtain ⟨silent, hlane⟩ := takeFrame_lane (s.begin t) ch (OutFrame.unpack f) s.cells[ch]
  refine ⟨u, hrun, ?_⟩
  simp only [hcell]
  obtain ⟨hseq, haccept, hout, -⟩ : _ ∧ _ ∧ _ ∧ _ := by
    simpa only [Cell.lane, Prod.mk.injEq] using ((s.begin t).frameTaken_lane ch f).trans hlane
  exact ⟨hseq, haccept, fun hlost => by rw [hout, hlost]; rfl, hother⟩

theorem channelOutputFrame_ends_silence (p : BitVec 8) (htest : s.regs.testCtl.getLsbD (grp ch).val = false)
    (hacc : acceptable 1 s.cells[ch].epoch s.cells[ch].lastSeq s.cells[ch].silent f = true) (hsilent : s.cells[ch].silent = true)
    (hcand : s.cells[ch].exitCand = some p) (hnext : seqAfter p (BitVec.ofNat 8 (OutFrame.unpack f).seq) = 1)
    (hlost : (OutFrame.unpack f).ownerLost = false) : Completes (.channelOutputFrame t ch (some f)) s fun u =>
      u.cells[ch].silent = false ∧ ∀ j : Fin 128, j ≠ ch → u.cells[j] = s.cells[j] := by
  obtain ⟨u, hrun, hcell, hother⟩ := channelOutputFrame_taken t ch f s htest hacc
  have hends := takeFrame_ends_silence (s.begin t) ch (OutFrame.unpack f) s.cells[ch] p hsilent hcand hnext hlost
  refine ⟨u, hrun, ?_, hother⟩
  rw [hcell]
  exact (congrArg (fun l => l.2.2.2) ((s.begin t).frameTaken_lane ch f)).trans hends

end

/-! ### Frames that a group controller accepts (R47, R50, R77) -/

/-- The group controller of an adopted configuration keeps its lane, and the other controllers stay. -/
theorem State.gfeAdopt_gfes (g : Fin 8) (obj : Bytes) (epoch : BitVec 6) (s : State) : (s.gfeAdopt g obj epoch).gfes =
    (s.updGfe g fun q => { q with cfg := if rdBits obj 1 0 0 = 1 then some obj else none, epoch := epoch, chunks := [] }).gfes :=
  forAll_updCell_gfes g _ _

/-- What a group controller keeps of its lane: the last sequence number and the instant of the last frame. -/
def GroupCtl.lane (q : GroupCtl) : BitVec 8 × Ns := (q.lastSeq, q.lastAccept)

/-- A frame that a group controller takes gives its sequence number and its instant; the other controllers stay. -/
theorem State.groupTake_lane (g : Fin 8) (x : GroupOut) (s : State) :
    (s.groupTake g x).gfes[g].lane = (BitVec.ofNat 8 x.seq, s.clock) ∧ OnlyGfe g s (s.groupTake g x) := by
  unfold State.groupTake
  extract_lets q sq live apply
  have happly : ∀ k : GroupCtl, k.lane = (sq, s.clock) → (apply k).gfes[g].lane = (sq, s.clock) ∧ OnlyGfe g s (apply k) := by
    intro k hk
    unfold apply
    extract_lets k1 k2 a b
    have hk1 : k1.lane = k.lane := by
      unfold k1 GroupCtl.disconnect
      split
      · rfl
      · split <;> rfl
    have hk2 : k2.lane = k1.lane := by
      unfold k2
      split <;> rfl
    have hb : b.gfes = a.gfes := forAll_updCell_gfes g _ a
    have hag : a.gfes[g].lane = (sq, s.clock) := by
      unfold a
      rw [State.updGfe_same, hk2, hk1, hk]
    have hao : OnlyGfe g s a := .updGfe s g _
    clear_value a b
    split
    · simp only [OnlyGfe, State.gfeAdopt_gfes, State.updGfe_same]
      refine ⟨?_, fun h hh => ?_⟩
      · simp only [hb]
        exact hag
      · rw [State.updGfe_ne hh]
        simp only [hb]
        exact hao h hh
    · simp only [OnlyGfe, hb]
      exact ⟨hag, hao⟩
  have hcand : ∀ c, (s.updGfe g fun _ => { live with exitCand := some c }).gfes[g].lane = (sq, s.clock) ∧
      OnlyGfe g s (s.updGfe g fun _ => { live with exitCand := some c }) := fun c => by
    rw [State.updGfe_same]
    exact ⟨rfl, .updGfe s g _⟩
  split
  · split
    · split
      · exact happly _ rfl
      · exact hcand _
    · exact hcand _
  · exact happly live rfl

section
variable (t : Ns) (g : Fin 8) (s : State)

theorem groupOutputFrame_accepts (f : BitVec 256)
    (hacc : acceptable 3 s.gfes[g].epoch s.gfes[g].lastSeq s.gfes[g].silent f = true) :
    Completes (.groupOutputFrame t g (some f)) s fun u =>
      u.gfes[g].lastSeq = BitVec.ofNat 8 (GroupOut.unpack f).seq ∧ u.gfes[g].lastAccept = max s.clock t ∧ OnlyGfe g s u := by
  refine ⟨_, (exec_groupOutputFrame t g (some f) s).trans (if_pos hacc), ?_⟩
  obtain ⟨hlane, honly⟩ := (s.begin t).groupTake_lane g (GroupOut.unpack f)
  obtain ⟨hseq, haccept⟩ := Prod.mk.inj hlane
  exact ⟨hseq, haccept, honly⟩

/-! ### Silence (R50, R71) -/

theorem groupSilentEntry_silences (hlive : s.gfes[g].silent = false)
    (hdue : (s.begin t).dueField g s.gfes[g].lastAccept 200000 ≤ max s.clock t) : Completes (.groupSilentEntry t g) s fun u =>
      u.gfes[g].silent = true ∧ (∀ ch : Fin 128, grp ch = g → u.cells[ch].mode = .sdo → u.cells[ch].switched = false) ∧
      ∀ ch : Fin 128, grp ch ≠ g → u.cells[ch] = s.cells[ch] := by
  have hcond : ¬ ((s.begin t).gfes[g].silent || decide ((s.begin t).clock < (s.begin t).dueField g (s.begin t).gfes[g].lastAccept
      200000)) = true := by
    rw [State.begin_gfes, hlive, State.begin_reached hdue]
    decide
  refine ⟨_, (exec_groupSilentEntry t g s).trans (if_neg hcond), ?_, fun ch hch => ?_, fun ch hch => ?_⟩
  · simp only [forAll_updCell_gfes, State.updGfe_same]
  · obtain ⟨i, rfl⟩ := exists_chanOf hch
    rw [forAll_updCell_cell]
    intro hmode
    exact Cell.sdoOff_switched ((Cell.sdoOff_mode _).symm.trans hmode)
  · exact forAll_updCell_other g _ _ hch

end

section
variable (t : Ns) (ch : Fin 128) (s : State)

@[simp] theorem State.hartFlush_cells (st : BitVec 16) : (s.hartFlush ch st).cells = s.cells :=
  (State.hartFlush_keep ch st s).same .cells (by decide)

theorem silentEntry_silences (hlive : s.cells[ch].silent = false)
    (hdue : (s.begin t).dueField (grp ch) s.cells[ch].lastOutAccept 200000 ≤ max s.clock t) : Completes (.silentEntry t ch) s fun u =>
      u.cells[ch].silent = true ∧ u.cells[ch].has .silentHold = true ∧ ∀ j : Fin 128, j ≠ ch → u.cells[j] = s.cells[j] := by
  have hcond : ¬ ((s.begin t).cells[ch].silent || decide ((s.begin t).clock < (s.begin t).dueField (grp ch)
      (s.begin t).cells[ch].lastOutAccept 200000)) = true := by
    rw [State.begin_cells, hlive, State.begin_reached hdue]
    decide
  refine ⟨_, (exec_silentEntry t ch s).trans (if_neg hcond), ?_⟩
  simp only [State.hartFlush_cells, State.updCell_same]
  refine ⟨?_, ?_, fun j hj => State.updCell_ne hj _ _⟩
  · simp only [Cell.put]
    split <;> rfl
  · rw [Cell.has_put _ (by decide), if_pos rfl]

/-! ### Readback checks (R50, R73) -/

theorem sdoReadbackCheck_opens (hmode : s.cells[ch].mode = .sdo) (hsilent : s.cells[ch].silent = true)
    (hrb : s.cells[ch].outRb = true)
    (hdue : (s.begin t).dueField (grp ch) s.cells[ch].lastOutAccept 1200000 ≤ max s.clock t) :
    Completes (.sdoReadbackCheck t ch) s fun u => u.gfes[grp ch].disc = 2 ∧ OnlyGfe (grp ch) s u := by
  have hcond : ((s.begin t).cells[ch].mode == .sdo && (s.begin t).cells[ch].silent && decide ((s.begin t).dueField (grp ch)
      (s.begin t).cells[ch].lastOutAccept 1200000 ≤ (s.begin t).clock) && (s.begin t).cells[ch].outRb) = true := by
    rw [State.begin_clock, State.begin_cells, hmode, hsilent, hrb, decide_eq_true hdue]
    rfl
  refine ⟨_, (exec_sdoReadbackCheck t ch s).trans (if_pos hcond), ?_, .updGfe _ _ _⟩
  rw [State.updGfe_same]

theorem groupSdoReadbackCheck_opens (g : Fin 8) (i : Fin 16) (hsilent : s.gfes[g].silent = true)
    (hdue : (s.begin t).dueField g s.gfes[g].lastAccept 1200000 ≤ max s.clock t) (hmode : s.cells[chanOf g i].mode = .sdo)
    (hrb : s.cells[chanOf g i].outRb = true) :
    Completes (.groupSdoReadbackCheck t g) s fun u => u.gfes[g].disc = 2 ∧ OnlyGfe g s u := by
  have hany : (List.finRange 16).any (fun i => (s.begin t).cells[chanOf g i].mode == .sdo && (s.begin t).cells[chanOf g i].outRb) =
      true := List.any_eq_true.mpr ⟨i, List.mem_finRange i, by rw [State.begin_cells, hmode, hrb]; rfl⟩
  have hcond : ((s.begin t).gfes[g].silent && decide ((s.begin t).dueField g (s.begin t).gfes[g].lastAccept 1200000 ≤
      (s.begin t).clock) && (List.finRange 16).any fun i => (s.begin t).cells[chanOf g i].mode == .sdo &&
      (s.begin t).cells[chanOf g i].outRb) = true := by
    rw [hany, State.begin_clock, State.begin_gfes, hsilent, decide_eq_true hdue]
    rfl
  refine ⟨_, (exec_groupSdoReadbackCheck t g s).trans (if_pos hcond), ?_, .updGfe _ _ _⟩
  rw [State.updGfe_same]

/-! ### The hold limit (R72) -/

theorem holdLimitExpiry_substitutes (hsilent : s.cells[ch].silent = true) (hhold : s.cells[ch].holdSubst = false)
    (hlimit : holdLimit s.gfes[grp ch].cfg ≠ 0)
    (hdue : (s.begin t).dueField (grp ch) s.cells[ch].lastOutAccept (holdLimit s.gfes[grp ch].cfg * 950000) ≤ max s.clock t) :
    Completes (.holdLimitExpiry t ch) s fun u =>
      u.cells[ch].holdSubst = true ∧ (recSubst (s.cellRec ch) = 2 → u.cells[ch].out.on = false ∧ u.cells[ch].out.code = 0) ∧
      (recSubst (s.cellRec ch) = 0 → u.cells[ch].out = s.cells[ch].out) ∧ ∀ j : Fin 128, j ≠ ch → u.cells[j] = s.cells[j] := by
  have hcond : ((s.begin t).cells[ch].silent && holdLimit (s.begin t).gfes[grp ch].cfg != 0 && !(s.begin t).cells[ch].holdSubst &&
      decide ((s.begin t).dueField (grp ch) (s.begin t).cells[ch].lastOutAccept (holdLimit (s.begin t).gfes[grp ch].cfg * 950000) ≤
        (s.begin t).clock)) = true := by
    rw [State.begin_clock, State.begin_cells, State.begin_gfes, hsilent, hhold, bne_iff_ne.mpr hlimit, decide_eq_true hdue]
    rfl
  refine ⟨_, (exec_holdLimitExpiry t ch s).trans (if_pos hcond), ?_⟩
  simp only [State.updCell_same, State.begin_cellRec]
  refine ⟨trivial, fun hoff => ?_, fun hkeep => ?_, fun j hj => State.updCell_ne hj _ _⟩
  · simp only [hoff, and_self]
  · simp only [hkeep, State.begin_cells]

end

/-- Settles O4: a frame that is accepted updates its cell or its controller; silence, the readback checks and the hold limit act on
one cell, one group's cells or one controller. -/
theorem outputFrames : Obligations.OutputFrames := by
  unfold Obligations.OutputFrames
  exact ⟨channelOutputFrame_accepts, fun t ch f p s => channelOutputFrame_ends_silence t ch f s p,
    fun t g f s => groupOutputFrame_accepts t g s f, silentEntry_silences, groupSilentEntry_silences, sdoReadbackCheck_opens,
    fun t g i s => groupSdoReadbackCheck_opens t s g i, holdLimitExpiry_substitutes⟩

end Sys2Proof.Machine
end

section
/-! Pulses and readback (obligation PulsesAndReadback): the off-pulse of a channel and the end of its round, test pulses, the readback
delay, and the buck target. -/

namespace Sys2Proof.Machine

section
variable (t : Ns) (ch : Fin 128) (s : State)

/-! ### Off-pulses (R65, R66, R68) -/

theorem offPulseSlot_requests (hmode : (s.mode ch).isDo = true) (hen : recPulseEn (s.chanRec ch) = true)
    (hon : ((s.begin t).drive ch).on = true) (hhold : ((s.begin t).drive ch).hold = false)
    (hsubst : ((s.begin t).drive ch).subst = false) (hsaf : s.chans[ch].safOff = false)
    (htest : ¬(s.regs.testCtl.getLsbD (8 + (grp ch).val) = true ∧ s.safetyGroup (grp ch) = false))
    (hslot : (roundTick roundNs (s.begin t).now + 2) % 5000 = 39 * ch.val) : Completes (.offPulseSlot t ch) s fun u =>
      u = (s.begin t).updChan ch fun c => { c with pulseReq := true } := by
  have hsuppressed : (s.regs.testCtl.getLsbD (8 + (grp ch).val) && !s.safetyGroup (grp ch)) = false :=
    Bool.eq_false_iff.mpr fun h => htest (by simpa only [Bool.and_eq_true, Bool.not_eq_true'] using h)
  have hallowed : (s.begin t).pulseAllowed ch = true := by
    simp only [State.pulseAllowed, State.begin_regs, State.begin_safetyGroup, State.begin_mode, State.begin_chanRec,
      State.begin_chans, hsuppressed, hmode, hen, hon, hhold, hsubst, hsaf]
    rfl
  have hcond : ((s.begin t).beforeSlot ch && (s.begin t).pulseAllowed ch) = true := by
    rw [hallowed, State.beforeSlot, beq_iff_eq.mpr hslot]
    rfl
  exact ⟨_, (exec_offPulseSlot t ch s).trans (if_pos hcond), rfl⟩

theorem offPulseSlot_idle (h : (s.begin t).beforeSlot ch = false ∨ (s.begin t).pulseAllowed ch = false) :
    Completes (.offPulseSlot t ch) s fun u => u = s.begin t := by
  have hcond : ¬ ((s.begin t).beforeSlot ch && (s.begin t).pulseAllowed ch) = true := by
    rw [Bool.and_eq_true, not_and_or, Bool.not_eq_true, Bool.not_eq_true]
    exact h
  exact ⟨_, (exec_offPulseSlot t ch s).trans (if_neg hcond), rfl⟩

theorem offPulseEnd_evaluates (seen : Bool) (p : Ns) (hp : s.cells[ch].offPulseAt = some p)
    (h : p + 1000 * recPulseWidth (s.cellRec ch) ≤ max s.clock t) : Completes (.offPulseEnd t ch seen) s fun u =>
      u.cells[ch].offPulseAt = none ∧ u.chans[ch].pulseSeenOwn = seen ∧ u.chans[ch].has .offPulseFail = !seen ∧
      OnlyChannel ch s u := by
  let a := ((s.begin t).updCell ch fun c => { c with offPulseAt := none }).updChan ch fun c => { c with pulseSeenOwn := seen }
  have hcell : a.cells[ch].offPulseAt = none := by
    simp only [a, State.updChan_cells, State.updCell_same]
  have hchan : a.chans[ch].pulseSeenOwn = seen := congrArg Chan.pulseSeenOwn (State.updChan_same ch _ _)
  refine ⟨a.diagBoth ch .offPulseFail (!seen), ?_, ?_, ?_, ?_, ?_⟩
  · rw [exec_offPulseEnd]
    simp only [execOffPulseEnd, State.begin_cells, hp]
    exact if_neg h.not_gt
  · rw [State.diagBoth_cell]
    exact hcell
  · have hkeep : ChanKeeps ch Chan.pulseSeenOwn a (a.diagBoth ch .offPulseFail (!seen)) := .diagBoth a ch _ _
    exact Eq.trans hkeep hchan
  · rw [State.diagBoth_chan_has, if_pos rfl]
  · exact ((OnlyChannel.updCell (s.begin t) ch _).trans (.updChan _ ch _)).trans (a.diagBoth_only ch _ _)

/-- The end of a round at one channel: a cross fault that its partner's slot no longer showed clears, and the marks clear. -/
def State.endRound (i : Fin 128) (s : State) : State :=
  let c := s.chans[i]
  let s := if c.has .crossFault && !c.crossSeen && c.pulseSeenOwn then
      (s.diagBoth i .crossFault false).updChan i fun c => { c with crossPartner := 0xFF } else s
  s.updChan i fun c => { c with crossSeen := false, pulseSeenOwn := false }

theorem State.endRound_other {j : Fin 128} (hj : j ≠ ch) : (s.endRound ch).chans[j] = s.chans[j] := by
  unfold State.endRound
  extract_lets c a
  have ha : ChanKeeps j id s a :=
    .ite (.trans (s.diagBoth_only ch .crossFault false j hj).2 (.updChan_other hj _ _)) (.refl s)
  exact ha.trans (.updChan_other hj a _)

theorem State.endRound_round : (s.endRound ch).pulseRound = s.pulseRound ∧ (s.endRound ch).roundIdx = s.roundIdx := by
  unfold State.endRound
  extract_lets c a
  have ha : a.pulseRound = s.pulseRound ∧ a.roundIdx = s.roundIdx := by
    unfold a
    split
    · exact (State.diagBoth_keep ch .crossFault false s).same .pulseRound (by decide)
    · exact ⟨rfl, rfl⟩
  exact ha

/-- What the end of a round leaves of a channel that was `c`. -/
def RoundEnded (c : Chan) (s : State) (ch : Fin 128) : Prop :=
  s.chans[ch].crossSeen = false ∧ s.chans[ch].pulseSeenOwn = false ∧
  (c.has .crossFault = true → c.crossSeen = false → c.pulseSeenOwn = true →
    s.chans[ch].has .crossFault = false ∧ s.chans[ch].crossPartner = 0xFF)

theorem State.endRound_ends : RoundEnded s.chans[ch] (s.endRound ch) ch := by
  unfold State.endRound
  extract_lets c a
  simp only [RoundEnded, State.updChan_same]
  refine ⟨trivial, trivial, fun hfault hseen hown => ?_⟩
  have hcond : (c.has .crossFault && !c.crossSeen && c.pulseSeenOwn) = true := by
    unfold c
    rw [hfault, hseen, hown]
    rfl
  have ha : a = (s.diagBoth ch .crossFault false).updChan ch fun c => { c with crossPartner := 0xFF } := if_pos hcond
  have hchan : a.chans[ch] = { (s.diagBoth ch .crossFault false).chans[ch] with crossPartner := 0xFF } := by
    rw [ha, State.updChan_same]
  have hclear : (s.diagBoth ch .crossFault false).chans[ch].has .crossFault = false := by
    rw [State.diagBoth_chan_has, if_pos rfl]
  rw [hchan]
  exact ⟨hclear, rfl⟩

end

theorem offPulseRoundEnd_ends (t : Ns) (s : State) (h : (s.begin t).now / roundNs ≠ s.roundIdx) :
    Completes (.offPulseRoundEnd t) s fun u =>
      u.pulseRound = s.pulseRound + 1 ∧ u.roundIdx = (s.begin t).now / roundNs ∧ ∀ ch : Fin 128, RoundEnded s.chans[ch] u ch := by
  let a : State := { s.begin t with pulseRound := s.pulseRound + 1, roundIdx := (s.begin t).now / roundNs }
  have hrun : exec (.offPulseRoundEnd t) s = .next (forAll 128 State.endRound a) := (exec_offPulseRoundEnd t s).trans (if_neg h)
  have hround : (forAll 128 State.endRound a).pulseRound = s.pulseRound + 1 ∧
      (forAll 128 State.endRound a).roundIdx = (s.begin t).now / roundNs :=
    forAll_induction (P := fun u => u.pulseRound = s.pulseRound + 1 ∧ u.roundIdx = (s.begin t).now / roundNs)
      (fun i u hu => ⟨(u.endRound_round i).1.trans hu.1, (u.endRound_round i).2.trans hu.2⟩) ⟨rfl, rfl⟩
  refine ⟨_, hrun, hround.1, hround.2, fun ch => ?_⟩
  refine forAll_at (P := fun u => u.chans[ch] = s.chans[ch]) (Q := fun u => RoundEnded s.chans[ch] u ch) ch
    (fun i hi u hu => (u.endRound_other i hi.symm).trans hu) (fun u hu => ?_) (fun i hi u hu => ?_) rfl
  · exact hu ▸ u.endRound_ends ch
  · rw [RoundEnded, u.endRound_other i hi.symm]
    exact hu

section
variable (t : Ns) (ch : Fin 128) (s : State)

/-! ### Test pulses (R66) -/

theorem testPulseSlot_evaluates (belowOff : Bool) (hmode : s.cells[ch].mode = .sdi)
    (hfrom : 15 * ch.val ≤ roundTick 100000000 (s.begin t).now) (hto : roundTick 100000000 (s.begin t).now < 15 * ch.val + 15) :
    Completes (.testPulseSlot t ch belowOff true) s fun u =>
      u.cells[ch].has .testPulseFail = !belowOff ∧ u.chans[ch].has .testPulseFail = !belowOff ∧ OnlyChannel ch s u := by
  have hslot : (s.begin t).inTestSlot ch = true := decide_eq_true ⟨hfrom, hto⟩
  have hcond : ((s.begin t).inTestSlot ch && (s.begin t).cells[ch].mode == .sdi && true) = true := by
    rw [hslot, State.begin_cells, hmode]
    rfl
  exact ⟨_, (exec_testPulseSlot t ch belowOff true s).trans (if_pos hcond),
    (s.begin t).diagBoth_sets ch .testPulseFail (!belowOff) (by decide)⟩

/-! ### The readback delay (R67) -/

theorem readbackDelayExpiry_checks (d : Ns) (hd : s.chans[ch].rbDue = some d) (h : d ≤ max s.clock t) :
    Completes (.readbackDelayExpiry t ch) s fun u =>
      u.chans[ch].rbDue = none ∧ ((s.mode ch).isDo = true → s.chans[ch].rbOn = false → s.chans[ch].sample.outRb = true →
        u.cells[ch].has .shortToLplus = true ∧ u.chans[ch].has .shortToLplus = true ∧
        u.chans[ch].shortSince = some (max s.clock t)) ∧ OnlyChannel ch s u := by
  let a := (s.begin t).updChan ch fun c => { c with rbDue := none }
  have ha : a.chans[ch].rbDue = none := congrArg Chan.rbDue (State.updChan_same ch _ _)
  have honly : OnlyChannel ch s a := .updChan (s.begin t) ch _
  have hrun : exec (.readbackDelayExpiry t ch) s =
      if ((s.mode ch).isDo && !s.chans[ch].rbOn && s.chans[ch].sample.outRb) = true then
        .next ((a.diagBoth ch .shortToLplus true).updChan ch fun c => { c with shortSince := some a.clock })
      else .next a := by
    rw [exec_readbackDelayExpiry]
    simp only [execReadbackDelayExpiry, State.begin_chans, hd]
    exact if_neg h.not_gt
  by_cases hcond : ((s.mode ch).isDo && !s.chans[ch].rbOn && s.chans[ch].sample.outRb) = true
  · refine ⟨_, hrun.trans (if_pos hcond), ?_, fun _ _ _ => ?_, (honly.trans (a.diagBoth_only ch _ _)).trans (.updChan _ ch _)⟩
    · have hkeep : ChanKeeps ch Chan.rbDue a (a.diagBoth ch .shortToLplus true) := .diagBoth a ch _ _
      rw [State.updChan_same]
      exact Eq.trans hkeep ha
    · obtain ⟨hcell, hchan, -⟩ := a.diagBoth_sets ch .shortToLplus true (by decide)
      rw [State.updChan_same]
      exact ⟨hcell, hchan, rfl⟩
  · refine ⟨a, hrun.trans (if_neg hcond), ha, fun hmode hoff hrb => absurd ?_ hcond, honly⟩
    rw [hmode, hoff, hrb]
    rfl

/-! ### The buck target (R90) -/

theorem buckTargetReached_applies (code : BitVec 16) (fail : Bool) (b : Nat) (hw : s.cells[ch].waiting = some (code, fail, b)) :
    Completes (.buckTargetReached t ch) s fun u =>
      u.cells[ch].waiting = none ∧ u.cells[ch].buck = b ∧ u.cells[ch].out.code = code ∧ u.cells[ch].out.failSig = fail ∧
      ∀ j : Fin 128, j ≠ ch → u.cells[j] = s.cells[j] := by
  refine ⟨_, exec_buckTargetReached t ch s, ?_⟩
  simp only [State.updCell_same, State.begin_cells, hw]
  exact ⟨trivial, trivial, trivial, trivial, fun j hj => State.updCell_ne hj _ _⟩

end

/-- Settles O6: a pulse, a test or a readback puts its diagnosis into its own channel; the end of a round visits every channel once. -/
theorem pulsesAndReadback : Obligations.PulsesAndReadback := by
  unfold Obligations.PulsesAndReadback
  exact ⟨offPulseSlot_requests, offPulseSlot_idle, fun t ch seen p s => offPulseEnd_evaluates t ch s seen p, offPulseRoundEnd_ends,
    fun t ch belowOff s => testPulseSlot_evaluates t ch s belowOff, fun t ch d s => readbackDelayExpiry_checks t ch s d,
    fun t ch code fail b s => buckTargetReached_applies t ch s code fail b⟩

end Sys2Proof.Machine
end

section
/-! The supply of a group (obligation GroupSupply): what a change of the supply state does to the group controller and its cells, then
one lemma per supply command. -/

namespace Sys2Proof.Machine

/-! ### The supply state of a group (R69) -/

/-- From `s` to `t` no group controller but `g` and no cell of another group changes. -/
def OnlyGroup (g : Fin 8) (s t : State) : Prop := OnlyGfe g s t ∧ ∀ ch : Fin 128, grp ch ≠ g → t.cells[ch] = s.cells[ch]

/-- A cell whose diagnosis mirrors the supply state. -/
def Cell.supplied (x : Supply) (c : Cell) : Cell := (c.put .lplusLow (x == .low)).put .lplusOff (x == .off)

/-- Whether a cell's diagnosis mirrors the supply state. -/
def Cell.Mirrors (x : Supply) (c : Cell) : Prop := c.has .lplusLow = (x == .low) ∧ c.has .lplusOff = (x == .off)

theorem Cell.supplied_mirrors (x : Supply) (c : Cell) : (c.supplied x).Mirrors x := by
  refine ⟨?_, ?_⟩
  · rw [Cell.supplied, Cell.has_put _ (by decide), if_neg (by decide), Cell.has_put _ (by decide), if_pos rfl]
  · rw [Cell.supplied, Cell.has_put _ (by decide), if_pos rfl]

section
variable (g : Fin 8) (x : Supply) (s : State)

theorem State.setSupply_gfe : (s.setSupply g x).gfes[g].supply = x := by
  unfold State.setSupply
  simp only [forAll_updCell_gfes, State.updGfe_same]

theorem State.setSupply_cell (i : Fin 16) : (s.setSupply g x).cells[chanOf g i] = s.cells[chanOf g i].supplied x :=
  forAll_updCell_cell g (fun _ => Cell.supplied x) _ i

theorem State.setSupply_only : OnlyGroup g s (s.setSupply g x) := by
  unfold State.setSupply
  refine ⟨?_, fun ch hch => forAll_updCell_other g _ _ hch⟩
  simp only [OnlyGfe, forAll_updCell_gfes]
  exact OnlyGfe.updGfe s g _

/-- A supply state stands in the group controller and in the diagnosis of its cells; the other groups stay. -/
theorem State.setSupply_sets : (s.setSupply g x).gfes[g].supply = x ∧ (∀ i : Fin 16, (s.setSupply g x).cells[chanOf g i].Mirrors x) ∧
    OnlyGroup g s (s.setSupply g x) :=
  ⟨s.setSupply_gfe g x, fun i => s.setSupply_cell g x i ▸ Cell.supplied_mirrors x _, s.setSupply_only g x⟩

end

/-- Updates of a group's cells leave the other groups. -/
theorem OnlyGroup.forAll_updCell {g : Fin 8} {s t : State} (h : OnlyGroup g s t) (f : Fin 16 → Cell → Cell) :
    OnlyGroup g s (forAll 16 (fun i => State.updCell (chanOf g i) (f i)) t) := by
  obtain ⟨hgfe, hcell⟩ := h
  refine ⟨?_, fun ch hch => (forAll_updCell_other g f t hch).trans (hcell ch hch)⟩
  simp only [OnlyGfe, forAll_updCell_gfes]
  exact hgfe

section
variable (t : Ns) (g : Fin 8) (s : State)

/-! ### L+ low, off and high (R69, R70) -/

theorem lplusLow_sets (hok : s.gfes[g].supply = .ok) (h : held (max s.clock t) s.gfes[g].lowSince 10000000 = true) :
    Completes (.lplusLow t g) s fun u =>
      u.gfes[g].supply = .low ∧ (∀ i : Fin 16, u.cells[chanOf g i].Mirrors .low) ∧ OnlyGroup g s u := by
  have hcond : ((s.begin t).gfes[g].supply == .ok && held (s.begin t).clock (s.begin t).gfes[g].lowSince 10000000) = true := by
    rw [State.begin_gfes, State.begin_clock, hok, h]
    rfl
  exact ⟨_, (exec_lplusLow t g s).trans (if_pos hcond), (s.begin t).setSupply_sets g .low⟩

theorem lplusHigh_sets (hin : s.gfes[g].supply = .ok ∨ s.gfes[g].supply = .low) (h : 4 ≤ s.gfes[g].highRun) :
    Completes (.lplusHigh t g) s fun u =>
      u.gfes[g].supply = .high ∧ (∀ i : Fin 16, u.cells[chanOf g i].Mirrors .high) ∧ OnlyGroup g s u := by
  have hcond : (((s.begin t).gfes[g].supply == .ok || (s.begin t).gfes[g].supply == .low) &&
      decide (4 ≤ (s.begin t).gfes[g].highRun)) = true := by
    rw [Bool.and_eq_true, Bool.or_eq_true, beq_iff_eq, beq_iff_eq, decide_eq_true_eq]
    exact ⟨hin, h⟩
  exact ⟨_, (exec_lplusHigh t g s).trans (if_pos hcond), (s.begin t).setSupply_sets g .high⟩

theorem lplusOff_sets (hon : s.gfes[g].supply ≠ .off) (h : 4 ≤ s.gfes[g].offRun) : Completes (.lplusOff t g) s fun u =>
      u.gfes[g].supply = .off ∧ (∀ i : Fin 16, u.cells[chanOf g i].mode = .sdo → u.cells[chanOf g i].switched = false) ∧
      (∀ i : Fin 16, u.cells[chanOf g i].Mirrors .off) ∧ OnlyGroup g s u := by
  have hcond : ((s.begin t).gfes[g].supply != .off && decide (4 ≤ (s.begin t).gfes[g].offRun)) = true := by
    rw [Bool.and_eq_true, bne_iff_ne, decide_eq_true_eq]
    exact ⟨hon, h⟩
  obtain ⟨hsupply, hmirrors, honly⟩ := (s.begin t).setSupply_sets g .off
  refine ⟨_, (exec_lplusOff t g s).trans (if_pos hcond), ?_, fun i => ?_, fun i => ?_, honly.forAll_updCell fun _ => Cell.sdoOff⟩
  · simp only [forAll_updCell_gfes]
    exact hsupply
  · rw [forAll_updCell_cell]
    intro hmode
    exact Cell.sdoOff_switched ((Cell.sdoOff_mode _).symm.trans hmode)
  · rw [forAll_updCell_cell]
    obtain ⟨hlow, hoff⟩ := hmirrors i
    exact ⟨(Cell.sdoOff_has _ _).trans hlow, (Cell.sdoOff_has _ _).trans hoff⟩

/-! ### Recovery (R69, R70) -/

theorem lplusRecover_ok (hon : s.gfes[g].supply ≠ .off) (h : held (max s.clock t) s.gfes[g].recoverSince 100000000 = true) :
    Completes (.lplusRecover t g) s fun u =>
      u.gfes[g].supply = .ok ∧ (∀ i : Fin 16, u.cells[chanOf g i].Mirrors .ok) ∧ OnlyGroup g s u := by
  have hheld : ¬ (!held (s.begin t).clock (s.begin t).gfes[g].recoverSince 100000000) = true := by
    rw [State.begin_clock, State.begin_gfes, h]
    decide
  have hnot : ¬ ((s.begin t).gfes[g].supply == .off) = true := by
    rw [beq_iff_eq]
    exact hon
  exact ⟨_, (exec_lplusRecover t g s).trans ((if_neg hheld).trans (if_neg hnot)), (s.begin t).setSupply_sets g .ok⟩

theorem lplusRecover_from_off (hoff : s.gfes[g].supply = .off)
    (h : held (max s.clock t) s.gfes[g].recoverSince 100000000 = true) : Completes (.lplusRecover t g) s fun u =>
      u.gfes[g].supply = (if s.gfes[g].lplusV.toNat < 1920 then .low else .ok) ∧
      ∀ i : Fin 16, s.cells[chanOf g i].mode = .dout → s.cells[chanOf g i].out.on = true →
        u.cells[chanOf g i].inrushUntil = some (max s.clock t + 10000000) := by
  have hheld : ¬ (!held (s.begin t).clock (s.begin t).gfes[g].recoverSince 100000000) = true := by
    rw [State.begin_clock, State.begin_gfes, h]
    decide
  have hcond : ((s.begin t).gfes[g].supply == .off) = true := by
    rw [beq_iff_eq]
    exact hoff
  refine ⟨_, (exec_lplusRecover t g s).trans ((if_neg hheld).trans (if_pos hcond)), ?_, fun i hmode hon => ?_⟩
  · simp only [forAll_updCell_gfes]
    exact (s.begin t).setSupply_gfe g _
  · have hswitches : ∀ c : Cell, c.mode = .dout → c.out.on = true → ∀ (x : Supply) (now : Ns),
        (if (c.supplied x).mode == .dout && (c.supplied x).out.on then (c.supplied x).switchOn now
          else c.supplied x).inrushUntil = some (now + 10000000) := fun c hc ho x now => by
      have hboth : ((c.supplied x).mode == .dout && (c.supplied x).out.on) = true := by
        rw [Bool.and_eq_true, beq_iff_eq]
        exact ⟨hc, ho⟩
      rw [if_pos hboth]
      rfl
    rw [forAll_updCell_cell, State.setSupply_cell]
    exact hswitches _ hmode hon _ _

/-! ### A lost configuration (R45) -/

theorem groupConfigurationLost_loses (hvlog : s.mod.vlog = false) (hlow : s.gfes[g].lplusV.toNat < 1000) :
    Completes (.groupConfigurationLost t g) s fun u =>
      u.gfes[g] = { s.gfes[g] with cfg := none, chunks := [] } ∧ (∀ i : Fin 16, u.cells[chanOf g i].mode = .unconfigured) ∧
      OnlyGroup g s u := by
  have hcond : ¬ ((s.begin t).mod.vlog || decide (1000 ≤ (s.begin t).gfes[g].lplusV.toNat)) = true := by
    rw [Bool.or_eq_true, decide_eq_true_eq, State.begin_mod, hvlog, State.begin_gfes]
    exact not_or.mpr ⟨Bool.false_ne_true, hlow.not_ge⟩
  have honly : OnlyGroup g s ((s.begin t).updGfe g fun q => { q with cfg := none, chunks := [] }) :=
    ⟨.updGfe (s.begin t) g _, fun _ _ => rfl⟩
  refine ⟨_, (exec_groupConfigurationLost t g s).trans (if_neg hcond), ?_, fun i => ?_, honly.forAll_updCell _⟩
  · simp only [forAll_updCell_gfes, State.updGfe_same]
    rfl
  · rw [forAll_updCell_cell]

end

/-- Settles O7: a supply command sets the supply state of its group, which its cells mirror, and acts on the cells of that group. -/
theorem groupSupply : Obligations.GroupSupply := by
  unfold Obligations.GroupSupply
  exact ⟨lplusLow_sets, lplusOff_sets, lplusHigh_sets, lplusRecover_ok, lplusRecover_from_off, groupConfigurationLost_loses⟩

end Sys2Proof.Machine
end

section
/-! Group configuration and calibration (obligation GroupConfiguration): the channel-ownership table, the field side and the logic
side of a change, then one lemma per command. -/

namespace Sys2Proof.Machine

/-! ### The channel-ownership table (R20, R546, R547) -/

/-- Digits below 16, one by one from the lowest, as a number. -/
def hexNat (c : Nat → Nat) (n : Nat) : Nat := (List.range n).foldl (fun a i => a + c i * 16 ^ i) 0

theorem hexNat_succ (c : Nat → Nat) (n : Nat) : hexNat c (n + 1) = hexNat c n + c n * 16 ^ n := by
  rw [hexNat, List.range_succ, List.foldl_append]
  rfl

theorem hexNat_lt {c : Nat → Nat} (hc : ∀ i, c i < 16) (n : Nat) : hexNat c n < 16 ^ n := by
  induction n with
  | zero => exact Nat.one_pos
  | succ n ih =>
    have hn : c n * 16 ^ n ≤ 15 * 16 ^ n := Nat.mul_le_mul_right _ (Nat.le_of_lt_succ (hc n))
    rw [hexNat_succ, pow_succ]
    omega

/-- Each digit is found again. -/
theorem hexNat_digit {c : Nat → Nat} (hc : ∀ i, c i < 16) {n k : Nat} (hk : k < n) : hexNat c n / 16 ^ k % 16 = c k := by
  induction n with
  | zero => exact absurd hk (Nat.not_lt_zero k)
  | succ n ih =>
    rw [hexNat_succ]
    rcases Nat.lt_succ_iff_lt_or_eq.mp hk with hlt | rfl
    · have hpow : c n * 16 ^ n = 16 * (c n * 16 ^ (n - k - 1)) * 16 ^ k := by
        rw [mul_assoc, mul_assoc, ← pow_add, mul_left_comm, ← pow_succ']
        congr 2
        omega
      rw [hpow, Nat.add_mul_div_right _ _ (by positivity), Nat.add_mul_mod_self_left, ih hlt]
    · rw [Nat.add_mul_div_right _ _ (by positivity), Nat.div_eq_of_lt (hexNat_lt hc k), Nat.zero_add, Nat.mod_eq_of_lt (hc k)]

/-- The fields of a channel-ownership register keep the low three bits of each digit. -/
theorem chown_vote_digit (w : Word) {k : Nat} (hk : k < 8) :
    bitsOf ((Tmr.of w).vote chownFields).toNat (4 * k + 2) (4 * k) = w.toNat / 16 ^ k % 8 := by
  have hmask : ∀ k : Fin 8, ∀ i : Fin 3, (0x77777777#32).toNat.testBit (4 * k.val + i.val) = true := by decide
  have hfields : chownFields.foldl (· ||| ·) 0 = 0x77777777#32 := by decide
  have hwidth : 4 * k + 2 + 1 - 4 * k = 3 := by omega
  have hpow : 16 ^ k = 2 ^ (4 * k) := (pow_mul 2 4 k).symm
  rw [Tmr.vote_of, hfields, bitsOf, BitVec.toNat_and, hwidth, hpow, show 8 = 2 ^ 3 from rfl]
  refine Nat.eq_of_testBit_eq fun i => ?_
  rw [Nat.testBit_mod_two_pow, Nat.testBit_mod_two_pow, Nat.testBit_div_two_pow, Nat.testBit_div_two_pow, Nat.testBit_and]
  by_cases hi : i < 3
  · rw [show i + 4 * k = 4 * k + i from Nat.add_comm _ _, hmask ⟨k, hk⟩ ⟨i, hi⟩, Bool.and_true]
  · rw [decide_eq_false hi, Bool.false_and, Bool.false_and]

theorem Owner.code_lt (o : Owner) : o.code < 8 := by
  cases o <;> decide

theorem Owner.ofCode_code (o : Owner) : Owner.ofCode o.code = some o := by
  cases o <;> rfl

/-- Code of the owner at a place of a group, 0 beyond the last. -/
def ownerDigit (f : Fin 16 → Owner) (half i : Nat) : Nat := if h : 8 * half + i < 16 then (f ⟨8 * half + i, h⟩).code else 0

theorem ownerDigit_lt (f : Fin 16 → Owner) (half i : Nat) : ownerDigit f half i < 8 := by
  unfold ownerDigit
  split
  · exact Owner.code_lt _
  · decide

/-- A register of the owners of half a group. -/
def ownerWord (f : Fin 16 → Owner) (half : Nat) : Word := BitVec.ofNat 32 (hexNat (ownerDigit f half) 8)

theorem ownerWord_digit (f : Fin 16 → Owner) (half : Nat) {k : Nat} (hk : k < 8) :
    bitsOf ((Tmr.of (ownerWord f half)).vote chownFields).toNat (4 * k + 2) (4 * k) = ownerDigit f half k := by
  have hlt : ∀ i, ownerDigit f half i < 16 := fun i => (ownerDigit_lt f half i).trans (by decide)
  have hdigit := hexNat_digit hlt hk
  have hword : (ownerWord f half).toNat = hexNat (ownerDigit f half) 8 := by
    rw [ownerWord, BitVec.toNat_ofNat, Nat.mod_eq_of_lt]
    exact hexNat_lt hlt 8
  rw [chown_vote_digit _ hk, hword, ← Nat.mod_mod_of_dvd _ (by decide : 8 ∣ 16), hdigit, Nat.mod_eq_of_lt (ownerDigit_lt f half k)]

/-- The owners that are written read back. -/
theorem State.writeOwners_owner (g : Fin 8) (f : Fin 16 → Owner) (s : State) (i : Fin 16) :
    (s.writeOwners g f).owner (chanOf g i) = f i := by
  have hwritten : (s.writeOwners g f).regs.chown =
      (s.regs.chown.set (2 * g.val) (Tmr.of (ownerWord f 0)) (by omega)).set (2 * g.val + 1) (Tmr.of (ownerWord f 1)) (by omega) := rfl
  have hreg : (s.writeOwners g f).regs.chown[(chanOf g i).val / 8]'(by omega) = Tmr.of (ownerWord f (i.val / 8)) := by
    have hidx : (chanOf g i).val / 8 = 2 * g.val + i.val / 8 := by
      simp only [chanOf]
      omega
    have hhalf : i.val / 8 = 0 ∨ i.val / 8 = 1 := by omega
    simp only [hwritten, hidx, Vector.getElem_set]
    rcases hhalf with h | h <;> simp [h]
  have hplace : (chanOf g i).val % 8 = i.val % 8 := by
    simp only [chanOf]
    omega
  have hdigit : ownerDigit f (i.val / 8) (i.val % 8) = (f i).code := by
    have hi : 8 * (i.val / 8) + i.val % 8 = i.val := Nat.div_add_mod _ _
    simp only [ownerDigit, hi, i.isLt, dif_pos]
  rw [State.owner, hreg, hplace, ownerWord_digit _ _ (Nat.mod_lt _ (by decide)), hdigit, Owner.ofCode_code]
  rfl

/-! ### A change begins (R77) -/

section
variable (t : Ns) (g : Fin 8) (s : State)

/-- From `s` to `t` no group but `g` changes. -/
def SameGroups (g : Fin 8) (s t : State) : Prop := ∀ h : Fin 8, h ≠ g → t.groups[h] = s.groups[h]

theorem SameGroups.updGroup (f : Group → Group) : SameGroups g s (s.updGroup g f) := fun _ hh => State.updGroup_ne hh f s

@[simp] theorem State.hartFlush_chans (ch : Fin 128) (st : BitVec 16) : (s.hartFlush ch st).chans = s.chans :=
  (State.hartFlush_keep ch st s).same .chans (by decide)
@[simp] theorem State.hartFlush_groups (ch : Fin 128) (st : BitVec 16) : (s.hartFlush ch st).groups = s.groups :=
  (State.hartFlush_keep ch st s).same .groups (by decide)

/-- A channel at the beginning of a change: BAD with CFG_CHANGE, its modem free. -/
def State.markChange (ch : Fin 128) (s : State) : State :=
  ((s.updChan ch fun c => { c with quality := .bad }).putDiag ch .cfgChange true).hartFlush ch stHartCfgChange

theorem State.markChange_same (ch : Fin 128) :
    (s.markChange ch).chans[ch].quality = .bad ∧ (s.markChange ch).chans[ch].has .cfgChange = true := by
  simp only [State.markChange, State.hartFlush_chans]
  refine ⟨?_, ?_⟩
  · rw [State.putDiag_chan, State.updChan_same]
  · rw [State.putDiag_chan_has, if_pos rfl]

theorem State.markChange_other {ch j : Fin 128} (hj : j ≠ ch) : (s.markChange ch).chans[j] = s.chans[j] := by
  simp only [State.markChange, State.hartFlush_chans]
  rw [State.putDiag_chan_ne _ _ _ _ hj, State.updChan_ne hj]

theorem State.markChange_groups (ch : Fin 128) : (s.markChange ch).groups = s.groups := by
  simp only [State.markChange, State.hartFlush_groups, State.putDiag_groups, State.updChan_groups]

theorem groupConfig_begins (t : Ns) (org : Origin) (o : Bytes) (s : State) (hadmits : (s.begin t).Admits org opGroupConfig [.svc])
    (hlen : o.length = 544) (hcheck : (s.begin t).groupCheck o = none) : Completes (.groupConfig t org o) s fun u =>
      u.groups[gcGroup o].change = some { org := org, obj := o, newEpoch := s.groups[gcGroup o].epoch + 1, accepted := max s.clock t } ∧
      (∀ i : Fin 16, u.chans[chanOf (gcGroup o) i].quality = .bad ∧ u.chans[chanOf (gcGroup o) i].has .cfgChange = true) ∧
      SameGroups (gcGroup o) s u := by
  let a := (s.begin t).updGroup (gcGroup o) fun q => { q with
    change := some { org := org, obj := o, newEpoch := q.epoch + 1, accepted := max s.clock t }, stuckSubst := false, served := true }
  have hformat : badField (o.length != 544) = none := by rw [hlen]; rfl
  have hrun : exec (.groupConfig t org o) s = .next (forAll 16 (fun i => State.markChange (chanOf (gcGroup o) i)) a) :=
    (exec_groupConfig t org o s).trans (serve_next hadmits hformat hcheck)
  have hgroups : (forAll 16 (fun i => State.markChange (chanOf (gcGroup o) i)) a).groups = a.groups :=
    forAll_induction (P := fun u => u.groups = a.groups) (fun i u hu => (u.markChange_groups _).trans hu) rfl
  refine ⟨_, hrun, ?_, fun i => ?_, ?_⟩
  · simp only [hgroups, a, State.updGroup_same, State.begin_groups]
  · refine forAll_at (P := fun _ => True) (Q := fun u => u.chans[chanOf (gcGroup o) i].quality = .bad ∧
      u.chans[chanOf (gcGroup o) i].has .cfgChange = true) i (fun _ _ _ _ => trivial) (fun u _ => u.markChange_same _)
      (fun k hk u hu => ?_) trivial
    rw [u.markChange_other (chanOf_ne _ hk.symm)]
    exact hu
  · simp only [SameGroups, hgroups]
    exact SameGroups.updGroup _ (s.begin t) _

end

/-! ### The commit (R77, R78, R547) -/

section
variable (g : Fin 8) (o : Bytes) (epoch : BitVec 6) (s : State)

/-- The configuration that a group object gives, none with ENABLE clear (R53). -/
def gcConfig (o : Bytes) : Option Bytes := if gcEnable o then some o else none

theorem gcConfig_eq : (if rdBits o 1 0 0 = 1 then some o else none) = gcConfig o := by
  simp only [gcConfig, gcEnable, beq_iff_eq]

/-- Each cell of the group takes the epoch and the mode of its record. -/
theorem State.gfeAdopt_cell (i : Fin 16) : (s.gfeAdopt g o epoch).cells[chanOf g i].epoch = epoch ∧
    (s.gfeAdopt g o epoch).cells[chanOf g i].mode = recMode (recordIn (gcConfig o) (chanOf g i)) := by
  unfold State.gfeAdopt
  rw [gcConfig_eq]
  extract_lets cfg a
  rw [forAll_updCell_cell]
  dsimp only
  split
  · rename_i hsame
    exact ⟨rfl, hsame.symm⟩
  · exact ⟨rfl, rfl⟩

theorem State.gfeAdopt_gfe : (s.gfeAdopt g o epoch).gfes[g].epoch = epoch ∧ OnlyGfe g s (s.gfeAdopt g o epoch) := by
  simp only [OnlyGfe, State.gfeAdopt_gfes, State.updGfe_same]
  exact ⟨trivial, OnlyGfe.updGfe s g _⟩

/-- The logic side takes the configuration and the epoch, and the owners are those of the object. -/
theorem State.groupAdopt_group : (s.groupAdopt g o epoch).groups[g] = { s.groups[g] with cfg := gcConfig o, epoch := epoch } ∧
    SameGroups g s (s.groupAdopt g o epoch) ∧ ∀ i : Fin 16, (s.groupAdopt g o epoch).owner (chanOf g i) = gcOwner o i := by
  unfold State.groupAdopt
  extract_lets cfg old a b
  have hb : b.groups = a.groups := rfl
  refine forAll_induction (P := fun u => u.groups[g] = { s.groups[g] with cfg := gcConfig o, epoch := epoch } ∧ SameGroups g s u ∧
    ∀ i : Fin 16, u.owner (chanOf g i) = gcOwner o i) (fun i u hu => by exact hu) ⟨?_, ?_, fun i => ?_⟩
  · simp only [hb, a, State.updGroup_same]
    rfl
  · simp only [SameGroups, hb]
    exact SameGroups.updGroup g s _
  · exact State.writeOwners_owner g _ a i

end

/-- The field side at a commit: a controller that holds the new epoch already has taken the configuration. -/
def State.fieldAdopt (g : Fin 8) (c : GroupChange) (s : State) : State :=
  if s.gfes[g].epoch == c.newEpoch && s.gfes[g].chunks.isEmpty then s else s.gfeAdopt g c.obj c.newEpoch

/-- A complete transfer has chunks. -/
theorem GroupCtl.complete_chunks {q : GroupCtl} (h : q.complete = true) : q.chunks.isEmpty = false := by
  rw [GroupCtl.complete, Bool.and_eq_true, List.all_eq_true] at h
  obtain ⟨hall, -⟩ := h
  obtain ⟨c, hc, -⟩ := List.any_eq_true.mp (hall 0 (by decide))
  cases hq : q.chunks with
  | nil => simp [hq] at hc
  | cons _ _ => rfl

section
variable (g : Fin 8) (c : GroupChange) (s : State)

theorem State.fieldAdopt_epoch : (s.fieldAdopt g c).gfes[g].epoch = c.newEpoch ∧ OnlyGfe g s (s.fieldAdopt g c) := by
  unfold State.fieldAdopt
  split
  · rename_i htaken
    rw [Bool.and_eq_true, beq_iff_eq] at htaken
    exact ⟨htaken.1, fun _ _ => rfl⟩
  · exact s.gfeAdopt_gfe g c.obj c.newEpoch

theorem State.fieldAdopt_complete (h : s.gfes[g].complete = true) : s.fieldAdopt g c = s.gfeAdopt g c.obj c.newEpoch := by
  rw [State.fieldAdopt, GroupCtl.complete_chunks h, Bool.and_false]
  rfl

theorem State.fieldAdopt_groups : (s.fieldAdopt g c).groups = s.groups := by
  unfold State.fieldAdopt
  split
  · rfl
  · exact (State.gfeAdopt_keep g c.obj c.newEpoch s).same .groups (by decide)

end

theorem cfgCommit_commits (t : Ns) (g : Fin 8) (c : GroupChange) (s : State) (hc : s.groups[g].change = some c)
    (hcommit : c.committed = false) (hnext : 35 ≤ c.next)
    (hheld : (s.gfes[g].complete = true ∧ s.gfes[g].object = c.obj) ∨ (s.gfes[g].epoch = c.newEpoch ∧ s.gfes[g].chunks = [])) :
    Completes (.cfgCommit t g) s fun u =>
      u.groups[g].epoch = c.newEpoch ∧ u.gfes[g].epoch = c.newEpoch ∧ u.groups[g].change = some { c with committed := true } ∧
      (∀ i : Fin 16, u.owner (chanOf g i) = gcOwner c.obj i) ∧
      (s.gfes[g].complete = true → ∀ i : Fin 16, u.cells[chanOf g i].epoch = c.newEpoch ∧
        u.cells[chanOf g i].mode = u.mode (chanOf g i)) ∧
      ∀ h : Fin 8, h ≠ g → u.groups[h] = s.groups[h] ∧ u.gfes[h] = s.gfes[h] := by
  let a := (s.begin t).fieldAdopt g c
  let b := a.groupAdopt g c.obj c.newEpoch
  let d := b.updGroup g fun q => { q with change := some { c with committed := true } }
  let u := d.record .svc .groupReconfig [g.val, s.groups[g].epoch.toNat, c.newEpoch.toNat]
  have hcond : ¬ (c.committed || decide (c.next < 35) ||
      !((s.gfes[g].epoch == c.newEpoch && s.gfes[g].chunks.isEmpty) || (s.gfes[g].complete && s.gfes[g].object == c.obj))) = true := by
    rw [hcommit, decide_eq_false hnext.not_gt]
    rcases hheld with ⟨hcomplete, hobj⟩ | ⟨hepoch, hchunks⟩
    · simp [-Fin.getElem_fin, hcomplete, hobj]
    · simp [-Fin.getElem_fin, hepoch, hchunks]
  have hrun : exec (.cfgCommit t g) s = .next u := by
    rw [exec_cfgCommit]
    simp only [execCfgCommit, State.begin_groups, hc]
    exact if_neg hcond
  obtain ⟨hgroup, hgroups, howner⟩ := a.groupAdopt_group g c.obj c.newEpoch
  obtain ⟨hepoch, hgfes⟩ := (s.begin t).fieldAdopt_epoch g c
  have hkeep := State.groupAdopt_keep g c.obj c.newEpoch a
  have hugroups : u.groups = d.groups := State.record_groups _ _ _ _
  have hugfes : u.gfes = a.gfes := (State.record_gfes _ _ _ _).trans (hkeep.same .gfes (by decide))
  have hucells : u.cells = a.cells := (State.record_cells _ _ _ _).trans (hkeep.same .cells (by decide))
  have huregs : u.regs = b.regs := State.record_regs _ _ _ _
  have hugroup : u.groups[g] = { b.groups[g] with change := some { c with committed := true } } := by
    simp only [hugroups, d, State.updGroup_same]
  refine ⟨u, hrun, ?_, ?_, ?_, fun i => ?_, fun hcomplete i => ?_, fun h hh => ⟨?_, ?_⟩⟩
  · rw [hugroup]
    exact congrArg Group.epoch hgroup
  · simp only [hugfes]
    exact hepoch
  · rw [hugroup]
  · rw [State.owner]
    simp only [huregs]
    exact howner i
  · have hadopt : a = (s.begin t).gfeAdopt g c.obj c.newEpoch := State.fieldAdopt_complete g c _ hcomplete
    have hcell := (s.begin t).gfeAdopt_cell g c.obj c.newEpoch i
    have hmode : u.mode (chanOf g i) = recMode (recordIn (gcConfig c.obj) (chanOf g i)) := by
      simp only [State.mode, grp_chanOf, hugroup, b, hgroup]
    rw [hmode]
    simp only [hucells, hadopt]
    exact hcell
  · simp only [hugroups]
    rw [State.updGroup_ne hh, hgroups h hh]
    simp only [a, State.fieldAdopt_groups, State.begin_groups]
  · simp only [hugfes]
    exact hgfes h hh

/-! ### The end of a change (R77 to R79) -/

/-- A channel at the end of a change: the filter refilled, CFG_CHANGE clear. -/
def State.settleChannel (ch : Fin 128) (s : State) : State :=
  ((s.updCell ch Cell.refill).updChan ch fun c => { c with swapped := false }).putDiag ch .cfgChange false

theorem State.settleChannel_same (ch : Fin 128) (s : State) :
    (s.settleChannel ch).chans[ch].has .cfgChange = false ∧ (s.settleChannel ch).cells[ch].input = s.cells[ch].raw := by
  refine ⟨?_, ?_⟩
  · rw [State.settleChannel, State.putDiag_chan_has, if_pos rfl]
  · simp only [State.settleChannel, State.putDiag_cells, State.updChan_cells, State.updCell_same]
    rfl

theorem State.settleChannel_only (ch : Fin 128) (s : State) : OnlyChannel ch s (s.settleChannel ch) :=
  ((OnlyChannel.updCell s ch _).trans (.updChan _ ch _)).trans (State.putDiag_only ch _ _ _)

theorem State.settleChannel_groups (ch : Fin 128) (s : State) : (s.settleChannel ch).groups = s.groups :=
  State.putDiag_groups ch .cfgChange false _

theorem groupConfigSettled_settles (t : Ns) (g : Fin 8) (c : GroupChange) (s : State) (hc : s.groups[g].change = some c)
    (hcommit : c.committed = true) : Completes (.groupConfigSettled t g) s fun u =>
      u.groups[g].change = none ∧ (∀ i : Fin 16, u.chans[chanOf g i].has .cfgChange = false ∧
        u.cells[chanOf g i].input = s.cells[chanOf g i].raw) ∧ SameGroups g s u := by
  let a := (s.begin t).updGroup g fun q => { q with change := none }
  let b := forAll 16 (fun i => State.settleChannel (chanOf g i)) a
  let d := b.storeObject (BitVec.ofNat 16 opGroupConfig) g.val (if gcEnable c.obj then some c.obj else none)
  let u := (d.complete c.org .done).confirmSettled g
  have hrun : exec (.groupConfigSettled t g) s = .next u := by
    rw [exec_groupConfigSettled]
    simp only [execGroupConfigSettled, State.begin_groups, hc]
    exact if_neg (by rw [hcommit]; decide)
  have hkeep : Keep 10292871184 b u := (((State.storeObject_keep _ _ _ b).mono (by decide)).trans
    ((State.complete_keep c.org .done d).mono (by decide))).trans (State.confirmSettled_keep g _)
  have hbgroups : b.groups = a.groups :=
    forAll_induction (P := fun u => u.groups = a.groups) (fun i u hu => (u.settleChannel_groups _).trans hu) rfl
  have hgroups : u.groups = a.groups := (hkeep.same .groups (by decide)).trans hbgroups
  have hchans : u.chans = b.chans := hkeep.same .chans (by decide)
  have hcells : u.cells = b.cells := hkeep.same .cells (by decide)
  refine ⟨u, hrun, ?_, fun i => ?_, ?_⟩
  · simp only [hgroups, a, State.updGroup_same]
  · simp only [hchans, hcells]
    refine forAll_at (P := fun u => u.cells[chanOf g i] = s.cells[chanOf g i]) (Q := fun u =>
      u.chans[chanOf g i].has .cfgChange = false ∧ u.cells[chanOf g i].input = s.cells[chanOf g i].raw) i
      (fun k hk u hu => ?_) (fun u hu => ?_) (fun k hk u hu => ?_) rfl
    · exact ((u.settleChannel_only _) _ (chanOf_ne g hk.symm)).1.trans hu
    · exact hu ▸ u.settleChannel_same (chanOf g i)
    · obtain ⟨hcell, hchan⟩ := u.settleChannel_only (chanOf g k) _ (chanOf_ne g hk.symm)
      rw [hcell, hchan]
      exact hu
  · simp only [SameGroups, hgroups]
    exact SameGroups.updGroup g (s.begin t) _

section
variable (t : Ns) (g : Fin 8) (c : GroupChange) (s : State)

/-- A transfer that is not complete: the controller drops its chunks, and the transfer starts again or fails. -/
theorem execGroupConfigResend_incomplete (hc : s.groups[g].change = some c) (hcommit : c.committed = false)
    (hcomplete : s.gfes[g].complete = false) (hnext : 35 ≤ c.next) : exec (.groupConfigResend t g) s =
    if c.resent = true then
      .next (((forAll 16 (fun i => State.putDiag (chanOf g i) .cfgChange false)
        (((s.begin t).updGfe g fun q => { q with chunks := [] }).updGroup g fun q =>
          { q with change := none, stuckSubst := true })).complete c.org (.error stLaneFailed)).confirmFailed g)
    else .next (((s.begin t).updGfe g fun q => { q with chunks := [] }).updGroup g fun q =>
      { q with change := some { c with next := 0, resent := true } }) := by
  have hcond : ¬ (c.committed || s.gfes[g].complete || decide (c.next < 35)) = true := by
    rw [hcommit, hcomplete, decide_eq_false hnext.not_gt]
    decide
  rw [exec_groupConfigResend]
  simp only [execGroupConfigResend, State.begin_groups, hc]
  exact if_neg hcond

theorem groupConfigResend_resends (hc : s.groups[g].change = some c) (hcommit : c.committed = false)
    (hcomplete : s.gfes[g].complete = false) (hnext : 35 ≤ c.next) (hresent : c.resent = false) :
    Completes (.groupConfigResend t g) s fun u =>
      u.gfes[g].chunks = [] ∧ u.groups[g].change = some { c with next := 0, resent := true } ∧
      ∀ h : Fin 8, h ≠ g → u.groups[h] = s.groups[h] ∧ u.gfes[h] = s.gfes[h] := by
  refine ⟨_, (execGroupConfigResend_incomplete t g c s hc hcommit hcomplete hnext).trans (if_neg (by rw [hresent]; decide)), ?_⟩
  simp only [State.updGroup_same, State.updGroup_gfes, State.updGfe_same]
  exact ⟨trivial, trivial, fun h hh => ⟨State.updGroup_ne hh _ _, State.updGfe_ne hh _ _⟩⟩

theorem groupConfigResend_fails (hc : s.groups[g].change = some c) (hcommit : c.committed = false)
    (hcomplete : s.gfes[g].complete = false) (hnext : 35 ≤ c.next) (hresent : c.resent = true) :
    Completes (.groupConfigResend t g) s fun u =>
      u.gfes[g].chunks = [] ∧ u.groups[g].change = none ∧ u.groups[g].stuckSubst = true ∧
      ∀ h : Fin 8, h ≠ g → u.groups[h] = s.groups[h] ∧ u.gfes[h] = s.gfes[h] := by
  refine ⟨_, (execGroupConfigResend_incomplete t g c s hc hcommit hcomplete hnext).trans (if_pos hresent), ?_⟩
  generalize ha : (((s.begin t).updGfe g fun q => { q with chunks := [] }).updGroup g fun q =>
    { q with change := none, stuckSubst := true }) = a
  generalize hb : forAll 16 (fun i => State.putDiag (chanOf g i) .cfgChange false) a = b
  have hdiag : Keep 536871952 a b := hb ▸ Keep.forAll (fun i => State.putDiag_keep (chanOf g i) .cfgChange false) a
  have hend : Keep 10292871184 b ((b.complete c.org (.error stLaneFailed)).confirmFailed g) :=
    ((State.complete_keep c.org _ b).mono (by decide)).trans (State.confirmFailed_keep g _)
  have hgroups := (hend.same .groups (by decide)).trans (hdiag.same .groups (by decide))
  have hgfes := (hend.same .gfes (by decide)).trans (hdiag.same .gfes (by decide))
  simp only [hgroups, hgfes, ← ha, State.updGroup_same, State.updGroup_gfes, State.updGfe_same]
  exact ⟨trivial, trivial, trivial, fun h hh => ⟨State.updGroup_ne hh _ _, State.updGfe_ne hh _ _⟩⟩

end

/-! ### Characteristics (R109, R111) -/

@[simp] theorem State.begin_charUsers (s : State) (t : Ns) (k : Nat) : (s.begin t).charUsers k = s.charUsers k := rfl
@[simp] theorem State.begin_charPending (s : State) (t : Ns) (org : Origin) (k : Nat) :
    (s.begin t).charPending org k = s.charPending org k := rfl
@[simp] theorem State.begin_storeOverflow (s : State) (t : Ns) (op : BitVec 16) (k : Nat) (o : Bytes) :
    (s.begin t).storeOverflow op k o = s.storeOverflow op k o := rfl

theorem charOk_index {o : Bytes} (h : charOk o = true) : clIndex o < 128 := by
  simp only [charOk, Bool.and_eq_true, decide_eq_true_eq, and_assoc] at h
  exact h.1

/-- A table that is loaded stands at its index, and the other tables stay. -/
theorem State.loadChar_chars (o : Bytes) (h : clIndex o < 128) (s : State) :
    (s.loadChar o).chars = s.chars.set (clIndex o) (some { obj := o, stamp := s.now }) := by
  rw [State.loadChar, dif_pos h]
  exact (State.storeObject_keep _ _ _ _).same .chars (by decide)

theorem charLoad_loads (t : Ns) (org : Origin) (o : Bytes) (s : State) (hadmits : (s.begin t).Admits org opCharLoad [.svc])
    (hlen : o.length = 264) (hok : charOk o = true) (husers : s.charUsers (clIndex o) = [])
    (hpending : s.charPending org (clIndex o) = false)
    (hroom : s.storeOverflow (BitVec.ofNat 16 opCharLoad) (clIndex o) o = false) : Completes (.charLoad t org o) s fun u =>
      (∃ k : Fin 128, k.val = clIndex o ∧ u.chars[k] = some { obj := o, stamp := (s.begin t).now }) ∧
      ∀ k : Fin 128, k.val ≠ clIndex o → u.chars[k] = s.chars[k] := by
  have hindex := charOk_index hok
  have hformat : badField (o.length != 264) = none := by rw [hlen]; rfl
  have hcheck : firstOf [badField (!charOk o), fails (!((s.begin t).charUsers (clIndex o)).isEmpty) (.error stTableInUse),
      fails ((s.begin t).charPending org (clIndex o)) .busy,
      fails ((s.begin t).storeOverflow (BitVec.ofNat 16 opCharLoad) (clIndex o) o) .capacity] = none := by
    simp only [State.begin_charUsers, State.begin_charPending, State.begin_storeOverflow, hok, husers, hpending, hroom]
    rfl
  have hrun : exec (.charLoad t org o) s = .next (((s.begin t).loadChar o).complete org .done) :=
    (exec_charLoad t org o s).trans (serve_next (work := fun s => (s.loadChar o).complete org .done) hadmits hformat hcheck)
  have hchars : (((s.begin t).loadChar o).complete org .done).chars =
      s.chars.set (clIndex o) (some { obj := o, stamp := (s.begin t).now }) :=
    ((State.complete_keep org .done _).same .chars (by decide)).trans ((s.begin t).loadChar_chars o hindex)
  refine ⟨_, hrun, ⟨⟨clIndex o, hindex⟩, rfl, ?_⟩, fun k hk => ?_⟩
  · simp [hchars]
  · simp [hchars, hk.symm]

/-! ### Calibration (R112 to R115) -/

theorem calibrationCheck_runs (t : Ns) (ch : Fin 128) (s : State) (hmode : (s.mode ch).isAo = true ∨ (s.mode ch).isAi = true)
    (hup : s.up .svc = true) (hidle : ∀ i : Fin 16, s.chans[chanOf (grp ch) i].cal.running = none)
    (hslot : s.safetyGroup (grp ch) = false ∨
      ∀ i : Fin 16, s.chans[chanOf (grp ch) i].pulseReq = false ∧ s.cells[chanOf (grp ch) i].offPulseAt = none)
    (htest : s.regs.testCtl.getLsbD (16 + (grp ch).val) = false) (hdue : s.chans[ch].cal.nextDue ≤ max s.clock t) :
    Completes (.calibrationCheck t ch) s fun u =>
      u.chans[ch].cal.running = some (max s.clock t) ∧ ((s.mode ch).isAi = true → u.chans[ch].quality = .stale) ∧
      ∀ j : Fin 128, j ≠ ch → u.chans[j] = s.chans[j] := by
  have hnotBusy : ((List.finRange 16).any fun i => s.chans[chanOf (grp ch) i].cal.running.isSome) = false :=
    List.any_eq_false.mpr fun i _ => by rw [hidle i]; decide
  have hnotSlot : (s.safetyGroup (grp ch) && (List.finRange 16).any fun i =>
      s.chans[chanOf (grp ch) i].pulseReq || s.cells[chanOf (grp ch) i].offPulseAt.isSome) = false := by
    rcases hslot with hg | hnone
    · rw [hg, Bool.false_and]
    · rw [Bool.and_eq_false_iff]
      refine .inr (List.any_eq_false.mpr fun i _ => ?_)
      obtain ⟨hreq, hpulse⟩ := hnone i
      rw [hreq, hpulse]
      decide
  have hcond : (((s.mode ch).isAo || (s.mode ch).isAi) && s.up .svc && !((List.finRange 16).any fun i =>
      s.chans[chanOf (grp ch) i].cal.running.isSome) && !(s.safetyGroup (grp ch) && (List.finRange 16).any fun i =>
      s.chans[chanOf (grp ch) i].pulseReq || s.cells[chanOf (grp ch) i].offPulseAt.isSome) &&
      !s.regs.testCtl.getLsbD (16 + (grp ch).val) && decide (s.chans[ch].cal.nextDue ≤ max s.clock t)) = true := by
    rw [hnotBusy, hnotSlot, Bool.or_eq_true_iff.mpr hmode, hup, htest, decide_eq_true hdue]
    rfl
  refine ⟨_, (exec_calibrationCheck t ch s).trans (if_pos hcond), ?_⟩
  simp only [State.updChan_same, State.begin_clock, State.begin_mode]
  exact ⟨trivial, fun hai => if_pos hai, fun j hj => State.updChan_ne hj _ _⟩

section
variable (now : Ns) (stamp : Int) (ref4 ref20 : Rat) (c : Cal)

/-- A check ends and is stamped whatever its readings. -/
theorem Cal.check_ends : (c.check now stamp ref4 ref20).running = none ∧ (c.check now stamp ref4 ref20).stamp = some stamp := by
  unfold Cal.check
  extract_lets fault
  split
  · exact ⟨rfl, rfl⟩
  · exact ⟨rfl, rfl⟩

/-- References that agree give gain and offset. -/
theorem Cal.check_agree (hpos : 0 < ref4) (hlt : ref4 < ref20) (hratio : absR (ref20 / ref4 / 5 - 1) ≤ 1 / 1000) :
    (c.check now stamp ref4 ref20).gain = 16 / (ref20 - ref4) ∧
    (c.check now stamp ref4 ref20).offset = 4 - 16 / (ref20 - ref4) * ref4 := by
  unfold Cal.check
  extract_lets fault
  have hfault : ¬ fault = true := by
    unfold fault
    rw [decide_eq_false hpos.not_ge, decide_eq_false hlt.not_ge, decide_eq_false hratio.not_gt]
    decide
  rw [if_neg hfault]
  exact ⟨rfl, rfl⟩

/-- References that disagree are a fault, and the gain stays. -/
theorem Cal.check_disagree (hratio : 1 / 1000 < absR (ref20 / ref4 / 5 - 1)) :
    (c.check now stamp ref4 ref20).refFault = true ∧ (c.check now stamp ref4 ref20).gain = c.gain := by
  unfold Cal.check
  extract_lets fault
  have hfault : fault = true := by
    unfold fault
    rw [decide_eq_true hratio, Bool.or_true]
  rw [if_pos hfault]
  exact ⟨rfl, rfl⟩

end

/-- At the end of a check the channel has its outcome; the ledger, the records and the health that follow leave the channels. -/
theorem execCalibrationCheckEnd_chans (t : Ns) (ch : Fin 128) (ref4 ref20 : Rat) (b : Ns) (s : State)
    (hb : s.chans[ch].cal.running = some b) (h : b + 300000 ≤ max s.clock t) :
    ∃ u, exec (.calibrationCheckEnd t ch ref4 ref20) s = .next u ∧ u.chans = ((s.begin t).updChan ch fun c =>
      { c with cal := s.chans[ch].cal.check (max s.clock t) (s.begin t).now ref4 ref20 }).chans := by
  rw [exec_calibrationCheckEnd]
  unfold execCalibrationCheckEnd
  extract_lets s0 old new a1 a2 a3 a4 a5
  have hold : old.running = some b := hb
  have hended : ¬ s0.clock < b + 6 * tickNs := h.not_gt
  simp -zeta only [hold]
  rw [if_neg hended]
  have h2 : Keep 9193914384 a1 a2 := (State.measure_keep 1 false ch.val _ a1).mono (by decide)
  have hrecord : ∀ (p : Prop) [Decidable p] (u : State) (kind : RecKind) (items : List Int),
      Keep 9193914384 u (if p then u.record .svc kind items else u) := fun p _ u kind items =>
    Keep.ite (fun _ => (State.record_keep .svc kind items u).mono (by decide)) fun _ => .refl _ u
  have hend := (State.ledgerWarn_keep 1 ((List.finRange 128).any fun i => decide (2 ≤ a5.chans[i].cal.cls.rank)) ch.val
    (ref20 - 20) a5).trans (State.settleHealth_keep _)
  have hall := ((((h2.trans (hrecord _ a2 _ _)).trans (hrecord _ a3 _ _)).trans (hrecord _ a4 _ _)).trans hend)
  exact ⟨_, rfl, hall.same .chans (by decide)⟩

theorem calibrationCheckEnd_evaluates (t : Ns) (ch : Fin 128) (ref4 ref20 : Rat) (b : Ns) (s : State)
    (hb : s.chans[ch].cal.running = some b) (h : b + 300000 ≤ max s.clock t) :
    Completes (.calibrationCheckEnd t ch ref4 ref20) s fun u =>
      u.chans[ch].cal.running = none ∧ u.chans[ch].cal.stamp = some (s.begin t).now ∧
      (0 < ref4 → ref4 < ref20 → absR (ref20 / ref4 / 5 - 1) ≤ 1 / 1000 →
        u.chans[ch].cal.gain = 16 / (ref20 - ref4) ∧ u.chans[ch].cal.offset = 4 - 16 / (ref20 - ref4) * ref4) ∧
      (1 / 1000 < absR (ref20 / ref4 / 5 - 1) → u.chans[ch].cal.refFault = true ∧ u.chans[ch].cal.gain = s.chans[ch].cal.gain) ∧
      ∀ j : Fin 128, j ≠ ch → u.chans[j] = s.chans[j] := by
  obtain ⟨u, hrun, hchans⟩ := execCalibrationCheckEnd_chans t ch ref4 ref20 b s hb h
  refine ⟨u, hrun, ?_⟩
  simp only [hchans, State.updChan_same]
  obtain ⟨hended, hstamp⟩ := Cal.check_ends (max s.clock t) (s.begin t).now ref4 ref20 s.chans[ch].cal
  exact ⟨hended, hstamp, Cal.check_agree _ _ _ _ _, Cal.check_disagree _ _ _ _ _, fun j hj => State.updChan_ne hj _ _⟩

/-- Settles O8: a change marks, adopts and settles the channels of its group; a table stands at its index; a calibration check changes
its own channel. -/
theorem groupConfiguration : Obligations.GroupConfiguration := by
  unfold Obligations.GroupConfiguration
  exact ⟨groupConfig_begins, cfgCommit_commits, groupConfigSettled_settles, groupConfigResend_resends, groupConfigResend_fails,
    charLoad_loads, calibrationCheck_runs, calibrationCheckEnd_evaluates⟩

end Sys2Proof.Machine
end

section
/-! HART (obligation HartModem): what a request, a response, a failed attempt and a burst frame make of the modem of one channel, then
one lemma per command. -/

namespace Sys2Proof.Machine

/-! ### The modem of one channel -/

/-- From `s` to `t` the modem of channel `ch` becomes `h`, and the other modems stay. -/
def HartBecomes (ch : Fin 128) (h : Hart) (s t : State) : Prop := t.harts = s.harts.set ch h

namespace HartBecomes
variable {ch : Fin 128} {h : Hart} {s t u : State}

theorem same (k : HartBecomes ch h s t) : t.harts[ch] = h := by
  rw [k]
  simp

theorem other (k : HartBecomes ch h s t) (j : Fin 128) (hj : j ≠ ch) : t.harts[j] = s.harts[j] := by
  have hv : ch.val ≠ j.val := fun e => hj (Fin.ext e.symm)
  rw [k]
  simp [hv]

theorem refl (ch : Fin 128) (s : State) : HartBecomes ch s.harts[ch] s s := by
  simp [HartBecomes]

/-- What leaves the modems alone. -/
theorem keep {m : Nat} (k : HartBecomes ch h s t) (hk : Keep m t u) (hm : m.testBit Aspect.harts.bit = false) :
    HartBecomes ch h s u := (hk.same .harts hm).trans k

/-- One more update of the same modem. -/
theorem updHart (k : HartBecomes ch h s t) (f : Hart → Hart) : HartBecomes ch (f h) s (t.updHart ch f) := by
  rw [HartBecomes, State.updHart_harts, k.same, k]
  simp

/-- An update of the modem at the start of a command. -/
theorem begin_updHart (t : Ns) (ch : Fin 128) (f : Hart → Hart) (s : State) :
    HartBecomes ch (f s.harts[ch]) s ((s.begin t).updHart ch f) := (refl ch (s.begin t)).updHart f

end HartBecomes

/-! ### The end of a descriptor -/

theorem State.complete_cells (org : Origin) (o : Outcome) (s : State) : (s.complete org o).cells = s.cells :=
  (State.complete_keep org o s).same .cells (by decide)

theorem State.complete_chans (org : Origin) (o : Outcome) (s : State) : (s.complete org o).chans = s.chans :=
  (State.complete_keep org o s).same .chans (by decide)

theorem HartBecomes.complete {ch : Fin 128} {h : Hart} {s t : State} (k : HartBecomes ch h s t) (org : Origin) (o : Outcome) :
    HartBecomes ch h s (t.complete org o) := k.keep (State.complete_keep org o t) (by decide)

theorem HartBecomes.diagBoth {ch : Fin 128} {h : Hart} {s t : State} (k : HartBecomes ch h s t) (d : Diag) (v : Bool) :
    HartBecomes ch h s (t.diagBoth ch d v) := k.keep (State.diagBoth_keep ch d v t) (by decide)

/-! ### Requests (R118, R120, R121) -/

/-- The modem when a request joins it. -/
def Hart.enqueue (q : HartReq) (h : Hart) : Hart :=
  let h := { h with requests := satAdd 32 h.requests 1 }
  if h.active.isNone then { h with active := some q, state := .waitGap }
  else if 4 ≤ h.waiting.length then { h with refused := satAdd 32 h.refused 1 }
  else { h with waiting := h.waiting ++ [q] }

theorem Hart.enqueue_idle {h : Hart} (q : HartReq) (ha : h.active = none) :
    (h.enqueue q).active = some q ∧ (h.enqueue q).state = .waitGap := by
  rw [Hart.enqueue, if_pos (by rw [ha]; rfl)]
  exact ⟨rfl, rfl⟩

theorem Hart.enqueue_busy {h : Hart} (q : HartReq) (ha : h.active.isSome = true) (hw : h.waiting.length < 4) :
    (h.enqueue q).waiting = h.waiting ++ [q] := by
  have hbusy : ¬ h.active.isNone = true := by
    rw [Option.isNone_eq_false_iff.mpr ha]
    decide
  rw [Hart.enqueue, if_neg hbusy, if_neg hw.not_ge]

/-- A request for a channel that serves HART joins its modem. -/
theorem State.hartEnqueue_becomes {org : Origin} {o : Bytes} {ch : Fin 128} {s : State} (hch : hqChannel o = ch.val)
    (hon : hartOn (s.chanRec ch) = true) (hchange : s.groups[grp ch].change = none) (hsilent : s.cells[ch].silent = false)
    (hlane : s.chans[ch].has .laneFailed = false) :
    HartBecomes ch (s.harts[ch].enqueue { org := org, obj := o }) s (s.hartEnqueue org o) := by
  have hlt : hqChannel o < 128 := hch ▸ ch.isLt
  obtain rfl : (⟨hqChannel o, hlt⟩ : Fin 128) = ch := Fin.ext hch
  rw [State.hartEnqueue, dif_pos hlt]
  extract_lets ch r x a
  have ha : HartBecomes ch { x with requests := satAdd 32 x.requests 1 } s a := (HartBecomes.refl ch s).updHart _
  have hon' : ¬ (!hartOn r) = true := by
    rw [hon]
    decide
  have hchange' : ¬ a.groups[grp ch].change.isSome = true := by
    rw [State.updHart_groups, hchange]
    decide
  have hsilent' : ¬ (a.cells[ch].silent || a.chans[ch].has .laneFailed) = true := by
    rw [State.updHart_cells, State.updHart_chans, hsilent, hlane]
    decide
  rw [if_neg hon', if_neg hchange', if_neg hsilent', Hart.enqueue]
  split_ifs
  · exact ha.updHart _
  · exact (ha.updHart _).complete org _
  · exact ha.updHart _

theorem hartRequest_enqueues (t : Ns) (org : Origin) (o : Bytes) (ch : Fin 128) (s : State)
    (hadmits : (s.begin t).Admits org opHartRequest [.svc, .tim]) (hlen : 16 ≤ o.length ∧ o.length ≤ 271) (hok : hartOk o = true)
    (hch : hqChannel o = ch.val) (hen : recHartEn (s.chanRec ch) = true)
    (hmode : (s.mode ch).isAo = true ∨ (s.mode ch).isAi = true) (hchange : s.groups[grp ch].change = none)
    (hsilent : s.cells[ch].silent = false) (hlane : s.chans[ch].has .laneFailed = false) :
    Completes (.hartRequest t org o) s fun u =>
      (s.harts[ch].active = none → u.harts[ch].active = some { org := org, obj := o } ∧ u.harts[ch].state = .waitGap) ∧
      (s.harts[ch].active.isSome = true → s.harts[ch].waiting.length < 4 →
        u.harts[ch].waiting = s.harts[ch].waiting ++ [{ org := org, obj := o }]) ∧
      ∀ j : Fin 128, j ≠ ch → u.harts[j] = s.harts[j] := by
  have hformat : badField (o.length < 16 || 271 < o.length) = none := by
    rw [decide_eq_false hlen.1.not_gt, decide_eq_false hlen.2.not_gt]
    rfl
  have hcheck : badField (!hartOk o) = none := by
    rw [hok]
    rfl
  have hon : hartOn ((s.begin t).chanRec ch) = true := Bool.and_eq_true_iff.mpr ⟨hen, Bool.or_eq_true_iff.mpr hmode⟩
  have hbecomes : HartBecomes ch (s.harts[ch].enqueue { org := org, obj := o }) (s.begin t) ((s.begin t).hartEnqueue org o) :=
    State.hartEnqueue_becomes hch hon hchange hsilent hlane
  refine ⟨_, (exec_hartRequest t org o s).trans (serve_next hadmits hformat hcheck), ?_⟩
  simp only [hbecomes.same]
  exact ⟨Hart.enqueue_idle _, Hart.enqueue_busy _, hbecomes.other⟩

/-! ### Transmission (R116, R117) -/

/-- The modem when an attempt at the request `q` starts. -/
def Hart.send (q : HartReq) (h : Hart) : Hart :=
  { h with
    state := .tx, active := some { q with attempts := q.attempts + 1 }, txQueue := hartWire q.obj, txFirst := true, txGap := 0,
    txEnd := none, rxErr := false, retries := if q.attempts = 0 then h.retries else satAdd 32 h.retries 1 }

theorem hartTransmitStart_sends (t : Ns) (ch : Fin 128) (q : HartReq) (s : State) (hactive : s.harts[ch].active = some q)
    (hstate : s.harts[ch].state = .waitGap) (hstart : s.harts[ch].mayStart (max s.clock t) = true) :
    Completes (.hartTransmitStart t ch) s fun u =>
      u.harts[ch].state = .tx ∧ u.harts[ch].active = some { q with attempts := q.attempts + 1 } ∧
      u.harts[ch].txQueue = hartWire q.obj ∧ ∀ j : Fin 128, j ≠ ch → u.harts[j] = s.harts[j] := by
  have hcond : (decide (s.harts[ch].state = .waitGap) && s.harts[ch].mayStart (max s.clock t)) = true := by
    rw [decide_eq_true hstate, hstart]
    rfl
  have hrun : exec (.hartTransmitStart t ch) s = .next ((s.begin t).updHart ch (Hart.send q)) := by
    rw [exec_hartTransmitStart]
    simp only [execHartTransmitStart, State.begin_harts, State.begin_clock, hactive]
    exact if_pos hcond
  have hbecomes := HartBecomes.begin_updHart t ch (Hart.send q) s
  refine ⟨_, hrun, ?_⟩
  simp only [hbecomes.same]
  exact ⟨rfl, rfl, rfl, hbecomes.other⟩

/-! ### The end of a request and of an attempt (R118, R120 to R122) -/

/-- The oldest waiting request takes the modem, and the counters of results stay. -/
theorem Hart.next_takes (h : Hart) : h.next.active = h.waiting.head? ∧ h.next.waiting = h.waiting.tail ∧
    h.next.done = h.done ∧ h.next.badFrame = h.badFrame := by
  unfold Hart.next
  split
  next hw => exact ⟨by rw [hw]; rfl, by rw [hw]; rfl, rfl, rfl⟩
  next q rest hw => exact ⟨by rw [hw]; rfl, by rw [hw]; rfl, rfl, rfl⟩

/-- The modem when the request on it ends without a good response. -/
def Hart.giveUp (drewBad : Bool) (h : Hart) : Hart :=
  (if drewBad then { h with badFrame := satAdd 32 h.badFrame 1 } else { h with noResponse := satAdd 32 h.noResponse 1 }).next

theorem Hart.giveUp_active (drewBad : Bool) (h : Hart) : (h.giveUp drewBad).active = h.waiting.head? := by
  rw [Hart.giveUp, (Hart.next_takes _).1]
  split <;> rfl

theorem Hart.giveUp_bad (h : Hart) : (h.giveUp true).badFrame = satAdd 32 h.badFrame 1 := by
  obtain ⟨-, -, -, hbad⟩ := Hart.next_takes { h with badFrame := satAdd 32 h.badFrame 1 }
  exact hbad

section
variable (ch : Fin 128) (q : HartReq) (bad : Bool) (s : State)

/-- While RETRIES allow, the request goes on. -/
theorem State.hartFailed_retries (h : q.attempts ≤ hqRetries q.obj) :
    HartBecomes ch { s.harts[ch] with
      active := some { q with drewBad := q.drewBad || bad }, state := .waitGap, txEnd := none, rxErr := false } s
      (s.hartFailed ch q bad) := by
  rw [State.hartFailed, if_pos h]
  exact (HartBecomes.refl ch s).updHart _

/-- After the retries the request ends with HART_FAULT. -/
theorem State.hartFailed_ends (h : hqRetries q.obj < q.attempts) :
    HartBecomes ch (s.harts[ch].giveUp (q.drewBad || bad)) s (s.hartFailed ch q bad) ∧
    (s.hartFailed ch q bad).chans[ch].has .hartFault = true := by
  rw [State.hartFailed, if_neg (show ¬ q.attempts ≤ hqRetries q.obj from h.not_ge)]
  extract_lets a
  have ha : HartBecomes ch (s.harts[ch].giveUp (q.drewBad || bad)) s a := (HartBecomes.refl ch s).updHart _
  refine ⟨(ha.diagBoth .hartFault true).complete _ _, ?_⟩
  rw [State.complete_chans, State.diagBoth_chan_has, if_pos rfl]

/-- A failed attempt: the request goes on while RETRIES allow, and ends with HART_FAULT after them. -/
theorem State.hartFailed_outcome :
    (q.attempts ≤ hqRetries q.obj → (s.hartFailed ch q bad).harts[ch].active = some { q with drewBad := q.drewBad || bad } ∧
      (s.hartFailed ch q bad).harts[ch].state = .waitGap) ∧
    (hqRetries q.obj < q.attempts → (s.hartFailed ch q bad).harts[ch].active = s.harts[ch].waiting.head? ∧
      ((q.drewBad || bad) = true → (s.hartFailed ch q bad).harts[ch].badFrame = satAdd 32 s.harts[ch].badFrame 1) ∧
      (s.hartFailed ch q bad).chans[ch].has .hartFault = true) ∧
    ∀ j : Fin 128, j ≠ ch → (s.hartFailed ch q bad).harts[j] = s.harts[j] := by
  refine ⟨fun h => ?_, fun h => ?_, ?_⟩
  · rw [(State.hartFailed_retries ch q bad s h).same]
    exact ⟨rfl, rfl⟩
  · obtain ⟨hbecomes, hfault⟩ := State.hartFailed_ends ch q bad s h
    rw [hbecomes.same]
    refine ⟨Hart.giveUp_active _ _, fun hbad => ?_, hfault⟩
    rw [hbad]
    exact Hart.giveUp_bad _
  · rcases le_or_gt q.attempts (hqRetries q.obj) with h | h
    · exact (State.hartFailed_retries ch q bad s h).other
    · exact (State.hartFailed_ends ch q bad s h).1.other

end

/-! ### Responses (R119, R121 to R123) -/

/-- The modem when the request on it ends with a good response. -/
def Hart.finish (h : Hart) : Hart := ({ h with done := satAdd 32 h.done 1 } : Hart).next

theorem Hart.finish_takes (h : Hart) : h.finish.active = h.waiting.head? ∧ h.finish.waiting = h.waiting.tail ∧
    h.finish.done = satAdd 32 h.done 1 := by
  obtain ⟨hactive, hwaiting, hdone, -⟩ := Hart.next_takes { h with done := satAdd 32 h.done 1 }
  exact ⟨hactive, hwaiting, hdone⟩

section
variable (t : Ns) (ch : Fin 128) (start : Ns) (f : Bytes)

/-- A frame that is a response to this module and comes in time ends the attempt. -/
theorem exec_hartResponse_mine {q : HartReq} {e : Ns} {s : State} (hactive : s.harts[ch].active = some q)
    (hend : s.harts[ch].txEnd = some e) (hstate : s.harts[ch].state = .waitResp ∨ s.harts[ch].state = .rx) (hmine : rxMine f = true)
    (hfrom : e ≤ start) (hto : start ≤ e + 300000000) : exec (.hartResponse t ch start f) s =
      if (rxGood 6 f && !s.harts[ch].rxErr) = true then
        .next ((((s.begin t).updHart ch Hart.finish).diagBoth ch .hartFault false).complete q.org
          (.done (hartResponse q.obj q.attempts (start + s.time.ringOff) f)))
      else .next ((s.begin t).hartFailed ch q true) := by
  have hcond : ¬ ((s.harts[ch].state != .waitResp && s.harts[ch].state != .rx) || !rxMine f || decide (start < e) ||
      decide (e + 300000000 < start)) = true := by
    rw [hmine, decide_eq_false hfrom.not_gt, decide_eq_false hto.not_gt]
    rcases hstate with h | h
    · rw [h]
      decide
    · rw [h]
      decide
  rw [exec_hartResponse]
  simp only [execHartResponse, State.begin_harts, hactive, hend]
  exact if_neg hcond

theorem hartResponse_completes (q : HartReq) (e : Ns) (s : State) (hactive : s.harts[ch].active = some q)
    (hend : s.harts[ch].txEnd = some e) (hstate : s.harts[ch].state = .waitResp ∨ s.harts[ch].state = .rx) (hmine : rxMine f = true)
    (hfrom : e ≤ start) (hto : start ≤ e + 300000000) (hgood : rxGood 6 f = true) (herr : s.harts[ch].rxErr = false) :
    Completes (.hartResponse t ch start f) s fun u =>
      u.harts[ch].active = s.harts[ch].waiting.head? ∧ u.harts[ch].waiting = s.harts[ch].waiting.tail ∧
      u.harts[ch].done = satAdd 32 s.harts[ch].done 1 ∧ u.cells[ch].has .hartFault = false ∧ u.chans[ch].has .hartFault = false ∧
      ∀ j : Fin 128, j ≠ ch → u.harts[j] = s.harts[j] := by
  have hcond : (rxGood 6 f && !s.harts[ch].rxErr) = true := by
    rw [hgood, herr]
    rfl
  generalize ha : (s.begin t).updHart ch Hart.finish = a
  have hfinish : HartBecomes ch s.harts[ch].finish s a := ha ▸ .begin_updHart t ch Hart.finish s
  have hbecomes := (hfinish.diagBoth .hartFault false).complete q.org
    (.done (hartResponse q.obj q.attempts (start + s.time.ringOff) f))
  obtain ⟨hcell, hchan, -⟩ := a.diagBoth_sets ch .hartFault false (by decide)
  obtain ⟨hactive', hwaiting, hdone⟩ := s.harts[ch].finish_takes
  have hrun := (exec_hartResponse_mine t ch start f hactive hend hstate hmine hfrom hto).trans (if_pos hcond)
  rw [ha] at hrun
  refine ⟨_, hrun, ?_⟩
  simp only [hbecomes.same, State.complete_cells, State.complete_chans]
  exact ⟨hactive', hwaiting, hdone, hcell, hchan, hbecomes.other⟩

theorem hartResponse_bad (q : HartReq) (e : Ns) (s : State) (hactive : s.harts[ch].active = some q)
    (hend : s.harts[ch].txEnd = some e) (hstate : s.harts[ch].state = .waitResp ∨ s.harts[ch].state = .rx) (hmine : rxMine f = true)
    (hfrom : e ≤ start) (hto : start ≤ e + 300000000) (hbad : rxGood 6 f = false ∨ s.harts[ch].rxErr = true) :
    Completes (.hartResponse t ch start f) s fun u =>
      (q.attempts ≤ hqRetries q.obj → u.harts[ch].active = some { q with drewBad := true } ∧ u.harts[ch].state = .waitGap) ∧
      (hqRetries q.obj < q.attempts → u.harts[ch].active = s.harts[ch].waiting.head? ∧
        u.harts[ch].badFrame = satAdd 32 s.harts[ch].badFrame 1 ∧ u.chans[ch].has .hartFault = true) ∧
      ∀ j : Fin 128, j ≠ ch → u.harts[j] = s.harts[j] := by
  have hcond : ¬ (rxGood 6 f && !s.harts[ch].rxErr) = true := by
    rw [Bool.and_eq_true, Bool.not_eq_true', not_and_or, Bool.not_eq_true, Bool.not_eq_false]
    exact hbad
  obtain ⟨hagain, hends, hother⟩ := State.hartFailed_outcome ch q true (s.begin t)
  rw [Bool.or_true] at hagain hends
  refine ⟨_, (exec_hartResponse_mine t ch start f hactive hend hstate hmine hfrom hto).trans (if_neg hcond), hagain,
    fun h => ?_, hother⟩
  obtain ⟨hactive', hcount, hfault⟩ := hends h
  exact ⟨hactive', hcount rfl, hfault⟩

theorem hartResponse_other (s : State) (hmine : rxMine f = false) :
    Completes (.hartResponse t ch start f) s fun u => u = s.begin t := by
  refine ⟨_, ?_, rfl⟩
  rw [exec_hartResponse]
  unfold execHartResponse
  extract_lets a h
  split
  · rw [if_pos]
    simp only [hmine, Bool.not_false, Bool.or_true, Bool.true_or]
  · rfl

end

theorem hartNoResponse_fails (t : Ns) (ch : Fin 128) (q : HartReq) (e : Ns) (s : State) (hactive : s.harts[ch].active = some q)
    (hend : s.harts[ch].txEnd = some e)
    (hstate : s.harts[ch].state = .waitResp ∨ (s.harts[ch].state = .rx ∧ s.harts[ch].carrier = false))
    (hdue : (s.begin t).due .tim e 300000000 ≤ max s.clock t) : Completes (.hartNoResponse t ch) s fun u =>
      (q.attempts ≤ hqRetries q.obj → u.harts[ch].active = some q ∧ u.harts[ch].state = .waitGap) ∧
      (hqRetries q.obj < q.attempts → u.harts[ch].active = s.harts[ch].waiting.head? ∧ u.chans[ch].has .hartFault = true) ∧
      ∀ j : Fin 128, j ≠ ch → u.harts[j] = s.harts[j] := by
  have hsilent : (s.harts[ch].state == .waitResp || (s.harts[ch].state == .rx && !s.harts[ch].carrier)) = true := by
    rcases hstate with h | ⟨h, hcarrier⟩
    · rw [h]
      rfl
    · rw [h, hcarrier]
      rfl
  have hcond : ¬ (!(s.harts[ch].state == .waitResp || (s.harts[ch].state == .rx && !s.harts[ch].carrier)) ||
      decide (max s.clock t < (s.begin t).due .tim e 300000000)) = true := by
    rw [hsilent, decide_eq_false hdue.not_gt]
    decide
  have hrun : exec (.hartNoResponse t ch) s = .next ((s.begin t).hartFailed ch q false) := by
    rw [exec_hartNoResponse]
    simp only [execHartNoResponse, State.begin_harts, State.begin_clock, hactive, hend]
    exact if_neg hcond
  obtain ⟨hagain, hends, hother⟩ := State.hartFailed_outcome ch q false (s.begin t)
  rw [Bool.or_false] at hagain
  refine ⟨_, hrun, hagain, fun h => ?_, hother⟩
  obtain ⟨hactive', -, hfault⟩ := hends h
  exact ⟨hactive', hfault⟩

/-! ### Burst frames (R117, R123) -/

/-- A burst frame that is stored stands among those stored. -/
theorem mem_storeBurst (b : Burst) (l : List Burst) : b ∈ (storeBurst b l).1 := by
  unfold storeBurst
  split
  next i hi =>
    obtain ⟨hlt, -⟩ := List.findIdx?_eq_some_iff_getElem.mp hi
    exact List.mem_set hlt b
  next =>
    split_ifs with hroom
    · exact List.mem_append_right l (List.mem_singleton_self b)
    · extract_lets oldest
      have hlt : oldest < l.length := by
        refine List.foldlRecOn (motive := (· < l.length)) _ _ (by omega) fun best hbest i hi => ?_
        have hi := List.mem_range.mp hi
        split
        · split
          · exact hi
          · exact hbest
        · exact hbest
      exact List.mem_set hlt b

/-- The modem when a burst frame with this stamp has come. -/
def Hart.hearBurst (stamp : Int) (now : Ns) (h : Hart) : Hart :=
  { h with
    bursting := true, lastBurst := some stamp, lastBurstAt := now, rxErr := false,
    state := if h.state = .rx then .waitResp else h.state }

/-- The modem when a good burst frame is stored. -/
def Hart.keepBurst (b : Burst) (h : Hart) : Hart := { h with bursts := (storeBurst b h.bursts).1, stored := satAdd 32 h.stored 1 }

/-- The modem when a bad burst frame is counted. -/
def Hart.countBadBurst (h : Hart) : Hart := { h with burstsBad := satAdd 32 h.burstsBad 1 }

/-- A burst frame is heard, and stored or counted; the event that may report it leaves the modems alone. -/
theorem hartBurst_becomes (t : Ns) (ch : Fin 128) (start : Ns) (f : Bytes) {s : State} (hon : hartOn (s.chanRec ch) = true) :
    Completes (.hartBurst t ch start f) s (HartBecomes ch
      (if (rxGood 1 f && !s.harts[ch].rxErr) = true then
        (s.harts[ch].hearBurst (start + s.time.ringOff) (max s.clock t)).keepBurst
          { cmd := BitVec.ofNat 8 (rd f (rxCmdAt f) 1), stamp := start + s.time.ringOff, bytes := f }
      else (s.harts[ch].hearBurst (start + s.time.ringOff) (max s.clock t)).countBadBurst) s) := by
  rw [Completes, exec_hartBurst]
  unfold execHartBurst
  extract_lets s0 r stamp bad a cmd
  have ha : HartBecomes ch (s.harts[ch].hearBurst stamp (max s.clock t)) s a := .begin_updHart t ch _ s
  have hserves : ¬ (!hartOn r) = true := by
    rw [show hartOn r = true from hon]
    decide
  rw [if_neg hserves]
  by_cases hgood : (rxGood 1 f && !bad) = true
  · rw [if_pos hgood, if_pos (show (rxGood 1 f && !s.harts[ch].rxErr) = true from hgood)]
    have hkept := ha.updHart (Hart.keepBurst { cmd := BitVec.ofNat 8 cmd, stamp := stamp, bytes := f })
    by_cases hevent : recBurstEvt r = true
    · exact ⟨_, if_pos hevent, hkept.keep (State.postEventAt_keep _ _ _ _ _) (by decide)⟩
    · exact ⟨_, if_neg hevent, hkept⟩
  · rw [if_neg hgood, if_neg (show ¬ (rxGood 1 f && !s.harts[ch].rxErr) = true from hgood)]
    exact ⟨_, rfl, ha.updHart Hart.countBadBurst⟩

theorem hartBurst_heard (t : Ns) (ch : Fin 128) (start : Ns) (f : Bytes) (s : State) (hon : hartOn (s.chanRec ch) = true)
    (herr : s.harts[ch].rxErr = false) : Completes (.hartBurst t ch start f) s fun u =>
      u.harts[ch].bursting = true ∧ u.harts[ch].lastBurst = some (start + s.time.ringOff) ∧
      (rxGood 1 f = true → u.harts[ch].stored = satAdd 32 s.harts[ch].stored 1 ∧
        (u.harts[ch].bursts.any fun b => b.bytes == f && b.stamp == start + s.time.ringOff) = true) ∧
      (rxGood 1 f = false → u.harts[ch].burstsBad = satAdd 32 s.harts[ch].burstsBad 1 ∧
        u.harts[ch].bursts = s.harts[ch].bursts) ∧ ∀ j : Fin 128, j ≠ ch → u.harts[j] = s.harts[j] := by
  obtain ⟨u, hrun, hbecomes⟩ := hartBurst_becomes t ch start f hon
  refine ⟨u, hrun, ?_⟩
  rw [herr, Bool.not_false, Bool.and_true] at hbecomes
  simp only [hbecomes.same]
  cases hgood : rxGood 1 f with
  | true =>
    refine ⟨rfl, rfl, fun _ => ⟨rfl, List.any_of_mem (mem_storeBurst _ _) ?_⟩, nofun, hbecomes.other⟩
    simp only [beq_self_eq_true, Bool.and_self]
  | false => exact ⟨rfl, rfl, nofun, fun _ => ⟨rfl, rfl⟩, hbecomes.other⟩

theorem burstSilence_ends (t : Ns) (ch : Fin 128) (s : State) (hbursting : s.harts[ch].bursting = true)
    (hdue : (s.begin t).due .tim s.harts[ch].lastBurstAt 500000000 ≤ max s.clock t) : Completes (.burstSilence t ch) s fun u =>
      u.harts[ch] = { s.harts[ch] with bursting := false } ∧ ∀ j : Fin 128, j ≠ ch → u.harts[j] = s.harts[j] := by
  have hcond : (s.harts[ch].bursting && decide ((s.begin t).due .tim s.harts[ch].lastBurstAt 500000000 ≤ max s.clock t)) = true := by
    rw [hbursting, decide_eq_true hdue]
    rfl
  have hbecomes := HartBecomes.begin_updHart t ch (fun h => { h with bursting := false }) s
  exact ⟨_, (exec_burstSilence t ch s).trans (if_pos hcond), hbecomes.same, hbecomes.other⟩

/-- Settles O9: each command makes of the modem of its channel what the lemma about it says, and what completes the request, sets its
diagnosis or posts its event leaves the modems alone. -/
theorem hartModem : Obligations.HartModem := by
  unfold Obligations.HartModem
  exact ⟨hartRequest_enqueues, hartTransmitStart_sends, hartResponse_completes, hartResponse_bad, hartResponse_other,
    hartNoResponse_fails, hartBurst_heard, burstSilence_ends⟩

end Sys2Proof.Machine
end

section
/-! Data memory (obligations StepKeepsMemoryCanonical and ResetMemoryCanonical). -/

namespace Sys2Proof.Machine

/-- Among what every command keeps is the canonical form of every data memory. -/
theorem exec_memOk (c : Instr) {s u : State} (h : s.MemOk) (hu : exec c s = .next u) : u.MemOk :=
  ((exec_keep c s).keep u hu).mem h

/-- Settles O57: an idle step changes nothing, and the queue is no part of a data memory. -/
theorem stepKeepsMemoryCanonical : Obligations.StepKeepsMemoryCanonical := by
  unfold Obligations.StepKeepsMemoryCanonical
  intro s u h hu
  unfold step at hu
  split at hu
  case h_1 =>
    cases hu
    exact h
  case h_2 c rest _ => exact exec_memOk c (s := { s with pending := rest }) h hu

/-- A store that has never been written holds no memory. -/
theorem Store.empty_heldOk : ({} : Store).heldOk :=
  ⟨trivial, trivial, nofun⟩

theorem State.reset_memOk : State.reset.MemOk := by
  refine ⟨rfl, rfl, fun i => ?_⟩
  have hempty : State.reset.stores[i] = {} := by
    simp only [State.reset, Fin.getElem_fin, Vector.getElem_replicate]
  rw [hempty]
  exact Store.empty_heldOk

/-- Settles O58: no cell is listed, and an unlisted address reads as its fill byte. -/
theorem resetMemoryCanonical : Obligations.ResetMemoryCanonical :=
  ⟨State.reset_memOk, rfl, Memory.read_nil⟩

end Sys2Proof.Machine
end

section
/-! The program engine: what the operations that many commands share leave of it, and what its own operations make of it, stated on
`Program` alone; the layer that the proofs of this family use. -/

namespace Sys2Proof.Machine

/-! ### What leaves the program engine alone -/

section
variable (s : State)

@[simp] theorem State.complete_prg (org : Origin) (o : Outcome) : (s.complete org o).prg = s.prg :=
  (State.complete_keep org o s).same .prg (by decide)
@[simp] theorem State.postEvent_prg (type : BitVec 16) (inst : Nat) (data : Bytes) : (s.postEvent type inst data).prg = s.prg :=
  (State.postEvent_keep type inst data s).same .prg (by decide)
@[simp] theorem State.settleHealth_prg : s.settleHealth.prg = s.prg := (State.settleHealth_keep s).same .prg (by decide)
@[simp] theorem State.setMember_prg (m : Member) (cause : Nat) : (s.setMember m cause).prg = s.prg :=
  (State.setMember_keep m cause s).same .prg (by decide)
@[simp] theorem State.requestSave_prg (st : Fin 2) (cause : SaveCause) (org : Option Origin) :
    (s.requestSave st cause org).1.prg = s.prg := (State.requestSave_keep st cause org s).same .prg (by decide)
@[simp] theorem State.storeObject_prg (op : BitVec 16) (inst : Nat) (obj : Option Bytes) : (s.storeObject op inst obj).prg = s.prg :=
  (State.storeObject_keep op inst obj s).same .prg (by decide)
@[simp] theorem State.dropSwitch_prg (st : BitVec 16) : (s.dropSwitch st).prg = s.prg :=
  (State.dropSwitch_keep st s).same .prg (by decide)
@[simp] theorem State.switchDone_prg : s.switchDone.prg = s.prg := (State.switchDone_keep s).same .prg (by decide)
@[simp] theorem State.startSwitch_prg : s.startSwitch.prg = s.prg := (State.startSwitch_keep s).same .prg (by decide)
@[simp] theorem State.takeMessages_prg : s.takeMessages.2.prg = s.prg := (State.takeMessages_keep s).same .prg (by decide)

@[simp] theorem State.begin_inStep (t : Ns) : (s.begin t).inStep = s.inStep := rfl
@[simp] theorem State.begin_needsBarrier (t : Ns) : (s.begin t).needsBarrier = s.needsBarrier := rfl
@[simp] theorem State.begin_savePages (t : Ns) : (s.begin t).savePages = s.savePages := rfl
end

/-! ### Saves of the retained data (R487, R488, R492, R493) -/

theorem State.budgetCheck_savePages (causes : List SaveCause) (s : State) : (s.budgetCheck causes).savePages = s.savePages := by
  have hprg : (s.budgetCheck causes).prg = s.prg := (State.budgetCheck_keep causes s).same .prg (by decide)
  have hxch : (s.budgetCheck causes).xch = s.xch := (State.budgetCheck_keep causes s).same .xch (by decide)
  unfold State.savePages State.runningImage
  rw [hprg, hxch]

/-- A retained save of at most 255 pages runs. -/
theorem State.startSave_runs {s : State} (hpages : s.savePages.length ≤ 255) (causes : List SaveCause) (orgs : List Origin) :
    (s.startSave 1 causes orgs).2 = true ∧ (s.startSave 1 causes orgs).1.stores[(1 : Fin 2)].running.isSome = true := by
  unfold State.startSave
  extract_lets a
  have ha : a = s.budgetCheck causes := if_pos rfl
  have hfits : ¬ ((1 : Fin 2) = 1 ∧ 255 < a.savePages.length) := by
    rw [ha, s.budgetCheck_savePages]
    exact fun h => hpages.not_gt h.2
  rw [if_neg hfits]
  refine ⟨rfl, ?_⟩
  rw [State.updStore_get, if_pos rfl]
  rfl

/-- A retained save that is asked for runs, or waits for the one that runs. -/
theorem State.requestSave_runs {s : State} (hfree : s.stores[(1 : Fin 2)].heldBack = false) (hpages : s.savePages.length ≤ 255)
    (cause : SaveCause) (org : Option Origin) : (s.requestSave 1 cause org).2 = true ∧
      (s.requestSave 1 cause org).1.stores[(1 : Fin 2)].running.isSome = true := by
  unfold State.requestSave
  rw [if_neg (by rw [hfree]; decide)]
  split
  · rename_i hruns
    refine ⟨rfl, ?_⟩
    rw [State.updStore_get, if_pos rfl]
    exact hruns
  · exact State.startSave_runs hpages _ _

/-! ### Data memory alone (R128, R162) -/

/-- From `p` to `q` only the contents of data memory and of the boundary copy change. -/
def Program.DataOnly (p q : Program) : Prop := ∃ d b, q = { p with data := d, boundary := { p.boundary with data := b } }

namespace Program.DataOnly

theorem refl (p : Program) : p.DataOnly p := ⟨p.data, p.boundary.data, rfl⟩

theorem trans {p q r : Program} (h : p.DataOnly q) (k : q.DataOnly r) : p.DataOnly r := by
  obtain ⟨_, _, rfl⟩ := h
  obtain ⟨d, b, rfl⟩ := k
  exact ⟨d, b, rfl⟩

end Program.DataOnly

/-- A VAR_WRITE that passes its checks writes its variable. -/
theorem State.applyVar_eq {rest : Bool} {w : VarWrite} {s : State} {e : KeyEntry}
    (hok : s.varOutcome w.key w.typeSig w.data.length = none) (he : (s.prg.running.bind fun r => r.find w.key) = some e) :
    (s.applyVar rest w).prg = { s.prg with
      data := { s.prg.data with mem := Memory.writeAll s.prg.data.mem e.addr w.data },
      boundary := if rest && e.retain then { s.prg.boundary with
          data := { s.prg.boundary.data with mem := Memory.writeAll s.prg.boundary.data.mem e.addr w.data } }
        else s.prg.boundary } := by
  unfold State.applyVar
  simp only [hok, he, State.complete_prg]
  split <;> rfl

theorem State.applyVar_dataOnly (rest : Bool) (w : VarWrite) (s : State) : s.prg.DataOnly (s.applyVar rest w).prg := by
  cases hok : s.varOutcome w.key w.typeSig w.data.length with
  | some o =>
    simp only [State.applyVar, hok, State.complete_prg]
    exact .refl _
  | none =>
    cases he : s.prg.running.bind fun r => r.find w.key with
    | none =>
      simp only [State.applyVar, hok, he]
      exact .refl _
    | some e =>
      rw [State.applyVar_eq hok he]
      split
      · exact ⟨_, _, rfl⟩
      · exact ⟨_, s.prg.boundary.data, rfl⟩

theorem State.applyVars_dataOnly (rest : Bool) (s : State) : { s.prg with varWrites := [] }.DataOnly (s.applyVars rest).prg :=
  List.foldlRecOn (motive := fun u : State => { s.prg with varWrites := [] }.DataOnly u.prg) s.prg.varWrites _
    (Program.DataOnly.refl _) fun u hu w _ => hu.trans (u.applyVar_dataOnly rest w)

/-! ### Acts of tasks within DATA (R151) -/

/-- Acts whose stores stay inside DATA raise no trap. -/
theorem Running.acts_inside {r : Running} {l : List PrgAct}
    (h : ∀ addr data, .store addr data ∈ l → addr + data.length ≤ r.dataSize) (now : Int) (d : PrgData) :
    (r.acts now l d).2 = none := by
  refine List.foldlRecOn (motive := fun x : PrgData × Option Nat => x.2 = none) l _ rfl ?_
  rintro ⟨d, bad⟩ hbad a ha
  obtain rfl : bad = none := hbad
  cases a with
  | store addr data => simp [Running.act, h addr data ha]
  | _ => rfl

theorem State.runActs_inside {s : State} {l : List PrgAct} (h : Inside s l) (now : Int) :
    ∃ d, s.runActs now l = (s.updPrg fun p => { p with data := d }, true) := by
  cases hr : s.prg.running with
  | none => exact ⟨s.prg.data, by simp only [State.runActs, hr]; rfl⟩
  | some r => exact ⟨(r.acts now l s.prg.data).1, by simp only [State.runActs, hr, Running.acts_inside (h r hr)]⟩

/-- STATION_FAULT runs whose stores stay inside DATA all end. -/
theorem State.runFaults_inside (now : Int) (l : List DownInfo) : ∀ {acts : List (List PrgAct)} {s : State},
    (∀ a ∈ acts, Inside s a) → ∃ d, s.runFaults now l acts = (s.updPrg fun p => { p with data := d }, true) := by
  induction l with
  | nil => exact fun {_ s} _ => ⟨s.prg.data, rfl⟩
  | cons x l ih =>
    intro acts s h
    have hhead : Inside s (acts.headD []) := by
      cases acts with
      | nil => exact fun _ _ _ _ hmem => absurd hmem List.not_mem_nil
      | cons a acts => exact h a List.mem_cons_self
    obtain ⟨d, hd⟩ := State.runActs_inside hhead now
    obtain ⟨e, he⟩ := ih (acts := acts.tail) (s := s.updPrg fun p => { p with data := d })
      fun a ha => h a (List.mem_of_mem_tail ha)
    refine ⟨e, ?_⟩
    simp only [State.runFaults, hd, he, if_true]
    rfl

/-! ### Rest, stop and halt (R150, R151) -/

/-- The parameters that wait are in force. -/
def Program.takenParam (p : Program) : Program :=
  { p with param := (p.paramPending.map Prod.snd).getD p.param, paramPending := none }

theorem State.takeParam_prg (s : State) : s.takeParam.prg = s.prg.takenParam := by
  cases h : s.prg.paramPending with
  | none =>
    have hsame : s.prg = { s.prg with paramPending := none } := congrArg (fun o => { s.prg with paramPending := o }) h
    simp only [State.takeParam, Program.takenParam, h]
    exact hsame
  | some x => simp only [State.takeParam, Program.takenParam, h, State.complete_prg, State.updPrg_prg, Option.map_some, Option.getD_some]

theorem State.stopValues_prg (s : State) : s.stopValues.prg = { s.prg with pstop := true } := by
  have hchans : ∀ u : State, (forAll 128 (fun i s => if s.owner i = .prg && recPstop (s.chanRec i) then
      s.updChan i fun c => { c with pstopSubst := true } else s) u).prg = u.prg := fun u =>
    forAll_induction (P := fun v => v.prg = u.prg) (fun i v hv => by split <;> exact hv) rfl
  simp only [State.stopValues, State.updPrg_prg, hchans]

/-- The engine after a STOP, but for data memory. -/
def Program.stopped (p : Program) : Program :=
  { (p.rest .stopped) with stopReq := false, control := none, pstop := true, varWrites := [] }.takenParam

theorem State.finishStop_dataOnly (o : Outcome) (s : State) : s.prg.stopped.DataOnly (s.finishStop o).prg := by
  have h := State.applyVars_dataOnly true
    ((s.updPrg fun p => { (p.rest .stopped) with stopReq := false, control := none }).stopValues.takeParam)
  rw [State.takeParam_prg, State.stopValues_prg] at h
  unfold State.finishStop
  dsimp only
  split
  · rw [State.complete_prg]
    exact h
  · rw [State.complete_prg]
    exact h
  · exact h

/-- A STOP waits for its save, or is done. -/
theorem State.beginStop_prg (s : State) : s.beginStop.prg = { s.prg with stopReq := true, inMain := false } ∨
    s.prg.stopped.DataOnly s.beginStop.prg := by
  unfold State.beginStop
  extract_lets a
  have hstop : ∀ (o : Outcome) (u : State), u.prg = a.prg → s.prg.stopped.DataOnly (u.finishStop o).prg := fun o u hu => by
    have h := u.finishStop_dataOnly o
    rw [hu] at h
    exact h
  split
  · exact .inr (hstop _ a rfl)
  · dsimp only
    split
    · exact .inl (a.requestSave_prg _ _ _)
    · exact .inr (hstop _ _ (a.requestSave_prg _ _ _))

/-- The program is halted by this cause: the cycle has ended, its held writes are gone and outputs take PSTOP. -/
structure Program.HaltedBy (cause : HaltCause) (p : Program) : Prop where
  cause : p.halt.map Halt.cause = some cause
  inMain : p.inMain = false
  held : p.held = []
  pstop : p.pstop = true
  longRunning : p.longRunning = false

namespace Program.HaltedBy
variable {cause : HaltCause} {p q : Program}

theorem dataOnly (h : p.HaltedBy cause) (k : p.DataOnly q) : q.HaltedBy cause := by
  obtain ⟨_, _, rfl⟩ := k
  exact ⟨h.cause, h.inMain, h.held, h.pstop, h.longRunning⟩

theorem beginStop {s : State} (h : s.prg.HaltedBy cause) : s.beginStop.prg.HaltedBy cause := by
  rcases s.beginStop_prg with hsave | hdone
  · rw [hsave]
    exact ⟨h.cause, rfl, h.held, h.pstop, h.longRunning⟩
  · exact dataOnly (p := s.prg.stopped) ⟨h.cause, rfl, rfl, rfl, rfl⟩ hdone

end Program.HaltedBy

theorem State.haltProgram_prg {s : State} (h : s.prg.active = true ∨ s.prg.state = .starting) (cause : HaltCause)
    (code codeAddr dataAddr : Nat) : (s.haltProgram cause code codeAddr dataAddr).prg.HaltedBy cause ∧
      (s.prg.control = none → (s.haltProgram cause code codeAddr dataAddr).prg.state = .halted) := by
  have hcond : (s.prg.active || s.prg.state == .starting) = true := by simpa using h
  unfold State.haltProgram
  rw [if_pos hcond]
  extract_lets h control s1 s2 s3 s4 s5
  have hcontrol : control = s.prg.control := rfl
  have hrest : s1.prg = { s.prg.rest .halted with halt := some h, pstop := true } := State.stopValues_prg _
  have hs3 : { s1.prg with varWrites := [] }.takenParam.DataOnly s3.prg := by
    have hvars := ((s2.dropSwitch stSwitchHalted).takeParam).applyVars_dataOnly true
    rw [State.takeParam_prg, State.dropSwitch_prg, State.record_prg] at hvars
    exact hvars
  rw [hrest] at hs3
  have hhalted : s3.prg.HaltedBy cause := .dataOnly ⟨rfl, rfl, rfl, rfl, rfl⟩ hs3
  have hs5 : s5.prg = s4.prg := by
    unfold s5
    split
    · exact s4.setMember_prg _ _
    · rfl
  rw [State.settleHealth_prg, hs5]
  rw [← hcontrol]
  unfold s4
  clear_value control s3
  split
  · exact ⟨hhalted.beginStop, fun hnone => absurd hnone (Option.some_ne_none _)⟩
  · rw [State.complete_prg]
    exact ⟨⟨hhalted.cause, hhalted.inMain, hhalted.held, hhalted.pstop, hhalted.longRunning⟩,
      fun hnone => absurd hnone (Option.some_ne_none _)⟩
  · refine ⟨hhalted, fun _ => ?_⟩
    obtain ⟨_, _, hdata⟩ := hs3
    rw [hdata]
    rfl

/-- Without a running program there is nothing to halt. -/
theorem State.haltProgram_idle {s : State} (h : ¬ (s.prg.active = true ∨ s.prg.state = .starting)) (cause : HaltCause)
    (code codeAddr dataAddr : Nat) : s.haltProgram cause code codeAddr dataAddr = s := by
  unfold State.haltProgram
  rw [if_neg (by simpa using h)]

/-! ### Events join the queues of tasks (R132, R366) -/

/-- From `p` to `q` events only join the queues of the tasks: each task has the event it works on as before. -/
structure Program.Queued (p q : Program) : Prop where
  same : q = { p with events := q.events }
  tasks : q.events.map (fun k => (k.prio, k.active)) = p.events.map fun k => (k.prio, k.active)

namespace Program.Queued
variable {p q r : Program}

theorem refl (p : Program) : p.Queued p := ⟨rfl, rfl⟩

theorem trans (h : p.Queued q) (k : q.Queued r) : p.Queued r :=
  ⟨k.same.trans (by rw [h.same]), k.tasks.trans h.tasks⟩

theorem of_eq (h : q = p) : p.Queued q := h ▸ refl p

end Program.Queued

theorem EventTask.push_task (e : PrgEvent) (k : EventTask) : ((k.push e).prio, (k.push e).active) = (k.prio, k.active) := by
  unfold EventTask.push
  split <;> rfl

section
variable (s : State)

theorem State.queueEvent_queued (trig : Trigger) (e : PrgEvent) : s.prg.Queued (s.queueEvent trig e).prg := by
  unfold State.queueEvent
  split
  · refine ⟨rfl, ?_⟩
    simp only [State.updPrg_prg, List.map_map]
    refine List.map_congr_left fun k _ => ?_
    simp only [Function.comp]
    split
    · exact EventTask.push_task e k
    · rfl
  · exact .refl _

theorem State.pushEvent_queued (trig : Trigger) (e : PrgEvent) : s.prg.Queued (s.pushEvent trig e).prg := by
  unfold State.pushEvent
  split
  · exact .refl _
  · exact s.queueEvent_queued trig e

theorem State.setDomain_prg (i : Ident) (d : Dom) : (s.setDomain i d).prg = s.prg :=
  (State.setDomain_keep i d s).same .prg (by decide)

theorem State.wakeReceiver_queued (n : Fin 32) : s.prg.Queued (s.wakeReceiver n).prg := by
  unfold State.wakeReceiver
  split
  · split
    · exact .of_eq ((State.signal_keep _ s).same .prg (by decide))
    · exact .refl _
    · exact .refl _
  · exact .refl _
  · exact .refl _
  · exact .refl _
  · dsimp only
    have hwoken : ∀ r : Ident, (if s.domain r = .sleep then s.setDomain r .on else s).prg = s.prg := by
      intro r
      split
      · exact s.setDomain_prg r .on
      · rfl
    split
    · exact (Program.Queued.of_eq (hwoken _)).trans (State.pushEvent_queued _ _ _)
    · exact .of_eq (hwoken _)
    · exact .of_eq (hwoken _)

theorem State.hubPost_queued (who : Ident) (n : Fin 32) : s.prg.Queued (s.hubPost who n).prg := by
  unfold State.hubPost
  dsimp only
  split_ifs
  · exact .refl _
  · exact .refl _
  · exact .of_eq ((State.accessOff_keep who n _).same .prg (by decide))
  · exact .refl _
  · exact .refl _
  · refine Program.Queued.trans (.of_eq ?_) (State.wakeReceiver_queued _ n)
    exact (((State.updBox_keep n _ s).trans (State.markCrossed_keep n _)).trans (State.toPartner_keep _ _)).same .prg (by decide)
  · refine Program.Queued.trans (.of_eq ?_) (State.wakeReceiver_queued _ n)
    exact ((State.updBox_keep n _ s).trans (State.markCrossed_keep n _)).same .prg (by decide)

theorem State.programPost_queued (who : Ident) (n : Fin 32) (data : List Word) : s.prg.Queued (s.programPost who n data).prg := by
  unfold State.programPost State.atHub
  split
  · exact .refl _
  · refine Program.Queued.trans (.of_eq ?_) (State.hubPost_queued _ who n)
    refine List.foldlRecOn (motive := fun u : State => u.prg = s.prg) _ _ rfl fun u hu j _ => ?_
    split
    · exact ((State.hubData_keep who n j _ u).same .prg (by decide)).trans hu
    · exact hu

theorem State.release_queued (w : PrgWrite) : s.prg.Queued (s.release w).prg := by
  cases w with
  | channel ch on value fail => exact .of_eq ((State.ownerWrite_keep .prg ch on value fail s).same .prg (by decide))
  | remote station word v => exact .of_eq ((State.programRemote_keep station word v s).same .prg (by decide))
  | loop obj => exact .of_eq ((State.programLoop_keep obj s).same .prg (by decide))
  | axis obj => exact .of_eq ((State.programAxis_keep obj s).same .prg (by decide))
  | mailbox n data => exact s.programPost_queued .prg0 n data
  | hart obj => exact .of_eq ((State.hartEnqueue_keep .self obj s).same .prg (by decide))

theorem State.releaseEvent_queued (w : PrgWrite) : s.prg.Queued (s.releaseEvent w).prg := by
  unfold State.releaseEvent
  split
  · exact s.programPost_queued .prg1 _ _
  · exact s.release_queued _
end

/-- Operations that only let events join queues, on every member of a list. -/
theorem Program.Queued.foldl {α : Type} {f : State → α → State} (h : ∀ (s : State) x, s.prg.Queued (f s x).prg) (l : List α)
    (s : State) : s.prg.Queued (l.foldl f s).prg :=
  List.foldlRecOn (motive := fun u : State => s.prg.Queued u.prg) l f (.refl _) fun u hu x _ => hu.trans (h u x)

end Sys2Proof.Machine
end

section
/-! Event tasks, CycleLong and halts (obligation EventTasksAndLong): one lemma per command. -/

namespace Sys2Proof.Machine

/-! ### Event tasks (R132, R133) -/

theorem eventTaskStart_takes (t : Ns) (prio : Fin 16) (k : EventTask) (e : PrgEvent) (rest : List PrgEvent) (s : State)
    (hlive : s.prg.live = true) (hfind : s.prg.events.find? (fun k => k.prio = prio) = some k) (hqueue : k.queue = e :: rest)
    (hidle : k.active = none) (hfree : (s.begin t).eventFree k e = true) (hready : (s.begin t).hubReady e = true) :
    Completes (.eventTaskStart t prio) s fun u => u.prg.events =
      s.prg.events.map fun j => if j.prio = prio then { j with queue := rest, active := some (e, max s.clock t) } else j := by
  let a := (s.begin t).updPrg fun p => { p with events := p.events.map fun j =>
    if j.prio = prio then { j with queue := rest, active := some (e, max s.clock t) } else j }
  have hrun : exec (.eventTaskStart t prio) s = .next (a.eventTake e) := by
    rw [exec_eventTaskStart]
    simp only [execEventTaskStart, State.begin_prg, hlive, hfind, hqueue, hidle, hfree, hready]
    rfl
  have hprg : (a.eventTake e).prg = a.prg := (State.eventTake_keep e a).same .prg (by decide)
  exact ⟨_, hrun, congrArg Program.events hprg⟩

/-- A write of an event task that goes out at once, at a switch point or not. -/
def goesOut (switch : Bool) (w : PrgWrite) : Bool := isImmediate w && !(switch && isChannel w)

/-- The task of this priority has ended. -/
def EventTask.ended (prio : Fin 16) (us : Nat) (k : EventTask) : EventTask :=
  if k.prio = prio then { k with active := none, runs := k.runs + 1, longestUs := max k.longestUs us } else k

theorem EventTask.ended_idle {prio : Fin 16} {us : Nat} {l : List EventTask} {x : Fin 16 × Option (PrgEvent × Ns)}
    (h : x ∈ (l.map (EventTask.ended prio us)).map fun k => (k.prio, k.active)) (hprio : x.1 = prio) : x.2 = none := by
  simp only [List.map_map, List.mem_map, Function.comp] at h
  obtain ⟨k, -, rfl⟩ := h
  unfold EventTask.ended at hprio ⊢
  by_cases hk : k.prio = prio
  · simp only [if_pos hk]
  · simp only [if_neg hk] at hprio
    exact absurd hprio hk

/-- What follows the acts of an event task: its writes go out or are held, unless an act has halted the program. -/
def endEventTask (writes : List PrgWrite) (x : State × Bool) : Res :=
  if !x.2 then .next x.1
  else .next (((writes.filter (goesOut x.1.atSwitch)).foldl State.releaseEvent x.1).updPrg fun p =>
    { p with held := p.held ++ writes.filter fun w => !goesOut x.1.atSwitch w })

theorem exec_eventTaskEnd_active (t : Ns) {prio : Fin 16} (acts : List PrgAct) (writes : List PrgWrite) {k : EventTask}
    {e : PrgEvent} {start : Ns} {s : State} (hfind : s.prg.events.find? (fun k => k.prio = prio) = some k)
    (hactive : k.active = some (e, start)) : exec (.eventTaskEnd t prio acts writes) s =
      endEventTask writes (((s.begin t).updPrg fun p => { p with
        events := p.events.map (EventTask.ended prio ((max s.clock t - start) / 1000)) }).runActs (start + s.time.progOff) acts) := by
  rw [exec_eventTaskEnd]
  simp only [execEventTaskEnd, State.begin_prg, hfind, hactive]
  rfl

theorem eventTaskEnd_ends (t : Ns) (prio : Fin 16) (acts : List PrgAct) (writes : List PrgWrite) (k : EventTask) (e : PrgEvent)
    (start : Ns) (s : State) (hfind : s.prg.events.find? (fun k => k.prio = prio) = some k) (hactive : k.active = some (e, start))
    (hinside : Inside s acts) : Completes (.eventTaskEnd t prio acts writes) s fun u =>
      (∀ j ∈ u.prg.events, j.prio = prio → j.active = none) ∧
      u.prg.held = s.prg.held ++ writes.filter fun w => !(isImmediate w && !(s.atSwitch && isChannel w)) := by
  let a := (s.begin t).updPrg fun p => { p with events := p.events.map (EventTask.ended prio ((max s.clock t - start) / 1000)) }
  obtain ⟨d, hd⟩ := State.runActs_inside (s := a) (l := acts) hinside (start + s.time.progOff)
  let b := a.updPrg fun p => { p with data := d }
  let c := (writes.filter (goesOut s.atSwitch)).foldl State.releaseEvent b
  have hrun : exec (.eventTaskEnd t prio acts writes) s =
      .next (c.updPrg fun p => { p with held := p.held ++ writes.filter fun w => !goesOut s.atSwitch w }) :=
    (exec_eventTaskEnd_active t acts writes hfind hactive).trans (congrArg (endEventTask writes) hd)
  have hc : b.prg.Queued c.prg := Program.Queued.foldl State.releaseEvent_queued _ b
  refine ⟨_, hrun, fun j hj hprio => ?_, ?_⟩
  · have hmem : (j.prio, j.active) ∈ c.prg.events.map fun k => (k.prio, k.active) := List.mem_map_of_mem hj
    rw [hc.tasks] at hmem
    exact EventTask.ended_idle hmem hprio
  · rw [State.updPrg_prg, hc.same]
    rfl

/-! ### CycleLong (R148, R149, R366) -/

theorem cycleLong_starts (t : Ns) (s : State) (hactive : s.prg.active = true) (hmain : s.prg.inMain = true)
    (hfirst : s.prg.longInCycle = false) (hhas : s.prg.running.map Running.hasCycleLong = some true)
    (hover : (s.begin t).cycleOver 1 = true) : Completes (.cycleLong t) s fun u =>
      u.prg.longRunning = true ∧ u.prg.longInCycle = true ∧ u.prg.longRuns = s.prg.longRuns + 1 ∧ u.prg.inMain = true := by
  refine ⟨(s.begin t).updPrg fun p => { p with longRunning := true, longInCycle := true, longRuns := p.longRuns + 1 }, ?_,
    rfl, rfl, rfl, hmain⟩
  rw [exec_cycleLong]
  simp only [execCycleLong, State.begin_prg, hactive, hmain, hfirst, hhas, hover]
  rfl

/-- While CYCLE_LONG rests no act of it, no STOP and no halt starts it. -/
theorem State.beginStop_longRunning {s : State} (h : s.prg.longRunning = false) : s.beginStop.prg.longRunning = false := by
  rcases s.beginStop_prg with hsave | ⟨_, _, hdone⟩
  · rw [hsave]
    exact h
  · rw [hdone]
    rfl

theorem State.haltProgram_longRunning {s : State} (h : s.prg.longRunning = false) (cause : HaltCause)
    (code codeAddr dataAddr : Nat) : (s.haltProgram cause code codeAddr dataAddr).prg.longRunning = false := by
  by_cases hruns : s.prg.active = true ∨ s.prg.state = .starting
  · exact (State.haltProgram_prg hruns cause code codeAddr dataAddr).1.longRunning
  · rw [State.haltProgram_idle hruns]
    exact h

theorem State.longStore_longRunning {s : State} (h : s.prg.longRunning = false) (addr : Nat) (data : Bytes) :
    (s.longStore addr data).1.prg.longRunning = false := by
  unfold State.longStore
  split
  · exact h
  · split_ifs
    · exact State.haltProgram_longRunning h _ _ _ _
    · exact h
    · exact h

theorem State.longActs_longRunning (l : List LongAct) : ∀ {s : State}, s.prg.longRunning = false →
    (s.longActs l).1.prg.longRunning = false := by
  induction l with
  | nil => exact id
  | cons a l ih =>
    intro s h
    cases a with
    | store addr data =>
      have hstore := State.longStore_longRunning h addr data
      unfold State.longActs
      dsimp only
      split
      · exact ih hstore
      · exact hstore
    | post n data =>
      refine ih (s := s.programPost .prg1 n data) ?_
      rw [(s.programPost_queued .prg1 n data).same]
      exact h
    | stop =>
      unfold State.longActs
      split_ifs
      · exact ih (s := s.updPrg fun p => { p with stopReq := true }) h
      · exact ih (State.beginStop_longRunning h)
      · exact ih h

/-- The end of CYCLE_LONG outside a pair runs its acts. -/
theorem exec_cycleLongEnd_runs (t : Ns) (acts : List LongAct) {s : State} (hlong : s.prg.longRunning = true)
    (halone : s.inStep = false) : exec (.cycleLongEnd t acts) s =
      .next (((s.begin t).updPrg fun p => { p with longRunning := false }).longActs acts).1 := by
  have halone' : ((s.begin t).updPrg fun p => { p with longRunning := false }).inStep = false := halone
  rw [exec_cycleLongEnd]
  simp only [execCycleLongEnd, State.begin_prg, hlong, halone']
  rfl

theorem cycleLongEnd_ends (t : Ns) (acts : List LongAct) (s : State) (hlong : s.prg.longRunning = true) :
    Completes (.cycleLongEnd t acts) s fun u =>
      u.prg.longRunning = false ∧ (s.inStep = true → u.prg.longHeld = s.prg.longHeld ++ acts ∧ u.prg.data = s.prg.data) ∧
      (s.inStep = false → acts = [] → u = (s.begin t).updPrg fun p => { p with longRunning := false }) ∧
      (s.inStep = false → acts = [.stop] → s.prg.inMain = true → u.prg.stopReq = true) := by
  let a := (s.begin t).updPrg fun p => { p with longRunning := false }
  cases hstep : s.inStep with
  | true =>
    have hstep' : a.inStep = true := hstep
    refine ⟨a.updPrg fun p => { p with longHeld := p.longHeld ++ acts }, ?_, rfl, fun _ => ⟨rfl, rfl⟩, nofun, nofun⟩
    rw [exec_cycleLongEnd]
    simp only [execCycleLongEnd, State.begin_prg, hlong]
    exact if_pos hstep'
  | false =>
    refine ⟨_, exec_cycleLongEnd_runs t acts hlong hstep, State.longActs_longRunning acts rfl, nofun, ?_, ?_⟩
    · rintro - rfl
      rfl
    · rintro - rfl hmain
      have hmain' : (a.prg.inMain || a.prg.state == .switching) = true := Bool.or_eq_true_iff.mpr (.inl hmain)
      change (a.longActs [.stop]).1.prg.stopReq = true
      simp only [State.longActs, if_pos hmain', State.updPrg_prg]

theorem cycleLongEnd_stores (t : Ns) (addr : Nat) (data : Bytes) (r : Running) (s : State) (hlong : s.prg.longRunning = true)
    (halone : s.inStep = false) (hr : s.prg.running = some r) (hinside : addr + data.length ≤ r.dataSize) :
    Completes (.cycleLongEnd t [.store addr data]) s fun u => u.prg.longRunning = false ∧
      u.prg.data.mem = (if r.sharedAt addr data.length = true then Memory.writeAll s.prg.data.mem addr data else s.prg.data.mem) := by
  let a := (s.begin t).updPrg fun p => { p with longRunning := false }
  have hr' : a.prg.running = some r := hr
  refine ⟨_, exec_cycleLongEnd_runs t _ hlong halone, State.longActs_longRunning _ rfl, ?_⟩
  change (a.longActs [.store addr data]).1.prg.data.mem = _
  simp only [State.longActs, State.longStore, hr', if_neg hinside.not_gt]
  by_cases hshared : r.sharedAt addr data.length = true
  · simp only [if_pos hshared]
    rfl
  · simp only [if_neg hshared]
    rfl

/-! ### Halts (R148, R150, R151, R179) -/

/-- A command that halts a program which runs leaves it halted by its cause. -/
theorem completes_halt {c : Instr} {t : Ns} {s : State} {cause : HaltCause} {code codeAddr dataAddr : Nat}
    (hruns : s.prg.active = true ∨ s.prg.state = .starting)
    (hexec : exec c s = .next ((s.begin t).haltProgram cause code codeAddr dataAddr)) : Completes c s fun u =>
      u.prg.halt.map Halt.cause = some cause ∧ u.prg.inMain = false ∧ u.prg.held = [] ∧ u.prg.pstop = true ∧
      (s.prg.control = none → u.prg.state = .halted) := by
  obtain ⟨hhalted, hstate⟩ := State.haltProgram_prg (s := s.begin t) hruns cause code codeAddr dataAddr
  exact ⟨_, hexec, hhalted.cause, hhalted.inMain, hhalted.held, hhalted.pstop, hstate⟩

theorem exec_eventOverrun_halts (t : Ns) (prio : Fin 16) {e : PrgEvent} {start : Ns} {s : State}
    (hactive : (s.prg.events.find? (fun k => k.prio = prio)).bind EventTask.active = some (e, start))
    (hover : (s.begin t).due .prg start (1000000 * s.prg.param.wdMs) < max s.clock t) :
    exec (.eventOverrun t prio) s = .next ((s.begin t).haltProgram .eventOverrun 0 0 0) := by
  rw [exec_eventOverrun]
  simp only [execEventOverrun, State.begin_prg, hactive]
  exact if_pos hover

theorem exec_watchdogHalt_halts (t : Ns) {s : State}
    (hover : ((s.prg.inMain = true ∨ s.prg.longRunning = true) ∧ (s.begin t).cycleOver 2 = true) ∨
      (s.xch.switch.any fun w => (w.phase == .pre || w.phase == .post) &&
        decide ((s.begin t).due .prg w.since (1000000 * s.prg.param.wdMs) < max s.clock t)) = true) :
    exec (.watchdogHalt t) s = .next ((s.begin t).haltProgram .watchdog 0 0 0) := by
  rw [exec_watchdogHalt]
  unfold execWatchdogHalt
  refine if_pos (Bool.or_eq_true_iff.mpr ?_)
  rcases hover with ⟨hin, hcycle⟩ | hswitch
  · exact .inl (Bool.and_eq_true_iff.mpr ⟨Bool.or_eq_true_iff.mpr hin, hcycle⟩)
  · refine .inr ?_
    cases hw : s.xch.switch with
    | none =>
      rw [hw] at hswitch
      exact absurd hswitch Bool.false_ne_true
    | some w =>
      rw [hw] at hswitch
      simp only [State.begin_xch, hw]
      exact hswitch

/-- Settles O11: a task takes and ends its event, CYCLE_LONG runs its acts or holds them, and each of the four causes halts the program
in the same way. -/
theorem eventTasksAndLong : Obligations.EventTasksAndLong := by
  unfold Obligations.EventTasksAndLong
  exact ⟨eventTaskStart_takes, eventTaskEnd_ends, cycleLong_starts, cycleLongEnd_ends, cycleLongEnd_stores,
    fun t prio _ _ _ hruns hactive hover => completes_halt hruns (exec_eventOverrun_halts t prio hactive hover),
    fun t _ hruns hover => completes_halt hruns (exec_watchdogHalt_halts t hover),
    fun t code codeAddr dataAddr s hruns => completes_halt hruns (exec_trap t code codeAddr dataAddr s),
    fun t s hruns => completes_halt hruns (exec_eccHalt t s)⟩

end Sys2Proof.Machine
end

section
/-! Program control (obligation ProgramControl): STOP between cycles, the checks of PROGRAM_CONTROL, then one lemma per command. -/

namespace Sys2Proof.Machine

/-! ### STOP between cycles (R151) -/

/-- A STOP is done at once where saving is held back. -/
theorem State.beginStop_heldBack {s : State} (h : s.stores[(1 : Fin 2)].heldBack = true) :
    s.prg.stopped.DataOnly s.beginStop.prg := by
  have hcond : (s.stores[(1 : Fin 2)].heldBack || s.prg.running.isNone) = true := Bool.or_eq_true_iff.mpr (.inl h)
  unfold State.beginStop
  extract_lets a
  rw [if_pos (show (a.stores[(1 : Fin 2)].heldBack || a.prg.running.isNone) = true from hcond)]
  exact a.finishStop_dataOnly .done

/-- A STOP waits for the save of the retained data. -/
theorem State.beginStop_saves {s : State} (hfree : s.stores[(1 : Fin 2)].heldBack = false) (hloaded : s.prg.running.isSome = true)
    (hpages : s.savePages.length ≤ 255) : s.beginStop.prg = { s.prg with stopReq := true, inMain := false } := by
  have hcond : ¬ (s.stores[(1 : Fin 2)].heldBack || s.prg.running.isNone) = true := by
    rw [hfree, Option.isNone_eq_false_iff.mpr hloaded]
    decide
  unfold State.beginStop
  extract_lets a
  have hsave := (State.requestSave_runs (s := a) hfree hpages .stop none).1
  rw [if_neg (show ¬ (a.stores[(1 : Fin 2)].heldBack || a.prg.running.isNone) = true from hcond)]
  dsimp only
  rw [if_pos hsave, State.requestSave_prg]
  rfl

/-! ### The checks of PROGRAM_CONTROL (R161) -/

theorem badField_not {c : Bool} (h : c = true) : badField (!c) = none := by
  rw [h]
  rfl

theorem fails_false {c : Bool} (h : c = false) (o : Outcome) : fails c o = none := by
  rw [h]
  rfl

theorem State.controlCheck_passes {s : State} (hheld : s.programHeld = false) (hrole : s.runsPrograms = true) {wrong : Bool}
    (hright : wrong = false) : s.controlCheck wrong = none := by
  simp only [State.controlCheck, fails_false hheld, hrole, fails_false hright]
  rfl

@[simp] theorem State.begin_programHeld (s : State) (t : Ns) : (s.begin t).programHeld = s.programHeld := rfl
@[simp] theorem State.begin_runsPrograms (s : State) (t : Ns) : (s.begin t).runsPrograms = s.runsPrograms := rfl

/-! ### RUN and the end of Start (R152, R155) -/

/-- The program as RUN starts it: with Start to come, or in the isochronous start. -/
theorem State.startProgram_prg (cold : Bool) (org : Origin) (r : Running) (s : State) :
    (s.startProgram cold org r).prg.control = some (org, .run cold) ∧ (s.startProgram cold org r).prg.firstAfterStart = true ∧
    (s.startProgram cold org r).prg.held = [] ∧ (r.hasStart = true → (s.startProgram cold org r).prg.state = .starting) ∧
    (r.hasStart = false → (s.startProgram cold org r).prg.state = .isochronous ∧
      (s.startProgram cold org r).prg.isoLeft = some s.prg.param.isoStart ∧ (s.startProgram cold org r).prg.isoStartup = true) := by
  unfold State.startProgram
  extract_lets fromBoundary bank src now lost data init info s1 s2 s3 s4 s5
  have hs1 : s1.prg = s.prg := by
    unfold s1
    split
    · rw [State.postEvent_prg, State.record_prg]
      rfl
    · rfl
  have hs4 : s5.prg = s4.prg := State.settleHealth_prg _
  have hparam : s4.prg.param = s.prg.param := by
    change s1.prg.param = s.prg.param
    rw [hs1]
  split
  · rename_i hstart
    rw [hs4]
    exact ⟨rfl, rfl, rfl, fun _ => rfl, fun hnone => absurd (hstart.symm.trans hnone) (by decide)⟩
  · rename_i hstart
    simp only [State.updPrg_prg, hs4, hparam]
    exact ⟨rfl, rfl, rfl, fun hsome => absurd hsome hstart, fun _ => ⟨trivial, trivial, trivial⟩⟩

theorem run_starts (t : Ns) (org : Origin) (o : Bytes) (r : Running) (s : State)
    (hadmits : (s.begin t).Admits org opProgramControl [.prg]) (hformat : controlFormat 1 o = true) (hheld : s.programHeld = false)
    (hrole : s.runsPrograms = true) (hrest : s.prg.state = .stopped ∨ s.prg.state = .halted) (hprg : s.mod.prgFailed = false)
    (hmod : s.mod.failAt = none) (hr : s.prg.running = some r) : Completes (.run t org o) s fun u =>
      u.prg.control = some (org, .run (rdBits o 1 0 0 == 1)) ∧ u.prg.firstAfterStart = true ∧ u.prg.held = [] ∧
      (r.hasStart = true → u.prg.state = .starting) ∧
      (r.hasStart = false → u.prg.state = .isochronous ∧ u.prg.isoLeft = some s.prg.param.isoStart ∧ u.prg.isoStartup = true) := by
  have hwrong : (!(s.prg.state == .stopped || s.prg.state == .halted) || s.mod.prgFailed || s.mod.failAt.isSome) = false := by
    rw [hprg, hmod]
    rcases hrest with h | h <;> rw [h] <;> rfl
  have hcontrol := State.controlCheck_passes (s := s.begin t) hheld hrole hwrong
  have hrun : exec (.run t org o) s = .next ((s.begin t).startProgram (rdBits o 1 0 0 == 1) org r) := by
    rw [exec_run, execRun, serve_next hadmits (badField_not hformat)]
    · simp only [State.begin_prg, hr]
    · simp only [State.begin_prg, State.begin_mod, hcontrol, hr]
      rfl
  exact ⟨_, hrun, State.startProgram_prg _ org r (s.begin t)⟩

theorem startFinished_cycles (t : Ns) (acts : List PrgAct) (writes : List PrgWrite) (s : State) (hstate : s.prg.state = .starting)
    (hinside : Inside s acts) : Completes (.startFinished t acts writes) s fun u =>
      u.prg.state = .isochronous ∧ u.prg.isoLeft = some s.prg.param.isoStart ∧ u.prg.isoStartup = true ∧
      u.prg.held = s.prg.held ++ writes := by
  obtain ⟨d, hd⟩ := State.runActs_inside (s := s.begin t) (l := acts) hinside (s.begin t).prgClock
  refine ⟨((s.begin t).updPrg fun p => { p with data := d }).updPrg fun p => { p with
    state := .isochronous, isoLeft := some p.param.isoStart, isoStartup := true, held := p.held ++ writes }, ?_, rfl, rfl, rfl, rfl⟩
  rw [exec_startFinished]
  simp only [execStartFinished, State.begin_prg, hstate, hd]
  rfl

/-! ### STOP, ISO_ENTER and ISO_LEAVE (R151, R155, R161) -/

theorem stop_stops (t : Ns) (org : Origin) (o : Bytes) (s : State) (hadmits : (s.begin t).Admits org opProgramControl [.prg])
    (hformat : controlFormat 2 o = true) (hheld : s.programHeld = false) (hrole : s.runsPrograms = true)
    (hruns : s.prg.state ≠ .stopped) : Completes (.stop t org o) s fun u =>
      (s.prg.inMain = true ∨ s.prg.state = .switching → u.prg.stopReq = true ∧ u.prg.control = some (org, .stop)) ∧
      (s.prg.inMain = false → s.prg.state ≠ .switching → s.stores[(1 : Fin 2)].heldBack = true →
        u.prg.state = .stopped ∧ u.prg.pstop = true ∧ u.prg.control = none) ∧
      (s.prg.inMain = false → s.prg.state ≠ .switching → s.stores[(1 : Fin 2)].heldBack = false → s.prg.running.isSome = true →
        s.savePages.length ≤ 255 → u.prg.stopReq = true ∧ u.prg.control = some (org, .stop)) := by
  let a := (s.begin t).updPrg fun p => { p with control := some (org, .stop) }
  have hcheck : (s.begin t).controlCheck (s.prg.state == .stopped) = none :=
    State.controlCheck_passes hheld hrole (beq_false_of_ne hruns)
  have hrun : exec (.stop t org o) s = .next (if a.prg.inMain || a.prg.state == .switching then
      a.updPrg fun p => { p with stopReq := true } else a.beginStop) := by
    rw [exec_stop, execStop]
    exact serve_next hadmits (badField_not hformat) hcheck
  by_cases hbusy : s.prg.inMain = true ∨ s.prg.state = .switching
  · have hcond : (s.prg.inMain || s.prg.state == .switching) = true := by simpa using hbusy
    have hnot : s.prg.inMain = false → s.prg.state ≠ .switching → False := fun hmain hswitch =>
      hbusy.elim (fun h => Bool.false_ne_true (hmain.symm.trans h)) hswitch
    exact ⟨_, hrun.trans (congrArg _ (if_pos hcond)), fun _ => ⟨rfl, rfl⟩, fun hmain hswitch => (hnot hmain hswitch).elim,
      fun hmain hswitch => (hnot hmain hswitch).elim⟩
  · have hcond : ¬ (s.prg.inMain || s.prg.state == .switching) = true := by simpa using hbusy
    refine ⟨_, hrun.trans (congrArg _ (if_neg hcond)), fun h => absurd h hbusy, fun _ _ hback => ?_, fun _ _ hfree hloaded hpages => ?_⟩
    · obtain ⟨_, _, hdone⟩ := State.beginStop_heldBack (s := a) hback
      rw [hdone]
      exact ⟨rfl, rfl, rfl⟩
    · have hsaves := State.beginStop_saves (s := a) hfree hloaded hpages
      rw [hsaves]
      exact ⟨rfl, rfl⟩

theorem isoEnter_waits (t : Ns) (org : Origin) (o : Bytes) (s : State) (hadmits : (s.begin t).Admits org opProgramControl [.prg])
    (hformat : controlFormat 3 o = true) (hheld : s.programHeld = false) (hrole : s.runsPrograms = true)
    (hactive : s.prg.active = true) : Completes (.isoEnter t org o) s fun u =>
      u.prg = { s.prg with control := some (org, .isoEnter (rd o 2 2)) } := by
  have hcheck : (s.begin t).controlCheck (!s.prg.active) = none := State.controlCheck_passes hheld hrole (by rw [hactive]; rfl)
  exact ⟨_, (exec_isoEnter t org o s).trans (serve_next hadmits (badField_not hformat) hcheck), rfl⟩

theorem isoLeave_waits (t : Ns) (org : Origin) (o : Bytes) (s : State) (hadmits : (s.begin t).Admits org opProgramControl [.prg])
    (hformat : controlFormat 4 o = true) (hheld : s.programHeld = false) (hrole : s.runsPrograms = true)
    (hactive : s.prg.active = true) (hstartup : s.prg.isoStartup = false) : Completes (.isoLeave t org o) s fun u =>
      u.prg = { s.prg with control := some (org, .isoLeave) } := by
  have hcheck : (s.begin t).controlCheck (!s.prg.active || s.prg.isoStartup) = none :=
    State.controlCheck_passes hheld hrole (by rw [hactive, hstartup]; rfl)
  exact ⟨_, (exec_isoLeave t org o s).trans (serve_next hadmits (badField_not hformat) hcheck), rfl⟩

/-! ### PROGRAM_PARAM and VAR_WRITE (R160, R162) -/

/-- Whether a cycle comes at which what waits takes effect. -/
theorem Program.rests {p : Program} (h : p.state = .stopped ∨ p.state = .halted) : ¬ (p.active || p.state == .starting) = true := by
  unfold Program.active
  rcases h with h | h <;> rw [h] <;> decide

theorem programParam_takes (t : Ns) (org : Origin) (o : Bytes) (s : State) (hadmits : (s.begin t).Admits org opProgramParam [.prg])
    (hformat : paramFormat o = true) (hheld : s.programHeld = false)
    (hroom : s.storeOverflow (BitVec.ofNat 16 opProgramParam) 0 o = false) : Completes (.programParam t org o) s fun u =>
      (s.prg.state = .stopped ∨ s.prg.state = .halted → u.prg.param = paramOf o ∧ u.prg.paramPending = none) ∧
      (s.prg.active = true → u.prg.paramPending = some (org, paramOf o) ∧ u.prg.param = s.prg.param) := by
  let a := ((s.begin t).updPrg fun p => { p with paramPending := some (org, paramOf o) }).storeObject
    (BitVec.ofNat 16 opProgramParam) 0 (some o)
  have ha : a.prg = { s.prg with paramPending := some (org, paramOf o) } := State.storeObject_prg _ _ _ _
  have hcheck : firstOf [fails (s.begin t).programHeld .busy,
      fails ((s.begin t).storeOverflow (BitVec.ofNat 16 opProgramParam) 0 o) .capacity] = none := by
    rw [State.begin_programHeld, State.begin_storeOverflow, hheld, hroom]
    rfl
  have hrun : exec (.programParam t org o) s = .next (if a.prg.active || a.prg.state == .starting then a else a.takeParam) := by
    rw [exec_programParam, execProgramParam]
    exact serve_next hadmits (badField_not hformat) hcheck
  by_cases hcycles : (a.prg.active || a.prg.state == .starting) = true
  · refine ⟨_, hrun.trans (congrArg _ (if_pos hcycles)), fun hrest => ?_, fun _ => ?_⟩
    · rw [ha] at hcycles
      exact absurd hcycles (Program.rests hrest)
    · rw [ha]
      exact ⟨rfl, rfl⟩
  · refine ⟨_, hrun.trans (congrArg _ (if_neg hcycles)), fun _ => ?_, fun hactive => ?_⟩
    · rw [State.takeParam_prg, ha]
      exact ⟨rfl, rfl⟩
    · rw [ha] at hcycles
      exact absurd (Bool.or_eq_true_iff.mpr (.inl hactive)) hcycles

theorem varWrite_writes (t : Ns) (org : Origin) (o : Bytes) (e : KeyEntry) (s : State)
    (hadmits : (s.begin t).Admits org opVarWrite [.prg]) (hzero : zeroAt o 14 2 = true) (hlen : 1 ≤ rd o 12 2 ∧ rd o 12 2 ≤ 4096)
    (hobj : o.length = 16 + rd o 12 2) (he : (s.prg.running.bind fun r => r.find (BitVec.ofNat 64 (rd o 0 8))) = some e)
    (hsig : e.typeSig = BitVec.ofNat 32 (rd o 8 4)) (hsize : e.size = rd o 12 2) (hwritable : e.noExternalWrite = false) :
    Completes (.varWrite t org o) s fun u =>
      (s.prg.active = true ∨ s.prg.state = .starting → u.prg.varWrites.length = s.prg.varWrites.length + 1 ∧ u.prg.data = s.prg.data) ∧
      (s.prg.state = .stopped ∨ s.prg.state = .halted →
        u.prg.data.mem = Memory.writeAll s.prg.data.mem e.addr (o.drop 16) ∧ u.prg.data.insts = s.prg.data.insts) := by
  let w : VarWrite := { org := org, key := BitVec.ofNat 64 (rd o 0 8), typeSig := BitVec.ofNat 32 (rd o 8 4), data := o.drop 16 }
  have hdata : w.data.length = rd o 12 2 := by
    change (o.drop 16).length = _
    rw [List.length_drop, hobj, Nat.add_sub_cancel_left]
  have hformat : badField (!zeroAt o 14 2 || decide (rd o 12 2 < 1) || decide (4096 < rd o 12 2) || o.length != 16 + rd o 12 2) =
      none := by
    rw [hzero, decide_eq_false hlen.1.not_gt, decide_eq_false hlen.2.not_gt, hobj, bne_self_eq_false]
    rfl
  have hcheck : (s.begin t).varOutcome w.key w.typeSig (rd o 12 2) = none := by
    have hmatch : ¬ (e.typeSig ≠ w.typeSig ∨ e.size ≠ rd o 12 2) := not_or.mpr ⟨not_not.mpr hsig, not_not.mpr hsize⟩
    simp only [State.varOutcome, State.begin_prg, w, he, hwritable]
    exact if_neg hmatch
  have hrun : exec (.varWrite t org o) s = .next (if s.prg.active || s.prg.state == .starting then
      (s.begin t).updPrg fun p => { p with varWrites := p.varWrites ++ [w] } else (s.begin t).applyVar true w) := by
    rw [exec_varWrite, execVarWrite]
    exact serve_next hadmits hformat hcheck
  by_cases hcycles : (s.prg.active || s.prg.state == .starting) = true
  · refine ⟨_, hrun.trans (congrArg _ (if_pos hcycles)), fun _ => ⟨List.length_append, rfl⟩, fun hrest => ?_⟩
    exact absurd hcycles (Program.rests hrest)
  · refine ⟨_, hrun.trans (congrArg _ (if_neg hcycles)), fun hruns => ?_, fun _ => ?_⟩
    · exact absurd (by simpa using hruns) hcycles
    · rw [State.applyVar_eq (hdata ▸ hcheck) he]
      exact ⟨rfl, rfl⟩

/-- Settles O12: each command that is admitted runs its work, which takes effect at once where no cycle comes and waits otherwise. -/
theorem programControl : Obligations.ProgramControl := by
  unfold Obligations.ProgramControl
  exact ⟨run_starts, startFinished_cycles, stop_stops, isoEnter_waits, isoLeave_waits, programParam_takes, varWrite_writes⟩

end Sys2Proof.Machine
end

section
/-! The main cycle (obligation ProgramCycle): what leaves the barrier of a pair alone, the beginning of a cycle, its output write, and
the commands beside it. -/

namespace Sys2Proof.Machine

/-! ### Operations that leave the barrier alone (R364) -/

/-- From `s` to `t` the module is in step as before, the barrier stands as it was, and what was sent stays in front. -/
structure KeepsBarrier (s t : State) : Prop where
  barrier : t.pair.barrier = s.pair.barrier
  member : t.pair.state = s.pair.state
  regs : t.regs = s.regs
  sends : Sends s t

namespace KeepsBarrier
variable {s t u : State}

theorem refl (s : State) : KeepsBarrier s s := ⟨rfl, rfl, rfl, .refl s⟩

theorem trans (h : KeepsBarrier s t) (k : KeepsBarrier t u) : KeepsBarrier s u :=
  ⟨k.barrier.trans h.barrier, k.member.trans h.member, k.regs.trans h.regs, h.sends.trans k.sends⟩

theorem ite {c : Prop} [Decidable c] (h : KeepsBarrier s t) (k : KeepsBarrier s u) : KeepsBarrier s (if c then t else u) := by
  split
  · exact h
  · exact k

theorem foldl {α : Type} {f : State → α → State} (h : ∀ s x, KeepsBarrier s (f s x)) (l : List α) (s : State) :
    KeepsBarrier s (l.foldl f s) :=
  List.foldlRecOn (motive := KeepsBarrier s) l f (refl s) fun u hu x _ => hu.trans (h u x)

/-- An operation outside pair and registers that sends behind what was sent. -/
theorem of_keep {m : Nat} (k : Keep m s t) (hpair : m.testBit Aspect.pair.bit = false) (hregs : m.testBit Aspect.regs.bit = false)
    (hsends : Sends s t) : KeepsBarrier s t := by
  have hp : t.pair = s.pair := k.same .pair hpair
  exact ⟨by rw [hp], by rw [hp], k.same .regs hregs, hsends⟩

theorem inStep (h : KeepsBarrier s t) : t.inStep = s.inStep := by
  simp only [State.inStep, State.isPair, State.role, h.regs, h.member, h.barrier]

theorem clock (h : KeepsBarrier s t) : t.clock = s.clock := h.sends.clock

end KeepsBarrier

section
variable (s : State)

theorem State.updPrg_barrier (f : Program → Program) : KeepsBarrier s (s.updPrg f) := ⟨rfl, rfl, rfl, .of_eq rfl rfl rfl⟩
theorem State.updXch_barrier (f : Exchange → Exchange) : KeepsBarrier s (s.updXch f) := ⟨rfl, rfl, rfl, .of_eq rfl rfl rfl⟩
theorem State.updRing_barrier (f : Ring → Ring) : KeepsBarrier s (s.updRing f) := ⟨rfl, rfl, rfl, .of_eq rfl rfl rfl⟩
theorem State.updStore_barrier (i : Fin 2) (f : Store → Store) : KeepsBarrier s (s.updStore i f) :=
  ⟨rfl, rfl, rfl, .of_eq rfl rfl rfl⟩

theorem State.record_barrier (src : Isl) (kind : RecKind) (items : List Int) : KeepsBarrier s (s.record src kind items) :=
  .of_keep (State.record_keep src kind items s) (by decide) (by decide) (s.record_sends src kind items)

theorem State.postEvent_barrier (type : BitVec 16) (inst : Nat) (data : Bytes) : KeepsBarrier s (s.postEvent type inst data) :=
  .of_keep (State.postEvent_keep type inst data s) (by decide) (by decide) (s.postEvent_sends type inst data)

theorem State.settleHealth_barrier : KeepsBarrier s s.settleHealth :=
  .of_keep (State.settleHealth_keep s) (by decide) (by decide) s.settleHealth_sends

theorem State.forwardDone_barrier (org : Origin) (id : Nat) (o : Outcome) : KeepsBarrier s (s.forwardDone org id o) := by
  refine ⟨?_, ?_, (State.forwardDone_keep org id o s).same .regs (by decide), s.forwardDone_sends org id o⟩ <;>
  · unfold State.forwardDone
    split
    · rfl
    · split <;> rfl

/-- A completion changes at most the forwarded writes of the pair. -/
theorem State.complete_barrier (org : Origin) (o : Outcome) : KeepsBarrier s (s.complete org o) := by
  cases org with
  | host id => exact s.forwardDone_barrier _ id o
  | tunnel src tid => exact .of_keep (State.tunnelRespond_keep src tid o s) (by decide) (by decide) (s.tunnelRespond_sends src tid o)
  | partner k =>
    have hsends := s.complete_sends (.partner k) o
    rw [State.complete] at hsends ⊢
    exact ⟨rfl, rfl, rfl, hsends⟩
  | self => exact .refl s

/-! ### Saves, stops and the end of a cycle leave it alone -/

theorem State.budgetCheck_barrier (causes : List SaveCause) : KeepsBarrier s (s.budgetCheck causes) := by
  unfold State.budgetCheck
  extract_lets past
  refine .ite ?_ (.ite ?_ (.refl s))
  · exact ((s.updStore_barrier 1 _).trans (State.postEvent_barrier _ _ _ _)).trans (State.settleHealth_barrier _)
  · exact (((s.updStore_barrier 1 _).trans (State.record_barrier _ _ _ _)).trans (State.postEvent_barrier _ _ _ _)).trans
      (State.settleHealth_barrier _)

theorem State.startSave_barrier (st : Fin 2) (causes : List SaveCause) (orgs : List Origin) :
    KeepsBarrier s (s.startSave st causes orgs).1 := by
  unfold State.startSave
  extract_lets a b
  have ha : KeepsBarrier s a := .ite (s.budgetCheck_barrier causes) (.refl s)
  split
  · have hb : KeepsBarrier s b := ha.trans (a.updStore_barrier 1 _)
    exact ((hb.trans (State.record_barrier _ _ _ _)).trans (State.postEvent_barrier _ _ _ _)).trans
      (.foldl (fun u org => u.complete_barrier org _) orgs _)
  · dsimp only
    exact ha.trans (a.updStore_barrier st _)

theorem State.requestSave_barrier (st : Fin 2) (cause : SaveCause) (org : Option Origin) :
    KeepsBarrier s (s.requestSave st cause org).1 := by
  unfold State.requestSave
  split
  · exact .refl s
  · split
    · dsimp only
      exact s.updStore_barrier st _
    · exact s.startSave_barrier st _ _

theorem State.takeParam_barrier : KeepsBarrier s s.takeParam := by
  unfold State.takeParam
  split
  · exact .refl s
  · exact (s.updPrg_barrier _).trans (State.complete_barrier _ _ _)

theorem State.applyVar_barrier (rest : Bool) (w : VarWrite) : KeepsBarrier s (s.applyVar rest w) := by
  unfold State.applyVar
  split
  · exact s.complete_barrier _ _
  · split
    · exact .refl s
    · dsimp only
      exact ((s.updPrg_barrier _).trans (.ite (State.updPrg_barrier _ _) (.refl _))).trans (State.complete_barrier _ _ _)

theorem State.applyVars_barrier (rest : Bool) : KeepsBarrier s (s.applyVars rest) :=
  (s.updPrg_barrier fun p => { p with varWrites := [] }).trans (.foldl (fun u w => u.applyVar_barrier rest w) s.prg.varWrites _)

theorem State.stopValues_barrier : KeepsBarrier s s.stopValues := by
  unfold State.stopValues
  refine KeepsBarrier.trans ?_ (State.updPrg_barrier _ _)
  refine .foldl (fun u i => .ite ?_ (.refl u)) _ s
  exact ⟨rfl, rfl, rfl, .of_eq rfl rfl rfl⟩

theorem State.finishStop_barrier (o : Outcome) : KeepsBarrier s (s.finishStop o) := by
  have hvars := (((s.updPrg_barrier fun p => { (p.rest .stopped) with stopReq := false, control := none }).trans
    (State.stopValues_barrier _)).trans (State.takeParam_barrier _)).trans (State.applyVars_barrier _ true)
  unfold State.finishStop
  dsimp only
  split
  · exact hvars.trans (State.complete_barrier _ _ _)
  · exact hvars.trans (State.complete_barrier _ _ _)
  · exact hvars

theorem State.beginStop_barrier : KeepsBarrier s s.beginStop := by
  unfold State.beginStop
  extract_lets a
  have ha : KeepsBarrier s a := s.updPrg_barrier _
  have hsave := ha.trans (a.requestSave_barrier 1 .stop none)
  refine .ite (ha.trans (a.finishStop_barrier .done)) ?_
  dsimp only
  exact .ite hsave (hsave.trans (State.finishStop_barrier _ _))

theorem State.countUndelivered_barrier : KeepsBarrier s s.countUndelivered := by
  unfold State.countUndelivered
  exact (s.updRing_barrier _).trans (State.updPrg_barrier _ _)

theorem State.countOverrun_barrier : KeepsBarrier s s.countOverrun := by
  unfold State.countOverrun
  split
  · exact .ite (s.updPrg_barrier _) (.refl s)
  · exact .refl s

theorem State.markBoundary_barrier : KeepsBarrier s s.markBoundary := by
  unfold State.markBoundary
  split
  · exact .refl s
  · exact s.updPrg_barrier _

theorem State.switchDone_barrier : KeepsBarrier s s.switchDone := by
  unfold State.switchDone
  split
  · refine .ite ?_ (.refl s)
    dsimp only
    exact (((s.updXch_barrier _).trans (State.record_barrier _ _ _ _)).trans (State.complete_barrier _ _ _)).trans
      (State.requestSave_barrier _ _ _ _)
  · exact .refl s

theorem State.startSwitch_barrier : KeepsBarrier s s.startSwitch := by
  unfold State.startSwitch
  split
  · exact .ite (s.updXch_barrier _) (.refl s)
  · exact .refl s
end

/-! ### The beginning of a cycle (R131, R135, R152, R158, R160 to R162) -/

/-- A cycle may begin in a program that cycles and that no STOP waits for. -/
theorem State.mayBegin_runs {s : State} (h : s.mayBegin = true) :
    (s.prg.state = .isochronous ∨ s.prg.state = .running) ∧ s.prg.stopReq = false := by
  simp only [State.mayBegin, Bool.and_eq_true, Bool.or_eq_true, beq_iff_eq, Bool.not_eq_true'] at h
  obtain ⟨⟨⟨⟨⟨⟨⟨hstate, -⟩, -⟩, hstop⟩, -⟩, -⟩, -⟩, -⟩ := h
  exact ⟨hstate, hstop⟩

/-- From `p` to `q` a cycle begins: the program cycles on in one of its modes, and no parameters wait. -/
structure Program.Begins (p q : Program) : Prop where
  state : q.state = .isochronous ∨ q.state = .running
  stopReq : q.stopReq = p.stopReq
  paramPending : q.paramPending = none
  cycleNumber : q.cycleNumber = p.cycleNumber
  longHeld : q.longHeld = p.longHeld
  running : q.running = p.running

theorem State.atBeginning_begins {s : State} (h : s.prg.state = .isochronous ∨ s.prg.state = .running) :
    s.prg.Begins s.atBeginning.prg := by
  unfold State.atBeginning
  extract_lets a b
  have ha : (a.prg.state = .isochronous ∨ a.prg.state = .running) ∧ a.prg.stopReq = s.prg.stopReq ∧
      a.prg.cycleNumber = s.prg.cycleNumber ∧ a.prg.longHeld = s.prg.longHeld ∧ a.prg.running = s.prg.running := by
    unfold a
    split
    · rw [State.complete_prg]
      exact ⟨.inl rfl, rfl, rfl, rfl, rfl⟩
    · rw [State.complete_prg]
      exact ⟨.inr rfl, rfl, rfl, rfl, rfl⟩
    · exact ⟨h, rfl, rfl, rfl, rfl⟩
  obtain ⟨hstate, hstop, hnumber, hlong, hrunning⟩ := ha
  rw [State.takeParam_prg]
  unfold b
  split
  · exact ⟨.inr rfl, hstop, rfl, hnumber, hlong, hrunning⟩
  · exact ⟨hstate, hstop, rfl, hnumber, hlong, hrunning⟩

theorem State.atBeginning_barrier (s : State) : KeepsBarrier s s.atBeginning := by
  unfold State.atBeginning
  extract_lets a b
  have ha : KeepsBarrier s a := by
    unfold a
    split
    · exact (s.updPrg_barrier _).trans (State.complete_barrier _ _ _)
    · exact (s.updPrg_barrier _).trans (State.complete_barrier _ _ _)
    · exact .refl s
  exact (ha.trans (.ite (a.updPrg_barrier _) (.refl a))).trans (State.takeParam_barrier b)

/-- Whether STATION_FAULT runs before the input read. -/
def Program.faultsDue (p : Program) : Bool := (p.running.map Running.hasStationFault).getD false && !p.downQueue.isEmpty

/-- What comes before the input read: STATION_FAULT, which begins the cycle where it runs, and the writes that wait. -/
structure Program.Read (clock : Ns) (p q : Program) : Prop where
  varWrites : q.varWrites = []
  paramPending : q.paramPending = p.paramPending
  cycleNumber : q.cycleNumber = p.cycleNumber
  running : q.running = p.running
  cycleBegin : p.faultsDue = true → q.cycleBegin = clock

theorem State.beforeRead_inside {faultActs : List (List PrgAct)} {s : State} (h : ∀ l ∈ faultActs, Inside s l) (now : Int) :
    ∃ u, s.beforeRead now faultActs = (u, true) ∧ KeepsBarrier s u ∧ s.prg.Read s.clock u.prg := by
  unfold State.beforeRead
  extract_lets hasTask l a
  obtain ⟨d, hd⟩ := State.runFaults_inside now l (s := a) h
  let b := a.updPrg fun p => { p with data := d }
  rw [hd]
  refine ⟨b.applyVars false, rfl, ((s.updPrg_barrier _).trans (a.updPrg_barrier _)).trans (b.applyVars_barrier false), ?_⟩
  obtain ⟨_, _, hvars⟩ := b.applyVars_dataOnly false
  rw [hvars]
  refine ⟨rfl, rfl, rfl, rfl, fun hdue => ?_⟩
  obtain ⟨htask, hdown⟩ := Bool.and_eq_true_iff.mp hdue
  have hl : ¬ l.isEmpty = true := by
    rw [show l = s.prg.downQueue from if_pos htask]
    simpa using hdown
  exact if_neg hl

/-! ### The input read (R136 to R138, R461) -/

theorem State.updBox_sends (n : Fin 32) (f : Mailbox → Mailbox) (s : State) : Sends s (s.updBox n f) := .of_eq rfl rfl rfl

theorem State.hubTake_sends (n : Fin 32) (s : State) : Sends s (s.hubTake n) := by
  have htaken : ∀ (stamp : Int) (u : State), Sends u (u.takenBy n stamp) := by
    intro stamp u
    have hlate : Sends u (u.ackExpires n) := by
      unfold State.ackExpires
      exact (State.updBox_sends n _ u).trans (State.record_sends _ _ _ _)
    unfold State.takenBy
    extract_lets late a
    have ha : Sends u a := .ite hlate (.refl u)
    exact ha.trans (.of_eq rfl rfl rfl)
  unfold State.hubTake
  dsimp only
  exact .ite (.ite ((htaken _ s).trans (.of_eq rfl rfl rfl)) (htaken _ s)) (.refl s)

theorem State.takeMessages_clock (s : State) : s.takeMessages.2.clock = s.clock :=
  (Sends.foldl (fun u n => u.hubTake_sends n) _ s).clock

/-- The cycle proper: MAIN runs, and the cycle begins at this instant unless it has begun. -/
structure Program.Enters (clock : Ns) (began : Bool) (p q : Program) : Prop where
  inMain : q.inMain = true
  cycleNumber : q.cycleNumber = p.cycleNumber + 1
  varWrites : q.varWrites = p.varWrites
  paramPending : q.paramPending = p.paramPending
  cycleBegin : q.cycleBegin = if began then p.cycleBegin else clock

theorem State.enterMain_inside {acts : List PrgAct} {s : State} (h : Inside s acts) (began iso : Bool) (now : Int) :
    s.prg.Enters s.clock began (s.enterMain began iso now acts).prg := by
  unfold State.enterMain
  have hprg := s.takeMessages_prg
  have hclock := s.takeMessages_clock
  split
  rename_i msgs a htake
  rw [htake] at hprg hclock
  extract_lets snap wasIso b c
  have hc : ∃ skipped left overrun, c.prg = { b.prg with isoSkipped := skipped, isoLeft := left, firstOverrun := overrun } := by
    unfold c
    split
    · exact ⟨_, _, _, rfl⟩
    · exact ⟨b.prg.isoSkipped, b.prg.isoLeft, b.prg.firstOverrun, rfl⟩
  obtain ⟨_, _, _, hc⟩ := hc
  have hinside : Inside (c.updPrg fun p => { p with lastReadBus := some snap.busCycle }) acts := fun r hr =>
    h r (by rw [← hr, State.updPrg_prg, hc, ← hprg]; rfl)
  obtain ⟨d, hd⟩ := State.runActs_inside hinside now
  rw [hd, ← hprg, ← hclock]
  simp only [State.updPrg_prg, hc]
  exact ⟨rfl, rfl, rfl, rfl, rfl⟩

/-! ### MAIN_CYCLE_START outside a pair (R131, R135) -/

/-- The beginning of a cycle outside a pair whose acts before the input read raise no trap. -/
theorem exec_mainCycleStart_alone (t : Ns) {faultActs : List (List PrgAct)} (acts : List PrgAct) {s a b u : State}
    (ha : a = (s.begin t).atBeginning) (hb : b = a.updPrg fun p => { p with longHeld := [] }) (halone : s.inStep = false)
    (hmay : (s.begin t).mayBegin = true) (hstop : b.prg.stopReq = false) (hactive : b.prg.active = true)
    (hlong : a.prg.longHeld = []) (hread : b.beforeRead (a.snapNow a.prg.isoNow a.snapBus) faultActs = (u, true))
    (hu : u.inStep = false) : exec (.mainCycleStart t faultActs acts) s =
      .next (u.enterMain a.prg.faultsDue a.prg.isoNow (a.snapNow a.prg.isoNow a.snapBus) acts) := by
  have halone' : (s.begin t).inStep = false := halone
  have hneeds : (s.begin t).needsBarrier = false := by simp only [State.needsBarrier, halone', Bool.false_and]
  have hopen : (s.begin t).barrierOpen = true := by simp only [State.barrierOpen, halone', Bool.not_false, Bool.true_or]
  rw [exec_mainCycleStart]
  simp only [execMainCycleStart, halone', hmay, hneeds, hopen, Bool.false_and, Bool.not_false, Bool.not_true, Bool.false_eq_true,
    Bool.and_true, Bool.or_false, if_false, if_true, ← ha, hlong, State.longActs, ← hb, hstop, hactive, hread, hu]
  rfl

/-- Outside a pair the beginning of a cycle enters MAIN. -/
theorem mainCycleStart_enters (t : Ns) (faultActs : List (List PrgAct)) (acts : List PrgAct) (s : State) (halone : s.inStep = false)
    (hmay : (s.begin t).mayBegin = true) (hfaults : ∀ l ∈ faultActs, Inside s l) (hacts : Inside s acts)
    (hlong : s.prg.longHeld = []) : Completes (.mainCycleStart t faultActs acts) s fun u =>
      u.prg.inMain = true ∧ u.prg.cycleNumber = s.prg.cycleNumber + 1 ∧ u.prg.varWrites = [] ∧ u.prg.paramPending = none ∧
      u.prg.cycleBegin = max s.clock t := by
  obtain ⟨hstate, hstop⟩ := State.mayBegin_runs hmay
  let a := (s.begin t).atBeginning
  have hbegins : s.prg.Begins a.prg := State.atBeginning_begins hstate
  have hbarrier : KeepsBarrier (s.begin t) a := State.atBeginning_barrier _
  have hinside : ∀ {l : List PrgAct} {u : State}, u.prg.running = s.prg.running → Inside s l → Inside u l := fun hr h r hu =>
    h r (hr.symm.trans hu)
  have hactive : a.prg.active = true := by
    rcases hbegins.state with h | h <;> simp [Program.active, h]
  obtain ⟨u, hread, hu, hwaits⟩ := State.beforeRead_inside (s := a.updPrg fun p => { p with longHeld := [] })
    (fun l hl => hinside hbegins.running (hfaults l hl)) (a.snapNow a.prg.isoNow a.snapBus)
  have hkept : KeepsBarrier (s.begin t) u := (hbarrier.trans (a.updPrg_barrier _)).trans hu
  have henters := State.enterMain_inside (hinside (hwaits.running.trans hbegins.running) hacts) a.prg.faultsDue a.prg.isoNow
    (a.snapNow a.prg.isoNow a.snapBus)
  refine ⟨_, exec_mainCycleStart_alone t acts rfl rfl halone hmay (hbegins.stopReq.trans hstop) hactive
    (hbegins.longHeld.trans hlong) hread (hkept.inStep.trans halone), henters.inMain, ?_, ?_, ?_, ?_⟩
  · rw [henters.cycleNumber, hwaits.cycleNumber]
    exact congrArg (· + 1) hbegins.cycleNumber
  · rw [henters.varWrites, hwaits.varWrites]
  · rw [henters.paramPending, hwaits.paramPending]
    exact hbegins.paramPending
  · rw [henters.cycleBegin]
    split
    · next hbegan => exact (hwaits.cycleBegin hbegan).trans hbarrier.clock
    · exact hkept.clock

/-! ### MAIN_CYCLE_START in step: the barrier message goes first (R364, R366) -/

theorem State.queueEvent_events (trig : Trigger) (e : PrgEvent) (s : State) :
    ∃ l, s.queueEvent trig e = s.updPrg fun p => { p with events := l } := by
  unfold State.queueEvent
  split
  · exact ⟨_, rfl⟩
  · exact ⟨s.prg.events, rfl⟩

/-- The barrier message goes out and stands as the own one; no cycle begins. -/
theorem State.sendBarrier_sent (idle : Bool) (s : State) :
    (s.sendBarrier idle).out = s.out ++ [.barrier (s.barrierMsg idle)] ∧
    (s.sendBarrier idle).pair.barrier.own = some (s.prg.cycleNumber + 1, s.now) ∧
    (s.sendBarrier idle).pair.barrier.passed = false ∧
    (s.sendBarrier idle).pair.barrier.partnerMsg = s.pair.barrier.partnerMsg ∧
    (s.sendBarrier idle).prg.cycleNumber = s.prg.cycleNumber := by
  unfold State.sendBarrier
  extract_lets m a b sent c
  have hb : ∃ l, b = a.updPrg fun p => { p with events := l } := by
    refine List.foldlRecOn (motive := fun u : State => ∃ l, u = a.updPrg fun p => { p with events := l }) _ _
      ⟨a.prg.events, rfl⟩ fun u hu e _ => ?_
    obtain ⟨_, rfl⟩ := hu
    split
    · exact State.queueEvent_events _ _ _
    · exact State.queueEvent_events _ _ _
  obtain ⟨_, hb⟩ := hb
  unfold c
  rw [hb]
  exact ⟨rfl, rfl, rfl, rfl, rfl⟩

/-- Without the partner's message there is nothing to meet. -/
theorem State.meetBarrier_waits {s : State} (h : s.pair.barrier.partnerMsg = none) : s.meetBarrier = s := by
  unfold State.meetBarrier
  rw [h]
  split
  · contradiction
  · rfl

/-- In step the module sends its barrier message before the cycle. -/
theorem mainCycleStart_sends (t : Ns) (faultActs : List (List PrgAct)) (acts : List PrgAct) (s : State)
    (hactive : s.prg.active = true) (hmay : (s.begin t).mayBegin = true) (hneeds : s.needsBarrier = true)
    (hnone : s.pair.barrier.partnerMsg = none) : Completes (.mainCycleStart t faultActs acts) s fun u =>
      u.pair.barrier.own = some (s.prg.cycleNumber + 1, (s.begin t).now) ∧ u.pair.barrier.passed = false ∧
      u.out = [.barrier ((s.begin t).barrierMsg false)] ∧ u.prg.cycleNumber = s.prg.cycleNumber := by
  obtain ⟨hout, hown, hpassed, hpartner, hcycle⟩ := State.sendBarrier_sent false (s.begin t)
  have hcycles : (s.begin t).cycling = true := hactive
  have hrun : exec (.mainCycleStart t faultActs acts) s = .next ((s.begin t).sendBarrier false) := by
    rw [exec_mainCycleStart]
    simp only [execMainCycleStart, hcycles, hmay, State.begin_needsBarrier, hneeds, State.meetBarrier_waits (hpartner.trans hnone),
      Bool.not_true, Bool.and_false, Bool.false_eq_true, if_false, if_true]
  exact ⟨_, hrun, hown, hpassed, hout, hcycle⟩

/-! ### OUTPUT_WRITE (R139, R145, R367): the writes leave, then the cycle ends -/

/-- The writes of the cycle go out; in step they wait for release and OUT_DONE is sent. -/
def State.writesOut (writes : List PrgWrite) (s : State) : State :=
  if s.inStep then
    ((s.updPrg fun p => { p with toRelease := p.toRelease ++ (p.held ++ writes) }).updPair fun p => { p with barrier := { p.barrier with
      ownCrc := crc32c ((s.prg.held ++ writes).flatMap writeBytes), ownDone := some (s.prg.cycleNumber, s.now) } }).emit
        (.outDone s.prg.cycleNumber s.now)
  else (s.prg.held ++ writes).foldl State.release s

/-- The cycle is counted and its boundary stands. -/
def State.cycleCounted (s : State) : State :=
  (s.countUndelivered.countOverrun.updPrg (Program.ended s.countUndelivered.countOverrun.clock)).markBoundary

/-- RUN is answered at the end of the first cycle. -/
def State.answerRun (s : State) : State :=
  match s.prg.control with
  | some (org, .run _) => (s.updPrg fun p => { p with control := none }).complete org .done
  | _ => s

/-- The cycle ends; a STOP that waited for it begins, or a switch that is armed. -/
def State.finishCycle (s : State) : State :=
  if s.cycleCounted.switchDone.answerRun.prg.stopReq then s.cycleCounted.switchDone.answerRun.beginStop
  else s.cycleCounted.switchDone.answerRun.startSwitch

theorem exec_outputWrite_main (t : Ns) (writes : List PrgWrite) {s : State} (hmain : s.prg.inMain = true) :
    exec (.outputWrite t writes) s = .next ((s.begin t).writesOut writes).finishCycle := by
  rw [exec_outputWrite, State.finishCycle, apply_ite Host.Outcome.next]
  simp only [execOutputWrite, State.begin_prg, hmain, Bool.not_true, Bool.false_eq_true, if_false]
  rfl

/-- From `p` to `q` the cycle of MAIN ends. -/
structure Program.CycleEnds (p q : Program) : Prop where
  inMain : q.inMain = false
  held : q.held = []
  cycles : q.cycles = p.cycles + 1
  toRelease : q.toRelease = p.toRelease
  boundary : ∀ r, p.running = some r → q.boundary.imageId = r.imageId ∧ q.boundary.cycle = p.cycleNumber

namespace Program.CycleEnds
variable {p q q' : Program}

theorem dataOnly (h : p.CycleEnds q) (k : q.DataOnly q') : p.CycleEnds q' := by
  obtain ⟨_, _, rfl⟩ := k
  exact ⟨h.inMain, h.held, h.cycles, h.toRelease, h.boundary⟩

theorem beginStop {s : State} (h : p.CycleEnds s.prg) : p.CycleEnds s.beginStop.prg := by
  rcases s.beginStop_prg with hsave | hdone
  · rw [hsave]
    exact ⟨rfl, h.held, h.cycles, h.toRelease, h.boundary⟩
  · exact dataOnly (q := s.prg.stopped) ⟨rfl, rfl, h.cycles, h.toRelease, h.boundary⟩ hdone

end Program.CycleEnds

section
variable (s : State)

theorem State.countOverrun_prg : ∃ n f, s.countOverrun.prg = { s.prg with overruns := n, firstOverrun := f } := by
  unfold State.countOverrun
  split
  · split
    · exact ⟨_, _, rfl⟩
    · exact ⟨s.prg.overruns, s.prg.firstOverrun, rfl⟩
  · exact ⟨s.prg.overruns, s.prg.firstOverrun, rfl⟩

theorem State.markBoundary_prg : ∃ b, s.markBoundary.prg = { s.prg with boundary := b } ∧
    ∀ r, s.prg.running = some r → b.imageId = r.imageId ∧ b.cycle = s.prg.cycleNumber := by
  unfold State.markBoundary
  split
  · next hnone => exact ⟨s.prg.boundary, rfl, fun r hr => absurd (hr.symm.trans hnone) (Option.some_ne_none r)⟩
  · next r hr =>
    refine ⟨_, rfl, fun r' hr' => ?_⟩
    obtain rfl : r = r' := Option.some.inj (hr.symm.trans hr')
    exact ⟨rfl, rfl⟩

theorem State.cycleCounted_ends : s.prg.CycleEnds s.cycleCounted.prg := by
  obtain ⟨_, _, hoverrun⟩ := s.countUndelivered.countOverrun_prg
  obtain ⟨_, hboundary, hmarked⟩ := (s.countUndelivered.countOverrun.updPrg
    (Program.ended s.countUndelivered.countOverrun.clock)).markBoundary_prg
  rw [State.updPrg_prg, hoverrun] at hboundary hmarked
  rw [State.cycleCounted, hboundary]
  exact ⟨rfl, rfl, rfl, rfl, hmarked⟩

theorem State.answerRun_ends {p : Program} (h : p.CycleEnds s.prg) : p.CycleEnds s.answerRun.prg := by
  unfold State.answerRun
  split
  · rw [State.complete_prg]
    exact ⟨h.inMain, h.held, h.cycles, h.toRelease, h.boundary⟩
  · exact h

theorem State.finishCycle_ends : s.prg.CycleEnds s.finishCycle.prg := by
  have hanswered : s.prg.CycleEnds s.cycleCounted.switchDone.answerRun.prg :=
    State.answerRun_ends _ (s.cycleCounted.switchDone_prg ▸ s.cycleCounted_ends)
  unfold State.finishCycle
  split
  · exact hanswered.beginStop
  · rw [State.startSwitch_prg]
    exact hanswered

theorem State.finishCycle_barrier : KeepsBarrier s s.finishCycle := by
  have hcounted : KeepsBarrier s s.cycleCounted :=
    ((s.countUndelivered_barrier.trans (State.countOverrun_barrier _)).trans (State.updPrg_barrier _ _)).trans
      (State.markBoundary_barrier _)
  have hanswer : ∀ u : State, KeepsBarrier u u.answerRun := by
    intro u
    unfold State.answerRun
    split
    · exact (u.updPrg_barrier _).trans (State.complete_barrier _ _ _)
    · exact .refl u
  have hanswered := (hcounted.trans (State.switchDone_barrier _)).trans (hanswer _)
  unfold State.finishCycle
  exact .ite (hanswered.trans (State.beginStop_barrier _)) (hanswered.trans (State.startSwitch_barrier _))

theorem State.writesOut_prg (writes : List PrgWrite) :
    ∃ l r, (s.writesOut writes).prg = { s.prg with events := l, toRelease := r } := by
  unfold State.writesOut
  split
  · exact ⟨s.prg.events, _, rfl⟩
  · rw [(Program.Queued.foldl State.release_queued (s.prg.held ++ writes) s).same]
    exact ⟨_, s.prg.toRelease, rfl⟩
end

/-- The output write ends the cycle, counts it and takes the boundary. -/
theorem outputWrite_ends (t : Ns) (writes : List PrgWrite) (s : State) (hmain : s.prg.inMain = true) :
    Completes (.outputWrite t writes) s fun u =>
      u.prg.inMain = false ∧ u.prg.held = [] ∧ u.prg.cycles = s.prg.cycles + 1 ∧
      ∀ r, s.prg.running = some r → u.prg.boundary.imageId = r.imageId ∧ u.prg.boundary.cycle = s.prg.cycleNumber := by
  have hends := ((s.begin t).writesOut writes).finishCycle_ends
  obtain ⟨_, _, hwrites⟩ := (s.begin t).writesOut_prg writes
  obtain ⟨hinMain, hheld, hcycles, -, hboundary⟩ := hwrites ▸ hends
  exact ⟨_, exec_outputWrite_main t writes hmain, hinMain, hheld, hcycles, hboundary⟩

/-- In step the writes wait for release and OUT_DONE goes to the partner. -/
theorem outputWrite_waits (t : Ns) (writes : List PrgWrite) (s : State) (hmain : s.prg.inMain = true) (hstep : s.inStep = true) :
    Completes (.outputWrite t writes) s fun u =>
      u.prg.toRelease = s.prg.toRelease ++ s.prg.held ++ writes ∧
      u.pair.barrier.ownDone = some (s.prg.cycleNumber, (s.begin t).now) ∧ .outDone s.prg.cycleNumber (s.begin t).now ∈ u.out := by
  let a := (s.begin t).writesOut writes
  have ha : a.prg.toRelease = s.prg.toRelease ++ (s.prg.held ++ writes) ∧
      a.pair.barrier.ownDone = some (s.prg.cycleNumber, (s.begin t).now) ∧
      .outDone s.prg.cycleNumber (s.begin t).now ∈ a.out := by
    unfold a State.writesOut
    rw [if_pos (show (s.begin t).inStep = true from hstep)]
    exact ⟨rfl, rfl, List.mem_append_right _ List.mem_cons_self⟩
  obtain ⟨hrelease, hdone, hout⟩ := ha
  have hkept : KeepsBarrier a a.finishCycle := a.finishCycle_barrier
  refine ⟨_, exec_outputWrite_main t writes hmain, ?_, ?_, hkept.sends.out.mem hout⟩
  · rw [a.finishCycle_ends.toRelease, hrelease, List.append_assoc]
  · rw [hkept.barrier, hdone]

/-! ### OUTPUT_RELEASE, CYCLE_SLIP and the retained save at its interval (R140, R146, R154, R156) -/

theorem outputRelease_empties (t : Ns) (s : State) (hwaiting : s.prg.toRelease ≠ []) (hdue : (s.begin t).releaseDue = true) :
    Completes (.outputRelease t) s fun u => u.prg.toRelease = [] := by
  let a := (s.begin t).updPrg fun p => { p with toRelease := [] }
  have hrun : exec (.outputRelease t) s = .next (s.prg.toRelease.foldl State.release a) := by
    rw [exec_outputRelease]
    simp only [execOutputRelease, State.begin_prg, hdue, List.isEmpty_eq_false_iff.mpr hwaiting, Bool.not_true, Bool.or_false,
      Bool.false_eq_true, if_false]
    rfl
  exact ⟨_, hrun, congrArg Program.toRelease (Program.Queued.foldl State.release_queued s.prg.toRelease a).same⟩

theorem State.begin_tBus (t : Ns) (s : State) : (s.begin t).tBus = s.tBus := rfl
theorem State.begin_newestBus (t : Ns) (s : State) : (s.begin t).newestBus = s.newestBus := rfl

theorem cycleSlip_counts (t : Ns) (f : Ns) (s : State) (hfirst : s.prg.firstOverrun = some f) (hiso : s.prg.isoNow = true)
    (hmain : s.prg.inMain = false) (hlate : f + s.prg.param.slipLimit * s.tBus < max s.clock t) :
    Completes (.cycleSlip t) s fun u =>
      u.prg.slips = s.prg.slips + 1 ∧ u.prg.lastReadBus = some s.newestBus ∧ u.prg.firstOverrun = none := by
  let a := (s.begin t).updPrg fun p => { p with lastReadBus := some s.newestBus, firstOverrun := none, slips := p.slips + 1 }
  have hrun : exec (.cycleSlip t) s = .next (a.record .prg .cycleSlip [s.newestBus]) := by
    rw [exec_cycleSlip]
    simp only [execCycleSlip, State.begin_prg, State.begin_clock, State.begin_tBus, State.begin_newestBus, hfirst, hiso, hmain,
      hlate, decide_true, Bool.not_false, Bool.and_true, if_true, a]
  have hprg : (a.record .prg .cycleSlip [s.newestBus]).prg = a.prg := a.record_prg _ _ _
  exact ⟨_, hrun, congrArg Program.slips hprg, congrArg Program.lastReadBus hprg, congrArg Program.firstOverrun hprg⟩

theorem State.begin_saveInterval (t : Ns) (s : State) : (s.begin t).saveInterval = s.saveInterval := rfl

theorem retainedSaveInterval_saves (t : Ns) (s : State) (hactive : s.prg.active = true) (hup : s.up .recorder = true)
    (himage : s.prg.boundary.imageId ≠ []) (hdue : s.prg.lastSaveAt + s.saveInterval * 1000000000 ≤ max s.clock t)
    (hfree : s.stores[(1 : Fin 2)].heldBack = false) : Completes (.retainedSaveInterval t) s fun u =>
      u.prg.lastSaveAt = max s.clock t ∧
      (s.stores[(1 : Fin 2)].running.isSome = true →
        u.stores[(1 : Fin 2)].waiting = s.stores[(1 : Fin 2)].waiting ++ [(.interval, none)]) ∧
      (s.savePages.length ≤ 255 → u.stores[(1 : Fin 2)].running.isSome = true) := by
  let a := (s.begin t).updPrg fun p => { p with lastSaveAt := max s.clock t }
  have hrun : exec (.retainedSaveInterval t) s = .next (a.requestSave 1 .interval none).1 := by
    rw [exec_retainedSaveInterval]
    simp only [execRetainedSaveInterval, State.begin_prg, State.begin_up, State.begin_clock, State.begin_saveInterval, hactive, hup,
      bne_iff_ne.mpr himage, hdue, decide_true, Bool.and_true, if_true, a]
  refine ⟨_, hrun, ?_, fun hruns => ?_, fun hpages => (State.requestSave_runs (s := a) hfree hpages _ _).2⟩
  · rw [State.requestSave_prg]
    rfl
  · unfold State.requestSave
    rw [if_neg (by rw [show a.stores[(1 : Fin 2)].heldBack = false from hfree]; decide), if_pos (show a.stores[(1 : Fin 2)].running.isSome = true from hruns), State.updStore_get,
      if_pos rfl]
    rfl

/-- Settles O10, clause by clause: the beginning of a cycle outside a pair and in step, the output write, the release, the slip and
the save at its interval. -/
theorem programCycle : Obligations.ProgramCycle := by
  unfold Obligations.ProgramCycle
  exact ⟨mainCycleStart_enters, fun t faultActs acts s _ => mainCycleStart_sends t faultActs acts s, outputWrite_ends,
    outputWrite_waits, outputRelease_empties, cycleSlip_counts, retainedSaveInterval_saves⟩

end Sys2Proof.Machine
end

section
/-! Online exchange (obligation OnlineExchange): what an update of a slot and the entry of an image leave, then staging,
verification, the request of a switch, its arming and its two tasks, one lemma per command. -/

namespace Sys2Proof.Machine

/-! ### Slots (R164) -/

theorem Exchange.upd_same (k : Fin 2) (f : Slot → Slot) (x : Exchange) : (x.upd k f).slots[k] = f x.slots[k] :=
  Vector.getElem_set_self (Fin.isLt _)

theorem Exchange.upd_ne {j k : Fin 2} (h : j ≠ k) (f : Slot → Slot) (x : Exchange) : (x.upd k f).slots[j] = x.slots[j] :=
  Vector.getElem_set_ne (Fin.isLt _) (Fin.isLt _) fun e => h (Fin.ext e.symm)

/-- The slot that is entered runs. -/
theorem Exchange.enter_running (k : Fin 2) (x : Exchange) : (x.enter k).slots[k].state = .running := by
  have hother : k ≠ if k = 0 then 1 else 0 := by
    revert k
    decide
  rw [Exchange.enter, Exchange.upd_ne hother, Exchange.upd_same]

section
variable (s : State)

@[simp] theorem State.complete_xch (org : Origin) (o : Outcome) : (s.complete org o).xch = s.xch :=
  (State.complete_keep org o s).same .xch (by decide)
@[simp] theorem State.record_xch (src : Isl) (kind : RecKind) (items : List Int) : (s.record src kind items).xch = s.xch :=
  (State.record_keep src kind items s).same .xch (by decide)
@[simp] theorem State.requestSave_xch (st : Fin 2) (cause : SaveCause) (org : Option Origin) :
    (s.requestSave st cause org).1.xch = s.xch := (State.requestSave_keep st cause org s).same .xch (by decide)
@[simp] theorem State.storeRegister_xch : s.storeRegister.xch = s.xch := (State.storeRegister_keep s).same .xch (by decide)
@[simp] theorem State.storeRegister_prg : s.storeRegister.prg = s.prg := (State.storeRegister_keep s).same .prg (by decide)
@[simp] theorem State.carryDetail_xch (plan : List (BitVec 64 × BitVec 32 × BitVec 32 × Carry)) :
    (s.carryDetail plan).xch = s.xch := (State.carryDetail_keep plan s).same .xch (by decide)
@[simp] theorem State.carryDetail_prg (plan : List (BitVec 64 × BitVec 32 × BitVec 32 × Carry)) :
    (s.carryDetail plan).prg = s.prg := (State.carryDetail_keep plan s).same .prg (by decide)

@[simp] theorem State.begin_verify (t : Ns) (b : Bytes) : (s.begin t).verify b = s.verify b := rfl

/-- An image that is entered runs, from its slot. -/
theorem State.enterImage_runs (k : Fin 2) (src : PrgData) (keep : Bool) :
    (s.enterImage k src keep).clock = s.clock ∧ (s.enterImage k src keep).xch = s.xch.enter k ∧
    (s.enterImage k src keep).prg.running = some (Image.load k s.xch.slots[k].bytes) := by
  unfold State.enterImage
  dsimp only
  split <;> exact ⟨rfl, rfl, rfl⟩

end

/-! ### Staging (R165, R171, R172) -/

/-- A chunk is appended to its slot, and the other slot stands as it is. -/
theorem State.stageChunk_appends (org : Origin) (p data : Bytes) (s : State) :
    (s.stageChunk org p data).xch.slots[s.xch.stagingSlot].bytes =
      (if isFirst p then [] else s.xch.slots[s.xch.stagingSlot].bytes) ++ data ∧
    (s.stageChunk org p data).xch.slots[s.xch.stagingSlot].state = (if isLast p then .verifying else .staging) ∧
    (s.stageChunk org p data).xch.staging.map Staging.nextOffset = some (isOffset p + isLength p) ∧
    ∀ k : Fin 2, k ≠ s.xch.stagingSlot → (s.stageChunk org p data).xch.slots[k] = s.xch.slots[k] := by
  unfold State.stageChunk
  extract_lets k old n a
  have hxch : (if isLast p then a else a.complete org .done).xch = a.xch := by
    split
    · rfl
    · exact State.complete_xch _ _ _
  have hslots : a.xch.slots = (s.xch.upd k fun _ =>
      { state := if isLast p then .verifying else .staging, bytes := old ++ data, failing := 0 }).slots := rfl
  rw [hxch, hslots, Exchange.upd_same]
  exact ⟨rfl, rfl, rfl, fun j hj => Exchange.upd_ne hj _ _⟩

theorem imageStage_appends (t : Ns) (org : Origin) (p data : Bytes) (s : State)
    (hadmits : (s.begin t).Admits org opImageStage [.svc, .recorder]) (hrole : s.runsPrograms = true)
    (hswitch : s.xch.switch = none) (hverify : (s.xch.staging.bind Staging.last) = none)
    (hfirst : ¬(isFirst p = true ∧ s.xch.staging.isSome = true)) (hformat : stageFormat p data = true)
    (horder : s.xch.inOrder p = true) : Completes (.imageStage t org p data) s fun u =>
      u.xch.slots[s.xch.stagingSlot].bytes = (if isFirst p then [] else s.xch.slots[s.xch.stagingSlot].bytes) ++ data ∧
      u.xch.slots[s.xch.stagingSlot].state = (if isLast p then .verifying else .staging) ∧
      u.xch.staging.map Staging.nextOffset = some (isOffset p + isLength p) ∧
      ∀ k : Fin 2, k ≠ s.xch.stagingSlot → u.xch.slots[k] = s.xch.slots[k] := by
  obtain ⟨hbarrier, hgate⟩ := hadmits
  refine ⟨(s.begin t).stageChunk org p data, ?_, State.stageChunk_appends org p data (s.begin t)⟩
  rw [exec_imageStage]
  unfold execImageStage
  extract_lets a gate role verifying busy bad
  have hrole' : role = none := fails_false (by rw [State.begin_runsPrograms, hrole]; rfl) _
  have hverifying : verifying = false := by
    simp only [verifying, a, State.begin_xch]
    cases hs : s.xch.staging with
    | none => rfl
    | some g =>
      rw [hs] at hverify
      exact Option.isSome_eq_false_iff.mpr (Option.isNone_iff_eq_none.mpr hverify)
  have hbusy : busy = none := fails_false (by
    rw [hverifying, State.begin_xch, hswitch]
    simpa using hfirst) _
  have hbad : bad = false := by simp only [bad, hformat, Bool.not_true]
  have horder' : a.xch.inOrder p = true := horder
  rw [if_neg (ne_true_of_eq_false hbarrier), show gate = none from hgate, hrole', hbad, hbusy, horder']
  rfl

/-! ### Verification (R173) -/

theorem imageVerifyEnd_marks (t : Ns) (partnerCheck : Option (Fin 8)) (org : Origin) (s : State)
    (hlast : s.xch.staging.bind Staging.last = some org) : Completes (.imageVerifyEnd t partnerCheck) s fun u =>
      u.xch.staging = none ∧
      u.xch.slots[s.xch.stagingSlot].state =
        (if (s.verify s.xch.slots[s.xch.stagingSlot].bytes).isSome then .invalid else .verified) ∧
      ∀ k : Fin 2, k ≠ s.xch.stagingSlot → u.xch.slots[k] = s.xch.slots[k] := by
  rw [Completes, exec_imageVerifyEnd, execImageVerifyEnd]
  simp only [State.begin_xch, hlast, State.begin_verify]
  refine ⟨_, rfl, ?_⟩
  simp only [State.complete_xch, State.record_xch, State.updXch_xch]
  exact ⟨trivial, congrArg Slot.state (Exchange.upd_same _ _ _), fun k hk => Exchange.upd_ne hk _ _⟩

/-! ### The request of a switch (R174 to R177, R192) -/

/-- The checks of PROGRAM_SWITCH (R174). -/
theorem programSwitch_runs (t : Ns) {org : Origin} {o : Bytes} {s : State}
    (hadmits : (s.begin t).Admits org opProgramSwitch [.prg, .svc, .recorder]) (hlen : o.length = 32) (hbits : rdBits o 0 7 1 = 0)
    (hzero : zeroAt o 1 7 = true) (hheld : s.programHeld = false) (hstaging : s.xch.staging = none) (hrole : s.runsPrograms = true)
    (hverified : s.xch.slots[swSlot o].state = .verified) (hid : Image.imageId s.xch.slots[swSlot o].bytes = swId o)
    (hstarting : s.prg.state ≠ .starting) (hswitching : s.prg.state ≠ .switching)
    (hcycle : swCycle o = 0 ∨ s.prg.cycleNumber < swCycle o) (hcrcs : Image.crcsOk s.xch.slots[swSlot o].bytes = true) :
    exec (.programSwitch t org o) s = .next (if s.prg.state == .stopped || s.prg.state == .halted then
      (s.begin t).switchAtRest org (swSlot o) else (s.begin t).requestSwitch org o) := by
  have hformat : badField (o.length != 32 || rdBits o 0 7 1 != 0 || !zeroAt o 1 7) = none := by
    rw [hlen, hbits, hzero]
    rfl
  have hpassed : (swCycle o != 0 && decide (swCycle o ≤ s.prg.cycleNumber)) = false := by
    rcases hcycle with h | h
    · rw [h]
      rfl
    · rw [decide_eq_false h.not_ge, Bool.and_false]
  have hcheck : firstOf [fails (s.programHeld || s.xch.staging.isSome) .busy, fails (!s.runsPrograms) (.policy stPolicyRole),
      fails (s.xch.slots[swSlot o].state != .verified) (.error stNotVerified),
      fails (Image.imageId s.xch.slots[swSlot o].bytes != swId o) (.error stImageMismatch),
      fails (s.prg.state == .starting || s.prg.state == .switching) (.error stWrongState),
      fails (swCycle o != 0 && decide (swCycle o ≤ s.prg.cycleNumber)) (.error stCyclePassed)] = none := by
    rw [hheld, hstaging, hrole, hverified, hid, bne_self_eq_false, bne_self_eq_false, beq_false_of_ne hstarting,
      beq_false_of_ne hswitching, hpassed]
    rfl
  rw [exec_programSwitch, execProgramSwitch]
  refine (serve_next hadmits hformat hcheck).trans (congrArg _ (if_neg ?_))
  change ¬ (!Image.crcsOk s.xch.slots[swSlot o].bytes) = true
  rw [hcrcs]
  exact Bool.false_ne_true

/-- A switch that is asked for while the program runs waits for its cycle, and for the save before it. -/
theorem State.requestSwitch_arms {s : State} (hfree : s.stores[(1 : Fin 2)].heldBack = false) (hpages : s.savePages.length ≤ 255)
    (org : Origin) (o : Bytes) : ∃ w : Switch, (s.requestSwitch org o).xch = { s.xch with switch := some w } ∧
      w.slot = swSlot o ∧ w.org = org ∧ w.phase = .armed ∧ w.ownArmed = false ∧ (s.requestSwitch org o).prg = s.prg := by
  unfold State.requestSwitch
  extract_lets k b new plan rep cycle a
  have hsave : a.requestSave 1 .exchange none = ((a.requestSave 1 .exchange none).1, true) :=
    Prod.ext rfl (State.requestSave_runs (s := a) hfree hpages .exchange none).1
  rw [hsave]
  exact ⟨_, State.requestSave_xch _ _ _ _, rfl, rfl, rfl, rfl, State.requestSave_prg _ _ _ _⟩

theorem programSwitch_arms (t : Ns) (org : Origin) (o : Bytes) (s : State)
    (hadmits : (s.begin t).Admits org opProgramSwitch [.prg, .svc, .recorder]) (hlen : o.length = 32) (hbits : rdBits o 0 7 1 = 0)
    (hzero : zeroAt o 1 7 = true) (hheld : s.programHeld = false) (hstaging : s.xch.staging = none) (hrole : s.runsPrograms = true)
    (hverified : s.xch.slots[swSlot o].state = .verified) (hid : Image.imageId s.xch.slots[swSlot o].bytes = swId o)
    (hactive : s.prg.active = true) (hswitching : s.prg.state ≠ .switching)
    (hcycle : swCycle o = 0 ∨ s.prg.cycleNumber < swCycle o) (hcrcs : Image.crcsOk s.xch.slots[swSlot o].bytes = true)
    (hfree : s.stores[(1 : Fin 2)].heldBack = false) (hpages : s.savePages.length ≤ 255) :
    Completes (.programSwitch t org o) s fun u =>
      u.xch.switch.map Switch.slot = some (swSlot o) ∧ u.xch.switch.map Switch.org = some org ∧
      u.xch.switch.map Switch.phase = some .armed ∧ u.xch.switch.map Switch.ownArmed = some false ∧
      u.prg.running = s.prg.running := by
  have hnever : ∀ {x : PrgState}, (x == .isochronous || x == .running || x == .switching) = false → s.prg.state ≠ x :=
    fun hx h => by
      rw [Program.active, h, hx] at hactive
      exact Bool.false_ne_true hactive
  have hruns : ¬ (s.prg.state == .stopped || s.prg.state == .halted) = true := by
    rw [beq_false_of_ne (hnever (x := .stopped) rfl), beq_false_of_ne (hnever (x := .halted) rfl)]
    exact Bool.false_ne_true
  have hrun := (programSwitch_runs t hadmits hlen hbits hzero hheld hstaging hrole hverified hid (hnever rfl) hswitching hcycle
    hcrcs).trans (congrArg _ (if_neg hruns))
  obtain ⟨w, hxch, hslot, horg, hphase, hown, hprg⟩ := State.requestSwitch_arms (s := s.begin t) hfree hpages org o
  refine ⟨_, hrun, ?_⟩
  dsimp only
  rw [hxch, hprg]
  exact ⟨congrArg some hslot, congrArg some horg, congrArg some hphase, congrArg some hown, rfl⟩

theorem State.writeMarker_xch (k : Fin 2) (s : State) :
    (s.writeMarker k).xch = { s.xch with marker := some k, markerPending := none } := State.storeRegister_xch _

theorem State.writeMarker_prg (k : Fin 2) (s : State) : (s.writeMarker k).prg = s.prg := State.storeRegister_prg _

/-- A switch at rest takes place at once. -/
theorem State.switchAtRest_enters (org : Origin) (k : Fin 2) (s : State) : (s.switchAtRest org k).xch.switch = none ∧
    (s.switchAtRest org k).xch.slots = (s.xch.enter k).slots ∧
    (s.switchAtRest org k).prg.running = some (Image.load k s.xch.slots[k].bytes) := by
  unfold State.switchAtRest
  extract_lets oldId old new plan keep src counts rep a b
  obtain ⟨-, hxch, hrunning⟩ := s.enterImage_runs k src keep
  have haxch : a.xch = s.xch.enter k := by rw [State.record_xch, State.carryDetail_xch, hxch]
  have haprg : a.prg.running = some (Image.load k s.xch.slots[k].bytes) := by
    rw [State.record_prg, State.carryDetail_prg, hrunning]
  have hbxch : b.xch = { s.xch.enter k with switch := none, lastSwitch := rep } := by
    rw [State.complete_xch, State.updXch_xch, haxch]
  have hbprg : b.prg.running = some (Image.load k s.xch.slots[k].bytes) := by
    rw [State.complete_prg, State.updXch_prg, haprg]
  split
  · rw [State.requestSave_xch, State.requestSave_prg, State.updXch_xch, State.updXch_prg, hbxch, hbprg]
    exact ⟨rfl, rfl, rfl⟩
  · rw [State.writeMarker_xch, State.writeMarker_prg, hbxch, hbprg]
    exact ⟨rfl, rfl, rfl⟩

theorem programSwitch_enters (t : Ns) (org : Origin) (o : Bytes) (s : State)
    (hadmits : (s.begin t).Admits org opProgramSwitch [.prg, .svc, .recorder]) (hlen : o.length = 32) (hbits : rdBits o 0 7 1 = 0)
    (hzero : zeroAt o 1 7 = true) (hheld : s.programHeld = false) (hstaging : s.xch.staging = none) (hrole : s.runsPrograms = true)
    (hverified : s.xch.slots[swSlot o].state = .verified) (hid : Image.imageId s.xch.slots[swSlot o].bytes = swId o)
    (hrest : s.prg.state = .stopped ∨ s.prg.state = .halted) (hcycle : swCycle o = 0 ∨ s.prg.cycleNumber < swCycle o)
    (hcrcs : Image.crcsOk s.xch.slots[swSlot o].bytes = true) : Completes (.programSwitch t org o) s fun u =>
      u.xch.switch = none ∧ u.xch.slots[swSlot o].state = .running ∧
      u.prg.running = some (Image.load (swSlot o) s.xch.slots[swSlot o].bytes) := by
  have hnever : ∀ {x : PrgState}, x ≠ .stopped → x ≠ .halted → s.prg.state ≠ x := fun hs hh h =>
    hrest.elim (fun k => hs (h.symm.trans k)) fun k => hh (h.symm.trans k)
  have hidle : (s.prg.state == .stopped || s.prg.state == .halted) = true := by simpa using hrest
  have hrun := (programSwitch_runs t hadmits hlen hbits hzero hheld hstaging hrole hverified hid
    (hnever (by decide) (by decide)) (hnever (by decide) (by decide)) hcycle hcrcs).trans (congrArg _ (if_pos hidle))
  obtain ⟨hswitch, hslots, hrunning⟩ := (s.begin t).switchAtRest_enters org (swSlot o)
  refine ⟨_, hrun, hswitch, ?_, hrunning⟩
  rw [hslots]
  exact Exchange.enter_running _ _

/-! ### Arming (R176, R177) -/

theorem armed_notes (t : Ns) (cycle : Nat) (w : Switch) (s : State) (hswitch : s.xch.switch = some w) (hphase : w.phase = .armed)
    (hcycle : w.cycle = cycle) : Completes (.armed t cycle) s fun u =>
      u.xch = { s.xch with switch := some { w with partnerArmed := true } } := by
  rw [Completes, exec_armed, execArmed]
  refine ⟨_, rfl, ?_⟩
  simp only [State.updXch_xch, State.begin_xch, hswitch, Option.map_some, hphase, hcycle, decide_true, Bool.and_true, if_true]

/-- A switch that is dropped is gone from the exchange, and nothing else of it changes. -/
theorem State.dropSwitch_xch {w : Switch} {s : State} (hswitch : s.xch.switch = some w) (st : BitVec 16) :
    (s.dropSwitch st).xch = { s.xch with switch := none } := by
  simp only [State.dropSwitch, hswitch, State.complete_xch, State.updXch_xch]

theorem pairNotArmed_drops (t : Ns) (w : Switch) (s : State) (hswitch : s.xch.switch = some w) (hphase : w.phase = .armed)
    (hpair : s.isPair = true) (harmed : w.partnerArmed = false ∨ (w.ownArmed = false ∧ s.inStep = true))
    (hpast : w.cycle ≤ s.barrierCycle + 1) : Completes (.pairNotArmed t) s fun u => u.xch = { s.xch with switch := none } := by
  have hmissing : (!w.partnerArmed || (!w.ownArmed && s.inStep)) = true := by
    rcases harmed with h | ⟨h, hstep⟩
    · rw [h]
      rfl
    · rw [h, hstep, Bool.not_false, Bool.and_self, Bool.or_true]
  have hdrops : (decide (w.phase = .armed) && s.isPair && (!w.partnerArmed || (!w.ownArmed && s.inStep)) &&
      decide (w.cycle ≤ s.barrierCycle + 1)) = true := by
    rw [hphase, hpair, hmissing, decide_eq_true hpast]
    rfl
  have hrun : exec (.pairNotArmed t) s = .next ((s.begin t).dropSwitch stPairNotArmed) := by
    rw [exec_pairNotArmed]
    simp only [execPairNotArmed, State.begin_xch, hswitch]
    exact if_pos hdrops
  exact ⟨_, hrun, State.dropSwitch_xch (s := s.begin t) hswitch _⟩

/-! ### PreSwitch and PostSwitch (R178, R181) -/

/-- Of the acts of a task that stay inside DATA none or all run. -/
theorem Inside.ite {s : State} {acts : List PrgAct} (h : Inside s acts) (c : Bool) : Inside s (if c then acts else []) := by
  split
  · exact h
  · exact fun _ _ _ _ hmem => absurd hmem List.not_mem_nil

theorem preSwitchEnd_enters (t : Ns) (gapUs : Nat) (acts : List PrgAct) (w : Switch) (s : State) (hswitch : s.xch.switch = some w)
    (hphase : w.phase = .pre) (hlong : s.prg.longRunning = false) (hevents : ∀ k ∈ s.prg.events, k.active = none)
    (hinside : Inside s acts) : Completes (.preSwitchEnd t gapUs acts) s fun u =>
      u.prg.state = .switching ∧ u.prg.running = some (Image.load w.slot s.xch.slots[w.slot].bytes) ∧
      u.xch.slots[w.slot].state = .running ∧ u.xch.switch.map Switch.phase = some .post ∧
      u.xch.switch.map Switch.since = some (max s.clock t + 1000 * gapUs) := by
  have hidle : s.prg.events.any (fun k => k.active.isSome) = false := List.any_eq_false.mpr fun k hk => by
    rw [hevents k hk]
    exact Bool.false_ne_true
  have hready : ¬ (w.phase != .pre || s.prg.longRunning || s.prg.events.any (fun k => k.active.isSome)) = true := by
    rw [hphase, hlong, hidle]
    exact Bool.false_ne_true
  obtain ⟨d, hacts⟩ := State.runActs_inside (s := s.begin t)
    (hinside.ite (((s.begin t).prg.running.map Running.hasPreSwitch).getD false)) (s.begin t).prg.snap.now
  let a := (s.begin t).updPrg fun p => { p with data := d }
  let b := (a.enterImage w.slot d true).updPrg fun p => { p with state := .switching }
  let rep := { w.report with cycle := w.cycle, gapUs := gapUs, preUs := (b.clock - w.since) / 1000 }
  have hrun : exec (.preSwitchEnd t gapUs acts) s = .next ((b.updXch fun x => { x with
      switch := some { w with phase := .post, since := b.clock + 1000 * gapUs, report := rep } }).carryDetail w.plan) := by
    rw [exec_preSwitchEnd]
    simp only [execPreSwitchEnd, State.begin_xch, hswitch, hacts]
    exact if_neg hready
  obtain ⟨hclock, hxch, hrunning⟩ := a.enterImage_runs w.slot d true
  have hb : b.clock = max s.clock t := hclock
  refine ⟨_, hrun, ?_⟩
  dsimp only
  rw [State.carryDetail_xch, State.carryDetail_prg, State.updXch_xch, State.updXch_prg, hb]
  refine ⟨rfl, hrunning, ?_, rfl, rfl⟩
  rw [show b.xch = s.xch.enter w.slot from hxch]
  exact Exchange.enter_running _ _

theorem postSwitchEnd_returns (t : Ns) (acts : List PrgAct) (w : Switch) (s : State) (hswitch : s.xch.switch = some w)
    (hphase : w.phase = .post) (hgap : w.since ≤ max s.clock t) (hinside : Inside s acts) :
    Completes (.postSwitchEnd t acts) s fun u =>
      u.prg.state = w.before ∧ u.prg.firstAfterSwitch = true ∧ u.xch.switch.map Switch.phase = some .firstCycle := by
  have hready : ¬ (w.phase != .post || decide ((s.begin t).clock < w.since)) = true := by
    rw [hphase, State.begin_reached hgap]
    exact Bool.false_ne_true
  obtain ⟨d, hacts⟩ := State.runActs_inside (s := s.begin t)
    (hinside.ite (((s.begin t).prg.running.map Running.hasPostSwitch).getD false)) (s.begin t).prg.snap.now
  let a := (s.begin t).updPrg fun p => { p with data := d }
  let rep := { w.report with postUs := (a.clock - w.since) / 1000 }
  have hrun : exec (.postSwitchEnd t acts) s = .next ((a.updXch fun x => { x with
      switch := some { w with phase := .firstCycle, report := rep } }).updPrg fun p =>
        { p with state := w.before, firstAfterSwitch := true }) := by
    rw [exec_postSwitchEnd]
    simp only [execPostSwitchEnd, State.begin_xch, hswitch, hacts]
    exact if_neg hready
  exact ⟨_, hrun, rfl, rfl, rfl⟩

/-- Settles O13, clause by clause: a chunk, the end of a verification, the two ways of a switch, its arming, and its two tasks. -/
theorem onlineExchange : Obligations.OnlineExchange := by
  unfold Obligations.OnlineExchange
  exact ⟨imageStage_appends, imageVerifyEnd_marks, programSwitch_arms, programSwitch_enters, armed_notes, pairNotArmed_drops,
    preSwitchEnd_enters, postSwitchEnd_returns⟩

end Sys2Proof.Machine
end

section
/-! Saves of the two stores (obligation StoreSaves): what an update of one store leaves of the other, then what the start and the
end of a save and a clearing make of their store, and one lemma per command. -/

namespace Sys2Proof.Machine

/-! ### One store and the other, one bank and the other -/

theorem State.updStore_same (st : Fin 2) (f : Store → Store) (s : State) : (s.updStore st f).stores[st] = f s.stores[st] :=
  (State.updStore_get st f s st).trans (if_pos rfl)

theorem State.updStore_ne {st k : Fin 2} (h : k ≠ st) (f : Store → Store) (s : State) :
    (s.updStore st f).stores[k] = s.stores[k] :=
  (State.updStore_get st f s k).trans (if_neg h.symm)

/-- The banks `k` and `1 - k` of a store are different. -/
theorem bank_ne_other (k : Fin 2) : k.val ≠ (1 - k).val := by
  revert k
  decide

@[simp] theorem State.postEvent_stores (type : BitVec 16) (inst : Nat) (data : Bytes) (s : State) :
    (s.postEvent type inst data).stores = s.stores := (State.postEvent_keep type inst data s).same .stores (by decide)
@[simp] theorem State.settleHealth_stores (s : State) : s.settleHealth.stores = s.stores :=
  (State.settleHealth_keep s).same .stores (by decide)
@[simp] theorem State.complete_stores (org : Origin) (o : Outcome) (s : State) : (s.complete org o).stores = s.stores :=
  (State.complete_keep org o s).same .stores (by decide)
@[simp] theorem State.completeAll_stores (l : List Origin) (o : Outcome) (s : State) : (s.completeAll l o).stores = s.stores :=
  (State.completeAll_keep l o s).same .stores (by decide)

/-! ### The start of a save (R487, R488, R496) -/

/-- The comparison with the budget marks the retained store alone. -/
theorem State.budgetCheck_stores (causes : List SaveCause) (s : State) :
    ∃ past, (s.budgetCheck causes).stores = (s.updStore 1 fun x => { x with overBudget := past }).stores := by
  unfold State.budgetCheck
  dsimp only
  split_ifs
  · exact ⟨true, by simp⟩
  · exact ⟨false, by simp⟩
  · exact ⟨s.stores[(1 : Fin 2)].overBudget, (Vector.set_getElem_self (xs := s.stores) (i := 1) (by decide)).symm⟩

theorem State.budgetCheck_clock (causes : List SaveCause) (s : State) : (s.budgetCheck causes).clock = s.clock := by
  unfold State.budgetCheck
  dsimp only
  split_ifs
  · exact (State.settleHealth_sends _).clock.trans (State.postEvent_sends _ _ _ _).clock
  · exact (State.settleHealth_sends _).clock.trans ((State.postEvent_sends _ _ _ _).clock.trans (State.record_clock _ _ _ _))
  · rfl

/-- From `x` to `y` a save of the store starts: it writes the target bank, which is invalid, and the other bank stands as it is. -/
structure Store.SaveStarts (now : Ns) (causes : List SaveCause) (orgs : List Origin) (x y : Store) : Prop where
  running : (y.running.map fun v => (v.target, v.start, v.causes, v.orgs, v.covers)) =
    some (x.target, now, causes, orgs, x.changeSeq)
  target : y.banks[x.target].valid = false
  kept : y.banks[1 - x.target.val] = x.banks[1 - x.target.val]
  command : y.command = x.command
  heldBack : y.heldBack = x.heldBack

/-- The mark of the comparison with the budget is nothing that the start of a save reads. -/
theorem Store.SaveStarts.of_overBudget {now : Ns} {causes : List SaveCause} {orgs : List Origin} {x y : Store} {past : Bool}
    (h : SaveStarts now causes orgs { x with overBudget := past } y) : SaveStarts now causes orgs x y :=
  ⟨h.running, h.target, h.kept, h.command, h.heldBack⟩

/-- A save writes its target bank. -/
def State.writeSave (st : Fin 2) (causes : List SaveCause) (orgs : List Origin) (s : State) : State :=
  s.updStore st fun x => { x with
    banks := x.banks.set x.target { x.banks[x.target] with valid := false }, newer := none,
    running := some { causes := causes, orgs := orgs, start := s.clock, payload := (s.savePayload st).1,
                      length := (s.savePayload st).2.length, crc := crc32c (s.savePayload st).2, target := x.target,
                      cycle := s.prg.boundary.cycle, covers := x.changeSeq } }

/-- A save that fits writes, a retained one after its comparison with the budget. -/
theorem State.startSave_eq {st : Fin 2} {s : State} (hpages : st = 1 → s.savePages.length ≤ 255) (causes : List SaveCause)
    (orgs : List Origin) :
    (s.startSave st causes orgs).1 = (if st = 1 then s.budgetCheck causes else s).writeSave st causes orgs := by
  unfold State.startSave
  extract_lets a
  have hfits : ¬ (st = 1 ∧ 255 < a.savePages.length) := fun ⟨hst, hlong⟩ => by
    have ha : a = s.budgetCheck causes := if_pos hst
    rw [ha, s.budgetCheck_savePages] at hlong
    exact (hpages hst).not_gt hlong
  rw [if_neg hfits]
  rfl

theorem State.writeSave_starts (st : Fin 2) (causes : List SaveCause) (orgs : List Origin) (s : State) :
    s.stores[st].SaveStarts s.clock causes orgs (s.writeSave st causes orgs).stores[st] := by
  rw [State.writeSave, State.updStore_same]
  exact ⟨rfl, congrArg Bank.valid (Vector.getElem_set_self (Fin.isLt _)),
    Vector.getElem_set_ne (Fin.isLt _) _ (by omega), rfl, rfl⟩

/-- A save that fits starts, and the other store stands as it is. -/
theorem State.startSave_starts {st : Fin 2} {s : State} (hpages : st = 1 → s.savePages.length ≤ 255) (causes : List SaveCause)
    (orgs : List Origin) : s.stores[st].SaveStarts s.clock causes orgs (s.startSave st causes orgs).1.stores[st] ∧
      ∀ k : Fin 2, k ≠ st → (s.startSave st causes orgs).1.stores[k] = s.stores[k] := by
  rw [State.startSave_eq hpages]
  split_ifs with hst
  · subst hst
    obtain ⟨past, hstores⟩ := s.budgetCheck_stores causes
    have hstarts := State.writeSave_starts 1 causes orgs (s.budgetCheck causes)
    rw [s.budgetCheck_clock causes, hstores, State.updStore_same] at hstarts
    refine ⟨hstarts.of_overBudget, fun k hk => (State.updStore_ne hk _ _).trans ?_⟩
    rw [hstores, State.updStore_ne hk]
  · exact ⟨s.writeSave_starts st causes orgs, fun k hk => State.updStore_ne hk _ _⟩

/-- A save that is asked for starts, where none runs and saving is not held back. -/
theorem State.requestSave_starts {st : Fin 2} {s : State} (hfree : s.stores[st].heldBack = false)
    (hidle : s.stores[st].running = none) (hpages : st = 1 → s.savePages.length ≤ 255) (cause : SaveCause)
    (org : Option Origin) :
    s.stores[st].SaveStarts s.clock [cause] org.toList (s.requestSave st cause org).1.stores[st] ∧
      ∀ k : Fin 2, k ≠ st → (s.requestSave st cause org).1.stores[k] = s.stores[k] := by
  unfold State.requestSave
  rw [if_neg (by rw [hfree]; decide), if_neg (by rw [hidle]; decide)]
  exact State.startSave_starts hpages _ _

theorem configSaveStart_starts (t : Ns) (o : Int × Ns) (s : State) (hup : s.up .recorder = true)
    (hchange : s.stores[(0 : Fin 2)].oldest = some o) (hidle : s.stores[(0 : Fin 2)].running = none)
    (hfree : s.stores[(0 : Fin 2)].heldBack = false) : Completes (.configSaveStart t) s fun u =>
      (u.stores[(0 : Fin 2)].running.map fun v => (v.target, v.start, v.causes, v.orgs, v.covers)) =
        some (s.stores[(0 : Fin 2)].target, max s.clock t, [.change], [], s.stores[(0 : Fin 2)].changeSeq) ∧
      u.stores[(0 : Fin 2)].banks[s.stores[(0 : Fin 2)].target].valid = false ∧
      u.stores[(0 : Fin 2)].banks[1 - s.stores[(0 : Fin 2)].target.val] =
        s.stores[(0 : Fin 2)].banks[1 - s.stores[(0 : Fin 2)].target.val] ∧
      u.stores[(1 : Fin 2)] = s.stores[(1 : Fin 2)] := by
  have hrun : exec (.configSaveStart t) s = .next ((s.begin t).requestSave 0 .change none).1 := by
    have hready : (s.stores[(0 : Fin 2)].oldest.isSome && s.stores[(0 : Fin 2)].running.isNone && s.up .recorder) = true := by
      rw [hchange, hidle, hup]
      rfl
    rw [exec_configSaveStart, execConfigSaveStart]
    exact if_pos hready
  obtain ⟨h, hother⟩ := State.requestSave_starts (s := s.begin t) (st := 0) hfree hidle
    (fun h => absurd h (by decide)) .change none
  exact ⟨_, hrun, h.running, h.target, h.kept, hother 1 (by decide)⟩

theorem saveRetained_starts (t : Ns) (org : Origin) (p : Bytes) (s : State)
    (hadmits : (s.begin t).Admits org opStoreCommand [.recorder]) (hformat : storeFormat 1 p = none)
    (hcommand : s.stores[(1 : Fin 2)].command = none) (hloaded : s.prg.running ≠ none)
    (hidle : s.stores[(1 : Fin 2)].running = none) (hpages : s.savePages.length ≤ 255) :
    Completes (.saveRetained t org p) s fun u =>
      (u.stores[(1 : Fin 2)].running.map fun v => (v.target, v.start, v.causes, v.orgs, v.covers)) =
        some (s.stores[(1 : Fin 2)].target, max s.clock t, [.command], [org], s.stores[(1 : Fin 2)].changeSeq) ∧
      u.stores[(1 : Fin 2)].banks[s.stores[(1 : Fin 2)].target].valid = false ∧
      u.stores[(1 : Fin 2)].banks[1 - s.stores[(1 : Fin 2)].target.val] =
        s.stores[(1 : Fin 2)].banks[1 - s.stores[(1 : Fin 2)].target.val] ∧
      u.stores[(1 : Fin 2)].command = some org ∧ u.stores[(1 : Fin 2)].heldBack = false ∧
      u.stores[(0 : Fin 2)] = s.stores[(0 : Fin 2)] := by
  let a := (s.begin t).updStore 1 fun x => { x with command := some org, heldBack := false }
  have ha : a.stores[(1 : Fin 2)] = { s.stores[(1 : Fin 2)] with command := some org, heldBack := false } :=
    State.updStore_same _ _ _
  have hcheck : firstOf [fails s.stores[(1 : Fin 2)].command.isSome .busy,
      fails s.prg.running.isNone (.error stWrongState)] = none := by
    rw [hcommand, Option.isNone_eq_false_iff.mpr (Option.isSome_iff_ne_none.mpr hloaded)]
    rfl
  have hrun : exec (.saveRetained t org p) s = .next (a.requestSave 1 .command (some org)).1 := by
    rw [exec_saveRetained, execSaveRetained]
    exact serve_next hadmits hformat hcheck
  obtain ⟨h, hother⟩ := State.requestSave_starts (s := a) (st := 1) (by rw [ha]) (by rw [ha]; exact hidle)
    (fun _ => hpages) .command (some org)
  rw [ha] at h
  exact ⟨_, hrun, h.running, h.target, h.kept, h.command, h.heldBack,
    (hother 0 (by decide)).trans (State.updStore_ne (by decide) _ _)⟩

theorem saveConfig_starts (t : Ns) (org : Origin) (p : Bytes) (s : State)
    (hadmits : (s.begin t).Admits org opStoreCommand [.recorder]) (hformat : storeFormat 2 p = none)
    (hcommand : s.stores[(0 : Fin 2)].command = none) (hfree : s.stores[(0 : Fin 2)].heldBack = false)
    (hidle : s.stores[(0 : Fin 2)].running = none) : Completes (.saveConfig t org p) s fun u =>
      (u.stores[(0 : Fin 2)].running.map fun v => (v.target, v.start, v.causes, v.orgs, v.covers)) =
        some (s.stores[(0 : Fin 2)].target, max s.clock t, [.command], [org], s.stores[(0 : Fin 2)].changeSeq) ∧
      u.stores[(0 : Fin 2)].banks[s.stores[(0 : Fin 2)].target].valid = false ∧
      u.stores[(0 : Fin 2)].banks[1 - s.stores[(0 : Fin 2)].target.val] =
        s.stores[(0 : Fin 2)].banks[1 - s.stores[(0 : Fin 2)].target.val] ∧
      u.stores[(0 : Fin 2)].command = some org ∧ u.stores[(1 : Fin 2)] = s.stores[(1 : Fin 2)] := by
  let a := (s.begin t).updStore 0 fun x => { x with command := some org }
  have ha : a.stores[(0 : Fin 2)] = { s.stores[(0 : Fin 2)] with command := some org } := State.updStore_same _ _ _
  have hcheck : firstOf [fails s.stores[(0 : Fin 2)].command.isSome .busy,
      fails s.stores[(0 : Fin 2)].heldBack (.error stWrongState)] = none := by
    rw [hcommand, hfree]
    rfl
  have hrun : exec (.saveConfig t org p) s = .next (a.requestSave 0 .command (some org)).1 := by
    rw [exec_saveConfig, execSaveConfig]
    exact serve_next hadmits hformat hcheck
  obtain ⟨h, hother⟩ := State.requestSave_starts (s := a) (st := 0) (by rw [ha]; exact hfree)
    (by rw [ha]; exact hidle) (fun h => absurd h (by decide)) .command (some org)
  rw [ha] at h
  exact ⟨_, hrun, h.running, h.target, h.kept, h.command, (hother 1 (by decide)).trans (State.updStore_ne (by decide) _ _)⟩

/-! ### The end of a save (R487, R488, R195, R495) -/

/-- From `x` to `y` this save ends: the bank that it wrote is valid with what it saved, and the other bank stands as it is. -/
structure Store.SaveEnds (v : Save) (now : Int) (x y : Store) : Prop where
  running : y.running = none
  savedSeq : y.savedSeq = v.covers
  bank : y.banks[v.target] =
    { valid := true, seq := x.nextSeq, payload := v.payload, crc := v.crc, length := v.length, stamp := now }
  kept : y.banks[1 - v.target] = x.banks[1 - v.target]
  saves : y.saves = x.saves + 1

/-- A save after which nothing waits ends, and the other store stands as it is. -/
theorem State.finishSave_ends {st : Fin 2} {v : Save} {s : State} (hruns : s.stores[st].running = some v)
    (hwaiting : s.stores[st].waiting = []) (hclear : s.stores[st].clearWait = none) :
    s.stores[st].SaveEnds v s.now (s.finishSave st).1.stores[st] ∧
    (∀ k : Fin 2, k ≠ st → (s.finishSave st).1.stores[k] = s.stores[k]) ∧ (s.finishSave st).2 = v.causes ∧
    (s.finishSave st).1.mod = s.mod ∧
    (st = 1 → (s.finishSave st).1.prg = { s.prg with savedStamp := s.now, savedCycle := v.cycle, saves := s.prg.saves + 1 }) := by
  unfold State.finishSave
  simp -zeta only [hruns]
  extract_lets a b c d
  have hb : b.stores = a.stores := by
    unfold b
    split <;> rfl
  have hc : c.stores = a.stores := (State.completeAll_stores _ _ _).trans hb
  have ha : a.stores[st].waiting = [] ∧ a.stores[st].clearWait = none := by
    rw [State.updStore_same]
    exact ⟨hwaiting, hclear⟩
  have hd : d = c := by
    simp only [d, hc, ha]
  rw [hd, hc]
  refine ⟨?_, fun k hk => State.updStore_ne hk _ _, rfl, ?_, ?_⟩
  · rw [State.updStore_same]
    exact ⟨rfl, rfl, Vector.getElem_set_self (Fin.isLt _), Vector.getElem_set_ne (Fin.isLt _) _ (bank_ne_other _), rfl⟩
  · rw [show c.mod = b.mod from (State.completeAll_keep _ _ _).same .mod (by decide)]
    unfold b
    split <;> rfl
  · rintro rfl
    exact (State.completeAll_keep _ _ _).same .prg (by decide)

/-- The last steps after a power fail stop the lanes, where the logic supply has not come back. -/
theorem State.finishPowerFail_stops {s : State} (hback : s.mod.vlogBack = false) (x : FailSave) (size : Nat) :
    (s.finishPowerFail x size).mod.lanesStopped = true ∧ (s.finishPowerFail x size).prg = s.prg ∧
    (s.finishPowerFail x size).stores = s.stores := by
  unfold State.finishPowerFail
  extract_lets a b
  have hmod : a.mod = s.mod := State.record_mod _ _ _ _
  have hprg : a.prg = s.prg := State.record_prg _ _ _ _
  have hstores : a.stores = s.stores := State.record_stores _ _ _ _
  clear_value a
  have hgone : ¬ b.mod.vlogBack = true := by
    rw [show b.mod.vlogBack = a.mod.vlogBack from rfl, hmod, hback]
    exact Bool.false_ne_true
  rw [if_neg hgone]
  exact ⟨rfl, hprg, hstores⟩

theorem storeSaveComplete_ends (t : Ns) (v : Save) (s : State) (hup : s.up .recorder = true)
    (hruns : s.stores[(0 : Fin 2)].running = some v) (hwaiting : s.stores[(0 : Fin 2)].waiting = [])
    (hclear : s.stores[(0 : Fin 2)].clearWait = none) : Completes (.storeSaveComplete t 0) s fun u =>
      u.stores[(0 : Fin 2)].running = none ∧ u.stores[(0 : Fin 2)].savedSeq = v.covers ∧
      u.stores[(0 : Fin 2)].banks[v.target] =
        { valid := true, seq := s.stores[(0 : Fin 2)].nextSeq, payload := v.payload, crc := v.crc, length := v.length,
          stamp := (s.begin t).now } ∧
      u.stores[(0 : Fin 2)].banks[1 - v.target] = s.stores[(0 : Fin 2)].banks[1 - v.target] ∧
      u.stores[(0 : Fin 2)].saves = s.stores[(0 : Fin 2)].saves + 1 ∧ u.stores[(1 : Fin 2)] = s.stores[(1 : Fin 2)] := by
  have hbusy : ¬ (s.stores[(0 : Fin 2)].running.isNone || !s.up .recorder) = true := by
    rw [hruns, hup]
    exact Bool.false_ne_true
  have hrun : exec (.storeSaveComplete t 0) s = .next ((s.begin t).finishSave 0).1 := by
    rw [exec_storeSaveComplete, execStoreSaveComplete]
    exact if_neg hbusy
  obtain ⟨h, hother, -⟩ := State.finishSave_ends (s := s.begin t) (st := 0) hruns hwaiting hclear
  exact ⟨_, hrun, h.running, h.savedSeq, h.bank, h.kept, h.saves, hother 1 (by decide)⟩

theorem storeSaveComplete_stops (t : Ns) (v : Save) (s : State) (hup : s.up .recorder = true)
    (hruns : s.stores[(1 : Fin 2)].running = some v) (hwaiting : s.stores[(1 : Fin 2)].waiting = [])
    (hclear : s.stores[(1 : Fin 2)].clearWait = none) (hcause : v.causes.contains .powerFail = true)
    (hback : s.mod.vlogBack = false) : Completes (.storeSaveComplete t 1) s fun u =>
      u.stores[(1 : Fin 2)].running = none ∧ u.stores[(1 : Fin 2)].banks[v.target].valid = true ∧
      u.stores[(1 : Fin 2)].banks[v.target].payload = v.payload ∧ u.mod.lanesStopped = true ∧
      u.prg.savedStamp = (s.begin t).now ∧ u.prg.savedCycle = v.cycle ∧ u.stores[(0 : Fin 2)] = s.stores[(0 : Fin 2)] := by
  have hbusy : ¬ (s.stores[(1 : Fin 2)].running.isNone || !s.up .recorder) = true := by
    rw [hruns, hup]
    exact Bool.false_ne_true
  obtain ⟨h, hother, hcauses, hmod, hprg⟩ := State.finishSave_ends (s := s.begin t) (st := 1) hruns hwaiting hclear
  have hrun : exec (.storeSaveComplete t 1) s = .next (((s.begin t).finishSave 1).1.finishPowerFail .saved
      ((s.stores[(1 : Fin 2)].running.map Save.length).getD 0 + 32)) := by
    rw [exec_storeSaveComplete, execStoreSaveComplete]
    refine (if_neg hbusy).trans ((if_neg (by decide)).trans (if_pos ?_))
    rw [hcauses]
    exact hcause
  obtain ⟨hstopped, hsame, hstores⟩ := State.finishPowerFail_stops (s := ((s.begin t).finishSave 1).1)
    (by rw [hmod]; exact hback) .saved ((s.stores[(1 : Fin 2)].running.map Save.length).getD 0 + 32)
  refine ⟨_, hrun, ?_⟩
  dsimp only
  rw [hsame, hstores, hprg rfl, h.bank]
  exact ⟨h.running, rfl, rfl, hstopped, rfl, rfl, hother 0 (by decide)⟩

/-! ### CLEAR_RETAINED and FACTORY_CONFIG (R498, R619) -/

/-- From `x` to `y` the store is cleared, and saving is held back. -/
structure Store.Cleared (x y : Store) : Prop where
  heldBack : y.heldBack = true
  command : y.command = none
  banks : ∀ b : Fin 2, y.banks[b] = { x.banks[b] with valid := false }

/-- A store is cleared at once where no save of it runs or waits. -/
theorem State.clearOrWait_clears {st : Fin 2} {s : State} (hidle : s.stores[st].running = none)
    (hwaiting : s.stores[st].waiting = []) (org : Origin) : s.stores[st].Cleared (s.clearOrWait st org).stores[st] ∧
      ∀ k : Fin 2, k ≠ st → (s.clearOrWait st org).stores[k] = s.stores[k] := by
  unfold State.clearOrWait
  extract_lets a
  have ha : a.stores[st] = { s.stores[st] with command := some org } := State.updStore_same _ _ _
  have hquiet : ¬ (a.stores[st].running.isSome || !a.stores[st].waiting.isEmpty) = true := by
    rw [ha, hidle, hwaiting]
    decide
  rw [if_neg hquiet, State.clearStore, State.complete_stores]
  refine ⟨?_, fun k hk => (State.updStore_ne hk _ _).trans (State.updStore_ne hk _ _)⟩
  rw [State.updStore_same, ha]
  exact ⟨rfl, rfl, Fin.forall_fin_two.mpr ⟨rfl, rfl⟩⟩

/-- A clearing waits for the save that runs. -/
theorem State.clearOrWait_waits {st : Fin 2} {s : State} (hruns : s.stores[st].running ≠ none) (org : Origin) :
    (s.clearOrWait st org).stores[st] = { s.stores[st] with command := some org, clearWait := some org } ∧
      ∀ k : Fin 2, k ≠ st → (s.clearOrWait st org).stores[k] = s.stores[k] := by
  unfold State.clearOrWait
  extract_lets a
  have ha : a.stores[st] = { s.stores[st] with command := some org } := State.updStore_same _ _ _
  have hbusy : (a.stores[st].running.isSome || !a.stores[st].waiting.isEmpty) = true := by
    rw [ha]
    exact Bool.or_eq_true_iff.mpr (.inl (Option.isSome_iff_ne_none.mpr hruns))
  rw [if_pos hbusy, State.updStore_same, ha]
  exact ⟨rfl, fun k hk => (State.updStore_ne hk _ _).trans (State.updStore_ne hk _ _)⟩

/-- CLEAR_RETAINED at rest passes its checks. -/
theorem clearRetained_runs (t : Ns) {org : Origin} {p : Bytes} {s : State}
    (hadmits : (s.begin t).Admits org opStoreCommand [.recorder]) (hformat : storeFormat 3 p = none)
    (hcommand : s.stores[(1 : Fin 2)].command = none) (hrest : s.prg.state = .stopped ∨ s.prg.state = .halted) :
    exec (.clearRetained t org p) s = .next ((s.begin t).clearOrWait 1 org) := by
  have hstate : (!(s.prg.state == .stopped || s.prg.state == .halted)) = false := by
    rcases hrest with h | h <;> rw [h] <;> rfl
  have hcheck : firstOf [fails s.stores[(1 : Fin 2)].command.isSome .busy,
      fails (!(s.prg.state == .stopped || s.prg.state == .halted)) (.error stWrongState)] = none := by
    rw [hcommand, hstate]
    rfl
  rw [exec_clearRetained, execClearRetained]
  exact serve_next hadmits hformat hcheck

theorem clearRetained_clears (t : Ns) (org : Origin) (p : Bytes) (s : State)
    (hadmits : (s.begin t).Admits org opStoreCommand [.recorder]) (hformat : storeFormat 3 p = none)
    (hcommand : s.stores[(1 : Fin 2)].command = none) (hrest : s.prg.state = .stopped ∨ s.prg.state = .halted)
    (hidle : s.stores[(1 : Fin 2)].running = none) (hwaiting : s.stores[(1 : Fin 2)].waiting = []) :
    Completes (.clearRetained t org p) s fun u =>
      u.stores[(1 : Fin 2)].heldBack = true ∧ u.stores[(1 : Fin 2)].command = none ∧
      ∀ b : Fin 2, u.stores[(1 : Fin 2)].banks[b] = { s.stores[(1 : Fin 2)].banks[b] with valid := false } ∧
        u.stores[(0 : Fin 2)] = s.stores[(0 : Fin 2)] ∧ u.prg = s.prg := by
  obtain ⟨h, hother⟩ := State.clearOrWait_clears (s := s.begin t) (st := 1) hidle hwaiting org
  exact ⟨_, clearRetained_runs t hadmits hformat hcommand hrest, h.heldBack, h.command, fun b =>
    ⟨h.banks b, hother 0 (by decide), (State.clearOrWait_keep 1 org (s.begin t)).same .prg (by decide)⟩⟩

theorem clearRetained_waits (t : Ns) (org : Origin) (p : Bytes) (s : State)
    (hadmits : (s.begin t).Admits org opStoreCommand [.recorder]) (hformat : storeFormat 3 p = none)
    (hcommand : s.stores[(1 : Fin 2)].command = none) (hrest : s.prg.state = .stopped ∨ s.prg.state = .halted)
    (hruns : s.stores[(1 : Fin 2)].running ≠ none) : Completes (.clearRetained t org p) s fun u =>
      u.stores[(1 : Fin 2)] = { s.stores[(1 : Fin 2)] with command := some org, clearWait := some org } ∧
      u.stores[(0 : Fin 2)] = s.stores[(0 : Fin 2)] := by
  obtain ⟨h, hother⟩ := State.clearOrWait_waits (s := s.begin t) (st := 1) hruns org
  exact ⟨_, clearRetained_runs t hadmits hformat hcommand hrest, h, hother 0 (by decide)⟩

theorem factoryConfig_clears (t : Ns) (org : Origin) (p : Bytes) (s : State)
    (hadmits : (s.begin t).Admits org opStoreCommand [.recorder]) (hformat : storeFormat 4 p = none) (hmb : s.lockMb = false)
    (hchown : s.lockChown = false) (hcommand : s.stores[(0 : Fin 2)].command = none)
    (hidle : s.stores[(0 : Fin 2)].running = none) (hwaiting : s.stores[(0 : Fin 2)].waiting = []) :
    Completes (.factoryConfig t org p) s fun u =>
      u.stores[(0 : Fin 2)].heldBack = true ∧ u.stores[(0 : Fin 2)].command = none ∧
      ∀ b : Fin 2, u.stores[(0 : Fin 2)].banks[b] = { s.stores[(0 : Fin 2)].banks[b] with valid := false } ∧
        u.stores[(1 : Fin 2)] = s.stores[(1 : Fin 2)] ∧ u.mod.inForce = s.mod.inForce := by
  have hcheck : firstOf [fails (s.lockMb || s.lockChown) (.policy stPolicyMordant),
      fails s.stores[(0 : Fin 2)].command.isSome .busy] = none := by
    rw [hmb, hchown, hcommand]
    rfl
  have hrun : exec (.factoryConfig t org p) s = .next ((s.begin t).clearOrWait 0 org) := by
    rw [exec_factoryConfig, execFactoryConfig]
    exact serve_next hadmits hformat hcheck
  obtain ⟨h, hother⟩ := State.clearOrWait_clears (s := s.begin t) (st := 0) hidle hwaiting org
  have hmod : ((s.begin t).clearOrWait 0 org).mod = s.mod := (State.clearOrWait_keep 0 org (s.begin t)).same .mod (by decide)
  exact ⟨_, hrun, h.heldBack, h.command, fun b => ⟨h.banks b, hother 1 (by decide), congrArg Module.inForce hmod⟩⟩

/-- Settles O43: what a save or a clearing makes of its store is said once, on the store alone, and each command is one of them. -/
theorem storeSaves : Obligations.StoreSaves := by
  unfold Obligations.StoreSaves
  exact ⟨configSaveStart_starts, storeSaveComplete_ends, storeSaveComplete_stops, saveRetained_starts, saveConfig_starts,
    clearRetained_clears, clearRetained_waits, factoryConfig_clears⟩

end Sys2Proof.Machine
end

section
/-! Loop samples (obligation LoopSamples), refuted. The members of an override group and their selection are one unit for lateness
(R227): what a member owes after the unit's last sample is judged by the end of the latest member, not by the end of its own
sample. -/

namespace Sys2Proof.Machine

/-! ### The counterexample -/

/-- A loop of period 2 ticks that is a member of group 0 and takes its PV from LOOP_COMMAND. -/
def memberObj : Bytes :=
  [0x80, 0, 0, 4] ++ wr 4 2 ++ wr 4 0 ++ wr 4 0x60000000 ++ wr 4 0x70000000 ++ wr 16 0 ++ wr 32 0 ++ wr 4 0x3F800000 ++ wr 4 0
    ++ wr 4 0x3F800000 ++ wr 4 0 ++ wr 4 0x3F800000 ++ wr 4 0 ++ wr 4 0x3F800000 ++ wr 32 0

/-- Override group 0 of the loops 0 and 1. -/
def pairGroupObj : Bytes := [0x80, 2, 0, 1] ++ List.replicate 6 0xFF ++ wr 22 0

/-- A member that has made up grid point 2 in a sample that ends at 400 µs. -/
def slowLoop : Loop :=
  { cfg := some memberObj, lastStart := some 200000, lastPoint := some 2, lastEnd := 400000, owed := [4, 6] }

/-- Loop 0 has made up grid point 2, and loop 1 still owes it. -/
def slowMate : State :=
  { State.reset with
    loops := (State.reset.loops.set 0 slowLoop).set 1 { cfg := some memberObj, owed := [2] },
    overs := State.reset.overs.set 0 { cfg := some pairGroupObj } }

/-- The two loops and their group pass the checks of their configuration. -/
theorem slowMate_configured : slowMate.loopFormat memberObj = true ∧
    groupsOk (slowMate.loopSet none) (slowMate.groupSet none) = true ∧ slowMate.memberOf 1 = some 0 := by decide +kernel

/-! ### The catch-up sample of loop 1 -/

/-- A catch-up sample of loop 1 that ends at 230 µs is due at 200 µs. -/
theorem slowMate_catchUp :
    exec (.catchUpSample 200000 1 230000) slowMate = .next ((slowMate.begin 200000).loopSample 1 2 false 230000) := by
  have howes : (slowMate.begin 200000).loops[(1 : Fin 64)].owed = [2] := rfl
  have hdue : ((slowMate.begin 200000).up .ctl && (slowMate.begin 200000).mod.failAt.isNone &&
      ((slowMate.begin 200000).loopNext ((slowMate.begin 200000).gridTick (slowMate.begin 200000).clock)).isNone &&
      (slowMate.begin 200000).inUnit 1 && !(slowMate.begin 200000).catchUpBefore 1) = true := by decide +kernel
  rw [exec_catchUpSample, execCatchUpSample]
  simp only [howes]
  rw [if_pos hdue]
  rfl

/-- By the end of its unit, 400 µs, loop 1 has passed the grid points 4 and 6. -/
theorem slowMate_owes : ((slowMate.begin 200000).loopSample 1 2 false 230000).loops[(1 : Fin 64)].owed = [4, 6] := by
  decide +kernel

/-- By the end of its own sample, 230 µs, loop 1 has passed no further grid point. -/
theorem slowMate_owedByItself : (slowMate.begin 200000).owedAfter (lcPeriod memberObj) 2 230000 = [] := by decide +kernel

/-! ### The refutation -/

/-- Refutes O14: the last member of a group to make up a grid point owes what its latest mate left behind. -/
theorem not_loopSamples : ¬ Obligations.LoopSamples := by
  unfold Obligations.LoopSamples
  rintro ⟨-, -, hcatchUp, -⟩
  obtain ⟨u, hrun, -, -, -, -, howed, -⟩ := hcatchUp 200000 1 230000 memberObj 2 [] slowMate rfl rfl rfl (by decide +kernel) rfl
    (by decide +kernel) (by decide +kernel) (by decide +kernel)
  obtain rfl : (slowMate.begin 200000).loopSample 1 2 false 230000 = u :=
    Host.Outcome.next.inj (slowMate_catchUp.symm.trans hrun)
  have hnone : ([4, 6] : List Nat) = [] := slowMate_owes.symm.trans (howed.trans slowMate_owedByItself)
  exact absurd hnone (by decide)

end Sys2Proof.Machine
end

section
/-! Tuning tests (obligation TuningTests): what answers and records leave of the control engine, then one lemma per command. -/

namespace Sys2Proof.Machine

/-! ### What leaves the control engine alone -/

section
variable (s : State)

@[simp] theorem State.record_loops (src : Isl) (kind : RecKind) (items : List Int) : (s.record src kind items).loops = s.loops :=
  (State.record_keep src kind items s).same .loops (by decide)
@[simp] theorem State.record_tune (src : Isl) (kind : RecKind) (items : List Int) : (s.record src kind items).tune = s.tune :=
  (State.record_keep src kind items s).same .tune (by decide)
@[simp] theorem State.complete_loops (org : Origin) (o : Outcome) : (s.complete org o).loops = s.loops :=
  (State.complete_keep org o s).same .loops (by decide)
@[simp] theorem State.complete_tune (org : Origin) (o : Outcome) : (s.complete org o).tune = s.tune :=
  (State.complete_keep org o s).same .tune (by decide)

@[simp] theorem State.begin_memberOf (t : Ns) (lp : Fin 64) : (s.begin t).memberOf lp = s.memberOf lp := rfl
@[simp] theorem State.begin_loopSet (t : Ns) (cand : Option (Fin 64 × Bytes × Nat)) : (s.begin t).loopSet cand = s.loopSet cand := rfl
@[simp] theorem State.begin_groupSet (t : Ns) (cand : Option (Fin 8 × Bytes)) : (s.begin t).groupSet cand = s.groupSet cand := rfl
end

/-! ### TUNE_START (R232, R234) -/

/-- The modes in which a test may inject into the output or into the set-point (R234). -/
theorem tuneModes_allow {output : Bool} {m : LoopMode} (hout : output = true → m = .manual ∨ m = .auto)
    (hsp : output = false → m = .auto ∨ m = .cascade) :
    (if output then m == .manual || m == .auto else m == .auto || m == .cascade) = true := by
  cases output
  · rcases hsp rfl with rfl | rfl <;> rfl
  · rcases hout rfl with rfl | rfl <;> rfl

theorem tuneStart_starts (t : Ns) (org : Origin) (o c : Bytes) (lp : Fin 64) (s : State)
    (hadmits : (s.begin t).Admits org opTuneStart [.ctl]) (hlen : o.length = 64) (hlp : lp.val = tsLoop o)
    (hcfg : s.loops[lp].cfg = some c) (hformat : tuneFormat o (lcPeriod c) = true)
    (hmode : (tsOutput o = true → s.loops[lp].mode = .manual ∨ s.loops[lp].mode = .auto) ∧
      (tsOutput o = false → s.loops[lp].mode = .auto ∨ s.loops[lp].mode = .cascade))
    (hfree : s.memberOf lp = none) (hidle : s.tune.running = none)
    (hcost : admitted (costItems (s.loopSet none) (s.groupSet none) (some o)) = true)
    (hroom : tuneSamples o (lcPeriod c) * (4 + 4 * tsCount o) ≤ 262144) : Completes (.tuneStart t org o) s fun u =>
      u.tune.running = some (org, o) ∧ u.tune.loop = lp ∧ u.tune.captured = 0 ∧ u.tune.buffer = [] ∧ u.tune.everRun = true := by
  obtain rfl : Fin.ofNat 64 (tsLoop o) = lp := Fin.ext ((Nat.mod_eq_of_lt (hlp ▸ lp.isLt)).trans hlp.symm)
  have hsize : decide (262144 < if tsCount o = 0 then 0 else tuneSamples o (lcPeriod c) * (4 + 4 * tsCount o)) = false := by
    rw [decide_eq_false_iff_not]
    split <;> omega
  have hcheck : firstOf [badField (!tuneFormat o (lcPeriod c)), fails false (.error stWrongState), fails false .busy,
      fails (!true || false) .capacity] = none := by
    rw [badField_not hformat]
    rfl
  rw [Completes, exec_tuneStart, execTuneStart]
  refine ⟨_, serve_next hadmits (by rw [hlen]; rfl) ?_, ?_⟩
  · simp only [State.begin_loops, State.begin_tune, State.begin_memberOf, State.begin_loopSet, State.begin_groupSet, hcfg, hfree, hidle,
      hcost, hsize, tuneModes_allow hmode.1 hmode.2, Option.map_some, Option.getD_some]
    exact hcheck
  · rw [State.record_tune]
    exact ⟨rfl, rfl, rfl, rfl, rfl⟩

/-! ### TUNE_STOP (R235, R425) -/

theorem tuneStop_asks (t : Ns) (org : Origin) (o : Bytes) (s : State) (hadmits : (s.begin t).Admits org opTuneStop [.ctl])
    (hloop : rd o 0 1 ≤ 63) (hzero : zeroAt o 1 15 = true) : Completes (.tuneStop t org o) s fun u =>
      u.tune = { s.tune with
        stopReq := s.tune.stopReq || (s.tune.running.isSome && s.tune.loop == Fin.ofNat 64 (rd o 0 1)) } := by
  have hformat : badField (decide (63 < rd o 0 1) || !zeroAt o 1 15) = none := by
    rw [decide_eq_false hloop.not_gt, hzero]
    rfl
  rw [Completes, exec_tuneStop, execTuneStop]
  refine ⟨_, serve_next hadmits hformat rfl, ?_⟩
  rw [State.complete_tune]
  rfl

/-! ### The end of a test (R233, R235) -/

/-- A test ends with its cause, its injection at 0 and its end stamp, and its loop hands over. -/
theorem State.endTune_ends {s : State} {org : Origin} {o : Bytes} (hruns : s.tune.running = some (org, o))
    (cause : Option TuneCause) :
    (s.endTune cause).tune = { s.tune with
      running := none, inject := 0, abort := cause, stopReq := false, endStamp := s.now } ∧
    (s.endTune cause).loops = (s.updLoop s.tune.loop fun l => { l with srcChanged := true }).loops := by
  simp only [State.endTune, hruns, State.complete_tune, State.record_tune, State.complete_loops, State.record_loops]
  exact ⟨rfl, rfl⟩

theorem tuneEnd_ends (t : Ns) (org : Origin) (o : Bytes) (t0 : Ns) (s : State) (hruns : s.tune.running = some (org, o))
    (hstart : s.tune.t0 = some t0) (hover : s.tune.over o (max s.clock t - t0) = true) : Completes (.tuneEnd t) s fun u =>
      u.tune.running = none ∧ u.tune.abort = none ∧ u.tune.inject = 0 ∧ u.tune.endStamp = (s.begin t).now ∧
      u.loops[s.tune.loop].srcChanged = true := by
  obtain ⟨htune, hloops⟩ := State.endTune_ends (s := s.begin t) hruns none
  refine ⟨(s.begin t).endTune none, ?_, ?_⟩
  · simp only [exec_tuneEnd, execTuneEnd, State.begin_tune, hruns, hstart, State.begin_clock, hover, if_true]
  · dsimp only
    rw [htune, hloops]
    exact ⟨rfl, rfl, rfl, rfl, by simp⟩

/-! ### CAPTURE_READ (R444) -/

theorem captureRead_answers (t : Ns) (org : Origin) (p : Bytes) (s : State)
    (hadmits : (s.begin t).Admits org opCaptureRead [.ctl]) (hlen : p.length = 16) (hoff : rd p 0 4 % 4 = 0)
    (hcount : rd p 4 4 % 4 = 0) (hrange : 4 ≤ rd p 4 4 ∧ rd p 4 4 ≤ 262144) (hzero : zeroAt p 8 8 = true)
    (hever : s.tune.everRun = true) : Completes (.captureRead t org p) s fun u =>
      u = (s.begin t).complete org (.done ((s.tune.buffer.drop (rd p 0 4)).take (rd p 4 4))) := by
  have hformat : badField (rd p 0 4 % 4 != 0 || rd p 4 4 % 4 != 0 || decide (rd p 4 4 < 4) || decide (262144 < rd p 4 4) ||
      !zeroAt p 8 8 || p.length != 16) = none := by
    rw [hoff, hcount, decide_eq_false hrange.1.not_gt, decide_eq_false hrange.2.not_gt, hzero, hlen]
    rfl
  have hcheck : fails (!(s.begin t).tune.everRun) (.error stNoCapture) = none := by
    rw [State.begin_tune, hever]
    rfl
  rw [Completes, exec_captureRead, execCaptureRead]
  exact ⟨_, serve_next hadmits hformat hcheck, rfl⟩

/-! ### The obligation -/

/-- Settles O15: an admitted command runs its work on the test, and the end of a test is said once for every cause. -/
theorem tuningTests : Obligations.TuningTests := by
  unfold Obligations.TuningTests
  exact ⟨tuneStart_starts, tuneStop_asks, tuneEnd_ends, captureRead_answers⟩

end Sys2Proof.Machine
end

section
/-! Axis samples (obligation AxisSamples): what the operations on one axis leave of it and of the others, then the sample of a step
axis in three parts, the taking of a MOVE_ABS, slips and step debts. -/

namespace Sys2Proof.Machine

/-! ### One axis and the others -/

theorem State.updAxis_same (ax : Fin 16) (f : Axis → Axis) (s : State) : (s.updAxis ax f).axes[ax] = f s.axes[ax] := by
  simp [State.updAxis]

theorem State.updAxis_ne {ax k : Fin 16} (h : k ≠ ax) (f : Axis → Axis) (s : State) : (s.updAxis ax f).axes[k] = s.axes[k] := by
  have hv : ax.val ≠ k.val := fun e => h (Fin.ext e.symm)
  simp [State.updAxis, hv]

section
variable (s : State)

@[simp] theorem State.record_axes (src : Isl) (kind : RecKind) (items : List Int) : (s.record src kind items).axes = s.axes :=
  (State.record_keep src kind items s).same .axes (by decide)
@[simp] theorem State.complete_axes (org : Origin) (o : Outcome) : (s.complete org o).axes = s.axes :=
  (State.complete_keep org o s).same .axes (by decide)
@[simp] theorem State.complete_time (org : Origin) (o : Outcome) : (s.complete org o).time = s.time :=
  (State.complete_keep org o s).same .time (by decide)
end

/-- An AXIS_NOTIFY leaves no motion to notify, and changes no other axis. -/
theorem State.notifyAxisAt_axes (stamp : Int) (ax : Fin 16) (c : NotifyCause) (s : State) :
    (s.notifyAxisAt stamp ax c).axes = (s.updAxis ax fun a => { a with notify := none }).axes := by
  unfold State.notifyAxisAt
  split
  · rename_i hnone
    have hsame : ({ s.axes[ax] with notify := none } : Axis) = s.axes[ax] := by rw [← hnone]
    rw [State.updAxis_axes, hsame]
    exact (Vector.set_getElem_self _).symm
  · exact (State.postEventAt_keep _ _ _ _ _).same .axes (by decide)

/-- From `s` to `t` one axis works: the others, and the configuration, the commands and the count of samples of this one, stay; so
does time. -/
structure AxisWorks (ax : Fin 16) (s t : State) : Prop where
  others : ∀ k : Fin 16, k ≠ ax → t.axes[k] = s.axes[k]
  time : t.time = s.time
  cfg : t.axes[ax].cfg = s.axes[ax].cfg
  cmds : t.axes[ax].cmds = s.axes[ax].cmds
  samples : t.axes[ax].samples = s.axes[ax].samples

namespace AxisWorks
variable {ax : Fin 16} {s t u : State}

theorem refl (ax : Fin 16) (s : State) : AxisWorks ax s s := ⟨fun _ _ => rfl, rfl, rfl, rfl, rfl⟩

theorem trans (h : AxisWorks ax s t) (k : AxisWorks ax t u) : AxisWorks ax s u :=
  ⟨fun i hi => (k.others i hi).trans (h.others i hi), k.time.trans h.time, k.cfg.trans h.cfg, k.cmds.trans h.cmds,
    k.samples.trans h.samples⟩

theorem ite {c : Prop} [Decidable c] (h : AxisWorks ax s t) (k : AxisWorks ax s u) : AxisWorks ax s (if c then t else u) := by
  split
  · exact h
  · exact k

theorem ite_fst {α : Type} {c : Prop} [Decidable c] {p q : State × α} (h : AxisWorks ax s p.1) (k : AxisWorks ax s q.1) :
    AxisWorks ax s (if c then p else q).1 := by
  split
  · exact h
  · exact k

theorem foldl {α : Type} {f : State → α → State} (h : ∀ s x, AxisWorks ax s (f s x)) (l : List α) (s : State) :
    AxisWorks ax s (l.foldl f s) :=
  List.foldlRecOn l f (refl ax s) fun _ hb x _ => hb.trans (h _ x)

/-- What changes no axis, nor time. -/
theorem of_same (h : AxisWorks ax s t) (haxes : u.axes = t.axes) (htime : u.time = t.time) : AxisWorks ax s u :=
  h.trans ⟨fun _ _ => by rw [haxes], htime, by rw [haxes], by rw [haxes], by rw [haxes]⟩

/-- An update of the axis that keeps its configuration, its commands and its count of samples. -/
theorem upd (h : AxisWorks ax s t) (f : Axis → Axis)
    (hf : ∀ a, (f a).cfg = a.cfg ∧ (f a).cmds = a.cmds ∧ (f a).samples = a.samples := by exact fun _ => ⟨rfl, rfl, rfl⟩) :
    AxisWorks ax s (t.updAxis ax f) := by
  obtain ⟨hcfg, hcmds, hsamples⟩ := hf t.axes[ax]
  refine h.trans ⟨fun k hk => State.updAxis_ne hk f t, rfl, ?_, ?_, ?_⟩ <;> rw [State.updAxis_same] <;> assumption

theorem record (h : AxisWorks ax s t) (src : Isl) (kind : RecKind) (items : List Int) :
    AxisWorks ax s (t.record src kind items) :=
  h.of_same (State.record_axes _ _ _ _) (State.record_time _ _ _ _)

theorem complete (h : AxisWorks ax s t) (org : Origin) (o : Outcome) : AxisWorks ax s (t.complete org o) :=
  h.of_same (State.complete_axes _ _ _) (State.complete_time _ _ _)

/-- The same commands dropped from the axis before and after its work. -/
theorem dropCmds (h : AxisWorks ax s t) (p : AxisCmd → Bool) :
    AxisWorks ax (s.updAxis ax fun a => { a with cmds := a.cmds.filter p })
      (t.updAxis ax fun a => { a with cmds := a.cmds.filter p }) := by
  refine ⟨fun k hk => ?_, h.time, ?_, ?_, ?_⟩
  · rw [State.updAxis_ne hk, State.updAxis_ne hk]
    exact h.others k hk
  all_goals rw [State.updAxis_same, State.updAxis_same]
  · exact h.cfg
  · exact congrArg (List.filter p) h.cmds
  · exact h.samples

/-! ### Ends of motions, plans and faults (R247, R248, R251, R264) -/

theorem notifyAt (h : AxisWorks ax s t) (stamp : Int) (c : NotifyCause) : AxisWorks ax s (t.notifyAxisAt stamp ax c) :=
  (h.upd fun a => { a with notify := none }).of_same (State.notifyAxisAt_axes stamp ax c t)
    ((State.notifyAxisAt_keep stamp ax c t).same .time (by decide))

theorem notify (h : AxisWorks ax s t) (c : NotifyCause) : AxisWorks ax s (t.notifyAxis ax c) := h.notifyAt t.now c

theorem setPlan (h : AxisWorks ax s t) (e : Rat) (new : List Piece) (final : Rat) : AxisWorks ax s (t.setPlan ax e new final) :=
  h.upd _

theorem quickStop (h : AxisWorks ax s t) (e : Rat) : AxisWorks ax s (t.quickStop ax e).1 := h.setPlan e _ _

theorem axisFault (h : AxisWorks ax s t) (e : Rat) (cause : Nat) : AxisWorks ax s (t.axisFault ax e cause) :=
  h.ite ((((h.quickStop e).upd _).notify _).record _ _ _)

theorem unverify (h : AxisWorks ax s t) : AxisWorks ax s (t.unverify ax) := h.ite ((h.upd _).record _ _ _)

theorem planTo (h : AxisWorks ax s t) (e target : Rat) : AxisWorks ax s (t.planTo ax e target) := by
  have hplan := h.setPlan e (targetPieces t.axes[ax].limits (t.axes[ax].plan.at e) target).1 target
  exact ((hplan.upd _).record _ _ _).ite (hplan.upd _)

theorem planStop (h : AxisWorks ax s t) (e : Rat) : AxisWorks ax s (t.planStop ax e) := by
  unfold State.planStop
  exact (h.setPlan e _ _).upd _

theorem replan (h : AxisWorks ax s t) (e : Rat) : AxisWorks ax s (t.replan ax e) := by
  unfold State.replan
  split
  · exact h.planTo e _
  · exact h.planStop e
  · exact h

/-! ### Limits and tracking (R250, R269, R270) -/

theorem takeLimits (h : AxisWorks ax s t) (e : Rat) (p : PendLimits) : AxisWorks ax s (t.takeLimits ax e p) := (h.upd _).replan e

theorem enterTracking (h : AxisWorks ax s t) : AxisWorks ax s (t.enterTracking ax) := ((h.notify _).upd _).record _ _ _

theorem trackNow (h : AxisWorks ax s t) (o : Bytes) : AxisWorks ax s (t.trackNow ax o) := h.upd _

theorem leaveTracking (h : AxisWorks ax s t) (o : Bytes) (e : Rat) : AxisWorks ax s (t.leaveTracking ax o e) := by
  unfold State.leaveTracking
  extract_lets w a left stop ends
  have hleft : AxisWorks ax s left := (h.trackNow o).record _ _ _
  have hends : AxisWorks ax s ends := by
    unfold ends
    exact AxisWorks.ite (hleft.upd _) (hleft.upd _)
  exact hends.ite hends.unverify

theorem settleMotion (h : AxisWorks ax s t) (at_ : Rat) : AxisWorks ax s (t.settleMotion ax at_) := by
  unfold State.settleMotion
  extract_lets a w rest stamp
  have hw : AxisWorks ax s w := by
    unfold w
    split
    · exact h.upd _
    · exact h
  have hrest : AxisWorks ax s (rest w) := hw.upd _
  split
  · exact hw
  split
  · exact hrest.notifyAt _ _
  · exact hrest.notifyAt _ _
  · exact (((hrest.notifyAt _ _).upd _).record _ _ _).ite (hrest.notifyAt _ _)
  · exact (((hrest.notifyAt _ _).upd _).record _ _ _).ite (hrest.notifyAt _ _)
  · exact hw

/-! ### Commands and passes (R246, R250, R257) -/

/-- The limit fields of a command change the limits of the axis, in force or pending. -/
theorem commandLimits (h : AxisWorks ax s t) (e : Rat) (o : Bytes) :
    AxisWorks ax s (t.updAxis ax fun a => a.commandLimits e o) := by
  refine h.upd _ fun a => ?_
  unfold Axis.commandLimits
  split_ifs <;> exact ⟨rfl, rfl, rfl⟩

theorem takeAxis (h : AxisWorks ax s t) (e : Rat) (x : AxisCmd) : AxisWorks ax s (t.takeAxis ax e x).1 := by
  unfold State.takeAxis
  extract_lets changes w a c o k now goal goal' moveCmd outside stop still tab note told quick delta actual rests rested cleared reset
  have hw : AxisWorks ax s w := h.commandLimits e x.obj
  have hnote : ∀ {v : State}, AxisWorks ax s v → AxisWorks ax s (note v) := fun hv => (hv.upd _).ite hv
  have htold : AxisWorks ax s told := by
    unfold told
    exact AxisWorks.ite (hw.notify _) hw
  have hreset : AxisWorks ax s reset := by
    unfold reset cleared rested
    exact ((AxisWorks.ite (hw.upd _) (hw.upd _)).upd _).record _ _ _
  clear_value tab stop outside goal' still
  refine ite_fst h (ite_fst h (ite_fst h (ite_fst h (ite_fst ?_ (ite_fst h ?_)))))
  · rcases hquick : t.quickStop ax e with ⟨v, final⟩
    have hv : AxisWorks ax s v := by
      have hstop := h.quickStop e
      rwa [hquick] at hstop
    have hslow := ((hv.upd fun a => { a with
      state := .quickStop, softLimit := true, limitOverrun := a.limitOverrun || outside final,
      faultAtRest := a.faultAtRest || outside final, reversing := false }).notify .softLimit).record .mot .softLimit [ax.val]
    exact (hslow.record _ _ _).ite hslow
  · split
    · exact h
    · -- the commands in the order of `takeAxis`: moves, RUN_TABLE, STOP, QUICK_STOP, SET_POSITION, RESET_FAULT, SET_LIMITS
      refine ite_fst ?_ (ite_fst ?_ (ite_fst ?_ (ite_fst ?_ (ite_fst ?_ (ite_fst ?_ ?_)))))
      · exact hnote ((hw.notify _).planTo e _)
      · split
        · exact hw
        · exact hnote (((hw.notify _).setPlan e _ _).upd _)
      · exact ite_fst hw (hnote (htold.ite (htold.planStop e)))
      · exact ite_fst hw (hnote ((htold.quickStop e).upd _))
      · dsimp only
        exact hw.upd _
      · dsimp only
        exact hreset.ite hreset.unverify
      · dsimp only
        exact AxisWorks.ite (hw.replan e) hw

theorem applyAxisCmd (h : AxisWorks ax s t) (e : Rat) (x : AxisCmd) : AxisWorks ax s (t.applyAxisCmd ax e x) := by
  have htaken := (h.takeAxis e x).upd (f := fun a => { a with
    lastSeq := cmSeq x.obj, lastFromPrg := x.fromPrg, lastResult := (t.takeAxis ax e x).2.getD 0,
    rejected := if (t.takeAxis ax e x).2.isSome && x.fromPrg then satAdd 32 a.rejected 1 else a.rejected })
  unfold State.applyAxisCmd
  dsimp only
  split
  · exact htaken
  · exact htaken.complete _ _
  · exact htaken.complete _ _

theorem nextPass (h : AxisWorks ax s t) (o : Bytes) (e : Rat) : AxisWorks ax s (t.nextPass ax o e) := by
  unfold State.nextPass
  extract_lets a at_ k stop inside quick
  split
  · exact h
  split
  · exact h
  · extract_lets b more jump shift pieces final
    refine h.ite (AxisWorks.ite ?_ (h.upd _))
    split
    extract_lets overrun moved noted
    have hnoted : AxisWorks ax s noted := (((h.setPlan _ _ _).upd _).notify _).record _ _ _
    exact (hnoted.record _ _ _).ite hnoted

end AxisWorks

/-! ### The sample of a step axis, in three parts (R240, R244, R272) -/

/-- A step axis up to the commands of its sample: lane faults, tracking, a motion that has ended, limits that wait. -/
def State.axisReady (ax : Fin 16) (o : Bytes) (e : Rat) (tick : Nat) (s : State) : State :=
  let s := if s.axisLaneBad o && s.axes[ax].state != .fault then (s.axisFault ax e faultLane).unverify ax else s
  let s :=
    if s.axes[ax].state = .fault then s
    else if s.tracks ax o then (if s.axes[ax].state = .tracking then s else s.enterTracking ax).trackNow ax o
    else if s.axes[ax].state = .tracking then s.leaveTracking ax o e
    else s
  let s := s.settleMotion ax (s.tickClock tick : Rat)
  if s.axes[ax].limitPending && !s.axes[ax].limitsHeld e then
    (s.takeLimits ax e s.axes[ax].pend).record .mot .limitApplied [ax.val] else s

/-- The commands released by the start of the sample are taken in their order, and a looping table goes on. -/
def State.axisObey (ax : Fin 16) (o : Bytes) (e : Rat) (start : Ns) (s : State) : State :=
  State.nextPass ax o e <| (sortCmds (s.axes[ax].cmds.filter fun x => decide (x.stamp ≤ start))).foldl (State.applyAxisCmd ax e) <|
    s.updAxis ax fun a => { a with cmds := a.cmds.filter fun x => decide (start < x.stamp) }

/-- The end of a sample on its grid point: what the axis shows at the tick, its stamp, and the lateness of the sample. -/
def State.axisClose (ax : Fin 16) (o : Bytes) (tick : Nat) (done : Ns) (s : State) : State :=
  let at_ : Rat := s.tickClock tick
  let s := if s.axes[ax].state = .tracking then s else s.updAxis ax fun a =>
    let k := a.plan.at at_
    { a with pos := qRound k.1, vel := qRound k.2.1, acc := qRound k.2.2, jerk := qRound (a.plan.jerkAt at_) }
  let s := s.updAxis ax fun a => { a with stamp := s.tickClock tick + s.time.ringOff }
  s.updAxis ax fun a => s.axisEnd a o tick true done

/-- The sample of a step axis with no configuration on its way is its three parts. -/
theorem State.axisSampleAt_step {ax : Fin 16} {o : Bytes} {s : State} (hcfg : s.axes[ax].cfg = some o)
    (hpend : s.axes[ax].pendCfg = none) (hservo : axServo o = false) (tick : Nat) (done : Ns) :
    s.axisSampleAt ax tick true done = (((s.axisReady ax o (s.effectAt o done) tick).axisObey ax o (s.effectAt o done)
      (s.tickClock tick + 36000).toNat).axisClose ax o tick done) := by
  have htake : ∀ e, s.axisTakeConfig ax e = s := by
    intro e
    unfold State.axisTakeConfig
    rw [hpend]
  unfold State.axisSampleAt
  extract_lets start org cfgNow e w
  have hw : w = s := htake e
  have horg : org = none := by
    unfold org
    rw [hpend]
    rfl
  have he : e = s.effectAt o done := by
    unfold e cfgNow
    rw [hpend, hcfg]
    rfl
  clear_value w org e
  subst hw horg he
  simp -zeta only [hcfg]
  simp -zeta only [hservo, Bool.false_and, Bool.false_eq_true, if_false]
  rfl

theorem State.axisReady_works (ax : Fin 16) (o : Bytes) (e : Rat) (tick : Nat) (s : State) :
    AxisWorks ax s (s.axisReady ax o e tick) := by
  unfold State.axisReady
  extract_lets faulted tracked settled
  have hfaulted : AxisWorks ax s faulted := by
    unfold faulted
    exact AxisWorks.ite ((AxisWorks.refl ax s).axisFault e _).unverify (.refl ax s)
  have htracked : AxisWorks ax s tracked := by
    unfold tracked
    split_ifs
    · exact hfaulted
    · exact hfaulted.trackNow o
    · exact hfaulted.enterTracking.trackNow o
    · exact hfaulted.leaveTracking o e
    · exact hfaulted
  have hsettled : AxisWorks ax s settled := htracked.settleMotion _
  exact AxisWorks.ite ((hsettled.takeLimits e _).record _ _ _) hsettled

/-- The commands released later stay, and the axis works on those taken. -/
theorem State.axisObey_works (ax : Fin 16) (o : Bytes) (e : Rat) (start : Ns) (s : State) :
    AxisWorks ax (s.updAxis ax fun a => { a with cmds := a.cmds.filter fun x => decide (start < x.stamp) })
      (s.axisObey ax o e start) :=
  (AxisWorks.foldl (fun _ x => (AxisWorks.refl ax _).applyAxisCmd e x) _ _).nextPass o e

/-- What a sample on its grid point leaves of the axis: its count and grid point, its stamp, its position on the plan unless it tracks;
its commands, configuration, state, plan, target and results stay. -/
structure Axis.ClosedFrom (a : Axis) (at_ : Int) (ringOff : Int) (tick : Nat) (b : Axis) : Prop where
  samples : b.samples = a.samples + 1
  point : b.lastPoint = some tick
  stamp : b.stamp = at_ + ringOff
  cmds : b.cmds = a.cmds
  cfg : b.cfg = a.cfg
  state : b.state = a.state
  plan : b.plan = a.plan
  target : b.target = a.target
  lastSeq : b.lastSeq = a.lastSeq
  lastResult : b.lastResult = a.lastResult
  pos : a.state ≠ .tracking → b.pos = qRound (a.plan.at at_).1

theorem State.axisClose_closes (ax : Fin 16) (o : Bytes) (tick : Nat) (done : Ns) (s : State) :
    s.axes[ax].ClosedFrom (s.tickClock tick) s.time.ringOff tick (s.axisClose ax o tick done).axes[ax] := by
  unfold State.axisClose
  extract_lets at_ shown stamped
  have hstamped : stamped.axes[ax] = { shown.axes[ax] with stamp := shown.tickClock tick + shown.time.ringOff } :=
    State.updAxis_same ax _ _
  rw [State.updAxis_same, hstamped]
  by_cases htracks : s.axes[ax].state = .tracking
  · have hshown : shown = s := if_pos htracks
    rw [hshown]
    exact ⟨rfl, rfl, rfl, rfl, rfl, rfl, rfl, rfl, rfl, rfl, fun h => absurd htracks h⟩
  · have hshown : shown = s.updAxis ax _ := if_neg htracks
    rw [hshown, State.updAxis_same]
    exact ⟨rfl, rfl, rfl, rfl, rfl, rfl, rfl, rfl, rfl, rfl, fun _ => rfl⟩

theorem State.axisClose_others {ax k : Fin 16} (hk : k ≠ ax) (o : Bytes) (tick : Nat) (done : Ns) (s : State) :
    (s.axisClose ax o tick done).axes[k] = s.axes[k] := by
  unfold State.axisClose
  extract_lets at_ shown stamped
  have hshown : shown.axes[k] = s.axes[k] := by
    unfold shown
    split
    · rfl
    · exact State.updAxis_ne hk _ s
  exact (State.updAxis_ne hk _ _).trans ((State.updAxis_ne hk _ _).trans hshown)

/-! ### AXIS_SAMPLE of a step axis (R240, R272, R393) -/

/-- A step axis that owes no sample is due at the tick of the present instant. -/
structure StepSampleDue (t : Ns) (ax : Fin 16) (o : Bytes) (s : State) : Prop where
  cfg : s.axes[ax].cfg = some o
  pend : s.axes[ax].pendCfg = none
  servo : axServo o = false
  up : s.up .mot = true
  fail : s.mod.failAt = none
  owed : s.axes[ax].owed = []
  grid : onGrid (acPeriod o) s.axes[ax].phase (s.gridTick (max s.clock t)) = true
  last : s.axes[ax].lastPoint = none ∨ ∃ j, s.axes[ax].lastPoint = some j ∧ j < s.gridTick (max s.clock t)
  floor : s.time.gridFloor < s.gridTick (max s.clock t)
  reached : s.tickClock (s.gridTick (max s.clock t)) + 36000 ≤ max s.clock t

/-- The state before the end of such a sample: the axis is ready, and has taken its commands. -/
def State.axisTaken (t : Ns) (ax : Fin 16) (done : Ns) (o : Bytes) (s : State) : State :=
  let e := (s.begin t).effectAt o (max (max s.clock t) done)
  let tick := s.gridTick (max s.clock t)
  ((s.begin t).axisReady ax o e tick).axisObey ax o e (s.tickClock tick + 36000).toNat

namespace StepSampleDue
variable {t : Ns} {ax : Fin 16} {o : Bytes} {s : State}

theorem exec_eq (h : StepSampleDue t ax o s) (done : Ns) : exec (.axisSample t ax done) s =
    .next ((s.axisTaken t ax done o).axisClose ax o (s.gridTick (max s.clock t)) (max (max s.clock t) done)) := by
  have hruns : ¬ (!(s.begin t).up .mot || (s.begin t).mod.failAt.isSome) = true := by
    change ¬ (!s.up .mot || s.mod.failAt.isSome) = true
    rw [h.up, h.fail]
    decide
  have hsample := State.axisSampleAt_step (s := s.begin t) h.cfg h.pend h.servo (s.gridTick (max s.clock t))
    (max (max s.clock t) done)
  have hgrid := h.grid
  have hfloor := decide_eq_true h.floor
  have hreached := decide_eq_true h.reached
  rw [exec_axisSample, execAxisSample]
  simp only [State.begin_axes, h.cfg, h.owed]
  rw [if_neg hruns]
  refine (if_pos ?_).trans (congrArg Host.Outcome.next hsample)
  change (onGrid _ _ (s.gridTick (max s.clock t)) && _ && decide (s.time.gridFloor < s.gridTick (max s.clock t)) &&
    decide (s.tickClock (s.gridTick (max s.clock t)) + 36000 ≤ ((max s.clock t : Nat) : Int))) = true
  rw [hgrid, hfloor, hreached, Bool.and_true, Bool.and_true, Bool.true_and]
  rcases h.last with hnone | ⟨j, hj, hlt⟩
  · rw [hnone]
  · rw [hj]
    exact decide_eq_true hlt

/-- Up to its end the sample works on its axis, and drops the commands released by its start. -/
theorem taken_works (t : Ns) (ax : Fin 16) (done : Ns) (o : Bytes) (s : State) :
    AxisWorks ax ((s.begin t).updAxis ax fun a => { a with
        cmds := a.cmds.filter fun x => decide ((s.tickClock (s.gridTick (max s.clock t)) + 36000).toNat < x.stamp) })
      (s.axisTaken t ax done o) :=
  ((State.axisReady_works _ _ _ _ _).dropCmds _).trans (State.axisObey_works _ _ _ _ _)

theorem others (k : Fin 16) (hk : k ≠ ax) (done : Ns) :
    ((s.axisTaken t ax done o).axisClose ax o (s.gridTick (max s.clock t)) (max (max s.clock t) done)).axes[k] = s.axes[k] :=
  (State.axisClose_others hk _ _ _ _).trans (((taken_works t ax done o s).others k hk).trans (State.updAxis_ne hk _ _))

end StepSampleDue

theorem axisSample_counts (t : Ns) (ax : Fin 16) (done : Ns) (o : Bytes) (s : State) (h : StepSampleDue t ax o s) :
    Completes (.axisSample t ax done) s fun u =>
      u.axes[ax].samples = s.axes[ax].samples + 1 ∧ u.axes[ax].lastPoint = some (s.gridTick (max s.clock t)) ∧
      u.axes[ax].cmds = (s.axes[ax].cmds.filter fun x =>
        decide ((s.tickClock (s.gridTick (max s.clock t)) + 36000).toNat < x.stamp)) ∧
      u.axes[ax].cfg = some o ∧ u.axes[ax].stamp = s.tickClock (s.gridTick (max s.clock t)) + s.time.ringOff ∧
      (u.axes[ax].state ≠ .tracking →
        u.axes[ax].pos = qRound (u.axes[ax].plan.at (s.tickClock (s.gridTick (max s.clock t)))).1) ∧
      ∀ k : Fin 16, k ≠ ax → u.axes[k] = s.axes[k] := by
  have hworks := StepSampleDue.taken_works t ax done o s
  have hclose := State.axisClose_closes ax o (s.gridTick (max s.clock t)) (max (max s.clock t) done) (s.axisTaken t ax done o)
  have htime : (s.axisTaken t ax done o).time = s.time := hworks.time
  have hsamples := hworks.samples
  have hcmds := hworks.cmds
  have hcfg := hworks.cfg
  rw [State.updAxis_same] at hsamples hcmds hcfg
  rw [State.tickClock, htime] at hclose
  refine ⟨_, h.exec_eq done, ?_, hclose.point, hclose.cmds.trans hcmds, hclose.cfg.trans (hcfg.trans h.cfg), hclose.stamp,
    fun hstate => ?_, fun k hk => StepSampleDue.others k hk done⟩
  · rw [hclose.samples, hsamples]
    rfl
  · rw [hclose.plan]
    exact hclose.pos (hclose.state ▸ hstate)

/-! ### A MOVE_ABS is taken in standstill (R246, R248) -/

/-- The axis moves to a target, where its plan ends, and runs no table. -/
structure Axis.MovesTo (goal : Rat) (a : Axis) : Prop where
  state : a.state = .moving
  target : a.target = goal
  final : a.plan.final = goal
  run : a.run = none

theorem State.planTo_moves (ax : Fin 16) (e target : Rat) (s : State) : (s.planTo ax e target).axes[ax].MovesTo target := by
  unfold State.planTo
  extract_lets a
  split
  extract_lets planned reverses moving
  have hmoves : moving.axes[ax].MovesTo target := by
    unfold moving
    rw [State.updAxis_same]
    unfold planned State.setPlan
    rw [State.updAxis_same]
    exact ⟨rfl, rfl, rfl, rfl⟩
  split
  · simpa only [State.record_axes] using hmoves
  · exact hmoves

theorem Axis.commandLimits_state (a : Axis) (e : Rat) (o : Bytes) : (a.commandLimits e o).state = a.state := by
  unfold Axis.commandLimits
  split_ifs <;> rfl

theorem Axis.commandLimits_cfg (a : Axis) (e : Rat) (o : Bytes) : (a.commandLimits e o).cfg = a.cfg := by
  unfold Axis.commandLimits
  split_ifs <;> rfl

/-- MOVE_ABS with good fields, to an axis in standstill without soft limits, is taken: the axis moves to its target. -/
theorem State.takeAxis_moveAbs {ax : Fin 16} {o : Bytes} {x : AxisCmd} {s : State} (hcfg : s.axes[ax].cfg = some o)
    (hstill : s.axes[ax].state = .standstill) (hmove : cmCommand x.obj = 1) (hok : axisCommandOk o x.obj = true)
    (hsoft : acSoft o = false) (e : Rat) :
    ∃ u, s.takeAxis ax e x = (u, none) ∧ u.axes[ax].MovesTo (qRound (cmTarget x.obj)) := by
  unfold State.takeAxis
  extract_lets changes w a c cmd k now goal goal' moveCmd outside stop still tab note
  have hw : a = s.axes[ax].commandLimits e x.obj := State.updAxis_same ax _ s
  have hstate : a.state = .standstill := by rw [hw, Axis.commandLimits_state, hstill]
  have hc : c = o := by
    unfold c
    rw [hw, Axis.commandLimits_cfg, hcfg]
    rfl
  have hnote : ∀ {v : State} {g : Rat}, v.axes[ax].MovesTo g → (note v).axes[ax].MovesTo g := by
    intro v g hv
    unfold note
    split
    · rw [State.updAxis_same]
      exact ⟨hv.state, hv.target, hv.final, hv.run⟩
    · exact hv
  have hk : k = 1 := hmove
  have hstandstill : still = true := by
    unfold still
    rw [hstate]
    rfl
  have hinside : ∀ p, outside p = false := by
    intro p
    unfold outside
    rw [hc, hsoft]
    rfl
  have hgoal : goal' = qRound (cmTarget x.obj) := by
    unfold goal' goal
    rw [hk]
    rfl
  have htab : tab = none := by
    unfold tab
    rw [hk]
    rfl
  have hmoveCmd : moveCmd = true := by
    unfold moveCmd
    rw [hk]
    rfl
  have hplanned := hnote (State.planTo_moves ax e goal' (w.notifyAxis ax .replaced))
  rw [← hgoal]
  refine ⟨_, ?_, hplanned⟩
  clear_value still outside goal' tab moveCmd note c k
  simp -zeta only [hc, hstate, hk, hstandstill, hinside, htab, hmoveCmd]
  rw [if_neg (by rw [show axisCommandOk o cmd = true from hok]; decide), if_neg (by decide), if_neg (by decide), if_neg (by decide),
    if_neg (by simp), if_neg (by decide), if_pos trivial]

/-- A command that is taken leaves its number and the result 0. -/
theorem State.applyAxisCmd_taken {ax : Fin 16} {e : Rat} {x : AxisCmd} {s u : State} (h : s.takeAxis ax e x = (u, none)) :
    (s.applyAxisCmd ax e x).axes[ax] = { u.axes[ax] with
      lastSeq := cmSeq x.obj, lastFromPrg := x.fromPrg, lastResult := 0, rejected := u.axes[ax].rejected } := by
  unfold State.applyAxisCmd
  rw [h]
  dsimp only
  split
  · rw [State.updAxis_same]
    rfl
  · contradiction
  · simp only [State.complete_axes, State.updAxis_same]
    rfl

/-- An axis that runs no table has no pass to come. -/
theorem State.nextPass_of_run {ax : Fin 16} {s : State} (h : s.axes[ax].run = none) (o : Bytes) (e : Rat) :
    s.nextPass ax o e = s := by
  unfold State.nextPass
  dsimp only
  rw [h]

/-- The one command that waits, a MOVE_ABS released by the start of the sample, is taken. -/
theorem State.axisObey_moveAbs {ax : Fin 16} {o : Bytes} {x : AxisCmd} {s : State} (hcfg : s.axes[ax].cfg = some o)
    (hstill : s.axes[ax].state = .standstill) (hcmds : s.axes[ax].cmds = [x]) {start : Ns} (hstamp : x.stamp ≤ start)
    (hmove : cmCommand x.obj = 1) (hok : axisCommandOk o x.obj = true) (hsoft : acSoft o = false) (e : Rat) :
    (s.axisObey ax o e start).axes[ax].MovesTo (qRound (cmTarget x.obj)) ∧
      (s.axisObey ax o e start).axes[ax].lastSeq = cmSeq x.obj ∧ (s.axisObey ax o e start).axes[ax].lastResult = 0 := by
  have htake : sortCmds (s.axes[ax].cmds.filter fun y => decide (y.stamp ≤ start)) = [x] := by
    rw [hcmds, List.filter_cons_of_pos (by simpa using hstamp)]
    exact List.mergeSort_singleton _
  let w := s.updAxis ax fun a => { a with cmds := a.cmds.filter fun y => decide (start < y.stamp) }
  have hw : w.axes[ax] = { s.axes[ax] with cmds := s.axes[ax].cmds.filter fun y => decide (start < y.stamp) } :=
    State.updAxis_same ax _ s
  obtain ⟨u, hu, hmoves⟩ := State.takeAxis_moveAbs (s := w) (by rw [hw]; exact hcfg) (by rw [hw]; exact hstill) hmove hok hsoft e
  have happly := State.applyAxisCmd_taken hu
  have hobey : s.axisObey ax o e start = w.applyAxisCmd ax e x := by
    unfold State.axisObey
    rw [htake]
    exact State.nextPass_of_run (happly ▸ hmoves.run) o e
  rw [hobey, happly]
  exact ⟨⟨hmoves.state, hmoves.target, hmoves.final, hmoves.run⟩, rfl, rfl⟩

/-- At rest a motion has ended already. -/
theorem State.settleMotion_rest {ax : Fin 16} {s : State} (h : s.axes[ax].state = .standstill) (at_ : Rat) :
    (s.settleMotion ax at_).axes[ax].state = .standstill ∧
      (s.settleMotion ax at_).axes[ax].limitPending = s.axes[ax].limitPending := by
  unfold State.settleMotion
  extract_lets a w rest stamp
  have hw : w.axes[ax].state = .standstill ∧ w.axes[ax].limitPending = s.axes[ax].limitPending := by
    unfold w
    split
    · rw [State.updAxis_same]
      exact ⟨h, rfl⟩
    · exact ⟨h, rfl⟩
  have ha : a.state = .standstill := h
  rw [ha]
  split
  · exact hw
  · exact hw

/-- An axis that rests, with no limits waiting, still rests when it is ready for its commands. -/
theorem State.axisReady_rest {ax : Fin 16} {o : Bytes} {s : State} (hlane : s.axisLaneBad o = false) (htracks : s.tracks ax o = false)
    (hstill : s.axes[ax].state = .standstill) (hlimits : s.axes[ax].limitPending = false) (e : Rat) (tick : Nat) :
    (s.axisReady ax o e tick).axes[ax].state = .standstill := by
  unfold State.axisReady
  extract_lets faulted tracked settled
  have hfaulted : faulted = s := by
    unfold faulted
    rw [hlane]
    rfl
  have htracked : tracked = s := by
    unfold tracked
    rw [hfaulted, hstill, htracks]
    rfl
  have hsettled : settled.axes[ax].state = .standstill ∧ settled.axes[ax].limitPending = s.axes[ax].limitPending := by
    unfold settled
    rw [htracked]
    exact State.settleMotion_rest hstill _
  rw [hsettled.2, hlimits]
  exact hsettled.1

theorem axisSample_takesMove (t : Ns) (ax : Fin 16) (done : Ns) (o : Bytes) (x : AxisCmd) (s : State) (h : StepSampleDue t ax o s)
    (hlane : s.axisLaneBad o = false) (htracks : s.tracks ax o = false) (hstill : s.axes[ax].state = .standstill)
    (hlimits : s.axes[ax].limitPending = false) (hcmds : s.axes[ax].cmds = [x])
    (hstamp : x.stamp ≤ (s.tickClock (s.gridTick (max s.clock t)) + 36000).toNat) (hmove : cmCommand x.obj = 1)
    (hok : axisCommandOk o x.obj = true) (hsoft : acSoft o = false) : Completes (.axisSample t ax done) s fun u =>
      u.axes[ax].state = .moving ∧ u.axes[ax].target = qRound (cmTarget x.obj) ∧
      u.axes[ax].plan.final = qRound (cmTarget x.obj) ∧ u.axes[ax].lastSeq = cmSeq x.obj ∧ u.axes[ax].lastResult = 0 ∧
      ∀ k : Fin 16, k ≠ ax → u.axes[k] = s.axes[k] := by
  have hworks := State.axisReady_works ax o ((s.begin t).effectAt o (max (max s.clock t) done)) (s.gridTick (max s.clock t)) (s.begin t)
  have hready := State.axisReady_rest (s := s.begin t) hlane htracks hstill hlimits
    ((s.begin t).effectAt o (max (max s.clock t) done)) (s.gridTick (max s.clock t))
  obtain ⟨hmoves, hseq, hresult⟩ := State.axisObey_moveAbs (hworks.cfg.trans h.cfg) hready (hworks.cmds.trans hcmds) hstamp hmove hok
    hsoft ((s.begin t).effectAt o (max (max s.clock t) done))
  have hclose := State.axisClose_closes ax o (s.gridTick (max s.clock t)) (max (max s.clock t) done) (s.axisTaken t ax done o)
  exact ⟨_, h.exec_eq done, hclose.state.trans hmoves.state, hclose.target.trans hmoves.target,
    (congrArg Plan.final hclose.plan).trans hmoves.final, hclose.lastSeq.trans hseq, hclose.lastResult.trans hresult,
    fun k hk => StepSampleDue.others k hk done⟩

/-! ### AXIS_SLIP (R230, R272) -/

theorem axisSlip_drops (t : Ns) (ax : Fin 16) (o : Bytes) (i : Nat) (s : State) (hlate : s.axes[ax].firstLate = some i)
    (hcfg : s.axes[ax].cfg = some o) (hpast : s.tickClock (i + acSlip o * acPeriod o) + 36000 < max s.clock t) :
    Completes (.axisSlip t ax) s fun u =>
      u.axes[ax] = { s.axes[ax] with
        owed := [], firstLate := none, slipFlag := true, slips := satAdd 32 s.axes[ax].slips 1 } ∧
      ∀ k : Fin 16, k ≠ ax → u.axes[k] = s.axes[k] := by
  have hrun : exec (.axisSlip t ax) s = .next (((s.begin t).updAxis ax fun a => { a with
      owed := [], firstLate := none, slipFlag := true, slips := satAdd 32 a.slips 1 }).record .mot .axisSlip [ax.val]) := by
    rw [exec_axisSlip, execAxisSlip]
    simp only [State.begin_axes, hlate, hcfg]
    exact if_pos hpast
  refine ⟨_, hrun, ?_, fun k hk => ?_⟩
  · simp only [State.record_axes, State.updAxis_same]
    rfl
  · simp only [State.record_axes]
    exact State.updAxis_ne hk _ _

/-! ### STEP_DEBT_TIMEOUT (R264) -/

/-- The axis is in FAULT with the steps that were left. -/
structure Axis.FaultWith (step : Step) (a : Axis) : Prop where
  state : a.state = .fault
  step : a.step = step

theorem State.axisFault_faults {ax : Fin 16} {s : State} (h : s.axes[ax].state ≠ .disabled) (e : Rat) (cause : Nat) :
    (s.axisFault ax e cause).axes[ax].FaultWith s.axes[ax].step := by
  unfold State.axisFault
  split
  · rename_i hrests
    rw [Bool.or_eq_true, decide_eq_true_iff, decide_eq_true_iff] at hrests
    exact ⟨hrests.resolve_right h, rfl⟩
  · extract_lets stopped faulted
    have hfaulted : faulted.axes[ax].FaultWith s.axes[ax].step := by
      unfold faulted stopped State.quickStop State.setPlan State.notifyAxis
      simp only [State.notifyAxisAt_axes, State.updAxis_same]
      exact ⟨rfl, rfl⟩
    simpa only [State.record_axes] using hfaulted

theorem State.unverify_unverifies (ax : Fin 16) (s : State) :
    (s.unverify ax).axes[ax] = { s.axes[ax] with posUnverified := true } := by
  unfold State.unverify
  by_cases hset : s.axes[ax].posUnverified = true
  · have hsame : ({ s.axes[ax] with posUnverified := true } : Axis) = s.axes[ax] := by rw [← hset]
    rw [if_pos hset, hsame]
  · rw [if_neg hset]
    simp only [State.record_axes, State.updAxis_same]

theorem stepDebtTimeout_faults (t : Ns) (ax : Fin 16) (o : Bytes) (d : Ns) (s : State) (hcfg : s.axes[ax].cfg = some o)
    (hsince : s.axes[ax].step.debtSince = some d) (hdebt : s.axes[ax].step.debt ≠ 0) (hpast : d + 20000000 ≤ max s.clock t)
    (hon : s.axes[ax].state ≠ .disabled) : Completes (.stepDebtTimeout t ax) s fun u =>
      u.axes[ax].state = .fault ∧ u.axes[ax].posUnverified = true ∧ u.axes[ax].step = s.axes[ax].step ∧
      ∀ k : Fin 16, k ≠ ax → u.axes[k] = s.axes[k] := by
  have hdue : (s.axes[ax].step.debt != 0 && decide (d + 20000000 ≤ (s.begin t).clock)) = true :=
    Bool.and_eq_true_iff.mpr ⟨bne_iff_ne.mpr hdebt, decide_eq_true hpast⟩
  have hrun : exec (.stepDebtTimeout t ax) s =
      .next (((s.begin t).axisFault ax ((s.begin t).effectAt o t) faultDebt).unverify ax) := by
    rw [exec_stepDebtTimeout, execStepDebtTimeout]
    simp only [State.begin_axes, hcfg, hsince]
    exact if_pos hdue
  have hfault := State.axisFault_faults (s := s.begin t) hon ((s.begin t).effectAt o t) faultDebt
  have hworks := ((AxisWorks.refl ax (s.begin t)).axisFault ((s.begin t).effectAt o t) faultDebt).unverify
  refine ⟨_, hrun, ?_, ?_, ?_, hworks.others⟩
  all_goals rw [State.unverify_unverifies]
  · exact hfault.state
  · exact hfault.step

/-! ### The obligation -/

/-- Settles O16, clause by clause: a sample works on one axis in three parts, and the slip and the fault update that axis. -/
theorem axisSamples : Obligations.AxisSamples := by
  unfold Obligations.AxisSamples
  exact ⟨fun t ax done o s hcfg hpend hservo hup hfail howed hgrid hlast hfloor hreached =>
      axisSample_counts t ax done o s ⟨hcfg, hpend, hservo, hup, hfail, howed, hgrid, hlast, hfloor, hreached⟩,
    fun t ax done o x s hcfg hpend hservo hup hfail howed hgrid hlast hfloor hreached =>
      axisSample_takesMove t ax done o x s ⟨hcfg, hpend, hservo, hup, hfail, howed, hgrid, hlast, hfloor, hreached⟩,
    axisSlip_drops, stepDebtTimeout_faults⟩

end Sys2Proof.Machine
end

section
/-! Axis commands (obligation AxisCommands): a configuration waits for its axis, a command joins the commands of its axis whatever its
code, and a table is stored or refused after the record of its load. -/

namespace Sys2Proof.Machine

/-! ### AXIS_CONFIG (R242 to R244) -/

theorem axisConfig_waits (t : Ns) (org : Origin) (o : Bytes) (ax : Fin 16) (s : State)
    (hadmits : (s.begin t).Admits org opAxisConfig [.mot]) (hlen : o.length = 128) (hcheck : (s.begin t).axisCheck o = none)
    (hax : ax = acAxis o) (hconfigured : acEnable o = true ∨ s.axes[ax].cfg.isSome = true) : Completes (.axisConfig t org o) s fun u =>
      (u.axes[ax].pendCfg.map fun x => (x.1, x.2.1)) = some (org, o) ∧ u.axes[ax].cfg = s.axes[ax].cfg ∧
      u.axes[ax].state = s.axes[ax].state ∧ ∀ k : Fin 16, k ≠ ax → u.axes[k] = s.axes[k] := by
  subst hax
  have hformat : badField (o.length != 128) = none := by rw [hlen]; rfl
  have hwaits : ¬ (!acEnable o && (s.begin t).axes[acAxis o].cfg.isNone) = true := by
    rw [State.begin_axes]
    rcases hconfigured with henable | hcfg
    · simp [henable]
    · rw [Option.isNone_eq_false_iff.mpr hcfg, Bool.and_false]
      exact Bool.false_ne_true
  rw [Completes, exec_axisConfig, execAxisConfig]
  refine ⟨_, serve_next hadmits hformat hcheck, ?_⟩
  rw [if_neg hwaits, State.updAxis_same]
  exact ⟨rfl, rfl, rfl, fun k hk => State.updAxis_ne hk _ (s.begin t)⟩

/-! ### AXIS_COMMAND (R246) -/

/-- A command released to its axis joins its commands with the present stamp, and no other axis changes. -/
theorem State.releaseAxis_joins (fromPrg : Bool) (org : Option Origin) (o : Bytes) (s : State) :
    (s.releaseAxis fromPrg org o).axes[cmAxis o] = { s.axes[cmAxis o] with
      cmds := s.axes[cmAxis o].cmds ++ [{ stamp := s.clock, fromPrg := fromPrg, obj := o, org := org }] } ∧
    ∀ k : Fin 16, k ≠ cmAxis o → (s.releaseAxis fromPrg org o).axes[k] = s.axes[k] :=
  ⟨State.updAxis_same _ _ s, fun _ hk => State.updAxis_ne hk _ s⟩

/-- The commands of all eight codes are released alike. -/
theorem axisCommand_joins {c : Ns → Origin → Bytes → Instr} {code : Nat}
    (hexec : ∀ t org o s, exec (c t org o) s = axisCommand code org o (s.begin t)) (t : Ns) (org : Origin) (o : Bytes) (ax : Fin 16)
    (s : State) (hadmits : (s.begin t).Admits org opAxisCommand [.mot]) (hlen : o.length = 64) (hcode : cmCommand o = code)
    (hax : ax = cmAxis o) (hfree : ∀ x ∈ s.axes[ax].cmds, x.org = none) (hcfg : s.axes[ax].cfg.isSome = true) :
    Completes (c t org o) s fun u =>
      u.axes[ax] = { s.axes[ax] with
        cmds := s.axes[ax].cmds ++ [{ stamp := max s.clock t, fromPrg := false, obj := o, org := some org }] } ∧
      ∀ k : Fin 16, k ≠ ax → u.axes[k] = s.axes[k] := by
  subst hax
  have hformat : badField (o.length != 64 || cmCommand o != code) = none := by simp [badField, hlen, hcode]
  have hidle : (s.axes[cmAxis o].cmds.any fun x => x.org.isSome) = false :=
    List.any_eq_false.mpr fun x hx => by simp [hfree x hx]
  have hconfigured : s.axes[cmAxis o].cfg.isNone = false := Option.isNone_eq_false_iff.mpr hcfg
  have hcheck : firstOf [fails ((s.begin t).axes[cmAxis o].cmds.any fun x => x.org.isSome) .busy,
      fails (s.begin t).axes[cmAxis o].cfg.isNone (.error stWrongState)] = none := by
    rw [State.begin_axes, fails_false hidle, fails_false hconfigured]
    rfl
  rw [Completes, hexec, axisCommand]
  exact ⟨_, serve_next hadmits hformat hcheck, State.releaseAxis_joins false (some org) o (s.begin t)⟩

/-! ### A record before a descriptor is taken up (R19, R426) -/

section
variable (src : Isl) (kind : RecKind) (items : List Int) (s : State)

/-- A record counts at most a drop of its island. -/
theorem State.record_island (i : Isl) : (s.record src kind items).island i = s.island i ∨
    (s.record src kind items).island i = { s.island i with drops := satAdd 32 (s.island i).drops 1 } := by
  unfold State.record State.submitAs
  dsimp only
  split
  · exact .inl rfl
  · unfold State.island State.updIsland
    rcases eq_or_ne src.idx i.idx with hsame | hother
    · exact .inr (by simp [← hsame, State.updRec])
    · have hval : src.idx.val ≠ i.idx.val := fun e => hother (Fin.ext e)
      exact .inl (by simp [hval, State.updRec])

@[simp] theorem State.record_islandCode (i : Isl) : (s.record src kind items).islandCode i = s.islandCode i := by
  have hoff : (s.record src kind items).domainOff i = s.domainOff i := by
    simp only [State.domainOff, State.record_mb]
  unfold State.islandCode
  rw [hoff]
  rcases State.record_island src kind items s i with h | h <;> rw [h]

@[simp] theorem State.record_policy (org : Origin) (op : Nat) : (s.record src kind items).policy org op = s.policy org op := by
  obtain ⟨r, i, h⟩ := s.record_eq src kind items
  rw [h]
  rfl

/-- A record leaves a descriptor admitted. -/
theorem State.Admits.record {s : State} {org : Origin} {op : Nat} {l : List Isl} (h : s.Admits org op l) :
    (s.record src kind items).Admits org op l := by
  obtain ⟨hbarrier, hgate⟩ := h
  constructor
  · simpa only [State.waitsBarrier, State.record_pair, State.record_clock] using hbarrier
  · simpa only [State.gate, State.islandGate, State.record_policy, State.record_islandCode] using hgate

@[simp] theorem State.record_tables : (s.record src kind items).tables = s.tables :=
  (State.record_keep src kind items s).same .tables (by decide)
@[simp] theorem State.complete_tables (org : Origin) (o : Outcome) : (s.complete org o).tables = s.tables :=
  (State.complete_keep org o s).same .tables (by decide)
end

/-! ### TABLE_LOAD (R254, R256) -/

/-- The table at this index runs on an axis. -/
def State.tableRuns (s : State) (idx : Fin 256) : Bool :=
  (List.finRange 16).any fun k => match s.axes[k].run with | some r => r.index = idx | none => false

theorem State.tableRuns_iff {s : State} {idx : Fin 256} :
    s.tableRuns idx = true ↔ ∃ k : Fin 16, (s.axes[k].run.map (·.index)) = some idx := by
  rw [State.tableRuns, List.any_eq_true]
  refine exists_congr fun k => ?_
  cases s.axes[k].run <;> simp [List.mem_finRange]

/-- The answer to a table outside the limits of its axis: the first piece that fails and the value found (R256). -/
def tableLimitAnswer (b : Nat × Rat) : Outcome :=
  .error stTableLimit (wr 4 b.1 ++ wr 4 0 ++ wrS 8 (roundAway (b.2 * 2 ^ 32)))

/-- The checks of TABLE_LOAD past its length, in order. -/
def State.tableCheck (s : State) (org : Origin) (o : Bytes) : Option Outcome :=
  let idx : Fin 256 := Fin.ofNat 256 (tlIndex o)
  let cfg := s.axes[Fin.ofNat 16 (tlAxis o)].cfg
  let bad := match cfg with | some c => tableExceeds o (acPeriod c) (acV c) (acA c) (acD c) | none => none
  firstOf [badField (!tableFormat o), fails cfg.isNone (.error stWrongState), fails (s.tableRuns idx) (.error stTableInUse),
    fails (s.tablePending org idx.val) .busy, fails (decide (32768 < s.poolUsed (some idx) + tlCount o)) .capacity,
    bad.map tableLimitAnswer]

@[simp] theorem State.begin_tableCheck (t : Ns) (org : Origin) (o : Bytes) (s : State) :
    (s.begin t).tableCheck org o = s.tableCheck org o := rfl

theorem tableFormat_length {o : Bytes} (h : tableFormat o = true) : badField (decide (o.length < 32)) = none := by
  simp only [tableFormat, Bool.and_eq_true, beq_iff_eq, decide_eq_true_eq] at h
  obtain ⟨⟨⟨⟨_, hlen⟩, _⟩, _⟩, _⟩ := h
  exact fails_false (decide_eq_false (by omega)) (.error stInvalidField)

/-- An admitted TABLE_LOAD is recorded with the outcome of its checks, then served. -/
theorem exec_tableLoad_admitted {t : Ns} {org : Origin} {o : Bytes} {s : State}
    (hadmits : (s.begin t).Admits org opTableLoad [.mot]) (hformat : tableFormat o = true) :
    exec (.tableLoad t org o) s = serve org opTableLoad [.mot] none ((s.begin t).tableCheck org o)
      (fun u => ({ u with tables := u.tables.set (Fin.ofNat 256 (tlIndex o)) (some { obj := o }) }).complete org .done)
      ((s.begin t).record .mot .tableLoad [((Fin.ofNat 256 (tlIndex o) : Fin 256) : Int),
        outcomeCode ((s.begin t).tableCheck org o)]) := by
  obtain ⟨hbarrier, hgate⟩ := hadmits
  rw [exec_tableLoad, execTableLoad, tableFormat_length hformat, hbarrier, hgate]
  rfl

theorem tableLoad_stores (t : Ns) (org : Origin) (o c : Bytes) (s : State) (hadmits : (s.begin t).Admits org opTableLoad [.mot])
    (hformat : tableFormat o = true) (hcfg : s.axes[Fin.ofNat 16 (tlAxis o)].cfg = some c)
    (hunused : ∀ k : Fin 16, ∀ r, s.axes[k].run = some r → r.index ≠ Fin.ofNat 256 (tlIndex o))
    (hpending : s.tablePending org (tlIndex o % 256) = false)
    (hpool : s.poolUsed (some (Fin.ofNat 256 (tlIndex o))) + tlCount o ≤ 32768)
    (hlimits : tableExceeds o (acPeriod c) (acV c) (acA c) (acD c) = none) : Completes (.tableLoad t org o) s fun u =>
      u.tables = s.tables.set (Fin.ofNat 256 (tlIndex o)) (some { obj := o }) ∧ u.axes = s.axes := by
  have hruns : s.tableRuns (Fin.ofNat 256 (tlIndex o)) = false := by
    rw [Bool.eq_false_iff, ne_eq, State.tableRuns_iff]
    rintro ⟨k, hk⟩
    obtain ⟨r, hr, hindex⟩ := Option.map_eq_some_iff.mp hk
    exact hunused k r hr hindex
  have hcheck : (s.begin t).tableCheck org o = none := by
    rw [State.begin_tableCheck, State.tableCheck]
    simp only [hcfg, badField_not hformat, fails_false hruns, hlimits, fails_false (decide_eq_false hpool.not_gt)]
    rw [fails_false (c := s.tablePending org (Fin.ofNat 256 (tlIndex o)).val) hpending]
    rfl
  rw [Completes, exec_tableLoad_admitted hadmits hformat]
  exact ⟨_, serve_next (State.Admits.record _ _ _ hadmits) rfl hcheck, by simp, by simp⟩

theorem tableLoad_refusedInUse (t : Ns) (org : Origin) (o : Bytes) (s : State) (hadmits : (s.begin t).Admits org opTableLoad [.mot])
    (hformat : tableFormat o = true) (hcfg : s.axes[Fin.ofNat 16 (tlAxis o)].cfg.isSome = true)
    (hused : ∃ k : Fin 16, (s.axes[k].run.map (·.index)) = some (Fin.ofNat 256 (tlIndex o))) :
    Completes (.tableLoad t org o) s fun u => u.tables = s.tables ∧ u.axes = s.axes := by
  have hconfigured : s.axes[Fin.ofNat 16 (tlAxis o)].cfg.isNone = false := Option.isNone_eq_false_iff.mpr hcfg
  have hcheck : (s.begin t).tableCheck org o = some (.error stTableInUse) := by
    rw [State.begin_tableCheck, State.tableCheck]
    simp only [badField_not hformat, fails_false hconfigured, State.tableRuns_iff.mpr hused]
    rfl
  rw [Completes, exec_tableLoad_admitted hadmits hformat]
  obtain ⟨hbarrier, hgate⟩ := State.Admits.record .mot .tableLoad
    [((Fin.ofNat 256 (tlIndex o) : Fin 256) : Int), outcomeCode ((s.begin t).tableCheck org o)] hadmits
  refine ⟨_, serve_refused (o := .error stTableInUse) hbarrier ?_, by simp, by simp⟩
  rw [Option.orElse_none, hgate, Option.orElse_none, hcheck]

/-! ### The obligation -/

/-- Settles O17: the eight axis commands are one lemma over their code, and a TABLE_LOAD is served after its record. -/
theorem axisCommands : Obligations.AxisCommands := by
  unfold Obligations.AxisCommands
  exact ⟨axisConfig_waits, axisCommand_joins exec_moveAbs, axisCommand_joins exec_moveRel, axisCommand_joins exec_runTable,
    axisCommand_joins exec_axisStop, axisCommand_joins exec_quickStop, axisCommand_joins exec_setPosition,
    axisCommand_joins exec_setLimits, axisCommand_joins exec_resetFault, tableLoad_stores, tableLoad_refusedInUse⟩

end Sys2Proof.Machine
end

section
/-! The safety island: what posts leave of the clock, what an operation on one function leaves of SAF, and the commands that follow from
the states of the functions. The layer that the obligations SafetyCycle, SafetyFunctions and SafetyConfigurationAndFaults share. -/

namespace Sys2Proof.Machine

/-! ### Posts to mailboxes leave the clock alone (R454, R460) -/

section
variable (s : State)

theorem State.updMb_sends (f : MbHub → MbHub) : Sends s (s.updMb f) := .of_eq rfl rfl rfl

theorem State.accessOff_sends (who : Ident) (n : Fin 32) : Sends s (s.accessOff who n) :=
  .ite (s.updMb_sends _) ((s.updMb_sends _).trans (State.emit_sends _ _))

theorem State.hubData_sends (who : Ident) (n : Fin 32) (j : Fin 16) (v : Word) : Sends s (s.hubData who n j v) :=
  .ite (s.accessOff_sends who n) (.ite (s.updMb_sends _) (.ite (s.updBox_sends n _) (State.updBox_sends n _ s)))

theorem State.answerCrossings_sends (i : Isl) (code : CrossCode) : Sends s (s.answerCrossings i code) :=
  Sends.trans (t := { s with crossings := s.crossings.filter fun x => x.dst != i }) (.of_eq rfl rfl rfl)
    (.foldl (fun t (x : Crossing) => t.emit_sends (.crossingError x.src i code)) _ _)

theorem State.domainCrossings_sends (i : Ident) (d : Dom) : Sends s (s.domainCrossings i d) := by
  unfold State.domainCrossings
  split
  · exact .refl s
  · rename_i k _
    extract_lets a
    have ha : Sends s a := .of_eq rfl rfl rfl
    cases d with
    | off => exact ha.trans (a.answerCrossings_sends k _)
    | on => exact ha.trans (.of_eq rfl rfl rfl)
    | sleep => exact ha

theorem State.setDomain_sends (i : Ident) (d : Dom) : Sends s (s.setDomain i d) :=
  .ite (.refl s) (((s.updMb_sends _).trans (State.domainCrossings_sends _ i d)).trans (State.record_sends _ _ _ _))

theorem State.queueEvent_sends (trig : Trigger) (e : PrgEvent) : Sends s (s.queueEvent trig e) := .ite (.of_eq rfl rfl rfl) (.refl s)

theorem State.pushEvent_sends (trig : Trigger) (e : PrgEvent) : Sends s (s.pushEvent trig e) :=
  .ite (s.updPair_sends _) (s.queueEvent_sends trig e)

theorem State.wakeReceiver_sends (n : Fin 32) : Sends s (s.wakeReceiver n) := by
  unfold State.wakeReceiver
  split
  · split
    · exact s.signal_sends _
    · exact (s.updHif_sends _).trans (State.emit_sends _ _)
    · exact .refl s
  · exact .refl s
  · exact .refl s
  · exact .refl s
  · extract_lets a
    have ha : Sends s a := .ite (s.setDomain_sends _ _) (.refl s)
    split
    · exact ha.trans (a.pushEvent_sends _ _)
    · exact ha
    · exact ha.trans (a.emit_sends _)

theorem State.markCrossed_sends (n : Fin 32) : Sends s (s.markCrossed n) :=
  .foldl (fun t k => .ite ((t.updBox_sends k _).trans (State.updBox_sends n _ _)) (.refl t)) _ s

theorem State.hubPost_sends (who : Ident) (n : Fin 32) : Sends s (s.hubPost who n) := by
  unfold State.hubPost
  extract_lets b rcv a c
  have ha : Sends s a := (s.updBox_sends n _).trans (State.markCrossed_sends _ n)
  have hc : Sends s c := ha.trans (.ite (a.updMb_sends _) (.refl a))
  exact .ite (s.updMb_sends _) (.ite (s.updBox_sends n _) (.ite ((s.updBox_sends n _).trans (State.accessOff_sends _ who n))
    (.ite (s.updBox_sends n _) (.ite (s.updBox_sends n _) (hc.trans (c.wakeReceiver_sends n))))))

theorem State.programPost_sends (who : Ident) (n : Fin 32) (data : List Word) : Sends s (s.programPost who n data) := by
  unfold State.programPost State.atHub
  split
  · exact s.emit_sends _
  · refine Sends.trans (.foldl (fun t j => ?_) _ s) (State.hubPost_sends _ who n)
    split
    · exact t.hubData_sends who n j _
    · exact .refl t

theorem State.postStatus_sends (changed : Bool) : Sends s (s.postStatus changed) :=
  .foldl (fun t n => .ite (.ite (t.updMb_sends _) ((t.programPost_sends .saf n _).trans (State.updMb_sends _ _))) (.refl t)) _ s

@[simp] theorem State.postStatus_saf (changed : Bool) : (s.postStatus changed).saf = s.saf :=
  (State.postStatus_keep changed s).same .saf (by decide)
@[simp] theorem State.postStatus_chans (changed : Bool) : (s.postStatus changed).chans = s.chans :=
  (State.postStatus_keep changed s).same .chans (by decide)
@[simp] theorem State.postStatus_groups (changed : Bool) : (s.postStatus changed).groups = s.groups :=
  (State.postStatus_keep changed s).same .groups (by decide)
end

/-! ### What stays of SAF -/

/-- From `s` to `t` what `view` shows of SAF stays. -/
def SafKeeps {β : Type} (view : Saf → β) (s t : State) : Prop := view t.saf = view s.saf

namespace SafKeeps
variable {β : Type} {view : Saf → β} {s t u : State}

theorem refl (s : State) : SafKeeps view s s := rfl

theorem trans (h : SafKeeps view s t) (k : SafKeeps view t u) : SafKeeps view s u := Eq.trans k h

theorem ite {c : Prop} [Decidable c] (h : SafKeeps view s t) (k : SafKeeps view s u) : SafKeeps view s (if c then t else u) := by
  split
  · exact h
  · exact k

theorem foldl {α : Type} {f : State → α → State} (h : ∀ s x, SafKeeps view s (f s x)) (l : List α) (s : State) :
    SafKeeps view s (l.foldl f s) :=
  List.foldlRecOn l f (refl s) fun _ hb x _ => hb.trans (h _ x)

theorem forAll {n : Nat} {F : Fin n → State → State} (h : ∀ i u, SafKeeps view u (F i u)) (s : State) :
    SafKeeps view s (forAll n F s) := foldl (fun s i => h i s) _ s

theorem of_saf (h : t.saf = s.saf) : SafKeeps view s t := congrArg view h

/-- What leaves SAF alone. -/
theorem of_keep {m : Nat} (k : Keep m s t) (hm : m.testBit Aspect.saf.bit = false) : SafKeeps view s t := of_saf (k.same .saf hm)

/-- An update that the view does not show. -/
theorem updSaf (s : State) (f : Saf → Saf) (hf : ∀ v, view (f v) = view v := by exact fun _ => rfl) : SafKeeps view s (s.updSaf f) :=
  hf s.saf

/-- What a view shows shows a part of it. -/
theorem sees {γ : Type} {part : Saf → γ} (h : SafKeeps view s t) (f : β → γ)
    (hf : ∀ v, f (view v) = part v := by exact fun _ => rfl) : SafKeeps part s t :=
  (hf _).symm.trans ((congrArg f h).trans (hf _))

/-- A part of SAF that the view shows. -/
theorem read {γ : Type} (h : SafKeeps view s t) (part : Saf → γ) (f : β → γ)
    (hf : ∀ v, f (view v) = part v := by exact fun _ => rfl) : part t.saf = part s.saf := h.sees f hf

end SafKeeps

/-- SAF beside its functions. -/
def Saf.besidesFns (v : Saf) : Saf := { v with fns := Vector.replicate 48 {} }

/-- SAF beside what the evaluation of its functions and groups in a cycle works on. -/
def Saf.besidesWork (v : Saf) : Saf :=
  { v.besidesFns with stuckBy := Vector.replicate 8 none, testFor := Vector.replicate 8 [], groupReclose := Vector.replicate 8 .idle,
                      supplySince := Vector.replicate 8 none, highOpen := Vector.replicate 8 false }

/-- From `s` to `t` SAF works on functions and groups alone. -/
abbrev SafWorks (s t : State) : Prop := SafKeeps Saf.besidesWork s t

/-! ### Operations on one function -/

theorem State.updFn_same (sf : Fin 48) (f : SafFn → SafFn) (s : State) : (s.updFn sf f).saf.fns[sf] = f s.saf.fns[sf] := by
  simp [State.updFn]

theorem State.updFn_ne {sf k : Fin 48} (h : k ≠ sf) (f : SafFn → SafFn) (s : State) :
    (s.updFn sf f).saf.fns[k] = s.saf.fns[k] := by
  have hv : sf.val ≠ k.val := fun e => h (Fin.ext e.symm)
  simp [State.updFn, hv]

/-- From `s` to `t` SAF changes one function at most. -/
structure OnlyFn (sf : Fin 48) (s t : State) : Prop where
  other : ∀ k : Fin 48, k ≠ sf → t.saf.fns[k] = s.saf.fns[k]
  rest : SafKeeps Saf.besidesFns s t

namespace OnlyFn
variable {sf : Fin 48} {s t u : State}

theorem of_saf (h : t.saf = s.saf) : OnlyFn sf s t := ⟨fun _ _ => by rw [h], .of_saf h⟩

theorem refl (s : State) : OnlyFn sf s s := of_saf rfl

theorem trans (h : OnlyFn sf s t) (k : OnlyFn sf t u) : OnlyFn sf s u :=
  ⟨fun j hj => (k.other j hj).trans (h.other j hj), h.rest.trans k.rest⟩

theorem ite {c : Prop} [Decidable c] (h : OnlyFn sf s t) (k : OnlyFn sf s u) : OnlyFn sf s (if c then t else u) := by
  split
  · exact h
  · exact k

theorem updFn (sf : Fin 48) (f : SafFn → SafFn) (s : State) : OnlyFn sf s (s.updFn sf f) :=
  ⟨fun _ hk => State.updFn_ne hk f s, rfl⟩

theorem record (h : OnlyFn sf s t) (src : Isl) (kind : RecKind) (items : List Int) : OnlyFn sf s (t.record src kind items) :=
  h.trans (.of_saf (State.record_saf _ _ _ _))

theorem works (h : OnlyFn sf s t) : SafWorks s t := h.rest.sees Saf.besidesWork

end OnlyFn

section
variable (sf : Fin 48) (s : State)

/-- A function that is not yet in a state enters it, beside a record. -/
theorem State.setSf_saf (x : SfState) (h : s.saf.fns[sf].state ≠ x) : ∃ n, (s.setSf sf x).saf =
    (s.updFn sf fun f => { f with state := x, demands := n }).saf := by
  unfold State.setSf
  extract_lets f cause a
  rw [if_neg h, State.record_saf]
  exact ⟨_, rfl⟩

theorem State.setSf_same {x : SfState} (h : s.saf.fns[sf].state = x) : s.setSf sf x = s := if_pos h

theorem State.setSf_state (x : SfState) : (s.setSf sf x).saf.fns[sf].state = x := by
  by_cases h : s.saf.fns[sf].state = x
  · rw [s.setSf_same sf h, h]
  · obtain ⟨n, hn⟩ := s.setSf_saf sf x h
    rw [hn, State.updFn_same]

theorem State.setSf_causes (x : SfState) : (s.setSf sf x).saf.fns[sf].causes = s.saf.fns[sf].causes := by
  by_cases h : s.saf.fns[sf].state = x
  · rw [s.setSf_same sf h]
  · obtain ⟨n, hn⟩ := s.setSf_saf sf x h
    rw [hn, State.updFn_same]

theorem State.setSf_only (x : SfState) : OnlyFn sf s (s.setSf sf x) := .ite (.refl s) ((OnlyFn.updFn sf _ s).record _ _ _)

theorem State.lockSf_only (c : SfCause) : OnlyFn sf s (s.lockSf sf c) :=
  .ite (.refl s) ((OnlyFn.updFn sf _ s).trans (State.setSf_only sf _ _))

/-- A new cause locks an active function. -/
theorem State.lockSf_locks {c : SfCause} (hactive : s.saf.fns[sf].state.active = true)
    (hnew : s.saf.fns[sf].causes.contains c = false) :
    (s.lockSf sf c).saf.fns[sf].state = .locked ∧ (s.lockSf sf c).saf.fns[sf].causes = s.saf.fns[sf].causes ++ [c] := by
  have hcond : ¬ (!s.saf.fns[sf].state.active || s.saf.fns[sf].causes.contains c) = true := by rw [hactive, hnew]; decide
  unfold State.lockSf
  extract_lets f pairs
  rw [if_neg hcond]
  exact ⟨State.setSf_state _ _ _, by rw [State.setSf_causes, State.updFn_same]⟩

theorem State.unlockSf_only : OnlyFn sf s (s.unlockSf sf) := .ite (s.setSf_only sf _) (.refl s)

theorem State.unlockSf_causes : (s.unlockSf sf).saf.fns[sf].causes = s.saf.fns[sf].causes := by
  unfold State.unlockSf
  extract_lets f
  split
  · exact s.setSf_causes sf _
  · rfl

theorem State.dropCause_only (gone : SfCause → Bool) : OnlyFn sf s (s.dropCause sf gone) := .updFn sf _ s

theorem State.dropCause_fn (gone : SfCause → Bool) : (s.dropCause sf gone).saf.fns[sf] =
    { s.saf.fns[sf] with causes := s.saf.fns[sf].causes.filter fun c => !gone c } := State.updFn_same sf _ s
end

/-- An operation on each function in turn meets every function as it was, and SAF beside its functions as it was. -/
theorem forAll_fn {F : Fin 48 → State → State} (hF : ∀ i t, OnlyFn i t (F i t)) {s : State} (sf : Fin 48) {Q : SafFn → Prop}
    (h : ∀ t : State, SafKeeps Saf.besidesFns s t → t.saf.fns[sf] = s.saf.fns[sf] → Q (F sf t).saf.fns[sf]) :
    Q (forAll 48 F s).saf.fns[sf] := by
  refine forAll_at (P := fun t => SafKeeps Saf.besidesFns s t ∧ t.saf.fns[sf] = s.saf.fns[sf])
    (Q := fun t => Q t.saf.fns[sf]) sf ?_ (fun t ht => h t ht.1 ht.2) ?_ ⟨.refl s, rfl⟩
  · rintro i hi t ⟨hrest, hfn⟩
    exact ⟨hrest.trans (hF i t).rest, ((hF i t).other sf hi.symm).trans hfn⟩
  · intro i hi t ht
    rw [(hF i t).other sf hi.symm]
    exact ht

/-- An operation on each function leaves SAF beside its functions. -/
theorem forAll_fns {F : Fin 48 → State → State} (hF : ∀ i t, OnlyFn i t (F i t)) (s : State) :
    SafKeeps Saf.besidesFns s (forAll 48 F s) := .forAll (fun i t => (hF i t).rest) s

/-- OUTPUT_STUCK of a channel works on its function and on the switch of its group. -/
theorem State.stuckOut_keeps {β : Type} (view : Saf → β) (sf : Fin 48) (c : Fin 128) (s : State)
    (hv : ∀ (v : Saf) (fns : Vector SafFn 48), view { v with fns := fns } = view v := by exact fun _ _ => rfl)
    (hstuck : ∀ (v : Saf) (k : Vector (Option (Fin 48)) 8), view { v with stuckBy := k } = view v := by exact fun _ _ => rfl) :
    SafKeeps view s (s.stuckOut sf c) := by
  have hlock : ∀ x, SafKeeps view s (s.lockSf sf x) := fun x =>
    (hv _ _).symm.trans ((congrArg view (s.lockSf_only sf x).rest).trans (hv _ _))
  unfold State.stuckOut
  exact .ite (hlock _) (.ite (.refl s) (.ite ((hlock _).trans (hstuck _ _)) (.refl s)))

/-! ### The commands that follow from the states (R276, R289, R290) -/

/-- SAF's commands are those of the states, beside the report of STO to the axes. -/
theorem State.safOutputs_eq (s : State) : ∃ x : Vector Axis 16, (∀ ax : Fin 16, x[ax].sto = s.safSto ax) ∧
    s.safOutputs = { s with axes := x, saf := { s.saf with release := some s.safCmd } } := by
  have hform : ∃ x : Vector Axis 16, forAll 16 (fun ax s => s.updAxis ax fun a => { a with sto := s.safSto ax }) s = { s with axes := x } :=
    forAll_induction (P := fun t => ∃ x : Vector Axis 16, t = { s with axes := x }) (by rintro ax t ⟨x, rfl⟩; exact ⟨_, rfl⟩) ⟨_, rfl⟩
  have hsto : ∀ ax : Fin 16, (forAll 16 (fun ax s => s.updAxis ax fun a => { a with sto := s.safSto ax }) s).axes[ax].sto = s.safSto ax := by
    intro ax
    refine (forAll_at (P := fun t => t.saf = s.saf) (Q := fun t => t.axes[ax].sto = s.safSto ax) ax (fun i _ t ht => ht)
      (fun t ht => ?_) (fun i hi t ht => ?_) rfl)
    · rw [State.updAxis_same]
      simp only [State.safSto, State.activeFns, State.sfEntry, State.safObj, ht]
    · rw [State.updAxis_ne hi.symm]
      exact ht
  obtain ⟨x, hx⟩ := hform
  rw [hx] at hsto
  exact ⟨x, hsto, by rw [State.safOutputs, hx]; rfl⟩

theorem State.safOutputs_saf (s : State) : s.safOutputs.saf = { s.saf with release := some s.safCmd } := by
  obtain ⟨x, -, h⟩ := s.safOutputs_eq
  rw [h]

theorem State.safOutputs_keeps {β : Type} (view : Saf → β) (s : State)
    (hv : ∀ (v : Saf) (r : Option SafCmd), view { v with release := r } = view v := by exact fun _ _ => rfl) :
    SafKeeps view s s.safOutputs := by
  rw [SafKeeps, State.safOutputs_saf, hv]

theorem State.safOutputs_commanded (s : State) : SafCommanded s.safOutputs := by
  obtain ⟨x, hsto, h⟩ := s.safOutputs_eq
  rw [h]
  exact ⟨rfl, hsto⟩

/-- What a connection has brought (R304, R307). -/
def SafConn.brought (c : SafConn) : ConnState × BitVec 16 × BitVec 16 := (c.state, c.stateBits, c.validBits)

/-- What the commands follow from stays: states, configuration, connections, groups, role and the time of release. -/
structure CommandsStand (s t : State) : Prop where
  clock : t.clock = s.clock
  time : t.time = s.time
  regs : t.regs = s.regs
  axes : t.axes = s.axes
  saf : SafKeeps (fun v => { v with conns := Vector.replicate 32 {} }) s t
  conns : ∀ (i : Nat) (hi : i < 32), t.saf.conns[i].brought = s.saf.conns[i].brought

namespace CommandsStand
variable {s t u : State}

theorem refl (s : State) : CommandsStand s s := ⟨rfl, rfl, rfl, rfl, rfl, fun _ _ => rfl⟩

theorem trans (h : CommandsStand s t) (k : CommandsStand t u) : CommandsStand s u :=
  ⟨k.clock.trans h.clock, k.time.trans h.time, k.regs.trans h.regs, k.axes.trans h.axes, h.saf.trans k.saf,
    fun i hi => (k.conns i hi).trans (h.conns i hi)⟩

theorem postStatus (changed : Bool) (s : State) : CommandsStand s (s.postStatus changed) := by
  have hkeep := State.postStatus_keep changed s
  exact ⟨(s.postStatus_sends changed).clock, hkeep.same .time (by decide), hkeep.same .regs (by decide), hkeep.same .axes (by decide),
    .of_saf (s.postStatus_saf changed), fun i hi => by rw [State.postStatus_saf]⟩

theorem updConn (i : Fin 32) (f : SafConn → SafConn) (s : State) (hf : ∀ c, (f c).brought = c.brought) :
    CommandsStand s (s.updConn i f) := by
  refine ⟨rfl, rfl, rfl, rfl, rfl, fun k hk => ?_⟩
  rcases eq_or_ne i.val k with rfl | hne
  · simp [State.updConn, hf]
  · simp [State.updConn, hne]

theorem produce (start : Int) (failsafe : Bool) (n : Bytes) (s : State) : CommandsStand s (s.produce start failsafe n) := by
  unfold State.produce
  split
  · exact .updConn _ _ s fun _ => rfl
  · exact .refl s

theorem produceAll (start : Int) (failsafe : Bool) (s : State) : CommandsStand s (s.produceAll start failsafe) :=
  List.foldlRecOn (motive := CommandsStand s) _ _ (.refl s) fun t ht n _ => ht.trans (.produce start failsafe n t)

theorem commanded (h : CommandsStand s t) (hs : SafCommanded s) : SafCommanded t := by
  have hfns : t.saf.fns = s.saf.fns := h.saf.read Saf.fns Saf.fns
  have hcfg : t.saf.cfg = s.saf.cfg := h.saf.read Saf.cfg Saf.cfg
  have hreclose : t.saf.groupReclose = s.saf.groupReclose := h.saf.read Saf.groupReclose Saf.groupReclose
  have hstuck : t.saf.stuckBy = s.saf.stuckBy := h.saf.read Saf.stuckBy Saf.stuckBy
  have hhigh : t.saf.highOpen = s.saf.highOpen := h.saf.read Saf.highOpen Saf.highOpen
  have hrelease : t.saf.release = s.saf.release := h.saf.read Saf.release Saf.release
  have hstate : ∀ (i : Nat) (hi : i < 32), t.saf.conns[i].state = s.saf.conns[i].state := fun i hi => congrArg Prod.fst (h.conns i hi)
  have hbits : ∀ (i : Nat) (hi : i < 32), t.saf.conns[i].stateBits = s.saf.conns[i].stateBits := fun i hi =>
    congrArg (fun x => x.2.1) (h.conns i hi)
  have hvalid : ∀ (i : Nat) (hi : i < 32), t.saf.conns[i].validBits = s.saf.conns[i].validBits := fun i hi =>
    congrArg (fun x => x.2.2) (h.conns i hi)
  have hrole : t.role = s.role := by rw [State.role, State.role, h.regs]
  have hobj : t.safObj = s.safObj := by rw [State.safObj, State.safObj, hcfg]
  have hstation : t.stationOn = s.stationOn := by
    simp only [State.stationOn, hrole, hobj, hstate, hbits, hvalid]
  have hon : t.safOn = s.safOn := by
    simp only [State.safOn, State.activeFns, State.outLocals, State.sfEntry, hstation, hobj, hfns, hreclose, hstuck, hhigh]
  have hovr : t.safOvr = s.safOvr := by
    simp only [State.safOvr, State.activeFns, State.sfEntry, hobj, hfns]
  have hnow : t.now = s.now := by rw [State.now, State.now, h.clock, h.time]
  have hat : t.releaseAt = s.releaseAt := by rw [State.releaseAt, State.releaseAt, hnow, h.time]
  have hsto : ∀ ax, t.safSto ax = s.safSto ax := fun ax => by
    simp only [State.safSto, State.activeFns, State.sfEntry, hobj, hfns]
  obtain ⟨hcmd, haxes⟩ := hs
  exact ⟨by rw [hrelease, hon, hovr, hat, hcmd], fun ax => by rw [h.axes, hsto, haxes]⟩

end CommandsStand

theorem State.afterLock_saf (codes : List Nat) (s : State) : (s.afterLock codes).saf = { s.saf with release := some s.safCmd } :=
  (State.postStatus_saf _ _).trans s.safOutputs_saf

theorem State.afterLock_commanded (codes : List Nat) (s : State) : SafCommanded (s.afterLock codes) :=
  (CommandsStand.postStatus _ _).commanded s.safOutputs_commanded

/-! ### The start of a command -/

@[simp] theorem State.begin_safLive (s : State) (t : Ns) : (s.begin t).safLive = s.safLive := rfl
@[simp] theorem State.begin_sfEntry (s : State) (t : Ns) (sf : Fin 48) : (s.begin t).sfEntry sf = s.sfEntry sf := rfl

end Sys2Proof.Machine
end

section
/-! The safety cycle (obligation SafetyCycle): what ISLAND_FAULT makes of functions, channels and switches, what an evaluation leaves of
SAF, then one lemma per clause. -/

namespace Sys2Proof.Machine

/-! ### ISLAND_FAULT (R278, R280) -/

/-- What ISLAND_FAULT makes of the functions, of the channels of safety groups and of their switches as they were in `s`. -/
structure FaultEntered (cls : SafFault) (s u : State) : Prop where
  fault : u.saf.fault = some cls
  fns : ∀ sf : Fin 48, s.saf.fns[sf].state.active = true → u.saf.fns[sf].state = .islandFault
  chans : ∀ c : Fin 128, s.safetyGroup (grp c) = true → u.chans[c].safOff = true ∧
    (s.mode c = .sdo → u.chans[c].permit = false ∧ u.chans[c].demand.on = false)
  switches : ∀ g : Fin 8, s.safetyGroup g = true → u.groups[g].discCmd = true

/-- ISLAND_FAULT looks at functions, registers and group configurations alone. -/
theorem FaultEntered.of_same {cls : SafFault} {s t u : State} (h : FaultEntered cls t u) (hfns : t.saf.fns = s.saf.fns)
    (hregs : t.regs = s.regs) (hgroups : t.groups = s.groups) : FaultEntered cls s u := by
  have hsafety : ∀ g, t.safetyGroup g = s.safetyGroup g := fun g => by rw [State.safetyGroup, State.safetyGroup, hregs]
  have hmode : ∀ c, t.mode c = s.mode c := fun c => by rw [State.mode, State.mode, hgroups]
  obtain ⟨hfault, hstop, hchans, hswitches⟩ := h
  refine ⟨hfault, fun sf hsf => hstop sf (hfns ▸ hsf), fun c hc => ?_, fun g hg => hswitches g ((hsafety g).trans hg)⟩
  obtain ⟨hoff, hsdo⟩ := hchans c ((hsafety _).trans hc)
  exact ⟨hoff, fun hm => hsdo ((hmode c).trans hm)⟩

/-- What ISLAND_FAULT has done stays. -/
structure FaultStays (s t : State) : Prop where
  fns : t.saf.fns = s.saf.fns
  chans : t.chans = s.chans
  groups : t.groups = s.groups

namespace FaultStays
variable {s t u : State}

theorem refl (s : State) : FaultStays s s := ⟨rfl, rfl, rfl⟩

theorem trans (h : FaultStays s t) (k : FaultStays t u) : FaultStays s u :=
  ⟨k.fns.trans h.fns, k.chans.trans h.chans, k.groups.trans h.groups⟩

theorem ite {c : Prop} [Decidable c] (h : FaultStays s t) (k : FaultStays s u) : FaultStays s (if c then t else u) := by
  split
  · exact h
  · exact k

theorem forAll {n : Nat} {F : Fin n → State → State} (h : ∀ i u, FaultStays u (F i u)) (s : State) : FaultStays s (forAll n F s) :=
  forAll_induction (P := FaultStays s) (fun i u hu => hu.trans (h i u)) (.refl s)

theorem updSaf (f : Saf → Saf) (s : State) (hf : ∀ v, (f v).fns = v.fns := by exact fun _ => rfl) : FaultStays s (s.updSaf f) :=
  ⟨hf s.saf, rfl, rfl⟩

theorem of_keep {m : Nat} (k : Keep m s t)
    (hm : (m.testBit Aspect.saf.bit || m.testBit Aspect.chans.bit || m.testBit Aspect.groups.bit) = false) : FaultStays s t := by
  simp only [Bool.or_eq_false_iff] at hm
  obtain ⟨⟨hsaf, hchans⟩, hgroups⟩ := hm
  exact ⟨congrArg Saf.fns (k.same .saf hsaf), k.same .chans hchans, k.same .groups hgroups⟩

theorem produceAll (start : Int) (failsafe : Bool) (s : State) : FaultStays s (s.produceAll start failsafe) :=
  ⟨(CommandsStand.produceAll start failsafe s).saf.read Saf.fns Saf.fns, (State.produceAll_keep _ _ s).same .chans (by decide),
    (State.produceAll_keep _ _ s).same .groups (by decide)⟩

end FaultStays

/-- An active function stops (R280). -/
def State.stopFn (sf : Fin 48) (s : State) : State := if s.saf.fns[sf].state.active then s.setSf sf .islandFault else s

theorem State.stopFn_only (sf : Fin 48) (s : State) : OnlyFn sf s (s.stopFn sf) := .ite (s.setSf_only sf _) (.refl s)

theorem State.stopFn_keep (sf : Fin 48) (s : State) : Keep 541065232 s (s.stopFn sf) :=
  .ite (fun _ => s.setSf_keep sf _) fun _ => .refl _ s

theorem forAll_stopFn_stops {s : State} {sf : Fin 48} (h : s.saf.fns[sf].state.active = true) :
    (forAll 48 State.stopFn s).saf.fns[sf].state = .islandFault := by
  refine forAll_fn State.stopFn_only sf (Q := fun f => f.state = .islandFault) fun t _ hfn => ?_
  rw [State.stopFn, if_pos (by rw [hfn]; exact h)]
  exact t.setSf_state sf _

/-- A channel of a safety group goes off by both paths (R280). -/
def State.safeChan (c : Fin 128) (s : State) : State :=
  if s.safetyGroup (grp c) then
    let s := if s.mode c = .sdo then
        s.updChan c fun x => { x with demand := { x.demand with on := false }, permit := false } else s
    s.updChan c fun x => { x with safOff := true }
  else s

theorem State.safeChan_form (c : Fin 128) (s : State) : ∃ x, s.safeChan c = { s with chans := x } := by
  unfold State.safeChan
  extract_lets a
  have ha : ∃ x, a = { s with chans := x } := by
    unfold a
    split
    · exact ⟨_, rfl⟩
    · exact ⟨_, rfl⟩
  obtain ⟨x, hx⟩ := ha
  split
  · rw [hx]
    exact ⟨_, rfl⟩
  · exact ⟨_, rfl⟩

theorem State.safeChan_other {c i : Fin 128} (h : c ≠ i) (s : State) : (s.safeChan i).chans[c] = s.chans[c] := by
  unfold State.safeChan
  extract_lets a
  have ha : a.chans[c] = s.chans[c] := by
    unfold a
    split
    · exact State.updChan_ne h _ s
    · rfl
  split
  · rw [State.updChan_ne h, ha]
  · rfl

theorem State.safeChan_off {c : Fin 128} {s : State} (h : s.safetyGroup (grp c) = true) : (s.safeChan c).chans[c].safOff = true ∧
    (s.mode c = .sdo → (s.safeChan c).chans[c].permit = false ∧ (s.safeChan c).chans[c].demand.on = false) := by
  unfold State.safeChan
  extract_lets a
  rw [if_pos h, State.updChan_same]
  refine ⟨rfl, fun hm => ?_⟩
  have ha : a = s.updChan c fun x => { x with demand := { x.demand with on := false }, permit := false } := if_pos hm
  rw [ha, State.updChan_same]
  exact ⟨rfl, rfl⟩

theorem forAll_safeChan_form (s : State) : ∃ x, forAll 128 State.safeChan s = { s with chans := x } := by
  refine forAll_induction (P := fun t => ∃ x, t = { s with chans := x }) ?_ ⟨_, rfl⟩
  rintro c t ⟨x, rfl⟩
  obtain ⟨y, hy⟩ := State.safeChan_form c { s with chans := x }
  exact ⟨y, hy⟩

theorem forAll_safeChan_off {c : Fin 128} {s : State} (h : s.safetyGroup (grp c) = true) :
    (forAll 128 State.safeChan s).chans[c].safOff = true ∧ (s.mode c = .sdo →
      (forAll 128 State.safeChan s).chans[c].permit = false ∧ (forAll 128 State.safeChan s).chans[c].demand.on = false) := by
  refine forAll_at (P := fun t => ∃ x, t = { s with chans := x })
    (Q := fun t => t.chans[c].safOff = true ∧ (s.mode c = .sdo → t.chans[c].permit = false ∧ t.chans[c].demand.on = false)) c
    ?_ ?_ ?_ ⟨_, rfl⟩
  · rintro i - t ⟨x, rfl⟩
    exact State.safeChan_form i _
  · rintro t ⟨x, rfl⟩
    exact State.safeChan_off (s := { s with chans := x }) h
  · intro i hi t ht
    rw [State.safeChan_other hi.symm]
    exact ht

/-- The switch of a safety group opens (R280). -/
def State.openSwitch (g : Fin 8) (s : State) : State :=
  if s.safetyGroup g then s.updGroup g fun q => { q with discCmd := true, discFor := none } else s

theorem forAll_openSwitch_form (s : State) : ∃ x, forAll 8 State.openSwitch s = { s with groups := x } := by
  refine forAll_induction (P := fun t => ∃ x, t = { s with groups := x }) ?_ ⟨_, rfl⟩
  rintro g t ⟨x, rfl⟩
  unfold State.openSwitch
  split
  · exact ⟨_, rfl⟩
  · exact ⟨_, rfl⟩

theorem forAll_openSwitch_opens {g : Fin 8} {s : State} (h : s.safetyGroup g = true) :
    (forAll 8 State.openSwitch s).groups[g].discCmd = true := by
  have hregs : ∀ (i : Fin 8) (t : State), (t.openSwitch i).regs = t.regs := fun i t => by
    unfold State.openSwitch
    split <;> rfl
  refine forAll_at (P := fun t => t.regs = s.regs) (Q := fun t => t.groups[g].discCmd = true) g
    (fun i _ t ht => (hregs i t).trans ht) (fun t ht => ?_) (fun i hi t ht => ?_) rfl
  · have hg : t.safetyGroup g = true := by rw [State.safetyGroup, ht]; exact h
    rw [State.openSwitch, if_pos hg, State.updGroup_same]
  · unfold State.openSwitch
    split
    · rw [State.updGroup_ne hi.symm]
      exact ht
    · exact ht

/-- The parts of ISLAND_FAULT before its frames, answers and posts. -/
theorem State.islandFault_parts {s : State} (hfault : s.saf.fault = none) (cls : SafFault) : ∃ t,
    FaultStays (forAll 8 State.openSwitch (forAll 128 State.safeChan (forAll 48 State.stopFn (s.record .saf .islandFault [cls.num])))) t ∧
    t.saf.fault = some cls ∧ s.islandFault cls = t := by
  unfold State.islandFault
  rw [if_neg (by simp [hfault])]
  extract_lets o axes a b c d e f g h i
  have he : FaultStays d e := by
    refine .forAll (fun ax t => .ite ?_ (.refl t)) d
    exact ⟨rfl, rfl, rfl⟩
  clear_value e
  have hf : FaultStays e f := by
    refine .ite (.forAll (fun n t => ?_) e) (.produceAll _ _ e)
    exact ⟨rfl, rfl, rfl⟩
  clear_value f
  have hg : FaultStays f g := by
    unfold g
    split
    · exact (FaultStays.updSaf _ f).trans (.of_keep (State.safAnswer_keep _ _ _ _) (by decide))
    · exact .refl f
  clear_value g
  have hh : FaultStays g h := (FaultStays.updSaf _ g).trans (.of_keep (State.postStatus_keep true _) (by decide))
  have hi : FaultStays h i := .ite ⟨rfl, rfl, rfl⟩ (.refl h)
  have hset : h.saf.fault = some cls := by
    unfold h
    rw [State.postStatus_saf]
    rfl
  have hlast : i.saf.fault = some cls := by
    unfold i
    split
    · exact hset
    · exact hset
  refine ⟨_, (he.trans (hf.trans (hg.trans (hh.trans hi)))).trans (.of_keep (State.settleHealth_keep i) (by decide)), ?_, rfl⟩
  rw [(State.settleHealth_keep i).same .saf (by decide)]
  exact hlast

theorem State.islandFault_enters {s : State} (hfault : s.saf.fault = none) (cls : SafFault) :
    FaultEntered cls s (s.islandFault cls) := by
  obtain ⟨t, ⟨hfns, hchans, hgroups⟩, hset, ht⟩ := State.islandFault_parts hfault cls
  rw [ht]
  have hrecord : (s.record .saf .islandFault [cls.num]).saf.fns = s.saf.fns := by rw [State.record_saf]
  have hstop : ∀ sf : Fin 48, (s.record .saf .islandFault [cls.num]).saf.fns[sf].state.active = true →
      (forAll 48 State.stopFn (s.record .saf .islandFault [cls.num])).saf.fns[sf].state = .islandFault := fun sf => forAll_stopFn_stops
  have hkeep := ((State.record_keep .saf .islandFault [cls.num] s).mono (by decide)).trans (.forAll State.stopFn_keep _)
  generalize forAll 48 State.stopFn (s.record .saf .islandFault [cls.num]) = b at *
  obtain ⟨x, hx⟩ := forAll_safeChan_form b
  obtain ⟨y, hy⟩ := forAll_openSwitch_form (forAll 128 State.safeChan b)
  have hfns : t.saf.fns = b.saf.fns := by rw [hfns, hy, hx]
  have hchans : t.chans = (forAll 128 State.safeChan b).chans := by rw [hchans, hy]
  have hsafety : ∀ g, b.safetyGroup g = s.safetyGroup g := fun g => by
    rw [State.safetyGroup, State.safetyGroup, hkeep.same .regs (by decide)]
  have hmode : ∀ c, b.mode c = s.mode c := fun c => by rw [State.mode, State.mode, hkeep.same .groups (by decide)]
  have hsafetyChans : ∀ g, (forAll 128 State.safeChan b).safetyGroup g = s.safetyGroup g := fun g => by
    rw [hx, ← hsafety]
    rfl
  refine ⟨hset, fun sf hsf => ?_, fun c hc => ?_, fun g hg => ?_⟩
  · rw [hfns]
    exact hstop sf (hrecord ▸ hsf)
  · rw [hchans, ← hmode]
    exact forAll_safeChan_off ((hsafety _).trans hc)
  · rw [hgroups]
    exact forAll_openSwitch_opens ((hsafetyChans g).trans hg)

/-! ### What an evaluation leaves of SAF (R276, R289) -/

section
variable (sf : Fin 48) (s : State)

theorem State.stepPair_only (start : Int) (old : Vector SafChan 64) (p : Fin 4) : OnlyFn sf s (s.stepPair start old sf p) := by
  unfold State.stepPair
  extract_lets e ia ib ca cb a b q r real q2 x y z
  have hx : OnlyFn sf s x := .updFn sf _ s
  have hy : OnlyFn sf x y := .ite (x.lockSf_only sf _) (.refl x)
  have hz : OnlyFn sf y z := .ite (y.lockSf_only sf _) (.refl y)
  exact .ite (.refl s) ((hx.trans (hy.trans hz)).trans (.ite (z.lockSf_only sf _) (.refl z)))

theorem State.stoStep_only : OnlyFn sf s (s.stoStep sf) := by
  unfold State.stoStep
  extract_lets e c fb f late left a
  have ha : OnlyFn sf s a := .updFn sf _ s
  exact .ite (.refl s) (.ite (ha.trans (a.lockSf_only sf _)) ha)

theorem State.newCauses_works : SafWorks s (s.newCauses sf) := by
  unfold State.newCauses
  extract_lets a b c d e
  have hlock : ∀ (t : State) (x : SfCause), SafWorks t (t.lockSf sf x) := fun t x => (t.lockSf_only sf x).works
  have ha : SafWorks s a := .foldl (fun t x => t.stuckOut_keeps _ sf x) _ s
  have hb : SafWorks a b := by
    refine .foldl (fun t x => .ite ?_ (.refl t)) _ a
    split
    · exact hlock t _
    · exact .refl t
  have hc : SafWorks b c := (b.stoStep_only sf).works
  have hd : SafWorks c d := .foldl (fun t n => .ite (hlock t _) (.refl t)) _ c
  have he : SafWorks d e := .forAll (fun g t => .ite (hlock t _) (.refl t)) d
  exact (ha.trans (hb.trans (hc.trans (hd.trans he)))).trans (.forAll (fun g t => .ite (hlock t _) (.refl t)) e)

theorem State.moveSf_only : OnlyFn sf s (s.moveSf sf) := by
  unfold State.moveSf
  extract_lets a dem
  have ha : OnlyFn sf s a := s.unlockSf_only sf
  split
  · exact .ite (ha.trans (a.setSf_only sf _)) ha
  · exact .ite (ha.trans ((OnlyFn.updFn sf _ a).trans (State.setSf_only sf _ _))) ha
  · exact .ite (ha.trans ((OnlyFn.updFn sf _ a).trans (State.setSf_only sf _ _))) ha
  · exact .ite ha (ha.trans (a.setSf_only sf _))
  · exact ha

theorem State.cycleSf_works (start : Int) (old : Vector SafChan 64) : SafWorks s (s.cycleSf start old sf) := by
  unfold State.cycleSf
  extract_lets before a b gone
  have ha : SafWorks s a := .forAll (fun p t => (t.stepPair_only sf start old p).works) s
  have hb : SafWorks a b := a.newCauses_works sf
  exact .ite (.refl s) ((ha.trans hb).trans (((b.dropCause_only sf _).trans (State.moveSf_only sf _)).works))

theorem State.startReclose_works (who : Option (Fin 48)) (g : Fin 8) : SafWorks s (s.startReclose who g) := by
  unfold State.startReclose
  extract_lets due fresh first
  exact rfl

theorem State.tryReset_works (settled : Bool) (durUs : Nat) : SafWorks s (s.tryReset sf settled durUs) := by
  unfold State.tryReset
  extract_lets accepted f
  have haccept : OnlyFn sf s (accepted s) := (OnlyFn.updFn sf _ s).record _ _ _
  refine .ite (haccept.trans (State.setSf_only sf _ _)).works ?_
  split
  · exact haccept.works.trans (.foldl (fun t g => t.startReclose_works _ g) _ _)
  · exact ((OnlyFn.updFn sf _ s).record _ _ _).works

theorem State.cycleButton_works (start : Int) (old : Vector SafChan 64) : SafWorks s (s.cycleButton start old sf) := by
  unfold State.cycleButton
  extract_lets i c b upd
  have hupd : ∀ (g : Button → Button) (t : State), OnlyFn sf t (upd g t) := fun g t => .updFn sf _ t
  clear_value upd
  refine .ite (.refl s) (.ite ?_ (.ite ?_ ?_))
  · exact (hupd _ s).works
  · split
    · exact (hupd _ s).works
    · exact .refl s
  · split
    · refine .ite (.refl s) ?_
      exact (hupd _ s).works
    · extract_lets dur durUs a
      have ha : OnlyFn sf s a := hupd _ s
      exact .ite (.ite ha.works ((ha.trans (hupd _ a)).record _ _ _).works) (.ite ((ha.trans (hupd _ a)).record _ _ _).works
        (ha.works.trans (a.tryReset_works sf _ _)))
end

theorem State.cycleGroup_works (g : Fin 8) (s : State) : SafWorks s (s.cycleGroup g) := by
  unfold State.cycleGroup
  extract_lets sup fine high a b open_
  have ha : SafWorks s a := rfl
  have hb : SafWorks a b := .ite rfl (.refl a)
  exact (ha.trans hb).trans (.ite (b.startReclose_works none g) (.refl b))

/-- The cycle, the fault and the history of the clocks. -/
def Saf.paced (v : Saf) : Nat × Option SafFault × List Bool := (v.cycle, v.fault, v.historyA)

theorem State.safActivate_keeps (reset : Bool) (o : Bytes) (s : State) :
    SafKeeps (fun v => (v.paced, v.activate)) s (s.safActivate reset o) := by
  unfold State.safActivate
  extract_lets old kept before a b
  have ha : SafKeeps (fun v => (v.paced, v.activate)) s a := rfl
  have hb : SafKeeps (fun v => (v.paced, v.activate)) a b := by
    refine SafKeeps.sees (view := Saf.besidesFns) (.forAll (fun sf t => .ite (.refl t) ?_) a) (fun v => (v.paced, v.activate))
    extract_lets e c
    have hc : SafKeeps Saf.besidesFns t c := rfl
    exact .ite hc (hc.trans (.of_saf (State.record_saf _ _ _ _)))
  refine (ha.trans hb).trans (.forAll (fun i t => .ite (.refl t) ?_) b)
  extract_lets was c
  have hc : SafKeeps (fun v => (v.paced, v.activate)) t c := rfl
  exact .ite hc (hc.trans (.of_saf (State.record_saf _ _ _ _)))

/-- A raise of T_M is taken, and reported by the functions (R312, R313). -/
theorem State.raiseTm_keeps (s : State) :
    SafKeeps (fun v => (v.paced, v.activate)) s s.raiseTm ∧ s.raiseTm.saf.tMraise = none := by
  unfold State.raiseTm
  split
  · rename_i hnone
    exact ⟨.refl s, hnone⟩
  · split
    · exact ⟨rfl, rfl⟩
    · extract_lets a o b
      have ha : SafKeeps (fun v => (v.paced, v.activate)) s a := .updSaf s _
      have hreport : ∀ F : Fin 48 → State → State, (∀ i t, OnlyFn i t (F i t)) →
          SafKeeps (fun v => (v.paced, v.activate)) s (forAll 48 F b) ∧ (forAll 48 F b).saf.tMraise = none := by
        intro F hF
        have hrest : SafKeeps Saf.besidesFns a (forAll 48 F b) := SafKeeps.trans (.of_saf (State.record_saf _ _ _ _)) (forAll_fns hF b)
        exact ⟨ha.trans (hrest.sees fun v => (v.paced, v.activate)), hrest.read Saf.tMraise Saf.tMraise⟩
      refine hreport _ fun sf t => ?_
      extract_lets e tR above new c
      have hc : OnlyFn sf t c := .updFn sf _ t
      refine .ite (.refl t) (.ite (hc.trans (.of_saf ?_)) hc)
      rw [(State.ledgerWarn_keep _ _ _ _ _).same .saf (by decide), (State.postEvent_keep _ _ _ _).same .saf (by decide), State.record_saf]

/-- The evaluation of a cycle: a confirmation and a raise of T_M are taken, the first cycle of a configuration is over. -/
structure Evaluated (s u : State) : Prop where
  paced : SafKeeps Saf.paced s u
  activate : u.saf.activate = none
  tMraise : u.saf.tMraise = none
  firstCycle : u.saf.firstCycle = false

theorem State.evaluate_evaluates (start : Int) (s : State) : Evaluated s (s.evaluate start) ∧ SafCommanded (s.evaluate start) := by
  unfold State.evaluate
  extract_lets codes a b flags c d e old new f g h i
  clear_value codes flags old new
  have ha : SafKeeps Saf.paced s a ∧ a.saf.activate = none := by
    unfold a
    split
    · rename_i org o _
      extract_lets x
      have hx : SafKeeps (fun v => (v.paced, v.activate)) (s.updSaf fun v => { v with activate := none }) x := State.safActivate_keeps false o _
      have hy : SafKeeps (fun v => (v.paced, v.activate)) x
          ((x.storeObject (BitVec.ofNat 16 opSafetyConfig) 0 (some o)).safAnswer .safetyConfirm org .done) :=
        (SafKeeps.of_keep (State.storeObject_keep _ _ _ x) (by decide)).trans (.of_keep (State.safAnswer_keep _ _ _ _) (by decide))
      exact ⟨(hx.trans hy).sees Prod.fst, (hx.trans hy).read Saf.activate Prod.snd⟩
    · rename_i hnone
      exact ⟨.refl s, hnone⟩
  clear_value a
  obtain ⟨hpaced, hactivate⟩ := ha
  obtain ⟨hb, hraise⟩ := a.raiseTm_keeps
  have hd : SafWorks c d := .forAll State.cycleGroup_works c
  have hg : SafWorks f g := .forAll (fun sf t => t.cycleSf_works sf start old) f
  have hh : SafWorks g h := .forAll (fun sf t => t.cycleButton_works sf start old) g
  have hi : SafKeeps (fun v => (v.paced, v.activate, v.tMraise, v.firstCycle)) h i := (h.safOutputs_keeps _).trans
    ((CommandsStand.produceAll start false _).saf.sees fun v => (v.paced, v.activate, v.tMraise, v.firstCycle))
  have hlate : SafKeeps (fun v => (v.paced, v.activate, v.tMraise, v.firstCycle)) f (i.postStatus (i.sfCodes != codes)) :=
    ((hg.trans hh).sees fun v => (v.paced, v.activate, v.tMraise, v.firstCycle)).trans (hi.trans (.of_saf (State.postStatus_saf _ _)))
  have hc : SafKeeps (fun v => (v.paced, v.activate, v.tMraise)) b c := .updSaf b _
  have he : SafKeeps (fun v => (v.paced, v.activate, v.tMraise)) d e := .updSaf d _
  have hf : SafKeeps (fun v => (v.paced, v.activate, v.tMraise)) e f := .updSaf e _
  have hearly : SafKeeps (fun v => (v.paced, v.activate, v.tMraise)) b f :=
    hc.trans ((hd.sees fun v => (v.paced, v.activate, v.tMraise)).trans (he.trans hf))
  refine ⟨⟨?_, ?_, ?_, hlate.read Saf.firstCycle fun v => v.2.2.2⟩, ?_⟩
  · exact hpaced.trans ((hb.sees Prod.fst).trans ((hearly.sees Prod.fst).trans (hlate.sees Prod.fst)))
  · exact (hlate.read Saf.activate fun v => v.2.1).trans ((hearly.read Saf.activate fun v => v.2.1).trans
      ((hb.read Saf.activate Prod.snd).trans hactivate))
  · exact (hlate.read Saf.tMraise fun v => v.2.2.1).trans ((hearly.read Saf.tMraise fun v => v.2.2).trans hraise)
  · exact ((CommandsStand.produceAll start false _).trans (.postStatus _ _)).commanded h.safOutputs_commanded

/-! ### SAFETY_CYCLE (R276 to R278) -/

/-- A cycle is taken: its number, and the measured lengths in the histories unless ring time stepped (R277). -/
def State.cycleTaken (k : Nat) (lenA lenB : Rat) (inTimeA inTimeB : Bool) (s : State) : State :=
  let s := s.updSaf fun v => { v with cycle := k }
  let skip := s.time.stepped
  let s := s.updTime fun x => { x with stepped := false }
  let s := if skip then s else s.updSaf fun v => { v with
    historyA := (offTime lenA :: v.historyA).take 10, historyB := (offTime lenB :: v.historyB).take 10 }
  s.updSaf fun v => { v with
    clockFaultA := clockFault v.historyA || !inTimeB, clockFaultB := clockFault v.historyB || !inTimeA }

section
variable {s : State} {k : Nat} {lenA lenB : Rat} {inA inB : Bool}

theorem State.cycleTaken_groups : (s.cycleTaken k lenA lenB inA inB).groups = s.groups := by
  unfold State.cycleTaken
  extract_lets a skip b c
  have hc : c.groups = b.groups := by
    unfold c
    split <;> rfl
  exact hc

theorem State.cycleTaken_regs : (s.cycleTaken k lenA lenB inA inB).regs = s.regs := by
  unfold State.cycleTaken
  extract_lets a skip b c
  have hc : c.regs = b.regs := by
    unfold c
    split <;> rfl
  exact hc

theorem State.cycleTaken_fault : SafKeeps (fun v => (v.fns, v.fault)) s (s.cycleTaken k lenA lenB inA inB) := by
  unfold State.cycleTaken
  extract_lets a skip b c
  have hc : SafKeeps (fun v => (v.fns, v.fault)) b c := .ite (.refl b) rfl
  exact hc

theorem State.cycleTaken_saf (h : s.time.stepped = false) : (s.cycleTaken k lenA lenB inA inB).saf = { s.saf with
    cycle := k, historyA := (offTime lenA :: s.saf.historyA).take 10, historyB := (offTime lenB :: s.saf.historyB).take 10,
    clockFaultA := clockFault ((offTime lenA :: s.saf.historyA).take 10) || !inB,
    clockFaultB := clockFault ((offTime lenB :: s.saf.historyB).take 10) || !inA } := by
  unfold State.cycleTaken
  extract_lets a skip b c
  have hc : c = b.updSaf fun v => { v with
      historyA := (offTime lenA :: v.historyA).take 10, historyB := (offTime lenB :: v.historyB).take 10 } :=
    if_neg (by rw [show skip = s.time.stepped from rfl, h]; decide)
  rw [hc]
  rfl
end

/-- A cycle at its reading instant, once. -/
theorem exec_safetyCycle_reads {t : Ns} {agree inA inB : Bool} {lenA lenB : Rat} {s : State} (hup : s.up .saf = true)
    (hnew : s.saf.cycle ≠ ((s.begin t).now / 1000000).toNat) (hfrom : 40000 ≤ (s.begin t).now % 1000000)
    (huntil : (s.begin t).now % 1000000 < 50000) (hpower : s.mod.failAt = none) (hfault : s.saf.fault = none) :
    exec (.safetyCycle t agree lenA lenB inA inB) s =
      let a := (s.begin t).cycleTaken ((s.begin t).now / 1000000).toNat lenA lenB inA inB
      if !agree then .next (a.islandFault .compare)
      else if a.saf.clockFaultA || a.saf.clockFaultB then .next (a.islandFault .clock)
      else .next (a.evaluate (1000000 * (((s.begin t).now / 1000000).toNat : Int))) := by
  have hreads : (s.begin t).readsNow = true := by rw [State.readsNow, decide_eq_true hfrom, decide_eq_true huntil]; rfl
  have hidle : ¬ (!(s.begin t).up .saf || (s.begin t).saf.cycle == ((s.begin t).now / 1000000).toNat || !(s.begin t).readsNow ||
      (s.begin t).mod.failAt.isSome) = true := by
    rw [State.begin_up, hup, hreads, State.begin_mod, hpower, State.begin_saf, beq_eq_false_iff_ne.mpr hnew]
    decide
  have hlive : ¬ ((s.begin t).updSaf fun v => { v with cycle := ((s.begin t).now / 1000000).toNat }).saf.fault.isSome = true := by
    rw [State.updSaf_saf, State.begin_saf, hfault]
    decide
  rw [exec_safetyCycle, execSafetyCycle]
  exact (if_neg hidle).trans (if_neg hlive)

theorem safetyCycle_releases (t : Ns) (lenA lenB : Rat) (s : State) (hup : s.up .saf = true)
    (hnew : s.saf.cycle ≠ ((s.begin t).now / 1000000).toNat) (hfrom : 40000 ≤ (s.begin t).now % 1000000)
    (huntil : (s.begin t).now % 1000000 < 50000) (hpower : s.mod.failAt = none) (hfault : s.saf.fault = none)
    (hstep : s.time.stepped = false) (hA : clockFault ((offTime lenA :: s.saf.historyA).take 10) = false)
    (hB : clockFault ((offTime lenB :: s.saf.historyB).take 10) = false) :
    Completes (.safetyCycle t true lenA lenB true true) s fun u =>
      u.saf.cycle = ((s.begin t).now / 1000000).toNat ∧ u.saf.fault = none ∧ u.saf.activate = none ∧ u.saf.firstCycle = false ∧
      u.saf.tMraise = none ∧ u.saf.historyA = (offTime lenA :: s.saf.historyA).take 10 ∧ SafCommanded u := by
  rw [Completes, exec_safetyCycle_reads hup hnew hfrom huntil hpower hfault]
  have hsaf := State.cycleTaken_saf (s := s.begin t) (k := ((s.begin t).now / 1000000).toNat) (lenA := lenA) (lenB := lenB) (inA := true)
    (inB := true) hstep
  generalize (s.begin t).cycleTaken ((s.begin t).now / 1000000).toNat lenA lenB true true = a at hsaf
  have hclocks : ¬ (a.saf.clockFaultA || a.saf.clockFaultB) = true := by
    rw [hsaf]
    simp only [State.begin_saf, hA, hB]
    decide
  obtain ⟨⟨hpaced, hactivate, hraise, hfirst⟩, hcmd⟩ := a.evaluate_evaluates (1000000 * (((s.begin t).now / 1000000).toNat : Int))
  refine ⟨_, (if_neg (by decide)).trans (if_neg hclocks), ?_, ?_, hactivate, hfirst, hraise, ?_, hcmd⟩
  · exact (hpaced.read Saf.cycle Prod.fst).trans (by rw [hsaf])
  · exact (hpaced.read Saf.fault fun v => v.2.1).trans (by rw [hsaf]; exact hfault)
  · exact (hpaced.read Saf.historyA fun v => v.2.2).trans (by rw [hsaf]; rfl)

theorem safetyCycle_differs (t : Ns) (lenA lenB : Rat) (inA inB : Bool) (s : State) (hup : s.up .saf = true)
    (hnew : s.saf.cycle ≠ ((s.begin t).now / 1000000).toNat) (hfrom : 40000 ≤ (s.begin t).now % 1000000)
    (huntil : (s.begin t).now % 1000000 < 50000) (hpower : s.mod.failAt = none) (hfault : s.saf.fault = none) :
    Completes (.safetyCycle t false lenA lenB inA inB) s fun u =>
      u.saf.fault = some .compare ∧ (∀ sf : Fin 48, s.saf.fns[sf].state.active = true → u.saf.fns[sf].state = .islandFault) ∧
      (∀ c : Fin 128, s.safetyGroup (grp c) = true → u.chans[c].safOff = true ∧
        (s.mode c = .sdo → u.chans[c].permit = false ∧ u.chans[c].demand.on = false)) ∧
      ∀ g : Fin 8, s.safetyGroup g = true → u.groups[g].discCmd = true := by
  rw [Completes, exec_safetyCycle_reads hup hnew hfrom huntil hpower hfault]
  generalize ha : (s.begin t).cycleTaken ((s.begin t).now / 1000000).toNat lenA lenB inA inB = a
  have hkeeps : SafKeeps (fun v => (v.fns, v.fault)) (s.begin t) a := ha ▸ State.cycleTaken_fault
  have henters : FaultEntered .compare s (a.islandFault .compare) :=
    (State.islandFault_enters ((hkeeps.read Saf.fault Prod.snd).trans hfault) .compare).of_same (hkeeps.read Saf.fns Prod.fst)
      (ha ▸ State.cycleTaken_regs) (ha ▸ State.cycleTaken_groups)
  obtain ⟨hset, hfns, hchans, hswitches⟩ := henters
  exact ⟨_, if_pos rfl, hset, hfns, hchans, hswitches⟩

/-- Settles O18: a cycle that agrees keeps the pace of SAF through its evaluation, whose last act is the commands of the states; one
that differs is an ISLAND_FAULT. -/
theorem safetyCycle : Obligations.SafetyCycle := by
  unfold Obligations.SafetyCycle
  exact ⟨safetyCycle_releases, safetyCycle_differs⟩

end Sys2Proof.Machine
end

section
/-! Safety functions (obligation SafetyFunctions): lock-outs, reset buttons, input faults and supplies, then re-close tests, then the
release of SAF's commands at a cut-off and the end of a permit. -/

namespace Sys2Proof.Machine

/-! ### Lock-outs (R292, R299) -/

/-- A new cause locks its function, and SAF's commands follow. -/
theorem State.lockSf_afterLock {sf : Fin 48} {c : SfCause} {s : State} (hactive : s.saf.fns[sf].state.active = true)
    (hnew : s.saf.fns[sf].causes.contains c = false) (codes : List Nat) :
    ((s.lockSf sf c).afterLock codes).saf.fns[sf].state = .locked ∧
    ((s.lockSf sf c).afterLock codes).saf.fns[sf].causes = s.saf.fns[sf].causes ++ [c] ∧
    SafCommanded ((s.lockSf sf c).afterLock codes) ∧
    ∀ k : Fin 48, k ≠ sf → ((s.lockSf sf c).afterLock codes).saf.fns[k].state = s.saf.fns[k].state := by
  obtain ⟨hstate, hcauses⟩ := s.lockSf_locks sf hactive hnew
  have hcmd := (s.lockSf sf c).afterLock_commanded codes
  rw [State.afterLock_saf]
  exact ⟨hstate, hcauses, hcmd, fun k hk => congrArg SafFn.state ((s.lockSf_only sf c).other k hk)⟩

theorem discrepancy_locks (t : Ns) (sf : Fin 48) (p : Fin 4) (limit : Int) (s : State) (hlive : s.safLive = true)
    (hactive : s.saf.fns[sf].state.active = true) (hlimit : (s.begin t).discrepant sf p = some limit)
    (hnew : s.saf.fns[sf].causes.contains (.discrepancy p (follower (s.sfEntry sf) p.val s.saf.fns[sf].pairs[p].firstIsA)) = false) :
    Completes (.discrepancy t sf p []) s fun u =>
      u.saf.fns[sf].state = .locked ∧
      u.saf.fns[sf].causes = s.saf.fns[sf].causes ++ [.discrepancy p (follower (s.sfEntry sf) p.val s.saf.fns[sf].pairs[p].firstIsA)] ∧
      SafCommanded u ∧ ∀ k : Fin 48, k ≠ sf → u.saf.fns[k].state = s.saf.fns[k].state := by
  have hcond : ¬ (!(s.begin t).safLive || !(s.begin t).saf.fns[sf].state.active) = true := by
    rw [State.begin_safLive, State.begin_saf, hlive, hactive]
    decide
  rw [Completes, exec_discrepancy, execDiscrepancy]
  dsimp only
  rw [if_neg hcond, hlimit]
  refine ⟨_, rfl, ?_⟩
  rw [State.deferOr_nil]
  exact State.lockSf_afterLock (s := s.begin t) hactive hnew _

theorem stoFeedback_locks (t : Ns) (sf : Fin 48) (t0 : Ns) (s : State) (hlive : s.safLive = true)
    (hactive : s.saf.fns[sf].state.active = true) (hoff : s.saf.fns[sf].offSince = some t0) (hfb : sfFb (s.sfEntry sf) ≠ 0xFF)
    (hout : s.saf.fns[sf].outCmd = false) (hreached : s.saf.fns[sf].fbReached = false)
    (hlate : (t0 : Int) + s.time.ringOff + 1000000 * sfFbTime (s.sfEntry sf) < 1000000 * s.saf.cycle)
    (hnew : s.saf.fns[sf].causes.contains .stoFeedback = false) : Completes (.stoFeedback t sf) s fun u =>
      u.saf.fns[sf].state = .locked ∧ u.saf.fns[sf].causes = s.saf.fns[sf].causes ++ [.stoFeedback] ∧ SafCommanded u ∧
      ∀ k : Fin 48, k ≠ sf → u.saf.fns[k].state = s.saf.fns[k].state := by
  have hcond : ¬ (!(s.begin t).safLive || !(s.begin t).saf.fns[sf].state.active || sfFb ((s.begin t).sfEntry sf) = 0xFF ||
      (s.begin t).saf.fns[sf].outCmd || (s.begin t).saf.fns[sf].fbReached || decide (1000000 * ((s.begin t).saf.cycle : Int) ≤
        (t0 : Int) + (s.begin t).time.ringOff + 1000000 * sfFbTime ((s.begin t).sfEntry sf))) = true := by
    rw [State.begin_safLive, State.begin_sfEntry, State.begin_saf, State.begin_time, hlive, hactive, hout, hreached, decide_eq_false hfb,
      decide_eq_false hlate.not_ge]
    decide
  rw [Completes, exec_stoFeedback, execStoFeedback]
  dsimp only
  rw [State.begin_saf, hoff]
  exact ⟨_, if_neg hcond, State.lockSf_afterLock (s := s.begin t) hactive hnew _⟩

/-! ### The reset button (R297) -/

theorem resetHeld_logs (t : Ns) (sf : Fin 48) (p : Int) (s : State) (hlive : s.safLive = true)
    (hpress : s.saf.fns[sf].button.pressStart = some p) (hnew : s.saf.fns[sf].button.heldLogged = false)
    (hlong : p + 3000000000 < (s.begin t).now) : Completes (.resetHeld t sf) s fun u =>
      u.saf.fns[sf] = { s.saf.fns[sf] with button := { s.saf.fns[sf].button with
        heldLogged := true, held := satAdd 32 s.saf.fns[sf].button.held 1, lastResult := 4 } } ∧
      ∀ k : Fin 48, k ≠ sf → u.saf.fns[k] = s.saf.fns[k] := by
  have hcond : ¬ (!(s.begin t).safLive || (s.begin t).saf.fns[sf].button.heldLogged || (s.begin t).now ≤ p + 3000000000) = true := by
    rw [State.begin_safLive, State.begin_saf, hlive, hnew, decide_eq_false hlong.not_ge]
    decide
  have hrun : exec (.resetHeld t sf) s = .next (((s.begin t).updFn sf fun f => { f with
      button := { f.button with heldLogged := true, held := satAdd 32 f.button.held 1, lastResult := 4 } }).record .saf
        .resetHeld [sf.val, (((s.begin t).now - p) / 1000).toNat]) := by
    rw [exec_resetHeld, execResetHeld]
    dsimp only
    rw [State.begin_saf, hpress]
    exact if_neg hcond
  refine ⟨_, hrun, ?_⟩
  simp only [State.record_saf]
  exact ⟨State.updFn_same sf _ _, fun k hk => State.updFn_ne hk _ _⟩

/-! ### Input faults and supplies that settle (R294, R299) -/

/-- A settled channel is no longer a cause of a function whose pairs on it agree out of demand (R294). -/
def State.settleInput (ch : Fin 64) (sf : Fin 48) (s : State) : State :=
  let e := s.sfEntry sf
  let out := (List.finRange 4).all fun p =>
    !(sfPairUsed e p.val && (sfInA e p.val == ch.val || sfInB e p.val == ch.val)) ||
      (!s.saf.fns[sf].pairs[p].aDemand && !s.saf.fns[sf].pairs[p].bDemand)
  if s.saf.fns[sf].causes.contains (.inputFault ch) && out then
    (s.dropCause sf fun c => c == .inputFault ch).unlockSf sf
  else s

section
variable {ch : Fin 64} {sf : Fin 48} {s : State}

theorem State.settleInput_only (ch : Fin 64) (sf : Fin 48) (s : State) : OnlyFn sf s (s.settleInput ch sf) :=
  .ite ((s.dropCause_only sf _).trans (State.unlockSf_only sf _)) (.refl s)

theorem State.settleInput_drops (hout : ∀ p : Fin 4, s.saf.fns[sf].pairs[p].aDemand = false ∧ s.saf.fns[sf].pairs[p].bDemand = false) :
    (s.settleInput ch sf).saf.fns[sf].causes.contains (.inputFault ch) = false := by
  unfold State.settleInput
  extract_lets e out
  have hall : out = true := by
    refine List.all_eq_true.mpr fun p _ => ?_
    obtain ⟨ha, hb⟩ := hout p
    rw [ha, hb]
    exact Bool.or_true _
  rw [hall, Bool.and_true]
  by_cases hcause : s.saf.fns[sf].causes.contains (.inputFault ch) = true
  · rw [if_pos hcause, State.unlockSf_causes, State.dropCause_fn]
    simp
  · rw [if_neg hcause]
    exact Bool.eq_false_iff.mpr hcause

theorem State.settleInput_other (hcause : s.saf.fns[sf].causes.contains (.inputFault ch) = false) : s.settleInput ch sf = s :=
  if_neg (by rw [hcause, Bool.false_and]; decide)
end

theorem inputFaultSettled_settles (t : Ns) (ch : Fin 64) (s : State) (hlive : s.safLive = true)
    (hgood : s.saf.chans[ch].faulted = false) (hheld : held (max s.clock t) s.saf.chans[ch].freeSince 1000000000 = true) :
    Completes (.inputFaultSettled t ch) s fun u => u.saf.chans = s.saf.chans ∧ ∀ sf : Fin 48,
        ((∀ p : Fin 4, s.saf.fns[sf].pairs[p].aDemand = false ∧ s.saf.fns[sf].pairs[p].bDemand = false) →
          u.saf.fns[sf].causes.contains (.inputFault ch) = false) ∧
        (s.saf.fns[sf].causes.contains (.inputFault ch) = false → u.saf.fns[sf] = s.saf.fns[sf]) := by
  have hcond : ¬ (!(s.begin t).safLive || (s.begin t).saf.chans[ch].faulted ||
      !held (s.begin t).clock (s.begin t).saf.chans[ch].freeSince 1000000000) = true := by
    rw [State.begin_safLive, State.begin_saf, State.begin_clock, hlive, hgood, hheld]
    decide
  rw [Completes, exec_inputFaultSettled, execInputFaultSettled]
  refine ⟨(forAll 48 (State.settleInput ch) (s.begin t)).postStatus _, if_neg hcond, ?_⟩
  rw [State.postStatus_saf]
  refine ⟨(forAll_fns (State.settleInput_only ch) _).read Saf.chans Saf.chans, fun sf => ⟨fun hout => ?_, fun hcause => ?_⟩⟩
  · refine forAll_fn (State.settleInput_only ch) sf (Q := fun f => f.causes.contains (.inputFault ch) = false) fun u _ hfn => ?_
    exact State.settleInput_drops (by rw [hfn]; exact hout)
  · refine forAll_fn (State.settleInput_only ch) sf (Q := fun f => f = s.saf.fns[sf]) fun u _ hfn => ?_
    rw [State.settleInput_other (by rw [hfn]; exact hcause), hfn]
    rfl

/-- A settled supply is no longer a cause of a function (R299). -/
def State.settleSupply (g : Fin 8) (sf : Fin 48) (s : State) : State := (s.dropCause sf fun c => c == .supply g).unlockSf sf

theorem State.settleSupply_only (g : Fin 8) (sf : Fin 48) (s : State) : OnlyFn sf s (s.settleSupply g sf) :=
  (s.dropCause_only sf _).trans (State.unlockSf_only sf _)

theorem State.settleSupply_causes (g : Fin 8) (sf : Fin 48) (s : State) :
    (s.settleSupply g sf).saf.fns[sf].causes = s.saf.fns[sf].causes.filter fun c => c != .supply g := by
  rw [State.settleSupply, State.unlockSf_causes, State.dropCause_fn]
  rfl

theorem supplySettled_settles (t : Ns) (g : Fin 8) (s : State) (hlive : s.safLive = true)
    (hheld : held (max s.clock t) s.saf.supplySince[g] 1000000000 = true) (hsupply : s.groups[g].supply = .ok ∨ s.groups[g].supply = .low) :
    Completes (.supplySettled t g) s fun u =>
      u.saf.highOpen[g] = false ∧ (∀ sf : Fin 48, u.saf.fns[sf].causes = s.saf.fns[sf].causes.filter fun c => c != .supply g) ∧
      SafCommanded u := by
  have hfine : ((s.begin t).groups[g].supply == .ok || (s.begin t).groups[g].supply == .low) = true := by
    rw [State.begin_groups]
    rcases hsupply with h | h <;> rw [h] <;> decide
  have hcond : ¬ (!(s.begin t).safLive || !held (s.begin t).clock (s.begin t).saf.supplySince[g] 1000000000 ||
      !((s.begin t).groups[g].supply == .ok || (s.begin t).groups[g].supply == .low)) = true := by
    rw [State.begin_safLive, hfine, State.begin_saf, State.begin_clock, hlive, hheld]
    decide
  rw [Completes, exec_supplySettled, execSupplySettled]
  refine ⟨State.afterLock (s.begin t).sfCodes (forAll 48 (State.settleSupply g)
    ((s.begin t).updSaf fun v => { v with highOpen := v.highOpen.set g false })), if_neg hcond, ?_⟩
  generalize ha : ((s.begin t).updSaf fun v => { v with highOpen := v.highOpen.set g false }) = a
  have hclosed : a.saf.highOpen[g] = false := by
    rw [← ha]
    simp
  have hfns : a.saf.fns = s.saf.fns := by
    rw [← ha]
    rfl
  have hopen := (forAll_fns (State.settleSupply_only g) a).read Saf.highOpen Saf.highOpen
  have hcauses : ∀ sf : Fin 48, (forAll 48 (State.settleSupply g) a).saf.fns[sf].causes =
      s.saf.fns[sf].causes.filter fun c => c != .supply g := by
    intro sf
    refine forAll_fn (State.settleSupply_only g) sf (Q := fun f => f.causes = s.saf.fns[sf].causes.filter fun c => c != .supply g)
      fun u _ hfn => ?_
    rw [State.settleSupply_causes, hfn, hfns]
  refine ⟨?_, fun sf => ?_, State.afterLock_commanded _ _⟩
  · simp only [State.afterLock_saf, hopen]
    exact hclosed
  · simp only [State.afterLock_saf]
    exact hcauses sf

/-! ### Re-close tests (R300, R617) -/

/-- A re-close test ends for a function with an output in its group: the causes of the switch go, and a function the test was for
enters RUN (R300). -/
def State.freeOut (g : Fin 8) (who : List (Fin 48)) (sf : Fin 48) (s : State) : State :=
  if !s.outIn sf g then s else
  let s := s.dropCause sf fun c => c == .outputStuck g || c == .groupOff g
  if who.contains sf && s.saf.fns[sf].causes.isEmpty && s.saf.fns[sf].state == .locked then s.setSf sf .run
  else s.unlockSf sf

theorem State.freeOut_only (g : Fin 8) (who : List (Fin 48)) (sf : Fin 48) (s : State) : OnlyFn sf s (s.freeOut g who sf) := by
  unfold State.freeOut
  extract_lets a
  have ha : OnlyFn sf s a := s.dropCause_only sf _
  exact .ite (.refl s) (.ite (ha.trans (a.setSf_only sf _)) (ha.trans (a.unlockSf_only sf)))

theorem State.freeOut_runs {g : Fin 8} {who : List (Fin 48)} {sf : Fin 48} {s : State} (hwho : who.contains sf = true)
    (hout : s.outIn sf g = true) (hlocked : s.saf.fns[sf].state = .locked) (hcauses : s.saf.fns[sf].causes = [.outputStuck g]) :
    (s.freeOut g who sf).saf.fns[sf].state = .run := by
  unfold State.freeOut
  extract_lets a
  have hfn : a.saf.fns[sf] = { s.saf.fns[sf] with causes := [] } := by
    rw [State.dropCause_fn, hcauses]
    simp
  have hcond : (who.contains sf && a.saf.fns[sf].causes.isEmpty && a.saf.fns[sf].state == .locked) = true := by
    rw [hfn, hwho, hlocked]
    rfl
  rw [if_neg (by rw [hout]; decide), if_pos hcond]
  exact a.setSf_state sf _

/-- The re-close test of a group ends (R300). -/
def State.reclosed (g : Fin 8) (x : Reclose) (s : State) : State :=
  s.updSaf fun v => { v with testFor := v.testFor.set g [], groupReclose := v.groupReclose.set g x }

theorem State.endReclose_passes {g : Fin 8} {s : State} (hgood : (s.sdosOf g).any (fun c => s.chans[c].sample.outRb) = false) :
    ∃ flags, s.endReclose g = forAll 48 (State.freeOut g s.saf.testFor[g]) ((s.reclosed g .idle).updSaf fun v => { v with
      ignored := (v.ignored.filter fun x => grp x.1 != g) ++ flags, grace := v.grace.set g (some (s.pulseRound + 2)) }) := by
  unfold State.endReclose
  rw [hgood]
  exact ⟨_, rfl⟩

/-- The group whose switch stays open is latched as the cause of a function (R300). -/
def State.latchStuck (g : Fin 8) (s : State) (sf : Fin 48) : State :=
  s.updFn sf fun f => { f with latched := f.latched.orElse fun _ => some (.outputStuck g, s.now) }

theorem State.latchStuck_keeps (g : Fin 8) (s : State) (sf : Fin 48) : SafKeeps Saf.besidesFns s (s.latchStuck g sf) := rfl

theorem State.endReclose_fails {g : Fin 8} {sf : Fin 48} {rest : List (Fin 48)} {s : State}
    (hbad : (s.sdosOf g).any (fun c => s.chans[c].sample.outRb) = true) (hwho : s.saf.testFor[g] = sf :: rest) :
    s.endReclose g = (sf :: rest).foldl (State.latchStuck g)
      ((s.reclosed g .idle).updSaf fun v => { v with stuckBy := v.stuckBy.set g (some sf) }) := by
  unfold State.endReclose
  rw [hbad, hwho]
  rfl

theorem exec_recloseCheck_due {t : Ns} {g : Fin 8} {due : Ns} {s : State} (hlive : s.safLive = true)
    (hcheck : s.saf.groupReclose[g] = .checking due) (hdue : due ≤ max s.clock t) :
    exec (.recloseCheck t g) s = .next (((s.begin t).endReclose g).afterLock (s.begin t).sfCodes) := by
  have hcond : ¬ (!(s.begin t).safLive || (s.begin t).clock < due) = true := by
    rw [State.begin_reached hdue, State.begin_safLive, hlive]
    decide
  rw [exec_recloseCheck, execRecloseCheck]
  dsimp only
  rw [State.begin_saf, hcheck]
  exact if_neg hcond

theorem recloseCheck_frees (t : Ns) (g : Fin 8) (due : Ns) (s : State) (hlive : s.safLive = true)
    (hcheck : s.saf.groupReclose[g] = .checking due) (hdue : due ≤ max s.clock t)
    (hgood : (s.sdosOf g).any (fun c => s.chans[c].sample.outRb) = false) : Completes (.recloseCheck t g) s fun u =>
      u.saf.groupReclose[g] = .idle ∧ u.saf.testFor[g] = [] ∧ u.saf.grace[g] = some (s.pulseRound + 2) ∧
      u.saf.stuckBy = s.saf.stuckBy ∧
      ∀ sf : Fin 48, s.saf.testFor[g].contains sf = true → s.outIn sf g = true → s.saf.fns[sf].state = .locked →
        s.saf.fns[sf].causes = [.outputStuck g] → u.saf.fns[sf].state = .run := by
  obtain ⟨flags, hpasses⟩ := State.endReclose_passes (s := s.begin t) hgood
  refine ⟨_, exec_recloseCheck_due hlive hcheck hdue, ?_⟩
  rw [hpasses, State.begin_saf]
  generalize ha : ((s.begin t).reclosed g .idle).updSaf _ = a
  have hrest := forAll_fns (State.freeOut_only g s.saf.testFor[g]) a
  have hfns : a.saf.fns = s.saf.fns := by
    rw [← ha]
    rfl
  have hcfg : a.saf.cfg = s.saf.cfg := by
    rw [← ha]
    rfl
  have hreclose : (forAll 48 (State.freeOut g s.saf.testFor[g]) a).saf.groupReclose[g] = .idle := by
    rw [hrest.read Saf.groupReclose Saf.groupReclose, ← ha]
    simp [State.reclosed]
  have htest : (forAll 48 (State.freeOut g s.saf.testFor[g]) a).saf.testFor[g] = [] := by
    rw [hrest.read Saf.testFor Saf.testFor, ← ha]
    simp [State.reclosed]
  have hgrace : (forAll 48 (State.freeOut g s.saf.testFor[g]) a).saf.grace[g] = some (s.pulseRound + 2) := by
    rw [hrest.read Saf.grace Saf.grace, ← ha]
    simp
  have hstuck : (forAll 48 (State.freeOut g s.saf.testFor[g]) a).saf.stuckBy = s.saf.stuckBy := by
    rw [hrest.read Saf.stuckBy Saf.stuckBy, ← ha]
    rfl
  have hruns : ∀ sf : Fin 48, s.saf.testFor[g].contains sf = true → s.outIn sf g = true → s.saf.fns[sf].state = .locked →
      s.saf.fns[sf].causes = [.outputStuck g] → (forAll 48 (State.freeOut g s.saf.testFor[g]) a).saf.fns[sf].state = .run := by
    intro sf hwho hout hlocked hcauses
    refine forAll_fn (State.freeOut_only g s.saf.testFor[g]) sf (Q := fun f => f.state = .run) fun u hu hfn => ?_
    have hobj : u.safObj = s.safObj := by rw [State.safObj, State.safObj, hu.read Saf.cfg Saf.cfg, hcfg]
    have houtu : u.outIn sf g = true := by
      simp only [State.outIn, State.outLocals, State.sfEntry, hobj] at hout ⊢
      exact hout
    exact State.freeOut_runs hwho houtu (by rw [hfn, hfns, hlocked]) (by rw [hfn, hfns, hcauses])
  generalize forAll 48 (State.freeOut g s.saf.testFor[g]) a = u at *
  simp only [State.afterLock_saf]
  exact ⟨hreclose, htest, hgrace, hstuck, hruns⟩

/-- A table set member by member holds the value of each. -/
theorem foldl_set_get {α : Type} {n : Nat} (f : Fin n → α) (v : Vector α n) (k : Fin n) :
    ((List.finRange n).foldl (fun w (i : Fin n) => w.set i (f i)) v)[k] = f k := by
  obtain ⟨before, after, hsplit⟩ := List.append_of_mem (List.mem_finRange k)
  rw [hsplit, List.foldl_append, List.foldl_cons]
  refine List.foldlRecOn (motive := fun w : Vector α n => w[k] = f k) after _ (by simp) fun w hw i _ => ?_
  rcases eq_or_ne i k with rfl | hne
  · simp
  · have hval : i.val ≠ k.val := fun e => hne (Fin.ext e)
    simpa [hval] using hw

theorem recloseCheck_opens (t : Ns) (g : Fin 8) (due : Ns) (sf : Fin 48) (rest : List (Fin 48)) (s : State) (hlive : s.safLive = true)
    (hcheck : s.saf.groupReclose[g] = .checking due) (hdue : due ≤ max s.clock t)
    (hbad : (s.sdosOf g).any (fun c => s.chans[c].sample.outRb) = true) (hwho : s.saf.testFor[g] = sf :: rest) :
    Completes (.recloseCheck t g) s fun u =>
      u.saf.groupReclose[g] = .idle ∧ u.saf.testFor[g] = [] ∧ u.saf.stuckBy[g] = some sf ∧
      (u.saf.release.map fun c => (c.discs[g], c.discFor[g])) = some (true, some sf) ∧
      ∀ k : Fin 48, u.saf.fns[k].state = s.saf.fns[k].state := by
  refine ⟨_, exec_recloseCheck_due hlive hcheck hdue, ?_⟩
  rw [State.endReclose_fails (s := s.begin t) hbad hwho]
  generalize ha : ((s.begin t).reclosed g .idle).updSaf _ = a
  have hrest : SafKeeps Saf.besidesFns a ((sf :: rest).foldl (State.latchStuck g) a) := .foldl (State.latchStuck_keeps g) _ a
  have hstate : ∀ k : Fin 48, ((sf :: rest).foldl (State.latchStuck g) a).saf.fns[k].state = a.saf.fns[k].state := by
    intro k
    refine List.foldlRecOn (motive := fun u : State => u.saf.fns[k].state = a.saf.fns[k].state) _ _ rfl fun u hu i _ => ?_
    refine Eq.trans ?_ hu
    rcases eq_or_ne k i with rfl | hne
    · rw [State.latchStuck, State.updFn_same]
    · rw [State.latchStuck, State.updFn_ne hne]
  generalize (sf :: rest).foldl (State.latchStuck g) a = b at hrest hstate ⊢
  have hreclose : b.saf.groupReclose[g] = .idle := by
    rw [hrest.read Saf.groupReclose Saf.groupReclose, ← ha]
    simp [State.reclosed]
  have htest : b.saf.testFor[g] = [] := by
    rw [hrest.read Saf.testFor Saf.testFor, ← ha]
    simp [State.reclosed]
  have hstuck : b.saf.stuckBy[g] = some sf := by
    rw [hrest.read Saf.stuckBy Saf.stuckBy, ← ha]
    simp
  have hopen : b.safCmd.discs[g] = true := by
    rw [State.safCmd, foldl_set_get, State.discOpen, hstuck]
    simp
  have hfor : b.safCmd.discFor[g] = some sf := by
    rw [State.safCmd, foldl_set_get, State.discFor, hstuck]
    rfl
  have hsame : a.saf.fns = s.saf.fns := by
    rw [← ha]
    rfl
  simp only [State.afterLock_saf]
  refine ⟨hreclose, htest, hstuck, ?_, fun k => (hstate k).trans (by rw [hsame])⟩
  rw [Option.map_some, hopen, hfor]

/-- The outputs of the active functions in a group are checked again (R617). -/
def State.recheckOuts (g : Fin 8) (s : State) : State :=
  s.activeFns.foldl (fun s sf => ((s.outLocals sf).filter fun c => grp c == g).foldl (fun s c => s.stuckOut sf c) s) s

theorem State.recheckOuts_keeps (g : Fin 8) (s : State) : SafKeeps (fun v => (v.grace, v.ignored)) s (s.recheckOuts g) :=
  .foldl (fun u sf => .foldl (fun x c => x.stuckOut_keeps _ sf c) _ u) _ s

theorem recloseRoundCheck_ends (t : Ns) (g : Fin 8) (r : Nat) (s : State) (hlive : s.safLive = true)
    (hgrace : s.saf.grace[g] = some r) (hround : r ≤ s.pulseRound) : Completes (.recloseRoundCheck t g) s fun u =>
      u.saf.grace[g] = none ∧ (∀ x ∈ u.saf.ignored, grp x.1 ≠ g) ∧ SafCommanded u := by
  have hcond : ¬ (!(s.begin t).safLive || (s.begin t).pulseRound < r) = true := by
    rw [State.begin_safLive, State.begin_pulseRound, hlive, decide_eq_false hround.not_gt]
    decide
  have hrun : exec (.recloseRoundCheck t g) s = .next ((((s.begin t).updSaf fun v => { v with
      grace := v.grace.set g none, ignored := v.ignored.filter fun x => grp x.1 != g }).recheckOuts g).afterLock (s.begin t).sfCodes) := by
    rw [exec_recloseRoundCheck, execRecloseRoundCheck]
    dsimp only
    rw [State.begin_saf, hgrace]
    exact if_neg hcond
  refine ⟨_, hrun, ?_⟩
  generalize ha : (s.begin t).updSaf _ = a
  have hkeeps := a.recheckOuts_keeps g
  have hended : (a.recheckOuts g).saf.grace[g] = none := by
    rw [hkeeps.read Saf.grace Prod.fst, ← ha]
    simp
  have hignored : ∀ x ∈ (a.recheckOuts g).saf.ignored, grp x.1 ≠ g := by
    rw [hkeeps.read Saf.ignored Prod.snd, ← ha]
    simp
  have hcmd := (a.recheckOuts g).afterLock_commanded (s.begin t).sfCodes
  simp only [State.afterLock_saf]
  exact ⟨hended, hignored, hcmd⟩

/-! ### The release of SAF's commands (R276, R279, R290) -/

/-- What SAF commands of a channel, and of the switch of a group. -/
def Chan.safCommand (c : Chan) : Bool × Bool := (c.safOff, c.permit)
def Group.safCommand (q : Group) : Bool × Option (Fin 48) := (q.discCmd, q.discFor)

/-- SAF and what it commands stay. -/
structure CommandsKeep (s t : State) : Prop where
  saf : t.saf = s.saf
  chans : ∀ ch : Fin 128, ChanKeeps ch Chan.safCommand s t
  groups : ∀ g : Fin 8, t.groups[g].safCommand = s.groups[g].safCommand

namespace CommandsKeep
variable {s t u : State}

theorem refl (s : State) : CommandsKeep s s := ⟨rfl, fun _ => rfl, fun _ => rfl⟩

theorem trans (h : CommandsKeep s t) (k : CommandsKeep t u) : CommandsKeep s u :=
  ⟨k.saf.trans h.saf, fun ch => (h.chans ch).trans (k.chans ch), fun g => (k.groups g).trans (h.groups g)⟩

theorem forAll {n : Nat} {F : Fin n → State → State} (h : ∀ i u, CommandsKeep u (F i u)) (s : State) :
    CommandsKeep s (forAll n F s) :=
  forAll_induction (P := CommandsKeep s) (fun i u hu => hu.trans (h i u)) (.refl s)

/-- What leaves SAF and the groups alone. -/
theorem of_keep {m : Nat} (k : Keep m s t) (hm : (m.testBit Aspect.saf.bit || m.testBit Aspect.groups.bit) = false)
    (h : ∀ ch : Fin 128, ChanKeeps ch Chan.safCommand s t) : CommandsKeep s t := by
  rw [Bool.or_eq_false_iff] at hm
  obtain ⟨hsaf, hgroups⟩ := hm
  exact ⟨k.same .saf hsaf, h, fun g => by rw [k.same .groups hgroups]⟩

theorem updChan (i : Fin 128) (f : Chan → Chan) (s : State) (hf : ∀ c, (f c).safCommand = c.safCommand := by exact fun _ => rfl) :
    CommandsKeep s (s.updChan i f) := ⟨rfl, fun _ => .updChan s i f hf, fun _ => rfl⟩

theorem updGroup (g : Fin 8) (f : Group → Group) (s : State) (hf : ∀ q, (f q).safCommand = q.safCommand := by exact fun _ => rfl) :
    CommandsKeep s (s.updGroup g f) := by
  refine ⟨rfl, fun _ => rfl, fun k => ?_⟩
  rcases eq_or_ne k g with rfl | hne
  · rw [State.updGroup_same, hf]
  · rw [State.updGroup_ne hne]

theorem emit (h : CommandsKeep s t) (e : Emission) : CommandsKeep s (t.emit e) := ⟨h.saf, h.chans, h.groups⟩

theorem takeLate (i : Fin 128) (s : State) : CommandsKeep s (s.takeLate i) := by
  refine .of_keep (State.takeLate_keep i s) (by decide) fun ch => ?_
  unfold State.takeLate
  extract_lets due src a
  have ha : ChanKeeps ch Chan.safCommand s a := .updChan s i _
  refine List.foldlRecOn (motive := ChanKeeps ch Chan.safCommand s) _ _ ha fun u hu w _ => hu.trans ?_
  unfold State.ownerWrite
  refine .ite ?_ (.putDiag u i _ _)
  split
  · refine .updChan u i _ fun c => ?_
    split <;> rfl
  · exact .updChan u i _

theorem sendChannel (old : State) (seq : BitVec 8) (i : Fin 128) (s : State) : CommandsKeep s (State.sendChannel old seq i s) := by
  refine .of_keep (State.sendChannel_keep old seq i s) (by decide) fun ch => ?_
  have hbuilt : ChanKeeps ch Chan.safCommand s (s.built seq i) := by
    unfold State.built
    extract_lets c d m r on code fail goal rises clamp a b
    have hb : ChanKeeps ch Chan.safCommand s b := ChanKeeps.trans (t := a) rfl (.updChan a i _)
    exact ((hb.trans (.putDiag b i _ _)).trans (.putDiag _ i _ _)).trans (.putDiag _ i _ _)
  have hframe : ∀ (u : State) (f : BitVec 256), ChanKeeps ch Chan.safCommand u
      ((u.updChan i fun c => { c with frame := f }).emit (.laneOut i f)) := fun u f => by
    rw [ChanKeeps, State.emit_chans]
    exact ChanKeeps.updChan u i _
  exact .ite (hbuilt.trans (hframe _ _)) (.updChan s i _)

theorem sendGroup (old : State) (seq : BitVec 8) (g : Fin 8) (s : State) : CommandsKeep s (State.sendGroup old seq g s) := by
  unfold State.sendGroup
  extract_lets f
  split
  · refine .emit ?_ _
    exact .updGroup g _ s
  · exact .updGroup g _ s

end CommandsKeep

/-- After its release a cut-off leaves SAF's commands as they are. -/
theorem State.cutOff_keeps (s : State) : CommandsKeep s.releaseSaf s.cutOff := by
  unfold State.cutOff
  extract_lets a silent seq old b c
  have ha : CommandsKeep s.releaseSaf a := .forAll CommandsKeep.takeLate _
  clear_value a
  split
  · have hsilent : CommandsKeep a silent := by
      refine .forAll (fun i u => ?_) a
      exact .updChan i _ u
    refine ha.trans (hsilent.trans (.forAll (fun g u => ?_) silent))
    exact .updGroup g _ u
  · have hb : CommandsKeep a b := ⟨rfl, fun _ => rfl, fun _ => rfl⟩
    have hc : CommandsKeep b c := .forAll (CommandsKeep.sendChannel old seq) b
    exact ha.trans (hb.trans (hc.trans (.forAll (CommandsKeep.sendGroup old seq) c)))

section
variable (on ovr : List Nat) (ch : Fin 128) (s : State)

/-- SAF's commands to one channel of a safety group (R279, R290). -/
theorem State.driveSaf_same (h : s.safetyGroup (grp ch) = true) :
    (s.driveSaf on ovr ch).chans[ch].safOff = ovr.contains ch.val ∧
    (s.mode ch = .sdo → s.owner ch = .saf → (s.driveSaf on ovr ch).chans[ch].permit = on.contains ch.val) := by
  unfold State.driveSaf
  extract_lets a
  rw [if_neg (by rw [h]; decide), State.updChan_same]
  refine ⟨rfl, fun hmode howner => ?_⟩
  have ha : a = (s.ownerWrite .saf ch (on.contains ch.val) (some 0) false).updChan ch fun x =>
      { x with permit := on.contains ch.val, permitStamp := s.clock } := if_pos ⟨hmode, howner⟩
  rw [ha, State.updChan_same]

theorem State.driveSaf_other {i : Fin 128} (hi : ch ≠ i) : ChanKeeps ch id s (s.driveSaf on ovr i) := by
  unfold State.driveSaf
  extract_lets a
  have hwrite : ChanKeeps ch id s (s.ownerWrite .saf i (on.contains i.val) (some 0) false) := by
    unfold State.ownerWrite
    exact .ite (.updChan_other hi s _) (.putDiag_other hi s _ _)
  have ha : ChanKeeps ch id s a := .ite (hwrite.trans (.updChan_other hi _ _)) (.refl s)
  exact .ite (.refl s) (ha.trans (.updChan_other hi a _))
end

/-- What the commands `c` make of channels, switches and SAF, in the modes and safety groups of `s`. -/
structure Released (c : SafCmd) (s u : State) : Prop where
  release : u.saf.release = none
  chans : ∀ ch : Fin 128, s.safetyGroup (grp ch) = true → u.chans[ch].safOff = c.ovr.contains ch.val ∧
    (s.mode ch = .sdo → s.owner ch = .saf → u.chans[ch].permit = c.on.contains ch.val)
  groups : ∀ g : Fin 8, u.groups[g].discCmd = c.discs[g] ∧ u.groups[g].discFor = c.discFor[g]

theorem Released.keep {c : SafCmd} {s t u : State} (h : Released c s t) (k : CommandsKeep t u) : Released c s u := by
  obtain ⟨hrelease, hchans, hgroups⟩ := h
  refine ⟨by rw [k.saf, hrelease], fun ch hch => ?_, fun g => ?_⟩
  · obtain ⟨hoff, hpermit⟩ := hchans ch hch
    exact ⟨(congrArg Prod.fst (k.chans ch)).trans hoff, fun hm ho => (congrArg Prod.snd (k.chans ch)).trans (hpermit hm ho)⟩
  · obtain ⟨hcmd, hfor⟩ := hgroups g
    exact ⟨(congrArg Prod.fst (k.groups g)).trans hcmd, (congrArg Prod.snd (k.groups g)).trans hfor⟩

theorem State.applySaf_releases (c : SafCmd) (s : State) : Released c s (s.applySaf c) := by
  unfold State.applySaf
  extract_lets a b d
  have hb : Keep 2048 a b := by
    refine .forAll (fun g t => ?_) a
    exact t.updGroup_keep g _
  have hd : Keep 4194304 b d := by
    refine .forAll (fun sf t => ?_) b
    exact t.updFn_keep sf _
  refine ⟨rfl, fun ch hch => ?_, fun g => ?_⟩
  · have hdriven : a.chans[ch].safOff = c.ovr.contains ch.val ∧
        (s.mode ch = .sdo → s.owner ch = .saf → a.chans[ch].permit = c.on.contains ch.val) := by
      refine forAll_at (P := fun t => t.regs = s.regs ∧ t.groups = s.groups)
        (Q := fun t => t.chans[ch].safOff = c.ovr.contains ch.val ∧
          (s.mode ch = .sdo → s.owner ch = .saf → t.chans[ch].permit = c.on.contains ch.val)) ch
        (fun i _ t ht => ?_) (fun t ht => ?_) (fun i hi t ht => ?_) ⟨rfl, rfl⟩
      · obtain ⟨hregs, hgroups⟩ := ht
        have hkeep := State.driveSaf_keep c.on c.ovr i t
        exact ⟨(hkeep.same .regs (by decide)).trans hregs, (hkeep.same .groups (by decide)).trans hgroups⟩
      · obtain ⟨hregs, hgroups⟩ := ht
        have hsafety : t.safetyGroup (grp ch) = true := by rw [State.safetyGroup, hregs]; exact hch
        have hmode : t.mode ch = s.mode ch := by rw [State.mode, State.mode, hgroups]
        have howner : t.owner ch = s.owner ch := by rw [State.owner, State.owner, hregs]
        rw [← hmode, ← howner]
        exact t.driveSaf_same c.on c.ovr ch hsafety
      · have hsame : (t.driveSaf c.on c.ovr i).chans[ch] = t.chans[ch] := State.driveSaf_other c.on c.ovr ch t hi.symm
        rw [hsame]
        exact ht
    rw [State.updSaf_chans, hd.same .chans (by decide), hb.same .chans (by decide)]
    exact hdriven
  · have hswitch : b.groups[g].discCmd = c.discs[g] ∧ b.groups[g].discFor = c.discFor[g] := by
      refine forAll_at (P := fun _ => True) (Q := fun t => t.groups[g].discCmd = c.discs[g] ∧ t.groups[g].discFor = c.discFor[g]) g
        (fun _ _ _ _ => trivial) (fun t _ => ?_) (fun i hi t ht => ?_) trivial
      · rw [State.updGroup_same]
        exact ⟨rfl, rfl⟩
      · rw [State.updGroup_ne hi.symm]
        exact ht
    rw [State.updSaf_groups, hd.same .groups (by decide)]
    exact hswitch

theorem outputCutoff_releases (t : Ns) (c : SafCmd) (s : State) (hrelease : s.saf.release = some c) (hdue : c.due ≤ max s.clock t) :
    Completes (.outputCutoff t) s fun u =>
      u.saf.release = none ∧ (∀ ch : Fin 128, s.safetyGroup (grp ch) = true → u.chans[ch].safOff = c.ovr.contains ch.val ∧
        (s.mode ch = .sdo → s.owner ch = .saf → u.chans[ch].permit = c.on.contains ch.val)) ∧
      ∀ g : Fin 8, u.groups[g].discCmd = c.discs[g] ∧ u.groups[g].discFor = c.discFor[g] := by
  have hkeep : Keep 537920528 (s.begin t) (forAll 16 State.stepAxis (s.begin t)) := .forAll State.stepAxis_keep _
  refine ⟨(forAll 16 State.stepAxis (s.begin t)).cutOff, rfl, ?_⟩
  generalize forAll 16 State.stepAxis (s.begin t) = a at hkeep ⊢
  have hsaf : a.saf = s.saf := hkeep.same .saf (by decide)
  have hregs : a.regs = s.regs := hkeep.same .regs (by decide)
  have hgroups : a.groups = s.groups := hkeep.same .groups (by decide)
  have happly : a.releaseSaf = a.applySaf c := by
    rw [State.releaseSaf, hsaf, hrelease]
    exact if_pos (hdue.trans hkeep.clock)
  obtain ⟨hnone, hchans, hswitches⟩ := (a.applySaf_releases c).keep (happly ▸ a.cutOff_keeps)
  simp only [State.safetyGroup, State.mode, State.owner, hregs, hgroups] at hchans
  exact ⟨hnone, hchans, hswitches⟩

/-! ### The end of a permit (R279) -/

theorem permitTimeout_ends (t : Ns) (ch : Fin 128) (s : State) (hpermit : s.chans[ch].permit = true)
    (hdue : (s.begin t).due .tim s.chans[ch].permitStamp 2000000 ≤ max s.clock t) : Completes (.permitTimeout t ch) s fun u =>
      u.chans[ch] = { s.chans[ch] with permit := false } ∧ ∀ j : Fin 128, j ≠ ch → u.chans[j] = s.chans[j] := by
  have hcond : ((s.begin t).chans[ch].permit && decide ((s.begin t).due .tim (s.begin t).chans[ch].permitStamp 2000000 ≤
      (s.begin t).clock)) = true := by
    rw [State.begin_chans, hpermit, State.begin_clock, decide_eq_true hdue]
    rfl
  exact ⟨_, (exec_permitTimeout t ch s).trans (if_pos hcond), State.updChan_same ch _ _, fun j hj => State.updChan_ne hj _ _⟩

/-! ### The obligation -/

/-- Settles O19: each command works on the functions one by one, or on the switch of one group, and the commands of the states follow;
the first cut-off from their instant on gives them to channels and switches, and nothing after it in the cut-off changes them. -/
theorem safetyFunctions : Obligations.SafetyFunctions := by
  unfold Obligations.SafetyFunctions
  exact ⟨discrepancy_locks, resetHeld_logs, stoFeedback_locks, inputFaultSettled_settles, supplySettled_settles, recloseCheck_frees,
    recloseCheck_opens, recloseRoundCheck_ends, outputCutoff_releases, permitTimeout_ends⟩

end Sys2Proof.Machine
end

section
/-! Safety configuration and frames (obligation SafetyConfigurationAndFaults): the two descriptors, what an update of one connection
leaves of the others, then frames, their watchdog and the faults of the island. -/

namespace Sys2Proof.Machine

/-! ### SAFETY_CONFIG and SAFETY_CONFIRM (R281, R287, R288) -/

@[simp] theorem State.safAnswer_saf (kind : RecKind) (org : Origin) (o : Outcome) (s : State) : (s.safAnswer kind org o).saf = s.saf :=
  (State.safAnswer_keep kind org o s).same .saf (by decide)

theorem safetyConfig_waits (t : Ns) (org : Origin) (o : Bytes) (s : State) (hadmits : (s.begin t).Admits org opSafetyConfig [.saf])
    (hlength : 32 ≤ o.length ∧ o.length ≤ 4128) (hidle : s.saf.activate = none) (hpending : s.safPending org = false)
    (hcheck : (s.begin t).safetyCheck o = none) (hcapacity : s.overCapacity s.nextRing (s.ring.stations.map Station.next) o = false)
    (hstore : (s.begin t).storeOverflow (BitVec.ofNat 16 opSafetyConfig) 0 o = false) : Completes (.safetyConfig t org o) s fun u =>
      u.saf.pendingCfg = some o ∧ u.saf.cfg = s.saf.cfg ∧ u.saf.fns = s.saf.fns := by
  obtain ⟨hbarrier, hgate⟩ := hadmits
  obtain ⟨hmin, hmax⟩ := hlength
  have hformat : ((badField (decide (o.length < 32) || decide (4128 < o.length))).orElse fun _ =>
      (s.begin t).gate org opSafetyConfig [.saf]) = none := by
    rw [decide_eq_false hmin.not_gt, decide_eq_false hmax.not_gt, hgate]
    rfl
  have hbusy : fails ((s.begin t).saf.activate.isSome || (s.begin t).safPending org) .busy = none := fails_false (by
    rw [State.begin_saf, hidle]
    exact hpending) _
  have hroom : fails ((s.begin t).overCapacity (s.begin t).nextRing ((s.begin t).ring.stations.map Station.next) o) .capacity = none :=
    fails_false hcapacity _
  have hrun : exec (.safetyConfig t org o) s = .next (((s.begin t).updSaf fun v => { v with pendingCfg := some o }).safAnswer
      .safetyConfig org (.done (safResult o s.saf.tMus))) := by
    rw [exec_safetyConfig, execSafetyConfig]
    dsimp only
    rw [hbarrier, hformat]
    dsimp only
    rw [hbusy, hroom, hcheck, fails_false hstore]
    rfl
  refine ⟨_, hrun, ?_⟩
  simp only [State.safAnswer_saf]
  exact ⟨rfl, rfl, rfl⟩

theorem safetyConfirm_activates (t : Ns) (org : Origin) (p o : Bytes) (s : State)
    (hadmits : (s.begin t).Admits org opSafetyConfirm [.saf]) (hfault : s.saf.fault = none) (hpending : s.saf.pendingCfg = some o)
    (hid : rd p 0 4 = safId o) (hcrc : rd p 4 4 = safCrc o) :
    Completes (.safetyConfirm t org p) s fun u => u.saf = { s.saf with activate := some (org, o), pendingCfg := none } := by
  obtain ⟨hbarrier, hgate⟩ := hadmits
  have hlive : fails (s.begin t).saf.fault.isSome (.error stWrongState) = none := fails_false (by
    rw [State.begin_saf, hfault]
    rfl) _
  have hsame : ¬ (decide (rd p 0 4 ≠ safId o) || decide (rd p 4 4 ≠ safCrc o)) = true := by
    simp [hid, hcrc]
  rw [Completes, exec_safetyConfirm, execSafetyConfirm]
  dsimp only
  rw [hbarrier, hgate, hlive, State.begin_saf, hpending]
  exact ⟨_, if_neg hsame, rfl⟩

/-! ### One connection and the others (R307) -/

theorem State.updConn_same (i : Fin 32) (f : SafConn → SafConn) (s : State) : (s.updConn i f).saf.conns[i] = f s.saf.conns[i] := by
  simp [State.updConn]

theorem State.updConn_ne {i k : Fin 32} (h : k ≠ i) (f : SafConn → SafConn) (s : State) :
    (s.updConn i f).saf.conns[k] = s.saf.conns[k] := by
  have hv : i.val ≠ k.val := fun e => h (Fin.ext e.symm)
  simp [State.updConn, hv]

/-- A connection enters another state. -/
theorem State.setConn_saf {i : Fin 32} {x : ConnState} {s : State} (h : s.saf.conns[i].state ≠ x) : (s.setConn i x).saf =
    (s.updConn i fun c => { c with state := x, seqLast := if x = .lost then none else c.seqLast, candidate := false }).saf := by
  unfold State.setConn
  rw [if_neg h, State.record_saf]

/-! ### Safety frames (R303, R304, R350) -/

/-- A container with one frame, for a connection of the configuration in force. -/
structure FrameFits (b f e : Bytes) (i : Fin 32) (s : State) : Prop where
  live : s.safLive = true
  node : s.node ≠ 0
  cls : fClass b = clsCyclic
  sub : fSubtype b = 3
  crc : pcrcGood b = true
  heard : s.shut b = false
  frame : containerFrames (fPayload b) = [f]
  entry : (s.saf.cfg.bind fun o => (safConnEntries o).find? fun x => !cnProduces x && cnId x = sfrId f) = some e
  index : i.val = cnIndex e

theorem FrameFits.exec_eq {b f e : Bytes} {i : Fin 32} {s : State} (h : FrameFits b f e i s) (t ingress : Ns) :
    exec (.safetyContainer t ingress b true) s = .next (
      if !sfrGood (cnSeal e) f then (s.begin t).updConn i fun c => { c with crcErr := satAdd 32 c.crcErr 1 }
      else if s.saf.conns[i].state = .active then (s.begin t).frameActive i f ingress
      else (s.begin t).frameIdle i (cnWd e) f ingress) := by
  obtain ⟨hlive, hnode, hcls, hsub, hcrc, hheard, hframe, hentry, hindex⟩ := h
  have hcount : (s.begin t).countPcrc b = s.begin t := if_pos hcrc
  have hcond : ¬ (!(s.begin t).safLive || (s.begin t).node = 0 || fClass b ≠ clsCyclic || fSubtype b ≠ 3 || !pcrcGood b ||
      (s.begin t).shut b) = true := by
    rw [State.begin_safLive, State.begin_node, hlive, decide_eq_false hnode, hcls, hsub, hcrc, show (s.begin t).shut b = false from hheard]
    decide
  have hlt : cnIndex e < 32 := hindex ▸ i.isLt
  obtain rfl : i = ⟨cnIndex e, hlt⟩ := Fin.ext hindex
  rw [exec_safetyContainer, execSafetyContainer, hcount, if_neg hcond, hframe, List.foldl_cons, List.foldl_nil, State.safetyFrame]
  rw [State.begin_saf, hentry]
  exact congrArg Host.Outcome.next (dif_pos hlt)

theorem safetyContainer_takes (t ingress : Ns) (b f e : Bytes) (i : Fin 32) (last : BitVec 16) (s : State) (h : FrameFits b f e i s)
    (hgood : sfrGood (cnSeal e) f = true) (hactive : s.saf.conns[i].state = .active) (hlast : s.saf.conns[i].seqLast = some last)
    (hnext : s.seqNext last (sfrSeq f) = true) (hsafe : sfrFailsafe f = false) : Completes (.safetyContainer t ingress b true) s fun u =>
      u.saf.conns[i].state = .active ∧ u.saf.conns[i].seqLast = some (sfrSeq f) ∧ u.saf.conns[i].stateBits = sfrState f ∧
      u.saf.conns[i].validBits = sfrValid f ∧ u.saf.conns[i].lastIngress = some ingress ∧
      ∀ j : Fin 32, j ≠ i → u.saf.conns[j] = s.saf.conns[j] := by
  have hnew : ¬ sfrSeq f = last := by
    rintro rfl
    simp [State.seqNext] at hnext
  have htake : (s.begin t).frameActive i f ingress = (s.begin t).updConn i (SafConn.take f ingress (ingress + s.time.ringOff)) := by
    unfold State.frameActive
    dsimp only
    rw [State.begin_saf, hlast, Option.getD_some, if_neg hnew, show (s.begin t).seqNext last (sfrSeq f) = true from hnext, if_neg (by decide),
      hsafe, if_neg (by decide)]
    rfl
  refine ⟨_, h.exec_eq t ingress, ?_⟩
  rw [hgood, if_neg (by decide), if_pos hactive, htake]
  simp only [State.updConn_same]
  exact ⟨hactive, rfl, rfl, rfl, rfl, fun j hj => State.updConn_ne hj _ _⟩

theorem safetyContainer_counts (t ingress : Ns) (b f e : Bytes) (i : Fin 32) (s : State) (h : FrameFits b f e i s)
    (hbad : sfrGood (cnSeal e) f = false) : Completes (.safetyContainer t ingress b true) s fun u =>
      u.saf.conns[i] = { s.saf.conns[i] with crcErr := satAdd 32 s.saf.conns[i].crcErr 1 } ∧
      ∀ j : Fin 32, j ≠ i → u.saf.conns[j] = s.saf.conns[j] := by
  refine ⟨_, h.exec_eq t ingress, ?_⟩
  rw [hbad, if_pos (by decide)]
  exact ⟨State.updConn_same i _ _, fun j hj => State.updConn_ne hj _ _⟩

/-! ### The watchdog of a connection (R305) -/

theorem safetyFrameWatchdog_loses (t : Ns) (conn : Fin 32) (d : Ns) (s : State) (hlive : s.safLive = true)
    (hdeadline : (s.begin t).connDeadline conn = some d) (hdue : d ≤ max s.clock t) : Completes (.safetyFrameWatchdog t conn []) s fun u =>
      u.saf.conns[conn].state = .lost ∧ u.saf.conns[conn].expiries = satAdd 32 s.saf.conns[conn].expiries 1 ∧
      u.saf.conns[conn].seqLast = none ∧ ∀ j : Fin 32, j ≠ conn → u.saf.conns[j] = s.saf.conns[j] := by
  have hcond : ¬ (!(s.begin t).safLive || (s.begin t).clock < d) = true := by
    rw [State.begin_reached hdue, State.begin_safLive, hlive]
    decide
  have hactive : s.saf.conns[conn].state = .active := by
    by_contra hne
    have hnone : (s.begin t).connDeadline conn = none := if_neg hne
    rw [hnone] at hdeadline
    cases hdeadline
  have hrun : exec (.safetyFrameWatchdog t conn []) s = .next ((s.begin t).watchdogLost conn) := by
    rw [exec_safetyFrameWatchdog, execSafetyFrameWatchdog, hdeadline]
    dsimp only
    rw [if_neg hcond, State.deferOr_nil]
  refine ⟨_, hrun, ?_⟩
  generalize ha : (s.begin t).updConn conn (fun c => { c with expiries := satAdd 32 c.expiries 1 }) = a
  have hsame : a.saf.conns[conn] = { s.saf.conns[conn] with expiries := satAdd 32 s.saf.conns[conn].expiries 1 } := by
    rw [← ha]
    exact State.updConn_same conn _ _
  have hother : ∀ j : Fin 32, j ≠ conn → a.saf.conns[j] = s.saf.conns[j] := fun j hj => by
    rw [← ha]
    exact State.updConn_ne hj _ _
  have hlost : a.saf.conns[conn].state ≠ .lost := by
    rw [hsame, hactive]
    decide
  have hconns : ((s.begin t).watchdogLost conn).saf.conns = (a.setConn conn .lost).saf.conns := by
    have hkeeps : SafKeeps Saf.conns (a.setConn conn .lost) ((s.begin t).watchdogLost conn) := by
      unfold State.watchdogLost
      rw [ha]
      exact .ite (State.safOutputs_keeps _ _) (.refl _)
    exact hkeeps
  simp only [hconns, State.setConn_saf hlost, State.updConn_same]
  exact ⟨trivial, by rw [hsame], rfl, fun j hj => (State.updConn_ne hj _ _).trans (hother j hj)⟩

/-! ### Faults of the island (R280, R314) -/

/-- A command that is an ISLAND_FAULT of a live island. -/
theorem completes_islandFault {c : Instr} {t : Ns} {cls : SafFault} {s : State} (h : exec c s = .next ((s.begin t).islandFault cls))
    (hfault : s.saf.fault = none) : Completes c s fun u =>
      u.saf.fault = some cls ∧ (∀ sf : Fin 48, s.saf.fns[sf].state.active = true → u.saf.fns[sf].state = .islandFault) ∧
      ∀ c : Fin 128, s.safetyGroup (grp c) = true → u.chans[c].safOff = true ∧ (s.mode c = .sdo → u.chans[c].permit = false) := by
  obtain ⟨hset, hfns, hchans, -⟩ := (State.islandFault_enters (s := s.begin t) hfault cls).of_same rfl rfl rfl (s := s)
  refine ⟨_, h, hset, hfns, fun k hk => ?_⟩
  obtain ⟨hoff, hsdo⟩ := hchans k hk
  exact ⟨hoff, fun hm => (hsdo hm).1⟩

theorem safReferenceCheck_faults (t : Ns) (d : Rat) (s : State) (hup : s.up .saf = true) (hfault : s.saf.fault = none)
    (hdiff : 2 < absR d) : Completes (.safReferenceCheck t d) s fun u =>
      u.saf.fault = some .reference ∧ (∀ sf : Fin 48, s.saf.fns[sf].state.active = true → u.saf.fns[sf].state = .islandFault) ∧
      ∀ c : Fin 128, s.safetyGroup (grp c) = true → u.chans[c].safOff = true ∧ (s.mode c = .sdo → u.chans[c].permit = false) := by
  refine completes_islandFault (t := t) ?_ hfault
  rw [exec_safReferenceCheck, execSafReferenceCheck, State.begin_up, hup, decide_eq_true hdiff]
  rfl

/-! ### The obligation -/

/-- Settles O20: a frame that fits works on its connection alone, and each class of failure is the same ISLAND_FAULT. -/
theorem safetyConfigurationAndFaults : Obligations.SafetyConfigurationAndFaults := by
  unfold Obligations.SafetyConfigurationAndFaults
  refine ⟨safetyConfig_waits, safetyConfirm_activates, ?_, ?_, safetyFrameWatchdog_loses, safReferenceCheck_faults,
    fun t s => completes_islandFault (exec_safMemoryError t s), fun t s => completes_islandFault (exec_safSupplyFault t s)⟩
  · intro t ingress b f e i last s hlive hnode hcls hsub hcrc hheard hframe hentry hindex
    exact safetyContainer_takes t ingress b f e i last s ⟨hlive, hnode, hcls, hsub, hcrc, hheard, hframe, hentry, hindex⟩
  · intro t ingress b f e i s hlive hnode hcls hsub hcrc hheard hframe hentry hindex
    exact safetyContainer_counts t ingress b f e i s ⟨hlive, hnode, hcls, hsub, hcrc, hheard, hframe, hentry, hindex⟩

end Sys2Proof.Machine
end

section
/-! The ring's state: what stays of it under a view, what the operations that its obligations share leave of it, and its ports. -/

namespace Sys2Proof.Machine

/-! ### What stays of the ring -/

/-- From `s` to `t` what `view` shows of the ring's state stays. -/
def RingKeeps {β : Type} (view : Ring → β) (s t : State) : Prop := view t.ring = view s.ring

namespace RingKeeps
variable {β : Type} {view : Ring → β} {s t u : State}

theorem refl (s : State) : RingKeeps view s s := rfl

theorem trans (h : RingKeeps view s t) (k : RingKeeps view t u) : RingKeeps view s u := Eq.trans k h

theorem ite {c : Prop} [Decidable c] (h : RingKeeps view s t) (k : RingKeeps view s u) : RingKeeps view s (if c then t else u) := by
  split
  · exact h
  · exact k

theorem foldl {α : Type} {f : State → α → State} (h : ∀ s x, RingKeeps view s (f s x)) (l : List α) (s : State) :
    RingKeeps view s (l.foldl f s) :=
  List.foldlRecOn l f (refl s) fun _ hb x _ => hb.trans (h _ x)

theorem of_ring (h : t.ring = s.ring) : RingKeeps view s t := congrArg view h

/-- What leaves the ring alone. -/
theorem of_keep {m : Nat} (k : Keep m s t) (hm : m.testBit Aspect.ring.bit = false) : RingKeeps view s t := of_ring (k.same .ring hm)

/-- An update that the view does not show. -/
theorem updRing (s : State) (f : Ring → Ring) (hf : ∀ r, view (f r) = view r := by exact fun _ => rfl) :
    RingKeeps view s (s.updRing f) := hf s.ring

/-- What a view shows shows a part of it. -/
theorem sees {γ : Type} {part : Ring → γ} (h : RingKeeps view s t) (f : β → γ)
    (hf : ∀ r, f (view r) = part r := by exact fun _ => rfl) : RingKeeps part s t :=
  (hf _).symm.trans ((congrArg f h).trans (hf _))

end RingKeeps

/-- The ring beside its ports and their counters. -/
def Ring.besidePorts (r : Ring) : Ring := { r with ports := Vector.replicate 3 {} }

/-- The ring beside the responses of the tunnels that this node serves. -/
def Ring.besideResponses (r : Ring) : Ring := { r with serving := [], kept := [], acyclic := [] }

/-! ### Outcomes (R352, R432) -/

/-- An outcome changes at most the responses. -/
theorem State.complete_responses (org : Origin) (o : Outcome) (s : State) : RingKeeps Ring.besideResponses s (s.complete org o) := by
  cases org with
  | host id => exact .of_keep (State.forwardDone_keep _ id o s) (by decide)
  | tunnel src tid =>
    rw [State.complete]
    unfold State.tunnelRespond
    split
    · exact .refl s
    · exact .updRing s _
  | partner _ =>
    rw [State.complete]
    exact .of_ring rfl
  | self => exact .refl s

@[simp] theorem State.complete_regs (org : Origin) (o : Outcome) (s : State) : (s.complete org o).regs = s.regs :=
  (State.complete_keep org o s).same .regs (by decide)

@[simp] theorem State.complete_clock (org : Origin) (o : Outcome) (s : State) : (s.complete org o).clock = s.clock :=
  (s.complete_sends org o).clock

/-! ### Ports (R320, R321, R329) -/

theorem Port.idx_injective : Function.Injective Port.idx := by
  intro p q
  cases p <;> cases q <;> decide

theorem State.updPort_same (p : Port) (f : RingPort → RingPort) (s : State) : (s.updPort p f).port p = f (s.port p) := by
  simp [State.updPort, State.updRing, State.port]

theorem State.updPort_ne {p q : Port} (h : q ≠ p) (f : RingPort → RingPort) (s : State) : (s.updPort p f).port q = s.port q := by
  have hv : (Port.idx p).val ≠ (Port.idx q).val := fun e => h (Port.idx_injective (Fin.ext e.symm))
  simp [State.updPort, State.updRing, State.port, hv]

/-- What an update leaves of its port stays of every port. -/
theorem State.updPort_view {β : Type} (view : RingPort → β) (p q : Port) (f : RingPort → RingPort) (s : State)
    (hf : ∀ x, view (f x) = view x := by exact fun _ => rfl) : view ((s.updPort p f).port q) = view (s.port q) := by
  rcases eq_or_ne q p with rfl | hne
  · rw [State.updPort_same, hf]
  · rw [State.updPort_ne hne]

theorem State.updPort_besidePorts (p : Port) (f : RingPort → RingPort) (s : State) :
    RingKeeps Ring.besidePorts s (s.updPort p f) := .updRing s _

theorem State.countPorts_besidePorts (f : RingPort → RingPort) (l : List Port) (s : State) :
    RingKeeps Ring.besidePorts s (l.foldl (fun s p => s.updPort p f) s) := .foldl (fun u p => u.updPort_besidePorts p f) l s

/-- A frame that leaves is counted at its ports. -/
theorem State.sendFrame_besidePorts (pair : Bool) (seq : BitVec 16) (cls sub dest : Nat) (payload : Bytes) (l : List Port) (s : State) :
    RingKeeps Ring.besidePorts s (s.sendFrame pair seq cls sub dest payload l) := by
  unfold State.sendFrame
  extract_lets f up a b
  have ha : RingKeeps Ring.besidePorts s a := .ite (.of_ring rfl) (.refl s)
  have hb : RingKeeps Ring.besidePorts a b := a.countPorts_besidePorts _ up
  exact (ha.trans hb).trans (.ite (.refl b) (.of_ring rfl))

/-- A frame under the node's own address takes the next sequence number. -/
theorem State.originate_besidePorts (cls sub dest : Nat) (payload : Bytes) (l : List Port) {s : State} (h : s.node ≠ 0) :
    RingKeeps Ring.besidePorts (s.takeSeq false) (s.originate false cls sub dest payload l) := by
  have hsent := s.sendFrame_besidePorts false s.ring.seq cls sub dest payload l
  unfold State.originate
  rw [if_neg h]
  exact congrArg (fun r : Ring => { r with seq := r.seq + 1 }) hsent

end Sys2Proof.Machine
end

section
/-! Frames of the ring (obligation RingFrames): links, then one lemma per fate of a received frame, then the acyclic queue. -/

namespace Sys2Proof.Machine

/-! ### Links (R320, R321, R372) -/

theorem State.port_of_ring {s t : State} (h : t.ring = s.ring) (p : Port) : t.port p = s.port p := by rw [State.port, h, State.port]

@[simp] theorem State.record_port (src : Isl) (kind : RecKind) (items : List Int) (s : State) (p : Port) :
    (s.record src kind items).port p = s.port p := State.port_of_ring (State.record_ring ..) p

theorem State.setLink_port (p : Port) (x : Link) (gigabit : Bool) (s : State) :
    ((s.setLink p x gigabit).port p).link = x ∧ ((s.setLink p x gigabit).port p).gigabit = gigabit ∧
    ((s.setLink p x gigabit).port p).linkEvents =
      (if (s.port p).link == .up && x != .up then satAdd 32 (s.port p).linkEvents 1 else (s.port p).linkEvents) ∧
    ∀ q : Port, q ≠ p → (s.setLink p x gigabit).port q = s.port q := by
  unfold State.setLink
  split
  · rename_i hsame
    obtain ⟨hlink, hgigabit⟩ : (s.port p).link = x ∧ (s.port p).gigabit = gigabit := by simpa using hsame
    exact ⟨hlink, hgigabit, by rw [hlink, if_neg (by simp)], fun _ _ => rfl⟩
  · simp only [State.record_port, State.updPort_same]
    exact ⟨trivial, trivial, trivial, fun q hq => State.updPort_ne hq _ s⟩

theorem linkUp_sets (t : Ns) (p : Port) (gig : Bool) (s : State) (hon : s.portOff p = false) : Completes (.linkUp t p gig) s fun u =>
    (u.port p).link = .up ∧ (u.port p).gigabit = (gig && !s.forcedSlow p) ∧ (u.port p).linkEvents = (s.port p).linkEvents ∧
    ∀ q : Port, q ≠ p → u.port q = s.port q := by
  obtain ⟨hlink, hgigabit, hevents, hother⟩ := (s.begin t).setLink_port p .up (gig && !s.forcedSlow p)
  have hoff : ¬ (s.begin t).portOff p = true := Bool.eq_false_iff.mp hon
  refine ⟨_, (exec_linkUp t p gig s).trans (if_neg hoff), hlink, hgigabit, hevents.trans (if_neg ?_), hother⟩
  rw [bne_self_eq_false, Bool.and_false]
  decide

/-- The node with a port that has lost its link. -/
def State.unlinked (p : Port) (neg : Bool) (s : State) : State :=
  s.setLink p (if neg && !s.portOff p then .negFail else .down) (s.port p).gigabit

theorem State.unlinked_port {p : Port} {neg : Bool} {s : State} (hup : (s.port p).link = .up) :
    ((s.unlinked p neg).port p).link = (if neg && !s.portOff p then .negFail else .down) ∧
    ((s.unlinked p neg).port p).linkEvents = satAdd 32 (s.port p).linkEvents 1 ∧
    ∀ q : Port, q ≠ p → (s.unlinked p neg).port q = s.port q := by
  obtain ⟨hlink, -, hevents, hother⟩ := s.setLink_port p (if neg && !s.portOff p then .negFail else .down) (s.port p).gigabit
  refine ⟨hlink, hevents.trans (if_pos ?_), hother⟩
  rw [hup]
  split <;> rfl

theorem State.unlinked_isPair (p : Port) (neg : Bool) (s : State) : (s.unlinked p neg).isPair = s.isPair := by
  rw [State.isPair, State.role, State.unlinked, (State.setLink_keep _ _ _ s).same .regs (by decide)]
  rfl

/-- A member that loses its link to the partner loses the partner, and keeps its ports. -/
theorem linkDown_sets (t : Ns) (p : Port) (neg : Bool) (s : State) (hup : (s.port p).link = .up) :
    Completes (.linkDown t p neg) s fun u =>
      (u.port p).link = (if neg && !s.portOff p then .negFail else .down) ∧ (u.port p).linkEvents = satAdd 32 (s.port p).linkEvents 1 ∧
      (p = .l → s.isPair = true → u.pair.partner.lost = true ∧ u.pair.barrier.partnerLive = false) ∧
      ∀ q : Port, q ≠ p → u.port q = s.port q := by
  obtain ⟨hlink, hevents, hother⟩ := State.unlinked_port (s := s.begin t) (neg := neg) hup
  have hpair := (s.begin t).unlinked_isPair p neg
  have hrun : exec (.linkDown t p neg) s = .next (if p == .l && ((s.begin t).unlinked p neg).isPair
      then ((s.begin t).unlinked p neg).partnerGone else (s.begin t).unlinked p neg) := rfl
  refine ⟨_, hrun, ?_⟩
  generalize (s.begin t).unlinked p neg = a at hlink hevents hother hpair
  have hring : (if (p == .l && a.isPair) = true then a.partnerGone else a).ring = a.ring := by
    split
    · exact (State.partnerGone_keep a).same .ring (by decide)
    · rfl
  simp only [State.port_of_ring hring]
  refine ⟨hlink, hevents, fun hl hmember => ?_, hother⟩
  rw [if_pos (by rw [hl, hpair, State.begin_isPair, hmember]; rfl)]
  exact ⟨a.partnerGone_out.lost, a.partnerGone_out.live⟩

/-! ### The arrival of a frame (R325, R327, R330, R339) -/

/-- A Broluma frame of a known class with hops left, on a port of the ring that is up. -/
structure RingFrameFits (p : Port) (w : WireFrame) (s : State) : Prop where
  up : s.up .rng = true
  link : (s.port p).link = .up
  size : w.length ≤ 1518
  notPtp : w.etherType ≠ 0x88F7
  type : w.etherType = s.ringType
  header : 20 ≤ w.bytes.length
  onRing : (p == .l && s.isPair) = false
  cls : fClass w.bytes = 1 ∨ fClass w.bytes = 2 ∨ fClass w.bytes = 3
  hops : fHops w.bytes ≠ 255

/-- The counters of a port after one more received frame. -/
def RingPort.received (w : WireFrame) (q : RingPort) : RingPort :=
  { q with rxFrames := satAdd 32 q.rxFrames 1, rxBytes := satAdd 32 q.rxBytes w.length,
           fcsErrors := if w.fcsGood then q.fcsErrors else satAdd 32 q.fcsErrors 1 }

/-- The node with a frame that is counted and, where its FCS is good, seen. -/
def State.arrived (p : Port) (ingress : Ns) (w : WireFrame) (s : State) : State :=
  if w.fcsGood then (s.updPort p (RingPort.received w)).seeFrame p ingress w.bytes else s.updPort p (RingPort.received w)

/-- A port beside what the arrival of a frame and its entry in the discard table count there. -/
def RingPort.besideArrival (q : RingPort) : RingPort :=
  { q with rxFrames := 0, rxBytes := 0, fcsErrors := 0, lastTransit := 0, maxTransit := 0, discardEvict := 0 }

theorem RingPort.counts_of_besideArrival {x y : RingPort} (h : x.besideArrival = y.besideArrival) :
    x.link = y.link ∧ x.own = y.own ∧ x.duplicate = y.duplicate ∧ x.txForwarded = y.txForwarded :=
  ⟨(congrArg RingPort.link h :), (congrArg RingPort.own h :), (congrArg RingPort.duplicate h :), (congrArg RingPort.txForwarded h :)⟩

section
variable (p : Port) (ingress : Ns) (w : WireFrame) (f : Bytes) (s : State)

theorem State.arrived_eq : ∃ ports stations, s.arrived p ingress w = { s with ring := { s.ring with ports := ports, stations := stations } } := by
  unfold State.arrived
  split
  · exact ⟨_, _, rfl⟩
  · exact ⟨_, _, rfl⟩

theorem State.arrived_port (q : Port) : ((s.arrived p ingress w).port q).besideArrival = (s.port q).besideArrival := by
  have hcount := State.updPort_view RingPort.besideArrival p q (RingPort.received w) s
  unfold State.arrived
  split
  · unfold State.seeFrame
    extract_lets transit a see
    have ha : (a.port q).besideArrival = ((s.updPort p (RingPort.received w)).port q).besideArrival :=
      State.updPort_view RingPort.besideArrival p q _ _
    exact ha.trans hcount
  · exact hcount

@[simp] theorem State.arrived_out : (s.arrived p ingress w).out = s.out := by
  obtain ⟨_, _, h⟩ := s.arrived_eq p ingress w
  rw [h]

@[simp] theorem State.arrived_discard : (s.arrived p ingress w).ring.discard = s.ring.discard := by
  obtain ⟨_, _, h⟩ := s.arrived_eq p ingress w
  rw [h]

@[simp] theorem State.arrived_entry : (s.arrived p ingress w).ring.entry f = s.ring.entry f := by
  rw [Ring.entry, State.arrived_discard, Ring.entry]

@[simp] theorem State.arrived_ownFrame : (s.arrived p ingress w).ownFrame f = s.ownFrame f := by
  obtain ⟨_, _, h⟩ := s.arrived_eq p ingress w
  rw [h]
  rfl

/-- A frame that the node's ring sorts. -/
theorem RingFrameFits.exec_eq {p : Port} {w : WireFrame} {s : State} (h : RingFrameFits p w s) (t ingress : Ns) :
    exec (.frameReceive t p ingress w) s = .next (((s.begin t).updPort p (RingPort.received w)).ringFrame p ingress w) := by
  obtain ⟨hup, hlink, hsize, hptp, htype, hheader, hring, -, -⟩ := h
  have hopen : ¬ (!(s.begin t).up .rng || ((s.begin t).port p).link != .up) = true := by simp [hup, hlink]
  have hkind : ¬ (w.etherType == 0x88F7) = true := by simpa using hptp
  have hours : ¬ (w.etherType != ((s.begin t).updPort p (RingPort.received w)).ringType || decide (w.bytes.length < 20)) = true := by
    have hsame : ((s.begin t).updPort p (RingPort.received w)).ringType = s.ringType := rfl
    simp [hsame, htype, hheader]
  rw [exec_frameReceive, execFrameReceive, if_neg hopen, if_neg hsize.not_gt, if_neg hkind]
  exact (if_neg hours).trans (if_neg (Bool.eq_false_iff.mp hring))

/-- Past the class and the hops, the rule that sorts the frame finds its arrival noted. -/
theorem RingFrameFits.known {p : Port} {w : WireFrame} {s : State} (h : RingFrameFits p w s) :
    ¬ (!(fClass w.bytes == 1 || fClass w.bytes == 2 || fClass w.bytes == 3)) = true ∧ ¬ (fHops w.bytes == 255) = true := by
  refine ⟨?_, by simpa using h.hops⟩
  rcases h.cls with hc | hc | hc <;> simp [hc]

theorem RingFrameFits.exec_own {p : Port} {w : WireFrame} {s : State} (h : RingFrameFits p w s) (t ingress : Ns)
    (hown : s.ownFrame w.bytes = true) : exec (.frameReceive t p ingress w) s =
      .next (((s.begin t).arrived p ingress w).updPort p fun q => { q with own := satAdd 32 q.own 1 }) := by
  obtain ⟨hcls, hhops⟩ := h.known
  have hown' : ((s.begin t).arrived p ingress w).ownFrame w.bytes = true := (State.arrived_ownFrame ..).trans hown
  rw [h.exec_eq, State.ringFrame, if_neg hcls]
  exact congrArg _ ((if_neg hhops).trans (if_pos hown'))

theorem RingFrameFits.exec_new {p : Port} {w : WireFrame} {s : State} (h : RingFrameFits p w s) (t ingress : Ns)
    (hown : s.ownFrame w.bytes = false) (hentry : s.ring.entry w.bytes = none) : exec (.frameReceive t p ingress w) s =
      .next (((s.begin t).arrived p ingress w).passFrame p w) := by
  obtain ⟨hcls, hhops⟩ := h.known
  have hown' : ¬ ((s.begin t).arrived p ingress w).ownFrame w.bytes = true :=
    Bool.eq_false_iff.mp ((State.arrived_ownFrame ..).trans hown)
  have hentry' : ((s.begin t).arrived p ingress w).ring.entry w.bytes = none := (State.arrived_entry ..).trans hentry
  rw [h.exec_eq, State.ringFrame, if_neg hcls]
  refine congrArg _ ((if_neg hhops).trans ((if_neg hown').trans ?_))
  unfold State.arrived at hentry' ⊢
  simp only [hentry']

theorem RingFrameFits.exec_duplicate {p : Port} {w : WireFrame} {d : DiscardSrc} {r : SeqRec} {s : State} (h : RingFrameFits p w s)
    (t ingress : Ns) (hown : s.ownFrame w.bytes = false) (hentry : s.ring.entry w.bytes = some d) (hfind : d.find (fSeq w.bytes) = some r) :
    exec (.frameReceive t p ingress w) s = .next (((s.begin t).arrived p ingress w).dropDuplicate p w.fcsGood r w.bytes) := by
  obtain ⟨hcls, hhops⟩ := h.known
  have hown' : ¬ ((s.begin t).arrived p ingress w).ownFrame w.bytes = true :=
    Bool.eq_false_iff.mp ((State.arrived_ownFrame ..).trans hown)
  have hentry' : ((s.begin t).arrived p ingress w).ring.entry w.bytes = some d := (State.arrived_entry ..).trans hentry
  rw [h.exec_eq, State.ringFrame, if_neg hcls]
  refine congrArg _ ((if_neg hhops).trans ((if_neg hown').trans ?_))
  unfold State.arrived at hentry' ⊢
  simp only [hentry', hfind]

end

/-! ### Forwarded frames (R327, R329, R331, R335) -/

section
variable (p : Port) (w : WireFrame) (f : Bytes) (s : State)

theorem State.recordFrame_eq : ∃ ports discard, s.recordFrame p f = { s with ring := { s.ring with ports := ports, discard := discard } } := by
  unfold State.recordFrame
  split
  · exact ⟨_, _, rfl⟩
  · extract_lets others full rest e a
    split
    · exact ⟨_, _, rfl⟩
    · exact ⟨_, _, rfl⟩

theorem State.recordFrame_port (q : Port) : ((s.recordFrame p f).port q).besideArrival = (s.port q).besideArrival := by
  unfold State.recordFrame
  split
  · rfl
  · extract_lets others full rest e a
    split
    · exact State.updPort_view RingPort.besideArrival p q _ a
    · rfl

/-- The first frame of a source is remembered. -/
theorem State.recordFrame_remembers {s : State} (h : s.ring.entry f = none) :
    (((s.recordFrame p f).ring.entry f).bind fun d => d.find (fSeq f)).isSome = true := by
  unfold State.recordFrame
  rw [h]
  dsimp only
  split <;> simp [State.updPort, State.updRing, Ring.entry, DiscardSrc.find]

/-- A frame for another node that a port forwards. -/
theorem State.passFrame_forwards {q : Port} (hgood : w.fcsGood = true) (hdest : s.node = 0 ∨ fDest w.bytes ≠ s.node)
    (hadopts : s.adopts w.bytes = false) (hports : s.forwardPorts p w.bytes = [q]) :
    s.passFrame p w = (s.recordFrame p w.bytes).forwardOut w q := by
  have hmine : ¬ (fDest w.bytes == s.node && s.node != 0) = true := by
    rcases hdest with hzero | hother
    · simp [hzero]
    · simp [hother]
  unfold State.passFrame
  simp only [if_neg hmine, hadopts, hgood, hports, Bool.false_and, Bool.false_eq_true, if_false, Bool.not_true, if_true,
    List.foldl_cons, List.foldl_nil]

theorem State.forwardOut_sends {q : Port} (hgood : w.fcsGood = true) (hlink : (s.port q).link = .up)
    (hwindow : (fClass w.bytes == clsCyclic && s.locked && s.ring.windowEnded) = false) :
    s.forwardOut w q = (s.updPort q fun x => { x with txForwarded := satAdd 32 x.txForwarded 1 }).emit
      (.forwarded q (forwardedFrame s.now w)) := by
  unfold State.forwardOut
  rw [if_neg (by simp [hlink]), if_neg (Bool.eq_false_iff.mp hwindow)]
  simp only [hgood, if_true]

/-- What a good frame of a source not heard before does, on its way to another node. -/
theorem State.passFrame_spec {q : Port} (hgood : w.fcsGood = true) (hdest : s.node = 0 ∨ fDest w.bytes ≠ s.node)
    (hadopts : s.adopts w.bytes = false) (hports : s.forwardPorts p w.bytes = [q]) (hentry : s.ring.entry w.bytes = none)
    (hlink : (s.port q).link = .up) (hwindow : (fClass w.bytes == clsCyclic && s.locked && s.ring.windowEnded) = false) :
    (s.passFrame p w).out = s.out ++ [.forwarded q (forwardedFrame s.now w)] ∧
    ((s.passFrame p w).port q).txForwarded = satAdd 32 (s.port q).txForwarded 1 ∧
    (((s.passFrame p w).ring.entry w.bytes).bind fun d => d.find (fSeq w.bytes)).isSome = true := by
  have hfound := State.recordFrame_remembers p w.bytes hentry
  obtain ⟨hsame, -, -, hsent⟩ := RingPort.counts_of_besideArrival (s.recordFrame_port p w.bytes q)
  obtain ⟨ports, discard, hrecorded⟩ := s.recordFrame_eq p w.bytes
  rw [s.passFrame_forwards p w hgood hdest hadopts hports,
    State.forwardOut_sends w _ hgood (hsame.trans hlink) (by rw [hrecorded]; exact hwindow)]
  refine ⟨?_, ?_, hfound⟩
  · rw [hrecorded]
    rfl
  · rw [State.port_of_ring (State.emit_ring ..), State.updPort_same, hsent]
end

theorem frameReceive_forwards (t : Ns) (p q : Port) (ingress : Ns) (w : WireFrame) (s : State) (h : RingFrameFits p w s)
    (hports : s.forwardPorts p w.bytes = [q]) (hown : s.ownFrame w.bytes = false) (hentry : s.ring.entry w.bytes = none)
    (hgood : w.fcsGood = true) (hdest : s.node = 0 ∨ fDest w.bytes ≠ s.node) (hadopts : s.adopts w.bytes = false)
    (hlink : (s.port q).link = .up) (hwindow : (fClass w.bytes == clsCyclic && s.locked && s.ring.windowEnded) = false) :
    Completes (.frameReceive t p ingress w) s fun u =>
      u.out = [.forwarded q (forwardedFrame (s.begin t).now w)] ∧ (u.port q).txForwarded = satAdd 32 (s.port q).txForwarded 1 ∧
      ((u.ring.entry w.bytes).bind fun d => d.find (fSeq w.bytes)).isSome = true := by
  refine ⟨_, h.exec_new t ingress hown hentry, ?_⟩
  obtain ⟨hsame, -, -, hsent⟩ := RingPort.counts_of_besideArrival ((s.begin t).arrived_port p ingress w q)
  obtain ⟨ports, stations, harrived⟩ := (s.begin t).arrived_eq p ingress w
  have hup := hsame.trans hlink
  rw [State.begin_port] at hsent
  rw [← hsent]
  rw [harrived] at hup ⊢
  exact State.passFrame_spec p w _ hgood hdest hadopts hports hentry hup hwindow

/-! ### Own frames and duplicates (R331, R333, R371) -/

theorem frameReceive_own (t : Ns) (p : Port) (ingress : Ns) (w : WireFrame) (s : State) (h : RingFrameFits p w s)
    (hown : s.ownFrame w.bytes = true) : Completes (.frameReceive t p ingress w) s fun u =>
      u.out = [] ∧ (u.port p).own = satAdd 32 (s.port p).own 1 ∧ u.ring.discard = s.ring.discard := by
  obtain ⟨-, hport, -, -⟩ := RingPort.counts_of_besideArrival ((s.begin t).arrived_port p ingress w p)
  refine ⟨_, h.exec_own t ingress hown, (s.begin t).arrived_out p ingress w, ?_, (s.begin t).arrived_discard p ingress w⟩
  rw [State.updPort_same, hport]
  rfl

/-- Nothing that the command sends is a forwarded frame. -/
def NoneForwarded (s : State) : Prop := ∀ e ∈ s.out, ∀ q w, e ≠ .forwarded q w

namespace NoneForwarded
variable {s : State}

theorem of_out {t : State} (h : NoneForwarded s) (ho : t.out = s.out) : NoneForwarded t := by rwa [NoneForwarded, ho]

theorem emit {e : Emission} (h : NoneForwarded s) (he : ∀ q w, e ≠ .forwarded q w) : NoneForwarded (s.emit e) := by
  intro x hx
  rcases List.mem_append.mp hx with hx | hx
  · exact h x hx
  · rwa [List.mem_singleton.mp hx]

theorem signal (h : NoneForwarded s) (v : Fin 16) : NoneForwarded (s.signal v) := by
  unfold State.signal
  split
  · exact h.of_out rfl
  · exact h.emit fun _ _ => nofun

theorem signalEq (h : NoneForwarded s) : NoneForwarded s.signalEq := by
  unfold State.signalEq
  split
  · exact (h.of_out (t := s.updHif _) rfl).signal _
  · exact h

theorem writeEvent (h : NoneForwarded s) (e : Event) : NoneForwarded (s.writeEvent e) := by
  have hwritten : NoneForwarded (s.emit (.event s.hif.eq.tail (e.bytes s.hif.eq.phase))) := h.emit fun _ _ => nofun
  exact signalEq (hwritten.of_out rfl)

theorem postEvent (h : NoneForwarded s) (type : BitVec 16) (inst : Nat) (data : Bytes) : NoneForwarded (s.postEvent type inst data) := by
  unfold State.postEvent State.postEventAt
  dsimp only
  split
  · exact (h.of_out (t := s.updHif _) rfl).writeEvent _
  · exact h.of_out rfl

theorem settleHealth (h : NoneForwarded s) : NoneForwarded s.settleHealth := by
  unfold State.settleHealth
  dsimp only
  split
  · exact h
  · exact ((h.of_out (t := s.updMod _) rfl).of_out (State.record_out _ _ _ _)).postEvent _ _ _

theorem dupCompare (h : NoneForwarded s) (pairAddr : Nat) (equal : Bool) : NoneForwarded (s.dupCompare pairAddr equal) := by
  unfold State.dupCompare
  extract_lets mine rest put
  clear_value mine
  split
  · exact (h.of_out (t := put _) rfl).settleHealth
  · exact h
  · split_ifs
    · exact h.of_out rfl
    · exact (h.of_out (t := s.updPair _) rfl).settleHealth
    · exact h.of_out rfl

end NoneForwarded

/-- What a duplicate leaves of an entry of the discard table: all but when it was seen last. -/
def DiscardSrc.known (x : DiscardSrc) : Nat × BitVec 4 × BitVec 16 × List SeqRec := (x.source, x.epoch, x.newest, x.recs)

/-- A duplicate is counted at its port, and the table knows what it knew. -/
theorem State.dropDuplicate_spec (p : Port) (good : Bool) (first : SeqRec) (f : Bytes) {s : State} (h : NoneForwarded s) :
    NoneForwarded (s.dropDuplicate p good first f) ∧
    ((s.dropDuplicate p good first f).port p).duplicate = satAdd 32 (s.port p).duplicate 1 ∧
    (s.dropDuplicate p good first f).ring.discard.map DiscardSrc.known = s.ring.discard.map DiscardSrc.known := by
  unfold State.dropDuplicate
  extract_lets touch a b equal c
  have htouch : a.ring.discard.map DiscardSrc.known = s.ring.discard.map DiscardSrc.known := by
    refine List.map_map.trans (List.map_congr_left fun d _ => ?_)
    simp only [Function.comp_apply, touch]
    split <;> rfl
  have hb : (b.port p).duplicate = satAdd 32 (s.port p).duplicate 1 := congrArg RingPort.duplicate (State.updPort_same p _ a)
  have hc : (c.port p).duplicate = satAdd 32 (s.port p).duplicate 1 := (State.updPort_view RingPort.duplicate p p _ b).trans hb
  split_ifs
  · exact ⟨h.of_out rfl, hb, htouch⟩
  · have hring := (State.dupCompare_keep (fSource f) equal c).same .ring (by decide)
    refine ⟨(h.of_out (t := c) rfl).dupCompare _ _, ?_, ?_⟩
    · rw [State.port_of_ring hring, hc]
    · rw [hring]
      exact htouch
  · exact ⟨h.of_out rfl, hc, htouch⟩

theorem frameReceive_duplicate (t : Ns) (p : Port) (ingress : Ns) (w : WireFrame) (d : DiscardSrc) (r : SeqRec) (s : State)
    (h : RingFrameFits p w s) (hown : s.ownFrame w.bytes = false) (hentry : s.ring.entry w.bytes = some d)
    (hfind : d.find (fSeq w.bytes) = some r) : Completes (.frameReceive t p ingress w) s fun u =>
      NoneForwarded u ∧ (u.port p).duplicate = satAdd 32 (s.port p).duplicate 1 ∧
      u.ring.discard.map DiscardSrc.known = s.ring.discard.map DiscardSrc.known := by
  obtain ⟨-, -, hport, -⟩ := RingPort.counts_of_besideArrival ((s.begin t).arrived_port p ingress w p)
  have hquiet : NoneForwarded ((s.begin t).arrived p ingress w) := fun e he => by simp at he
  obtain ⟨hnone, hcount, htable⟩ := State.dropDuplicate_spec p w.fcsGood r w.bytes hquiet
  refine ⟨_, h.exec_duplicate t ingress hown hentry hfind, hnone, ?_, ?_⟩
  · rw [hcount, hport]
    rfl
  · rw [htable, State.arrived_discard]
    rfl

/-! ### Acyclic frames (R329, R335, R336) -/

/-- What the sending of an acyclic frame starts leaves the queue, the sequence number and what was sent. -/
theorem State.acySent_spec (a : AcyFrame) (s : State) : (s.acySent a).ring.acyclic = s.ring.acyclic ∧
    (s.acySent a).ring.seq = s.ring.seq ∧ (s.acySent a).out = s.out := by
  unfold State.acySent
  split_ifs <;> exact ⟨rfl, rfl, rfl⟩

theorem acyclicSend_first (t : Ns) (a : AcyFrame) (rest : List AcyFrame) (s : State) (hup : s.up .rng = true) (hnode : s.node ≠ 0)
    (hfirst : takeFirst (s.begin t).acyReady s.ring.acyclic = some (a, rest)) (hport : a.port = none) (hseq : a.seq = none)
    (hpair : s.acyPair a = false) (hports : s.portsUp ringPorts ≠ []) : Completes (.acyclicSend t) s fun u =>
      u.ring.acyclic = rest ∧ u.ring.seq = s.ring.seq + 1 ∧
      u.out = [.frame (s.portsUp ringPorts) (mkBroluma s.node s.ring.seq clsAcyclic s.ring.epoch.toNat false a.subtype.toNat a.dest
        (s.begin t).now a.payload)] := by
  have hrun : exec (.acyclicSend t) s = .next ((((s.begin t).updRing fun r => { r with acyclic := rest }).originate false clsAcyclic
      a.subtype.toNat a.dest a.payload ringPorts).acySent a) := by
    have hopen : ¬ (!(s.begin t).up .rng || decide ((s.begin t).node = 0)) = true := by simp [hup, hnode]
    have hpair' : ((s.begin t).updRing fun r => { r with acyclic := rest }).acyPair a = false := hpair
    rw [exec_acyclicSend, execAcyclicSend, if_neg hopen, State.begin_ring, hfirst]
    dsimp only
    rw [hport, hseq]
    dsimp only
    rw [hpair']
  have hnode' : ((s.begin t).updRing fun r => { r with acyclic := rest }).node ≠ 0 := hnode
  have hring := State.originate_besidePorts clsAcyclic a.subtype.toNat a.dest a.payload ringPorts hnode'
  obtain ⟨r, o, heq, hout⟩ := ((s.begin t).updRing fun r => { r with acyclic := rest }).originate_eq clsAcyclic a.subtype.toNat a.dest
    a.payload ringPorts
  obtain ⟨hacyclic, hnext, hsent⟩ := (((s.begin t).updRing fun r => { r with acyclic := rest }).originate false clsAcyclic
    a.subtype.toNat a.dest a.payload ringPorts).acySent_spec a
  refine ⟨_, hrun, hacyclic.trans (congrArg Ring.acyclic hring), hnext.trans (congrArg Ring.seq hring), hsent.trans ?_⟩
  rw [heq, hout hnode' hports]
  rfl

/-! ### The obligation -/

/-- Settles O21: a frame is sorted with its arrival noted, by whether it is the node's own, a duplicate or new. -/
theorem ringFrames : Obligations.RingFrames := by
  unfold Obligations.RingFrames
  refine ⟨linkUp_sets, linkDown_sets, ?_, ?_, ?_, acyclicSend_first⟩
  · intro t p q ingress w s hup hlink hsize hptp htype hheader hring hcls hhops hports hown hentry hgood hdest hadopts hout hwindow
    exact frameReceive_forwards t p q ingress w s ⟨hup, hlink, hsize, hptp, htype, hheader, hring, hcls, hhops⟩ hports hown hentry
      hgood hdest hadopts hout hwindow
  · intro t p ingress w d r s hup hlink hsize hptp htype hheader hring hcls hhops hown hentry hfind
    obtain ⟨u, hrun, hnone, hcount, htable⟩ := frameReceive_duplicate t p ingress w d r s
      ⟨hup, hlink, hsize, hptp, htype, hheader, hring, hcls, hhops⟩ hown hentry hfind
    refine ⟨u, hrun, List.all_eq_true.mpr fun e he => ?_, hcount, htable⟩
    cases e with
    | forwarded q v => exact absurd rfl (hnone _ he q v)
    | _ => rfl
  · intro t p ingress w s hup hlink hsize hptp htype hheader hring hcls hhops hown
    exact frameReceive_own t p ingress w s ⟨hup, hlink, hsize, hptp, htype, hheader, hring, hcls, hhops⟩ hown

end Sys2Proof.Machine
end

section
/-! The bus cycle (obligation BusCycle): the settings that its start takes over, what the operations after it leave of them, and the
end of the window. -/

namespace Sys2Proof.Machine

/-! ### The settings of a bus cycle (R323, R334) -/

/-- What a bus cycle takes over from the ring, with its number and its start. -/
structure BusSettings where
  cfg : RingCfg
  cfgPending : Option (Origin × Bytes)
  configured : Bool
  mapPending : Option (Origin × Bytes)
  branchPending : Option (Origin × Bytes)
  busCycle : Nat
  busStart : Ns

/-- The settings in the state of the ring. -/
def Ring.busSettings (r : Ring) : BusSettings :=
  { cfg := r.cfg, cfgPending := r.cfgPending, configured := r.configured, mapPending := r.io.mapPending,
    branchPending := r.branchPending, busCycle := r.busCycle, busStart := r.busStart }

/-- A RING_CONFIG that waits is in force. -/
def BusSettings.ringTaken (b : BusSettings) : BusSettings :=
  match b.cfgPending with
  | none => b
  | some (_, o) => { b with cfg := ringCfgOf o, cfgPending := none, configured := true }

/-- Nothing waits any more. -/
def BusSettings.taken (b : BusSettings) : BusSettings := { b.ringTaken with mapPending := none, branchPending := none }

theorem BusSettings.ringTaken_none {b : BusSettings} (h : b.cfgPending = none) : b.ringTaken = b := by
  rw [ringTaken, h]

theorem BusSettings.ringTaken_some {b : BusSettings} {org : Origin} {o : Bytes} (h : b.cfgPending = some (org, o)) :
    b.ringTaken = { b with cfg := ringCfgOf o, cfgPending := none, configured := true } := by
  rw [ringTaken, h]

/-! ### Changes that wait come into force (R323, R341, R343, R349) -/

theorem State.complete_settings (org : Origin) (o : Outcome) (s : State) : RingKeeps Ring.busSettings s (s.complete org o) :=
  (s.complete_responses org o).sees Ring.busSettings

theorem State.setStation_settings (i : Nat) (x : StState) (cause : Nat) (s : State) :
    RingKeeps Ring.busSettings s (s.setStation i x cause) := by
  unfold State.setStation
  split
  · exact .refl s
  · exact .ite (.refl s) (RingKeeps.trans (t := s.updStation i _) (.updRing s _) (.of_ring (State.record_ring ..)))

/-- An object that is stored and recorded leaves the ring. -/
theorem State.storeRecord_ring (opcode : BitVec 16) (inst : Nat) (obj : Option Bytes) (src : Isl) (kind : RecKind) (items : List Int)
    (s : State) : ((s.storeObject opcode inst obj).record src kind items).ring = s.ring :=
  (State.record_ring ..).trans ((State.storeObject_keep opcode inst obj s).same .ring (by decide))

theorem State.storeRecord_clock (opcode : BitVec 16) (inst : Nat) (obj : Option Bytes) (src : Isl) (kind : RecKind) (items : List Int)
    (s : State) : ((s.storeObject opcode inst obj).record src kind items).clock = s.clock := State.record_clock ..

theorem State.sumCapacity_settings (s : State) : RingKeeps Ring.busSettings s s.sumCapacity := .updRing s _

theorem State.ringInForce_settings (o : Bytes) (s : State) : (s.ringInForce o).ring.busSettings =
    { s.ring.busSettings with cfg := ringCfgOf o, cfgPending := none, configured := true } := by
  unfold State.ringInForce
  extract_lets a
  have ha : a.ring.busSettings = { s.ring.busSettings with cfg := ringCfgOf o, cfgPending := none, configured := true } := rfl
  exact Eq.trans (State.sumCapacity_settings _) (Eq.trans (congrArg Ring.busSettings (State.storeRecord_ring ..)) ha)

theorem State.stationInForce_settings (i : Nat) (o : Bytes) (s : State) : RingKeeps Ring.busSettings s (s.stationInForce i o) := by
  unfold State.stationInForce
  extract_lets was a b c
  have ha : RingKeeps Ring.busSettings s a := .updRing s _
  have hb : RingKeeps Ring.busSettings a b := .of_ring (State.storeRecord_ring ..)
  have hc : RingKeeps Ring.busSettings b c := .ite (b.setStation_settings _ _ _)
    (.ite (.refl b) (RingKeeps.trans (t := b.updStation i _) (.updRing b _) (State.setStation_settings _ _ _ _)))
  exact ((ha.trans hb).trans hc).trans c.sumCapacity_settings

theorem State.mapInForce_settings (o : Bytes) (s : State) :
    (s.mapInForce o).ring.busSettings = { s.ring.busSettings with mapPending := none } := by
  unfold State.mapInForce
  extract_lets a
  have ha : a.ring.busSettings = { s.ring.busSettings with mapPending := none } := rfl
  exact Eq.trans (congrArg Ring.busSettings (State.storeRecord_ring ..)) ha

theorem State.branchInForce_settings (o : Bytes) (s : State) :
    (s.branchInForce o).ring.busSettings = { s.ring.busSettings with branchPending := none } := by
  unfold State.branchInForce
  extract_lets a
  have ha : a.ring.busSettings = { s.ring.busSettings with branchPending := none } := rfl
  exact Eq.trans (congrArg Ring.busSettings (State.storeRecord_ring ..)) ha

/-- Everything that waits comes into force. -/
theorem State.takePending_settings (s : State) : s.takePending.ring.busSettings = s.ring.busSettings.taken := by
  unfold State.takePending
  extract_lets a b c
  have ha : a.ring.busSettings = s.ring.busSettings.ringTaken := by
    unfold a
    split
    · rename_i org o hcfg
      rw [BusSettings.ringTaken_some (by exact hcfg)]
      exact Eq.trans (State.complete_settings ..) (s.ringInForce_settings o)
    · rename_i hcfg
      rw [BusSettings.ringTaken_none (by exact hcfg)]
  have hb : RingKeeps Ring.busSettings a b := by
    refine .foldl (fun u x => ?_) _ a
    split
    · exact (u.stationInForce_settings _ _).trans (State.complete_settings ..)
    · exact .refl u
  have hc : c.ring.busSettings = { b.ring.busSettings with mapPending := none } := by
    unfold c
    split
    · exact Eq.trans (State.complete_settings ..) (b.mapInForce_settings _)
    · rename_i hmap
      rw [← hmap]
      rfl
  have htaken : { c.ring.busSettings with branchPending := none } = s.ring.busSettings.taken := by
    rw [hc, hb, ha]
    rfl
  rw [← htaken]
  split
  · exact Eq.trans (State.complete_settings ..) (c.branchInForce_settings _)
  · rename_i hbranch
    rw [← hbranch]
    rfl

theorem State.setStation_clock (i : Nat) (x : StState) (cause : Nat) (s : State) : (s.setStation i x cause).clock = s.clock := by
  unfold State.setStation
  split
  · rfl
  · split
    · rfl
    · exact State.record_clock ..

theorem State.sumCapacity_clock (s : State) : s.sumCapacity.clock = s.clock := rfl

theorem State.ringInForce_clock (o : Bytes) (s : State) : (s.ringInForce o).clock = s.clock := by
  unfold State.ringInForce
  extract_lets a
  exact (State.sumCapacity_clock _).trans (State.storeRecord_clock _ _ _ _ _ _ a)

theorem State.stationInForce_clock (i : Nat) (o : Bytes) (s : State) : (s.stationInForce i o).clock = s.clock := by
  unfold State.stationInForce
  extract_lets was a b c
  have hb : b.clock = s.clock := State.storeRecord_clock _ _ _ _ _ _ a
  clear_value b
  have hc : c.clock = b.clock := by
    unfold c
    split
    · exact State.setStation_clock ..
    · split
      · rfl
      · exact State.setStation_clock ..
  exact (State.sumCapacity_clock c).trans (hc.trans hb)

theorem State.mapInForce_clock (o : Bytes) (s : State) : (s.mapInForce o).clock = s.clock := by
  unfold State.mapInForce
  extract_lets a
  exact State.storeRecord_clock _ _ _ _ _ _ a

theorem State.branchInForce_clock (o : Bytes) (s : State) : (s.branchInForce o).clock = s.clock := by
  unfold State.branchInForce
  extract_lets a
  exact State.storeRecord_clock _ _ _ _ _ _ a

theorem State.takePending_clock (s : State) : s.takePending.clock = s.clock := by
  unfold State.takePending
  extract_lets a b c
  have ha : a.clock = s.clock := by
    unfold a
    split
    · exact (State.complete_clock ..).trans (State.ringInForce_clock ..)
    · rfl
  have hb : b.clock = a.clock := by
    refine List.foldlRecOn (motive := fun u : State => u.clock = a.clock) _ _ rfl fun u hu x _ => Eq.trans ?_ hu
    split
    · exact (State.complete_clock ..).trans (State.stationInForce_clock ..)
    · rfl
  have hc : c.clock = b.clock := by
    unfold c
    split
    · exact (State.complete_clock ..).trans (State.mapInForce_clock ..)
    · rfl
  refine Eq.trans ?_ (hc.trans (hb.trans ha))
  split
  · exact (State.complete_clock ..).trans (State.branchInForce_clock ..)
  · rfl

theorem State.takePending_time (s : State) : s.takePending.time = s.time := s.takePending_keep.same .time (by decide)

/-! ### A change of lead (R375, R385) -/

theorem State.endHandover_settings (o : Outcome) (s : State) : RingKeeps Ring.busSettings s (s.endHandover o) := by
  unfold State.endHandover
  split
  · exact .refl s
  · exact RingKeeps.trans (t := s.updPair _) (.of_ring rfl) (State.complete_settings ..)

theorem State.failHandover_settings (o : Outcome) (s : State) : RingKeeps Ring.busSettings s (s.failHandover o) := by
  unfold State.failHandover
  split
  · exact .refl s
  · extract_lets a
    have ha : RingKeeps Ring.busSettings s a := .ite (.of_ring (State.record_ring .rng .drill [0] (s.updPair _))) (.refl s)
    exact ha.trans (a.endHandover_settings o)

theorem State.giveLead_settings (c : LeadChange) (s : State) : RingKeeps Ring.busSettings s (s.giveLead c) := by
  unfold State.giveLead
  extract_lets a b d e
  have hb : RingKeeps Ring.busSettings a b := .ite (.of_keep (State.setMember_keep _ _ a) (by decide)) (.refl a)
  have hd : RingKeeps Ring.busSettings b d := .ite (.of_ring (State.record_ring ..)) (.refl b)
  have he : RingKeeps Ring.busSettings d e := .ite (.of_keep (State.countReversion_keep d) (by decide)) (.refl d)
  have hstored : RingKeeps Ring.busSettings e e.storeRegister := .of_keep (State.storeRegister_keep e) (by decide)
  exact ((hb.trans (hd.trans he)).trans hstored).trans (State.endHandover_settings ..)

theorem State.changeLead_settings (k : Nat) (s : State) : RingKeeps Ring.busSettings s (s.changeLead k) := by
  unfold State.changeLead
  split
  · split
    · exact .ite (s.failHandover_settings _) (.refl s)
    · exact .refl s
  · exact .ite (.refl s) (.ite (.of_keep (State.takeLead_keep _ s) (by decide)) (s.giveLead_settings _))

theorem State.ringState_settings (s : State) : RingKeeps Ring.busSettings s s.ringState := by
  unfold State.ringState
  extract_lets a l one closed state brk
  have ha : RingKeeps Ring.busSettings s a := .updRing s _
  exact ha.trans (.ite (.refl a) ((RingKeeps.updRing a fun r => { r with ringClosed := state, breakAfter := brk }).trans
    (.of_ring (State.record_ring ..))))

/-! ### The frames of the window (R344 to R348, R350, R369) -/

theorem State.takeSeq_settings (pair : Bool) (s : State) : RingKeeps Ring.busSettings s (s.takeSeq pair) :=
  .ite (.of_ring rfl) (.updRing s _)

theorem State.originate_settings (pair : Bool) (cls sub dest : Nat) (payload : Bytes) (l : List Port) (s : State) :
    RingKeeps Ring.busSettings s (s.originate pair cls sub dest payload l) :=
  .ite (.refl s) (((s.sendFrame_besidePorts pair _ cls sub dest payload l).sees Ring.busSettings).trans (State.takeSeq_settings _ _))

theorem State.cyclicFrame_settings (pair late : Bool) (sub dest : Nat) (payload : Bytes) (s : State) :
    RingKeeps Ring.busSettings s (s.cyclicFrame pair late sub dest payload) := by
  unfold State.cyclicFrame
  split
  · extract_lets a
    have ha : RingKeeps Ring.busSettings s a := (s.countPorts_besidePorts _ _).sees Ring.busSettings
    exact ha.trans (.ite (a.takeSeq_settings true) (.refl a))
  · exact s.originate_settings _ _ _ _ _ _

theorem State.sendOutputs_settings (late : Bool) (s : State) : RingKeeps Ring.busSettings s (s.sendOutputs late) :=
  .foldl (fun u _ => u.cyclicFrame_settings _ _ _ _ _) _ s

theorem State.sendInput_settings (late : Bool) (s : State) : RingKeeps Ring.busSettings s (s.sendInput late) :=
  .ite (.refl s) (s.cyclicFrame_settings _ _ _ _ _)

theorem State.sendContainer_settings (late : Bool) (s : State) : RingKeeps Ring.busSettings s (s.sendContainer late) := by
  unfold State.sendContainer
  extract_lets conns a l
  have ha : RingKeeps Ring.busSettings s a := by
    refine .foldl (fun u i => ?_) _ s
    dsimp only
    split
    · exact .ite (.of_ring rfl) (.refl u)
    · exact .ite (.of_ring rfl) (.refl u)
  exact ha.trans (.ite (.refl a) (a.cyclicFrame_settings _ _ _ _ _))

theorem State.sendCyclic_settings (late : Bool) (s : State) : RingKeeps Ring.busSettings s (s.sendCyclic late) := by
  have houtputs : RingKeeps Ring.busSettings s ((s.sendOutputs late).sendContainer late) :=
    (s.sendOutputs_settings late).trans (State.sendContainer_settings ..)
  unfold State.sendCyclic
  split
  · exact .refl s
  · split
    · exact houtputs
    · exact .ite houtputs (.refl s)
    · exact .ite houtputs (.refl s)
    · exact (s.sendInput_settings late).trans (State.sendContainer_settings ..)
    · exact .refl s

/-! ### Tunnel requests that are due (R368, R369) -/

theorem State.openTunnel_settings (org : Origin) (due : Ns) (index : Nat) (b : Bytes) (s : State) :
    RingKeeps Ring.busSettings s (s.openTunnel org due index b) := by
  unfold State.openTunnel
  split
  · exact s.complete_settings _ _
  · refine .ite ?_ (.ite (s.complete_settings _ _) (.ite (.updRing s _) ?_))
    · exact RingKeeps.trans (t := s.updStation index _) (.updRing s _) (State.complete_settings ..)
    · extract_lets tid o a
      have ha : RingKeeps Ring.busSettings s a := .updRing s _
      exact ha.trans (RingKeeps.trans (t := a.updStation index _) (.updRing a _) (.updRing _ _))

theorem State.resendTunnel_settings (tid : BitVec 16) (due : Ns) (s : State) :
    RingKeeps Ring.busSettings s (s.resendTunnel tid due) := by
  unfold State.resendTunnel
  split
  · exact .refl s
  · extract_lets again a
    have ha : RingKeeps Ring.busSettings s a := .updRing s _
    exact ha.trans (RingKeeps.trans (t := a.updStation _ _) (.updRing a _) (.updRing _ _))

theorem State.openDue_settings (s : State) : RingKeeps Ring.busSettings s s.openDue := by
  unfold State.openDue
  extract_lets now l r a b
  have hb : RingKeeps Ring.busSettings a b := .foldl (fun u x => u.openTunnel_settings _ _ _ _) l a
  exact hb.trans (.foldl (fun u x => u.resendTunnel_settings _ _) r b)

theorem State.scheduleTunnels_settings (s : State) : RingKeeps Ring.busSettings s s.scheduleTunnels := by
  unfold State.scheduleTunnels
  extract_lets x
  exact .ite ((RingKeeps.updRing s fun r => { r with acyclic := x.1 }).trans (.of_ring rfl)) (.refl s)

/-! ### The start of a bus cycle (R323, R334, R368, R375) -/

/-- The bus cycle of a ring time under the settings in force. -/
def BusSettings.startedAt (now ringOff : Int) (b : BusSettings) : BusSettings :=
  let k := (now / (max 1 (b.cfg.tBus * 1000) : Nat)).toNat
  { b with busCycle := k, busStart := ((k : Int) * (b.cfg.tBus * 1000 : Nat) - ringOff).toNat }

theorem busCycleStart_settings (t : Ns) (s : State) (hup : s.up .rng = true)
    (hnew : ((s.begin t).now / (max 1 s.tBus : Nat)).toNat ≠ s.ring.busCycle) : Completes (.busCycleStart t) s fun u =>
      u.ring.busSettings = s.ring.busSettings.taken.startedAt (s.begin t).now s.time.ringOff := by
  have hopen : ¬ (!(s.begin t).up .rng || decide (((s.begin t).now / (max 1 (s.begin t).tBus : Nat)).toNat = (s.begin t).ring.busCycle)) =
      true := by
    rw [State.begin_up, hup, decide_eq_false (by exact hnew)]
    decide
  rw [Completes, exec_busCycleStart, execBusCycleStart]
  extract_lets a k start late b c d e
  refine ⟨_, if_neg hopen, ?_⟩
  have ha : a.ring.busSettings = s.ring.busSettings.taken := (s.begin t).takePending_settings
  have htime : a.time.ringOff = s.time.ringOff := congrArg Time.ringOff (s.begin t).takePending_time
  have hnow : a.now = (s.begin t).now := by
    rw [State.now, (s.begin t).takePending_clock, htime]
    rfl
  have hc : RingKeeps Ring.busSettings a c :=
    ((a.changeLead_settings k).trans (.of_keep (State.settlePartner_keep _) (by decide))).trans b.ringState_settings
  have hd : d.ring.busSettings = { c.ring.busSettings with busCycle := k, busStart := start } := rfl
  have hsent : RingKeeps Ring.busSettings e ((e.sendCyclic late).openDue.scheduleTunnels) :=
    ((e.sendCyclic_settings late).trans (State.openDue_settings _)).trans (State.scheduleTunnels_settings _)
  have hstarted : { a.ring.busSettings with busCycle := k, busStart := start } = a.ring.busSettings.startedAt a.now a.time.ringOff := rfl
  rw [hsent, ← ha, ← hnow, ← htime, ← hstarted, ← hc]
  exact hd

theorem busCycleStart_numbers (t : Ns) (s : State) (hup : s.up .rng = true)
    (hnew : ((s.begin t).now / (max 1 s.tBus : Nat)).toNat ≠ s.ring.busCycle) (hpending : s.ring.cfgPending = none) :
    Completes (.busCycleStart t) s fun u =>
      u.ring.busCycle = ((s.begin t).now / (max 1 s.tBus : Nat)).toNat ∧ u.ring.cfg = s.ring.cfg ∧
      u.ring.busStart = ((u.ring.busCycle : Int) * s.tBus - s.time.ringOff).toNat ∧
      u.ring.io.mapPending = none ∧ u.ring.branchPending = none := by
  obtain ⟨u, hrun, hset⟩ := busCycleStart_settings t s hup hnew
  have hcfg : s.ring.busSettings.taken.cfg = s.ring.cfg :=
    congrArg BusSettings.cfg (BusSettings.ringTaken_none (b := s.ring.busSettings) hpending)
  have hkept : u.ring.cfg = s.ring.cfg := (congrArg BusSettings.cfg hset).trans hcfg
  rw [BusSettings.startedAt, hcfg] at hset
  have hcycle : u.ring.busCycle = ((s.begin t).now / (max 1 s.tBus : Nat)).toNat := congrArg BusSettings.busCycle hset
  refine ⟨u, hrun, hcycle, hkept, ?_, congrArg BusSettings.mapPending hset,
    congrArg BusSettings.branchPending hset⟩
  rw [hcycle]
  exact congrArg BusSettings.busStart hset

theorem busCycleStart_takesCfg (t : Ns) (org : Origin) (o : Bytes) (s : State) (hup : s.up .rng = true)
    (hnew : ((s.begin t).now / (max 1 s.tBus : Nat)).toNat ≠ s.ring.busCycle) (hpending : s.ring.cfgPending = some (org, o)) :
    Completes (.busCycleStart t) s fun u => u.ring.cfg = ringCfgOf o ∧ u.ring.cfgPending = none ∧ u.ring.configured = true := by
  obtain ⟨u, hrun, hset⟩ := busCycleStart_settings t s hup hnew
  have htaken := BusSettings.ringTaken_some (b := s.ring.busSettings) hpending
  exact ⟨u, hrun, (congrArg BusSettings.cfg hset).trans (congrArg BusSettings.cfg htaken),
    (congrArg BusSettings.cfgPending hset).trans (congrArg BusSettings.cfgPending htaken),
    (congrArg BusSettings.configured hset).trans (congrArg BusSettings.configured htaken)⟩

/-! ### The end of the window (R137, R370) -/

theorem windowEnd_swaps (t : Ns) (s : State) (hopen : s.ring.windowEnded = false)
    (hat : s.ring.busStart + s.ring.cfg.windowNs ≤ max s.clock t) : Completes (.windowEnd t) s fun u =>
      u.ring.windowEnded = true ∧ u.ring.stations = s.ring.stations.map (Station.swap s.ring.busCycle) := by
  have hreached : ¬ ((s.begin t).ring.windowEnded || decide ((s.begin t).clock < (s.begin t).ring.busStart +
      (s.begin t).ring.cfg.windowNs)) = true := by
    rw [State.begin_reached (by exact hat), State.begin_ring, hopen]
    decide
  rw [Completes, exec_windowEnd, execWindowEnd, if_neg hreached]
  dsimp only
  split
  · refine ⟨_, rfl, ?_⟩
    split <;> exact ⟨rfl, rfl⟩
  · exact ⟨_, rfl, rfl, rfl⟩

/-! ### The obligation -/

/-- Settles O22: the start of a bus cycle takes what waits, and what follows it there leaves the settings and the number. -/
theorem busCycle : Obligations.BusCycle := by
  unfold Obligations.BusCycle
  exact ⟨busCycleStart_numbers, busCycleStart_takesCfg, windowEnd_swaps⟩

end Sys2Proof.Machine
end

section
/-! Tunnels (obligation Tunnels): the reassembly of requests and responses, the end of a transaction, retries and the time-out. -/

namespace Sys2Proof.Machine

/-! ### Requests in parts (R351 to R353) -/

/-- A tunnel frame for this node is good, so it is not counted. -/
theorem State.tunnelFor_countPcrc {f : Bytes} {s : State} (t : Ns) (h : s.tunnelFor f = true) :
    (s.begin t).countPcrc f = s.begin t := by
  have hgood : pcrcGood f = true := by
    simp only [State.tunnelFor, Bool.and_eq_true] at h
    obtain ⟨⟨⟨-, hgood⟩, -⟩, -⟩ := h
    exact hgood
  exact if_pos hgood

/-- A transaction leaves the reassembly. -/
def State.reassembled (src : Nat) (tid : BitVec 16) (s : State) : State :=
  s.updRing fun r => { r with tunnelsIn := r.tunnelsIn.filter fun x => !(x.src == src && x.tid == tid) }

/-- The first part of a request is alone in its reassembly. -/
theorem tunnelRequest_first {t ingress : Ns} {f : Bytes} {p : Part} {s : State} (hfor : s.tunnelFor f = true)
    (hpart : tunnelPart f = some p) (hkind : p.kind = 1)
    (hnew : s.ring.tunnelsIn.find? (fun x => x.src == fSource f && x.tid == p.tid) = none) :
    (∀ b, assemble p.total [(p.idx, p.data)] = some b → exec (.tunnelRequest t ingress f) s =
      .next (((s.begin t).reassembled (fSource f) p.tid).tunnelComplete (fSource f) p.tid b)) ∧
    (assemble p.total [(p.idx, p.data)] = none → exec (.tunnelRequest t ingress f) s =
      .next (((s.begin t).reassembled (fSource f) p.tid).updRing fun r => { r with tunnelsIn := r.tunnelsIn ++
        [{ src := fSource f, tid := p.tid, total := p.total, frags := [(p.idx, p.data)], lastAt := ingress }] })) := by
  have hfor' : ¬ (!(s.begin t).tunnelFor f) = true := by
    have hbegin : (s.begin t).tunnelFor f = true := hfor
    simp [hbegin]
  rw [exec_tunnelRequest, execTunnelRequest, State.tunnelFor_countPcrc t hfor, if_neg hfor', hpart]
  dsimp only
  rw [if_neg (not_not_intro hkind), State.begin_ring, hnew]
  refine ⟨fun b hb => ?_, fun hnone => ?_⟩
  · simp only [Option.getD_none, addPart, List.any_nil, Bool.false_eq_true, if_false, List.nil_append, hb]
    rfl
  · simp only [Option.getD_none, addPart, List.any_nil, Bool.false_eq_true, if_false, List.nil_append, hnone]
    rfl

theorem tunnelRequest_opens (t ingress : Ns) (f : Bytes) (p : Part) (s : State) (hfor : s.tunnelFor f = true)
    (hpart : tunnelPart f = some p) (hkind : p.kind = 1)
    (hnew : s.ring.tunnelsIn.find? (fun x => x.src == fSource f && x.tid == p.tid) = none)
    (hmore : assemble p.total [(p.idx, p.data)] = none) : Completes (.tunnelRequest t ingress f) s fun u =>
      u.ring.tunnelsIn = s.ring.tunnelsIn.filter (fun x => !(x.src == fSource f && x.tid == p.tid)) ++
        [{ src := fSource f, tid := p.tid, total := p.total, frags := [(p.idx, p.data)], lastAt := ingress }] ∧
      u.ring.serving = s.ring.serving := by
  obtain ⟨-, hopens⟩ := tunnelRequest_first (t := t) (ingress := ingress) hfor hpart hkind hnew
  exact ⟨_, hopens hmore, rfl, rfl⟩

/-- A complete request of a known opcode that policy allows is taken to be served. -/
theorem State.tunnelComplete_serves {src : Nat} {tid : BitVec 16} {b : Bytes} {s : State} (hlen : 64 ≤ b.length)
    (hkept : s.ring.kept.find? (fun k => k.src = src ∧ k.tid = tid) = none)
    (hserving : s.ring.serving.any (fun v => v.src = src ∧ v.tid = tid) = false) (hop : opTable.contains (rd b 0 2) = true)
    (hdata : rd b 24 4 + 64 = b.length) (hpolicy : s.policy (.tunnel src tid) (rd b 0 2) = none) :
    s.tunnelComplete src tid b = s.updRing fun r => { r with serving := r.serving ++
      [{ src := src, tid := tid, cookie := BitVec.ofNat 32 (rd b 4 4), deadline := descDeadline b, accepted := s.now }] } := by
  have htaken : ¬ (decide (b.length < 64) || s.ring.serving.any fun v => v.src = src ∧ v.tid = tid) = true := by
    rw [hserving, decide_eq_false hlen.not_gt]
    decide
  unfold State.tunnelComplete
  rw [hkept]
  extract_lets op v a org
  have hpolicy' : a.policy org op = none := hpolicy
  simp only [if_neg htaken, op, hop, Bool.not_true, Bool.false_eq_true, if_false, hdata, ne_eq, not_true_eq_false] at hpolicy' ⊢
  rw [hpolicy']

theorem tunnelRequest_serves (t ingress : Ns) (f b : Bytes) (p : Part) (s : State) (hfor : s.tunnelFor f = true)
    (hpart : tunnelPart f = some p) (hkind : p.kind = 1)
    (hnew : s.ring.tunnelsIn.find? (fun x => x.src == fSource f && x.tid == p.tid) = none)
    (hwhole : assemble p.total [(p.idx, p.data)] = some b) (hlen : 64 ≤ b.length)
    (hkept : s.ring.kept.find? (fun k => k.src = fSource f ∧ k.tid = p.tid) = none)
    (hserving : s.ring.serving.any (fun v => v.src = fSource f ∧ v.tid = p.tid) = false)
    (hop : opTable.contains (rd b 0 2) = true) (hdata : rd b 24 4 + 64 = b.length)
    (hpolicy : s.policy (.tunnel (fSource f) p.tid) (rd b 0 2) = none) : Completes (.tunnelRequest t ingress f) s fun u =>
      u.ring.serving = s.ring.serving ++ [{ src := fSource f, tid := p.tid, cookie := BitVec.ofNat 32 (rd b 4 4), deadline := descDeadline b, accepted := (s.begin t).now }] ∧
      u.ring.tunnelsIn = s.ring.tunnelsIn.filter fun x => !(x.src == fSource f && x.tid == p.tid) := by
  obtain ⟨hcomplete, -⟩ := tunnelRequest_first (t := t) (ingress := ingress) hfor hpart hkind hnew
  refine ⟨_, hcomplete b hwhole, ?_⟩
  beta_reduce
  rw [State.tunnelComplete_serves (s := (s.begin t).reassembled (fSource f) p.tid) hlen hkept hserving hop hdata hpolicy]
  exact ⟨rfl, rfl⟩

/-! ### Responses in parts (R351, R352, R354) -/

/-- A part of the response to a transaction of this node. -/
structure ResponseFits (f : Bytes) (p : Part) (x : TunnelOut) (s : State) : Prop where
  mine : s.tunnelFor f = true
  part : tunnelPart f = some p
  kind : p.kind = 2
  find : s.ring.tunnelsOut.find? (fun x => x.tid == p.tid && x.node == fSource f) = some x

theorem ResponseFits.exec_eq {f : Bytes} {p : Part} {x : TunnelOut} {s : State} (h : ResponseFits f p x s) (t ingress : Ns) :
    (∀ b, assemble p.total (addPart p x.frags) = some b → 16 ≤ b.length →
      exec (.tunnelResponse t ingress f) s = .next ((s.begin t).tunnelAnswer x b)) ∧
    (assemble p.total (addPart p x.frags) = none → exec (.tunnelResponse t ingress f) s =
      .next ((s.begin t).updRing fun r => { r with tunnelsOut := r.tunnelsOut.map fun y =>
        if y.tid = x.tid then { y with frags := addPart p x.frags, lastIngress := ingress } else y })) := by
  obtain ⟨hmine, hpart, hkind, hfind⟩ := h
  have hmine' : ¬ (!(s.begin t).tunnelFor f) = true := by
    have hbegin : (s.begin t).tunnelFor f = true := hmine
    simp [hbegin]
  rw [exec_tunnelResponse, execTunnelResponse, State.tunnelFor_countPcrc t hmine, if_neg hmine', hpart]
  dsimp only
  rw [if_neg (not_not_intro hkind), State.begin_ring, hfind]
  refine ⟨fun b hb hlen => ?_, fun hnone => ?_⟩
  · simp only [hb, if_neg hlen.not_gt]
  · simp only [hnone]

theorem tunnelResponse_joins (t ingress : Ns) (f : Bytes) (p : Part) (x : TunnelOut) (s : State) (h : ResponseFits f p x s)
    (hmore : assemble p.total (addPart p x.frags) = none) : Completes (.tunnelResponse t ingress f) s fun u =>
      u.ring.tunnelsOut = s.ring.tunnelsOut.map fun y =>
        if y.tid = x.tid then { y with frags := addPart p x.frags, lastIngress := ingress } else y := by
  obtain ⟨-, hjoins⟩ := h.exec_eq t ingress
  exact ⟨_, hjoins hmore, rfl⟩

/-- A transaction that ends has left; with none that waits, nothing takes its slot. -/
theorem State.closeTunnel_ends (x : TunnelOut) (o : Outcome) {s : State} (hwait : s.ring.tunnelsWait = []) :
    ∀ y ∈ (s.closeTunnel x o).ring.tunnelsOut, y.tid ≠ x.tid := by
  unfold State.closeTunnel
  extract_lets a
  have ha : RingKeeps Ring.besideResponses _ a := State.complete_responses ..
  have hout : a.ring.tunnelsOut = s.ring.tunnelsOut.filter fun y => y.tid != x.tid := congrArg Ring.tunnelsOut ha
  have hidle : a.ring.tunnelsWait = [] := (congrArg Ring.tunnelsWait ha).trans hwait
  rw [hidle]
  intro y hy
  rw [hout, List.mem_filter, bne_iff_ne] at hy
  obtain ⟨-, hother⟩ := hy
  exact hother

theorem tunnelResponse_ends (t ingress : Ns) (f b : Bytes) (p : Part) (x : TunnelOut) (s : State) (h : ResponseFits f p x s)
    (hwhole : assemble p.total (addPart p x.frags) = some b) (hlen : 16 ≤ b.length) (hwait : s.ring.tunnelsWait = []) :
    Completes (.tunnelResponse t ingress f) s fun u => ∀ y ∈ u.ring.tunnelsOut, y.tid ≠ x.tid := by
  obtain ⟨hends, -⟩ := h.exec_eq t ingress
  exact ⟨_, hends b hwhole hlen, State.closeTunnel_ends x _ hwait⟩

/-! ### Retries and the time-out (R352, R354, R364) -/

/-- A transaction of this node whose request went out and was not answered in time. -/
structure RetryDue (t : Ns) (tid : BitVec 16) (x : TunnelOut) (s : State) : Prop where
  up : s.up .rng = true
  find : s.ring.tunnelsOut.find? (fun x => x.tid == tid) = some x
  sent : s.ring.acyclic.any (fun a => a.subtype == 1 && rd a.payload 2 1 == 1 && rd a.payload 0 2 == tid.toNat) = false
  free : s.pair.retriesDue.contains tid = false
  late : (s.begin t).due .rng x.lastSent (1000000 * s.ring.cfg.acyTimeout) ≤ max s.clock t

theorem RetryDue.exec_eq {t : Ns} {tid : BitVec 16} {x : TunnelOut} {s : State} (h : RetryDue t tid x s) :
    (x.retries < s.ring.cfg.acyRetries → s.inStep = false →
      exec (.tunnelRetry t tid) s = .next ((s.begin t).resendTunnel tid (max s.clock t))) ∧
    (s.ring.cfg.acyRetries ≤ x.retries → exec (.tunnelRetry t tid) s =
      .next ((((s.begin t).updStation x.station fun y => { y with timeouts := satAdd 32 y.timeouts 1 }).record .rng .tunnelTimeout
        [x.station, tid.toNat]).closeTunnel x (.error stTunnelTimeout))) := by
  obtain ⟨hup, hfind, hsent, hfree, hlate⟩ := h
  have hdue : ¬ (!(s.begin t).up .rng || s.ring.acyclic.any (fun a => a.subtype == 1 && rd a.payload 2 1 == 1 &&
      rd a.payload 0 2 == tid.toNat) || (s.begin t).pair.retriesDue.contains tid ||
      decide ((s.begin t).clock < (s.begin t).due .rng x.lastSent (1000000 * s.ring.cfg.acyTimeout))) = true := by
    rw [State.begin_reached (by exact hlate), State.begin_up, State.begin_pair, hup, hsent, hfree]
    decide
  rw [exec_tunnelRetry, execTunnelRetry, State.begin_ring, hfind]
  dsimp only
  rw [if_neg hdue]
  refine ⟨fun hmore halone => ?_, fun hused => ?_⟩
  · rw [if_pos hmore, State.begin_inStep, if_neg (Bool.eq_false_iff.mp halone)]
    rfl
  · rw [if_neg hused.not_gt]

theorem tunnelRetry_resends (t : Ns) (tid : BitVec 16) (x : TunnelOut) (s : State) (h : RetryDue t tid x s)
    (hmore : x.retries < s.ring.cfg.acyRetries) (halone : s.inStep = false) : Completes (.tunnelRetry t tid) s fun u =>
      (u.ring.tunnelsOut.find? (fun x => x.tid == tid)) = some { x with retries := x.retries + 1, frags := [], lastSent := max s.clock t } ∧
      u.ring.acyclic = s.ring.acyclic ++ (tunnelFrames tid 1 x.request).map fun p => { subtype := 1, dest := x.node, payload := p, due := max s.clock t } := by
  obtain ⟨hresend, -⟩ := h.exec_eq
  refine ⟨_, hresend hmore halone, ?_⟩
  have htid : x.tid = tid := by simpa using List.find?_some h.find
  unfold State.resendTunnel
  rw [State.begin_ring, h.find]
  extract_lets again a
  have hsame : (fun y : TunnelOut => y.tid == tid) ∘ again = fun y => y.tid == tid := by
    funext y
    simp only [Function.comp_apply, again]
    split <;> rfl
  refine ⟨?_, rfl⟩
  change (s.ring.tunnelsOut.map again).find? (fun y => y.tid == tid) = _
  rw [List.find?_map, hsame, h.find]
  exact congrArg some (if_pos htid)

theorem tunnelRetry_ends (t : Ns) (tid : BitVec 16) (x : TunnelOut) (s : State) (h : RetryDue t tid x s)
    (hused : s.ring.cfg.acyRetries ≤ x.retries) (hwait : s.ring.tunnelsWait = []) :
    Completes (.tunnelRetry t tid) s fun u => ∀ y ∈ u.ring.tunnelsOut, y.tid ≠ tid := by
  obtain ⟨-, hends⟩ := h.exec_eq
  have htid : x.tid = tid := by simpa using List.find?_some h.find
  refine ⟨_, hends hused, ?_⟩
  rw [← htid]
  exact State.closeTunnel_ends x _ ((congrArg Ring.tunnelsWait (State.record_ring ..)).trans hwait)

/-! ### The obligation -/

/-- Settles O24: what a part, an answer or a retry does follows from the reassembly it belongs to. -/
theorem tunnels : Obligations.Tunnels := by
  unfold Obligations.Tunnels
  refine ⟨tunnelRequest_opens, tunnelRequest_serves, ?_, ?_, ?_, ?_, fun t src tid s => ⟨_, exec_reassemblyTimeout t src tid s, rfl⟩⟩
  · intro t ingress f p x s hmine hpart hkind hfind
    exact tunnelResponse_joins t ingress f p x s ⟨hmine, hpart, hkind, hfind⟩
  · intro t ingress f b p x s hmine hpart hkind hfind
    exact tunnelResponse_ends t ingress f b p x s ⟨hmine, hpart, hkind, hfind⟩
  · intro t tid x s hup hfind hsent hfree hlate
    exact tunnelRetry_resends t tid x s ⟨hup, hfind, hsent, hfree, hlate⟩
  · intro t tid x s hup hfind hsent hfree hlate
    exact tunnelRetry_ends t tid x s ⟨hup, hfind, hsent, hfree, hlate⟩

end Sys2Proof.Machine
end

section
/-! Node addresses (obligation NodeAddresses): the adoption of an address, its echo, and NODE_ADDRESS with its retries. -/

namespace Sys2Proof.Machine

/-! ### Adoption (R342, R357) -/

theorem leNat_lt (b : Bytes) : leNat b < 256 ^ b.length := by
  induction b with
  | nil => simp [leNat]
  | cons x r ih =>
    have hx : x.toNat < 256 := x.isLt
    rw [leNat, List.length_cons, Nat.pow_succ]
    omega

theorem rd_lt (b : Bytes) (off n : Nat) : rd b off n < 256 ^ n :=
  (leNat_lt _).trans_le (Nat.pow_le_pow_right (by decide) (List.length_take_le _ _))

/-- The register of the node address reads the 16 bits that were written to all its copies. -/
theorem Tmr.vote_nodeAddr {a : Nat} (h : a < 256 ^ 2) : ((Tmr.of (BitVec.ofNat 32 a)).vote nodeFields).toNat = a := by
  rw [Tmr.vote_of]
  have hmask : (nodeFields.foldl (· ||| ·) 0).toNat = 2 ^ 16 - 1 := by decide
  rw [BitVec.toNat_and, hmask, Nat.and_two_pow_sub_one_eq_mod, BitVec.toNat_ofNat]
  omega

theorem State.adoptAddress_ring (f : Bytes) (s : State) : (s.adoptAddress f).ring = { s.ring with
    oldId := none
    acyclic := s.ring.acyclic ++
      [{ subtype := 2, dest := fSource f, payload := addressPayload (rd (fPayload f) 0 1) (rd (fPayload f) 4 2) }] } := by
  unfold State.adoptAddress
  extract_lets a b c
  have hc : c.ring = { s.ring with oldId := none } := State.record_ring ..
  rw [State.updRing_ring, hc]

theorem State.adoptAddress_node (f : Bytes) (s : State) : (s.adoptAddress f).node = rd (fPayload f) 4 2 := by
  have hregs : (s.adoptAddress f).regs = { s.regs with nodeAddr := .of (BitVec.ofNat 32 (rd (fPayload f) 4 2)) } := by
    unfold State.adoptAddress
    extract_lets a b c
    have hb : b.regs = { s.regs with nodeAddr := .of (BitVec.ofNat 32 (rd (fPayload f) 4 2)) } := rfl
    have hc : c.regs = b.regs := State.record_regs ..
    rw [State.updRing_regs, hc, hb]
  rw [State.node, State.adoptAddress_ring]
  dsimp only
  rw [State.nodeReg, hregs, Tmr.vote_nodeAddr (rd_lt _ _ _)]

/-! ### Address frames (R342, R445) -/

/-- A frame on a port that is up, not of the future. -/
theorem addressFrame_open {t ingress : Ns} {p : Port} {s : State} (hup : s.up .rng = true) (hlink : (s.port p).link = .up)
    (hpast : ingress ≤ max s.clock t) :
    ¬ (!(s.begin t).up .rng || ((s.begin t).port p).link != .up || decide ((s.begin t).clock < ingress)) = true := by
  rw [State.begin_reached hpast, State.begin_up, State.begin_port, hup, hlink]
  decide

theorem addressFrame_adopts (t : Ns) (p : Port) (ingress : Ns) (f : Bytes) (s : State) (hup : s.up .rng = true)
    (hlink : (s.port p).link = .up) (hpast : ingress ≤ max s.clock t) (hadopts : s.adopts f = true) :
    Completes (.addressFrame t p ingress f) s fun u =>
      u.node = rd (fPayload f) 4 2 ∧ u.ring.acyclic = s.ring.acyclic ++
        [{ subtype := 2, dest := fSource f, payload := addressPayload (rd (fPayload f) 0 1) (rd (fPayload f) 4 2) }] := by
  have hrun : exec (.addressFrame t p ingress f) s = .next ((s.begin t).adoptAddress f) := by
    rw [exec_addressFrame, execAddressFrame, if_neg (addressFrame_open hup hlink hpast)]
    exact if_pos hadopts
  exact ⟨_, hrun, State.adoptAddress_node f _, congrArg Ring.acyclic (State.adoptAddress_ring f _)⟩

theorem addressFrame_echo (t : Ns) (p : Port) (ingress : Ns) (f : Bytes) (n : NodeAddr) (s : State) (hup : s.up .rng = true)
    (hlink : (s.port p).link = .up) (hpast : ingress ≤ max s.clock t) (hadopts : s.adopts f = false)
    (hasked : s.ring.nodeAddr = some n) (hcls : fClass f = clsAcyclic) (hsub : fSubtype f = 2) (hdest : fDest f = s.node)
    (hnode : s.node ≠ 0) (hgood : pcrcGood f = true) (hsrc : fSource f = n.newAddr) (haddr : rd (fPayload f) 4 2 = n.newAddr) :
    Completes (.addressFrame t p ingress f) s fun u => u.ring.nodeAddr = none ∧ u.node = s.node := by
  have hecho : (fClass f = clsAcyclic && fSubtype f = 2 && fDest f = (s.begin t).node && (s.begin t).node != 0 && pcrcGood f &&
      fSource f = n.newAddr && rd (fPayload f) 4 2 = n.newAddr) = true := by
    simp [hcls, hsub, hdest, hnode, hgood, hsrc, haddr]
  have hrun : exec (.addressFrame t p ingress f) s =
      .next (((s.begin t).updRing fun r => { r with nodeAddr := none }).complete n.org .done) := by
    have hadopts' : ¬ (s.begin t).adopts f = true := Bool.eq_false_iff.mp hadopts
    rw [exec_addressFrame, execAddressFrame, if_neg (addressFrame_open hup hlink hpast), if_neg hadopts', State.begin_ring, hasked]
    exact if_pos hecho
  have hring := State.complete_responses n.org .done ((s.begin t).updRing fun r => { r with nodeAddr := none })
  refine ⟨_, hrun, congrArg Ring.nodeAddr hring, ?_⟩
  have hold : (((s.begin t).updRing fun r => { r with nodeAddr := none }).complete n.org .done).ring.oldId = s.ring.oldId :=
    hring.sees Ring.oldId
  rw [State.node, hold, State.nodeReg, State.complete_regs]
  rfl

/-! ### NODE_ADDRESS (R342, R357, R445) -/

theorem nodeAddress_asks (t : Ns) (org : Origin) (p : Bytes) (s : State) (hadmits : (s.begin t).Admits org opNodeAddress [.rng])
    (hport : rd p 0 1 ≤ 1) (hhops : rd p 1 1 ≠ 0) (hzero : rd p 2 2 ≠ 0) (hall : rd p 2 2 ≠ 0xFFFF) (hrest : zeroAt p 4 12 = true)
    (hsums : s.sums = true) (hidle : s.ring.nodeAddr = none) : Completes (.nodeAddress t org p) s fun u =>
      u.ring.nodeAddr = some { org := org, port := if rd p 0 1 = 0 then .a else .b, hops := rd p 1 1, newAddr := rd p 2 2, sentAt := max s.clock t } ∧
      u.ring.acyclic = s.ring.acyclic ++ [{ subtype := 2, dest := 0, payload := addressPayload (rd p 1 1) (rd p 2 2), port := some (if rd p 0 1 = 0 then .a else .b) }] := by
  have hformat : badField (decide (1 < rd p 0 1) || rd p 1 1 == 0 || rd p 2 2 == 0 || rd p 2 2 == 0xFFFF || !zeroAt p 4 12) = none :=
    fails_false (by simp [hport, hhops, hzero, hall, hrest]) _
  have hcheck : firstOf [fails (!(s.begin t).sums) (.policy stPolicyRole), fails (s.begin t).ring.nodeAddr.isSome .busy] = none := by
    have hsums' : (s.begin t).sums = true := hsums
    rw [State.begin_ring, hidle, hsums']
    rfl
  exact ⟨_, (exec_nodeAddress t org p s).trans (serve_next hadmits hformat hcheck), rfl, rfl⟩

theorem nodeAddressRetry_due (t : Ns) (n : NodeAddr) (s : State) (hup : s.up .rng = true) (hasked : s.ring.nodeAddr = some n)
    (hsent : s.ring.acyclic.any (fun a => a.port.isSome) = false)
    (hlate : (s.begin t).due .rng n.sentAt (1000000 * s.ring.cfg.acyTimeout) ≤ max s.clock t) :
    Completes (.nodeAddressRetry t) s fun u =>
      u.ring.nodeAddr = if n.retries < s.ring.cfg.acyRetries then some { n with retries := n.retries + 1, sentAt := max s.clock t } else none := by
  have hdue : ¬ (!(s.begin t).up .rng || s.ring.acyclic.any (fun a => a.port.isSome) ||
      decide ((s.begin t).clock < (s.begin t).due .rng n.sentAt (1000000 * s.ring.cfg.acyTimeout))) = true := by
    rw [State.begin_reached (by exact hlate), State.begin_up, hup, hsent]
    decide
  rw [Completes, exec_nodeAddressRetry, execNodeAddressRetry, State.begin_ring, hasked]
  dsimp only
  rw [if_neg hdue]
  split
  · exact ⟨_, rfl, rfl⟩
  · refine ⟨_, rfl, Eq.trans ((State.complete_responses ..).sees Ring.nodeAddr) ?_⟩
    exact congrArg Ring.nodeAddr (State.record_ring ..)

/-! ### The obligation -/

/-- Settles O25: an adopted address is the one the register votes for; what completes an address leaves the queue of addresses. -/
theorem nodeAddresses : Obligations.NodeAddresses := by
  unfold Obligations.NodeAddresses
  exact ⟨addressFrame_adopts, addressFrame_echo, nodeAddress_asks, nodeAddressRetry_due⟩

end Sys2Proof.Machine
end

section
/-! The configuration of the ring (obligation RingConfiguration): an admitted object that passes its checks waits, and the rest of the
ring stays. -/

namespace Sys2Proof.Machine

/-! ### Objects of the ring, the map and the branch (R322, R323, R341, R348, R349) -/

/-- An object within its limits has a good length. -/
theorem badField_length {b : Bytes} {lo hi : Nat} (h : lo ≤ b.length ∧ b.length ≤ hi) :
    badField (decide (b.length < lo) || decide (hi < b.length)) = none := by
  obtain ⟨hmin, hmax⟩ := h
  refine fails_false ?_ _
  rw [decide_eq_false hmin.not_gt, decide_eq_false hmax.not_gt]
  rfl

theorem firstOf_cons {x : Option Outcome} {l : List (Option Outcome)} (hx : x = none) (hl : firstOf l = none) :
    firstOf (x :: l) = none := by
  rw [hx]
  exact hl

theorem ringConfig_waits (t : Ns) (org : Origin) (obj : Bytes) (s : State) (hadmits : (s.begin t).Admits org opRingConfig [.rng])
    (hlen : obj.length = 32) (hok : s.ringCfgOk obj = true)
    (hkept : s.originatesCyclic = true → (ringCfgOf obj).tBus = s.ring.cfg.tBus ∧ (ringCfgOf obj).window = s.ring.cfg.window)
    (hidle : s.ring.cfgPending = none)
    (hcapacity : s.overCapacity (ringCfgOf obj) (s.ring.stations.map Station.next) s.safObj = false)
    (hstore : (s.begin t).storeOverflow (BitVec.ofNat 16 opRingConfig) 0 obj = false) :
    Completes (.ringConfig t org obj) s fun u => u.ring = { s.ring with cfgPending := some (org, obj) } := by
  have hformat : badField (obj.length != 32) = none := by
    rw [hlen]
    rfl
  have htimes : (s.originatesCyclic && ((ringCfgOf obj).tBus != s.ring.cfg.tBus || (ringCfgOf obj).window != s.ring.cfg.window)) =
      false := by
    cases horiginates : s.originatesCyclic with
    | false => rfl
    | true =>
      obtain ⟨hbus, hwindow⟩ := hkept horiginates
      simp [hbus, hwindow]
  have hfree : s.ring.cfgPending.isSome = false := by rw [hidle]; rfl
  refine ⟨_, (exec_ringConfig t org obj s).trans (serve_next hadmits hformat ?_), rfl⟩
  exact firstOf_cons (badField_not hok) <| firstOf_cons (fails_false htimes _) <| firstOf_cons (fails_false hfree _) <|
    firstOf_cons (fails_false hcapacity _) <| firstOf_cons (fails_false hstore _) rfl

theorem imageMap_waits (t : Ns) (org : Origin) (obj : Bytes) (s : State) (hadmits : (s.begin t).Admits org opImageMap [.rng])
    (hlen : 8 ≤ obj.length ∧ obj.length ≤ 2056) (hrole : s.role = some .iostation) (hok : s.mapOk obj = true)
    (hidle : s.ring.io.mapPending = none) (hstore : (s.begin t).storeOverflow (BitVec.ofNat 16 opImageMap) 0 obj = false) :
    Completes (.imageMap t org obj) s fun u => u.ring = { s.ring with io := { s.ring.io with mapPending := some (org, obj) } } := by
  have hrole' : (s.role != some .iostation) = false := by rw [hrole]; rfl
  have hfree : s.ring.io.mapPending.isSome = false := by rw [hidle]; rfl
  refine ⟨_, (exec_imageMap t org obj s).trans (serve_next hadmits (badField_length hlen) ?_), rfl⟩
  exact firstOf_cons (fails_false hrole' _) <| firstOf_cons (badField_not hok) <| firstOf_cons (fails_false hfree _) <|
    firstOf_cons (fails_false hstore _) rfl

theorem branchConfig_waits (t : Ns) (org : Origin) (obj : Bytes) (s : State) (hadmits : (s.begin t).Admits org opBranchConfig [.rng])
    (hlen : 8 ≤ obj.length ∧ obj.length ≤ 392) (hrole : s.role = some .branch) (hok : branchOk obj = true)
    (hidle : s.ring.branchPending = none) (hstore : (s.begin t).storeOverflow (BitVec.ofNat 16 opBranchConfig) 0 obj = false) :
    Completes (.branchConfig t org obj) s fun u => u.ring = { s.ring with branchPending := some (org, obj) } := by
  have hrole' : (s.role != some .branch) = false := by rw [hrole]; rfl
  have hfree : s.ring.branchPending.isSome = false := by rw [hidle]; rfl
  refine ⟨_, (exec_branchConfig t org obj s).trans (serve_next hadmits (badField_length hlen) ?_), rfl⟩
  exact firstOf_cons (fails_false hrole' _) <| firstOf_cons (badField_not hok) <| firstOf_cons (fails_false hfree _) <|
    firstOf_cons (fails_false hstore _) rfl

/-! ### Stations (R337, R343) -/

/-- A station object that its role takes, with fields of its own and a node address that no other station has. -/
structure StationFits (t : Ns) (org : Origin) (obj : Bytes) (s : State) : Prop where
  admits : (s.begin t).Admits org opStationConfig [.rng]
  length : 32 ≤ obj.length ∧ obj.length ≤ 1056
  sums : s.sums = true
  ok : stationOk obj = true
  alone : ((s.ring.stations.filter fun x => x.index != rd obj 0 2).any fun x => stNode x.next == stNode obj) = false
  capacity : s.overCapacity s.nextRing (obj :: (s.ring.stations.filter fun x => x.index != rd obj 0 2).map Station.next) s.safObj = false
  store : (s.begin t).storeOverflow (BitVec.ofNat 16 opStationConfig) (rd obj 0 2) obj = false

/-- The station that waits with its first object. -/
def newStation (org : Origin) (obj : Bytes) : Station :=
  { index := rd obj 0 2, obj := [], pending := some (org, obj), state := .disabled }

/-- What an admitted object of a station that is free to take it does. -/
theorem StationFits.exec_eq {t : Ns} {org : Origin} {obj : Bytes} {s : State} (h : StationFits t org obj s)
    (hfixed : ((s.station? (rd obj 0 2)).any fun x => stEnable x.obj && stFixed x.obj != stFixed obj) = false)
    (hidle : ((s.station? (rd obj 0 2)).any fun x => x.pending.isSome) = false) :
    exec (.stationConfig t org obj) s = .next (
      if (s.station? (rd obj 0 2)).isSome then (s.begin t).updStation (rd obj 0 2) fun x => { x with pending := some (org, obj) }
      else (s.begin t).updRing fun r => { r with stations := insertStation (newStation org obj) r.stations }) := by
  obtain ⟨hadmits, hlen, hsums, hok, halone, hcapacity, hstore⟩ := h
  have hrole : (!s.sums) = false := by rw [hsums]; rfl
  have hfields : (!stationOk obj || (s.ring.stations.filter fun x => x.index != rd obj 0 2).any fun x => stNode x.next == stNode obj) =
      false := by
    rw [hok, halone]
    rfl
  rw [exec_stationConfig, execStationConfig]
  refine Eq.trans (serve_next hadmits (badField_length hlen) ?_) rfl
  exact firstOf_cons (fails_false hrole _) <| firstOf_cons (fails_false hfields _) <| firstOf_cons (fails_false hfixed _) <|
    firstOf_cons (fails_false hidle _) <| firstOf_cons (fails_false hcapacity _) <| firstOf_cons (fails_false hstore _) rfl

theorem stationConfig_known (t : Ns) (org : Origin) (obj : Bytes) (x : Station) (s : State) (h : StationFits t org obj s)
    (hst : s.station? (rd obj 0 2) = some x) (hfixed : stEnable x.obj = true → stFixed x.obj = stFixed obj) (hidle : x.pending = none) :
    Completes (.stationConfig t org obj) s fun u =>
      u.station? (rd obj 0 2) = some { x with pending := some (org, obj) } ∧ ∀ k : Nat, k ≠ rd obj 0 2 → u.station? k = s.station? k := by
  have hfixed' : (stEnable x.obj && stFixed x.obj != stFixed obj) = false := by
    cases henabled : stEnable x.obj with
    | false => rfl
    | true => simp [hfixed henabled]
  have hbegin : (s.begin t).station? (rd obj 0 2) = some x := hst
  refine ⟨_, h.exec_eq (by rw [hst]; exact hfixed') (by rw [hst, Option.any_some, hidle]; rfl), ?_⟩
  rw [hst]
  refine ⟨?_, fun k hk => State.updStation_ne hk _ (s.begin t)⟩
  exact (State.updStation_same (rd obj 0 2) _ (s.begin t)).trans (by rw [hbegin]; rfl)

/-- A new station is found under its index, and the others under theirs. -/
theorem find?_insertStation (x : Station) (k : Nat) (l : List Station) (hnew : ∀ y ∈ l, y.index ≠ x.index) :
    (insertStation x l).find? (fun y => decide (y.index = k)) = if x.index = k then some x else l.find? fun y => decide (y.index = k) := by
  induction l with
  | nil => by_cases hk : x.index = k <;> simp [insertStation, hk]
  | cons a r ih =>
    have hrest := ih fun y hy => hnew y (List.mem_cons_of_mem _ hy)
    have ha : a.index ≠ x.index := hnew a List.mem_cons_self
    unfold insertStation
    split
    · rw [List.find?_cons]
      by_cases hk : x.index = k <;> simp [hk]
    · rw [List.find?_cons, hrest, List.find?_cons]
      by_cases hk : a.index = k
      · simp [hk, show x.index ≠ k from fun e => ha (hk.trans e.symm)]
      · simp [hk]

theorem stationConfig_new (t : Ns) (org : Origin) (obj : Bytes) (s : State) (h : StationFits t org obj s)
    (hst : s.station? (rd obj 0 2) = none) : Completes (.stationConfig t org obj) s fun u =>
      u.station? (rd obj 0 2) = some (newStation org obj) ∧ ∀ k : Nat, k ≠ rd obj 0 2 → u.station? k = s.station? k := by
  have hnew : ∀ y ∈ s.ring.stations, y.index ≠ (newStation org obj).index := by
    simpa [State.station?, List.find?_eq_none, newStation] using hst
  have hfind : ∀ k, ((s.begin t).updRing fun r => { r with stations := insertStation (newStation org obj) r.stations }).station? k =
      if rd obj 0 2 = k then some (newStation org obj) else s.station? k := fun k => find?_insertStation (newStation org obj) k _ hnew
  refine ⟨_, h.exec_eq (by rw [hst]; rfl) (by rw [hst]; rfl), ?_⟩
  rw [hst]
  exact ⟨(hfind _).trans (if_pos rfl), fun k hk => (hfind k).trans (if_neg hk.symm)⟩

/-! ### The obligation -/

/-- Settles O26: an object that passes its checks is put down as pending, and nothing else of the ring changes. -/
theorem ringConfiguration : Obligations.RingConfiguration := by
  unfold Obligations.RingConfiguration
  refine ⟨ringConfig_waits, ?_, ?_, imageMap_waits, branchConfig_waits⟩
  · intro t org obj x s hadmits hlen hsums hok halone hst hfixed hidle hcapacity hstore
    exact stationConfig_known t org obj x s ⟨hadmits, hlen, hsums, hok, halone, hcapacity, hstore⟩ hst hfixed hidle
  · intro t org obj s hadmits hlen hsums hok halone hst hcapacity hstore
    exact stationConfig_new t org obj s ⟨hadmits, hlen, hsums, hok, halone, hcapacity, hstore⟩ hst

end Sys2Proof.Machine
end

section
/-! Requests for the lead, the referee's decisions and what members do on them (obligation RefereeGrants): the pairs that a referee
holds, what a DENY and a GRANT make of one of them, then one lemma per command. -/

namespace Sys2Proof.Machine

/-! ### The pairs that a referee holds (R361, R372, R374) -/

theorem State.updHeld_same {i : Nat} {r : RefPair} {s : State} (h : s.pair.held[i]? = some r) (f : RefPair → RefPair) :
    (s.updHeld i f).pair.held[i]? = some (f r) := by
  simp [State.updHeld, State.updPair, h]

theorem State.updHeld_ne {i j : Nat} (h : j ≠ i) (f : RefPair → RefPair) (s : State) :
    (s.updHeld i f).pair.held[j]? = s.pair.held[j]? := by
  simp [State.updHeld, State.updPair, h]

theorem RefPair.noteB_same {β : Type} (clock : Ns) (node : Nat) (r : RefPair) (view : RefPair → β)
    (hview : ∀ b, view { r with firstB := b } = view r) : view (r.noteB clock node) = view r := by
  unfold RefPair.noteB
  split
  · exact hview _
  · rfl

/-- A DENY is counted for its pair, and no term changes. -/
theorem State.sendDeny_spec {i : Nat} {r : RefPair} {s : State} (h : s.pair.held[i]? = some r) (node : Nat) (reason : BitVec 8) :
    (s.sendDeny i node reason).pair.held[i]? = some { r with denies := r.denies + 1 } ∧
    (s.sendDeny i node reason).mod = s.mod := by
  unfold State.sendDeny
  rw [h]
  dsimp only
  rw [State.originate_pair, State.record_pair, (State.originate_keep _ _ _ _ _ _ _).same .mod (by decide), State.record_mod]
  exact ⟨State.updHeld_same h _, rfl⟩

/-- A payload to several nodes changes neither the pair nor the module. -/
theorem State.originateAll_same (sub : Nat) (payload : Bytes) (dests : List Nat) (s : State) :
    (dests.foldl (fun s d => s.originate false clsPair sub d payload ringPorts) s).pair = s.pair ∧
    (dests.foldl (fun s d => s.originate false clsPair sub d payload ringPorts) s).mod = s.mod :=
  List.foldlRecOn (motive := fun u : State => u.pair = s.pair ∧ u.mod = s.mod) dests _ ⟨rfl, rfl⟩ fun u ⟨hpair, hmod⟩ _ _ =>
    ⟨(u.originate_pair _ _ _ _ _).trans hpair, ((State.originate_keep _ _ _ _ _ _ u).same .mod (by decide)).trans hmod⟩

/-- A GRANT raises the term of its pair by one and names its lead, and the term stands first among those kept. -/
theorem State.sendGrant_spec {i : Nat} {r : RefPair} {s : State} (h : s.pair.held[i]? = some r) (node kh : Nat) (reason : BitVec 8)
    (dests : List Nat) :
    ((s.sendGrant i node kh reason dests).pair.held[i]?.map fun x => (x.term, x.leadNode, x.requests, x.grants)) =
      some (r.top + 1, node, r.requests, r.grants + 1) ∧
    (s.sendGrant i node kh reason dests).mod.refTerms.head? = some (pcAddr r.cfg, r.top + 1) := by
  unfold State.sendGrant
  rw [h]
  dsimp only
  rw [(State.originateAll_same _ _ _ _).1, (State.originateAll_same _ _ _ _).2, State.record_pair, State.record_mod,
    State.updHeld_same (by exact h)]
  exact ⟨rfl, rfl⟩

/-! ### Frames for a referee about a pair that it holds (R373, R374) -/

/-- A good PAIR frame of this subtype for the referee names pair `i`, which is `r`. -/
structure HeldFrame (sub : Nat) (t ingress : Ns) (f : Bytes) (i : Nat) (r : RefPair) (s : State) : Prop where
  up : s.up .rng = true
  heard : ingress ≤ max s.clock t
  dest : fDest f = s.node
  index : s.heldIndex f = some i
  held : s.pair.held[i]? = some r
  frame : pairFrame sub f = true

/-- A good PAIR frame that is heard in time is for this node. -/
theorem pairFrame_taken {sub : Nat} {t ingress : Ns} {f : Bytes} {s : State} (hup : s.up .rng = true)
    (hheard : ingress ≤ max s.clock t) (hdest : fDest f = s.node) (hframe : pairFrame sub f = true) :
    (!(s.begin t).up .rng || !pairFrame sub f || decide ((s.begin t).clock < ingress) || decide (fDest f ≠ (s.begin t).node)) =
      false := by
  rw [State.begin_up, hup, hframe, State.begin_reached hheard, State.begin_node, hdest]
  simp

theorem State.begin_heldIndex (t : Ns) (f : Bytes) (s : State) : (s.begin t).heldIndex f = s.heldIndex f := rfl

/-- A member of a pair is one of its two nodes. -/
theorem RefPair.isMember {r : RefPair} {node : Nat} (h : node = pcNodeA r.cfg ∨ node = pcNodeB r.cfg) :
    (decide (node ≠ pcNodeA r.cfg) && decide (node ≠ pcNodeB r.cfg)) = false := by
  rcases h with h | h <;> simp [h]

/-! ### GRANT_REQUEST (R374) -/

/-- A member's request is denied where its term is not above the highest one, and joins the requests otherwise. -/
theorem HeldFrame.exec_request {t ingress : Ns} {f : Bytes} {i : Nat} {r : RefPair} {s : State}
    (h : HeldFrame 2 t ingress f i r s) (hmember : gNode f = pcNodeA r.cfg ∨ gNode f = pcNodeB r.cfg) :
    exec (.grantRequest t ingress f) s = .next (
      if (gTerm f).toNat ≤ r.top.toNat then
        ((s.begin t).updHeld i (RefPair.noteB (max s.clock t) (gNode f))).sendDeny i (gNode f) dnStaleTerm
      else ((s.begin t).updHeld i (RefPair.noteB (max s.clock t) (gNode f))).updHeld i fun x => { x with
        requests := (x.requests.filter fun q => q.1 ≠ gNode f) ++
          [(gNode f, gTerm f, gReason f, max (max s.clock t) (r.leadDeadline.getD (max s.clock t)))] }) := by
  rw [exec_grantRequest, execGrantRequest]
  simp only [pairFrame_taken h.up h.heard h.dest h.frame, State.begin_heldIndex, h.index, State.begin_pair, h.held,
    RefPair.isMember hmember, Bool.false_eq_true, if_false]
  split <;> rfl

theorem grantRequest_joins (t ingress : Ns) (f : Bytes) (i : Nat) (r : RefPair) (s : State) (h : HeldFrame 2 t ingress f i r s)
    (hmember : gNode f = pcNodeA r.cfg ∨ gNode f = pcNodeB r.cfg) (hnew : r.top.toNat < (gTerm f).toNat) :
    Completes (.grantRequest t ingress f) s fun u =>
      ((u.pair.held[i]?).map fun x => (x.term, x.leadNode, x.requests)) = some (r.term, r.leadNode,
        (r.requests.filter fun q => q.1 ≠ gNode f) ++
          [(gNode f, gTerm f, gReason f, max (max s.clock t) (r.leadDeadline.getD (max s.clock t)))]) := by
  refine ⟨_, h.exec_request hmember, ?_⟩
  beta_reduce
  rw [if_neg hnew.not_ge, State.updHeld_same (State.updHeld_same (s := s.begin t) h.held _)]
  exact congrArg some (r.noteB_same _ _ (fun x => (x.term, x.leadNode, (x.requests.filter fun q => q.1 ≠ gNode f) ++ _)) fun _ => rfl)

theorem grantRequest_denied (t ingress : Ns) (f : Bytes) (i : Nat) (r : RefPair) (s : State) (h : HeldFrame 2 t ingress f i r s)
    (hmember : gNode f = pcNodeA r.cfg ∨ gNode f = pcNodeB r.cfg) (hold : (gTerm f).toNat ≤ r.top.toNat) :
    Completes (.grantRequest t ingress f) s fun u =>
      ((u.pair.held[i]?).map fun x => (x.term, x.leadNode, x.requests, x.denies)) =
        some (r.term, r.leadNode, r.requests, r.denies + 1) := by
  refine ⟨_, h.exec_request hmember, ?_⟩
  beta_reduce
  rw [if_pos hold, (State.sendDeny_spec (State.updHeld_same (s := s.begin t) h.held _) _ _).1]
  exact congrArg some (r.noteB_same _ _ (fun x => (x.term, x.leadNode, x.requests, x.denies + 1)) fun _ => rfl)

/-! ### REFEREE_GRANT_DECISION and FORM_WAIT (R374) -/

/-- A newer request that no lead and no other referee stands against is granted. -/
theorem State.decideGrant_grants {i : Nat} {r : RefPair} {s : State} (h : s.pair.held[i]? = some r)
    {q : Nat × BitVec 32 × BitVec 8 × Ns} (hterm : r.top.toNat < q.2.1.toNat) (hlead : r.leadSeen s.clock = false)
    (hother : r.otherSees s.clock = false) (hreason : q.2.2.1 ≠ rsFormation) :
    s.decideGrant i q = s.sendGrant i q.1 0 q.2.2.1 [q.1] := by
  unfold State.decideGrant
  simp only [h]
  rw [if_neg hterm.not_ge, if_neg (ne_true_of_eq_false hlead), if_neg (ne_true_of_eq_false hother), if_neg (by simp [hreason])]

/-- A newer request is denied while the lead is seen, by this referee or by the other. -/
theorem State.decideGrant_denies {i : Nat} {r : RefPair} {s : State} (h : s.pair.held[i]? = some r)
    {q : Nat × BitVec 32 × BitVec 8 × Ns} (hterm : r.top.toNat < q.2.1.toNat)
    (hseen : r.leadSeen s.clock = true ∨ r.otherSees s.clock = true) : ∃ reason, s.decideGrant i q = s.sendDeny i q.1 reason := by
  unfold State.decideGrant
  simp only [h]
  rw [if_neg hterm.not_ge]
  by_cases hlead : r.leadSeen s.clock = true
  · exact ⟨_, if_pos hlead⟩
  · exact ⟨_, (if_neg hlead).trans (if_pos (hseen.resolve_left hlead))⟩

/-- A pair without its requests that are due. -/
def RefPair.withoutDue (clock : Ns) (r : RefPair) : RefPair :=
  { r with requests := r.requests.filter fun q => !decide (q.2.2.2 ≤ clock) }

/-- The one request that is due is taken from its pair and decided on. -/
theorem exec_refereeGrantDecision_one (t : Ns) (k : Fin 8) (r : RefPair) (q : Nat × BitVec 32 × BitVec 8 × Ns) (s : State)
    (hup : s.up .rng = true) (hheld : s.pair.held[k.val]? = some r) (hone : r.requests = [q]) (hdue : q.2.2.2 ≤ max s.clock t) :
    exec (.refereeGrantDecision t k) s =
      .next (((s.begin t).updHeld k.val (RefPair.withoutDue (max s.clock t))).decideGrant k.val q) := by
  rw [exec_refereeGrantDecision, execRefereeGrantDecision]
  simp only [State.begin_pair, hheld, State.begin_up, hup, Bool.not_true, Bool.false_eq_true, if_false, hone, State.begin_clock,
    List.filter_cons, hdue, decide_true, if_true, List.filter_nil, List.foldl_cons, List.foldl_nil]
  rfl

theorem State.updHeld_withoutDue {k : Nat} {r : RefPair} {q : Nat × BitVec 32 × BitVec 8 × Ns} {s : State} {clock : Ns}
    (hheld : s.pair.held[k]? = some r) (hone : r.requests = [q]) (hdue : q.2.2.2 ≤ clock) :
    (s.updHeld k (RefPair.withoutDue clock)).pair.held[k]? = some { r with requests := [] } := by
  rw [State.updHeld_same hheld, RefPair.withoutDue, hone]
  simp [hdue]

theorem refereeGrantDecision_grants (t : Ns) (k : Fin 8) (r : RefPair) (q : Nat × BitVec 32 × BitVec 8 × Ns) (s : State)
    (hup : s.up .rng = true) (hheld : s.pair.held[k.val]? = some r) (hone : r.requests = [q]) (hdue : q.2.2.2 ≤ max s.clock t)
    (hterm : r.top.toNat < q.2.1.toNat) (hlead : r.leadSeen (max s.clock t) = false) (hother : r.otherSees (max s.clock t) = false)
    (hreason : q.2.2.1 ≠ rsFormation) : Completes (.refereeGrantDecision t k) s fun u =>
      ((u.pair.held[k.val]?).map fun x => (x.term, x.leadNode, x.requests, x.grants)) = some (r.top + 1, q.1, [], r.grants + 1) ∧
      u.mod.refTerms.head? = some (pcAddr r.cfg, r.top + 1) := by
  have htaken := State.updHeld_withoutDue (s := s.begin t) hheld hone hdue
  refine ⟨_, exec_refereeGrantDecision_one t k r q s hup hheld hone hdue, ?_⟩
  rw [State.decideGrant_grants htaken hterm hlead hother hreason]
  exact State.sendGrant_spec htaken _ _ _ _

theorem refereeGrantDecision_denies (t : Ns) (k : Fin 8) (r : RefPair) (q : Nat × BitVec 32 × BitVec 8 × Ns) (s : State)
    (hup : s.up .rng = true) (hheld : s.pair.held[k.val]? = some r) (hone : r.requests = [q]) (hdue : q.2.2.2 ≤ max s.clock t)
    (hterm : r.top.toNat < q.2.1.toNat) (hseen : r.leadSeen (max s.clock t) = true ∨ r.otherSees (max s.clock t) = true) :
    Completes (.refereeGrantDecision t k) s fun u =>
      ((u.pair.held[k.val]?).map fun x => (x.term, x.leadNode, x.requests, x.denies)) = some (r.term, r.leadNode, [], r.denies + 1) ∧
      u.mod.refTerms = s.mod.refTerms := by
  have htaken := State.updHeld_withoutDue (s := s.begin t) hheld hone hdue
  refine ⟨_, exec_refereeGrantDecision_one t k r q s hup hheld hone hdue, ?_⟩
  obtain ⟨reason, hdeny⟩ := State.decideGrant_denies htaken hterm hseen
  obtain ⟨hheld', hmod⟩ := State.sendDeny_spec htaken q.1 reason
  rw [hdeny, hheld', hmod]
  exact ⟨rfl, rfl⟩

theorem formWait_passes (t : Ns) (k : Fin 8) (r : RefPair) (b : Ns) (s : State) (hheld : s.pair.held[k.val]? = some r)
    (hfirst : r.firstB = some b) (hpast : max b s.pair.refStart + 10000000000 ≤ max s.clock t) :
    Completes (.formWait t k) s fun u =>
      u.pair.held[k.val]? = some { r with formPassed := true } ∧ ∀ j : Nat, j ≠ k.val → u.pair.held[j]? = s.pair.held[j]? := by
  refine ⟨(s.begin t).updHeld k.val fun r => { r with formPassed := true }, ?_, State.updHeld_same (s := s.begin t) hheld _,
    fun j hj => State.updHeld_ne hj _ (s.begin t)⟩
  rw [exec_formWait, execFormWait]
  simp only [State.begin_pair, hheld, Option.bind_some, hfirst]
  exact if_pos hpast

/-! ### RELINQUISH (R385) -/

theorem relinquish_grants (t ingress : Ns) (f : Bytes) (i : Nat) (r : RefPair) (s : State) (h : HeldFrame 5 t ingress f i r s)
    (hnode : gNode f = pcNodeA r.cfg ∨ gNode f = pcNodeB r.cfg) (hsource : fSource f = pcNodeA r.cfg ∨ fSource f = pcNodeB r.cfg)
    (hterm : r.top.toNat ≤ (gTerm f).toNat) (hheard : r.lost (max s.clock t) (gNode f) = false)
    (hshadow : (if gNode f = pcNodeA r.cfg then r.stateA else r.stateB) = 2) : Completes (.relinquish t ingress f) s fun u =>
      ((u.pair.held[i]?).map fun x => (x.term, x.leadNode, x.grants)) = some (r.top + 1, gNode f, r.grants + 1) ∧
      u.mod.refTerms.head? = some (pcAddr r.cfg, r.top + 1) := by
  have hheard' : r.lost (s.begin t).clock (gNode f) = false := hheard
  have hrun : exec (.relinquish t ingress f) s =
      .next ((s.begin t).sendGrant i (gNode f) (gKh f) (gReason f) [gNode f, fSource f]) := by
    rw [exec_relinquish, execRelinquish]
    simp only [pairFrame_taken h.up h.heard h.dest h.frame, State.begin_heldIndex, h.index, State.begin_pair, h.held,
      RefPair.isMember hnode, RefPair.isMember hsource, hterm.not_gt, hheard', hshadow, Bool.or_self,
      Bool.false_eq_true, if_false]
    rfl
  obtain ⟨hgrant, hkept⟩ := State.sendGrant_spec (s := s.begin t) h.held (gNode f) (gKh f) (gReason f) [gNode f, fSource f]
  refine ⟨_, hrun, ?_, hkept⟩
  simpa using congrArg (Option.map fun y => (y.1, y.2.1, y.2.2.2)) hgrant

/-! ### GRANT and DENY at a member (R375, R384, R389) -/

/-- The change of lead that a GRANT names. -/
def State.granted (f : Bytes) (s : State) : LeadChange :=
  { take := gNode f == s.node, term := gTerm f, leadNode := gNode f, kh := s.fullBus (gKh f), reason := gReason f }

/-- A change of lead under a term above every one heard takes the place of one that waits. -/
theorem State.planLead_newer {c : LeadChange} {s : State} (h : s.termHeard < c.term.toNat) :
    s.planLead c = s.updPair fun p => { p with pendingLead := some c } := by
  unfold State.planLead
  refine if_neg ?_
  split
  · rename_i p hp
    have hheard : p.term.toNat ≤ s.termHeard := by
      simp only [State.termHeard, hp, List.foldl_cons, List.foldl_nil, Option.map_some, Option.getD_some]
      omega
    simpa using (hheard.trans h.le)
  · exact Bool.false_ne_true

theorem State.record_termHeard (src : Isl) (kind : RecKind) (items : List Int) (s : State) :
    (s.record src kind items).termHeard = s.termHeard := by
  simp only [State.termHeard, State.record_pair]

theorem grant_plans (t ingress : Ns) (f : Bytes) (s : State) (hup : s.up .rng = true) (hframe : pairFrame 3 f = true)
    (hheard : ingress ≤ max s.clock t) (hdest : fDest f = s.node) (href : s.fromReferee f = true)
    (hnew : s.termHeard < (gTerm f).toNat)
    (hown : gNode f = s.node → s.pair.state = .unformed ∨ s.pair.state = .shadow ∨ s.pair.state = .lead) :
    Completes (.grant t ingress f) s fun u =>
      u.pair = { s.pair with pendingLead := some (s.granted f) } := by
  have href' : (s.begin t).fromReferee f = true := href
  have hnew' : decide ((gTerm f).toNat ≤ (s.begin t).termHeard) = false := decide_eq_false hnew.not_ge
  have htakes : (gNode f == (s.begin t).node &&
      !(s.pair.state == .unformed || s.pair.state == .shadow || s.pair.state == .lead)) = false := by
    rw [State.begin_node]
    cases hmine : gNode f == s.node with
    | false => rfl
    | true => rcases hown (beq_iff_eq.mp hmine) with h | h | h <;> rw [h] <;> rfl
  have hrun : exec (.grant t ingress f) s = .next (((s.begin t).record .rng .grant
      [(gTerm f).toNat, (gReason f).toNat, (s.begin t).fullBus (gKh f)]).planLead (s.granted f)) := by
    rw [exec_grant, execGrant]
    simp only [pairFrame_taken hup hheard hdest hframe, href', hnew', State.begin_pair, htakes, Bool.not_true,
      Bool.or_self, Bool.false_eq_true, if_false]
    rfl
  refine ⟨_, hrun, ?_⟩
  beta_reduce
  rw [State.planLead_newer (by rw [State.record_termHeard]; exact hnew), State.updPair_pair, State.record_pair]
  rfl

/-- A completion ends no hand-over and begins none. -/
theorem State.complete_member (org : Origin) (o : Outcome) (s : State) :
    (s.complete org o).pair.handover = s.pair.handover ∧ (s.complete org o).pair.state = s.pair.state ∧
    (s.complete org o).pair.term = s.pair.term := by
  cases org with
  | host id =>
    rw [State.complete, State.forwardDone]
    split
    · exact ⟨rfl, rfl, rfl⟩
    · split <;> exact ⟨rfl, rfl, rfl⟩
  | tunnel src tid =>
    rw [State.complete, (State.tunnelRespond_keep src tid o s).same .pair (by decide)]
    exact ⟨rfl, rfl, rfl⟩
  | partner k =>
    rw [State.complete]
    exact ⟨rfl, rfl, rfl⟩
  | self => exact ⟨rfl, rfl, rfl⟩

/-- A hand-over that fails is over, and the member stays what it is. -/
theorem State.failHandover_spec (o : Outcome) (s : State) :
    (s.failHandover o).pair.handover = none ∧ (s.failHandover o).pair.state = s.pair.state ∧
    (s.failHandover o).pair.term = s.pair.term := by
  unfold State.failHandover
  split
  · rename_i hnone
    exact ⟨hnone, rfl, rfl⟩
  · rename_i org reason limit hsome
    extract_lets a
    have ha : a.pair.handover = s.pair.handover ∧ a.pair.state = s.pair.state ∧ a.pair.term = s.pair.term := by
      unfold a
      split
      · rw [State.record_pair]
        exact ⟨rfl, rfl, rfl⟩
      · exact ⟨rfl, rfl, rfl⟩
    obtain ⟨hhandover, hstate, hterm⟩ := ha
    obtain ⟨hended, hstate', hterm'⟩ := State.complete_member org o (a.updPair fun p => { p with handover := none })
    unfold State.endHandover
    rw [hhandover, hsome]
    exact ⟨hended, hstate'.trans hstate, hterm'.trans hterm⟩

theorem deny_ends (t ingress : Ns) (f : Bytes) (s : State) (hup : s.up .rng = true) (hframe : pairFrame 4 f = true)
    (hheard : ingress ≤ max s.clock t) (hdest : fDest f = s.node) (href : s.fromReferee f = true) :
    Completes (.deny t ingress f) s fun u =>
      u.pair.handover = none ∧ u.pair.state = s.pair.state ∧ u.pair.term = s.pair.term := by
  let a := (s.begin t).record .rng .deny [gNode f, (gTerm f).toNat, (gReason f).toNat]
  have ha : a.pair = s.pair := State.record_pair _ _ _ (s.begin t)
  have href' : (s.begin t).fromReferee f = true := href
  have hrun : exec (.deny t ingress f) s = .next (
      if a.pair.handover.isSome then a.failHandover (.error stHandoverDenied (wr 4 (gReason f).toNat)) else a) := by
    rw [exec_deny, execDeny]
    simp only [pairFrame_taken hup hheard hdest hframe, href', Bool.not_true, Bool.or_self, Bool.false_eq_true, if_false]
    rfl
  refine ⟨_, hrun, ?_⟩
  split
  · rw [← ha]
    exact a.failHandover_spec _
  · rename_i hnone
    exact ⟨Option.not_isSome_iff_eq_none.mp hnone, by rw [ha], by rw [ha]⟩

/-! ### The obligation -/

/-- Settles O29: what a DENY and a GRANT make of the pair that they concern, and the change of lead that a member puts down. -/
theorem refereeGrants : Obligations.RefereeGrants := by
  unfold Obligations.RefereeGrants
  refine ⟨?_, ?_, refereeGrantDecision_grants, refereeGrantDecision_denies, formWait_passes, ?_, grant_plans, deny_ends⟩
  · intro t ingress f i r s hup hheard hdest hindex hheld hframe hmember hnew
    exact grantRequest_joins t ingress f i r s ⟨hup, hheard, hdest, hindex, hheld, hframe⟩ hmember hnew
  · intro t ingress f i r s hup hheard hdest hindex hheld hframe hmember hold
    exact grantRequest_denied t ingress f i r s ⟨hup, hheard, hdest, hindex, hheld, hframe⟩ hmember hold
  · intro t ingress f i r s hup hheard hdest hindex hheld hframe hnode hsource hterm hlost hshadow
    exact relinquish_grants t ingress f i r s ⟨hup, hheard, hdest, hindex, hheld, hframe⟩ hnode hsource hterm hlost hshadow

end Sys2Proof.Machine
end

section
/-! The barrier of a pair and what its members compare (obligation Barriers): a mismatch at the lead and at the shadow, a barrier
message that brings nothing beside itself, the meeting of two messages at the lead, then one lemma per command. -/

namespace Sys2Proof.Machine

/-! ### PAIR_MISMATCH (R370, R389) -/

/-- A mismatch at the lead is noted, and the lead stays. -/
theorem State.raiseMismatch_lead {s : State} (hlead : s.pair.state = .lead) (digest : Bool) (run n : Nat) :
    (s.raiseMismatch digest run n).pair = { s.pair with mismatch := true, lastMismatchAt := some s.clock } := by
  have hnot : ¬ s.pair.state = .shadow := by rw [hlead]; decide
  unfold State.raiseMismatch
  extract_lets a rejoined
  have ha : a.pair = { s.pair with mismatch := true, lastMismatchAt := some s.clock } := by
    unfold a
    rw [State.record_pair, State.updPair_pair, if_neg hnot]
  rw [if_neg (by rw [ha]; exact hnot), ha]

/-- A change of state is seen in the member, and one that neither leads nor shadows is out of the barrier. -/
theorem State.setMember_pair {m : Member} {s : State} (h : s.pair.state ≠ m) (cause : Nat) : (s.setMember m cause).pair =
    { s.pair with
      state := m, changed := s.now, changedAt := s.clock, holdoffFrom := if m = .shadow then some s.clock else none,
      barrier := if m = .shadow || m = .lead then s.pair.barrier else { s.pair.barrier with partnerLive := false } } := by
  unfold State.setMember
  rw [if_neg h, State.record_pair]
  rfl

/-- The third mismatch in a row sends a shadow that has not rejoined before back to joining. -/
theorem State.raiseMismatch_third {s : State} (hshadow : s.pair.state = .shadow) (hrejoin : s.pair.lastMismatchRejoin = none)
    (digest : Bool) (n : Nat) :
    (s.raiseMismatch digest 3 n).pair.state = .joining ∧ (s.raiseMismatch digest 3 n).pair.mismatch = true ∧
    (s.raiseMismatch digest 3 n).pair.barrier.partnerLive = false := by
  unfold State.raiseMismatch
  extract_lets a rejoined
  have ha : a.pair.state = .shadow ∧ a.pair.mismatch = true ∧ a.pair.lastMismatchRejoin = none := by
    unfold a
    rw [State.record_pair]
    exact ⟨hshadow, rfl, hrejoin⟩
  obtain ⟨hstate, hmismatch, hnone⟩ := ha
  rw [if_pos hstate, if_pos (by simp)]
  unfold State.withdrawMember
  simp only [hnone, Bool.false_eq_true, if_false]
  rw [State.setMember_pair (by rw [State.updPair_pair, hstate]; decide)]
  exact ⟨rfl, hmismatch, rfl⟩

/-! ### The output CRCs (R365, R370) -/

/-- The lead compares the output CRCs of the cycle before, counts a difference in a row, and stays the lead. -/
theorem State.compareOutputs_lead {s : State} (hlead : s.pair.state = .lead) (m : BarrierMsg) :
    (s.compareOutputs m).pair.barrier = { s.pair.barrier with partnerCrc := some m.outputCrc } ∧
    (s.compareOutputs m).pair.crcsCompared = s.pair.crcsCompared + 1 ∧
    (m.outputCrc = s.pair.barrier.ownCrc →
      (s.compareOutputs m).pair.mismatch = s.pair.mismatch ∧ (s.compareOutputs m).pair.crcRun = 0) ∧
    (m.outputCrc ≠ s.pair.barrier.ownCrc →
      (s.compareOutputs m).pair.mismatch = true ∧ (s.compareOutputs m).pair.crcRun = s.pair.crcRun + 1) ∧
    (s.compareOutputs m).pair.state = .lead := by
  unfold State.compareOutputs
  by_cases hequal : m.outputCrc = s.pair.barrier.ownCrc
  · simp only [hequal, decide_true, if_true]
    exact ⟨rfl, rfl, fun _ => ⟨rfl, rfl⟩, fun h => absurd rfl h, hlead⟩
  · simp only [hequal, decide_false, Bool.false_eq_true, if_false]
    rw [State.raiseMismatch_lead (by exact hlead)]
    exact ⟨rfl, rfl, fun h => h.elim, fun _ => ⟨rfl, rfl⟩, hlead⟩

/-! ### Meeting at the barrier (R364 to R366) -/

/-- At `u` the lead has passed the barrier that the messages `own` and `m` met, and compares as it did at `s`. -/
structure PassedByLead (own m : BarrierMsg) (s u : State) : Prop where
  passed : u.pair.barrier.passed = true
  partner : u.pair.barrier.partner = s.pair.barrier.partner
  stamp : u.pair.barrier.stamp = max own.stamp m.stamp
  agreedBus : u.pair.barrier.agreedBus = min own.newestBus m.newestBus
  ownCrc : u.pair.barrier.ownCrc = s.pair.barrier.ownCrc
  crcsCompared : u.pair.crcsCompared = s.pair.crcsCompared
  crcRun : u.pair.crcRun = s.pair.crcRun
  mismatch : u.pair.mismatch = s.pair.mismatch
  state : u.pair.state = .lead

theorem PassedByLead.of_pair {own m : BarrierMsg} {s t u : State} (h : PassedByLead own m s t) (hp : u.pair = t.pair) :
    PassedByLead own m s u := by
  obtain ⟨hpassed, hpartner, hstamp, hbus, hcrc, hcompared, hrun, hmismatch, hstate⟩ := h
  constructor <;> rw [hp] <;> assumption

/-- The writes that both messages carry are put down beside the barrier. -/
theorem PassedByLead.releaseWrites {own m : BarrierMsg} {s t : State} (h : PassedByLead own m s t) :
    PassedByLead own m s (t.releaseWrites own m) :=
  ⟨h.passed, h.partner, h.stamp, h.agreedBus, h.ownCrc, h.crcsCompared, h.crcRun, h.mismatch, h.state⟩

theorem State.partnerQueue_pair (trig : Trigger) (e : PrgEvent) (s : State) : (s.partnerQueue trig e).pair = s.pair :=
  (State.partnerQueue_keep trig e s).same .pair (by decide)

/-- Both messages of a cycle are there: the lead passes the barrier, whether images differ or not, and compares the outputs. -/
theorem State.meetBarrier_lead {own m : BarrierMsg} {s : State} (hown : s.pair.barrier.ownMsg = some own)
    (hmsg : s.pair.barrier.partnerMsg = some m) (hcycle : m.cycle = own.cycle) (hidle : m.idle = own.idle) (hstep : s.inStep = true)
    (hpassed : s.pair.barrier.passed = false) (hlead : s.pair.state = .lead) :
    ∃ t, PassedByLead own m s t ∧ s.meetBarrier = t.compareOutputs m := by
  have hmet : (decide (m.cycle = own.cycle) && m.idle == own.idle && s.inStep && !s.pair.barrier.passed) = true := by
    rw [hcycle, hidle, hstep, hpassed]
    simp
  have hleads : (s.pair.state == .lead) = true := by rw [hlead]; rfl
  unfold State.meetBarrier
  split
  case h_2 hnone => exact absurd hmsg (hnone own m hown)
  rename_i own' m' hown' hmsg'
  obtain rfl := Option.some.inj (hown.symm.trans hown')
  obtain rfl := Option.some.inj (hmsg.symm.trans hmsg')
  rw [if_pos hmet]
  extract_lets agreed diff lead wait a b c d acts e
  have ha : PassedByLead own m s a := ⟨by simp [a, lead, hleads, State.updPair], rfl, rfl, rfl, rfl, rfl, rfl, rfl, hlead⟩
  have hb : b.pair = a.pair := by
    unfold b
    split <;> rfl
  have hc : c.pair = b.pair :=
    List.foldlRecOn (motive := fun u : State => u.pair = b.pair) _ _ rfl fun u hu _ _ => (u.partnerQueue_pair _ _).trans hu
  have hd : d.pair = c.pair :=
    List.foldlRecOn (motive := fun u : State => u.pair = c.pair) _ _ rfl fun u hu _ _ => (u.partnerQueue_pair _ _).trans hu
  exact ⟨_, (ha.of_pair (u := e) (hd.trans (hc.trans hb))).releaseWrites, rfl⟩

/-- A pair without forwarded writes once a message of the partner has been kept. -/
def Pair.barrierHeard (m : BarrierMsg) (p : Pair) : Pair :=
  { p with barrier := { p.barrier with partner := some (m.cycle, m.stamp), partnerMsg := some m }, forwards := [] }

/-- A message that brings nothing beside its images is kept as the partner's. -/
theorem State.takeBarrier_plain {m : BarrierMsg} {s : State} (hforwards : s.pair.forwards = []) (hmailbox : m.mailbox = [])
    (hwrites : m.writes = []) (hpps : m.pps = none) (harmed : m.armed = false) (hrevert : m.revertReq = false)
    (hhalted : m.halted = none) : s.takeBarrier m = s.updPair (Pair.barrierHeard m) := by
  simp [State.takeBarrier, Pair.barrierHeard, State.settleForwards, State.answerRevert, State.updPair, hforwards, hmailbox, hwrites,
    hpps, harmed, hrevert, hhalted]

theorem barrier_passes (t : Ns) (m own : BarrierMsg) (s : State) (hup : s.up .rng = true) (hstep : s.inStep = true)
    (hcycling : s.cycling = true) (hforwards : s.pair.forwards = []) (hpassed : s.pair.barrier.passed = false)
    (hown : s.pair.barrier.ownMsg = some own) (hcycle : m.cycle = own.cycle) (hidle : m.idle = own.idle) (hmailbox : m.mailbox = [])
    (hwrites : m.writes = []) (_ : m.outcomes = []) (hpps : m.pps = none) (harmed : m.armed = false) (hrevert : m.revertReq = false)
    (hhalted : m.halted = none) (hlead : s.pair.state = .lead) : Completes (.barrier t m) s fun u =>
      u.pair.barrier.passed = true ∧ u.pair.barrier.partner = some (m.cycle, m.stamp) ∧
      u.pair.barrier.stamp = max own.stamp m.stamp ∧ u.pair.barrier.agreedBus = min own.newestBus m.newestBus ∧
      u.pair.crcsCompared = s.pair.crcsCompared + 1 ∧
      (m.outputCrc = s.pair.barrier.ownCrc → u.pair.mismatch = s.pair.mismatch ∧ u.pair.crcRun = 0) ∧
      (m.outputCrc ≠ s.pair.barrier.ownCrc → u.pair.mismatch = true ∧ u.pair.crcRun = s.pair.crcRun + 1) ∧
      u.pair.state = .lead := by
  let a := (s.begin t).updPair (Pair.barrierHeard m)
  have htake : (s.begin t).takeBarrier m = a :=
    State.takeBarrier_plain (by exact hforwards) hmailbox hwrites hpps harmed hrevert hhalted
  have hcycles : a.cycling = true := hcycling
  have hrun : exec (.barrier t m) s = .next a.meetBarrier := by
    rw [exec_barrier, execBarrier]
    simp only [State.begin_up, hup, State.begin_inStep, hstep, htake, hcycles, Bool.not_true, Bool.or_self, Bool.false_and,
      Bool.false_eq_true, if_false]
  obtain ⟨b, hb, hmeet⟩ := State.meetBarrier_lead (s := a) hown rfl hcycle hidle hstep hpassed hlead
  obtain ⟨hbarrier, hcompared, hequal, hdiffers, hstate⟩ := State.compareOutputs_lead hb.state m
  rw [hb.ownCrc] at hequal hdiffers
  rw [hb.mismatch] at hequal
  rw [hb.crcRun] at hdiffers
  refine ⟨_, hrun, ?_⟩
  beta_reduce
  rw [hmeet, hbarrier]
  exact ⟨hb.passed, hb.partner, hb.stamp, hb.agreedBus, hcompared.trans (congrArg (· + 1) hb.crcsCompared), hequal, hdiffers, hstate⟩

/-! ### OUT_DONE and IMAGE_FIX (R364 step 5, R365, R367) -/

theorem outDone_kept (t : Ns) (cycle : Nat) (stamp : Int) (s : State) (hstep : s.inStep = true) :
    Completes (.outDone t cycle stamp) s fun u =>
      u.pair = { s.pair with barrier := { s.pair.barrier with partnerDone := some (cycle, stamp) } } := by
  refine ⟨(s.begin t).updPair fun p => { p with barrier := { p.barrier with partnerDone := some (cycle, stamp) } }, ?_, rfl⟩
  simp [exec_outDone, execOutDone, hstep]

/-- An image that the lead fixes stays the image of its station. -/
theorem Station.fixImage_index (newest bus : Nat) (words : List Word) (x : Station) :
    (x.fixImage newest bus words).index = x.index := by
  unfold Station.fixImage
  split <;> rfl

theorem imageFix_passes (t : Ns) (i bus : Nat) (words : List Word) (x : Station) (s : State) (hshadow : s.pair.state = .shadow)
    (hstep : s.inStep = true) (hwait : s.pair.barrier.fixWait = [i]) (hst : s.station? i = some x) :
    Completes (.imageFix t [(i, bus, words)]) s fun u =>
      u.pair.barrier.fixWait = [] ∧ u.pair.barrier.passed = true ∧ u.station? i = some (x.fixImage s.newestBus bus words) := by
  let a := (s.begin t).updStation i (Station.fixImage s.newestBus bus words)
  refine ⟨a.updPair fun p => { p with barrier := { p.barrier with fixWait := [], passed := true } }, ?_, rfl, rfl, ?_⟩
  · have hfix : a.pair.barrier.fixWait = [i] := hwait
    rw [exec_imageFix, execImageFix]
    simp only [State.begin_pair, hshadow, State.begin_inStep, hstep, hwait, State.begin_newestBus, List.foldl_cons, List.foldl_nil]
    simp [a, State.updStation, State.updPair, State.updRing, hwait]
  · have hfixed := State.updStation_same i (Station.fixImage s.newestBus bus words) (s.begin t)
      (Station.fixImage_index s.newestBus bus words)
    exact hfixed.trans (congrArg _ hst)

/-! ### DIGEST (R370) -/

/-- Differences in a row once two digests have been compared. -/
def Pair.digestRun (own crc : BitVec 32) (p : Pair) : Nat := if own == crc then 0 else p.mismatchRun + 1

/-- The pair once two digests of a bus cycle have been compared, before a mismatch is raised. -/
def Pair.digested (own crc : BitVec 32) (run : Nat) (p : Pair) : Pair := { p with
  digestsCompared := p.digestsCompared + 1, digestMismatches := if own == crc then p.digestMismatches else p.digestMismatches + 1,
  mismatchRun := run }

/-- A member that computes compares the partner's digest with its own of the bus cycle. -/
theorem exec_digest_own (t : Ns) {bus : Nat} {crc own : BitVec 32} {s : State} (hpair : s.isPair = true) (hcomputes : s.computes = true)
    (hown : s.pair.ownDigests.find? (fun d => d.1 == bus) = some (bus, own)) : exec (.digest t bus crc) s = .next (
      if own == crc then (s.begin t).updPair (Pair.digested own crc (s.pair.digestRun own crc))
      else ((s.begin t).updPair (Pair.digested own crc (s.pair.digestRun own crc))).raiseMismatch true
        (s.pair.digestRun own crc) bus) := by
  have hcomputes' : (s.begin t).computes = true := hcomputes
  rw [exec_digest, execDigest]
  simp only [State.begin_isPair, hpair, hcomputes', State.begin_pair, hown, Bool.not_true, Bool.or_self, Bool.false_eq_true, if_false]
  rfl

theorem digest_lead (t : Ns) (bus : Nat) (crc own : BitVec 32) (s : State) (hpair : s.isPair = true) (hlead : s.pair.state = .lead)
    (hown : s.pair.ownDigests.find? (fun d => d.1 == bus) = some (bus, own)) : Completes (.digest t bus crc) s fun u =>
      u.pair.digestsCompared = s.pair.digestsCompared + 1 ∧ u.pair.state = .lead ∧
      (own = crc → u.pair.mismatch = s.pair.mismatch ∧ u.pair.mismatchRun = 0) ∧
      (own ≠ crc → u.pair.mismatch = true ∧ u.pair.mismatchRun = s.pair.mismatchRun + 1) := by
  refine ⟨_, exec_digest_own t hpair (by rw [State.computes, hlead]; rfl) hown, ?_⟩
  beta_reduce
  by_cases hequal : own = crc
  · have hbeq : (own == crc) = true := beq_iff_eq.mpr hequal
    rw [if_pos hbeq, State.updPair_pair]
    exact ⟨rfl, hlead, fun _ => ⟨rfl, if_pos hbeq⟩, fun h => absurd hequal h⟩
  · have hbeq : ¬ (own == crc) = true := by simpa using hequal
    rw [if_neg hbeq, State.raiseMismatch_lead (by exact hlead)]
    exact ⟨rfl, hlead, fun h => absurd h hequal, fun _ => ⟨rfl, if_neg hbeq⟩⟩

theorem digest_thirdDifference (t : Ns) (bus : Nat) (crc own : BitVec 32) (s : State) (hpair : s.isPair = true)
    (hshadow : s.pair.state = .shadow) (hown : s.pair.ownDigests.find? (fun d => d.1 == bus) = some (bus, own)) (hdiffers : own ≠ crc)
    (htwo : s.pair.mismatchRun = 2) (hrejoin : s.pair.lastMismatchRejoin = none) : Completes (.digest t bus crc) s fun u =>
      u.pair.state = .joining ∧ u.pair.mismatch = true ∧ u.pair.barrier.partnerLive = false := by
  have hbeq : ¬ (own == crc) = true := by simpa using hdiffers
  have hthird : s.pair.digestRun own crc = 3 := (if_neg hbeq).trans (congrArg (· + 1) htwo)
  refine ⟨_, exec_digest_own t hpair (by rw [State.computes, hshadow]; rfl) hown, ?_⟩
  beta_reduce
  rw [if_neg hbeq, hthird]
  exact State.raiseMismatch_third (by exact hshadow) (by exact hrejoin) true bus

/-! ### RECORD (R31, R379) -/

/-- A record of the partner as the lead keeps it: under the lead's own number, with the partner's stamps. -/
def partnerEntry (seq : BitVec 32) (r : PartnerRec) : RecEntry :=
  { seq := seq, source := r.source, kind := r.kind, items := r.items, opSeconds := r.opSeconds, powerCycles := r.powerCycles,
    shipTime := r.shipTime, length := recLength r.kind r.items, fromPartner := true }

theorem record_stores (t : Ns) (r : PartnerRec) (s : State) (hpair : s.isPair = true) (hlead : s.pair.state = .lead)
    (hroom : s.recorder.room r.source (recLength r.kind r.items) = true) : Completes (.record t r) s fun u =>
      u.recorder.nextSeq = s.recorder.nextSeq + 1 ∧ u.recorder.intake.getLast? = some (partnerEntry s.recorder.nextSeq r) := by
  refine ⟨(s.begin t).updRec fun q => { q with
    intake := q.intake ++ [partnerEntry s.recorder.nextSeq r], nextSeq := q.nextSeq + 1 }, ?_, rfl, List.getLast?_concat⟩
  simp only [exec_record, execRecord, State.begin_pair, hlead, State.begin_isPair, hpair, State.begin_recorder, hroom, if_true]
  rfl

/-! ### The obligation -/

/-- Settles O30: the lead passes the barrier where two equal messages meet, and a difference at it or of digests raises a mismatch. -/
theorem barriers : Obligations.Barriers := by
  unfold Obligations.Barriers
  exact ⟨barrier_passes, outDone_kept, imageFix_passes, digest_lead, digest_thirdDifference, record_stores⟩

end Sys2Proof.Machine
end

section
/-! Joining a lead, swap drills and the return to the preferred member (obligation JoiningAndDrills): one lemma per command. -/

namespace Sys2Proof.Machine

@[simp] theorem State.settleHealth_pair (s : State) : s.settleHealth.pair = s.pair :=
  (State.settleHealth_keep s).same .pair (by decide)

/-! ### RESYNC (R382, R383) -/

/-- A message of the transfer reaches a joining member. -/
theorem resync_joining {s : State} (hpair : s.isPair = true) (hjoining : s.pair.state = .joining) :
    ¬ (!s.isPair || s.pair.state != .joining) = true := by
  rw [hpair, hjoining]
  decide

theorem resync_page (t : Ns) (addr : Nat) (b : Bytes) (s : State) (hpair : s.isPair = true) (hjoining : s.pair.state = .joining)
    (hstep : s.pair.join.step ≠ 0) : Completes (.resync t (.page addr b)) s fun u =>
      u.prg.data.mem = Memory.writeAll s.prg.data.mem addr b ∧ u.pair.state = .joining ∧
      u.pair.join.bytes = s.pair.join.bytes + b.length := by
  refine ⟨(s.begin t).joinPage addr b, ?_, rfl, hjoining, rfl⟩
  rw [exec_resync, execResync]
  dsimp only
  rw [if_neg (resync_joining (s := s.begin t) hpair hjoining), if_neg (by exact hstep)]

/-- The last message of a transfer with the program in place makes the joining member a shadow in step with the lead. -/
theorem State.joinFinal_shadows {prg : Program} {off : Int} {fns : Vector SafFn 48} {conns : Vector SafConn 32} {seq : BitVec 16}
    {s u : State} (hjoining : s.pair.state = .joining) (himage : s.sameImage prg = true)
    (hu : u = s.joinFinal prg off fns conns seq true) :
    u.pair.state = .shadow ∧ u.pair.pairSeq = seq ∧ u.pair.mismatch = false ∧ u.pair.barrier.partnerLive = true ∧
    u.prg.cycleNumber = prg.cycleNumber ∧ u.pair.join.failRun = 0 := by
  subst hu
  unfold State.joinFinal
  rw [if_neg (by rw [himage]; decide)]
  extract_lets d fns' conns' a b c e took fresh f g
  have hf : f.pair.state ≠ .shadow := by
    change s.pair.state ≠ .shadow
    rw [hjoining]
    decide
  rw [State.settleHealth_pair, State.settleHealth_prg, State.updPair_pair, State.updPair_prg, State.record_pair, State.record_prg,
    State.setMember_pair hf, State.setMember_prg]
  exact ⟨rfl, rfl, rfl, rfl, rfl, rfl⟩

theorem resync_final (t : Ns) (prg : Program) (off : Int) (fns : Vector SafFn 48) (conns : Vector SafConn 32) (seq : BitVec 16)
    (s : State) (hpair : s.isPair = true) (hjoining : s.pair.state = .joining) (hstep : s.pair.join.step = 3)
    (himage : s.sameImage prg = true) : Completes (.resync t (.final prg off fns conns seq true)) s fun u =>
      u.pair.state = .shadow ∧ u.pair.pairSeq = seq ∧ u.pair.mismatch = false ∧ u.pair.barrier.partnerLive = true ∧
      u.prg.cycleNumber = prg.cycleNumber ∧ u.pair.join.failRun = 0 := by
  refine ⟨(s.begin t).joinFinal prg off fns conns seq true, ?_, State.joinFinal_shadows (s := s.begin t) hjoining himage rfl⟩
  rw [exec_resync, execResync]
  dsimp only
  rw [if_neg (resync_joining (s := s.begin t) hpair hjoining), if_pos (by exact hstep)]

/-! ### JOIN_TIMEOUT (R382) -/

/-- The pair once a join has failed, before the member goes out or starts again. -/
def Pair.joinFailed (failRun : Nat) (p : Pair) : Pair :=
  { p with join := { p.join with step := 0, start := none, timeouts := p.join.timeouts + 1, failRun := failRun } }

theorem joinTimeout_fails (t a : Ns) (s : State) (hjoining : s.pair.state = .joining) (hstart : s.pair.join.start = some a)
    (hpast : (s.begin t).due .rng a 300000000000 ≤ max s.clock t) : Completes (.joinTimeout t) s fun u =>
      u.pair.state = (if 3 ≤ s.pair.join.failRun + 1 then .out else .joining) ∧ u.pair.join.step = 0 ∧
      u.pair.join.failRun = s.pair.join.failRun + 1 ∧ u.pair.join.timeouts = s.pair.join.timeouts + 1 := by
  let b := ((s.begin t).record .rng .joinTimeout [s.pair.join.attempts]).updPair
    (Pair.joinFailed (s.pair.join.failRun + 1))
  let c := b.updPair fun p => { p with join := { p.join with bytes := 0, attempts := p.join.attempts + 1 } }
  have hb : b.pair = s.pair.joinFailed (s.pair.join.failRun + 1) := congrArg (Pair.joinFailed _) (State.record_pair _ _ _ (s.begin t))
  have hrun : exec (.joinTimeout t) s = .next (
      if 3 ≤ s.pair.join.failRun + 1 then b.setMember .out 7 else c.record .rng .joinStart [c.pair.join.attempts]) := by
    have hdue : decide ((s.begin t).due .rng a 300000000000 ≤ (s.begin t).clock) = true := decide_eq_true hpast
    rw [exec_joinTimeout, execJoinTimeout]
    simp only [State.begin_pair, hstart, hdue, hjoining, State.record_pair]
    rw [if_neg (by decide)]
    split <;> rfl
  have hstate : b.pair.state ≠ .out := by
    rw [hb]
    change s.pair.state ≠ .out
    rw [hjoining]
    decide
  refine ⟨_, hrun, ?_⟩
  beta_reduce
  split
  · rw [State.setMember_pair hstate, hb]
    exact ⟨rfl, rfl, rfl, rfl⟩
  · rw [State.record_pair, State.updPair_pair, hb]
    exact ⟨hjoining, rfl, rfl, rfl⟩

/-! ### Drills and reversion (R381, R384 to R386) -/

/-- A planned hand-over is noted with its origin and reason, and no longer due. -/
theorem State.startHandover_pair (org : Origin) (reason : BitVec 8) (s : State) :
    ∃ limit, (s.startHandover org reason).pair = { s.pair with handover := some (org, reason, limit), handoverDue := none } := by
  unfold State.startHandover
  exact ⟨_, State.originate_pair _ _ _ _ _ _⟩

/-- What a drill waits for: the lead of a pair whose drill is due. -/
theorem swapDrill_due {t d : Ns} {s : State} (hpair : s.isPair = true) (hup : s.up .rng = true) (hlead : s.pair.state = .lead)
    (hdue : d ≤ max s.clock t) :
    (s.pair.state != .lead || !(s.begin t).isPair || !(s.begin t).up .rng || decide ((s.begin t).clock < d)) = false := by
  rw [hlead, State.begin_isPair, hpair, State.begin_up, hup, State.begin_reached hdue]
  rfl

theorem swapDrill_starts (t d : Ns) (o : Bytes) (s : State) (hpair : s.isPair = true) (hup : s.up .rng = true)
    (hlead : s.pair.state = .lead) (hnext : s.pair.drillNext = some d) (hcfg : s.pair.cfg = some o) (hdue : d ≤ max s.clock t)
    (hshadow : s.shadowThere = true) (hsince : s.pair.partner.since + pcHoldoff o * 1000000000 ≤ max s.clock t)
    (hclean : spanPassed (max s.clock t) s.pair.lastMismatchAt (pcHoldoff o * 1000000000) = true) (href : s.refHeard = true)
    (hnone : s.pair.handover = none) : Completes (.swapDrill t) s fun u =>
      (u.pair.handover.map fun x => (x.1, x.2.1)) = some (.self, rsDrill) ∧
      u.pair.drillNext = some (max s.clock t + pcDrill o * 3600000000000) ∧ u.pair.state = .lead := by
  let a := (s.begin t).updPair fun p => { p with drillNext := some (max s.clock t + pcDrill o * 3600000000000) }
  obtain ⟨limit, hstarted⟩ := a.startHandover_pair .self rsDrill
  have hshadow' : (s.begin t).shadowThere = true := hshadow
  have href' : (s.begin t).refHeard = true := href
  have hsince' : s.pair.partner.since + pcHoldoff o * 1000000000 ≤ (s.begin t).clock := hsince
  have hclean' : spanPassed (s.begin t).clock s.pair.lastMismatchAt (pcHoldoff o * 1000000000) = true := hclean
  have hrun : exec (.swapDrill t) s = .next (a.startHandover .self rsDrill) := by
    rw [exec_swapDrill, execSwapDrill]
    simp only [State.begin_pair, hnext, hcfg, swapDrill_due hpair hup hlead hdue, hshadow', href', hnone, hsince',
      hclean', decide_true, Option.isNone_none, Bool.and_self, Bool.false_eq_true, if_false, if_true]
    rfl
  refine ⟨_, hrun, ?_⟩
  beta_reduce
  rw [hstarted]
  exact ⟨rfl, rfl, hlead⟩

theorem swapDrill_putOff (t d : Ns) (o : Bytes) (s : State) (hpair : s.isPair = true) (hup : s.up .rng = true)
    (hlead : s.pair.state = .lead) (hnext : s.pair.drillNext = some d) (hcfg : s.pair.cfg = some o) (hdue : d ≤ max s.clock t)
    (hshadow : s.shadowThere = false) : Completes (.swapDrill t) s fun u =>
      u.pair = { s.pair with drillNext := some (d + 3600000000000) } := by
  have hshadow' : (s.begin t).shadowThere = false := hshadow
  refine ⟨(s.begin t).updPair fun p => { p with drillNext := some (d + 3600000000000) }, ?_, rfl⟩
  rw [exec_swapDrill, execSwapDrill]
  simp only [State.begin_pair, hnext, hcfg, swapDrill_due hpair hup hlead hdue, hshadow', Bool.false_and, Bool.false_eq_true, if_false]

theorem revertReq_asks (t h : Ns) (o : Bytes) (s : State) (hfrom : s.pair.holdoffFrom = some h) (hcfg : s.pair.cfg = some o)
    (hrole : s.role = some .pairA) (hshadow : s.pair.state = .shadow) (hrevert : pcRevert o = true)
    (hlimit : s.pair.revertLimit = false) (hfault : s.saf.fault = none) (hpast : h + pcHoldoff o * 1000000000 ≤ max s.clock t) :
    Completes (.revertReq t) s fun u => u.pair = { s.pair with revertReq := true } := by
  have hasks : ((s.begin t).role == some .pairA && s.pair.state == .shadow && pcRevert o && !s.pair.revertLimit &&
      (s.begin t).saf.fault.isNone && decide (h + pcHoldoff o * 1000000000 ≤ (s.begin t).clock)) = true := by
    rw [State.begin_role, hrole, hshadow, hrevert, hlimit, State.begin_saf, hfault, decide_eq_true (by exact hpast)]
    rfl
  refine ⟨(s.begin t).updPair fun p => { p with revertReq := true }, ?_, rfl⟩
  rw [exec_revertReq, execRevertReq]
  simp only [State.begin_pair, hfrom, hcfg]
  exact if_pos hasks

/-! ### The obligation -/

/-- Settles O31: the transfer's messages at a joining member, a join that fails, and the conditions of a drill and of a reversion. -/
theorem joiningAndDrills : Obligations.JoiningAndDrills := by
  unfold Obligations.JoiningAndDrills
  exact ⟨resync_page, resync_final, joinTimeout_fails, swapDrill_starts, swapDrill_putOff, revertReq_asks⟩

end Sys2Proof.Machine
end

section
/-! Descriptors from their fetch to their completion (obligation Descriptors): the queues that an update or a message leaves alone,
then one lemma per command. -/

namespace Sys2Proof.Machine

/-! ### The queues (R416 to R418, R423) -/

theorem Hif.updSq_same (n : Fin 8) (f : Sq → Sq) (h : Hif) : (h.updSq n f).sqs[n] = f h.sqs[n] := by
  simp [Hif.updSq]

theorem Hif.updSq_ne {n k : Fin 8} (hk : k ≠ n) (f : Sq → Sq) (h : Hif) : (h.updSq n f).sqs[k] = h.sqs[k] := by
  have hv : n.val ≠ k.val := fun e => hk (Fin.ext e.symm)
  simp [Hif.updSq, hv]

theorem Hif.updCq_same (n : Fin 8) (f : Cq → Cq) (h : Hif) : (h.updCq n f).cqs[n] = f h.cqs[n] := by
  simp [Hif.updCq]

theorem Hif.updCq_ne {n k : Fin 8} (hk : k ≠ n) (f : Cq → Cq) (h : Hif) : (h.updCq n f).cqs[k] = h.cqs[k] := by
  have hv : n.val ≠ k.val := fun e => hk (Fin.ext e.symm)
  simp [Hif.updCq, hv]

/-- A message changes at most the pending bit of its vector. -/
theorem State.signal_queues (v : Fin 16) (s : State) : (s.signal v).hif.cqs = s.hif.cqs ∧ (s.signal v).hif.tags = s.hif.tags := by
  unfold State.signal
  split <;> exact ⟨rfl, rfl⟩

/-- A queue whose message has been sent. -/
def Cq.signalled (q : Cq) : Cq := { q with unsignalled := 0, firstAt := none }

/-- From `s` to `t` the tags stay, and the tail of the completion queue `n`. -/
structure QueueKeeps (n : Fin 8) (s t : State) : Prop where
  tail : t.hif.cqs[n].tail = s.hif.cqs[n].tail
  tags : t.hif.tags = s.hif.tags

theorem State.signalCq_queue (n : Fin 8) (s : State) : QueueKeeps n s (s.signalCq n) := by
  unfold State.signalCq
  extract_lets q
  let a := s.updHif (Hif.updCq n Cq.signalled)
  have hsignalled : a.hif.cqs[n] = s.hif.cqs[n].signalled := Hif.updCq_same n Cq.signalled s.hif
  obtain ⟨hcqs, htags⟩ := State.signal_queues q.vector a
  split
  · exact ⟨(congrArg (fun v => v[n].tail) hcqs).trans (congrArg Cq.tail hsignalled), htags⟩
  · exact ⟨rfl, rfl⟩

theorem State.signalCq_sends (n : Fin 8) (s : State) : Sends s (s.signalCq n) := by
  unfold State.signalCq
  dsimp only
  exact .ite ((s.updHif_sends _).trans (State.signal_sends _ _)) (.refl s)

/-! ### DESCRIPTOR_FETCH (R413, R416, R426 to R428) -/

/-- A queue once the descriptor at its head is taken. -/
def Sq.taken (q : Sq) : Sq :=
  { q with head := (q.head + 1) % 2 ^ q.log2.toNat, posted := q.posted.drop 1, fetched := satAdd 32 q.fetched 1 }

/-- The tag of the descriptor at the head of a queue, with the stamp of the doorbell that covered it. -/
def State.headTag (t : Ns) (n : Fin 8) (d : Bytes) (data : Option Bytes) (s : State) : Tag :=
  { id := s.hif.nextId, sq := n, cls := s.hif.sqs[n].cls, desc := d, data := data, accepted := s.hif.sqs[n].posted.headD (s.begin t).now }

/-- The queue `n` has been served last in its class, and its head is taken with a tag. -/
def State.fetched (t : Ns) (n : Fin 8) (g : Tag) (s : State) : State :=
  ((s.begin t).updHif fun h => { h with lastServed := h.lastServed.set (Fin.ofNat 4 s.hif.sqs[n].cls.toNat) n }).updHif (Hif.accept n g)

theorem State.fetched_sqs (t : Ns) (n : Fin 8) (g : Tag) (s : State) :
    (s.fetched t n g).hif.sqs = (s.hif.updSq n Sq.taken).sqs := rfl

theorem State.fetched_tags (t : Ns) (n : Fin 8) (g : Tag) (s : State) : (s.fetched t n g).hif.tags = s.hif.tags ++ [g] := rfl

theorem exec_descriptorFetch_picked (t : Ns) {n : Fin 8} {d : Bytes} (data : Option Bytes) {s : State} (hlive : s.hifLive = true)
    (hpick : s.hif.pick = some n) (hlen : d.length = 64) : exec (.descriptorFetch t (some d) data) s =
      .next ((s.fetched t n (s.headTag t n d data)).admitFetched s.hif.nextId d data) := by
  have hfilter : (some d).filter (fun d => d.length == 64) = some d := by simp [hlen]
  rw [exec_descriptorFetch, execDescriptorFetch]
  simp only [State.begin_hifLive, hlive, if_true, State.begin_hif, hpick, hfilter]
  rfl

theorem descriptorFetch_takes (t : Ns) (n : Fin 8) (d : Bytes) (data : Option Bytes) (g : Tag) (s : State) (hlive : s.hifLive = true)
    (hpick : s.hif.pick = some n) (hlen : d.length = 64) (hg : g = s.headTag t n d data)
    (hadmits : (s.fetched t n g).admitDesc (.host s.hif.nextId) d data = none) : Completes (.descriptorFetch t (some d) data) s fun u =>
      u.hif.tags = s.hif.tags ++ [g] ∧ u.hif.nextId = s.hif.nextId + 1 ∧
      u.hif.sqs[n].head = (s.hif.sqs[n].head + 1) % 2 ^ s.hif.sqs[n].log2.toNat ∧
      u.hif.sqs[n].posted = s.hif.sqs[n].posted.drop 1 ∧ ∀ k : Fin 8, k ≠ n → u.hif.sqs[k] = s.hif.sqs[k] := by
  subst hg
  refine ⟨_, exec_descriptorFetch_picked t data hlive hpick hlen, ?_⟩
  unfold State.admitFetched
  rw [hadmits]
  dsimp only
  rw [State.fetched_sqs, Hif.updSq_same]
  exact ⟨rfl, rfl, rfl, rfl, fun k hk => Hif.updSq_ne hk Sq.taken s.hif⟩

/-- An opcode outside the table fails the first check. -/
theorem State.admitDesc_unknown {d : Bytes} (h : opTable.contains (descOp d) = false) (org : Origin) (data : Option Bytes) (s : State) :
    s.admitDesc org d data = some (.error stUnknownOpcode) := by
  have hformat : s.descFormat d = some (.error stUnknownOpcode) := by
    unfold State.descFormat
    dsimp only
    rw [if_pos (by rw [h]; rfl)]
  unfold State.admitDesc firstOf
  rw [hformat]
  rfl

/-- Only DONE can be late (R437). -/
theorem lateness_error (deadline : Option (BitVec 64)) (commit : Int) (st : BitVec 16) :
    lateness deadline commit (.error st) = .error st := by
  unfold lateness
  split
  · exact if_neg fun h => absurd h.1 (show ¬ dError = dDone by decide)
  · rfl

theorem descriptorFetch_unknown (t : Ns) (n : Fin 8) (d : Bytes) (data : Option Bytes) (s : State) (hlive : s.hifLive = true)
    (hpick : s.hif.pick = some n) (hlen : d.length = 64) (hop : opTable.contains (descOp d) = false)
    (_ : ∀ g ∈ s.hif.tags, g.id ≠ s.hif.nextId) : Completes (.descriptorFetch t (some d) data) s fun u =>
      (u.hif.tags.getLast?.map fun g => (g.id, g.outcome)) = some (s.hif.nextId, some (.error stUnknownOpcode, max s.clock t)) ∧
      u.hif.tags.length = s.hif.tags.length + 1 := by
  have hship : (descOp d == opShipTimeSet) = false :=
    beq_false_of_ne fun e => absurd (e ▸ hop) (by decide)
  have hclock : (s.fetched t n (s.headTag t n d data)).clock = max s.clock t := rfl
  refine ⟨_, exec_descriptorFetch_picked t data hlive hpick hlen, ?_⟩
  unfold State.admitFetched
  rw [State.admitDesc_unknown hop]
  simp only [State.refuseFetched, hship, Bool.false_and, Bool.false_eq_true, if_false, State.commitHost, State.updHif_hif,
    State.fetched_tags, lateness_error, ite_self, hclock]
  simp [State.headTag]

/-! ### DESCRIPTOR_START (R429, R436) -/

theorem descriptorStart_stamps (t : Ns) (id : Nat) (g : Tag) (s : State) (hup : s.up .hif = true)
    (hfind : s.hif.tags.find? (fun x => x.id = id) = some g) (hstarted : g.started = none) (houtcome : g.outcome = none)
    (hmay : s.hif.mayStart g = true) (hpolicy : s.hostPolicy (.host id) g.desc = none) (hstep : s.inStep = false)
    (htunnel : descTunnel g.desc = false) : Completes (.descriptorStart t id) s fun u =>
      u = { s.begin t with hif := s.hif.updTag id fun x => { x with started := some (s.begin t).now } } := by
  let a := (s.begin t).updHif fun h => h.updTag id fun x => { x with started := some (s.begin t).now }
  have hpolicy' : ((s.begin t).updHif fun h => h.updTag id fun x => { x with started := some (s.begin t).now }).hostPolicy
      (.host id) g.desc = none := hpolicy
  have hstep' : a.inStep = false := hstep
  have hstay : a.handOut g = a := by
    unfold State.handOut
    simp only [hstep', htunnel, Bool.false_and, Bool.false_eq_true, if_false]
  have hrun : exec (.descriptorStart t id) s = .next (a.handOut g) := by
    rw [exec_descriptorStart, execDescriptorStart]
    simp only [State.begin_hif, hfind, State.begin_up, hup, hstarted, houtcome, hmay, Option.isSome_none, Bool.not_true,
      Bool.or_self, Bool.false_eq_true, if_false, hpolicy']
    rfl
  exact ⟨_, hrun, hstay⟩

/-! ### COMPLETION_WRITE (R417, R418, R431, R432) -/

/-- The completion of a tag as it is written at the tail of a queue. -/
def State.completionFor (g : Tag) (o : Outcome) (cq : Fin 8) (s : State) : Emission :=
  .completion cq s.hif.cqs[cq].tail (completionBytes (BitVec.ofNat 32 (rd g.desc 4 4)) g.sq.val (g.waitUs s.now) s.hif.cqs[cq].phase
    (if o.writes then o else { o with result := [], needed := none }))

/-- A completion goes to its queue behind the result, moves the tail on and releases the tag. -/
theorem State.writeCompletion_spec (g : Tag) (o : Outcome) (cq : Fin 8) (s : State) :
    (s.writeCompletion g o cq).hif.tags = s.hif.tags.filter (fun x => x.id != g.id) ∧
    (s.writeCompletion g o cq).hif.cqs[cq].tail = (s.hif.cqs[cq].tail + 1) % s.hif.cqs[cq].size ∧
    s.completionFor g o cq ∈ (s.writeCompletion g o cq).out := by
  unfold State.writeCompletion
  extract_lets q wait cookie o' a b now clock c
  have ha : a.hif = s.hif := by
    unfold a
    split <;> rfl
  have hb : b.hif = s.hif := ha
  have hc : c.hif.cqs[cq] = Cq.push now clock s.hif.cqs[cq] := by
    rw [← hb]
    exact Hif.updCq_same cq _ _
  have htags : c.hif.tags = b.hif.tags.filter fun x => x.id != g.id := rfl
  obtain ⟨htail, hkept⟩ := State.signalCq_queue cq c
  rw [hkept, htail, htags, hb, hc]
  refine ⟨rfl, rfl, ?_⟩
  exact (c.signalCq_sends cq).out.subset (List.mem_append_right _ List.mem_cons_self)

theorem completionWrite_writes (t : Ns) (id : Nat) (g : Tag) (o : Outcome) (c : Ns) (s : State) (hlive : s.hifLive = true)
    (hfind : s.hif.tags.find? (fun x => x.id = id) = some g) (houtcome : g.outcome = some (o, c))
    (hroom : s.hif.cqs[s.hif.sqs[g.sq].cq].room = true) (horder : s.hif.earlierCommit s.hif.sqs[g.sq].cq c = false) :
    Completes (.completionWrite t id) s fun u =>
      (u.hif.tags.all fun x => x.id != id) = true ∧
      u.out.contains ((s.begin t).completionFor g o s.hif.sqs[g.sq].cq) = true ∧
      u.hif.cqs[s.hif.sqs[g.sq].cq].tail = (s.hif.cqs[s.hif.sqs[g.sq].cq].tail + 1) % s.hif.cqs[s.hif.sqs[g.sq].cq].size := by
  have hid : g.id = id := by simpa using List.find?_some hfind
  obtain ⟨htags, htail, hout⟩ := (s.begin t).writeCompletion_spec g o s.hif.sqs[g.sq].cq
  have hrun : exec (.completionWrite t id) s = .next ((s.begin t).writeCompletion g o s.hif.sqs[g.sq].cq) := by
    rw [exec_completionWrite, execCompletionWrite]
    simp only [State.begin_hif, hfind, houtcome, State.begin_hifLive, hlive, hroom, horder, Bool.not_true, Bool.or_self,
      Bool.false_eq_true, if_false]
  refine ⟨_, hrun, ?_, List.contains_iff_mem.mpr hout, htail⟩
  rw [htags, hid]
  exact List.all_eq_true.mpr fun x hx => (List.mem_filter.mp hx).2

/-! ### COALESCING_TIMEOUT (R423) -/

theorem coalescingTimeout_signals (t : Ns) (n : Fin 8) (s : State) (hlive : s.hifLive = true)
    (hdue : s.hif.cqs[n].coalDue (max s.clock t) = true) :
    Completes (.coalescingTimeout t ⟨n.val, Nat.lt_succ_of_lt n.isLt⟩) s fun u =>
      u.hif.cqs[n] = { s.hif.cqs[n] with unsignalled := 0, firstAt := none } ∧
      (s.hif.msix[s.hif.cqs[n].vector].masked = false → u.out = [.msix s.hif.cqs[n].vector]) ∧
      (s.hif.msix[s.hif.cqs[n].vector].masked = true → u.hif.msix[s.hif.cqs[n].vector].pending = true) ∧
      ∀ k : Fin 8, k ≠ n → u.hif.cqs[k] = s.hif.cqs[k] := by
  let a := (s.begin t).updHif (Hif.updCq n Cq.signalled)
  have hrun : exec (.coalescingTimeout t ⟨n.val, Nat.lt_succ_of_lt n.isLt⟩) s = .next (a.signal s.hif.cqs[n].vector) := by
    rw [exec_coalescingTimeout, execCoalescingTimeout]
    simp only [State.begin_hifLive, hlive, Bool.not_true, Bool.false_eq_true, if_false, n.isLt, dif_pos, State.begin_hif,
      State.begin_clock, hdue, if_true]
    rfl
  obtain ⟨hcqs, -⟩ := State.signal_queues s.hif.cqs[n].vector a
  refine ⟨_, hrun, ?_, fun hfree => ?_, fun hmasked => ?_, fun k hk => ?_⟩
  · rw [hcqs]
    exact Hif.updCq_same n Cq.signalled s.hif
  · have hfree' : ¬ a.hif.msix[s.hif.cqs[n].vector].masked = true := ne_true_of_eq_false hfree
    rw [State.signal, if_neg hfree']
    rfl
  · have hmasked' : a.hif.msix[s.hif.cqs[n].vector].masked = true := hmasked
    rw [State.signal, if_pos hmasked']
    simp [State.updHif]
  · rw [hcqs]
    exact Hif.updCq_ne hk Cq.signalled s.hif

/-! ### NOP and STATE_READ (R38, R236, R425, R442, R443) -/

theorem nop_completes (t : Ns) (org : Origin) (s : State) (hadmits : (s.begin t).Admits org opNop []) :
    Completes (.nop t org) s fun u => u = (s.begin t).complete org .done :=
  ⟨_, (exec_nop t org s).trans (serve_next hadmits rfl rfl), rfl⟩

theorem State.updLoop_same (i : Fin 64) (f : Loop → Loop) (s : State) : (s.updLoop i f).loops[i] = f s.loops[i] := by
  simp [State.updLoop]

theorem State.updLoop_ne {i k : Fin 64} (hk : k ≠ i) (f : Loop → Loop) (s : State) : (s.updLoop i f).loops[k] = s.loops[k] := by
  have hv : i.val ≠ k.val := fun e => hk (Fin.ext e.symm)
  simp [State.updLoop, hv]

/-- The object of a loop. -/
theorem State.mapObject_loop (lp : Fin 64) (whole : Bool) (offset : Nat) (key : BitVec 64) (s : State) :
    s.mapObject 0x20 lp.val whole offset key = some (s.loopObject lp) :=
  dif_pos lp.isLt

/-- What a read of a whole loop clears. -/
theorem State.mapClear_loop (lp : Fin 64) (s : State) : s.mapClear 0x20 lp.val 0 = s.updLoop lp Loop.flagsRead :=
  dif_pos lp.isLt

/-- A read of a whole loop that is admitted is answered at once, and the loop's flags are read. -/
theorem exec_stateRead_loop (t : Ns) {org : Origin} {p : Bytes} {s : State} (lp : Fin 64)
    (hadmits : (s.begin t).Admits org opStateRead [.svc, mapIsland (rd p 0 4 / 2 ^ 24 % 256)]) (hlen : p.length = 16)
    (hparam : stateParamOk p = true) (hcls : rd p 0 4 / 2 ^ 24 % 256 = 0x20) (hfield : rd p 0 4 % 4096 = 0)
    (hinst : rd p 0 4 / 2 ^ 12 % 4096 = lp.val) : ∃ result, exec (.stateRead t org p) s =
      .next ((((s.begin t).updLoop lp Loop.flagsRead).advance).complete org (.done result)) := by
  refine ⟨mapResult (rd p 0 4) (s.begin t).now (((s.begin t).loopObject lp).flatMap recordOfField), ?_⟩
  have hformat : badField (p.length != 16 || !stateParamOk p) = none := by
    rw [hlen, hparam]
    rfl
  rw [exec_stateRead, execStateRead]
  refine Eq.trans (serve_next hadmits hformat ?_) ?_
  · simp only [hcls, hinst, State.mapObject_loop, hfield]
    rfl
  · simp only [hcls, hinst, State.mapObject_loop, hfield, State.mapClear_loop]
    rfl

theorem stateRead_loop (t : Ns) (org : Origin) (p : Bytes) (s : State)
    (hadmits : (s.begin t).Admits org opStateRead [.svc, mapIsland (rd p 0 4 / 2 ^ 24 % 256)]) (hlen : p.length = 16)
    (hparam : stateParamOk p = true) (hcls : rd p 0 4 / 2 ^ 24 % 256 = 0x20) (hfield : rd p 0 4 % 4096 = 0)
    (hinst : rd p 0 4 / 2 ^ 12 % 4096 < 64) : Completes (.stateRead t org p) s fun u =>
      (∀ lp : Fin 64, u.loops[lp].cfg = s.loops[lp].cfg ∧ (lp.val ≠ rd p 0 4 / 2 ^ 12 % 4096 → u.loops[lp] = s.loops[lp]) ∧
        (lp.val = rd p 0 4 / 2 ^ 12 % 4096 → u.loops[lp].slipFlag = false)) ∧
      u.chans = s.chans ∧ u.groups = s.groups ∧ u.axes = s.axes := by
  let k : Fin 64 := ⟨rd p 0 4 / 2 ^ 12 % 4096, hinst⟩
  obtain ⟨result, hrun⟩ := exec_stateRead_loop t k hadmits hlen hparam hcls hfield rfl
  let a := (s.begin t).updLoop k Loop.flagsRead
  refine ⟨_, hrun, fun lp => ?_, State.complete_chans org _ a.advance,
    (State.complete_keep org (.done result) a.advance).same .groups (by decide), State.complete_axes a.advance org _⟩
  rw [State.complete_loops]
  change a.loops[lp].cfg = _ ∧ (_ → a.loops[lp] = _) ∧ (_ → a.loops[lp].slipFlag = false)
  by_cases hk : lp = k
  · subst hk
    rw [State.updLoop_same]
    exact ⟨rfl, fun h => absurd rfl h, fun _ => rfl⟩
  · rw [State.updLoop_ne hk]
    exact ⟨rfl, fun _ => rfl, fun h => absurd (Fin.ext h) hk⟩

/-! ### The obligation -/

/-- Settles O36: a descriptor from its fetch to its completion, and a read of a loop that clears one flag of that loop alone. -/
theorem descriptors : Obligations.Descriptors := by
  unfold Obligations.Descriptors
  exact ⟨descriptorFetch_takes, descriptorFetch_unknown, descriptorStart_stamps, completionWrite_writes, coalescingTimeout_signals,
    nop_completes, stateRead_loop⟩

end Sys2Proof.Machine
end
